-- ==== Sys2Proof/Word.lean ====
section
/-!
DEFINITION. The word types of the block and the shape of its register map: bytes, 32-bit words, sparse maps in one
canonical form, register fields and register rows.
-/
namespace Sys2Proof

/-- A byte (R4: every multi-byte datum of the spec is little-endian unless it says otherwise). -/
abbrev Byte := BitVec 8

/-- A register word and a Thoene word (R3, R256). -/
abbrev Word := BitVec 32

/-- A sparse map from a key to a value: keys strictly rising, no entry equal to what an unlisted key reads as. -/
abbrev SMap (α : Type) := List (Nat × α)

/-- A field of a register: the BAR0 byte offset of its word, its lowest bit and its width. -/
structure Fld where
  addr : Nat
  lo : Nat
  w : Nat
  deriving DecidableEq, Repr

/-- Access codes (R6). -/
inductive Acc where
  | ro | rw | wo | w1c
  deriving DecidableEq, Repr

/-- Register classes (R8): live, shadowed, held. -/
inductive Cls where
  | l | s | h
  deriving DecidableEq, Repr

/-- One field of a register row: lowest bit, width, access, class, reset value. -/
structure FldRow where
  lo : Nat
  w : Nat
  acc : Acc
  cls : Cls
  reset : Nat
  deriving DecidableEq, Repr

/-- One register of the map, repeated over up to two indices (R722). -/
structure RegRow where
  base : Nat
  s1 : Nat
  n1 : Nat
  s2 : Nat
  n2 : Nat
  fields : List FldRow
  deriving DecidableEq, Repr

end Sys2Proof
end

