-- ==== Sys2Proof/Syntax.lean ====
section
/-!
DEFINITION. The commands of the block: one constructor of `Instr` per row of spec/opcode_table.json, with the facts of
its event as operands. A command says WHAT happens; what it does is the machine's.
-/
namespace Sys2Proof

/-- Who makes a register access or an owner operation (R41, R721): the two functions, the management port, or a
Thoene core named by its origin ID (0x0300 + c, 0x0400 + s, 0x0440 for SQA). -/
inductive Req where
  | pf0 | pf1 | mp
  | core (origin : Nat)
  deriving DecidableEq, Repr

/-- What a flit slot may carry: its KIND, valid payload bytes (PLEN) and the payload, transmission order from the top (R14). -/
structure Payload where
  kind : Nat
  plen : Nat
  data : BitVec 1920
  deriving DecidableEq, Repr

/-- A flit of the Damoon link: 8-byte header, 240-byte payload, 8-byte CRC-64, first byte at the top (R13, R14). -/
abbrev Flit := BitVec 2048

/-- What an uncorrectable SRAM word belongs to (R637 and the chapters it names): nothing that suffers from it, a core's
memory, a pane, defect or table entry, the shadow entries of a commit (issuer, CSEQ), a device cell of the free list, a
partner queue (chain, position; 15 broadcast), an upstream queue, the event queue, a crossing FIFO (items discarded), a record in
a ring's hold buffer (ring, index), the record-store mirror, a calibration accumulator (its key), the cached waveform word of
a pixel (group, column, line, frame). -/
inductive SramUse where
  | other | event | mirror
  | core (o : Nat) (data : Bool)
  | pane (p : Nat)
  | defect (n : Nat)
  | table (g kind bank line : Nat)
  | commit (issuer cseq : Nat)
  | cell (c : Nat)
  | partner (c p : Nat)
  | upstream (g : Nat)
  | crossing (n : Nat)
  | hold (k i : Nat)
  | acc (key : Nat)
  | waveform (g x y frame : Nat)
  deriving DecidableEq, Repr

/-- What a start-up stage finds (R676 to R683): whether its hardware failed; the failing banks of its march with the rows and
columns each needs; the failed lanes of link lane groups (direction, lane group, mask); of the record store's scan, the copies
found invalid (SEQ, copy), the SEQs whose copies are valid and differ, how many entries of a torn dump stand, and whether any
byte of it was programmed; the offset of the raster-die copy from the master that the eight accepted samples of stage 6 leave. -/
structure StageReport where
  hw : Bool
  bad : List (Nat × Nat × Nat)
  lanes : List (Nat × Nat × Nat)
  badCopies : List (Nat × Nat)
  ties : List Nat
  dumpKept : Nat
  dumpSeen : Bool
  off : Int
  deriving DecidableEq, Repr

/-- A command of the block: one constructor per row of the opcode table. -/
inductive Instr where
  /-- REG_WRITE (R8). -/
  | regWrite (req : Req) (addr : Nat) (data : Word)
  /-- PORST_ASSERT (R745). -/
  | porstAssert
  /-- PORST_DEASSERT (R676). -/
  | porstDeassert
  /-- STAGE_COMPLETE (R676). -/
  | stageComplete (stage : Nat) (rep : StageReport)
  /-- STAGE_TIMEOUT (R679). -/
  | stageTimeout (stage : Nat)
  /-- PLL_RETRY (R679). -/
  | pllRetry (locked : Bool)
  /-- FLIT_RECEIVE (R16). -/
  | flitReceive (dir : Nat) (lg : Nat) (flit : Flit)
  /-- FLIT_SLOT (R21). -/
  | flitSlot (dir : Nat) (lg : Nat) (tc0 : Option Payload) (tc1 : Option Payload) (tc2 : List (Nat × Payload)) (tc3 : Option Payload) (cred : Nat) (crtc : Nat)
  /-- REPLAY_TIMEOUT (R16). -/
  | replayTimeout (dir : Nat) (lg : Nat)
  /-- LANE_GROUP_RETRAIN (R17). -/
  | laneGroupRetrain (dir : Nat) (lg : Nat)
  /-- RETRAIN_DONE (R17). -/
  | retrainDone (dir : Nat) (lg : Nat) (failed : Nat)
  /-- LINK_MGMT_FLIT (R18). -/
  | linkMgmtFlit (dir : Nat) (lg : Nat) (lastSeq : Nat)
  /-- CLOCK_SOURCE_LOSS (R31). -/
  | clockSourceLoss (src : Nat)
  /-- CLOCK_SOURCE_RETURN (R747). -/
  | clockSourceReturn (src : Nat)
  /-- TSYNC_SEND (R33). -/
  | tsyncSend
  /-- TSYNC_SAMPLE (R33). -/
  | tsyncSample (arrival : Nat) (rtt : Nat) (replayed : Bool)
  /-- TSYNC_HOLDOVER (R36). -/
  | tsyncHoldover
  /-- EVT_TIME_LO_READ (R37). -/
  | evtTimeLoRead (req : Req)
  /-- EVENT_MERGE_ARRIVAL (R45). -/
  | eventMergeArrival (k : Nat)
  /-- EVENT_RELEASE (R44). -/
  | eventRelease
  /-- GROUP_RUN (R54). -/
  | groupRun (req : Req) (g : Nat) (data : Word)
  /-- GROUP_STOP (R55). -/
  | groupStop (req : Req) (g : Nat) (data : Word)
  /-- GROUP_RESUME (R55). -/
  | groupResume (req : Req) (g : Nat) (data : Word)
  /-- GROUP_ENTER_STOPPED (R55). -/
  | groupEnterStopped (g : Nat)
  /-- LINE_START (R48). -/
  | lineStart (g : Nat)
  /-- SYNCOUT_PULSE_END (R73). -/
  | syncoutPulseEnd (g : Nat)
  /-- CUTOFF (R56). -/
  | cutoff (g : Nat)
  /-- LATCH (R57). -/
  | latch (g : Nat)
  /-- COMMIT_ARRIVAL (R56). -/
  | commitArrival
  /-- SYNCIN_EDGE (R69). -/
  | syncinEdge (pin : Nat) (level : Bool) (stamp : Nat)
  /-- TE_EDGE (R74). -/
  | teEdge (g : Nat) (level : Bool) (stamp : Nat)
  /-- TE_WAIT_BEGIN (R74). -/
  | teWaitBegin (g : Nat)
  /-- TE_TIMEOUT (R75). -/
  | teTimeout (g : Nat)
  /-- SLOT_START (R370). -/
  | slotStart (c : Nat) (slot : Nat)
  /-- TMG_FRAME_LO_READ (R89). -/
  | tmgFrameLoRead (req : Req) (g : Nat)
  /-- TMG_LATCH_LO_READ (R92). -/
  | tmgLatchLoRead (req : Req) (g : Nat)
  /-- SR_SLEEP_SET (R122). -/
  | srSleepSet (req : Req) (data : Word)
  /-- SR_SLEEP_CLEAR (R126). -/
  | srSleepClear (req : Req) (data : Word)
  /-- PIPE_SPAN (R140). -/
  | pipeSpan (g : Nat) (line : Nat) (span : Nat)
  /-- TABLE_LOAD (R146). -/
  | tableLoad (req : Req) (data : Word)
  /-- TABLE_READBACK (R145). -/
  | tableReadback (req : Req) (data : Word)
  /-- TLD_DONE (R148). -/
  | tldDone (rounds : Nat)
  /-- FST_READ_DONE (R193). -/
  | fstReadDone (addr : Nat) (err : Nat) (cls : Nat)
  /-- SCRUB_READ (R195). -/
  | scrubRead (refused : Bool) (err : Nat)
  /-- REFRESH_INTERVAL (R196). -/
  | refreshInterval (pc : Nat) (busy : Bool)
  /-- STACK_IDLE (R198). -/
  | stackIdle (stack : Nat)
  /-- STACK_EXIT_DONE (R199). -/
  | stackExitDone (stack : Nat)
  /-- STRUDEL_CONFIG_WRITE (R206). -/
  | strudelConfigWrite (req : Req) (addr : Nat) (data : Word)
  /-- CODEC_SUBMIT (R217). -/
  | codecSubmit (req : Req) (data : Word)
  /-- CODEC_ENCODE (R220). -/
  | codecEncode
  /-- CODEC_RELEASE (R221). -/
  | codecRelease
  /-- CODEC_BLOCK_DONE (R221). -/
  | codecBlockDone (e : Nat) (mismatch : Nat) (rounds : Nat)
  /-- CELL_RELEASE (R221). -/
  | cellRelease
  /-- ENCODER_RELEASE (R224). -/
  | encoderRelease (req : Req) (data : Word)
  /-- BLOCK_FETCH_DONE (R226). -/
  | blockFetchDone (p : Nat) (bx : Nat) (by_ : Nat)
  /-- TILE_FETCH_TIMEOUT (R226). -/
  | tileFetchTimeout (p : Nat) (bx : Nat) (by_ : Nat) (dec : Nat)
  /-- BLOCK_DECODE_DONE (R228). -/
  | blockDecodeDone (p : Nat) (bx : Nat) (by_ : Nat) (dec : Nat)
  /-- NOP (R258). -/
  | nop (core : Nat)
  /-- ADD (R260). -/
  | add (core : Nat)
  /-- SUB (R260). -/
  | sub (core : Nat)
  /-- AND (R260). -/
  | and (core : Nat)
  /-- OR (R260). -/
  | or (core : Nat)
  /-- XOR (R260). -/
  | xor (core : Nat)
  /-- SHL (R260). -/
  | shl (core : Nat)
  /-- SHR (R260). -/
  | shr (core : Nat)
  /-- SRA (R260). -/
  | sra (core : Nat)
  /-- MIN (R260). -/
  | min (core : Nat)
  /-- MAX (R260). -/
  | max (core : Nat)
  /-- MUL16 (R260). -/
  | mul16 (core : Nat)
  /-- CMP (R261). -/
  | cmp (core : Nat)
  /-- LDI (R260). -/
  | ldi (core : Nat)
  /-- LUI (R260). -/
  | lui (core : Nat)
  /-- L_FORM (R257). -/
  | lForm (core : Nat)
  /-- BEQ (R262). -/
  | beq (core : Nat)
  /-- BNE (R262). -/
  | bne (core : Nat)
  /-- BLT (R262). -/
  | blt (core : Nat)
  /-- BGE (R262). -/
  | bge (core : Nat)
  /-- J (R263). -/
  | j (core : Nat)
  /-- CALL (R263). -/
  | call (core : Nat)
  /-- RET (R263). -/
  | ret (core : Nat)
  /-- LD (R264). -/
  | ld (core : Nat)
  /-- ST (R264). -/
  | st (core : Nat)
  /-- LDX (R265). -/
  | ldx (core : Nat)
  /-- LDX_DONE (R282). -/
  | ldxDone (core : Nat)
  /-- STX (R265). -/
  | stx (core : Nat)
  /-- WAITL (R268). -/
  | waitl (core : Nat)
  /-- WAITL_DONE (R268). -/
  | waitlDone (core : Nat)
  /-- WAITC (R269). -/
  | waitc (core : Nat)
  /-- WAITC_DONE (R269). -/
  | waitcDone (core : Nat)
  /-- WAITE (R271). -/
  | waite (core : Nat)
  /-- WAITE_DONE (R272). -/
  | waiteDone (core : Nat)
  /-- WAITT (R270). -/
  | waitt (core : Nat)
  /-- WAITT_DONE (R270). -/
  | waittDone (core : Nat)
  /-- FENCE (R279). -/
  | fence (core : Nat)
  /-- FENCE_DONE (R279). -/
  | fenceDone (core : Nat)
  /-- EMIT (R274). -/
  | emit (core : Nat) (mism : Bool)
  /-- GSET (R276). -/
  | gset (core : Nat)
  /-- GCLR (R276). -/
  | gclr (core : Nat)
  /-- GPULSE (R276). -/
  | gpulse (core : Nat)
  /-- GTO_EDGE_PLACE (R277). -/
  | gtoEdgePlace (p : Nat)
  /-- TBEGIN (R278). -/
  | tbegin (core : Nat)
  /-- COMMIT (R324). -/
  | commit (core : Nat)
  /-- ABORT (R278). -/
  | abort (core : Nat)
  /-- LOCK (R328). -/
  | lock (core : Nat)
  /-- UNLOCK (R278). -/
  | unlock (core : Nat)
  /-- EVENT (R280). -/
  | event (core : Nat)
  /-- HALT (R281). -/
  | halt (core : Nat)
  /-- WATCHDOG_EXPIRY (R285). -/
  | watchdogExpiry (core : Nat)
  /-- PF_VECTOR (R286). -/
  | pfVector
  /-- CORE_RUN (R287). -/
  | coreRun (req : Req) (core : Nat) (data : Word)
  /-- CORE_STOP (R287). -/
  | coreStop (req : Req) (core : Nat) (data : Word)
  /-- MBOX_WRITE (R299). -/
  | mboxWrite (req : Req) (core : Nat) (data : Word)
  /-- CORE_MEM_WINDOW_WRITE (R303). -/
  | coreMemWindowWrite (req : Req) (addr : Nat) (data : Word)
  /-- DOORBELL (R307). -/
  | doorbell (req : Req) (q : Nat) (bar2 : Bool) (data : Word)
  /-- ENTRY_TAKE (R308). -/
  | entryTake (cp : Nat)
  /-- ENTRY_FETCH_DONE (R314). -/
  | entryFetchDone (cp : Nat) (host : Option (List Byte))
  /-- TRAILER_CHECK_DONE (R570). -/
  | trailerCheckDone
  /-- ENTRY_RELEASE (R571). -/
  | entryRelease (q : Nat)
  /-- QUEUE_RUN (R309). -/
  | queueRun (req : Req) (q : Nat) (data : Word)
  /-- QUEUE_STOP (R309). -/
  | queueStop (req : Req) (q : Nat) (data : Word)
  /-- CXL_Q_RESET (R310). -/
  | cxlQReset (req : Req) (q : Nat) (data : Word)
  /-- COMMIT_RESULT_REPORT (R329). -/
  | commitResultReport
  /-- MP_TBEGIN (R327). -/
  | mpTbegin (data : Word)
  /-- MP_COMMIT (R327). -/
  | mpCommit (data : Word)
  /-- MP_ABORT (R327). -/
  | mpAbort (data : Word)
  /-- MP_LOCK (R327). -/
  | mpLock (data : Word)
  /-- MP_UNLOCK (R327). -/
  | mpUnlock (data : Word)
  /-- MP_TARGET_RESET (R329). -/
  | mpTargetReset
  /-- LOCK_BREAK (R330). -/
  | lockBreak (req : Req) (data : Word)
  /-- LANE_ENABLE (R387). -/
  | laneEnable (req : Req) (l : Nat) (data : Word)
  /-- BLOCK_LOCK_GAINED (R388). -/
  | blockLockGained (l : Nat)
  /-- BLOCK_LOCK_LOST (R389). -/
  | blockLockLost (l : Nat)
  /-- INVALID_BLOCK (R356). -/
  | invalidBlock (l : Nat)
  /-- ALIGN_SEND (R360). -/
  | alignSend (bundle : Nat)
  /-- ALIGN_RETURN (R361). -/
  | alignReturn (c : Nat) (isLocal : Bool) (lat : Nat)
  /-- ENUM_SEND (R388). -/
  | enumSend (c : Nat)
  /-- ENUM_RETURN (R388). -/
  | enumReturn (c : Nat) (count : Nat) (ovf : Bool)
  /-- ACK_RECEIVE (R380). -/
  | ackReceive (c : Nat) (pid : Nat) (seq : Nat)
  /-- NAK_RECEIVE (R383). -/
  | nakReceive (c : Nat) (pid : Nat) (seq : Nat) (reason : Nat) (kind : Nat)
  /-- RDR_RECEIVE (R386). -/
  | rdrReceive (c : Nat) (pid : Nat) (seq : Nat) (words : List Nat) (mism : Bool)
  /-- SNS_RECEIVE (R386). -/
  | snsReceive (c : Nat) (pid : Nat) (seq : Nat) (words : List Nat) (mism : Bool)
  /-- RETRY_TIMEOUT (R383). -/
  | retryTimeout (c : Nat) (pos : Nat) (sp : Nat)
  /-- FREE_SLOT (R372). -/
  | freeSlot (c : Nat)
  /-- REENUMERATE (R389). -/
  | reenumerate (req : Req) (l : Nat) (data : Word)
  /-- QUEUE_FLUSH (R385). -/
  | queueFlush (req : Req) (l : Nat) (data : Word)
  /-- TX_SLEEP (R391). -/
  | txSleep (l : Nat)
  /-- TX_WAKE (R391). -/
  | txWake (l : Nat)
  /-- TX_WAKE_DONE (R391). -/
  | txWakeDone (l : Nat)
  /-- RX_SLEEP (R392). -/
  | rxSleep (l : Nat)
  /-- RX_WAKE (R392). -/
  | rxWake (l : Nat)
  /-- SPARE_AUTO_SWITCH (R396). -/
  | spareAutoSwitch (c : Nat)
  /-- TX_DRIVER_FAULT (R396). -/
  | txDriverFault (l : Nat) (low : Bool)
  /-- SPARE_FORCE (R396). -/
  | spareForce (req : Req) (k : Nat) (data : Word)
  /-- SPARE_RELEASE (R397). -/
  | spareRelease (req : Req) (k : Nat) (data : Word)
  /-- SPARE_SWITCH_TIMEOUT (R396). -/
  | spareSwitchTimeout (k : Nat)
  /-- FAILED_RETRY (R396). -/
  | failedRetry (c : Nat)
  /-- INJECT (R399). -/
  | inject (req : Req) (l : Nat) (data : Word)
  /-- INJECT_REPEAT (R399). -/
  | injectRepeat (l : Nat)
  /-- UPQ_DATA_READ (R419). -/
  | upqDataRead (req : Req) (g : Nat)
  /-- UPQ_POP (R420). -/
  | upqPop (req : Req) (g : Nat) (data : Word) (mism : Bool)
  /-- RAIL_POWER_UP (R440). -/
  | railPowerUp (req : Req) (g : Nat) (data : Word)
  /-- RAIL_POWER_DOWN (R441). -/
  | railPowerDown (req : Req) (g : Nat) (data : Word)
  /-- RAIL_ON_DELAY (R440). -/
  | railOnDelay (g : Nat)
  /-- RAIL_OFF_DELAY (R441). -/
  | railOffDelay (g : Nat)
  /-- RAILGOOD_EDGE (R442). -/
  | railgoodEdge (r : Nat) (level : Bool)
  /-- RAIL_TIMEOUT (R442). -/
  | railTimeout (r : Nat)
  /-- RAIL_FORCE_ON (R443). -/
  | railForceOn (req : Req) (data : Word)
  /-- RAIL_FORCE_OFF (R443). -/
  | railForceOff (req : Req) (data : Word)
  /-- RAIL_FORCE_RELEASE (R443). -/
  | railForceRelease (req : Req) (data : Word)
  /-- PF_TRIP (R444). -/
  | pfTrip (pinLow : Bool) (vinLow : Bool)
  /-- PF_DISCHARGE (R445). -/
  | pfDischarge
  /-- TRIPPED_CLEAR (R447). -/
  | trippedClear (req : Req) (data : Word) (pinLow : Bool) (vinLow : Bool)
  /-- PANEL_TEMP_POLL (R439). -/
  | panelTempPoll (g : Nat)
  /-- PANEL_TEMP_READ_DONE (R439). -/
  | panelTempReadDone (g : Nat) (ok : Bool) (raw : Nat)
  /-- BIS_REQUEST (R448). -/
  | bisRequest (req : Req) (g : Nat) (data : Word)
  /-- BIS_BLOCK_FETCH_DONE (R449). -/
  | bisBlockFetchDone (g : Nat) (mode : Nat) (band : Nat) (err : Bool)
  /-- JOURNAL_SCAN (R457). -/
  | journalScan (req : Req) (data : Word)
  /-- BONBON_ENTER (R459). -/
  | bonbonEnter (req : Req) (data : Word)
  /-- BONBON_SEND (R460). -/
  | bonbonSend (req : Req) (data : Word)
  /-- BONBON_EXIT (R461). -/
  | bonbonExit (req : Req) (data : Word)
  /-- CAL_PERIOD (R488). -/
  | calPeriod (cls : Nat)
  /-- CAL_GO (R488). -/
  | calGo (req : Req) (data : Word)
  /-- CAL_APPLY (R489). -/
  | calApply (item : Nat) (a : Nat) (b : Nat) (err : Bool)
  /-- CAL_RUN_TIMEOUT (R490). -/
  | calRunTimeout (item : Nat)
  /-- CAL_VAL_WRITE (R491). -/
  | calValWrite (req : Req) (item : Nat) (data : Word)
  /-- CAL_SAVE (R492). -/
  | calSave (req : Req) (data : Word)
  /-- CAL_LOAD (R493). -/
  | calLoad (req : Req) (data : Word)
  /-- CAL_TS_LO_READ (R506). -/
  | calTsLoRead (req : Req) (item : Nat)
  /-- TEMP_SENSOR_UPDATE (R512). -/
  | tempSensorUpdate (n : Nat) (raw : Nat)
  /-- RAIL_MONITOR_UPDATE (R513). -/
  | railMonitorUpdate (n : Nat) (raw : Nat)
  /-- FOLD_ENABLE (R497). -/
  | foldEnable (req : Req) (g : Nat) (data : Word)
  /-- FOLD_DISABLE (R502). -/
  | foldDisable (req : Req) (g : Nat) (data : Word)
  /-- FOLD_WRITES_DONE (R500). -/
  | foldWritesDone (g : Nat)
  /-- FOLD_REPLAY_DONE (R500). -/
  | foldReplayDone (g : Nat)
  /-- FOLD_RETRY (R501). -/
  | foldRetry (g : Nat)
  /-- HOST_HOT_RESET (R542). -/
  | hostHotReset
  /-- PERST_ASSERT (R542). -/
  | perstAssert
  /-- LINK_LOSS (R542). -/
  | linkLoss
  /-- LINK_UP (R545). -/
  | linkUp (rate : Nat) (width : Nat) (cxl : Bool) (lopt : Bool)
  /-- FLR (R541). -/
  | flr (func : Nat)
  /-- CXL_RESET (R541). -/
  | cxlReset
  /-- CXL_CACHE_AVAILABLE (R534). -/
  | cxlCacheAvailable
  /-- CXL_CACHE_UNAVAILABLE (R534). -/
  | cxlCacheUnavailable
  /-- HDM_COMMIT (R530). -/
  | hdmCommit (base : Nat) (size : Nat) (memEnable : Bool)
  /-- CXLMEM_READ (R531). -/
  | cxlmemRead (hpa : Nat) (cache : Bool)
  /-- CXLMEM_WRITE (R531). -/
  | cxlmemWrite (hpa : Nat) (bytes : List Byte) (mask : Nat) (wb : Bool)
  /-- BI_RESPONSE (R532). -/
  | biResponse (line : Nat)
  /-- BI_TIMEOUT (R532). -/
  | biTimeout (line : Nat)
  /-- CACHE_READ_DONE (R533). -/
  | cacheReadDone (line : Nat) (bytes : List Byte) (failed : Bool) (p : Option Nat)
  /-- CACHE_READ_TIMEOUT (R533). -/
  | cacheReadTimeout (line : Nat)
  /-- CDAT_READ (R527). -/
  | cdatRead
  /-- IDENTIFY_MEMORY_DEVICE (R528). -/
  | identifyMemoryDevice
  /-- GET_SUPPORTED_LOGS (R528). -/
  | getSupportedLogs
  /-- GET_LOG (R528). -/
  | getLog (log : Nat) (n : Nat)
  /-- GET_EVENT_RECORDS (R528). -/
  | getEventRecords (log : Nat)
  /-- CLEAR_EVENT_RECORDS (R528). -/
  | clearEventRecords (log : Nat) (n : Nat)
  /-- GET_EVENT_INTERRUPT_POLICY (R528). -/
  | getEventInterruptPolicy
  /-- SET_EVENT_INTERRUPT_POLICY (R528). -/
  | setEventInterruptPolicy (policy : Nat)
  /-- GET_HEALTH_INFO (R528). -/
  | getHealthInfo
  /-- GET_POISON_LIST (R528). -/
  | getPoisonList
  /-- MAILBOX_UNSUPPORTED (R528). -/
  | mailboxUnsupported (opcode : Nat)
  /-- GET_VERSION (R563). -/
  | getVersion
  /-- GET_CAPABILITIES (R563). -/
  | getCapabilities
  /-- NEGOTIATE_ALGORITHMS (R561). -/
  | negotiateAlgorithms (offered : List Nat)
  /-- GET_DIGESTS (R563). -/
  | getDigests
  /-- GET_CERTIFICATE (R560). -/
  | getCertificate (slot : Nat) (ofs : Nat) (n : Nat)
  /-- CHALLENGE (R563). -/
  | challenge (nonce : List Byte)
  /-- GET_MEASUREMENTS (R562). -/
  | getMeasurements (sign : Bool) (nonce : List Byte)
  /-- KEY_EXCHANGE (R561). -/
  | keyExchange (transport : Nat) (authority : Nat)
  /-- HEARTBEAT (R561). -/
  | heartbeat (session : Nat)
  /-- VENDOR_DEFINED_REQUEST (R574). -/
  | vendorDefinedRequest (session : Nat) (blob : List Byte)
  /-- EVR_HEAD_WRITE (R538). -/
  | evrHeadWrite (req : Req) (k : Nat) (data : Word)
  /-- EVR_ENABLE (R535). -/
  | evrEnable (req : Req) (k : Nat) (data : Word)
  /-- MSIX_TIMER (R539). -/
  | msixTimer (k : Nat)
  /-- MSIX_UNMASK (R539). -/
  | msixUnmask (func : Nat) (vec : Nat)
  /-- KEY_LOAD_BLOB (R575). -/
  | keyLoadBlob (req : Req) (data : Word)
  /-- LC_REQUEST (R578). -/
  | lcRequest (req : Req) (data : Word)
  /-- DEBUG_UNLOCK (R579). -/
  | debugUnlock (req : Req) (data : Word)
  /-- TAMPER (R580). -/
  | tamper
  /-- SEC_SLOT_CTR_LO_READ (R591). -/
  | secSlotCtrLoRead (req : Req) (n : Nat)
  /-- RECORD_WINDOW_WRITE (R595). -/
  | recordWindowWrite (req : Req) (ofs : Nat) (data : Word)
  /-- RECORD_JOB (R622). -/
  | recordJob (req : Req) (data : Word)
  /-- RECORD_ACCEPT (R597). -/
  | recordAccept
  /-- FLUSH_PROGRAM_DONE (R601). -/
  | flushProgramDone
  /-- SECTOR_ERASE_DONE (R603). -/
  | sectorEraseDone (sec : Nat)
  /-- DUMP_COPY_DONE (R605). -/
  | dumpCopyDone
  /-- COUNTER_INCREMENT (R609). -/
  | counterIncrement (req : Req) (data : Word)
  /-- NVS_CNT_LO_READ (R629). -/
  | nvsCntLoRead (req : Req) (n : Nat)
  /-- NVS_ERASE (R613). -/
  | nvsErase (req : Req) (data : Word)
  /-- NVS_PROGRAM (R613). -/
  | nvsProgram (req : Req) (data : Word)
  /-- NVS_READ_SLOT (R613). -/
  | nvsReadSlot (req : Req) (data : Word)
  /-- NVS_READ_LOG (R613). -/
  | nvsReadLog (req : Req) (data : Word)
  /-- XFER_UNIT_DONE (R613). -/
  | xferUnitDone (deferred : Bool) (misread : Bool)
  /-- IMAGE_ACTIVATE (R686). -/
  | imageActivate (req : Req) (data : Word)
  /-- CP_QUIESCENT (R689). -/
  | cpQuiescent (cp : Nat)
  /-- CP_SWAP (R689). -/
  | cpSwap (cp : Nat)
  /-- ACTIVATION_TIMEOUT (R689). -/
  | activationTimeout
  /-- BANK_POWER_REQUEST (R634). -/
  | bankPowerRequest (req : Req) (b : Nat) (data : Word)
  /-- BANK_RETENTION_IDLE (R634). -/
  | bankRetentionIdle (b : Nat)
  /-- BANK_INIT_DONE (R635). -/
  | bankInitDone (b : Nat)
  /-- SRAM_READ (R636). -/
  | sramRead (b : Nat) (word : Nat) (err : Nat) (use : SramUse)
  /-- MARCH_START (R639). -/
  | marchStart (req : Req) (data : Word)
  /-- MARCH_ABORT (R663). -/
  | marchAbort (req : Req) (data : Word)
  /-- MARCH_DONE (R641). -/
  | marchDone (bad : List (Nat × Nat × Nat))
  /-- ARB_ROUND (R647). -/
  | arbRound (arb : Nat) (reqs : List (Nat × Nat × Bool)) (scan : List Nat)
  /-- ARB_APPLY (R651). -/
  | arbApply (req : Req) (data : Word)
  /-- ARB_APPLY_RASTER (R651). -/
  | arbApplyRaster
  /-- REQUESTER_MASK (R652). -/
  | requesterMask (n : Nat) (withdrawn : Nat)
  /-- COPY_START (R657). -/
  | copyStart (req : Req) (data : Word)
  /-- COPY_DONE (R657). -/
  | copyDone (rounds : Nat) (reason : Nat) (bytes : Nat)
  /-- H2D_SNOOP (R533). -/
  | h2dSnoop (line : Nat)
  /-- PERST_DEASSERT (R542). -/
  | perstDeassert
  /-- UNCLAIMED_PACKET (R373). -/
  | unclaimedPacket (c : Nat) (bcast : Bool)
  /-- UPSTREAM_BAD_CRC (R383). -/
  | upstreamBadCrc (c : Nat)
  /-- RESERVED_OPCODE (R258). -/
  | reservedOpcode (core : Nat)
  /-- LOCK_TXN_REPLY (R282). -/
  | lockTxnReply (core : Nat)
  /-- REQUESTER_UNMASK (R652). -/
  | requesterUnmask (n : Nat)
  /-- L1_ENTRY (R545). -/
  | l1Entry
  /-- L1_EXIT (R545). -/
  | l1Exit
  /-- IDE_KM (R522). -/
  | ideKm (session : Nat) (stream : Nat) (active : Bool)
  /-- D3HOT (R526). -/
  | d3hot (func : Nat) (on : Bool)
  deriving DecidableEq, Repr

end Sys2Proof
end

