-- ==== Sys2Proof/Decode.lean ====
section
/-!
DEFINITION. The commands that words spell. The operation table of the spec gives no row any bits (spec/opcode_table.json), so
no word spells a command. The words of the Thoene cores, which the block's own state holds, are taken apart in
Machine/Operands.lean.
-/
namespace Sys2Proof

/-- The command of a word of `nbits` bits, by the bits of the table: none, for it gives none. -/
def decodeTableWord (_nbits _w : Nat) : Option Instr := none

end Sys2Proof
end

