-- ==== Sys2Proof/Machine/RegDefs.lean ====
section
/-!
DEFINITION. The register map of the block: every register of the spec's field tables, as named fields
(`f<REGISTER>_<FIELD>`, one per named field, a function of the register's indices) and as rows
(`reg<REGISTER>`: base offset, strides and counts, fields with access code, write class and reset value).
Each row cites the rule and file of spec/ it is written from. A bit no row gives is reserved.
-/
namespace Sys2Proof.Machine

/-- GEN_ID (R725, 17_register_map.md). -/
def regGEN_ID : RegRow := ⟨0x00000000, 0x0, 1, 0x0, 1, [
    ⟨0, 16, .ro, .l, 8062⟩,
    ⟨16, 16, .ro, .l, 38976⟩]⟩
def fGEN_ID_VENDOR : Fld := ⟨0x00000000, 0, 16⟩
def fGEN_ID_DEVICE : Fld := ⟨0x00000000, 16, 16⟩

/-- GEN_REV (R726, 17_register_map.md). -/
def regGEN_REV : RegRow := ⟨0x00000004, 0x0, 1, 0x0, 1, [
    ⟨0, 8, .ro, .l, 176⟩,
    ⟨8, 4, .ro, .l, 0⟩,
    ⟨12, 4, .ro, .l, 11⟩]⟩
def fGEN_REV_REVID : Fld := ⟨0x00000004, 0, 8⟩
def fGEN_REV_MINOR : Fld := ⟨0x00000004, 8, 4⟩
def fGEN_REV_MAJOR : Fld := ⟨0x00000004, 12, 4⟩

/-- GEN_CAPS0 (R727, 17_register_map.md). -/
def regGEN_CAPS0 : RegRow := ⟨0x00000008, 0x0, 1, 0x0, 1, [
    ⟨0, 9, .ro, .l, 256⟩,
    ⟨16, 8, .ro, .l, 16⟩,
    ⟨24, 8, .ro, .l, 16⟩]⟩
def fGEN_CAPS0_CHAINS : Fld := ⟨0x00000008, 0, 9⟩
def fGEN_CAPS0_SPARES : Fld := ⟨0x00000008, 16, 8⟩
def fGEN_CAPS0_GROUPS : Fld := ⟨0x00000008, 24, 8⟩

/-- GEN_CAPS1 (R728, 17_register_map.md). -/
def regGEN_CAPS1 : RegRow := ⟨0x0000000C, 0x0, 1, 0x0, 1, [
    ⟨0, 4, .ro, .l, 8⟩,
    ⟨8, 8, .ro, .l, 64⟩,
    ⟨16, 16, .ro, .l, 10240⟩]⟩
def fGEN_CAPS1_CPS : Fld := ⟨0x0000000C, 0, 4⟩
def fGEN_CAPS1_SEQS : Fld := ⟨0x0000000C, 8, 8⟩
def fGEN_CAPS1_PANES : Fld := ⟨0x0000000C, 16, 16⟩

/-- GEN_CAPS2 (R729, 17_register_map.md). -/
def regGEN_CAPS2 : RegRow := ⟨0x00000010, 0x0, 1, 0x0, 1, [
    ⟨0, 10, .ro, .l, 512⟩,
    ⟨16, 8, .ro, .l, 48⟩,
    ⟨24, 8, .ro, .l, 16⟩]⟩
def fGEN_CAPS2_QUEUES : Fld := ⟨0x00000010, 0, 10⟩
def fGEN_CAPS2_FS_GB : Fld := ⟨0x00000010, 16, 8⟩
def fGEN_CAPS2_DEF_LOG2 : Fld := ⟨0x00000010, 24, 8⟩

/-- GEN_ROMVER (R730, 17_register_map.md). -/
def regGEN_ROMVER : RegRow := ⟨0x00000014, 0x0, 1, 0x0, 1, [
    ⟨0, 32, .ro, .l, 0⟩]⟩
def fGEN_ROMVER_ROMVER : Fld := ⟨0x00000014, 0, 32⟩

/-- GEN_SLOTVER (R731, 17_register_map.md). -/
def regGEN_SLOTVER : RegRow := ⟨0x00000018, 0x0, 1, 0x0, 1, [
    ⟨0, 32, .ro, .l, 0⟩]⟩
def fGEN_SLOTVER_SLOTVER : Fld := ⟨0x00000018, 0, 32⟩

/-- GEN_SCRATCH (R732, 17_register_map.md). -/
def regGEN_SCRATCH : RegRow := ⟨0x00000020, 0x4, 4, 0x0, 1, [
    ⟨0, 32, .rw, .l, 0⟩]⟩
def fGEN_SCRATCH_DATA (i : Nat) : Fld := ⟨0x00000020 + 0x4 * i, 0, 32⟩

/-- GEN_CTRL (R733, 17_register_map.md). -/
def regGEN_CTRL : RegRow := ⟨0x00000040, 0x0, 1, 0x0, 1, [
    ⟨0, 1, .rw, .l, 1⟩]⟩
def fGEN_CTRL_PF1_WEN : Fld := ⟨0x00000040, 0, 1⟩

/-- GEN_STATUS (R734, 17_register_map.md). -/
def regGEN_STATUS : RegRow := ⟨0x00000044, 0x0, 1, 0x0, 1, [
    ⟨0, 1, .w1c, .l, 0⟩,
    ⟨25, 1, .ro, .l, 0⟩,
    ⟨26, 1, .ro, .l, 0⟩,
    ⟨27, 1, .ro, .l, 0⟩,
    ⟨28, 1, .ro, .l, 0⟩,
    ⟨29, 1, .ro, .l, 0⟩,
    ⟨30, 1, .ro, .l, 0⟩,
    ⟨31, 1, .ro, .l, 0⟩]⟩
def fGEN_STATUS_DENIED : Fld := ⟨0x00000044, 0, 1⟩
def fGEN_STATUS_TRIPPED : Fld := ⟨0x00000044, 25, 1⟩
def fGEN_STATUS_TERMINAL : Fld := ⟨0x00000044, 26, 1⟩
def fGEN_STATUS_DEGRADED : Fld := ⟨0x00000044, 27, 1⟩
def fGEN_STATUS_SR_ACTIVE : Fld := ⟨0x00000044, 28, 1⟩
def fGEN_STATUS_TIME_VALID : Fld := ⟨0x00000044, 29, 1⟩
def fGEN_STATUS_NVS_READY : Fld := ⟨0x00000044, 30, 1⟩
def fGEN_STATUS_BOOT_DONE : Fld := ⟨0x00000044, 31, 1⟩

/-- GEN_BLKRDY (R735, 17_register_map.md). -/
def regGEN_BLKRDY : RegRow := ⟨0x00000048, 0x0, 1, 0x0, 1, [
    ⟨0, 24, .ro, .l, 0⟩]⟩
def fGEN_BLKRDY_RDY : Fld := ⟨0x00000048, 0, 24⟩

/-- CLK_LOCK (R31, 01_architecture.md). -/
def regCLK_LOCK : RegRow := ⟨0x00100010, 0x0, 1, 0x0, 1, [
    ⟨0, 13, .ro, .l, 0⟩,
    ⟨16, 13, .w1c, .l, 0⟩]⟩
def fCLK_LOCK_LOCK : Fld := ⟨0x00100010, 0, 13⟩
def fCLK_LOCK_LOSS : Fld := ⟨0x00100010, 16, 13⟩

/-- CLK_BOOT (R692, 15_startup_live_update.md). -/
def regCLK_BOOT : RegRow := ⟨0x00100020, 0x0, 1, 0x0, 1, [
    ⟨0, 6, .ro, .l, 0⟩,
    ⟨8, 4, .ro, .l, 0⟩,
    ⟨12, 4, .ro, .l, 0⟩,
    ⟨16, 8, .ro, .l, 0⟩,
    ⟨27, 1, .ro, .l, 0⟩,
    ⟨28, 1, .ro, .l, 0⟩,
    ⟨29, 1, .ro, .l, 0⟩,
    ⟨30, 1, .ro, .l, 0⟩,
    ⟨31, 1, .ro, .l, 0⟩]⟩
def fCLK_BOOT_FIMG : Fld := ⟨0x00100020, 0, 6⟩
def fCLK_BOOT_FCODE : Fld := ⟨0x00100020, 8, 4⟩
def fCLK_BOOT_FSTAGE : Fld := ⟨0x00100020, 12, 4⟩
def fCLK_BOOT_STAGES : Fld := ⟨0x00100020, 16, 8⟩
def fCLK_BOOT_BONBON : Fld := ⟨0x00100020, 27, 1⟩
def fCLK_BOOT_SLOT : Fld := ⟨0x00100020, 28, 1⟩
def fCLK_BOOT_FALLBACK : Fld := ⟨0x00100020, 29, 1⟩
def fCLK_BOOT_RECOVERY : Fld := ⟨0x00100020, 30, 1⟩
def fCLK_BOOT_DONE : Fld := ⟨0x00100020, 31, 1⟩

/-- CXL_LINK_STATUS (R545, 11_cxl_host_interface.md). -/
def regCXL_LINK_STATUS : RegRow := ⟨0x00200000, 0x0, 1, 0x0, 1, [
    ⟨0, 3, .ro, .l, 0⟩,
    ⟨16, 5, .ro, .l, 0⟩,
    ⟨24, 1, .ro, .l, 0⟩,
    ⟨25, 1, .ro, .l, 0⟩,
    ⟨26, 1, .ro, .l, 0⟩,
    ⟨27, 1, .ro, .l, 0⟩,
    ⟨28, 1, .ro, .l, 0⟩,
    ⟨29, 1, .ro, .l, 0⟩,
    ⟨30, 1, .ro, .l, 0⟩,
    ⟨31, 1, .ro, .l, 0⟩]⟩
def fCXL_LINK_STATUS_RATE : Fld := ⟨0x00200000, 0, 3⟩
def fCXL_LINK_STATUS_WIDTH : Fld := ⟨0x00200000, 16, 5⟩
def fCXL_LINK_STATUS_IDE_CM : Fld := ⟨0x00200000, 24, 1⟩
def fCXL_LINK_STATUS_IDE_IO : Fld := ⟨0x00200000, 25, 1⟩
def fCXL_LINK_STATUS_L1 : Fld := ⟨0x00200000, 26, 1⟩
def fCXL_LINK_STATUS_LOPT : Fld := ⟨0x00200000, 27, 1⟩
def fCXL_LINK_STATUS_MEM : Fld := ⟨0x00200000, 28, 1⟩
def fCXL_LINK_STATUS_CACHE : Fld := ⟨0x00200000, 29, 1⟩
def fCXL_LINK_STATUS_CXL : Fld := ⟨0x00200000, 30, 1⟩
def fCXL_LINK_STATUS_UP : Fld := ⟨0x00200000, 31, 1⟩

/-- CXL_HOST_CNT (R546, 11_cxl_host_interface.md). -/
def regCXL_HOST_CNT : RegRow := ⟨0x00200004, 0x0, 1, 0x0, 1, [
    ⟨0, 8, .rw, .l, 0⟩,
    ⟨8, 8, .rw, .l, 0⟩,
    ⟨16, 8, .rw, .l, 0⟩,
    ⟨24, 8, .rw, .l, 0⟩]⟩
def fCXL_HOST_CNT_FLR : Fld := ⟨0x00200004, 0, 8⟩
def fCXL_HOST_CNT_CACHELOSS : Fld := ⟨0x00200004, 8, 8⟩
def fCXL_HOST_CNT_LINKLOSS : Fld := ⟨0x00200004, 16, 8⟩
def fCXL_HOST_CNT_HOTRST : Fld := ⟨0x00200004, 24, 8⟩

/-- CXL_BI (R547, 11_cxl_host_interface.md). -/
def regCXL_BI : RegRow := ⟨0x00200010, 0x0, 1, 0x0, 1, [
    ⟨0, 16, .rw, .l, 1600⟩,
    ⟨16, 16, .ro, .l, 0⟩]⟩
def fCXL_BI_RT_TMO : Fld := ⟨0x00200010, 0, 16⟩
def fCXL_BI_SF_USED : Fld := ⟨0x00200010, 16, 16⟩

/-- CXL_BI_LATE (R548, 11_cxl_host_interface.md). -/
def regCXL_BI_LATE : RegRow := ⟨0x00200014, 0x0, 1, 0x0, 1, [
    ⟨0, 32, .rw, .l, 0⟩]⟩
def fCXL_BI_LATE_COUNT : Fld := ⟨0x00200014, 0, 32⟩

/-- CXL_Q_BASE_LO (R335, 07_queues_transactions_locks.md). -/
def regCXL_Q_BASE_LO : RegRow := ⟨0x00300000, 0x20, 512, 0x0, 1, [
    ⟨6, 26, .rw, .h, 0⟩]⟩
def fCXL_Q_BASE_LO_BASE_LO (i : Nat) : Fld := ⟨0x00300000 + 0x20 * i, 6, 26⟩

/-- CXL_Q_BASE_HI (R336, 07_queues_transactions_locks.md). -/
def regCXL_Q_BASE_HI : RegRow := ⟨0x00300004, 0x20, 512, 0x0, 1, [
    ⟨0, 32, .rw, .h, 0⟩]⟩
def fCXL_Q_BASE_HI_BASE_HI (i : Nat) : Fld := ⟨0x00300004 + 0x20 * i, 0, 32⟩

/-- CXL_Q_CFG (R337, 07_queues_transactions_locks.md). -/
def regCXL_Q_CFG : RegRow := ⟨0x00300008, 0x20, 512, 0x0, 1, [
    ⟨0, 4, .rw, .h, 4⟩,
    ⟨27, 3, .rw, .h, 0⟩,
    ⟨30, 1, .rw, .h, 1⟩,
    ⟨31, 1, .rw, .h, 0⟩]⟩
def fCXL_Q_CFG_LOG2N (i : Nat) : Fld := ⟨0x00300008 + 0x20 * i, 0, 4⟩
def fCXL_Q_CFG_CP (i : Nat) : Fld := ⟨0x00300008 + 0x20 * i, 27, 3⟩
def fCXL_Q_CFG_HOSTBOUND (i : Nat) : Fld := ⟨0x00300008 + 0x20 * i, 30, 1⟩
def fCXL_Q_CFG_SPACE (i : Nat) : Fld := ⟨0x00300008 + 0x20 * i, 31, 1⟩

/-- CXL_Q_CTRL (R338, 07_queues_transactions_locks.md). -/
def regCXL_Q_CTRL : RegRow := ⟨0x0030000C, 0x20, 512, 0x0, 1, [
    ⟨0, 1, .rw, .l, 0⟩,
    ⟨1, 1, .wo, .l, 0⟩]⟩
def fCXL_Q_CTRL_RUN (i : Nat) : Fld := ⟨0x0030000C + 0x20 * i, 0, 1⟩
def fCXL_Q_CTRL_RESET (i : Nat) : Fld := ⟨0x0030000C + 0x20 * i, 1, 1⟩

/-- CXL_Q_PTR (R339, 07_queues_transactions_locks.md). -/
def regCXL_Q_PTR : RegRow := ⟨0x00300010, 0x20, 512, 0x0, 1, [
    ⟨0, 16, .rw, .l, 0⟩,
    ⟨16, 16, .ro, .l, 0⟩]⟩
def fCXL_Q_PTR_TAIL (i : Nat) : Fld := ⟨0x00300010 + 0x20 * i, 0, 16⟩
def fCXL_Q_PTR_HEAD (i : Nat) : Fld := ⟨0x00300010 + 0x20 * i, 16, 16⟩

/-- CXL_Q_STATUS (R340, 07_queues_transactions_locks.md). -/
def regCXL_Q_STATUS : RegRow := ⟨0x00300014, 0x20, 512, 0x0, 1, [
    ⟨0, 16, .ro, .l, 0⟩,
    ⟨16, 8, .ro, .l, 0⟩,
    ⟨24, 4, .ro, .l, 0⟩,
    ⟨28, 1, .ro, .l, 0⟩,
    ⟨29, 3, .ro, .l, 0⟩]⟩
def fCXL_Q_STATUS_LAST_TAG (i : Nat) : Fld := ⟨0x00300014 + 0x20 * i, 0, 16⟩
def fCXL_Q_STATUS_DETAIL (i : Nat) : Fld := ⟨0x00300014 + 0x20 * i, 16, 8⟩
def fCXL_Q_STATUS_LAST_ST (i : Nat) : Fld := ⟨0x00300014 + 0x20 * i, 24, 4⟩
def fCXL_Q_STATUS_TXN_OPEN (i : Nat) : Fld := ⟨0x00300014 + 0x20 * i, 28, 1⟩
def fCXL_Q_STATUS_STATE (i : Nat) : Fld := ⟨0x00300014 + 0x20 * i, 29, 3⟩

/-- CXL_Q_VEC (R549, 11_cxl_host_interface.md). -/
def regCXL_Q_VEC : RegRow := ⟨0x00300018, 0x20, 512, 0x0, 1, [
    ⟨0, 11, .rw, .l, 0⟩,
    ⟨30, 1, .rw, .l, 1⟩,
    ⟨31, 1, .rw, .l, 0⟩]⟩
def fCXL_Q_VEC_VEC (i : Nat) : Fld := ⟨0x00300018 + 0x20 * i, 0, 11⟩
def fCXL_Q_VEC_FUNC (i : Nat) : Fld := ⟨0x00300018 + 0x20 * i, 30, 1⟩
def fCXL_Q_VEC_EN (i : Nat) : Fld := ⟨0x00300018 + 0x20 * i, 31, 1⟩

/-- CPR_CTRL (R304, 06_thoene_isa.md). -/
def regCPR_CTRL : RegRow := ⟨0x00400000, 0x100, 8, 0x0, 1, [
    ⟨0, 1, .wo, .l, 0⟩,
    ⟨1, 1, .wo, .l, 0⟩,
    ⟨16, 16, .rw, .l, 0⟩]⟩
def fCPR_CTRL_RUN (i : Nat) : Fld := ⟨0x00400000 + 0x100 * i, 0, 1⟩
def fCPR_CTRL_STOP (i : Nat) : Fld := ⟨0x00400000 + 0x100 * i, 1, 1⟩
def fCPR_CTRL_START_W (i : Nat) : Fld := ⟨0x00400000 + 0x100 * i, 16, 16⟩

/-- CPR_STATUS (R304, 06_thoene_isa.md). -/
def regCPR_STATUS : RegRow := ⟨0x00400004, 0x100, 8, 0x0, 1, [
    ⟨0, 16, .ro, .l, 0⟩,
    ⟨20, 4, .ro, .l, 0⟩,
    ⟨24, 4, .ro, .l, 0⟩,
    ⟨28, 1, .ro, .l, 0⟩,
    ⟨29, 3, .ro, .l, 0⟩]⟩
def fCPR_STATUS_PC_W (i : Nat) : Fld := ⟨0x00400004 + 0x100 * i, 0, 16⟩
def fCPR_STATUS_RSD (i : Nat) : Fld := ⟨0x00400004 + 0x100 * i, 20, 4⟩
def fCPR_STATUS_CAUSE (i : Nat) : Fld := ⟨0x00400004 + 0x100 * i, 24, 4⟩
def fCPR_STATUS_PFV (i : Nat) : Fld := ⟨0x00400004 + 0x100 * i, 28, 1⟩
def fCPR_STATUS_STATE (i : Nat) : Fld := ⟨0x00400004 + 0x100 * i, 29, 3⟩

/-- CPR_CFG (R304, 06_thoene_isa.md). -/
def regCPR_CFG : RegRow := ⟨0x00400008, 0x100, 8, 0x0, 1, [
    ⟨26, 1, .rw, .l, 0⟩]⟩
def fCPR_CFG_RESTART (i : Nat) : Fld := ⟨0x00400008 + 0x100 * i, 26, 1⟩

/-- CPR_VEC (R304, 06_thoene_isa.md). -/
def regCPR_VEC : RegRow := ⟨0x0040000C, 0x100, 8, 0x0, 1, [
    ⟨16, 16, .rw, .l, 0⟩]⟩
def fCPR_VEC_FAULT_W (i : Nat) : Fld := ⟨0x0040000C + 0x100 * i, 16, 16⟩

/-- CPR_WDOG (R304, 06_thoene_isa.md). -/
def regCPR_WDOG : RegRow := ⟨0x00400010, 0x100, 8, 0x0, 1, [
    ⟨0, 16, .rw, .l, 256⟩]⟩
def fCPR_WDOG_LIMIT (i : Nat) : Fld := ⟨0x00400010 + 0x100 * i, 0, 16⟩

/-- CPR_FAULT (R304, 06_thoene_isa.md). -/
def regCPR_FAULT : RegRow := ⟨0x00400014, 0x100, 8, 0x0, 1, [
    ⟨0, 16, .ro, .l, 0⟩,
    ⟨24, 4, .ro, .l, 0⟩,
    ⟨31, 1, .w1c, .l, 0⟩]⟩
def fCPR_FAULT_PC_W (i : Nat) : Fld := ⟨0x00400014 + 0x100 * i, 0, 16⟩
def fCPR_FAULT_CAUSE (i : Nat) : Fld := ⟨0x00400014 + 0x100 * i, 24, 4⟩
def fCPR_FAULT_VALID (i : Nat) : Fld := ⟨0x00400014 + 0x100 * i, 31, 1⟩

/-- CPR_FAULT_INSN (R304, 06_thoene_isa.md). -/
def regCPR_FAULT_INSN : RegRow := ⟨0x00400018, 0x100, 8, 0x0, 1, [
    ⟨0, 32, .ro, .l, 0⟩]⟩
def fCPR_FAULT_INSN_INSN (i : Nat) : Fld := ⟨0x00400018 + 0x100 * i, 0, 32⟩

/-- CPR_MBOX (R304, 06_thoene_isa.md). -/
def regCPR_MBOX : RegRow := ⟨0x00400020, 0x100, 8, 0x0, 1, [
    ⟨0, 32, .rw, .l, 0⟩]⟩
def fCPR_MBOX_DATA (i : Nat) : Fld := ⟨0x00400020 + 0x100 * i, 0, 32⟩

/-- CPR_PEND (R304, 06_thoene_isa.md). -/
def regCPR_PEND : RegRow := ⟨0x00400024, 0x100, 8, 0x0, 1, [
    ⟨0, 12, .ro, .l, 0⟩]⟩
def fCPR_PEND_PEND (i : Nat) : Fld := ⟨0x00400024 + 0x100 * i, 0, 12⟩

/-- CPR_MP_OP (R342, 07_queues_transactions_locks.md). -/
def regCPR_MP_OP : RegRow := ⟨0x00401000, 0x0, 1, 0x0, 1, [
    ⟨0, 10, .rw, .l, 0⟩,
    ⟨10, 4, .rw, .l, 0⟩,
    ⟨28, 4, .wo, .l, 0⟩]⟩
def fCPR_MP_OP_LOCK : Fld := ⟨0x00401000, 0, 10⟩
def fCPR_MP_OP_GROUP : Fld := ⟨0x00401000, 10, 4⟩
def fCPR_MP_OP_OP : Fld := ⟨0x00401000, 28, 4⟩

/-- CPR_MP_RESULT (R343, 07_queues_transactions_locks.md). -/
def regCPR_MP_RESULT : RegRow := ⟨0x00401004, 0x0, 1, 0x0, 1, [
    ⟨0, 12, .ro, .l, 0⟩,
    ⟨31, 1, .ro, .l, 0⟩]⟩
def fCPR_MP_RESULT_VALUE : Fld := ⟨0x00401004, 0, 12⟩
def fCPR_MP_RESULT_FLAG : Fld := ⟨0x00401004, 31, 1⟩

/-- CPR_TXN_CFG (R344, 07_queues_transactions_locks.md). -/
def regCPR_TXN_CFG : RegRow := ⟨0x00401010, 0x0, 1, 0x0, 1, [
    ⟨0, 19, .rw, .l, 65536⟩]⟩
def fCPR_TXN_CFG_LIMIT : Fld := ⟨0x00401010, 0, 19⟩

/-- CPR_TXN_STATUS (R345, 07_queues_transactions_locks.md). -/
def regCPR_TXN_STATUS : RegRow := ⟨0x00401014, 0x0, 1, 0x0, 1, [
    ⟨0, 19, .ro, .l, 262144⟩,
    ⟨19, 9, .ro, .l, 0⟩]⟩
def fCPR_TXN_STATUS_FREE : Fld := ⟨0x00401014, 0, 19⟩
def fCPR_TXN_STATUS_OPEN : Fld := ⟨0x00401014, 19, 9⟩

/-- CPR_LOCK_BREAK (R346, 07_queues_transactions_locks.md). -/
def regCPR_LOCK_BREAK : RegRow := ⟨0x00401018, 0x0, 1, 0x0, 1, [
    ⟨0, 10, .wo, .l, 0⟩]⟩
def fCPR_LOCK_BREAK_LOCK : Fld := ⟨0x00401018, 0, 10⟩

/-- CPR_TXN_OWN (R347, 07_queues_transactions_locks.md). -/
def regCPR_TXN_OWN : RegRow := ⟨0x00402000, 0x8, 256, 0x0, 1, [
    ⟨0, 11, .ro, .l, 0⟩,
    ⟨28, 2, .ro, .l, 0⟩,
    ⟨30, 2, .ro, .l, 0⟩]⟩
def fCPR_TXN_OWN_OWNER (i : Nat) : Fld := ⟨0x00402000 + 0x8 * i, 0, 11⟩
def fCPR_TXN_OWN_DOOM (i : Nat) : Fld := ⟨0x00402000 + 0x8 * i, 28, 2⟩
def fCPR_TXN_OWN_STATE (i : Nat) : Fld := ⟨0x00402000 + 0x8 * i, 30, 2⟩

/-- CPR_TXN_CNT (R348, 07_queues_transactions_locks.md). -/
def regCPR_TXN_CNT : RegRow := ⟨0x00402004, 0x8, 256, 0x0, 1, [
    ⟨0, 19, .ro, .l, 0⟩]⟩
def fCPR_TXN_CNT_WRITES (i : Nat) : Fld := ⟨0x00402004 + 0x8 * i, 0, 19⟩

/-- CPR_LOCK (R349, 07_queues_transactions_locks.md). -/
def regCPR_LOCK : RegRow := ⟨0x00404000, 0x4, 1024, 0x0, 1, [
    ⟨0, 11, .ro, .l, 0⟩,
    ⟨16, 12, .ro, .l, 0⟩,
    ⟨28, 1, .ro, .l, 0⟩,
    ⟨29, 1, .ro, .l, 0⟩,
    ⟨30, 2, .ro, .l, 0⟩]⟩
def fCPR_LOCK_OWNER (i : Nat) : Fld := ⟨0x00404000 + 0x4 * i, 0, 11⟩
def fCPR_LOCK_CSEQ (i : Nat) : Fld := ⟨0x00404000 + 0x4 * i, 16, 12⟩
def fCPR_LOCK_REFUSED (i : Nat) : Fld := ⟨0x00404000 + 0x4 * i, 28, 1⟩
def fCPR_LOCK_ORPHAN (i : Nat) : Fld := ⟨0x00404000 + 0x4 * i, 29, 1⟩
def fCPR_LOCK_STATUS (i : Nat) : Fld := ⟨0x00404000 + 0x4 * i, 30, 2⟩

/-- SEC_LC (R583, 12_security.md). -/
def regSEC_LC : RegRow := ⟨0x00600000, 0x0, 1, 0x0, 1, [
    ⟨24, 2, .ro, .l, 0⟩,
    ⟨26, 1, .ro, .l, 0⟩,
    ⟨27, 1, .ro, .l, 1⟩,
    ⟨28, 1, .ro, .l, 0⟩,
    ⟨29, 3, .ro, .l, 0⟩]⟩
def fSEC_LC_REDEPLOY : Fld := ⟨0x00600000, 24, 2⟩
def fSEC_LC_OWNER_REQ : Fld := ⟨0x00600000, 26, 1⟩
def fSEC_LC_DBG_OPEN : Fld := ⟨0x00600000, 27, 1⟩
def fSEC_LC_TAMPERED : Fld := ⟨0x00600000, 28, 1⟩
def fSEC_LC_STATE : Fld := ⟨0x00600000, 29, 3⟩

/-- SEC_LC_REQ (R584, 12_security.md). -/
def regSEC_LC_REQ : RegRow := ⟨0x00600004, 0x0, 1, 0x0, 1, [
    ⟨20, 4, .ro, .l, 0⟩,
    ⟨24, 3, .rw, .l, 0⟩,
    ⟨30, 1, .rw, .l, 0⟩,
    ⟨31, 1, .wo, .l, 0⟩]⟩
def fSEC_LC_REQ_RESULT : Fld := ⟨0x00600004, 20, 4⟩
def fSEC_LC_REQ_TARGET : Fld := ⟨0x00600004, 24, 3⟩
def fSEC_LC_REQ_OWNER_REQ : Fld := ⟨0x00600004, 30, 1⟩
def fSEC_LC_REQ_GO : Fld := ⟨0x00600004, 31, 1⟩

/-- SEC_BLOB_SRC (R585, 12_security.md). -/
def regSEC_BLOB_SRC : RegRow := ⟨0x00600008, 0x0, 1, 0x0, 1, [
    ⟨0, 28, .rw, .l, 0⟩]⟩
def fSEC_BLOB_SRC_GRAN : Fld := ⟨0x00600008, 0, 28⟩

/-- SEC_KL_CTRL (R586, 12_security.md). -/
def regSEC_KL_CTRL : RegRow := ⟨0x0060000C, 0x0, 1, 0x0, 1, [
    ⟨26, 4, .ro, .l, 0⟩,
    ⟨30, 1, .ro, .l, 0⟩,
    ⟨31, 1, .wo, .l, 0⟩]⟩
def fSEC_KL_CTRL_RESULT : Fld := ⟨0x0060000C, 26, 4⟩
def fSEC_KL_CTRL_BUSY : Fld := ⟨0x0060000C, 30, 1⟩
def fSEC_KL_CTRL_GO : Fld := ⟨0x0060000C, 31, 1⟩

/-- SEC_DBG (R587, 12_security.md). -/
def regSEC_DBG : RegRow := ⟨0x00600010, 0x0, 1, 0x0, 1, [
    ⟨31, 1, .wo, .l, 0⟩]⟩
def fSEC_DBG_UNLOCK : Fld := ⟨0x00600010, 31, 1⟩

/-- SEC_TAMPER (R588, 12_security.md). -/
def regSEC_TAMPER : RegRow := ⟨0x00600014, 0x0, 1, 0x0, 1, [
    ⟨0, 16, .rw, .l, 0⟩,
    ⟨30, 1, .rw, .l, 0⟩,
    ⟨31, 1, .rw, .l, 1⟩]⟩
def fSEC_TAMPER_COUNT : Fld := ⟨0x00600014, 0, 16⟩
def fSEC_TAMPER_ERASE : Fld := ⟨0x00600014, 30, 1⟩
def fSEC_TAMPER_TAMPER_EN : Fld := ⟨0x00600014, 31, 1⟩

/-- SEC_DEVID_LO (R589, 12_security.md). -/
def regSEC_DEVID_LO : RegRow := ⟨0x00600018, 0x0, 1, 0x0, 1, [
    ⟨0, 32, .ro, .l, 0⟩]⟩
def fSEC_DEVID_LO_DEVID : Fld := ⟨0x00600018, 0, 32⟩

/-- SEC_DEVID_HI (R589, 12_security.md). -/
def regSEC_DEVID_HI : RegRow := ⟨0x0060001C, 0x0, 1, 0x0, 1, [
    ⟨0, 32, .ro, .l, 0⟩]⟩
def fSEC_DEVID_HI_DEVID : Fld := ⟨0x0060001C, 0, 32⟩

/-- SEC_SLOT_CFG (R590, 12_security.md). -/
def regSEC_SLOT_CFG : RegRow := ⟨0x00600100, 0x10, 64, 0x0, 1, [
    ⟨0, 16, .ro, .l, 0⟩,
    ⟨16, 8, .ro, .l, 0⟩,
    ⟨31, 1, .ro, .l, 0⟩]⟩
def fSEC_SLOT_CFG_GEN (i : Nat) : Fld := ⟨0x00600100 + 0x10 * i, 0, 16⟩
def fSEC_SLOT_CFG_PERM (i : Nat) : Fld := ⟨0x00600100 + 0x10 * i, 16, 8⟩
def fSEC_SLOT_CFG_VALID (i : Nat) : Fld := ⟨0x00600100 + 0x10 * i, 31, 1⟩

/-- SEC_SLOT_CTR_LO (R591, 12_security.md). -/
def regSEC_SLOT_CTR_LO : RegRow := ⟨0x00600108, 0x10, 64, 0x0, 1, [
    ⟨0, 32, .ro, .l, 0⟩]⟩
def fSEC_SLOT_CTR_LO_CTR_LO (i : Nat) : Fld := ⟨0x00600108 + 0x10 * i, 0, 32⟩

/-- SEC_SLOT_CTR_HI (R592, 12_security.md). -/
def regSEC_SLOT_CTR_HI : RegRow := ⟨0x0060010C, 0x10, 64, 0x0, 1, [
    ⟨0, 32, .ro, .l, 0⟩]⟩
def fSEC_SLOT_CTR_HI_CTR_HI (i : Nat) : Fld := ⟨0x0060010C + 0x10 * i, 0, 32⟩

/-- NVS_STATUS (R616, 13_nonvolatile_store.md). -/
def regNVS_STATUS : RegRow := ⟨0x00800000, 0x0, 1, 0x0, 1, [
    ⟨0, 9, .ro, .l, 256⟩,
    ⟨16, 8, .rw, .l, 0⟩,
    ⟨24, 2, .ro, .l, 0⟩,
    ⟨26, 1, .ro, .l, 0⟩,
    ⟨27, 1, .w1c, .l, 0⟩,
    ⟨28, 2, .ro, .l, 0⟩,
    ⟨30, 1, .ro, .l, 0⟩,
    ⟨31, 1, .ro, .l, 0⟩]⟩
def fNVS_STATUS_CFREE : Fld := ⟨0x00800000, 0, 9⟩
def fNVS_STATUS_LOGDROP : Fld := ⟨0x00800000, 16, 8⟩
def fNVS_STATUS_DUMP : Fld := ⟨0x00800000, 24, 2⟩
def fNVS_STATUS_BT_VALID : Fld := ⟨0x00800000, 26, 1⟩
def fNVS_STATUS_REJECT : Fld := ⟨0x00800000, 27, 1⟩
def fNVS_STATUS_CAUSE : Fld := ⟨0x00800000, 28, 2⟩
def fNVS_STATUS_BUSY : Fld := ⟨0x00800000, 30, 1⟩
def fNVS_STATUS_READY : Fld := ⟨0x00800000, 31, 1⟩

/-- NVS_SEQ_ACC (R617, 13_nonvolatile_store.md). -/
def regNVS_SEQ_ACC : RegRow := ⟨0x00800004, 0x0, 1, 0x0, 1, [
    ⟨0, 32, .ro, .l, 0⟩]⟩
def fNVS_SEQ_ACC_SEQ : Fld := ⟨0x00800004, 0, 32⟩

/-- NVS_SEQ_DUR (R618, 13_nonvolatile_store.md). -/
def regNVS_SEQ_DUR : RegRow := ⟨0x00800008, 0x0, 1, 0x0, 1, [
    ⟨0, 32, .ro, .l, 0⟩]⟩
def fNVS_SEQ_DUR_SEQ : Fld := ⟨0x00800008, 0, 32⟩

/-- NVS_WEAR (R619, 13_nonvolatile_store.md). -/
def regNVS_WEAR : RegRow := ⟨0x0080000C, 0x0, 1, 0x0, 1, [
    ⟨0, 17, .ro, .l, 0⟩,
    ⟨23, 9, .ro, .l, 0⟩]⟩
def fNVS_WEAR_MAXERASE : Fld := ⟨0x0080000C, 0, 17⟩
def fNVS_WEAR_FREE : Fld := ⟨0x0080000C, 23, 9⟩

/-- NVS_REC_SRC (R620, 13_nonvolatile_store.md). -/
def regNVS_REC_SRC : RegRow := ⟨0x00800010, 0x0, 1, 0x0, 1, [
    ⟨0, 28, .rw, .l, 0⟩]⟩
def fNVS_REC_SRC_GRAN : Fld := ⟨0x00800010, 0, 28⟩

/-- NVS_REC_DST (R621, 13_nonvolatile_store.md). -/
def regNVS_REC_DST : RegRow := ⟨0x00800014, 0x0, 1, 0x0, 1, [
    ⟨2, 18, .rw, .l, 0⟩]⟩
def fNVS_REC_DST_ADDR : Fld := ⟨0x00800014, 2, 18⟩

/-- NVS_REC_CTRL (R622, 13_nonvolatile_store.md). -/
def regNVS_REC_CTRL : RegRow := ⟨0x00800018, 0x0, 1, 0x0, 1, [
    ⟨0, 13, .rw, .l, 4⟩,
    ⟨27, 3, .ro, .l, 0⟩,
    ⟨30, 1, .ro, .l, 0⟩,
    ⟨31, 1, .wo, .l, 0⟩]⟩
def fNVS_REC_CTRL_LEN : Fld := ⟨0x00800018, 0, 13⟩
def fNVS_REC_CTRL_RESULT : Fld := ⟨0x00800018, 27, 3⟩
def fNVS_REC_CTRL_BUSY : Fld := ⟨0x00800018, 30, 1⟩
def fNVS_REC_CTRL_GO : Fld := ⟨0x00800018, 31, 1⟩

/-- NVS_XFER_CTRL (R623, 13_nonvolatile_store.md). -/
def regNVS_XFER_CTRL : RegRow := ⟨0x00800020, 0x0, 1, 0x0, 1, [
    ⟨0, 16, .rw, .l, 0⟩,
    ⟨23, 1, .rw, .l, 0⟩,
    ⟨24, 3, .rw, .l, 0⟩,
    ⟨27, 3, .ro, .l, 0⟩,
    ⟨30, 1, .ro, .l, 0⟩,
    ⟨31, 1, .wo, .l, 0⟩]⟩
def fNVS_XFER_CTRL_COUNTM1 : Fld := ⟨0x00800020, 0, 16⟩
def fNVS_XFER_CTRL_SLOT : Fld := ⟨0x00800020, 23, 1⟩
def fNVS_XFER_CTRL_OP : Fld := ⟨0x00800020, 24, 3⟩
def fNVS_XFER_CTRL_RESULT : Fld := ⟨0x00800020, 27, 3⟩
def fNVS_XFER_CTRL_BUSY : Fld := ⟨0x00800020, 30, 1⟩
def fNVS_XFER_CTRL_GO : Fld := ⟨0x00800020, 31, 1⟩

/-- NVS_XFER_OFS (R624, 13_nonvolatile_store.md). -/
def regNVS_XFER_OFS : RegRow := ⟨0x00800024, 0x0, 1, 0x0, 1, [
    ⟨0, 32, .rw, .l, 0⟩]⟩
def fNVS_XFER_OFS_OFS : Fld := ⟨0x00800024, 0, 32⟩

/-- NVS_XFER_GRAN (R625, 13_nonvolatile_store.md). -/
def regNVS_XFER_GRAN : RegRow := ⟨0x00800028, 0x0, 1, 0x0, 1, [
    ⟨0, 28, .rw, .l, 0⟩]⟩
def fNVS_XFER_GRAN_GRAN : Fld := ⟨0x00800028, 0, 28⟩

/-- NVS_ACT (R693, 15_startup_live_update.md). -/
def regNVS_ACT : RegRow := ⟨0x00800030, 0x0, 1, 0x0, 1, [
    ⟨0, 6, .ro, .l, 0⟩,
    ⟨16, 8, .ro, .l, 0⟩,
    ⟨24, 3, .ro, .l, 0⟩,
    ⟨27, 1, .ro, .l, 0⟩,
    ⟨28, 1, .ro, .l, 0⟩,
    ⟨29, 1, .rw, .l, 0⟩,
    ⟨30, 1, .ro, .l, 0⟩,
    ⟨31, 1, .wo, .l, 0⟩]⟩
def fNVS_ACT_FIMG : Fld := ⟨0x00800030, 0, 6⟩
def fNVS_ACT_CPDONE : Fld := ⟨0x00800030, 16, 8⟩
def fNVS_ACT_RESULT : Fld := ⟨0x00800030, 24, 3⟩
def fNVS_ACT_ACTIVE : Fld := ⟨0x00800030, 27, 1⟩
def fNVS_ACT_SEL : Fld := ⟨0x00800030, 28, 1⟩
def fNVS_ACT_MODE : Fld := ⟨0x00800030, 29, 1⟩
def fNVS_ACT_BUSY : Fld := ⟨0x00800030, 30, 1⟩
def fNVS_ACT_GO : Fld := ⟨0x00800030, 31, 1⟩

/-- NVS_ACT_GRP (R694, 15_startup_live_update.md). -/
def regNVS_ACT_GRP : RegRow := ⟨0x00800034, 0x0, 1, 0x0, 1, [
    ⟨0, 16, .ro, .l, 0⟩]⟩
def fNVS_ACT_GRP_SEQDONE : Fld := ⟨0x00800034, 0, 16⟩

/-- NVS_CNT_INC (R626, 13_nonvolatile_store.md). -/
def regNVS_CNT_INC : RegRow := ⟨0x00800040, 0x0, 1, 0x0, 1, [
    ⟨0, 8, .wo, .l, 0⟩]⟩
def fNVS_CNT_INC_CNT : Fld := ⟨0x00800040, 0, 8⟩

/-- NVS_LOG_NEWEST (R627, 13_nonvolatile_store.md). -/
def regNVS_LOG_NEWEST : RegRow := ⟨0x00800060, 0x0, 1, 0x0, 1, [
    ⟨0, 32, .ro, .l, 0⟩]⟩
def fNVS_LOG_NEWEST_INDEX : Fld := ⟨0x00800060, 0, 32⟩

/-- NVS_LOG_CODE (R628, 13_nonvolatile_store.md). -/
def regNVS_LOG_CODE : RegRow := ⟨0x00800080, 0x4, 16, 0x0, 1, [
    ⟨0, 15, .rw, .l, 0⟩,
    ⟨31, 1, .rw, .l, 0⟩]⟩
def fNVS_LOG_CODE_CODE (i : Nat) : Fld := ⟨0x00800080 + 0x4 * i, 0, 15⟩
def fNVS_LOG_CODE_EN (i : Nat) : Fld := ⟨0x00800080 + 0x4 * i, 31, 1⟩

/-- NVS_CNT_LO (R629, 13_nonvolatile_store.md). -/
def regNVS_CNT_LO : RegRow := ⟨0x00801000, 0x8, 256, 0x0, 1, [
    ⟨0, 32, .ro, .l, 0⟩]⟩
def fNVS_CNT_LO_VAL_LO (i : Nat) : Fld := ⟨0x00801000 + 0x8 * i, 0, 32⟩

/-- NVS_CNT_HI (R630, 13_nonvolatile_store.md). -/
def regNVS_CNT_HI : RegRow := ⟨0x00801004, 0x8, 256, 0x0, 1, [
    ⟨0, 32, .ro, .l, 0⟩]⟩
def fNVS_CNT_HI_VAL_HI (i : Nat) : Fld := ⟨0x00801004 + 0x8 * i, 0, 32⟩

/-- FST_PWR_CFG (R231, 05_frame_store_codec.md). -/
def regFST_PWR_CFG : RegRow := ⟨0x00A00000, 0x0, 1, 0x0, 1, [
    ⟨0, 1, .rw, .l, 1⟩,
    ⟨1, 1, .rw, .l, 1⟩,
    ⟨16, 16, .rw, .l, 1600⟩]⟩
def fFST_PWR_CFG_PD_EN : Fld := ⟨0x00A00000, 0, 1⟩
def fFST_PWR_CFG_SR_EN : Fld := ⟨0x00A00000, 1, 1⟩
def fFST_PWR_CFG_MARGIN : Fld := ⟨0x00A00000, 16, 16⟩

/-- FST_PWR_STATUS (R232, 05_frame_store_codec.md). -/
def regFST_PWR_STATUS : RegRow := ⟨0x00A00004, 0x0, 1, 0x0, 1, [
    ⟨0, 2, .ro, .l, 0⟩,
    ⟨2, 2, .ro, .l, 0⟩,
    ⟨16, 16, .rw, .l, 0⟩]⟩
def fFST_PWR_STATUS_STATE_A : Fld := ⟨0x00A00004, 0, 2⟩
def fFST_PWR_STATUS_STATE_B : Fld := ⟨0x00A00004, 2, 2⟩
def fFST_PWR_STATUS_EMERG : Fld := ⟨0x00A00004, 16, 16⟩

/-- FST_EXIT_LAT (R233, 05_frame_store_codec.md). -/
def regFST_EXIT_LAT : RegRow := ⟨0x00A00008, 0x0, 1, 0x0, 1, [
    ⟨0, 16, .ro, .l, 64⟩,
    ⟨16, 16, .ro, .l, 2048⟩]⟩
def fFST_EXIT_LAT_PD_EXIT : Fld := ⟨0x00A00008, 0, 16⟩
def fFST_EXIT_LAT_SR_EXIT : Fld := ⟨0x00A00008, 16, 16⟩

/-- FST_ECC_CNT (R234, 05_frame_store_codec.md). -/
def regFST_ECC_CNT : RegRow := ⟨0x00A00010, 0x0, 1, 0x0, 1, [
    ⟨0, 16, .rw, .l, 0⟩,
    ⟨16, 16, .rw, .l, 0⟩]⟩
def fFST_ECC_CNT_UE : Fld := ⟨0x00A00010, 0, 16⟩
def fFST_ECC_CNT_CE : Fld := ⟨0x00A00010, 16, 16⟩

/-- FST_UE_ADDR (R235, 05_frame_store_codec.md). -/
def regFST_UE_ADDR : RegRow := ⟨0x00A00014, 0x0, 1, 0x0, 1, [
    ⟨0, 28, .ro, .l, 0⟩,
    ⟨31, 1, .w1c, .l, 0⟩]⟩
def fFST_UE_ADDR_GRAN : Fld := ⟨0x00A00014, 0, 28⟩
def fFST_UE_ADDR_VALID : Fld := ⟨0x00A00014, 31, 1⟩

/-- FST_SCRUB_CFG (R236, 05_frame_store_codec.md). -/
def regFST_SCRUB_CFG : RegRow := ⟨0x00A00018, 0x0, 1, 0x0, 1, [
    ⟨0, 16, .rw, .l, 24⟩,
    ⟨31, 1, .rw, .l, 1⟩]⟩
def fFST_SCRUB_CFG_PERIOD : Fld := ⟨0x00A00018, 0, 16⟩
def fFST_SCRUB_CFG_SCRUB_EN : Fld := ⟨0x00A00018, 31, 1⟩

/-- FST_STRUDEL_BASE (R237, 05_frame_store_codec.md). -/
def regFST_STRUDEL_BASE : RegRow := ⟨0x00A00020, 0x0, 1, 0x0, 1, [
    ⟨0, 28, .rw, .h, 0⟩]⟩
def fFST_STRUDEL_BASE_GRAN : Fld := ⟨0x00A00020, 0, 28⟩

/-- FST_STRUDEL_CELLS (R238, 05_frame_store_codec.md). -/
def regFST_STRUDEL_CELLS : RegRow := ⟨0x00A00024, 0x0, 1, 0x0, 1, [
    ⟨0, 24, .rw, .h, 0⟩]⟩
def fFST_STRUDEL_CELLS_CELLS : Fld := ⟨0x00A00024, 0, 24⟩

/-- FST_STRUDEL_DEV (R239, 05_frame_store_codec.md). -/
def regFST_STRUDEL_DEV : RegRow := ⟨0x00A00028, 0x0, 1, 0x0, 1, [
    ⟨0, 24, .rw, .h, 0⟩,
    ⟨24, 8, .rw, .l, 16⟩]⟩
def fFST_STRUDEL_DEV_DEV_FIRST : Fld := ⟨0x00A00028, 0, 24⟩
def fFST_STRUDEL_DEV_LOW : Fld := ⟨0x00A00028, 24, 8⟩

/-- FST_STRUDEL_FREE (R240, 05_frame_store_codec.md). -/
def regFST_STRUDEL_FREE : RegRow := ⟨0x00A0002C, 0x0, 1, 0x0, 1, [
    ⟨0, 24, .ro, .l, 0⟩]⟩
def fFST_STRUDEL_FREE_FREE : Fld := ⟨0x00A0002C, 0, 24⟩

/-- CDC_CFG (R242, 05_frame_store_codec.md). -/
def regCDC_CFG : RegRow := ⟨0x00C00000, 0x0, 1, 0x0, 1, [
    ⟨0, 4, .rw, .h, 8⟩,
    ⟨8, 4, .rw, .l, 2⟩,
    ⟨16, 16, .rw, .l, 65535⟩]⟩
def fCDC_CFG_LOG2N : Fld := ⟨0x00C00000, 0, 4⟩
def fCDC_CFG_QUAR_THR : Fld := ⟨0x00C00000, 8, 4⟩
def fCDC_CFG_ENG_EN : Fld := ⟨0x00C00000, 16, 16⟩

/-- CDC_RING_BASE (R243, 05_frame_store_codec.md). -/
def regCDC_RING_BASE : RegRow := ⟨0x00C00004, 0x0, 1, 0x0, 1, [
    ⟨0, 28, .rw, .h, 0⟩]⟩
def fCDC_RING_BASE_GRAN : Fld := ⟨0x00C00004, 0, 28⟩

/-- CDC_RING_PTR (R244, 05_frame_store_codec.md). -/
def regCDC_RING_PTR : RegRow := ⟨0x00C00008, 0x0, 1, 0x0, 1, [
    ⟨0, 16, .rw, .l, 0⟩,
    ⟨16, 16, .ro, .l, 0⟩]⟩
def fCDC_RING_PTR_TAIL : Fld := ⟨0x00C00008, 0, 16⟩
def fCDC_RING_PTR_HEAD : Fld := ⟨0x00C00008, 16, 16⟩

/-- CDC_STATUS (R245, 05_frame_store_codec.md). -/
def regCDC_STATUS : RegRow := ⟨0x00C0000C, 0x0, 1, 0x0, 1, [
    ⟨0, 16, .ro, .l, 0⟩,
    ⟨16, 16, .w1c, .l, 0⟩]⟩
def fCDC_STATUS_BUSY : Fld := ⟨0x00C0000C, 0, 16⟩
def fCDC_STATUS_QUAR : Fld := ⟨0x00C0000C, 16, 16⟩

/-- CDC_SHORT_CNT (R246, 05_frame_store_codec.md). -/
def regCDC_SHORT_CNT : RegRow := ⟨0x00C00010, 0x0, 1, 0x0, 1, [
    ⟨0, 32, .rw, .l, 0⟩]⟩
def fCDC_SHORT_CNT_SHORT : Fld := ⟨0x00C00010, 0, 32⟩

/-- CDC_ENC_MISMATCH (R247, 05_frame_store_codec.md). -/
def regCDC_ENC_MISMATCH : RegRow := ⟨0x00C00100, 0x4, 16, 0x0, 1, [
    ⟨0, 32, .rw, .l, 0⟩]⟩
def fCDC_ENC_MISMATCH_COUNT (i : Nat) : Fld := ⟨0x00C00100 + 0x4 * i, 0, 32⟩

/-- CDC_DEC_ERR (R248, 05_frame_store_codec.md). -/
def regCDC_DEC_ERR : RegRow := ⟨0x00C00200, 0x4, 16, 0x0, 1, [
    ⟨0, 32, .rw, .l, 0⟩]⟩
def fCDC_DEC_ERR_BLOCKS (i : Nat) : Fld := ⟨0x00C00200 + 0x4 * i, 0, 32⟩

/-- DMH_TC_CFG (R24, 01_architecture.md). -/
def regDMH_TC_CFG : RegRow := ⟨0x00E00010, 0x0, 1, 0x0, 1, [
    ⟨0, 1, .rw, .l, 1⟩,
    ⟨8, 8, .rw, .l, 2⟩,
    ⟨16, 8, .rw, .l, 4⟩]⟩
def fDMH_TC_CFG_HALF_EN : Fld := ⟨0x00E00010, 0, 1⟩
def fDMH_TC_CFG_TC1_MIN : Fld := ⟨0x00E00010, 8, 8⟩
def fDMH_TC_CFG_TC3_MAX : Fld := ⟨0x00E00010, 16, 8⟩

/-- DMH_LGRP_STATUS (R25, 01_architecture.md). -/
def regDMH_LGRP_STATUS : RegRow := ⟨0x00E00100, 0x4, 10, 0x0, 1, [
    ⟨0, 3, .ro, .l, 0⟩,
    ⟨11, 1, .w1c, .l, 0⟩,
    ⟨12, 4, .ro, .l, 0⟩,
    ⟨16, 1, .ro, .l, 0⟩,
    ⟨24, 8, .ro, .l, 0⟩]⟩
def fDMH_LGRP_STATUS_STATE (i : Nat) : Fld := ⟨0x00E00100 + 0x4 * i, 0, 3⟩
def fDMH_LGRP_STATUS_FAULT_SEEN (i : Nat) : Fld := ⟨0x00E00100 + 0x4 * i, 11, 1⟩
def fDMH_LGRP_STATUS_FAULT_LANE (i : Nat) : Fld := ⟨0x00E00100 + 0x4 * i, 12, 4⟩
def fDMH_LGRP_STATUS_CTRL (i : Nat) : Fld := ⟨0x00E00100 + 0x4 * i, 16, 1⟩
def fDMH_LGRP_STATUS_RETRAINS (i : Nat) : Fld := ⟨0x00E00100 + 0x4 * i, 24, 8⟩

/-- DMH_REPLAY_CNT (R26, 01_architecture.md). -/
def regDMH_REPLAY_CNT : RegRow := ⟨0x00E00140, 0x4, 10, 0x0, 1, [
    ⟨0, 32, .rw, .l, 0⟩]⟩
def fDMH_REPLAY_CNT_REPLAYS (i : Nat) : Fld := ⟨0x00E00140 + 0x4 * i, 0, 32⟩

/-- ARB_REQ_CFG (R670, 14_memory_arbitration.md). -/
def regARB_REQ_CFG : RegRow := ⟨0x01000000, 0x10, 16, 0x0, 1, [
    ⟨0, 4, .rw, .l, 0⟩,
    ⟨4, 16, .rw, .l, 64⟩]⟩
def fARB_REQ_CFG_PRIO (i : Nat) : Fld := ⟨0x01000000 + 0x10 * i, 0, 4⟩
def fARB_REQ_CFG_DEADLINE (i : Nat) : Fld := ⟨0x01000000 + 0x10 * i, 4, 16⟩

/-- ARB_REQ_EFF (R671, 14_memory_arbitration.md). -/
def regARB_REQ_EFF : RegRow := ⟨0x01000004, 0x10, 16, 0x0, 1, [
    ⟨0, 4, .ro, .l, 0⟩,
    ⟨4, 16, .ro, .l, 64⟩,
    ⟨30, 2, .ro, .l, 0⟩]⟩
def fARB_REQ_EFF_PRIO (i : Nat) : Fld := ⟨0x01000004 + 0x10 * i, 0, 4⟩
def fARB_REQ_EFF_DEADLINE (i : Nat) : Fld := ⟨0x01000004 + 0x10 * i, 4, 16⟩
def fARB_REQ_EFF_CLASS (i : Nat) : Fld := ⟨0x01000004 + 0x10 * i, 30, 2⟩

/-- ARB_REQ_DEF (R672, 14_memory_arbitration.md). -/
def regARB_REQ_DEF : RegRow := ⟨0x01000008, 0x10, 16, 0x0, 1, [
    ⟨0, 32, .rw, .l, 0⟩]⟩
def fARB_REQ_DEF_DEFERRALS (i : Nat) : Fld := ⟨0x01000008 + 0x10 * i, 0, 32⟩

/-- ARB_REQ_REF (R673, 14_memory_arbitration.md). -/
def regARB_REQ_REF : RegRow := ⟨0x0100000C, 0x10, 16, 0x0, 1, [
    ⟨0, 24, .rw, .l, 0⟩,
    ⟨24, 3, .ro, .l, 0⟩]⟩
def fARB_REQ_REF_REFUSALS (i : Nat) : Fld := ⟨0x0100000C + 0x10 * i, 0, 24⟩
def fARB_REQ_REF_REASON (i : Nat) : Fld := ⟨0x0100000C + 0x10 * i, 24, 3⟩

/-- ARB_APPLY (R674, 14_memory_arbitration.md). -/
def regARB_APPLY : RegRow := ⟨0x01000100, 0x0, 1, 0x0, 1, [
    ⟨30, 1, .ro, .l, 0⟩,
    ⟨31, 1, .wo, .l, 0⟩]⟩
def fARB_APPLY_PENDING : Fld := ⟨0x01000100, 30, 1⟩
def fARB_APPLY_APPLY : Fld := ⟨0x01000100, 31, 1⟩

/-- ARB_SCAN_WM (R675, 14_memory_arbitration.md). -/
def regARB_SCAN_WM : RegRow := ⟨0x01000200, 0x4, 16, 0x0, 1, [
    ⟨0, 4, .rw, .l, 2⟩]⟩
def fARB_SCAN_WM_LWM (i : Nat) : Fld := ⟨0x01000200 + 0x4 * i, 0, 4⟩

/-- MEM_BANK (R660, 14_memory_arbitration.md). -/
def regMEM_BANK : RegRow := ⟨0x01200000, 0x4, 260, 0x0, 1, [
    ⟨0, 16, .rw, .l, 0⟩,
    ⟨21, 2, .ro, .l, 0⟩,
    ⟨23, 3, .ro, .l, 0⟩,
    ⟨26, 1, .ro, .l, 0⟩,
    ⟨27, 1, .ro, .l, 0⟩,
    ⟨28, 2, .ro, .l, 0⟩,
    ⟨30, 2, .rw, .l, 0⟩]⟩
def fMEM_BANK_CE (i : Nat) : Fld := ⟨0x01200000 + 0x4 * i, 0, 16⟩
def fMEM_BANK_SPCOL (i : Nat) : Fld := ⟨0x01200000 + 0x4 * i, 21, 2⟩
def fMEM_BANK_SPROW (i : Nat) : Fld := ⟨0x01200000 + 0x4 * i, 23, 3⟩
def fMEM_BANK_INIT (i : Nat) : Fld := ⟨0x01200000 + 0x4 * i, 26, 1⟩
def fMEM_BANK_FAILED (i : Nat) : Fld := ⟨0x01200000 + 0x4 * i, 27, 1⟩
def fMEM_BANK_STATE (i : Nat) : Fld := ⟨0x01200000 + 0x4 * i, 28, 2⟩
def fMEM_BANK_REQ (i : Nat) : Fld := ⟨0x01200000 + 0x4 * i, 30, 2⟩

/-- MEM_UE (R661, 14_memory_arbitration.md). -/
def regMEM_UE : RegRow := ⟨0x01200800, 0x0, 1, 0x0, 1, [
    ⟨0, 15, .ro, .l, 0⟩,
    ⟨16, 9, .ro, .l, 0⟩,
    ⟨31, 1, .w1c, .l, 0⟩]⟩
def fMEM_UE_WORD : Fld := ⟨0x01200800, 0, 15⟩
def fMEM_UE_BANK : Fld := ⟨0x01200800, 16, 9⟩
def fMEM_UE_VALID : Fld := ⟨0x01200800, 31, 1⟩

/-- MEM_UE_CNT (R662, 14_memory_arbitration.md). -/
def regMEM_UE_CNT : RegRow := ⟨0x01200804, 0x0, 1, 0x0, 1, [
    ⟨0, 32, .rw, .l, 0⟩]⟩
def fMEM_UE_CNT_COUNT : Fld := ⟨0x01200804, 0, 32⟩

/-- MEM_MARCH_CTRL (R663, 14_memory_arbitration.md). -/
def regMEM_MARCH_CTRL : RegRow := ⟨0x01201000, 0x0, 1, 0x0, 1, [
    ⟨0, 9, .rw, .l, 0⟩,
    ⟨16, 9, .rw, .l, 0⟩,
    ⟨28, 1, .rw, .l, 1⟩,
    ⟨29, 1, .rw, .l, 0⟩,
    ⟨30, 1, .wo, .l, 0⟩,
    ⟨31, 1, .wo, .l, 0⟩]⟩
def fMEM_MARCH_CTRL_LAST : Fld := ⟨0x01201000, 0, 9⟩
def fMEM_MARCH_CTRL_FIRST : Fld := ⟨0x01201000, 16, 9⟩
def fMEM_MARCH_CTRL_REPAIR : Fld := ⟨0x01201000, 28, 1⟩
def fMEM_MARCH_CTRL_MODE : Fld := ⟨0x01201000, 29, 1⟩
def fMEM_MARCH_CTRL_ABORT : Fld := ⟨0x01201000, 30, 1⟩
def fMEM_MARCH_CTRL_GO : Fld := ⟨0x01201000, 31, 1⟩

/-- MEM_MARCH_STATUS (R664, 14_memory_arbitration.md). -/
def regMEM_MARCH_STATUS : RegRow := ⟨0x01201004, 0x0, 1, 0x0, 1, [
    ⟨0, 8, .ro, .l, 0⟩,
    ⟨8, 8, .ro, .l, 0⟩,
    ⟨16, 9, .ro, .l, 0⟩,
    ⟨28, 3, .ro, .l, 0⟩,
    ⟨31, 1, .ro, .l, 0⟩]⟩
def fMEM_MARCH_STATUS_REPAIRS : Fld := ⟨0x01201004, 0, 8⟩
def fMEM_MARCH_STATUS_FAILS : Fld := ⟨0x01201004, 8, 8⟩
def fMEM_MARCH_STATUS_CUR : Fld := ⟨0x01201004, 16, 9⟩
def fMEM_MARCH_STATUS_RESULT : Fld := ⟨0x01201004, 28, 3⟩
def fMEM_MARCH_STATUS_BUSY : Fld := ⟨0x01201004, 31, 1⟩

/-- MEM_NOUGAT (R665, 14_memory_arbitration.md). -/
def regMEM_NOUGAT : RegRow := ⟨0x01202000, 0x0, 1, 0x0, 1, [
    ⟨0, 17, .ro, .l, 65536⟩,
    ⟨24, 8, .rw, .l, 0⟩]⟩
def fMEM_NOUGAT_FREE : Fld := ⟨0x01202000, 0, 17⟩
def fMEM_NOUGAT_QRESETS : Fld := ⟨0x01202000, 24, 8⟩

/-- MEM_COPY_SRC (R666, 14_memory_arbitration.md). -/
def regMEM_COPY_SRC : RegRow := ⟨0x01203000, 0x0, 1, 0x0, 1, [
    ⟨0, 28, .rw, .l, 0⟩,
    ⟨31, 1, .rw, .l, 0⟩]⟩
def fMEM_COPY_SRC_LOC : Fld := ⟨0x01203000, 0, 28⟩
def fMEM_COPY_SRC_SPACE : Fld := ⟨0x01203000, 31, 1⟩

/-- MEM_COPY_DST (R666, 14_memory_arbitration.md). -/
def regMEM_COPY_DST : RegRow := ⟨0x01203004, 0x0, 1, 0x0, 1, [
    ⟨0, 28, .rw, .l, 0⟩,
    ⟨31, 1, .rw, .l, 0⟩]⟩
def fMEM_COPY_DST_LOC : Fld := ⟨0x01203004, 0, 28⟩
def fMEM_COPY_DST_SPACE : Fld := ⟨0x01203004, 31, 1⟩

/-- MEM_COPY_CTRL (R667, 14_memory_arbitration.md). -/
def regMEM_COPY_CTRL : RegRow := ⟨0x01203008, 0x0, 1, 0x0, 1, [
    ⟨0, 16, .rw, .l, 0⟩,
    ⟨31, 1, .wo, .l, 0⟩]⟩
def fMEM_COPY_CTRL_LEN256M1 : Fld := ⟨0x01203008, 0, 16⟩
def fMEM_COPY_CTRL_GO : Fld := ⟨0x01203008, 31, 1⟩

/-- MEM_COPY_STATUS (R668, 14_memory_arbitration.md). -/
def regMEM_COPY_STATUS : RegRow := ⟨0x0120300C, 0x0, 1, 0x0, 1, [
    ⟨0, 16, .ro, .l, 0⟩,
    ⟨26, 3, .ro, .l, 0⟩,
    ⟨29, 2, .ro, .l, 0⟩,
    ⟨31, 1, .ro, .l, 0⟩]⟩
def fMEM_COPY_STATUS_ROUNDS : Fld := ⟨0x0120300C, 0, 16⟩
def fMEM_COPY_STATUS_REASON : Fld := ⟨0x0120300C, 26, 3⟩
def fMEM_COPY_STATUS_STATUS : Fld := ⟨0x0120300C, 29, 2⟩
def fMEM_COPY_STATUS_BUSY : Fld := ⟨0x0120300C, 31, 1⟩

/-- MEM_COPY_DONE (R669, 14_memory_arbitration.md). -/
def regMEM_COPY_DONE : RegRow := ⟨0x01203010, 0x0, 1, 0x0, 1, [
    ⟨0, 32, .ro, .l, 0⟩]⟩
def fMEM_COPY_DONE_BYTES : Fld := ⟨0x01203010, 0, 32⟩

/-- DMS_TC_CFG (R24, 01_architecture.md). -/
def regDMS_TC_CFG : RegRow := ⟨0x01E00010, 0x0, 1, 0x0, 1, [
    ⟨0, 1, .rw, .l, 1⟩,
    ⟨8, 8, .rw, .l, 2⟩,
    ⟨16, 8, .rw, .l, 4⟩]⟩
def fDMS_TC_CFG_HALF_EN : Fld := ⟨0x01E00010, 0, 1⟩
def fDMS_TC_CFG_TC1_MIN : Fld := ⟨0x01E00010, 8, 8⟩
def fDMS_TC_CFG_TC3_MAX : Fld := ⟨0x01E00010, 16, 8⟩

/-- DMS_LGRP_STATUS (R25, 01_architecture.md). -/
def regDMS_LGRP_STATUS : RegRow := ⟨0x01E00100, 0x4, 10, 0x0, 1, [
    ⟨0, 3, .ro, .l, 0⟩,
    ⟨11, 1, .w1c, .l, 0⟩,
    ⟨12, 4, .ro, .l, 0⟩,
    ⟨16, 1, .ro, .l, 0⟩,
    ⟨24, 8, .ro, .l, 0⟩]⟩
def fDMS_LGRP_STATUS_STATE (i : Nat) : Fld := ⟨0x01E00100 + 0x4 * i, 0, 3⟩
def fDMS_LGRP_STATUS_FAULT_SEEN (i : Nat) : Fld := ⟨0x01E00100 + 0x4 * i, 11, 1⟩
def fDMS_LGRP_STATUS_FAULT_LANE (i : Nat) : Fld := ⟨0x01E00100 + 0x4 * i, 12, 4⟩
def fDMS_LGRP_STATUS_CTRL (i : Nat) : Fld := ⟨0x01E00100 + 0x4 * i, 16, 1⟩
def fDMS_LGRP_STATUS_RETRAINS (i : Nat) : Fld := ⟨0x01E00100 + 0x4 * i, 24, 8⟩

/-- DMS_REPLAY_CNT (R26, 01_architecture.md). -/
def regDMS_REPLAY_CNT : RegRow := ⟨0x01E00140, 0x4, 10, 0x0, 1, [
    ⟨0, 32, .rw, .l, 0⟩]⟩
def fDMS_REPLAY_CNT_REPLAYS (i : Nat) : Fld := ⟨0x01E00140 + 0x4 * i, 0, 32⟩

/-- TMG_CTRL (R82, 02_raster_timing.md). -/
def regTMG_CTRL : RegRow := ⟨0x02000000, 0x10000, 16, 0x0, 1, [
    ⟨0, 1, .rw, .l, 0⟩,
    ⟨1, 1, .rw, .h, 0⟩,
    ⟨4, 1, .rw, .l, 0⟩]⟩
def fTMG_CTRL_RUN (i : Nat) : Fld := ⟨0x02000000 + 0x10000 * i, 0, 1⟩
def fTMG_CTRL_UR_MODE (i : Nat) : Fld := ⟨0x02000000 + 0x10000 * i, 1, 1⟩
def fTMG_CTRL_FRAME_EVT (i : Nat) : Fld := ⟨0x02000000 + 0x10000 * i, 4, 1⟩

/-- TMG_STATUS (R83, 02_raster_timing.md). -/
def regTMG_STATUS : RegRow := ⟨0x02000004, 0x10000, 16, 0x0, 1, [
    ⟨0, 3, .ro, .l, 0⟩,
    ⟨8, 8, .ro, .l, 0⟩,
    ⟨16, 1, .ro, .l, 0⟩,
    ⟨17, 1, .ro, .l, 0⟩,
    ⟨18, 2, .ro, .l, 0⟩,
    ⟨20, 1, .ro, .l, 0⟩,
    ⟨24, 4, .ro, .l, 0⟩]⟩
def fTMG_STATUS_STATE (i : Nat) : Fld := ⟨0x02000004 + 0x10000 * i, 0, 3⟩
def fTMG_STATUS_PEND (i : Nat) : Fld := ⟨0x02000004 + 0x10000 * i, 8, 8⟩
def fTMG_STATUS_BISCUIT (i : Nat) : Fld := ⟨0x02000004 + 0x10000 * i, 16, 1⟩
def fTMG_STATUS_TE_WAIT (i : Nat) : Fld := ⟨0x02000004 + 0x10000 * i, 17, 1⟩
def fTMG_STATUS_GL_STATE (i : Nat) : Fld := ⟨0x02000004 + 0x10000 * i, 18, 2⟩
def fTMG_STATUS_DEFERRING (i : Nat) : Fld := ⟨0x02000004 + 0x10000 * i, 20, 1⟩
def fTMG_STATUS_CFG_ERR (i : Nat) : Fld := ⟨0x02000004 + 0x10000 * i, 24, 4⟩

/-- TMG_HACT (R84, 02_raster_timing.md). -/
def regTMG_HACT : RegRow := ⟨0x02000010, 0x10000, 16, 0x0, 1, [
    ⟨0, 16, .rw, .s, 0⟩]⟩
def fTMG_HACT_VALUE (i : Nat) : Fld := ⟨0x02000010 + 0x10000 * i, 0, 16⟩

/-- TMG_HFP (R84, 02_raster_timing.md). -/
def regTMG_HFP : RegRow := ⟨0x02000014, 0x10000, 16, 0x0, 1, [
    ⟨0, 16, .rw, .s, 0⟩]⟩
def fTMG_HFP_VALUE (i : Nat) : Fld := ⟨0x02000014 + 0x10000 * i, 0, 16⟩

/-- TMG_HSYNC (R84, 02_raster_timing.md). -/
def regTMG_HSYNC : RegRow := ⟨0x02000018, 0x10000, 16, 0x0, 1, [
    ⟨0, 16, .rw, .s, 0⟩]⟩
def fTMG_HSYNC_VALUE (i : Nat) : Fld := ⟨0x02000018 + 0x10000 * i, 0, 16⟩

/-- TMG_HBP (R84, 02_raster_timing.md). -/
def regTMG_HBP : RegRow := ⟨0x0200001C, 0x10000, 16, 0x0, 1, [
    ⟨0, 16, .rw, .s, 0⟩]⟩
def fTMG_HBP_VALUE (i : Nat) : Fld := ⟨0x0200001C + 0x10000 * i, 0, 16⟩

/-- TMG_VACT (R84, 02_raster_timing.md). -/
def regTMG_VACT : RegRow := ⟨0x02000020, 0x10000, 16, 0x0, 1, [
    ⟨0, 16, .rw, .s, 0⟩]⟩
def fTMG_VACT_VALUE (i : Nat) : Fld := ⟨0x02000020 + 0x10000 * i, 0, 16⟩

/-- TMG_VFP (R84, 02_raster_timing.md). -/
def regTMG_VFP : RegRow := ⟨0x02000024, 0x10000, 16, 0x0, 1, [
    ⟨0, 16, .rw, .s, 0⟩]⟩
def fTMG_VFP_VALUE (i : Nat) : Fld := ⟨0x02000024 + 0x10000 * i, 0, 16⟩

/-- TMG_VSYNC (R84, 02_raster_timing.md). -/
def regTMG_VSYNC : RegRow := ⟨0x02000028, 0x10000, 16, 0x0, 1, [
    ⟨0, 16, .rw, .s, 0⟩]⟩
def fTMG_VSYNC_VALUE (i : Nat) : Fld := ⟨0x02000028 + 0x10000 * i, 0, 16⟩

/-- TMG_VBP (R84, 02_raster_timing.md). -/
def regTMG_VBP : RegRow := ⟨0x0200002C, 0x10000, 16, 0x0, 1, [
    ⟨0, 16, .rw, .s, 0⟩]⟩
def fTMG_VBP_VALUE (i : Nat) : Fld := ⟨0x0200002C + 0x10000 * i, 0, 16⟩

/-- TMG_LPER_INT (R85, 02_raster_timing.md). -/
def regTMG_LPER_INT : RegRow := ⟨0x02000030, 0x10000, 16, 0x0, 1, [
    ⟨0, 32, .rw, .s, 0⟩]⟩
def fTMG_LPER_INT_LPER_INT (i : Nat) : Fld := ⟨0x02000030 + 0x10000 * i, 0, 32⟩

/-- TMG_LPER_FRAC (R86, 02_raster_timing.md). -/
def regTMG_LPER_FRAC : RegRow := ⟨0x02000034, 0x10000, 16, 0x0, 1, [
    ⟨0, 16, .rw, .s, 0⟩]⟩
def fTMG_LPER_FRAC_LPER_FRAC (i : Nat) : Fld := ⟨0x02000034 + 0x10000 * i, 0, 16⟩

/-- TMG_VLATCH (R87, 02_raster_timing.md). -/
def regTMG_VLATCH : RegRow := ⟨0x02000038, 0x10000, 16, 0x0, 1, [
    ⟨0, 16, .rw, .s, 0⟩,
    ⟨16, 8, .rw, .h, 4⟩]⟩
def fTMG_VLATCH_LOFS (i : Nat) : Fld := ⟨0x02000038 + 0x10000 * i, 0, 16⟩
def fTMG_VLATCH_LEAD (i : Nat) : Fld := ⟨0x02000038 + 0x10000 * i, 16, 8⟩

/-- TMG_CUTOFF (R88, 02_raster_timing.md). -/
def regTMG_CUTOFF : RegRow := ⟨0x0200003C, 0x10000, 16, 0x0, 1, [
    ⟨0, 16, .rw, .s, 256⟩]⟩
def fTMG_CUTOFF_CUTOFF (i : Nat) : Fld := ⟨0x0200003C + 0x10000 * i, 0, 16⟩

/-- TMG_FRAME_LO (R89, 02_raster_timing.md). -/
def regTMG_FRAME_LO : RegRow := ⟨0x02000040, 0x10000, 16, 0x0, 1, [
    ⟨0, 32, .ro, .l, 0⟩]⟩
def fTMG_FRAME_LO_FRAME_LO (i : Nat) : Fld := ⟨0x02000040 + 0x10000 * i, 0, 32⟩

/-- TMG_FRAME_HI (R90, 02_raster_timing.md). -/
def regTMG_FRAME_HI : RegRow := ⟨0x02000044, 0x10000, 16, 0x0, 1, [
    ⟨0, 16, .ro, .l, 0⟩]⟩
def fTMG_FRAME_HI_FRAME_HI (i : Nat) : Fld := ⟨0x02000044 + 0x10000 * i, 0, 16⟩

/-- TMG_BEAM (R91, 02_raster_timing.md). -/
def regTMG_BEAM : RegRow := ⟨0x02000048, 0x10000, 16, 0x0, 1, [
    ⟨0, 16, .ro, .l, 0⟩,
    ⟨16, 16, .ro, .l, 0⟩]⟩
def fTMG_BEAM_COL (i : Nat) : Fld := ⟨0x02000048 + 0x10000 * i, 0, 16⟩
def fTMG_BEAM_LINE (i : Nat) : Fld := ⟨0x02000048 + 0x10000 * i, 16, 16⟩

/-- TMG_LATCH_LO (R92, 02_raster_timing.md). -/
def regTMG_LATCH_LO : RegRow := ⟨0x02000050, 0x10000, 16, 0x0, 1, [
    ⟨0, 32, .ro, .l, 0⟩]⟩
def fTMG_LATCH_LO_LATCH_LO (i : Nat) : Fld := ⟨0x02000050 + 0x10000 * i, 0, 32⟩

/-- TMG_LATCH_HI (R93, 02_raster_timing.md). -/
def regTMG_LATCH_HI : RegRow := ⟨0x02000054, 0x10000, 16, 0x0, 1, [
    ⟨0, 32, .ro, .l, 0⟩]⟩
def fTMG_LATCH_HI_LATCH_HI (i : Nat) : Fld := ⟨0x02000054 + 0x10000 * i, 0, 32⟩

/-- TMG_NEXT_CUT (R94, 02_raster_timing.md). -/
def regTMG_NEXT_CUT : RegRow := ⟨0x02000058, 0x10000, 16, 0x0, 1, [
    ⟨0, 32, .ro, .l, 0⟩]⟩
def fTMG_NEXT_CUT_NCUT_LO (i : Nat) : Fld := ⟨0x02000058 + 0x10000 * i, 0, 32⟩

/-- TMG_GENLOCK (R95, 02_raster_timing.md). -/
def regTMG_GENLOCK : RegRow := ⟨0x02000060, 0x10000, 16, 0x0, 1, [
    ⟨0, 16, .rw, .s, 8⟩,
    ⟨20, 4, .rw, .s, 0⟩,
    ⟨27, 1, .rw, .s, 0⟩,
    ⟨28, 2, .rw, .s, 0⟩,
    ⟨30, 1, .rw, .s, 1⟩,
    ⟨31, 1, .rw, .s, 0⟩]⟩
def fTMG_GENLOCK_PULLMAX (i : Nat) : Fld := ⟨0x02000060 + 0x10000 * i, 0, 16⟩
def fTMG_GENLOCK_RATIO (i : Nat) : Fld := ⟨0x02000060 + 0x10000 * i, 20, 4⟩
def fTMG_GENLOCK_POL (i : Nat) : Fld := ⟨0x02000060 + 0x10000 * i, 27, 1⟩
def fTMG_GENLOCK_SRC (i : Nat) : Fld := ⟨0x02000060 + 0x10000 * i, 28, 2⟩
def fTMG_GENLOCK_AUTO_REACQ (i : Nat) : Fld := ⟨0x02000060 + 0x10000 * i, 30, 1⟩
def fTMG_GENLOCK_GL_EN (i : Nat) : Fld := ⟨0x02000060 + 0x10000 * i, 31, 1⟩

/-- TMG_SYNC_OFS (R96, 02_raster_timing.md). -/
def regTMG_SYNC_OFS : RegRow := ⟨0x02000064, 0x10000, 16, 0x0, 1, [
    ⟨0, 32, .rw, .s, 0⟩]⟩
def fTMG_SYNC_OFS_OFS (i : Nat) : Fld := ⟨0x02000064 + 0x10000 * i, 0, 32⟩

/-- TMG_VFP_LIM (R97, 02_raster_timing.md). -/
def regTMG_VFP_LIM : RegRow := ⟨0x02000068, 0x10000, 16, 0x0, 1, [
    ⟨0, 16, .rw, .s, 1⟩,
    ⟨16, 16, .rw, .s, 65535⟩]⟩
def fTMG_VFP_LIM_VFP_MIN (i : Nat) : Fld := ⟨0x02000068 + 0x10000 * i, 0, 16⟩
def fTMG_VFP_LIM_VFP_MAX (i : Nat) : Fld := ⟨0x02000068 + 0x10000 * i, 16, 16⟩

/-- TMG_SYNCOUT (R98, 02_raster_timing.md). -/
def regTMG_SYNCOUT : RegRow := ⟨0x0200006C, 0x10000, 16, 0x0, 1, [
    ⟨0, 16, .rw, .s, 0⟩,
    ⟨24, 4, .rw, .s, 0⟩]⟩
def fTMG_SYNCOUT_WIDTH (i : Nat) : Fld := ⟨0x0200006C + 0x10000 * i, 0, 16⟩
def fTMG_SYNCOUT_MASK (i : Nat) : Fld := ⟨0x0200006C + 0x10000 * i, 24, 4⟩

/-- TMG_TE_CFG (R99, 02_raster_timing.md). -/
def regTMG_TE_CFG : RegRow := ⟨0x02000070, 0x10000, 16, 0x0, 1, [
    ⟨0, 16, .rw, .s, 0⟩,
    ⟨16, 12, .rw, .s, 256⟩,
    ⟨28, 1, .rw, .l, 0⟩,
    ⟨29, 1, .rw, .s, 1⟩,
    ⟨30, 1, .rw, .s, 0⟩,
    ⟨31, 1, .rw, .s, 0⟩]⟩
def fTMG_TE_CFG_DELAY (i : Nat) : Fld := ⟨0x02000070 + 0x10000 * i, 0, 16⟩
def fTMG_TE_CFG_TIMEOUT (i : Nat) : Fld := ⟨0x02000070 + 0x10000 * i, 16, 12⟩
def fTMG_TE_CFG_TE_EVT (i : Nat) : Fld := ⟨0x02000070 + 0x10000 * i, 28, 1⟩
def fTMG_TE_CFG_FALLBACK (i : Nat) : Fld := ⟨0x02000070 + 0x10000 * i, 29, 1⟩
def fTMG_TE_CFG_POL (i : Nat) : Fld := ⟨0x02000070 + 0x10000 * i, 30, 1⟩
def fTMG_TE_CFG_TE_EN (i : Nat) : Fld := ⟨0x02000070 + 0x10000 * i, 31, 1⟩

/-- TMG_UR_CNT (R100, 02_raster_timing.md). -/
def regTMG_UR_CNT : RegRow := ⟨0x02000078, 0x10000, 16, 0x0, 1, [
    ⟨0, 32, .rw, .l, 0⟩]⟩
def fTMG_UR_CNT_LINES (i : Nat) : Fld := ⟨0x02000078 + 0x10000 * i, 0, 32⟩

/-- TMG_GL_ERR (R101, 02_raster_timing.md). -/
def regTMG_GL_ERR : RegRow := ⟨0x02000080, 0x10000, 16, 0x0, 1, [
    ⟨0, 32, .ro, .l, 0⟩]⟩
def fTMG_GL_ERR_RESID (i : Nat) : Fld := ⟨0x02000080 + 0x10000 * i, 0, 32⟩

/-- TMG_LAD_CTRL (R130, 03_panes_refresh.md). -/
def regTMG_LAD_CTRL : RegRow := ⟨0x020000A0, 0x10000, 16, 0x0, 1, [
    ⟨0, 16, .rw, .s, 16⟩,
    ⟨16, 8, .rw, .s, 60⟩,
    ⟨24, 3, .rw, .s, 0⟩,
    ⟨31, 1, .rw, .s, 0⟩]⟩
def fTMG_LAD_CTRL_WAKE (i : Nat) : Fld := ⟨0x020000A0 + 0x10000 * i, 0, 16⟩
def fTMG_LAD_CTRL_HOLD (i : Nat) : Fld := ⟨0x020000A0 + 0x10000 * i, 16, 8⟩
def fTMG_LAD_CTRL_NSTEPS (i : Nat) : Fld := ⟨0x020000A0 + 0x10000 * i, 24, 3⟩
def fTMG_LAD_CTRL_LAD_EN (i : Nat) : Fld := ⟨0x020000A0 + 0x10000 * i, 31, 1⟩

/-- TMG_LAD_STEP (R131, 03_panes_refresh.md). -/
def regTMG_LAD_STEP : RegRow := ⟨0x020000A4, 0x10000, 16, 0x4, 7, [
    ⟨0, 16, .rw, .s, 0⟩]⟩
def fTMG_LAD_STEP_EXTRA (i : Nat) (j : Nat) : Fld := ⟨0x020000A4 + 0x10000 * i + 0x4 * j, 0, 16⟩

/-- TMG_LAD_STATUS (R132, 03_panes_refresh.md). -/
def regTMG_LAD_STATUS : RegRow := ⟨0x020000C0, 0x10000, 16, 0x0, 1, [
    ⟨0, 16, .ro, .l, 0⟩,
    ⟨16, 8, .ro, .l, 0⟩,
    ⟨24, 1, .ro, .l, 0⟩,
    ⟨25, 1, .ro, .l, 0⟩,
    ⟨26, 3, .ro, .l, 0⟩,
    ⟨29, 3, .ro, .l, 0⟩]⟩
def fTMG_LAD_STATUS_FPORCH (i : Nat) : Fld := ⟨0x020000C0 + 0x10000 * i, 0, 16⟩
def fTMG_LAD_STATUS_STATIC (i : Nat) : Fld := ⟨0x020000C0 + 0x10000 * i, 16, 8⟩
def fTMG_LAD_STATUS_HELD (i : Nat) : Fld := ⟨0x020000C0 + 0x10000 * i, 24, 1⟩
def fTMG_LAD_STATUS_PAIR (i : Nat) : Fld := ⟨0x020000C0 + 0x10000 * i, 25, 1⟩
def fTMG_LAD_STATUS_LIMIT (i : Nat) : Fld := ⟨0x020000C0 + 0x10000 * i, 26, 3⟩
def fTMG_LAD_STATUS_STEP (i : Nat) : Fld := ⟨0x020000C0 + 0x10000 * i, 29, 3⟩

/-- PAN_GROUP_BG (R133, 03_panes_refresh.md). -/
def regPAN_GROUP_BG : RegRow := ⟨0x02200000, 0x4, 16, 0x0, 1, [
    ⟨0, 10, .rw, .s, 0⟩,
    ⟨10, 10, .rw, .s, 0⟩,
    ⟨20, 10, .rw, .s, 0⟩]⟩
def fPAN_GROUP_BG_B (i : Nat) : Fld := ⟨0x02200000 + 0x4 * i, 0, 10⟩
def fPAN_GROUP_BG_G (i : Nat) : Fld := ⟨0x02200000 + 0x4 * i, 10, 10⟩
def fPAN_GROUP_BG_R (i : Nat) : Fld := ⟨0x02200000 + 0x4 * i, 20, 10⟩

/-- PAN_DROP_CNT (R134, 03_panes_refresh.md). -/
def regPAN_DROP_CNT : RegRow := ⟨0x02200040, 0x4, 16, 0x0, 1, [
    ⟨0, 32, .rw, .l, 0⟩]⟩
def fPAN_DROP_CNT_LINES (i : Nat) : Fld := ⟨0x02200040 + 0x4 * i, 0, 32⟩

/-- PAN_SR_CTRL (R135, 03_panes_refresh.md). -/
def regPAN_SR_CTRL : RegRow := ⟨0x02200080, 0x0, 1, 0x0, 1, [
    ⟨0, 1, .rw, .l, 0⟩]⟩
def fPAN_SR_CTRL_SLEEP : Fld := ⟨0x02200080, 0, 1⟩

/-- PAN_SR_STATUS (R136, 03_panes_refresh.md). -/
def regPAN_SR_STATUS : RegRow := ⟨0x02200084, 0x0, 1, 0x0, 1, [
    ⟨0, 16, .ro, .l, 0⟩,
    ⟨28, 3, .ro, .l, 0⟩,
    ⟨31, 1, .ro, .l, 0⟩]⟩
def fPAN_SR_STATUS_GROUPS : Fld := ⟨0x02200084, 0, 16⟩
def fPAN_SR_STATUS_CAUSE : Fld := ⟨0x02200084, 28, 3⟩
def fPAN_SR_STATUS_ACTIVE : Fld := ⟨0x02200084, 31, 1⟩

/-- PAN_TOL (R137, 03_panes_refresh.md). -/
def regPAN_TOL : RegRow := ⟨0x02200088, 0x0, 1, 0x0, 1, [
    ⟨0, 28, .ro, .l, 268435455⟩,
    ⟨28, 4, .ro, .l, 0⟩]⟩
def fPAN_TOL_TOL : Fld := ⟨0x02200088, 0, 28⟩
def fPAN_TOL_GROUP : Fld := ⟨0x02200088, 28, 4⟩

/-- PANE0 (R103, 03_panes_refresh.md). -/
def regPANE0 : RegRow := ⟨0x02210000, 0x40, 10240, 0x0, 1, [
    ⟨0, 8, .rw, .s, 0⟩,
    ⟨16, 8, .rw, .s, 255⟩,
    ⟨24, 2, .rw, .s, 0⟩,
    ⟨26, 1, .rw, .s, 0⟩,
    ⟨27, 4, .rw, .h, 0⟩,
    ⟨31, 1, .rw, .s, 0⟩]⟩
def fPANE_Z (i : Nat) : Fld := ⟨0x02210000 + 0x40 * i, 0, 8⟩
def fPANE_CALPHA (i : Nat) : Fld := ⟨0x02210000 + 0x40 * i, 16, 8⟩
def fPANE_AMODE (i : Nat) : Fld := ⟨0x02210000 + 0x40 * i, 24, 2⟩
def fPANE_PREMUL (i : Nat) : Fld := ⟨0x02210000 + 0x40 * i, 26, 1⟩
def fPANE_GROUP (i : Nat) : Fld := ⟨0x02210000 + 0x40 * i, 27, 4⟩
def fPANE_EN (i : Nat) : Fld := ⟨0x02210000 + 0x40 * i, 31, 1⟩

/-- PANE1 (R103, 03_panes_refresh.md). -/
def regPANE1 : RegRow := ⟨0x02210004, 0x40, 10240, 0x0, 1, [
    ⟨0, 16, .rw, .s, 0⟩,
    ⟨16, 16, .rw, .s, 0⟩]⟩
def fPANE_X0 (i : Nat) : Fld := ⟨0x02210004 + 0x40 * i, 0, 16⟩
def fPANE_Y0 (i : Nat) : Fld := ⟨0x02210004 + 0x40 * i, 16, 16⟩

/-- PANE2 (R103, 03_panes_refresh.md). -/
def regPANE2 : RegRow := ⟨0x02210008, 0x40, 10240, 0x0, 1, [
    ⟨0, 16, .rw, .s, 0⟩,
    ⟨16, 16, .rw, .s, 0⟩]⟩
def fPANE_WM1 (i : Nat) : Fld := ⟨0x02210008 + 0x40 * i, 0, 16⟩
def fPANE_HM1 (i : Nat) : Fld := ⟨0x02210008 + 0x40 * i, 16, 16⟩

/-- PANE3 (R103, 03_panes_refresh.md). -/
def regPANE3 : RegRow := ⟨0x0221000C, 0x40, 10240, 0x0, 1, [
    ⟨8, 24, .rw, .s, 0⟩]⟩
def fPANE_BASE_LO (i : Nat) : Fld := ⟨0x0221000C + 0x40 * i, 8, 24⟩

/-- PANE4 (R103, 03_panes_refresh.md). -/
def regPANE4 : RegRow := ⟨0x02210010, 0x40, 10240, 0x0, 1, [
    ⟨0, 32, .rw, .s, 0⟩]⟩
def fPANE_BASE_HI (i : Nat) : Fld := ⟨0x02210010 + 0x40 * i, 0, 32⟩

/-- PANE5 (R103, 03_panes_refresh.md). -/
def regPANE5 : RegRow := ⟨0x02210014, 0x40, 10240, 0x0, 1, [
    ⟨0, 20, .rw, .s, 0⟩,
    ⟨27, 2, .rw, .s, 0⟩,
    ⟨29, 1, .rw, .s, 0⟩,
    ⟨30, 1, .rw, .s, 0⟩,
    ⟨31, 1, .rw, .s, 0⟩]⟩
def fPANE_PITCH (i : Nat) : Fld := ⟨0x02210014 + 0x40 * i, 0, 20⟩
def fPANE_FMT (i : Nat) : Fld := ⟨0x02210014 + 0x40 * i, 27, 2⟩
def fPANE_COMP (i : Nat) : Fld := ⟨0x02210014 + 0x40 * i, 29, 1⟩
def fPANE_SPACE (i : Nat) : Fld := ⟨0x02210014 + 0x40 * i, 30, 1⟩
def fPANE_SURF_EN (i : Nat) : Fld := ⟨0x02210014 + 0x40 * i, 31, 1⟩

/-- PANE6 (R103, 03_panes_refresh.md). -/
def regPANE6 : RegRow := ⟨0x02210018, 0x40, 10240, 0x0, 1, [
    ⟨0, 16, .rw, .s, 0⟩,
    ⟨16, 16, .rw, .s, 0⟩]⟩
def fPANE_SWM1 (i : Nat) : Fld := ⟨0x02210018 + 0x40 * i, 0, 16⟩
def fPANE_SHM1 (i : Nat) : Fld := ⟨0x02210018 + 0x40 * i, 16, 16⟩

/-- PANE7 (R103, 03_panes_refresh.md). -/
def regPANE7 : RegRow := ⟨0x0221001C, 0x40, 10240, 0x0, 1, [
    ⟨0, 16, .rw, .s, 0⟩,
    ⟨16, 16, .rw, .s, 0⟩]⟩
def fPANE_SRC_X (i : Nat) : Fld := ⟨0x0221001C + 0x40 * i, 0, 16⟩
def fPANE_SRC_Y (i : Nat) : Fld := ⟨0x0221001C + 0x40 * i, 16, 16⟩

/-- PANE8 (R103, 03_panes_refresh.md). -/
def regPANE8 : RegRow := ⟨0x02210020, 0x40, 10240, 0x0, 1, [
    ⟨0, 12, .rw, .s, 0⟩]⟩
def fPANE_SLOT (i : Nat) : Fld := ⟨0x02210020 + 0x40 * i, 0, 12⟩

/-- PANE9 (R103, 03_panes_refresh.md). -/
def regPANE9 : RegRow := ⟨0x02210024, 0x40, 10240, 0x0, 1, [
    ⟨0, 10, .rw, .s, 0⟩,
    ⟨10, 10, .rw, .s, 0⟩,
    ⟨20, 10, .rw, .s, 0⟩]⟩
def fPANE_BG_B (i : Nat) : Fld := ⟨0x02210024 + 0x40 * i, 0, 10⟩
def fPANE_BG_G (i : Nat) : Fld := ⟨0x02210024 + 0x40 * i, 10, 10⟩
def fPANE_BG_R (i : Nat) : Fld := ⟨0x02210024 + 0x40 * i, 20, 10⟩

/-- PANE10 (R103, 03_panes_refresh.md). -/
def regPANE10 : RegRow := ⟨0x02210028, 0x40, 10240, 0x0, 1, [
    ⟨16, 3, .rw, .s, 0⟩,
    ⟨30, 2, .rw, .s, 0⟩]⟩
def fPANE_MAX_STEP (i : Nat) : Fld := ⟨0x02210028 + 0x40 * i, 16, 3⟩
def fPANE_POLICY (i : Nat) : Fld := ⟨0x02210028 + 0x40 * i, 30, 2⟩

/-- PANE11 (R103, 03_panes_refresh.md). -/
def regPANE11 : RegRow := ⟨0x0221002C, 0x40, 10240, 0x0, 1, [
    ⟨0, 28, .rw, .s, 0⟩,
    ⟨31, 1, .rw, .s, 0⟩]⟩
def fPANE_CAP_GRAN (i : Nat) : Fld := ⟨0x0221002C + 0x40 * i, 0, 28⟩
def fPANE_SR_CAP (i : Nat) : Fld := ⟨0x0221002C + 0x40 * i, 31, 1⟩

/-- PANE12 (R103, 03_panes_refresh.md). -/
def regPANE12 : RegRow := ⟨0x02210030, 0x40, 10240, 0x0, 1, [
    ⟨0, 32, .rw, .s, 0⟩]⟩
def fPANE_TECH0 (i : Nat) : Fld := ⟨0x02210030 + 0x40 * i, 0, 32⟩

/-- PANE13 (R103, 03_panes_refresh.md). -/
def regPANE13 : RegRow := ⟨0x02210034, 0x40, 10240, 0x0, 1, [
    ⟨0, 32, .rw, .s, 0⟩]⟩
def fPANE_TECH1 (i : Nat) : Fld := ⟨0x02210034 + 0x40 * i, 0, 32⟩

/-- PANE14 (R103, 03_panes_refresh.md). -/
def regPANE14 : RegRow := ⟨0x02210038, 0x40, 10240, 0x0, 1, [
    ⟨0, 32, .rw, .s, 0⟩]⟩
def fPANE_TECH2 (i : Nat) : Fld := ⟨0x02210038 + 0x40 * i, 0, 32⟩

/-- PANE15 (R103, 03_panes_refresh.md). -/
def regPANE15 : RegRow := ⟨0x0221003C, 0x40, 10240, 0x0, 1, [
    ⟨0, 24, .ro, .l, 0⟩,
    ⟨27, 1, .ro, .l, 0⟩,
    ⟨28, 4, .ro, .l, 0⟩]⟩
def fPANE_CHG_FRAME (i : Nat) : Fld := ⟨0x0221003C + 0x40 * i, 0, 24⟩
def fPANE_CAP_VALID (i : Nat) : Fld := ⟨0x0221003C + 0x40 * i, 27, 1⟩
def fPANE_INV_CODE (i : Nat) : Fld := ⟨0x0221003C + 0x40 * i, 28, 4⟩

/-- PIX_CFG (R175, 04_pixel_pipeline.md). -/
def regPIX_CFG : RegRow := ⟨0x02400000, 0x100, 16, 0x0, 1, [
    ⟨17, 1, .rw, .s, 0⟩,
    ⟨18, 1, .rw, .s, 0⟩,
    ⟨19, 1, .rw, .s, 0⟩,
    ⟨20, 4, .rw, .s, 8⟩,
    ⟨24, 2, .rw, .s, 0⟩,
    ⟨26, 1, .rw, .s, 0⟩,
    ⟨27, 1, .rw, .s, 0⟩,
    ⟨28, 1, .rw, .s, 0⟩,
    ⟨29, 1, .rw, .s, 0⟩,
    ⟨30, 1, .rw, .s, 0⟩,
    ⟨31, 1, .rw, .s, 0⟩]⟩
def fPIX_CFG_NOISE_BANK (i : Nat) : Fld := ⟨0x02400000 + 0x100 * i, 17, 1⟩
def fPIX_CFG_OD_BANK (i : Nat) : Fld := ⟨0x02400000 + 0x100 * i, 18, 1⟩
def fPIX_CFG_GAM_BANK (i : Nat) : Fld := ⟨0x02400000 + 0x100 * i, 19, 1⟩
def fPIX_CFG_DEPTH (i : Nat) : Fld := ⟨0x02400000 + 0x100 * i, 20, 4⟩
def fPIX_CFG_DMODE (i : Nat) : Fld := ⟨0x02400000 + 0x100 * i, 24, 2⟩
def fPIX_CFG_OD_EN (i : Nat) : Fld := ⟨0x02400000 + 0x100 * i, 26, 1⟩
def fPIX_CFG_DEF_EN (i : Nat) : Fld := ⟨0x02400000 + 0x100 * i, 27, 1⟩
def fPIX_CFG_AGE_EN (i : Nat) : Fld := ⟨0x02400000 + 0x100 * i, 28, 1⟩
def fPIX_CFG_DMU_EN (i : Nat) : Fld := ⟨0x02400000 + 0x100 * i, 29, 1⟩
def fPIX_CFG_GAM_EN (i : Nat) : Fld := ⟨0x02400000 + 0x100 * i, 30, 1⟩
def fPIX_CFG_DEGAM_EN (i : Nat) : Fld := ⟨0x02400000 + 0x100 * i, 31, 1⟩

/-- PIX_LB (R176, 04_pixel_pipeline.md). -/
def regPIX_LB : RegRow := ⟨0x02400008, 0x100, 16, 0x0, 1, [
    ⟨0, 8, .rw, .h, 0⟩,
    ⟨16, 9, .rw, .h, 16⟩]⟩
def fPIX_LB_FIRST (i : Nat) : Fld := ⟨0x02400008 + 0x100 * i, 0, 8⟩
def fPIX_LB_COUNT (i : Nat) : Fld := ⟨0x02400008 + 0x100 * i, 16, 9⟩

/-- PIX_DMU_BASE (R177, 04_pixel_pipeline.md). -/
def regPIX_DMU_BASE : RegRow := ⟨0x02400010, 0x100, 16, 0x0, 1, [
    ⟨0, 28, .rw, .s, 0⟩]⟩
def fPIX_DMU_BASE_GRAN (i : Nat) : Fld := ⟨0x02400010 + 0x100 * i, 0, 28⟩

/-- PIX_DMU_GEOM (R178, 04_pixel_pipeline.md). -/
def regPIX_DMU_GEOM : RegRow := ⟨0x02400014, 0x100, 16, 0x0, 1, [
    ⟨0, 16, .rw, .s, 0⟩,
    ⟨16, 2, .rw, .s, 2⟩]⟩
def fPIX_DMU_GEOM_PITCH (i : Nat) : Fld := ⟨0x02400014 + 0x100 * i, 0, 16⟩
def fPIX_DMU_GEOM_BLK (i : Nat) : Fld := ⟨0x02400014 + 0x100 * i, 16, 2⟩

/-- PIX_AGE_BASE (R179, 04_pixel_pipeline.md). -/
def regPIX_AGE_BASE : RegRow := ⟨0x02400018, 0x100, 16, 0x0, 1, [
    ⟨0, 28, .rw, .s, 0⟩]⟩
def fPIX_AGE_BASE_GRAN (i : Nat) : Fld := ⟨0x02400018 + 0x100 * i, 0, 28⟩

/-- PIX_AGE_GEOM (R179, 04_pixel_pipeline.md). -/
def regPIX_AGE_GEOM : RegRow := ⟨0x0240001C, 0x100, 16, 0x0, 1, [
    ⟨0, 16, .rw, .s, 0⟩,
    ⟨16, 2, .rw, .s, 2⟩]⟩
def fPIX_AGE_GEOM_PITCH (i : Nat) : Fld := ⟨0x0240001C + 0x100 * i, 0, 16⟩
def fPIX_AGE_GEOM_BLK (i : Nat) : Fld := ⟨0x0240001C + 0x100 * i, 16, 2⟩

/-- PIX_HIST_BASE (R180, 04_pixel_pipeline.md). -/
def regPIX_HIST_BASE : RegRow := ⟨0x02400020, 0x100, 16, 0x0, 1, [
    ⟨0, 28, .rw, .s, 0⟩]⟩
def fPIX_HIST_BASE_GRAN (i : Nat) : Fld := ⟨0x02400020 + 0x100 * i, 0, 28⟩

/-- PIX_HIST_GEOM (R181, 04_pixel_pipeline.md). -/
def regPIX_HIST_GEOM : RegRow := ⟨0x02400024, 0x100, 16, 0x0, 1, [
    ⟨0, 16, .rw, .s, 0⟩,
    ⟨16, 12, .rw, .s, 512⟩]⟩
def fPIX_HIST_GEOM_PITCH (i : Nat) : Fld := ⟨0x02400024 + 0x100 * i, 0, 16⟩
def fPIX_HIST_GEOM_EDGE_THR (i : Nat) : Fld := ⟨0x02400024 + 0x100 * i, 16, 12⟩

/-- PIX_OD_TEMP (R182, 04_pixel_pipeline.md). -/
def regPIX_OD_TEMP : RegRow := ⟨0x02400030, 0x100, 16, 0x0, 1, [
    ⟨0, 16, .rw, .l, 400⟩,
    ⟨16, 8, .rw, .s, 8⟩,
    ⟨31, 1, .rw, .s, 0⟩]⟩
def fPIX_OD_TEMP_TEMP (i : Nat) : Fld := ⟨0x02400030 + 0x100 * i, 0, 16⟩
def fPIX_OD_TEMP_HYST (i : Nat) : Fld := ⟨0x02400030 + 0x100 * i, 16, 8⟩
def fPIX_OD_TEMP_SRC (i : Nat) : Fld := ⟨0x02400030 + 0x100 * i, 31, 1⟩

/-- PIX_OD_TH (R183, 04_pixel_pipeline.md). -/
def regPIX_OD_TH : RegRow := ⟨0x02400034, 0x100, 16, 0x4, 7, [
    ⟨0, 16, .rw, .s, 32767⟩]⟩
def fPIX_OD_TH_TH (i : Nat) (j : Nat) : Fld := ⟨0x02400034 + 0x100 * i + 0x4 * j, 0, 16⟩

/-- PIX_STATUS (R184, 04_pixel_pipeline.md). -/
def regPIX_STATUS : RegRow := ⟨0x02400050, 0x100, 16, 0x0, 1, [
    ⟨0, 16, .ro, .l, 0⟩,
    ⟨16, 3, .ro, .l, 0⟩,
    ⟨20, 2, .ro, .l, 0⟩,
    ⟨22, 2, .ro, .l, 0⟩,
    ⟨24, 2, .ro, .l, 0⟩,
    ⟨26, 3, .ro, .l, 0⟩,
    ⟨30, 1, .ro, .l, 0⟩,
    ⟨31, 1, .ro, .l, 0⟩]⟩
def fPIX_STATUS_THETA (i : Nat) : Fld := ⟨0x02400050 + 0x100 * i, 0, 16⟩
def fPIX_STATUS_INV (i : Nat) : Fld := ⟨0x02400050 + 0x100 * i, 16, 3⟩
def fPIX_STATUS_NOISE_LD (i : Nat) : Fld := ⟨0x02400050 + 0x100 * i, 20, 2⟩
def fPIX_STATUS_OD_LD (i : Nat) : Fld := ⟨0x02400050 + 0x100 * i, 22, 2⟩
def fPIX_STATUS_GAM_LD (i : Nat) : Fld := ⟨0x02400050 + 0x100 * i, 24, 2⟩
def fPIX_STATUS_BAND (i : Nat) : Fld := ⟨0x02400050 + 0x100 * i, 26, 3⟩
def fPIX_STATUS_TEMP_STALE (i : Nat) : Fld := ⟨0x02400050 + 0x100 * i, 30, 1⟩
def fPIX_STATUS_HIST_VALID (i : Nat) : Fld := ⟨0x02400050 + 0x100 * i, 31, 1⟩

/-- PIX_TLD_CTRL (R185, 04_pixel_pipeline.md). -/
def regPIX_TLD_CTRL : RegRow := ⟨0x02401000, 0x0, 1, 0x0, 1, [
    ⟨16, 1, .rw, .l, 0⟩,
    ⟨20, 2, .rw, .l, 0⟩,
    ⟨24, 4, .rw, .l, 0⟩,
    ⟨30, 1, .rw, .l, 0⟩,
    ⟨31, 1, .wo, .l, 0⟩]⟩
def fPIX_TLD_CTRL_BANK : Fld := ⟨0x02401000, 16, 1⟩
def fPIX_TLD_CTRL_KIND : Fld := ⟨0x02401000, 20, 2⟩
def fPIX_TLD_CTRL_GROUP : Fld := ⟨0x02401000, 24, 4⟩
def fPIX_TLD_CTRL_DIR : Fld := ⟨0x02401000, 30, 1⟩
def fPIX_TLD_CTRL_GO : Fld := ⟨0x02401000, 31, 1⟩

/-- PIX_TLD_SRC (R186, 04_pixel_pipeline.md). -/
def regPIX_TLD_SRC : RegRow := ⟨0x02401004, 0x0, 1, 0x0, 1, [
    ⟨0, 28, .rw, .l, 0⟩]⟩
def fPIX_TLD_SRC_GRAN : Fld := ⟨0x02401004, 0, 28⟩

/-- PIX_TLD_STATUS (R187, 04_pixel_pipeline.md). -/
def regPIX_TLD_STATUS : RegRow := ⟨0x02401008, 0x0, 1, 0x0, 1, [
    ⟨0, 16, .ro, .l, 0⟩,
    ⟨24, 3, .ro, .l, 0⟩,
    ⟨30, 1, .w1c, .l, 0⟩,
    ⟨31, 1, .ro, .l, 0⟩]⟩
def fPIX_TLD_STATUS_ROUNDS : Fld := ⟨0x02401008, 0, 16⟩
def fPIX_TLD_STATUS_RESULT : Fld := ⟨0x02401008, 24, 3⟩
def fPIX_TLD_STATUS_REJECT : Fld := ⟨0x02401008, 30, 1⟩
def fPIX_TLD_STATUS_BUSY : Fld := ⟨0x02401008, 31, 1⟩

/-- DEF_WIN (R188, 04_pixel_pipeline.md). -/
def regDEF_WIN : RegRow := ⟨0x02600000, 0x4, 16, 0x0, 1, [
    ⟨0, 16, .rw, .s, 0⟩,
    ⟨16, 16, .rw, .s, 0⟩]⟩
def fDEF_WIN_FIRST (i : Nat) : Fld := ⟨0x02600000 + 0x4 * i, 0, 16⟩
def fDEF_WIN_LAST (i : Nat) : Fld := ⟨0x02600000 + 0x4 * i, 16, 16⟩

/-- DEF_SKIP_CNT (R189, 04_pixel_pipeline.md). -/
def regDEF_SKIP_CNT : RegRow := ⟨0x02600040, 0x4, 16, 0x0, 1, [
    ⟨0, 32, .rw, .l, 0⟩]⟩
def fDEF_SKIP_CNT_SKIPS (i : Nat) : Fld := ⟨0x02600040 + 0x4 * i, 0, 32⟩

/-- DEFE0 (R156, 04_pixel_pipeline.md). -/
def regDEFE0 : RegRow := ⟨0x02700000, 0x10, 65536, 0x0, 1, [
    ⟨0, 14, .rw, .h, 0⟩,
    ⟨20, 2, .rw, .h, 0⟩,
    ⟨22, 2, .rw, .h, 0⟩,
    ⟨24, 3, .rw, .h, 0⟩,
    ⟨27, 4, .rw, .h, 0⟩,
    ⟨31, 1, .rw, .h, 0⟩]⟩
def fDEFE_ARG (i : Nat) : Fld := ⟨0x02700000 + 0x10 * i, 0, 14⟩
def fDEFE_SUBC (i : Nat) : Fld := ⟨0x02700000 + 0x10 * i, 20, 2⟩
def fDEFE_ACTION (i : Nat) : Fld := ⟨0x02700000 + 0x10 * i, 22, 2⟩
def fDEFE_KIND (i : Nat) : Fld := ⟨0x02700000 + 0x10 * i, 24, 3⟩
def fDEFE_GROUP (i : Nat) : Fld := ⟨0x02700000 + 0x10 * i, 27, 4⟩
def fDEFE_VALID (i : Nat) : Fld := ⟨0x02700000 + 0x10 * i, 31, 1⟩

/-- DEFE1 (R156, 04_pixel_pipeline.md). -/
def regDEFE1 : RegRow := ⟨0x02700004, 0x10, 65536, 0x0, 1, [
    ⟨0, 16, .rw, .h, 0⟩,
    ⟨16, 16, .rw, .h, 0⟩]⟩
def fDEFE_COL (i : Nat) : Fld := ⟨0x02700004 + 0x10 * i, 0, 16⟩
def fDEFE_LINE (i : Nat) : Fld := ⟨0x02700004 + 0x10 * i, 16, 16⟩

/-- DEFE2 (R156, 04_pixel_pipeline.md). -/
def regDEFE2 : RegRow := ⟨0x02700008, 0x10, 65536, 0x0, 1, [
    ⟨0, 32, .rw, .h, 0⟩]⟩
def fDEFE_EXT_MASK_LO (i : Nat) : Fld := ⟨0x02700008 + 0x10 * i, 0, 32⟩

/-- DEFE3 (R156, 04_pixel_pipeline.md). -/
def regDEFE3 : RegRow := ⟨0x0270000C, 0x10, 65536, 0x0, 1, [
    ⟨0, 32, .rw, .h, 0⟩]⟩
def fDEFE_MASK_HI (i : Nat) : Fld := ⟨0x0270000C + 0x10 * i, 0, 32⟩

/-- SQR_CTRL (R292, 06_thoene_isa.md). -/
def regSQR_CTRL : RegRow := ⟨0x02800000, 0x100, 65, 0x0, 1, [
    ⟨0, 1, .wo, .l, 0⟩,
    ⟨1, 1, .wo, .l, 0⟩,
    ⟨2, 1, .rw, .l, 0⟩,
    ⟨16, 16, .rw, .l, 0⟩]⟩
def fSQR_CTRL_RUN (i : Nat) : Fld := ⟨0x02800000 + 0x100 * i, 0, 1⟩
def fSQR_CTRL_STOP (i : Nat) : Fld := ⟨0x02800000 + 0x100 * i, 1, 1⟩
def fSQR_CTRL_ARM (i : Nat) : Fld := ⟨0x02800000 + 0x100 * i, 2, 1⟩
def fSQR_CTRL_START_W (i : Nat) : Fld := ⟨0x02800000 + 0x100 * i, 16, 16⟩

/-- SQR_STATUS (R293, 06_thoene_isa.md). -/
def regSQR_STATUS : RegRow := ⟨0x02800004, 0x100, 65, 0x0, 1, [
    ⟨0, 16, .ro, .l, 0⟩,
    ⟨20, 4, .ro, .l, 0⟩,
    ⟨24, 4, .ro, .l, 0⟩,
    ⟨28, 1, .ro, .l, 0⟩,
    ⟨29, 3, .ro, .l, 0⟩]⟩
def fSQR_STATUS_PC_W (i : Nat) : Fld := ⟨0x02800004 + 0x100 * i, 0, 16⟩
def fSQR_STATUS_RSD (i : Nat) : Fld := ⟨0x02800004 + 0x100 * i, 20, 4⟩
def fSQR_STATUS_CAUSE (i : Nat) : Fld := ⟨0x02800004 + 0x100 * i, 24, 4⟩
def fSQR_STATUS_PFV (i : Nat) : Fld := ⟨0x02800004 + 0x100 * i, 28, 1⟩
def fSQR_STATUS_STATE (i : Nat) : Fld := ⟨0x02800004 + 0x100 * i, 29, 3⟩

/-- SQR_CFG (R294, 06_thoene_isa.md). -/
def regSQR_CFG : RegRow := ⟨0x02800008, 0x100, 65, 0x0, 1, [
    ⟨26, 1, .rw, .l, 0⟩,
    ⟨27, 1, .rw, .l, 0⟩,
    ⟨28, 4, .rw, .h, 0⟩]⟩
def fSQR_CFG_RESTART (i : Nat) : Fld := ⟨0x02800008 + 0x100 * i, 26, 1⟩
def fSQR_CFG_PF_EN (i : Nat) : Fld := ⟨0x02800008 + 0x100 * i, 27, 1⟩
def fSQR_CFG_GROUP (i : Nat) : Fld := ⟨0x02800008 + 0x100 * i, 28, 4⟩

/-- SQR_VEC (R295, 06_thoene_isa.md). -/
def regSQR_VEC : RegRow := ⟨0x0280000C, 0x100, 65, 0x0, 1, [
    ⟨0, 16, .rw, .l, 0⟩,
    ⟨16, 16, .rw, .l, 0⟩]⟩
def fSQR_VEC_PF_W (i : Nat) : Fld := ⟨0x0280000C + 0x100 * i, 0, 16⟩
def fSQR_VEC_FAULT_W (i : Nat) : Fld := ⟨0x0280000C + 0x100 * i, 16, 16⟩

/-- SQR_WDOG (R296, 06_thoene_isa.md). -/
def regSQR_WDOG : RegRow := ⟨0x02800010, 0x100, 65, 0x0, 1, [
    ⟨0, 16, .rw, .l, 256⟩]⟩
def fSQR_WDOG_LIMIT (i : Nat) : Fld := ⟨0x02800010 + 0x100 * i, 0, 16⟩

/-- SQR_FAULT (R297, 06_thoene_isa.md). -/
def regSQR_FAULT : RegRow := ⟨0x02800014, 0x100, 65, 0x0, 1, [
    ⟨0, 16, .ro, .l, 0⟩,
    ⟨24, 4, .ro, .l, 0⟩,
    ⟨31, 1, .w1c, .l, 0⟩]⟩
def fSQR_FAULT_PC_W (i : Nat) : Fld := ⟨0x02800014 + 0x100 * i, 0, 16⟩
def fSQR_FAULT_CAUSE (i : Nat) : Fld := ⟨0x02800014 + 0x100 * i, 24, 4⟩
def fSQR_FAULT_VALID (i : Nat) : Fld := ⟨0x02800014 + 0x100 * i, 31, 1⟩

/-- SQR_FAULT_INSN (R298, 06_thoene_isa.md). -/
def regSQR_FAULT_INSN : RegRow := ⟨0x02800018, 0x100, 65, 0x0, 1, [
    ⟨0, 32, .ro, .l, 0⟩]⟩
def fSQR_FAULT_INSN_INSN (i : Nat) : Fld := ⟨0x02800018 + 0x100 * i, 0, 32⟩

/-- SQR_MBOX (R299, 06_thoene_isa.md). -/
def regSQR_MBOX : RegRow := ⟨0x02800020, 0x100, 65, 0x0, 1, [
    ⟨0, 32, .rw, .l, 0⟩]⟩
def fSQR_MBOX_DATA (i : Nat) : Fld := ⟨0x02800020 + 0x100 * i, 0, 32⟩

/-- SQR_PEND (R300, 06_thoene_isa.md). -/
def regSQR_PEND : RegRow := ⟨0x02800024, 0x100, 65, 0x0, 1, [
    ⟨0, 12, .ro, .l, 0⟩]⟩
def fSQR_PEND_PEND (i : Nat) : Fld := ⟨0x02800024 + 0x100 * i, 0, 12⟩

/-- SQR_LATE (R301, 06_thoene_isa.md). -/
def regSQR_LATE : RegRow := ⟨0x02800028, 0x100, 65, 0x0, 1, [
    ⟨0, 32, .rw, .l, 0⟩]⟩
def fSQR_LATE_EDGES (i : Nat) : Fld := ⟨0x02800028 + 0x100 * i, 0, 32⟩

/-- SQR_WSEL (R302, 06_thoene_isa.md). -/
def regSQR_WSEL : RegRow := ⟨0x02808000, 0x0, 1, 0x0, 1, [
    ⟨0, 7, .rw, .l, 0⟩]⟩
def fSQR_WSEL_CORE : Fld := ⟨0x02808000, 0, 7⟩

/-- SQR_SWAP_LO (R695, 15_startup_live_update.md). -/
def regSQR_SWAP_LO : RegRow := ⟨0x02809000, 0x10, 16, 0x0, 1, [
    ⟨0, 32, .rw, .s, 0⟩]⟩
def fSQR_SWAP_LO_NEW (i : Nat) : Fld := ⟨0x02809000 + 0x10 * i, 0, 32⟩

/-- SQR_SWAP_HI (R695, 15_startup_live_update.md). -/
def regSQR_SWAP_HI : RegRow := ⟨0x02809004, 0x10, 16, 0x0, 1, [
    ⟨0, 32, .rw, .s, 0⟩]⟩
def fSQR_SWAP_HI_NEW (i : Nat) : Fld := ⟨0x02809004 + 0x10 * i, 0, 32⟩

/-- SQR_SWAP_CTL (R696, 15_startup_live_update.md). -/
def regSQR_SWAP_CTL : RegRow := ⟨0x02809008, 0x10, 16, 0x0, 1, [
    ⟨0, 16, .ro, .l, 0⟩,
    ⟨31, 1, .rw, .s, 0⟩]⟩
def fSQR_SWAP_CTL_SWAPS (i : Nat) : Fld := ⟨0x02809008 + 0x10 * i, 0, 16⟩
def fSQR_SWAP_CTL_SQA (i : Nat) : Fld := ⟨0x02809008 + 0x10 * i, 31, 1⟩

/-- LNK_CFG (R408, 08_driver_chains.md). -/
def regLNK_CFG : RegRow := ⟨0x02A00000, 0x40, 272, 0x0, 1, [
    ⟨15, 5, .rw, .h, 0⟩,
    ⟨20, 4, .rw, .h, 7⟩,
    ⟨24, 1, .rw, .l, 0⟩,
    ⟨25, 1, .rw, .l, 0⟩,
    ⟨26, 1, .rw, .l, 0⟩,
    ⟨27, 1, .rw, .l, 0⟩,
    ⟨28, 1, .rw, .l, 1⟩,
    ⟨29, 2, .rw, .h, 0⟩,
    ⟨31, 1, .rw, .l, 0⟩]⟩
def fLNK_CFG_EXPECT (i : Nat) : Fld := ⟨0x02A00000 + 0x40 * i, 15, 5⟩
def fLNK_CFG_QDEPTH (i : Nat) : Fld := ⟨0x02A00000 + 0x40 * i, 20, 4⟩
def fLNK_CFG_UPQ_SNS (i : Nat) : Fld := ⟨0x02A00000 + 0x40 * i, 24, 1⟩
def fLNK_CFG_RXSLEEP (i : Nat) : Fld := ⟨0x02A00000 + 0x40 * i, 25, 1⟩
def fLNK_CFG_TXSLEEP (i : Nat) : Fld := ⟨0x02A00000 + 0x40 * i, 26, 1⟩
def fLNK_CFG_AUTOSLEEP (i : Nat) : Fld := ⟨0x02A00000 + 0x40 * i, 27, 1⟩
def fLNK_CFG_AUTO_SPARE (i : Nat) : Fld := ⟨0x02A00000 + 0x40 * i, 28, 1⟩
def fLNK_CFG_RATE (i : Nat) : Fld := ⟨0x02A00000 + 0x40 * i, 29, 2⟩
def fLNK_CFG_EN (i : Nat) : Fld := ⟨0x02A00000 + 0x40 * i, 31, 1⟩

/-- LNK_EQ (R409, 08_driver_chains.md). -/
def regLNK_EQ : RegRow := ⟨0x02A00004, 0x40, 272, 0x0, 1, [
    ⟨0, 4, .rw, .h, 0⟩,
    ⟨8, 6, .rw, .h, 0⟩,
    ⟨16, 5, .rw, .h, 0⟩,
    ⟨24, 6, .rw, .h, 47⟩]⟩
def fLNK_EQ_RXPRESET (i : Nat) : Fld := ⟨0x02A00004 + 0x40 * i, 0, 4⟩
def fLNK_EQ_POST (i : Nat) : Fld := ⟨0x02A00004 + 0x40 * i, 8, 6⟩
def fLNK_EQ_PRE (i : Nat) : Fld := ⟨0x02A00004 + 0x40 * i, 16, 5⟩
def fLNK_EQ_AMP (i : Nat) : Fld := ⟨0x02A00004 + 0x40 * i, 24, 6⟩

/-- LNK_STATUS (R410, 08_driver_chains.md). -/
def regLNK_STATUS : RegRow := ⟨0x02A00008, 0x40, 272, 0x0, 1, [
    ⟨9, 1, .ro, .l, 0⟩,
    ⟨10, 10, .ro, .l, 0⟩,
    ⟨20, 5, .ro, .l, 0⟩,
    ⟨25, 1, .ro, .l, 0⟩,
    ⟨26, 1, .ro, .l, 0⟩,
    ⟨27, 1, .ro, .l, 0⟩,
    ⟨28, 1, .ro, .l, 0⟩,
    ⟨29, 3, .ro, .l, 0⟩]⟩
def fLNK_STATUS_TXFAULT (i : Nat) : Fld := ⟨0x02A00008 + 0x40 * i, 9, 1⟩
def fLNK_STATUS_RING_LAT (i : Nat) : Fld := ⟨0x02A00008 + 0x40 * i, 10, 10⟩
def fLNK_STATUS_PARTNERS (i : Nat) : Fld := ⟨0x02A00008 + 0x40 * i, 20, 5⟩
def fLNK_STATUS_SPARE_ACT (i : Nat) : Fld := ⟨0x02A00008 + 0x40 * i, 25, 1⟩
def fLNK_STATUS_RX_ASLEEP (i : Nat) : Fld := ⟨0x02A00008 + 0x40 * i, 26, 1⟩
def fLNK_STATUS_TX_ASLEEP (i : Nat) : Fld := ⟨0x02A00008 + 0x40 * i, 27, 1⟩
def fLNK_STATUS_BLOCK_LOCK (i : Nat) : Fld := ⟨0x02A00008 + 0x40 * i, 28, 1⟩
def fLNK_STATUS_STATE (i : Nat) : Fld := ⟨0x02A00008 + 0x40 * i, 29, 3⟩

/-- LNK_ERR (R411, 08_driver_chains.md). -/
def regLNK_ERR : RegRow := ⟨0x02A0000C, 0x40, 272, 0x0, 1, [
    ⟨0, 12, .rw, .l, 0⟩,
    ⟨12, 12, .rw, .l, 0⟩,
    ⟨24, 8, .rw, .l, 0⟩]⟩
def fLNK_ERR_BLK (i : Nat) : Fld := ⟨0x02A0000C + 0x40 * i, 0, 12⟩
def fLNK_ERR_CRC (i : Nat) : Fld := ⟨0x02A0000C + 0x40 * i, 12, 12⟩
def fLNK_ERR_UNCLAIMED (i : Nat) : Fld := ⟨0x02A0000C + 0x40 * i, 24, 8⟩

/-- LNK_DLV (R412, 08_driver_chains.md). -/
def regLNK_DLV : RegRow := ⟨0x02A00010, 0x40, 272, 0x0, 1, [
    ⟨0, 8, .rw, .l, 0⟩,
    ⟨8, 8, .rw, .l, 0⟩,
    ⟨16, 16, .rw, .l, 0⟩]⟩
def fLNK_DLV_RETRIES (i : Nat) : Fld := ⟨0x02A00010 + 0x40 * i, 0, 8⟩
def fLNK_DLV_FAILS (i : Nat) : Fld := ⟨0x02A00010 + 0x40 * i, 8, 8⟩
def fLNK_DLV_PIXNAK (i : Nat) : Fld := ⟨0x02A00010 + 0x40 * i, 16, 16⟩

/-- LNK_TEST (R413, 08_driver_chains.md). -/
def regLNK_TEST : RegRow := ⟨0x02A00014, 0x40, 272, 0x0, 1, [
    ⟨26, 1, .ro, .l, 0⟩,
    ⟨27, 1, .rw, .h, 0⟩,
    ⟨28, 2, .rw, .h, 0⟩,
    ⟨30, 2, .rw, .h, 0⟩]⟩
def fLNK_TEST_CHK_LOCK (i : Nat) : Fld := ⟨0x02A00014 + 0x40 * i, 26, 1⟩
def fLNK_TEST_LOOP (i : Nat) : Fld := ⟨0x02A00014 + 0x40 * i, 27, 1⟩
def fLNK_TEST_POLY (i : Nat) : Fld := ⟨0x02A00014 + 0x40 * i, 28, 2⟩
def fLNK_TEST_MODE (i : Nat) : Fld := ⟨0x02A00014 + 0x40 * i, 30, 2⟩

/-- LNK_TEST_ERR (R414, 08_driver_chains.md). -/
def regLNK_TEST_ERR : RegRow := ⟨0x02A00018, 0x40, 272, 0x0, 1, [
    ⟨0, 32, .rw, .l, 0⟩]⟩
def fLNK_TEST_ERR_ERRORS (i : Nat) : Fld := ⟨0x02A00018 + 0x40 * i, 0, 32⟩

/-- LNK_INJ (R415, 08_driver_chains.md). -/
def regLNK_INJ : RegRow := ⟨0x02A0001C, 0x40, 272, 0x0, 1, [
    ⟨0, 24, .rw, .l, 0⟩,
    ⟨24, 5, .rw, .l, 0⟩,
    ⟨29, 2, .rw, .l, 0⟩,
    ⟨31, 1, .wo, .l, 0⟩]⟩
def fLNK_INJ_PERIOD (i : Nat) : Fld := ⟨0x02A0001C + 0x40 * i, 0, 24⟩
def fLNK_INJ_BURST (i : Nat) : Fld := ⟨0x02A0001C + 0x40 * i, 24, 5⟩
def fLNK_INJ_KIND (i : Nat) : Fld := ⟨0x02A0001C + 0x40 * i, 29, 2⟩
def fLNK_INJ_GO (i : Nat) : Fld := ⟨0x02A0001C + 0x40 * i, 31, 1⟩

/-- LNK_CMD (R416, 08_driver_chains.md). -/
def regLNK_CMD : RegRow := ⟨0x02A00020, 0x40, 272, 0x0, 1, [
    ⟨0, 16, .wo, .l, 0⟩,
    ⟨31, 1, .wo, .l, 0⟩]⟩
def fLNK_CMD_FLUSH (i : Nat) : Fld := ⟨0x02A00020 + 0x40 * i, 0, 16⟩
def fLNK_CMD_ENUM (i : Nat) : Fld := ⟨0x02A00020 + 0x40 * i, 31, 1⟩

/-- LNK_GRP (R417, 08_driver_chains.md). -/
def regLNK_GRP : RegRow := ⟨0x02A10000, 0x20, 16, 0x0, 1, [
    ⟨0, 8, .rw, .h, 0⟩,
    ⟨16, 9, .rw, .h, 16⟩]⟩
def fLNK_GRP_FIRST (i : Nat) : Fld := ⟨0x02A10000 + 0x20 * i, 0, 8⟩
def fLNK_GRP_COUNT (i : Nat) : Fld := ⟨0x02A10000 + 0x20 * i, 16, 9⟩

/-- LNK_UPQ_HDR (R418, 08_driver_chains.md). -/
def regLNK_UPQ_HDR : RegRow := ⟨0x02A10004, 0x20, 16, 0x0, 1, [
    ⟨0, 12, .ro, .l, 0⟩,
    ⟨12, 8, .ro, .l, 0⟩,
    ⟨20, 7, .ro, .l, 0⟩,
    ⟨27, 4, .ro, .l, 0⟩,
    ⟨31, 1, .ro, .l, 0⟩]⟩
def fLNK_UPQ_HDR_PID (i : Nat) : Fld := ⟨0x02A10004 + 0x20 * i, 0, 12⟩
def fLNK_UPQ_HDR_SEQ (i : Nat) : Fld := ⟨0x02A10004 + 0x20 * i, 12, 8⟩
def fLNK_UPQ_HDR_NWORDS (i : Nat) : Fld := ⟨0x02A10004 + 0x20 * i, 20, 7⟩
def fLNK_UPQ_HDR_TYPE (i : Nat) : Fld := ⟨0x02A10004 + 0x20 * i, 27, 4⟩
def fLNK_UPQ_HDR_VALID (i : Nat) : Fld := ⟨0x02A10004 + 0x20 * i, 31, 1⟩

/-- LNK_UPQ_DATA (R419, 08_driver_chains.md). -/
def regLNK_UPQ_DATA : RegRow := ⟨0x02A10008, 0x20, 16, 0x0, 1, [
    ⟨0, 32, .ro, .l, 0⟩]⟩
def fLNK_UPQ_DATA_DATA (i : Nat) : Fld := ⟨0x02A10008 + 0x20 * i, 0, 32⟩

/-- LNK_UPQ_CTRL (R420, 08_driver_chains.md). -/
def regLNK_UPQ_CTRL : RegRow := ⟨0x02A1000C, 0x20, 16, 0x0, 1, [
    ⟨0, 16, .ro, .l, 0⟩,
    ⟨29, 1, .w1c, .l, 0⟩,
    ⟨30, 1, .w1c, .l, 0⟩,
    ⟨31, 1, .wo, .l, 0⟩]⟩
def fLNK_UPQ_CTRL_COUNT (i : Nat) : Fld := ⟨0x02A1000C + 0x20 * i, 0, 16⟩
def fLNK_UPQ_CTRL_UNDER (i : Nat) : Fld := ⟨0x02A1000C + 0x20 * i, 29, 1⟩
def fLNK_UPQ_CTRL_OVF (i : Nat) : Fld := ⟨0x02A1000C + 0x20 * i, 30, 1⟩
def fLNK_UPQ_CTRL_POP (i : Nat) : Fld := ⟨0x02A1000C + 0x20 * i, 31, 1⟩

/-- LNK_SPARE (R421, 08_driver_chains.md). -/
def regLNK_SPARE : RegRow := ⟨0x02A20000, 0x4, 16, 0x0, 1, [
    ⟨0, 16, .rw, .h, 0⟩,
    ⟨16, 4, .rw, .l, 0⟩,
    ⟨23, 5, .rw, .h, 0⟩,
    ⟨28, 1, .rw, .h, 0⟩,
    ⟨29, 1, .ro, .l, 0⟩,
    ⟨30, 1, .wo, .l, 0⟩,
    ⟨31, 1, .wo, .l, 0⟩]⟩
def fLNK_SPARE_PROT (i : Nat) : Fld := ⟨0x02A20000 + 0x4 * i, 0, 16⟩
def fLNK_SPARE_CHAIN (i : Nat) : Fld := ⟨0x02A20000 + 0x4 * i, 16, 4⟩
def fLNK_SPARE_GPIO (i : Nat) : Fld := ⟨0x02A20000 + 0x4 * i, 23, 5⟩
def fLNK_SPARE_GPIO_EN (i : Nat) : Fld := ⟨0x02A20000 + 0x4 * i, 28, 1⟩
def fLNK_SPARE_ACTIVE (i : Nat) : Fld := ⟨0x02A20000 + 0x4 * i, 29, 1⟩
def fLNK_SPARE_RELEASE (i : Nat) : Fld := ⟨0x02A20000 + 0x4 * i, 30, 1⟩
def fLNK_SPARE_FORCE (i : Nat) : Fld := ⟨0x02A20000 + 0x4 * i, 31, 1⟩

/-- SLT_CFG (R422, 08_driver_chains.md). -/
def regSLT_CFG : RegRow := ⟨0x02C00000, 0x4, 256, 0x0, 1, [
    ⟨0, 7, .rw, .s, 0⟩,
    ⟨15, 1, .rw, .s, 0⟩,
    ⟨16, 16, .rw, .s, 0⟩]⟩
def fSLT_CFG_NSLOT (i : Nat) : Fld := ⟨0x02C00000 + 0x4 * i, 0, 7⟩
def fSLT_CFG_LINE_SWAP (i : Nat) : Fld := ⟨0x02C00000 + 0x4 * i, 15, 1⟩
def fSLT_CFG_EPOCH_LINE (i : Nat) : Fld := ⟨0x02C00000 + 0x4 * i, 16, 16⟩

/-- SLT_ACT (R423, 08_driver_chains.md). -/
def regSLT_ACT : RegRow := ⟨0x02C00400, 0x4, 256, 0x0, 1, [
    ⟨0, 7, .ro, .l, 0⟩,
    ⟨30, 1, .ro, .l, 0⟩,
    ⟨31, 1, .ro, .l, 0⟩]⟩
def fSLT_ACT_NSLOT (i : Nat) : Fld := ⟨0x02C00400 + 0x4 * i, 0, 7⟩
def fSLT_ACT_STARVED (i : Nat) : Fld := ⟨0x02C00400 + 0x4 * i, 30, 1⟩
def fSLT_ACT_PEND (i : Nat) : Fld := ⟨0x02C00400 + 0x4 * i, 31, 1⟩

/-- SLTA0 (R400, 08_driver_chains.md). -/
def regSLTA0 : RegRow := ⟨0x02C10000, 0x200, 256, 0x8, 64, [
    ⟨0, 12, .rw, .h, 0⟩,
    ⟨18, 6, .rw, .h, 0⟩,
    ⟨24, 3, .rw, .h, 0⟩,
    ⟨28, 4, .rw, .h, 0⟩]⟩
def fSLTA_LEN (i : Nat) (j : Nat) : Fld := ⟨0x02C10000 + 0x200 * i + 0x8 * j, 0, 12⟩
def fSLTA_RESV (i : Nat) (j : Nat) : Fld := ⟨0x02C10000 + 0x200 * i + 0x8 * j, 18, 6⟩
def fSLTA_KIND (i : Nat) (j : Nat) : Fld := ⟨0x02C10000 + 0x200 * i + 0x8 * j, 24, 3⟩
def fSLTA_PARTNER (i : Nat) (j : Nat) : Fld := ⟨0x02C10000 + 0x200 * i + 0x8 * j, 28, 4⟩

/-- SLTA1 (R400, 08_driver_chains.md). -/
def regSLTA1 : RegRow := ⟨0x02C10004, 0x200, 256, 0x8, 64, [
    ⟨0, 16, .rw, .h, 0⟩,
    ⟨16, 16, .rw, .h, 0⟩]⟩
def fSLTA_COL0 (i : Nat) (j : Nat) : Fld := ⟨0x02C10004 + 0x200 * i + 0x8 * j, 0, 16⟩
def fSLTA_NCOL (i : Nat) (j : Nat) : Fld := ⟨0x02C10004 + 0x200 * i + 0x8 * j, 16, 16⟩

/-- SLTS0 (R400, 08_driver_chains.md). -/
def regSLTS0 : RegRow := ⟨0x02C30000, 0x200, 256, 0x8, 64, [
    ⟨0, 12, .rw, .s, 0⟩,
    ⟨18, 6, .rw, .s, 0⟩,
    ⟨24, 3, .rw, .s, 0⟩,
    ⟨28, 4, .rw, .s, 0⟩]⟩
def fSLTS_LEN (i : Nat) (j : Nat) : Fld := ⟨0x02C30000 + 0x200 * i + 0x8 * j, 0, 12⟩
def fSLTS_RESV (i : Nat) (j : Nat) : Fld := ⟨0x02C30000 + 0x200 * i + 0x8 * j, 18, 6⟩
def fSLTS_KIND (i : Nat) (j : Nat) : Fld := ⟨0x02C30000 + 0x200 * i + 0x8 * j, 24, 3⟩
def fSLTS_PARTNER (i : Nat) (j : Nat) : Fld := ⟨0x02C30000 + 0x200 * i + 0x8 * j, 28, 4⟩

/-- SLTS1 (R400, 08_driver_chains.md). -/
def regSLTS1 : RegRow := ⟨0x02C30004, 0x200, 256, 0x8, 64, [
    ⟨0, 16, .rw, .s, 0⟩,
    ⟨16, 16, .rw, .s, 0⟩]⟩
def fSLTS_COL0 (i : Nat) (j : Nat) : Fld := ⟨0x02C30004 + 0x200 * i + 0x8 * j, 0, 16⟩
def fSLTS_NCOL (i : Nat) (j : Nat) : Fld := ⟨0x02C30004 + 0x200 * i + 0x8 * j, 16, 16⟩

/-- DRV_CTRL (R465, 09_panel_drive_bistable.md). -/
def regDRV_CTRL : RegRow := ⟨0x02E00000, 0x100, 16, 0x0, 1, [
    ⟨0, 1, .rw, .l, 0⟩]⟩
def fDRV_CTRL_PWR (i : Nat) : Fld := ⟨0x02E00000 + 0x100 * i, 0, 1⟩

/-- DRV_MODE (R466, 09_panel_drive_bistable.md). -/
def regDRV_MODE : RegRow := ⟨0x02E00004, 0x100, 16, 0x0, 1, [
    ⟨0, 12, .rw, .s, 64⟩,
    ⟨20, 1, .rw, .s, 0⟩,
    ⟨21, 5, .rw, .s, 0⟩,
    ⟨26, 1, .rw, .s, 0⟩,
    ⟨27, 2, .rw, .s, 0⟩,
    ⟨29, 3, .rw, .s, 0⟩]⟩
def fDRV_MODE_TRIM_MAX (i : Nat) : Fld := ⟨0x02E00004 + 0x100 * i, 0, 12⟩
def fDRV_MODE_TRIM_EN (i : Nat) : Fld := ⟨0x02E00004 + 0x100 * i, 20, 1⟩
def fDRV_MODE_NCM1 (i : Nat) : Fld := ⟨0x02E00004 + 0x100 * i, 21, 5⟩
def fDRV_MODE_DRIVE (i : Nat) : Fld := ⟨0x02E00004 + 0x100 * i, 26, 1⟩
def fDRV_MODE_INV (i : Nat) : Fld := ⟨0x02E00004 + 0x100 * i, 27, 2⟩
def fDRV_MODE_TECH (i : Nat) : Fld := ⟨0x02E00004 + 0x100 * i, 29, 3⟩

/-- DRV_STATUS (R467, 09_panel_drive_bistable.md). -/
def regDRV_STATUS : RegRow := ⟨0x02E00008, 0x100, 16, 0x0, 1, [
    ⟨20, 1, .ro, .l, 0⟩,
    ⟨21, 3, .ro, .l, 0⟩,
    ⟨24, 8, .ro, .l, 0⟩]⟩
def fDRV_STATUS_DISCH (i : Nat) : Fld := ⟨0x02E00008 + 0x100 * i, 20, 1⟩
def fDRV_STATUS_RSTATE (i : Nat) : Fld := ⟨0x02E00008 + 0x100 * i, 21, 3⟩
def fDRV_STATUS_CHK (i : Nat) : Fld := ⟨0x02E00008 + 0x100 * i, 24, 8⟩

/-- DRV_PHASE (R468, 09_panel_drive_bistable.md). -/
def regDRV_PHASE : RegRow := ⟨0x02E0000C, 0x100, 16, 0x0, 1, [
    ⟨0, 32, .ro, .l, 0⟩]⟩
def fDRV_PHASE_PHASE (i : Nat) : Fld := ⟨0x02E0000C + 0x100 * i, 0, 32⟩

/-- DRV_TEMP (R469, 09_panel_drive_bistable.md). -/
def regDRV_TEMP : RegRow := ⟨0x02E00010, 0x100, 16, 0x0, 1, [
    ⟨0, 16, .ro, .l, 0⟩,
    ⟨20, 7, .rw, .l, 0⟩,
    ⟨28, 2, .rw, .l, 0⟩,
    ⟨30, 1, .ro, .l, 0⟩,
    ⟨31, 1, .rw, .l, 0⟩]⟩
def fDRV_TEMP_TEMP (i : Nat) : Fld := ⟨0x02E00010 + 0x100 * i, 0, 16⟩
def fDRV_TEMP_ADDR (i : Nat) : Fld := ⟨0x02E00010 + 0x100 * i, 20, 7⟩
def fDRV_TEMP_BUS (i : Nat) : Fld := ⟨0x02E00010 + 0x100 * i, 28, 2⟩
def fDRV_TEMP_VALID (i : Nat) : Fld := ⟨0x02E00010 + 0x100 * i, 30, 1⟩
def fDRV_TEMP_EN (i : Nat) : Fld := ⟨0x02E00010 + 0x100 * i, 31, 1⟩

/-- DRV_COM (R470, 09_panel_drive_bistable.md). -/
def regDRV_COM : RegRow := ⟨0x02E00040, 0x100, 16, 0x4, 32, [
    ⟨0, 16, .rw, .h, 0⟩,
    ⟨31, 1, .rw, .h, 0⟩]⟩
def fDRV_COM_FIRST (i : Nat) (j : Nat) : Fld := ⟨0x02E00040 + 0x100 * i + 0x4 * j, 0, 16⟩
def fDRV_COM_START (i : Nat) (j : Nat) : Fld := ⟨0x02E00040 + 0x100 * i + 0x4 * j, 31, 1⟩

/-- DRV_DCB (R471, 09_panel_drive_bistable.md). -/
def regDRV_DCB : RegRow := ⟨0x02E00080, 0x100, 16, 0x4, 32, [
    ⟨0, 32, .ro, .l, 0⟩]⟩
def fDRV_DCB_DCB (i : Nat) (j : Nat) : Fld := ⟨0x02E00080 + 0x100 * i + 0x4 * j, 0, 32⟩

/-- DRV_GTO (R472, 09_panel_drive_bistable.md). -/
def regDRV_GTO : RegRow := ⟨0x02E01000, 0x4, 64, 0x0, 1, [
    ⟨24, 2, .rw, .h, 0⟩,
    ⟨26, 1, .rw, .h, 0⟩,
    ⟨27, 4, .rw, .h, 0⟩,
    ⟨31, 1, .rw, .h, 0⟩]⟩
def fDRV_GTO_SLVL (i : Nat) : Fld := ⟨0x02E01000 + 0x4 * i, 24, 2⟩
def fDRV_GTO_POL (i : Nat) : Fld := ⟨0x02E01000 + 0x4 * i, 26, 1⟩
def fDRV_GTO_GROUP (i : Nat) : Fld := ⟨0x02E01000 + 0x4 * i, 27, 4⟩
def fDRV_GTO_EN (i : Nat) : Fld := ⟨0x02E01000 + 0x4 * i, 31, 1⟩

/-- DRV_RAIL (R473, 09_panel_drive_bistable.md). -/
def regDRV_RAIL : RegRow := ⟨0x02E01100, 0x4, 48, 0x0, 1, [
    ⟨0, 8, .rw, .h, 10⟩,
    ⟨8, 8, .rw, .h, 10⟩,
    ⟨16, 5, .rw, .h, 10⟩,
    ⟨21, 1, .ro, .l, 0⟩,
    ⟨22, 1, .ro, .l, 0⟩,
    ⟨23, 1, .ro, .l, 0⟩,
    ⟨24, 3, .rw, .h, 0⟩,
    ⟨27, 4, .rw, .h, 0⟩,
    ⟨31, 1, .rw, .h, 0⟩]⟩
def fDRV_RAIL_OFF_DLY (i : Nat) : Fld := ⟨0x02E01100 + 0x4 * i, 0, 8⟩
def fDRV_RAIL_ON_DLY (i : Nat) : Fld := ⟨0x02E01100 + 0x4 * i, 8, 8⟩
def fDRV_RAIL_TMO (i : Nat) : Fld := ⟨0x02E01100 + 0x4 * i, 16, 5⟩
def fDRV_RAIL_OVR (i : Nat) : Fld := ⟨0x02E01100 + 0x4 * i, 21, 1⟩
def fDRV_RAIL_ON (i : Nat) : Fld := ⟨0x02E01100 + 0x4 * i, 22, 1⟩
def fDRV_RAIL_GOOD (i : Nat) : Fld := ⟨0x02E01100 + 0x4 * i, 23, 1⟩
def fDRV_RAIL_ORDER (i : Nat) : Fld := ⟨0x02E01100 + 0x4 * i, 24, 3⟩
def fDRV_RAIL_GROUP (i : Nat) : Fld := ⟨0x02E01100 + 0x4 * i, 27, 4⟩
def fDRV_RAIL_EN (i : Nat) : Fld := ⟨0x02E01100 + 0x4 * i, 31, 1⟩

/-- DRV_DISCH (R474, 09_panel_drive_bistable.md). -/
def regDRV_DISCH : RegRow := ⟨0x02E01200, 0x4, 16, 0x0, 1, [
    ⟨25, 1, .rw, .h, 0⟩,
    ⟨26, 1, .rw, .h, 0⟩,
    ⟨27, 4, .rw, .h, 0⟩,
    ⟨31, 1, .rw, .h, 0⟩]⟩
def fDRV_DISCH_ON_STOP (i : Nat) : Fld := ⟨0x02E01200 + 0x4 * i, 25, 1⟩
def fDRV_DISCH_POL (i : Nat) : Fld := ⟨0x02E01200 + 0x4 * i, 26, 1⟩
def fDRV_DISCH_GROUP (i : Nat) : Fld := ⟨0x02E01200 + 0x4 * i, 27, 4⟩
def fDRV_DISCH_EN (i : Nat) : Fld := ⟨0x02E01200 + 0x4 * i, 31, 1⟩

/-- DRV_RAIL_OVR (R475, 09_panel_drive_bistable.md). -/
def regDRV_RAIL_OVR : RegRow := ⟨0x02E01300, 0x0, 1, 0x0, 1, [
    ⟨0, 6, .wo, .l, 0⟩,
    ⟨8, 2, .wo, .l, 0⟩]⟩
def fDRV_RAIL_OVR_RAIL : Fld := ⟨0x02E01300, 0, 6⟩
def fDRV_RAIL_OVR_ACT : Fld := ⟨0x02E01300, 8, 2⟩

/-- DRV_PF (R476, 09_panel_drive_bistable.md). -/
def regDRV_PF : RegRow := ⟨0x02E01310, 0x0, 1, 0x0, 1, [
    ⟨0, 12, .rw, .l, 0⟩,
    ⟨27, 1, .rw, .l, 0⟩,
    ⟨28, 1, .rw, .l, 1⟩,
    ⟨29, 2, .ro, .l, 0⟩,
    ⟨31, 1, .w1c, .l, 0⟩]⟩
def fDRV_PF_VIN_THR : Fld := ⟨0x02E01310, 0, 12⟩
def fDRV_PF_VIN_EN : Fld := ⟨0x02E01310, 27, 1⟩
def fDRV_PF_PIN_EN : Fld := ⟨0x02E01310, 28, 1⟩
def fDRV_PF_CAUSE : Fld := ⟨0x02E01310, 29, 2⟩
def fDRV_PF_TRIPPED : Fld := ⟨0x02E01310, 31, 1⟩

/-- DRV_BON_CTRL (R477, 09_panel_drive_bistable.md). -/
def regDRV_BON_CTRL : RegRow := ⟨0x02E01400, 0x0, 1, 0x0, 1, [
    ⟨0, 9, .rw, .l, 0⟩,
    ⟨9, 16, .rw, .l, 0⟩,
    ⟨25, 3, .ro, .l, 0⟩,
    ⟨28, 1, .ro, .l, 0⟩,
    ⟨29, 1, .wo, .l, 0⟩,
    ⟨30, 1, .wo, .l, 0⟩,
    ⟨31, 1, .wo, .l, 0⟩]⟩
def fDRV_BON_CTRL_LINE : Fld := ⟨0x02E01400, 0, 9⟩
def fDRV_BON_CTRL_Y0 : Fld := ⟨0x02E01400, 9, 16⟩
def fDRV_BON_CTRL_ERR : Fld := ⟨0x02E01400, 25, 3⟩
def fDRV_BON_CTRL_ACTIVE : Fld := ⟨0x02E01400, 28, 1⟩
def fDRV_BON_CTRL_SEND : Fld := ⟨0x02E01400, 29, 1⟩
def fDRV_BON_CTRL_EXIT : Fld := ⟨0x02E01400, 30, 1⟩
def fDRV_BON_CTRL_ENTER : Fld := ⟨0x02E01400, 31, 1⟩

/-- DRV_BON_CFG (R478, 09_panel_drive_bistable.md). -/
def regDRV_BON_CFG : RegRow := ⟨0x02E01404, 0x0, 1, 0x0, 1, [
    ⟨0, 11, .rw, .h, 0⟩,
    ⟨16, 9, .rw, .h, 0⟩,
    ⟨25, 1, .rw, .h, 0⟩,
    ⟨26, 4, .rw, .h, 8⟩,
    ⟨30, 2, .rw, .h, 0⟩]⟩
def fDRV_BON_CFG_WM1 : Fld := ⟨0x02E01404, 0, 11⟩
def fDRV_BON_CFG_HM1 : Fld := ⟨0x02E01404, 16, 9⟩
def fDRV_BON_CFG_SPR : Fld := ⟨0x02E01404, 25, 1⟩
def fDRV_BON_CFG_DEPTH : Fld := ⟨0x02E01404, 26, 4⟩
def fDRV_BON_CFG_BPP : Fld := ⟨0x02E01404, 30, 2⟩

/-- DRV_BON_CH (R479, 09_panel_drive_bistable.md). -/
def regDRV_BON_CH : RegRow := ⟨0x02E01410, 0x4, 4, 0x0, 1, [
    ⟨0, 8, .rw, .h, 0⟩,
    ⟨8, 11, .rw, .h, 0⟩,
    ⟨19, 8, .rw, .h, 0⟩,
    ⟨27, 4, .rw, .h, 0⟩,
    ⟨31, 1, .rw, .h, 0⟩]⟩
def fDRV_BON_CH_COFS (i : Nat) : Fld := ⟨0x02E01410 + 0x4 * i, 0, 8⟩
def fDRV_BON_CH_NCM1 (i : Nat) : Fld := ⟨0x02E01410 + 0x4 * i, 8, 11⟩
def fDRV_BON_CH_CHAIN (i : Nat) : Fld := ⟨0x02E01410 + 0x4 * i, 19, 8⟩
def fDRV_BON_CH_PM1 (i : Nat) : Fld := ⟨0x02E01410 + 0x4 * i, 27, 4⟩
def fDRV_BON_CH_EN (i : Nat) : Fld := ⟨0x02E01410 + 0x4 * i, 31, 1⟩

/-- DRV_BON_PAL (R480, 09_panel_drive_bistable.md). -/
def regDRV_BON_PAL : RegRow := ⟨0x02E01440, 0x4, 16, 0x0, 1, [
    ⟨0, 10, .rw, .l, 0⟩,
    ⟨10, 10, .rw, .l, 0⟩,
    ⟨20, 10, .rw, .l, 0⟩]⟩
def fDRV_BON_PAL_B (i : Nat) : Fld := ⟨0x02E01440 + 0x4 * i, 0, 10⟩
def fDRV_BON_PAL_G (i : Nat) : Fld := ⟨0x02E01440 + 0x4 * i, 10, 10⟩
def fDRV_BON_PAL_R (i : Nat) : Fld := ⟨0x02E01440 + 0x4 * i, 20, 10⟩

/-- BIS_CFG (R482, 09_panel_drive_bistable.md). -/
def regBIS_CFG : RegRow := ⟨0x03000000, 0x100, 16, 0x0, 1, [
    ⟨0, 16, .rw, .s, 0⟩,
    ⟨24, 2, .rw, .s, 0⟩,
    ⟨31, 1, .rw, .s, 0⟩]⟩
def fBIS_CFG_PITCH (i : Nat) : Fld := ⟨0x03000000 + 0x100 * i, 0, 16⟩
def fBIS_CFG_IDLE_CODE (i : Nat) : Fld := ⟨0x03000000 + 0x100 * i, 24, 2⟩
def fBIS_CFG_RERUN (i : Nat) : Fld := ⟨0x03000000 + 0x100 * i, 31, 1⟩

/-- BIS_WF (R481, 09_panel_drive_bistable.md). -/
def regBIS_WF : RegRow := ⟨0x03000004, 0x100, 16, 0x0, 1, [
    ⟨0, 28, .rw, .s, 0⟩]⟩
def fBIS_WF_GRAN (i : Nat) : Fld := ⟨0x03000004 + 0x100 * i, 0, 28⟩

/-- BIS_LVL (R481, 09_panel_drive_bistable.md). -/
def regBIS_LVL : RegRow := ⟨0x03000008, 0x100, 16, 0x0, 1, [
    ⟨0, 28, .rw, .s, 0⟩]⟩
def fBIS_LVL_GRAN (i : Nat) : Fld := ⟨0x03000008 + 0x100 * i, 0, 28⟩

/-- BIS_STATUS (R483, 09_panel_drive_bistable.md). -/
def regBIS_STATUS : RegRow := ⟨0x0300000C, 0x100, 16, 0x0, 1, [
    ⟨7, 4, .ro, .l, 0⟩,
    ⟨11, 7, .ro, .l, 0⟩,
    ⟨18, 7, .ro, .l, 0⟩,
    ⟨25, 7, .ro, .l, 0⟩]⟩
def fBIS_STATUS_BAND (i : Nat) : Fld := ⟨0x0300000C + 0x100 * i, 7, 4⟩
def fBIS_STATUS_OPEN (i : Nat) : Fld := ⟨0x0300000C + 0x100 * i, 11, 7⟩
def fBIS_STATUS_WAITING (i : Nat) : Fld := ⟨0x0300000C + 0x100 * i, 18, 7⟩
def fBIS_STATUS_INFLIGHT (i : Nat) : Fld := ⟨0x0300000C + 0x100 * i, 25, 7⟩

/-- BIS_REQ0 (R484, 09_panel_drive_bistable.md). -/
def regBIS_REQ0 : RegRow := ⟨0x03000010, 0x100, 16, 0x0, 1, [
    ⟨0, 16, .rw, .l, 0⟩,
    ⟨16, 16, .rw, .l, 0⟩]⟩
def fBIS_REQ0_X0 (i : Nat) : Fld := ⟨0x03000010 + 0x100 * i, 0, 16⟩
def fBIS_REQ0_Y0 (i : Nat) : Fld := ⟨0x03000010 + 0x100 * i, 16, 16⟩

/-- BIS_REQ1 (R484, 09_panel_drive_bistable.md). -/
def regBIS_REQ1 : RegRow := ⟨0x03000014, 0x100, 16, 0x0, 1, [
    ⟨0, 16, .rw, .l, 0⟩,
    ⟨16, 16, .rw, .l, 0⟩]⟩
def fBIS_REQ1_WM1 (i : Nat) : Fld := ⟨0x03000014 + 0x100 * i, 0, 16⟩
def fBIS_REQ1_HM1 (i : Nat) : Fld := ⟨0x03000014 + 0x100 * i, 16, 16⟩

/-- BIS_REQ2 (R484, 09_panel_drive_bistable.md). -/
def regBIS_REQ2 : RegRow := ⟨0x03000018, 0x100, 16, 0x0, 1, [
    ⟨0, 16, .rw, .l, 0⟩,
    ⟨24, 4, .rw, .l, 0⟩,
    ⟨28, 3, .ro, .l, 0⟩,
    ⟨31, 1, .wo, .l, 0⟩]⟩
def fBIS_REQ2_TAG (i : Nat) : Fld := ⟨0x03000018 + 0x100 * i, 0, 16⟩
def fBIS_REQ2_MODE (i : Nat) : Fld := ⟨0x03000018 + 0x100 * i, 24, 4⟩
def fBIS_REQ2_RES (i : Nat) : Fld := ⟨0x03000018 + 0x100 * i, 28, 3⟩
def fBIS_REQ2_GO (i : Nat) : Fld := ⟨0x03000018 + 0x100 * i, 31, 1⟩

/-- BIS_CLR (R485, 09_panel_drive_bistable.md). -/
def regBIS_CLR : RegRow := ⟨0x0300001C, 0x100, 16, 0x0, 1, [
    ⟨8, 5, .rw, .l, 0⟩,
    ⟨16, 5, .rw, .l, 0⟩,
    ⟨24, 4, .rw, .l, 0⟩,
    ⟨31, 1, .rw, .l, 1⟩]⟩
def fBIS_CLR_CLR_NEW (i : Nat) : Fld := ⟨0x0300001C + 0x100 * i, 8, 5⟩
def fBIS_CLR_CLR_OLD (i : Nat) : Fld := ⟨0x0300001C + 0x100 * i, 16, 5⟩
def fBIS_CLR_CLR_MODE (i : Nat) : Fld := ⟨0x0300001C + 0x100 * i, 24, 4⟩
def fBIS_CLR_CLR_POLICY (i : Nat) : Fld := ⟨0x0300001C + 0x100 * i, 31, 1⟩

/-- BIS_JBASE (R486, 09_panel_drive_bistable.md). -/
def regBIS_JBASE : RegRow := ⟨0x03001000, 0x0, 1, 0x0, 1, [
    ⟨0, 12, .rw, .h, 0⟩]⟩
def fBIS_JBASE_JPAGE : Fld := ⟨0x03001000, 0, 12⟩

/-- CAL_VAL_TS (R504, 10_calibration_sensing.md). -/
def regCAL_VAL_TS : RegRow := ⟨0x03200000, 0x10, 32, 0x0, 1, [
    ⟨0, 16, .rw, .l, 0⟩]⟩
def fCAL_VAL_TS_OFS (i : Nat) : Fld := ⟨0x03200000 + 0x10 * i, 0, 16⟩

/-- CAL_CNT (R505, 10_calibration_sensing.md). -/
def regCAL_CNT : RegRow := ⟨0x03200004, 0x10, 360, 0x0, 1, [
    ⟨0, 32, .rw, .l, 0⟩]⟩
def fCAL_CNT_COUNT (i : Nat) : Fld := ⟨0x03200004 + 0x10 * i, 0, 32⟩

/-- CAL_TS_LO (R506, 10_calibration_sensing.md). -/
def regCAL_TS_LO : RegRow := ⟨0x03200008, 0x10, 360, 0x0, 1, [
    ⟨0, 32, .ro, .l, 0⟩]⟩
def fCAL_TS_LO_TS_LO (i : Nat) : Fld := ⟨0x03200008 + 0x10 * i, 0, 32⟩

/-- CAL_TS_HI (R507, 10_calibration_sensing.md). -/
def regCAL_TS_HI : RegRow := ⟨0x0320000C, 0x10, 360, 0x0, 1, [
    ⟨0, 32, .ro, .l, 0⟩]⟩
def fCAL_TS_HI_TS_HI (i : Nat) : Fld := ⟨0x0320000C + 0x10 * i, 0, 32⟩

/-- CAL_VAL_ADC (R504, 10_calibration_sensing.md). -/
def regCAL_VAL_ADC : RegRow := ⟨0x03200200, 0x10, 16, 0x0, 1, [
    ⟨0, 16, .rw, .l, 0⟩,
    ⟨16, 16, .rw, .l, 0⟩]⟩
def fCAL_VAL_ADC_OFS (i : Nat) : Fld := ⟨0x03200200 + 0x10 * i, 0, 16⟩
def fCAL_VAL_ADC_GAIN (i : Nat) : Fld := ⟨0x03200200 + 0x10 * i, 16, 16⟩

/-- CAL_VAL_LANE (R504, 10_calibration_sensing.md). -/
def regCAL_VAL_LANE : RegRow := ⟨0x03200300, 0x10, 272, 0x0, 1, [
    ⟨0, 6, .rw, .l, 0⟩,
    ⟨8, 6, .rw, .l, 0⟩]⟩
def fCAL_VAL_LANE_OFST (i : Nat) : Fld := ⟨0x03200300 + 0x10 * i, 0, 6⟩
def fCAL_VAL_LANE_AMPT (i : Nat) : Fld := ⟨0x03200300 + 0x10 * i, 8, 6⟩

/-- CAL_VAL_DCC (R504, 10_calibration_sensing.md). -/
def regCAL_VAL_DCC : RegRow := ⟨0x03201400, 0x10, 24, 0x0, 1, [
    ⟨0, 6, .rw, .l, 0⟩]⟩
def fCAL_VAL_DCC_CODE (i : Nat) : Fld := ⟨0x03201400 + 0x10 * i, 0, 6⟩

/-- CAL_VAL_FOLD (R504, 10_calibration_sensing.md). -/
def regCAL_VAL_FOLD : RegRow := ⟨0x03201580, 0x10, 16, 0x0, 1, [
    ⟨0, 32, .ro, .l, 0⟩]⟩
def fCAL_VAL_FOLD_WORDS (i : Nat) : Fld := ⟨0x03201580 + 0x10 * i, 0, 32⟩

/-- CAL_CFG (R508, 10_calibration_sensing.md). -/
def regCAL_CFG : RegRow := ⟨0x03202000, 0x0, 1, 0x0, 1, [
    ⟨0, 8, .rw, .l, 10⟩,
    ⟨8, 8, .rw, .l, 10⟩,
    ⟨16, 8, .rw, .l, 10⟩,
    ⟨24, 8, .rw, .l, 10⟩]⟩
def fCAL_CFG_DCC_PER : Fld := ⟨0x03202000, 0, 8⟩
def fCAL_CFG_LANE_PER : Fld := ⟨0x03202000, 8, 8⟩
def fCAL_CFG_ADC_PER : Fld := ⟨0x03202000, 16, 8⟩
def fCAL_CFG_TS_PER : Fld := ⟨0x03202000, 24, 8⟩

/-- CAL_CMD (R509, 10_calibration_sensing.md). -/
def regCAL_CMD : RegRow := ⟨0x03202004, 0x0, 1, 0x0, 1, [
    ⟨0, 9, .rw, .l, 0⟩,
    ⟨25, 3, .ro, .l, 0⟩,
    ⟨28, 1, .ro, .l, 0⟩,
    ⟨29, 1, .wo, .l, 0⟩,
    ⟨30, 1, .wo, .l, 0⟩,
    ⟨31, 1, .wo, .l, 0⟩]⟩
def fCAL_CMD_ITEM : Fld := ⟨0x03202004, 0, 9⟩
def fCAL_CMD_RESULT : Fld := ⟨0x03202004, 25, 3⟩
def fCAL_CMD_BUSY : Fld := ⟨0x03202004, 28, 1⟩
def fCAL_CMD_LOAD : Fld := ⟨0x03202004, 29, 1⟩
def fCAL_CMD_SAVE : Fld := ⟨0x03202004, 30, 1⟩
def fCAL_CMD_GO : Fld := ⟨0x03202004, 31, 1⟩

/-- CAL_NV (R510, 10_calibration_sensing.md). -/
def regCAL_NV : RegRow := ⟨0x03202008, 0x0, 1, 0x0, 1, [
    ⟨0, 12, .rw, .l, 64⟩]⟩
def fCAL_NV_CPAGE : Fld := ⟨0x03202008, 0, 12⟩

/-- CAL_ACC (R511, 10_calibration_sensing.md). -/
def regCAL_ACC : RegRow := ⟨0x03202010, 0x0, 1, 0x0, 1, [
    ⟨0, 17, .ro, .l, 65536⟩]⟩
def fCAL_ACC_FREE : Fld := ⟨0x03202010, 0, 17⟩

/-- CAL_TEMP (R512, 10_calibration_sensing.md). -/
def regCAL_TEMP : RegRow := ⟨0x03202100, 0x4, 32, 0x0, 1, [
    ⟨0, 16, .ro, .l, 0⟩,
    ⟨31, 1, .ro, .l, 0⟩]⟩
def fCAL_TEMP_TEMP (i : Nat) : Fld := ⟨0x03202100 + 0x4 * i, 0, 16⟩
def fCAL_TEMP_VALID (i : Nat) : Fld := ⟨0x03202100 + 0x4 * i, 31, 1⟩

/-- CAL_RAIL (R513, 10_calibration_sensing.md). -/
def regCAL_RAIL : RegRow := ⟨0x03202200, 0x4, 16, 0x0, 1, [
    ⟨0, 16, .ro, .l, 0⟩,
    ⟨31, 1, .ro, .l, 0⟩]⟩
def fCAL_RAIL_MV (i : Nat) : Fld := ⟨0x03202200 + 0x4 * i, 0, 16⟩
def fCAL_RAIL_VALID (i : Nat) : Fld := ⟨0x03202200 + 0x4 * i, 31, 1⟩

/-- CAL_SNS_CFG (R515, 10_calibration_sensing.md). -/
def regCAL_SNS_CFG : RegRow := ⟨0x03203000, 0x40, 16, 0x0, 1, [
    ⟨0, 8, .rw, .l, 60⟩,
    ⟨8, 12, .rw, .l, 16⟩,
    ⟨20, 4, .rw, .l, 1⟩,
    ⟨24, 5, .rw, .s, 12⟩,
    ⟨29, 1, .rw, .s, 0⟩,
    ⟨30, 1, .rw, .h, 0⟩,
    ⟨31, 1, .rw, .l, 0⟩]⟩
def fCAL_SNS_CFG_PERIOD (i : Nat) : Fld := ⟨0x03203000 + 0x40 * i, 0, 8⟩
def fCAL_SNS_CFG_NMIN (i : Nat) : Fld := ⟨0x03203000 + 0x40 * i, 8, 12⟩
def fCAL_SNS_CFG_STEP (i : Nat) : Fld := ⟨0x03203000 + 0x40 * i, 20, 4⟩
def fCAL_SNS_CFG_BRESV (i : Nat) : Fld := ⟨0x03203000 + 0x40 * i, 24, 5⟩
def fCAL_SNS_CFG_BSENSE (i : Nat) : Fld := ⟨0x03203000 + 0x40 * i, 29, 1⟩
def fCAL_SNS_CFG_TARGET (i : Nat) : Fld := ⟨0x03203000 + 0x40 * i, 30, 1⟩
def fCAL_SNS_CFG_FOLD (i : Nat) : Fld := ⟨0x03203000 + 0x40 * i, 31, 1⟩

/-- CAL_KREF (R516, 10_calibration_sensing.md). -/
def regCAL_KREF : RegRow := ⟨0x03203010, 0x40, 16, 0x4, 3, [
    ⟨0, 16, .rw, .l, 32768⟩]⟩
def fCAL_KREF_KREF (i : Nat) (j : Nat) : Fld := ⟨0x03203010 + 0x40 * i + 0x4 * j, 0, 16⟩

/-- CAL_PLANE_A (R517, 10_calibration_sensing.md). -/
def regCAL_PLANE_A : RegRow := ⟨0x03203020, 0x40, 16, 0x0, 1, [
    ⟨0, 28, .rw, .h, 0⟩]⟩
def fCAL_PLANE_A_GRAN (i : Nat) : Fld := ⟨0x03203020 + 0x40 * i, 0, 28⟩

/-- CAL_PLANE_B (R517, 10_calibration_sensing.md). -/
def regCAL_PLANE_B : RegRow := ⟨0x03203024, 0x40, 16, 0x0, 1, [
    ⟨0, 28, .rw, .h, 0⟩]⟩
def fCAL_PLANE_B_GRAN (i : Nat) : Fld := ⟨0x03203024 + 0x40 * i, 0, 28⟩

/-- CAL_SNS_STATUS (R518, 10_calibration_sensing.md). -/
def regCAL_SNS_STATUS : RegRow := ⟨0x03203028, 0x40, 16, 0x0, 1, [
    ⟨0, 16, .ro, .l, 0⟩,
    ⟨26, 3, .ro, .l, 0⟩,
    ⟨29, 1, .ro, .l, 0⟩,
    ⟨30, 2, .ro, .l, 0⟩]⟩
def fCAL_SNS_STATUS_READY (i : Nat) : Fld := ⟨0x03203028 + 0x40 * i, 0, 16⟩
def fCAL_SNS_STATUS_ERR (i : Nat) : Fld := ⟨0x03203028 + 0x40 * i, 26, 3⟩
def fCAL_SNS_STATUS_INEFF (i : Nat) : Fld := ⟨0x03203028 + 0x40 * i, 29, 1⟩
def fCAL_SNS_STATUS_PHASE (i : Nat) : Fld := ⟨0x03203028 + 0x40 * i, 30, 2⟩

/-- CAL_SNS_DROP (R519, 10_calibration_sensing.md). -/
def regCAL_SNS_DROP : RegRow := ⟨0x0320302C, 0x40, 16, 0x0, 1, [
    ⟨0, 8, .rw, .l, 0⟩,
    ⟨8, 12, .rw, .l, 0⟩,
    ⟨20, 12, .rw, .l, 0⟩]⟩
def fCAL_SNS_DROP_FULL (i : Nat) : Fld := ⟨0x0320302C + 0x40 * i, 0, 8⟩
def fCAL_SNS_DROP_NOREF (i : Nat) : Fld := ⟨0x0320302C + 0x40 * i, 8, 12⟩
def fCAL_SNS_DROP_MALFORMED (i : Nat) : Fld := ⟨0x0320302C + 0x40 * i, 20, 12⟩

/-- EVT_TIME_LO (R37, 01_architecture.md). -/
def regEVT_TIME_LO : RegRow := ⟨0x03400000, 0x0, 1, 0x0, 1, [
    ⟨0, 32, .ro, .l, 0⟩]⟩
def fEVT_TIME_LO_TIME_LO : Fld := ⟨0x03400000, 0, 32⟩

/-- EVT_TIME_HI (R38, 01_architecture.md). -/
def regEVT_TIME_HI : RegRow := ⟨0x03400004, 0x0, 1, 0x0, 1, [
    ⟨0, 32, .ro, .l, 0⟩]⟩
def fEVT_TIME_HI_TIME_HI : Fld := ⟨0x03400004, 0, 32⟩

/-- EVT_TSYNC_STATUS (R39, 01_architecture.md). -/
def regEVT_TSYNC_STATUS : RegRow := ⟨0x03400010, 0x0, 1, 0x0, 1, [
    ⟨0, 16, .ro, .l, 0⟩,
    ⟨16, 8, .ro, .l, 0⟩,
    ⟨29, 1, .ro, .l, 0⟩,
    ⟨30, 1, .ro, .l, 0⟩,
    ⟨31, 1, .ro, .l, 0⟩]⟩
def fEVT_TSYNC_STATUS_SAMPLES : Fld := ⟨0x03400010, 0, 16⟩
def fEVT_TSYNC_STATUS_OFFSET : Fld := ⟨0x03400010, 16, 8⟩
def fEVT_TSYNC_STATUS_SLEWING : Fld := ⟨0x03400010, 29, 1⟩
def fEVT_TSYNC_STATUS_HOLDOVER : Fld := ⟨0x03400010, 30, 1⟩
def fEVT_TSYNC_STATUS_TIME_VALID : Fld := ⟨0x03400010, 31, 1⟩

/-- EVT_SETTLE (R46, 01_architecture.md). -/
def regEVT_SETTLE : RegRow := ⟨0x03400020, 0x0, 1, 0x0, 1, [
    ⟨0, 12, .rw, .l, 410⟩]⟩
def fEVT_SETTLE_SETTLE : Fld := ⟨0x03400020, 0, 12⟩

/-- EVT_ROUTE (R550, 11_cxl_host_interface.md). -/
def regEVT_ROUTE : RegRow := ⟨0x03400040, 0x4, 16, 0x0, 1, [
    ⟨0, 3, .rw, .l, 0⟩,
    ⟨30, 1, .rw, .l, 0⟩,
    ⟨31, 1, .rw, .l, 1⟩]⟩
def fEVT_ROUTE_RING (i : Nat) : Fld := ⟨0x03400040 + 0x4 * i, 0, 3⟩
def fEVT_ROUTE_URGENT (i : Nat) : Fld := ⟨0x03400040 + 0x4 * i, 30, 1⟩
def fEVT_ROUTE_EN (i : Nat) : Fld := ⟨0x03400040 + 0x4 * i, 31, 1⟩

/-- EVR_BASE_LO (R552, 11_cxl_host_interface.md). -/
def regEVR_BASE_LO : RegRow := ⟨0x03400100, 0x20, 8, 0x0, 1, [
    ⟨6, 26, .rw, .h, 0⟩]⟩
def fEVR_BASE_LO_BASE_LO (i : Nat) : Fld := ⟨0x03400100 + 0x20 * i, 6, 26⟩

/-- EVR_BASE_HI (R553, 11_cxl_host_interface.md). -/
def regEVR_BASE_HI : RegRow := ⟨0x03400104, 0x20, 8, 0x0, 1, [
    ⟨0, 32, .rw, .h, 0⟩]⟩
def fEVR_BASE_HI_BASE_HI (i : Nat) : Fld := ⟨0x03400104 + 0x20 * i, 0, 32⟩

/-- EVR_CFG (R554, 11_cxl_host_interface.md). -/
def regEVR_CFG : RegRow := ⟨0x03400108, 0x20, 8, 0x0, 1, [
    ⟨0, 11, .rw, .l, 0⟩,
    ⟨24, 5, .rw, .h, 8⟩,
    ⟨29, 1, .rw, .h, 1⟩,
    ⟨30, 1, .rw, .h, 0⟩,
    ⟨31, 1, .rw, .l, 0⟩]⟩
def fEVR_CFG_VEC (i : Nat) : Fld := ⟨0x03400108 + 0x20 * i, 0, 11⟩
def fEVR_CFG_LOG2N (i : Nat) : Fld := ⟨0x03400108 + 0x20 * i, 24, 5⟩
def fEVR_CFG_FUNC (i : Nat) : Fld := ⟨0x03400108 + 0x20 * i, 29, 1⟩
def fEVR_CFG_SPACE (i : Nat) : Fld := ⟨0x03400108 + 0x20 * i, 30, 1⟩
def fEVR_CFG_EN (i : Nat) : Fld := ⟨0x03400108 + 0x20 * i, 31, 1⟩

/-- EVR_PTR (R555, 11_cxl_host_interface.md). -/
def regEVR_PTR : RegRow := ⟨0x0340010C, 0x20, 8, 0x0, 1, [
    ⟨0, 16, .ro, .l, 0⟩,
    ⟨16, 16, .rw, .l, 0⟩]⟩
def fEVR_PTR_TAIL (i : Nat) : Fld := ⟨0x0340010C + 0x20 * i, 0, 16⟩
def fEVR_PTR_HEAD (i : Nat) : Fld := ⟨0x0340010C + 0x20 * i, 16, 16⟩

/-- EVR_MOD (R556, 11_cxl_host_interface.md). -/
def regEVR_MOD : RegRow := ⟨0x03400110, 0x20, 8, 0x0, 1, [
    ⟨0, 16, .rw, .l, 0⟩,
    ⟨24, 8, .rw, .l, 1⟩]⟩
def fEVR_MOD_TIME (i : Nat) : Fld := ⟨0x03400110 + 0x20 * i, 0, 16⟩
def fEVR_MOD_CNT (i : Nat) : Fld := ⟨0x03400110 + 0x20 * i, 24, 8⟩

/-- EVR_STATUS (R557, 11_cxl_host_interface.md). -/
def regEVR_STATUS : RegRow := ⟨0x03400114, 0x20, 8, 0x0, 1, [
    ⟨0, 16, .rw, .l, 0⟩,
    ⟨20, 11, .ro, .l, 0⟩,
    ⟨31, 1, .ro, .l, 0⟩]⟩
def fEVR_STATUS_DROP (i : Nat) : Fld := ⟨0x03400114 + 0x20 * i, 0, 16⟩
def fEVR_STATUS_HELD (i : Nat) : Fld := ⟨0x03400114 + 0x20 * i, 20, 11⟩
def fEVR_STATUS_FULL (i : Nat) : Fld := ⟨0x03400114 + 0x20 * i, 31, 1⟩

/-- FLT_STATUS (R712, 16_faults_recovery.md). -/
def regFLT_STATUS : RegRow := ⟨0x03600000, 0x0, 1, 0x0, 1, [
    ⟨0, 1, .w1c, .l, 0⟩,
    ⟨1, 1, .w1c, .l, 0⟩,
    ⟨2, 1, .w1c, .l, 0⟩,
    ⟨30, 1, .ro, .l, 0⟩,
    ⟨31, 1, .ro, .l, 0⟩]⟩
def fFLT_STATUS_ERR_CFG_LIVE : Fld := ⟨0x03600000, 0, 1⟩
def fFLT_STATUS_ERR_NO_TXN : Fld := ⟨0x03600000, 1, 1⟩
def fFLT_STATUS_ERR_CRIT : Fld := ⟨0x03600000, 2, 1⟩
def fFLT_STATUS_DEGRADED : Fld := ⟨0x03600000, 30, 1⟩
def fFLT_STATUS_TERMINAL : Fld := ⟨0x03600000, 31, 1⟩

/-- FLT_ERR_ADDR (R713, 16_faults_recovery.md). -/
def regFLT_ERR_ADDR : RegRow := ⟨0x03600004, 0x0, 1, 0x0, 1, [
    ⟨2, 24, .ro, .l, 0⟩,
    ⟨28, 4, .ro, .l, 0⟩]⟩
def fFLT_ERR_ADDR_OFFSET : Fld := ⟨0x03600004, 2, 24⟩
def fFLT_ERR_ADDR_KIND : Fld := ⟨0x03600004, 28, 4⟩

/-- FLT_CFG (R714, 16_faults_recovery.md). -/
def regFLT_CFG : RegRow := ⟨0x03600008, 0x0, 1, 0x0, 1, [
    ⟨0, 16, .rw, .l, 1024⟩,
    ⟨25, 5, .rw, .l, 0⟩,
    ⟨30, 1, .rw, .l, 0⟩,
    ⟨31, 1, .rw, .l, 0⟩]⟩
def fFLT_CFG_COALESCE : Fld := ⟨0x03600008, 0, 16⟩
def fFLT_CFG_TGPIO : Fld := ⟨0x03600008, 25, 5⟩
def fFLT_CFG_TGPIO_EN : Fld := ⟨0x03600008, 30, 1⟩
def fFLT_CFG_LOG_CONTAINED : Fld := ⟨0x03600008, 31, 1⟩

/-- FLT_LOG_PTR (R715, 16_faults_recovery.md). -/
def regFLT_LOG_PTR : RegRow := ⟨0x0360000C, 0x0, 1, 0x0, 1, [
    ⟨0, 8, .ro, .l, 255⟩,
    ⟨16, 16, .ro, .l, 0⟩]⟩
def fFLT_LOG_PTR_NEWEST : Fld := ⟨0x0360000C, 0, 8⟩
def fFLT_LOG_PTR_FSEQ : Fld := ⟨0x0360000C, 16, 16⟩

/-- FLT_CNT (R716, 16_faults_recovery.md). -/
def regFLT_CNT : RegRow := ⟨0x03600010, 0x4, 4, 0x0, 1, [
    ⟨0, 32, .rw, .l, 0⟩]⟩
def fFLT_CNT_COUNT (i : Nat) : Fld := ⟨0x03600010 + 0x4 * i, 0, 32⟩

/-- CXL_Q_DB (R341, 07_queues_transactions_locks.md). -/
def regCXL_Q_DB : RegRow := ⟨0x10000000, 0x800, 512, 0x0, 1, [
    ⟨0, 16, .wo, .l, 0⟩]⟩
def fCXL_Q_DB_TAIL (i : Nat) : Fld := ⟨0x10000000 + 0x800 * i, 0, 16⟩

/-- The register rows of each 1 MiB block of BAR0 (R718; the doorbells of R341 stand at the pseudo block 256, BAR2). -/
def regRowsOf (block : Nat) : List RegRow :=
  match block with
  | 0 => [regGEN_ID, regGEN_REV, regGEN_CAPS0, regGEN_CAPS1, regGEN_CAPS2, regGEN_ROMVER, regGEN_SLOTVER, regGEN_SCRATCH, regGEN_CTRL, regGEN_STATUS, regGEN_BLKRDY]
  | 1 => [regCLK_LOCK, regCLK_BOOT]
  | 2 => [regCXL_LINK_STATUS, regCXL_HOST_CNT, regCXL_BI, regCXL_BI_LATE]
  | 3 => [regCXL_Q_BASE_LO, regCXL_Q_BASE_HI, regCXL_Q_CFG, regCXL_Q_CTRL, regCXL_Q_PTR, regCXL_Q_STATUS, regCXL_Q_VEC]
  | 4 => [regCPR_CTRL, regCPR_STATUS, regCPR_CFG, regCPR_VEC, regCPR_WDOG, regCPR_FAULT, regCPR_FAULT_INSN, regCPR_MBOX, regCPR_PEND, regCPR_MP_OP, regCPR_MP_RESULT, regCPR_TXN_CFG, regCPR_TXN_STATUS, regCPR_LOCK_BREAK, regCPR_TXN_OWN, regCPR_TXN_CNT, regCPR_LOCK]
  | 6 => [regSEC_LC, regSEC_LC_REQ, regSEC_BLOB_SRC, regSEC_KL_CTRL, regSEC_DBG, regSEC_TAMPER, regSEC_DEVID_LO, regSEC_DEVID_HI, regSEC_SLOT_CFG, regSEC_SLOT_CTR_LO, regSEC_SLOT_CTR_HI]
  | 8 => [regNVS_STATUS, regNVS_SEQ_ACC, regNVS_SEQ_DUR, regNVS_WEAR, regNVS_REC_SRC, regNVS_REC_DST, regNVS_REC_CTRL, regNVS_XFER_CTRL, regNVS_XFER_OFS, regNVS_XFER_GRAN, regNVS_ACT, regNVS_ACT_GRP, regNVS_CNT_INC, regNVS_LOG_NEWEST, regNVS_LOG_CODE, regNVS_CNT_LO, regNVS_CNT_HI]
  | 10 => [regFST_PWR_CFG, regFST_PWR_STATUS, regFST_EXIT_LAT, regFST_ECC_CNT, regFST_UE_ADDR, regFST_SCRUB_CFG, regFST_STRUDEL_BASE, regFST_STRUDEL_CELLS, regFST_STRUDEL_DEV, regFST_STRUDEL_FREE]
  | 12 => [regCDC_CFG, regCDC_RING_BASE, regCDC_RING_PTR, regCDC_STATUS, regCDC_SHORT_CNT, regCDC_ENC_MISMATCH, regCDC_DEC_ERR]
  | 14 => [regDMH_TC_CFG, regDMH_LGRP_STATUS, regDMH_REPLAY_CNT]
  | 16 => [regARB_REQ_CFG, regARB_REQ_EFF, regARB_REQ_DEF, regARB_REQ_REF, regARB_APPLY, regARB_SCAN_WM]
  | 18 => [regMEM_BANK, regMEM_UE, regMEM_UE_CNT, regMEM_MARCH_CTRL, regMEM_MARCH_STATUS, regMEM_NOUGAT, regMEM_COPY_SRC, regMEM_COPY_DST, regMEM_COPY_CTRL, regMEM_COPY_STATUS, regMEM_COPY_DONE]
  | 30 => [regDMS_TC_CFG, regDMS_LGRP_STATUS, regDMS_REPLAY_CNT]
  | 32 => [regTMG_CTRL, regTMG_STATUS, regTMG_HACT, regTMG_HFP, regTMG_HSYNC, regTMG_HBP, regTMG_VACT, regTMG_VFP, regTMG_VSYNC, regTMG_VBP, regTMG_LPER_INT, regTMG_LPER_FRAC, regTMG_VLATCH, regTMG_CUTOFF, regTMG_FRAME_LO, regTMG_FRAME_HI, regTMG_BEAM, regTMG_LATCH_LO, regTMG_LATCH_HI, regTMG_NEXT_CUT, regTMG_GENLOCK, regTMG_SYNC_OFS, regTMG_VFP_LIM, regTMG_SYNCOUT, regTMG_TE_CFG, regTMG_UR_CNT, regTMG_GL_ERR, regTMG_LAD_CTRL, regTMG_LAD_STEP, regTMG_LAD_STATUS]
  | 34 => [regPAN_GROUP_BG, regPAN_DROP_CNT, regPAN_SR_CTRL, regPAN_SR_STATUS, regPAN_TOL, regPANE0, regPANE1, regPANE2, regPANE3, regPANE4, regPANE5, regPANE6, regPANE7, regPANE8, regPANE9, regPANE10, regPANE11, regPANE12, regPANE13, regPANE14, regPANE15]
  | 36 => [regPIX_CFG, regPIX_LB, regPIX_DMU_BASE, regPIX_DMU_GEOM, regPIX_AGE_BASE, regPIX_AGE_GEOM, regPIX_HIST_BASE, regPIX_HIST_GEOM, regPIX_OD_TEMP, regPIX_OD_TH, regPIX_STATUS, regPIX_TLD_CTRL, regPIX_TLD_SRC, regPIX_TLD_STATUS]
  | 38 => [regDEF_WIN, regDEF_SKIP_CNT]
  | 39 => [regDEFE0, regDEFE1, regDEFE2, regDEFE3]
  | 40 => [regSQR_CTRL, regSQR_STATUS, regSQR_CFG, regSQR_VEC, regSQR_WDOG, regSQR_FAULT, regSQR_FAULT_INSN, regSQR_MBOX, regSQR_PEND, regSQR_LATE, regSQR_WSEL, regSQR_SWAP_LO, regSQR_SWAP_HI, regSQR_SWAP_CTL]
  | 42 => [regLNK_CFG, regLNK_EQ, regLNK_STATUS, regLNK_ERR, regLNK_DLV, regLNK_TEST, regLNK_TEST_ERR, regLNK_INJ, regLNK_CMD, regLNK_GRP, regLNK_UPQ_HDR, regLNK_UPQ_DATA, regLNK_UPQ_CTRL, regLNK_SPARE]
  | 44 => [regSLT_CFG, regSLT_ACT, regSLTA0, regSLTA1, regSLTS0, regSLTS1]
  | 46 => [regDRV_CTRL, regDRV_MODE, regDRV_STATUS, regDRV_PHASE, regDRV_TEMP, regDRV_COM, regDRV_DCB, regDRV_GTO, regDRV_RAIL, regDRV_DISCH, regDRV_RAIL_OVR, regDRV_PF, regDRV_BON_CTRL, regDRV_BON_CFG, regDRV_BON_CH, regDRV_BON_PAL]
  | 48 => [regBIS_CFG, regBIS_WF, regBIS_LVL, regBIS_STATUS, regBIS_REQ0, regBIS_REQ1, regBIS_REQ2, regBIS_CLR, regBIS_JBASE]
  | 50 => [regCAL_VAL_TS, regCAL_CNT, regCAL_TS_LO, regCAL_TS_HI, regCAL_VAL_ADC, regCAL_VAL_LANE, regCAL_VAL_DCC, regCAL_VAL_FOLD, regCAL_CFG, regCAL_CMD, regCAL_NV, regCAL_ACC, regCAL_TEMP, regCAL_RAIL, regCAL_SNS_CFG, regCAL_KREF, regCAL_PLANE_A, regCAL_PLANE_B, regCAL_SNS_STATUS, regCAL_SNS_DROP]
  | 52 => [regEVT_TIME_LO, regEVT_TIME_HI, regEVT_TSYNC_STATUS, regEVT_SETTLE, regEVT_ROUTE, regEVR_BASE_LO, regEVR_BASE_HI, regEVR_CFG, regEVR_PTR, regEVR_MOD, regEVR_STATUS]
  | 54 => [regFLT_STATUS, regFLT_ERR_ADDR, regFLT_CFG, regFLT_LOG_PTR, regFLT_CNT]
  | 256 => [regCXL_Q_DB]
  | _ => []

end Sys2Proof.Machine
end

