-- ==== Sys2Proof/Machine/Store.lean ====
section
/-!
DEFINITION. Sparse maps (read, write, canonical form), the register field store over them, and small number helpers.
A register field is kept under one key: 32 times its word's byte offset plus its lowest bit.
-/
namespace Sys2Proof.Machine

/-- What a sparse map holds at a key: the listed value, or `d k` where none is listed. -/
def smGet {α : Type} (d : Nat → α) : SMap α → Nat → α
  | [], k => d k
  | (a, v) :: m, k => if a = k then v else smGet d m k

/-- The map without a key. -/
def smErase {α : Type} : SMap α → Nat → SMap α
  | [], _ => []
  | (a, v) :: m, k => if a = k then smErase m k else (a, v) :: smErase m k

/-- Insert in rising order of the keys. -/
def smInsert {α : Type} : SMap α → Nat → α → SMap α
  | [], k, v => [(k, v)]
  | (a, x) :: m, k, v => if k < a then (k, v) :: (a, x) :: m else (a, x) :: smInsert m k v

/-- Write a key: an entry equal to the unlisted value is not kept. -/
def smSet {α : Type} [DecidableEq α] (d : Nat → α) (m : SMap α) (k : Nat) (v : α) : SMap α :=
  if v = d k then smErase m k else smInsert (smErase m k) k v

/-- The canonical form: keys strictly rising and no entry equal to the unlisted value. -/
def smWf {α : Type} [DecidableEq α] (d : Nat → α) : SMap α → Bool
  | [] => true
  | (a, v) :: m => decide (v ≠ d a) && (m.all fun p => decide (a < p.1)) && smWf d m

/-- Does this row of the map hold the word at byte offset `a`? -/
def rowCovers (r : RegRow) (a : Nat) : Bool :=
  if a < r.base then false
  else
    let o := a - r.base
    let i := if r.s1 = 0 then 0 else min (o / r.s1) (r.n1 - 1)
    let o' := o - i * r.s1
    if r.s2 = 0 then o' = 0 else decide (o' % r.s2 = 0 ∧ o' / r.s2 < r.n2)

/-- The row that holds the word at byte offset `a`, if the map has one (R719 otherwise). -/
def regRowAt (a : Nat) : Option RegRow := (regRowsOf (a / 0x100000)).find? fun r => rowCovers r a

/-- Reset value of the field of row `r` at lowest bit `lo`. -/
def rowReset (r : RegRow) (lo : Nat) : Nat :=
  match r.fields.find? fun f => f.lo = lo with
  | some f => f.reset
  | none => 0

/-- Reset value of a field key (R5). Four reset values depend on the index: FIRST of PIX_LB and of LNK_GRP is 16 × g,
GROUP of SQR_CFG is floor(s / 4), 0 for SQA, CLASS of ARB_REQ_EFF is the class R656 gives requester n. -/
def fieldReset (key : Nat) : Nat :=
  let a := key / 32
  let lo := key % 32
  match regRowAt a with
  | none => 0
  | some r =>
    if r.base = regPIX_LB.base ∧ lo = (fPIX_LB_FIRST 0).lo then 16 * ((a - r.base) / r.s1)
    else if r.base = regLNK_GRP.base ∧ lo = (fLNK_GRP_FIRST 0).lo then 16 * ((a - r.base) / r.s1)
    else if r.base = regSQR_CFG.base ∧ lo = (fSQR_CFG_GROUP 0).lo then
      (let s := (a - r.base) / r.s1; if s = 64 then 0 else s / 4)
    else if r.base = regARB_REQ_EFF.base ∧ lo = (fARB_REQ_EFF_CLASS 0).lo then
      (let n := (a - r.base) / r.s1; if n ≤ 3 then 0 else if n ≤ 10 then 1 else if n ≤ 13 then 2 else 3)
    else rowReset r lo

/-- The key of a field. -/
def fldKey (f : Fld) : Nat := 32 * f.addr + f.lo

/-- Read a field of a register store. -/
def regGet (m : SMap Nat) (f : Fld) : Nat := smGet fieldReset m (fldKey f)

/-- Write a field of a register store; a value wider than the field is cut to its width. -/
def regSet (m : SMap Nat) (f : Fld) (v : Nat) : SMap Nat := smSet fieldReset m (fldKey f) (v % 2 ^ f.w)

/-- Bits [hi:lo] of a number. -/
def bitsOf (n hi lo : Nat) : Nat := n / 2 ^ lo % 2 ^ (hi + 1 - lo)

/-- Bit `i` of a number, as 0 or 1. -/
def bit (n i : Nat) : Nat := n / 2 ^ i % 2

/-- A number with bit `i` set or cleared. -/
def putBit (n i : Nat) (b : Bool) : Nat := n - bit n i * 2 ^ i + (if b then 2 ^ i else 0)

/-- Saturating increment. -/
def satAdd (n k limit : Nat) : Nat := min (n + k) limit

/-- A two's complement field of width `w` read as an integer. -/
def sInt (w n : Nat) : Int := if n < 2 ^ (w - 1) then n else (n : Int) - 2 ^ w

/-- An integer as a two's complement field of width `w`. -/
def toField (w : Nat) (x : Int) : Nat := (x % (2 ^ w : Int)).toNat

/-- The bytes of a number, little-endian, `n` of them. -/
def leBytes : Nat → Nat → List Byte
  | 0, _ => []
  | n + 1, v => BitVec.ofNat 8 v :: leBytes n (v / 256)

/-- The number a byte list spells, little-endian. -/
def leNat : List Byte → Nat
  | [] => 0
  | b :: bs => b.toNat + 256 * leNat bs

/-- Pack (width, value) fields from bit 0 upwards. -/
def packBits : List (Nat × Nat) → Nat
  | [] => 0
  | (w, v) :: fs => v % 2 ^ w + 2 ^ w * packBits fs

/-- Replace element `i` of a list. -/
def listSet {α : Type} : List α → Nat → α → List α
  | [], _, _ => []
  | _ :: xs, 0, v => v :: xs
  | x :: xs, n + 1, v => x :: listSet xs n v

/-- 1 for true. -/
def b2n (b : Bool) : Nat := if b then 1 else 0

end Sys2Proof.Machine
end

