-- ==== Sys2Proof/Machine/CodecBits.lean ====
section
/-!
DEFINITION. The tile codec to the bit (R107, R208 to R216, R228): stored pixel words and their components, prediction,
the adaptive Golomb code, runs, the block header, CRC-32C, encoding and decoding of one block.
-/
namespace Sys2Proof.Machine

/-- Bytes per stored pixel of a format (R107). -/
def fmtBpp : Nat → Nat
  | 0 => 2
  | 1 => 3
  | _ => 4

/-- Components of a format in coding order R, G, B, then A: lowest bit and depth (R107, R211). -/
def fmtComps : Nat → List (Nat × Nat)
  | 0 => [(11, 5), (5, 6), (0, 5)]
  | 1 => [(16, 8), (8, 8), (0, 8)]
  | 2 => [(16, 8), (8, 8), (0, 8), (24, 8)]
  | _ => [(20, 10), (10, 10), (0, 10), (30, 2)]

/-- The components of a stored pixel word. -/
def unpackPix (fmt w : Nat) : List Nat := (fmtComps fmt).map fun c => w / 2 ^ c.1 % 2 ^ c.2

/-- The stored pixel word of components. -/
def packPix (fmt : Nat) (cs : List Nat) : Nat :=
  ((fmtComps fmt).zip cs).foldl (fun n p => n + p.2 % 2 ^ p.1.2 * 2 ^ p.1.1) 0

/-- One step of CRC-32C over a byte, reflected (R210). -/
def crc32cByte (c : Nat) (b : Byte) : Nat :=
  (List.range 8).foldl (fun c _ => if c % 2 = 1 then (c / 2) ^^^ 0x82F63B78 else c / 2) (c ^^^ b.toNat)

/-- CRC-32C (R210). -/
def crc32c (bs : List Byte) : Nat := (bs.foldl crc32cByte 0xFFFFFFFF) ^^^ 0xFFFFFFFF

/-- The median-edge predictor (R212). -/
def medianEdge (a b c0 : Nat) : Nat :=
  if max a b ≤ c0 then min a b else if c0 ≤ min a b then max a b else a + b - c0

/-- Prediction of component `c` of pixel `p` of a block `w` wide from the pixels before it, newest first (R212). -/
def predict (rev : List (List Nat)) (w p c : Nat) : Nat :=
  let at_ := fun i => ((rev.getD i []).getD c 0)
  if p < w then at_ 0
  else if p % w = 0 then at_ (w - 1)
  else medianEdge (at_ 0) (at_ (w - 1)) (at_ w)

/-- The mapped residue of value `v` with prediction `p` at depth `d` (R213). -/
def mapResidue (d v p : Nat) : Nat :=
  let e := (v + 2 ^ d - p) % 2 ^ d
  if e < 2 ^ (d - 1) then 2 * e else 2 * (2 ^ d - e) - 1

/-- The value of a mapped residue (R213). -/
def unmapResidue (d m p : Nat) : Nat :=
  if m % 2 = 0 then (p + m / 2) % 2 ^ d else (p + 2 ^ d - (m + 1) / 2 % 2 ^ d) % 2 ^ d

/-- The Golomb parameter: the least k from 0 to d with cnt << k ≥ acc, or d (R214). -/
def golombK (d acc cnt : Nat) : Nat := ((List.range d).find? fun k => decide (acc ≤ cnt * 2 ^ k)).getD d

/-- The state of a component after a regular-coded residue (R214). -/
def golombNext (acc cnt m : Nat) : Nat × Nat :=
  if cnt + 1 = 32 then ((acc + m + 1) / 2, 16) else (acc + m, cnt + 1)

/-- `n` bits of a number, most significant first. -/
def bitsMsb (n v : Nat) : List Bool := (List.range n).map fun i => v / 2 ^ (n - 1 - i) % 2 == 1

/-- The number a bit list spells, most significant first. -/
def msbNat (bs : List Bool) : Nat := bs.foldl (fun n b => 2 * n + b2n b) 0

/-- Read `n` bits (R215). -/
def readBits (n : Nat) (bs : List Bool) : Option (Nat × List Bool) :=
  if bs.length < n then none else some (msbNat (bs.take n), bs.drop n)

/-- How many of the leading bits equal `b`, at most `lim`. -/
def leading (b : Bool) : Nat → List Bool → Nat
  | 0, _ => 0
  | _, [] => 0
  | n + 1, x :: xs => if x == b then leading b n xs + 1 else 0

/-- Write a regular-coded residue (R214). -/
def putGolomb (d acc cnt m : Nat) : List Bool :=
  let k := golombK d acc cnt
  if m / 2 ^ k < 16 then List.replicate (m / 2 ^ k) true ++ false :: bitsMsb k m
  else List.replicate 16 true ++ bitsMsb d m

/-- Read a regular-coded residue (R214). -/
def getGolomb (d acc cnt : Nat) (bs : List Bool) : Option (Nat × List Bool) :=
  let k := golombK d acc cnt
  let q := leading true 16 bs
  if q = 16 then readBits d (bs.drop 16)
  else
    match bs.drop q with
    | [] => none
    | _ :: rest => (readBits k rest).map fun r => (q * 2 ^ k + r.1, r.2)

/-- Write a run count in order-0 exponential Golomb code (R215). -/
def putRun (r : Nat) : List Bool :=
  let z := Nat.log2 (r + 1)
  List.replicate z false ++ bitsMsb (z + 1) (r + 1)

/-- Read a run count; a prefix over nine zeros fails (R215, R228 code 4). -/
def getRun (bs : List Bool) : Option (Nat × List Bool) :=
  let z := leading false 10 bs
  if 9 < z then none else (readBits (z + 1) (bs.drop z)).map fun r => (r.1 - 1, r.2)

/-- The adaptive state of each component (R214). -/
abbrev GolombState := List (Nat × Nat)

/-- Decode one regular pixel: for each component its value, and whether every residue was zero. -/
def decodePixel (ds : List Nat) (st : GolombState) (preds : List Nat) (bs : List Bool) :
    Option (List Nat × GolombState × Bool × List Bool) :=
  match ds, st, preds with
  | d :: ds, (acc, cnt) :: st, p :: ps =>
    match getGolomb d acc cnt bs with
    | none => none
    | some (m, bs) =>
      match decodePixel ds st ps bs with
      | none => none
      | some (vs, st', z, bs) => some (unmapResidue d m p :: vs, golombNext acc cnt m :: st', z && m == 0, bs)
  | _, _, _ => some ([], [], true, bs)

/-- The predictions of every component of pixel `p`. -/
def predAll (nc : Nat) (rev : List (List Nat)) (w p : Nat) : List Nat := (List.range nc).map fun c => predict rev w p c

/-- Append `r` predicted pixels (a run). -/
def runPixels (nc w : Nat) : Nat → List (List Nat) → List (List Nat)
  | 0, rev => rev
  | r + 1, rev => runPixels nc w r (predAll nc rev w rev.length :: rev)

/-- The decoding procedure of R215 after pixel 0; `none` is a failure of code 4. Pixels come newest first. -/
def decodeLoop (npix w : Nat) (ds : List Nat) : Nat → GolombState → Bool → Bool → List (List Nat) → List Bool →
    Option (List (List Nat) × List Bool)
  | 0, _, _, _, rev, bs => if rev.length = npix then some (rev, bs) else none
  | fuel + 1, st, zero, afterRun, rev, bs =>
    if npix ≤ rev.length then some (rev, bs)
    else if zero then
      match getRun bs with
      | none => none
      | some (r, bs) =>
        if npix - rev.length < r then none
        else decodeLoop npix w ds fuel st false true (runPixels ds.length w r rev) bs
    else
      match decodePixel ds st (predAll ds.length rev w rev.length) bs with
      | none => none
      | some (v, st, z, bs) => if z && afterRun then none else decodeLoop npix w ds fuel st z false (v :: rev) bs

/-- Read each component of pixel 0. -/
def readVerbatim : List Nat → List Bool → Option (List Nat × List Bool)
  | [], bs => some ([], bs)
  | d :: ds, bs =>
    match readBits d bs with
    | none => none
    | some (v, bs) => (readVerbatim ds bs).map fun r => (v :: r.1, r.2)

/-- Decode the coded stream of a block; it must use every bit (R215, R228 code 4). -/
def decodeStream (npix w : Nat) (ds : List Nat) (bs : List Bool) : Option (List (List Nat)) :=
  match readVerbatim ds bs with
  | none => none
  | some (v0, bs) =>
    match decodeLoop npix w ds (2 * npix + 1) (ds.map fun _ => (4, 1)) false false [v0] bs with
    | some (rev, []) => some rev.reverse
    | _ => none

/-- Mapped residues of a pixel. -/
def residues (ds preds v : List Nat) : List Nat := (ds.zip (v.zip preds)).map fun x => mapResidue x.1 x.2.1 x.2.2

/-- How many pixels from here on have all-zero residues (R215). -/
def runLength (ds : List Nat) (w : Nat) : List (List Nat) → List (List Nat) → Nat
  | _, [] => 0
  | rev, v :: rest =>
    if v = predAll ds.length rev w rev.length then runLength ds w (v :: rev) rest + 1 else 0

/-- The coded bits of the pixels after pixel 0 (R214, R215); `fuel` bounds the steps. -/
def encodeLoop (ds : List Nat) (w : Nat) : Nat → GolombState → Bool → List (List Nat) → List (List Nat) → List Bool
  | 0, _, _, _, _ => []
  | _, _, _, _, [] => []
  | fuel + 1, st, zero, rev, v :: rest =>
    if zero then
      let r := runLength ds w rev (v :: rest)
      putRun r ++ encodeLoop ds w fuel st false (((v :: rest).take r).reverse ++ rev) ((v :: rest).drop r)
    else
      let ms := residues ds (predAll ds.length rev w rev.length) v
      let code := (ds.zip (st.zip ms)).flatMap fun x => putGolomb x.1 x.2.1.1 x.2.1.2 x.2.2
      let st := (st.zip ms).map fun x => golombNext x.1.1 x.1.2 x.2
      code ++ encodeLoop ds w fuel st (ms.all fun m => m == 0) (v :: rev) rest

/-- The coded stream of a block of pixels (R211 to R215). -/
def encodeStream (w : Nat) (ds : List Nat) (px : List (List Nat)) : List Bool :=
  match px with
  | [] => []
  | v0 :: rest =>
    (ds.zip v0).flatMap (fun x => bitsMsb x.1 x.2) ++
      encodeLoop ds w (2 * px.length + 1) (ds.map fun _ => (4, 1)) false [v0] rest

/-- Bits packed from the most significant bit of each byte, padded with zero bits (R209). -/
def packMsb : Nat → List Bool → List Byte
  | 0, _ => []
  | n + 1, bs => BitVec.ofNat 8 (msbNat ((bs ++ List.replicate 8 false).take 8)) :: packMsb n (bs.drop 8)

/-- The bits of bytes, most significant first. -/
def unpackMsb (bs : List Byte) : List Bool := bs.flatMap fun b => bitsMsb 8 b.toNat

/-- The little-endian bytes of stored pixel words (R209, R210). -/
def pixBytes (fmt : Nat) (ws : List Nat) : List Byte := ws.flatMap fun w => leBytes (fmtBpp fmt) w

/-- Stored pixel words of their bytes. -/
def bytesPix (bpp : Nat) : Nat → List Byte → List Nat
  | 0, _ => []
  | n + 1, bs => leNat (bs.take bpp) :: bytesPix bpp n (bs.drop bpp)

/-- Block header (R208). -/
def blockHeader (raw short : Bool) (nrm1 fmt len bx by_ wm1 pbits : Nat) : List Byte :=
  leBytes 4 (packBits [(16, len), (6, 0), (2, fmt), (2, nrm1), (1, b2n short), (1, b2n raw), (4, 1)]) ++
    leBytes 4 (packBits [(16, bx), (16, by_)]) ++ leBytes 4 (packBits [(17, pbits), (7, 0), (7, wm1), (1, 0)])

/-- Encode a block of `rows` rows of `wb` stored pixel words (R208 to R216); `forceRaw` is the raw path of R223. -/
def encodeBlock (fmt bx by_ wb rows : Nat) (short forceRaw : Bool) (px : List Nat) : List Byte :=
  let bpp := fmtBpp fmt
  let npix := wb * rows
  let ds := (fmtComps fmt).map Prod.snd
  let code := encodeStream wb ds (px.map fun w => unpackPix fmt w)
  let raw := forceRaw || decide (npix * bpp ≤ (code.length + 7) / 8)
  let payload := if raw then pixBytes fmt px else packMsb ((code.length + 7) / 8) code
  let pbits := if raw then 8 * npix * bpp else code.length
  blockHeader raw short (rows - 1) fmt (16 + payload.length) bx by_ (wb - 1) pbits ++ payload ++
    leBytes 4 (crc32c (pixBytes fmt px))

/-- What decoding a block gives: its rows and stored pixel words, or the code of R228. -/
inductive BlockRes where
  | ok (rows : Nat) (px : List Nat)
  | bad (code : Nat)
  deriving DecidableEq, Repr

/-- Cells a block of `len` bytes needs beyond a primary slot of `slot` units of 16 bytes (R204). -/
def cellsNeeded (len slot : Nat) : Nat := if len ≤ 16 * slot then 0 else (len - 16 * slot + 507) / 508

/-- Checks 2, 3, 4 and 6 of R228 on an assembled block: `fmt`, position and size expected of it, LEN and NCELLS of its
descriptor, SLOT of its surface. -/
def decodeBlock (fmt bx by_ wb hb dLen nCells slot : Nat) (bs : List Byte) : BlockRes :=
  let w0 := leNat (bs.take 4)
  let w1 := leNat ((bs.drop 4).take 4)
  let w2 := leNat ((bs.drop 8).take 4)
  let short := bit w0 26 == 1
  let rows := bitsOf w0 25 24 + 1
  if bitsOf w0 31 28 ≠ 1 ∨ bitsOf w0 23 22 ≠ fmt ∨ bitsOf w1 31 16 ≠ by_ ∨ bitsOf w1 15 0 ≠ bx ∨
      bitsOf w2 30 24 + 1 ≠ wb ∨ (¬ short ∧ rows ≠ hb) ∨ (short ∧ hb ≤ rows) ∨
      bitsOf w0 21 16 ≠ 0 ∨ bit w2 31 ≠ 0 ∨ bitsOf w2 23 17 ≠ 0 then .bad 2
  else
    let len := bitsOf w0 15 0
    let npix := wb * rows
    let bpp := fmtBpp fmt
    let pbits := bitsOf w2 16 0
    let raw := bit w0 27 == 1
    let nb := if raw then npix * bpp else (pbits + 7) / 8
    if len ≠ dLen ∨ 16 + npix * bpp < len ∨ (raw ∧ pbits ≠ 8 * npix * bpp) ∨ len ≠ 16 + nb ∨
        nCells ≠ cellsNeeded len slot then .bad 3
    else
      let payload := (bs.drop 12).take nb
      let px? := if raw then some (bytesPix bpp npix payload)
        else
          let bits := unpackMsb payload
          if (bits.drop pbits).any id then none
          else (decodeStream npix wb ((fmtComps fmt).map Prod.snd) (bits.take pbits)).map
            (List.map fun v => packPix fmt v)
      match px? with
      | none => .bad 4
      | some px =>
        if leNat ((bs.drop (12 + nb)).take 4) = crc32c (pixBytes fmt px) then .ok rows px else .bad 6

end Sys2Proof.Machine
end

