-- ==== Sys2Proof/Config.lean ====
section
/-!
DEFINITION. What the spec leaves open and the model leaves free: opaque constants without a body, so that no proof can
rest on a value of them. Each is named in the assumption log.
-/
namespace Sys2Proof.Config

/-- The free value drawn at counter `n` of `State.free`, cut to the width the place has (log entry 8). -/
opaque freeValue : Nat → Nat

/-- SHA-384 of a byte string (R558, R562, R681): uninterpreted (log entry 9). -/
opaque sha384 : List Byte → List Byte

/-- HMAC-SHA-384 of a message under a key (R569): uninterpreted (log entry 9). -/
opaque hmac384 : List Byte → List Byte → List Byte

/-- ECDSA verification on P-384: public key, message, signature (R564, R565): uninterpreted (log entry 9). -/
opaque ecdsaOk : List Byte → List Byte → List Byte → Bool

/-- ECDSA signature with the identity key of a message (R560, R561): uninterpreted (log entry 9). -/
opaque ecdsaSign : List Byte → List Byte → List Byte

/-- AES-256-GCM opening: key, IV, additional data, ciphertext, tag (R558, R576): uninterpreted (log entry 9). -/
opaque gcmOpen : List Byte → List Byte → List Byte → List Byte → List Byte → Option (List Byte)

/-- AES-256-GCM sealing: key, IV, additional data, plaintext; ciphertext then tag (R576): uninterpreted (log entry 9). -/
opaque gcmSeal : List Byte → List Byte → List Byte → List Byte → List Byte

/-- HKDF over a secret and a label (R558, R574): uninterpreted (log entry 9). -/
opaque hkdf : List Byte → List Byte → List Byte

/-- The x-coordinate an ephemeral public key shares with the identity key (R575): uninterpreted (log entry 9). -/
opaque ecdhX : List Byte → List Byte

/-- Is a 97-byte string a point of the curve (R578)? Uninterpreted (log entry 9). -/
opaque pointOk : List Byte → Bool

/-- The per-device fused secret (R558): any bytes. -/
opaque fusedSecret : List Byte

/-- The vendor public keys 0 to 3 (R565): any keys. -/
opaque vendorKey : Nat → List Byte

/-- The boot ROM's bytes, measured as index 1 (R562): any bytes. -/
opaque bootRom : List Byte

/-- Does SRAM bank `b` of 198 to 206 hold table bank `n` = (group × 3 + kind) × 2 + bank (R631)? The layout is open
(log entry 28). -/
opaque tableIn : Nat → Nat → Bool

/-- The boot ROM's build number that GEN_ROMVER reads (R730): any value. -/
opaque romVer : Nat

/-- The state of a lane transmitter's scrambler at its first block (R355; log 127): any 58 bits. -/
opaque scrambler : Nat → Nat

end Sys2Proof.Config
end

