-- ==== Sys2Proof/Machine/State.lean ====
section
/-!
DEFINITION. The state of the block as plain data: the queue of waiting commands, the register fields, and everything
else the spec gives the machine, block by block; the reasons a step can stop; the state after reset.
Register fields live in `State.regs` (one sparse map over the register map of RegDefs); what no register holds lives
in the structures below. Sparse maps list only what differs from the value their accessor gives an unlisted key.
-/
namespace Sys2Proof.Machine

/-- Why the block stops with a fault. -/
inductive Fault where
  /-- A BAR0 access of a size or alignment that R3 calls undefined; raised by a register access. Safe: the machine stops
  where the hardware would do something unsaid. -/
  | unalignedAccess
  deriving DecidableEq, Repr

/-- Why the model has no meaning for a command. -/
inductive Refusal where
  /-- No meaning written: raised by Dispatch alone. Safe. -/
  | notModelled (mnemonic : String)
  deriving DecidableEq, Repr

/-- What the block drives towards the outside, beside the pins that State holds: newest first in `State.outs`. -/
inductive Out where
  /-- A posted write to host memory on behalf of a function (R535). -/
  | hostWrite (func addr : Nat) (bytes : List Byte)
  /-- An MSI-X message on a vector of a function (R539). -/
  | msix (func vec : Nat)
  /-- A back-invalidate snoop of a line: data (false) or invalidate (true) (R532). -/
  | biSnp (line : Nat) (inv : Bool)
  /-- The response to an H2D snoop (R533). -/
  | rspIHitI (line : Nat)
  /-- Data returned by a register read to a requester (R9, R721). -/
  | regData (req : Req) (addr : Nat) (data : Word)
  /-- Data returned to a host CXL.mem read: line, bytes, poison of its two units (R531). -/
  | memData (line : Nat) (bytes : List Byte) (poison0 poison1 : Bool)
  /-- Completion of a host CXL.mem write (R531). -/
  | memDone (line : Nat)
  /-- A mailbox or DOE reply: opcode name number and payload (R527, R528, R561). -/
  | reply (kind : Nat) (payload : List Byte)
  /-- A flit put on a lane group (R21). -/
  | flit (dir lg : Nat) (f : Flit)
  /-- Blocks sent on a lane pair, eight bytes each (R356, R363): kind 0 a control block, 1 data blocks, 2 data blocks with injected bit
  errors, 4 data blocks of which the first has sync header 00 (R399). -/
  | lane (lane kind : Nat) (content : List Byte)
  /-- A read of host memory asked over CXL.cache (R533). -/
  | rdCurr (line : Nat)
  /-- IDLE blocks a lane pair's transmitter sends one after another: how many, and how many blocks it had sent since its last FILL
  (R358, R370, R387). -/
  | idle (lane n fill : Nat)
  /-- A run of test blocks a lane pair's transmitter sends: MODE and POLY of LNK_TEST (R398). -/
  | prbs (lane mode poly n fill : Nat)
  /-- A read of register 0x00 of a panel temperature sensor: bus and address (R439). -/
  | tempRead (bus addr : Nat)
  deriving DecidableEq, Repr
/-! ## Device time, events and faults (01, 16) -/

/-- Device time: the master, the raster-die copy and its correction (R32 to R36). -/
structure TimeSt where
  /-- Host-die master, in ticks (R32). -/
  master : Nat
  /-- Raster-die copy (R33). -/
  raster : Nat
  /-- Increments still to add (positive) or skip (negative) by slewing (R34). -/
  corr : Int
  /-- Ticks since the last slewed increment (R34). -/
  slewAge : Nat
  /-- Raster tick of the last accepted sample (R36). -/
  lastSample : Nat
  /-- Smallest round trip seen since PORST_N (R33). -/
  minRtt : Option Nat
  /-- Master value carried by the synchronisation flit in flight, and the master tick from which the next is due (R33). -/
  syncSent : Option Nat
  syncDue : Nat
  deriving DecidableEq, Repr

/-- An event record (R40); `args` is bytes 16 to 31, byte 16 in its lowest eight bits. -/
structure Ev where
  stamp : Nat
  code : Nat
  late : Bool
  origin : Nat
  locus : Nat
  args : Nat
  deriving DecidableEq, Repr

/-- What waits in a ring's hold buffer: a record, or the place of an EVR_LOST for `n` records discarded there, with the
stamps of the first and the last (R538). -/
inductive Held where
  | one (e : Ev)
  | lost (n first last : Nat)
  deriving DecidableEq, Repr

/-- What a ring still has to do, in order (R537): a write to the frame store, a posted host write, an MSI-X message. -/
inductive RingAct where
  | fs (addr : Nat) (bytes : List Byte)
  | host (func addr : Nat) (bytes : List Byte)
  | msix (func vec : Nat)
  deriving DecidableEq, Repr

/-- The part of an event ring that no register holds (R537 to R539). -/
structure Ring where
  /-- Hold buffer, oldest first (R538). -/
  held : List Held
  /-- P: records written since the last MSI-X message, and the tick the first of them was written (R539). -/
  p : Nat
  pFirst : Nat
  /-- Writes and messages that wait for a back-invalidate response (R532, R537). -/
  acts : List RingAct
  deriving DecidableEq, Repr

/-- Events under way: raised and not yet at the merge, waiting in the merge, and the rings (R43 to R46, R535). -/
structure EvSt where
  enRoute : List Ev
  merge : List Ev
  rings : SMap Ring
  deriving DecidableEq, Repr

/-- A fault record (R703). -/
structure FltRec where
  stamp : Nat
  fcode : Nat
  cls : Nat
  flags : Nat
  origin : Nat
  unit : Nat
  detail : Nat
  count : Nat
  fseq : Nat
  deriving DecidableEq, Repr

/-- The fault log ring, by slot, and the sequence number of its newest record (R703, R704). -/
structure FltSt where
  log : SMap FltRec
  fseq : Nat
  deriving DecidableEq, Repr

/-! ## The Damoon link (01) -/

/-- A flit a transmitter holds until it is acknowledged (R14, R16), and the requester of R656 it was sent for. -/
structure HeldFlit where
  seq : Nat
  tc : Nat
  kind : Nat
  plen : Nat
  data : BitVec 1920
  req : Nat
  deriving DecidableEq, Repr

/-- One lane group in one direction: its transmitter and its receiver (R13 to R21). -/
structure LaneGrp where
  /-- Next SEQ to send. -/
  seq : Nat
  /-- Unacknowledged flits, oldest first (the replay buffer, at most 128). -/
  replay : List HeldFlit
  /-- How many of them, at the end of the list, are still to be resent. -/
  resend : Nat
  /-- Consecutive replays that began at the same flit (R17), and that flit's SEQ. -/
  same : Nat
  sameSeq : Nat
  /-- Tick of the last acknowledgement, or of the oldest flit's sending (R16). -/
  heldSince : Nat
  /-- Traffic classes of the last 63 flits sent, newest first (R21). -/
  hist : List Nat
  /-- Requester that a round of the arbiter has granted step 4 of the coming slot (R21, R647). -/
  grant : Option Nat
  /-- Receiver: next SEQ expected (the last received without error is the one before), and whether it discards until that
  SEQ comes. -/
  exp : Nat
  drop : Bool
  /-- Acknowledgement the opposite transmitter must send: 0 none, 1 ACK, 2 NAK (ACKK of R14). -/
  ack : Nat
  /-- Receive credits returned to this transmitter, by traffic class (CRTC and CRED of R14). -/
  cred : SMap Nat
  /-- Width kept from an earlier training: 0 full, 3 or 4 as STATE (R17, R701). -/
  half : Nat
  /-- Retired, and the unacknowledged flits not yet moved (R18). -/
  awaitMgmt : Bool
  deriving DecidableEq, Repr

/-- A TC1 flit the block itself sends: time synchronisation (R33), or the report of a retired lane group's last accepted SEQ
(R18). -/
inductive OwnFlit where
  | sync
  | report (lg seq : Nat)
  deriving DecidableEq, Repr

/-- The link: lane groups keyed by 16 × direction + lane group (direction 0 host to raster, 1 raster to host), the
flits of retired lane groups that wait to be resent on others, by direction (R18), and the block's own TC1 flits waiting for a
slot, by direction. -/
structure LinkSt where
  grp : SMap LaneGrp
  moved : SMap (List HeldFlit)
  own : SMap (List OwnFlit)
  deriving DecidableEq, Repr

/-! ## Transactions in transit, and raster groups (02, 03) -/

/-- One word written by a transaction: its BAR0 offset, the value and the mask of the S-class bits staged (R320, R321). -/
structure WsWord where
  addr : Nat
  val : Nat
  mask : Nat
  deriving DecidableEq, Repr

/-- A COMMIT: issuer, its CSEQ, the group it names, the write set, the code that already dooms it (0 none, 11, 12, 19),
its arrival tick, and what it met on the way to its latch. -/
structure Commit where
  issuer : Nat
  cseq : Nat
  group : Nat
  ws : List WsWord
  doom : Nat
  arrival : Nat
  /-- Held past the latch R56 gives, under R67 (WAITED of R61). -/
  waited : Bool
  deriving DecidableEq, Repr

/-- A commit that took effect and whose APPLIED is not yet raised (R61). -/
structure Applied where
  issuer : Nat
  cseq : Nat
  tick : Nat
  timing : Bool
  waited : Bool
  stopped : Bool
  /-- The latch was followed by a biscuit frame (R64). -/
  biscuit : Bool
  /-- Panes the commit wrote: their CHG_FRAME takes the first frame shown (R103). -/
  panes : List Nat
  deriving DecidableEq, Repr

/-- The timing in use in the frame in progress (R48, R51); `lper` in units of 1/65,536 tick. -/
structure Timing where
  hact : Nat
  hfp : Nat
  hsync : Nat
  hbp : Nat
  vact : Nat
  vfp : Nat
  vsync : Nat
  vbp : Nat
  lper : Nat
  lofs : Nat
  lead : Nat
  cutoff : Nat
  deriving DecidableEq, Repr

/-- The genlock engine of a group (R69 to R71). Times in units of 1/65,536 tick. -/
structure Genlock where
  /-- The last two accepted edges, newest first. -/
  e1 : Option Nat
  e2 : Option Nat
  /-- Tick at which earlier edges were last forgotten. -/
  forgot : Nat
  /-- |r| of the decisions since ACQUIRE was entered, newest first, at most 17. -/
  hist : List Nat
  /-- Consecutive decisions in LOCKED with |r| > LPER / 2. -/
  broken : Nat
  /-- Frames passed in FREERUN. -/
  freeFrames : Nat
  /-- Pull of the frame in progress, lines. -/
  pull : Int
  /-- SRC and POL when edges were last forgotten. -/
  src : Nat
  pol : Nat
  deriving DecidableEq, Repr

/-- The refresh ladder of a group (R118, R120). -/
structure Ladder where
  step : Nat
  k : Nat
  stat : Nat
  pend : Bool
  /-- Front porch with which the previous frame ran, without trim lines (R118). -/
  prevPorch : Nat
  /-- Front porch R118 decided for the frame in progress, and the trim lines added to it (R436). -/
  decided : Nat
  trim : Nat
  /-- Common and counter that the pair in progress is to trim (R436). -/
  trimR : Option (Nat × Int)
  /-- Earliest wake of the frame in progress: the tick of the commit or the watched write (R120). -/
  wake : Option Nat
  /-- A watched write completed since the group's last cut-off, and since the one before (R115). -/
  watched : Bool
  /-- What the writes before the last cut-off amount to: the decision's input. -/
  watchedCut : Bool
  deriving DecidableEq, Repr

/-- One panel group's raster (02). -/
structure Grp where
  /-- t_epoch in units of 1/65,536 tick, and k, the lines since it (R48). -/
  epoch : Nat
  k : Nat
  /-- Number within its frame of the line in progress, its start tick; whether line 0 has started since STARTING. -/
  line : Nat
  lineTick : Nat
  live : Bool
  /-- Start tick of the first line 0 while STARTING, or the tick a TE wait begins (R54). -/
  due : Nat
  /-- Frame number (R49). -/
  frame : Nat
  cur : Timing
  /-- k at line 0 of the frame in progress, and its front porch. -/
  k0 : Nat
  porch : Nat
  /-- State a STOPPING group left (R55). -/
  left : Nat
  /-- Tick of the most recent latch (R92). -/
  latchTick : Nat
  /-- Cut-off of the coming latch passed; latch of this frame taken. -/
  cutPassed : Bool
  latched : Bool
  /-- Commits attributed to the next latch, to the one after, and held (R56, R67, R150, R434), in arrival order. -/
  attr : List Commit
  later : List Commit
  held : List Commit
  /-- Commits in effect whose APPLIED is still to come (R61). -/
  applied : List Applied
  /-- The next line 0 takes new timing and a new epoch (R63); the next frame is a biscuit frame (R64). -/
  newTiming : Bool
  biscuitNext : Bool
  gl : Genlock
  lad : Ladder
  /-- The next frame is changed (R115); self-refresh of the group (R122), and a pending exit (R126). -/
  changedNext : Bool
  srEnterAtLatch : Bool
  srExitAtLatch : Bool
  /-- What the last cut-off bound: 0 nothing, 1 entry, 2 exit. -/
  srAtLatch : Nat
  /-- Self-refresh began at once, within the frame being processed: reads already issued go on (R122). -/
  srAtOnce : Bool
  /-- TE: tick the wait began, E of R74, timeouts raised in this wait. -/
  teWait : Option Nat
  teE : Option Nat
  teOuts : Nat
  vactTick : Nat
  /-- Underrun: a line of this frame has raised UNDERRUN; the last line counted (R77); the abort decided (R78). -/
  urRaised : Bool
  urLine : Option Nat
  urAbort : Option Nat
  /-- PANE_DROP, DEFECT_SKIP raised in this frame (R111, R159). -/
  dropRaised : Bool
  skipRaised : Bool
  /-- End tick of the SYNCOUT pulse in progress (R73). -/
  syncEnd : Option Nat
  /-- Program swaps decided and waiting for line 0 (R687): the NEW sets of the commits, and whether the device issued it (R686). -/
  swaps : List (Nat × Bool)
  /-- Taken at line 0 for the frame in progress: TECH and NCM1 (R424, R433), the BSENSE and BRESV of R494 and R496, and
  whether the frame is sent without pixels (R429). -/
  tech : Nat
  ncm1 : Nat
  bsense : Nat
  bresv : Nat
  blankFrame : Bool
  /-- The line period in progress started at or after tick t + 320 of a power-fail trip (R445). -/
  tripLine : Bool
  /-- First column missing on the line in progress (R77). -/
  urCol : Option Nat
  /-- The frame in progress is the first of an LCD pair (R119, R434). -/
  pairFirst : Bool
  deriving DecidableEq, Repr
/-! ## Frame store (05) and host interface (11) -/

/-- A back-invalidate outstanding (R532): the 64-byte line, the tick it was sent, whether a REALTIME read waits for it, and
whether that read has gone on without it. -/
structure BiWait where
  line : Nat
  since : Nat
  realtime : Bool
  late : Bool
  deriving DecidableEq, Repr

/-- A device write of bytes of one 64-byte line that waits for a back-invalidate response (R532), for its stack (R199), or for
an earlier write of the same writer: `tag` names the writer whose writes complete in the order made. -/
structure FsWait where
  tag : Nat
  addr : Nat
  bytes : List Byte
  deriving DecidableEq, Repr

/-- A host CXL.mem request that waits for its stack (R199): the line, whether the host may cache what it reads, and of a write the
bytes, byte enables, and whether it is a write-back. -/
structure MemReq where
  line : Nat
  cache : Bool
  write : Option (List Byte × Nat × Bool)
  deriving DecidableEq, Repr

/-- A CXL event log of the mailbox (R528): records oldest first (kind, detail), and the overflow count. -/
structure CxlLog where
  recs : List (Nat × Nat)
  overflow : Nat
  deriving DecidableEq, Repr

/-- The host side (11): what stands in configuration space, filters, logs and interrupt state. -/
structure HostSt where
  /-- A hot reset or PERST# assertion in progress; PERST# asserted; link training. -/
  inReset : Bool
  perst : Bool
  training : Bool
  /-- Cache_Enable and Mem_Enable of the CXL DVSEC; the committed decoder base (R530, R534). -/
  cacheEn : Bool
  memEn : Bool
  hdm : Option Nat
  /-- Functions in D3hot (R526). -/
  d3pf0 : Bool
  d3pf1 : Bool
  /-- Lines the host may cache, oldest first (R532), and accesses waiting for a back-invalidate. -/
  sf : List Nat
  bi : List BiWait
  /-- Host requests that wait for a place in the full filter (R532), and for a stack (R199). -/
  sfWait : List Nat
  memWait : List MemReq
  /-- Bytes of host memory returned by CXL.cache reads, by host address; 256 where none has returned, 257 where the read failed (R533). -/
  hostBuf : SMap Nat
  /-- Lines of host memory asked for over CXL.cache and not returned, with the tick of the request (R533). -/
  asked : SMap (Option Nat)
  /-- Logs 0 Informational, 1 Warning, 2 Failure, 3 Fatal; event interrupt policy; poisoned granules (R528). -/
  logs : SMap CxlLog
  intPolicy : Nat
  poisonList : List Nat
  /-- MSI-X, keyed by 2,048 × function + vector: masked, and pending (R539). -/
  unmasked : SMap Bool
  msixPend : SMap Bool
  /-- IDE streams programmed and active: 0 CXL.io, 1 CXL.cachemem (R522). -/
  ideKeys : SMap Bool
  deriving DecidableEq, Repr

/-- The frame store: its bytes (unlisted bytes read zero, as stage 5 leaves them), and its poisoned 32-byte units (R193). -/
structure FsSt where
  mem : SMap Byte
  poison : SMap Bool
  /-- Tick of the last FST_ECC raised for a corrected error (R193). -/
  lastCe : Option Nat
  /-- Scrubber position in granules (R195). -/
  scrub : Nat
  /-- Refresh intervals postponed, by pseudo-channel (R196). -/
  postponed : SMap Nat
  /-- Tick each stack (0 A, 1 B) last saw a request, and the tick its exit ends (R198, R199). -/
  lastReq : SMap Nat
  exitAt : SMap (Option Nat)
  /-- Device cells of the strudel pool: not free (in use or awaiting release), and lost to an uncorrectable error (R206). -/
  used : SMap Bool
  lostCells : SMap Bool
  /-- Device writes not yet performed, oldest first. -/
  wq : List FsWait
  deriving DecidableEq, Repr

/-! ## Non-volatile store and start-up (13, 15) -/

/-- An entry of the write cache, the record store, the dump or the log (R600). -/
structure NvEntry where
  kind : Nat
  seq : Nat
  arg : Nat
  data : List Byte
  deriving DecidableEq, Repr

/-- One stored copy of a record in a record-store sector (R600, R601): the entry, its copy, and whether it is valid. -/
structure NvCopy where
  ent : NvEntry
  copy : Nat
  ok : Bool
  deriving DecidableEq, Repr

/-- A record-store sector (R594, R601, R603): stream 0 none, 1 A, 2 B; its copies, oldest first; closed; erase count. -/
structure NvSector where
  stream : Nat
  copies : List NvCopy
  closed : Bool
  erasing : Bool
  erases : Nat
  deriving DecidableEq, Repr

/-- A record waiting at the cache (R602): its writer (0 record job, 1 critical counter, 2 key load, 3 life cycle,
4 journal, 5 calibration save, 6 image counter), the writer's tag, and the record. A record job's tag is twice its source
granule, plus 1 once it has met the fall-back path; its bytes are read from the frame store when it is accepted. -/
structure NvWait where
  writer : Nat
  tag : Nat
  addr : Nat
  data : List Byte
  deriving DecidableEq, Repr

/-- A transfer in progress (R613): operation, slot, offset, frame-store granule, units asked and done,
whether a unit was deferred, and the number of the requester that started it. -/
structure NvXfer where
  op : Nat
  slot : Nat
  ofs : Nat
  gran : Nat
  units : Nat
  done : Nat
  deferred : Bool
  by_ : Nat
  deriving DecidableEq, Repr

/-- The non-volatile store (13). -/
structure NvSt where
  /-- Image slots A and B by NOR byte offset; unlisted bytes are erased, 0xFF (R593). -/
  nor : SMap Byte
  /-- Mirror of the record store by logical address (R595). -/
  mirror : SMap Byte
  /-- Entries accepted and not durable, in SEQ order; whether copy A of the first one is programmed (R601). -/
  cache : List NvEntry
  copyADone : Bool
  waiting : List NvWait
  sectors : SMap NvSector
  /-- Open sector of each stream: key 1 A, 2 B. -/
  openSec : SMap (Option Nat)
  /-- Counters, as accepted (R609) and as programmed in their partition. -/
  cnt : SMap Nat
  cntDur : SMap Nat
  /-- Log ring, oldest first: (index, SEQ, event) (R611); the index the next entry takes. -/
  log : List (Nat × Nat × Ev)
  logNext : Nat
  /-- Dump (R605): 0 none, 1 due, 2 copy A being written, 3 copy B, 4 stands; its entries; copies and seals that are whole. -/
  dumpPhase : Nat
  dump : List NvEntry
  dumpA : Bool
  dumpB : Bool
  dumpSet : Nat
  xfer : Option NvXfer
  /-- Forced compaction running (R603); the sector being compacted and the SEQs it waits for. -/
  forced : Bool
  compact : Option (Nat × List Nat)
  deriving DecidableEq, Repr

/-- Activation in progress (R686, R689): the new slot, the tick of GO, and whether it is live (MODE = 1). -/
structure ActSt where
  slot : Nat
  goTick : Nat
  live : Bool
  /-- Command processors still to swap; those whose copy runs, with the tick each stopped serving. -/
  cps : List Nat
  copying : List (Nat × Nat)
  groups : List Nat
  deriving DecidableEq, Repr

/-- Start-up (15): PORST_N asserted, stages running, retry facts, the live activation. -/
structure BootSt where
  porst : Bool
  running : List Nat
  otherTried : Bool
  pllRetry : Bool
  bonbonExit : Bool
  autostart : Bool
  act : Option ActSt
  /-- CSEQ of the commits the device issues itself (R61). -/
  cseq : Nat
  deriving DecidableEq, Repr
/-! ## Pixel pipeline (04) and captures (03) -/

/-- A table transfer in progress (R145): group, kind, bank, direction, granule, rounds deferred, and the
number of the requester that started it. -/
structure Tld where
  group : Nat
  kind : Nat
  bank : Nat
  dir : Nat
  gran : Nat
  rounds : Nat
  by_ : Nat
  deriving DecidableEq, Repr

/-- The pixel pipeline's memories (04). -/
structure PixSt where
  /-- Table entries, keyed by ((group × 3 + kind) × 2 + bank) × 65,536 + entry (R143). -/
  tables : SMap Nat
  tld : Option Tld
  /-- Finished pixels of the line buffers, keyed by (group × 65,536 + line) × 65,536 + column: codes R, G, B of 14 bits
  each from bit 0 and their spare codes of 3 bits each from bit 42 (R138, R160). -/
  lb : SMap Nat
  /-- Values entering overdrive of lines whose history blocks are not yet written, keyed by (group × 65,536 + line) × 65,536 +
  column; bit 42 is 1 (R163). -/
  odv : SMap Nat
  /-- History blocks written in the frame being processed, by group (R165). -/
  histCount : SMap Nat
  /-- Lines on which an underrun occurred in this frame, keyed by group × 65,536 + line (R163). -/
  urLines : SMap Bool
  /-- Capture bytes written in this frame, keyed by pane × 2^36 + offset; panes whose capture the frame in progress completed, to
  become valid at its end (R125). -/
  cap : SMap Bool
  capWhole : SMap Bool
  /-- Span each group processes next, 1,024 × line + span (R140). -/
  cursor : SMap Nat
  /-- Defect entries already counted as skipped in the frame being processed, keyed by group × 2^20 + entry (R159). -/
  skipped : SMap Bool
  /-- Lines of the frame in progress whose pixels were not sent, keyed by group × 65,536 + line (R163). -/
  unsent : SMap Bool
  /-- Plane reads that failed in the frame being processed, keyed by group × 2^40 + 64-byte line (R155). -/
  badLines : SMap Bool
  /-- Defect entries, plane granules and table banks found with an uncorrectable error (R155, R172). -/
  badDefects : SMap Bool
  badPanes : SMap Bool
  /-- Groups whose fetchers are an emergency requester (R650). -/
  emerg : SMap Bool
  deriving DecidableEq, Repr
/-! ## Codec (05) -/

/-- A codec job submitted and not yet complete (R217, R218, R225): its ring index, record words, whether it was started,
the refusal reason (0 none), blocks still to hand out, blocks handed out and not finished, its counts, and the number of the
requester that submitted it. -/
structure Job where
  idx : Nat
  words : List Nat
  started : Bool
  reason : Nat
  todo : List (Nat × Nat)
  busy : Nat
  written : Nat
  shorts : Nat
  srcFail : Bool
  rounds : Nat
  waited : Bool
  lastEnc : Option Nat
  by_ : Nat
  deriving DecidableEq, Repr

/-- A codec encoder: the block it holds (job index, block column, block row) and its mismatches since its last release (R224). -/
structure Enc where
  block : Option (Nat × Nat × Nat)
  misses : Nat
  deriving DecidableEq, Repr

/-- A compressed block on its way to scan-out: still to be decoded (its stream or the failing code), or decoded (R226, R228). -/
inductive TileBlk where
  | stream (dLen nCells : Nat) (bytes : List Byte)
  | empty
  | failed (code : Nat)
  | shown (rows : Nat) (px : List Nat)
  | background
  deriving DecidableEq, Repr

/-- The codec (05): jobs in ring order, encoders, freed cells with the tick each becomes allocatable, and the blocks of the
frame being processed, keyed by (pane × 65,536 + block row) × 65,536 + block column. -/
structure CodecSt where
  jobs : List Job
  encs : SMap Enc
  releasing : List (Nat × List Nat)
  tiles : SMap (Option TileBlk)
  /-- Freed cells whose new descriptor still waits to be written (R221). -/
  freed : List Nat
  deriving DecidableEq, Repr
/-! ## Cores, queues, transactions and locks (06, 07) -/

/-- What holds a core at the instruction in progress (R266 to R272, R279, R282). -/
inductive Act where
  | run
  /-- WAITL: flag, target, anchored at vertical sync, armed, and the line before the one in progress (R267, R268). -/
  | waitLine (n target : Nat) (sync armed : Bool) (prev : Option Nat)
  /-- WAITC: flag and column (R269). -/
  | waitCol (n col : Nat)
  /-- WAITE: flag, source, and the tick of its timeout (R271). -/
  | waitEvent (n src : Nat) (deadline : Option Nat)
  /-- WAITT: flag, target, and whether it is compared with TIME_LO (R270). -/
  | waitTime (n target : Nat) (low : Bool)
  /-- FENCE: mask (R279). -/
  | fence (mask : Nat)
  /-- LDX of a T-C core to a raster-die block: destination and offset (R282). -/
  | load (d ofs : Nat)
  /-- A transaction or lock instruction of a T-R core: opcode, Gd, Ga, flag (R278, R282). -/
  | trip (op d ga n : Nat)
  deriving DecidableEq, Repr

/-- A Thoene core beyond its registers of the map (R252): general registers, flags, PC, return stack (newest first),
TIME_HI latch, watchdog count, what holds it, the flag with which the wait in progress has completed, and the byte
length of the instruction in progress; the first tick at which the next instruction may issue, and the register whose result
may be read only from a later tick (R282); the tick of its last fault (R286); of a WAITE whose
timeout has expired: the tick, its flag and its source (R272). -/
structure Core where
  g : SMap Nat
  flags : Nat
  pc : Nat
  stack : List Nat
  timeHi : Nat
  wdog : Nat
  act : Act
  ready : Option Bool
  len : Nat
  next : Nat
  hot : Nat
  hotAt : Nat
  faultAt : Option Nat
  expired : Option (Nat × Nat × Nat)
  deriving DecidableEq, Repr

/-- A queue entry in progress at a command processor (R308, R313, R314): queue, index; stage 0 fetch, 1 trailer check,
2 waiting for its LASTCTR record, 3 executing, 4 record accepted; tag, NOTIFY, its 64 bytes, issuer slot, CRIT; DETAIL of a denied
critical write (R568), 0 none; CSEQs of the COMMITs retired in it (R271). -/
structure Entry where
  q : Nat
  idx : Nat
  stage : Nat
  tag : Nat
  notify : Bool
  data : List Byte
  slot : Nat
  crit : Bool
  denied : Nat
  commits : List Nat
  deriving DecidableEq, Repr

/-- A lock beyond its register (R328, R329): CSEQ of the commit at its commit point, that commit's result once
reported (true refused), and the cause of its break. -/
structure LockSt where
  point : Option Nat
  result : Option Bool
  cause : Nat
  deriving DecidableEq, Repr

/-- The result of a commit on its way to the host die (R329): issuer, CSEQ, refused. -/
structure Report where
  issuer : Nat
  cseq : Nat
  refused : Bool
  deriving DecidableEq, Repr

/-- A scheduled gate edge (R276, R277): its tick, rise or fall, the core that scheduled it. -/
structure Edge where
  tick : Nat
  rise : Bool
  core : Nat
  deriving DecidableEq, Repr

/-- A gate-timing output: its logical level and its scheduled edges, in order of placing (R277). -/
structure GtoPin where
  level : Bool
  edges : List Edge
  deriving DecidableEq, Repr

/-- Cores, queues, transactions and locks. -/
structure ThSt where
  /-- Cores by origin ID. -/
  cores : SMap Core
  /-- Instruction and data memories: key 65,536 × origin ID + word address (R253, R254). -/
  imem : SMap Nat
  dmem : SMap Nat
  /-- Entry in progress, by command processor 0 to 7; command processors that serve no queue until RUN (R284, R318). -/
  entries : SMap (Option Entry)
  noServe : SMap Bool
  /-- Queues whose trailers wait for the checker, in fetch order (R570). -/
  checks : List Nat
  /-- Queues with a RUN = 0 waiting for the end of their entry (R309). -/
  stopReq : SMap Bool
  /-- Tick of the last doorbell of a queue and TAIL before the first of that tick (R310). -/
  bells : SMap (Nat × Nat)
  /-- SQR_WSEL by requester (R302). -/
  wsel : SMap Nat
  /-- Write sets of the open transactions, by directory slot (R319, R321). -/
  txns : SMap (List WsWord)
  /-- CSEQ of each issuer (R61). -/
  cseq : SMap Nat
  locks : SMap LockSt
  reports : List Report
  gto : SMap GtoPin
  deriving DecidableEq, Repr

/-! ## Driver chains (08) -/

/-- A packet in a partner queue (R273, R380 to R385): TYPE, slot kind, payload words, the core that queued it (0 none),
earliest slot tick, words sent of the attempt, SEQ once given, outstanding, resends, later slots that named the partner,
last NAK reason, and flushed while its segments still leave. -/
structure Pkt where
  typ : Nat
  kind : Nat
  words : List Nat
  core : Nat
  ready : Nat
  sent : Nat
  seq : Option Nat
  out : Bool
  tries : Nat
  timer : Nat
  nak : Nat
  flushed : Bool
  deriving DecidableEq, Repr

/-- A packet of an upstream queue (R386, R418). -/
structure UpPkt where
  typ : Nat
  pid : Nat
  seq : Nat
  words : List Nat
  deriving DecidableEq, Repr

/-- An upstream queue: packets oldest first, payload words read of the head, the last value read (R419). -/
structure Upq where
  pkts : List UpPkt
  rd : Nat
  last : Nat
  deriving DecidableEq, Repr

/-- A lane pair beyond its registers. -/
structure LaneSt where
  /-- Slot epoch of a committed table: its line, and the tick it must come after (R402). -/
  epoch : Option (Nat × Nat)
  /-- The line period in progress is the first of a newly active table (R370); a table became active whose first line period is
  still to come. -/
  newTab : Bool
  tabDue : Bool
  /-- Partner queues held for want of a slot (R404): (position, slot kind). -/
  starved : List (Nat × Nat)
  /-- COUNT of the last ENUM that returned without OVF since ENUM was entered (R388). -/
  enumCount : Option Nat
  /-- Frame in which PIX_NAK was last raised (R379). -/
  nakFrame : Option Nat
  /-- Next slot of the line period in progress, and the line period's transmitter state: slots are sent (R391). -/
  slot : Nat
  lineOn : Bool
  /-- A wake in progress: the tick it ends (R391); the transmitter, and the receiver, under AUTOSLEEP in a porch (R393). -/
  wakeAt : Option Nat
  autoSlept : Bool
  rxAuto : Bool
  /-- An injection is armed for the next data block; injections repeat, and the block from which the next is due (R399). -/
  injArmed : Bool
  injOn : Bool
  injNext : Nat
  /-- Number of the block the transmitter sends next, the blocks since its last FILL (R358), and the block at which the slot in
  progress is cut off (R371). -/
  txAt : Nat
  txFill : Nat
  txEnd : Option Nat
  /-- Number of the block from which on it has sent IDLE only, and the last run of at least 16 IDLE blocks before (its first block, and
  the block after it) (R489). -/
  idleFrom : Nat
  idleRun : Nat × Nat
  /-- Queues to flush at the packet boundary (R385), by bit; ENUM = 1 waits for it (R389); block lock lost while in UP (R709). -/
  flush : Nat
  enumReq : Bool
  lockLost : Bool
  /-- Spare switch of a spare lane pair: 0 none, 1 decided, 2 carrying without lock, 3 carrying; its cause (R706), ALIGNs
  since; a release
  waits for the next ALIGN (R396, R397). -/
  sw : Nat
  swCause : Nat
  /-- Chain within the bundle of the switch, and the selector code driven (R394, R396). -/
  swChain : Nat
  selCode : Nat
  swAligns : Nat
  release : Bool
  deriving DecidableEq, Repr

/-- The driver chains: partner queues keyed 16 × chain + position (15 broadcast), next SEQ keyed
2 × (16 × chain + position) + space (R380), lane pairs, upstream queues by group, ALIGN SEQ by bundle (R360), tick of the last ALIGN by bundle (R489). -/
structure ChSt where
  queues : SMap (List Pkt)
  seqs : SMap Nat
  lanes : SMap LaneSt
  upq : SMap Upq
  align : SMap Nat
  aligned : SMap (Option Nat)
  deriving DecidableEq, Repr
/-! ## Panel drive, bistable updates (09) and calibration (10) -/

/-- A rail beyond its register (R440 to R443): asserted by its sequence, the tick of that, the tick since when it has
been good, and the force of R443 (0 none, 1 off, 2 on). -/
structure RailSt where
  seqOn : Bool
  onTick : Nat
  goodTick : Option Nat
  force : Nat
  deriving DecidableEq, Repr

/-- The power of a group (R440, R441): the order in progress, the tick its rails were deasserted, a power-down
in progress, and one that waits for STOPPED. -/
structure PwrSt where
  order : Nat
  offTick : Nat
  down : Bool
  downWaits : Bool
  deriving DecidableEq, Repr

/-- A bistable request waiting (R448, R449): rectangle, mode, tag; the band and slot of its submitted journal record;
the record's tag in the store's books; accepted; of an open journal entry (R457);
startable at the last cut-off. -/
structure BisReq where
  x0 : Nat
  y0 : Nat
  wm1 : Nat
  hm1 : Nat
  mode : Nat
  tag : Nat
  jband : Option Nat
  slot : Nat
  recId : Nat
  accepted : Bool
  opened : Bool
  go : Bool
  deriving DecidableEq, Repr

/-- A bistable update in flight (R450, R454): its request, slot, band, frame S, phases, and the flags of its record. -/
structure BisUpd where
  req : BisReq
  slot : Nat
  band : Nat
  start : Nat
  nph : Nat
  changed : Bool
  rerun : Bool
  ecc : Bool
  deriving DecidableEq, Repr

/-- A block of a group's waveform cache (R449): mode, band, 0 being fetched or 1 held, and its bytes. -/
structure WfBlk where
  mode : Nat
  band : Nat
  st : Nat
  data : List Byte
  deriving DecidableEq, Repr

/-- The bistable engine of a group: requests in submission order, updates in flight, cached blocks, open journal entries
found by the last scan that still wait for the first start (slot and the four words). -/
structure BisSt where
  waiting : List BisReq
  flight : List BisUpd
  cache : List WfBlk
  opens : List (Nat × Nat × Nat × Nat × Nat)
  /-- Header of the table in effect, and those that arrived commits bring, with the issuer and CSEQ of each (R452). -/
  hdr : List Byte
  hdrNew : List (Nat × Nat × List Byte)
  /-- Band decided for the frame that follows the last latch (R453). -/
  band : Nat
  /-- Pixels whose cached table word read uncorrectable: column, line, frame (R455). -/
  bad : List (Nat × Nat × Nat)
  deriving DecidableEq, Repr

/-- Panel drive. -/
structure DrvSt where
  rails : SMap RailSt
  pwr : SMap PwrSt
  /-- Level of PFAIL_N (low is true), of VIN below its threshold, the tick of the trip, step t + 320 done (R444, R445). -/
  pfailLow : Bool
  vinLow : Bool
  tripTick : Option Nat
  discharged : Bool
  /-- Consecutive failed reads of a panel sensor; a read in progress (R439). -/
  tempFails : SMap Nat
  tempBusy : SMap Bool
  bis : SMap BisSt
  /-- BIS_REQ0, BIS_REQ1 and RES by requester: key 2,048 × register byte offset + requester (R448). -/
  bisRegs : SMap Nat
  /-- Journal records submitted so far (the model's own tag of each). -/
  bisRec : Nat
  /-- Bonbon window: its memory by byte, and the tick a line being sent ends (R458, R460). -/
  bonMem : SMap Byte
  bonUntil : Nat
  /-- DC-balance counters, two's complement, keyed 32 × group + common (R433, R471). -/
  dcb : SMap Nat
  deriving DecidableEq, Repr

/-- An accumulator of the fold engine (R499). -/
structure Acc where
  sumE : Nat
  sumM : Nat
  n : Nat
  deriving DecidableEq, Repr

/-- The fold cycle of a group (R500): words taken and not yet written (byte offset in the plane, ΣE, ΣM); words written
(offset, new word); those still to replay; latches since the last swap; refusals retried; the swap is bound to the coming latch. -/
structure FoldSt where
  todo : List (Nat × Nat × Nat)
  done : List (Nat × Nat)
  replay : List (Nat × Nat)
  latches : Nat
  retries : Nat
  bound : Bool
  deriving DecidableEq, Repr

/-- Calibration: start tick of each running device item, items whose written value still waits for its gap (R491);
accumulators keyed ((group × 65,536 + block row) × 65,536 + block column) × 4 + component; MREF keyed 4 × partner ID +
component, with its frame number (R498); fold cycles; save sequence (R492); a save waiting for acceptance. -/
structure CalSt where
  running : SMap (Option Nat)
  trim : SMap Bool
  accs : SMap Acc
  mref : SMap (Option (Nat × Nat))
  fold : SMap FoldSt
  saveSeq : Nat
  saving : Bool
  /-- Tick at which the automatic runs of a class last started (R488); tick of the last edge placed on a GTO pin (R489). -/
  lastRun : SMap Nat
  edgeAt : Option Nat
  deriving DecidableEq, Repr

/-- Arbiters (14): ages keyed 4,096 × arbiter + requester (R647). -/
structure ArbSt where
  ages : SMap Nat
  masked : SMap Bool
  /-- ARB_REQ_CFG words on their way to the raster die, and in effect there (R651), by requester. -/
  sent : SMap Nat
  effR : SMap Nat
  deriving DecidableEq, Repr
/-! ## Security (12) -/

/-- The content a measurement was taken of (R562), from which its digest follows. -/
inductive Meas where
  /-- Nothing measured yet. -/
  | empty
  /-- Bytes as they are: raw measurements. -/
  | raw (bytes : List Byte)
  /-- An image of `len` bytes, by offset; unlisted bytes read `fill`. -/
  | image (len fill : Nat) (cells : SMap Byte)
  /-- Instruction memories, and data memories of command processors, of cores in order, keyed as in `ThSt`. -/
  | cores (os : List Nat) (imem dmem : SMap Nat)
  deriving DecidableEq, Repr

/-- A key load that waits for its record (R576): slot, operation, key, PERM, GEN, CTR0, and 0 blob or 1 SPDM. -/
structure KeyLoad where
  slot : Nat
  op : Nat
  key : List Byte
  perm : Nat
  gen : Nat
  ctr : Nat
  via : Nat
  deriving DecidableEq, Repr

/-- Security (12): fuses, the praline bank, sessions, measurements. -/
structure SecSt where
  /-- Fuses: life-cycle STATE, OWNER_REQ, REDEPLOY, DEVID, revoked vendor keys by bit (R558, R565, R577). -/
  fuseState : Nat
  fuseOwner : Nat
  fuseRedeploy : Nat
  devid : Nat
  revoked : Nat
  /-- Keys in the praline bank, by issuer slot; none where nothing is listed (R572). -/
  keys : SMap (List Byte)
  /-- Owner root, 97 bytes, or empty; public identity key, x then y, or empty; identity key unwrapped (R558, R565). -/
  owner : List Byte
  idPub : List Byte
  idOn : Bool
  /-- SPDM sessions: number, transport (0 DOE, 1 MCTP), authority its requester's chain ends at (0 none, 1 vendor, 2 owner). -/
  sessions : List (Nat × Nat × Nat)
  nextSession : Nat
  load : Option KeyLoad
  /-- A GO whose read of the frame store waits (R532): 1 a key load, 2 a life-cycle change with TARGET and OWNER_REQ; address. -/
  goWait : Option (Nat × Nat × Nat × Nat)
  /-- Measurements by index, as last computed. -/
  meas : SMap Meas
  deriving DecidableEq, Repr

/-! ## On-chip memory (14) -/

/-- A march in progress (R639 to R641): its mode, repair, the banks it takes, whether some were skipped. -/
structure March where
  mode : Nat
  repair : Bool
  banks : List Nat
  skipped : Bool
  deriving DecidableEq, Repr

/-- A copy in progress (R657): side (0 frame store, 1 BAR0) and LOC of source and destination, units of 256 bytes, the number of the
requester that started it, and the owner whose writes it makes (4095: none). -/
structure Copy where
  sSpace : Nat
  sLoc : Nat
  dSpace : Nat
  dLoc : Nat
  units : Nat
  by_ : Nat
  own : Nat
  deriving DecidableEq, Repr

/-- On-chip memory: tick of the last MEM_ECC of a corrected error, by die (R636); the march and the copy in progress. -/
structure MemSt where
  ceHost : Option Nat
  ceRaster : Option Nat
  march : Option March
  copy : Option Copy
  deriving DecidableEq, Repr
/-! ## The whole state -/

/-- The state of the block. -/
structure State where
  /-- Commands waiting, first in, first out. -/
  pending : List Instr
  /-- Register fields, by `fldKey` (17 and every field table). -/
  regs : SMap Nat
  /-- Upper words latched by reads of LO registers, keyed by 2,048 × (HI byte offset) + requester number (R721). -/
  latches : SMap Nat
  /-- W1C bits set by the block: master tick plus 1 of the last setting, keyed by 32 × (key of the field) + bit (R7). -/
  w1cAt : SMap Nat
  /-- The model's own counter of free values drawn (Config.freeValue). -/
  free : Nat
  /-- The model's own record of what the block drove outwards, newest first. -/
  outs : List Out
  time : TimeSt
  ev : EvSt
  flt : FltSt
  link : LinkSt
  groups : SMap Grp
  /-- COMMITs on their way to the raster die over TC1, oldest first (R19, R56). -/
  transit : List Commit
  host : HostSt
  fs : FsSt
  nv : NvSt
  boot : BootSt
  pix : PixSt
  codec : CodecSt
  th : ThSt
  ch : ChSt
  drv : DrvSt
  cal : CalSt
  arb : ArbSt
  sec : SecSt
  mem : MemSt
  deriving DecidableEq, Repr

/-! ## Reset -/

/-- A group before its first start (R49, R54). -/
def Grp.init : Grp where
  epoch := 0
  k := 0
  line := 0
  lineTick := 0
  live := false
  due := 0
  frame := 0
  cur := ⟨0, 0, 0, 0, 0, 0, 0, 0, 0, 0, 0, 0⟩
  k0 := 0
  porch := 0
  left := 0
  latchTick := 0
  cutPassed := false
  latched := false
  attr := []
  later := []
  held := []
  applied := []
  newTiming := false
  biscuitNext := false
  gl := ⟨none, none, 0, [], 0, 0, 0, 0, 0⟩
  lad := ⟨0, 0, 0, false, 0, 0, 0, none, none, false, false⟩
  changedNext := true
  srEnterAtLatch := false
  srExitAtLatch := false
  srAtLatch := 0
  srAtOnce := false
  teWait := none
  teE := none
  teOuts := 0
  vactTick := 0
  urRaised := false
  urLine := none
  urAbort := none
  dropRaised := false
  skipRaised := false
  syncEnd := none
  swaps := []
  tech := 0
  ncm1 := 0
  bsense := 0
  bresv := 0
  blankFrame := false
  tripLine := false
  urCol := none
  pairFirst := false

/-- A lane group before training (R25). -/
def LaneGrp.init : LaneGrp where
  seq := 0
  replay := []
  resend := 0
  same := 0
  sameSeq := 0
  heldSince := 0
  hist := []
  grant := none
  exp := 0
  drop := false
  ack := 0
  cred := []
  half := 0
  awaitMgmt := false

/-- A core after PORST_N (R252). -/
def Core.init : Core := ⟨[], 0, 0, [], 0, 0, .run, none, 4, 0, 0, 0, none, none⟩

/-- A lane pair after PORST_N (R387). -/
def LaneSt.init : LaneSt where
  epoch := none
  newTab := false
  tabDue := false
  starved := []
  enumCount := none
  nakFrame := none
  slot := 0
  lineOn := false
  wakeAt := none
  autoSlept := false
  rxAuto := false
  injArmed := false
  injOn := false
  injNext := 0
  txAt := 0
  txFill := 0
  txEnd := none
  idleFrom := 0
  idleRun := (0, 0)
  flush := 0
  enumReq := false
  lockLost := false
  sw := 0
  swCause := 0
  swChain := 0
  selCode := 0
  swAligns := 0
  release := false

/-- The block while PORST_N is asserted: every register at its reset value (R5), nothing listed in any memory. -/
def State.reset : State where
  pending := []
  regs := []
  latches := []
  w1cAt := []
  free := 0
  outs := []
  time := ⟨0, 0, 0, 0, 0, none, none, 0⟩
  ev := ⟨[], [], []⟩
  flt := ⟨[], 0⟩
  link := ⟨[], [], []⟩
  groups := []
  transit := []
  host := ⟨false, false, false, false, false, none, false, false, [], [], [], [], [], [], [], 0, [], [], [], []⟩
  fs := ⟨[], [], none, 0, [], [], [], [], [], []⟩
  nv := ⟨[], [], [], false, [], [], [], [], [], [], 0, 0, [], false, false, 0, none, false, none⟩
  boot := ⟨true, [], false, false, false, false, none, 0⟩
  pix := ⟨[], none, [], [], [], [], [], [], [], [], [], [], [], [], []⟩
  codec := ⟨[], [], [], [], []⟩
  th := ⟨[], [], [], [], [], [], [], [], [], [], [], [], [], []⟩
  ch := ⟨[], [], [], [], [], []⟩
  drv := ⟨[], [], false, false, none, false, [], [], [], [], 0, [], 0, []⟩
  cal := ⟨[], [], [], [], [], 0, false, [], none⟩
  arb := ⟨[], [], [], []⟩
  sec := ⟨0, 0, 0, 0, 0, [], [], [], false, [], 1, none, none, []⟩
  mem := ⟨none, none, none, none⟩

end Sys2Proof.Machine
end

