-- ==== Sys2Proof/Machine/Ops.lean ====
section
/-!
DEFINITION. The operations every family shares: register fields of the state, the clocks, event records (R40 to R43),
fault records (R703 to R707), error bits (R712, R713), free values, the raster groups' accessors, and the bytes of
the frame store (R190, R193).
-/
namespace Sys2Proof.Machine

/-! ## Register fields -/

/-- The value of a register field. -/
def State.f (s : State) (x : Fld) : Nat := regGet s.regs x

/-- Set a register field. -/
def State.setF (s : State) (x : Fld) (v : Nat) : State := { s with regs := regSet s.regs x v }

/-- Is a one-bit field 1? -/
def State.on (s : State) (x : Fld) : Bool := s.f x != 0

/-- Set a one-bit field. -/
def State.setOn (s : State) (x : Fld) (b : Bool) : State := s.setF x (b2n b)

/-- Increment a counter field, saturating at its largest value. -/
def State.count (s : State) (x : Fld) (n : Nat) : State := s.setF x (satAdd (s.f x) n (2 ^ x.w - 1))

/-- Set or clear one bit of a field that holds a bit set. -/
def State.putBit (s : State) (x : Fld) (i : Nat) (b : Bool) : State := s.setF x (Machine.putBit (s.f x) i b)

/-- Key of bit `i` of a field in `State.w1cAt`. -/
def w1cKey (x : Fld) (i : Nat) : Nat := 32 * fldKey x + i

/-- The block sets bit `i` of a W1C field (R7). -/
def State.setW1c (s : State) (x : Fld) (i : Nat) : State :=
  { s.putBit x i true with w1cAt := smSet (fun _ => 0) s.w1cAt (w1cKey x i) (s.time.master + 1) }

/-- Bits of a W1C field that the block set in this cycle: a clear in the same cycle loses to them (R7). -/
def State.w1cNow (s : State) (x : Fld) : Nat :=
  ((List.range x.w).map fun i =>
    if smGet (fun _ => 0) s.w1cAt (w1cKey x i) = s.time.master + 1 then bit (s.f x) i * 2 ^ i else 0).sum

/-- A W1C field after a write of `n` (R6, R7). -/
def State.afterClear (s : State) (x : Fld) (n : Nat) : Nat := s.f x - (s.f x &&& (n - (n &&& s.w1cNow x)))

/-- A free value of `w` bits (an undefined value of the spec), and the state after drawing it. -/
def State.draw (s : State) (w : Nat) : Nat × State :=
  (Config.freeValue s.free % 2 ^ w, { s with free := s.free + 1 })

/-- Record something driven outwards. -/
def State.out (s : State) (o : Out) : State := { s with outs := o :: s.outs }

/-! ## Groups -/

/-- The raster of group `g`. -/
def State.grp (s : State) (g : Nat) : Grp := smGet (fun _ => Grp.init) s.groups g

/-- Replace the raster of group `g`. -/
def State.setGrp (s : State) (g : Nat) (x : Grp) : State := { s with groups := smSet (fun _ => Grp.init) s.groups g x }

/-- STATE of a group: 0 STOPPED, 1 STARTING, 2 RUNNING, 3 STOPPING (R53). -/
def State.gState (s : State) (g : Nat) : Nat := s.f (fTMG_STATUS_STATE g)

/-- The sixteen groups. -/
def allGroups : List Nat := List.range 16

/-! ## Clocks and events -/

/-- Is an origin on the raster die (R41, R43)? -/
def rasterOrigin (o : Nat) : Bool :=
  decide ((0x400 ≤ o ∧ o ≤ 0x440) ∨ (0x800 ≤ o ∧ o < 0xC00) ∨ (0xC40 ≤ o ∧ o < 0xC80) ∨ o = 0xD01)

/-- The device time copy of an origin's die (R43). -/
def State.clock (s : State) (origin : Nat) : Nat := if rasterOrigin origin then s.time.raster else s.time.master

/-- LOCUS of a group (R40). -/
def locusGroup (g : Nat) : Nat := g * 2 ^ 28 + 2 ^ 27

/-- LOCUS of a pane of a group (R40). -/
def locusPane (g p : Nat) : Nat := locusGroup g + 2 ^ 26 + p

/-- Raise an event with a stamp of its own (R43); it is then on its way to the merge (R45). -/
def State.raiseAt (s : State) (stamp code origin locus : Nat) (args : List (Nat × Nat)) : State :=
  { s with ev := { s.ev with enRoute := s.ev.enRoute ++ [⟨stamp, code, false, origin, locus, packBits args⟩] } }

/-- Raise an event now; `args` are (bits, value) from byte 16 upwards (R40). -/
def State.raise (s : State) (code origin locus : Nat) (args : List (Nat × Nat)) : State :=
  s.raiseAt (s.clock origin) code origin locus args

/-- Raise an event of group `g`'s raster timing. -/
def State.raiseG (s : State) (code g : Nat) (args : List (Nat × Nat)) : State :=
  s.raise code (0x800 + g) (locusGroup g) args

/-! ## Group state -/

/-- Move a group to a STATE and raise GROUP_STATE with a code (R80). -/
def State.groupState (s : State) (g st code : Nat) : State :=
  (s.setF (fTMG_STATUS_STATE g) st).raiseG 0x108 g [(8, st), (8, code)]

/-- RUN = 0 on a STARTING or RUNNING group (R55). -/
def State.stopGroup (s : State) (g : Nat) : State :=
  if s.gState g = 1 ∨ s.gState g = 2 then
    ((s.setGrp g { s.grp g with left := s.gState g }).setF (fTMG_CTRL_RUN g) 0).groupState g 3 0
  else s

/-- A completion of requester `n` is reported as deferred (R656). -/
def State.deferred (s : State) (n : Nat) : State := s.count (fARB_REQ_DEF_DEFERRALS n) 1

/-- A completion of requester `n` is refused with a reason (R656, R673). -/
def State.refused (s : State) (n reason : Nat) : State :=
  (s.count (fARB_REQ_REF_REFUSALS n) 1).setF (fARB_REQ_REF_REASON n) reason

/-! ## Errors and faults -/

/-- Set an ERR bit and record the write in FLT_ERR_ADDR: kind 1 ERR_CFG_LIVE, 2 ERR_NO_TXN, 3 ERR_CRIT (R712, R713). -/
def State.err (s : State) (kind addr : Nat) : State :=
  let s := (s.setF fFLT_ERR_ADDR_KIND kind).setF fFLT_ERR_ADDR_OFFSET (addr / 4)
  match kind with
  | 1 => s.setW1c fFLT_STATUS_ERR_CFG_LIVE 0
  | 2 => s.setW1c fFLT_STATUS_ERR_NO_TXN 0
  | _ => s.setW1c fFLT_STATUS_ERR_CRIT 0

/-- STATE of a lane group in a direction (R25). -/
def fLgState (dir lg : Nat) : Fld := if dir = 0 then fDMH_LGRP_STATUS_STATE lg else fDMS_LGRP_STATUS_STATE lg

/-- h and r of R22: half-width and retired lane groups, worse direction first. -/
def State.linkLoss (s : State) : Nat :=
  let load := fun dir => ((List.range 10).map fun lg =>
    match s.f (fLgState dir lg) with
    | 3 => 1
    | 4 => 1
    | 5 => 2
    | _ => 0).sum
  max (load 0) (load 1)

/-- Bring DEGRADED up to date (R712): a lane group not FULL once trained, a spare ACTIVE, a chain FAILED, an encoder
quarantined, a bank FAILED. -/
def State.degraded (s : State) : State :=
  let lgBad := (List.range 10).any fun lg => [0, 1].any fun d => s.f (fLgState d lg) != 0 && s.f (fLgState d lg) != 2
  let spare := (List.range 16).any fun k => s.on (fLNK_SPARE_ACTIVE k)
  let chain := (List.range 256).any fun c => s.f (fLNK_STATUS_STATE c) == 6
  let bank := (List.range 260).any fun b => s.on (fMEM_BANK_FAILED b)
  s.setOn fFLT_STATUS_DEGRADED (lgBad || spare || chain || s.f fCDC_STATUS_QUAR != 0 || bank)

/-- Class of a fault code: 0 contained, 1 recoverable, 2 degrading, 3 terminal (R706). -/
def faultClass : Nat → Nat
  | 0x01 => 0
  | 0x02 => 2
  | 0x03 => 2
  | 0x04 => 0
  | 0x05 => 3
  | 0x06 => 0
  | 0x07 => 1
  | 0x08 => 0
  | 0x09 => 1
  | 0x0A => 0
  | 0x0B => 2
  | 0x0C => 1
  | 0x0D => 1
  | 0x0E => 1
  | 0x0F => 1
  | 0x10 => 1
  | 0x11 => 1
  | 0x12 => 2
  | 0x13 => 2
  | 0x14 => 2
  | 0x15 => 2
  | 0x16 => 1
  | 0x17 => 3
  | _ => 3

/-- Is the guarantee not claimed (OUTSIDE, R703)? 0x13 and 0x15 always (R706); otherwise when a condition of R697 that
the block can see does not hold: the board table is not valid (3), or h + 2r > 3 (5). -/
def State.outside (s : State) (fcode detail : Nat) : Bool :=
  fcode == 0x13 || fcode == 0x15 || (fcode == 0x11 && detail % 256 == 2) || s.linkLoss > 3 ||
    (s.on fNVS_STATUS_READY && !s.on fNVS_STATUS_BT_VALID)

/-- The record `r` holds the same fault, recent enough to coalesce (R705). -/
def coalesces (r : FltRec) (fcode origin unit stamp window : Nat) : Bool :=
  r.fcode == fcode && r.origin == origin && r.unit == unit && decide (stamp ≤ r.stamp + 1024 * window) && r.count != 0

/-- What an empty slot of the fault log holds (R717). -/
def noRec : FltRec := ⟨0, 0, 0, 0, 0, 0, 0, 0, 0⟩

/-- On a terminal fault: TERMINAL, and RUN of every group cleared while the raster die is clocked (R707). -/
def State.terminal (s : State) (clocked : Bool) : State :=
  let s := s.setF fFLT_STATUS_TERMINAL 1
  if clocked then allGroups.foldl (fun s g => s.stopGroup g) s else s

/-- A fault reaches the FLT block: it is counted, coalesced or recorded, FAULT is raised for a new record, and a terminal
fault is handled (R702 to R707, R711). -/
def State.fault (s : State) (fcode origin unit detail : Nat) : State :=
  let cls := faultClass fcode
  let stamp := s.clock origin
  let s := if cls = 3 then s.terminal (fcode != 0x05 && !(fcode == 0x17 && unit == 1)) else s
  let s := s.degraded
  let s := s.count (fFLT_CNT_COUNT cls) 1
  let window := s.f fFLT_CFG_COALESCE
  let hit := if window = 0 then none else s.flt.log.find? fun e => coalesces e.2 fcode origin unit stamp window
  match hit with
  | some (slot, r) =>
    let r := { r with count := (r.count + 1) % 2 ^ 32, flags := Machine.putBit r.flags 1 true }
    { s with flt := { s.flt with log := smSet (fun _ => noRec) s.flt.log slot r } }
  | none =>
    if cls = 0 ∧ ¬ s.on fFLT_CFG_LOG_CONTAINED then s
    else
      let slot := (s.f fFLT_LOG_PTR_NEWEST + 1) % 256
      let fseq := (s.flt.fseq + 1) % 2 ^ 32
      let flags := b2n (s.outside fcode detail)
      let r : FltRec := ⟨stamp, fcode, cls, flags, origin, unit, detail, 1, fseq⟩
      let s := { s with flt := ⟨smSet (fun _ => noRec) s.flt.log slot r, fseq⟩ }
      let s := (s.setF fFLT_LOG_PTR_NEWEST slot).setF fFLT_LOG_PTR_FSEQ fseq
      s.raise 0x1E0 0xE00 0 [(16, fcode), (8, cls), (8, flags), (32, fseq), (16, origin), (16, unit), (32, detail)]

/-- The 32 bytes of a fault record (R703). -/
def fltBytes (r : FltRec) : List Byte :=
  leBytes 8 r.stamp ++ leBytes 2 r.fcode ++ leBytes 1 r.cls ++ leBytes 1 r.flags ++ leBytes 2 r.origin ++
    leBytes 2 r.unit ++ leBytes 8 r.detail ++ leBytes 4 r.count ++ leBytes 4 r.fseq

/-- The 32 bytes of an event record (R40). -/
def evBytes (e : Ev) : List Byte :=
  leBytes 8 e.stamp ++ leBytes 2 (e.code + 0x8000 * b2n e.late) ++ leBytes 2 e.origin ++ leBytes 4 e.locus ++
    leBytes 16 e.args

/-- MSI-X vectors of a function (R526). -/
def msixCount (func : Nat) : Nat := if func = 0 then 64 else 1984

/-- Send an MSI-X message: a masked vector sets its pending bit; a vector beyond the function's count sends nothing
(R539). -/
def State.msix (s : State) (func vec : Nat) : State :=
  let key := 2048 * func + vec
  if msixCount func ≤ vec then s
  else if smGet (fun _ => false) s.host.unmasked key then s.out (.msix func vec)
  else { s with host := { s.host with msixPend := smSet (fun _ => false) s.host.msixPend key true } }

/-- The interrupt a CXL event log raises under the event interrupt policy (R528): byte `log` of the policy gives the mode
in bits [1:0] (1 MSI-X) and the PF0 vector in bits [7:4] (log entry 24). -/
def State.logIrq (s : State) (log : Nat) : State :=
  let b := s.host.intPolicy / 256 ^ log % 256
  if b % 4 = 1 then s.msix 0 (b / 16) else s

/-- Add a record to a CXL event log of the mailbox: 0 Informational, 1 Warning, 2 Failure, 3 Fatal; a full log loses its
oldest record and reports the overflow (R528, R529). `kind` 0 General Media Event, 1 Memory Module Event. -/
def State.cxlLog (s : State) (log kind detail : Nat) : State :=
  let l := smGet (fun _ => (⟨[], 0⟩ : CxlLog)) s.host.logs log
  let l := if l.recs.length < 64 then { l with recs := l.recs ++ [(kind, detail)] }
    else ⟨l.recs.drop 1 ++ [(kind, detail)], l.overflow + 1⟩
  { s with host := { s.host with logs := smSet (fun _ => (⟨[], 0⟩ : CxlLog)) s.host.logs log l } }.logIrq log

/-! ## Measurements (R562) -/

/-- A measurement is recomputed; MEAS_CHANGE when it changes. -/
def State.measure (s : State) (i : Nat) (m : Meas) : State :=
  if smGet (fun _ => Meas.empty) s.sec.meas i = m then s
  else
    let s := { s with sec := { s.sec with meas := smSet (fun _ => Meas.empty) s.sec.meas i m } }
    s.raise 0x1A5 0xE00 0 [(8, i)]

/-! ## Frame-store bytes -/

/-- First byte beyond the frame store (R190). -/
def fsEnd : Nat := 0xC00000000

/-- A byte of the frame store. -/
def State.fsByte (s : State) (a : Nat) : Byte := smGet (fun _ => 0#8) s.fs.mem a

/-- `n` bytes of the frame store from `a` upwards. -/
def State.fsBytes (s : State) (a n : Nat) : List Byte := (List.range n).map fun i => s.fsByte (a + i)

/-- Is the 32-byte unit that holds byte `a` poisoned (R193)? -/
def State.poisoned (s : State) (a : Nat) : Bool := smGet (fun _ => false) s.fs.poison (a / 32)

/-- Is any unit of a range poisoned? -/
def State.poisonedIn (s : State) (a n : Nat) : Bool :=
  (List.range ((a + n + 31) / 32 - a / 32)).any fun i => s.poisoned (32 * (a / 32 + i))

/-- Store bytes into a sparse byte map. -/
def putBytes (d : Nat → Byte) : SMap Byte → Nat → List Byte → SMap Byte
  | m, _, [] => m
  | m, a, b :: bs => putBytes d (smSet d m a b) (a + 1) bs

/-- Units that a store of `n` bytes at `a` covers whole: their poison clears (R193). -/
def wholeUnits (a n : Nat) : List Nat :=
  (List.range ((a + n) / 32 - (a + 31) / 32)).map fun i => (a + 31) / 32 + i

/-- Store bytes in the frame store; a unit written whole loses its poison (R193). -/
def State.fsPut (s : State) (a : Nat) (bs : List Byte) : State :=
  { s with fs := { s.fs with
      mem := putBytes (fun _ => 0#8) s.fs.mem a bs
      poison := (wholeUnits a bs.length).foldl (fun m u => smSet (fun _ => false) m u false) s.fs.poison } }

/-- Mark a unit poisoned. -/
def State.fsPoison (s : State) (a : Nat) : State :=
  { s with fs := { s.fs with poison := smSet (fun _ => false) s.fs.poison (a / 32) true } }

/-! ## Requesters and latches -/

/-- A requester's number: 0 PF0, 1 PF1, 0x200 the management port, a core's origin ID (R41, R721). -/
def reqNum : Req → Nat
  | .pf0 => 0
  | .pf1 => 1
  | .mp => 0x200
  | .core o => o

/-- The owner a requester's transactions and locks belong to when it is no core serving a queue (R327). -/
def latchKey (req : Req) (hiAddr : Nat) : Nat := 2048 * hiAddr + reqNum req

/-- The upper word latched for a requester (R721): zero if none. -/
def State.latched (s : State) (req : Req) (hiAddr : Nat) : Nat := smGet (fun _ => 0) s.latches (latchKey req hiAddr)

/-- Latch an upper word for a requester. -/
def State.latchHi (s : State) (req : Req) (hiAddr v : Nat) : State :=
  { s with latches := smSet (fun _ => 0) s.latches (latchKey req hiAddr) v }

end Sys2Proof.Machine
end

