-- ==== Sys2Proof/Machine/FrameStore.lean ====
section
/-!
DEFINITION. The frame store (R190 to R199): enabled panes and the watched ranges a write may touch (R115, R120), writes by
every kind of requester, back-invalidates of lines the host may cache (R532), ECC, scrubbing, refresh and stack power.
-/
namespace Sys2Proof.Machine

/-! ## Panes a write may touch -/

/-- Panes whose EN in effect is 1: EN resets to 0, so every enabled pane has a listed EN field. One whose entry has an
uncorrectable error is treated as disabled (R109 code 7, R128). -/
def State.enabledPanes (s : State) : List Nat :=
  s.regs.filterMap fun e =>
    let a := e.1 / 32
    if e.1 % 32 = 31 ∧ 0x02210000 ≤ a ∧ a < 0x022B0000 ∧ (a - 0x02210000) % 0x40 = 0 ∧ e.2 = 1 ∧
        smGet (fun _ => false) s.pix.badPanes ((a - 0x02210000) / 0x40) = false then
      some ((a - 0x02210000) / 0x40)
    else none

/-- Enabled panes of group `g`, in index order. -/
def State.panesOf (s : State) (g : Nat) : List Nat := s.enabledPanes.filter fun p => s.f (fPANE_GROUP p) == g

/-- Base address of a pane's surface (R103). -/
def State.paneBase (s : State) (p : Nat) : Nat := 2 ^ 32 * s.f (fPANE_BASE_HI p) + 256 * s.f (fPANE_BASE_LO p)

/-- Does a write of `n` bytes at `a` touch the watched range of pane `p`, in whole granules (R115)? -/
def State.watchHit (s : State) (p a n : Nat) : Bool :=
  let base := s.paneBase p
  let pitch := s.f (fPANE_PITCH p)
  let lo := base + s.f (fPANE_SRC_Y p) * pitch
  let hi := base + (s.f (fPANE_SRC_Y p) + s.f (fPANE_HM1 p) + 1) * pitch
  s.f (fPANE_POLICY p) == 1 && !s.on (fPANE_SPACE p) && decide (lo < hi) && decide (0 < n) &&
    decide (lo / 256 ≤ (a + n - 1) / 256 ∧ a / 256 ≤ (hi - 1) / 256)

/-- A write completed: groups that watch the range and are not STOPPED note it, and one past its cut-off is woken (R115,
R120). -/
def State.noteWrite (s : State) (a n : Nat) : State :=
  s.enabledPanes.foldl (fun s p =>
    let g := s.f (fPANE_GROUP p)
    let x := s.grp g
    if s.watchHit p a n ∧ s.gState g ≠ 0 then
      let wake := if x.cutPassed ∨ x.latched then (match x.lad.wake with
        | none => some s.time.raster
        | some t => some t) else x.lad.wake
      s.setGrp g { x with lad := { x.lad with watched := true, wake := wake } }
    else s) s

/-- A write to the frame store takes effect and is complete (R193, R115, R531). -/
def State.fsWrite (s : State) (a : Nat) (bs : List Byte) : State := (s.fsPut a bs).noteWrite a bs.length

/-! ## Stacks and their power (R191, R198, R199) -/

/-- Pseudo-channel of a granule (R191). -/
def pseudoChannel (n : Nat) : Nat := (n ^^^ (n / 2 ^ 6) ^^^ (n / 2 ^ 12) ^^^ (n / 2 ^ 18)) % 64

/-- Stack of a byte address: 0 A, 1 B (R191). -/
def stackOf (a : Nat) : Nat := pseudoChannel (a / 256) / 32

/-- Stacks that the granules of a range lie in. -/
def stacksOf (a n : Nat) : List Nat :=
  ((List.range ((a + n + 255) / 256 - a / 256)).map fun i => pseudoChannel (a / 256 + i) / 32).eraseDups

/-- STATE of a stack (R232). -/
def fStack (k : Nat) : Fld := if k = 0 then fFST_PWR_STATUS_STATE_A else fFST_PWR_STATUS_STATE_B

/-- EXIT(S) of a low-power state S (R198, R233). -/
def State.exitLat (s : State) (st : Nat) : Nat := if st = 2 then s.f fFST_EXIT_LAT_SR_EXIT else s.f fFST_EXIT_LAT_PD_EXIT

/-- Tick at which the exit of a stack ends, if one runs (R199). -/
def State.exitAt (s : State) (k : Nat) : Option Nat := smGet (fun _ => none) s.fs.exitAt k

/-- A stack leaves its low-power state; it accepts requests EXIT(S) ticks later (R199). -/
def State.leaveLowPower (s : State) (k : Nat) : State :=
  let st := s.f (fStack k)
  if st = 0 then s
  else
    let due := s.time.master + s.exitLat st
    { s.setF (fStack k) 0 with fs := { s.fs with exitAt := smSet (fun _ => none) s.fs.exitAt k (some due) } }

/-- A request reaches a stack (R198, R199): its time is noted and a low-power state is left. -/
def State.touchStack (s : State) (k : Nat) : State :=
  let s := s.leaveLowPower k
  { s with fs := { s.fs with lastReq := smSet (fun _ => 0) s.fs.lastReq k s.time.master } }

/-- A stack accepts requests now. -/
def State.stackReady (s : State) (k : Nat) : Bool := s.f (fStack k) == 0 && (s.exitAt k).isNone

/-- Must an access of a range wait for a stack (R199)? -/
def State.asleep (s : State) (a n : Nat) : Bool := (stacksOf a n).any fun k => !s.stackReady k

/-- A request reaches every stack of a range. -/
def State.touchRange (s : State) (a n : Nat) : State := (stacksOf a n).foldl (fun s k => s.touchStack k) s

/-! ## Lines the host may cache (R532) -/

/-- 64-byte lines of a range. -/
def linesOf (a n : Nat) : List Nat := (List.range ((a + n + 63) / 64 - a / 64)).map fun i => a / 64 + i

/-- Lines of a range that the host may cache. -/
def State.sfHits (s : State) (a n : Nat) : List Nat := (linesOf a n).filter fun l => s.host.sf.contains l

/-- Send back-invalidates for lines that have none outstanding; a REALTIME read that joins one waits RT_TMO ticks from now. -/
def State.sendBi (s : State) (inv realtime : Bool) (lines : List Nat) : State :=
  lines.foldl (fun s l =>
    if s.host.bi.any fun b => b.line == l then
      { s with host := { s.host with bi := s.host.bi.map fun b =>
          if b.line = l ∧ realtime ∧ ¬ b.realtime then { b with realtime := true, since := s.time.master } else b } }
    else
      let w : BiWait := ⟨l, s.time.master, realtime, false⟩
      { s with host := { s.host with bi := s.host.bi ++ [w] } }.out (.biSnp l inv)) s

/-- Lines of a range a device read must wait for: cached by the host, and not given up under RT_TMO. -/
def State.readBlocked (s : State) (a n : Nat) : List Nat :=
  (s.sfHits a n).filter fun l => !(s.host.bi.any fun b => b.line == l && b.late)

/-- Device reads of ranges (address, length) are asked: their stacks see a request, and BISnpData is sent for lines the host may
cache. Whether they may be carried out now, and the state; the command that reads waits where they may not (R199, R532). -/
def State.readGate (s : State) (realtime : Bool) (rs : List (Nat × Nat)) : Bool × State :=
  let ok := rs.all fun r => !s.asleep r.1 r.2 && (s.readBlocked r.1 r.2).isEmpty
  let s := rs.foldl (fun s r => s.touchRange r.1 r.2) s
  (ok, s.sendBi false realtime (rs.flatMap fun r => s.readBlocked r.1 r.2).eraseDups)

/-- A device read of a range, of no REALTIME requester: the bytes, or none where the command that reads waits. -/
def State.devRead (s : State) (a n : Nat) : Option (List Byte) × State :=
  let (ok, s) := s.readGate false [(a, n)]
  (if ok then some (s.fsBytes a n) else none, s)

/-! ## Host memory over CXL.cache (R533) -/

/-- A byte of host memory as CXL.cache returned it: 256 none yet, 257 a failed read. -/
def State.hostByte (s : State) (a : Nat) : Nat := smGet (fun _ => 256) s.host.hostBuf a

/-- Tick at which a line of host memory was asked for, if its data is still to come. -/
def State.askedAt (s : State) (line : Nat) : Option Nat := smGet (fun _ => none) s.host.asked line

/-- Lines of a range of host memory of which a byte of the range has not returned. -/
def State.hostMissing (s : State) (a n : Nat) : List Nat :=
  (((List.range n).filter fun i => s.hostByte (a + i) == 256).map fun i => (a + i) / 64).eraseDups

/-- A line of host memory is asked for with RdCurr. -/
def State.askHost (s : State) (line : Nat) : State :=
  { s with host := { s.host with asked := smSet (fun _ => none) s.host.asked line (some s.time.master) } }.out (.rdCurr line)

/-- Reads of host memory (address, length) are asked for while CXL.cache is available. Whether nothing is still to return, and
the state; what CXL.cache is not there to ask for has failed (R126, R534). -/
def State.hostGate (s : State) (rs : List (Nat × Nat)) : Bool × State :=
  let missing := (rs.flatMap fun r => s.hostMissing r.1 r.2).eraseDups
  let new := missing.filter fun l => (s.askedAt l).isNone
  if s.on fCXL_LINK_STATUS_CACHE then (missing.isEmpty, new.foldl (fun s l => s.askHost l) s)
  else (missing.all fun l => (s.askedAt l).isNone, s)

/-- Bytes of host memory are used and kept no longer. -/
def State.dropHost (s : State) (a n : Nat) : State :=
  { s with host := { s.host with hostBuf := s.host.hostBuf.filter fun e => decide (e.1 < a ∨ a + n ≤ e.1) } }

/-! ## Device writes (R192, R199, R532) -/

/-- Writers whose writes complete in the order made (R221, R279, R324): the codec; an engine that works for requester `n`, a copy for
the queue or core that owns it (`own`, 4095 for no owner). -/
def tagCodec : Nat := 1
def noOwner : Nat := 4095
def tagCopy (n own : Nat) : Nat := 4096 * (n + 1) + own

/-- A device write of bytes of one line must wait: the host may cache the line or is asked for it, its stack is not ready, or a
write before it, of those in `before`, is for the same line or of the same writer. -/
def State.writeWaits (s : State) (before : List FsWait) (w : FsWait) : Bool :=
  s.host.sf.contains (w.addr / 64) || (s.host.bi.any fun b => b.line == w.addr / 64) || s.asleep w.addr w.bytes.length ||
    before.any fun e => e.addr / 64 == w.addr / 64 || (e.tag != 0 && e.tag == w.tag)

/-- A device write waits: a line the host may cache is asked back with BISnpInv (R532). -/
def State.askWrite (s : State) (w : FsWait) : State :=
  s.sendBi true false ([w.addr / 64].filter fun l => s.host.sf.contains l)

/-- A device write of the part of a range that lies in one 64-byte line. -/
def State.devWriteLine (s : State) (tag a : Nat) (bs : List Byte) : State :=
  let w : FsWait := ⟨tag, a, bs⟩
  let wait := s.writeWaits s.fs.wq w
  let s := s.touchRange a bs.length
  if wait then ({ s with fs := { s.fs with wq := s.fs.wq ++ [w] } }).askWrite w else s.fsWrite a bs

/-- A device write, line by line, in rising order; `fuel` bounds the lines. -/
def devWriteGo (tag : Nat) : Nat → State → Nat → List Byte → State
  | 0, s, _, _ => s
  | fuel + 1, s, a, bs =>
    if bs = [] then s
    else
      let k := 64 - a % 64
      devWriteGo tag fuel (s.devWriteLine tag a (bs.take k)) (a + k) (bs.drop k)

/-- A write by an engine of the device, whose writes complete in order where `tag` is not 0. -/
def State.devWrite (s : State) (tag a : Nat) (bs : List Byte) : State := devWriteGo tag (bs.length / 64 + 2) s a bs

/-- Are writes of a writer still waiting? -/
def State.writesWait (s : State) (tag : Nat) : Bool := s.fs.wq.any fun w => w.tag == tag

/-- Are writes of an engine that works for requester `n` still waiting (R279)? -/
def State.writesFor (s : State) (n : Nat) : Bool := s.fs.wq.any fun w => w.tag / 4096 == n + 1

/-- Are writes of copies of an owner still waiting (R324)? -/
def State.copiesOf (s : State) (own : Nat) : Bool := s.fs.wq.any fun w => decide (4096 ≤ w.tag) && w.tag % 4096 == own

/-- Waiting device writes that may go on are performed, in order. -/
def State.drainWrites (s : State) : State :=
  let (kept, s) := s.fs.wq.foldl (fun (p : List FsWait × State) w =>
    if p.2.writeWaits p.1 w then (p.1 ++ [w], p.2.askWrite w) else (p.1, p.2.fsWrite w.addr w.bytes)) ([], s)
  { s with fs := { s.fs with wq := kept } }

/-! ## Tolerance, refresh, ECC -/

/-- PAN_TOL fell: stacks whose exit no longer fits leave their low-power state (R199). -/
def State.checkTol (s : State) : State :=
  [0, 1].foldl (fun s k =>
    if s.f (fStack k) ≠ 0 ∧ s.f fPAN_TOL_TOL < s.exitLat (s.f (fStack k)) + s.f fFST_PWR_CFG_MARGIN then s.leaveLowPower k
    else s) s

/-- A corrected read: CE counts, FST_ECC at most once per 1,048,576 ticks (R193, R529). -/
def State.fsCorrected (s : State) (a cls : Nat) : State :=
  let s := s.count fFST_ECC_CNT_CE 1
  let quiet := match s.fs.lastCe with
    | none => false
    | some t => decide (s.time.master < t + 1048576)
  let s := if quiet then s
    else
      let s := { s with fs := { s.fs with lastCe := some s.time.master } }
      (s.raise 0x135 0xE00 0 [(8, 0), (8, stackOf a), (16, 0), (32, a / 256), (8, cls)]).cxlLog 0 0 (a / 256)
  s.fault 0x08 0xE00 (stackOf a) (a / 256)

/-- An uncorrectable read: the unit is poisoned, UE counts, the granule is recorded, FST_ECC is raised (R193, R528, R529). -/
def State.fsUncorrectable (s : State) (a cls : Nat) : State :=
  let s := (s.fsPoison a).count fFST_ECC_CNT_UE 1
  let s := (s.setW1c fFST_UE_ADDR_VALID 0).setF fFST_UE_ADDR_GRAN (a / 256)
  let pl := s.host.poisonList
  let s := { s with host := { s.host with
    poisonList := if pl.contains (a / 256) ∨ 256 ≤ pl.length then pl else pl ++ [a / 256] } }
  let s := s.raise 0x135 0xE00 0 [(8, 1), (8, stackOf a), (16, 0), (32, a / 256), (8, cls)]
  (s.cxlLog 2 0 (a / 256)).fault 0x09 0xE00 (stackOf a) (a / 256)

/-- The outcome of reading one 32-byte unit: `err` 0 none, 1 corrected, 2 uncorrectable; a poisoned unit reads
uncorrectable whatever `err` says. -/
def State.fsEcc (s : State) (a err cls : Nat) : State :=
  if s.poisoned a ∨ err = 2 then s.fsUncorrectable a cls
  else if err = 1 then s.fsCorrected a cls
  else s

/-- FST_READ_DONE (R193; log 132): a read of the unit at `addr` completes. A read that meets a sleeping stack starts its exit and
waits for it (R199). -/
def execFstReadDone (addr err cls : Nat) (s : State) : Host.Outcome State Fault Refusal :=
  if fsEnd ≤ addr then .next s
  else
    let k := stackOf addr
    if s.stackReady k then .next ((s.touchStack k).fsEcc addr err cls) else .next (s.touchStack k)

/-- SCRUB_READ (R195): the scrubber reads its next granule, in granule order, all eight units of it; `err` gives what the read
of each unit meets, two bits a unit from the lowest: 0 nothing, 1 a corrected error, 2 an uncorrectable one. A refused read waits
for the next pass; one of a sleeping stack waits for its exit (R199). -/
def execScrubRead (refused : Bool) (err : Nat) (s : State) : Host.Outcome State Fault Refusal :=
  let a := 256 * s.fs.scrub
  let go := fun (s : State) => { s with fs := { s.fs with scrub := (s.fs.scrub + 1) % (fsEnd / 256) } }
  if ¬ s.on fFST_SCRUB_CFG_SCRUB_EN then .next s
  else if refused then .next (go s)
  else if s.asleep a 256 then .next (s.touchRange a 256)
  else .next ((List.range 8).foldl (fun s i => s.fsEcc (a + 32 * i) (err / 4 ^ i % 4) 3) (go (s.touchRange a 256)))

/-- REFRESH_INTERVAL (R196): a refresh is issued when the pseudo-channel had a free cycle; after eight postponed intervals
the refresh requester is an emergency requester, until a round of the pseudo-channel grants it. In SELF_REFRESH the rule is
suspended (R199). -/
def execRefreshInterval (pc : Nat) (busy : Bool) (s : State) : Host.Outcome State Fault Refusal :=
  if s.f (fStack (pc / 32)) = 2 ∨ 64 ≤ pc then .next s
  else
    let n := smGet (fun _ => 0) s.fs.postponed pc
    let put := fun (s : State) (v : Nat) =>
      { s with fs := { s.fs with postponed := smSet (fun _ => 0) s.fs.postponed pc v } }
    if ¬ busy then .next (put s 0)
    else if n + 1 < 8 then .next (put s (n + 1))
    else .next (put s 8)

end Sys2Proof.Machine
end

