-- ==== Sys2Proof/Machine/RasterTiming.lean ====
section
/-!
DEFINITION. Where a group's lines fall (02): the timing in effect, the grid of line starts, the next line start, the coming
cut-off, the beam, the level of the SYNCOUT pins, and where a wake ends the porch (R48, R50, R55, R56, R73, R74, R78, R91, R120).
-/
namespace Sys2Proof.Machine

/-! ## Timing in effect -/

/-- LEAD as it acts (R87). -/
def State.lead (s : State) (g : Nat) : Nat := max 2 (min 6 (s.f (fTMG_VLATCH_LEAD g)))

/-- LPER in units of 1/65,536 tick (R48). -/
def State.lper (s : State) (g : Nat) : Nat := 65536 * s.f (fTMG_LPER_INT_LPER_INT g) + s.f (fTMG_LPER_FRAC_LPER_FRAC g)

/-- CUTOFF as it acts (R88). -/
def State.cutoff (s : State) (g : Nat) : Nat := max 256 (s.f (fTMG_CUTOFF_CUTOFF g))

/-- The timing that the registers hold (R84 to R88). -/
def State.timing (s : State) (g : Nat) : Timing where
  hact := s.f (fTMG_HACT_VALUE g)
  hfp := s.f (fTMG_HFP_VALUE g)
  hsync := s.f (fTMG_HSYNC_VALUE g)
  hbp := s.f (fTMG_HBP_VALUE g)
  vact := s.f (fTMG_VACT_VALUE g)
  vfp := s.f (fTMG_VFP_VALUE g)
  vsync := s.f (fTMG_VSYNC_VALUE g)
  vbp := s.f (fTMG_VBP_VALUE g)
  lper := s.lper g
  lofs := s.f (fTMG_VLATCH_LOFS g)
  lead := s.lead g
  cutoff := s.cutoff g

/-- HTOTAL, VTOTAL at the nominal porch, and the latch line (R48, R56). -/
def Timing.htotal (t : Timing) : Nat := t.hact + t.hfp + t.hsync + t.hbp
def Timing.vtotal (t : Timing) : Nat := t.vact + t.vfp + t.vsync + t.vbp
def Timing.vlatch (t : Timing) : Nat := t.vact + t.lofs

/-- Lines of the frame in progress, with the front porch it has. -/
def Grp.total (x : Grp) : Nat := x.cur.vact + x.porch + x.cur.vsync + x.cur.vbp

/-! ## The grid (R48) -/

/-- Whole tick at or after a time in units of 1/65,536 tick. -/
def ceilTick (u : Nat) : Nat := (u + 65535) / 65536

/-- Ideal start of line `n` of the frame in progress, counted on the grid. -/
def Grp.lineU (x : Grp) (n : Nat) : Nat := x.epoch + (x.k + n - x.line) * x.cur.lper

/-- Start tick of line `n` of the frame in progress, not before the current one. -/
def Grp.lineAt (x : Grp) (n : Nat) : Nat := ceilTick (x.lineU n)

/-- Start tick of the first VSYNC line of the frame in progress. -/
def Grp.vsyncTick (x : Grp) : Nat := x.lineAt (x.cur.vact + x.porch)

/-- Does TE gate the frame starts of group `g` (R74)? -/
def State.gated (s : State) (g : Nat) : Bool := s.on (fTMG_TE_CFG_TE_EN g) && s.f (fDRV_MODE_TECH g) == 4

/-! ## What a group does next on its grid -/

/-- The next thing a group's raster does: a line of the frame in progress, a line 0, the beginning of a TE wait, or the
entry into STOPPED, each with its tick. -/
inductive NextEv where
  | none
  | line (t : Nat)
  | zero (t : Nat)
  | wait (t : Nat)
  | stop (t : Nat)
  deriving DecidableEq, Repr

/-- At the tick at which the next line 0 would start: stop, wait for TE, or start (R55, R74). -/
def State.atFrameStart (s : State) (g t : Nat) (stopping : Bool) : NextEv :=
  if stopping then .stop t else if s.gated g then .wait t else .zero t

/-- Next event of a group. A STOPPING LCD group whose first frame of a pair ends runs the second one too (R435). -/
def State.nextEv (s : State) (g : Nat) : NextEv :=
  let x := s.grp g
  let stopping := s.gState g == 3
  if s.gState g = 0 then .none
  else
    match x.teWait with
    | some w =>
      (match x.teE with
      | some e => .zero (max w (e + s.f (fTMG_TE_CFG_DELAY g)))
      | none => .none)
    | none =>
      if ¬ x.live then s.atFrameStart g x.due stopping
      else if x.line + 1 < x.total then .line (x.lineAt (x.line + 1))
      else s.atFrameStart g (x.lineAt (x.line + 1)) (stopping && !(x.tech == 0 && x.pairFirst))

/-- Earliest start of the next line 0, in units of 1/65,536 tick, where the frame in progress ends at `z`: of a gated group as if its
TE edge came now, where none has come (R48, R63, R74). -/
def State.frameStartU (s : State) (g : Nat) (gated : Bool) (z : Nat) : Nat :=
  let x := s.grp g
  if gated then 65536 * max (ceilTick z) (x.teE.getD s.time.raster + s.f (fTMG_TE_CFG_DELAY g))
  else if x.newTiming then 65536 * ceilTick z
  else z

/-- Start of line `y` of the frame that the pipeline processes, in units of 1/65,536 tick, as far as it is known: after the latch
and before line 0 that is the next frame (R58, R140). -/
def State.procLineU (s : State) (g y : Nat) : Nat :=
  let x := s.grp g
  match x.teWait with
  | some w => s.frameStartU g true (65536 * w) + y * s.lper g
  | none =>
    if ¬ x.live then s.frameStartU g (s.gated g) (65536 * x.due) + y * s.lper g
    else if ¬ x.latched then x.lineU y
    else s.frameStartU g (s.gated g) (x.lineU x.total) + y * s.lper g

/-- A group's line that must be latched before the next line starts. -/
def Grp.latchDue (x : Grp) : Bool := x.live && !x.latched && decide (x.cur.vlatch ≤ x.line)

/-- The line start that an underrun in progress makes line VACT: the first at or after its tick plus CUTOFF, if that is an active line's
(R78; log 122). -/
def State.abortLine (s : State) (g : Nat) : Option Nat :=
  let x := s.grp g
  match x.urAbort with
  | none => none
  | some u => ((List.range x.cur.vact).drop (x.line + 1)).find? fun n => decide (u + s.cutoff g ≤ x.lineAt n)

/-- Tick of the coming latch, where it is known (R56, R78, R121: as if no wake occurred). -/
def State.nextLatch (s : State) (g : Nat) : Option Nat :=
  let x := s.grp g
  let t := s.timing g
  if s.gState g = 0 ∨ x.teWait.isSome then none
  else if ¬ x.live then (if s.gated g then none else some (ceilTick (65536 * x.due + t.vlatch * t.lper)))
  else if ¬ x.latched then
    match s.abortLine g with
    | some n => some (x.lineAt (n + x.cur.lofs))
    | none => some (x.lineAt (max x.line x.cur.vlatch))
  else if s.gated g then none
  else
    let z := x.lineU x.total
    let epoch := if x.newTiming then 65536 * ceilTick z else z
    some (ceilTick (epoch + t.vlatch * t.lper))

/-- Tick of the coming cut-off (R56, R94). -/
def State.nextCut (s : State) (g : Nat) : Option Nat := (s.nextLatch g).map fun t => t - s.cutoff g

/-- Has the coming cut-off passed? -/
def State.pastCut (s : State) (g : Nat) : Bool :=
  (s.grp g).cutPassed || (match s.nextCut g with
    | some t => decide (t ≤ s.time.raster)
    | none => false)

/-! ## The beam (R50) -/

/-- BEAM_LINE and BEAM_COL at a tick. -/
def State.beam (s : State) (g t : Nat) : Nat × Nat :=
  let x := s.grp g
  if ¬ x.live ∨ s.gState g = 0 then (0, 0)
  else if x.teWait.isSome then (x.total - 1, x.cur.htotal - 1)
  else (x.line, min (x.cur.htotal - 1) ((t - x.lineTick) * 65536 * x.cur.htotal / x.cur.lper))

/-- First tick of the line in progress at which BEAM_COL is at least `c` (R269). -/
def Grp.colTick (x : Grp) (c : Nat) : Nat :=
  x.lineTick + (c * x.cur.lper + 65536 * x.cur.htotal - 1) / (65536 * x.cur.htotal)

/-- The level of SYNCOUT pin `p` (R73). -/
def State.syncout (s : State) (p : Nat) : Bool :=
  allGroups.any fun g => (s.grp g).syncEnd.isSome && bit (s.f (fTMG_SYNCOUT_MASK g)) p == 1

/-! ## Wake (R120) -/

/-- First lines of the porch that a wake leaves: VFP + Δ. -/
def Grp.porchFloor (x : Grp) : Nat := ((x.cur.vfp : Int) + x.gl.pull).toNat

/-- WAKE as it acts (R130). -/
def State.wakeLines (s : State) (g : Nat) : Nat := max 1 (s.f (fTMG_LAD_CTRL_WAKE g))

/-- A wake of the frame in progress counts in a group's porch: not in the second frame of an LCD pair (R120). -/
def Grp.wakeable (x : Grp) : Bool := x.latched && !(x.tech == 0 && !x.pairFirst)

/-- Does the porch in progress end at the line start `t`, after `p` of its lines (R120)? -/
def State.porchEnds (s : State) (g p t : Nat) : Bool :=
  let x := s.grp g
  match x.lad.wake with
  | none => false
  | some w =>
    x.wakeable && decide (x.porchFloor ≤ p ∧ p < x.porch ∧ 65536 * w + s.wakeLines g * x.cur.lper ≤ 65536 * t)

end Sys2Proof.Machine
end

