-- ==== Sys2Proof/Machine/Codec.lean ====
section
/-!
DEFINITION. Compressed surfaces and the codec engines (R200 to R207, R217 to R228): descriptors, the strudel pool, jobs,
encoders with their self-check and quarantine, tile fetches and decoders.
-/
namespace Sys2Proof.Machine

/-! ## Compressed surfaces -/

/-- A compressed surface (R200). -/
structure Surf where
  base : Nat
  w : Nat
  h : Nat
  pitch : Nat
  slot : Nat
  fmt : Nat
  deriving DecidableEq, Repr

/-- Round up a quotient. -/
def ceilDiv (a b : Nat) : Nat := (a + b - 1) / b

/-- Block columns and rows (R200). -/
def surfBW (x : Surf) : Nat := ceilDiv x.w 128
def surfBH (x : Surf) : Nat := ceilDiv x.h 4

/-- Width and height of a block (R200). -/
def surfWb (x : Surf) (bx : Nat) : Nat := min 128 (x.w - 128 * bx)
def surfHb (x : Surf) (by_ : Nat) : Nat := min 4 (x.h - 4 * by_)

/-- Addresses of a block's descriptor, of the slot area and of its primary slot (R200). -/
def surfDesc (x : Surf) (bx by_ : Nat) : Nat := x.base + 16 * (by_ * surfBW x + bx)
def surfSBase (x : Surf) : Nat := x.base + 256 * ceilDiv (16 * surfBW x * surfBH x) 256
def surfSlotAddr (x : Surf) (bx by_ : Nat) : Nat := surfSBase x + by_ * x.pitch + bx * 16 * x.slot

/-- SLOT in range (R201). -/
def surfSlotOk (x : Surf) : Bool :=
  decide (4 ≤ x.slot ∧ x.slot ≤ 129 ∧ x.pitch % 256 = 0 ∧ 16 * x.slot * surfBW x ≤ x.pitch)

/-- The surface lies within the frame store (R201). -/
def surfFits (x : Surf) : Bool := decide (surfSBase x + surfBH x * x.pitch ≤ fsEnd)

/-- The compressed surface of a pane. -/
def State.paneSurf (s : State) (p : Nat) : Surf :=
  ⟨s.paneBase p, s.f (fPANE_SWM1 p) + 1, s.f (fPANE_SHM1 p) + 1, s.f (fPANE_PITCH p), s.f (fPANE_SLOT p), s.f (fPANE_FMT p)⟩

/-- The four words of a descriptor (R202). -/
def State.descWords (s : State) (a : Nat) : Nat × Nat × Nat × Nat :=
  (leNat (s.fsBytes a 4), leNat (s.fsBytes (a + 4) 4), leNat (s.fsBytes (a + 8) 4), leNat (s.fsBytes (a + 12) 4))

/-- What a descriptor says: empty, bad (R228 code 1), or LEN, NCELLS and CELL0 (R202, R203). -/
inductive Desc where
  | empty
  | bad
  | block (len nCells cell0 : Nat)
  deriving DecidableEq, Repr

/-- Read a descriptor (R202, R203, R228 code 1). -/
def descOf (w : Nat × Nat × Nat × Nat) : Desc :=
  let (w0, w1, w2, w3) := w
  if w0 = 0 ∧ w1 = 0 ∧ w2 = 0 ∧ w3 = 0 then .empty
  else if bit w0 31 = 0 ∨ w3 ≠ (w0 ^^^ w1 ^^^ w2) ^^^ 0xFFFFFFFF ∨ bitsOf w0 30 16 ≠ 0 ∨ w2 ≠ 0 ∨ 4 < bitsOf w1 31 24 ∨
      (bitsOf w1 31 24 = 0 ∧ bitsOf w1 23 0 ≠ 0) then .bad
  else .block (bitsOf w0 15 0) (bitsOf w1 31 24) (bitsOf w1 23 0)

/-- The bytes of a descriptor (R202). -/
def descBytes (len nCells cell0 : Nat) : List Byte :=
  let w0 := packBits [(16, len), (15, 0), (1, 1)]
  let w1 := packBits [(24, cell0), (8, nCells)]
  leBytes 4 w0 ++ leBytes 4 w1 ++ leBytes 4 0 ++ leBytes 4 ((w0 ^^^ w1) ^^^ 0xFFFFFFFF)

/-! ## The strudel pool -/

/-- Byte address of a cell (R205). -/
def State.cellAddr (s : State) (c : Nat) : Nat := 256 * s.f fFST_STRUDEL_BASE_GRAN + 512 * c

/-- First device cell and the one after the last (R206). -/
def State.devFirst (s : State) : Nat := s.f fFST_STRUDEL_DEV_DEV_FIRST
def State.devEnd (s : State) : Nat := min (s.f fFST_STRUDEL_CELLS_CELLS) (s.devFirst + 1048576)

/-- A device cell that can be handed out. -/
def State.cellFree (s : State) (c : Nat) : Bool :=
  decide (s.devFirst ≤ c ∧ c < s.devEnd) && !smGet (fun _ => false) s.fs.used c && !smGet (fun _ => false) s.fs.lostCells c

/-- Mark a cell used or free. -/
def State.markCell (s : State) (c : Nat) (u : Bool) : State :=
  { s with fs := { s.fs with used := smSet (fun _ => false) s.fs.used c u } }

/-- The first `n` free cells from `c` upwards; `fuel` bounds the search. -/
def findCells (s : State) : Nat → Nat → Nat → List Nat
  | 0, _, _ => []
  | _, 0, _ => []
  | fuel + 1, n + 1, c =>
    if s.cellFree c then c :: findCells s fuel n (c + 1) else findCells s fuel (n + 1) (c + 1)

/-- Set FREE, and raise STRUDEL_LOW when it falls below its threshold (R222, R240). -/
def State.setFree (s : State) (n : Nat) : State :=
  let old := s.f fFST_STRUDEL_FREE_FREE
  let low := 4096 * s.f fFST_STRUDEL_DEV_LOW
  let s := s.setF fFST_STRUDEL_FREE_FREE n
  if low ≤ old ∧ n < low then s.raise 0x134 0xE00 0 [(32, n)] else s

/-- The cells of a chain, in order, as far as the links lead and can be read; `n` bounds them (R205). -/
def chainCells (s : State) : Nat → Nat → List Nat
  | 0, _ => []
  | n + 1, c =>
    if s.f fFST_STRUDEL_CELLS_CELLS ≤ c then []
    else
      let link := leNat (s.fsBytes (s.cellAddr c + 508) 4)
      c :: (if bit link 31 = 1 ∨ s.poisoned (s.cellAddr c + 508) then [] else chainCells s n (bitsOf link 23 0))

/-- A cell was freed and is not yet allocatable. -/
def State.cellFreed (s : State) (c : Nat) : Bool := s.codec.freed.contains c || s.codec.releasing.any fun e => e.2.contains c

/-- The old descriptor of a block, bad where it is unreadable (R221, R228 code 7). -/
def State.oldDesc (s : State) (a : Nat) : Desc := if s.poisonedIn a 16 then .bad else descOf (s.descWords a)

/-- Cells of the chain that a descriptor names. -/
def State.descChain (s : State) (d : Desc) : List Nat :=
  match d with
  | .block _ n c0 => chainCells s n c0
  | _ => []

/-- What reading a descriptor and its chain reads of the frame store. -/
def State.chainReads (s : State) (a : Nat) : List (Nat × Nat) :=
  (a, 16) :: (s.descChain (s.oldDesc a)).map fun c => (s.cellAddr c, 512)

/-- Free the device cells of an old descriptor, each once (R221). -/
def State.freeOld (s : State) (d : Desc) : State :=
  let cs := ((s.descChain d).filter fun c =>
    decide (s.devFirst ≤ c ∧ c < s.devEnd) && smGet (fun _ => false) s.fs.used c && !s.cellFreed c).eraseDups
  { s with codec := { s.codec with freed := s.codec.freed ++ cs } }

/-- Freed cells become allocatable 65,536 ticks after the new descriptor is written (R221). -/
def State.settleFreed (s : State) : State :=
  if s.codec.freed = [] ∨ s.writesWait tagCodec then s
  else { s with codec := { s.codec with
    freed := []
    releasing := s.codec.releasing ++ [(s.time.master + 65536, s.codec.freed)] } }

/-! ## Tile fetch -/

/-- Collect the bytes of a chain with the checks of R228 step 3: cell index, poison, LAST. `n` cells remain, `left` bytes. -/
def fetchChain (s : State) : Nat → Nat → Nat → Except Nat (List Byte)
  | 0, _, _ => .ok []
  | n + 1, c, left =>
    if s.f fFST_STRUDEL_CELLS_CELLS ≤ c then .error 5
    else
      let a := s.cellAddr c
      if s.poisonedIn a 512 then .error 7
      else
        let link := leNat (s.fsBytes (a + 508) 4)
        if (bit link 31 = 1) ≠ (n = 0) then .error 5
        else
          match fetchChain s n (bitsOf link 23 0) (left - min left 508) with
          | .error e => .error e
          | .ok rest => .ok (s.fsBytes a (min left 508) ++ rest)

/-- Fetch a block: descriptor, used part of the primary slot, chain (R226, R228 steps 1 to 3). -/
def fetchBlock (s : State) (x : Surf) (bx by_ : Nat) : TileBlk :=
  let da := surfDesc x bx by_
  if s.poisonedIn da 16 then .failed 7
  else
    match descOf (s.descWords da) with
    | .empty => .empty
    | .bad => .failed 1
    | .block len n c0 =>
      let sa := surfSlotAddr x bx by_
      let used := min len (16 * x.slot)
      if s.poisonedIn sa used ∧ 0 < used then .failed 7
      else
        match fetchChain s n c0 (len - used) with
        | .error e => .failed e
        | .ok tail => .stream len n (s.fsBytes sa used ++ tail)

/-- Key of a block of a pane. -/
def tileKey (p bx by_ : Nat) : Nat := (p * 65536 + by_) * 65536 + bx

/-- A block of the frame being processed. -/
def State.tile (s : State) (p bx by_ : Nat) : Option TileBlk := smGet (fun _ => none) s.codec.tiles (tileKey p bx by_)

/-- Set it. -/
def State.setTile (s : State) (p bx by_ : Nat) (b : Option TileBlk) : State :=
  { s with codec := { s.codec with tiles := smSet (fun _ => none) s.codec.tiles (tileKey p bx by_) b } }

/-- Number of the frame whose lines the pipeline processes: after the latch, the next one (R58). -/
def State.procFrame (s : State) (g : Nat) : Nat :=
  let x := s.grp g
  if x.latched ∨ ¬ x.live then x.frame + 1 else x.frame

/-- A block is rendered as background: CDC_DEC_ERR, CODEC_BAD_BLOCK and the fault (R228, R230, R706, R761). -/
def State.badBlock (s : State) (p bx by_ dec code : Nat) : State :=
  let g := s.f (fPANE_GROUP p)
  let s := (s.setTile p bx by_ (some .background)).count (fCDC_DEC_ERR_BLOCKS g) 1
  let s := s.raise 0x130 (0xC40 + dec) (locusPane g p) [(8, code), (8, 0), (48, s.procFrame g), (16, bx), (16, by_)]
  s.fault 0x0C (0xC40 + dec) dec (packBits [(8, code), (8, 0), (16, bx), (16, by_)])

/-- A pane that shows a compressed surface. -/
def State.isTiled (s : State) (p : Nat) : Bool := s.on (fPANE_EN p) && s.on (fPANE_SURF_EN p) && s.on (fPANE_COMP p)

/-- Blocks of the frame being processed are kept no longer: the pipeline turns to the next frame of the group, whose blocks are
fetched anew (R226). -/
def State.dropTiles (s : State) (g : Nat) : State :=
  { s with codec := { s.codec with tiles := s.codec.tiles.filter fun e => s.f (fPANE_GROUP (e.1 / 2 ^ 32)) != g } }

/-- A block of a pane that is to be fetched in the frame being processed. -/
def State.toFetch (s : State) (p bx by_ : Nat) : Bool :=
  s.isTiled p && decide (bx < surfBW (s.paneSurf p) ∧ by_ < surfBH (s.paneSurf p)) && (s.tile p bx by_ == none)

/-- What the fetch of a block reads of the frame store: its descriptor, the used part of its primary slot, its cells. -/
def State.blockReads (s : State) (x : Surf) (bx by_ : Nat) : List (Nat × Nat) :=
  let a := surfDesc x bx by_
  s.chainReads a ++ (match s.oldDesc a with
    | .block len _ _ => if len = 0 then [] else [(surfSlotAddr x bx by_, min len (16 * x.slot))]
    | _ => [])

/-- BLOCK_FETCH_DONE (R226): the tile fetch of a block completes and its stream goes to the raster die. A read that must wait
keeps it waiting (R199, R532). -/
def execBlockFetchDone (p bx by_ : Nat) (s : State) : Host.Outcome State Fault Refusal :=
  if s.toFetch p bx by_ then
    match s.readGate true (s.blockReads (s.paneSurf p) bx by_) with
    | (false, s) => .next s
    | (true, s) => .next (s.setTile p bx by_ (some (fetchBlock s (s.paneSurf p) bx by_)))
  else .next s

/-- TILE_FETCH_TIMEOUT (R226, R228): the fetch is abandoned after 16,384 ticks, code 8. -/
def execTileFetchTimeout (p bx by_ dec : Nat) (s : State) : Host.Outcome State Fault Refusal :=
  if s.toFetch p bx by_ then .next (s.badBlock p bx by_ dec 8) else .next s

/-- Is a block fetched and still to be decoded? -/
def TileBlk.undecoded : TileBlk → Bool
  | .stream _ _ _ => true
  | .empty => true
  | .failed _ => true
  | _ => false

/-- When a block is needed: the start of the first line of its pane that shows a row of it, and its group (R227). -/
def State.tileNeed (s : State) (p by_ : Nat) : Nat × Nat :=
  let g := s.f (fPANE_GROUP p)
  (s.procLineU g (s.f (fPANE_Y0 p) + (4 * by_ - s.f (fPANE_SRC_Y p))), g)

/-- How many undecoded blocks go before a block: needed by an earlier line start, or by the same in a lower group (R227). -/
def State.tilesBefore (s : State) (p by_ : Nat) : Nat :=
  let n := s.tileNeed p by_
  (s.codec.tiles.filter fun e =>
    let m := s.tileNeed (e.1 / 2 ^ 32) (e.1 / 2 ^ 16 % 2 ^ 16)
    (match e.2 with
      | some b => b.undecoded
      | none => false) && decide (m.1 < n.1 ∨ (m.1 = n.1 ∧ m.2 < n.2))).length

/-- BLOCK_DECODE_DONE (R227, R228): a decoder finishes a block: its pixels go to the line buffer, or the block is rendered as
background with the code of the first failing check. The 64 decoders take the blocks in order, so no decoder has one before which 64
others go. -/
def execBlockDecodeDone (p bx by_ dec : Nat) (s : State) : Host.Outcome State Fault Refusal :=
  if 64 ≤ s.tilesBefore p by_ then .next s else
  match s.tile p bx by_ with
  | some .empty => .next (s.setTile p bx by_ (some .background))
  | some (.failed code) => .next (s.badBlock p bx by_ dec code)
  | some (.stream len n bytes) =>
    let x := s.paneSurf p
    match decodeBlock x.fmt bx by_ (surfWb x bx) (surfHb x by_) len n x.slot bytes with
    | .ok rows px => .next (s.setTile p bx by_ (some (.shown rows px)))
    | .bad code => .next (s.badBlock p bx by_ dec code)
  | _ => .next s

/-! ## Jobs -/

/-- Field of a job record: bits [hi:lo] of word `w` (R218). -/
def jobF (j : Job) (w hi lo : Nat) : Nat := bitsOf (j.words.getD w 0) hi lo

/-- The surface a job writes (R218). -/
def jobSurf (j : Job) : Surf :=
  ⟨256 * jobF j 6 27 0, jobF j 8 15 0 + 1, jobF j 8 31 16 + 1, jobF j 7 19 0, jobF j 9 11 0, jobF j 7 31 30⟩

/-- Byte address of the job's source (R218). -/
def jobSrc (j : Job) : Nat := jobF j 4 31 0 + 2 ^ 32 * jobF j 5 31 0

/-- The reason a job is refused whole, 0 when it is not; the lowest that holds (R219). -/
def jobRefusal (j : Job) (cacheOk : Bool) : Nat :=
  let x := jobSurf j
  let zeros := jobF j 0 23 18 == 0 && jobF j 3 30 20 == 0 && jobF j 6 31 28 == 0 && jobF j 7 29 20 == 0 &&
    jobF j 9 15 12 == 0 && (j.words.drop 10).all fun w => w == 0
  let op := jobF j 0 31 24
  if ¬ (op = 1 ∨ op = 2) ∨ ¬ zeros then 1
  else if ¬ surfFits x then 2
  else if ¬ surfSlotOk x then 3
  else if surfBW x < jobF j 1 15 0 + jobF j 2 15 0 + 1 ∨ surfBH x < jobF j 1 31 16 + jobF j 2 31 16 + 1 then 4
  else if op = 1 ∧ ((jobF j 3 31 31 = 1 ∧ ¬ cacheOk) ∨ jobSrc j % 64 ≠ 0 ∨ jobF j 3 19 0 % 64 ≠ 0) then 5
  else 0

/-- The blocks of a job's rectangle, row by row. -/
def jobBlocks (j : Job) : List (Nat × Nat) :=
  (List.range (jobF j 2 31 16 + 1)).flatMap fun r =>
    (List.range (jobF j 2 15 0 + 1)).map fun c => (jobF j 1 15 0 + c, jobF j 1 31 16 + r)

/-- How many rows of a block an ENCODE job encodes: all, the first VLINES rows of a cut block with FLUSH, or none (R220). -/
def encodeRows (vlines by_ rows : Nat) (flush : Bool) : Nat :=
  if vlines = 0 ∨ 4 * by_ + rows ≤ vlines then rows
  else if 4 * by_ < vlines ∧ flush then vlines - 4 * by_
  else 0

/-- Ring size (R217, R242). -/
def State.cdcLog2 (s : State) : Nat := max 4 (s.f fCDC_CFG_LOG2N)

/-- An encoder. -/
def State.enc (s : State) (e : Nat) : Enc := smGet (fun _ => ⟨none, 0⟩) s.codec.encs e

/-- Replace an encoder and its BUSY bit (R245). -/
def State.setEnc (s : State) (e : Nat) (x : Enc) : State :=
  ({ s with codec := { s.codec with encs := smSet (fun _ => ⟨none, 0⟩) s.codec.encs e x } }).putBit fCDC_STATUS_BUSY e
    x.block.isSome

/-- Replace a job. -/
def State.setJob (s : State) (idx : Nat) (f : Job → Job) : State :=
  { s with codec := { s.codec with jobs := s.codec.jobs.map fun j => if j.idx = idx then f j else j } }

/-- Idle, enabled encoders outside quarantine take the next blocks of the started jobs, in ring order (R217, R224). -/
def State.handOut (s : State) : State :=
  (List.range 16).foldl (fun s e =>
    if bit (s.f fCDC_CFG_ENG_EN) e = 1 ∧ bit (s.f fCDC_STATUS_QUAR) e = 0 ∧ (s.enc e).block = none then
      match s.codec.jobs.find? fun j => j.started && !j.todo.isEmpty with
      | some j =>
        match j.todo with
        | [] => s
        | b :: rest =>
          (s.setJob j.idx fun j => { j with todo := rest, busy := j.busy + 1 }).setEnc e
            { s.enc e with block := some (j.idx, b.1, b.2) }
      | none => s
    else s) s

/-- Status of a complete job (R225). -/
def jobStatus (j : Job) : Nat :=
  if j.reason ≠ 0 then 2 else if j.srcFail then 3 else if j.waited ∨ 0 < j.rounds then 1 else 0

/-- Complete jobs at the front of the ring: HEAD advances past each and CODEC_JOB_DONE is raised (R217, R225). -/
def completeJobs : List Job → State → State
  | [], s => { s with codec := { s.codec with jobs := [] } }
  | j :: js, s =>
    if j.started ∧ j.todo = [] ∧ j.busy = 0 then
      let s := s.setF fCDC_RING_PTR_HEAD ((s.f fCDC_RING_PTR_HEAD + 1) % 2 ^ s.cdcLog2)
      let s := if jobStatus j = 1 then s.deferred 5 else s
      completeJobs js (s.raise 0x133 (0xC00 + j.lastEnc.getD 0) 0
        [(16, jobF j 0 15 0), (8, jobStatus j), (8, j.reason), (32, j.written), (16, j.shorts), (16, min j.rounds 65535)])
    else { s with codec := { s.codec with jobs := j :: js } }

/-- An engine is enabled and not quarantined: without one, jobs wait and HEAD does not advance (R224). -/
def State.engineOn (s : State) : Bool :=
  (List.range 16).any fun e => bit (s.f fCDC_CFG_ENG_EN) e == 1 && bit (s.f fCDC_STATUS_QUAR) e == 0

/-- Bring jobs and encoders up to date: a job whose writes still wait is not complete. -/
def State.runJobs (s : State) : State :=
  let s := s.handOut.settleFreed
  if s.engineOn ∧ ¬ s.writesWait tagCodec then completeJobs s.codec.jobs s else s

/-- A write of TAIL submits the records up to it (R217, R244). The ring holds at most 2^LOG2N − 1 jobs: a TAIL that would pass
HEAD submits nothing and is not taken (log 114). -/
def State.submitJobs (s : State) (by_ tail : Nat) : State :=
  let n := 2 ^ s.cdcLog2
  let old := s.f fCDC_RING_PTR_TAIL % n
  let count := (tail % n + n - old) % n
  if n ≤ (old + n - s.f fCDC_RING_PTR_HEAD % n) % n + count then s
  else
    let new := (List.range count).map fun i =>
      (⟨(old + i) % n, [], false, 0, [], 0, 0, 0, false, 0, false, none, by_⟩ : Job)
    ({ s with codec := { s.codec with jobs := s.codec.jobs ++ new } }).setF fCDC_RING_PTR_TAIL (tail % n)

/-- The oldest job that is not started, with its record read (R217), where an engine is there for it (R224), no write of an
earlier job waits, and the record can be read now. -/
def State.nextJob (s : State) : Option Job × State :=
  match s.codec.jobs.find? fun j => !j.started with
  | none => (none, s)
  | some j =>
    if ¬ s.engineOn ∨ s.writesWait tagCodec then (none, s)
    else
      match s.devRead (256 * s.f fCDC_RING_BASE_GRAN + 64 * j.idx) 64 with
      | (none, s) => (none, s)
      | (some bs, s) => (some { j with words := (List.range 16).map fun w => leNat ((bs.drop (4 * w)).take 4) }, s)

/-- Refuse a job whole (R219). -/
def State.refuseJob (s : State) (j : Job) (reason : Nat) : State :=
  (s.setJob j.idx fun _ => { j with started := true, reason := reason }).runJobs

/-- CODEC_ENCODE (R219, R220): the next job is checked and started; its blocks go to the encoders in order. -/
def execCodecEncode (s : State) : Host.Outcome State Fault Refusal :=
  match s.nextJob with
  | (none, s) => .next s
  | (some j, s) =>
    if jobF j 0 31 24 = 2 then .next s
    else
      let r := jobRefusal j (s.on fCXL_LINK_STATUS_CACHE)
      if r ≠ 0 then .next (s.refuseJob j r)
      else
        let x := jobSurf j
        let todo := (jobBlocks j).filter fun b =>
          encodeRows (jobF j 9 31 16) b.2 (surfHb x b.2) (jobF j 0 16 16 == 1) != 0
        .next ((s.setJob j.idx fun _ => { j with started := true, todo := todo }).runJobs)

/-- Free the old cells of a block and zero its descriptor (R221 RELEASE). -/
def State.releaseBlock (s : State) (x : Surf) (b : Nat × Nat) : State :=
  let a := surfDesc x b.1 b.2
  (s.freeOld (s.oldDesc a)).devWrite tagCodec a (List.replicate 16 0#8)

/-- CODEC_RELEASE (R221): every block of the rectangle loses its device cells and its descriptor. Blocks of earlier jobs
must be written first, since jobs write one block in ring order. -/
def execCodecRelease (s : State) : Host.Outcome State Fault Refusal :=
  match s.nextJob with
  | (none, s) => .next s
  | (some j, s) =>
    if jobF j 0 31 24 ≠ 2 then .next s
    else
      let r := jobRefusal j (s.on fCXL_LINK_STATUS_CACHE)
      if r ≠ 0 then .next (s.refuseJob j r)
      else if s.codec.jobs.any fun i => i.started && (!i.todo.isEmpty || i.busy != 0) then .next s
      else
        match s.readGate false ((jobBlocks j).flatMap fun b => s.chainReads (surfDesc (jobSurf j) b.1 b.2)) with
        | (false, s) => .next s
        | (true, s) =>
          let s := (jobBlocks j).foldl (fun s b => s.releaseBlock (jobSurf j) b) s
          .next ((s.setJob j.idx fun _ => { j with started := true }).runJobs)

/-- Source pixels of a block row: `none` when the read fails (R194, R533). -/
def State.srcRow (s : State) (host : Bool) (a bpp n : Nat) : Option (List Nat) :=
  if host then
    let bs := (List.range (n * bpp)).map fun i => s.hostByte (a + i)
    if bs.any fun b => decide (256 ≤ b) then none else some (bytesPix bpp n (bs.map fun b => BitVec.ofNat 8 b))
  else if fsEnd < a + n * bpp ∨ s.poisonedIn a (n * bpp) then none
  else some (bytesPix bpp n (s.fsBytes a (n * bpp)))

/-- Address of the source of row `r` of a block (R218). -/
def srcAddr (j : Job) (bx by_ r : Nat) : Nat :=
  jobSrc j + (4 * by_ + r) * jobF j 3 19 0 + 128 * bx * fmtBpp (jobF j 7 31 30)

/-- Source pixels of a block, row by row. -/
def State.srcRows (s : State) (j : Job) (bx by_ wb : Nat) : Nat → Nat → Option (List Nat)
  | 0, _ => some []
  | k + 1, r =>
    match s.srcRow (jobF j 3 31 31 == 1) (srcAddr j bx by_ r) (fmtBpp (jobF j 7 31 30)) wb with
    | none => none
    | some px => (s.srcRows j bx by_ wb k (r + 1)).map fun rest => px ++ rest

/-- The reads of an encoder for a block of `rows` rows and `wb` columns: its source, and the old descriptor with its chain. Whether
they are done, and the state. -/
def State.encodeGate (s : State) (j : Job) (bx by_ wb rows : Nat) : Bool × State :=
  let src := ((List.range rows).map fun r => (srcAddr j bx by_ r, wb * fmtBpp (jobF j 7 31 30))).filter fun r =>
    jobF j 3 31 31 == 1 || decide (r.1 + r.2 ≤ fsEnd)
  let old := if jobF j 0 17 17 = 1 then [] else s.chainReads (surfDesc (jobSurf j) bx by_)
  if jobF j 3 31 31 = 1 then
    let a := s.hostGate src
    let b := a.2.readGate false old
    (a.1 && b.1, b.2)
  else s.readGate false (src ++ old)

/-- The source bytes of a block are used (R533). -/
def State.dropSource (s : State) (j : Job) (bx by_ wb rows : Nat) : State :=
  if jobF j 3 31 31 = 1 then
    (List.range rows).foldl (fun s r => s.dropHost (srcAddr j bx by_ r) (wb * fmtBpp (jobF j 7 31 30))) s
  else s

/-- Write the cells of a block (R205, R221): `cs` in order, the bytes 508 to a cell. -/
def writeCells : List Nat → List Byte → State → State
  | [], _, s => s
  | c :: cs, bs, s =>
    let part := bs.take 508
    let link := match cs with
      | [] => 2 ^ 31
      | n :: _ => n
    let a := s.cellAddr c
    let s := (s.devWrite tagCodec a part).devWrite tagCodec (a + 508) (leBytes 4 link)
    writeCells cs (bs.drop 508) (s.markCell c true)

/-- Write a block: cells, primary slot, descriptor; then the old device cells are freed (R221). -/
def State.writeBlock (s : State) (j : Job) (bx by_ : Nat) (bytes : List Byte) (cells : List Nat) : State :=
  let x := jobSurf j
  let da := surfDesc x bx by_
  let old := if jobF j 0 17 17 = 1 then Desc.empty else s.oldDesc da
  let slotBytes := 16 * x.slot
  let s := writeCells cells (bytes.drop slotBytes) s
  let s := if cells = [] then s else s.setFree (s.f fFST_STRUDEL_FREE_FREE - cells.length)
  let s := s.devWrite tagCodec (surfSlotAddr x bx by_) (bytes.take slotBytes)
  let s := s.devWrite tagCodec da (descBytes bytes.length cells.length (cells.headD 0))
  s.freeOld old

/-- An engine's mismatches reached QUAR_THR, or its raw form mismatched: it takes no further blocks (R223, R224). -/
def State.quarantine (s : State) (e : Nat) : State :=
  let s := s.setW1c fCDC_STATUS_QUAR e
  let s := s.raise 0x132 (0xC00 + e) 0 [(8, 1), (24, 0), (32, s.f (fCDC_ENC_MISMATCH_COUNT e))]
  s.fault 0x0B (0xC00 + e) e (s.enc e).misses

/-- A self-check mismatch of engine `e` (R223): counted, reported, and the engine quarantined when it must be. -/
def State.encMismatch (s : State) (e tag bx by_ : Nat) (rawToo : Bool) : State :=
  let s := s.count (fCDC_ENC_MISMATCH_COUNT e) 1
  let s := s.setEnc e { s.enc e with misses := (s.enc e).misses + 1 }
  let s := s.raise 0x131 (0xC00 + e) 0 [(16, tag), (16, bx), (16, by_), (8, b2n rawToo)]
  let s := if rawToo then s else s.fault 0x0A (0xC00 + e) e (packBits [(16, tag), (16, bx), (16, by_)])
  if rawToo ∨ max 1 (s.f fCDC_CFG_QUAR_THR) ≤ (s.enc e).misses then s.quarantine e else s

/-- A block of a job that an earlier job writes too and has not written yet (R221). -/
def State.encClash (s : State) (j : Job) (bx by_ : Nat) : Bool :=
  let a := surfDesc (jobSurf j) bx by_
  (s.codec.jobs.takeWhile fun i => i.idx != j.idx).any fun b =>
    (b.todo.any fun t => surfDesc (jobSurf b) t.1 t.2 == a) ||
      (List.range 16).any fun k => match (s.enc k).block with
        | some (i, x, y) => i == b.idx && surfDesc (jobSurf b) x y == a
        | none => false

/-- CODEC_BLOCK_DONE (R220 to R225): encoder `e` finishes the block it holds. `mismatch` 0: its self-check passed; 1: the
coded form mismatched and the raw form passed; 2: the raw form mismatched too. `rounds`: arbiter rounds it waited. -/
def execCodecBlockDone (e mismatch rounds : Nat) (s : State) : Host.Outcome State Fault Refusal :=
  let en := s.enc e
  match en.block with
  | none => .next s
  | some (idx, bx, by_) =>
    match s.codec.jobs.find? fun j => j.idx == idx with
    | none => .next s
    | some j =>
      let x := jobSurf j
      let rows := encodeRows (jobF j 9 31 16) by_ (surfHb x by_) (jobF j 0 16 16 == 1)
      let short := decide (rows < surfHb x by_)
      let tag := jobF j 0 15 0
      let free := fun (s : State) => s.setEnc e { s.enc e with block := none }
      if s.writesWait tagCodec ∨ s.encClash j bx by_ then .next s
      else match s.encodeGate j bx by_ (surfWb x bx) rows with
      | (false, s) => .next s
      | (true, s) =>
        let s0 := s
        let s := s.dropSource j bx by_ (surfWb x bx) rows
        match s0.srcRows j bx by_ (surfWb x bx) rows 0 with
        | none =>
          .next ((free (s.setJob idx fun j =>
            { j with busy := j.busy - 1, srcFail := true, rounds := j.rounds + rounds })).runJobs)
        | some px =>
          if mismatch = 2 then
            let s := (free s).encMismatch e tag bx by_ true
            .next ((s.setJob idx fun j => { j with busy := j.busy - 1, todo := (bx, by_) :: j.todo }).runJobs)
          else
            let bytes := encodeBlock x.fmt bx by_ (surfWb x bx) rows short (mismatch == 1) px
            let need := cellsNeeded bytes.length x.slot
            let cells := findCells s (s.devEnd - s.devFirst) need s.devFirst
            if cells.length < need then
              let s := s0.setJob idx fun j => { j with waited := true }
              .next (if j.waited then s else s.raise 0x134 0xE00 0 [(32, s.f fFST_STRUDEL_FREE_FREE)])
            else
              let s := s.writeBlock j bx by_ bytes cells
              let s := if short then s.count fCDC_SHORT_CNT_SHORT 1 else s
              let s := if mismatch = 1 then s.encMismatch e tag bx by_ false else s
              .next ((free (s.setJob idx fun j => { j with
                busy := j.busy - 1
                written := j.written + 1
                shorts := j.shorts + b2n short
                rounds := j.rounds + rounds
                lastEnc := some e })).runJobs)

/-- CELL_RELEASE (R221): 65,536 ticks after a descriptor was replaced its freed cells become allocatable. -/
def execCellRelease (s : State) : Host.Outcome State Fault Refusal :=
  match s.codec.releasing with
  | [] => .next s
  | (due, cs) :: rest =>
    if s.time.master < due then .next s
    else
      let s := { s with codec := { s.codec with releasing := rest } }
      let was := cs.filter fun c => smGet (fun _ => false) s.fs.used c
      let s := was.foldl (fun s c => s.markCell c false) s
      .next (s.setFree (s.f fFST_STRUDEL_FREE_FREE + (was.filter fun c => s.cellFree c).length))

/-- Write 1 to QUAR bits: each named engine is released and its count since release zeroed (R224). -/
def State.releaseEncoders (s : State) (bits : Nat) : State :=
  ((List.range 16).foldl (fun s e =>
    if bit bits e = 1 ∧ bit (s.f fCDC_STATUS_QUAR) e = 1 ∧ bit (s.w1cNow fCDC_STATUS_QUAR) e = 0 then
      let s := (s.putBit fCDC_STATUS_QUAR e false).setEnc e { s.enc e with misses := 0 }
      s.raise 0x132 (0xC00 + e) 0 [(8, 0), (24, 0), (32, s.f (fCDC_ENC_MISMATCH_COUNT e))]
    else s) s).degraded.runJobs

/-! ## The strudel pool's configuration -/

/-- FST_STRUDEL_BASE, CELLS and DEV_FIRST count as stopped (R207). -/
def State.strudelStopped (s : State) : Bool :=
  s.f fCDC_RING_PTR_HEAD == s.f fCDC_RING_PTR_TAIL && s.f fCDC_STATUS_BUSY == 0 &&
    !(s.enabledPanes.any fun p => s.on (fPANE_COMP p) && s.gState (s.f (fPANE_GROUP p)) != 0)

/-- Every device cell becomes free (R206). -/
def State.freeAllCells (s : State) : State :=
  { s with
    fs := { s.fs with used := [], lostCells := [] }
    codec := { s.codec with releasing := [], freed := [] } }.setFree (s.devEnd - s.devFirst)

/-- A write to FST_STRUDEL_CELLS or FST_STRUDEL_DEV (R8, R206, R207): LOW is live; CELLS and DEV_FIRST are held. -/
def State.strudelWrite (s : State) (addr : Nat) (data : Word) : State :=
  let v := data.toNat
  let s := if addr = fFST_STRUDEL_DEV_LOW.addr then s.setF fFST_STRUDEL_DEV_LOW (bitsOf v 31 24) else s
  if ¬ s.strudelStopped then s.err 1 addr
  else if addr = fFST_STRUDEL_DEV_LOW.addr then (s.setF fFST_STRUDEL_DEV_DEV_FIRST (bitsOf v 23 0)).freeAllCells
  else if addr = fFST_STRUDEL_CELLS_CELLS.addr then (s.setF fFST_STRUDEL_CELLS_CELLS (bitsOf v 23 0)).freeAllCells
  else s

end Sys2Proof.Machine
end

