-- ==== Sys2Proof/Machine/Panes.lean ====
section
/-!
DEFINITION. Panes and composition (R102 to R114): the descriptor checks, surface pixels, layers and the compose stage;
captures (R124, R125); self-refresh (R122 to R126).
-/
namespace Sys2Proof.Machine

/-- Technology mode of a group: 0 LCD, 1 OLED, 2 microLED, 3 bistable, 4 command mode (R424). -/
def State.tech (s : State) (g : Nat) : Nat := s.f (fDRV_MODE_TECH g)

/-- Active size in effect (R84). -/
def State.hact (s : State) (g : Nat) : Nat := s.f (fTMG_HACT_VALUE g)
def State.vact (s : State) (g : Nat) : Nat := s.f (fTMG_VACT_VALUE g)

/-- Widening to 14 bits (R108): `r` with `n` bits so far; `fuel` bounds the rounds. -/
def expandGo (v c : Nat) : Nat → Nat → Nat → Nat
  | 0, r, n => r / 2 ^ (n - 14)
  | fuel + 1, r, n => if n < 14 then expandGo v c fuel (r * 2 ^ c + v) (n + c) else r / 2 ^ (n - 14)

/-- expand(v, c) of R108. -/
def expand (v c : Nat) : Nat := expandGo v c 14 0 0

/-! ## Descriptor checks -/

/-- The code of R109 a pane's descriptor in effect fails with, 0 if it is valid; the lowest that holds. `tech` is the
technology mode of its group. -/
def State.paneCode (s : State) (p tech : Nat) : Nat :=
  let surf := s.on (fPANE_SURF_EN p)
  let comp := s.on (fPANE_COMP p)
  let host := s.on (fPANE_SPACE p)
  let pitch := s.f (fPANE_PITCH p)
  let rows := s.f (fPANE_SHM1 p) + 1
  let bpp := fmtBpp (s.f (fPANE_FMT p))
  let x := s.paneSurf p
  let t0 := s.f (fPANE_TECH0 p)
  let techOk := s.f (fPANE_TECH1 p) == 0 && s.f (fPANE_TECH2 p) == 0 &&
    (if tech = 3 then bitsOf t0 30 4 == 0 else t0 == 0)
  if surf ∧ comp ∧ host then 1
  else if surf ∧ ¬ comp ∧ (pitch % 64 ≠ 0 ∨ pitch < (s.f (fPANE_SWM1 p) + 1) * bpp) then 2
  else if surf ∧ ¬ host ∧ (if comp then ¬ surfFits x else fsEnd < s.paneBase p + rows * pitch) then 3
  else if surf ∧ comp ∧ ¬ surfSlotOk x then 4
  else if surf ∧ s.on (fPANE_SR_CAP p) ∧ host ∧ fsEnd < 256 * s.f (fPANE_CAP_GRAN p) + rows * pitch then 5
  else if ¬ techOk then 6
  else if smGet (fun _ => false) s.pix.badPanes p then 7
  else 0

/-- Check a pane of which EN or a field took effect: INV_CODE takes the code and PANE_INVALID is raised for a failing one, once
(R109, R129). Its frame number is that of the frame being processed: for a check at the latch of frame F, F + 1 (log 115). -/
def State.checkPane (s : State) (p : Nat) : State :=
  let g := s.f (fPANE_GROUP p)
  let code := s.paneCode p (s.tech g)
  let s := s.setF (fPANE_INV_CODE p) code
  if code = 0 then s
  else s.raise 0x112 (0x800 + g) (locusPane g p) [(8, code), (8, 0), (48, s.procFrame g)]

/-- Scan-out finds an uncorrectable error in a pane's entry (R109, R128): the pane is treated as disabled until a commit writes the
entry; an entry that failed a check already keeps its code, and is not reported again. -/
def State.losePane (s : State) (p : Nat) : State :=
  let s := { s with pix := { s.pix with badPanes := smSet (fun _ => false) s.pix.badPanes p true } }
  if s.f (fPANE_INV_CODE p) = 0 then s.checkPane p else s

/-- A pane rendered as the opaque fill of its background (R109, R112). -/
def State.paneFill (s : State) (p : Nat) : Bool :=
  let c := s.f (fPANE_INV_CODE p)
  c == 1 || c == 2 || c == 3 || c == 4 || c == 6

/-! ## Layers -/

/-- Does pane `p` cover group pixel (x, y) (R110)? -/
def State.covers (s : State) (p x y : Nat) : Bool :=
  let x0 := s.f (fPANE_X0 p)
  let y0 := s.f (fPANE_Y0 p)
  decide (x0 ≤ x ∧ x ≤ x0 + s.f (fPANE_WM1 p) ∧ y0 ≤ y ∧ y ≤ y0 + s.f (fPANE_HM1 p))

/-- Insert a pane in a list ranked highest first: by Z, then by index (R111). -/
def rankInsert (s : State) (p : Nat) : List Nat → List Nat
  | [] => [p]
  | q :: qs =>
    if s.f (fPANE_Z q) < s.f (fPANE_Z p) ∨ (s.f (fPANE_Z q) = s.f (fPANE_Z p) ∧ q < p) then p :: q :: qs
    else q :: rankInsert s p qs

/-- Panes of a group that intersect line `y` within the active area, highest ranked first (R110, R111). -/
def State.linePanes (s : State) (g y : Nat) : List Nat :=
  ((s.panesOf g).filter fun p =>
    decide (s.f (fPANE_Y0 p) ≤ y ∧ y ≤ s.f (fPANE_Y0 p) + s.f (fPANE_HM1 p) ∧ s.f (fPANE_X0 p) < s.hact g)).foldl
    (fun l p => rankInsert s p l) []

/-- The layers composed at a pixel, highest first: at most 512 panes of the line, then at most four (R111). -/
def State.layers (s : State) (g x y : Nat) : List Nat :=
  (((s.linePanes g y).take 512).filter fun p => s.covers p x y).take 4

/-- What limits of R111 leave a pane out of line `y`: bit 0 more than four layers at a pixel, bit 1 more than 512 panes. -/
def State.lineDrops (s : State) (g y : Nat) : Nat :=
  let l := s.linePanes g y
  let kept := l.take 512
  let over4 := (List.range (s.hact g)).any fun x => decide (4 < (kept.filter fun p => s.covers p x y).length)
  b2n over4 + 2 * b2n (decide (512 < l.length))

/-- Widened background colour of a pane (R108). -/
def State.paneBg (s : State) (p : Nat) : List Nat :=
  [expand (s.f (fPANE_BG_R p)) 10, expand (s.f (fPANE_BG_G p)) 10, expand (s.f (fPANE_BG_B p)) 10]

/-- Widened group background colour (R113). -/
def State.groupBg (s : State) (g : Nat) : List Nat :=
  [expand (s.f (fPAN_GROUP_BG_R g)) 10, expand (s.f (fPAN_GROUP_BG_G g)) 10, expand (s.f (fPAN_GROUP_BG_B g)) 10]

/-- Is group `g` in self-refresh (R122)? -/
def State.inSr (s : State) (g : Nat) : Bool := bit (s.f fPAN_SR_STATUS_GROUPS) g == 1

/-- Is the frame being processed one in self-refresh? A group that enters RUNNING while SLEEP is 1 is so from its first frame
(R122). -/
def State.srFrame (s : State) (g : Nat) : Bool := s.inSr g || (s.gState g == 1 && s.on fPAN_SR_CTRL_SLEEP)

/-- A stored pixel, where it is to be had: not ready (its block is not decoded), absent (background), or its word. -/
inductive PixSrc where
  | wait
  | bg
  | word (w : Nat)
  deriving DecidableEq, Repr

/-- Word of a pixel in the frame store; a poisoned unit is a failed read (R107, R194). -/
def State.fsPixel (s : State) (a bpp : Nat) : PixSrc :=
  if s.poisonedIn a bpp then .bg else .word (leNat (s.fsBytes a bpp))

/-- Word of a pixel in host memory at `a`, as CXL.cache returned the `n` bytes at `b` that its layer shows in the span: where any of
them failed the span shows background, and so does a read that CXL.cache is not there for (R112, R126, R533). -/
def State.hostPixel (s : State) (b n a bpp : Nat) : PixSrc :=
  let bs := (List.range bpp).map fun i => s.hostByte (a + i)
  if (List.range n).any fun i => s.hostByte (b + i) == 257 then .bg
  else if bs.any fun v => v == 256 then
    (if s.on fCXL_LINK_STATUS_CACHE ∨ (s.askedAt (a / 64)).isSome then .wait else .bg)
  else .word (leNat (bs.map fun v => BitVec.ofNat 8 v))

/-- The bytes of its surface that a layer shows in span `i` of line `y`, offset and length; none where it shows none (R110). -/
def State.layerSpan (s : State) (g p y i : Nat) : Option (Nat × Nat) :=
  let px := s.f (fPANE_X0 p)
  let sx := s.f (fPANE_SRC_X p)
  let sy := s.f (fPANE_SRC_Y p) + (y - s.f (fPANE_Y0 p))
  let bpp := fmtBpp (s.f (fPANE_FMT p))
  let lo := max px (64 * i)
  let hi := min (min (px + s.f (fPANE_WM1 p)) (64 * i + 63)) (min (s.hact g - 1) (px + s.f (fPANE_SWM1 p) - sx))
  if s.f (fPANE_SWM1 p) < sx ∨ s.f (fPANE_SHM1 p) < sy ∨ hi < lo then none
  else some (sy * s.f (fPANE_PITCH p) + (sx + (lo - px)) * bpp, (hi - lo + 1) * bpp)

/-- Every read of a range of host memory was issued before self-refresh began at once within the frame (R122). -/
def State.issued (s : State) (g a n : Nat) : Bool :=
  (s.grp g).srAtOnce && (s.hostMissing a n).all fun l => (s.askedAt l).isSome

/-- Where a layer's raw surface data for span `i` of line `y` is read: whether in host memory, the address, the length. In
self-refresh a host surface is read from its capture, if that is valid (R124). -/
def State.layerSrc (s : State) (g p y i : Nat) : Option (Bool × Nat × Nat) :=
  if ¬ s.on (fPANE_SURF_EN p) ∨ s.on (fPANE_COMP p) ∨ s.paneFill p then none
  else
    match s.layerSpan g p y i with
    | none => none
    | some (o, n) =>
      if ¬ s.on (fPANE_SPACE p) then some (false, s.paneBase p + o, n)
      else if ¬ s.srFrame g ∨ s.issued g (s.paneBase p + o) n then some (true, s.paneBase p + o, n)
      else if s.on (fPANE_CAP_VALID p) then some (false, 256 * s.f (fPANE_CAP_GRAN p) + o, n)
      else none

/-- The surface pixel of pane `p` at group pixel (x, y) (R107, R110, R112, R124, R228). -/
def State.surfPixel (s : State) (g p x y : Nat) : PixSrc :=
  let sx := s.f (fPANE_SRC_X p) + (x - s.f (fPANE_X0 p))
  let sy := s.f (fPANE_SRC_Y p) + (y - s.f (fPANE_Y0 p))
  if ¬ s.on (fPANE_SURF_EN p) ∨ s.f (fPANE_SWM1 p) < sx ∨ s.f (fPANE_SHM1 p) < sy ∨ s.paneFill p then .bg
  else
    let bpp := fmtBpp (s.f (fPANE_FMT p))
    if s.on (fPANE_COMP p) then
      match s.tile p (sx / 128) (sy / 4) with
      | some (.shown rows px) =>
        let wb := surfWb (s.paneSurf p) (sx / 128)
        if sy % 4 < rows then .word (px.getD (sy % 4 * wb + sx % 128) 0) else .bg
      | some .background => .bg
      | _ => .wait
    else
      let ofs := (x - max (s.f (fPANE_X0 p)) (64 * (x / 64))) * bpp
      match s.layerSrc g p y (x / 64) with
      | some (true, a, n) => s.hostPixel a n (a + ofs) bpp
      | some (false, a, _) => s.fsPixel (a + ofs) bpp
      | none => .bg

/-- Colour and alpha of a layer at a group pixel; `none` while its block is not decoded (R112). -/
def State.layerAt (s : State) (g p x y : Nat) : Option (List Nat × Nat) :=
  let fmt := s.f (fPANE_FMT p)
  match s.surfPixel g p x y with
  | .wait => none
  | src =>
    let comps := match src with
      | .word w => ((unpackPix fmt w).zip ((fmtComps fmt).map Prod.snd)).map fun (c : Nat × Nat) => expand c.1 c.2
      | _ => s.paneBg p ++ [16383]
    let ap := comps.getD 3 16383
    let ac := expand (s.f (fPANE_CALPHA p)) 8
    let a := if s.paneFill p then 16383
      else match s.f (fPANE_AMODE p) with
        | 0 => 16383
        | 1 => ac
        | 2 => ap
        | _ => (ap * ac + 8191) / 16383
    some (comps.take 3, a)

/-- Columns of span `i` of a line (R140). -/
def State.spanCols (s : State) (g i : Nat) : List Nat :=
  ((List.range 64).map fun k => 64 * i + k).filter fun x => decide (x < s.hact g)

/-- Is a layer opaque at a pixel, showing surface data or a solid fill there (R114)? -/
def State.opaqueAt (s : State) (p x y : Nat) : Bool :=
  let sx := s.f (fPANE_SRC_X p) + (x - s.f (fPANE_X0 p))
  let sy := s.f (fPANE_SRC_Y p) + (y - s.f (fPANE_Y0 p))
  let amode := s.f (fPANE_AMODE p)
  s.paneFill p || ((amode == 0 || (amode == 1 && s.f (fPANE_CALPHA p) == 255)) &&
    (!s.on (fPANE_SURF_EN p) || decide (sx ≤ s.f (fPANE_SWM1 p) ∧ sy ≤ s.f (fPANE_SHM1 p))))

/-- The highest layer that hides all below it in span `i` of line `y`: composed and opaque over the whole span (R114). -/
def State.hider (s : State) (g y i : Nat) : Option Nat :=
  ((s.linePanes g y).take 512).find? fun p => (s.spanCols g i).all fun x => (s.layers g x y).contains p && s.opaqueAt p x y

/-- A list up to and with an element. -/
def upTo (p : Nat) (l : List Nat) : List Nat := l.takeWhile (· != p) ++ [p]

/-- The layers of a pixel whose surface data is read: none below one that hides them in the span (R114). -/
def State.layersSeen (s : State) (g x y : Nat) : List Nat :=
  match s.layers g x y with
  | p :: q :: r =>
    (match s.hider g y (x / 64) with
    | some h => upTo h (p :: q :: r)
    | none => p :: q :: r)
  | l => l

/-- The layers whose surface data a span needs. -/
def State.spanLayers (s : State) (g y i : Nat) : List Nat :=
  ((s.spanCols g i).flatMap fun x => s.layersSeen g x y).eraseDups

/-- Reads of raw surface data for a span: of the frame store (false) or of host memory (true). -/
def State.spanReads (s : State) (g y i : Nat) (host : Bool) : List (Nat × Nat) :=
  ((s.spanLayers g y i).filterMap fun p => s.layerSrc g p y i).filterMap fun r => if r.1 = host then some r.2 else none

/-- One layer over P (R113). -/
def blend (premul : Bool) (sc a p : Nat) : Nat :=
  if premul then min 16383 (sc + ((16383 - a) * p + 8191) / 16383)
  else (a * sc + (16383 - a) * p + 8191) / 16383

/-- Layers from lowest to highest over P (R113). -/
def composeOver (s : State) (g x y : Nat) : List Nat → List Nat → Option (List Nat)
  | [], acc => some acc
  | p :: ps, acc =>
    match s.layerAt g p x y with
    | none => none
    | some (sc, a) =>
      composeOver s g x y ps ((sc.zip acc).map fun c => blend (s.on (fPANE_PREMUL p)) c.1 a c.2)

/-- The compose stage at a pixel: `none` while data it needs is not there (R113, R114). -/
def State.composeAt (s : State) (g x y : Nat) : Option (List Nat) :=
  composeOver s g x y (s.layersSeen g x y).reverse (s.groupBg g)

/-! ## Captures (R125) -/

/-- Columns and rows of a pane's visible window (R125). -/
def State.paneWin (s : State) (p : Nat) : Nat × Nat :=
  let g := s.f (fPANE_GROUP p)
  (min (min (s.f (fPANE_WM1 p) + 1) (s.hact g - s.f (fPANE_X0 p))) (s.f (fPANE_SWM1 p) + 1 - s.f (fPANE_SRC_X p)),
    min (min (s.f (fPANE_HM1 p) + 1) (s.vact g - s.f (fPANE_Y0 p))) (s.f (fPANE_SHM1 p) + 1 - s.f (fPANE_SRC_Y p)))

/-- Is surface byte `o` of a pane one that its scan-out reads: a byte of a pixel of the visible window? -/
def State.paneReads (s : State) (p o : Nat) : Bool :=
  let (cols, rows) := s.paneWin p
  let bpp := fmtBpp (s.f (fPANE_FMT p))
  let r := o / s.f (fPANE_PITCH p)
  let c := o % s.f (fPANE_PITCH p)
  let x := s.f (fPANE_SRC_X p)
  let y := s.f (fPANE_SRC_Y p)
  decide (y ≤ r ∧ r < y + rows ∧ x * bpp ≤ c ∧ c < (x + cols) * bpp)

/-- Of the host memory read at `addr`, the bytes that scan-out of pane `p` reads go to its capture, and are noted as written in
this frame. -/
def State.captureBytes (s : State) (p addr : Nat) (bs : List Byte) : State :=
  let g := s.f (fPANE_GROUP p)
  let base := s.paneBase p
  if s.on (fPANE_EN p) ∧ s.on (fPANE_SPACE p) ∧ s.on (fPANE_SR_CAP p) ∧ s.f (fPANE_INV_CODE p) = 0 ∧ ¬ s.inSr g then
    bs.zipIdx.foldl (fun s e =>
      let o := addr + e.2 - base
      if addr + e.2 < base ∨ ¬ s.paneReads p o then s
      else
        let s := s.devWrite 0 (256 * s.f (fPANE_CAP_GRAN p) + o) [e.1]
        { s with pix := { s.pix with cap := smSet (fun _ => false) s.pix.cap (p * 2 ^ 36 + o) true } }) s
  else s

/-- Every byte of the pane's visible window has been written to its capture in this frame (R125). -/
def State.captureWhole (s : State) (p : Nat) : Bool :=
  let (cols, rows) := s.paneWin p
  let bpp := fmtBpp (s.f (fPANE_FMT p))
  (List.range rows).all fun r => (List.range (cols * bpp)).all fun i =>
    smGet (fun _ => false) s.pix.cap
      (p * 2 ^ 36 + (s.f (fPANE_SRC_Y p) + r) * s.f (fPANE_PITCH p) + s.f (fPANE_SRC_X p) * bpp + i)

/-- The notes of what panes have captured in the frame are dropped. -/
def State.dropCaptures (s : State) (ps : List Nat) : State :=
  { s with pix := { s.pix with
      cap := s.pix.cap.filter fun e => !ps.contains (e.1 / 2 ^ 36)
      capWhole := s.pix.capWhole.filter fun e => !ps.contains e.1 } }

/-- The pipeline turns to the next frame of group `g`: captures that the frame in progress made whole are noted (R125). -/
def State.captureLatch (s : State) (g : Nat) : State :=
  let ps := s.panesOf g
  let whole := ps.filter fun p =>
    s.on (fPANE_SPACE p) && s.on (fPANE_SR_CAP p) && s.f (fPANE_INV_CODE p) == 0 && s.captureWhole p
  let s := s.dropCaptures ps
  { s with pix := { s.pix with capWhole := whole.foldl (fun m p => smSet (fun _ => false) m p true) s.pix.capWhole } }

/-- End of a frame of group `g`: captures that it made whole become valid (R125). -/
def State.captureFrameEnd (s : State) (g : Nat) : State :=
  let ps := (s.panesOf g).filter fun p => smGet (fun _ => false) s.pix.capWhole p
  let s := ps.foldl (fun s p => if s.inSr g then s else s.setF (fPANE_CAP_VALID p) 1) s
  { s with pix := { s.pix with capWhole := s.pix.capWhole.filter fun e => !ps.contains e.1 } }

/-- Host data of the panes of a group is kept no longer: the next frame reads it anew. -/
def State.dropHostPanes (s : State) (g : Nat) : State :=
  ((s.panesOf g).filter fun p => s.on (fPANE_SPACE p) && s.on (fPANE_SURF_EN p)).foldl (fun s p =>
    s.dropHost (s.paneBase p) ((s.f (fPANE_SHM1 p) + 1) * s.f (fPANE_PITCH p))) s

/-! ## Self-refresh (R122, R126) -/

/-- Is the group RUNNING or STOPPING: a running group of R122? -/
def State.running (s : State) (g : Nat) : Bool := 2 ≤ s.gState g

/-- A group enters or leaves self-refresh: its bit of GROUPS, ACTIVE, and SELF_REFRESH with the first frame in the new state. -/
def State.setSr (s : State) (g : Nat) (on : Bool) (frame : Nat) : State :=
  let s := s.putBit fPAN_SR_STATUS_GROUPS g on
  let s := s.setOn fPAN_SR_STATUS_ACTIVE (s.f fPAN_SR_STATUS_GROUPS != 0)
  let s := if on then s.dropCaptures (s.panesOf g) else s
  s.raiseG 0x111 g [(8, b2n on), (8, s.f fPAN_SR_STATUS_CAUSE), (48, frame)]

/-- The AT9840 sets SLEEP itself with a cause, and every running group enters self-refresh at once (R122). -/
def State.sleepNow (s : State) (cause : Nat) : State :=
  let s := (s.setF fPAN_SR_CTRL_SLEEP 1).setF fPAN_SR_STATUS_CAUSE cause
  allGroups.foldl (fun s g =>
    let s := s.setGrp g { s.grp g with srExitAtLatch := false, srEnterAtLatch := false, srAtLatch := 0 }
    if s.running g ∧ ¬ s.inSr g then (s.setSr g true (s.grp g).frame).setGrp g { s.grp g with srAtOnce := true } else s) s

/-- Software writes SLEEP: groups enter or leave at their first latch whose cut-off follows the write (R122, R126). -/
def State.writeSleep (s : State) (v : Bool) : State :=
  let s := if v then s.setF fPAN_SR_STATUS_CAUSE 1 else s
  let s := s.setOn fPAN_SR_CTRL_SLEEP v
  allGroups.foldl (fun s g =>
    let x := s.grp g
    if ¬ s.running g then s
    else if v then s.setGrp g { x with srEnterAtLatch := !s.inSr g || x.srAtLatch == 2, srExitAtLatch := false }
    else s.setGrp g { x with srExitAtLatch := s.inSr g || x.srAtLatch == 1, srEnterAtLatch := false }) s

end Sys2Proof.Machine
end

