-- ==== Sys2Proof/Machine/Pool.lean ====
section
/-!
DEFINITION. What the queues of the raster die share: the arbiter decision of R647, the nougat pool (R642, R643), the
pointer-copy mismatch of a queue (R644), and the partner queues' cells.
-/
namespace Sys2Proof.Machine

/-! ## Arbiters (R646, R647) -/

/-- Arbiter numbers: entry selection of command processor `c`, the 0xF slots of chain `c`, the record store's acceptance,
a frame-store pseudo-channel, an SRAM bank, a link lane group and direction, a lock object (R646). -/
def arbCp (c : Nat) : Nat := 16 + c
def arbNv : Nat := 32
def arbLg (k : Nat) : Nat := 64 + k
def arbPc (k : Nat) : Nat := 128 + k
def arbChain (c : Nat) : Nat := 256 + c
def arbBank (b : Nat) : Nat := 512 + b
def arbLock (n : Nat) : Nat := 1024 + n

/-- Age of a requester at an arbiter. -/
def State.age (s : State) (arb i : Nat) : Nat := smGet (fun _ => 0) s.arb.ages (4096 * arb + i)

/-- Set an age. -/
def State.setAge (s : State) (arb i v : Nat) : State :=
  { s with arb := { s.arb with ages := smSet (fun _ => 0) s.arb.ages (4096 * arb + i) v } }

/-- The requester of greatest rank among `cands`; ties go to the lower index (R647). -/
def bestRank (rank : Nat → Nat) : List Nat → Option Nat
  | [] => none
  | i :: is =>
    match bestRank rank is with
    | none => some i
    | some j => if rank j < rank i ∨ rank j = rank i ∧ i ≤ j then some i else some j

/-- One round of an arbiter over the pending requesters `cands` of the winning class; `all` are the pending requesters of
every class, whose ages rise (R647). -/
def State.arbRound (s : State) (arb : Nat) (prio : Nat → Nat) (cands all : List Nat) : Option Nat × State :=
  match bestRank (fun i => prio i + s.age arb i) cands with
  | none => (none, s)
  | some w =>
    (some w, (all.filter fun j => j != w).foldl (fun s j => s.setAge arb j (min 4095 (s.age arb j + 1))) (s.setAge arb w 0))

/-! ## Classes and standing (R646 to R656) -/

/-- Banks on the raster die. -/
def rasterBank (b : Nat) : Bool := decide (96 ≤ b ∧ b ≤ 255)

/-- Class of requester `n` of R656 as its rank above others: 3 REALTIME, 2 GUARANTEED, 1 BEST-EFFORT; the internal engines
of a bank rank with BEST-EFFORT (log entry 30). -/
def reqClass (n : Nat) : Nat := if n ≤ 3 then 3 else if n ≤ 10 then 2 else 1

/-- Is arbiter `arb` one of the link, of a pseudo-channel, of a bank? -/
def isLinkArb (arb : Nat) : Bool := decide (64 ≤ arb ∧ arb < 96)
def isPcArb (arb : Nat) : Bool := decide (128 ≤ arb ∧ arb < 192)
def isBankArb (arb : Nat) : Bool := decide (512 ≤ arb ∧ arb < 772)

/-- Is the arbiter on the raster die: the raster-to-host transmitters and the raster-die banks? -/
def rasterArb (arb : Nat) : Bool := decide (80 ≤ arb ∧ arb < 96) || (isBankArb arb && rasterBank (arb - 512))

/-- Is the refresh requester of a pseudo-channel an emergency requester: eight intervals have passed without a refresh (R196)? -/
def State.refreshDue (s : State) (arb : Nat) : Bool :=
  isPcArb arb && decide (8 ≤ smGet (fun _ => 0) s.fs.postponed (arb - 128))

/-- Standing of a pending requester in a round: the emergencies in the order of R649, then its class; 0 for a refresh that
was not postponed. `scan` when a scan emergency is pending at a pseudo-channel. -/
def State.standing (s : State) (arb : Nat) (scan : Bool) (n : Nat) : Nat :=
  if n = 14 then (if s.refreshDue arb then 12 else 0)
  else if n = 0 ∧ scan ∧ isPcArb arb then 11
  else if n = 15 then (if isLinkArb arb ∨ ¬ s.on fSEC_LC_DBG_OPEN then 1 else 10)
  else reqClass n

/-- The configuration of a requester in effect at an arbiter: PRIO + 16 × DEADLINE (R651). -/
def State.arbCfg (s : State) (arb n : Nat) : Nat :=
  if 16 ≤ n then 1024
  else if rasterArb arb then smGet (fun _ => 1024) s.arb.effR n
  else s.f (fARB_REQ_EFF_PRIO n) + 16 * s.f (fARB_REQ_EFF_DEADLINE n)

/-- A round of arbiter `arb` among the pending requesters `reqs`: the highest class pending, then the rank (R647, R648). -/
def State.classRound (s : State) (arb : Nat) (scan : Bool) (reqs : List Nat) : Option Nat × State :=
  let top := reqs.foldl (fun m n => max m (s.standing arb scan n)) 0
  s.arbRound arb (fun n => s.arbCfg arb n % 16) (reqs.filter fun n => s.standing arb scan n == top) reqs

/-! ## The nougat pool (R642, R643) -/

/-- Cells of 60 payload bytes that hold `n` payload words, at least one (R642; log entry 20). -/
def cellsOf (n : Nat) : Nat := max 1 ((4 * n + 59) / 60)

/-- Raster-die events on their way to the merge, one cell each (R642; log entry 20). -/
def State.eventCells (s : State) : Nat := (s.ev.enRoute.filter fun e => rasterOrigin e.origin).length

/-- Free cells of the pool as MEM_NOUGAT shows them (R643). -/
def State.poolFree (s : State) : Nat := s.f fMEM_NOUGAT_FREE - s.eventCells

/-- Can a request other than the event queue's take `n` cells (R643)? -/
def State.poolHas (s : State) (n : Nat) : Bool := decide (n + 1024 ≤ s.poolFree)

/-- Take or return cells. -/
def State.takeCells (s : State) (n : Nat) : State := s.setF fMEM_NOUGAT_FREE (s.f fMEM_NOUGAT_FREE - n)
def State.freeCells (s : State) (n : Nat) : State := s.setF fMEM_NOUGAT_FREE (s.f fMEM_NOUGAT_FREE + n)

/-! ## Partner and upstream queues -/

/-- Key of the queue of position `p` of chain `c`; 15 is the broadcast queue (R353, R385). -/
def qKey (c p : Nat) : Nat := 16 * c + p

/-- A partner queue. -/
def State.pq (s : State) (c p : Nat) : List Pkt := smGet (fun _ => []) s.ch.queues (qKey c p)

/-- Replace a partner queue. -/
def State.setPq (s : State) (c p : Nat) (l : List Pkt) : State :=
  { s with ch := { s.ch with queues := smSet (fun _ => []) s.ch.queues (qKey c p) l } }

/-- Lane pair `l` beyond its registers. -/
def State.ln (s : State) (l : Nat) : LaneSt := smGet (fun _ => LaneSt.init) s.ch.lanes l

/-- Replace it. -/
def State.setLn (s : State) (l : Nat) (x : LaneSt) : State :=
  { s with ch := { s.ch with lanes := smSet (fun _ => LaneSt.init) s.ch.lanes l x } }

/-- The upstream queue of a group. -/
def State.uq (s : State) (g : Nat) : Upq := smGet (fun _ => ⟨[], 0, 0⟩) s.ch.upq g

/-- Replace it. -/
def State.setUq (s : State) (g : Nat) (q : Upq) : State :=
  { s with ch := { s.ch with upq := smSet (fun _ => ⟨[], 0, 0⟩) s.ch.upq g q } }

/-- Cells that a list of packets holds. -/
def pktCells (l : List Pkt) : Nat := (l.map fun p => cellsOf p.words.length).sum

/-- Replace a partner queue by some of its packets, and return the cells of the others. -/
def State.keepPq (s : State) (c p : Nat) (l : List Pkt) : State :=
  (s.setPq c p l).freeCells (pktCells (s.pq c p) - pktCells l)

/-- Has a packet's sending begun and not ended: some segment has left in this attempt? -/
def Pkt.begun (p : Pkt) : Bool := decide (0 < p.sent)

/-- Its segments have begun to leave at some time, or it is outstanding, or waits to be resent. -/
def Pkt.started (p : Pkt) : Bool := p.begun || p.out || decide (0 < p.tries)

/-- Empty a partner queue at a packet boundary: a packet whose segments are leaving completes them and is then gone; the
others are discarded, the outstanding ones too (R385). Returns the number discarded and the state. -/
def State.flushPq (s : State) (c p : Nat) : Nat × State :=
  let l := s.pq c p
  let keep := (l.filter fun k => k.begun && !k.out).map fun k => { k with flushed := true }
  (l.length - keep.length, s.keepPq c p keep)

/-- A queue's pointer copies differ: it has been reset; the reset is counted and reported (R644, R659). `kind` 0 partner,
1 broadcast, 2 upstream, 3 event, 4 crossing FIFO; `pos` its position; `origin` the chain's, the group's or FLT's. -/
def State.queueReset (s : State) (kind pos origin discarded : Nat) : State :=
  let s := s.count fMEM_NOUGAT_QRESETS 1
  let s := s.raise 0x1C2 origin 0 [(8, kind), (8, pos), (16, 0), (32, discarded)]
  s.fault 0x0D origin (kind + 256 * pos) discarded

end Sys2Proof.Machine
end

