-- ==== Sys2Proof/Machine/NvStore.lean ====
section
/-!
DEFINITION. The record store as its writers see it (13): entries and the write cache (R597, R600 to R602), the mirror
(R595, R599), counters (R609), the log (R611), the board table check (R612), and what a power-fail trip does (R605).
-/
namespace Sys2Proof.Machine

/-- Stored size of an entry with `n` data bytes (R600). -/
def entrySize (n : Nat) : Nat := (20 + n + 15) / 16 * 16

/-- Data bytes of an entry. -/
def NvEntry.size (e : NvEntry) : Nat := entrySize e.data.length

/-- Bytes of the write cache in use and free (R601). -/
def State.nvUsed (s : State) : Nat := (s.nv.cache.map NvEntry.size).sum
def State.nvSpace (s : State) : Nat := 65536 - s.nvUsed

/-- Bring CFREE up to date (R616). -/
def State.nvCfree (s : State) : State := s.setF fNVS_STATUS_CFREE (s.nvSpace / 256)

/-- A byte of the mirror; unlisted bytes are zero (R595, R635; log entry 22). -/
def State.nvByte (s : State) (a : Nat) : Byte := smGet (fun _ => 0#8) s.nv.mirror a

/-- Bytes of the mirror, whatever page (the AT9840's own readers). -/
def State.nvBytes (s : State) (a n : Nat) : List Byte := (List.range n).map fun i => s.nvByte (a + i)

/-- Bytes as a requester reads them: pages 0 to 35 read zero (R599). -/
def State.nvRead (s : State) (a n : Nat) : List Byte :=
  (List.range n).map fun i => if a + i < 36 * 256 then 0#8 else s.nvByte (a + i)

/-- Does a record cover pages 0 to 63, or 0 to 35 (R599)? -/
def coversProtected (a : Nat) : Bool := decide (a < 64 * 256)
def coversClosed (a : Nat) : Bool := decide (a < 36 * 256)

/-- Is the record well placed (R596)? -/
def recordOk (a n : Nat) : Bool := decide (n % 4 = 0 ∧ 4 ≤ n ∧ n ≤ 4096 ∧ a % 4 = 0 ∧ a + n ≤ 0x100000)

/-- Is the board table in the mirror valid (R612)? -/
def State.btOk (s : State) : Bool :=
  decide (leNat (s.nvBytes 0x8000 2) = 1 ∧ leNat (s.nvBytes 0x8002 2) = 2260 ∧
    leNat (s.nvBytes 0x88D0 4) = crc32c (s.nvBytes 0x8000 2256))

/-- BUSY and CAUSE of the store; NV_BUSY at a change of BUSY (R602). -/
def State.nvSetBusy (s : State) (cause : Nat) : State :=
  let was := s.f fNVS_STATUS_BUSY
  let now := if cause = 0 then 0 else 1
  let s := (s.setF fNVS_STATUS_BUSY now).setF fNVS_STATUS_CAUSE cause
  if was = now then s else s.raise 0x1B2 0xE00 0 [(8, now), (8, cause)]

/-- A record that is never accepted: a journal entry or a calibration set over pages 0 to 63 (R599). -/
def NvWait.never (w : NvWait) : Bool := (w.writer == 4 || w.writer == 5) && coversProtected w.addr

/-- The record accepted next: the oldest that may ever be. -/
def State.nvHead (s : State) : Option NvWait := s.nv.waiting.find? fun w => !w.never

/-- It does not fit the cache (R602 CAUSE 1). -/
def State.nvFull (s : State) : Bool :=
  match s.nvHead with
  | none => false
  | some w => decide (s.nvSpace < entrySize w.data.length)

/-- Note on waiting record jobs that they meet the fall-back path (R602). -/
def State.nvFellBack (s : State) : State :=
  if ¬ s.on fNVS_STATUS_BUSY then s
  else { s with nv := { s.nv with waiting := s.nv.waiting.map fun w =>
    if w.writer = 0 then { w with tag := 2 * (w.tag / 2) + 1 } else w } }

/-- Judge the cases of R602 again. A trip's closing stays until the next start-up. -/
def State.nvBusyUpd (s : State) : State :=
  (if s.f fNVS_STATUS_CAUSE = 3 then s
  else if s.nv.forced then s.nvSetBusy 2
  else if s.nvFull then s.nvSetBusy 1
  else s.nvSetBusy 0).nvFellBack

/-- An entry enters the write cache and takes the next SEQ (R597). -/
def State.nvAdd (s : State) (kind arg : Nat) (data : List Byte) : State :=
  let seq := (s.f fNVS_SEQ_ACC_SEQ + 1) % 2 ^ 32
  let s := { s with nv := { s.nv with cache := s.nv.cache ++ [NvEntry.mk kind seq arg data] } }
  (s.setF fNVS_SEQ_ACC_SEQ seq).nvCfree

/-- A record is accepted: the mirror takes its bytes (R597); the board table is judged again (R612). -/
def State.nvAccept (s : State) (a : Nat) (data : List Byte) : State :=
  let s := { s with nv := { s.nv with mirror := putBytes (fun _ => 0#8) s.nv.mirror a data } }
  let s := s.nvAdd 1 a data
  if a < 0x88D4 ∧ 0x8000 < a + data.length then s.setOn fNVS_STATUS_BT_VALID s.btOk else s

/-- A counter's value as accepted (R609). -/
def State.nvCnt (s : State) (n : Nat) : Nat := smGet (fun _ => 0) s.nv.cnt n

/-- An increment is accepted (R609). -/
def State.nvIncr (s : State) (n : Nat) : State :=
  let s := { s with nv := { s.nv with cnt := smSet (fun _ => 0) s.nv.cnt n (s.nvCnt n + 1) } }
  s.nvAdd 2 n []

/-- A log entry is accepted (R611). -/
def State.nvLogAdd (s : State) (e : Ev) : State :=
  let i := s.nv.logNext
  let s := s.nvAdd 3 i (evBytes e)
  let s := { s with nv := { s.nv with log := s.nv.log ++ [(i, s.f fNVS_SEQ_ACC_SEQ, e)], logNext := i + 1 } }
  s.setF fNVS_LOG_NEWEST_INDEX (i % 2 ^ 32)

/-- Is an event kept in the log (R611)? PF_TRIP's own entry is made at the trip (R605). -/
def State.logged (s : State) (e : Ev) : Bool :=
  (e.origin == 0xE00 && e.code != 0x172) ||
    (List.range 16).any fun i => s.on (fNVS_LOG_CODE_EN i) && s.f (fNVS_LOG_CODE_CODE i) == e.code

/-- An event the merge releases goes to the log, or is dropped from it (R602, R611). -/
def State.nvLog (s : State) (e : Ev) : State :=
  if ¬ s.logged e ∨ ¬ s.on fNVS_STATUS_READY then s
  else if s.on fNVS_STATUS_BUSY ∨ s.nvSpace < entrySize 32 then s.count fNVS_STATUS_LOGDROP 1
  else s.nvLogAdd e

/-- A record is submitted: it waits at the cache until RECORD_ACCEPT takes it (R597, R602). -/
def State.nvSubmit (s : State) (w : NvWait) : State :=
  ({ s with nv := { s.nv with waiting := s.nv.waiting ++ [w] } }).nvBusyUpd

/-- What a power-fail trip does at once (R605): counter 254, the log entry of PF_TRIP, acceptance closed. -/
def State.nvTrip (s : State) (e : Ev) : State :=
  if ¬ s.on fNVS_STATUS_READY then s else ((s.nvIncr 254).nvLogAdd e).nvSetBusy 3

/-- From t + 320 the dump of every entry not durable is due, and transfers stop (R605). -/
def State.nvDumpStart (s : State) : State :=
  if ¬ s.on fNVS_STATUS_READY then s
  else { s.setF fNVS_XFER_CTRL_BUSY 0 with nv := { s.nv with
      dumpPhase := 1
      dump := []
      dumpA := false
      dumpB := false
      xfer := none } }

end Sys2Proof.Machine
end

