-- ==== Sys2Proof/Machine/Sec.lean ====
section
/-!
DEFINITION. Security (12): the praline bank, records of the protected pages, key loads (R572 to R576), the life cycle
(R577, R578), debug and tamper (R579, R580), measurements and SPDM (R560 to R563). Cryptography is uninterpreted (Config).
-/
namespace Sys2Proof.Machine

/-- Draw `n` free bytes. -/
def State.drawBytes (s : State) (n : Nat) : List Byte × State :=
  let (v, s) := s.draw (8 * n)
  (leBytes n v, s)

/-! ## Protected pages (R598) -/

/-- The key that wraps records of the protected pages (R558). -/
def wrapKey : List Byte := Config.hkdf Config.fusedSecret []

/-- A wrapped key: IV 12 bytes, ciphertext 48, tag 16 (R598). The IV is a free value. -/
def State.wrap (s : State) (key : List Byte) : List Byte × State :=
  let (iv, s) := s.drawBytes 12
  (iv ++ (Config.gcmSeal wrapKey iv [] key).take 64, s)

/-- Unwrap at a logical address. -/
def State.unwrapAt (s : State) (a : Nat) : Option (List Byte) :=
  Config.gcmOpen wrapKey (s.nvBytes a 12) [] (s.nvBytes (a + 12) 48) (s.nvBytes (a + 60) 16)

def slotAddr (n : Nat) : Nat := 0x200 + 128 * n
def ctrAddr (n : Nat) : Nat := 0x2200 + 8 * n

/-! ## Issuer slots (R572, R590) -/

/-- The key of a slot, empty for none. -/
def State.slotKey (s : State) (n : Nat) : List Byte := smGet (fun _ => []) s.sec.keys n

/-- Fill or empty a slot of the praline bank. -/
def State.setSlot (s : State) (n : Nat) (key : List Byte) (perm gen : Nat) : State :=
  let s := { s with sec := { s.sec with keys := smSet (fun _ => []) s.sec.keys n key } }
  ((s.setOn (fSEC_SLOT_CFG_VALID n) (key != [])).setF (fSEC_SLOT_CFG_PERM n) perm).setF (fSEC_SLOT_CFG_GEN n) gen

/-- LASTCTR of a slot. -/
def State.lastCtr (s : State) (n : Nat) : Nat :=
  s.f (fSEC_SLOT_CTR_LO_CTR_LO n) + 2 ^ 32 * s.f (fSEC_SLOT_CTR_HI_CTR_HI n)
def State.setLastCtr (s : State) (n v : Nat) : State :=
  (s.setF (fSEC_SLOT_CTR_LO_CTR_LO n) (v % 2 ^ 32)).setF (fSEC_SLOT_CTR_HI_CTR_HI n) (v / 2 ^ 32)

/-- Reload a slot from its record (R578, R590). -/
def State.reloadSlot (s : State) (n : Nat) : State :=
  let a := slotAddr n
  if s.nvByte a = 0#8 then s.setSlot n [] 0 0
  else
    match s.unwrapAt (a + 4) with
    | none => s.setSlot n [] 0 0
    | some k => s.setSlot n k (s.nvByte (a + 1)).toNat (leNat (s.nvBytes (a + 2) 2))

/-- Unwrap the identity key into the praline bank (R558). -/
def State.reloadId (s : State) : State :=
  { s with sec := { s.sec with idOn := s.sec.idPub != [] && (s.unwrapAt 0).isSome } }

/-- The praline bank is wiped and every session ends (R578 to R580). -/
def State.wipe (s : State) : State :=
  let s := { s with sec := { s.sec with keys := [], idOn := false, sessions := [] } }
  (List.range 64).foldl (fun s n => s.setSlot n [] 0 0) s

/-- Submit a record of life-cycle changes and erased slots (writer 3). -/
def State.secRecord (s : State) (a : Nat) (bs : List Byte) : State := s.nvSubmit ⟨3, 0, a, bs⟩

/-- Invalidate the key record of a slot. -/
def State.eraseSlotRec (s : State) (n : Nat) : State := s.secRecord (slotAddr n) (List.replicate 80 0#8)

/-- A counter whose record was not accepted is not consumed (R310, R571): its record is withdrawn and LASTCTR of the slot is
what the store, and records still waiting, hold. -/
def State.dropCtr (s : State) (q slot : Nat) : State :=
  let s := { s with nv := { s.nv with waiting := s.nv.waiting.filter fun w => !(w.writer == 1 && w.tag == q) } }
  let v := s.nv.waiting.foldl (fun m w => if w.writer = 1 ∧ w.addr = ctrAddr slot then max m (leNat w.data) else m)
    (leNat (s.nvBytes (ctrAddr slot) 8))
  s.setLastCtr slot v

/-! ## Measurements (R562) -/

/-- The bytes a measurement block holds: a digest, or a raw bit stream (R562). -/
def measBlock : Meas → List Byte
  | .empty => List.replicate 48 0#8
  | .raw bs => bs
  | .image len fill cells => Config.sha384 ((List.range len).map fun i => smGet (fun _ => BitVec.ofNat 8 fill) cells i)
  | .cores os imem dmem =>
    Config.sha384 (os.flatMap fun o =>
      let iw := if 0x400 ≤ o then 16384 else 32768
      let dw := if 0x400 ≤ o then 0 else 16384
      ((List.range iw).flatMap fun w => leBytes 4 (smGet (fun _ => 0) imem (65536 * o + w))) ++
        (List.range dw).flatMap fun w => leBytes 4 (smGet (fun _ => 0) dmem (65536 * o + w)))

/-- Measurement 48: STATE, DBG_OPEN, TAMPERED, OWNER_REQ, one a byte. -/
def State.measLc (s : State) : State :=
  s.measure 48 (.raw ([s.f fSEC_LC_STATE, s.f fSEC_LC_DBG_OPEN, s.f fSEC_LC_TAMPERED, s.f fSEC_LC_OWNER_REQ].map
    fun v => BitVec.ofNat 8 v))

/-- Is the identity key withheld (R563)? -/
def State.idWithheld (s : State) : Bool := s.on fSEC_LC_DBG_OPEN || s.on fSEC_LC_TAMPERED

/-! ## Signatures (R565) -/

/-- Does a signature verify under a vendor key that is not revoked? -/
def State.vendorSig (s : State) (k : Nat) (d sig : List Byte) : Bool :=
  decide (k < 4) && bit s.sec.revoked k == 0 && Config.ecdsaOk (Config.vendorKey k) d sig

/-- Is an image accepted, with digest `d` and its 256-byte signature block (R564, R565)? Whether an owner signature was
verified is the second component. -/
def State.imageOk (s : State) (d blk : List Byte) : Bool × Bool :=
  let nsig := leNat ((blk.drop 2).take 1)
  let ownSig := Config.ecdsaOk s.sec.owner d ((blk.drop 160).take 96)
  let own := nsig == 2 && ownSig
  let ok := leNat (blk.take 2) == 1 && (nsig == 1 || nsig == 2) &&
    s.vendorSig (leNat ((blk.drop 3).take 1)) d ((blk.drop 64).take 96) &&
    (nsig == 1 || ownSig) && (!s.on fSEC_LC_OWNER_REQ || nsig == 2)
  (ok, own)

/-! ## Key loading (R573 to R576) -/

/-- May keys of a slot be loaded in this life-cycle state (R573)? -/
def State.slotOpen (s : State) (n : Nat) : Bool :=
  match s.f fSEC_LC_STATE with
  | 4 => false
  | 2 => decide (1 ≤ n ∧ n < 64)
  | _ => decide (n < 64)

/-- Does the blob's signature verify under the authority of R573? -/
def State.blobSig (s : State) (blob : List Byte) : Bool :=
  let d := Config.sha384 (blob.take 192)
  let sig := (blob.drop 192).take 96
  match s.f fSEC_LC_STATE with
  | 2 => Config.ecdsaOk s.sec.owner d sig
  | 4 => false
  | _ => (List.range 4).any fun k => s.vendorSig k d sig

/-- A key load ends (R576, R582). -/
def State.keyDone (s : State) (slot result via gen : Nat) : State :=
  let s := if via = 0 then (s.setF fSEC_KL_CTRL_BUSY 0).setF fSEC_KL_CTRL_RESULT result else s
  s.raise 0x1A3 0xE00 0 [(8, slot), (8, result), (8, via), (8, 0), (16, gen)]

/-- A load passed its checks: its record is submitted, and it takes effect when that is accepted (R576). -/
def State.keySubmit (s : State) (l : KeyLoad) : State :=
  let s := { s with sec := { s.sec with load := some l } }
  let s := if l.via = 0 then s.setF fSEC_KL_CTRL_BUSY 1 else s
  if l.op = 2 then s.nvSubmit ⟨2, 0, slotAddr l.slot, List.replicate 80 0#8⟩
  else
    let (w, s) := s.wrap l.key
    s.nvSubmit ⟨2, 0, slotAddr l.slot, leBytes 1 1 ++ leBytes 1 l.perm ++ leBytes 2 l.gen ++ w⟩

/-- The record of a load is accepted (R576): the slot takes the key and LASTCTR = CTR0, whose record follows. -/
def State.keyAccepted (s : State) : State :=
  match s.sec.load with
  | none => s
  | some l =>
    let s := { s with sec := { s.sec with load := none } }
    let s := if l.op = 2 then s.setSlot l.slot [] 0 0
      else ((s.setSlot l.slot l.key l.perm l.gen).setLastCtr l.slot l.ctr).secRecord (ctrAddr l.slot) (leBytes 8 l.ctr)
    s.keyDone l.slot 0 l.via l.gen

/-- Judge a key-load blob (R575, R576); `via` 0 blob in the frame store, 1 SPDM, where no signature is checked and the key is in
clear (R574). Checks come in the order signature, decryption, GEN, slot; a blob whose VER or OP is neither of R575's is not
loaded and reports a free RESULT. -/
def State.keyLoad (s : State) (blob : List Byte) (via : Nat) : State :=
  let at_ := fun (o n : Nat) => leNat ((blob.drop o).take n)
  let slot := at_ 2 1
  let gen := at_ 4 2
  let op := at_ 6 1
  if at_ 0 2 ≠ 1 ∨ at_ 7 1 ≠ 0 ∨ (op ≠ 1 ∧ op ≠ 2) then
    let (r, s) := s.draw 4
    s.keyDone slot r via gen
  else if via = 0 ∧ ¬ s.blobSig blob then s.keyDone slot 1 via gen
  else
    let x := Config.ecdhX ((blob.drop 16).take 97)
    let kek := Config.hkdf x (leBytes 8 s.sec.devid)
    let key := if via = 1 ∨ op = 2 then some ((blob.drop 128).take 48)
      else if s.idWithheld ∨ ¬ s.sec.idOn then none
      else Config.gcmOpen kek ((blob.drop 116).take 12) (blob.take 16) ((blob.drop 128).take 48) ((blob.drop 176).take 16)
    match key with
    | none => s.keyDone slot 2 via gen
    | some k =>
      if gen ≤ s.f (fSEC_SLOT_CFG_GEN slot) then s.keyDone slot 3 via gen
      else if ¬ s.slotOpen slot then s.keyDone slot 4 via gen
      else s.keySubmit ⟨slot, op, k, at_ 3 1, gen, at_ 8 8, via⟩

/-- The blob of a key load is read and judged; the load waits where the read must (R532). -/
def State.keyRead (s : State) (a : Nat) : State :=
  match s.devRead a 288 with
  | (none, s) => { s with sec := { s.sec with goWait := some (1, a, 0, 0) } }
  | (some blob, s) => { s with sec := { s.sec with goWait := none } }.keyLoad blob 0

/-- A GO to SEC_KL_CTRL (R575). -/
def State.keyGo (s : State) : State :=
  let a := 256 * s.f fSEC_BLOB_SRC_GRAN
  if s.sec.load.isSome ∨ s.sec.goWait.isSome then (s.setF fSEC_KL_CTRL_RESULT 6).raise 0x1A3 0xE00 0 [(8, 0), (8, 6)]
  else if fsEnd < a + 288 ∨ s.poisonedIn a 288 then s.keyDone 0 5 0 0
  else s.keyRead a

/-! ## Life cycle (R577, R578) -/

/-- LC_CHANGE with its RESULT (R578, R582). -/
def State.lcDone (s : State) (old result : Nat) : State :=
  (s.setF fSEC_LC_REQ_RESULT result).raise 0x1A1 0xE00 0 [(8, s.f fSEC_LC_STATE), (8, old), (8, result)]

/-- Is a transition one of R577? -/
def lcEdge (old new : Nat) : Bool :=
  (old == 0 && new == 1) || (old == 1 && new == 2) || (old == 2 && new == 3) || (old == 3 && new == 1) ||
    (old != 4 && new == 4)

/-- The fuses as SEC_LC and SEC_DEVID show them (R583, R589). -/
def State.fuseRegs (s : State) : State :=
  let s := (s.setF fSEC_LC_STATE s.sec.fuseState).setF fSEC_LC_OWNER_REQ s.sec.fuseOwner
  ((s.setF fSEC_LC_REDEPLOY s.sec.fuseRedeploy).setF fSEC_DEVID_LO_DEVID (s.sec.devid % 2 ^ 32)).setF
    fSEC_DEVID_HI_DEVID (s.sec.devid / 2 ^ 32)

/-- The effects of a transition (R577), after the fuse and the wipe; slots the new state keeps are reloaded (R578 step 4). -/
def State.lcEffects (s : State) (old new : Nat) (root : List Byte) : State :=
  let reload := fun (s : State) (ns : List Nat) => (ns.foldl (fun s n => s.reloadSlot n) s)
  let erase := fun (s : State) (ns : List Nat) => ns.foldl (fun s n => s.eraseSlotRec n) s
  let on := fun (s : State) => { s with sec := { s.sec with idOn := s.sec.idPub != [] } }
  let all := List.range 64
  match new with
  | 1 =>
    if old = 0 then
      let (pub, s) := s.drawBytes 96
      let (prv, s) := s.drawBytes 48
      let (w, s) := s.wrap prv
      let s := { s with sec := { s.sec with idPub := pub } }.secRecord 0 w
      (on (reload s all)).setF fSEC_LC_DBG_OPEN 0
    else on (reload s all)
  | 2 =>
    let s := { s with sec := { s.sec with owner := root } }.secRecord 0x100 (root ++ List.replicate 3 0#8)
    let s := s.eraseSlotRec 0
    (on (reload s (all.drop 1))).setF fSEC_LC_DBG_OPEN 0
  | 3 =>
    let s := { s with sec := { s.sec with owner := [] } }.secRecord 0x100 (List.replicate 100 0#8)
    on (reload (erase s (all.drop 1)) [0])
  | _ =>
    let s := { s with sec := { s.sec with idPub := [] } }.secRecord 0 (List.replicate 76 0#8)
    (erase s all).setF fSEC_LC_DBG_OPEN 1

/-- A transition of R577 with its owner root, if it takes one (R578). -/
def State.lcMake (s : State) (new owner : Nat) (root : List Byte) : State :=
  let old := s.f fSEC_LC_STATE
  if new = 2 ∧ ¬ (root.take 1 = [4#8] ∧ Config.pointOk root) then s.lcDone old 3
  else
    let ow := if new = 2 then owner else if new = 3 then 0 else s.sec.fuseOwner
    let rd := if old = 3 ∧ new = 1 then s.sec.fuseRedeploy + 1 else s.sec.fuseRedeploy
    let s := { s with sec := { s.sec with fuseState := new, fuseOwner := ow, fuseRedeploy := rd } }.fuseRegs.wipe
    ((s.lcEffects old new root).measLc).lcDone old 0

/-- The owner root of a change to state 2 is read; the change waits where the read must (R532). -/
def State.lcRead (s : State) (a new owner : Nat) : State :=
  match s.devRead a 97 with
  | (none, s) => { s with sec := { s.sec with goWait := some (2, a, new, owner) } }
  | (some root, s) => { s with sec := { s.sec with goWait := none } }.lcMake new owner root

/-- A GO to SEC_LC_REQ, authorised (R577, R578). -/
def State.lcGo (s : State) : State :=
  let old := s.f fSEC_LC_STATE
  let new := s.f fSEC_LC_REQ_TARGET
  let a := 256 * s.f fSEC_BLOB_SRC_GRAN
  if s.sec.load.isSome ∨ s.sec.goWait.isSome ∨ s.nv.waiting.any (fun w => w.writer == 3) then s.lcDone old 4
  else if ¬ lcEdge old new then s.lcDone old 1
  else if old = 3 ∧ new = 1 ∧ s.sec.fuseRedeploy = 3 then s.lcDone old 2
  else if new = 2 ∧ (fsEnd < a + 97 ∨ s.poisonedIn a 97) then s.lcDone old 3
  else if new = 2 then s.lcRead a new (s.f fSEC_LC_REQ_OWNER_REQ)
  else s.lcMake new 0 []

/-- A GO whose read waited is taken up again. -/
def State.secResume (s : State) : State :=
  match s.sec.goWait with
  | some (1, a, _, _) => s.keyRead a
  | some (_, a, new, owner) => s.lcRead a new owner
  | none => s

/-! ## Debug and tamper (R579, R580) -/

/-- UNLOCK = 1 to SEC_DBG, authorised (R579). -/
def State.dbgUnlock (s : State) : State :=
  ((s.wipe.setF fSEC_LC_DBG_OPEN 1).raise 0x1A4 0xE00 0 [(8, s.f fSEC_LC_STATE)]).measLc

/-- TAMPER (R580): TAMPER_N has tripped. -/
def execTamper (s : State) : Host.Outcome State Fault Refusal :=
  if ¬ s.on fSEC_TAMPER_TAMPER_EN then .next s
  else
    let s := ((s.wipe.setF fSEC_LC_TAMPERED 1).count fSEC_TAMPER_COUNT 1)
    let s := if s.on fSEC_TAMPER_ERASE then (List.range 64).foldl (fun s n => s.eraseSlotRec n) s else s
    .next ((s.raise 0x1A2 0xE00 0 [(8, s.f fSEC_TAMPER_ERASE), (8, 0), (16, s.f fSEC_TAMPER_COUNT)]).measLc)

/-! ## SPDM (R560 to R563). A reply's kind is the request's row; kind 255 is ERROR. -/

/-- ERROR with code Unspecified (R563). -/
def State.spdmError (s : State) : State := s.out (.reply 255 [])

/-- The certificate chain of slot 0 (R560, R598); none while unpopulated. -/
def State.certChain (s : State) : Option (List Byte) :=
  let n := leNat (s.nvBytes 0x2400 4)
  if n = 0 ∨ 7164 < n then none else some (s.nvBytes 0x2404 n)

/-- GET_VERSION (R561): SPDM 1.2 and 1.3. -/
def execGetVersion (s : State) : Host.Outcome State Fault Refusal := .next (s.out (.reply 1 [0x12#8, 0x13#8]))

/-- GET_CAPABILITIES (R561): the capabilities of the table, numbered in its order from 1. -/
def execGetCapabilities (s : State) : Host.Outcome State Fault Refusal :=
  .next (s.out (.reply 2 [1#8, 2#8, 3#8, 4#8, 5#8, 6#8, 7#8, 8#8]))

/-- NEGOTIATE_ALGORITHMS (R561): `offered` numbers the five items of the table, from 1, that the requester offers; the
AT9840 negotiates them and no others. -/
def execNegotiateAlgorithms (offered : List Nat) (s : State) : Host.Outcome State Fault Refusal :=
  if [1, 2, 3, 4, 5].all fun i => offered.contains i then .next (s.out (.reply 3 [1#8, 2#8, 3#8, 4#8, 5#8]))
  else .next s.spdmError

/-- GET_DIGESTS (R560, R563): the digest of the chain of slot 0; nothing while it is unpopulated. -/
def execGetDigests (s : State) : Host.Outcome State Fault Refusal :=
  match s.certChain with
  | none => .next (s.out (.reply 4 []))
  | some c => .next (s.out (.reply 4 (Config.sha384 c)))

/-- GET_CERTIFICATE (R560): `n` bytes of the chain from offset `ofs`. -/
def execGetCertificate (slot ofs n : Nat) (s : State) : Host.Outcome State Fault Refusal :=
  match s.certChain with
  | none => .next s.spdmError
  | some c => if slot = 0 then .next (s.out (.reply 5 ((c.drop ofs).take n))) else .next s.spdmError

/-- CHALLENGE (R563): a signature over the requester's nonce and the digest of the chain. -/
def execChallenge (nonce : List Byte) (s : State) : Host.Outcome State Fault Refusal :=
  if s.idWithheld ∨ ¬ s.sec.idOn then .next s.spdmError
  else
    let d := (s.certChain.map Config.sha384).getD []
    .next (s.out (.reply 6 (d ++ Config.ecdsaSign s.sec.idPub (nonce ++ d))))

/-- The measurement indices of R562. -/
def measIndices : List Nat := [1, 2, 3, 4, 5] ++ ((List.range 32).map fun i => 16 + i) ++ [48]

/-- GET_MEASUREMENTS (R562): the blocks, each after its index, signed when a signature is asked. -/
def execGetMeasurements (sign : Bool) (nonce : List Byte) (s : State) : Host.Outcome State Fault Refusal :=
  let blocks := measIndices.flatMap fun i =>
    BitVec.ofNat 8 i :: measBlock (if i = 1 then .image Config.bootRom.length 0
      ((List.range Config.bootRom.length).map fun k => (k, Config.bootRom.getD k 0#8))
      else smGet (fun _ => Meas.empty) s.sec.meas i)
  if ¬ sign then .next (s.out (.reply 7 blocks))
  else if s.idWithheld ∨ ¬ s.sec.idOn then .next s.spdmError
  else .next (s.out (.reply 7 (blocks ++ Config.ecdsaSign s.sec.idPub (nonce ++ blocks))))

/-- KEY_EXCHANGE (R561, R563): a session, of at most four; `authority` 1 or 2 when the requester authenticated itself and its
chain ends at a vendor key or the owner root. -/
def execKeyExchange (transport authority : Nat) (s : State) : Host.Outcome State Fault Refusal :=
  if s.idWithheld ∨ ¬ s.sec.idOn ∨ 4 ≤ s.sec.sessions.length then .next s.spdmError
  else
    let n := s.sec.nextSession
    .next ({ s with sec := { s.sec with
      sessions := s.sec.sessions ++ [(n, transport, authority)], nextSession := n + 1 } }.out (.reply 8 (leBytes 4 n)))

/-- HEARTBEAT (R561): keeps a session alive. -/
def execHeartbeat (session : Nat) (s : State) : Host.Outcome State Fault Refusal :=
  if s.sec.sessions.any fun x => x.1 == session then .next (s.out (.reply 9 (leBytes 4 session))) else .next s.spdmError

/-- VENDOR_DEFINED_REQUEST (R574): a key-load blob over a session whose requester R573 admits. -/
def execVendorDefinedRequest (session : Nat) (blob : List Byte) (s : State) : Host.Outcome State Fault Refusal :=
  let need := if s.f fSEC_LC_STATE = 2 then 2 else 1
  match s.sec.sessions.find? fun x => x.1 == session with
  | none => .next s.spdmError
  | some (_, _, a) =>
    if a ≠ need ∨ s.f fSEC_LC_STATE = 4 ∨ blob.length ≠ 288 then .next s.spdmError
    else if s.sec.load.isSome ∨ s.sec.goWait.isSome then .next (s.raise 0x1A3 0xE00 0 [(8, leNat ((blob.drop 2).take 1)), (8, 6), (8, 1)])
    else .next ((s.keyLoad blob 1).out (.reply 10 []))

end Sys2Proof.Machine
end

