-- ==== Sys2Proof/Machine/Cores.lean ====
section
/-!
DEFINITION. The Thoene cores as a whole (06) and the owners they act for (07): state, memories, sources, transactions,
locks, owner failure, the end of a queue entry, faults, start, stop and the power-fail vector. What one instruction does
is in the Thoene files.
-/
namespace Sys2Proof.Machine

/-! ## Names of a core and its registers (R249, R291, R304) -/

/-- Is an origin ID a T-R core's (SQ00 to SQ63, SQA), or a T-C core's (CP0 to CP7)? -/
def isTR (o : Nat) : Bool := decide (0x400 ≤ o ∧ o ≤ 0x440)
def isTC (o : Nat) : Bool := decide (0x300 ≤ o ∧ o ≤ 0x307)

/-- Origin IDs of the T-R cores. -/
def trCores : List Nat := (List.range 65).map fun s => 0x400 + s

/-- Every Thoene core (R249), in order of SELF. -/
def allCores : List Nat := (List.range 8).map (fun c => 0x300 + c) ++ trCores

def fcState (o : Nat) : Fld := if isTR o then fSQR_STATUS_STATE (o - 0x400) else fCPR_STATUS_STATE (o - 0x300)
def fcPfv (o : Nat) : Fld := if isTR o then fSQR_STATUS_PFV (o - 0x400) else fCPR_STATUS_PFV (o - 0x300)
def fcCause (o : Nat) : Fld := if isTR o then fSQR_STATUS_CAUSE (o - 0x400) else fCPR_STATUS_CAUSE (o - 0x300)
def fcStartW (o : Nat) : Fld := if isTR o then fSQR_CTRL_START_W (o - 0x400) else fCPR_CTRL_START_W (o - 0x300)
def fcRestart (o : Nat) : Fld := if isTR o then fSQR_CFG_RESTART (o - 0x400) else fCPR_CFG_RESTART (o - 0x300)
def fcFaultW (o : Nat) : Fld := if isTR o then fSQR_VEC_FAULT_W (o - 0x400) else fCPR_VEC_FAULT_W (o - 0x300)
def fcLimit (o : Nat) : Fld := if isTR o then fSQR_WDOG_LIMIT (o - 0x400) else fCPR_WDOG_LIMIT (o - 0x300)
def fcFValid (o : Nat) : Fld := if isTR o then fSQR_FAULT_VALID (o - 0x400) else fCPR_FAULT_VALID (o - 0x300)
def fcFCause (o : Nat) : Fld := if isTR o then fSQR_FAULT_CAUSE (o - 0x400) else fCPR_FAULT_CAUSE (o - 0x300)
def fcFPc (o : Nat) : Fld := if isTR o then fSQR_FAULT_PC_W (o - 0x400) else fCPR_FAULT_PC_W (o - 0x300)
def fcFInsn (o : Nat) : Fld := if isTR o then fSQR_FAULT_INSN_INSN (o - 0x400) else fCPR_FAULT_INSN_INSN (o - 0x300)
def fcPend (o : Nat) : Fld := if isTR o then fSQR_PEND_PEND (o - 0x400) else fCPR_PEND_PEND (o - 0x300)
def fcMbox (o : Nat) : Fld := if isTR o then fSQR_MBOX_DATA (o - 0x400) else fCPR_MBOX_DATA (o - 0x300)

/-- A core beyond its registers. -/
def State.core (s : State) (o : Nat) : Core := smGet (fun _ => Core.init) s.th.cores o

/-- Replace it. -/
def State.setCore (s : State) (o : Nat) (c : Core) : State :=
  { s with th := { s.th with cores := smSet (fun _ => Core.init) s.th.cores o c } }

/-- Group of a T-R core (R251). -/
def State.coreGroup (s : State) (o : Nat) : Nat := s.f (fSQR_CFG_GROUP (o - 0x400))

/-- STATE of a core (R287): 0 STOPPED, 1 RUNNING, 2 WAITING, 3 HALTED, 4 FAULTED. -/
def State.coreSt (s : State) (o : Nat) : Nat := s.f (fcState o)

/-- A core that counts as stopped (R288). -/
def State.coreStopped (s : State) (o : Nat) : Bool := s.coreSt o == 0 || s.coreSt o == 3 || s.coreSt o == 4

/-- LOCUS of a core's events (R290). -/
def State.coreLocus (s : State) (o : Nat) : Nat := if isTR o then locusGroup (s.coreGroup o) else 0

/-- Words of instruction memory and of data memory (R249). -/
def imemWords (o : Nat) : Nat := if isTR o then 16384 else 32768
def dmemWords (o : Nat) : Nat := if isTR o then 4096 else 16384

def memKey (o w : Nat) : Nat := 65536 * o + w
def State.imem (s : State) (o w : Nat) : Nat := smGet (fun _ => 0) s.th.imem (memKey o w)
def State.dmem (s : State) (o w : Nat) : Nat := smGet (fun _ => 0) s.th.dmem (memKey o w)
def State.setImem (s : State) (o w v : Nat) : State :=
  { s with th := { s.th with imem := smSet (fun _ => 0) s.th.imem (memKey o w) (v % 2 ^ 32) } }
def State.setDmem (s : State) (o w v : Nat) : State :=
  { s with th := { s.th with dmem := smSet (fun _ => 0) s.th.dmem (memKey o w) (v % 2 ^ 32) } }

/-- Entry in progress at a command processor, and its replacement. -/
def State.entry (s : State) (cp : Nat) : Option Entry := smGet (fun _ => none) s.th.entries cp
def State.setEntry (s : State) (cp : Nat) (e : Option Entry) : State :=
  { s with th := { s.th with entries := smSet (fun _ => none) s.th.entries cp e } }

/-- The entry a core is executing, if it is a command processor in one. -/
def State.inEntry (s : State) (o : Nat) : Option Entry :=
  if isTC o then (s.entry (o - 0x300)).filter fun e => e.stage == 3 else none

/-- The owner a core acts for (R278): the queue whose entry it executes, or itself. -/
def State.owner (s : State) (o : Nat) : Nat := ((s.inEntry o).map fun e => e.q).getD o

def State.setNoServe (s : State) (cp : Nat) (b : Bool) : State :=
  { s with th := { s.th with noServe := smSet (fun _ => false) s.th.noServe cp b } }
def State.stopReq (s : State) (q : Nat) : Bool := smGet (fun _ => false) s.th.stopReq q
def State.setStopReq (s : State) (q : Nat) (b : Bool) : State :=
  { s with th := { s.th with stopReq := smSet (fun _ => false) s.th.stopReq q b } }

/-- Change STATE of a core and raise SEQ_STATE (R290). -/
def State.setCoreSt (s : State) (o st : Nat) : State :=
  let old := s.coreSt o
  if old = st then s
  else (s.setF (fcState o) st).raise 0x141 o (s.coreLocus o) [(8, st), (8, old), (16, 0), (32, (s.core o).pc)]

/-! ## Sources of WAITE (R271, R272) -/

/-- Does a source belong to the core's profile? -/
def srcOk (o src : Nat) : Bool :=
  if isTR o then decide (src ≤ 10) else src == 7 || src == 10 || src == 11

/-- A source occurs for a core: it completes the wait for it unless the wait's timeout expired before this tick, gives a wait
that expired in this tick its flag, or sets its pending bit (R272). -/
def State.occur (s : State) (o src : Nat) : State :=
  let c := s.core o
  if ¬ srcOk o src then s
  else
    match c.act, c.ready with
    | .waitEvent _ k t, none => if k = src ∧ (t.all fun t => decide (s.clock o ≤ t)) then s.setCore o { c with ready := some true } else s.putBit (fcPend o) src true
    | _, _ =>
      match c.expired with
      | some (t, n, k) =>
        if t = s.clock o ∧ k = src then s.setCore o { c with flags := c.flags ||| 2 ^ n, expired := none }
        else s.putBit (fcPend o) src true
      | none => s.putBit (fcPend o) src true

/-- A source occurs for every core of a group. -/
def State.occurGroup (s : State) (g src : Nat) : State :=
  trCores.foldl (fun s o => if s.coreGroup o = g then s.occur o src else s) s

/-- A COMMIT takes effect: APPLIED occurs for the core that retired it (R271). -/
def State.occurApplied (s : State) (issuer cseq : Nat) : State :=
  if isTR issuer then s.occur issuer 10
  else (List.range 8).foldl (fun s cp =>
    match s.inEntry (0x300 + cp) with
    | some e => if e.q = issuer ∧ e.commits.contains cseq then s.occur (0x300 + cp) 10 else s
    | none => s) s

/-! ## Transactions (R319 to R326) -/

/-- Directory slot of an owner's open transaction. -/
def State.txnSlot (s : State) (owner : Nat) : Option Nat :=
  (List.range 256).find? fun t => s.f (fCPR_TXN_OWN_STATE t) != 0 && s.f (fCPR_TXN_OWN_OWNER t) == owner

/-- A write set. -/
def State.txnWs (s : State) (t : Nat) : List WsWord := smGet (fun _ => []) s.th.txns t

/-- Replace a write set; WRITES follows. -/
def State.setTxnWs (s : State) (t : Nat) (ws : List WsWord) : State :=
  { s with th := { s.th with txns := smSet (fun _ => []) s.th.txns t ws } }.setF (fCPR_TXN_CNT_WRITES t) ws.length

/-- TXN_OPEN of a queue owner (R340). -/
def State.qOpen (s : State) (owner : Nat) (b : Bool) : State :=
  if owner < 512 then s.setOn (fCXL_Q_STATUS_TXN_OPEN owner) b else s

/-- TBEGIN: true on success (R278, R319). -/
def State.txnBegin (s : State) (owner : Nat) : Bool × State :=
  match s.txnSlot owner, (List.range 256).find? fun t => s.f (fCPR_TXN_OWN_STATE t) == 0 with
  | none, some t =>
    let s := ((s.setF (fCPR_TXN_OWN_STATE t) 1).setF (fCPR_TXN_OWN_DOOM t) 0).setF (fCPR_TXN_OWN_OWNER t) owner
    (true, ((s.setTxnWs t []).count fCPR_TXN_STATUS_OPEN 1).qOpen owner true)
  | _, _ => (false, s)

/-- Close a transaction: its directory slot is free; its write set is the caller's. -/
def State.txnClose (s : State) (t : Nat) : State :=
  let owner := s.f (fCPR_TXN_OWN_OWNER t)
  let s := ((s.setF (fCPR_TXN_OWN_STATE t) 0).setF (fCPR_TXN_OWN_DOOM t) 0).setF (fCPR_TXN_OWN_OWNER t) 0
  ((s.setTxnWs t []).setF fCPR_TXN_STATUS_OPEN (s.f fCPR_TXN_STATUS_OPEN - 1)).qOpen owner false

/-- Return entries to the shadow store (R322). -/
def State.freeShadow (s : State) (n : Nat) : State := s.setF fCPR_TXN_STATUS_FREE (s.f fCPR_TXN_STATUS_FREE + n)

/-- LIMIT in effect (R344). -/
def State.txnLimit (s : State) : Nat := max 1 (min 262144 (s.f fCPR_TXN_CFG_LIMIT))

/-- Doom a transaction: 1 overflow, 2 forced break (R322, R330). -/
def State.doomTxn (s : State) (t kind : Nat) : State :=
  let s := (s.setF (fCPR_TXN_OWN_STATE t) 2).setF (fCPR_TXN_OWN_DOOM t) kind
  s.raise 0x153 (s.f (fCPR_TXN_OWN_OWNER t)) 0 [(8, 2 + kind), (24, 0), (32, (s.txnWs t).length)]

/-- Stage the S-class bits of one word in an owner's open transaction (R320 to R322). -/
def State.stage (s : State) (t addr val mask : Nat) : State :=
  let ws := s.txnWs t
  let w := fun (old oldMask : Nat) => (⟨addr, old - (old &&& mask) + (val &&& mask), oldMask ||| mask⟩ : WsWord)
  if s.f (fCPR_TXN_OWN_STATE t) ≠ 1 then s
  else if ws.any fun x => x.addr == addr then s.setTxnWs t (ws.map fun x => if x.addr = addr then w x.val x.mask else x)
  else if s.txnLimit ≤ ws.length ∨ s.f fCPR_TXN_STATUS_FREE = 0 then s.doomTxn t 1
  else (s.setTxnWs t (ws ++ [w 0 0])).setF fCPR_TXN_STATUS_FREE (s.f fCPR_TXN_STATUS_FREE - 1)

/-! ## Locks (R328 to R331) -/

def State.lk (s : State) (n : Nat) : LockSt := smGet (fun _ => ⟨none, none, 0⟩) s.th.locks n
def State.setLk (s : State) (n : Nat) (x : LockSt) : State :=
  { s with th := { s.th with locks := smSet (fun _ => ⟨none, none, 0⟩) s.th.locks n x } }

/-- Does an owner hold a lock, its sequence not ended by a failure? -/
def State.holds (s : State) (owner n : Nat) : Bool :=
  s.f (fCPR_LOCK_STATUS n) == 3 && s.f (fCPR_LOCK_OWNER n) == owner && !s.on (fCPR_LOCK_ORPHAN n)

/-- Locks an owner holds. -/
def State.heldLocks (s : State) (owner : Nat) : List Nat := (List.range 1024).filter fun n => s.holds owner n

/-- LOCK: the status it reports, whether the lock was taken (R278, R328). -/
def State.lockTake (s : State) (owner n : Nat) : Nat × Bool × State :=
  let st := s.f (fCPR_LOCK_STATUS n)
  if st = 3 then if s.holds owner n then (0, true, s) else (3, false, s)
  else
    let s := (s.setF (fCPR_LOCK_STATUS n) 3).setF (fCPR_LOCK_OWNER n) owner
    (st, true, (s.setF (fCPR_LOCK_ORPHAN n) 0).setLk n ⟨none, none, 0⟩)

/-- UNLOCK: whether this owner held it (R278, R330). -/
def State.lockFree (s : State) (owner n : Nat) : Bool × State :=
  if s.holds owner n then (true, (s.setF (fCPR_LOCK_STATUS n) 0).setLk n ⟨none, none, 0⟩) else (false, s)

/-- A lock reaches a broken status: LOCK_BROKEN, and a fault record unless the break was forced (R329, R706). -/
def State.lockBroken (s : State) (n st refused cseq : Nat) : State :=
  let owner := s.f (fCPR_LOCK_OWNER n)
  let cause := (s.lk n).cause
  let s := ((s.setF (fCPR_LOCK_STATUS n) st).setF (fCPR_LOCK_ORPHAN n) 0).setLk n ⟨none, none, 0⟩
  let s := if st = 2 then (s.setF (fCPR_LOCK_REFUSED n) refused).setF (fCPR_LOCK_CSEQ n) cseq else s
  let s := s.raise 0x152 owner 0
    [(16, n), (8, st), (8, s.f (fCPR_LOCK_REFUSED n)), (16, s.f (fCPR_LOCK_CSEQ n)), (8, cause)]
  if cause = 2 then s else s.fault 0x0F owner n (st + 65536 * s.f (fCPR_LOCK_CSEQ n))

/-- A locked sequence ends in a failure of its holder (R329 steps 2 and 3); `cause` 0 reset, 1 fault, 2 forced break. -/
def State.lockFail (s : State) (n cause : Nat) : State :=
  let l := { s.lk n with cause := cause }
  match l.point with
  | none => (s.setLk n l).lockBroken n 1 0 0
  | some cs =>
    match l.result with
    | some r => (s.setLk n l).lockBroken n 2 (b2n r) cs
    | none => (s.setLk n l).setF (fCPR_LOCK_ORPHAN n) 1

/-- An owner in reset is masked at the lock arbiters: its ages are zero (R328, R652). -/
def State.maskLocks (s : State) (owner : Nat) : State :=
  { s with arb := { s.arb with ages := s.arb.ages.filter fun e => e.1 / 4096 < arbLock 0 || e.1 % 4096 != owner } }

/-- An owner resets (how = 0) or faults (how = 1): its transaction is discarded, its locks are broken or orphaned (R329). -/
def State.ownerFail (s : State) (owner how : Nat) : State :=
  let s := if how = 0 then s.maskLocks owner else s
  let s := match s.txnSlot owner with
    | none => s
    | some t =>
      let n := (s.txnWs t).length
      ((s.txnClose t).freeShadow n).raise 0x153 owner 0 [(8, 1 + how), (24, 0), (32, n)]
  (s.heldLocks owner).foldl (fun s n => s.lockFail n how) s

/-- ABORT (R326). -/
def State.txnAbort (s : State) (owner : Nat) : State :=
  match s.txnSlot owner with
  | none => s
  | some t => (s.txnClose t).freeShadow (s.txnWs t).length

/-- A COMMIT retires: the transaction closes, the issuer's CSEQ rises, the commit point of its locked sequences is
reached; the commit is the result (R61, R278, R324, R328). `group` is the group it names. -/
def State.txnCommit (s : State) (owner group : Nat) : Option Commit × State :=
  match s.txnSlot owner with
  | none => (none, s)
  | some t =>
    let cs := (smGet (fun _ => 0) s.th.cseq owner + 1) % 4096
    let code := match s.f (fCPR_TXN_OWN_DOOM t) with
      | 1 => 11
      | 2 => 12
      | _ => 0
    let c : Commit := ⟨owner, cs, group, s.txnWs t, code, 0, false⟩
    let s := s.txnClose t
    let s := { s with th := { s.th with cseq := smSet (fun _ => 0) s.th.cseq owner cs } }
    let s := (s.heldLocks owner).foldl (fun s n =>
      let l := s.lk n
      if l.point.isNone then s.setLk n { l with point := some cs } else s) s
    (some c, s)

/-- A commit has taken effect or been refused: its shadow entries are free and its result is on its way (R322, R329). -/
def State.commitDone (s : State) (c : Commit) (refused : Bool) : State :=
  let s := s.freeShadow c.ws.length
  { s with th := { s.th with reports := s.th.reports ++ [⟨c.issuer, c.cseq, refused⟩] } }

/-- The host die takes a commit's result (R329 step 3). -/
def State.takeReport (s : State) (r : Report) : State :=
  ((List.range 1024).filter fun n =>
    s.f (fCPR_LOCK_STATUS n) == 3 && s.f (fCPR_LOCK_OWNER n) == r.issuer && (s.lk n).point == some r.cseq).foldl
    (fun s n =>
      if s.on (fCPR_LOCK_ORPHAN n) then s.lockBroken n 2 (b2n r.refused) r.cseq
      else s.setLk n { s.lk n with result := some r.refused }) s

/-! ## Queues (R306 to R312) -/

def State.qLog2 (s : State) (q : Nat) : Nat := max 4 (s.f (fCXL_Q_CFG_LOG2N q))
def State.qSize (s : State) (q : Nat) : Nat := 2 ^ s.qLog2 q
def State.qState (s : State) (q : Nat) : Nat := s.f (fCXL_Q_STATUS_STATE q)

/-- The command processor and entry in progress of a queue (R308). -/
def State.qEntry (s : State) (q : Nat) : Option (Nat × Entry) :=
  ((List.range 8).filterMap fun cp => (s.entry cp).map fun e => (cp, e)).find? fun x => x.2.q == q

/-- A queue counts as stopped (R312). -/
def State.qStopped (s : State) (q : Nat) : Bool := (s.qState q == 0 || s.qState q == 3) && (s.qEntry q).isNone

/-- Change STATE of a queue; QUEUE_STATE carries the cause (R309, R333, R338). -/
def State.setQState (s : State) (q st cause : Nat) : State :=
  let s := if st = 0 ∨ st = 3 then s.setF (fCXL_Q_CTRL_RUN q) 0 else s
  let old := s.qState q
  if old = st then s else (s.setF (fCXL_Q_STATUS_STATE q) st).raise 0x151 q 0 [(8, st), (8, old), (8, cause)]

/-- The state RUN = 1 leads to: HOSTWAIT while CXL.cache is unavailable to a host-memory ring (R309). -/
def State.qRunState (s : State) (q : Nat) : Nat :=
  if s.on (fCXL_Q_CFG_SPACE q) ∧ ¬ s.on fCXL_LINK_STATUS_CACHE then 2 else 1

/-- An entry ends: HEAD advances (not for the autostart entry of R684, which has no place in the ring), its status is reported, its owner fails with it, its queue follows (R308, R317, R318,
R333). The core is the caller's. `pc` is the PC at a fault. -/
def State.entryEnd (s : State) (cp status detail pc : Nat) : State :=
  match s.entry cp with
  | none => s
  | some e =>
    let q := e.q
    let s := if e.stage = 2 then s.dropCtr q e.slot else s
    let s := s.setEntry cp none
    let s := { s with th := { s.th with checks := s.th.checks.filter fun x => x != q } }
    let s := if e.slot = 64 then s else s.setF (fCXL_Q_PTR_HEAD q) ((e.idx + 1) % s.qSize q)
    let s := ((s.setF (fCXL_Q_STATUS_LAST_ST q) status).setF (fCXL_Q_STATUS_DETAIL q) detail).setF
      (fCXL_Q_STATUS_LAST_TAG q) e.tag
    let s := if e.notify ∨ status ≠ 0 then
        s.raise 0x150 q 0 [(16, e.tag), (8, status), (8, detail), (16, e.idx), (16, 0), (32, if status = 1 then pc else 0)]
      else s
    if status = 1 ∨ status = 5 then
      ((s.ownerFail q 1).setStopReq q false).setQState q 3 (if status = 1 then 3 else 4)
    else
      let s := if status = 6 then s.ownerFail q 0 else s
      if s.stopReq q then (s.setStopReq q false).setQState q 0 0 else s

/-! ## Core control and exceptions (R281, R283 to R288) -/

/-- The instruction in progress is abandoned. -/
def Core.idle (c : Core) : Core := { c with act := .run, ready := none, next := 0, hot := 0, hotAt := 0, expired := none }

/-- The tick of the cycle boundary `n` cycles after `now` (R249, R251): a cycle of SQA lasts 16 ticks. -/
def cycleAfter (o now n : Nat) : Nat := if o = 0x440 then (now / 16 + n) * 16 else now + n

/-- A core faults at the instruction in progress, whose first word is reported as `insn` (R283, R284, R318, R708). -/
def State.coreFaultWith (s : State) (o cause insn : Nat) : State :=
  let c := { s.core o with faultAt := some (s.clock o) }
  let s := ((s.setW1c (fcFValid o) 0).setF (fcFCause o) cause).setF (fcFPc o) (c.pc / 4)
  let s := (s.setF (fcFInsn o) insn).setF (fcCause o) cause
  let restart := s.on (fcRestart o) && !s.on fDRV_PF_TRIPPED
  let s := s.raise 0x140 o (s.coreLocus o) [(8, cause), (8, b2n restart), (16, 0), (32, c.pc), (32, insn)]
  let entry := (s.inEntry o).isSome
  let s := if entry then s.entryEnd (o - 0x300) 1 cause c.pc else s
  let s := s.ownerFail o 1
  let s := s.fault 0x0E o o (cause + 256 * c.pc)
  let c' := { c.idle with stack := [], wdog := 0 }
  if ¬ restart then
    ((s.setCore o c.idle).setF (fcState o) 4).setNoServe (o - 0x300) (isTC o)
  else if entry then
    ((s.setCore o c').setF (fcPend o) 0).setF (fcState o) 0
  else
    let g := smSet (fun _ => 0) (smSet (fun _ => 0) c.g 1 cause) 2 c.pc
    ((s.setCore o { c' with g := g, pc := 4 * s.f (fcFaultW o), next := cycleAfter o (s.clock o) 1 }).setF (fcPend o) 0).setF (fcState o) 1

/-- A core faults: FAULT_INSN is the instruction's first word, zero for FETCH (R283, R298). -/
def State.coreFault (s : State) (o cause : Nat) : State :=
  s.coreFaultWith o cause (if cause = 2 then 0 else s.imem o ((s.core o).pc / 4))

/-- Measurement 16 + g: instruction memories of the sequencers of a group, in core order (R562). -/
def State.measSeq (s : State) (g : Nat) : State :=
  let os := trCores.filter fun o => s.coreGroup o == g
  s.measure (16 + g) (.cores os (s.th.imem.filter fun e => os.contains (e.1 / 65536)) [])

/-- RUN = 1 of a stopped core: it starts at START_W (R287); ignored while TRIPPED or TERMINAL (R447, R707). -/
def State.coreStart (s : State) (o : Nat) : State :=
  if ¬ s.coreStopped o ∨ s.on fDRV_PF_TRIPPED ∨ s.on fFLT_STATUS_TERMINAL then s
  else
    let c := s.core o
    let s := s.setCore o { c.idle with stack := [], wdog := 0, pc := 4 * s.f (fcStartW o), next := cycleAfter o (s.clock o) 1 }
    let s := (((s.setF (fcPend o) 0).setF (fcPfv o) 0).setNoServe (o - 0x300) false).setCoreSt o 1
    if isTR o then s.measSeq (s.coreGroup o) else s

/-- STOP = 1 (R287, R318). -/
def State.coreStop (s : State) (o : Nat) : State :=
  let s := s.setCore o (s.core o).idle
  let s := if isTC o then (s.entryEnd (o - 0x300) 6 3 (s.core o).pc).setNoServe (o - 0x300) true else s
  (s.ownerFail o 0).setCoreSt o 0

/-- A write of RUN and STOP (R287): both act as STOP followed by RUN. -/
def State.coreCtrl (s : State) (o : Nat) (run stop : Bool) : State :=
  let s := if stop then s.coreStop o else s
  if run then s.coreStart o else s

/-- A group enters STARTING: its armed cores start (R287). -/
def State.armStart (s : State) (g : Nat) : State :=
  trCores.foldl (fun s o =>
    if s.coreGroup o = g ∧ s.coreSt o = 0 ∧ s.on (fSQR_CTRL_ARM (o - 0x400)) then s.coreStart o else s) s

/-- Discard the packets a core queued that have not begun (R286 step 3). -/
def State.dropPackets (s : State) (o : Nat) : State :=
  s.ch.queues.foldl (fun s e =>
    let c := e.1 / 16
    let p := e.1 % 16
    s.keepPq c p ((s.pq c p).filter fun k => k.core != o || k.started)) s

/-- A gate-timing output. -/
def State.pin (s : State) (p : Nat) : GtoPin := smGet (fun _ => ⟨false, []⟩) s.th.gto p
def State.setPin (s : State) (p : Nat) (x : GtoPin) : State :=
  { s with th := { s.th with gto := smSet (fun _ => ⟨false, []⟩) s.th.gto p x } }

/-- Cancel the edges that satisfy `q`. -/
def State.cancelEdges (s : State) (q : Edge → Bool) : State :=
  { s with th := { s.th with gto := s.th.gto.foldl (fun m e =>
      smSet (fun _ => ⟨false, []⟩) m e.1 { e.2 with edges := e.2.edges.filter fun x => !q x }) s.th.gto } }

/-- A core takes the power-fail vector (R286), though not in a cycle in which it has taken a fault (log 131); the instruction it abandons
faults no more. -/
def State.pfVector (s : State) (o : Nat) : State :=
  if ¬ isTR o ∨ s.coreSt o = 0 ∨ s.on (fcPfv o) ∨ ¬ s.on (fSQR_CFG_PF_EN (o - 0x400)) ∨ (s.core o).faultAt = some (s.clock o) then s
  else
    let c := s.core o
    let now := s.time.raster
    let s := (s.cancelEdges fun e => e.core == o && decide (now < e.tick)).dropPackets o
    let s := s.ownerFail o 1
    let s := s.setCore o { c.idle with stack := [], flags := 0, wdog := 0, pc := 4 * s.f (fSQR_VEC_PF_W (o - 0x400)) }
    let stopped := s.coreStopped o
    let s := ((s.setF (fcPend o) 0).setF (fcPfv o) 1).setF (fcState o) 1
    let s := if stopped then s.measSeq (s.coreGroup o) else s
    s.raise 0x142 o (s.coreLocus o) [(32, 0), (32, c.pc)]

end Sys2Proof.Machine
end

