-- ==== Sys2Proof/Machine/WriteSet.lean ====
section
/-!
DEFINITION. Words of registers as the map lays them out: the fields of a class in a word, staging masks, and taking a
write set into effect (R57, R320, R321).
-/
namespace Sys2Proof.Machine

/-- The field of a word at byte offset `a`. -/
def fldAt (a : Nat) (f : FldRow) : Fld := ⟨a, f.lo, f.w⟩

/-- The bits of a field within its word. -/
def fldMask (f : FldRow) : Nat := (2 ^ f.w - 1) * 2 ^ f.lo

/-- The bits of a word that are RW and of class S. -/
def sMask (r : RegRow) : Nat :=
  (r.fields.map fun f => if f.cls = .s ∧ f.acc = .rw then fldMask f else 0).sum

/-- Set the S-class fields of a word that a mask selects whole. -/
def State.applyWord (s : State) (w : WsWord) : State :=
  match regRowAt w.addr with
  | none => s
  | some r =>
    r.fields.foldl (fun s f =>
      if f.cls = .s ∧ f.acc = .rw ∧ w.mask &&& fldMask f = fldMask f then
        s.setF (fldAt w.addr f) (bitsOf w.val (f.lo + f.w - 1) f.lo)
      else s) s

/-- A write set takes effect whole (R57). -/
def State.applyWs (s : State) (ws : List WsWord) : State := ws.foldl (fun s w => s.applyWord w) s

/-- Does a write set write any field of the word at `a`? -/
def wsHas (ws : List WsWord) (a : Nat) : Bool := ws.any fun w => w.addr == a && w.mask != 0

/-- Does a write set write a word of any of these offsets? -/
def wsHasAny (ws : List WsWord) (as : List Nat) : Bool := as.any fun a => wsHas ws a

/-- Does a write set write a field (all its bits staged)? -/
def wsField (ws : List WsWord) (f : Fld) : Bool :=
  ws.any fun w => w.addr == f.addr && bitsOf w.mask (f.lo + f.w - 1) f.lo != 0

/-- The value of a word with only the fields that `p` selects, from the register store. -/
def State.wordOf (s : State) (a : Nat) (r : RegRow) (p : FldRow → Bool) : Nat :=
  (r.fields.map fun f => if p f then s.f (fldAt a f) * 2 ^ f.lo else 0).sum

end Sys2Proof.Machine
end

