-- ==== Sys2Proof/Machine/Chains.lean ====
section
/-!
DEFINITION. Driver chains (08): ownership, the checks of R352 and R401, line coding (R356, R357, R363 to R366), lane
pairs from OFF to UP (R387 to R389), sleep (R391 to R393), spares (R394 to R397), tests and injection, partner queues,
slot tables and their epochs (R400 to R404).
-/
namespace Sys2Proof.Machine

/-! ## Ownership (R352) -/

/-- Is chain `c` in the range of group `g`? -/
def State.inRange (s : State) (g c : Nat) : Bool :=
  let first := s.f (fLNK_GRP_FIRST g)
  decide (first ≤ c ∧ c < first + s.f (fLNK_GRP_COUNT g))

/-- The group that owns chain `c`: one that is not STOPPED, else the lowest whose range holds it (R352). -/
def State.chainOwner (s : State) (c : Nat) : Option Nat :=
  match allGroups.find? fun g => s.inRange g c && s.gState g != 0 with
  | some g => some g
  | none => allGroups.find? fun g => s.inRange g c

/-- The chains of a group. -/
def State.chainsOf (s : State) (g : Nat) : List Nat := (List.range 256).filter fun c => s.chainOwner c == some g

/-- Origin and LOCUS of a lane pair's events (R406). -/
def laneOrigin (l : Nat) : Nat := if l < 256 then 0x900 + l else 0xA00 + (l - 256)
def State.laneLocus (s : State) (l : Nat) : Nat :=
  match (if l < 256 then s.chainOwner l else none) with
  | some g => locusGroup g
  | none => 0

/-- Raise an event of a lane pair. -/
def State.raiseLane (s : State) (code l : Nat) (args : List (Nat × Nat)) : State :=
  s.raise code (laneOrigin l) (s.laneLocus l) args

/-! ## Block time (R354) and line coding (R356, R357, R363 to R366) -/

/-- Block time of a rate in ticks, as a fraction. -/
def blockNum : Nat → Nat
  | 0 => 256
  | 1 => 1024
  | 2 => 512
  | _ => 1024
def blockDen : Nat → Nat
  | 1 => 125
  | _ => 25

/-- F of R354. -/
def rateF : Nat → Nat
  | 0 => 1596
  | 1 => 1995
  | 2 => 798
  | _ => 399

/-- Number of the first block boundary at or after a tick, and the tick of a boundary. -/
def blockAt (rate t : Nat) : Nat := (t * blockDen rate + blockNum rate - 1) / blockNum rate
def blockTick (rate n : Nat) : Nat := (n * blockNum rate + blockDen rate - 1) / blockDen rate

/-- One bit of a CRC register of `w` bits with its polynomial, most significant bit first. -/
def crcBit (w poly c : Nat) (b : Bool) : Nat :=
  let top := bit c (w - 1) == 1
  let sh := c * 2 % 2 ^ w
  if top == b then sh else sh ^^^ poly

/-- A CRC over bytes, each most significant bit first, no reflection and no final XOR. -/
def crcBytes (w poly : Nat) (init : Nat) (bs : List Byte) : Nat :=
  bs.foldl (fun c b => ((List.range 8).map fun i => b.toNat.testBit (7 - i)).foldl (crcBit w poly) c) init

/-- CRC-8 of a control block (R357). -/
def crc8 (bs : List Byte) : Nat := crcBytes 8 0x07 0 bs

/-- CRC-16 of a packet (R365). -/
def crc16 (bs : List Byte) : Nat := crcBytes 16 0x1021 0xFFFF bs

/-- Bytes of small numbers. -/
def bytesOf (l : List Nat) : List Byte := l.map fun n => BitVec.ofNat 8 n

/-- A control block of type `t` with bytes 1 to 6 (R356). -/
def ctlBlock (t : Nat) (b : List Nat) : List Byte :=
  let x := bytesOf (t :: b)
  x ++ bytesOf [crc8 x]

/-- An SOS, an EOS, a HOLD, an ENUM and an ALIGN block (R356). -/
def sosBlock (ls : Bool) (slot pos kind line frame flags : Nat) : List Byte :=
  ctlBlock 0x4B [128 * b2n ls + slot % 64, 16 * pos + kind, line % 256, line / 256 % 256, frame % 256, flags]
def eosBlock (slot : Nat) (trunc : Bool) : List Byte := ctlBlock 0x55 [slot % 64, b2n trunc, 0, 0, 0, 0]
def holdBlock (reason : Nat) : List Byte := ctlBlock 0x78 [reason, 0, 0, 0, 0, 0]
def enumBlock (c count : Nat) (ovf : Bool) : List Byte := ctlBlock 0x66 [c, count + 128 * b2n ovf, 0, 0, 0, 0]
def alignBlock (bundle seq chain : Nat) (standby : Bool) : List Byte :=
  ctlBlock 0x33 [bundle, seq % 256, seq / 256 % 256, seq / 65536 % 256, if standby then 0 else chain, b2n standby]

/-- Header bytes 0 to 5 and the header block of a downstream packet (R363). -/
def pktHead (typ pid seq len : Nat) (first last retry : Bool) : List Byte :=
  bytesOf [128 * b2n last + 64 * b2n first + 32 * b2n retry + typ, pid % 256, pid / 256 % 16, seq % 256] ++ leBytes 2 len
def headBlock (h : List Byte) : List Byte := h ++ leBytes 2 (crc16 h)

/-- A segment of a packet other than PIX: header, payload, trailer (R363, R365). -/
def segBytes (typ pid seq : Nat) (first last retry : Bool) (words : List Nat) : List Byte :=
  let h := pktHead typ pid seq words.length first last retry
  let body := (words.map fun w => leBytes 4 w).flatten ++ leBytes (4 * (words.length % 2)) 0
  headBlock h ++ body ++ leBytes 2 (crc16 (h ++ body)) ++ leBytes 6 0

/-- Bits of (width, value) fields, each most significant bit first. -/
def msbBits (fs : List (Nat × Nat)) : List Bool :=
  (fs.map fun f => (List.range f.1).map fun i => bit f.2 (f.1 - 1 - i) == 1).flatten

/-- A PIX packet (R366): `len` payload blocks from the bits. -/
def pixPacket (pid len : Nat) (bits : List Bool) : List Byte :=
  let h := pktHead 1 pid 0 len true true false
  let body := packMsb (8 * len) bits
  headBlock h ++ body ++ leBytes 4 (crc32c (h ++ body)) ++ leBytes 4 0

/-- LEN of a PIX payload (R366, R451). -/
def pixLen (tech depth ncol : Nat) : Nat :=
  if tech = 3 then (ncol * 2 + 63) / 64 else (ncol * 3 * (depth + if tech = 2 then 3 else 0) + 63) / 64

/-- An IDLE and a FILL block (R356). -/
def idleBlock : List Byte := bytesOf [0x1E, 0, 0, 0, 0, 0, 0, 0]
def fillBlock : List Byte := bytesOf [0x2D, 0, 0, 0, 0, 0, 0, 0]

/-! ## The bits on the wire (R355, R358, R398) -/

/-- A block's sync header, in the order sent: 01 for data, 10 for control, 00 for a block with an injected header error. -/
def syncBits (kind : Nat) (first : Bool) : List Bool :=
  if kind = 0 then [true, false] else if kind = 4 ∧ first then [false, false] else [false, true]

/-- Payload bytes in order, each least significant bit first. -/
def payloadBits (bs : List Byte) : List Bool := bs.flatMap fun b => (List.range 8).map fun i => b.toNat.testBit i

/-- The self-synchronising scrambler 1 + x^39 + x^58: bit i of the state is the scrambled bit sent i + 1 bits before. -/
def scramble : Nat → List Bool → List Bool × Nat
  | st, [] => ([], st)
  | st, b :: bs =>
    let o := (b != st.testBit 38) != st.testBit 57
    let r := scramble ((2 * st + b2n o) % 2 ^ 58) bs
    (o :: r.1, r.2)

/-- A sequence of blocks (kind, whether the first of its item, content) on the wire. -/
def wireBlocks : Nat → List (Nat × Bool × List Byte) → List Bool × Nat
  | st, [] => ([], st)
  | st, (k, first, bs) :: r =>
    let p := scramble st (payloadBits bs)
    let q := wireBlocks p.2 r
    (syncBits k first ++ p.1 ++ q.1, q.2)

/-- Contents cut into blocks of eight bytes; `n` bounds them. -/
def blocksOf : Nat → List Byte → List (List Byte)
  | 0, _ => []
  | n + 1, bs => if bs = [] then [] else bs.take 8 :: blocksOf n (bs.drop 8)

/-- A run of `n` IDLE blocks after `fill` blocks without a FILL: a FILL takes the place of one as soon as 1,023 blocks have gone
without (R358; log 116). -/
def idleRun : Nat → Nat → List (Nat × Bool × List Byte)
  | 0, _ => []
  | n + 1, fill => if 1023 ≤ fill then (0, true, fillBlock) :: idleRun n 0 else (0, true, idleBlock) :: idleRun n (fill + 1)

/-- Exponents of the PRBS of a POLY (R398). -/
def prbsTaps : Nat → Nat × Nat
  | 0 => (7, 6)
  | 1 => (15, 14)
  | 2 => (23, 18)
  | _ => (31, 28)

/-- `n` bits of a PRBS from a state whose bit i is the bit sent i + 1 bits before, and the state after them (R398). -/
def prbsBits (poly : Nat) : Nat → Nat → List Bool × Nat
  | 0, st => ([], st)
  | n + 1, st =>
    let t := prbsTaps poly
    let o := st.testBit (t.1 - 1) != st.testBit (t.2 - 1)
    let r := prbsBits poly n ((2 * st + b2n o) % 2 ^ 31)
    (o :: r.1, r.2)

/-- The blocks of one thing driven on lane pair `l`, if it is one (R355, R356). -/
def outBlocks (l : Nat) : Out → List (Nat × Bool × List Byte)
  | .lane k kind bs => if k = l then (blocksOf bs.length bs).zipIdx.map fun e => (kind, e.2 == 0, e.1) else []
  | .idle k n fill => if k = l then idleRun n fill else []
  | _ => []

/-- What lane pair `l` has sent outside the test modes, in the order sent, as bits on the wire (R355): the scrambler starts in a
state the spec does not give. -/
def State.wire (s : State) (l : Nat) : List Bool := (wireBlocks (Config.scrambler l) (s.outs.reverse.flatMap (outBlocks l))).1

/-! ## The transmitter of a lane pair (R358, R370, R387, R391, R399) -/

/-- STATE of a lane pair: 0 OFF, 1 LOCKING, 2 ENUM, 3 UP, 4 TEST, 5 SPARED, 6 FAILED (R410). -/
def State.lnSt (s : State) (l : Nat) : Nat := s.f (fLNK_STATUS_STATE l)

/-- Does the transmitter of a lane pair send blocks: enabled and not asleep (R387, R391)? -/
def State.txOn (s : State) (l : Nat) : Bool := s.lnSt l != 0 && !s.on (fLNK_STATUS_TX_ASLEEP l)

/-- Number of the block that a lane pair sends now or next. -/
def State.txNow (s : State) (l : Nat) : Nat := blockAt (s.f (fLNK_CFG_RATE l)) s.time.raster

/-- A run of IDLE blocks has ended at the block sent next; the next one begins at block `n` at the earliest. -/
def LaneSt.endIdle (x : LaneSt) (n : Nat) : LaneSt :=
  { x with idleRun := if x.idleFrom + 16 ≤ x.txAt then (x.idleFrom, x.txAt) else x.idleRun, idleFrom := n }

/-- `k` IDLE blocks are sent, with a FILL after every 1,023 blocks without one (log 116). -/
def LaneSt.idleOn (x : LaneSt) (k : Nat) : LaneSt :=
  let first := 1023 - x.txFill
  if k ≤ first then { x with txAt := x.txAt + k, txFill := x.txFill + k }
  else
    let j := (k - first - 1) / 1024
    let p := x.txAt + first + 1024 * j
    let y := if j = 0 then { x with txAt := p }.endIdle (p + 1) else { x with idleRun := (p - 1023, p), idleFrom := p + 1 }
    { y with txAt := x.txAt + k, txFill := (k - first - 1) % 1024 }

/-- What fills the blocks up to number `n`: IDLE with FILL, or in TEST the PRBS (R370, R387, R398). -/
def State.idleTo (s : State) (l n : Nat) : State :=
  let x := s.ln l
  let k := n - x.txAt
  if ¬ s.txOn l ∨ k = 0 then s
  else
    if s.lnSt l = 4 then
      (s.setLn l { x.idleOn k with idleFrom := n }).out (.prbs l (s.f (fLNK_TEST_MODE l)) (s.f (fLNK_TEST_POLY l)) k x.txFill)
    else (s.setLn l (x.idleOn k)).out (.idle l k x.txFill)

/-- Send blocks one after another: a FILL comes before the 2,048th block without one (R358), and what a cut-off slot has no
room for is lost (R371). `fuel` bounds the pieces. -/
def txRun (l : Nat) : Nat → Nat → List Byte → State → State
  | 0, _, _, s => s
  | fuel + 1, kind, bs, s =>
    let x := s.ln l
    let room := match x.txEnd with
      | some e => e - 1 - x.txAt
      | none => bs.length / 8
    let n := min (min (bs.length / 8) (2047 - x.txFill)) room
    if bs = [] ∨ room = 0 then s
    else if n = 0 then
      txRun l fuel kind bs ((s.setLn l { x.endIdle (x.txAt + 1) with txAt := x.txAt + 1, txFill := 0 }).out (.idle l 1 1023))
    else
      txRun l fuel (if kind = 0 then 0 else 1) (bs.drop (8 * n))
        ((s.setLn l { x.endIdle (x.txAt + n) with txAt := x.txAt + n, txFill := x.txFill + n }).out (.lane l kind (bs.take (8 * n))))

/-- Send control blocks (kind 0) or data blocks on a lane pair, if its transmitter is on. -/
def State.drive (s : State) (l kind : Nat) (bs : List Byte) : State := if s.txOn l then txRun l (bs.length / 4 + 2) kind bs s else s

/-- Invert `n` payload bits of the first block from bit `i` (R399). -/
def flipBits (i n : Nat) (bs : List Byte) : List Byte :=
  bs.zipIdx.map fun e => (List.range 8).foldl (fun (b : Byte) k =>
    if 8 * e.2 + k < 64 ∧ i ≤ 8 * e.2 + k ∧ 8 * e.2 + k < i + n then b ^^^ BitVec.ofNat 8 (2 ^ k) else b) e.1

/-- Data blocks with the injection of the lane pair, where one is armed, in the first of them: the content, its kind, and the state
(R399). Which payload bits are inverted the spec leaves open: a free value (log 127). -/
def State.inject (s : State) (l : Nat) (bs : List Byte) : List Byte × Nat × State :=
  let x := s.ln l
  if ¬ x.injArmed ∨ ¬ s.txOn l then (bs, 1, s)
  else
    let kind := s.f (fLNK_INJ_KIND l)
    let n := if kind = 2 then s.f (fLNK_INJ_BURST l) + 1 else 1
    let s := s.setLn l { x with injArmed := false, injNext := x.txAt + s.f (fLNK_INJ_PERIOD l) }
    if kind = 3 then (bs, 4, s)
    else
      let (v, s) := s.draw 16
      (flipBits (v % (65 - n)) n bs, 2, s)

/-- Lane pairs that carry the stream of chain `c`: its own and, while it is SPARED, its spare (R396). Where the line period has slots
on some of them, those; else all that are not waking (R391). -/
def State.lanesOf (s : State) (c : Nat) : List Nat :=
  let ls := if c < 256 ∧ s.lnSt c = 5 then [c, 256 + c / 16] else [c]
  let on := ls.filter fun l => (s.ln l).lineOn
  if on = [] then ls.filter fun l => (s.ln l).wakeAt.isNone else on

/-- A chain's stream goes on at block `n`: IDLE up to it. -/
def State.idleChain (s : State) (c n : Nat) : State := (s.lanesOf c).foldl (fun s l => s.idleTo l n) s

/-- Drive a control block on a chain. -/
def State.sendCtl (s : State) (c : Nat) (b : List Byte) : State := (s.lanesOf c).foldl (fun s l => s.drive l 0 b) s

/-- Drive a packet on a chain. -/
def State.sendPkt (s : State) (c : Nat) (b : List Byte) : State :=
  (s.lanesOf c).foldl (fun s l =>
    let (bs, kind, s) := s.inject l b
    s.drive l kind bs) s

/-! ## Checks (R352, R401) -/

/-- Code of the chain range at a start: 13 or 0 (R352). -/
def State.rangeCode (s : State) (g : Nat) : Nat :=
  let first := s.f (fLNK_GRP_FIRST g)
  let count := s.f (fLNK_GRP_COUNT g)
  if 256 < first + count then 13
  else if allGroups.any fun h => h != g && s.gState h != 0 && count != 0 && s.f (fLNK_GRP_COUNT h) != 0 &&
      decide (first < s.f (fLNK_GRP_FIRST h) + s.f (fLNK_GRP_COUNT h) ∧ s.f (fLNK_GRP_FIRST h) < first + count) then 13
  else 0

/-- Does entry `e` of the shadow table of chain `c` fail code 15 (R401)? `depth` is the code width (R366). -/
def State.slotBad (s : State) (c e tech depth hact : Nat) : Bool :=
  let part := s.f (fSLTS_PARTNER c e)
  let kind := s.f (fSLTS_KIND c e)
  let len := s.f (fSLTS_LEN c e)
  let resv := s.f (fSLTS_RESV c e)
  let ncol := s.f (fSLTS_NCOL c e)
  decide (4 < kind ∨ len = 0 ∨ (kind ≠ 4 ∧ len < 3)) ||
    (kind == 0 && decide (part = 15 ∨ ncol = 0 ∨ hact < s.f (fSLTS_COL0 c e) + ncol ∨ len < 4 + pixLen tech depth ncol)) ||
    ((kind == 1 || kind == 2 || kind == 3) && decide (len < resv + 5)) ||
    (kind == 1 && part != 15 && decide (resv < 10))

/-- Code of the table of chain `c` of group `g` (R401): 14, 15 or 0; the lower when both fail (R760). -/
def State.tableCode (s : State) (g c depth : Nat) : Nat :=
  let n := s.f (fSLT_CFG_NSLOT c)
  if 64 < n then 15
  else
    let es := List.range n
    let total := (es.map fun e => s.f (fSLTS_LEN c e)).sum
    if s.f (fTMG_LPER_INT_LPER_INT g) * rateF (s.f (fLNK_CFG_RATE c)) / 16384 < total + 4 then 14
    else if es.any fun e => s.slotBad c e (s.f (fDRV_MODE_TECH g)) depth (s.f (fTMG_HACT_VALUE g)) then 15
    else 0

/-- The lowest code over all the chains of a group (R401, R760). -/
def State.tablesCode (s : State) (g depth : Nat) : Nat :=
  let first := s.f (fLNK_GRP_FIRST g)
  let codes := ((List.range (s.f (fLNK_GRP_COUNT g))).map fun i => s.tableCode g (first + i) depth).filter fun x => x != 0
  if codes.contains 14 then 14 else codes.headD 0

/-! ## Lane STATE (R387 to R389) -/

/-- Change STATE; LANE_STATE carries the cause (R406). -/
def State.setLnSt (s : State) (l st cause : Nat) : State :=
  let old := s.lnSt l
  if old = st then s
  else ((s.setF (fLNK_STATUS_STATE l) st).raiseLane 0x160 l [(8, st), (8, old), (8, cause)]).degraded

/-- Slots and packets are sent on the chain. -/
def State.chainUp (s : State) (c : Nat) : Bool := s.lnSt c == 3 || s.lnSt c == 5

/-- Raise CMD_FAILED for a packet and count it (R383, R388). -/
def State.cmdFailed (s : State) (c p : Nat) (k : Pkt) (nak : Nat) : State :=
  (s.count (fLNK_DLV_FAILS c) 1).raiseLane 0x162 c [(16, 16 * c + p), (8, k.typ), (8, k.seq.getD 0), (8, nak)]

/-- What of a starved list still waits (R404). -/
def State.needs (s : State) (c : Nat) : List (Nat × Nat) :=
  ((List.range 16).map fun p => ((s.pq c p).filter fun k => k.begun || k.out).map fun k => (p, k.kind)).flatten

/-- Bring STARVED up to date: a packet that is gone waits for no slot. -/
def State.unstarve (s : State) (c : Nat) : State :=
  let x := s.ln c
  let l := x.starved.filter fun e => (s.needs c).contains e
  (s.setLn c { x with starved := l }).setOn (fSLT_ACT_STARVED c) (!l.isEmpty)

/-- A chain enters ENUM (R388): packets outstanding or begun are dropped. -/
def State.enterEnum (s : State) (c cause : Nat) : State :=
  let s := (List.range 16).foldl (fun s p =>
    let l := s.pq c p
    let s := s.keepPq c p ((l.filter fun k => !k.started).map fun k => { k with seq := none, sent := 0 })
    if p = 15 then s else (l.filter fun k => k.started).foldl (fun s k => s.cmdFailed c p k 0) s) s
  let s := s.setLn c { s.ln c with enumCount := none, enumReq := false }
  (s.unstarve c).setLnSt c 2 cause

/-- Zero the AT9840's SEQ spaces of a chain (R388). -/
def State.zeroSeqs (s : State) (c : Nat) : State :=
  { s with ch := { s.ch with seqs := (List.range 32).foldl (fun m i => smSet (fun _ => 0) m (32 * c + i) 0) s.ch.seqs } }

/-- Spare lane pair of a chain. -/
def spareOf (c : Nat) : Nat := c / 16

/-- Is spare `k` free: carrying nothing and asked for nothing (R396)? -/
def State.spareFree (s : State) (k : Nat) : Bool := !s.on (fLNK_SPARE_ACTIVE k) && (s.ln (256 + k)).sw == 0

/-- Can an automatic switch of chain `c` start (R396, R709)? -/
def State.canSwitch (s : State) (c : Nat) : Bool :=
  s.on (fLNK_CFG_AUTO_SPARE c) && bit (s.f (fLNK_SPARE_PROT (spareOf c))) (c % 16) == 1 && s.spareFree (spareOf c)

/-- Chain that spare `k` carries, or that a switch of it is for. -/
def State.spareChain (s : State) (k : Nat) : Nat := 16 * k + (s.ln (256 + k)).swChain

/-- A chain that stayed in UP without block lock enters LOCKING once no switch of it can start or has been decided (R389, R709). -/
def State.relock (s : State) (c : Nat) : State :=
  let sp := s.ln (256 + spareOf c)
  if s.lnSt c = 3 ∧ (s.ln c).lockLost ∧ ¬ s.canSwitch c ∧ ¬ (sp.sw ≠ 0 ∧ s.spareChain (spareOf c) = c) then s.setLnSt c 1 1 else s

/-- The chains of a bundle are judged anew. -/
def State.relockBundle (s : State) (k : Nat) : State := (List.range 16).foldl (fun s i => s.relock (16 * k + i)) s

/-- A switch is decided (R396 step 1): cause 0 lock loss, 1 driver fault, 2 FORCE. The selector code is driven. -/
def State.startSwitch (s : State) (c cause : Nat) : State :=
  let k := spareOf c
  (s.setLn (256 + k) { s.ln (256 + k) with
    sw := 1
    swCause := cause
    swAligns := 0
    swChain := c % 16
    selCode := c % 16 }).relockBundle k

/-- What drives GPIO pin `p`: the selector of a spare (R394, R421), or the indicator of a terminal fault (R707); none where it is
an input. -/
def State.gpio (s : State) (p : Nat) : Option Bool :=
  let first := fun k => min 28 (s.f (fLNK_SPARE_GPIO k))
  match (List.range 16).find? fun k => s.on (fLNK_SPARE_GPIO_EN k) && decide (first k ≤ p ∧ p < first k + 4) with
  | some k => some (bit (s.ln (256 + k)).selCode (p - first k) == 1)
  | none => if s.on fFLT_STATUS_TERMINAL ∧ s.on fFLT_CFG_TGPIO_EN ∧ s.f fFLT_CFG_TGPIO = p then some false else none

/-- The spare returns to standby. -/
def State.spareStandby (s : State) (k : Nat) : State :=
  let c := s.spareChain k
  let s := ((s.setF (fLNK_SPARE_ACTIVE k) 0).setF (fLNK_STATUS_SPARE_ACT (256 + k)) 0).setF (fLNK_STATUS_SPARE_ACT c) 0
  (s.setLn (256 + k) { s.ln (256 + k) with sw := 0, swAligns := 0, release := false }).degraded

/-- The switch fails: the chain becomes FAILED (R396). -/
def State.switchFail (s : State) (k : Nat) : State :=
  let c := s.spareChain k
  let s := (s.spareStandby k).setLnSt c 6 4
  (s.raise 0x165 (0xA00 + k) (s.laneLocus c) [(8, k), (8, c), (8, 2)]).fault 0x13 (laneOrigin c) c k

/-- Is MODE of LNK_TEST a test mode (R398, R413)? -/
def State.testMode (s : State) (l : Nat) : Bool := s.f (fLNK_TEST_MODE l) == 1 || s.f (fLNK_TEST_MODE l) == 2

/-- The checker of a lane pair is synchronised: in TEST with MODE 1 and LOOP its own transmitter's PRBS comes in (R398, R413). What
comes in from outside no command brings (log 117). -/
def State.checkLock (s : State) (l : Nat) : State :=
  s.setOn (fLNK_TEST_CHK_LOCK l) (s.lnSt l == 4 && s.f (fLNK_TEST_MODE l) == 1 && s.on (fLNK_TEST_LOOP l))

/-- Writes of LNK_CFG: EN starts or ends the lane pair (R387), AUTO_SPARE tells whether a switch can start (R709). -/
def State.laneEn (s : State) (l : Nat) (was now : Bool) : State :=
  let s := if l < 256 then s.relock l else s
  if was = now then s
  else if now then
    ((s.setLn l { s.ln l with txAt := s.txNow l, txFill := 0, idleFrom := s.txNow l }).setLnSt l (if s.testMode l then 4 else 1) 0).checkLock l
  else
    let s := ((s.idleTo l (s.txNow l)).setF (fLNK_STATUS_BLOCK_LOCK l) 0).setF (fLNK_STATUS_TX_ASLEEP l) 0
    let s := s.setF (fLNK_STATUS_RX_ASLEEP l) 0
    let x := s.ln l
    let s := s.setLn l { x with lineOn := false, wakeAt := none, autoSlept := false, rxAuto := false, lockLost := false }
    (s.setLnSt l 0 0).checkLock l

/-- Writes of LNK_TEST: a lane pair that runs enters or leaves TEST (R398, R410; log 106). -/
def State.laneTest (s : State) (l : Nat) : State :=
  let s := s.idleTo l (s.txNow l)
  if s.lnSt l = 0 then s
  else if s.testMode l then s.setLnSt l 4 5
  else if s.lnSt l = 4 then
    if s.on (fLNK_STATUS_BLOCK_LOCK l) ∧ l < 256 then s.enterEnum l 5 else s.setLnSt l 1 5
  else s

/-- LANE receiver used by chain `c`: its spare's while carried, its own otherwise (R396 step 3). -/
def State.rxLane (s : State) (c : Nat) : Nat := if s.lnSt c = 5 then 256 + spareOf c else c

/-- BLOCK_LOCK_GAINED (R355, R388). -/
def execBlockLockGained (l : Nat) (s : State) : Host.Outcome State Fault Refusal :=
  if 272 ≤ l ∨ s.lnSt l = 0 ∨ s.on (fLNK_STATUS_BLOCK_LOCK l) ∨ s.on (fLNK_STATUS_RX_ASLEEP l) then .next s
  else
    let s := (s.setF (fLNK_STATUS_BLOCK_LOCK l) 1).setLn l { s.ln l with lockLost := false }
    if 256 ≤ l then
      let x := s.ln l
      .next (if x.sw = 2 then s.setLn l { x with sw := 3 } else s)
    else .next (if s.lnSt l = 1 then s.enterEnum l 2 else s)

/-- BLOCK_LOCK_LOST (R389, R709; a spare that carries a chain: R706, log entry 21). -/
def execBlockLockLost (l : Nat) (s : State) : Host.Outcome State Fault Refusal :=
  if 272 ≤ l ∨ ¬ s.on (fLNK_STATUS_BLOCK_LOCK l) then .next s
  else
    let s := s.setF (fLNK_STATUS_BLOCK_LOCK l) 0
    let s := s.setLn l { s.ln l with lockLost := true }
    if 256 ≤ l then .next (if (s.ln l).sw = 3 then s.switchFail (l - 256) else s)
    else if s.lnSt l = 2 then .next (s.setLnSt l 1 1)
    else .next (s.relock l)

/-- INVALID_BLOCK (R355, R356): counted, treated as IDLE. -/
def execInvalidBlock (l : Nat) (s : State) : Host.Outcome State Fault Refusal :=
  .next (if l < 272 then s.count (fLNK_ERR_BLK l) 1 else s)

/-- ENUM_SEND (R388). -/
def execEnumSend (c : Nat) (s : State) : Host.Outcome State Fault Refusal :=
  .next (if c < 256 ∧ s.lnSt c = 2 then (s.idleTo c (s.txNow c)).sendCtl c (enumBlock c 0 false) else s)

/-- ENUM_RETURN (R388): two consecutive equal counts without OVF complete enumeration. -/
def execEnumReturn (c count : Nat) (ovf : Bool) (s : State) : Host.Outcome State Fault Refusal :=
  if 256 ≤ c ∨ s.lnSt c ≠ 2 then .next s
  else
    let ex := s.f (fLNK_CFG_EXPECT c)
    if ovf then
      let s := s.setLn c { s.ln c with enumCount := none }
      .next ((s.setF (fLNK_STATUS_PARTNERS c) 17).raiseLane 0x161 c [(8, 17), (8, ex), (8, b2n (decide (ex ≠ 17)))])
    else if (s.ln c).enumCount = some count then
      let s := ((s.setLn c { s.ln c with enumCount := none }).setF (fLNK_STATUS_PARTNERS c) count).zeroSeqs c
      .next ((s.setLnSt c 3 3).raiseLane 0x161 c [(8, count), (8, ex), (8, b2n (decide (count ≠ ex)))])
    else .next (s.setLn c { s.ln c with enumCount := some count })

/-- At an ALIGN of its bundle, a decided switch takes place, a release takes place, and a switch without lock is one
ALIGN older (R396, R397). -/
def State.spareAlign (s : State) (k : Nat) : State :=
  let x := s.ln (256 + k)
  let c := s.spareChain k
  if x.release ∧ s.on (fLNK_SPARE_ACTIVE k) then
    let s := s.spareStandby k
    let s := s.raise 0x165 (0xA00 + k) (s.laneLocus c) [(8, k), (8, c), (8, 0)]
    s.setLnSt c (if s.on (fLNK_STATUS_BLOCK_LOCK c) then 3 else 1) 4
  else if x.sw = 1 then
    let lock := s.on (fLNK_STATUS_BLOCK_LOCK (256 + k))
    let s := (s.idleTo (256 + k) (s.txNow c)).idleTo c (s.txNow c)
    let s := s.setLn (256 + k) { s.ln (256 + k) with
      sw := if lock then 3 else 2
      swAligns := 0
      slot := (s.ln c).slot
      lineOn := (s.ln c).lineOn }
    let s := ((s.setF (fLNK_SPARE_ACTIVE k) 1).setF (fLNK_STATUS_SPARE_ACT (256 + k)) 1).setF (fLNK_STATUS_SPARE_ACT c) 1
    let s := (s.setLnSt c 5 4).raise 0x165 (0xA00 + k) (s.laneLocus c) [(8, k), (8, c), (8, 1)]
    s.fault 0x12 (laneOrigin c) c (k + 256 * x.swCause)
  else if x.sw = 2 then s.setLn (256 + k) { x with swAligns := x.swAligns + 1 }
  else s

/-- An ALIGN on a lane that is on and does not send raw test bits (R360, R391, R398). -/
def State.alignOn (s : State) (l : Nat) (b : List Byte) : State :=
  if s.lnSt l = 4 ∧ s.f (fLNK_TEST_MODE l) = 1 then s else (s.idleTo l (s.txNow l)).drive l 0 b

/-- ALIGN_SEND (R360): one ALIGN on every running lane of the bundle, also between the blocks of a packet. -/
def execAlignSend (bundle : Nat) (s : State) : Host.Outcome State Fault Refusal :=
  if 16 ≤ bundle then .next s
  else
    let s := s.spareAlign bundle
    let seq := smGet (fun _ => 0) s.ch.align bundle
    let s := (List.range 16).foldl (fun s i =>
      let c := 16 * bundle + i
      s.alignOn c (alignBlock bundle seq c false)) s
    let s := s.alignOn (256 + bundle) (alignBlock bundle seq (s.spareChain bundle) (!s.on (fLNK_SPARE_ACTIVE bundle)))
    .next { s with ch := { s.ch with
      align := smSet (fun _ => 0) s.ch.align bundle ((seq + 1) % 2 ^ 24)
      aligned := smSet (fun _ => none) s.ch.aligned bundle (some s.time.raster) } }

/-- ALIGN_RETURN (R361): `lat` is the ring delay measured from its SEQ, in blocks. -/
def execAlignReturn (c : Nat) (isLocal : Bool) (lat : Nat) (s : State) : Host.Outcome State Fault Refusal :=
  .next (if c < 256 ∧ s.lnSt c ≠ 0 ∧ ¬ isLocal then s.setF (fLNK_STATUS_RING_LAT c) (min 1023 lat) else s)

/-! ## Spares (R396, R397) -/

/-- SPARE_AUTO_SWITCH: 1,024 blocks without lock (R396). -/
def execSpareAutoSwitch (c : Nat) (s : State) : Host.Outcome State Fault Refusal :=
  .next (if c < 256 ∧ (s.lnSt c = 1 ∨ s.lnSt c = 2 ∨ s.lnSt c = 3) ∧ ¬ s.on (fLNK_STATUS_BLOCK_LOCK c) ∧
      ¬ s.on (fLNK_STATUS_RX_ASLEEP c) ∧ s.canSwitch c then s.startSwitch c 0 else s)

/-- TX_DRIVER_FAULT: the output detector's low swing begins (or, `low` false, ends) (R396, R410). -/
def execTxDriverFault (l : Nat) (low : Bool) (s : State) : Host.Outcome State Fault Refusal :=
  if 272 ≤ l ∨ s.lnSt l = 0 then .next s
  else
    let s := s.setOn (fLNK_STATUS_TXFAULT l) low
    .next (if low ∧ l < 256 ∧ (s.lnSt l = 1 ∨ s.lnSt l = 2 ∨ s.lnSt l = 3) ∧ s.canSwitch l then s.startSwitch l 1 else s)

/-- SPARE_SWITCH_TIMEOUT (R396): no block lock after two ALIGN periods. -/
def execSpareSwitchTimeout (k : Nat) (s : State) : Host.Outcome State Fault Refusal :=
  .next (if k < 16 ∧ (s.ln (256 + k)).sw = 2 ∧ 2 ≤ (s.ln (256 + k)).swAligns then s.switchFail k else s)

/-- FAILED_RETRY (R396; log entry 21): bring-up on the primary lanes, which needs the primary receiver's lock. -/
def execFailedRetry (c : Nat) (s : State) : Host.Outcome State Fault Refusal :=
  .next (if c < 256 ∧ s.lnSt c = 6 ∧ s.on (fLNK_STATUS_BLOCK_LOCK c) then s.enterEnum c 2 else s)

/-- Writes of LNK_SPARE: FORCE and RELEASE (R396, R397); PROT tells which switches can start (R709). -/
def State.spareCmd (s : State) (k force release chain : Nat) : State :=
  let c := 16 * k + chain
  let s := s.relockBundle k
  let s := if force = 1 ∧ s.spareFree k ∧ bit (s.f (fLNK_SPARE_PROT k)) chain = 1 ∧ s.lnSt c ≠ 0 then s.startSwitch c 2 else s
  if release = 1 ∧ s.on (fLNK_SPARE_ACTIVE k) then s.setLn (256 + k) { s.ln (256 + k) with release := true } else s

/-! ## Commands of a lane pair: ENUM, FLUSH, injection (R385, R389, R399) -/

/-- Is a segmented packet of a queue in progress? -/
def State.midPacket (s : State) (c p : Nat) : Bool := (s.pq c p).any fun k => k.begun && !k.out

/-- A packet boundary comes for queue `p` of a chain: a flush and an ENUM that waited for it are done (R385, R389). -/
def State.boundary (s : State) (c p : Nat) : State :=
  if s.midPacket c p then s
  else
    let s := if bit (s.ln c).flush p = 1 then
        ((s.setLn c { s.ln c with flush := (s.ln c).flush - 2 ^ p }).flushPq c p).2.unstarve c
      else s
    if (s.ln c).enumReq ∧ ¬ (List.range 16).any (fun q => s.midPacket c q) then
      (if s.lnSt c = 3 then s.enterEnum c 0 else s.setLn c { s.ln c with enumReq := false })
    else s

/-- A write of LNK_CMD (R385, R389): the queues of FLUSH are emptied, and with ENUM a chain in UP is enumerated anew, at the next
packet boundary. -/
def State.lnkCmd (s : State) (l v : Nat) : State :=
  if 256 ≤ l then s
  else
    let x := s.ln l
    let s := s.setLn l { x with
      flush := x.flush ||| (v % 65536)
      enumReq := x.enumReq || (bit v 31 == 1 && s.lnSt l == 3) }
    (List.range 16).foldl (fun s p => s.boundary l p) s

/-- A test pattern in progress takes an armed injection at once; where the transmitter's output is looped to the checker, the bits it
inverts are counted (R398, R399). -/
def State.injectTest (s : State) (l : Nat) : State :=
  if s.lnSt l ≠ 4 ∨ ¬ (s.ln l).injArmed then s
  else
    let s := s.idleTo l (s.txNow l)
    let kind := s.f (fLNK_INJ_KIND l)
    let x := s.ln l
    let s := s.setLn l { x with injArmed := false, injNext := x.txAt + s.f (fLNK_INJ_PERIOD l) }
    if s.on (fLNK_TEST_CHK_LOCK l) then
      s.count (fLNK_TEST_ERR_ERRORS l) (if kind = 1 then 1 else if kind = 2 then s.f (fLNK_INJ_BURST l) + 1 else 0)
    else s

/-- A write of LNK_INJ (R399): GO arms an injection, which repeats while PERIOD is not 0; KIND 0 ends it. -/
def State.armInj (s : State) (l : Nat) (go : Bool) : State :=
  let x := s.ln l
  if s.f (fLNK_INJ_KIND l) = 0 then s.setLn l { x with injArmed := false, injOn := false }
  else if go then (s.setLn l { x with injArmed := true, injOn := s.f (fLNK_INJ_PERIOD l) != 0 }).injectTest l
  else s

/-- INJECT_REPEAT (R399): PERIOD blocks after an injection, another is armed. -/
def execInjectRepeat (l : Nat) (s : State) : Host.Outcome State Fault Refusal :=
  .next (if l < 272 ∧ (s.ln l).injOn ∧ ¬ (s.ln l).injArmed ∧ (s.ln l).injNext ≤ s.txNow l then
      (s.setLn l { s.ln l with injArmed := true }).injectTest l else s)

/-! ## Sleep (R391 to R393) -/

/-- Does a packet expect an answer (R380, R384)? -/
def expects (p : Nat) (k : Pkt) : Bool := p != 15 || k.typ == 3

/-- Some packet of the chain is queued; some packet that expects an answer is. -/
def State.anyQueued (s : State) (c : Nat) : Bool := (List.range 16).any fun p => !(s.pq c p).isEmpty
def State.anyExpecting (s : State) (c : Nat) : Bool := (List.range 16).any fun p => (s.pq c p).any fun k => expects p k

/-- The chain whose stream a lane pair carries: its own, or that of the spare's switch (R396). -/
def State.laneChain (s : State) (l : Nat) : Option Nat :=
  if l < 256 then some l
  else if l < 272 ∧ s.on (fLNK_SPARE_ACTIVE (l - 256)) then some (s.spareChain (l - 256))
  else none

/-- A transmitter falls asleep (R391). -/
def State.txSleep (s : State) (l : Nat) : State :=
  let s := (List.range 4).foldl (fun s _ => s.drive l 0 (holdBlock 2)) (s.idleTo l (s.txNow l))
  (s.setF (fLNK_STATUS_TX_ASLEEP l) 1).setLn l { s.ln l with lineOn := false }

/-- TX_SLEEP (R391): with TXSLEEP = 1 and empty queues. -/
def execTxSleep (l : Nat) (s : State) : Host.Outcome State Fault Refusal :=
  match s.laneChain l with
  | none => .next s
  | some c =>
    .next (if s.chainUp c ∧ s.on (fLNK_CFG_TXSLEEP l) ∧ ¬ s.on (fLNK_STATUS_TX_ASLEEP l) ∧
      (s.ln l).wakeAt = none ∧ ¬ s.anyQueued c then s.txSleep l else s)

/-- Is the timed wake of an AUTOSLEEP chain due: 32,000 ticks before the first VSYNC line, or a wake of R120 (R393)? -/
def State.autoDue (s : State) (c : Nat) : Bool :=
  match s.chainOwner c with
  | none => true
  | some g =>
    let x := s.grp g
    !x.live || x.lad.wake.isSome || decide (x.vsyncTick ≤ s.time.raster + 32000 ∨ x.cur.vact + x.porch ≤ x.line)

/-- TX_WAKE (R391, R393): a queued packet or a timed wake. -/
def execTxWake (l : Nat) (s : State) : Host.Outcome State Fault Refusal :=
  let go := match s.laneChain l with
    | none => !s.on (fLNK_CFG_TXSLEEP l)
    | some c => if (s.ln l).autoSlept then s.autoDue c else s.anyQueued c || !s.on (fLNK_CFG_TXSLEEP l)
  .next (if l < 272 ∧ s.on (fLNK_STATUS_TX_ASLEEP l) ∧ go = true then
      (s.setF (fLNK_STATUS_TX_ASLEEP l) 0).setLn l { s.ln l with
        wakeAt := some (s.time.raster + 32000)
        autoSlept := false
        txAt := s.txNow l
        txFill := 0
        idleFrom := s.txNow l }
    else s)

/-- TX_WAKE_DONE (R391): slots resume at the next line period. -/
def execTxWakeDone (l : Nat) (s : State) : Host.Outcome State Fault Refusal :=
  match (s.ln l).wakeAt with
  | some t => .next (if t ≤ s.time.raster then s.setLn l { s.ln l with wakeAt := none } else s)
  | none => .next s

/-- A receiver falls asleep: what arrives is lost (R392). -/
def State.rxSleep (s : State) (l : Nat) : State := (s.setF (fLNK_STATUS_RX_ASLEEP l) 1).setF (fLNK_STATUS_BLOCK_LOCK l) 0

/-- RX_SLEEP (R392, R393): with RXSLEEP = 1, or in the extended porch under AUTOSLEEP, once no answer is awaited. -/
def execRxSleep (l : Nat) (s : State) : Host.Outcome State Fault Refusal :=
  match s.laneChain l with
  | none => .next s
  | some c =>
    .next (if s.chainUp c ∧ (s.on (fLNK_CFG_RXSLEEP l) ∨ ((s.ln l).rxAuto ∧ ¬ s.autoDue c)) ∧
      ¬ s.on (fLNK_STATUS_RX_ASLEEP l) ∧ ¬ s.anyExpecting c then s.rxSleep l else s)

/-- RX_WAKE (R392, R393). -/
def execRxWake (l : Nat) (s : State) : Host.Outcome State Fault Refusal :=
  let go := match s.laneChain l with
    | none => !s.on (fLNK_CFG_RXSLEEP l)
    | some c => if (s.ln l).rxAuto then s.autoDue c else s.anyExpecting c || !s.on (fLNK_CFG_RXSLEEP l)
  .next (if l < 272 ∧ s.on (fLNK_STATUS_RX_ASLEEP l) ∧ go = true then
      (s.setF (fLNK_STATUS_RX_ASLEEP l) 0).setLn l { s.ln l with rxAuto := false } else s)

/-! ## Slot tables and their epochs (R400 to R404) -/

/-- Copy the shadow table of a chain to the active array (R400, R402). -/
def State.copyTable (s : State) (c : Nat) : State :=
  (List.range 64).foldl (fun s e =>
    let s := (s.setF (fSLTA_PARTNER c e) (s.f (fSLTS_PARTNER c e))).setF (fSLTA_KIND c e) (s.f (fSLTS_KIND c e))
    let s := (s.setF (fSLTA_RESV c e) (s.f (fSLTS_RESV c e))).setF (fSLTA_LEN c e) (s.f (fSLTS_LEN c e))
    (s.setF (fSLTA_NCOL c e) (s.f (fSLTS_NCOL c e))).setF (fSLTA_COL0 c e) (s.f (fSLTS_COL0 c e))) s

/-- Does a slot of position `part` name queue `p` (R353)? -/
def names (part p : Nat) : Bool := part == p || (part == 15 && decide (p ≤ 15) && p != 15)

/-- Does the active table give queue `p` a slot of a kind (R404)? -/
def State.hasSlot (s : State) (c p kind : Nat) : Bool :=
  (List.range (min 64 (s.f (fSLT_ACT_NSLOT c)))).any fun e =>
    s.f (fSLTA_KIND c e) == kind && names (s.f (fSLTA_PARTNER c e)) p

/-- A table becomes active (R402, R404). -/
def State.activate (s : State) (c : Nat) : State :=
  let s := (s.copyTable c).setF (fSLT_ACT_NSLOT c) (min 64 (s.f (fSLT_CFG_NSLOT c)))
  let s := s.setF (fSLT_ACT_PEND c) 0
  let x := s.ln c
  let s := s.setLn c { x with epoch := none, tabDue := true }
  let wait := ((s.needs c) ++ x.starved).eraseDups
  let now := wait.filter fun e => !s.hasSlot c e.1 e.2
  let s := (now.filter fun e => !x.starved.contains e).foldl (fun s e =>
    s.raiseLane 0x164 c [(16, 16 * c + e.1), (8, e.2), (8, 1)]) s
  let s := (x.starved.filter fun e => s.hasSlot c e.1 e.2).foldl (fun s e =>
    s.raiseLane 0x164 c [(16, 16 * c + e.1), (8, e.2), (8, 0)]) s
  (s.setLn c { s.ln c with starved := now }).setOn (fSLT_ACT_STARVED c) (!now.isEmpty)

/-- A committed table takes its slot epoch (R402): at once for a STOPPED group; `timing` when the commit also carries a
timing change; `tick` is the latch. -/
def State.tableEpoch (s : State) (g c : Nat) (timing : Bool) (tick vtotal : Nat) : State :=
  if s.gState g = 0 then s.activate c
  else
    let line := if ¬ timing ∧ s.on (fSLT_CFG_LINE_SWAP c) then s.f (fSLT_CFG_EPOCH_LINE c) else 0
    let line := if vtotal ≤ line then 0 else line
    (s.setLn c { s.ln c with epoch := some (line, tick) }).setF (fSLT_ACT_PEND c) 1

/-! ## Delivery (R380 to R386) -/

/-- Sequence space of a packet: 0 command, 1 sense (R380). -/
def space (k : Pkt) : Nat := if k.typ = 5 then 1 else 0

/-- Next SEQ of a partner and space. -/
def State.nextSeq (s : State) (c p sp : Nat) : Nat := smGet (fun _ => 0) s.ch.seqs (2 * qKey c p + sp)
def State.setNextSeq (s : State) (c p sp v : Nat) : State :=
  { s with ch := { s.ch with seqs := smSet (fun _ => 0) s.ch.seqs (2 * qKey c p + sp) (v % 256) } }

/-- Index of the packet a partner's answer in a space can be for: outstanding, or with segments still leaving. -/
def State.waitingIn (s : State) (c p sp : Nat) : Option Nat :=
  (s.pq c p).findIdx? fun k => space k == sp && (k.out || k.begun)

/-- Replace packet `i` of a queue. -/
def State.setPkt (s : State) (c p i : Nat) (k : Pkt) : State := s.setPq c p (listSet (s.pq c p) i k)

/-- Remove packet `i` of a queue and return its cells. -/
def State.dropPkt (s : State) (c p i : Nat) : State :=
  ((s.keepPq c p ((s.pq c p).eraseIdx i))).unstarve c

/-- An attempt to deliver packet `i` failed: it is to be resent, whole and with RETRY, with a new SEQ where `reseq`, or dropped after
the third resend (R383). -/
def State.attemptFail (s : State) (c p i nak : Nat) (reseq : Bool) : State :=
  match (s.pq c p)[i]? with
  | none => s
  | some k =>
    (if k.flushed then s.dropPkt c p i
    else if 3 ≤ k.tries then (s.dropPkt c p i).cmdFailed c p k nak
    else
      s.setPkt c p i { k with
        seq := if reseq then none else k.seq
        out := false
        sent := 0
        timer := 0
        tries := k.tries + 1
        nak := nak }).boundary c p

/-- A partner or broadcast queue's pointer copies differ: it is reset (R644). -/
def State.partnerReset (s : State) (c p : Nat) : State :=
  match s.flushPq c p with
  | (n, s) => (s.queueReset (if p = 15 then 1 else 0) p (0x900 + c) n).unstarve c

/-- A packet is put where its EMIT retires: `ready` is 64 ticks after that, and of EMITs that retire together the lower SELF goes
first (R275). -/
def insertPkt (k : Pkt) : List Pkt → List Pkt
  | [] => [k]
  | j :: r =>
    if ¬ j.started ∧ (k.ready < j.ready ∨ (k.ready = j.ready ∧ k.core < j.core)) then k :: j :: r else j :: insertPkt k r

/-- EMIT's packet enters a queue: false when the queue or the pool cannot take it (R274, R385, R643). -/
def State.enqueue (s : State) (c p : Nat) (k : Pkt) : Bool × State :=
  let l := s.pq c p
  if s.f (fLNK_CFG_QDEPTH c) + 1 ≤ l.length ∨ ¬ s.poolHas (cellsOf k.words.length) then (false, s)
  else (true, (s.setPq c p (insertPkt k l)).takeCells (cellsOf k.words.length))

end Sys2Proof.Machine
end

