-- ==== Sys2Proof/Machine/Drive.lean ====
section
/-!
DEFINITION. Panel drive (09): gate-timing and discharge outputs, LCD commons and DC balance, panel temperature, rails,
power failure, and the lines of the bonbon window.
-/
namespace Sys2Proof.Machine

/-! ## Gate-timing outputs (R276, R277, R430) -/

/-- The level driven on a gate-timing output; `none` is high impedance (R430). -/
def State.gtoLevel (s : State) (p : Nat) : Option Bool :=
  let logical := if s.gState (s.f (fDRV_GTO_GROUP p)) = 0 then
      match s.f (fDRV_GTO_SLVL p) with
      | 0 => some false
      | 1 => some true
      | 2 => some (s.pin p).level
      | _ => none
    else some (s.pin p).level
  if ¬ s.on (fDRV_GTO_EN p) then none else logical.map fun b => b != s.on (fDRV_GTO_POL p)

/-- Does pin `p` belong to group `g` (R430)? -/
def State.pinOf (s : State) (p g : Nat) : Bool := s.on (fDRV_GTO_EN p) && s.f (fDRV_GTO_GROUP p) == g

/-- Are scheduled edges of a pin discarded now: its group is STOPPED and SLVL is not 2 (R430)? -/
def State.edgesOff (s : State) (p : Nat) : Bool :=
  s.gState (s.f (fDRV_GTO_GROUP p)) == 0 && s.f (fDRV_GTO_SLVL p) != 2

/-- Schedule one edge at `t` for core `o` on a pin that belongs to its group (R277): one that lies less than 8 ticks ahead is
placed 8 ticks ahead and counted; in bonbon mode SQA's edges keep to AON-R cycle boundaries. -/
def State.schedule (s : State) (p o : Nat) (t : Int) (rise : Bool) : State :=
  let now := s.time.raster
  let late := decide (t < (now : Int) + 8)
  let tick := if late then now + 8 else t.toNat
  let tick := if o = 0x440 ∧ s.on fDRV_BON_CTRL_ACTIVE then (tick + 15) / 16 * 16 else tick
  let s := if late then s.count (fSQR_LATE_EDGES (o - 0x400)) 1 else s
  if s.edgesOff p then s
  else s.setPin p { s.pin p with edges := (s.pin p).edges ++ [⟨tick, rise, o⟩] }

/-- The edge placed first: of those due, the least tick, and of one tick the one scheduled last, which stands (R277). Edges
stand in the list in the order they were scheduled. -/
def firstDue (es : List Edge) (now : Nat) : Option Edge :=
  let due := es.filter fun e => decide (e.tick ≤ now)
  match due with
  | [] => none
  | e :: r => let t := (r.map fun x => x.tick).foldl min e.tick
    due.reverse.find? fun x => x.tick == t

/-- GTO_EDGE_PLACE (R277): the due edges of least tick are placed. -/
def execGtoEdgePlace (p : Nat) (s : State) : Host.Outcome State Fault Refusal :=
  let x := s.pin p
  match firstDue x.edges s.time.raster with
  | none => .next s
  | some e =>
    let s := { s with cal := { s.cal with edgeAt := some s.time.raster } }
    .next (s.setPin p ⟨if s.edgesOff p then x.level else e.rise, x.edges.filter fun y => y.tick != e.tick⟩)

/-- A group enters STOPPED: scheduled edges of its pins are discarded unless SLVL is 2 (R430). -/
def State.discardEdges (s : State) (g : Nat) : State :=
  (List.range 64).foldl (fun s p =>
    if s.pinOf p g ∧ s.f (fDRV_GTO_SLVL p) ≠ 2 ∧ (s.pin p).edges ≠ [] then s.setPin p { s.pin p with edges := [] } else s) s

/-! ## Discharge outputs (R431) -/

/-- Is discharge output `d` asserted? -/
def State.dischOn (s : State) (d : Nat) : Bool :=
  let g := s.f (fDRV_DISCH_GROUP d)
  s.on (fDRV_DISCH_EN d) && (s.drv.discharged || s.f (fDRV_STATUS_RSTATE g) == 4 ||
    (s.on (fDRV_DISCH_ON_STOP d) && s.gState g == 0))

/-- The level driven on a discharge output: asserted high, or low with POL 1; an unassigned one is driven deasserted (R431). -/
def State.dischLevel (s : State) (d : Nat) : Bool := s.dischOn d != s.on (fDRV_DISCH_POL d)

/-- DISCH of DRV_STATUS: a discharge output of the group is asserted (R467). -/
def State.groupDisch (s : State) (g : Nat) : Bool :=
  (List.range 16).any fun d => s.f (fDRV_DISCH_GROUP d) == g && s.dischOn d

/-! ## Rails (R440 to R443) -/

/-- A rail beyond its register, and its replacement. -/
def State.rail (s : State) (r : Nat) : RailSt := smGet (fun _ => ⟨false, 0, none, 0⟩) s.drv.rails r
def State.setRail (s : State) (r : Nat) (x : RailSt) : State :=
  { s with drv := { s.drv with rails := smSet (fun _ => ⟨false, 0, none, 0⟩) s.drv.rails r x } }

/-- Power sequencing of a group, and its replacement. -/
def State.pwr (s : State) (g : Nat) : PwrSt := smGet (fun _ => ⟨0, 0, false, false⟩) s.drv.pwr g
def State.setPwr (s : State) (g : Nat) (x : PwrSt) : State :=
  { s with drv := { s.drv with pwr := smSet (fun _ => ⟨0, 0, false, false⟩) s.drv.pwr g x } }

/-- Rails of a group; of those, the ones of an order. -/
def State.railsOf (s : State) (g : Nat) : List Nat :=
  (List.range 48).filter fun r => s.on (fDRV_RAIL_EN r) && s.f (fDRV_RAIL_GROUP r) == g
def State.railsAt (s : State) (g k : Nat) : List Nat := (s.railsOf g).filter fun r => s.f (fDRV_RAIL_ORDER r) == k

/-- ON and OVR of a rail follow its sequence and its force (R443, R473). -/
def State.railShow (s : State) (r : Nat) : State :=
  let x := s.rail r
  (s.setOn (fDRV_RAIL_ON r) (x.force == 2 || (x.force == 0 && x.seqOn))).setOn (fDRV_RAIL_OVR r) (x.force != 0)

/-- The sequence asserts or deasserts a rail. -/
def State.railSeq (s : State) (r : Nat) (on : Bool) : State :=
  let now := s.time.raster
  let good := if on ∧ s.on (fDRV_RAIL_GOOD r) then some now else none
  (s.setRail r { s.rail r with seqOn := on, onTick := now, goodTick := good }).railShow r

/-- RSTATE of a group: 0 OFF, 1 RAMP_UP, 2 UP, 3 RAMP_DOWN, 4 FAULT (R467). -/
def State.rState (s : State) (g : Nat) : Nat := s.f (fDRV_STATUS_RSTATE g)

/-- Change RSTATE and raise RAIL_STATE; `rail` is 0xFF except at a fault (R463). -/
def State.setRState (s : State) (g st rail : Nat) : State :=
  let old := s.rState g
  if old = st then s
  else (s.setF (fDRV_STATUS_RSTATE g) st).raiseG 0x171 g [(8, st), (8, old), (8, rail)]

/-- Assert the lowest order from `k` upwards, or reach UP (R440). -/
def State.railUpFrom (s : State) (g k : Nat) : State :=
  match (List.range 8).find? fun j => decide (k ≤ j) && !(s.railsAt g j).isEmpty with
  | none => s.setRState g 2 0xFF
  | some j => (s.railsAt g j).foldl (fun s r => s.railSeq r true) (s.setPwr g { s.pwr g with order := j })

/-- Deassert the highest order of asserted rails below `k`, or end the power-down: a faulted group keeps RSTATE FAULT (R441,
R442). -/
def State.railDownFrom (s : State) (g k : Nat) : State :=
  let on := fun j => (s.railsAt g j).filter fun r => (s.rail r).seqOn
  match ((List.range 8).reverse).find? fun j => decide (j < k) && !(on j).isEmpty with
  | none =>
    let s := s.setPwr g { s.pwr g with down := false }
    if s.rState g = 3 then s.setRState g 0 0xFF else s
  | some j =>
    let rs := on j
    rs.foldl (fun s r => s.railSeq r false)
      (s.setPwr g { s.pwr g with order := j, offTick := s.time.raster, down := true })

/-- A power-down starts (R441). -/
def State.railDown (s : State) (g : Nat) : State :=
  let s := s.setPwr g { s.pwr g with down := true, downWaits := false }
  let s := if s.rState g = 4 then s else s.setRState g 3 0xFF
  s.railDownFrom g 8

/-- A write of PWR (R440, R441). PWR = 0 waits until the group is STOPPED; a PWR = 1 that comes first withdraws it. -/
def State.writePwr (s : State) (g : Nat) (up : Bool) : State :=
  let s := s.setOn (fDRV_CTRL_PWR g) up
  let st := s.rState g
  if up then
    if st = 0 ∨ st = 4 then
      ((s.setPwr g ⟨0, 0, false, false⟩).setRState g 1 0xFF).railUpFrom g 0
    else s.setPwr g { s.pwr g with downWaits := false }
  else if st = 1 ∨ st = 2 then
    if s.gState g = 0 then s.railDown g else s.setPwr g { s.pwr g with downWaits := true }
  else s

/-- A rail fault (R442). -/
def State.railFault (s : State) (g r : Nat) : State :=
  let old := s.rState g
  let s := s.setRState g 4 r
  let s := (s.fault 0x16 (0x800 + g) r old).stopGroup g
  if s.gState g = 0 then s.railDown g else s.setPwr g { s.pwr g with downWaits := true }

/-- A group enters STOPPED: a power-down that waited for it starts (R441, R442). -/
def State.railStopped (s : State) (g : Nat) : State := if (s.pwr g).downWaits then s.railDown g else s

/-- RAIL_ON_DELAY (R440): every rail of the current order has been good for its ON_DLY, in units of 100 µs. -/
def execRailOnDelay (g : Nat) (s : State) : Host.Outcome State Fault Refusal :=
  let k := (s.pwr g).order
  let ok := (s.railsAt g k).all fun r =>
    match (s.rail r).goodTick with
    | some t => decide (t + 160000 * s.f (fDRV_RAIL_ON_DLY r) ≤ s.time.raster)
    | none => false
  if 16 ≤ g ∨ s.rState g ≠ 1 ∨ ¬ ok then .next s else .next (s.railUpFrom g (k + 1))

/-- RAIL_OFF_DELAY (R441): the largest OFF_DLY of the order deasserted last has passed. -/
def execRailOffDelay (g : Nat) (s : State) : Host.Outcome State Fault Refusal :=
  let p := s.pwr g
  let d := ((s.railsAt g p.order).map fun r => s.f (fDRV_RAIL_OFF_DLY r)).foldl max 0
  if 16 ≤ g ∨ ¬ p.down ∨ s.time.raster < p.offTick + 160000 * d then .next s else .next (s.railDownFrom g p.order)

/-- RAILGOOD_EDGE (R440, R442): a fall while RSTATE is UP is a rail fault, except of a forced rail (R443). -/
def execRailgoodEdge (r : Nat) (level : Bool) (s : State) : Host.Outcome State Fault Refusal :=
  if 48 ≤ r ∨ s.on (fDRV_RAIL_GOOD r) = level then .next s
  else
    let g := s.f (fDRV_RAIL_GROUP r)
    let s := s.setOn (fDRV_RAIL_GOOD r) level
    let x := s.rail r
    let s := s.setRail r { x with goodTick := if level ∧ x.seqOn then some s.time.raster else none }
    if ¬ level ∧ s.on (fDRV_RAIL_EN r) ∧ s.rState g = 2 ∧ x.seqOn ∧ x.force = 0 then .next (s.railFault g r) else .next s

/-- RAIL_TIMEOUT (R440, R442): a rail of the current order has not shown RAILGOOD high within TMO ms of its assertion. -/
def execRailTimeout (r : Nat) (s : State) : Host.Outcome State Fault Refusal :=
  let g := s.f (fDRV_RAIL_GROUP r)
  let x := s.rail r
  let tmo := 1600000 * max 1 (s.f (fDRV_RAIL_TMO r))
  if 48 ≤ r ∨ ¬ s.on (fDRV_RAIL_EN r) ∨ s.rState g ≠ 1 ∨ ¬ x.seqOn ∨ x.force ≠ 0 ∨ x.goodTick.isSome ∨
      s.f (fDRV_RAIL_ORDER r) ≠ (s.pwr g).order ∨ s.time.raster < x.onTick + tmo then .next s
  else .next (s.railFault g r)

/-- A rail is forced or released (R443). -/
def State.railForce (s : State) (r act : Nat) : State :=
  if 48 ≤ r ∨ 3 ≤ act then s else (s.setRail r { s.rail r with force := act }).railShow r

/-! ## LCD commons and DC balance (R432, R433) -/

/-- Phase of common `c` in frame `f`: 1 negative (R432). -/
def State.phase (s : State) (g c f : Nat) : Nat := (s.f (fDRV_COM_START g c) + f) % 2

/-- PHASE of DRV_PHASE for a frame (R432): bits of the commons of an LCD group. -/
def State.phases (s : State) (g f : Nat) : Nat :=
  if s.tech g ≠ 0 then 0
  else ((List.range (s.f (fDRV_MODE_NCM1 g) + 1)).map fun c => s.phase g c f * 2 ^ c).sum

/-- A DC-balance counter (R433). -/
def State.dcb (s : State) (g c : Nat) : Int := sInt 32 (smGet (fun _ => 0) s.drv.dcb (32 * g + c))

/-- Book a frame that lasted `lines` line periods (R433): `tech` and `ncm1` are those of the frame. Counters saturate. -/
def State.bookDcb (s : State) (g tech ncm1 f lines : Nat) : State :=
  if tech ≠ 0 then s
  else
    (List.range (ncm1 + 1)).foldl (fun s c =>
      let d : Int := if s.phase g c f = 0 then lines else -(lines : Int)
      let v := max (-(2 ^ 31 : Int)) (min (2 ^ 31 - 1) (s.dcb g c + d))
      { s with drv := { s.drv with dcb := smSet (fun _ => 0) s.drv.dcb (32 * g + c) (toField 32 v) } }) s

/-! ## Checks (R425, R452) -/

/-- Base of the waveform table image, and its header (R452). -/
def State.wfBase (s : State) (g : Nat) : Nat := 256 * s.f (fBIS_WF_GRAN g)
def State.wfHeader (s : State) (g : Nat) : List Byte := s.fsBytes (s.wfBase g) 256

/-- A 16-bit value, NMODES, NPH of a mode, and the lower bound of a band from 1 to 15, of a header (R452). -/
def hdrHalf (h : List Byte) (i : Nat) : Nat := leNat ((h.drop i).take 2)
def hdrModes (h : List Byte) : Nat := hdrHalf h 2
def hdrPhases (h : List Byte) (m : Nat) : Nat := hdrHalf h (16 + 2 * m)
def hdrTh (h : List Byte) (b : Nat) : Int := sInt 16 (hdrHalf h (48 + 2 * b))

/-- Does a header pass its check (R452)? Bytes 48 and 49 are unused. -/
def hdrOk (h : List Byte) : Bool :=
  let n := hdrModes h
  hdrHalf h 0 == 1 && decide (1 ≤ n ∧ n ≤ 16) &&
    ((List.range n).all fun m => decide (1 ≤ hdrPhases h m ∧ hdrPhases h m ≤ 256)) &&
    ((List.range 14).all fun b => decide (hdrTh h (b + 1) < hdrTh h (b + 2))) &&
    leNat (h.drop 252) == crc32c (h.take 252) &&
    (((h.drop 4).take 12).all fun b => b == 0#8) && (((h.drop 80).take 172).all fun b => b == 0#8)

/-- The header as the engine reads it: nothing where it is unreadable. -/
def State.readHdr (s : State) (g : Nat) : List Byte := if s.poisonedIn (s.wfBase g) 256 then [] else s.wfHeader g

/-- Does the waveform table of a group pass the check of code 18 with the header `h` that was read (R452)? -/
def State.wfOk (s : State) (g : Nat) (h : List Byte) : Bool :=
  decide (s.wfBase g + 256 + 65536 * 16 * hdrModes h ≤ fsEnd) && hdrOk h

/-- Base and row pitch of the level plane (R447). -/
def State.lvlBase (s : State) (g : Nat) : Nat := 256 * s.f (fBIS_LVL_GRAN g)
def State.lvlPitch (s : State) (g : Nat) : Nat := 64 * s.f (fBIS_CFG_PITCH g)

/-- Code 17: the commons of an LCD group (R425). -/
def State.commonsBad (s : State) (g : Nat) : Bool :=
  let n := s.f (fDRV_MODE_NCM1 g)
  s.f (fDRV_COM_FIRST g 0) != 0 ||
    ((List.range n).any fun c => decide (s.f (fDRV_COM_FIRST g (c + 1)) ≤ s.f (fDRV_COM_FIRST g c))) ||
    decide (s.vact g ≤ s.f (fDRV_COM_FIRST g n))

/-- The code of R425 with the values in effect and the waveform header `h`, 0 if none: the lowest that fails. -/
def State.driveCode (s : State) (g : Nat) (start : Bool) (h : List Byte) : Nat :=
  let t := s.tech g
  if 5 ≤ t ∨ (start ∧ s.rState g ≠ 2) then 16
  else if t = 0 ∧ s.commonsBad g then 17
  else if t = 3 ∧ (¬ s.wfOk g h ∨ s.lvlPitch g < 2 * s.hact g ∨ fsEnd < s.lvlBase g + s.vact g * s.lvlPitch g) then 18
  else 0

/-- Does a write set carry a register of R425? -/
def driveChecks (g : Nat) (ws : List WsWord) : Bool :=
  wsHasAny ws [(fDRV_MODE_TECH g).addr, (fBIS_WF_GRAN g).addr, (fBIS_LVL_GRAN g).addr, (fBIS_CFG_PITCH g).addr,
    (fTMG_HACT_VALUE g).addr, (fTMG_VACT_VALUE g).addr]

/-- Does a write set change a driver-IC mode field of R426? -/
def State.driverChange (s : State) (g : Nat) (ws : List WsWord) : Bool :=
  ws.any fun w => w.addr == (fDRV_MODE_TECH g).addr &&
    [fDRV_MODE_TECH g, fDRV_MODE_INV g, fDRV_MODE_DRIVE g, fDRV_MODE_NCM1 g].any fun f =>
      bitsOf w.mask (f.lo + f.w - 1) f.lo != 0 && bitsOf w.val (f.lo + f.w - 1) f.lo != s.f f

/-! ## Panel temperature (R439) -/

def State.tempFails (s : State) (g : Nat) : Nat := smGet (fun _ => 0) s.drv.tempFails g
def State.setTemp (s : State) (g fails : Nat) (busy : Bool) : State :=
  { s with drv := { s.drv with
      tempFails := smSet (fun _ => 0) s.drv.tempFails g fails
      tempBusy := smSet (fun _ => false) s.drv.tempBusy g busy } }

/-- PANEL_TEMP_POLL: every 100 ms a read of two bytes of the sensor starts while EN is 1, at target ADDR on bus BUS. -/
def execPanelTempPoll (g : Nat) (s : State) : Host.Outcome State Fault Refusal :=
  if 16 ≤ g ∨ ¬ s.on (fDRV_TEMP_EN g) then .next s
  else .next ((s.setTemp g (s.tempFails g) true).out (.tempRead (s.f (fDRV_TEMP_BUS g)) (s.f (fDRV_TEMP_ADDR g))))

/-- VALID changes, and PANEL_TEMP is raised. -/
def State.tempValid (s : State) (g : Nat) (v : Bool) : State :=
  if s.on (fDRV_TEMP_VALID g) = v then s
  else (s.setOn (fDRV_TEMP_VALID g) v).raiseG 0x176 g [(8, b2n v), (8, 0), (16, s.f (fDRV_TEMP_TEMP g))]

/-- PANEL_TEMP_READ_DONE: the two bytes read, most significant first, or a failed read. -/
def execPanelTempReadDone (g : Nat) (ok : Bool) (raw : Nat) (s : State) : Host.Outcome State Fault Refusal :=
  if 16 ≤ g ∨ ¬ smGet (fun _ => false) s.drv.tempBusy g then .next s
  else if ok then
    .next (((s.setTemp g 0 false).setF (fDRV_TEMP_TEMP g) (toField 16 (sInt 12 (raw / 16 % 4096)))).tempValid g true)
  else
    let n := min 3 (s.tempFails g + 1)
    let s := s.setTemp g n false
    .next (if n = 3 then s.tempValid g false else s)

/-! ## Power failure (R444 to R447) -/

/-- Do the levels of the two sources trip (R444)? CAUSE: bit 0 PFAIL_N, bit 1 VIN. -/
def State.pfCause (s : State) : Nat :=
  b2n (s.on fDRV_PF_PIN_EN && s.drv.pfailLow) + 2 * b2n (s.on fDRV_PF_VIN_EN && s.drv.vinLow)

/-- PFAIL_N has been low for four samples (`pinLow`), VIN_SENSE below VIN_THR for 100 ns (`vinLow`). -/
def State.pfTrip (s : State) (pinLow vinLow : Bool) : State :=
  let s := { s with drv := { s.drv with pfailLow := pinLow, vinLow := vinLow } }
  let cause := s.pfCause
  if cause = 0 ∨ s.on fDRV_PF_TRIPPED then s
  else
    let s := (s.setW1c fDRV_PF_TRIPPED 0).setF fDRV_PF_CAUSE cause
    let s := { s with drv := { s.drv with tripTick := some s.time.master } }
    let e : Ev := ⟨s.time.master, 0x172, false, 0xE00, 0, cause⟩
    let s := (s.raise 0x172 0xE00 0 [(8, cause)]).nvTrip e
    allGroups.foldl (fun s g => s.stopGroup g) s

/-- A write of 1 to TRIPPED (R447). -/
def State.clearTripped (s : State) : State :=
  if s.on fDRV_PF_TRIPPED ∧ s.pfCause = 0 ∧ s.w1cNow fDRV_PF_TRIPPED = 0 then
    { s.setF fDRV_PF_TRIPPED 0 with drv := { s.drv with tripTick := none, discharged := false } }
  else s

/-! ## Bonbon lines (R458 to R460) -/

/-- Bits of a window pixel, and codes of a component. -/
def State.bonBits (s : State) : Nat := 2 ^ min 2 (s.f fDRV_BON_CFG_BPP)
def State.bonDepth (s : State) : Nat := max 6 (min 12 (s.f fDRV_BON_CFG_DEPTH))
def State.bonWidth (s : State) : Nat := s.f fDRV_BON_CFG_WM1 + 1

/-- A byte of the always-on SRAM. -/
def State.bonByte (s : State) (a : Nat) : Nat := (smGet (fun _ => 0#8) s.drv.bonMem a).toNat

/-- The value of window pixel (x, r) (R458). -/
def State.bonPixel (s : State) (x r : Nat) : Nat :=
  let b := s.bonBits
  s.bonByte (r * s.bonWidth * b / 8 + x * b / 8) / 2 ^ (x * b % 8) % 2 ^ b

/-- The drive codes of a window pixel with their widths, each with its spare code when SPR is 1 (R460). -/
def State.bonCodes (s : State) (x r : Nat) : List (Nat × Nat) :=
  let i := s.bonPixel x r
  let d := s.bonDepth
  [s.f (fDRV_BON_PAL_R i), s.f (fDRV_BON_PAL_G i), s.f (fDRV_BON_PAL_B i)].flatMap fun v =>
    (d, expand v 10 / 2 ^ (14 - d)) :: (if s.on fDRV_BON_CFG_SPR then [(3, 0)] else [])

/-- Is the window configuration valid (R459)? -/
def State.bonOk (s : State) : Bool :=
  let w := s.bonWidth
  decide (w * (s.f fDRV_BON_CFG_HM1 + 1) * s.bonBits ≤ 8 * 524288 ∧ w % 8 = 0) &&
    (List.range 4).all fun i => !s.on (fDRV_BON_CH_EN i) ||
      decide (8 * s.f (fDRV_BON_CH_COFS i) + (s.f (fDRV_BON_CH_PM1 i) + 1) * (s.f (fDRV_BON_CH_NCM1 i) + 1) ≤ w)

/-- Payload blocks of a partner's packet on BON chain `i`. -/
def State.bonLen (s : State) (i : Nat) : Nat :=
  ((s.f (fDRV_BON_CH_NCM1 i) + 1) * 3 * (s.bonDepth + 3 * s.f fDRV_BON_CFG_SPR) + 63) / 64

/-- Send one line on BON chain `i` (R460). The frame number of the SOS is a free value: the block has no frame. -/
def State.bonChain (s : State) (i : Nat) : State :=
  let c := s.f (fDRV_BON_CH_CHAIN i)
  let n := s.f (fDRV_BON_CH_NCM1 i) + 1
  let line := s.f fDRV_BON_CTRL_Y0 + s.f fDRV_BON_CTRL_LINE
  (List.range (s.f (fDRV_BON_CH_PM1 i) + 1)).foldl (fun s j =>
    let (f, s) := s.draw 8
    let x0 := 8 * s.f (fDRV_BON_CH_COFS i) + j * n
    let bits := msbBits ((List.range n).flatMap fun x => s.bonCodes (x0 + x) (s.f fDRV_BON_CTRL_LINE))
    ((s.sendCtl c (sosBlock (j == 0) j j 0 line f 0)).sendPkt c (pixPacket (16 * c + j) (s.bonLen i) bits)).sendCtl c
      (eosBlock j false)) s

/-- A write of SEND = 1 (R460); SQA keeps sending until stage 8 of the start-up that follows EXIT (R685). -/
def State.bonSend (s : State) : State :=
  if ¬ s.on fDRV_BON_CTRL_ACTIVE ∧ ¬ s.boot.bonbonExit then s.setF fDRV_BON_CTRL_ERR 4
  else if s.time.raster < s.drv.bonUntil then s.setF fDRV_BON_CTRL_ERR 3
  else
    let chains := (List.range 4).filter fun i => s.on (fDRV_BON_CH_EN i)
    let dur := chains.map fun i =>
      let rate := s.f (fLNK_CFG_RATE (s.f (fDRV_BON_CH_CHAIN i)))
      blockTick rate (blockAt rate s.time.raster + (s.f (fDRV_BON_CH_PM1 i) + 1) * (s.bonLen i + 4))
    let s := chains.foldl (fun s i => s.bonChain i) s
    { s with drv := { s.drv with bonUntil := dur.foldl max 0 } }

end Sys2Proof.Machine
end

