-- ==== Sys2Proof/Machine/Pixel.lean ====
section
/-!
DEFINITION. The pixel pipeline (R138 to R170): tables and their banks, the table-load engine, degamma and gamma,
correction planes, defects, overdrive with its history plane, glaze; one span at a time.
-/
namespace Sys2Proof.Machine

/-- Clamp to 0..16,383 (R139). -/
def clampInt (v : Int) : Nat := (max 0 (min 16383 v)).toNat
def clamp14 (v : Nat) : Nat := min 16383 v

/-! ## Tables (R143 to R149) -/

/-- Key of a table entry. -/
def tblKey (g kind bank i : Nat) : Nat := ((g * 3 + kind) * 2 + bank) * 65536 + i

/-- Entries of an image (R143). -/
def tblEntries : Nat → Nat
  | 0 => 3846
  | 1 => 26136
  | _ => 4096

/-- A table entry: cut to its width, and GAMMA and OD entries above 16,384 act as 16,384 (R143, R144). -/
def State.tbl (s : State) (g kind bank i : Nat) : Nat :=
  let v := smGet (fun _ => 0) s.pix.tables (tblKey g kind bank i)
  if kind = 2 then v % 4096 else min 16384 (v % 32768)

/-- Field of PIX_STATUS with the LOADED bits of a kind (R184). -/
def fLoaded (g kind : Nat) : Fld :=
  match kind with
  | 0 => fPIX_STATUS_GAM_LD g
  | 1 => fPIX_STATUS_OD_LD g
  | _ => fPIX_STATUS_NOISE_LD g

/-- Field of PIX_CFG that selects the bank of a kind (R175). -/
def fBank (g kind : Nat) : Fld :=
  match kind with
  | 0 => fPIX_CFG_GAM_BANK g
  | 1 => fPIX_CFG_OD_BANK g
  | _ => fPIX_CFG_NOISE_BANK g

/-- The selected bank of a kind, if it is loaded (R149). -/
def State.bankOf (s : State) (g kind : Nat) : Option Nat :=
  let b := s.f (fBank g kind)
  if bit (s.f (fLoaded g kind)) b = 1 then some b else none

/-- Does a commit select bank `b` of `kind` for group `g`? -/
def commitSelects (g kind b : Nat) (c : Commit) : Bool :=
  let f := fBank g kind
  c.ws.any fun w => w.addr == f.addr && bit w.mask f.lo == 1 && bit w.val f.lo == b

/-- Commits of a group that have arrived and not yet taken effect. -/
def Grp.waitingCommits (x : Grp) : List Commit := x.held ++ x.attr ++ x.later

/-- A bank is in use (R146). -/
def State.bankInUse (s : State) (g kind b : Nat) : Bool :=
  (s.gState g != 0 && s.f (fBank g kind) == b) ||
    (Grp.waitingCommits (s.grp g)).any fun c => commitSelects g kind b c

/-- A transfer ends: RESULT, ROUNDS, TLD_DONE (R148, R173). -/
def State.endTld (s : State) (t : Tld) (result : Nat) : State :=
  let s := { s with pix := { s.pix with tld := none } }
  let s := (s.setF fPIX_TLD_STATUS_BUSY 0).setF fPIX_TLD_STATUS_RESULT result
  let s := s.setF fPIX_TLD_STATUS_ROUNDS (min t.rounds 65535)
  let s := if result = 1 then s.deferred 8 else s
  s.raiseG 0x123 t.group [(8, result), (8, t.kind), (8, t.bank), (8, t.dir), (16, min t.rounds 65535)]

/-- A write to PIX_TLD_CTRL (R145 to R148, R185). -/
def State.writeTldCtrl (s : State) (by_ v : Nat) : State :=
  let s := (s.setF fPIX_TLD_CTRL_DIR (bit v 30)).setF fPIX_TLD_CTRL_GROUP (bitsOf v 27 24)
  let s := (s.setF fPIX_TLD_CTRL_KIND (bitsOf v 21 20)).setF fPIX_TLD_CTRL_BANK (bit v 16)
  if bit v 31 = 0 then s
  else if s.on fPIX_TLD_STATUS_BUSY then s.setW1c fPIX_TLD_STATUS_REJECT 0
  else
    let t : Tld := ⟨bitsOf v 27 24, bitsOf v 21 20, bit v 16, bit v 30, s.f fPIX_TLD_SRC_GRAN, 0, by_⟩
    let s := if t.dir = 0 ∧ t.kind ≠ 3 then s.putBit (fLoaded t.group t.kind) t.bank false else s
    if t.kind = 3 then s.endTld t 5
    else if t.dir = 0 ∧ s.bankInUse t.group t.kind t.bank then
      (s.err 1 fPIX_TLD_CTRL_GO.addr).endTld t 2
    else if fsEnd < 256 * t.gran + 2 * tblEntries t.kind then s.endTld t 3
    else ({ s with pix := { s.pix with tld := some t } }).setF fPIX_TLD_STATUS_BUSY 1

/-- Write entries `i` and up of a bank; bits above an entry's width are ignored (R143). -/
def loadEntries (g kind bank : Nat) : Nat → List Byte → SMap Nat → Nat → SMap Nat
  | 0, _, m, _ => m
  | n + 1, bs, m, i =>
    loadEntries g kind bank n (bs.drop 2) (smSet (fun _ => 0) m (tblKey g kind bank i) (leNat (bs.take 2) % 2 ^ (if kind = 2 then 12 else 15)))
      (i + 1)

/-- TLD_DONE (R148): the transfer ends, after `rounds` rounds of deferral. -/
def execTldDone (rounds : Nat) (s : State) : Host.Outcome State Fault Refusal :=
  match s.pix.tld with
  | none => .next s
  | some t =>
    let t := { t with rounds := rounds }
    let n := tblEntries t.kind
    let a := 256 * t.gran
    let ok := if rounds = 0 then 0 else 1
    if t.dir = 1 then
      let bs := (List.range n).flatMap fun i =>
        leBytes 2 (smGet (fun _ => 0) s.pix.tables (tblKey t.group t.kind t.bank i))
      .next ((s.devWrite (tagCopy t.by_ noOwner) a bs).endTld t ok)
    else
      match s.devRead a (2 * n) with
      | (none, s) => .next s
      | (some bs, s) =>
        if s.poisonedIn a (2 * n) then .next (s.endTld t 4)
        else
          let s := { s with pix := { s.pix with tables := loadEntries t.group t.kind t.bank n bs s.pix.tables 0 } }
          .next ((s.putBit (fLoaded t.group t.kind) t.bank true).endTld t ok)

/-! ## Degamma and gamma (R151) -/

/-- Degamma of component `c`. -/
def State.degamma (s : State) (g bank c v : Nat) : Nat :=
  let d := fun i => s.tbl g 0 bank (257 * c + i)
  clamp14 ((d (v / 64) * (64 - v % 64) + d (v / 64 + 1) * (v % 64) + 32) / 64)

/-- Gamma of component `c`. -/
def State.gamma (s : State) (g bank c v : Nat) : Nat :=
  let d := fun i => s.tbl g 0 bank (771 + 1025 * c + i)
  clamp14 ((d (v / 16) * (16 - v % 16) + d (v / 16 + 1) * (v % 16) + 8) / 16)

/-! ## Correction planes (R152 to R155) -/

/-- A correction plane of a group: 0 demura, 1 aging. -/
def State.planeBase (s : State) (g k : Nat) : Nat :=
  256 * (if k = 0 then s.f (fPIX_DMU_BASE_GRAN g) else s.f (fPIX_AGE_BASE_GRAN g))
def State.planePitch (s : State) (g k : Nat) : Nat :=
  64 * (if k = 0 then s.f (fPIX_DMU_GEOM_PITCH g) else s.f (fPIX_AGE_GEOM_PITCH g))
def State.planeBlk (s : State) (g k : Nat) : Nat :=
  if k = 0 then s.f (fPIX_DMU_GEOM_BLK g) else s.f (fPIX_AGE_GEOM_BLK g)
def State.planeEn (s : State) (g k : Nat) : Bool :=
  if k = 0 then s.on (fPIX_CFG_DMU_EN g) else s.on (fPIX_CFG_AGE_EN g)

/-- Address of the entry for a pixel (R152). -/
def State.planeAddr (s : State) (g k x y : Nat) : Nat :=
  let b := 2 ^ s.planeBlk g k
  s.planeBase g k + y / b * s.planePitch g k + 6 * (x / b)

/-- The 64-byte lines of the frame store that an entry lies in. -/
def entryLines (a : Nat) : List Nat := [a / 64, (a + 5) / 64]

/-- Does a 64-byte line around an entry fail, now or before in the frame being processed (R155)? -/
def State.planeBad (s : State) (g a : Nat) : Bool :=
  (entryLines a).any fun l => smGet (fun _ => false) s.pix.badLines (g * 2 ^ 40 + l) || s.poisonedIn (64 * l) 64

/-- Gain and offset a plane contributes to component `c` of a pixel: zero when disabled, invalid or unreadable (R153). -/
def State.planeGain (s : State) (g k c x y : Nat) : Int × Int :=
  let a := s.planeAddr g k x y
  if ¬ s.planeEn g k ∨ bit (s.f (fPIX_STATUS_INV g)) k = 1 ∨ s.planeBad g a then (0, 0)
  else
    let w := leNat (s.fsBytes (a + 2 * c) 2)
    (sInt 8 (w / 256), sInt 8 (w % 256))

/-- The demura and aging stage on one component (R153). -/
def correct (v : Nat) (d a : Int × Int) : Nat :=
  let t : Int := (v : Int) * (512 + d.1)
  let t := (t * (512 + a.1) + 131072) / 262144
  clampInt (t + 4 * (d.2 + a.2))

/-- Check of a plane of `bytes` per block of `b` pixels: code 1, code 2 or 0 (R154). -/
def planeCheck (base pitch bytes b hact vact : Nat) : Nat :=
  if pitch < bytes * ceilDiv hact b then 1
  else if fsEnd < base + pitch * ceilDiv vact b then 2
  else 0

/-- Code of plane `k` (0 demura, 1 aging, 2 history) with the state in effect, 0 when valid or not enabled (R154, R162). -/
def State.planeCode (s : State) (g k : Nat) : Nat :=
  if k = 2 then
    if s.on (fPIX_CFG_OD_EN g) then
      planeCheck (256 * s.f (fPIX_HIST_BASE_GRAN g)) (64 * s.f (fPIX_HIST_GEOM_PITCH g)) 2 2 (s.hact g) (s.vact g)
    else 0
  else if s.planeEn g k then
    planeCheck (s.planeBase g k) (s.planePitch g k) 6 (2 ^ s.planeBlk g k) (s.hact g) (s.vact g)
  else 0

/-- Is plane `k` enabled: demura, aging, history? -/
def State.planeOn (s : State) (g k : Nat) : Bool := if k = 2 then s.on (fPIX_CFG_OD_EN g) else s.planeEn g k

/-- Check the enabled ones of some planes of a group: INV bits and PIPE_INVALID (R154, R162, R165). The bit of a plane that is not
enabled keeps its value until a later check passes. -/
def State.checkPlanes (s : State) (g : Nat) (ks : List Nat) : State :=
  ks.foldl (fun s k =>
    let code := s.planeCode g k
    let s := if s.planeOn g k then s.putBit (fPIX_STATUS_INV g) k (code != 0) else s
    let s := if code ≠ 0 ∧ k = 2 then s.setF (fPIX_STATUS_HIST_VALID g) 0 else s
    if code = 0 then s else s.raiseG 0x120 g [(8, k), (8, code)]) s

/-! ## Stages 3 to 5 -/

/-- The drive code of a pixel after stages 2 to 5 (R138). -/
def State.driveAt (s : State) (g x y : Nat) : Option (List Nat) :=
  (s.composeAt g x y).map fun cs =>
    let bank := s.bankOf g 0
    let one := fun (c v : Nat) =>
      let v := match bank with
        | some b => if s.on (fPIX_CFG_DEGAM_EN g) then s.degamma g b c v else v
        | none => v
      let v := match bank with
        | some b => if s.on (fPIX_CFG_GAM_EN g) then s.gamma g b c v else v
        | none => v
      if s.planeEn g 0 ∨ s.planeEn g 1 then correct v (s.planeGain g 0 c x y) (s.planeGain g 1 c x y) else v
    cs.zipIdx.map fun e => one e.2 e.1

/-! ## Defects (R156 to R161) -/

/-- Valid entries of the defect table within a window, in table order; an entry with an uncorrectable error counts as
VALID = 0 (R159, R172). VALID resets to 0, so every valid entry has a listed VALID field. -/
def State.windowDefects (s : State) (first last : Nat) : List Nat :=
  s.regs.filterMap fun e =>
    let a := e.1 / 32
    let n := (a - 0x02700000) / 0x10
    if e.1 % 32 = 31 ∧ 0x02700000 ≤ a ∧ a < 0x02800000 ∧ (a - 0x02700000) % 0x10 = 0 ∧ e.2 = 1 ∧ first ≤ n ∧ n ≤ last ∧
        smGet (fun _ => false) s.pix.badDefects n = false then some n
    else none

/-- The key (LINE, COL) of an entry as one number (R159). -/
def State.defKey (s : State) (n : Nat) : Nat := 65536 * s.f (fDEFE_LINE n) + s.f (fDEFE_COL n)

/-- Why an entry is skipped whatever the line: reasons 1 to 3, 0 accepted (R159). -/
def State.defReason (s : State) (g n maxKey : Nat) : Nat :=
  if s.f (fDEFE_GROUP n) ≠ g then 1
  else if s.defKey n < maxKey then 2
  else if 4 < s.f (fDEFE_KIND n) ∨ s.f (fDEFE_ACTION n) = 3 ∨ (s.f (fDEFE_KIND n) = 1 ∧ s.f (fDEFE_SUBC n) = 3) ∨
      (s.f (fDEFE_ACTION n) = 2 ∧ s.tech g ≠ 2) then 3
  else 0

/-- Walk the window: accepted entries in table order, and skipped ones with their reason (R159). -/
def State.walkDefects (s : State) (g : Nat) : List Nat → Nat → List Nat × List (Nat × Nat)
  | [], _ => ([], [])
  | n :: ns, maxKey =>
    match s.defReason g n maxKey with
    | 0 => let r := s.walkDefects g ns (max maxKey (s.defKey n)); (n :: r.1, r.2)
    | k => let r := s.walkDefects g ns maxKey; (r.1, (n, k) :: r.2)

/-- The walk of a group's window. -/
def State.defects (s : State) (g : Nat) : List Nat × List (Nat × Nat) :=
  s.walkDefects g (s.windowDefects (s.f (fDEF_WIN_FIRST g)) (s.f (fDEF_WIN_LAST g))) 0

/-- Does entry `n` cover component `c` of pixel (x, y) (R158)? -/
def State.defCovers (s : State) (n c x y : Nat) : Bool :=
  let col := s.f (fDEFE_COL n)
  let line := s.f (fDEFE_LINE n)
  let len := bitsOf (s.f (fDEFE_EXT_MASK_LO n)) 15 0
  match s.f (fDEFE_KIND n) with
  | 0 => x == col && y == line
  | 1 => x == col && y == line && c == s.f (fDEFE_SUBC n)
  | 2 => y == line && decide (col ≤ x ∧ x ≤ col + len)
  | 3 => x == col && decide (line ≤ y ∧ y ≤ line + len)
  | _ =>
    decide (col ≤ x ∧ x < col + 8 ∧ line ≤ y ∧ y < line + 8) &&
      bit (s.f (fDEFE_EXT_MASK_LO n) + 2 ^ 32 * s.f (fDEFE_MASK_HI n)) (8 * (y - line) + (x - col)) == 1

/-- Does entry `n` cover an element of line `y` in the active area? -/
def State.defTouches (s : State) (g n y : Nat) : Bool :=
  let col := s.f (fDEFE_COL n)
  let line := s.f (fDEFE_LINE n)
  let len := bitsOf (s.f (fDEFE_EXT_MASK_LO n)) 15 0
  decide (y < s.vact g ∧ col < s.hact g) &&
    (match s.f (fDEFE_KIND n) with
    | 3 => decide (line ≤ y ∧ y ≤ line + len)
    | 4 => decide (line ≤ y ∧ y < line + 8) &&
        (List.range 8).any fun c => decide (col + c < s.hact g) && s.defCovers n 0 (col + c) y
    | _ => y == line)

/-- Entries in effect on line `y`: at most the first 2,048 accepted entries that cover elements of it (R159 reason 4). -/
def State.lineDefects (s : State) (g y : Nat) (acc : List Nat) : List Nat :=
  (acc.filter fun n => s.defTouches g n y).take 2048

/-- The last accepted entry that covers an element, if any (R161). -/
def State.coverOf (s : State) (g c x y : Nat) (acc : List Nat) : Option Nat :=
  ((s.lineDefects g y acc).filter fun n => s.defCovers n c x y).getLast?

/-- Stage 6 at a pixel: its three values and their spare codes (R160). -/
def State.defectAt (s : State) (g x y : Nat) : Option (List Nat × List Nat) :=
  if ¬ s.on (fPIX_CFG_DEF_EN g) then (s.driveAt g x y).map fun v => (v, [0, 0, 0])
  else
    let acc := (s.defects g).1
    let near : List (Nat × Nat) :=
      (if x = 0 then [] else [(x - 1, y)]) ++ (if x + 1 < s.hact g then [(x + 1, y)] else []) ++
        (if y = 0 then [] else [(x, y - 1)]) ++ (if y + 1 < s.vact g then [(x, y + 1)] else [])
    match s.driveAt g x y with
    | none => none
    | some vs =>
      let elem := fun (c v : Nat) =>
        match s.coverOf g c x y acc with
        | some n =>
          (match s.f (fDEFE_ACTION n) with
          | 0 => some 0
          | 1 => some (clamp14 ((v * s.f (fDEFE_ARG n) + 8192) / 16384))
          | _ => some v)
        | none =>
          let fill := near.foldl (fun (t : Option Nat) q =>
            match t, s.coverOf g c q.1 q.2 acc with
            | some t, some n =>
              if s.f (fDEFE_ACTION n) = 0 then
                (s.driveAt g q.1 q.2).map fun w => t + ((w.getD c 0) * s.f (fDEFE_ARG n) + 32768) / 65536
              else some t
            | t, _ => t) (some 0)
          fill.map fun t => clamp14 (v + t)
      let spare := (List.range 3).map fun c =>
        match s.coverOf g c x y acc with
        | some n => if s.f (fDEFE_ACTION n) = 2 then s.f (fDEFE_ARG n) % 4 + 1 else 0
        | none => 0
      match (vs.zipIdx.map fun e => elem e.2 e.1) with
      | [some a, some b, some c] => some ([a, b, c], spare)
      | _ => none

/-- An entry was counted as skipped in the frame being processed. -/
def State.wasSkipped (s : State) (g n : Nat) : Bool := smGet (fun _ => false) s.pix.skipped (g * 2 ^ 20 + n)

/-- Entries skipped at line `y` are counted, each once per frame, and the first of the frame raises DEFECT_SKIP: reasons 1 to 3 as
the walk starts, reason 4 on the line whose limit is exceeded (R159, R173, R189). -/
def State.noteSkips (s : State) (g y : Nat) : State :=
  if ¬ s.on (fPIX_CFG_DEF_EN g) then s
  else
    let d := s.defects g
    let tooMany := ((d.1.filter fun n => s.defTouches g n y).drop 2048).map fun n => (n, 4)
    let all := ((if y = 0 then d.2 else []) ++ tooMany).filter fun e => !s.wasSkipped g e.1
    match all with
    | [] => s
    | (n, r) :: _ =>
      let s := s.count (fDEF_SKIP_CNT_SKIPS g) all.length
      let s := { s with pix := { s.pix with
        skipped := all.foldl (fun m e => smSet (fun _ => false) m (g * 2 ^ 20 + e.1) true) s.pix.skipped } }
      if (s.grp g).skipRaised then s
      else
        let s := s.setGrp g { s.grp g with skipRaised := true }
        s.raiseG 0x121 g [(8, r), (8, 0), (48, s.procFrame g), (16, y), (16, n)]

/-! ## Overdrive (R162 to R167) -/

/-- Address of the history word of block (bx, by) (R162). -/
def State.histAddr (s : State) (g bx by_ : Nat) : Nat :=
  256 * s.f (fPIX_HIST_BASE_GRAN g) + by_ * (64 * s.f (fPIX_HIST_GEOM_PITCH g)) + 2 * bx

/-- Is overdrive in force for the group: enabled, not bistable (R170), table bank loaded (R149)? -/
def State.odOn (s : State) (g : Nat) : Bool :=
  s.on (fPIX_CFG_OD_EN g) && s.tech g != 3

/-- The history plane is valid and written: in a bistable group too, though overdrive is bypassed there (R163, R170). -/
def State.histOn (s : State) (g : Nat) : Bool := s.on (fPIX_CFG_OD_EN g) && bit (s.f (fPIX_STATUS_INV g)) 2 == 0

/-- Overdrive of one element from its previous value (R166). -/
def State.odValue (s : State) (g bank b c p t : Nat) : Nat :=
  let e := fun i j => s.tbl g 1 bank (((b * 3 + c) * 33 + i) * 33 + j)
  let i := p / 512
  let fi := p % 512
  let j := t / 512
  let fj := t % 512
  clamp14 ((e i j * (512 - fi) * (512 - fj) + e (i + 1) j * fi * (512 - fj) + e i (j + 1) * (512 - fi) * fj +
    e (i + 1) (j + 1) * fi * fj + 131072) / 262144)

/-- Stage 7 at a pixel with target values `ts` (R164, R166). -/
def State.overdriveAt (s : State) (g x y : Nat) (ts : List Nat) : List Nat :=
  match s.bankOf g 1 with
  | none => ts
  | some bank =>
    if ¬ s.odOn g ∨ ¬ s.on (fPIX_STATUS_HIST_VALID g) then ts
    else
      let a := s.histAddr g (x / 2) (y / 2)
      let w := leNat (s.fsBytes a 2)
      if s.poisonedIn a 2 ∨ bit w 15 = 1 then ts
      else
        let q := [bitsOf w 14 10, bitsOf w 9 5, bitsOf w 4 0]
        ((ts.zip q).zipIdx).map fun e => s.odValue g bank (s.f (fPIX_STATUS_BAND g)) e.2 (expand e.1.2 5) e.1.1

/-- The word of a block from its four pixels (R163). -/
def histWord (edgeThr : Nat) (forceEdge : Bool) (px : List (List Nat)) : Nat :=
  let comp := fun c => px.map fun p => p.getD c 0
  let q := fun c => (((comp c).sum + 2) / 4 * 31 + 8191) / 16383
  let spread := fun c => (comp c).foldl max 0 - (comp c).foldl min 16383
  let edge := forceEdge || (edgeThr != 0 && [0, 1, 2].any fun c => decide (4 * edgeThr < spread c))
  packBits [(5, q 2), (5, q 1), (5, q 0), (1, b2n edge)]

/-- Key of a value entering overdrive. -/
def odvKey (g y x : Nat) : Nat := (g * 65536 + y) * 65536 + x

/-- The values kept for pixel (x, y), none while it is not processed (R163 step 1: beyond the edge, the nearest pixel). -/
def State.odvAt (s : State) (g x y : Nat) : Option (List Nat) :=
  let v := smGet (fun _ => 0) s.pix.odv (odvKey g (min y (s.vact g - 1)) (min x (s.hact g - 1)))
  if v < 2 ^ 42 then none else some [v % 16384, v / 16384 % 16384, v / 2 ^ 28 % 16384]

/-- Did line `y` underrun in this frame? -/
def State.urOn (s : State) (g y : Nat) : Bool := smGet (fun _ => false) s.pix.urLines (g * 65536 + y)

/-- A line of the frame in progress counts as not sent (R163). -/
def State.unsentOn (s : State) (g y : Nat) : Bool := smGet (fun _ => false) s.pix.unsent (g * 65536 + y)

/-- Lines count as not sent. -/
def State.markUnsent (s : State) (g : Nat) (ys : List Nat) : State :=
  { s with pix := { s.pix with unsent := ys.foldl (fun m y => smSet (fun _ => false) m (g * 65536 + y) true) s.pix.unsent } }

/-- Write history block (bx, by) once its pixels are processed and its lines over, with EDGE where one of them underran; a block with
a line that is not sent stays unwritten (R163). -/
def State.histBlock (s : State) (g by_ bx : Nat) : State :=
  let x := 2 * bx
  let y := 2 * by_
  match s.odvAt g x y, s.odvAt g (x + 1) y, s.odvAt g x (y + 1), s.odvAt g (x + 1) (y + 1) with
  | some a, some b, some c, some d =>
    let odv := [odvKey g y x, odvKey g y (x + 1), odvKey g (y + 1) x, odvKey g (y + 1) (x + 1)].foldl
      (fun m k => smSet (fun _ => 0) m k 0) s.pix.odv
    if s.unsentOn g y ∨ s.unsentOn g (min (y + 1) (s.vact g - 1)) then { s with pix := { s.pix with odv := odv } }
    else
      let w := histWord (s.f (fPIX_HIST_GEOM_EDGE_THR g)) (s.urOn g y || s.urOn g (min (y + 1) (s.vact g - 1))) [a, b, c, d]
      let n := smGet (fun _ => 0) s.pix.histCount g + 1
      { s with pix := { s.pix with
          odv := odv
          histCount := smSet (fun _ => 0) s.pix.histCount g n } }.devWrite 0 (s.histAddr g bx by_) (leBytes 2 w)
  | _, _, _, _ => s

/-- A line of the frame in progress is over: with it, a pair of lines writes its history blocks. -/
def State.histLine (s : State) (g y : Nat) : State :=
  if s.histOn g ∧ y < s.vact g ∧ (y % 2 = 1 ∨ y + 1 = s.vact g) then
    (List.range (ceilDiv (s.hact g) 2)).foldl (fun s bx => s.histBlock g (y / 2) bx) s
  else s

/-- HIST_VALID is cleared; the blocks of the frame in progress count no longer (R165). -/
def State.histClear (s : State) (g : Nat) : State :=
  { s.setF (fPIX_STATUS_HIST_VALID g) 0 with pix := { s.pix with histCount := smSet (fun _ => 0) s.pix.histCount g 0 } }

/-- End of a frame: HIST_VALID is set when every block was written (R165). -/
def State.histFrameEnd (s : State) (g : Nat) : State :=
  let all := ceilDiv (s.hact g) 2 * ceilDiv (s.vact g) 2
  let s := if s.histOn g ∧ smGet (fun _ => 0) s.pix.histCount g = all ∧ 0 < all then s.setF (fPIX_STATUS_HIST_VALID g) 1
    else s
  { s with pix := { s.pix with
      histCount := smSet (fun _ => 0) s.pix.histCount g 0
      urLines := s.pix.urLines.filter fun e => e.1 / 65536 != g
      unsent := s.pix.unsent.filter fun e => e.1 / 65536 != g } }

/-- The pipeline turns to the next frame of a group (R58): its first span comes next, and what belongs to the frame before is
dropped. -/
def State.pixTurn (s : State) (g : Nat) : State :=
  { s with pix := { s.pix with
      cursor := smSet (fun _ => 0) s.pix.cursor g 0
      odv := s.pix.odv.filter fun e => e.1 / 2 ^ 32 != g
      skipped := s.pix.skipped.filter fun e => e.1 / 2 ^ 20 != g
      badLines := s.pix.badLines.filter fun e => e.1 / 2 ^ 40 != g } }

/-- Bands climbed, to `top` at most, while θ ≥ th(b + 1) + hyst (R167); `fuel` bounds the climb. -/
def bandUp (top : Nat) (th : Nat → Int) (theta hyst : Int) : Nat → Nat → Nat
  | 0, b => b
  | fuel + 1, b => if b < top ∧ th (b + 1) + hyst ≤ theta then bandUp top th theta hyst fuel (b + 1) else b

/-- Bands descended while θ < th(b) − hyst (R167). -/
def bandDown (th : Nat → Int) (theta hyst : Int) : Nat → Nat → Nat
  | 0, b => b
  | fuel + 1, b => if 0 < b ∧ theta < th b - hyst then bandDown th theta hyst fuel (b - 1) else b

/-- The band decision of a group (R167): `start` runs it from band 0 without hysteresis. -/
def State.decideBand (s : State) (g : Nat) (start : Bool) (frame : Nat) : State :=
  let old := s.f (fPIX_STATUS_BAND g)
  let src := s.on (fPIX_OD_TEMP_SRC g)
  let stale := src && !s.on (fDRV_TEMP_VALID g)
  let put := fun (s : State) (b raw : Nat) =>
    let s := s.setF (fPIX_STATUS_BAND g) b
    if b = old then s else s.raiseG 0x122 g [(8, b), (8, old), (48, frame), (16, raw)]
  if stale then (if start then put s 0 (s.f (fPIX_STATUS_THETA g)) else s)
  else
    let raw := if src then s.f (fDRV_TEMP_TEMP g) else s.f (fPIX_OD_TEMP_TEMP g)
    let theta := sInt 16 raw
    let th := fun n => sInt 16 (s.f (fPIX_OD_TH_TH g (n - 1)))
    let hyst : Int := if start then 0 else s.f (fPIX_OD_TEMP_HYST g)
    let b := bandDown th theta hyst 8 (bandUp 7 th theta hyst 8 (if start then 0 else old))
    put (s.setF (fPIX_STATUS_THETA g) raw) b raw

/-! ## Glaze (R168) -/

/-- DEPTH as it acts (R170, R175). -/
def State.depth (s : State) (g : Nat) : Nat := if s.tech g = 3 then 5 else max 6 (min 12 (s.f (fPIX_CFG_DEPTH g)))

/-- Ordered-dither matrix M and temporal sequence P (R168). -/
def ditherM : List (List Nat) := [[0, 8, 2, 10], [12, 4, 14, 6], [3, 11, 1, 9], [15, 7, 13, 5]]
def ditherP : List Nat := [0, 2, 3, 1]

/-- The threshold of component `c` at (x, y) in frame `f` (R149, R168). -/
def State.threshold (s : State) (g sft c x y f : Nat) : Nat :=
  match s.f (fPIX_CFG_DMODE g) with
  | 1 =>
    let k := 4 * ((ditherM.getD (y % 4) []).getD (x % 4) 0) + ditherP.getD ((f + x + y) % 4) 0
    k * 2 ^ sft / 64
  | 2 =>
    match s.bankOf g 2 with
    | none => 2 ^ (sft - 1)
    | some bank =>
      let cx := [0, 21, 43].getD c 0
      let cy := [0, 43, 21].getD c 0
      let ox := [0, 32, 32, 0].getD (f % 4) 0
      let oy := [0, 32, 0, 32].getD (f % 4) 0
      s.tbl g 2 bank (64 * ((y + cy + oy) % 64) + (x + cx + ox) % 64) * 2 ^ sft / 4096
  | _ => 2 ^ (sft - 1)

/-- Stage 8 on one component (R168). -/
def State.glaze (s : State) (g c x y f v : Nat) : Nat :=
  let d := s.depth g
  min (2 ^ d - 1) ((v + s.threshold g (14 - d) c x y f) / 2 ^ (14 - d))

/-! ## Spans -/

/-- Key of a finished pixel. -/
def lbKey (g y x : Nat) : Nat := (g * 65536 + y) * 65536 + x

/-- Process one pixel through stages 2 to 8: its value for the history, and its finished codes and spare codes. -/
def State.pixel (s : State) (g x y f : Nat) : Option (Nat × Nat) :=
  (s.defectAt g x y).map fun r =>
    let od := s.overdriveAt g x y r.1
    let out := od.zipIdx.map fun e => s.glaze g e.2 x y f e.1
    (packBits (r.1.map fun v => (14, v)), packBits ((out.map fun v => (14, v)) ++ r.2.map fun v => (3, v)))

/-- Process columns one after another; `none` while a block is not decoded. -/
def spanPixels (s : State) (g y f : Nat) : List Nat → Option (List (Nat × Nat × Nat))
  | [] => some []
  | x :: xs =>
    match s.pixel g x y f with
    | none => none
    | some r => (spanPixels s g y f xs).map fun rest => (x, r) :: rest

/-- Reads of the planes of a group and of its history for a span. -/
def State.planeReads (s : State) (g y i : Nat) : List (Nat × Nat) :=
  match (s.spanCols g i).head?, (s.spanCols g i).getLast? with
  | some a, some b =>
    let planes := ([0, 1].filter fun k => s.planeEn g k && bit (s.f (fPIX_STATUS_INV g)) k == 0).map fun k =>
      (s.planeAddr g k a y, s.planeAddr g k b y + 6 - s.planeAddr g k a y)
    let hist := if s.odOn g ∧ s.on (fPIX_STATUS_HIST_VALID g) then
        [(s.histAddr g (a / 2) (y / 2), s.histAddr g (b / 2) (y / 2) + 2 - s.histAddr g (a / 2) (y / 2))]
      else []
    planes ++ hist
  | _, _ => []

/-- The spans whose data a span needs, line and number: with defects, those beside it and in the lines next to it (R140, R160). -/
def State.spansNeeded (s : State) (g y i : Nat) : List (Nat × Nat) :=
  (y, i) :: (if s.on (fPIX_CFG_DEF_EN g) ∧ ¬ (s.defects g).1 = [] then
      ([(y, i + 1), (y + 1, i)] ++ (if i = 0 then [] else [(y, i - 1)]) ++ (if y = 0 then [] else [(y - 1, i)])).filter fun e =>
        decide (e.1 < s.vact g ∧ 64 * e.2 < s.hact g)
    else [])

/-- Reads of the frame store that a span needs. -/
def State.spanStore (s : State) (g y i : Nat) : List (Nat × Nat) :=
  (s.spansNeeded g y i).flatMap fun e => s.spanReads g e.1 e.2 false ++ s.planeReads g e.1 e.2

/-- The reads of a span are asked, those of the frame store as a REALTIME requester (R532, R533). Whether they are done, and the
state. -/
def State.spanGate (s : State) (g y i : Nat) : Bool × State :=
  let a := s.readGate true (s.spanStore g y i)
  let b := a.2.hostGate ((s.spansNeeded g y i).flatMap fun e => s.spanReads g e.1 e.2 true)
  (a.1 && b.1, b.2)

/-! ## Which span goes (R140) -/

/-- The span a group processes next: line and number. -/
def State.nextSpan (s : State) (g : Nat) : Nat × Nat :=
  let c := smGet (fun _ => 0) s.pix.cursor g
  (c / 1024, c % 1024)

/-- A span is processed: the group goes on in column order, then line order. -/
def State.spanDone (s : State) (g y i : Nat) : State :=
  let c := if 64 * (i + 1) < s.hact g then 1024 * y + i + 1 else 1024 * (y + 1)
  { s with pix := { s.pix with cursor := smSet (fun _ => 0) s.pix.cursor g c } }

/-- Is the frame being processed a static one in command mode, whose pixels are not fetched (R429)? -/
def State.staticFrame (s : State) (g : Nat) : Bool :=
  let x := s.grp g
  if x.latched ∨ ¬ x.live then s.tech g == 4 && !x.changedNext else x.blankFrame

/-- May a group process its next span now: no earlier than LEAD lines before its line starts (R58, R140)? -/
def State.spanDue (s : State) (g : Nat) : Bool :=
  let y := (s.nextSpan g).1
  s.gState g != 0 && decide (y < s.vact g ∧ 0 < s.hact g) && !s.staticFrame g &&
    decide (s.procLineU g y ≤ 65536 * s.time.raster + s.lead g * s.lper g)

/-- The pixels of a span, where its data is there. -/
def State.spanPx (s : State) (g y i : Nat) : Option (List (Nat × Nat × Nat)) :=
  if (s.spanGate g y i).1 then spanPixels s g y (s.procFrame g) (s.spanCols g i) else none

/-- A ready span of another group goes before one of group `g` in line `y`: its line starts earlier, or at once with a lower group
number. -/
def State.spanLater (s : State) (g y : Nat) : Bool :=
  allGroups.any fun h =>
    let n := s.nextSpan h
    let a := s.procLineU h n.1
    let b := s.procLineU g y
    h != g && s.spanDue h && decide (a < b ∨ (a = b ∧ h < g)) && (s.spanPx h n.1 n.2).isSome

/-- Count a line with panes left out, once, and raise PANE_DROP for the first of the frame (R111, R129). -/
def State.noteDrops (s : State) (g y : Nat) : State :=
  let d := s.lineDrops g y
  if d = 0 then s
  else
    let s := s.count (fPAN_DROP_CNT_LINES g) 1
    if (s.grp g).dropRaised then s
    else
      let s := s.setGrp g { s.grp g with dropRaised := true }
      s.raiseG 0x113 g [(8, d), (8, 0), (48, s.procFrame g), (16, y)]

/-- Unreadable plane or history data met by a span: PIPE_ECC once, by source; a line of a plane found unreadable counts so for the
whole frame (R155, R164, R173). -/
def State.notePlaneEcc (s : State) (g y : Nat) (xs : List Nat) : State :=
  [(0, 3), (1, 4)].foldl (fun s k =>
    let bad := if s.planeEn g k.1 ∧ bit (s.f (fPIX_STATUS_INV g)) k.1 = 0 then
        ((xs.flatMap fun x => entryLines (s.planeAddr g k.1 x y)).filter fun l =>
          s.poisonedIn (64 * l) 64 && !smGet (fun _ => false) s.pix.badLines (g * 2 ^ 40 + l)).eraseDups
      else []
    if bad = [] then s
    else
      { s with pix := { s.pix with
          badLines := bad.foldl (fun m l => smSet (fun _ => false) m (g * 2 ^ 40 + l) true) s.pix.badLines } }.raiseG 0x124 g
        [(8, k.2), (8, 0), (48, s.procFrame g), (16, y)])
    (if s.odOn g ∧ s.on (fPIX_STATUS_HIST_VALID g) ∧ xs.any (fun x => s.poisonedIn (s.histAddr g (x / 2) (y / 2)) 2) then
      s.raiseG 0x124 g [(8, 5), (8, 0), (48, s.procFrame g), (16, y)] else s)

/-- Is line `y` of the frame being processed over? -/
def State.lineOver (s : State) (g y : Nat) : Bool := (s.grp g).live && !(s.grp g).latched && decide (y < (s.grp g).line)

/-- The finished pixels of a span go to the line buffer, and the values that entered overdrive are kept for the history (R163). Of
a line that is over the pixels are late and are dropped, but for the levels of a bistable group (R450); the blocks of a pair of lines that is over are written at once. -/
def State.storeSpan (s : State) (g y i : Nat) (px : List (Nat × Nat × Nat)) : State :=
  let past := s.lineOver g y
  let s := { s with pix := { s.pix with
    odv := if s.histOn g then
        px.foldl (fun m (e : Nat × Nat × Nat) => smSet (fun _ => 0) m (odvKey g y e.1) (e.2.1 + 2 ^ 42)) s.pix.odv
      else s.pix.odv
    lb := if past ∧ s.tech g ≠ 3 then s.pix.lb
      else px.foldl (fun m (e : Nat × Nat × Nat) => smSet (fun _ => 0) m (lbKey g y e.1) (e.2.2 + 2 ^ 63)) s.pix.lb } }
  if s.lineOver g (min (y / 2 * 2 + 1) (s.vact g - 1)) then
    (List.range 32).foldl (fun s k => if 64 * i + 2 * k < s.hact g then s.histBlock g (y / 2) (32 * i + k) else s) s
  else s

/-- PIPE_SPAN (R138 to R140): span `span` of line `line` of group `g`, the group's next, passes the stages. A span whose data has not
arrived waits: nothing happens but the requests its reads call for. So does one before which a ready span of another group goes. -/
def execPipeSpan (g line span : Nat) (s : State) : Host.Outcome State Fault Refusal :=
  if 16 ≤ g ∨ s.nextSpan g ≠ (line, span) ∨ ¬ s.spanDue g then .next s
  else
    match s.spanPx g line span with
    | none => .next (s.spanGate g line span).2
    | some px =>
      if s.spanLater g line then .next s
      else
        let s := (s.spanGate g line span).2
        let s := if span = 0 then (s.noteDrops g line).noteSkips g line else s
        let s := s.notePlaneEcc g line (s.spanCols g span)
        .next ((s.storeSpan g line span px).spanDone g line span)

end Sys2Proof.Machine
end

