-- ==== Sys2Proof/Machine/Bistable.lean ====
section
/-!
DEFINITION. Bistable updates (R448 to R457): requests, the waveform cache, the judging at each cut-off, what happens at
line 0, the drive codes, the journal and its scan, and the band of a bistable group.
-/
namespace Sys2Proof.Machine

/-- A bistable engine before its group's first start. -/
def BisSt.init : BisSt := ⟨[], [], [], [], [], [], 0, []⟩

/-- The bistable engine of a group, and its replacement; INFLIGHT and WAITING follow (R483). -/
def State.bis (s : State) (g : Nat) : BisSt := smGet (fun _ => BisSt.init) s.drv.bis g
def State.setBis (s : State) (g : Nat) (x : BisSt) : State :=
  let s := (s.setF (fBIS_STATUS_INFLIGHT g) x.flight.length).setF (fBIS_STATUS_WAITING g) x.waiting.length
  { s with drv := { s.drv with bis := smSet (fun _ => BisSt.init) s.drv.bis g x } }

/-- A value a bistable register holds for one requester (R448, R302). -/
def bisKey (f : Fld) (req : Req) : Nat := 2048 * (32 * f.addr + f.lo) + reqNum req
def State.bisReg (s : State) (f : Fld) (req : Req) : Nat := smGet (fun _ => 0) s.drv.bisRegs (bisKey f req)
def State.setBisReg (s : State) (f : Fld) (req : Req) (v : Nat) : State :=
  { s with drv := { s.drv with bisRegs := smSet (fun _ => 0) s.drv.bisRegs (bisKey f req) v } }

/-! ## Band (R453) -/

/-- The band decision of a bistable group at a latch, for frame `frame`, or at its start. -/
def State.decideBis (s : State) (g : Nat) (start : Bool) (frame : Nat) : State :=
  let x := s.bis g
  let src := s.on (fPIX_OD_TEMP_SRC g)
  let stale := src && !s.on (fDRV_TEMP_VALID g)
  let put := fun (s : State) (b raw : Nat) =>
    let s := s.setBis g { x with band := b }
    if b = x.band then s else s.raiseG 0x122 g [(8, b), (8, x.band), (48, frame), (16, raw)]
  if stale then (if start then put s 0 (s.f (fPIX_STATUS_THETA g)) else s)
  else
    let raw := if src then s.f (fDRV_TEMP_TEMP g) else s.f (fPIX_OD_TEMP_TEMP g)
    let theta := sInt 16 raw
    let th := hdrTh x.hdr
    let hyst : Int := if start then 0 else 8
    let b := bandDown th theta hyst 16 (bandUp 15 th theta hyst 16 (if start then 0 else x.band))
    put (s.setF (fPIX_STATUS_THETA g) raw) b raw

/-! ## Waveform cache (R449) -/

/-- Is a cache block in use: by an update in flight, or by a request that starts at the next line 0? -/
def BisSt.uses (x : BisSt) (m b : Nat) : Bool :=
  (x.flight.any fun u => u.req.mode == m && u.band == b) || x.waiting.any fun r => r.mode == m && r.go && x.band == b

/-- Is the block of a mode and band held? -/
def BisSt.holds (x : BisSt) (m b : Nat) : Bool := x.cache.any fun w => w.mode == m && w.band == b && w.st == 1

/-- Fetch a missing block into a free cache block, if there is one (R449). -/
def BisSt.fetch (x : BisSt) (m b : Nat) : BisSt :=
  if x.cache.any fun w => w.mode == m && w.band == b then x
  else if x.cache.length < 4 then { x with cache := x.cache ++ [⟨m, b, 0, []⟩] }
  else
    match x.cache.findIdx? fun w => w.st == 1 && !x.uses w.mode w.band with
    | some i => { x with cache := x.cache.eraseIdx i ++ [⟨m, b, 0, []⟩] }
    | none => x

/-! ## Journal (R456) -/

/-- Logical address of the entry of a slot. -/
def State.journalAddr (s : State) (g slot : Nat) : Nat :=
  256 * (s.f fBIS_JBASE_JPAGE + 4 * g + slot / 16) + 16 * (slot % 16)

/-- The entry of a request. -/
def journalEntry (opened : Bool) (r : BisReq) (band slot start : Nat) : List Byte :=
  leBytes 4 (b2n opened * 2 ^ 31 + r.mode * 2 ^ 24 + band * 2 ^ 20 + slot) ++ leBytes 4 (r.y0 * 65536 + r.x0) ++
    leBytes 4 (r.hm1 * 65536 + r.wm1) ++ leBytes 4 (r.tag * 65536 + start % 65536)

/-- Submit an entry; the tag of its record in the store's books. -/
def State.journal (s : State) (g : Nat) (opened : Bool) (r : BisReq) (band slot start : Nat) : Nat × State :=
  let id := s.drv.bisRec + 1
  let s := { s with drv := { s.drv with bisRec := id } }
  (id, s.nvSubmit ⟨4, id, s.journalAddr g slot, journalEntry opened r band slot start⟩)

/-- The record store accepts a journal record (R449): the request it stands for may start. -/
def State.bisAccepted (s : State) (id : Nat) : State :=
  allGroups.foldl (fun s g =>
    let x := s.bis g
    if x.waiting.any fun r => r.recId == id then
      s.setBis g { x with waiting := x.waiting.map fun r => if r.recId = id then { r with accepted := true } else r }
    else s) s

/-- BIS_DONE (R463). -/
def State.bisDone (s : State) (g : Nat) (r : BisReq) (status flags band slot frame : Nat) : State :=
  s.raiseG 0x173 g [(16, r.tag), (8, status), (8, flags), (8, r.mode), (8, band), (8, slot), (8, 0), (48, frame)]

/-! ## Requests (R427, R448) -/

/-- Do two rectangles overlap? -/
def bisOverlap (a b : BisReq) : Bool :=
  decide (a.x0 ≤ b.x0 + b.wm1 ∧ b.x0 ≤ a.x0 + a.wm1 ∧ a.y0 ≤ b.y0 + b.hm1 ∧ b.y0 ≤ a.y0 + a.hm1)

/-- Why a request is refused, or 0 (RES of R448). -/
def State.bisRes (s : State) (g : Nat) (r : BisReq) : Nat :=
  let x := s.bis g
  if 64 ≤ x.waiting.length then 1
  else if s.hact g ≤ r.x0 + r.wm1 ∨ s.vact g ≤ r.y0 + r.hm1 then 2
  else if s.gState g ≠ 2 ∨ s.tech g ≠ 3 then 3
  else if hdrModes x.hdr ≤ r.mode then 4
  else 0

/-- A new request over a rectangle. -/
def bisReqOf (x0 y0 wm1 hm1 mode tag : Nat) : BisReq := ⟨x0, y0, wm1, hm1, mode, tag, none, 0, 0, false, false, false⟩

/-- A request is submitted: its RES, and the state after (R448, R449). -/
def State.bisSubmit (s : State) (g : Nat) (r : BisReq) : Nat × State :=
  let res := s.bisRes g r
  if res ≠ 0 then (res, s)
  else
    let x := s.bis g
    (0, s.setBis g (({ x with waiting := x.waiting ++ [r] }).fetch r.mode (s.f (fBIS_STATUS_BAND g))))

/-- A write of BIS_REQ2 (R448, R484). -/
def State.bisReq2 (s : State) (req : Req) (g v : Nat) : State :=
  let mode := bitsOf v 27 24
  let tag := bitsOf v 15 0
  let s := (s.setF (fBIS_REQ2_MODE g) mode).setF (fBIS_REQ2_TAG g) tag
  if bit v 31 = 0 then s
  else
    let r := bisReqOf (s.bisReg (fBIS_REQ0_X0 g) req) (s.bisReg (fBIS_REQ0_Y0 g) req) (s.bisReg (fBIS_REQ1_WM1 g) req)
      (s.bisReg (fBIS_REQ1_HM1 g) req) mode tag
    let (res, s) := s.bisSubmit g r
    s.setBisReg (fBIS_REQ2_RES g) req res

/-- A commit that writes the entry of pane `p` with AUTO = 1 takes effect (R427): a request for its visible rectangle. -/
def State.bisAuto (s : State) (p : Nat) : State :=
  let g := s.f (fPANE_GROUP p)
  let t0 := s.f (fPANE_TECH0 p)
  let x0 := s.f (fPANE_X0 p)
  let y0 := s.f (fPANE_Y0 p)
  if s.tech g ≠ 3 ∨ ¬ s.on (fPANE_EN p) ∨ bit t0 31 = 0 ∨ s.hact g ≤ x0 ∨ s.vact g ≤ y0 then s
  else
    (s.bisSubmit g (bisReqOf x0 y0 (min (s.f (fPANE_WM1 p)) (s.hact g - 1 - x0)) (min (s.f (fPANE_HM1 p)) (s.vact g - 1 - y0))
      (t0 % 16) (p % 65536))).2

/-- BIS_BLOCK_FETCH_DONE (R449, R455): the block arrives, or fails and ends every request that needs it, before its start. -/
def execBisBlockFetchDone (g mode band : Nat) (err : Bool) (s : State) : Host.Outcome State Fault Refusal :=
  let x := s.bis g
  let a := s.wfBase g + 256 + 65536 * (16 * mode + band)
  if 16 ≤ g ∨ ¬ x.cache.any (fun w => w.mode == mode && w.band == band && w.st == 0) then .next s
  else if ¬ err ∧ ¬ s.poisonedIn a 65536 then
    .next (s.setBis g { x with cache := x.cache.map fun w =>
      if w.mode = mode ∧ w.band = band ∧ w.st = 0 then ⟨mode, band, 1, s.fsBytes a 65536⟩ else w })
  else
    let needs := fun (r : BisReq) => r.mode == mode && x.band == band
    let dead := x.waiting.filter needs
    let reruns := x.flight.filter fun u => u.rerun && u.req.mode == mode && u.band == band
    let s := s.setBis g { x with
      cache := x.cache.filter fun w => !(w.mode == mode && w.band == band)
      waiting := x.waiting.filter fun r => !needs r
      flight := x.flight.filter fun u => !(u.rerun && u.req.mode == mode && u.band == band) }
    let frame := (s.grp g).frame
    let s := dead.foldl (fun s r =>
      let known := r.jband.isSome || r.opened
      let (free, s) := if known then (0, s) else s.draw 6
      let s := if known then (s.journal g false r (r.jband.getD band) r.slot frame).2 else s
      s.bisDone g r 2 0 band (if known then r.slot else free) frame) s
    .next (reruns.foldl (fun s u => ((s.journal g false u.req u.band u.slot u.start).2).bisDone g u.req 2 2 u.band u.slot frame) s)

/-! ## At a cut-off (R449) -/

/-- Slots in use: by updates in flight, and by requests whose entry stands. -/
def BisSt.slots (x : BisSt) : List Nat :=
  (x.flight.map fun u => u.slot) ++ ((x.waiting.filter fun r => r.jband.isSome || r.opened).map fun r => r.slot)

/-- Judge one waiting request; `before` are the earlier waiting ones, `free` tells that no commit is held. The engine as it
then stands, and the request. -/
def State.bisJudge (s : State) (g : Nat) (free : Bool) (before : List BisReq) (starting : Nat) (r : BisReq) : BisReq × State :=
  let x := s.bis g
  let b := x.band
  let clear := decide (x.flight.length + starting < 64) && free &&
    !(x.flight.any fun u => bisOverlap u.req r) && !(before.any fun q => bisOverlap q r)
  if ¬ clear then ({ r with go := false }, s)
  else if ¬ x.holds r.mode b then ({ r with go := false }, s.setBis g (x.fetch r.mode b))
  else if r.opened ∨ r.jband = some b then ({ r with go := true }, s)
  else
    let slot := if r.jband.isSome then r.slot else ((List.range 64).find? fun i => !x.slots.contains i).getD 0
    let (id, s) := s.journal g true r b slot ((s.grp g).frame + 1)
    ({ r with go := true, accepted := false, jband := some b, slot := slot, recId := id }, s)

/-- Judge the requests in submission order. -/
def bisJudgeAll (g : Nat) (free : Bool) : List BisReq → List BisReq → Nat → State → State
  | [], done, _, s => s.setBis g { s.bis g with waiting := done }
  | r :: rs, done, n, s =>
    let (r', s) := s.bisJudge g free done n r
    bisJudgeAll g free rs (done ++ [r']) (n + b2n r'.go) (s.setBis g { s.bis g with waiting := done ++ [r'] ++ rs })

/-- The cut-off of a bistable group. -/
def State.bisCutoff (s : State) (g : Nat) (free : Bool) : State :=
  if s.tech g ≠ 3 then s else bisJudgeAll g free (s.bis g).waiting [] 0 s

/-! ## At line 0 (R450, R454) -/

/-- The level-plane word of a pixel. -/
def State.lvlAddr (s : State) (g x y : Nat) : Nat := s.lvlBase g + y * s.lvlPitch g + 2 * x

/-- CUR := TGT for the rectangle of an update (R450). -/
def State.lvlTake (s : State) (g : Nat) (r : BisReq) : State :=
  (List.range (r.hm1 + 1)).foldl (fun s j =>
    (List.range (r.wm1 + 1)).foldl (fun s i =>
      let a := s.lvlAddr g (r.x0 + i) (r.y0 + j)
      let w := leNat (s.fsBytes a 2)
      if s.poisoned a then s else s.devWrite 0 a (leBytes 2 (bitsOf w 12 8 * 257))) s) s

/-- Updates whose last phase is over at line 0 of frame `f` end; one that calls for it runs once more (R450, R454). -/
def State.bisEnd (s : State) (g f : Nat) (u : BisUpd) : Option BisUpd × State :=
  if f < u.start + u.nph then (some u, s)
  else
    let s := s.lvlTake g u.req
    let again := u.changed && s.on (fBIS_CFG_RERUN g) && !u.rerun
    let b := (s.bis g).band
    let s := s.bisDone g u.req (if u.req.opened then 1 else if u.ecc then 3 else 0)
      (b2n u.changed + 2 * b2n u.rerun + 4 * b2n again) u.band u.slot f
    if again then
      (some { u with band := b, start := f, changed := false, rerun := true, ecc := false },
        (s.journal g true u.req b u.slot f).2)
    else (none, (s.journal g false u.req u.band u.slot u.start).2)

/-- The updates in flight at line 0 of frame `f`: ended, re-run, or marked as having met another band (R454). -/
def bisEndAll (g f : Nat) : List BisUpd → List BisUpd → State → State
  | [], done, s => s.setBis g { s.bis g with flight := done }
  | u :: us, done, s =>
    let (u', s) := s.bisEnd g f u
    let x := s.bis g
    match u' with
    | none => bisEndAll g f us done s
    | some v =>
      let changed := decide (v.start < f) && v.band != x.band
      let s := if changed ∧ ¬ v.changed ∧ ¬ v.rerun ∧ s.on (fBIS_CFG_RERUN g) then s.setBis g (x.fetch v.req.mode x.band) else s
      bisEndAll g f us (done ++ [{ v with changed := v.changed || changed }]) s

/-- Line 0 of frame `f` in a bistable group: updates end, startable requests whose record was accepted start, and BIS_PHASE
occurs while an update is in flight (R449, R450). A request starts only in the band of its record (log entry 23). -/
def State.bisLine0 (s : State) (g f : Nat) : State :=
  if s.tech g ≠ 3 then s
  else
    let s := s.setF (fBIS_STATUS_BAND g) (s.bis g).band
    let s := s.setBis g { s.bis g with bad := (s.bis g).bad.filter fun b => decide (f ≤ b.2.2) }
    let s := bisEndAll g f (s.bis g).flight [] s
    let x := s.bis g
    let go := fun (r : BisReq) => r.go && x.holds r.mode x.band && (r.opened || (r.accepted && r.jband == some x.band))
    let new := (x.waiting.filter go).map fun r =>
      BisUpd.mk r r.slot x.band f (hdrPhases x.hdr r.mode) false false false
    let s := s.setBis g { x with
      flight := x.flight ++ new
      waiting := (x.waiting.filter fun r => !go r).map fun r => { r with go := false } }
    if (s.bis g).flight = [] then s else s.occurGroup g 9

/-! ## Drive codes (R450, R451, R455) -/

/-- Code of phase `k` in a block, from level `o` to level `n` (R452). -/
def wfCode (data : List Byte) (o n k : Nat) : Nat :=
  (data.getD (64 * (32 * o + n) + k / 4) 0#8).toNat / 4 ^ (k % 4) % 4

/-- What an update drives towards at a pixel whose level-plane word is `w`: old and new level. In the first frame, new is the level
that the pipeline produced; later it is TGT (R450, R454, R457). -/
def State.bisLevels (s : State) (g : Nat) (u : BisUpd) (f w level : Nat) : Nat × Nat :=
  if u.req.opened ∧ ¬ u.rerun then (s.f (fBIS_CLR_CLR_OLD g), s.f (fBIS_CLR_CLR_NEW g))
  else if u.rerun then (w % 32, w % 32)
  else (w % 32, if f = u.start then level % 32 else bitsOf w 12 8)

/-- The first frame of an update writes TGT of line `y` of its rectangle: of each pixel whose level the pipeline has produced, whether
it is sent or not (R450). -/
def State.bisTarget (s : State) (g y f : Nat) (u : BisUpd) : State :=
  if f ≠ u.start ∨ y < u.req.y0 ∨ u.req.y0 + u.req.hm1 < y then s
  else
    (List.range (u.req.wm1 + 1)).foldl (fun s i =>
      let a := s.lvlAddr g (u.req.x0 + i) y
      let p := smGet (fun _ => 0) s.pix.lb (lbKey g y (u.req.x0 + i))
      let w := leNat (s.fsBytes a 2)
      if s.poisoned a ∨ p < 2 ^ 63 then s
      else s.devWrite 0 a (leBytes 2 (w % 32 + 256 * (s.bisLevels g u f w (p / 2 ^ 14 % 2 ^ 14)).2))) s

/-- A line of a bistable group is over: the levels it produced go to TGT. -/
def State.bisLine (s : State) (g y : Nat) : State := (s.bis g).flight.foldl (fun s u => s.bisTarget g y (s.grp g).frame u) s

/-- Pixels that came after their line was over go to TGT before the pipeline turns to the next frame. -/
def State.bisLate (s : State) (g : Nat) : State :=
  if (s.bis g).flight = [] then s
  else (((s.pix.lb.filter fun e => e.1 / 2 ^ 32 == g).map fun e => e.1 / 65536 % 65536).eraseDups).foldl (fun s y => s.bisLine g y) s

/-- A power-fail trip stops every update (R457): it drives no more, its entry stays open and is handled at the group's next start. -/
def State.bisTrip (s : State) : State :=
  allGroups.foldl (fun s g =>
    let x := s.bis g
    if x.flight = [] then s
    else s.setBis g { x with
      flight := []
      opens := x.opens ++ x.flight.map fun u =>
        (u.slot, 2 ^ 31 + u.req.mode * 2 ^ 24 + u.band * 2 ^ 20 + u.slot, u.req.y0 * 65536 + u.req.x0,
          u.req.hm1 * 65536 + u.req.wm1, u.req.tag * 65536 + u.start % 65536) }) s

/-- PF_DISCHARGE: the steps of t + 320 (R445, R457). -/
def execPfDischarge (s : State) : Host.Outcome State Fault Refusal :=
  match s.drv.tripTick with
  | none => .next s
  | some t =>
    if s.time.master < t + 320 ∨ s.drv.discharged then .next s
    else .next ({ s with drv := { s.drv with discharged := true } }.bisTrip).nvDumpStart

/-- The drive code of pixel (x, y) in frame `f`; `level` is what the pipeline produced, `none` for a missing pixel. A block a re-run needs and that has not arrived yields a free value
(log entry 23). -/
def State.bisCode (s : State) (g x y f : Nat) (level : Option Nat) : Nat × State :=
  let e := s.bis g
  let idle := s.f (fBIS_CFG_IDLE_CODE g)
  match e.flight.findIdx? fun u => decide (u.req.x0 ≤ x ∧ x ≤ u.req.x0 + u.req.wm1 ∧ u.req.y0 ≤ y ∧ y ≤ u.req.y0 + u.req.hm1),
      level with
  | none, _ => (idle, s)
  | _, none => (idle, s)
  | some i, some v =>
    match e.flight[i]? with
    | none => (idle, s)
    | some u =>
      let a := s.lvlAddr g x y
      if s.poisoned a ∨ e.bad.contains (x, y, f) then
        (0, s.setBis g { e with flight := listSet e.flight i { u with ecc := true } })
      else
        let w := leNat (s.fsBytes a 2)
        let k := f - u.start
        let (o, n) := s.bisLevels g u f w v
        match e.cache.find? fun c => c.mode == u.req.mode && c.band == u.band && c.st == 1 with
        | some c => (wfCode c.data o n k, s)
        | none => s.draw 2

/-! ## Start and journal scan (R452, R457) -/

/-- A bistable group starts: the band is decided, and open journal entries are handled before any request. -/
def State.bisStart (s : State) (g frame : Nat) : State :=
  if s.tech g ≠ 3 then s
  else
    let s := s.decideBis g true frame
    let x := s.bis g
    let mode := s.f (fBIS_CLR_CLR_MODE g)
    let reqOf := fun (o : Nat × Nat × Nat × Nat × Nat) (m : Nat) =>
      let r := bisReqOf (o.2.2.1 % 65536) (o.2.2.1 / 65536) (o.2.2.2.1 % 65536) (o.2.2.2.1 / 65536) m (o.2.2.2.2 / 65536)
      { r with slot := o.1, opened := true }
    let s := s.setBis g { x with opens := [] }
    if s.on (fBIS_CLR_CLR_POLICY g) then
      x.opens.foldl (fun s o =>
        let y := s.bis g
        let first := (y.waiting.filter fun r : BisReq => r.opened) ++ [reqOf o mode]
        s.setBis g (({ y with waiting := first ++ y.waiting.filter fun r : BisReq => !r.opened }).fetch mode y.band)) s
    else
      x.opens.foldl (fun s o =>
        (s.journal g false (reqOf o (bitsOf o.2.1 27 24)) (bitsOf o.2.1 23 20) o.1 (o.2.2.2.2 % 65536)).2) s

/-- JPAGE is written: the journal is read (R457). -/
def State.journalScan (s : State) : State :=
  allGroups.foldl (fun s g =>
    let opens := ((List.range 64).map fun i =>
      let a := s.journalAddr g i
      let w := fun k => leNat (s.nvBytes (a + 4 * k) 4)
      (i, w 0, w 1, w 2, w 3)).filter fun o => bit o.2.1 31 == 1
    let s := (s.setBis g { s.bis g with opens := opens }).setF (fBIS_STATUS_OPEN g) opens.length
    opens.foldl (fun s o =>
      s.raiseG 0x174 g [(8, o.1), (8, 0), (32, o.2.2.1), (32, o.2.2.2.1), (16, o.2.2.2.2 / 65536)]) s) s

end Sys2Proof.Machine
end

