-- ==== Sys2Proof/Machine/Link.lean ====
section
/-!
DEFINITION. The Damoon link (R13 to R27): flit format and CRC-64, replay, lane groups, the order in which a slot is
filled, retraining and retirement; and device time: synchronisation samples, holdover, the latched read (R32 to R39).
Direction 0 is host to raster (DMH), 1 raster to host (DMS).
-/
namespace Sys2Proof.Machine

/-- One bit of the CRC-64 of ECMA-182, most significant bit first (R15). -/
def crc64Step (c : BitVec 64) (b : Bool) : BitVec 64 :=
  if c.msb ^^ b then (c <<< 1) ^^^ 0x42F0E1EBA9EA3693#64 else c <<< 1

/-- CRC-64 of the 248 bytes of header and payload: initial value all ones, result inverted (R15). -/
def crc64 (x : BitVec 1984) : BitVec 64 :=
  ~~~ ((List.range 1984).foldl (fun c i => crc64Step c (x.getMsbD i)) (BitVec.allOnes 64))

/-- The header fields of a flit (R14). -/
structure FlitHdr where
  tc : Nat
  kind : Nat
  seq : Nat
  ackSeq : Nat
  ackk : Nat
  crtc : Nat
  cred : Nat
  plen : Nat
  lgrp : Nat
  deriving DecidableEq, Repr

/-- Read the header (R14): the fields lie from bit 63 of the first eight bytes. -/
def flitHdr (f : Flit) : FlitHdr :=
  let h := (f.extractLsb' 1984 64).toNat
  ⟨bitsOf h 63 62, bitsOf h 61 60, bitsOf h 59 48, bitsOf h 47 36, bitsOf h 35 34, bitsOf h 33 32, bitsOf h 31 24,
    bitsOf h 23 16, bitsOf h 15 12⟩

/-- Build a flit with its CRC (R14, R15). -/
def mkFlit (h : FlitHdr) (data : BitVec 1920) : Flit :=
  let w : BitVec 64 := BitVec.ofNat 64 (packBits [(12, 0), (4, h.lgrp), (8, h.plen), (8, h.cred), (2, h.crtc), (2, h.ackk),
    (12, h.ackSeq), (12, h.seq), (2, h.kind), (2, h.tc)])
  let body : BitVec 1984 := w ++ data
  body ++ crc64 body

/-- The CRC check of a received flit (R15, R16). -/
def flitOk (f : Flit) : Bool := decide (crc64 (f.extractLsb' 64 1984) = f.extractLsb' 0 64)

/-- Key of a lane group in a direction. -/
def lgKey (dir lg : Nat) : Nat := 16 * dir + lg

/-- A lane group in a direction. -/
def State.lane (s : State) (dir lg : Nat) : LaneGrp := smGet (fun _ => LaneGrp.init) s.link.grp (lgKey dir lg)

/-- Replace a lane group. -/
def State.setLane (s : State) (dir lg : Nat) (x : LaneGrp) : State :=
  { s with link := { s.link with grp := smSet (fun _ => LaneGrp.init) s.link.grp (lgKey dir lg) x } }

/-- Flits of retired lane groups still to be resent in a direction, oldest first (R18). -/
def State.moved (s : State) (dir : Nat) : List HeldFlit := smGet (fun _ => []) s.link.moved dir

/-- Replace them. -/
def State.setMoved (s : State) (dir : Nat) (l : List HeldFlit) : State :=
  { s with link := { s.link with moved := smSet (fun _ => []) s.link.moved dir l } }

/-- FULL, HALF_LO or HALF_HI (R19, R25). -/
def State.lgUp (s : State) (dir lg : Nat) : Bool :=
  decide (dir < 2 ∧ lg < 10) && (let st := s.f (fLgState dir lg)
  decide (2 ≤ st ∧ st ≤ 4))

/-- The control lane group of a direction: the lowest-numbered one in service (R19). -/
def State.ctrlLg (s : State) (dir : Nat) : Option Nat := (List.range 10).find? fun lg => s.lgUp dir lg

/-- Origin of a direction's link events: the transmitter's side (R27, R41). -/
def dirOrigin (dir : Nat) : Nat := if dir = 0 then 0xD00 else 0xD01

/-- UNIT of a lane group's faults (R706). -/
def lgUnit (dir lg : Nat) : Nat := lg + 16 * dir

/-- Register fields of a lane group, by direction. -/
def fLgCtrl (dir lg : Nat) : Fld := if dir = 0 then fDMH_LGRP_STATUS_CTRL lg else fDMS_LGRP_STATUS_CTRL lg
def fLgFaultLane (dir lg : Nat) : Fld :=
  if dir = 0 then fDMH_LGRP_STATUS_FAULT_LANE lg else fDMS_LGRP_STATUS_FAULT_LANE lg
def fLgFaultSeen (dir lg : Nat) : Fld :=
  if dir = 0 then fDMH_LGRP_STATUS_FAULT_SEEN lg else fDMS_LGRP_STATUS_FAULT_SEEN lg
def fLgRetrains (dir lg : Nat) : Fld := if dir = 0 then fDMH_LGRP_STATUS_RETRAINS lg else fDMS_LGRP_STATUS_RETRAINS lg
def fLgReplays (dir lg : Nat) : Fld := if dir = 0 then fDMH_REPLAY_CNT_REPLAYS lg else fDMS_REPLAY_CNT_REPLAYS lg
def fTc1Min (dir : Nat) : Fld := if dir = 0 then fDMH_TC_CFG_TC1_MIN else fDMS_TC_CFG_TC1_MIN
def fTc3Max (dir : Nat) : Fld := if dir = 0 then fDMH_TC_CFG_TC3_MAX else fDMS_TC_CFG_TC3_MAX

/-- Bring the CTRL bits of a direction up to date (R25). -/
def State.markCtrl (s : State) (dir : Nat) : State :=
  (List.range 10).foldl (fun s lg => s.setOn (fLgCtrl dir lg) (s.ctrlLg dir == some lg)) s

/-- The block's own TC1 flits waiting for a slot in a direction, oldest first (R18, R33). -/
def State.ownFlits (s : State) (dir : Nat) : List OwnFlit := smGet (fun _ => []) s.link.own dir

/-- Replace them. -/
def State.setOwn (s : State) (dir : Nat) (l : List OwnFlit) : State :=
  { s with link := { s.link with own := smSet (fun _ => []) s.link.own dir l } }

/-- The last SEQ received without error, as ACKSEQ of R14 and the report of R18 give it. -/
def LaneGrp.lastSeq (x : LaneGrp) : Nat := (x.exp + 4095) % 4096

/-- TC1 and TC3 may travel on lane group `lg`: it is the control lane group, and every TC1 flit sent on another one is
acknowledged or has been resent (R19, R20). -/
def State.ctrlReady (s : State) (dir lg : Nat) : Bool :=
  s.ctrlLg dir == some lg &&
    ((List.range 10).all fun k => k == lg || (s.lane dir k).replay.all fun h => h.tc != 1)

/-- A replay from the oldest unacknowledged flit begins: every held flit is to be resent; a fourth replay of the same
flit without progress is what R17 retrains on. -/
def beginReplay (x : LaneGrp) (now : Nat) : LaneGrp :=
  match x.replay with
  | [] => { x with resend := 0 }
  | h :: _ =>
    { x with
      resend := x.replay.length
      same := if x.same = 0 ∨ h.seq ≠ x.sameSeq then 1 else x.same + 1
      sameSeq := h.seq
      heldSince := now }

/-- Everything up to `seq` is acknowledged (R14, R16); a SEQ not held acknowledges nothing. -/
def ackUpTo (x : LaneGrp) (seq now : Nat) : LaneGrp :=
  match x.replay.findIdx? fun h => h.seq == seq with
  | none => x
  | some i =>
    let rest := x.replay.drop (i + 1)
    { x with replay := rest, resend := min x.resend rest.length, same := 0, heldSince := now }

/-- FLIT_RECEIVE (R16): the receiver checks CRC and SEQ, accepts or discards with one NAK; an accepted flit's
acknowledgement and credits reach the transmitter of the opposite direction on the same lane group. -/
def execFlitReceive (dir lg : Nat) (flit : Flit) (s : State) : Host.Outcome State Fault Refusal :=
  if ¬ s.lgUp dir lg then .next s
  else
    let x := s.lane dir lg
    let h := flitHdr flit
    if ¬ flitOk flit ∨ h.seq ≠ x.exp then
      .next (if x.drop then s else s.setLane dir lg { x with drop := true, ack := 2 })
    else
      let s := s.setLane dir lg { x with drop := false, exp := (x.exp + 1) % 4096, ack := 1 }
      let od := 1 - dir
      let now := s.clock (dirOrigin od)
      let t := s.lane od lg
      let t := { t with cred := smSet (fun _ => 0) t.cred h.crtc (smGet (fun _ => 0) t.cred h.crtc + h.cred) }
      match h.ackk with
      | 1 => .next (s.setLane od lg (ackUpTo t h.ackSeq now))
      | 2 =>
        let t := beginReplay (ackUpTo t h.ackSeq now) now
        .next ((s.setLane od lg t).fault 0x01 (dirOrigin od) (lgUnit od lg) t.resend)
      | _ => .next (s.setLane od lg t)

/-- Flits of a class among a list of classes. -/
def tcCount (tc : Nat) (l : List Nat) : Nat := (l.filter fun t => t == tc).length

/-- The step of R21 that fills a slot: 1 a TC0 flit, 2 a TC1 flit under TC1_MIN, 3 a TC1 flit, 4 TC2 or TC3, 5 an idle flit.
`p0`, `p1` say which are pending, TC1 on the control lane group only; `p4` whether step 4 has a request; `h64` the classes of the
last 64 flits. -/
def slotStep (p0 p1 p4 : Bool) (tc1Min : Nat) (h64 : List Nat) : Nat :=
  if p0 then 1
  else if p1 && decide (tcCount 1 h64 < min tc1Min 16) then 2
  else if p1 then 3
  else if p4 then 4
  else 5

/-- A payload with the valid bytes first and zeros after them (R14). -/
def payloadOf (bs : List Byte) : BitVec 1920 :=
  BitVec.ofNat 1920 (bs.foldl (fun n b => 256 * n + b.toNat) 0 * 256 ^ (240 - bs.length))

/-- Is an offered flit one of R14: 1 to 240 valid bytes, and not idle? -/
def payloadOk (p : Payload) : Bool := decide (1 ≤ p.plen ∧ p.plen ≤ 240 ∧ p.kind < 4 ∧ p.kind ≠ 1)

/-- The payload of an offered flit, its unused bytes zero (R14). -/
def cutPayload (p : Payload) : BitVec 1920 := p.data &&& (BitVec.allOnes 1920 <<< (8 * (240 - p.plen)))

/-- One of the block's own flits, as sent now by direction `dir`: the time of the sender's die (R33), or a lane group and the last
SEQ accepted on it (R18; the place of the two in the payload is the model's, log entry 112). -/
def State.ownFlit (s : State) (dir : Nat) : OwnFlit → HeldFlit
  | .sync => ⟨0, 1, 2, 8, payloadOf (leBytes 8 (s.clock (dirOrigin dir))), 0⟩
  | .report lg seq => ⟨0, 1, 3, 3, payloadOf (leBytes 1 lg ++ leBytes 2 seq), 0⟩

/-- The flits of a class pending in a direction, in the order they are to leave: those moved from retired lane groups (R18), the
block's own, those offered (requester, payload). The number says which: 0 moved, 1 own, 2 offered. -/
def State.classFlits (s : State) (dir tc : Nat) (offers : List (Nat × Payload)) : List (Nat × HeldFlit) :=
  ((s.moved dir).filter fun h => h.tc == tc).map (fun h => (0, h)) ++
    (if tc = 1 then (s.ownFlits dir).map fun o => (1, s.ownFlit dir o) else []) ++
    (offers.filter fun o => payloadOk o.2).map fun o => (2, (⟨0, tc, o.2.kind, o.2.plen, cutPayload o.2, o.1⟩ : HeldFlit))

/-- May a TC3 flit leave on this lane group now: it is the control lane group, and fewer than TC3_MAX of any 64 are TC3 (R21)? -/
def State.tc3Open (s : State) (dir lg : Nat) : Bool :=
  s.ctrlReady dir lg && decide (tcCount 3 ((s.lane dir lg).hist.take 63) + 1 ≤ min (s.f (fTc3Max dir)) 64)

/-- The requester that step 4 serves among those pending (R21, R647): the one that a round decided for this slot has granted, or
the winner of a round decided now. A masked requester takes part in no round (R652). -/
def State.linkGrant (s : State) (dir lg : Nat) (reqs : List Nat) : Option Nat × State :=
  match (s.lane dir lg).grant with
  | some n => if reqs.contains n then (some n, s) else s.classRound (arbLg (lgKey dir lg)) false reqs
  | none => s.classRound (arbLg (lgKey dir lg)) false reqs

/-- A flit leaves its place: of the flits moved, or of the block's own; a synchronisation flit of the host die carries the master
value away (R18, R33). -/
def State.flitTaken (s : State) (dir lg : Nat) (e : Nat × HeldFlit) : State :=
  match e.1 with
  | 0 => (s.setMoved dir ((s.moved dir).erase e.2)).count (fLgReplays dir lg) 1
  | 1 =>
    let s := s.setOwn dir ((s.ownFlits dir).drop 1)
    if dir = 0 ∧ e.2.kind = 2 then { s with time := { s.time with syncSent := some s.time.master } } else s
  | _ => s

/-- The flits of TC2 and TC3 pending for step 4 of R21; a masked requester takes part in no round (R652). -/
def State.stepFour (s : State) (dir lg : Nat) (offers : Nat → List (Nat × Payload)) : List (Nat × HeldFlit) :=
  (s.classFlits dir 2 (offers 2) ++ (if s.tc3Open dir lg then s.classFlits dir 3 (offers 3) else [])).filter fun e =>
    !(smGet (fun _ => false) s.arb.masked e.2.req)

/-- The requesters of R656 among those flits, in index order. -/
def fourReqs (l : List (Nat × HeldFlit)) : List Nat := (List.range 16).filter fun n => l.any fun e => e.2.req == n

/-- The flit that a slot carries: its class (4 idle), the flit, and the state with it taken. The TC of an idle flit, which R14 does not
give, is 0 (DESIGN CHOICE, log entry 113). -/
def State.sendFlit (s : State) (dir lg : Nat) (o : Option (Nat × HeldFlit)) : Nat × HeldFlit × State :=
  match o with
  | some e => (e.2.tc, e.2, s.flitTaken dir lg e)
  | none => (4, ⟨0, 0, 1, 0, 0, 0⟩, s)

/-- The flit that fills a slot with nothing to be resent, by the order of R21, and the state with it taken. `offers` gives the
pending flits of a class with their requesters. -/
def State.newFlit (s : State) (dir lg : Nat) (offers : Nat → List (Nat × Payload)) : Nat × HeldFlit × State :=
  let fl := fun tc => s.classFlits dir tc (offers tc)
  let tc1 := if s.ctrlReady dir lg then fl 1 else []
  let four := s.stepFour dir lg offers
  match slotStep (fl 0 != []) (tc1 != []) (four != []) (s.f (fTc1Min dir)) ((s.lane dir lg).hist.take 64) with
  | 1 => s.sendFlit dir lg (fl 0).head?
  | 2 => s.sendFlit dir lg tc1.head?
  | 3 => s.sendFlit dir lg tc1.head?
  | 4 => match s.linkGrant dir lg (fourReqs four) with
    | (w, s) => s.sendFlit dir lg (four.find? fun e => some e.2.req == w)
  | _ => s.sendFlit dir lg none

/-- FLIT_SLOT (R21): the transmitter fills one slot: a flit to be resent, else the choice of R21 among the flits moved from
retired lane groups (R18), its own and those offered (of TC2 with their requesters of R656; TC3 is the debug port's), else an
idle flit. A full replay buffer sends nothing new. -/
def execFlitSlot (dir lg : Nat) (tc0 tc1 : Option Payload) (tc2 : List (Nat × Payload)) (tc3 : Option Payload) (cred crtc : Nat)
    (s : State) : Host.Outcome State Fault Refusal :=
  if ¬ s.lgUp dir lg then .next s
  else
    let x := s.lane dir lg
    let rx := s.lane (1 - dir) lg
    let hdr := fun (f : HeldFlit) => (⟨f.tc, f.kind, f.seq, rx.lastSeq, rx.ack, crtc % 4, cred % 256, f.plen, lg⟩ : FlitHdr)
    let acked := fun (s : State) => s.setLane (1 - dir) lg { s.lane (1 - dir) lg with ack := 0 }
    if x.resend > 0 then
      match x.replay[x.replay.length - x.resend]? with
      | none => .next s
      | some f =>
        let s := s.setLane dir lg { x with resend := x.resend - 1 }
        .next ((acked (s.count (fLgReplays dir lg) 1)).out (.flit dir lg (mkFlit (hdr f) f.data)))
    else if x.replay.length ≥ 128 then .next s
    else
      let (tc, f, s) := s.newFlit dir lg fun tc => match tc with
        | 0 => tc0.toList.map fun p => (0, p)
        | 1 => tc1.toList.map fun p => (0, p)
        | 2 => tc2.filter fun o => decide (o.1 < 16)
        | _ => tc3.toList.map fun p => (15, p)
      let f := { f with seq := x.seq }
      let s := s.setLane dir lg { x with
        seq := (x.seq + 1) % 4096
        replay := x.replay ++ [f]
        heldSince := if x.replay.isEmpty then s.clock (dirOrigin dir) else x.heldSince
        hist := (tc :: x.hist).take 64
        grant := none }
      .next ((acked s).out (.flit dir lg (mkFlit (hdr f) f.data)))

/-- REPLAY_TIMEOUT (R16): 256 ticks without an ACK or NAK for the oldest unacknowledged flit. -/
def execReplayTimeout (dir lg : Nat) (s : State) : Host.Outcome State Fault Refusal :=
  let x := s.lane dir lg
  let now := s.clock (dirOrigin dir)
  if s.lgUp dir lg ∧ x.replay ≠ [] ∧ x.heldSince + 256 ≤ now then .next (s.setLane dir lg (beginReplay x now))
  else .next s

/-- LANE_GROUP_RETRAIN (R17): the same flit was replayed four times without progress. -/
def execLaneGroupRetrain (dir lg : Nat) (s : State) : Host.Outcome State Fault Refusal :=
  let x := s.lane dir lg
  if s.lgUp dir lg ∧ 4 ≤ x.same then
    let half := if s.f (fLgState dir lg) = 2 then 0 else s.f (fLgState dir lg)
    let s := s.setLane dir lg { x with same := 0, half := half }
    let s := ((s.setF (fLgState dir lg) 1).count (fLgRetrains dir lg) 1).markCtrl dir
    .next (s.degraded.raise 0x12 (dirOrigin dir) 0 [(8, lg), (8, 1)])
  else .next s

/-- New STATE after training found the lanes in `failed` (bit n: lane n) unusable, given the width kept before (R17). -/
def trainedState (halfEn : Bool) (half failed : Nat) : Nat :=
  let loBad := failed % 256 != 0 || half == 4
  let hiBad := failed / 256 % 256 != 0 || half == 3
  if ¬ loBad ∧ ¬ hiBad then 2
  else if halfEn ∧ ¬ (loBad ∧ hiBad) then (if hiBad then 3 else 4)
  else 5

/-- The lane that FAULT_LANE names: the lowest failed one. R25 names one lane and does not say which of several (DESIGN CHOICE,
log entry 111). -/
def lowestLane (m : Nat) : Nat := ((List.range 16).find? fun i => bit m i == 1).getD 0

/-- RETRAIN_DONE (R17, R18, R25, R27): the lane group returns FULL, continues at half width or is retired; the receiver of a
retired one has its report to send. -/
def execRetrainDone (dir lg failed : Nat) (s : State) : Host.Outcome State Fault Refusal :=
  if 2 ≤ dir ∨ 10 ≤ lg ∨ s.f (fLgState dir lg) ≠ 1 then .next s
  else
    let x := s.lane dir lg
    let st := trainedState (s.on fDMH_TC_CFG_HALF_EN) x.half failed
    let s := if failed = 0 then s
      else (s.setF (fLgFaultLane dir lg) (lowestLane failed)).setW1c (fLgFaultSeen dir lg) 0
    let lane := s.f (fLgFaultLane dir lg)
    let s := (s.setF (fLgState dir lg) st).markCtrl dir
    let s := s.setLane dir lg { x with awaitMgmt := st == 5, half := if st = 3 ∨ st = 4 then st else 0 }
    let s := if st = 5 then s.setOwn (1 - dir) (s.ownFlits (1 - dir) ++ [.report lg x.lastSeq]) else s
    if st = 2 then .next (s.degraded.raise 0x12 (dirOrigin dir) 0 [(8, lg), (8, 2)])
    else
      let s := s.raise 0x13 (dirOrigin dir) 0 [(8, lg), (8, st), (8, lane)]
      let s := s.fault (if st = 5 then 0x03 else 0x02) (dirOrigin dir) (lgUnit dir lg) lane
      .next (s.cxlLog 1 1 (lgUnit dir lg))

/-- LINK_MGMT_FLIT (R18): the report of a retired lane group's receiver, once sent, arrives with the last SEQ it accepted; the
flits after it are to be resent on other lane groups, no others. A command that names another SEQ is no report of that receiver
and does nothing. -/
def execLinkMgmtFlit (dir lg lastSeq : Nat) (s : State) : Host.Outcome State Fault Refusal :=
  let x := s.lane dir lg
  if ¬ x.awaitMgmt ∨ lastSeq ≠ x.lastSeq ∨ .report lg lastSeq ∈ s.ownFlits (1 - dir) then .next s
  else
    let x := ackUpTo x lastSeq (s.clock (dirOrigin dir))
    let rest := x.replay.filter fun h => h.kind != 1
    .next ((s.setMoved dir (s.moved dir ++ rest)).setLane dir lg { x with replay := [], resend := 0, awaitMgmt := false })

/-! ## Device time -/

/-- The clocks after one HCORE cycle: the master advances by one, the copy by one, or by none or two where a correction is
slewed in and 256 ticks have passed since the last one (R32, R34); in bonbon mode both advance by 16 (R34, R685). -/
def tickTime (t : TimeSt) (bonbon : Bool) : TimeSt :=
  if bonbon then { t with master := t.master + 16, raster := t.raster + 16, slewAge := t.slewAge + 16 }
  else if t.corr ≠ 0 ∧ 255 ≤ t.slewAge then
    if 0 < t.corr then { t with master := t.master + 1, raster := t.raster + 2, corr := t.corr - 1, slewAge := 0 }
    else { t with master := t.master + 1, corr := t.corr + 1, slewAge := 0 }
  else { t with master := t.master + 1, raster := t.raster + 1, slewAge := t.slewAge + 1 }

/-- TSYNC_SEND (R33): every 65,536 ticks the host die has a synchronisation flit to send on TC1; it takes the master value at the
slot in which it leaves. While no lane group is in service there is nothing to send on. -/
def execTsyncSend (s : State) : Host.Outcome State Fault Refusal :=
  if s.time.master < s.time.syncDue ∨ s.ctrlLg 0 = none then .next s
  else
    let s := { s with time := { s.time with syncDue := s.time.master + 65536 } }
    .next (if s.ownFlits 0 |>.contains .sync then s else s.setOwn 0 (s.ownFlits 0 ++ [.sync]))

/-- The eight accepted samples of a start-up that stage 6 takes before it ends (R35, R676): the copy is levelled with the
master to `off` ticks, at most four (R34), and TIME_VALID is set. Samples that TSYNC_SAMPLE brought are among the eight. The
copy never decreases. -/
def State.timeLearnt (s : State) (off : Int) : State :=
  let off := max (-4) (min 4 off)
  let r := max s.time.raster ((s.time.master : Int) + off).toNat
  let s := { s with time := { s.time with raster := r, corr := 0, lastSample := r } }
  ((s.setF fEVT_TSYNC_STATUS_SAMPLES (max 8 (s.f fEVT_TSYNC_STATUS_SAMPLES))).setF fEVT_TSYNC_STATUS_OFFSET
    (toField 8 ((r : Int) - s.time.master))).setF fEVT_TSYNC_STATUS_TIME_VALID 1

/-- Is a sample accepted (R33)? -/
def sampleOk (minRtt : Option Nat) (rtt : Nat) (replayed : Bool) : Bool :=
  !replayed && (match minRtt with
    | none => true
    | some m => decide (rtt ≤ m + 6))

/-- TSYNC_SAMPLE (R33 to R36, R39): a synchronisation flit arrives and is answered in the same way; `arrival` is the raster
copy's stamp of it, `rtt` the measured round trip. The first accepted sample of a start-up steps the copy, later ones are slewed in; the eighth sets TIME_VALID. -/
def execTsyncSample (arrival rtt : Nat) (replayed : Bool) (s : State) : Host.Outcome State Fault Refusal :=
  match s.time.syncSent with
  | none => .next s
  | some sent =>
    let s := s.setOwn 1 (s.ownFlits 1 ++ [.sync])
    let t := { s.time with syncSent := none, minRtt := some (match s.time.minRtt with
      | none => rtt
      | some m => min m rtt) }
    if ¬ sampleOk s.time.minRtt rtt replayed then .next { s with time := t }
    else
      let off : Int := (arrival : Int) - sent - ((rtt / 2 : Nat) : Int)
      let n := s.f fEVT_TSYNC_STATUS_SAMPLES
      let first := n == 0 && !s.on fEVT_TSYNC_STATUS_TIME_VALID && decide (off ≤ 0)
      let t := if first then { t with raster := t.raster + off.natAbs, corr := 0 } else { t with corr := -off }
      let s := { s with time := { t with lastSample := t.raster } }
      let s := (s.setF fEVT_TSYNC_STATUS_SAMPLES (n + 1)).setOn fEVT_TSYNC_STATUS_SLEWING (t.corr != 0)
      let s := s.setF fEVT_TSYNC_STATUS_OFFSET (toField 8 (max (-127) (min 127 off)))
      let s := if n + 1 ≥ 8 then s.setF fEVT_TSYNC_STATUS_TIME_VALID 1 else s
      if s.on fEVT_TSYNC_STATUS_HOLDOVER then
        .next ((s.setF fEVT_TSYNC_STATUS_HOLDOVER 0).raise 0x11 0xD01 0 [(8, 0)])
      else .next s

/-- TSYNC_HOLDOVER (R36): 1,048,576 ticks without an accepted sample. -/
def execTsyncHoldover (s : State) : Host.Outcome State Fault Refusal :=
  if s.time.lastSample + 1048576 ≤ s.time.raster ∧ ¬ s.on fEVT_TSYNC_STATUS_HOLDOVER then
    .next ((s.setF fEVT_TSYNC_STATUS_HOLDOVER 1).raise 0x11 0xD01 0 [(8, 1)])
  else .next s

end Sys2Proof.Machine
end

