-- ==== Sys2Proof/Machine/Calib.lean ====
section
/-!
DEFINITION. Calibration and live sensing (10): runs of the device items, saving and loading, sensor readings, and the sense
fold of a group.
-/
namespace Sys2Proof.Machine

/-! ## Device items (R487 to R491) -/

/-- Is an item on the raster die (R487)? -/
def calRaster (i : Nat) : Bool := decide ((16 ≤ i ∧ i ≤ 31) ∨ (48 ≤ i ∧ i ≤ 319) ∨ (324 ≤ i ∧ i ≤ 359))

/-- Device time of an item's die (R488). -/
def State.calClock (s : State) (i : Nat) : Nat := if calRaster i then s.time.raster else s.time.master

/-- The trimmed fields of an item: the first, and the second of ADC channels and lane transmitters (R504). -/
def calA (i : Nat) : Fld :=
  if i < 32 then fCAL_VAL_TS_OFS i else if i < 48 then fCAL_VAL_ADC_OFS (i - 32)
  else if i < 320 then fCAL_VAL_LANE_OFST (i - 48) else fCAL_VAL_DCC_CODE (i - 320)
def calB (i : Nat) : Option Fld :=
  if i < 32 then none else if i < 48 then some (fCAL_VAL_ADC_GAIN (i - 32))
  else if i < 320 then some (fCAL_VAL_LANE_AMPT (i - 48)) else none

/-- Start tick of a run in progress. -/
def State.calRun (s : State) (i : Nat) : Option Nat := smGet (fun _ => none) s.cal.running i
def State.setCalRun (s : State) (i : Nat) (t : Option Nat) : State :=
  { s with cal := { s.cal with running := smSet (fun _ => none) s.cal.running i t } }

/-- A run of a device item starts; an item that runs is left alone (R488). -/
def State.calStart (s : State) (i : Nat) : State :=
  if 344 ≤ i ∨ (s.calRun i).isSome then s else s.setCalRun i (some (s.calClock i))

/-- CAL_ITEM (R520). -/
def State.calItem (s : State) (i outcome : Nat) : State := s.raise 0x180 0xE00 0 [(16, i), (8, outcome)]

/-- Items of a class: 0 temperature sensors, 1 ADC channels, 2 lane transmitters, 3 correctors (R508). -/
def calItems : Nat → List Nat
  | 0 => List.range 32
  | 1 => (List.range 16).map fun i => 32 + i
  | 2 => (List.range 272).map fun i => 48 + i
  | _ => (List.range 24).map fun i => 320 + i

/-- Period of a class in ticks; 0 disables (R508). -/
def State.calPeriod (s : State) : Nat → Nat
  | 0 => 160000000 * s.f fCAL_CFG_TS_PER
  | 1 => 160000000 * s.f fCAL_CFG_ADC_PER
  | 2 => 16000000 * s.f fCAL_CFG_LANE_PER
  | _ => 1600000 * s.f fCAL_CFG_DCC_PER

/-- CAL_PERIOD (R488, R678): from the end of stage 8, once per period the items of a class start runs. -/
def execCalPeriod (cls : Nat) (s : State) : Host.Outcome State Fault Refusal :=
  let p := s.calPeriod cls
  let last := smGet (fun _ => 0) s.cal.lastRun cls
  if 4 ≤ cls ∨ p = 0 ∨ ¬ s.on fCLK_BOOT_DONE ∨ (last ≠ 0 ∧ s.time.master < last + p) then .next s
  else
    let s := { s with cal := { s.cal with lastRun := smSet (fun _ => 0) s.cal.lastRun cls s.time.master } }
    .next ((calItems cls).foldl (fun s i => s.calStart i) s)

/-- Is a lane transmitter, its stream sent up to now, inside a run of at least 16 IDLE blocks outside any packet, after a run of as
many in which item `i` was measured (R489)? A written value needs no measurement. -/
def State.laneGap (s : State) (i : Nat) : Bool :=
  let l := i - 48
  let x := s.ln l
  let measured := (s.calRun i).all fun t =>
    let b := blockAt (s.f (fLNK_CFG_RATE l)) t
    decide (max x.idleRun.1 b + 16 ≤ x.idleRun.2 ∨ max x.idleFrom b + 32 ≤ x.txAt)
  s.txOn l && decide (x.txAt = s.txNow l ∧ x.idleFrom + 16 ≤ x.txAt) && measured

/-- Is every operational lane group of a direction sending an idle flit: the forwarded strobes that clock the die it leads to (R489,
log 130)? -/
def State.strobeGap (s : State) (dir : Nat) : Bool :=
  (List.range 16).all fun lg => !s.lgUp dir lg || (decide ((s.lane dir lg).resend = 0) && (s.lane dir lg).hist.head? == some 4)

/-- Is it the block period of an ALIGN of the bundle, not before the item's run began (R489)? -/
def State.alignGap (s : State) (i : Nat) : Bool :=
  let rate := s.f (fLNK_CFG_RATE (16 * (i - 328)))
  (smGet (fun _ => none) s.ch.aligned (i - 328)).any fun t =>
    (s.calRun i).all (fun r => decide (r ≤ t)) && blockAt rate (t + 1) == blockAt rate (s.time.raster + 1)

/-- Does the block see the item's gap (R489)? The GTO corrector needs a tick with no edge within 64 ticks before or after it. -/
def State.calGap (s : State) (i : Nat) : Bool :=
  if 48 ≤ i ∧ i < 320 then s.laneGap i
  else if i = 323 then s.strobeGap 1
  else if i = 327 then s.strobeGap 0
  else if 328 ≤ i ∧ i < 344 then s.alignGap i
  else if i = 326 then
    let now := s.time.raster
    (match s.cal.edgeAt with
      | some t => decide (t + 64 < now)
      | none => true) &&
    (List.range 64).all fun p => (s.pin p).edges.all fun e => decide (now + 64 < e.tick)
  else true

/-- A field one code up (1), down (2) or as it was, held at the range limit: the new value, and whether it was held. -/
def calStep (w old dir : Nat) : Nat × Bool :=
  let v := sInt w old + (match dir with
    | 1 => (1 : Int)
    | 2 => -1
    | _ => 0)
  let lo : Int := -(2 ^ (w - 1))
  let hi : Int := 2 ^ (w - 1) - 1
  (toField w (max lo (min hi v)), decide (v < lo ∨ hi < v))

/-- The hardware trim of a written value has followed, or still waits (R491). -/
def State.setCalTrim (s : State) (i : Nat) (b : Bool) : State :=
  { s with cal := { s.cal with trim := smSet (fun _ => false) s.cal.trim i b } }

/-- CAL_APPLY (R488 to R491): the gap of item `i` comes; the run's new value differs from the old by at most one code in each
field, `a` and `b` giving the direction. `err` is an uncorrectable error in the item's state. Without a run, the gap is that
in which a written value takes. -/
def execCalApply (i a b : Nat) (err : Bool) (s : State) : Host.Outcome State Fault Refusal :=
  let s := if 48 ≤ i ∧ i < 320 then s.idleTo (i - 48) (s.txNow (i - 48)) else s
  if 344 ≤ i then .next s
  else if (s.calRun i).isNone then .next (if s.calGap i then s.setCalTrim i false else s)
  else if err then .next ((s.setCalRun i none).calItem i 3)
  else if ¬ s.calGap i then .next s
  else
    let fa := calA i
    let (va, la) := calStep fa.w (s.f fa) a
    let s := s.setF fa va
    let (lb, s) := match calB i with
      | none => (false, s)
      | some fb => let (vb, lb) := calStep fb.w (s.f fb) b; (lb, s.setF fb vb)
    let t := s.calClock i
    let s := ((s.count (fCAL_CNT_COUNT i) 1).setF (fCAL_TS_LO_TS_LO i) (t % 2 ^ 32)).setF (fCAL_TS_HI_TS_HI i) (t / 2 ^ 32)
    let s := (s.setCalRun i none).setCalTrim i false
    .next (if la ∨ lb then s.calItem i 2 else s)

/-- CAL_RUN_TIMEOUT (R490). -/
def execCalRunTimeout (i : Nat) (s : State) : Host.Outcome State Fault Refusal :=
  match s.calRun i with
  | none => .next s
  | some t => .next (if t + 2 ^ 30 ≤ s.calClock i then (s.setCalRun i none).calItem i 1 else s)

/-- A write of CAL_VAL of a device item (R491). -/
def State.calWrite (s : State) (i v : Nat) : State :=
  if 344 ≤ i then s
  else
    let put := fun (s : State) (f : Fld) => s.setF f (bitsOf v (f.lo + f.w - 1) f.lo)
    let s := put s (calA i)
    let s := match calB i with
      | some f => put s f
      | none => s
    (s.setCalRun i none).setCalTrim i true

/-- CAL_VAL of an item as a word. -/
def State.calWord (s : State) (i : Nat) : Nat :=
  let one := fun (f : Fld) => s.f f * 2 ^ f.lo
  one (calA i) + (match calB i with
    | some f => one f
    | none => 0)

/-! ## Saving and loading (R492, R493) -/

/-- CAL_NV_DONE with its RESULT: 1 save, 2 load. -/
def State.calNvDone (s : State) (kind result : Nat) : State :=
  (s.setF fCAL_CMD_RESULT result).raise 0x183 0xE00 0 [(8, kind), (8, result), (16, 0), (32, s.cal.saveSeq)]

/-- The record of a save. -/
def State.calRecord (s : State) : List Byte :=
  let head := leBytes 2 344 ++ leBytes 2 1 ++ leBytes 4 (s.cal.saveSeq + 1) ++ leBytes 8 s.time.master
  let body := head ++ ((List.range 344).flatMap fun i => leBytes 4 (s.calWord i))
  body ++ leBytes 4 (crc32c body) ++ leBytes 140 0

/-- SAVE = 1. -/
def State.calSave (s : State) : State :=
  if s.on fCAL_CMD_BUSY then s.calNvDone 1 1
  else if 4090 < s.f fCAL_NV_CPAGE then s.calNvDone 1 3
  else
    let s := { s.setF fCAL_CMD_BUSY 1 with cal := { s.cal with saving := true } }
    s.nvSubmit ⟨5, 0, 256 * s.f fCAL_NV_CPAGE, s.calRecord⟩

/-- The store accepts the record of a save. -/
def State.calSaved (s : State) : State :=
  ({ s.setF fCAL_CMD_BUSY 0 with cal := { s.cal with saving := false, saveSeq := s.cal.saveSeq + 1 } }).calNvDone 1 0

/-- Is the set at a byte address of the mirror valid (R493)? -/
def State.calSetOk (s : State) (a : Nat) : Bool :=
  leNat (s.nvRead a 2) == 344 && leNat (s.nvRead (a + 2) 2) == 1 && leNat (s.nvRead (a + 1392) 4) == crc32c (s.nvRead a 1392)

/-- A valid set is written to CAL_VAL. -/
def State.calTake (s : State) (a : Nat) : State :=
  let s := (List.range 344).foldl (fun s i => s.calWrite i (leNat (s.nvRead (a + 16 + 4 * i) 4))) s
  { s with cal := { s.cal with saveSeq := leNat (s.nvRead (a + 4) 4) } }

/-- LOAD = 1. -/
def State.calLoad (s : State) : State :=
  let a := 256 * s.f fCAL_NV_CPAGE
  if s.on fCAL_CMD_BUSY then s.calNvDone 2 1
  else if 4090 < s.f fCAL_NV_CPAGE then s.calNvDone 2 3
  else if s.calSetOk a then (s.calTake a).calNvDone 2 0
  else s.calNvDone 2 2

/-- A write of CAL_CMD. -/
def State.calCmd (s : State) (v : Nat) : State :=
  let s := s.setF fCAL_CMD_ITEM (bitsOf v 8 0)
  let s := if bit v 30 = 1 then s.calSave else s
  let s := if bit v 29 = 1 then s.calLoad else s
  if bit v 31 = 1 then s.calStart (s.f fCAL_CMD_ITEM) else s

/-! ## Readings (R512, R513) -/

/-- TEMP_SENSOR_UPDATE: the reading, corrected by OFS of item `n`; a running item keeps its last reading (R489). A sum
outside the field is a free value. -/
def execTempSensorUpdate (n raw : Nat) (s : State) : Host.Outcome State Fault Refusal :=
  if 32 ≤ n ∨ (s.calRun n).isSome then .next s
  else
    let v := sInt 16 (raw % 65536) + sInt 16 (s.f (fCAL_VAL_TS_OFS n))
    let (free, s) := if v < -32768 ∨ 32767 < v then s.draw 16 else (toField 16 v, s)
    .next ((s.setF (fCAL_TEMP_VALID n) 1).setF (fCAL_TEMP_TEMP n) free)

/-- RAIL_MONITOR_UPDATE: the voltage in mV, corrected by OFS (0.1 mV) and GAIN. The rounding of a correction that is no whole number of
mV is not stated, nor a sum that does not fit: a free value. -/
def execRailMonitorUpdate (n raw : Nat) (s : State) : Host.Outcome State Fault Refusal :=
  if 16 ≤ n ∨ (s.calRun (32 + n)).isSome then .next s
  else
    let ofs := sInt 16 (s.f (fCAL_VAL_ADC_OFS n))
    let v := (raw : Int) + ofs / 10
    let exact := ofs % 10 = 0 ∧ s.f (fCAL_VAL_ADC_GAIN n) = 0 ∧ 0 ≤ v ∧ v < 65536
    let (v, s) := if exact then (v.toNat, s) else s.draw 16
    .next ((s.setF (fCAL_RAIL_VALID n) 1).setF (fCAL_RAIL_MV n) v)

/-! ## The sense fold (R497 to R503) -/

/-- A fold cycle that has not run: no previous swap holds a close back. -/
def FoldSt.init : FoldSt := ⟨[], [], [], 256, 0, false⟩
def State.fold (s : State) (g : Nat) : FoldSt := smGet (fun _ => FoldSt.init) s.cal.fold g
def State.setFold (s : State) (g : Nat) (x : FoldSt) : State :=
  { s with cal := { s.cal with fold := smSet (fun _ => FoldSt.init) s.cal.fold g x } }

/-- The target plane: 0 demura, 1 aging, as Pixel numbers them (R497). -/
def State.foldPlane (s : State) (g : Nat) : Nat := if s.on (fCAL_SNS_CFG_TARGET g) then 0 else 1
def State.foldGran (s : State) (g : Nat) : Fld := if s.foldPlane g = 0 then fPIX_DMU_BASE_GRAN g else fPIX_AGE_BASE_GRAN g

/-- GRAN of plane A or B. -/
def State.foldSide (s : State) (g : Nat) (b : Bool) : Nat :=
  if b then s.f (fCAL_PLANE_B_GRAN g) else s.f (fCAL_PLANE_A_GRAN g)

/-- Code of a refused FOLD = 1, or 0 (R497). -/
def State.foldCheck (s : State) (g : Nat) : Nat :=
  let k := s.foldPlane g
  let gran := s.f (s.foldGran g)
  if s.foldSide g false = s.foldSide g true then 1
  else if gran ≠ s.foldSide g false ∧ gran ≠ s.foldSide g true then 2
  else if ¬ s.planeEn g k then 3
  else if s.planeCode g k ≠ 0 then 4
  else 0

/-- Key of an accumulator. -/
def accKey (g c bx by_ : Nat) : Nat := ((g * 65536 + by_) * 65536 + bx) * 4 + c
def State.acc (s : State) (k : Nat) : Acc := smGet (fun _ => ⟨0, 0, 0⟩) s.cal.accs k
def State.setAcc (s : State) (k : Nat) (a : Acc) : State :=
  { s with cal := { s.cal with accs := smSet (fun _ => ⟨0, 0, 0⟩) s.cal.accs k a } }

/-- Accumulators of a group. -/
def State.accsOf (s : State) (g : Nat) : SMap Acc := s.cal.accs.filter fun e => e.1 / 2 ^ 34 == g

/-- Free accumulators of a list of keys. -/
def State.freeAccs (s : State) (ks : List Nat) : State :=
  (ks.foldl (fun s k => s.setAcc k ⟨0, 0, 0⟩) s).setF fCAL_ACC_FREE (s.f fCAL_ACC_FREE + ks.length)

/-- NMIN, STEP and PERIOD as they act (R515). -/
def State.foldNmin (s : State) (g : Nat) : Nat := max 1 (s.f (fCAL_SNS_CFG_NMIN g))
def State.foldStep (s : State) (g : Nat) : Int := max 1 (s.f (fCAL_SNS_CFG_STEP g))
def State.foldPeriod (s : State) (g : Nat) : Nat := max 1 (s.f (fCAL_SNS_CFG_PERIOD g))

/-- Accumulators a close would take; READY of CAL_SNS_STATUS (R518). -/
def State.foldReady (s : State) (g : Nat) : SMap Acc := (s.accsOf g).filter fun e => decide (s.foldNmin g ≤ e.2.n)

/-- CAL_FOLD (R520). -/
def State.foldEvent (s : State) (g new reason err : Nat) : State := s.raiseG 0x182 g [(8, new), (8, reason), (8, err)]

/-- FOLD is cleared: accumulators are freed and the cycle is abandoned (R502). -/
def State.foldAbandon (s : State) (g reason : Nat) : State :=
  let s := (s.freeAccs ((s.accsOf g).map fun e => e.1)).setFold g FoldSt.init
  ((s.setF (fCAL_SNS_CFG_FOLD g) 0).setF (fCAL_SNS_STATUS_PHASE g) 0).foldEvent g 0 reason 0

/-- A write of FOLD (R497, R502). -/
def State.foldWrite (s : State) (g : Nat) (b : Bool) : State :=
  let was := s.on (fCAL_SNS_CFG_FOLD g)
  if was = b then s
  else if ¬ b then s.foldAbandon g 0
  else
    let code := s.foldCheck g
    let s := s.setF (fCAL_SNS_STATUS_ERR g) code
    if code ≠ 0 then s.foldEvent g 0 2 code
    else
      let s := (s.setF (fCAL_SNS_CFG_FOLD g) 1).setF (fCAL_SNS_STATUS_PHASE g) 0
      let s := s.setOn (fCAL_SNS_STATUS_INEFF g) (s.f (s.foldGran g) == s.foldSide g true)
      (s.setFold g FoldSt.init).foldEvent g 1 0 0

/-- One sample (R499). A reading against MREF = 0 has no stated value: a free value. -/
def State.foldSample (s : State) (g c line stim mref : Nat) (w : Nat) : State :=
  let blk := s.planeBlk g (s.foldPlane g)
  let k := accKey g c (w / 65536 / 2 ^ blk) (line / 2 ^ blk)
  let a := s.acc k
  let e := (stim * s.f (fCAL_KREF_KREF g c) + 8192) / 16384
  if 4096 ≤ a.n then s
  else if a.n = 0 ∧ s.f fCAL_ACC_FREE = 0 then s.count (fCAL_SNS_DROP_FULL g) 1
  else
    let s := if a.n = 0 then s.setF fCAL_ACC_FREE (s.f fCAL_ACC_FREE - 1) else s
    let (mn, s) := if mref = 0 then s.draw 16 else (min 65535 ((w % 65536 * 32768 + mref / 2) / mref), s)
    s.setAcc k ⟨a.sumE + e, a.sumM + mn, a.n + 1⟩

/-- The engine takes an upstream SNS of partner `pid` that answers an addressed request (R495, R498). -/
def State.foldTake (s : State) (g pid : Nat) (ws : List Nat) : State :=
  let w0 := ws.getD 0 0
  let rtype := w0 / 2 ^ 28
  let c := bitsOf w0 27 26
  let n := bitsOf w0 23 16
  let line := w0 % 65536
  let frame := (s.grp g).frame
  if ¬ s.on (fCAL_SNS_CFG_FOLD g) then s
  else if rtype = 2 then
    { s with cal := { s.cal with
        mref := smSet (fun _ => none) s.cal.mref (4 * pid + c) (some (ws.getD 1 0 % 65536, frame)) } }
  else if rtype ≠ 1 then s
  else
    let cols := ws.drop 2
    if ws.length ≠ n + 2 ∨ c = 3 ∨ s.vact g ≤ line ∨ (cols.any fun w => decide (s.hact g ≤ w / 65536)) then
      s.count (fCAL_SNS_DROP_MALFORMED g) 1
    else
      match smGet (fun _ => none) s.cal.mref (4 * pid + c) with
      | none => s.count (fCAL_SNS_DROP_NOREF g) 1
      | some (mref, f0) =>
        if f0 + 256 ≤ frame then s.count (fCAL_SNS_DROP_NOREF g) 1
        else cols.foldl (fun s w => s.foldSample g c line (ws.getD 1 0 % 16384) mref w) s

/-- The new word of a block (R500). -/
def foldWord (w sumE sumM : Nat) (step : Int) : Nat :=
  let g0 := sInt 8 (w / 256)
  let tg : Int := ((1024 * sumE + sumM) / (2 * sumM) : Nat) - 512
  let tg := max (-128) (min 127 tg)
  let g1 := g0 + max (-step) (min step (tg - g0))
  256 * toField 8 g1 + w % 256

/-- Words of the WRITE phase: each is read from the plane in effect at `src` and written at `dst`; an uncorrectable one is left
(R500, R501). -/
def foldWriteWords (g src dst : Nat) : List (Nat × Nat × Nat) → State → State
  | [], s => s
  | (ofs, sumE, sumM) :: r, s =>
    if s.poisoned (src + ofs) then foldWriteWords g src dst r (s.calItem (344 + g) 3)
    else
      let w := foldWord (leNat (s.fsBytes (src + ofs) 2)) sumE sumM (s.foldStep g)
      let s := s.devWrite 0 (dst + ofs) (leBytes 2 w)
      foldWriteWords g src dst r (s.setFold g { s.fold g with done := (s.fold g).done ++ [(ofs, w)] })

/-- FOLD_WRITES_DONE (R500): every write of the WRITE phase completes. It waits while the host may hold a line it reads. -/
def execFoldWritesDone (g : Nat) (s : State) : Host.Outcome State Fault Refusal :=
  if 16 ≤ g ∨ ¬ s.on (fCAL_SNS_CFG_FOLD g) ∨ s.f (fCAL_SNS_STATUS_PHASE g) ≠ 1 then .next s
  else
    let b := s.on (fCAL_SNS_STATUS_INEFF g)
    let src := 256 * s.foldSide g b
    let todo := (s.fold g).todo
    let (ok, s) := s.readGate false (todo.map fun e => (src + e.1, 2))
    if ¬ ok then .next s
    else
      let s := foldWriteWords g src (256 * s.foldSide g !b) todo s
      .next ((s.setFold g { s.fold g with todo := [] }).setF (fCAL_SNS_STATUS_PHASE g) 2)

/-- FOLD_REPLAY_DONE (R500). -/
def execFoldReplayDone (g : Nat) (s : State) : Host.Outcome State Fault Refusal :=
  if 16 ≤ g ∨ ¬ s.on (fCAL_SNS_CFG_FOLD g) ∨ s.f (fCAL_SNS_STATUS_PHASE g) ≠ 3 then .next s
  else
    let dst := 256 * s.foldSide g !(s.on (fCAL_SNS_STATUS_INEFF g))
    let s := (s.fold g).replay.foldl (fun s e => s.devWrite 0 (dst + e.1) (leBytes 2 e.2)) s
    .next ((s.setFold g { s.fold g with replay := [] }).setF (fCAL_SNS_STATUS_PHASE g) 0)

/-- FOLD_RETRY (R501): a refused access of WRITE or REPLAY is retried. -/
def execFoldRetry (g : Nat) (s : State) : Host.Outcome State Fault Refusal :=
  let ph := s.f (fCAL_SNS_STATUS_PHASE g)
  .next (if g < 16 ∧ s.on (fCAL_SNS_CFG_FOLD g) ∧ (ph = 1 ∨ ph = 3) then
      s.setFold g { s.fold g with retries := (s.fold g).retries + 1 } else s)

/-- A cut-off of the group passes: a swap that waits is bound to the coming latch (R500). -/
def State.foldCutoff (s : State) (g : Nat) : State :=
  if s.on (fCAL_SNS_CFG_FOLD g) ∧ s.f (fCAL_SNS_STATUS_PHASE g) = 2 then s.setFold g { s.fold g with bound := true } else s

/-- The swap at a latch (R500, R503); `frame` is the first frame that shows the other plane. -/
def State.foldSwap (s : State) (g frame tick : Nat) : State :=
  let b := !(s.on (fCAL_SNS_STATUS_INEFF g))
  let x := s.fold g
  let n := x.done.length
  let s := (s.setF (s.foldGran g) (s.foldSide g b)).setOn (fCAL_SNS_STATUS_INEFF g) b
  let s := s.raiseG 0x181 g [(8, b2n b), (8, 0), (48, frame), (32, n), (16, x.retries)]
  let i := 344 + g
  let s := ((s.setF (fCAL_VAL_FOLD_WORDS g) n).count (fCAL_CNT_COUNT i) 1).setF (fCAL_TS_LO_TS_LO i) (tick % 2 ^ 32)
  let s := (s.setF (fCAL_TS_HI_TS_HI i) (tick / 2 ^ 32)).setF (fCAL_SNS_STATUS_PHASE g) 3
  s.setFold g ⟨[], [], x.done, 0, 0, false⟩

/-- The cycle closes: every accumulator with enough samples is taken and freed (R500). -/
def State.foldClose (s : State) (g : Nat) : State :=
  let ready := s.foldReady g
  let pitch := s.planePitch g (s.foldPlane g)
  let todo := (ready.filter fun e => decide (0 < e.2.sumM)).map fun e =>
    (e.1 / 2 ^ 18 % 65536 * pitch + 6 * (e.1 / 4 % 65536) + 2 * (e.1 % 4), e.2.sumE, e.2.sumM)
  let s := (s.freeAccs (ready.map fun e => e.1)).setF (fCAL_SNS_STATUS_PHASE g) 1
  s.setFold g { s.fold g with todo := todo, done := [] }

/-- A latch of a folding group: the swap it is bound to, which waits while a commit is held there, or the close of the cycle
(R500, R502). -/
def State.foldLatch (s : State) (g : Nat) (running held : Bool) (frame tick : Nat) : State :=
  if ¬ s.on (fCAL_SNS_CFG_FOLD g) then s
  else
    let x := s.fold g
    let s := s.setFold g { x with latches := min 256 (x.latches + 1), bound := false }
    match s.f (fCAL_SNS_STATUS_PHASE g) with
    | 0 => if s.foldPeriod g ≤ (s.fold g).latches ∧ s.foldReady g ≠ [] then s.foldClose g else s
    | 2 => if x.bound ∧ running ∧ ¬ held then s.foldSwap g frame tick else s
    | _ => s

/-- Does a commit end a fold (R502)? -/
def State.foldEnds (s : State) (g : Nat) (ws : List WsWord) : Bool :=
  let k := s.foldPlane g
  let geom := if k = 0 then fPIX_DMU_GEOM_BLK g else fPIX_AGE_GEOM_BLK g
  let en := if k = 0 then fPIX_CFG_DMU_EN g else fPIX_CFG_AGE_EN g
  wsHasAny ws [(s.foldGran g).addr, geom.addr, (fTMG_HACT_VALUE g).addr, (fTMG_VACT_VALUE g).addr] || wsField ws en ||
    wsField ws (fDRV_MODE_TECH g)

end Sys2Proof.Machine
end

