-- ==== Sys2Proof/Machine/Events.lean ====
section
/-!
DEFINITION. The event merge (R43 to R46), the event rings (R535 to R538) and their interrupts (R539, R540).
-/
namespace Sys2Proof.Machine

/-! ## Rings -/

/-- Ring `k` beyond its registers. -/
def State.ring (s : State) (k : Nat) : Ring := smGet (fun _ => (⟨[], 0, 0, []⟩ : Ring)) s.ev.rings k
def State.setRing (s : State) (k : Nat) (r : Ring) : State :=
  { s with ev := { s.ev with rings := smSet (fun _ => (⟨[], 0, 0, []⟩ : Ring)) s.ev.rings k r } }

/-- Records of ring `k`: LOG2N below 6 acts as 6, above 16 as 16 (R554). -/
def State.ringSize (s : State) (k : Nat) : Nat := 2 ^ max 6 (min 16 (s.f (fEVR_CFG_LOG2N k)))

/-- BASE, HEAD and TAIL of ring `k`; bits at or above LOG2N read as zero (R552, R553, R555). -/
def State.ringBase (s : State) (k : Nat) : Nat :=
  2 ^ 32 * s.f (fEVR_BASE_HI_BASE_HI k) + 64 * s.f (fEVR_BASE_LO_BASE_LO k)
def State.ringHead (s : State) (k : Nat) : Nat := s.f (fEVR_PTR_HEAD k) % s.ringSize k
def State.ringTail (s : State) (k : Nat) : Nat := s.f (fEVR_PTR_TAIL k) % s.ringSize k

/-- The ring is full when TAIL + 1 = HEAD (R535). -/
def State.ringFull (s : State) (k : Nat) : Bool := (s.ringTail k + 1) % s.ringSize k == s.ringHead k

/-- Records in the hold buffer. -/
def heldCount (h : List Held) : Nat := (h.filter fun x => match x with
  | .one _ => true
  | .lost _ _ _ => false).length

/-- FULL and HELD of EVR_STATUS (R557). -/
def State.ringStatus (s : State) (k : Nat) : State :=
  (s.setOn (fEVR_STATUS_FULL k) (s.ringFull k)).setF (fEVR_STATUS_HELD k) (heldCount (s.ring k).held)

/-- Do what a ring has waiting, in order, up to a frame-store write that must wait for a back-invalidate or for
its stack (R199, R532, R537). -/
def runActs (k : Nat) : List RingAct → State → State
  | [], s => s.setRing k { s.ring k with acts := [] }
  | .msix f v :: as, s => runActs k as (s.msix f v)
  | .host f a bs :: as, s => runActs k as (s.out (.hostWrite f a bs))
  | .fs a bs :: as, s =>
    let wait := s.asleep a bs.length || !(s.sfHits a bs.length).isEmpty
    let s := s.touchRange a bs.length
    if ¬ wait then runActs k as (s.fsWrite a bs)
    else (s.sendBi true true (s.sfHits a bs.length)).setRing k { s.ring k with acts := .fs a bs :: as }

/-- Give ring `k` more to do. -/
def State.ringDo (s : State) (k : Nat) (as : List RingAct) : State :=
  let old := (s.ring k).acts
  if old = [] then runActs k as s else s.setRing k { s.ring k with acts := old ++ as }

/-- Take up what all rings have waiting: a line has left the snoop filter, or a stack is ready. -/
def State.ringsResume (s : State) : State := (List.range 8).foldl (fun s k => runActs k (s.ring k).acts s) s

/-- A write of a ring, where its region lies (R535). -/
def State.ringWrite (s : State) (k addr : Nat) (bs : List Byte) : RingAct :=
  if s.on (fEVR_CFG_SPACE k) then .host (s.f (fEVR_CFG_FUNC k)) addr bs else .fs addr bs

/-- The EVR_LOST record (R538, R544). -/
def lostRec (k n first last : Nat) : Ev := ⟨first, 0x191, false, 0xE00, 0, packBits [(8, k), (24, 0), (32, n), (64, last)]⟩

/-- Is this the ENTRY_DONE of a queue whose own vector is enabled (R540)? -/
def State.ownVec (s : State) (e : Ev) : Bool := e.code == 0x150 && e.origin < 512 && s.on (fCXL_Q_VEC_EN e.origin)

/-- Count a written record towards P and say which messages it causes (R539, R540). -/
def State.ringCount (s : State) (k : Nat) (e : Ev) : State × List RingAct :=
  let r := s.ring k
  let own := s.ownVec e
  let r := if own then r else { r with p := r.p + 1, pFirst := if r.p = 0 then s.time.master else r.pFirst }
  let urgent := s.on (fEVT_ROUTE_URGENT (e.origin / 256 % 16))
  let fire := urgent || (!own && decide (max 1 (s.f (fEVR_MOD_CNT k)) ≤ r.p))
  let s := s.setRing k (if fire then { r with p := 0 } else r)
  (s, (if fire then [.msix (s.f (fEVR_CFG_FUNC k)) (s.f (fEVR_CFG_VEC k))] else []) ++
    (if own then [.msix (s.f (fCXL_Q_VEC_FUNC e.origin)) (s.f (fCXL_Q_VEC_VEC e.origin))] else []))

/-- Place one record at TAIL: its write and the messages it causes (R535). -/
def State.ringPut (s : State) (k : Nat) (e : Ev) : State × RingAct × List RingAct :=
  let w := s.ringWrite k (s.ringBase k + 32 * s.ringTail k) (evBytes e)
  let s := s.setF (fEVR_PTR_TAIL k) ((s.ringTail k + 1) % s.ringSize k)
  let (s, ms) := s.ringCount k e
  (s, w, ms)

/-- Write held records while the ring has room (R538): the state, the record writes, the messages. -/
def ringFill (k : Nat) : List Held → State → State × List RingAct × List RingAct
  | [], s => (s.setRing k { s.ring k with held := [] }, [], [])
  | h :: hs, s =>
    if s.ringFull k then (s.setRing k { s.ring k with held := h :: hs }, [], [])
    else
      let e := match h with
        | .one e => e
        | .lost n first last => lostRec k n first last
      let (s, w, ms) := s.ringPut k e
      let (s, ws, mt) := ringFill k hs s
      (s, w :: ws, ms ++ mt)

/-- Write what is held while there is room: the records, then the tail word, then the messages (R537, R538). -/
def State.ringDrain (s : State) (k : Nat) : State :=
  let (s, ws, ms) := ringFill k (s.ring k).held s
  let s := if ws = [] then s
    else
      s.ringDo k (ws ++ [s.ringWrite k (s.ringBase k + 32 * s.ringSize k) (leBytes 8 (s.ringTail k))] ++ ms)
  s.ringStatus k

/-- A record goes to a ring: it joins the hold buffer, which is written out while the ring has room; with 1,024 records held
it is discarded and counted (R538). -/
def State.ringTake (s : State) (k : Nat) (e : Ev) : State :=
  let r := s.ring k
  if heldCount r.held < 1024 then (s.setRing k { r with held := r.held ++ [.one e] }).ringDrain k
  else
    let held := match r.held.getLast? with
      | some (.lost n first _) => r.held.dropLast ++ [.lost ((n + 1) % 2 ^ 32) first e.stamp]
      | _ => r.held ++ [.lost 1 e.stamp e.stamp]
    (s.setRing k { r with held := held }).count (fEVR_STATUS_DROP k) 1

/-- A ring loses EN to a host event: its held records count in DROP (R541, R542). -/
def State.ringOff (s : State) (k : Nat) : State :=
  let r := s.ring k
  let s := (s.setF (fEVR_CFG_EN k) 0).count (fEVR_STATUS_DROP k) (heldCount r.held)
  (s.setRing k { r with held := [] }).ringStatus k

/-- EN goes from 0 to 1: TAIL is set to HEAD (R535). -/
def State.ringOn (s : State) (k : Nat) : State :=
  ((s.setF (fEVR_CFG_EN k) 1).setF (fEVR_PTR_TAIL k) (s.ringHead k)).ringDrain k

/-! ## The merge -/

/-- SETTLE in effect (R46). -/
def State.settle (s : State) : Nat := max 320 (s.f fEVT_SETTLE_SETTLE)

/-- A record is released: to the log of the non-volatile store (R611), and to its ring (R536). -/
def State.release (s : State) (e : Ev) : State :=
  let s := s.nvLog e
  let n := e.origin / 256 % 16
  let k := s.f (fEVT_ROUTE_RING n)
  if s.on (fEVT_ROUTE_EN n) ∧ s.on (fEVR_CFG_EN k) then s.ringTake k e else s

/-- EVENT_MERGE_ARRIVAL (R45): the `k`-th event under way reaches the merge, unless an earlier one of its origin is still
under way; after its release time it is released at once with LATE set. -/
def execEventMergeArrival (k : Nat) (s : State) : Host.Outcome State Fault Refusal :=
  match s.ev.enRoute[k]? with
  | none => .next s
  | some e =>
    if (s.ev.enRoute.take k).any fun x => x.origin == e.origin then .next s
    else
      let s := { s with ev := { s.ev with enRoute := s.ev.enRoute.eraseIdx k } }
      if e.stamp + s.settle < s.time.master then .next (s.release { e with late := true })
      else .next { s with ev := { s.ev with merge := s.ev.merge ++ [e] } }

/-- Position of the event the merge releases next: least stamp, then lowest origin (R42, R44). -/
def firstEv : List Ev → Nat → Option (Nat × Ev) → Option (Nat × Ev)
  | [], _, best => best
  | e :: es, i, best => firstEv es (i + 1) (match best with
    | none => some (i, e)
    | some (j, b) => if e.stamp < b.stamp ∨ (e.stamp = b.stamp ∧ e.origin < b.origin) then some (i, e) else some (j, b))

/-- EVENT_RELEASE (R44): the first event of the merge whose settling time has passed is released. -/
def execEventRelease (s : State) : Host.Outcome State Fault Refusal :=
  match firstEv s.ev.merge 0 none with
  | none => .next s
  | some (i, e) =>
    if e.stamp + s.settle ≤ s.time.master then
      .next ({ s with ev := { s.ev with merge := s.ev.merge.eraseIdx i } }.release e)
    else .next s

/-! ## Ring registers and timers -/

/-- HEAD of ring `k` is written (R538, R555). -/
def State.writeHead (s : State) (k v : Nat) : State :=
  (s.setF (fEVR_PTR_HEAD k) (v % s.ringSize k)).ringDrain k

/-- MSIX_TIMER (R539): TIME × 64 ticks have passed since the first record that no message covers was written. -/
def execMsixTimer (k : Nat) (s : State) : Host.Outcome State Fault Refusal :=
  let r := s.ring k
  let t := s.f (fEVR_MOD_TIME k)
  if 8 ≤ k ∨ t = 0 ∨ r.p = 0 ∨ s.time.master < r.pFirst + 64 * t then .next s
  else .next ((s.setRing k { r with p := 0 }).ringDo k [.msix (s.f (fEVR_CFG_FUNC k)) (s.f (fEVR_CFG_VEC k))])

/-- MSIX_UNMASK (R539): a vector is unmasked; a pending message is sent. -/
def execMsixUnmask (func vec : Nat) (s : State) : Host.Outcome State Fault Refusal :=
  let key := 2048 * func + vec
  if 2 ≤ func ∨ msixCount func ≤ vec then .next s
  else
    let pend := smGet (fun _ => false) s.host.msixPend key
    let s := { s with host := { s.host with
      unmasked := smSet (fun _ => false) s.host.unmasked key true
      msixPend := smSet (fun _ => false) s.host.msixPend key false } }
    .next (if pend then s.msix func vec else s)

end Sys2Proof.Machine
end

