-- ==== Sys2Proof/Machine/Nvs.lean ====
section
/-!
DEFINITION. The non-volatile store (13): records from software (R595 to R599, R622), acceptance (R597), flush and
compaction (R601, R603), the dump (R605), the start-up scan (R606 to R608), counters (R609), transfers (R613).
-/
namespace Sys2Proof.Machine

/-! ## Records from software -/

/-- An ignored write sets REJECT (R616). -/
def State.nvReject (s : State) : State := s.setW1c fNVS_STATUS_REJECT 0

/-- A window write at logical address `a`, authorised where it must be (R595, R599, R602). -/
def State.nvWindow (s : State) (a data : Nat) : State :=
  if ¬ s.on fNVS_STATUS_READY then s.nvReject
  else if coversClosed a then s
  else if s.on fNVS_STATUS_BUSY ∨ s.nvSpace < entrySize 4 then s.nvReject
  else s.nvAccept a (leBytes 4 data)

/-- A record job ends with RESULT (R615, R622); NV_REC_DONE names the SEQ accepted, a free value when none was. -/
def State.recDone (s : State) (result addr : Nat) : State :=
  let s := (s.setF fNVS_REC_CTRL_BUSY 0).setF fNVS_REC_CTRL_RESULT result
  let (sq, s) := if result ≤ 1 then (s.f fNVS_SEQ_ACC_SEQ, s) else s.draw 32
  s.raise 0x1B0 0xE00 0 [(8, result), (24, 0), (32, sq), (32, addr)]

/-- A GO to NVS_REC_CTRL (R596, R599, R622). -/
def State.recJob (s : State) : State :=
  let len := s.f fNVS_REC_CTRL_LEN
  let a := 4 * s.f fNVS_REC_DST_ADDR
  let g := s.f fNVS_REC_SRC_GRAN
  if s.on fNVS_REC_CTRL_BUSY then s
  else if ¬ recordOk a len then s.recDone 2 a
  else if coversClosed a then s.recDone 3 a
  else if fsEnd < 256 * g + len then s.recDone 4 a
  else (s.setF fNVS_REC_CTRL_BUSY 1).nvSubmit ⟨0, 2 * g, a, List.replicate len 0#8⟩

/-- What follows the acceptance of a record, by its writer (R571, R576, R449, R492). -/
def State.nvAccepted (s : State) (w : NvWait) : State :=
  match w.writer with
  | 0 => s.recDone (w.tag % 2) w.addr
  | 1 => (List.range 8).foldl (fun s cp =>
      match s.entry cp with
      | some e => if e.q = w.tag ∧ e.stage = 2 then s.setEntry cp (some { e with stage := 4 }) else s
      | none => s) s
  | 2 => s.keyAccepted
  | 4 => s.bisAccepted w.tag
  | 5 => s.calSaved
  | _ => s

/-- The head of the waiting records leaves the queue. -/
def State.nvDrop (s : State) (w : NvWait) : State :=
  { s with nv := { s.nv with waiting := s.nv.waiting.erase w } }

/-- The record accepted next enters the write cache, unless BUSY is set (R597). A record job's source is read then: a line the
host may cache is asked back first, and an unreadable source ends the job with RESULT 4. -/
def State.recordAccept (s : State) : State :=
  if ¬ s.on fNVS_STATUS_READY ∨ s.on fNVS_STATUS_BUSY then s
  else
    match s.nvHead with
    | none => s
    | some w =>
      if w.writer = 6 then ((s.nvDrop w).nvIncr w.addr).nvBusyUpd
      else if w.writer = 0 then
        let src := 256 * (w.tag / 2)
        let n := w.data.length
        if s.poisonedIn src n then ((s.nvDrop w).recDone 4 w.addr).nvBusyUpd
        else
          match s.devRead src n with
          | (none, s) => s
          | (some bs, s) => (((s.nvDrop w).nvAccept w.addr bs).nvAccepted w).nvBusyUpd
      else (((s.nvDrop w).nvAccept w.addr w.data).nvAccepted w).nvBusyUpd

/-- A write of NVS_CNT_INC (R609, R610). -/
def State.cntInc (s : State) (n : Nat) : State :=
  if 248 ≤ n ∨ ¬ s.on fNVS_STATUS_READY ∨ s.on fNVS_STATUS_BUSY ∨ s.nvSpace < entrySize 0 then s.nvReject
  else s.nvIncr n

/-! ## Sectors of the record store (R601, R603) -/

/-- A sector. -/
def State.sec_ (s : State) (i : Nat) : NvSector := smGet (fun _ => (⟨0, [], false, false, 0⟩ : NvSector)) s.nv.sectors i
def State.setSec (s : State) (i : Nat) (x : NvSector) : State :=
  { s with nv := { s.nv with sectors := smSet (fun _ => (⟨0, [], false, false, 0⟩ : NvSector)) s.nv.sectors i x } }

/-- Sectors that belong to neither stream. -/
def State.freeSecs (s : State) : List Nat := (List.range 256).filter fun i => (s.sec_ i).stream == 0

/-- Bytes of a sector in use. -/
def NvSector.used (x : NvSector) : Nat := (x.copies.map fun c => c.ent.size).sum

/-- The free sector a stream opens next: one erased least often, the lowest of those (log entry 25). -/
def leastErased (s : State) : List Nat → Option Nat
  | [] => none
  | i :: is =>
    match leastErased s is with
    | none => some i
    | some j => if (s.sec_ i).erases ≤ (s.sec_ j).erases then some i else some j

/-- FREE and MAXERASE of NVS_WEAR (R619). -/
def State.nvWear (s : State) : State :=
  let worst := s.nv.sectors.foldl (fun m e => max m e.2.erases) 0
  (s.setF fNVS_WEAR_FREE s.freeSecs.length).setF fNVS_WEAR_MAXERASE (min worst 0x1FFFF)

/-- Program one copy into the open sector of a stream (1 A, 2 B), opening another when it is full; nothing when no sector is
free. -/
def State.progCopy (s : State) (stream : Nat) (e : NvEntry) : Option State :=
  let put := fun (s : State) (i : Nat) =>
    let x := s.sec_ i
    s.setSec i { x with stream := stream, copies := x.copies ++ [⟨e, stream - 1, true⟩] }
  let openNew := fun (s : State) =>
    match leastErased s s.freeSecs with
    | none => none
    | some i =>
      let s := { s with nv := { s.nv with openSec := smSet (fun _ => none) s.nv.openSec stream (some i) } }
      some (put s i).nvWear
  match smGet (fun _ => none) s.nv.openSec stream with
  | none => openNew s
  | some i =>
    if (s.sec_ i).used + e.size ≤ 65536 then some (put s i)
    else openNew (s.setSec i { s.sec_ i with closed := true })

/-- Is SEQ `b` later than SEQ `a`, modulo 2^32? -/
def seqAfter (a b : Nat) : Bool := decide (a ≠ b ∧ (b + 2 ^ 32 - a) % 2 ^ 32 < 2 ^ 31)

/-- Does a byte of the record still stand, with no later record over all of it: in a sector or in the cache? -/
def State.recLive (s : State) (e : NvEntry) : Bool :=
  let recs := (s.nv.sectors.flatMap fun x => x.2.copies.map fun c => c.ent) ++ s.nv.cache.filter fun x => x.kind == 1
  let later := recs.filter fun x => seqAfter e.seq x.seq
  (List.range e.data.length).any fun i =>
    !(later.any fun x => decide (x.arg ≤ e.arg + i ∧ e.arg + i < x.arg + x.data.length))

/-- Live bytes of a sector. -/
def State.liveBytes (s : State) (i : Nat) : Nat :=
  (((s.sec_ i).copies.filter fun c => s.recLive c.ent).map fun c => c.ent.size).sum

/-- The closed sector with the fewest live bytes. -/
def State.victim (s : State) : Option Nat :=
  bestRank (fun i => 65536 - s.liveBytes i)
    ((List.range 256).filter fun i => (s.sec_ i).closed && !(s.sec_ i).erasing)

/-- Accept the live records of a sector again, while the cache has room (R603): new SEQ, and the bytes the mirror holds for
the record's range (log entry 26). -/
def reaccept (sec : Nat) : Nat → State → State
  | 0, s => s
  | fuel + 1, s =>
    match (s.sec_ sec).copies.find? fun c => s.recLive c.ent with
    | none => s
    | some c =>
      if s.nvSpace < c.ent.size then s
      else
        let s := s.nvAccept c.ent.arg (s.nvBytes c.ent.arg c.ent.data.length)
        let s := { s with nv := { s.nv with compact := s.nv.compact.map fun x => (x.1, x.2 ++ [s.f fNVS_SEQ_ACC_SEQ]) } }
        reaccept sec fuel s

/-- Compaction goes on (R603): a victim is taken below 16 free sectors, its live records are accepted again, and its erase
begins once they are durable. -/
def State.compactStep (s : State) : State :=
  let s := if s.nv.compact.isNone ∧ s.freeSecs.length < 16 then
      { s with nv := { s.nv with compact := s.victim.map fun i => (i, []) } }
    else s
  let s := match s.nv.compact with
    | none => s
    | some (i, _) => if s.f fNVS_STATUS_CAUSE = 3 then s else reaccept i (s.sec_ i).copies.length s
  match s.nv.compact with
  | none => s
  | some (i, seqs) =>
    if ((s.sec_ i).copies.any fun c => s.recLive c.ent) ∨ (s.nv.cache.any fun e => seqs.contains e.seq) then s
    else { s.setSec i { s.sec_ i with erasing := true } with nv := { (s.setSec i { s.sec_ i with erasing := true }).nv with
      compact := none } }

/-- Forced compaction begins at 2 or fewer free sectors and ends at 4 (R603). -/
def State.nvForced (s : State) : State :=
  let n := s.freeSecs.length
  let forced := if n ≤ 2 then true else if 4 ≤ n then false else s.nv.forced
  ({ s with nv := { s.nv with forced := forced } }).nvBusyUpd

/-- The oldest entry of the cache is durable (R601). -/
def State.nvDurable (s : State) (e : NvEntry) : State :=
  let s := { s with nv := { s.nv with cache := s.nv.cache.drop 1, copyADone := false } }
  (s.setF fNVS_SEQ_DUR_SEQ e.seq).nvCfree

/-- What one program of the oldest entry does: copy A, then copy B, of a record; a cell of a counter; a log entry (R601). -/
def State.nvProgram (s : State) (e : NvEntry) : State :=
  match e.kind with
  | 1 =>
    if s.nv.copyADone then (match s.progCopy 2 e with
      | none => s
      | some s => s.nvDurable e)
    else (match s.progCopy 1 e with
      | none => s
      | some s => { s with nv := { s.nv with copyADone := true } })
  | 2 =>
    let s := { s with nv := { s.nv with
      cntDur := smSet (fun _ => 0) s.nv.cntDur e.arg (smGet (fun _ => 0) s.nv.cntDur e.arg + 1) } }
    s.nvDurable e
  | _ => s.nvDurable e

/-- FLUSH_PROGRAM_DONE (R601): a program of the oldest entry completes. Once a dump is due, only the unit then in progress
completes (R605). -/
def execFlushProgramDone (s : State) : Host.Outcome State Fault Refusal :=
  match s.nv.cache with
  | [] => .next s
  | e :: _ =>
    if ¬ s.on fNVS_STATUS_READY ∨ 2 ≤ s.nv.dumpPhase then .next s
    else if s.nv.dumpPhase = 1 then .next { s.nvProgram e with nv := { (s.nvProgram e).nv with dumpPhase := 2 } }
    else .next (s.nvProgram e).compactStep.nvForced

/-- The write cache is flushed whole, before the host die is powered down for bonbon mode (R613). -/
def State.nvFlush (s : State) : State :=
  (List.range (2 * s.nv.cache.length)).foldl (fun s _ =>
    match s.nv.cache with
    | [] => s
    | e :: _ => s.nvProgram e) s

/-- SECTOR_ERASE_DONE (R603, R611): the erase of a record-store sector completes; `sec` 256 is the oldest sector of the log
ring, erased when the ring holds 131,072 entries. -/
def execSectorEraseDone (sec : Nat) (s : State) : Host.Outcome State Fault Refusal :=
  if sec = 256 then
    if 131072 ≤ s.nv.log.length then .next { s with nv := { s.nv with log := s.nv.log.drop 1024 } } else .next s
  else if 256 < sec ∨ ¬ (s.sec_ sec).erasing ∨ s.nv.dumpPhase ≠ 0 then .next s
  else .next (s.setSec sec ⟨0, [], false, false, (s.sec_ sec).erases + 1⟩).nvWear.compactStep.nvForced

/-- DUMP_COPY_DONE (R605): a dump copy of every entry not durable, and its seal, are written; after copy B the dump stands. -/
def execDumpCopyDone (s : State) : Host.Outcome State Fault Refusal :=
  match s.nv.dumpPhase with
  | 1 => .next { s with nv := { s.nv with dump := s.nv.cache, dumpA := true, dumpPhase := 3 } }
  | 2 => .next { s with nv := { s.nv with dump := s.nv.cache, dumpA := true, dumpPhase := 3 } }
  | 3 => .next { s with nv := { s.nv with dumpB := true, dumpPhase := 4 } }
  | _ => .next s

/-! ## Power loss and the start-up scan (R606 to R608) -/

/-- What a power loss or PORST_N leaves of the store: flash; the cache, the mirror and what waited are gone (R607). -/
def State.nvLose (s : State) : State :=
  let lost := (s.nv.cache.filter fun e => e.kind == 3).map fun e => e.arg
  let log := s.nv.log.filter fun x => !lost.contains x.1
  { s with nv := { s.nv with
      mirror := []
      cache := []
      copyADone := false
      waiting := s.nv.waiting.filter fun w => w.writer == 3
      cnt := []
      log := log
      logNext := (log.getLast?.map fun x => x.1 + 1).getD 0
      xfer := none
      forced := false
      compact := none
      dump := if s.nv.dumpPhase = 1 ∨ s.nv.dumpPhase = 2 then s.nv.cache else s.nv.dump
      sectors := s.nv.sectors.map fun x => (x.1, { x.2 with erasing := false }) } }

/-- Copies of a SEQ that the scan finds valid: 0 A, 1 B. -/
def State.copyOk (s : State) (bad : List (Nat × Nat)) (sq copy : Nat) : Bool :=
  !bad.contains (sq, copy) && s.nv.sectors.any fun x => x.2.copies.any fun c => c.ent.seq == sq && c.copy == copy && c.ok

/-- Remove a copy found invalid or to be rewritten. -/
def State.dropCopy (s : State) (sq copy : Nat) : State :=
  { s with nv := { s.nv with sectors := s.nv.sectors.map fun x =>
    (x.1, { x.2 with copies := x.2.copies.filter fun c => !(c.ent.seq == sq && c.copy == copy) }) } }

/-- Rewrite a copy. -/
def State.reCopy (s : State) (e : NvEntry) (copy : Nat) : State :=
  ((s.dropCopy e.seq copy).progCopy (copy + 1) e).getD s

/-- The record entries in the store, one a SEQ. -/
def State.storeRecs (s : State) : List NvEntry :=
  (s.nv.sectors.flatMap fun x => x.2.copies.map fun c => c.ent).foldl
    (fun acc e => if acc.any fun x => x.seq == e.seq then acc else acc ++ [e]) []

/-- Scan one record: its copies are repaired, a tie is settled for copy A, a loss is reported (R606, R608, R614). `bad`: copies
found invalid, `ties`: SEQs whose copies are valid and differ. -/
def State.scanRec (s : State) (bad : List (Nat × Nat)) (ties : List Nat) (e : NvEntry) : State :=
  let a := s.copyOk bad e.seq 0
  let b := s.copyOk bad e.seq 1
  if a ∧ b then
    if ties.contains e.seq then
      let s := s.reCopy e 1
      let s := { s with nv := { s.nv with
        cntDur := smSet (fun _ => 0) s.nv.cntDur 252 (smGet (fun _ => 0) s.nv.cntDur 252 + 1) } }
      s.raise 0x1B3 0xE00 0 [(32, 0), (32, e.seq), (32, e.arg)]
    else s
  else if a ∨ b then
    (s.reCopy e (if a then 1 else 0)).raise 0x1B4 0xE00 0 [(8, 0), (24, 0), (32, e.seq), (32, e.arg)]
  else
    let s := (s.dropCopy e.seq 0).dropCopy e.seq 1
    if s.storeRecs.any fun x => seqAfter e.seq x.seq then
      (s.raise 0x1B4 0xE00 0 [(8, 1), (24, 0), (32, e.seq), (32, e.arg)]).fault 0x15 0xE00 0 (e.seq + 2 ^ 32 * e.arg)
    else s

/-- Replay one dump entry to its partition with its original SEQ (R606). -/
def State.replayEnt (s : State) (e : NvEntry) : State :=
  match e.kind with
  | 1 => (s.reCopy e 0).reCopy e 1
  | 2 => { s with nv := { s.nv with
      cntDur := smSet (fun _ => 0) s.nv.cntDur e.arg (smGet (fun _ => 0) s.nv.cntDur e.arg + 1) } }
  | _ =>
    let n := leNat (e.data.take 16)
    let ev : Ev := ⟨n % 2 ^ 64, n / 2 ^ 64 % 2 ^ 15, n / 2 ^ 79 % 2 == 1, n / 2 ^ 80 % 2 ^ 16, n / 2 ^ 96 % 2 ^ 32,
      leNat (e.data.drop 16)⟩
    { s with nv := { s.nv with log := s.nv.log ++ [(e.arg, e.seq, ev)], logNext := e.arg + 1 } }

/-- Insert an entry in SEQ order. -/
def seqInsert (e : NvEntry) : List NvEntry → List NvEntry
  | [] => [e]
  | x :: xs => if seqAfter e.seq x.seq then e :: x :: xs else x :: seqInsert e xs

/-- The mirror built from the newest copy of each byte (R606). -/
def State.buildMirror (s : State) : State :=
  let es := s.storeRecs.foldl (fun acc e => seqInsert e acc) []
  { s with nv := { s.nv with mirror := es.foldl (fun m e => putBytes (fun _ => 0#8) m e.arg e.data) [] } }

/-- Records of an interrupted life-cycle change are written before anything else (R578). -/
def State.nvComplete (s : State) : State :=
  let ws := s.nv.waiting.filter fun w => w.writer == 3
  ws.foldl (fun s w => s.nvAccept w.addr w.data) { s with nv := { s.nv with waiting := [] } }

/-- The start-up scan (R606): copies repaired, the dump replayed as far as `kept` entries of a torn one stand, the mirror
built, READY set, counter 255 incremented unless the start-up follows bonbon mode (R685). `seen`: a torn dump has a programmed
byte. -/
def State.nvScan (s : State) (bad : List (Nat × Nat)) (ties : List Nat) (kept : Nat) (seen : Bool) : State :=
  let s := s.storeRecs.foldl (fun s e => s.scanRec bad ties e) s
  let sealed := s.nv.dumpA || s.nv.dumpB
  let dumpF := if s.nv.dumpPhase = 0 then 0 else if sealed then 1 else if seen then 2 else 0
  let es := if sealed then s.nv.dump else if dumpF = 2 then s.nv.dump.take kept else []
  let s := es.foldl (fun s e => s.replayEnt e) s
  let last := (es.getLast?.map fun e => e.seq).getD 0
  let s := s.setF fNVS_STATUS_DUMP dumpF
  let s := if dumpF = 2 then { s with nv := { s.nv with
      cntDur := smSet (fun _ => 0) s.nv.cntDur 253 (smGet (fun _ => 0) s.nv.cntDur 253 + 1) } } else s
  let s := if dumpF = 0 then s
    else (s.raise 0x1B5 0xE00 0 [(8, dumpF), (24, 0), (32, es.length), (32, last)]).fault 0x11 0xE00 0 (dumpF + 2 ^ 32 * last)
  let s := { s with nv := { s.nv with
    dumpPhase := 0, dump := [], dumpA := false, dumpB := false, dumpSet := 1 - s.nv.dumpSet, cnt := s.nv.cntDur } }
  let s := s.buildMirror
  let seqs := (s.storeRecs.map fun e => e.seq) ++ (s.nv.log.map fun x => x.2.1) ++ (es.map fun e => e.seq)
  let top := seqs.foldl (fun m x => if seqAfter m x then x else m) 0
  let s := (s.setF fNVS_SEQ_ACC_SEQ top).setF fNVS_SEQ_DUR_SEQ top
  let s := (s.setF fNVS_LOG_NEWEST_INDEX ((s.nv.logNext - 1) % 2 ^ 32)).nvWear.nvCfree
  let s := s.nvComplete
  let s := (s.setF fNVS_STATUS_READY 1).setOn fNVS_STATUS_BT_VALID s.btOk
  (if s.boot.bonbonExit then s else s.nvIncr 255).compactStep.nvForced

/-! ## Image slots and transfers (R613) -/

/-- A byte of the image slots: slot, offset; erased where nothing is listed (R593). -/
def State.norByte (s : State) (slot ofs : Nat) : Byte := smGet (fun _ => 0xFF#8) s.nv.nor (slot * 0x1000000 + ofs)
def State.norBytes (s : State) (slot ofs n : Nat) : List Byte := (List.range n).map fun i => s.norByte slot (ofs + i)

/-- An operation ends (R615, R623). -/
def State.xferEnd (s : State) (result op slot units : Nat) : State :=
  let s := { s with nv := { s.nv with xfer := none } }
  let s := if result = 1 then s.deferred 9 else s
  ((s.setF fNVS_XFER_CTRL_BUSY 0).setF fNVS_XFER_CTRL_RESULT result).raise 0x1B1 0xE00 0
    [(8, result), (8, op), (8, slot), (8, 0), (32, units)]

/-- Bytes of the frame store that one unit moves. -/
def xferFsUnit (op : Nat) : Nat := if op = 4 then 64 else 256

/-- Is the range or alignment of an operation wrong (RESULT 3)? -/
def xferBad (op ofs units : Nat) : Bool :=
  match op with
  | 1 => decide (ofs % 65536 ≠ 0 ∨ 0x1000000 < ofs + units * 65536)
  | 4 => false
  | _ => decide (ofs % 256 ≠ 0 ∨ 0x1000000 < ofs + units * 256)

/-- A GO to NVS_XFER_CTRL, authorised where it must be (R613, R623). Checks come in the order of their RESULT codes. -/
def State.xferGo (s : State) (by_ : Nat) : State :=
  let op := s.f fNVS_XFER_CTRL_OP
  let slot := s.f fNVS_XFER_CTRL_SLOT
  let units := s.f fNVS_XFER_CTRL_COUNTM1 + 1
  let ofs := s.f fNVS_XFER_OFS_OFS
  let gran := s.f fNVS_XFER_GRAN_GRAN
  if op = 0 ∨ 4 < op then s
  else if s.on fNVS_XFER_CTRL_BUSY then s.nvReject
  else if op ≤ 2 ∧ slot = s.f fNVS_ACT_ACTIVE then s.xferEnd 2 op slot 0
  else if xferBad op ofs units then s.xferEnd 3 op slot 0
  else if op ≠ 1 ∧ fsEnd < 256 * gran + xferFsUnit op * units then s.xferEnd 5 op slot 0
  else { s.setF fNVS_XFER_CTRL_BUSY 1 with nv := { s.nv with xfer := some ⟨op, slot, ofs, gran, units, 0, false, by_⟩ } }

/-- A log entry in entry format, 64 bytes; zero when absent (R600, R613). -/
def State.logBytes (s : State) (idx : Nat) : List Byte :=
  match s.nv.log.find? fun x => x.1 == idx with
  | none => List.replicate 64 0#8
  | some (i, sq, e) =>
    let head := leBytes 2 0xA55A ++ leBytes 1 3 ++ leBytes 1 0 ++ leBytes 4 sq ++ leBytes 4 i ++ leBytes 2 32 ++ leBytes 2 0 ++
      evBytes e
    head ++ leBytes 4 (crc32c head) ++ List.replicate 12 0xFF#8

/-- A unit completes: the next is due or the operation ends (R613). -/
def State.xferNext (s : State) (x : NvXfer) (deferred : Bool) : State :=
  let x := { x with done := x.done + 1, deferred := x.deferred || deferred }
  if x.done < x.units then { s with nv := { s.nv with xfer := some x } }
  else s.xferEnd (b2n x.deferred) x.op x.slot x.done

/-- Clear the listed bytes of a sector of an image slot: it is erased. -/
def eraseRange (lo hi : Nat) (m : SMap Byte) : SMap Byte := m.filter fun e => decide (e.1 < lo ∨ hi ≤ e.1)

/-- XFER_UNIT_DONE (R613): one unit of the operation in progress. `deferred`: an arbiter deferred it; `misread`: the unit
reads back differently. -/
def execXferUnitDone (deferred misread : Bool) (s : State) : Host.Outcome State Fault Refusal :=
  match s.nv.xfer with
  | none => .next s
  | some x =>
    let fs := 256 * x.gran + xferFsUnit x.op * x.done
    let base := x.slot * 0x1000000 + x.ofs
    match x.op with
    | 1 =>
      let lo := base + 65536 * x.done
      .next ({ s with nv := { s.nv with nor := eraseRange lo (lo + 65536) s.nv.nor } }.xferNext x deferred)
    | 2 =>
      let at_ := base + 256 * x.done
      if s.poisonedIn fs 256 then .next (s.xferEnd 5 x.op x.slot x.done)
      else
        match s.devRead fs 256 with
        | (none, s) => .next s
        | (some bs, s) =>
          let now := (List.range 256).map fun i => smGet (fun _ => 0xFF#8) s.nv.nor (at_ + i) &&& bs.getD i 0#8
          let s := { s with nv := { s.nv with nor := putBytes (fun _ => 0xFF#8) s.nv.nor at_ now } }
          if now ≠ bs ∨ misread then .next (s.xferEnd 4 x.op x.slot x.done) else .next (s.xferNext x deferred)
    | 3 => .next ((s.devWrite (tagCopy x.by_ noOwner) fs (s.norBytes x.slot (x.ofs + 256 * x.done) 256)).xferNext x deferred)
    | _ => .next ((s.devWrite (tagCopy x.by_ noOwner) fs (s.logBytes (x.ofs + x.done))).xferNext x deferred)

end Sys2Proof.Machine
end

