-- ==== Sys2Proof/Machine/Images.lean ====
section
/-!
DEFINITION. Image slots (15): the slot directory and its checks (R681, R682), verification of images (R564, R565, R681), the
loading of their contents (R682), and the end of a live activation (R686).
-/
namespace Sys2Proof.Machine

/-- A directory entry (R681): its number, KIND, TARGET, OFS, LEN and digest. -/
structure ImgEnt where
  idx : Nat
  kind : Nat
  target : Nat
  ofs : Nat
  len : Nat
  digest : List Byte
  deriving DecidableEq, Repr

/-- A number of `n` bytes in a slot. -/
def State.slotNat (s : State) (slot ofs n : Nat) : Nat := leNat (s.norBytes slot ofs n)

/-- Header fields of a directory (R681). -/
def State.dirNimg (s : State) (slot : Nat) : Nat := s.slotNat slot 8 1
def State.dirFslen (s : State) (slot : Nat) : Nat := s.slotNat slot 16 4

/-- Entries of a directory. -/
def State.dirEnts (s : State) (slot : Nat) : List ImgEnt :=
  (List.range (s.dirNimg slot)).map fun k =>
    let a := 64 * (k + 1)
    ⟨k + 1, s.slotNat slot a 1, s.slotNat slot (a + 1) 1, s.slotNat slot (a + 4) 4, s.slotNat slot (a + 8) 4,
      s.norBytes slot (a + 16) 48⟩

/-- Is TARGET in range for its KIND (R682)? -/
def targetOk (kind target : Nat) : Bool :=
  match kind with
  | 2 => target == 0
  | 3 => decide (target < 8)
  | 4 => target == 0
  | 5 => decide (target < 16)
  | _ => false

/-- Entries whose images, signature blocks included, lie inside the slot beyond the first stage and apart from each other, no
two of one KIND and TARGET (R682). -/
def entsOk (fslen : Nat) : List ImgEnt → Bool
  | [] => true
  | e :: es => targetOk e.kind e.target && e.ofs % 256 == 0 &&
      decide (fslen + 256 ≤ e.ofs ∧ e.ofs + e.len + 256 ≤ 0x1000000) &&
      es.all (fun x => !(x.kind == e.kind && x.target == e.target) &&
        decide (x.ofs + x.len + 256 ≤ e.ofs ∨ e.ofs + e.len + 256 ≤ x.ofs)) && entsOk fslen es

/-- Is the directory of a slot valid (R681, R682)? -/
def State.dirValid (s : State) (slot : Nat) : Bool :=
  let z := fun ofs n => s.slotNat slot ofs n == 0
  let fslen := s.dirFslen slot
  s.slotNat slot 0 4 == 0x9840 && decide (1 ≤ s.dirNimg slot ∧ s.dirNimg slot ≤ 63) && decide (s.slotNat slot 9 1 < 2) &&
    z 10 6 && z 20 44 && decide (4096 ≤ fslen ∧ fslen % 256 = 0 ∧ fslen + 256 ≤ 0x1000000) &&
    ((s.dirEnts slot).all fun e => z (64 * e.idx + 2) 2 && z (64 * e.idx + 12) 4) && entsOk fslen (s.dirEnts slot)

/-- Is an image of `len` bytes at `ofs` accepted, its signature block following (R564, R565)? The second component: an owner
signature was verified. -/
def State.signedOk (s : State) (slot ofs len : Nat) : Bool × Bool :=
  s.imageOk (Config.sha384 (s.norBytes slot ofs len)) (s.norBytes slot (ofs + len) 256)

/-- Is the image of a directory entry accepted (R681)? -/
def State.imgOk (s : State) (slot : Nat) (e : ImgEnt) : Bool :=
  Config.sha384 (s.norBytes slot e.ofs e.len) == e.digest && (s.signedOk slot e.ofs e.len).1

/-- Are the directory and the first stage of a slot accepted (R681, R683)? -/
def State.firstOk (s : State) (slot : Nat) : Bool := s.dirValid slot && (s.signedOk slot 0 (s.dirFslen slot)).1

/-- The first entry of some kinds whose image is refused. -/
def State.badImg (s : State) (slot : Nat) (p : ImgEnt → Bool) : Option ImgEnt :=
  (s.dirEnts slot).find? fun e => p e && !s.imgOk slot e

/-- Entry of a KIND and TARGET. -/
def State.imgOf (s : State) (slot kind target : Nat) : Option ImgEnt :=
  (s.dirEnts slot).find? fun e => e.kind == kind && e.target == target

/-- The content of a range of a slot, for measuring. -/
def State.slotMeas (s : State) (slot ofs len : Nat) : Meas :=
  let base := slot * 0x1000000 + ofs
  .image len 0xFF ((s.nv.nor.filter fun e => decide (base ≤ e.1 ∧ e.1 < base + len)).map fun e => (e.1 - base, e.2))

/-- Measurements 4 and 5 of the images of a slot (R562): the raster-die image; the slot and whether every image carries a
verified owner signature. -/
def State.measImages (s : State) (slot : Nat) : State :=
  let s := match s.imgOf slot 4 0 with
    | some e => s.measure 4 (s.slotMeas slot e.ofs e.len)
    | none => s.measure 4 (.image 0 0xFF [])
  let own := (s.signedOk slot 0 (s.dirFslen slot)).2 && (s.dirEnts slot).all fun e => (s.signedOk slot e.ofs e.len).2
  s.measure 5 (.raw [BitVec.ofNat 8 slot, BitVec.ofNat 8 (b2n own)])

/-- Measurement 3: the command processors' firmware, in core order (R562). -/
def State.measCps (s : State) : State :=
  s.measure 3 (.cores ((List.range 8).map fun c => 0x300 + c) (s.th.imem.filter fun e => isTC (e.1 / 65536))
    (s.th.dmem.filter fun e => isTC (e.1 / 65536)))

/-! ## Loading (R682) -/

/-- Words of a range of a slot. -/
def State.slotWords (s : State) (slot ofs n : Nat) : List Nat := (List.range n).map fun i => s.slotNat slot (ofs + 4 * i) 4

/-- Words as memory entries from word 0, zeros left out. -/
def memEnts (o : Nat) (ws : List Nat) : SMap Nat :=
  ((List.range ws.length).map fun i => (memKey o i, ws.getD i 0)).filter fun e => e.2 != 0

/-- Put entries for the keys of core `o` into a memory map, in place of what it had. -/
def putMem (o : Nat) (new m : SMap Nat) : SMap Nat :=
  (m.filter fun e => decide (e.1 < memKey o 0)) ++ new ++ (m.filter fun e => decide (memKey (o + 1) 0 ≤ e.1))

/-- Replace a core's memories whole: the words given from word 0, zero beyond. -/
def State.loadMem (s : State) (o : Nat) (iw dw : List Nat) : State :=
  { s with th := { s.th with imem := putMem o (memEnts o iw) s.th.imem, dmem := putMem o (memEnts o dw) s.th.dmem } }

/-- Load a CP image (R682). -/
def State.loadCp (s : State) (slot : Nat) (e : ImgEnt) : State :=
  s.loadMem (0x300 + e.target) (s.slotWords slot e.ofs (min 32768 (e.len / 4)))
    (s.slotWords slot (e.ofs + 131072) (min 16384 ((e.len - 131072) / 4)))

/-- The core records of a SEQ image: core, offset of its header; none when one is malformed (R682). -/
def State.seqRecs (s : State) (slot : Nat) : Nat → Nat → Nat → Option (List (Nat × Nat))
  | 0, _, _ => some []
  | fuel + 1, a, left =>
    if left < 16 then some []
    else
      let o := s.slotNat slot a 1
      let iw := s.slotNat slot (a + 12) 2
      let dw := s.slotNat slot (a + 14) 2
      let n := 16 + 4 * (iw + dw)
      if 64 < o ∨ 7 < s.slotNat slot (a + 1) 1 ∨ s.slotNat slot (a + 2) 2 ≠ 0 ∨ 16384 < iw ∨ 4096 < dw ∨ left < n then none
      else (s.seqRecs slot fuel (a + n) (left - n)).map fun r => (o, a) :: r

/-- Records of a SEQ entry. -/
def State.seqOf (s : State) (slot : Nat) (e : ImgEnt) : Option (List (Nat × Nat)) := s.seqRecs slot 65 e.ofs e.len

/-- Load one SEQ core record into group `g` (R682). -/
def State.loadSeq (s : State) (slot g : Nat) (r : Nat × Nat) : State :=
  let (i, a) := r
  let w := fun k => s.slotNat slot (a + k) 2
  let fl := s.slotNat slot (a + 1) 1
  let t := s.loadMem (0x400 + i) (s.slotWords slot (a + 16) (w 12)) (s.slotWords slot (a + 16 + 4 * w 12) (w 14))
  let t := ((t.setF (fSQR_CFG_GROUP i) g).setF (fSQR_CFG_PF_EN i) (bit fl 0)).setF (fSQR_CFG_RESTART i) (bit fl 1)
  let t := ((t.setF (fSQR_CTRL_ARM i) (bit fl 2)).setF (fSQR_CTRL_START_W i) (w 4)).setF (fSQR_VEC_PF_W i) (w 6)
  (t.setF (fSQR_VEC_FAULT_W i) (w 8)).setF (fSQR_WDOG_LIMIT i) (w 10)

/-- A word written by the loader: RW fields of every class take it (R645, R677, R682). -/
def State.loadWord (s : State) (a v : Nat) : State :=
  if 0x02F00000 ≤ a ∧ a < 0x02F80000 then
    { s with drv := { s.drv with bonMem := putBytes (fun _ => 0#8) s.drv.bonMem (a - 0x02F00000) (leBytes 4 v) } }
  else
    match regRowAt a with
    | none => s
    | some r => r.fields.foldl (fun s f =>
        if f.acc = .rw then s.setF (fldAt a f) (bitsOf v (f.lo + f.w - 1) f.lo) else s) s

/-- Raster-die space of BAR0 (01, R265). -/
def rasterOfs (a : Nat) : Bool := decide (0x01E00000 ≤ a ∧ a < 0x03400000)

/-- The words of a RASTER image with their offsets; none when a record is malformed or lies outside raster-die space (R682). -/
def State.rasterRecs (s : State) (slot : Nat) : Nat → Nat → Nat → Option (List (Nat × Nat))
  | 0, _, _ => none
  | fuel + 1, a, left =>
    if left < 8 then none
    else
      let ofs := s.slotNat slot a 4
      let n := s.slotNat slot (a + 4) 4
      if n = 0 then some []
      else if left < 8 + 4 * n ∨ ofs % 64 ≠ 0 ∨ ¬ rasterOfs ofs ∨ ¬ rasterOfs (ofs + 4 * n - 1) then none
      else
        let ws := (List.range n).map fun i => (ofs + 4 * i, s.slotNat slot (a + 8 + 4 * i) 4)
        (s.rasterRecs slot fuel (a + 8 + 4 * n) (left - (8 + 4 * n))).map fun r => ws ++ r

/-- The words of the RASTER image of a slot: none when it is refused. -/
def State.rasterImage (s : State) (slot : Nat) (e : ImgEnt) : Option (List (Nat × Nat)) :=
  s.rasterRecs slot (e.len / 8 + 1) e.ofs e.len

/-! ## The end of an activation (R686) -/

/-- Activation ends with RESULT: IMG_ACTIVATE (R691). -/
def State.actEnd (s : State) (result fimg : Nat) : State :=
  let s := { s with boot := { s.boot with act := none } }
  let s := ((s.setF fNVS_ACT_BUSY 0).setF fNVS_ACT_RESULT result).setF fNVS_ACT_FIMG fimg
  s.raise 0x1D1 0xE00 0 [(8, result), (8, s.f fNVS_ACT_MODE), (8, s.f fNVS_ACT_SEL), (8, fimg),
    (16, s.f fNVS_ACT_GRP_SEQDONE), (8, s.f fNVS_ACT_CPDONE)]

/-- When every swap of a live activation is done, ACTIVE takes the new slot and RESULT 0 is reported (R686, R562, R731). -/
def State.actDone (s : State) : State :=
  match s.boot.act with
  | none => s
  | some a =>
    if a.cps = [] ∧ a.copying = [] ∧ a.groups = [] then
      let s := (s.setF fNVS_ACT_ACTIVE a.slot).setF fCLK_BOOT_SLOT a.slot
      let s := s.setF fGEN_SLOTVER_SLOTVER (s.slotNat a.slot 4 4)
      (s.measImages a.slot).actEnd 0 0
    else s

end Sys2Proof.Machine
end

