-- ==== Sys2Proof/Machine/Upstream.lean ====
section
/-!
DEFINITION. What comes back on the chains (R379 to R386): answers of the partners, the retry timer, the upstream queues.
-/
namespace Sys2Proof.Machine

/-! ## Upstream queues (R386, R418 to R420) -/

/-- Replace the upstream queue of a group; COUNT follows. -/
def State.putUq (s : State) (g : Nat) (q : Upq) : State := (s.setUq g q).setF (fLNK_UPQ_CTRL_COUNT g) q.pkts.length

/-- The queue's pointer copies differ (R644). -/
def State.uqReset (s : State) (g : Nat) : State :=
  let q := s.uq g
  let cells := (q.pkts.map fun p => cellsOf p.words.length).sum
  ((s.putUq g { q with pkts := [], rd := 0 }).freeCells cells).queueReset 2 0 (0x800 + g) q.pkts.length

/-- An upstream packet enters the queue of group `g`: false when it is discarded (R386). -/
def State.upstreamPush (s : State) (g : Nat) (p : UpPkt) (mism : Bool) : Bool × State :=
  let s := if mism then s.uqReset g else s
  let q := s.uq g
  let n := cellsOf p.words.length
  if 1024 ≤ q.pkts.length ∨ ¬ s.poolHas n then
    let s := s.setW1c (fLNK_UPQ_CTRL_OVF g) 0
    (false, s.raise 0x166 (0x900 + p.pid / 16) (locusGroup g) [(16, p.pid), (8, p.typ)])
  else (true, (s.putUq g { q with pkts := q.pkts ++ [p] }).takeCells n)

/-- A read of LNK_UPQ_DATA (R419): the word, and the state after it. -/
def State.upqData (s : State) (g : Nat) : Nat × State :=
  let q := s.uq g
  match (q.pkts.head?.map fun p => p.words).bind fun ws => ws[q.rd]? with
  | some w => (w, s.setUq g { q with rd := q.rd + 1, last := w })
  | none => (q.last, s.setW1c (fLNK_UPQ_CTRL_UNDER g) 0)

/-- A write of POP = 1 (R420). -/
def State.upqPop (s : State) (g : Nat) (mism : Bool) : State :=
  if mism then s.uqReset g
  else
    match (s.uq g).pkts with
    | [] => s
    | p :: ps => (s.putUq g { s.uq g with pkts := ps, rd := 0 }).freeCells (cellsOf p.words.length)

/-- The fields of LNK_UPQ_HDR as a word (R418). -/
def State.upqHdr (s : State) (g : Nat) : Nat :=
  match (s.uq g).pkts with
  | [] => 0
  | p :: _ => 2 ^ 31 + p.typ * 2 ^ 27 + p.words.length * 2 ^ 20 + p.seq * 2 ^ 12 + p.pid

/-! ## Answers (R380 to R384) -/

/-- The outstanding packet an answer matches: position `p`, one of the types, the SEQ. -/
def State.answers (s : State) (c p : Nat) (typs : List Nat) (seq : Nat) : Option Nat :=
  (s.pq c p).findIdx? fun k => k.out && typs.contains k.typ && k.seq == some seq

/-- The matched packet is answered: it leaves its queue. -/
def State.answered (s : State) (c p : Nat) (i : Option Nat) : State :=
  match i with
  | some i => s.dropPkt c p i
  | none => s

/-- Can a chain's receiver take an upstream packet of partner `pid`: one of the chain's partners, position 15 among them (R353), and
its receiver has block lock (R392)? -/
def State.hears (s : State) (c pid : Nat) : Bool :=
  decide (c < 256 ∧ pid / 16 = c) && s.on (fLNK_STATUS_BLOCK_LOCK (s.rxLane c)) && s.lnSt c != 0 && s.lnSt c != 4

/-- ACK_RECEIVE (R381, R384). -/
def execAckReceive (c pid seq : Nat) (s : State) : Host.Outcome State Fault Refusal :=
  if s.hears c pid then .next (s.answered c (pid % 16) (s.answers c (pid % 16) [2, 8] seq)) else .next s

/-- NAK_RECEIVE (R379, R381, R383): `kind` is the kind of the slot it travelled in. -/
def execNakReceive (c pid seq reason kind : Nat) (s : State) : Host.Outcome State Fault Refusal :=
  if ¬ s.hears c pid then .next s
  else if kind = 0 then
    let s := s.count (fLNK_DLV_PIXNAK c) 1
    match s.chainOwner c with
    | none => .next s
    | some g =>
      let x := s.grp g
      if (s.ln c).nakFrame = some x.frame then .next s
      else
        let s := s.setLn c { s.ln c with nakFrame := some x.frame }
        .next (s.raiseLane 0x163 c [(16, pid), (8, reason), (8, 0), (48, x.frame), (16, x.line)])
  else
    let p := pid % 16
    let sp := if kind = 1 then 0 else 1
    match (if p = 15 then none else s.waitingIn c p sp) with
    | none => .next s
    | some i =>
      match (s.pq c p)[i]? with
      | none => .next s
      | some k =>
        if reason = 3 then .next ((s.setNextSeq c p sp seq).attemptFail c p i 3 true)
        else if k.seq = some seq then .next (s.attemptFail c p i reason false)
        else .next s

/-- Source SENSE occurs for the cores of the chain's owner (R386). -/
def State.senseOccurs (s : State) (c : Nat) : State :=
  match s.chainOwner c with
  | some g => s.occurGroup g 8
  | none => s

/-- RDR_RECEIVE (R384, R386): `mism` tells that the upstream queue's pointer copies differ (R644). A discarded RDR counts as
absent. -/
def execRdrReceive (c pid seq : Nat) (words : List Nat) (mism : Bool) (s : State) : Host.Outcome State Fault Refusal :=
  if ¬ s.hears c pid then .next s
  else
    let s := s.senseOccurs c
    let m := fun (s : State) => s.answered c (pid % 16) (s.answers c (pid % 16) [3] seq)
    match s.chainOwner c with
    | none => .next (m s)
    | some g =>
      let (ok, s) := s.upstreamPush g ⟨4, pid, seq, words.take 64⟩ mism
      .next (if ok then m s else s)

/-- SNS_RECEIVE (R386, R495): the calibration engine takes the answer to an addressed request. -/
def execSnsReceive (c pid seq : Nat) (words : List Nat) (mism : Bool) (s : State) : Host.Outcome State Fault Refusal :=
  if ¬ s.hears c pid then .next s
  else
    let ws := words.take 64
    let s := s.senseOccurs c
    let hit := s.answers c (pid % 16) [5] seq
    let s := s.answered c (pid % 16) hit
    match s.chainOwner c with
    | none => .next s
    | some g =>
      let s := if s.on (fLNK_CFG_UPQ_SNS c) then (s.upstreamPush g ⟨5, pid, seq, ws⟩ mism).2 else s
      .next (if hit.isSome then s.foldTake g pid ws else s)

/-- RETRY_TIMEOUT (R383): two later slots of its kind named the partner and no answer came. -/
def execRetryTimeout (c pos sp : Nat) (s : State) : Host.Outcome State Fault Refusal :=
  if 15 ≤ pos then .next s
  else
    match (s.pq c pos).findIdx? fun k => space k == sp && k.out && decide (2 ≤ k.timer) with
    | some i => .next (s.attemptFail c pos i ((((s.pq c pos)[i]?).map fun k => k.nak).getD 0) false)
    | none => .next s

/-- UNCLAIMED_PACKET (R373): a downstream packet returns; a broadcast is discarded. -/
def execUnclaimedPacket (c : Nat) (bcast : Bool) (s : State) : Host.Outcome State Fault Refusal :=
  .next (if c < 256 ∧ ¬ bcast then s.count (fLNK_ERR_UNCLAIMED c) 1 else s)

/-- UPSTREAM_BAD_CRC (R383). -/
def execUpstreamBadCrc (c : Nat) (s : State) : Host.Outcome State Fault Refusal :=
  .next (if c < 256 then s.count (fLNK_ERR_CRC c) 1 else s)

end Sys2Proof.Machine
end

