-- ==== Sys2Proof/Machine/Commits.lean ====
section
/-!
DEFINITION. Commits at the raster die (02): the checks of a start and of a commit (R51, R52, R141, R323, R760), refusal,
attribution to a latch (R56), taking effect (R57 to R59, R62, R64), holds (R67, R150, R426, R434), and program swaps (R687).
-/
namespace Sys2Proof.Machine

/-! ## Which group a shadowed word belongs to (R323) -/

/-- Group of a word of an array with a stride over the sixteen groups. -/
def inArray (a base stride : Nat) : Option Nat := if base ≤ a ∧ a < base + 16 * stride then some ((a - base) / stride) else none

/-- Panes and chains a word belongs to. -/
def paneOfWord (a : Nat) : Option Nat := if 0x02210000 ≤ a ∧ a < 0x022B0000 then some ((a - 0x02210000) / 0x40) else none
def chainOfWord (a : Nat) : Option Nat :=
  if 0x02C00000 ≤ a ∧ a < 0x02C00400 then some ((a - 0x02C00000) / 4)
  else if 0x02C30000 ≤ a ∧ a < 0x02C50000 then some ((a - 0x02C30000) / 0x200)
  else none

/-- Group of a word of a write set; `none` where it belongs to no group. -/
def State.groupOfWord (s : State) (a : Nat) : Option Nat :=
  match paneOfWord a with
  | some p => some (s.f (fPANE_GROUP p))
  | none =>
    match chainOfWord a with
    | some c => s.chainOwner c
    | none =>
      [inArray a 0x02000000 0x10000, inArray a 0x02200000 4, inArray a 0x02400000 0x100, inArray a 0x02600000 4,
        inArray a 0x02809000 0x10, inArray a 0x02E00000 0x100, inArray a 0x03000000 0x100,
        inArray a 0x03203000 0x40].findSome? id

/-- Panes and chains a write set writes. -/
def panesOfWs (ws : List WsWord) : List Nat := (ws.filterMap fun w => paneOfWord w.addr).eraseDups
def chainsOfWs (ws : List WsWord) : List Nat := (ws.filterMap fun w => chainOfWord w.addr).eraseDups

/-! ## What a write set carries -/

/-- The ten timing registers (R62). -/
def timingRegs (g : Nat) : List Nat :=
  [fTMG_HACT_VALUE g, fTMG_HFP_VALUE g, fTMG_HSYNC_VALUE g, fTMG_HBP_VALUE g, fTMG_VACT_VALUE g, fTMG_VFP_VALUE g,
    fTMG_VSYNC_VALUE g, fTMG_VBP_VALUE g, fTMG_LPER_INT_LPER_INT g, fTMG_LPER_FRAC_LPER_FRAC g].map fun f => f.addr

/-- A timing change (R62). -/
def wsTiming (g : Nat) (ws : List WsWord) : Bool := wsHasAny ws (timingRegs g)

/-- Registers that call for the checks of R51. -/
def wsLimits (g : Nat) (ws : List WsWord) : Bool :=
  wsTiming g ws || wsHasAny ws [(fTMG_VLATCH_LOFS g).addr, (fTMG_GENLOCK_GL_EN g).addr, (fTMG_VFP_LIM_VFP_MIN g).addr]

/-- What calls for the checks of R401. -/
def State.wsTables (s : State) (g : Nat) (ws : List WsWord) : Bool :=
  ((chainsOfWs ws).any fun c => s.chainOwner c == some g) ||
    wsHasAny ws [(fTMG_LPER_INT_LPER_INT g).addr, (fTMG_HACT_VALUE g).addr] || wsField ws (fPIX_CFG_DEPTH g) ||
    wsField ws (fDRV_MODE_TECH g)

/-- A swap (R687). -/
def wsSwap (g : Nat) (ws : List WsWord) : Bool :=
  wsHasAny ws [(fSQR_SWAP_LO_NEW g).addr, (fSQR_SWAP_HI_NEW g).addr, (fSQR_SWAP_CTL_SQA g).addr]

/-- A change of driver-IC mode: of R426, or of DEPTH (R169). -/
def State.wsDriver (s : State) (g : Nat) (ws : List WsWord) : Bool :=
  s.driverChange g ws || (wsField ws (fPIX_CFG_DEPTH g) &&
    ws.any fun w => w.addr == (fPIX_CFG_DEPTH g).addr && bitsOf w.val 23 20 != s.f (fPIX_CFG_DEPTH g))

/-! ## The checks (R51, R52, R141, R760) -/

/-- VFP_MIN as it acts (R97), and VTOTAL with it where GL_EN is 1. -/
def State.vfpMin (s : State) (g : Nat) : Nat := max 1 (s.f (fTMG_VFP_LIM_VFP_MIN g))
def State.vtotalMin (s : State) (g : Nat) : Nat :=
  let t := s.timing g
  t.vact + (if s.on (fTMG_GENLOCK_GL_EN g) then s.vfpMin g else t.vfp) + t.vsync + t.vbp

/-- Pixel-rate load of a group as a fraction (R52). -/
def State.load (s : State) (g : Nat) : Nat × Nat :=
  let t := s.timing g
  (ceilDiv t.hact 64 * t.vact * 1600000000 * 65536, s.vtotalMin g * t.lper)

/-- Sum of fractions. -/
def addFrac (a b : Nat × Nat) : Nat × Nat := (a.1 * b.2 + b.1 * a.2, a.2 * b.2)

/-- Is the sum of the loads of the groups above the cap (R52)? Group `g` counts whatever its state. -/
def State.overload (s : State) (g : Nat) : Bool :=
  let gs := allGroups.filter fun h => h == g || s.gState h != 0
  let sum := gs.foldl (fun a h => addFrac a (s.load h)) (0, 1)
  decide (sum.2 = 0 ∨ 1008000000 * sum.2 < sum.1)

/-- Line-buffer check of R141. -/
def State.lbBad (s : State) (g : Nat) : Bool :=
  let first := s.f (fPIX_LB_FIRST g)
  let count := s.f (fPIX_LB_COUNT g)
  decide (256 < first + count ∨ count * 65536 < 48 * s.f (fTMG_HACT_VALUE g)) ||
    allGroups.any fun h => h != g && s.gState h != 0 &&
      decide (first < s.f (fPIX_LB_FIRST h) + s.f (fPIX_LB_COUNT h) ∧ s.f (fPIX_LB_FIRST h) < first + count)

/-- Conditions 1 to 8 of R51, with the values in effect. -/
def State.limitBad (s : State) (g : Nat) : Nat → Bool
  | 1 => decide (s.hact g = 0 ∨ 32768 < s.hact g ∨ s.vact g = 0 ∨ 32768 < s.vact g)
  | 2 => decide (65536 < (s.timing g).htotal ∨ 65536 < (s.timing g).vtotal)
  | 3 => decide ((s.timing g).hsync = 0 ∨ (s.timing g).vsync = 0 ∨ (s.timing g).vfp = 0)
  | 4 => decide (s.f (fTMG_LPER_INT_LPER_INT g) < 256)
  | 5 => decide (s.vtotalMin g < (s.timing g).vlatch + s.lead g + 1)
  | 6 =>
    let d := s.vtotalMin g * s.lper g
    decide (1600000000 * 65536 < d ∨ 480 * d < 1600000000 * 65536)
  | 7 => s.overload g
  | _ => s.on (fTMG_GENLOCK_GL_EN g) && decide (s.f (fTMG_VFP_LIM_VFP_MAX g) < s.vfpMin g ∨
      s.f (fTMG_VFP_VALUE g) < s.vfpMin g ∨ s.f (fTMG_VFP_LIM_VFP_MAX g) < s.f (fTMG_VFP_VALUE g))

/-- The lowest failing code of R51, R141, R352, R401 and R425 on the values in effect (R760). `lim`, `lb`, `tab`, `drv` say
which of the checks are made; `start` that they are a start's; `hdr` is the waveform header read. For a STOPPED group's commit 7 and
16 are not judged (R59). -/
def State.checkCode (s : State) (g : Nat) (start lim lb tab drv : Bool) (hdr : List Byte) : Nat :=
  let low := if lim then ([1, 2, 3, 4, 5, 6, 7, 8].filter fun k => start || k != 7 || s.gState g != 0).find? fun k => s.limitBad g k
    else none
  let d := if drv then s.driveCode g start hdr else 0
  match low with
  | some k => k
  | none =>
    if lb ∧ s.lbBad g then 9
    else if start ∧ s.rangeCode g ≠ 0 then 13
    else if tab ∧ s.tablesCode g (s.depth g) ≠ 0 then s.tablesCode g (s.depth g)
    else if ¬ start ∧ d = 16 ∧ s.gState g = 0 then 0
    else d

/-- The registers with every commit that waits for a latch applied. -/
def State.withPending (s : State) : State :=
  allGroups.foldl (fun s g => (Grp.waitingCommits (s.grp g)).foldl (fun s c => s.applyWs c.ws) s) s

/-- Code of a start (R54), 0 if it passes. -/
def State.startCode (s : State) (g : Nat) : Nat := s.withPending.checkCode g true true true true true (s.readHdr g)

/-- NEW of a swap: SQ0 to SQ63 from bit 0, SQA bit 64 (R687). -/
def State.swapNew (s : State) (g : Nat) : Nat :=
  s.f (fSQR_SWAP_LO_NEW g) + 2 ^ 32 * s.f (fSQR_SWAP_HI_NEW g) + 2 ^ 64 * s.f (fSQR_SWAP_CTL_SQA g)

/-- A core of NEW that another group has, or that runs (code 20). -/
def State.swapBad (s : State) (g new : Nat) : Bool :=
  (List.range 65).any fun i => bit new i == 1 && (s.coreGroup (0x400 + i) != g || !s.coreStopped (0x400 + i))

/-- The waveform header that a commit is checked with: read now where the commit carries BIS_WF, else the last one read (R452); where none
has been read yet, the table's (log 126). `v` has the values with the commit. -/
def State.hdrFor (s v : State) (g : Nat) (ws : List WsWord) : List Byte :=
  let last := ((s.bis g).hdrNew.getLast?.map fun e => e.2.2).getD (s.bis g).hdr
  if wsHas ws (fBIS_WF_GRAN g).addr ∨ last = [] then v.readHdr g else last

/-- The code with which a commit is refused at its arrival, 0 if it is accepted (R60, R323, R687, R760). -/
def State.commitCode (s : State) (c : Commit) : Nat :=
  let g := c.group
  if c.doom ≠ 0 then c.doom
  else if c.ws.any fun w => s.groupOfWord w.addr != some g then 10
  else
    let s' := s.withPending.applyWs c.ws
    if wsSwap g c.ws ∧ s'.swapBad g (s'.swapNew g) then 20
    else s'.checkCode g false (wsLimits g c.ws) (wsHas c.ws (fTMG_HACT_VALUE g).addr) (s.wsTables g c.ws) (driveChecks g c.ws)
      (s.hdrFor s' g c.ws)

/-! ## Program swaps (R687) -/

/-- The cores of NEW start or are armed, the group's others stop. -/
def State.swapCores (s : State) (g new : Nat) (stopped : Bool) : State :=
  let now := s.time.raster
  let s := trCores.foldl (fun s o =>
    if s.coreGroup o = g ∧ bit new (o - 0x400) = 0 ∧ (stopped ∨ ¬ s.coreStopped o) then
      (if stopped then s else s.cancelEdges fun e => e.core == o && decide (now ≤ e.tick)).coreStop o
    else s) s
  trCores.foldl (fun s o =>
    if s.coreGroup o = g ∧ bit new (o - 0x400) = 1 then
      (if stopped then s.setF (fSQR_CTRL_ARM (o - 0x400)) 1 else s.coreStart o)
    else s) s

/-- A swap is made: SWAPS, SEQ_SWAP, measurement 16 + g; one the device issued is ticked off in SEQDONE (R686). -/
def State.doSwap (s : State) (g new : Nat) (own stopped : Bool) : State :=
  let s := (s.swapCores g new stopped).count (fSQR_SWAP_CTL_SWAPS g) 1
  let s := s.raiseG 0x1D2 g [(48, (s.grp g).frame), (8, new / 2 ^ 64), (8, 0), (32, new), (32, new / 2 ^ 32)]
  let s := s.measSeq g
  if own then
    let s := s.putBit fNVS_ACT_GRP_SEQDONE g true
    match s.boot.act with
    | some a => { s with boot := { s.boot with act := some { a with groups := a.groups.erase g } } }.actDone
    | none => s
  else s

/-! ## Taking effect -/

/-- GL_EN, SRC or POL changes at a commit (R69, R71). GL_EN becoming 0 takes back the pull of the frame in progress (log 119). -/
def State.genlockConfig (s : State) (g : Nat) (wasEn : Bool) : State :=
  let x := s.grp g
  let en := s.on (fTMG_GENLOCK_GL_EN g)
  let src := s.f (fTMG_GENLOCK_SRC g)
  let pol := s.f (fTMG_GENLOCK_POL g)
  let fresh : Genlock := ⟨none, none, s.time.raster, [], 0, 0, x.gl.pull, src, pol⟩
  if ¬ en then
    if wasEn then ((s.setGrp g { x with gl := { fresh with pull := 0 } }).setF (fTMG_STATUS_GL_STATE g) 0).setF (fTMG_GL_ERR_RESID g) 0
    else s
  else if ¬ wasEn then (s.setGrp g { x with gl := fresh }).setF (fTMG_STATUS_GL_STATE g) 1
  else if x.gl.src ≠ src ∨ x.gl.pol ≠ pol then
    s.setGrp g { x with gl := { x.gl with e1 := none, e2 := none, forgot := s.time.raster, src := src, pol := pol } }
  else s

/-- Image of the waveform table, as measured where the header check passes with the values of `v` (R562). -/
def State.measTable (s v : State) (g : Nat) : State :=
  let a := v.wfBase g
  let n := 256 + 65536 * 16 * hdrModes (v.wfHeader g)
  s.measure (32 + g) (.image n 0 ((s.fs.mem.filter fun e => decide (a ≤ e.1 ∧ e.1 < a + n)).map fun e => (e.1 - a, e.2)))

/-- Do two states give one value to a field? -/
def changedF (s t : State) (f : Fld) : Bool := s.f f != t.f f

/-- HIST_VALID is cleared at a latch (R165). -/
def histClears (s t : State) (g : Nat) : Bool :=
  changedF s t (fTMG_HACT_VALUE g) || changedF s t (fTMG_VACT_VALUE g) || changedF s t (fPIX_HIST_BASE_GRAN g) ||
    changedF s t (fPIX_HIST_GEOM_PITCH g) || (!s.on (fPIX_CFG_OD_EN g) && t.on (fPIX_CFG_OD_EN g))

/-- The planes a write set has checked (R154, R162): 0 demura, 1 aging, 2 history. -/
def wsPlanes (g : Nat) (ws : List WsWord) : List Nat :=
  [0, 1, 2].filter fun k => wsHasAny ws (([fPIX_CFG_OD_EN g, fTMG_HACT_VALUE g, fTMG_VACT_VALUE g] ++
    (match k with
    | 0 => [fPIX_DMU_BASE_GRAN g, fPIX_DMU_GEOM_BLK g]
    | 1 => [fPIX_AGE_BASE_GRAN g, fPIX_AGE_GEOM_BLK g]
    | _ => [fPIX_HIST_BASE_GRAN g, fPIX_HIST_GEOM_PITCH g])).map fun f => f.addr)

/-- Panes a commit wrote are checked and their requests submitted (R109, R125, R427), and what their captures held of the frame counts no
longer; a change of technology has the others checked as scan-out reads them. -/
def State.commitPanes (s : State) (g : Nat) (ps : List Nat) (techChanged : Bool) : State :=
  let s := ps.foldl (fun s p =>
    let s := { s with pix := { s.pix with badPanes := smSet (fun _ => false) s.pix.badPanes p false } }
    ((s.setF (fPANE_CAP_VALID p) 0).checkPane p).bisAuto p) (s.dropCaptures ps)
  if techChanged then
    ((s.panesOf g).filter fun p => s.f (fPANE_INV_CODE p) == 0 && !ps.contains p).foldl (fun s p => s.checkPane p) s
  else s

/-- A commit that carries BIS_WF takes effect: its header is the table's, and of the blocks of the old table only those that updates in
flight drive from stay (R449, R452). -/
def State.takeHdr (s : State) (c : Commit) : State :=
  let x := s.bis c.group
  match x.hdrNew.find? fun e => e.1 == c.issuer && e.2.1 == c.cseq with
  | none => s
  | some e =>
    s.setBis c.group { x with
      hdr := e.2.2
      hdrNew := x.hdrNew.filter fun d => !(d.1 == c.issuer && d.2.1 == c.cseq)
      cache := x.cache.filter fun w => x.flight.any fun u => u.req.mode == w.mode && u.band == w.band }

/-- A commit takes effect whole (R57 to R59). `tick` is its latch, or the tick of a STOPPED group. -/
def State.applyCommit (s : State) (c : Commit) (tick : Nat) (stopped : Bool) : State :=
  let g := c.group
  let old := s
  let oldV := (s.timing g).vtotal
  let timing := wsTiming g c.ws
  let driver := s.wsDriver g c.ws
  let ends := s.on (fCAL_SNS_CFG_FOLD g) && s.foldEnds g c.ws
  let s := if ends then s.foldAbandon g 1 else s
  let s := s.applyWs c.ws
  let newV := (s.timing g).vtotal
  let tables := (chainsOfWs c.ws).filter fun ch => s.chainOwner ch == some g
  let beyond := driver || (timing && (decide (oldV < 4 * (newV - oldV) ∨ oldV < 4 * (oldV - newV)) || !tables.isEmpty))
  let x := s.grp g
  let ps := panesOfWs c.ws
  let s := s.setGrp g { x with
    newTiming := !stopped && (x.newTiming || timing)
    biscuitNext := !stopped && (x.biscuitNext || beyond)
    applied := x.applied ++ [⟨c.issuer, c.cseq, tick, timing && (decide (4 * (newV - oldV) ≤ oldV ∧ 4 * (oldV - newV) ≤ oldV)) &&
      !driver && tables.isEmpty, c.waited, stopped, false, ps⟩] }
  let s := s.genlockConfig g (old.on (fTMG_GENLOCK_GL_EN g))
  let s := if histClears old s g then s.histClear g else s
  let s := (s.checkPlanes g (wsPlanes g c.ws)).takeHdr c
  let s := s.commitPanes g ps (changedF old s (fDRV_MODE_TECH g))
  let s := tables.foldl (fun s ch => s.tableEpoch g ch timing tick newV) s
  let s := if ¬ wsSwap g c.ws then s
    else
      let new := s.swapNew g
      let own := c.issuer == 0xE00
      if stopped then s.doSwap g new own true else s.setGrp g { s.grp g with swaps := (s.grp g).swaps ++ [(new, own)] }
  (s.occurApplied c.issuer c.cseq).commitDone c false

/-- A commit is refused (R60, R425): it takes no effect. -/
def State.refuseCommit (s : State) (c : Commit) (code : Nat) : State :=
  let s := if 16 ≤ code ∧ code ≤ 18 then (s.setF (fDRV_STATUS_CHK c.group) code).setF (fTMG_STATUS_CFG_ERR c.group) 0 else s
  let x := s.bis c.group
  let s := s.setBis c.group { x with hdrNew := x.hdrNew.filter fun d => !(d.1 == c.issuer && d.2.1 == c.cseq) }
  (s.raise 0x101 c.issuer (locusGroup c.group) [(16, c.cseq), (8, code)]).commitDone c true

/-- A commit reaches its latch: one whose shadow-store entry is found uncorrectable there is refused (R637). -/
def State.latchCommit (s : State) (c : Commit) (tick : Nat) (stopped : Bool) : State :=
  if c.doom = 19 then s.refuseCommit c 19 else s.applyCommit c tick stopped

/-- PEND and DEFERRING follow (R83). -/
def State.showPend (s : State) (g : Nat) : State :=
  let x := s.grp g
  (s.setF (fTMG_STATUS_PEND g) (min 255 x.attr.length)).setOn (fTMG_STATUS_DEFERRING g) (!x.held.isEmpty)

/-- A commit takes its place in arrival order, those of one tick in the order of their issuers' origin IDs (R325). -/
def insertCommit (c : Commit) : List Commit → List Commit
  | [] => [c]
  | d :: ds => if d.arrival = c.arrival ∧ c.issuer < d.issuer then c :: d :: ds else d :: insertCommit c ds

/-- COMMIT_ARRIVAL at the raster die (R56, R59, R60, R120). -/
def State.arriveCommit (s : State) (c : Commit) : State :=
  let c := { c with arrival := s.time.raster }
  let g := c.group
  let code := s.commitCode c
  if code ≠ 0 then s.refuseCommit c code
  else
    let s' := s.withPending.applyWs c.ws
    let s := if wsHas c.ws (fBIS_WF_GRAN g).addr then
        s.setBis g { s.bis g with hdrNew := (s.bis g).hdrNew ++ [(c.issuer, c.cseq, s'.readHdr g)] } else s
    let s := if driveChecks g c.ws ∧ s'.tech g = 3 then s.measTable s' g else s
    if s.gState g = 0 then s.applyCommit c c.arrival true
    else
      let x := s.grp g
      let late := s.pastCut g
      let wake := if late ∨ x.latched then (match x.lad.wake with
        | none => some c.arrival
        | some t => some t) else x.lad.wake
      let x := { x with lad := { x.lad with wake := wake } }
      let x := if late then { x with later := insertCommit c x.later } else { x with attr := insertCommit c x.attr }
      (s.setGrp g x).showPend g

/-- COMMIT_ARRIVAL: the oldest COMMIT on its way over TC1 reaches RCORE (R56). -/
def execCommitArrival (s : State) : Host.Outcome State Fault Refusal :=
  match s.transit with
  | [] => .next s
  | c :: cs => .next (({ s with transit := cs }).arriveCommit c)

/-! ## At a cut-off (R67, R150, R426, R434) -/

/-- Is a commit held at the latch whose cut-off passes? -/
def State.heldNow (s : State) (g : Nat) (c : Commit) : Bool :=
  let x := s.grp g
  let flight := !(s.bis g).flight.isEmpty
  let timing := wsTiming g c.ws
  let tech := wsField c.ws (fDRV_MODE_TECH g) && (s.driverChange g c.ws) &&
    c.ws.any fun w => w.addr == (fDRV_MODE_TECH g).addr && bitsOf w.val 31 29 != 3
  (s.tech g == 3 && flight && (timing || tech)) ||
    (match s.pix.tld with
    | some t => t.dir == 0 && t.group == g && commitSelects g t.kind t.bank c
    | none => false) ||
    (s.tech g == 0 && x.lad.k % 2 == 0 && (timing || s.wsDriver g c.ws))

/-- Split at the first held commit. -/
def splitHeld (p : Commit → Bool) : List Commit → List Commit × List Commit
  | [] => ([], [])
  | c :: cs => if p c then ([], c :: cs) else let r := splitHeld p cs; (c :: r.1, r.2)

/-- Does a commit hold bistable starts back while it is held (R67, R426)? -/
def holdsBis (g : Nat) (c : Commit) : Bool := wsTiming g c.ws || wsField c.ws (fDRV_MODE_TECH g)

/-- The cut-off of the coming latch passes. -/
def State.passCutoff (s : State) (g : Nat) : State :=
  let x := s.grp g
  let r := splitHeld (s.heldNow g) (x.held ++ x.attr)
  let held := r.2.map fun c => { c with waited := true }
  let sr := if x.srEnterAtLatch then 1 else if x.srExitAtLatch then 2 else 0
  let s := s.setGrp g { x with
    cutPassed := true
    attr := r.1
    held := held
    srAtLatch := sr
    srEnterAtLatch := false
    srExitAtLatch := false
    lad := { x.lad with watchedCut := x.lad.watched, watched := false } }
  (((s.showPend g).bisCutoff g !(held.any fun c => holdsBis g c)).foldCutoff g)

/-- CUTOFF (R56). -/
def execCutoff (g : Nat) (s : State) : Host.Outcome State Fault Refusal :=
  let x := s.grp g
  match s.nextCut g with
  | none => .next s
  | some t => if 16 ≤ g ∨ x.cutPassed ∨ s.time.raster < t then .next s else .next (s.passCutoff g)

end Sys2Proof.Machine
end

