-- ==== Sys2Proof/Machine/Banks.lean ====
section
/-!
DEFINITION. SRAM banks (14): their uses and the condition for low power (R631), requests and states (R634), the return to
ON (R635), and the contents a bank loses. Core memories are packed into their banks in order (log entry 27); which table
banks an SRAM bank holds is open (log entry 28).
-/
namespace Sys2Proof.Machine

/-- The codec counts as stopped (R241). -/
def State.cdcStopped (s : State) : Bool :=
  s.f fCDC_RING_PTR_HEAD == s.f fCDC_RING_PTR_TAIL && s.f fCDC_STATUS_BUSY == 0

/-- The bank of a memory word of a core, by its key in `ThSt` (R249, R631; log entry 27). -/
def memBank (data : Bool) (key : Nat) : Nat :=
  let o := key / 65536
  let w := 4 * (key % 65536)
  if isTC o then 5 + (196608 * (o - 0x300) + (if data then 131072 else 0) + w) / 262144
  else if o = 0x440 then 253
  else 160 + (81920 * (o - 0x400) + (if data then 65536 else 0) + w) / 262144

/-- The first and last bank with memory of a core. -/
def coreBanks (o : Nat) : Nat × Nat :=
  if isTC o then (5 + 196608 * (o - 0x300) / 262144, 5 + (196608 * (o - 0x300) + 196607) / 262144)
  else if o = 0x440 then (253, 253)
  else (160 + 81920 * (o - 0x400) / 262144, 160 + (81920 * (o - 0x400) + 81919) / 262144)

/-- Does a core keep memory in bank `b`? -/
def inBank (o b : Nat) : Bool := decide ((coreBanks o).1 ≤ b ∧ b ≤ (coreBanks o).2)

/-- Every table bank that bank `b` holds is unloaded (R631). -/
def State.tablesUnloaded (s : State) (b : Nat) : Bool :=
  allGroups.all fun g => [0, 1, 2].all fun k => [0, 1].all fun n =>
    bit (s.f (fLoaded g k)) n == 0 || !Config.tableIn b ((g * 3 + k) * 2 + n)

/-- The condition under which bank `b` may be in a low-power state (R631). -/
def State.bankFree (s : State) (b : Nat) : Bool :=
  if 5 ≤ b ∧ b ≤ 10 then ((List.range 8).map fun c => 0x300 + c).all fun o => !inBank o b || s.coreStopped o
  else if 31 ≤ b ∧ b ≤ 95 then s.cdcStopped && allGroups.all fun g => s.gState g == 0
  else if 96 ≤ b ∧ b ≤ 159 then
    let u := 4 * (b - 96)
    allGroups.all fun g => s.gState g == 0 ||
      decide (u + 4 ≤ s.f (fPIX_LB_FIRST g) ∨ s.f (fPIX_LB_FIRST g) + s.f (fPIX_LB_COUNT g) ≤ u ∨ s.f (fPIX_LB_COUNT g) = 0)
  else if 160 ≤ b ∧ b ≤ 179 then ((List.range 64).map fun c => 0x400 + c).all fun o => !inBank o b || s.coreStopped o
  else if 198 ≤ b ∧ b ≤ 206 then s.tablesUnloaded b
  else if 223 ≤ b ∧ b ≤ 238 then s.gState (b - 223) == 0
  else false

/-- Bank `b` loses its contents (R634): what no stopped user keeps elsewhere. -/
def State.bankLose (s : State) (b : Nat) : State :=
  if (5 ≤ b ∧ b ≤ 10) ∨ (160 ≤ b ∧ b ≤ 179) then
    { s with th := { s.th with
        imem := s.th.imem.filter fun e => memBank false e.1 != b
        dmem := s.th.dmem.filter fun e => memBank true e.1 != b } }
  else if 223 ≤ b ∧ b ≤ 238 then
    { s with drv := { s.drv with bis := s.drv.bis.map fun e =>
        if e.1 = b - 223 then (e.1, { e.2 with cache := [] }) else e } }
  else s

/-- STATE of a bank: 0 ON, 1 RETENTION, 2 OFF. -/
def State.bankSt (s : State) (b : Nat) : Nat := s.f (fMEM_BANK_STATE b)

/-- Put a bank into a state: contents are lost in OFF, and zero-filled on leaving it (R634, R635). -/
def State.setBank (s : State) (b st : Nat) : State :=
  let was := s.bankSt b
  let s := s.setF (fMEM_BANK_STATE b) st
  if st = 2 then (s.bankLose b).setF (fMEM_BANK_INIT b) 0
  else if was = 2 then s.setF (fMEM_BANK_INIT b) 1 else s

/-- A write of REQ (R634). -/
def State.bankRequest (s : State) (b req : Nat) : State :=
  let st := if req = 3 then 0 else req
  if st = 0 then (s.setF (fMEM_BANK_REQ b) req).setBank b 0
  else if s.bankFree b then (s.setF (fMEM_BANK_REQ b) req).setBank b st
  else s.err 1 (0x01200000 + 4 * b)

/-- Banks in a low-power request whose condition no longer holds return to ON, and REQ reads 0 (R635). -/
def State.wakeBanks (s : State) : State :=
  (List.range 260).foldl (fun s b =>
    if (s.f (fMEM_BANK_REQ b) = 1 ∨ s.f (fMEM_BANK_REQ b) = 2) ∧ ¬ s.bankFree b then
      (s.setF (fMEM_BANK_REQ b) 0).setBank b 0 else s) s

/-- An access to a bank in RETENTION wakes it (R634). -/
def State.touchBank (s : State) (b : Nat) : State := if s.bankSt b = 1 then s.setF (fMEM_BANK_STATE b) 0 else s

/-- Some bank with memory of the core is still being zero-filled: the core waits for it (R635). -/
def State.coreInit (s : State) (o : Nat) : Bool :=
  s.on (fMEM_BANK_INIT (coreBanks o).1) || s.on (fMEM_BANK_INIT (coreBanks o).2)

end Sys2Proof.Machine
end

