-- ==== Sys2Proof/Machine/Queues.lean ====
section
/-!
DEFINITION. Command queues (R306 to R318): doorbells, taking and fetching entries, the trailer check (R569 to R571), reset;
the management port as an owner (R327) and the forced break of a lock (R330).
-/
namespace Sys2Proof.Machine

/-! ## Rings -/

/-- Byte address of entry `i` of queue `q` (R306). -/
def State.qAddr (s : State) (q i : Nat) : Nat :=
  2 ^ 32 * s.f (fCXL_Q_BASE_HI_BASE_HI q) + 64 * s.f (fCXL_Q_BASE_LO_BASE_LO q) + 64 * i

def State.qHead (s : State) (q : Nat) : Nat := s.f (fCXL_Q_PTR_HEAD q) % s.qSize q
def State.qTail (s : State) (q : Nat) : Nat := s.f (fCXL_Q_PTR_TAIL q) % s.qSize q

/-- A doorbell (R307, R310): TAIL is written; the serving command processor sees DOORBELL (R271). -/
def State.doorbell (s : State) (q v : Nat) : State :=
  let now := s.time.master
  let old := match smGet (fun _ => (0, 0)) s.th.bells q with
    | (t, tl) => if t = now + 1 then tl else s.qTail q
  let s := { s with th := { s.th with bells := smSet (fun _ => (0, 0)) s.th.bells q (now + 1, old) } }
  (s.setF (fCXL_Q_PTR_TAIL q) (v % s.qSize q)).occur (0x300 + s.f (fCXL_Q_CFG_CP q)) 11

/-- TAIL as a reset sees it: doorbells of the same tick come after the reset (R310). -/
def State.tailForReset (s : State) (q : Nat) : Nat :=
  match smGet (fun _ => (0, 0)) s.th.bells q with
  | (t, tl) => if t = s.time.master + 1 then tl else s.qTail q

/-- A queue is reset (R310, R311): `cause` for QUEUE_STATE, `detail` for its entry. -/
def State.cxlQReset (s : State) (q cause detail : Nat) : State :=
  let s := s.setStopReq q false
  let s := match s.qEntry q with
    | none => s.ownerFail q 0
    | some (cp, e) =>
      let o := 0x300 + cp
      let s := s.entryEnd cp 6 detail 0
      if e.stage = 3 then (s.setCore o (s.core o).idle).setCoreSt o 0 else s
  (s.setF (fCXL_Q_PTR_HEAD q) (s.tailForReset q)).setQState q 0 cause

/-- A write of CXL_Q_CTRL (R309, R310, R338). -/
def State.queueCtrl (s : State) (q : Nat) (run reset : Bool) : State :=
  let s := if reset then s.cxlQReset q 0 0 else s
  if run then
    let s := (s.setF (fCXL_Q_CTRL_RUN q) 1).setStopReq q false
    if s.qState q = 0 ∨ s.qState q = 3 then s.setQState q (s.qRunState q) 0 else s
  else if (s.qEntry q).isSome then (s.setF (fCXL_Q_CTRL_RUN q) 0).setStopReq q true
  else (s.setF (fCXL_Q_CTRL_RUN q) 0).setQState q 0 0

/-! ## Taking and starting entries -/

/-- Is the command processor's firmware being replaced (R689)? -/
def State.copying (s : State) (cp : Nat) : Bool :=
  match s.boot.act with
  | some a => a.copying.any fun x => x.1 == cp
  | none => false

/-- Do the command processors serve queue `q` yet (R680, R683, R684)? Queue 0 waits for an autostart. -/
def State.cpServes (s : State) (cp q : Nat) : Bool :=
  (bit (s.f fCLK_BOOT_STAGES) 6 == 1 && !(q == 0 && s.boot.autostart)) || (s.on fCLK_BOOT_RECOVERY && cp == 0 && q == 0)

/-- May command processor `cp` take an entry (R308, R318)? -/
def State.cpIdle (s : State) (cp : Nat) : Bool :=
  (s.entry cp).isNone && !s.copying cp && !(smGet (fun _ => false) s.th.noServe cp) && s.coreSt (0x300 + cp) != 1 && s.coreSt (0x300 + cp) != 2

/-- Queues of a command processor with an entry to take (R308). -/
def State.cpReady (s : State) (cp : Nat) : List Nat :=
  (List.range 512).filter fun q => s.f (fCXL_Q_CFG_CP q) == cp && s.qState q == 1 && s.qHead q != s.qTail q && !s.stopReq q && (s.qEntry q).isNone &&
    s.cpServes cp q

/-- Program `n` of a command processor: VALID, CRIT, START_W (R315). -/
def State.program (s : State) (cp n : Nat) : Bool × Bool × Nat :=
  let w := s.dmem (0x300 + cp) n
  (bit w 31 == 1, bit w 30 == 1, w % 2 ^ 15)

/-- Words of an entry's body (R313, R314). -/
def Entry.word (e : Entry) (i : Nat) : Nat := leNat ((e.data.drop (4 * i)).take 4)
def Entry.kind (e : Entry) : Nat := e.word 0 / 2 ^ 28
def Entry.nwords (e : Entry) : Nat := bitsOf (e.word 0) 25 22
def Entry.prog (e : Entry) : Nat := e.word 1 % 2 ^ 10

/-- Place words in the instruction memory. -/
def putWords (o : Nat) : Nat → List Nat → State → State
  | _, [], s => s
  | a, w :: ws, s => putWords o (a + 1) ws (s.setImem o a w)

/-- An entry starts to execute (R316). -/
def State.entryStart (s : State) (cp : Nat) (e : Entry) : State :=
  let o := 0x300 + cp
  let args := (List.range e.nwords).map fun i => e.word (2 + i)
  let g0 : SMap Nat := smSet (fun _ => 0) (smSet (fun _ => 0) [] 30 e.tag) 31 e.q
  let g := if e.kind = 2 then
      (List.range e.nwords).foldl (fun g i => smSet (fun _ => 0) g (1 + i) (args.getD i 0)) g0 else g0
  let pc := if e.kind = 2 then 4 * (s.program cp e.prog).2.2 else 4 * 0x7FF0
  let s := if e.kind = 1 then putWords o 0x7FF0 (args ++ List.replicate (14 - e.nwords) 0) s else s
  let s := s.setCore o { (s.core o).idle with g := g, flags := 0, stack := [0x1FFF8], pc := pc }
  (((s.setF (fcPend o) 0).setEntry cp (some { e with stage := 3 })).setCoreSt o 1).wakeBanks

/-- An entry whose header and trailer have passed: EMPTY ends at once, a CALL is judged, the rest starts (R314, R316, R317,
R568). -/
def State.entryGo (s : State) (cp : Nat) (e : Entry) : State :=
  if e.kind = 0 then s.entryEnd cp 0 0 0
  else if e.kind = 2 then
    match s.program cp e.prog with
    | (valid, crit, _) =>
      if ¬ valid then s.entryEnd cp 4 4 0
      else if crit ∧ ¬ e.crit then s.entryEnd cp 3 1 0
      else if crit ∧ e.slot ≠ 64 ∧ bit (s.f (fSEC_SLOT_CFG_PERM e.slot)) 7 = 0 then s.entryEnd cp 3 3 0
      else s.entryStart cp e
  else s.entryStart cp e

/-- An autostart is due: stage 8 has ended (R684). -/
def State.autoDue0 (s : State) : Bool := s.boot.autostart && s.on fCLK_BOOT_DONE

/-- The autostart entry (R684): program 0 as a CALL of queue 0 with TAG 0, G1 = SLOT, G2 = BT_VALID; issuer slot 64 stands for the
one of R684 with its permissions. -/
def State.autoEntry (s : State) : Entry :=
  ⟨0, s.qHead 0, 1, 0, false,
    [0x28800000, 0, s.f fCLK_BOOT_SLOT, s.f fNVS_STATUS_BT_VALID].flatMap (fun w => leBytes 4 w), 64, true, 0, []⟩

/-- CP0 runs program 0 at the end of stage 8, if it is VALID. -/
def State.autoStart (s : State) : State :=
  if ¬ s.autoDue0 ∨ ¬ s.cpIdle 0 then s
  else
    let s := { s with boot := { s.boot with autostart := false } }
    if (s.program 0 0).1 then s.entryStart 0 s.autoEntry else s

/-- ENTRY_TAKE (R308): the idle command processor takes the next entry by rotating priority and fetches it; CP0 takes a
due autostart first (R684). -/
def execEntryTake (cp : Nat) (s : State) : Host.Outcome State Fault Refusal :=
  if 8 ≤ cp ∨ ¬ s.cpIdle cp then .next s
  else if cp = 0 ∧ s.autoDue0 then .next s.autoStart
  else
    let qs := s.cpReady cp
    match s.arbRound (arbCp cp) (fun _ => 0) qs qs with
    | (none, _) => .next s
    | (some q, s) =>
      let i := s.qHead q
      let s := s.setEntry cp (some ⟨q, i, 0, 0, false, [], 0, false, 0, []⟩)
      .next (if s.on (fCXL_Q_CFG_SPACE q) then s.out (.rdCurr (s.qAddr q i / 64)) else s)

/-- DETAIL of a malformed header, 0 for none (R313, R314, R317); PROG is judged by `entryGo`. -/
def Entry.bad (e : Entry) : Nat :=
  let top := if e.crit then 8 else 14
  let n := e.nwords
  let nOk : Bool := match e.kind with
    | 0 => n == 0
    | 1 => decide (1 ≤ n ∧ n ≤ top)
    | _ => decide (n ≤ top)
  if 2 < e.kind then 1
  else if ¬ nOk then 2
  else if e.word 1 / 2 ^ 10 ≠ 0 ∨ (e.kind ≠ 2 ∧ e.prog ≠ 0) ∨ (¬ e.crit ∧ e.slot ≠ 0) then 3
  else 0

/-- ENTRY_FETCH_DONE (R314): the entry's 64 bytes are read; `host` gives those of a host-memory ring, none when the read
failed. A frame-store line the host may cache is asked back first. -/
def execEntryFetchDone (cp : Nat) (host : Option (List Byte)) (s : State) : Host.Outcome State Fault Refusal :=
  match s.entry cp with
  | none => .next s
  | some e =>
    if e.stage ≠ 0 then .next s
    else
      let a := s.qAddr e.q e.idx
      let space := s.on (fCXL_Q_CFG_SPACE e.q)
      if space ∧ ¬ s.on fCXL_LINK_STATUS_CACHE then .next s
      else
        let (ok, s) := s.readGate false (if ¬ space ∧ a + 64 ≤ fsEnd then [(a, 64)] else [])
        if ¬ ok then .next s
        else
          let data := if space then host else if fsEnd < a + 64 ∨ s.poisonedIn a 64 then none else some (s.fsBytes a 64)
          match data with
          | none => .next (s.entryEnd cp 5 0 0)
          | some bs =>
            let w := leNat (bs.take 4)
            let e := { e with data := bs, tag := w % 2 ^ 16, notify := bit w 26 == 1, crit := bit w 27 == 1,
                              slot := bitsOf w 21 16 }
            let s := s.setEntry cp (some e)
            if e.bad ≠ 0 then .next (s.entryEnd cp 4 e.bad 0)
            else if e.crit then
              .next { s.setEntry cp (some { e with stage := 1 }) with th := { (s.setEntry cp (some { e with stage := 1 })).th with
                checks := s.th.checks ++ [e.q] } }
            else .next (s.entryGo cp e)

/-! ## The trailer check (R569 to R571) -/

/-- The counter and the tag of a trailer (R314). -/
def Entry.ctr (e : Entry) : Nat := leNat ((e.data.drop 40).take 8)
def Entry.tagBytes (e : Entry) : List Byte := (e.data.drop 48).take 16

/-- Why a trailer is rejected, 0 when it passes (R570). -/
def State.trailerCode (s : State) (e : Entry) : Nat :=
  let key := s.slotKey e.slot
  if s.f fSEC_LC_STATE = 4 ∨ s.on fSEC_LC_TAMPERED then 4
  else if key = [] then 1
  else if (Config.hmac384 key (leBytes 8 s.sec.devid ++ e.data.take 48)).take 16 ≠ e.tagBytes then 3
  else if e.ctr ≤ s.lastCtr e.slot then 2
  else 0

/-- TRAILER_CHECK_DONE (R570, R571): the check of the first waiting entry ends. -/
def execTrailerCheckDone (s : State) : Host.Outcome State Fault Refusal :=
  match s.th.checks with
  | [] => .next s
  | q :: rest =>
    let s := { s with th := { s.th with checks := rest } }
    match s.qEntry q with
    | none => .next s
    | some (cp, e) =>
      let code := s.trailerCode e
      if code ≠ 0 then
        .next ((s.raise 0x1A0 q 0 [(8, code), (8, e.slot), (16, 0), (16, e.idx), (16, 0), (64, e.ctr)]).entryEnd cp 2 code 0)
      else
        .next (((s.setEntry cp (some { e with stage := 2 })).setLastCtr e.slot e.ctr).nvSubmit
          ⟨1, q, ctrAddr e.slot, leBytes 8 e.ctr⟩)

/-- ENTRY_RELEASE (R571): the LASTCTR record of the entry is accepted; the entry is released to execute. -/
def execEntryRelease (q : Nat) (s : State) : Host.Outcome State Fault Refusal :=
  match s.qEntry q with
  | none => .next s
  | some (cp, e) => if e.stage = 4 then .next (s.entryGo cp e) else .next s

/-- COMMIT_RESULT_REPORT (R329): the oldest result on its way reaches the host die. -/
def execCommitResultReport (s : State) : Host.Outcome State Fault Refusal :=
  match s.th.reports with
  | [] => .next s
  | r :: rest => .next ({ s with th := { s.th with reports := rest } }.takeReport r)

/-! ## The management port and the forced break -/

/-- FLAG and VALUE of CPR_MP_RESULT (R343). -/
def State.mpResult (s : State) (flag : Bool) (value : Nat) : State :=
  (s.setOn fCPR_MP_RESULT_FLAG flag).setF fCPR_MP_RESULT_VALUE value

/-- A write of CPR_MP_OP by the management port (R327, R342). -/
def State.mpOp (s : State) (v : Nat) : State :=
  let group := bitsOf v 13 10
  let lock := v % 2 ^ 10
  let s := (s.setF fCPR_MP_OP_GROUP group).setF fCPR_MP_OP_LOCK lock
  match v / 2 ^ 28 with
  | 1 => match s.txnBegin 0x200 with
    | (ok, s) => s.mpResult ok 0
  | 2 => match s.txnCommit 0x200 group with
    | (none, s) => s.mpResult false 0
    | (some c, s) => { s with transit := s.transit ++ [c] }.mpResult true c.cseq
  | 3 => (s.txnAbort 0x200).mpResult false 0
  | 4 => match s.lockTake 0x200 lock with
    | (st, ok, s) => s.mpResult ok st
  | 5 => match s.lockFree 0x200 lock with
    | (ok, s) => s.mpResult ok 0
  | _ => s

/-- MP_TARGET_RESET (R329): the management port is reset as an owner. -/
def execMpTargetReset (s : State) : Host.Outcome State Fault Refusal := .next (s.ownerFail 0x200 0)

/-- The forced break of a lock (R330). -/
def State.lockBreak (s : State) (n : Nat) : State :=
  if s.f (fCPR_LOCK_STATUS n) ≠ 3 ∨ s.on (fCPR_LOCK_ORPHAN n) then s
  else
    let owner := s.f (fCPR_LOCK_OWNER n)
    let s := if (s.lk n).point.isSome then s
      else match s.txnSlot owner with
        | none => s
        | some t => if s.f (fCPR_TXN_OWN_STATE t) = 1 then s.doomTxn t 2 else s
    s.lockFail n 2

end Sys2Proof.Machine
end

