-- ==== Sys2Proof/Machine/HostIf.lean ====
section
/-!
DEFINITION. The host interface (11): resets and link loss (R541, R542), CXL.cache availability (R534), CXL.mem and the snoop
filter (R530 to R532), CXL.cache reads (R533), the mailbox and DOE replies (R527, R528).
-/
namespace Sys2Proof.Machine

/-- HOST_STATE (R544). -/
def State.hostState (s : State) (kind : Nat) : State :=
  s.raise 0x190 0xE00 0 [(8, kind), (8, s.f fCXL_LINK_STATUS_RATE), (8, s.f fCXL_LINK_STATUS_WIDTH)]

/-! ## The snoop filter (R532) -/

/-- Replace the filter; SF_USED follows (R547). -/
def State.setSf (s : State) (l : List Nat) : State :=
  { s with host := { s.host with sf := l } }.setF fCXL_BI_SF_USED l.length

/-- What waits for the frame store and can go on does: device writes and the jobs whose writes they are, event rings, a key load. -/
def State.storeGoes (s : State) : State := s.drainWrites.runJobs.ringsResume.secResume

/-- A line leaves the filter by a back-invalidate response: what waited for it goes on. -/
def State.lineFreed (s : State) (line : Nat) : State :=
  let s := { s with host := { s.host with bi := s.host.bi.filter fun b => b.line != line } }
  (s.setSf (s.host.sf.filter fun l => l != line)).storeGoes

/-- The filter is emptied (R541, R542). -/
def State.dropSf (s : State) : State := ({ s with host := { s.host with bi := [], sfWait := [] } }.setSf []).storeGoes

/-! ## Availability of CXL.cache (R534) -/

/-- Availability ends or begins: RUNNING queues in host memory wait, or HOSTWAIT ones resume (R309). -/
def State.cacheQueues (s : State) (avail : Bool) : State :=
  (List.range 512).foldl (fun s q =>
    if ¬ avail ∧ s.qState q = 1 ∧ s.on (fCXL_Q_CFG_SPACE q) then s.setQState q 2 5
    else if avail ∧ s.qState q = 2 then s.setQState q 1 5
    else s) s

/-- CXL.cache becomes unavailable (R122, R309, R546), if it was available. -/
def State.cacheLost (s : State) (cause : Nat) : State :=
  if ¬ s.on fCXL_LINK_STATUS_CACHE then { s with host := { s.host with cacheEn := false } }
  else
    let s := { s with host := { s.host with cacheEn := false } }
    let s := ((s.setF fCXL_LINK_STATUS_CACHE 0).count fCXL_HOST_CNT_CACHELOSS 1).cacheQueues false
    if cause = 0 then s else s.sleepNow cause

/-- CXL_CACHE_AVAILABLE (R534): Cache_Enable is set while the link is up with CXL.cache negotiated. -/
def execCxlCacheAvailable (s : State) : Host.Outcome State Fault Refusal :=
  if ¬ s.on fCXL_LINK_STATUS_UP ∨ ¬ s.on fCXL_LINK_STATUS_CXL ∨ s.host.inReset ∨ s.on fCXL_LINK_STATUS_CACHE then .next s
  else
    let s := { s with host := { s.host with cacheEn := true } }.setF fCXL_LINK_STATUS_CACHE 1
    .next ((s.cacheQueues true).hostState 4)

/-- CXL_CACHE_UNAVAILABLE (R534): Cache_Enable is cleared. -/
def execCxlCacheUnavailable (s : State) : Host.Outcome State Fault Refusal :=
  if ¬ s.on fCXL_LINK_STATUS_CACHE then .next s else .next ((s.cacheLost 4).hostState 5)

/-! ## Resets and link loss (R541, R542) -/

/-- The rings in host memory of the functions `fs` are disabled. -/
def State.hostRingsOff (s : State) (fs : List Nat) : State :=
  (List.range 8).foldl (fun s k =>
    if s.on (fEVR_CFG_SPACE k) ∧ fs.contains (s.f (fEVR_CFG_FUNC k)) then s.ringOff k else s) s

/-- MSI-X state of a function at reset: every vector masked, none pending. -/
def State.msixReset (s : State) (func : Nat) : State :=
  let keep := fun (e : Nat × Bool) => e.1 / 2048 != func
  { s with host := { s.host with unmasked := s.host.unmasked.filter keep, msixPend := s.host.msixPend.filter keep } }

/-- Bring MEM of CXL_LINK_STATUS up to date (R545). -/
def State.memStat (s : State) : State := s.setOn fCXL_LINK_STATUS_MEM (s.host.memEn && s.host.hdm.isSome)

/-- The link is down (R545). -/
def State.linkDown (s : State) : State :=
  let s := (((s.setF fCXL_LINK_STATUS_UP 0).setF fCXL_LINK_STATUS_CXL 0).setF fCXL_LINK_STATUS_LOPT 0).setF
    fCXL_LINK_STATUS_L1 0
  let s := ((s.setF fCXL_LINK_STATUS_IDE_IO 0).setF fCXL_LINK_STATUS_IDE_CM 0).setF fCXL_LINK_STATUS_WIDTH 0
  s.setF fCXL_LINK_STATUS_RATE 0

/-- R542: `kind` of HOST_STATE, the cause of SLEEP, and the cause of the queue resets. -/
def State.hostReset (s : State) (kind sleep qcause : Nat) : State :=
  let s := (s.sleepNow sleep)
  let s := (List.range 512).foldl (fun s q => if s.on (fCXL_Q_CFG_HOSTBOUND q) then s.cxlQReset q qcause qcause else s) s
  let s := (((s.cacheLost 0).cacheQueues false).hostRingsOff [0, 1]).dropSf
  let s := { s with host := { s.host with
    inReset := true, training := true, memEn := false, hdm := none, d3pf0 := false, d3pf1 := false, ideKeys := [] } }
  let s := (((s.msixReset 0).msixReset 1).linkDown).memStat
  (s.hostState kind).fault 0x10 0xE00 0 kind

/-- HOST_HOT_RESET (R542). -/
def execHostHotReset (s : State) : Host.Outcome State Fault Refusal :=
  if s.boot.porst then .next s else .next ((s.count fCXL_HOST_CNT_HOTRST 1).hostReset 1 2 1)

/-- PERST_ASSERT (R542): handled as a host hot reset. -/
def execPerstAssert (s : State) : Host.Outcome State Fault Refusal :=
  if s.boot.porst ∨ s.host.perst then .next { s with host := { s.host with perst := true } }
  else .next ({ s with host := { s.host with perst := true } }.count fCXL_HOST_CNT_HOTRST 1 |>.hostReset 9 2 1)

/-- PERST_DEASSERT (R542): training resumes. -/
def execPerstDeassert (s : State) : Host.Outcome State Fault Refusal :=
  .next { s with host := { s.host with perst := false, training := true } }

/-- LINK_LOSS (R542): the data link goes down without hot reset. -/
def execLinkLoss (s : State) : Host.Outcome State Fault Refusal :=
  if ¬ s.on fCXL_LINK_STATUS_UP then .next s
  else .next ((s.count fCXL_HOST_CNT_LINKLOSS 1).hostReset 2 3 2)

/-- LINK_UP (R522, R524, R545): the link reaches L0 at `rate` and `width`, with CXL negotiated or as PCIe only. -/
def execLinkUp (rate width : Nat) (cxl lopt : Bool) (s : State) : Host.Outcome State Fault Refusal :=
  let bad := decide (rate < 3 ∨ 6 < rate) || !(width == 4 || width == 8 || width == 16)
  if s.on fCXL_LINK_STATUS_UP ∨ s.host.perst ∨ s.boot.porst ∨ bit (s.f fGEN_BLKRDY_RDY) 2 = 0 ∨ bad then .next s
  else
    let s := { s with host := { s.host with inReset := false, training := false } }
    let s := ((s.setF fCXL_LINK_STATUS_UP 1).setOn fCXL_LINK_STATUS_CXL cxl).setOn fCXL_LINK_STATUS_LOPT lopt
    .next (((s.setF fCXL_LINK_STATUS_WIDTH width).setF fCXL_LINK_STATUS_RATE rate).hostState 3)

/-- FLR (R541): function-level reset of PF0 (0) or PF1 (1). -/
def execFlr (func : Nat) (s : State) : Host.Outcome State Fault Refusal :=
  if 2 ≤ func then .next s
  else
    let s := ((s.count fCXL_HOST_CNT_FLR 1).msixReset func).hostRingsOff [func]
    let s := if func = 0 then { s with host := { s.host with d3pf0 := false } }
      else { s with host := { s.host with d3pf1 := false } }
    .next (s.hostState (6 + func))

/-- CXL_RESET (R541). -/
def execCxlReset (s : State) : Host.Outcome State Fault Refusal :=
  let s := ((s.count fCXL_HOST_CNT_FLR 1).cacheLost 4).dropSf
  .next (({ s with host := { s.host with hdm := none } }.memStat).hostState 8)

/-- L1_ENTRY (R522, R545). -/
def execL1Entry (s : State) : Host.Outcome State Fault Refusal :=
  if s.on fCXL_LINK_STATUS_UP then .next (s.setF fCXL_LINK_STATUS_L1 1) else .next s

/-- L1_EXIT (R545). -/
def execL1Exit (s : State) : Host.Outcome State Fault Refusal := .next (s.setF fCXL_LINK_STATUS_L1 0)

/-- D3HOT (R526): a function enters or leaves D3hot. -/
def execD3hot (func : Nat) (on : Bool) (s : State) : Host.Outcome State Fault Refusal :=
  match func with
  | 0 => .next { s with host := { s.host with d3pf0 := on } }
  | 1 => .next { s with host := { s.host with d3pf1 := on } }
  | _ => .next s

/-- IDE_KM (R522, R545): over a Secured SPDM session, the keys of stream 0 (CXL.io) or 1 (CXL.cachemem) are set active or
taken away. -/
def execIdeKm (session stream : Nat) (active : Bool) (s : State) : Host.Outcome State Fault Refusal :=
  if ¬ (s.sec.sessions.any fun x => x.1 == session) ∨ 2 ≤ stream ∨ ¬ s.on fCXL_LINK_STATUS_UP then .next s
  else
    let s := { s with host := { s.host with ideKeys := smSet (fun _ => false) s.host.ideKeys stream active } }
    .next (s.setOn (if stream = 0 then fCXL_LINK_STATUS_IDE_IO else fCXL_LINK_STATUS_IDE_CM) active)

/-! ## CXL.mem (R530, R531) -/

/-- HDM_COMMIT (R530): the decoder is committed for `size` bytes at `base`; `memEnable` is Mem_Enable at that time. Another
size or alignment fails with the commit-error status. -/
def execHdmCommit (base size : Nat) (memEnable : Bool) (s : State) : Host.Outcome State Fault Refusal :=
  let ok := decide (size = fsEnd ∧ base % 0x10000000 = 0)
  let s := { s with host := { s.host with memEn := memEnable, hdm := if ok then some base else s.host.hdm } }
  .next (s.memStat.out (.reply 20 [BitVec.ofNat 8 (b2n ok)]))

/-- The line of the frame store a host address maps to while CXL.mem requests are accepted (R530). -/
def State.hostLine (s : State) (hpa : Nat) : Option Nat :=
  match s.host.hdm with
  | none => none
  | some base =>
    if s.host.memEn ∧ s.on fCXL_LINK_STATUS_UP ∧ s.on fCXL_LINK_STATUS_CXL ∧ base ≤ hpa ∧ hpa < base + fsEnd then
      some ((hpa - base) / 64)
    else none

/-- A host read of a line completes: data with the poison of its two units (R531). -/
def State.hostRead (s : State) (line : Nat) : State :=
  s.out (.memData line (s.fsBytes (64 * line) 64) (s.poisoned (64 * line)) (s.poisoned (64 * line + 32)))

/-- Store the bytes of a partial write; a poisoned unit stays poisoned (R531). -/
def partWrite (a : Nat) : Nat → List Byte → Nat → State → State
  | _, [], _, s => s
  | i, b :: bs, mask, s =>
    partWrite a (i + 1) bs mask (if bit mask i = 1 then
      { s with fs := { s.fs with mem := smSet (fun _ => 0#8) s.fs.mem (a + i) b } } else s)

/-- A host request is served (R531, R532): a read returns the line, which enters the filter where the host may cache it, and with
the filter full waits while the oldest entry is evicted; a write takes effect as one unit and completes, and a write-back leaves
the filter. -/
def State.memServe (s : State) (r : MemReq) : State :=
  let a := 64 * r.line
  match r.write with
  | none =>
    if ¬ r.cache ∨ s.host.sf.contains r.line then s.hostRead r.line
    else if s.host.sf.length < 32768 then (s.hostRead r.line).setSf (s.host.sf ++ [r.line])
    else { s with host := { s.host with sfWait := s.host.sfWait ++ [r.line] } }.sendBi true false (s.host.sf.take 1)
  | some (bs, mask, wb) =>
    let s := if bs.length = 64 ∧ mask % 2 ^ 64 = 2 ^ 64 - 1 then s.fsWrite a bs else (partWrite a 0 bs mask s).noteWrite a 64
    let s := if wb then s.setSf (s.host.sf.filter fun l => l != r.line) else s
    s.out (.memDone r.line)

/-- A host request arrives: it is served, or waits for its stack's exit (R199). -/
def State.memRequest (s : State) (r : MemReq) : State :=
  let ready := s.stackReady (stackOf (64 * r.line))
  let s := s.touchStack (stackOf (64 * r.line))
  if ready then s.memServe r else { s with host := { s.host with memWait := s.host.memWait ++ [r] } }

/-- CXLMEM_READ (R531, R532): a host read of the line at `hpa`; `cache` when the protocol lets the host cache it. -/
def execCxlmemRead (hpa : Nat) (cache : Bool) (s : State) : Host.Outcome State Fault Refusal :=
  match s.hostLine hpa with
  | none => .next s
  | some line => .next (s.memRequest ⟨line, cache, none⟩)

/-- CXLMEM_WRITE (R531, R532): a host write of the line at `hpa`, byte enables in `mask`; `wb` when it is the write-back of a
modified line. -/
def execCxlmemWrite (hpa : Nat) (bytes : List Byte) (mask : Nat) (wb : Bool) (s : State) : Host.Outcome State Fault Refusal :=
  match s.hostLine hpa with
  | none => .next s
  | some line => .next (s.memRequest ⟨line, false, some (bytes.take 64, mask, wb)⟩)

/-- What waited for a stack goes on: host requests, and what the device does. -/
def State.stackServes (s : State) : State :=
  let go := s.host.memWait.filter fun r => s.stackReady (stackOf (64 * r.line))
  let s := { s with host := { s.host with memWait := s.host.memWait.filter fun r => !s.stackReady (stackOf (64 * r.line)) } }
  (go.foldl (fun s r => s.memServe r) s).storeGoes

/-- STACK_EXIT_DONE (R199): EXIT(S) ticks after the exit began the stack accepts requests. -/
def execStackExitDone (stack : Nat) (s : State) : Host.Outcome State Fault Refusal :=
  match s.exitAt stack with
  | none => .next s
  | some t =>
    if t ≤ s.time.master then
      .next { s with fs := { s.fs with exitAt := smSet (fun _ => none) s.fs.exitAt stack none } }.stackServes
    else .next s

/-- Does a request to a stack wait (R198)? -/
def State.stackPending (s : State) (stack : Nat) : Bool :=
  (s.fs.wq.any fun w => stackOf w.addr == stack) || (s.host.memWait.any fun r => stackOf (64 * r.line) == stack)

/-- STACK_IDLE (R198): an idle ACTIVE stack enters the deepest low-power state that qualifies; one in POWER_DOWN moves to
SELF_REFRESH when that qualifies. -/
def execStackIdle (stack : Nat) (s : State) : Host.Outcome State Fault Refusal :=
  let st := s.f (fStack stack)
  let tol := s.f fPAN_TOL_TOL
  let margin := s.f fFST_PWR_CFG_MARGIN
  let idle := decide (smGet (fun _ => 0) s.fs.lastReq stack + 1024 ≤ s.time.master) && (s.exitAt stack).isNone &&
    !s.stackPending stack
  let sr := s.on fFST_PWR_CFG_SR_EN && decide (s.exitLat 2 + margin ≤ tol)
  let pd := s.on fFST_PWR_CFG_PD_EN && decide (s.exitLat 1 + margin ≤ tol)
  if 2 ≤ stack ∨ ¬ idle then .next s
  else if sr then .next (s.setF (fStack stack) 2)
  else if pd ∧ st = 0 then .next (s.setF (fStack stack) 1)
  else .next s

/-- BI_RESPONSE (R532): the host answers the back-invalidate of a line; the accesses that waited go on, and a host read that
waited for a place in the filter completes. -/
def execBiResponse (line : Nat) (s : State) : Host.Outcome State Fault Refusal :=
  if ¬ (s.host.bi.any fun b => b.line == line) then .next s
  else
    let s := s.lineFreed line
    match s.host.sfWait with
    | [] => .next s
    | l :: rest =>
      if s.host.sf.length < 32768 then
        let s := { s with host := { s.host with sfWait := rest } }
        .next ((s.hostRead l).setSf (s.host.sf ++ [l]))
      else .next s

/-- BI_TIMEOUT (R532): a REALTIME read has waited RT_TMO ticks for a line; it goes on with the frame-store contents. -/
def execBiTimeout (line : Nat) (s : State) : Host.Outcome State Fault Refusal :=
  let due := fun (b : BiWait) =>
    b.line == line && b.realtime && !b.late && decide (b.since + s.f fCXL_BI_RT_TMO ≤ s.time.master)
  if s.host.bi.any due then
    .next ({ s with host := { s.host with bi := s.host.bi.map fun b => if due b then { b with late := true } else b } }.count
      fCXL_BI_LATE_COUNT 1)
  else .next s

/-! ## CXL.cache (R533) -/

/-- Put the bytes of a host line into the read buffer; 257 stands for a failed read. -/
def putHost : SMap Nat → Nat → List Nat → SMap Nat
  | m, _, [] => m
  | m, a, v :: vs => putHost (smSet (fun _ => 256) m a v) (a + 1) vs

/-- A line of host memory has come, or has failed to: it is awaited no longer. -/
def State.hostCame (s : State) (line : Nat) (vs : List Nat) : State :=
  { s with host := { s.host with
      asked := smSet (fun _ => none) s.host.asked line none
      hostBuf := putHost s.host.hostBuf (64 * line) vs } }

/-- CACHE_READ_DONE (R533, R125): a RdCurr of the 64-byte line at host address `64 × line` returns; `failed` on poison or an error, as
does one that returns more than 16,384 ticks after its request. A line that nothing asked for is taken while CXL.cache is available
(log 129). A line read for scan-out of pane `p` goes to its capture. -/
def execCacheReadDone (line : Nat) (bytes : List Byte) (failed : Bool) (p : Option Nat) (s : State) :
    Host.Outcome State Fault Refusal :=
  if ¬ s.on fCXL_LINK_STATUS_CACHE ∧ s.askedAt line = none then .next s
  else
    let late := match s.askedAt line with
      | some t => decide (t + 16384 < s.time.master)
      | none => false
    let failed := failed || late
    let bs := bytes.take 64
    let s := s.hostCame line (if failed then List.replicate 64 257 else bs.map fun b => b.toNat)
    match p with
    | none => .next s
    | some p => if failed then .next s else .next (s.captureBytes p (64 * line) bs)

/-- CACHE_READ_TIMEOUT (R533): no data within 16,384 ticks of the request: the read fails. -/
def execCacheReadTimeout (line : Nat) (s : State) : Host.Outcome State Fault Refusal :=
  match s.askedAt line with
  | none => .next s
  | some t => .next (if t + 16384 ≤ s.time.master then s.hostCame line (List.replicate 64 257) else s)

/-- H2D_SNOOP (R533): every snoop is answered with RspIHitI. -/
def execH2dSnoop (line : Nat) (s : State) : Host.Outcome State Fault Refusal := .next (s.out (.rspIHitI line))

/-! ## Mailbox and DOE (R527, R528). A reply's kind numbers the row; its payload is the content the spec gives, values
little-endian. -/

/-- CDAT_READ (R527): DSMAS (handle, DPA base, length), the two DSLBIS (read and write latency in ns; read and write bandwidth in
GB/s), DSEMTS (handle, 1 for EFI specific-purpose memory). -/
def execCdatRead (s : State) : Host.Outcome State Fault Refusal :=
  .next (s.out (.reply 21 ([0, 0, fsEnd, 150, 100, 2360, 2360, 0, 1].flatMap fun v => leBytes 8 v)))

/-- IDENTIFY_MEMORY_DEVICE (R528): total, volatile and persistent capacity in GB. -/
def execIdentifyMemoryDevice (s : State) : Host.Outcome State Fault Refusal :=
  .next (s.out (.reply 22 ([48, 48, 0].flatMap fun v => leBytes 8 v)))

/-- GET_SUPPORTED_LOGS (R528): the Command Effects Log only, log 0. -/
def execGetSupportedLogs (s : State) : Host.Outcome State Fault Refusal := .next (s.out (.reply 23 [0#8]))

/-- GET_LOG (R528): the Command Effects Log; the spec does not give its bytes, which are free. Another log is not supported. -/
def execGetLog (log n : Nat) (s : State) : Host.Outcome State Fault Refusal :=
  if log ≠ 0 then .next (s.out (.reply 30 []))
  else
    let (bs, s) := s.drawBytes n
    .next (s.out (.reply 24 bs))

/-- An event log of the mailbox. -/
def State.evLog (s : State) (log : Nat) : CxlLog := smGet (fun _ => (⟨[], 0⟩ : CxlLog)) s.host.logs log

/-- GET_EVENT_RECORDS (R528): the overflow count, then kind and detail of each record, oldest first. -/
def execGetEventRecords (log : Nat) (s : State) : Host.Outcome State Fault Refusal :=
  let l := s.evLog log
  .next (s.out (.reply 25 (leBytes 2 l.overflow ++ l.recs.flatMap fun r => leBytes 1 r.1 ++ leBytes 8 r.2)))

/-- CLEAR_EVENT_RECORDS (R528): the oldest `n` records of a log are cleared, and its overflow report with them. -/
def execClearEventRecords (log n : Nat) (s : State) : Host.Outcome State Fault Refusal :=
  let l : CxlLog := ⟨(s.evLog log).recs.drop n, 0⟩
  .next ({ s with host := { s.host with logs := smSet (fun _ => (⟨[], 0⟩ : CxlLog)) s.host.logs log l } }.out (.reply 26 []))

/-- GET_EVENT_INTERRUPT_POLICY (R528). -/
def execGetEventInterruptPolicy (s : State) : Host.Outcome State Fault Refusal :=
  .next (s.out (.reply 27 (leBytes 4 s.host.intPolicy)))

/-- SET_EVENT_INTERRUPT_POLICY (R528): one byte a log. -/
def execSetEventInterruptPolicy (policy : Nat) (s : State) : Host.Outcome State Fault Refusal :=
  .next ({ s with host := { s.host with intPolicy := policy % 2 ^ 32 } }.out (.reply 28 []))

/-- GET_HEALTH_INFO (R528): the hottest of CAL_TEMP[n], in its own units; a free value while none is valid. -/
def execGetHealthInfo (s : State) : Host.Outcome State Fault Refusal :=
  let ns := (List.range 32).filter fun n => s.on (fCAL_TEMP_VALID n)
  match ns.map fun n => sInt 16 (s.f (fCAL_TEMP_TEMP n)) with
  | [] =>
    let (bs, s) := s.drawBytes 2
    .next (s.out (.reply 29 bs))
  | t :: ts => .next (s.out (.reply 29 (leBytes 2 (toField 16 (ts.foldl max t)))))

/-- GET_POISON_LIST (R528): the granules recorded in FST_UE_ADDR since PORST_N. -/
def execGetPoisonList (s : State) : Host.Outcome State Fault Refusal :=
  .next (s.out (.reply 31 (s.host.poisonList.flatMap fun g => leBytes 4 g)))

/-- MAILBOX_UNSUPPORTED (R528): any other opcode completes with Unsupported. -/
def execMailboxUnsupported (_opcode : Nat) (s : State) : Host.Outcome State Fault Refusal := .next (s.out (.reply 30 []))

end Sys2Proof.Machine
end

