-- ==== Sys2Proof/Machine/Genlock.lean ====
section
/-!
DEFINITION. Genlock and the sync pins (02): accepted edges (R69), the decision at line VACT (R70, R71), TE edges (R74, R76).
-/
namespace Sys2Proof.Machine

/-- A fraction rounded to the nearest integer, half away from zero (R70); `d` is positive. -/
def roundHalf (n : Int) (d : Nat) : Int :=
  if 0 ≤ n then ((2 * n.natAbs + d) / (2 * d) : Nat) else -((2 * n.natAbs + d) / (2 * d) : Nat)

/-- Tsync in units of 1/65,536 tick, once two edges are accepted (R70). -/
def Genlock.tsync (x : Genlock) : Option Nat :=
  match x.e1, x.e2 with
  | some a, some b => some (a - b)
  | _, _ => none

/-- The target nearest to `p`, the earlier on a tie: base + j × tsync / n, held to 1/65,536 tick (R70). -/
def nearestTarget (p base : Int) (tsync n : Nat) : Int :=
  let j := -(((tsync : Int) - 2 * (p - base) * n) / (2 * tsync : Int))
  let cands := [j - 1, j, j + 1].map fun i => base + i * (tsync : Int) / n
  cands.foldl (fun (b : Int) t => if (t - p).natAbs < (b - p).natAbs then t else b) (base + (j - 2) * (tsync : Int) / n)

/-- PULLMAX as it acts (R70). -/
def State.pullMax (s : State) (g : Nat) : Nat :=
  min (max 1 (s.f (fTMG_GENLOCK_PULLMAX g))) ((s.grp g).cur.vtotal / 16)

/-- Error e of the frame in progress, if two edges are accepted (R70 steps 1 to 3). -/
def State.glError (s : State) (g : Nat) : Option Int :=
  let x := s.grp g
  match x.gl.tsync, x.gl.e1 with
  | some ts, some e =>
    if ts = 0 then none
    else
      let p : Int := (x.lineU (x.cur.vact + x.cur.vfp + x.cur.vsync + x.cur.vbp) : Nat)
      let base : Int := (e : Int) + 65536 * sInt 32 (s.f (fTMG_SYNC_OFS_OFS g))
      some (p - nearestTarget p base ts (s.f (fTMG_GENLOCK_RATIO g) + 1))
  | _, _ => none

/-- The pull for an error: Δ limited by PULLMAX and by the porch limits (R70 steps 4 and 5). -/
def State.glPull (s : State) (g : Nat) (e : Int) : Int :=
  let x := s.grp g
  let m : Int := s.pullMax g
  let d := max (-m) (min m (-(roundHalf e x.cur.lper)))
  let lo : Int := s.vfpMin g
  let hi : Int := min (s.f (fTMG_VFP_LIM_VFP_MAX g)) (65536 - x.cur.vact - x.cur.vsync - x.cur.vbp)
  max lo (min hi (x.cur.vfp + d)) - x.cur.vfp

/-- Does the no-edge condition hold at time `now` (R71)? -/
def State.noEdge (s : State) (g now : Nat) : Bool :=
  let x := s.grp g
  let t := x.gl.tsync.getD ((s.f (fTMG_GENLOCK_RATIO g) + 1) * x.cur.vtotal * x.cur.lper)
  decide (max (x.gl.e1.getD 0) (65536 * x.gl.forgot) + 2 * t < now)

/-- Are edges present at time `now` (R71)? -/
def State.edgesPresent (s : State) (g now : Nat) : Bool :=
  let x := s.grp g
  match x.gl.tsync, x.gl.e1 with
  | some t, some e => decide (now ≤ e + 2 * t)
  | _, _ => false

/-- Enter FREERUN with a reason (R71). -/
def State.freeRun (s : State) (g reason : Nat) : State :=
  let x := s.grp g
  let gl := { x.gl with freeFrames := 0, hist := [], broken := 0 }
  let gl := if reason = 1 then { gl with e1 := none, e2 := none, forgot := s.time.raster } else gl
  ((s.setGrp g { x with gl := gl }).setF (fTMG_STATUS_GL_STATE g) 3).raiseG 0x105 g
    [(8, reason), (24, 0), (32, s.f (fTMG_GL_ERR_RESID g))]

/-- Enter ACQUIRE (R71). -/
def State.acquire (s : State) (g : Nat) : State :=
  let x := s.grp g
  (s.setGrp g { x with gl := { x.gl with hist := [], broken := 0 } }).setF (fTMG_STATUS_GL_STATE g) 1

/-- The moves of R71 on a residual, in units of 1/65,536 tick. -/
def State.glMove (s : State) (g : Nat) (r : Int) : State :=
  let x := s.grp g
  let near := decide (2 * r.natAbs ≤ x.cur.lper)
  match s.f (fTMG_STATUS_GL_STATE g) with
  | 1 =>
    if near then
      ((s.setGrp g { x with gl := { x.gl with hist := [], broken := 0 } }).setF (fTMG_STATUS_GL_STATE g) 2).raiseG 0x104 g
        [(32, 0), (32, s.f (fTMG_GL_ERR_RESID g))]
    else
      (match x.gl.hist[15]? with
      | some old =>
        if old < r.natAbs + x.cur.lper then s.freeRun g 2
        else s.setGrp g { x with gl := { x.gl with hist := (r.natAbs :: x.gl.hist).take 17 } }
      | none => s.setGrp g { x with gl := { x.gl with hist := (r.natAbs :: x.gl.hist).take 17 } })
  | 2 =>
    if near then s.setGrp g { x with gl := { x.gl with broken := 0 } }
    else if x.gl.broken = 3 then s.freeRun g 3
    else s.setGrp g { x with gl := { x.gl with broken := x.gl.broken + 1 } }
  | _ => s

/-- The genlock decision at the start of line VACT (R70, R71). `t` is that tick. One that leaves FREERUN is judged by the row of ACQUIRE at
once (log 118). -/
def State.glDecide (s : State) (g t : Nat) : State :=
  if ¬ s.on (fTMG_GENLOCK_GL_EN g) then s
  else
    let now := 65536 * t
    let st := s.f (fTMG_STATUS_GL_STATE g)
    let x := s.grp g
    let s := if st = 3 then s.setGrp g { x with gl := { x.gl with freeFrames := x.gl.freeFrames + 1 } } else s
    let s := if st = 3 ∧ s.on (fTMG_GENLOCK_AUTO_REACQ g) ∧ 64 ≤ x.gl.freeFrames + 1 ∧ s.edgesPresent g now then s.acquire g else s
    let lost := (st = 1 ∨ st = 2) && s.noEdge g now
    match s.glError g with
    | none => if lost then s.freeRun g 1 else s
    | some e =>
      let pull := if s.f (fTMG_STATUS_GL_STATE g) = 3 then 0 else s.glPull g e
      let x := s.grp g
      let r := e + pull * x.cur.lper
      let s := s.setGrp g { x with gl := { x.gl with pull := pull }, porch := ((x.cur.vfp : Int) + pull).toNat }
      let s := s.setF (fTMG_GL_ERR_RESID g) (toField 32 (roundHalf r 65536))
      if lost then s.freeRun g 1 else s.glMove g r

/-- SYNCIN_EDGE (R69): an edge of pin `pin`, whose level after it is `level`, stamped at the pin; it has held 4 ticks on both
sides. Rising edges are sources 1 to 4 of WAITE (R271). -/
def execSyncinEdge (pin : Nat) (level : Bool) (stamp : Nat) (s : State) : Host.Outcome State Fault Refusal :=
  if 4 ≤ pin ∨ s.time.raster < stamp then .next s
  else
    let s := if level then trCores.foldl (fun s o => s.occur o (1 + pin)) s else s
    .next (allGroups.foldl (fun s g =>
      let x := s.grp g
      let take := s.on (fTMG_GENLOCK_GL_EN g) && s.f (fTMG_GENLOCK_SRC g) == pin && level != s.on (fTMG_GENLOCK_POL g) &&
        (match x.gl.tsync, x.gl.e1 with
        | some ts, some e => decide (7 * ts ≤ 8 * (65536 * stamp - e))
        | _, _ => true)
      if take then s.setGrp g { x with gl := { x.gl with e1 := some (65536 * stamp), e2 := x.gl.e1 } } else s) s)

/-- TE_EDGE (R74, R76): an edge on TEg, stamped at the pin. -/
def execTeEdge (g : Nat) (level : Bool) (stamp : Nat) (s : State) : Host.Outcome State Fault Refusal :=
  if 16 ≤ g ∨ s.time.raster < stamp ∨ level = s.on (fTMG_TE_CFG_POL g) then .next s
  else
    let s := if s.on (fTMG_TE_CFG_TE_EVT g) then s.raiseAt stamp 0x106 (0xB00 + g) (locusGroup g) [(8, b2n level)] else s
    let s := s.occurGroup g 0
    let x := s.grp g
    let open_ := s.gState g != 0 && (!x.live || decide (x.cur.vact ≤ x.line)) && decide (x.vactTick < stamp)
    .next (if open_ ∧ x.teE.isNone then s.setGrp g { x with teE := some stamp } else s)

/-- SYNCOUT_PULSE_END (R73). -/
def execSyncoutPulseEnd (g : Nat) (s : State) : Host.Outcome State Fault Refusal :=
  let x := s.grp g
  match x.syncEnd with
  | some t => .next (if t ≤ s.time.raster then s.setGrp g { x with syncEnd := none } else s)
  | none => .next s

end Sys2Proof.Machine
end

