-- ==== Sys2Proof/Machine/Tolerance.lean ====
section
/-!
DEFINITION. The latency tolerance of the groups (03): which lines the raster die holds the frame-store data of, when a line can start
at the earliest, and PAN_TOL (R127, R137).
-/
namespace Sys2Proof.Machine

/-- Does span `i` of line `y` still need data of the frame store: a surface, a capture, a plane, the history, or a block of a
compressed surface that has not come? -/
def State.spanLacks (s : State) (g y i : Nat) : Bool :=
  !(s.spanStore g y i).isEmpty ||
    (s.spansNeeded g y i).any fun e => (s.spanLayers g e.1 e.2).any fun p =>
      s.on (fPANE_COMP p) && !s.paneFill p && (s.layerSpan g p e.1 e.2).isSome && (s.spanCols g e.2).any fun x =>
        s.covers p x e.1 && (s.tile p ((s.f (fPANE_SRC_X p) + (x - s.f (fPANE_X0 p))) / 128)
          ((s.f (fPANE_SRC_Y p) + (e.1 - s.f (fPANE_Y0 p))) / 4)).isNone

/-- Is all of the frame-store data of line `y` on the raster die, by what the pipeline has done of the frame it processes? -/
def State.lineHeld (s : State) (g y : Nat) : Bool :=
  let n := s.nextSpan g
  (List.range (ceilDiv (s.hact g) 64)).all fun i => decide (y < n.1 ∨ (y = n.1 ∧ i < n.2)) || !s.spanLacks g y i

/-- Does line `y` of a frame of which nothing is processed need no frame-store data? -/
def State.lineFree (s : State) (g y : Nat) : Bool := (List.range (ceilDiv (s.hact g) 64)).all fun i => !s.spanLacks g y i

/-- The porch of the frame in progress with a wake now, or with the earlier one that has come (R120); before the latch, the least that
the latch can decide. -/
def State.porchEarly (s : State) (g : Nat) : Nat :=
  let x := s.grp g
  if ¬ x.latched then
    (if x.tech = 0 ∧ x.lad.k % 2 = 1 then ((x.lad.prevPorch : Int) + x.gl.pull).toNat else x.porchFloor)
  else if ¬ x.wakeable then x.porch
  else
    let w := min s.time.raster (x.lad.wake.getD s.time.raster)
    let t := 65536 * w + s.wakeLines g * x.cur.lper
    min x.porch (max x.porchFloor (ceilDiv (t - x.lineU x.cur.vact) (max 1 x.cur.lper)))

/-- s_min of line `m` of the frame in progress or, with `next`, of the next one (R127). -/
def State.sMin (s : State) (g m : Nat) (next : Bool) : Nat :=
  let x := s.grp g
  match x.teWait with
  | some w => ceilTick (s.frameStartU g true (65536 * w) + m * s.lper g)
  | none =>
    if ¬ next then x.lineAt m
    else
      let z := x.lineU (x.cur.vact + s.porchEarly g + x.cur.vsync + x.cur.vbp)
      ceilTick (s.frameStartU g (s.gated g) z + m * s.lper g)

/-- The first line whose data is not wholly held, and whether it is one of the next frame. -/
def State.firstUnheld (s : State) (g : Nat) : Option (Nat × Bool) :=
  let x := s.grp g
  let lines := List.range (s.vact g)
  if x.latched ∨ x.teWait.isSome then (lines.find? fun y => !s.lineHeld g y).map fun y => (y, true)
  else
    match (lines.drop (x.line + 1)).find? fun y => !s.lineHeld g y with
    | some y => some (y, false)
    | none => (lines.find? fun y => !s.lineFree g y).map fun y => (y, true)

/-- TOL_g, held at 0 where the formula gives less. -/
def State.tolOf (s : State) (g : Nat) : Nat :=
  match s.firstUnheld g with
  | some (m, next) => s.sMin g m next - (s.lead g * s.lper g / 65536 + s.time.raster)
  | none => 2 ^ 28

/-- PAN_TOL is brought up to date (R127, R137). -/
def State.panTol (s : State) : State :=
  let run := allGroups.filter fun g => decide (2 ≤ s.gState g)
  let best := run.foldl (fun (b : Nat × Nat) g => let t := min (2 ^ 28 - 1) (s.tolOf g); if t < b.1 then (t, g) else b)
    (2 ^ 28 - 1, run.headD 0)
  (s.setF fPAN_TOL_TOL best.1).setF fPAN_TOL_GROUP best.2

end Sys2Proof.Machine
end

