-- ==== Sys2Proof/Machine/Raster.lean ====
section
/-!
DEFINITION. The raster of a group (02, 03): start and stop (R53 to R55), line starts, line 0 and the end of a frame, the
latch with the refresh ladder and the trim (R57, R115 to R120, R436), TE waits (R74, R75), and NCUT_LO (R94).
-/
namespace Sys2Proof.Machine

/-! ## What waits in cores see at a line start (R267 to R269) -/

/-- The line of the frame in progress that a WAITL names. -/
def Grp.waitTarget (x : Grp) (sync : Bool) (target : Nat) : Nat := if sync then x.cur.vact + x.porch + target else target

/-- The flag with which an armed WAITL completes at the start of line `y`, `prev` being the line before it, if any. -/
def waitLineFlag (l y : Nat) (prev : Option Nat) : Option Bool :=
  if y = l then some true
  else
    match prev with
    | some p => if y = 0 then some false else if p < l ∧ l < y then some false else none
    | none => none

/-- A line starts: waits for lines and columns of the group's cores. `x` is the raster with the line that starts, `was`
the HTOTAL of the line before it if one was in progress. -/
def State.coreLine (s : State) (g : Nat) (was : Option Nat) : State :=
  let x := s.grp g
  trCores.foldl (fun s o =>
    if s.coreGroup o ≠ g then s
    else
      let c := s.core o
      match c.act, c.ready with
      | .waitLine n target sync armed prev, none =>
        let l := x.waitTarget sync target
        let arm := armed || x.line == 0
        let done := if armed then waitLineFlag l x.line prev else if arm then waitLineFlag l x.line none else none
        s.setCore o { c with act := .waitLine n target sync arm (if arm then some x.line else none), ready := done }
      | .waitCol _ col, none =>
        (match was with
        | some h => s.setCore o { c with ready := some (decide (col < h)) }
        | none => if x.cur.htotal ≤ col then s.setCore o { c with ready := some false } else s)
      | _, _ => s) s

/-! ## Every line start -/

/-- The lane pairs of a chain: its own and, while it is SPARED, its spare (R396). -/
def State.pairsOf (s : State) (c : Nat) : List Nat := if s.lnSt c = 5 then [c, 256 + spareOf c] else [c]

/-- A lane pair at a line start: whether its transmitter sends the slots of the line period (R391); with line 0, AUTOSLEEP holds its
receiver no longer (R393). -/
def State.pairLine (s : State) (c l line : Nat) : State :=
  let x := s.ln l
  s.setLn l { x with
    lineOn := s.chainUp c && !s.on (fLNK_STATUS_TX_ASLEEP l) && x.wakeAt.isNone
    rxAuto := x.rxAuto && line != 0 }

/-- The HOLD before slot 0 (R371, R445): of a line that starts at or after t + 320 of a trip, in a biscuit frame too, else of a biscuit
frame (log 128). -/
def State.holdReason (s : State) (g : Nat) : Option Nat :=
  let x := s.grp g
  if x.tripLine ∧ x.tech ≠ 3 then some 4 else if s.on (fTMG_STATUS_BISCUIT g) then some 1 else none

/-- The chains of a group at the start of a line period: the table of a slot epoch takes over, slots begin anew, and a HOLD fills the
last block before slot 0 where one is sent (R370, R371, R402, R445). -/
def State.laneLine (s : State) (g : Nat) : State :=
  let x := s.grp g
  (s.chainsOf g).foldl (fun s c =>
    let s := match (s.ln c).epoch with
      | some (l, t) => if l = x.line ∧ t < x.lineTick then s.activate c else s
      | none => s
    let s := s.setLn c { s.ln c with newTab := (s.ln c).tabDue, tabDue := false, slot := 0 }
    let s := (s.pairsOf c).foldl (fun s l => s.pairLine c l x.line) s
    match s.holdReason g with
    | some r =>
      if (s.pairsOf c).any fun l => (s.ln l).lineOn then
        (s.idleChain c (blockAt (s.f (fLNK_CFG_RATE c)) x.lineTick - 1)).sendCtl c (holdBlock r)
      else s
    | none => s) s

/-- Chains that sleep through an extended porch (R393), where no wake has come yet that ends it. -/
def State.autoSleep (s : State) (g : Nat) : State :=
  let x := s.grp g
  if x.line ≠ x.cur.vact + x.cur.vfp ∨ x.lad.decided ≤ x.cur.vfp ∨ (s.wakeLines g - 1) * x.cur.lper < 32000 * 65536 then s
  else
    (s.chainsOf g).foldl (fun s c =>
      if ¬ s.on (fLNK_CFG_AUTOSLEEP c) ∨ ¬ s.chainUp c ∨ s.autoDue c then s
      else
        let s := (s.pairsOf c).foldl (fun s l =>
          if s.on (fLNK_STATUS_TX_ASLEEP l) then s
          else
            let s := s.txSleep l
            s.setLn l { s.ln l with autoSlept := true }) s
        let r := s.rxLane c
        let s := s.setLn r { s.ln r with rxAuto := true }
        if s.anyExpecting c then s else s.rxSleep r) s

/-- Finished pixels of a line are no longer held. -/
def State.dropLine (s : State) (g y : Nat) : State :=
  { s with pix := { s.pix with lb := s.pix.lb.filter fun e => e.1 / 65536 != g * 65536 + y } }

/-- All of a group's, at an abort. -/
def State.dropLines (s : State) (g : Nat) : State :=
  { s with pix := { s.pix with lb := s.pix.lb.filter fun e => e.1 / 2 ^ 32 != g } }

/-- Does the group send no PIX packet in the line that starts (R163)? -/
def State.lineUnsent (s : State) (g : Nat) : Bool :=
  let x := s.grp g
  let cs := s.chainsOf g
  s.on (fTMG_STATUS_BISCUIT g) || x.blankFrame || (x.tripLine && x.tech != 3) ||
    (!cs.isEmpty && cs.all fun c => (s.pairsOf c).all fun l => s.on (fLNK_STATUS_TX_ASLEEP l) || (s.ln l).wakeAt.isSome)

/-- The line that starts does so at or after t + 320 of a trip (R445). -/
def State.afterTrip (s : State) (g : Nat) : Bool :=
  match s.drv.tripTick with
  | some t => decide (t + 320 ≤ (s.grp g).lineTick)
  | none => false

/-- What every line start does, the raster standing at its line already. -/
def State.everyLine (s : State) (g : Nat) : State :=
  let s := s.setGrp g { s.grp g with urCol := none, tripLine := s.afterTrip g }
  let s := if (s.grp g).line < (s.grp g).cur.vact ∧ s.lineUnsent g then s.markUnsent g [(s.grp g).line] else s
  let s := s.laneLine g
  let s := if (s.grp g).line = (s.grp g).cur.vact then s.glDecide g (s.grp g).lineTick else s
  (s.autoSleep g).panTol.checkTol

/-! ## Lines after line 0 (R48, R78, R120) -/

/-- The line in progress is over: the levels it produced and its history blocks are written, and its pixels are dropped; with an abort,
those of every line, and the lines cut off count as not sent (R78, R163, R450). -/
def State.leaveLine (s : State) (g : Nat) (abort : Bool) : State :=
  let x := s.grp g
  let s := (s.bisLine g x.line).histLine g x.line
  if abort then ((s.bisLate g).dropLines g).markUnsent g ((List.range x.cur.vact).drop (x.line + 1)) else s.dropLine g x.line

/-- The line after the current one starts at tick `t`. An underrun from whose tick plus CUTOFF on no active line starts aborts nothing
(log 122). -/
def State.nextLine (s : State) (g t : Nat) : State :=
  let x := s.grp g
  let n := x.line + 1
  let abort := match x.urAbort with
    | some u => decide (u + s.cutoff g ≤ t ∧ n < x.cur.vact)
    | none => false
  let y := if abort then x.cur.vact else n
  let p := y - x.cur.vact
  let porch := if x.cur.vact ≤ y ∧ s.porchEnds g p t then p else x.porch
  let s := s.leaveLine g abort
  let s := s.setGrp g { x with
    k := x.k + 1
    line := y
    lineTick := t
    porch := porch
    urAbort := if x.cur.vact ≤ y then none else x.urAbort
    vactTick := if y = x.cur.vact then t else x.vactTick
    teE := if y = x.cur.vact then none else x.teE }
  let s := s.setF (fTMG_LAD_STATUS_FPORCH g) porch
  (s.coreLine g (some x.cur.htotal)).everyLine g

/-! ## The end of a frame and line 0 -/

/-- A frame ends (R433, R125, R165, R118): at the next line 0 or at the entry into STOPPED. -/
def State.endFrame (s : State) (g : Nat) : State :=
  let x := s.grp g
  if ¬ x.live then s
  else
    let s := s.bookDcb g x.tech x.ncm1 x.frame (x.k + 1 - x.k0)
    let s := ((s.captureFrameEnd g).histFrameEnd g).dropLine g x.line
    let ran := ((x.porch : Int) - x.gl.pull).toNat
    s.setGrp g { x with lad := { x.lad with prevPorch := min x.lad.decided ran } }

/-- Common and counter of greatest magnitude, the lowest common on a tie (R436); none where all are zero. -/
def State.trimPick (s : State) (g : Nat) : Option (Nat × Int) :=
  if s.tech g ≠ 0 ∨ ¬ s.on (fDRV_MODE_TRIM_EN g) then none
  else
    let best := (List.range (s.f (fDRV_MODE_NCM1 g) + 1)).foldl
      (fun (b : Nat × Int) c => if b.2.natAbs < (s.dcb g c).natAbs then (c, s.dcb g c) else b) (0, 0)
    if best.2 = 0 then none else some best

/-- APPLIED of the commits shown from this frame, stamped with the start of line 0 (R61); CHG_FRAME of the panes they wrote. -/
def State.raiseApplied (s : State) (g : Nat) : State :=
  let x := s.grp g
  let s := x.applied.foldl (fun s a =>
    let s := a.panes.foldl (fun s p => s.setF (fPANE_CHG_FRAME p) x.frame) s
    s.raiseAt x.lineTick 0x100 a.issuer (locusGroup g) [(64, a.tick), (48, x.frame), (12, a.cseq), (1, b2n a.stopped),
      (1, b2n a.waited), (1, b2n a.timing), (1, b2n a.biscuit)]) s
  s.setGrp g { s.grp g with applied := [] }

/-- What of the registers governs the frame that starts (R424, R429, R432, R433, R436, R494). -/
def State.takeFrame (s : State) (g : Nat) : State :=
  let x := s.grp g
  let tech := s.tech g
  let first := tech == 0 && x.lad.k % 2 == 0
  let s := s.setF (fDRV_PHASE_PHASE g) (s.phases g x.frame)
  let s := s.setOn (fTMG_LAD_STATUS_PAIR g) (tech == 0 && !first)
  let s := { s with pix := { s.pix with emerg := smSet (fun _ => false) s.pix.emerg g false } }
  s.setGrp g { x with
    tech := tech
    ncm1 := s.f (fDRV_MODE_NCM1 g)
    bsense := s.f (fCAL_SNS_CFG_BSENSE g)
    bresv := s.f (fCAL_SNS_CFG_BRESV g)
    blankFrame := tech == 4 && !x.changedNext
    pairFirst := first
    lad := { x.lad with
      trimR := if tech ≠ 0 then none else if first then s.trimPick g else x.lad.trimR
      trim := 0
      wake := if x.cutPassed then x.lad.wake else none }
    gl := { x.gl with pull := 0 }
    urRaised := false
    urLine := none
    urAbort := none }

/-- SYNCOUT pulses of the group begin (R73). -/
def State.syncStart (s : State) (g : Nat) : State :=
  let w := s.f (fTMG_SYNCOUT_WIDTH g)
  if w = 0 then s else s.setGrp g { s.grp g with syncEnd := some ((s.grp g).lineTick + w) }

/-- Line 0 of a new frame starts at tick `t` (R48, R49, R54, R58, R61, R63, R64, R74). Commits of a latch followed by a biscuit frame are
shown, and reported, with the first frame after it that is none (log 120). -/
def State.lineZero (s : State) (g t : Nat) : State :=
  let was := if (s.grp g).live then some (s.grp g).cur.htotal else none
  let s := s.endFrame g
  let x := s.grp g
  let fresh := !x.live || x.newTiming || x.teWait.isSome
  let k := if fresh then 0 else x.k + 1
  let cur := s.timing g
  let frame := (x.frame + 1) % 2 ^ 48
  let s := s.setGrp g { x with
    epoch := if fresh then 65536 * t else x.epoch
    k := k
    k0 := k
    line := 0
    lineTick := t
    live := true
    frame := frame
    cur := cur
    porch := cur.vfp
    latched := false
    newTiming := false
    biscuitNext := false
    teWait := none
    teOuts := 0
    applied := if x.biscuitNext then x.applied.map fun a => { a with biscuit := true } else x.applied }
  let s := ((s.setOn (fTMG_STATUS_BISCUIT g) x.biscuitNext).setF (fTMG_STATUS_TE_WAIT g) 0).setF (fTMG_LAD_STATUS_FPORCH g) cur.vfp
  let s := if s.gState g ≠ 1 then s
    else
      let s := s.groupState g 2 0
      if s.on fPAN_SR_CTRL_SLEEP then s.setSr g true frame else s
  let s := (s.takeFrame g).syncStart g
  let s := if x.biscuitNext then s else s.raiseApplied g
  let s := if s.on (fTMG_CTRL_FRAME_EVT g) then s.raiseG 0x103 g [(48, frame), (8, b2n x.biscuitNext)] else s
  let s := (s.occurGroup g 5).coreLine g was
  let s := (s.grp g).swaps.foldl (fun s e => s.doSwap g e.1 e.2 false) s
  let s := s.setGrp g { s.grp g with swaps := [] }
  (s.bisLine0 g frame).everyLine g

/-- LINE_START (R48). A line whose latch has not been taken holds the next one back. -/
def execLineStart (g : Nat) (s : State) : Host.Outcome State Fault Refusal :=
  if 16 ≤ g ∨ (s.grp g).latchDue then .next s
  else
    match s.nextEv g with
    | .line t => .next (if t ≤ s.time.raster then s.nextLine g t else s)
    | .zero t => .next (if t ≤ s.time.raster then s.lineZero g t else s)
    | _ => .next s

/-! ## TE waits (R74, R75) -/

/-- TE_WAIT_BEGIN. -/
def execTeWaitBegin (g : Nat) (s : State) : Host.Outcome State Fault Refusal :=
  if 16 ≤ g ∨ (s.grp g).latchDue then .next s
  else
    match s.nextEv g with
    | .wait t =>
      if s.time.raster < t then .next s
      else .next ((s.setGrp g { s.grp g with teWait := some t, teOuts := 0 }).setF (fTMG_STATUS_TE_WAIT g) 1)
    | _ => .next s

/-- TE_TIMEOUT (R75): TIMEOUT line periods, counted anew after each timeout, of the LPER in effect for the frame that waits (log
121). -/
def execTeTimeout (g : Nat) (s : State) : Host.Outcome State Fault Refusal :=
  let x := s.grp g
  let n := s.f (fTMG_TE_CFG_TIMEOUT g)
  match x.teWait with
  | none => .next s
  | some w =>
    let t := ceilTick (65536 * w + (x.teOuts + 1) * n * s.lper g)
    if 16 ≤ g ∨ n = 0 ∨ x.teE.isSome ∨ s.time.raster < t then .next s
    else
      let fall := s.on (fTMG_TE_CFG_FALLBACK g)
      let s := s.raiseG 0x107 g [(48, x.frame + 1), (8, b2n fall)]
      .next (if fall then s.lineZero g t else s.setGrp g { s.grp g with teOuts := x.teOuts + 1 })

/-! ## The latch (R57, R115 to R118, R436) -/

/-- EXTRA(n) of a step (R116). -/
def State.extra (s : State) (g n : Nat) : Nat := if n = 0 then 0 else s.f (fTMG_LAD_STEP_EXTRA g (n - 1))

/-- Is step `m` usable above step `m − 1` (R116)? -/
def State.stepOk (s : State) (g m : Nat) : Bool :=
  let c := (s.grp g).cur
  decide (s.extra g (m - 1) < s.extra g m ∧ c.vtotal + s.extra g m ≤ 65536 ∧
    (c.vtotal + s.extra g m) * c.lper ≤ 1600000000 * 65536)

/-- LIMIT (R116). -/
def State.ladLimit (s : State) (g : Nat) : Nat :=
  let panes := ((s.panesOf g).map fun p => s.f (fPANE_MAX_STEP p)).foldl min 7
  min panes (((List.range (s.f (fTMG_LAD_CTRL_NSTEPS g))).map fun i => i + 1).takeWhile fun m => s.stepOk g m).length

/-- HELD (R117). -/
def State.ladHeld (s : State) (g : Nat) : Bool :=
  let x := s.grp g
  let gl := s.f (fTMG_STATUS_GL_STATE g)
  !s.on (fTMG_LAD_CTRL_LAD_EN g) || decide (x.cur.vfp ≤ x.cur.lofs) || gl == 1 || gl == 2 || x.tech == 3

/-- Is the next frame changed (R115)? `some_` tells that a commit took effect at this latch, `exit` that self-refresh ended. -/
def State.changedAt (s : State) (g : Nat) (some_ exit : Bool) : Bool :=
  some_ || exit || (s.grp g).lad.watchedCut ||
    (!s.inSr g && (s.panesOf g).any fun p =>
      decide (2 ≤ s.f (fPANE_POLICY p)) || (s.f (fPANE_POLICY p) == 1 && s.on (fPANE_SPACE p)))

/-- The procedure of R118 on the ladder variables: the new ladder, and whether a step was decided, from where and why. -/
def ladderStep (l : Ladder) (changed lcd held : Bool) (limit hold vfp : Nat) (extra : Nat → Nat) : Ladder × Option (Nat × Nat) :=
  let stat := if changed then 0 else min 255 (l.stat + 1)
  let pend := l.pend || changed
  if lcd ∧ l.k % 2 = 1 then ({ l with stat := stat, pend := pend, k := l.k + 1, decided := l.prevPorch }, none)
  else
    let want := if held ∨ pend then 0 else if hold ≤ stat ∧ l.step < limit then l.step + 1 else l.step
    let new := min want limit
    let cause := if held then 2 else if pend then 1 else if new < want then 3 else 0
    if new = l.step then ({ l with stat := stat, pend := false, k := l.k + 1, decided := vfp + extra new }, none)
    else ({ l with step := new, stat := 0, pend := false, k := 1, decided := vfp + extra new }, some (l.step, cause))

/-- Trim lines for the frame in progress, with their common and counter (R436). -/
def State.trimNow (s : State) (g : Nat) : Option (Nat × Int × Nat) :=
  let x := s.grp g
  match x.lad.trimR with
  | none => none
  | some (c, r) =>
    if (0 < r ∧ s.phase g c x.frame = 1) ∨ (r < 0 ∧ s.phase g c x.frame = 0) then
      let used := ((x.cur.vact + x.lad.decided + x.cur.vsync + x.cur.vbp : Nat) : Int) + x.gl.pull
      let n := min (min r.natAbs (s.f (fDRV_MODE_TRIM_MAX g))) (65536 - used.toNat)
      let gl := s.f (fTMG_STATUS_GL_STATE g)
      some (c, r, if gl = 1 ∨ gl = 2 then min n 1 else n)
    else none

/-- The trim of a frame is added to its porch. -/
def State.trimFrame (s : State) (g : Nat) : State :=
  match s.trimNow g with
  | none => s
  | some (c, r, n) =>
    let x := s.grp g
    let s := s.setGrp g { x with lad := { x.lad with trim := n, trimR := none } }
    if n = 0 then s else s.raiseG 0x170 g [(8, c), (8, 0), (32, toField 32 r), (16, n), (48, x.frame)]

/-- The ladder and the trim set the front porch of the frame in progress. -/
def State.setPorch (s : State) (g : Nat) (changed : Bool) : State :=
  let x := s.grp g
  let limit := s.ladLimit g
  let held := s.ladHeld g
  let r := ladderStep x.lad changed (x.tech == 0) held limit (max 1 (s.f (fTMG_LAD_CTRL_HOLD g))) x.cur.vfp (s.extra g)
  let s := s.setGrp g { x with lad := r.1, changedNext := changed }
  let s := match r.2 with
    | some (old, cause) => s.raiseG 0x110 g [(8, r.1.step), (8, old), (48, x.frame), (8, cause)]
    | none => s
  let s := ((s.setF (fTMG_LAD_STATUS_STEP g) r.1.step).setF (fTMG_LAD_STATUS_LIMIT g) limit).setOn (fTMG_LAD_STATUS_HELD g) held
  let s := (s.setF (fTMG_LAD_STATUS_STATIC g) r.1.stat).trimFrame g
  let x := s.grp g
  let porch := (((x.lad.decided + x.lad.trim : Nat) : Int) + x.gl.pull).toNat
  (s.setGrp g { x with porch := porch }).setF (fTMG_LAD_STATUS_FPORCH g) porch

/-- Self-refresh changes bound to this latch (R122, R126). -/
def State.latchSr (s : State) (g : Nat) : State :=
  let x := s.grp g
  let s := s.setGrp g { x with srAtLatch := 0 }
  match x.srAtLatch with
  | 1 => if s.inSr g then s else s.setSr g true (x.frame + 1)
  | 2 => if s.inSr g then s.setSr g false (x.frame + 1) else s
  | _ => s

/-- The pipeline is done with the frame in progress: what it captured and the levels it produced are settled, and what it held of the
frame's pixels, blocks and host data is dropped. -/
def State.pipeDone (s : State) (g : Nat) : State := ((((s.captureLatch g).bisLate g).dropLines g).dropTiles g).dropHostPanes g

/-- The pipeline turns to the next frame, whose panes read their host data anew (R58). -/
def State.pipeNext (s : State) (g : Nat) : State :=
  let s := (s.pixTurn g).dropHostPanes g
  s.setGrp g { s.grp g with dropRaised := false, skipRaised := false, srAtOnce := false }

/-- The latch of the frame in progress. -/
def State.takeLatch (s : State) (g : Nat) : State :=
  let x := s.grp g
  let t := x.lineTick
  let exit := x.srAtLatch == 2 && s.inSr g
  let some_ := x.attr.any fun c => c.doom != 19
  let ends := x.attr.any fun c => c.doom != 19 && s.foldEnds g c.ws
  let s := s.pipeDone g
  let s := if ends then s else s.foldLatch g (s.gState g == 2) (!x.held.isEmpty) (x.frame + 1) t
  let s := s.setGrp g { s.grp g with attr := x.later, later := [], latched := true, cutPassed := false, latchTick := t }
  let s := x.attr.foldl (fun s c => s.latchCommit c t false) s
  let s := ((s.showPend g).latchSr g).pipeNext g
  let changed := s.changedAt g some_ exit
  let s := s.setGrp g { s.grp g with lad := { (s.grp g).lad with watchedCut := false } }
  let s := s.setPorch g changed
  let s := if s.tech g = 3 then s.decideBis g false (x.frame + 1) else s.decideBand g false (x.frame + 1)
  s.occurGroup g 6

/-- NCUT_LO (R94). From a cut-off to its latch it is that of the next frame, by the porch that the latch would now decide (log 124). Where
TE gates the next frame, no cut-off is known, and it reads 0 (log 123). -/
def State.ncutLo (s : State) (g : Nat) : Nat :=
  let x := s.grp g
  if s.gState g = 2 ∧ ¬ s.on (fTMG_STATUS_TE_WAIT g) then
    let s := if x.live ∧ ¬ x.latched ∧ s.pastCut g then s.takeLatch g else s
    (s.nextCut g).getD 0 % 2 ^ 32
  else 0

/-- LATCH (R57): at the start of line VLATCH, its cut-off having passed. -/
def execLatch (g : Nat) (s : State) : Host.Outcome State Fault Refusal :=
  let x := s.grp g
  .next (if g < 16 ∧ x.latchDue ∧ x.cutPassed then s.takeLatch g else s)

/-! ## Starting and stopping (R54, R55) -/

/-- A group starts, or fails its checks (R54). -/
def State.startGroup (s : State) (g : Nat) : State :=
  let code := s.startCode g
  if code ≠ 0 then
    let s := if 16 ≤ code then (s.setF (fDRV_STATUS_CHK g) code).setF (fTMG_STATUS_CFG_ERR g) 0
      else s.setF (fTMG_STATUS_CFG_ERR g) code
    (s.setF (fTMG_CTRL_RUN g) 0).raiseG 0x108 g [(8, 0), (8, code)]
  else
    let x := s.grp g
    let due := ceilTick (65536 * s.time.raster + (s.lead g + 1) * s.lper g)
    let s := s.setGrp g { x with
      live := false
      due := due
      cur := s.timing g
      line := 0
      lad := ⟨0, 0, 0, false, 0, 0, 0, none, none, false, false⟩
      cutPassed := false
      latched := false
      newTiming := false
      biscuitNext := false
      changedNext := true
      vactTick := due
      teWait := none
      teE := none
      teOuts := 0 }
    let s := (s.dropCaptures (s.panesOf g)).histClear g
    let s := (((s.dropLines g).dropTiles g).pipeNext g).setBis g { s.bis g with hdr := s.readHdr g, hdrNew := [] }
    let s := ((s.setF (fTMG_CTRL_RUN g) 1).setF (fTMG_LAD_STATUS_STEP g) 0).setF (fTMG_LAD_STATUS_STATIC g) 0
    let s := (s.groupState g 1 0).checkPlanes g [0, 1, 2]
    let next := (x.frame + 1) % 2 ^ 48
    let s := if s.tech g = 3 then (s.measTable s g).bisStart g next else s.decideBand g true next
    s.armStart g

/-- A STOPPING group returns to the state it left (R55). One that returns to STARTING runs no more, so it is not in self-refresh (R122,
R136; log 125). -/
def State.resumeGroup (s : State) (g : Nat) : State :=
  let s := (s.setF (fTMG_CTRL_RUN g) 1).groupState g (s.grp g).left 0
  if s.gState g ≠ 1 then s
  else
    let s := s.putBit fPAN_SR_STATUS_GROUPS g false
    s.setOn fPAN_SR_STATUS_ACTIVE (s.f fPAN_SR_STATUS_GROUPS != 0)

/-- The group enters STOPPED (R55, R59, R122, R372, R402, R430, R433, R441, R687). -/
def State.enterStopped (s : State) (g : Nat) : State :=
  let chains := s.chainsOf g
  let s := s.endFrame g
  let x := s.grp g
  let tick := s.time.raster
  let s := s.setGrp g { x with
    attr := []
    later := []
    held := []
    live := false
    latched := false
    cutPassed := false
    newTiming := false
    biscuitNext := false
    srEnterAtLatch := false
    srExitAtLatch := false
    srAtLatch := 0
    srAtOnce := false
    teWait := none
    teE := none
    swaps := []
    urAbort := none }
  let s := (((s.setF (fTMG_STATUS_TE_WAIT g) 0).setF (fTMG_STATUS_BISCUIT g) 0).setF (fTMG_LAD_STATUS_PAIR g) 0).groupState g 0 0
  let s := x.swaps.foldl (fun s e => s.doSwap g e.1 e.2 true) s
  let s := (x.held ++ x.attr ++ x.later).foldl (fun s c => s.latchCommit c tick true) s
  let s := (s.setGrp g { s.grp g with newTiming := false, biscuitNext := false }).showPend g
  let s := s.putBit fPAN_SR_STATUS_GROUPS g false
  let s := s.setOn fPAN_SR_STATUS_ACTIVE (s.f fPAN_SR_STATUS_GROUPS != 0)
  let s := chains.foldl (fun s c =>
    let s := if (s.ln c).epoch.isSome then s.activate c else s
    let s := (s.pairsOf c).foldl (fun s l => s.setLn l { s.ln l with lineOn := false }) s
    if s.lnSt c = 4 then s
    else (List.range 4).foldl (fun s _ => s.sendCtl c (holdBlock 3)) (s.idleChain c (s.txNow c))) s
  ((s.discardEdges g).railStopped g).panTol

/-- A write of RUN (R54, R55, R447, R707). -/
def State.writeRun (s : State) (g : Nat) (run : Bool) : State :=
  let st := s.gState g
  if run then
    if s.on fDRV_PF_TRIPPED ∨ s.on fFLT_STATUS_TERMINAL then s
    else if st = 0 then s.startGroup g
    else if st = 3 then s.resumeGroup g
    else s
  else
    let s := s.stopGroup g
    if s.gState g = 3 ∧ (s.grp g).teWait.isSome then s.enterStopped g else s

/-- GROUP_ENTER_STOPPED (R55): the tick at which the next line 0 would have started, or a TE wait would begin. -/
def execGroupEnterStopped (g : Nat) (s : State) : Host.Outcome State Fault Refusal :=
  if 16 ≤ g ∨ (s.grp g).latchDue then .next s
  else if s.gState g = 3 ∧ (s.grp g).teWait.isSome then .next (s.enterStopped g)
  else
    match s.nextEv g with
    | .stop t => .next (if t ≤ s.time.raster then s.enterStopped g else s)
    | _ => .next s

end Sys2Proof.Machine
end

