-- ==== Sys2Proof/Machine/Mem.lean ====
section
/-!
DEFINITION. On-chip memory and arbitration (14): SRAM errors and what they lead to (R636, R637), the march engine (R639 to
R641), rounds, classes and masks of the arbiters (R646 to R656), the scan emergency (R650).
-/
namespace Sys2Proof.Machine

/-! ## SRAM errors (R636, R637) -/

/-- Mark a commit, wherever it waits for its latch, as refused with code 19 (R637). -/
def State.spoilCommit (s : State) (issuer cseq : Nat) : State :=
  let f := fun (l : List Commit) => l.map fun c =>
    if c.issuer = issuer ∧ c.cseq = cseq ∧ c.doom = 0 then { c with doom := 19 } else c
  let s := { s with transit := f s.transit }
  allGroups.foldl (fun s g =>
    let x := s.grp g
    s.setGrp g { x with attr := f x.attr, later := f x.later, held := f x.held }) s

/-- A record in a hold buffer is discarded, leaving the place of an EVR_LOST (R538, R637). -/
def State.loseHeld (s : State) (k i : Nat) : State :=
  let r := s.ring k
  match r.held[i]? with
  | some (.one e) =>
    ((s.setRing k { r with held := listSet r.held i (.lost 1 e.stamp e.stamp) }).count (fEVR_STATUS_DROP k) 1).ringStatus k
  | _ => s

/-- The raster-die event queue is reset: the records in it are discarded (R644). -/
def State.eventReset (s : State) : State :=
  let n := s.eventCells
  ({ s with ev := { s.ev with enRoute := s.ev.enRoute.filter fun e => !rasterOrigin e.origin } }).queueReset 3 0 0xE00 n

/-- What an uncorrectable word leads to, by what it belongs to (R637, R109, R172, R206, R283, R455). -/
def State.sramLost (s : State) (use : SramUse) : State :=
  match use with
  | .other => s
  | .mirror => s
  | .event => s.eventReset
  | .core o data =>
    if (isTR o ∨ isTC o) ∧ ¬ s.coreStopped o then (if data then s.coreFault o 8 else s.coreFaultWith o 8 0) else s
  | .pane p => if p < 10240 then s.losePane p else s
  | .defect n =>
    if n < 65536 then
      let g := s.f (fDEFE_GROUP n)
      ({ s with pix := { s.pix with badDefects := smSet (fun _ => false) s.pix.badDefects n true } }).raiseG 0x124 g
        [(8, 6), (8, 0), (48, s.procFrame g), (16, (s.grp g).line)]
    else s
  | .table g kind bank line =>
    if g < 16 ∧ kind < 3 ∧ bank < 2 then
      (s.putBit (fLoaded g kind) bank false).raiseG 0x124 g [(8, kind), (8, 0), (48, s.procFrame g), (16, line)]
    else s
  | .commit issuer cseq => s.spoilCommit issuer cseq
  | .cell c =>
    if s.devFirst ≤ c ∧ c < s.devEnd ∧ smGet (fun _ => false) s.fs.lostCells c = false then
      let free := s.cellFree c
      let s := { s with fs := { s.fs with lostCells := smSet (fun _ => false) s.fs.lostCells c true } }
      if free then s.setFree (s.f fFST_STRUDEL_FREE_FREE - 1) else s
    else s
  | .partner c p =>
    if c < 256 ∧ p < 16 then s.partnerReset c p else s
  | .upstream g => if g < 16 then s.uqReset g else s
  | .crossing n => s.queueReset 4 0 0xE00 n
  | .hold k i => s.loseHeld k i
  | .acc key => s.freeAccs [key]
  | .waveform g x y frame => if g < 16 then s.setBis g { s.bis g with bad := (s.bis g).bad ++ [(x, y, frame)] } else s

/-- May MEM_ECC be raised again for a corrected error of a die: at most once per 1,048,576 ticks (R636)? -/
def ceDue (last : Option Nat) (now : Nat) : Bool :=
  match last with
  | none => true
  | some t => decide (t + 1048576 ≤ now)

/-- A corrected error (R636). -/
def State.sramCorrected (s : State) (b word : Nat) : State :=
  let s := (s.count (fMEM_BANK_CE b) 1).fault 0x06 0xE00 b word
  let r := rasterBank b
  let now := if r then s.time.raster else s.time.master
  if ¬ ceDue (if r then s.mem.ceRaster else s.mem.ceHost) now then s
  else
    let s := if r then { s with mem := { s.mem with ceRaster := some now } } else { s with mem := { s.mem with ceHost := some now } }
    s.raise 0x1C0 0xE00 0 [(8, 0), (8, 0), (16, b), (16, word)]

/-- An uncorrectable error (R636). -/
def State.sramUncorrectable (s : State) (b word : Nat) : State :=
  let s := ((s.setW1c fMEM_UE_VALID 0).setF fMEM_UE_BANK b).setF fMEM_UE_WORD word
  let s := (s.count fMEM_UE_CNT_COUNT 1).raise 0x1C0 0xE00 0 [(8, 1), (8, 0), (16, b), (16, word)]
  s.fault 0x07 0xE00 b word

/-- SRAM_READ (R632 to R637): a read of word `word` of bank `b` meets an error: `err` 1 corrected, 2 uncorrectable, in a word
of `use`. A bank that is OFF returns zero and has no errors; one in RETENTION wakes. -/
def execSramRead (b word err : Nat) (use : SramUse) (s : State) : Host.Outcome State Fault Refusal :=
  if 260 ≤ b ∨ 32768 ≤ word ∨ s.bankSt b = 2 then .next s
  else
    let s := s.touchBank b
    if err = 1 then .next (s.sramCorrected b word)
    else if err = 2 then .next ((s.sramUncorrectable b word).sramLost use)
    else .next s

/-- BANK_RETENTION_IDLE (R634): 4,096 ticks without an access return a woken bank to RETENTION. -/
def execBankRetentionIdle (b : Nat) (s : State) : Host.Outcome State Fault Refusal :=
  .next (if b < 260 ∧ s.f (fMEM_BANK_REQ b) = 1 ∧ s.bankSt b = 0 ∧ ¬ s.on (fMEM_BANK_INIT b) then s.setF (fMEM_BANK_STATE b) 1 else s)

/-- BANK_INIT_DONE (R635): the zero fill ends. -/
def execBankInitDone (b : Nat) (s : State) : Host.Outcome State Fault Refusal :=
  .next (if b < 260 then s.setF (fMEM_BANK_INIT b) 0 else s)

/-! ## The march engine (R639 to R641) -/

/-- Is a bank accepted for a march of the mode? -/
def State.marchTakes (s : State) (mode b : Nat) : Bool := if mode = 0 then s.bankFree b else s.bankSt b != 2

/-- March C− leaves a bank zero (R639). -/
def State.marchWipe (s : State) (mode : Nat) (bs : List Nat) : State :=
  if mode = 0 then bs.foldl (fun s b => s.bankLose b) s else s

/-- GO of MEM_MARCH_CTRL (R639, R663). -/
def State.marchGo (s : State) : State :=
  if s.on fMEM_MARCH_STATUS_BUSY then s
  else
    let first := s.f fMEM_MARCH_CTRL_FIRST
    let mode := s.f fMEM_MARCH_CTRL_MODE
    let range := ((List.range (s.f fMEM_MARCH_CTRL_LAST + 1 - first)).map fun i => first + i).filter fun b => decide (b < 260)
    let banks := range.filter fun b => s.marchTakes mode b
    let m : March := ⟨mode, s.on fMEM_MARCH_CTRL_REPAIR, banks, banks.length != range.length⟩
    let s := ({ s with mem := { s.mem with march := some m } }).marchWipe mode banks
    (s.setF fMEM_MARCH_STATUS_BUSY 1).setF fMEM_MARCH_STATUS_CUR first

/-- A failing bank: replaced rows and columns, or FAILED (R641). Returns whether it failed and the spares used. -/
def State.marchBank (s : State) (repair : Bool) (b rows cols : Nat) : Bool × Nat × State :=
  let r := s.f (fMEM_BANK_SPROW b) + rows
  let c := s.f (fMEM_BANK_SPCOL b) + cols
  if repair ∧ r ≤ 4 ∧ c ≤ 2 then
    (false, rows + cols, (s.setF (fMEM_BANK_SPROW b) r).setF (fMEM_BANK_SPCOL b) c)
  else
    let used := s.f (fMEM_BANK_SPROW b) + s.f (fMEM_BANK_SPCOL b)
    (true, 0, (s.setF (fMEM_BANK_FAILED b) 1).fault 0x14 0xE00 b used)

/-- The failing banks of a march, with the rows and columns each needs: banks FAILED, spares used, and the state. -/
def marchBanks (repair : Bool) : List (Nat × Nat × Nat) → Nat → Nat → State → Nat × Nat × State
  | [], fails, reps, s => (fails, reps, s)
  | (b, rows, cols) :: r, fails, reps, s =>
    let (failed, used, s) := s.marchBank repair b rows cols
    marchBanks repair r (fails + b2n failed) (reps + used) s

/-- A march ends (R659, R664). -/
def State.marchEnd (s : State) (mode result cur fails reps : Nat) : State :=
  let s := ({ s with mem := { s.mem with march := none } }).setF fMEM_MARCH_STATUS_BUSY 0
  let s := (s.setF fMEM_MARCH_STATUS_RESULT result).setF fMEM_MARCH_STATUS_CUR cur
  let s := (s.setF fMEM_MARCH_STATUS_FAILS (min fails 255)).setF fMEM_MARCH_STATUS_REPAIRS (min reps 255)
  s.raise 0x1C1 0xE00 0 [(8, result), (8, mode), (16, fails), (16, reps)]

/-- ABORT of MEM_MARCH_CTRL (R663). -/
def State.marchAbort (s : State) : State :=
  match s.mem.march with
  | none => s
  | some m => s.marchEnd m.mode 4 (s.f fMEM_MARCH_STATUS_CUR) 0 0

/-- MARCH_DONE (R641): the march over its banks ends; `bad` names the banks found failing, with the rows and columns to
replace. RESULT is the first of failed banks, skipped banks, repairs that applies (log entry 29). -/
def execMarchDone (bad : List (Nat × Nat × Nat)) (s : State) : Host.Outcome State Fault Refusal :=
  match s.mem.march with
  | none => .next s
  | some m =>
    let bad := bad.filter fun e => m.banks.contains e.1
    let (fails, reps, s) := marchBanks m.repair bad 0 0 s
    let result := if fails ≠ 0 then 2 else if m.skipped then 3 else if reps ≠ 0 then 1 else 0
    .next ((s.marchEnd m.mode result (m.banks.getLast?.getD (s.f fMEM_MARCH_STATUS_CUR)) fails reps).degraded)

/-! ## Arbiters (R646 to R656) -/

/-- The lines that group `g`'s line buffer holds complete, the one being sent left out (R650). -/
def State.fullLines (s : State) (g : Nat) : Nat :=
  ((List.range (s.vact g)).filter fun y => y != (s.grp g).line &&
    (List.range (s.hact g)).all fun x => smGet (fun _ => 0) s.pix.lb (lbKey g y x) != 0).length

/-- Do the tile fetchers of group `g` make a scan emergency (R650)? -/
def State.scanEmerg (s : State) (g : Nat) : Bool :=
  s.gState g != 0 && decide (s.fullLines g < s.f (fARB_SCAN_WM_LWM g))

/-- The first scan emergency of a frame raises SCAN_EMERG (R650, R659). -/
def State.noteEmerg (s : State) (g : Nat) : State :=
  if smGet (fun _ => false) s.pix.emerg g then s
  else
    ({ s with pix := { s.pix with emerg := smSet (fun _ => false) s.pix.emerg g true } }).raiseG 0x1C3 g
      [(16, 0), (48, (s.grp g).frame), (16, (s.grp g).line)]

/-- A round of a link arbiter grants step 4 of the lane group's coming slot (R21, R647). -/
def State.linkGranted (s : State) (k n : Nat) : State :=
  s.setLane (k / 16) (k % 16) { s.lane (k / 16) (k % 16) with grant := some n }

/-- An emergency refresh takes its pseudo-channel (R196). -/
def State.refreshGranted (s : State) (pc : Nat) : State :=
  ({ s with fs := { s.fs with postponed := smSet (fun _ => 0) s.fs.postponed pc 0 } }.count fFST_PWR_STATUS_EMERG 1).cxlLog 1 1 pc

/-- ARB_ROUND (R647 to R656): a round of arbiter `arb` (link 64 + 16 × direction + lane group, pseudo-channel 128 + k, bank
port D 512 + b) among the pending requests (requester, issue tick, lost a round to a higher class before). Overdue
BEST-EFFORT requests are refused instead of taking part; a winner that had been deferred counts, where it has no job. `scan`
lists the groups whose tile fetchers are pending. A refresh that is due is pending whether named or not (R196); the winner at the
link is what FLIT_SLOT sends at step 4, TC3 only within TC3_MAX (R21). -/
def execArbRound (arb : Nat) (reqs : List (Nat × Nat × Bool)) (scan : List Nat) (s : State) : Host.Outcome State Fault Refusal :=
  if ¬ (isLinkArb arb ∨ isPcArb arb ∨ isBankArb arb) then .next s
  else
    let em := if isPcArb arb then scan.filter fun g => decide (g < 16) && s.scanEmerg g else []
    let s := em.foldl (fun s g => s.noteEmerg g) s
    let now := if rasterArb arb then s.time.raster else s.time.master
    let tc3 := !isLinkArb arb || s.tc3Open ((arb - 64) / 16) ((arb - 64) % 16)
    let due := s.refreshDue arb
    let reqs := if due ∧ ¬ reqs.any (fun r => r.1 == 14) then reqs ++ [(14, 0, false)] else reqs
    let live := reqs.filter fun r => !(r.1 < 16 && smGet (fun _ => false) s.arb.masked r.1) && (r.1 != 15 || tc3)
    let late := fun (r : Nat × Nat × Bool) =>
      decide (11 ≤ r.1 ∧ r.1 ≤ 13 ∧ r.2.1 + 1024 * max 1 (s.arbCfg arb r.1 / 16) ≤ now)
    let s := (live.filter late).foldl (fun s r => if r.1 = 12 then s else s.refused r.1 1) s
    let (w, s) := s.classRound arb (!em.isEmpty) (((live.filter fun r => !late r).map fun r => r.1).eraseDups)
    match w with
    | none => .next s
    | some n =>
      let waited := live.any fun r => r.1 == n && r.2.2
      let s := if isLinkArb arb then s.linkGranted (arb - 64) n else if n = 14 ∧ due then s.refreshGranted (arb - 128) else s
      .next (if waited ∧ [4, 6, 7, 10, 11, 13].contains n then s.deferred n else s)

/-- A write of APPLY (R651): the staged values take effect on the host die and set out for the raster die. -/
def State.arbApply (s : State) : State :=
  let s := (List.range 16).foldl (fun s n =>
    let p := s.f (fARB_REQ_CFG_PRIO n)
    let d := s.f (fARB_REQ_CFG_DEADLINE n)
    let s := (s.setF (fARB_REQ_EFF_PRIO n) p).setF (fARB_REQ_EFF_DEADLINE n) d
    { s with arb := { s.arb with sent := smSet (fun _ => 1024) s.arb.sent n (p + 16 * d) } }) s
  s.setF fARB_APPLY_PENDING 1

/-- ARB_APPLY_RASTER (R651): the raster-die arbiters take the values. -/
def execArbApplyRaster (s : State) : Host.Outcome State Fault Refusal :=
  .next (if s.on fARB_APPLY_PENDING then
      ({ s with arb := { s.arb with effR := s.arb.sent } }).setF fARB_APPLY_PENDING 0 else s)

/-- REQUESTER_MASK (R652): requester `n` is masked; its `withdrawn` pending requests are refused, those of a copy with it. -/
def execRequesterMask (n withdrawn : Nat) (s : State) : Host.Outcome State Fault Refusal :=
  if 16 ≤ n then .next s
  else
    let s := { s with arb := { s.arb with masked := smSet (fun _ => false) s.arb.masked n true } }
    if withdrawn = 0 ∨ n = 12 then .next s
    else .next ((s.count (fARB_REQ_REF_REFUSALS n) withdrawn).setF (fARB_REQ_REF_REASON n) 2)

/-- REQUESTER_UNMASK (R652): the mask is removed; its ages are 0. -/
def execRequesterUnmask (n : Nat) (s : State) : Host.Outcome State Fault Refusal :=
  if 16 ≤ n then .next s
  else
    let own := fun (k : Nat) => k % 4096 == n && (isLinkArb (k / 4096) || isPcArb (k / 4096) || isBankArb (k / 4096))
    .next { s with arb := { s.arb with
      masked := smSet (fun _ => false) s.arb.masked n false
      ages := s.arb.ages.filter fun e => !own e.1 } }

end Sys2Proof.Machine
end

