-- ==== Sys2Proof/Machine/Boot.lean ====
section
/-!
DEFINITION. Start-up and live update (15): PORST_N (R745), the stages and what each loads (R676 to R684), bonbon mode's entry and
exit (R459, R461, R685), image activation (R686), command-processor swaps (R689); clock sources (R31, R747).
-/
namespace Sys2Proof.Machine

/-! ## PORST_N (R5, R745) -/

/-- What lies in fuses and survives every reset. -/
def SecSt.fused (x : SecSt) : SecSt :=
  { x with keys := [], idOn := false, sessions := [], nextSession := 1, load := none, meas := [] }

/-- PORST_ASSERT (R745): everything returns to its reset value but flash, fuses and the pins' levels. -/
def execPorstAssert (s : State) : Host.Outcome State Fault Refusal :=
  .next { State.reset with
    pending := s.pending
    free := s.free
    outs := s.outs
    nv := s.nvLose.nv
    sec := s.sec.fused
    drv := { State.reset.drv with pfailLow := s.drv.pfailLow, vinLow := s.drv.vinLow }
    host := { State.reset.host with perst := s.host.perst } }

/-- PORST_DEASSERT (R676): stage 1 begins. -/
def execPorstDeassert (s : State) : Host.Outcome State Fault Refusal :=
  if ¬ s.boot.porst then .next s
  else .next { s with boot := { s.boot with porst := false, running := [1] } }

/-! ## Stages (R676, R679) -/

/-- Is stage `k` complete? -/
def State.stageDone (s : State) (k : Nat) : Bool := bit (s.f fCLK_BOOT_STAGES) (k - 1) == 1

/-- Indices of the blocks a stage makes reachable (R676, R718). -/
def stageBlocks : Nat → List Nat
  | 1 => [0, 1, 2, 22, 23]
  | 2 => [9, 10]
  | 3 => [4]
  | 4 => [5]
  | 5 => [6, 7]
  | 6 => [8, 11, 12, 13, 14, 15, 17, 18, 19, 20, 21]
  | 7 => [3, 16]
  | _ => []

/-- Stages that may begin once stage `k` is complete (R676). After a restart at stage 3 (R679) stage 4 has been run. -/
def State.nextStages (s : State) : Nat → List Nat
  | 1 => [2]
  | 2 => [3, 5]
  | 3 => if s.stageDone 4 then [6] else [4]
  | 4 => if s.on fCLK_BOOT_RECOVERY then [] else [6]
  | 5 => if s.stageDone 6 then [7] else []
  | 6 => if s.stageDone 5 then [7] else []
  | 7 => [8]
  | _ => []

/-- A stage no longer runs. -/
def State.stageOff (s : State) (k : Nat) : State :=
  { s with boot := { s.boot with running := s.boot.running.erase k } }

/-- BOOT_STAGE (R691). -/
def State.bootStage (s : State) (k fcode fimg : Nat) : State :=
  let flags := s.f fCLK_BOOT_FALLBACK + 2 * s.f fCLK_BOOT_RECOVERY + 4 * s.f fCLK_BOOT_BONBON
  s.raise 0x1D0 0xE00 0 [(8, k), (8, fcode), (8, s.f fCLK_BOOT_SLOT), (8, flags), (8, fimg)]

/-- A failure is recorded (R679, R692). -/
def State.stageFail (s : State) (k fcode fimg : Nat) : State :=
  if fcode = 0 then s
  else
    let s := (s.setF fCLK_BOOT_FSTAGE k).setF fCLK_BOOT_FCODE fcode
    if fcode = 3 then s.setF fCLK_BOOT_FIMG fimg else s

/-- A stage ends without completing. -/
def State.stageStop (s : State) (k fcode fimg : Nat) : State := ((s.stageFail k fcode fimg).stageOff k).bootStage k fcode fimg

/-- A stage completes, with the failure it met if any: its blocks become reachable and the next stages begin. -/
def State.stageEnd (s : State) (k fcode fimg : Nat) : State :=
  let s := (s.stageFail k fcode fimg).stageOff k
  let s := s.putBit fCLK_BOOT_STAGES (k - 1) true
  let s := (stageBlocks k).foldl (fun s b => s.putBit fGEN_BLKRDY_RDY b true) s
  let s := s.bootStage k fcode fimg
  { s with boot := { s.boot with running := s.boot.running ++ s.nextStages k } }

/-- Set LOCK bits of CLK_LOCK. -/
def State.lockBits (s : State) (bs : List Nat) : State := bs.foldl (fun s b => s.putBit fCLK_LOCK_LOCK b true) s

/-- The march of a start-up stage over the banks that `p` selects, with REPAIR = 1 (R641, R676): whether a bank failed. -/
def State.bootMarch (s : State) (rep : StageReport) (p : Nat → Bool) (last : Nat) : Bool × State :=
  let (fails, reps, s) := marchBanks true (rep.bad.filter fun e => p e.1) 0 0 s
  (fails != 0, (s.marchEnd 0 (if fails ≠ 0 then 2 else if reps ≠ 0 then 1 else 0) last fails reps).degraded)

/-- Stage 1: PLLs, fuses, link training. -/
def State.stage1 (s : State) : State :=
  let s := { (s.lockBits [0, 2]).fuseRegs with host := { s.host with training := true } }
  s.measLc.stageEnd 1 0 0

/-- The root PLL does not lock: the device stays in stage 1 (R679). -/
def State.stage1Fail (s : State) (fcode : Nat) : State :=
  let s := { s with boot := { s.boot with pllRetry := true } }
  ((s.stageFail 1 fcode 0).bootStage 1 fcode 0).fault 0x17 0xE00 0 0

/-- Stage 2: March C− over banks 0 to 95 and 256 to 259. -/
def State.stage2 (s : State) (rep : StageReport) : State :=
  let (bad, s) := s.bootMarch rep (fun b => decide (b < 96 ∨ (256 ≤ b ∧ b < 260))) 259
  s.stageEnd 2 (if bad then 2 else 0) 0

/-- The value stage 4 will give counter 251 (R683). -/
def State.counter251 (s : State) (rep : StageReport) : Nat :=
  (s.nvScan rep.badCopies rep.ties rep.dumpKept rep.dumpSeen).nvCnt 251

/-- A slot is taken: SLOT, ACTIVE, SLOTVER, measurements 1 and 2 (R562, R683, R731). -/
def State.takeSlot (s : State) (slot : Nat) : State :=
  let s := ((s.setF fCLK_BOOT_SLOT slot).setF fNVS_ACT_ACTIVE slot).setF fGEN_SLOTVER_SLOTVER (s.slotNat slot 4 4)
  (s.measure 1 (.raw Config.bootRom)).measure 2 (s.slotMeas slot 0 (s.dirFslen slot))

/-- Recovery mode begins (R683). -/
def State.recovery (s : State) (k fimg : Nat) : State :=
  let s := s.setF fCLK_BOOT_RECOVERY 1
  if k = 3 then s.stageEnd 3 3 fimg else s.stageStop k 3 fimg

/-- Stage 3: the slot is selected and its first stage verified (R683). A restart takes the other slot only (R679); a start-up
after bonbon mode takes the active slot first (R685). -/
def State.stage3 (s : State) (rep : StageReport) : State :=
  let sel := if s.boot.otherTried then 1 - s.f fCLK_BOOT_SLOT
    else if s.boot.bonbonExit then s.f fCLK_BOOT_SLOT
    else s.counter251 rep % 2
  if s.firstOk sel then ((if s.boot.otherTried then s.setF fCLK_BOOT_FALLBACK 1 else s).takeSlot sel).stageEnd 3 0 0
  else if ¬ s.boot.otherTried ∧ s.firstOk (1 - sel) then ((s.setF fCLK_BOOT_FALLBACK 1).takeSlot (1 - sel)).stageEnd 3 0 0
  else s.recovery 3 0

/-- LASTCTR of every slot from its record (R571). -/
def State.reloadCtrs (s : State) : State :=
  (List.range 64).foldl (fun s n => s.setLastCtr n (leNat (s.nvBytes (ctrAddr n) 8))) s

/-- Stage 4: the record store, the identity key and the issuer slots (R606, R676). -/
def State.stage4 (s : State) (rep : StageReport) : State :=
  let n := s.ev.enRoute.length
  let s := s.nvScan rep.badCopies rep.ties rep.dumpKept rep.dumpSeen
  let lost := (s.ev.enRoute.drop n).any fun e => e.code == 0x1B4 && e.args % 256 == 1
  let s := ((List.range 64).foldl (fun s n => s.reloadSlot n) s.reloadId).reloadCtrs
  let s := s.setF fNVS_ACT_SEL (s.nvCnt 251 % 2)
  s.stageEnd 4 (if lost then 2 else 0) 0

/-- Stage 5: the frame store (R676, R679). -/
def State.stage5 (s : State) (hw : Bool) : State :=
  if hw then (s.stageStop 5 2 0).fault 0x18 0xE00 5 2
  else
    let s := { s with fs := { s.fs with mem := [], poison := [] } }
    (s.lockBits [5, 6]).stageEnd 5 0 0

/-- A lane group of the link trains at start-up (R17, R25). -/
def State.trainLane (s : State) (dir lg failed : Nat) : State :=
  let st := trainedState (s.on fDMH_TC_CFG_HALF_EN) 0 failed
  let s := if failed = 0 then s else (s.setF (fLgFaultLane dir lg) (lowestLane failed)).setW1c (fLgFaultSeen dir lg) 0
  let s := s.setF (fLgState dir lg) st
  let s := s.setLane dir lg { LaneGrp.init with half := if st = 3 ∨ st = 4 then st else 0 }
  if st = 2 then s
  else
    let lane := s.f (fLgFaultLane dir lg)
    (s.raise 0x13 (dirOrigin dir) 0 [(8, lg), (8, st), (8, lane)]).fault (if st = 5 then 0x03 else 0x02) (dirOrigin dir)
      (lgUnit dir lg) lane

/-- The link trains, and the raster-die copy of device time becomes valid: it keeps its value after bonbon mode (R35, R685). -/
def State.trainLink (s : State) (rep : StageReport) : State :=
  let mask := fun (dir lg : Nat) => (rep.lanes.find? fun e => e.1 == dir && e.2.1 == lg).elim 0 fun e => e.2.2
  let s := [0, 1].foldl (fun s dir => ((List.range 10).foldl (fun s lg => s.trainLane dir lg (mask dir lg)) s).markCtrl dir) s
  let s := if s.on fEVT_TSYNC_STATUS_TIME_VALID then s
    else s.timeLearnt rep.off
  s.degraded

/-- The first image of a kind that stage 6 refuses: HOST or RASTER not accepted, or RASTER records malformed (R682). -/
def State.badRaster (s : State) (slot : Nat) : Option ImgEnt :=
  match s.badImg slot fun e => e.kind == 2 || e.kind == 4 with
  | some e => some e
  | none => (s.imgOf slot 4 0).filter fun e => (s.rasterImage slot e).isNone

/-- The RASTER image is written to the raster die (R645, R682). -/
def State.loadRaster (s : State) (slot : Nat) : State :=
  match s.imgOf slot 4 0 with
  | none => s
  | some e => ((s.rasterImage slot e).getD []).foldl (fun s w => s.loadWord w.1 w.2) s

/-- Stage 6: the raster die (R676, R679, R685). -/
def State.stage6 (s : State) (rep : StageReport) : State :=
  if rep.hw then (s.stageStop 6 2 0).fault 0x18 0xE00 6 2
  else
    let slot := s.f fCLK_BOOT_SLOT
    match s.badRaster slot with
    | some e =>
      if s.boot.otherTried then s.recovery 6 e.idx
      else
        let s := s.stageStop 6 3 e.idx
        let s := s.putBit fCLK_BOOT_STAGES 2 false
        { s with boot := { s.boot with otherTried := true, running := s.boot.running ++ [3] } }
    | none =>
      let s := (s.lockBits [1, 3, 4, 12]).trainLink rep
      let (bad, s) := s.bootMarch rep (fun b => decide (96 ≤ b ∧ b < 256)) 255
      (s.loadRaster slot).stageEnd 6 (if bad then 2 else 0) 0

/-- Load the image of one directory entry in stage 7; a refused one leaves its cores stopped with zeroed memories (R679). SQA
keeps its program after bonbon mode (R685). -/
def State.loadImg (s : State) (slot : Nat) (e : ImgEnt) : State :=
  if e.kind = 3 then
    (if s.imgOk slot e then s.loadCp slot e else (s.loadMem (0x300 + e.target) [] []).setNoServe e.target true)
  else if e.kind = 5 ∧ s.imgOk slot e then
    ((s.seqOf slot e).getD []).foldl (fun s r => if r.1 = 64 ∧ s.boot.bonbonExit then s else s.loadSeq slot e.target r) s
  else s

/-- Is a CP or SEQ image refused? -/
def State.coreImgBad (s : State) (slot : Nat) (e : ImgEnt) : Bool :=
  (e.kind == 3 && !s.imgOk slot e) || (e.kind == 5 && (!s.imgOk slot e || (s.seqOf slot e).isNone))

/-- The board table is written to the lane pairs, the spares and DRV_PF, the EN bits last (R612, R677). -/
def State.loadBoard (s : State) : State :=
  let w := fun (o : Nat) => leNat (s.nvRead (0x8000 + o) 4)
  let s := s.loadWord fDRV_PF_PIN_EN.addr (w 4)
  let s := (List.range 272).foldl (fun s l =>
    let v := Machine.putBit (w (16 + 8 * l)) 31 (s.on (fLNK_CFG_EN l))
    (s.loadWord (fLNK_CFG_EN l).addr v).loadWord (fLNK_EQ_AMP l).addr (w (20 + 8 * l))) s
  let s := (List.range 16).foldl (fun s k => s.loadWord (fLNK_SPARE_PROT k).addr (w (2192 + 4 * k))) s
  (List.range 272).foldl (fun s l =>
    let was := s.on (fLNK_CFG_EN l)
    let now := bit (w (16 + 8 * l)) 31 == 1
    (s.setOn (fLNK_CFG_EN l) now).laneEn l was now) s

/-- Stage 7: cores and calibration (R676, R678); stage 8 then begins with the board table. -/
def State.stage7 (s : State) : State :=
  let slot := s.f fCLK_BOOT_SLOT
  let es := s.dirEnts slot
  let bad := es.find? fun e => s.coreImgBad slot e
  let s := es.foldl (fun s e => s.loadImg slot e) s
  let s := s.calLoad
  let s := allGroups.foldl (fun s g => s.measSeq g) (s.measCps.measImages slot)
  let s := { s with boot := { s.boot with autostart := s.slotNat slot 9 1 % 2 == 1 } }
  let s := match bad with
    | none => s.stageEnd 7 0 0
    | some e => s.stageEnd 7 3 e.idx
  let s := { s with boot := { s.boot with bonbonExit := false } }
  if s.on fNVS_STATUS_BT_VALID then s.loadBoard else s

/-- Every enabled lane pair of a chain is UP, SPARED or FAILED (R677). -/
def State.lanesDone (s : State) : Bool :=
  (List.range 256).all fun l => !s.on (fLNK_CFG_EN l) || s.lnSt l == 3 || s.lnSt l == 5 || s.lnSt l == 6

/-- The end of stage 8: DONE and autostart (R678, R684). -/
def State.bootDone (s : State) : State := (s.setF fCLK_BOOT_DONE 1).autoStart

/-- STAGE_COMPLETE (R676 to R685): the work of a running stage ends. -/
def execStageComplete (stage : Nat) (rep : StageReport) (s : State) : Host.Outcome State Fault Refusal :=
  if ¬ s.boot.running.contains stage then .next s
  else
    match stage with
    | 1 => .next (if rep.hw then s.stage1Fail 1 else if s.boot.pllRetry then s else s.stage1)
    | 2 => .next (s.stage2 rep)
    | 3 => .next (s.stage3 rep)
    | 4 => .next (s.stage4 rep)
    | 5 => .next (s.stage5 rep.hw)
    | 6 => .next (s.stage6 rep)
    | 7 => .next s.stage7
    | 8 =>
      if ¬ s.on fNVS_STATUS_BT_VALID then .next (s.stageStop 8 5 0).bootDone
      else if s.lanesDone then .next (s.stageEnd 8 0 0).bootDone
      else .next s
    | _ => .next s

/-- STAGE_TIMEOUT (R676, R677, R679): a running stage exceeds its limit. -/
def execStageTimeout (stage : Nat) (s : State) : Host.Outcome State Fault Refusal :=
  if ¬ s.boot.running.contains stage then .next s
  else if stage = 1 then .next (s.stage1Fail 1)
  else if stage = 8 then
    .next (if ¬ s.on fNVS_STATUS_BT_VALID then (s.stageStop 8 5 0).bootDone
      else if s.lanesDone then s else (s.stageStop 8 4 0).bootDone)
  else .next (s.stageStop stage 1 0)

/-- PLL_RETRY (R679): stage 1 tries again after 10 ms. -/
def execPllRetry (locked : Bool) (s : State) : Host.Outcome State Fault Refusal :=
  if ¬ (s.boot.running.contains 1 ∧ s.boot.pllRetry) then .next s
  else if locked then .next { s with boot := { s.boot with pllRetry := false } }.stage1
  else .next s

/-! ## Clock sources (R30, R31, R747) -/

/-- The lane pairs of a bundle, with its spare. -/
def bundleLanes (b : Nat) : List Nat := (List.range 16).map (fun i => 16 * b + i) ++ [256 + b]

/-- CLOCK_SOURCE_LOSS (R30, R31, R706, R747): source `src` of LOCK loses lock or presence. -/
def execClockSourceLoss (src : Nat) (s : State) : Host.Outcome State Fault Refusal :=
  if 13 ≤ src ∨ bit (s.f fCLK_LOCK_LOCK) src = 0 then .next s
  else
    let s := (s.putBit fCLK_LOCK_LOCK src false).setW1c fCLK_LOCK_LOSS src
    let s := s.raise 0x10 0xD02 0 [(16, src)]
    if src ≤ 1 then .next (s.fault 0x17 0xE00 src 0)
    else if src = 3 ∨ src = 4 then
      let both := bit (s.f fCLK_LOCK_LOCK) 3 == 0 && bit (s.f fCLK_LOCK_LOCK) 4 == 0
      .next (s.fault (if both then 0x05 else 0x04) 0xE00 src 0)
    else if src = 7 then execLinkLoss s
    else if 8 ≤ src ∧ src ≤ 11 then
      let ls := ((List.range 4).map fun i => 4 * (src - 8) + i).flatMap bundleLanes
      .next (ls.foldl (fun s l => if s.lnSt l = 0 ∨ s.lnSt l = 6 then s
        else (s.setF (fLNK_STATUS_BLOCK_LOCK l) 0).setLnSt l 1 1) s)
    else .next s

/-- CLOCK_SOURCE_RETURN (R31, R747). -/
def execClockSourceReturn (src : Nat) (s : State) : Host.Outcome State Fault Refusal :=
  .next (if 13 ≤ src then s else s.putBit fCLK_LOCK_LOCK src true)

/-! ## Bonbon mode (R459, R461, R685) -/

/-- Offsets of the registers that stay powered in bonbon mode: the window's, DRV_PF, SQA's, the GTO and DISCH outputs of SQA's
group, the lane pairs of the enabled BON chains (R459, R751). -/
def State.bonReach (s : State) (a : Nat) : Bool :=
  let g := s.coreGroup 0x440
  (0x02E01400 ≤ a && a < 0x02E01480) || a == fDRV_PF_PIN_EN.addr || (0x02804000 ≤ a && a < 0x02804100) ||
    a == fSQR_WSEL_CORE.addr || (0x02F00000 ≤ a && a < 0x02F80000) ||
    ((List.range 64).any fun p => (fDRV_GTO_EN p).addr == a && s.f (fDRV_GTO_GROUP p) == g) ||
    ((List.range 16).any fun d => (fDRV_DISCH_EN d).addr == a && s.f (fDRV_DISCH_GROUP d) == g) ||
    ((List.range 4).any fun i => s.on (fDRV_BON_CH_EN i) && (a - 0x02A00000) / 0x40 == s.f (fDRV_BON_CH_CHAIN i) &&
      decide (0x02A00000 ≤ a ∧ a < 0x02A04400))

/-- Offsets whose values outlive the powering down: those, and the facts of the start-up and of TERMINAL (R35, R685, R707). -/
def State.bonKeep (s : State) (a : Nat) : Bool :=
  s.bonReach a || a == fCLK_LOCK_LOCK.addr || a == fEVT_TSYNC_STATUS_TIME_VALID.addr

/-- Everything but the always-on parts is powered down (R459), the write cache having been flushed (R613). -/
def State.bonDown (s : State) : State :=
  let g := s.coreGroup 0x440
  let chains := ((List.range 4).filter fun i => s.on (fDRV_BON_CH_EN i)).map fun i => s.f (fDRV_BON_CH_CHAIN i)
  let t := { State.reset with
    pending := s.pending
    free := s.free
    outs := s.outs
    regs := s.regs.filter fun e => s.bonKeep (e.1 / 32)
    time := { s.time with syncSent := none }
    ev := { s.ev with rings := [] }
    flt := ⟨[], s.flt.fseq⟩
    nv := s.nvFlush.nvLose.nv
    sec := s.sec.fused
    boot := { State.reset.boot with porst := false }
    th := { State.reset.th with
      cores := s.th.cores.filter fun e => e.1 == 0x440
      imem := s.th.imem.filter fun e => e.1 / 65536 == 0x440
      dmem := s.th.dmem.filter fun e => e.1 / 65536 == 0x440
      wsel := s.th.wsel
      gto := s.th.gto.filter fun e => s.f (fDRV_GTO_GROUP e.1) == g }
    ch := { State.reset.ch with
      lanes := s.ch.lanes.filter fun e => chains.contains e.1
      seqs := s.ch.seqs.filter fun e => chains.contains (e.1 / 32) }
    drv := { State.reset.drv with
      rails := s.drv.rails
      pfailLow := s.drv.pfailLow
      vinLow := s.drv.vinLow
      tripTick := s.drv.tripTick
      discharged := s.drv.discharged
      bonMem := s.drv.bonMem
      bonUntil := s.drv.bonUntil }
    host := { State.reset.host with perst := s.host.perst } }
  let t := (t.setF fFLT_STATUS_TERMINAL (s.f fFLT_STATUS_TERMINAL)).setF fFLT_LOG_PTR_FSEQ s.flt.fseq
  (t.setF fCLK_BOOT_SLOT (s.f fCLK_BOOT_SLOT)).setF fNVS_ACT_ACTIVE (s.f fCLK_BOOT_SLOT)

/-- BON_STATE (R463). -/
def State.bonState (s : State) (active err : Nat) : State := s.raise 0x175 0x440 0 [(8, active), (8, err)]

/-- A write of ENTER = 1 (R459). -/
def State.bonEnter (s : State) : State :=
  if s.on fDRV_BON_CTRL_ACTIVE then s
  else if allGroups.any fun g => s.gState g != 0 then s.setF fDRV_BON_CTRL_ERR 1
  else if ¬ s.bonOk then s.setF fDRV_BON_CTRL_ERR 2
  else (((s.setF fDRV_BON_CTRL_ERR 0).setF fDRV_BON_CTRL_ACTIVE 1).bonState 1 0).bonDown

/-- A write of EXIT = 1 by the management port (R461, R685): stages 2 to 8 follow with BONBON set; RAILEN is held until now
(R751). -/
def State.bonExit (s : State) : State :=
  if ¬ s.on fDRV_BON_CTRL_ACTIVE then s
  else
    let s := (s.setF fDRV_BON_CTRL_ACTIVE 0).bonState 0 (s.f fDRV_BON_CTRL_ERR)
    let s := { s with drv := { s.drv with rails := [] }, boot := { s.boot with running := [2], bonbonExit := true } }
    let s := (s.setF fCLK_BOOT_BONBON 1).setF fCLK_BOOT_STAGES 1
    let s := (stageBlocks 1).foldl (fun s b => s.putBit fGEN_BLKRDY_RDY b true) s
    s.fuseRegs.measLc

/-! ## Image activation (R686) -/

/-- Cores that the SEQ images of a slot name. -/
def State.seqCores (s : State) (slot : Nat) : List Nat :=
  (s.dirEnts slot).flatMap fun e => if e.kind = 5 then ((s.seqOf slot e).getD []).map fun r => 0x400 + r.1 else []

/-- Digest of the image of a kind, if the slot has one. -/
def State.imgDigest (s : State) (slot kind : Nat) : Option (List Byte) := (s.imgOf slot kind 0).map fun e => e.digest

/-- Directory entry that activation refuses: its image, or core records that are malformed. -/
def State.actBad (s : State) (slot : Nat) : Option ImgEnt :=
  (s.dirEnts slot).find? fun e => !s.imgOk slot e || (e.kind == 5 && (s.seqOf slot e).isNone) ||
    (e.kind == 4 && (s.rasterImage slot e).isNone)

/-- GO of NVS_ACT, authorised (R686). -/
def State.activate_ (s : State) : State :=
  let slot := 1 - s.f fNVS_ACT_ACTIVE
  let live := s.on fNVS_ACT_MODE
  if s.boot.act.isSome ∨ s.on fNVS_XFER_CTRL_BUSY then
    (s.setF fNVS_ACT_RESULT 6).raise 0x1D1 0xE00 0 [(8, 6), (8, s.f fNVS_ACT_MODE), (8, s.f fNVS_ACT_SEL), (8, 0),
      (16, s.f fNVS_ACT_GRP_SEQDONE), (8, s.f fNVS_ACT_CPDONE)]
  else
    let s := ((s.setF fNVS_ACT_BUSY 1).setF fNVS_ACT_CPDONE 0).setF fNVS_ACT_GRP_SEQDONE 0
    if ¬ s.dirValid slot then s.actEnd 1 0
    else if ¬ s.firstOk slot then s.actEnd 2 0
    else
      match s.actBad slot with
      | some e => s.actEnd 2 e.idx
      | none =>
        if live ∧ (s.imgDigest slot 2 ≠ s.imgDigest (1 - slot) 2 ∨ s.imgDigest slot 4 ≠ s.imgDigest (1 - slot) 4) then s.actEnd 3 0
        else if live ∧ ¬ ((s.seqCores slot).all fun o => s.coreStopped o) then s.actEnd 4 0
        else
          let s := if live then
              ((s.dirEnts slot).filter fun e => e.kind == 5).foldl (fun s e =>
                ((s.seqOf slot e).getD []).foldl (fun s r => s.loadSeq slot e.target r) s) s
            else s
          let s := { s with boot := { s.boot with act := some ⟨slot, s.time.master, live, [], [], []⟩ } }
          s.nvSubmit ⟨6, 0, 251, []⟩

/-- The write set of the commit that the AT9840 issues for the swap of a group (R686, R687). -/
def State.swapWs (s : State) (slot g : Nat) : List WsWord :=
  let os := match s.imgOf slot 5 g with
    | none => []
    | some e => ((s.seqOf slot e).getD []).map fun (r : Nat × Nat) => r.1
  let set := fun (p : Nat → Bool) (k : Nat) => ((os.eraseDups.filter p).map fun i => 2 ^ (i - k)).sum
  [⟨(fSQR_SWAP_LO_NEW g).addr, set (fun i => decide (i < 32)) 0, 2 ^ 32 - 1⟩,
    ⟨(fSQR_SWAP_HI_NEW g).addr, set (fun i => decide (32 ≤ i ∧ i < 64)) 32, 2 ^ 32 - 1⟩,
    ⟨(fSQR_SWAP_CTL_SQA g).addr, if os.contains 64 then 2 ^ 31 else 0, 2 ^ 31⟩]

/-- The AT9840 issues the swap of a group. -/
def State.issueSwap (s : State) (slot g : Nat) : State :=
  let cs := (s.boot.cseq + 1) % 4096
  let s := { s with boot := { s.boot with cseq := cs } }
  { s with transit := s.transit ++ [⟨0xE00, cs, g, s.swapWs slot g, 0, 0, false⟩] }

/-- A command processor has its new firmware (R689): `waited` ticks its queues waited. -/
def State.cpSwapped (s : State) (cp waited : Nat) : State :=
  let s := s.putBit fNVS_ACT_CPDONE cp true
  (s.raise 0x1D3 (0x300 + cp) 0 [(8, 1), (24, 0), (32, waited)]).measCps

/-- Load the image of a command processor from the slot that is being activated. -/
def State.newFirmware (s : State) (slot cp : Nat) : State :=
  match s.imgOf slot 3 cp with
  | none => s
  | some e => s.loadCp slot e

/-- A command processor that is STOPPED, HALTED or FAULTED: it serves no queue. -/
def State.cpHalted (s : State) (cp : Nat) : Bool := smGet (fun _ => false) s.th.noServe cp

/-- Replace the activation in progress. -/
def State.setAct (s : State) (a : ActSt) : State := { s with boot := { s.boot with act := some a } }

/-- Steps 4 and 5: the increment of counter 251 is accepted (R686). -/
def State.actGo (s : State) : State :=
  let s := s.setF fNVS_ACT_SEL (s.nvCnt 251 % 2)
  match s.boot.act with
  | none => s
  | some a =>
    if ¬ a.live then s.actEnd 0 0
    else
      let cps := (List.range 8).filter fun c => (s.imgOf a.slot 3 c).isSome
      let gs := allGroups.filter fun g => (s.imgOf a.slot 5 g).isSome
      let now := cps.filter fun c => s.cpHalted c
      let s := now.foldl (fun s c => (s.newFirmware a.slot c).cpSwapped c 0) s
      let s := s.setAct { a with cps := cps.filter fun c => !s.cpHalted c, groups := gs }
      (gs.foldl (fun s g => s.issueSwap a.slot g) s).actDone

/-- RECORD_ACCEPT (R597, R686): the record accepted next enters the write cache; an accepted increment of counter 251 lets
the activation go on. -/
def execRecordAccept (s : State) : Host.Outcome State Fault Refusal :=
  let image := s.on fNVS_STATUS_READY && !s.on fNVS_STATUS_BUSY && (s.nvHead.elim false fun w => w.writer == 6)
  .next (if image then s.recordAccept.actGo else s.recordAccept)

/-- CP_QUIESCENT (R689): the command processor has no entry in progress and holds no lock or open transaction of its own. -/
def execCpQuiescent (cp : Nat) (s : State) : Host.Outcome State Fault Refusal :=
  match s.boot.act with
  | none => .next s
  | some a =>
    if ¬ a.cps.contains cp ∨ (s.entry cp).isSome ∨ (s.txnSlot (0x300 + cp)).isSome ∨ s.heldLocks (0x300 + cp) ≠ [] ∨
        s.on fDRV_PF_TRIPPED then .next s
    else if s.cpHalted cp then
      .next (((s.newFirmware a.slot cp).setAct { a with cps := a.cps.erase cp }).cpSwapped cp 0).actDone
    else .next (s.setAct { a with cps := a.cps.erase cp, copying := a.copying ++ [(cp, s.time.master)] })

/-- CP_SWAP (R689): the copy ends; registers and flags are zero, the return stack is empty, and entries are served again. -/
def execCpSwap (cp : Nat) (s : State) : Host.Outcome State Fault Refusal :=
  match s.boot.act with
  | none => .next s
  | some a =>
    match a.copying.find? fun x => x.1 == cp with
    | none => .next s
    | some (_, t) =>
      let o := 0x300 + cp
      let s := (s.newFirmware a.slot cp).setAct { a with copying := a.copying.filter fun x => x.1 != cp }
      let s := s.setCore o { (s.core o).idle with g := [], flags := 0, stack := [] }
      let s := if s.coreSt o = 1 ∨ s.coreSt o = 2 then s.setCoreSt o 0 else s
      .next ((s.cpSwapped cp (s.time.master - t)).wakeBanks).actDone

/-- ACTIVATION_TIMEOUT (R689): a swap is not made within 2^31 ticks of GO. -/
def execActivationTimeout (s : State) : Host.Outcome State Fault Refusal :=
  match s.boot.act with
  | none => .next s
  | some a =>
    if s.time.master < a.goTick + 2 ^ 31 ∨ (a.cps = [] ∧ a.groups = []) then .next s else .next (s.actEnd 5 0)

/-- PF_TRIP (R444, R445, R689): a trip while a firmware copy runs leaves that core stopped with zeroed memories. -/
def execPfTrip (pinLow vinLow : Bool) (s : State) : Host.Outcome State Fault Refusal :=
  let was := s.on fDRV_PF_TRIPPED
  let s := s.pfTrip pinLow vinLow
  match s.boot.act with
  | none => .next s
  | some a =>
    if was ∨ ¬ s.on fDRV_PF_TRIPPED then .next s
    else
      let s := a.copying.foldl (fun s x =>
        let o := 0x300 + x.1
        let s := ((s.loadMem o [] []).setNoServe x.1 true).setCoreSt o 0
        s.raise 0x1D3 o 0 [(8, 0), (24, 0), (32, s.time.master - x.2)]) s
      .next (s.setAct { a with cps := a.cps ++ a.copying.map (fun x => x.1), copying := [] })

end Sys2Proof.Machine
end

