-- ==== Sys2Proof/Machine/Bus.lean ====
section
/-!
DEFINITION. Register accesses (00, 17): which blocks answer (R265, R526, R676, R719, R733), what a read returns (R6, R9, R102,
R321, R721), critical writes (R567, R568), held fields (R8, R11), staging (R320), and what a write of each register does.
-/
namespace Sys2Proof.Machine

/-! ## Who may reach what -/

/-- Index in R718 of the block of a BAR0 offset. -/
def blockOf (a : Nat) : Option Nat :=
  if a < 0x00200000 then some (a / 0x100000)
  else if a < 0x00E00000 then some (1 + a / 0x200000)
  else if a < 0x01000000 then some 8
  else if a < 0x01400000 then some (1 + a / 0x200000)
  else if a < 0x01E00000 then none
  else if a < 0x03800000 then some (a / 0x200000 - 4)
  else none

/-- Is the offset reachable (R265, R676)? -/
def State.reach (s : State) (a : Nat) : Bool :=
  if s.on fDRV_BON_CTRL_ACTIVE then s.bonReach a
  else match blockOf a with
    | some b => bit (s.f fGEN_BLKRDY_RDY) b == 1
    | none => false

/-- Do the BARs of the requester answer (R526)? -/
def State.barOk (s : State) : Req → Bool
  | .pf0 => !s.host.d3pf0
  | .pf1 => !s.host.d3pf1
  | _ => true

/-- The owner a requester's staging belongs to (R278, R320, R327). -/
def State.reqOwner (s : State) : Req → Option Nat
  | .mp => some 0x200
  | .core o => some (s.owner o)
  | _ => none

/-- The permission bit a critical write needs (R567), none for any other write. -/
def State.critBit (s : State) (a v : Nat) : Option Nat :=
  if 0x00900000 ≤ a ∧ a < 0x00A00000 then (if coversProtected (a - 0x00900000) then some 0 else none)
  else if a = fNVS_REC_CTRL_GO.addr ∧ bit v 31 = 1 ∧ coversProtected (4 * s.f fNVS_REC_DST_ADDR) then some 0
  else if a = fNVS_XFER_CTRL_GO.addr ∧ bit v 31 = 1 ∧ (bitsOf v 26 24 = 1 ∨ bitsOf v 26 24 = 2) then some 0
  else if a = fNVS_ACT_GO.addr ∧ bit v 31 = 1 then some 1
  else if a = fSEC_LC_REQ_GO.addr ∧ bit v 31 = 1 then some 2
  else if a = fCPR_LOCK_BREAK_LOCK.addr then some 3
  else if a = fDRV_RAIL_OVR_ACT.addr then some 4
  else if a = fSEC_DBG_UNLOCK.addr ∧ bit v 31 = 1 then some 5
  else if allGroups.any fun g => a == (fDRV_MODE_TECH g).addr && bitsOf v 31 29 != s.tech g then some 6
  else none

/-- Judge a critical write (R568): whether it is carried out, and the state with the consequence of a denial. Issuer slot 64 is
the autostart entry's (R684). -/
def State.judge (s : State) (req : Req) (a k : Nat) : Bool × State :=
  match req with
  | .core o =>
    match s.inEntry o with
    | none => (false, s.err 3 a)
    | some e =>
      let deny := fun (n : Nat) => s.setEntry (o - 0x300) (some { e with denied := n })
      if ¬ e.crit then (false, deny 2)
      else if e.slot = 64 then (if k = 0 ∨ k = 2 ∨ k = 5 then (false, deny 3) else (true, s))
      else if bit (s.f (fSEC_SLOT_CFG_PERM e.slot)) k = 1 then (true, s)
      else (false, deny 3)
  | .mp => if s.f fSEC_LC_STATE = 0 then (true, s) else (false, s.err 3 a)
  | _ => (false, s.err 3 a)

/-! ## Fields of a word -/

/-- Write the live, held and W1C fields of a word that `skip` does not leave to the register's own rule (R6 to R8). A write to a
held field of a running block is refused whatever its value (R8). A 1 written to a reserved bit breaks R4 and is undefined under
R2: the model ignores it (DESIGN CHOICE, log entry 110). -/
def State.putFields (s : State) (a v : Nat) (fs : List FldRow) (stopped : Bool) (skip : FldRow → Bool) : State :=
  fs.foldl (fun s f =>
    let x := fldAt a f
    let n := bitsOf v (f.lo + f.w - 1) f.lo
    if skip f then s
    else
      match f.acc, f.cls with
      | .w1c, _ => s.setF x (s.afterClear x n)
      | .rw, .l => s.setF x n
      | .rw, .h => if stopped then s.setF x n else s.err 1 a
      | _, _ => s) s

/-- The S-class bits of a word that a requester's write stages: TECH, a critical field, only where the requester may change it (R426,
R568). -/
def State.stageMask (s : State) (req : Req) (a : Nat) (r : RegRow) : Nat :=
  let m := sMask r
  if r.base = regDRV_MODE.base ∧ ¬ (s.judge req a 6).1 then m % 2 ^ 29 else m

/-- The S-class fields of a word: staged in the requester's open transaction, or judged under R320. -/
def State.stageWord (s : State) (req : Req) (a v : Nat) (r : RegRow) : State :=
  let m := s.stageMask req a r
  if m = 0 then s
  else
    match (s.reqOwner req).bind fun o => s.txnSlot o with
    | some t => s.stage t a v m
    | none =>
      if r.fields.any fun f => f.acc == .rw && f.cls == .s && s.f (fldAt a f) != bitsOf v (f.lo + f.w - 1) f.lo then s.err 2 a
      else s

/-! ## What counts as stopped (R11) -/

/-- Entry `n` of the defect table counts as running (R157). -/
def State.defRunning (s : State) (n : Nat) : Bool :=
  let inWin := fun (t : State) (g : Nat) => decide (t.f (fDEF_WIN_FIRST g) ≤ n ∧ n ≤ t.f (fDEF_WIN_LAST g))
  allGroups.any fun g =>
    (s.gState g != 0 && s.on (fPIX_CFG_DEF_EN g) && inWin s g) ||
      (Grp.waitingCommits (s.grp g)).any fun c => wsHas c.ws (fDEF_WIN_FIRST g).addr && inWin (s.applyWs c.ws) g

/-- LNK_TEST of a lane pair counts as stopped (R407). -/
def State.testStopped (s : State) (l : Nat) : Bool :=
  if 256 ≤ l then !s.on (fLNK_SPARE_ACTIVE (l - 256))
  else match s.chainOwner l with
    | some g => s.gState g == 0
    | none => true

/-- The active slot array of a chain counts as stopped (R400). -/
def State.tableStopped (s : State) (c : Nat) : Bool :=
  match s.chainOwner c with
  | some g => s.gState g == 0
  | none => true

/-- DRV_RAIL of a group counts as stopped (R464). -/
def State.railStop (s : State) (g : Nat) : Bool := s.gState g == 0 && (s.rState g == 0 || s.rState g == 4)

/-- Every group in bistable mode is STOPPED (R464). -/
def State.bisStopped (s : State) : Bool := allGroups.all fun g => s.tech g != 3 || s.gState g == 0

/-! ## Windows -/

/-- Cores and word addresses that an offset of a memory window names: (data memory, core, word). Sequencers are seen through
SQR_WSEL (R302, R303), command processors directly (R304). -/
def State.window (s : State) (req : Req) (a : Nat) : Option (Bool × Nat × Nat) :=
  let sel := smGet (fun _ => 0) s.th.wsel (reqNum req)
  if 0x00480000 ≤ a ∧ a < 0x00500000 then some (true, 0x300 + (a - 0x00480000) / 0x10000, a % 0x10000 / 4)
  else if 0x00500000 ≤ a ∧ a < 0x00600000 then some (false, 0x300 + (a - 0x00500000) / 0x20000, a % 0x20000 / 4)
  else if 0x02900000 ≤ a ∧ a < 0x02910000 ∧ sel ≤ 64 then some (false, 0x400 + sel, a % 0x10000 / 4)
  else if 0x02910000 ≤ a ∧ a < 0x02914000 ∧ sel ≤ 64 then some (true, 0x400 + sel, a % 0x10000 / 4)
  else none

/-- A write through a memory window (R303): accepted only while the core counts as stopped; a bank that is OFF takes nothing. -/
def State.windowWrite (s : State) (a v : Nat) (w : Bool × Nat × Nat) : State :=
  let (data, o, i) := w
  let b := memBank data (memKey o i)
  if ¬ s.coreStopped o then s.err 1 a
  else if s.bankSt b = 2 then s
  else if data then (s.touchBank b).setDmem o i v
  else (s.touchBank b).setImem o i v

/-! ## Copies (R657) -/

/-- GO of MEM_COPY_CTRL: the copy starts, or is reported invalid. -/
def State.copyGo (s : State) (req : Req) : State :=
  let n := s.f fMEM_COPY_CTRL_LEN256M1 + 1
  let c : Copy := ⟨s.f fMEM_COPY_SRC_SPACE, s.f fMEM_COPY_SRC_LOC, s.f fMEM_COPY_DST_SPACE, s.f fMEM_COPY_DST_LOC, n, reqNum req,
    (s.reqOwner req).getD noOwner⟩
  let bad := fun (space loc : Nat) =>
    if space = 0 then decide (fsEnd < 256 * loc + 256 * n)
    else !(rasterOfs (4 * loc) && rasterOfs (4 * loc + 256 * n - 1))
  if s.on fMEM_COPY_STATUS_BUSY then s
  else if (c.sSpace = 1 ∧ c.dSpace = 1) ∨ bad c.sSpace c.sLoc ∨ bad c.dSpace c.dLoc then
    let s := ((s.setF fMEM_COPY_STATUS_STATUS 3).setF fMEM_COPY_STATUS_REASON 0).setF fMEM_COPY_STATUS_ROUNDS 0
    (s.setF fMEM_COPY_DONE_BYTES 0).raise 0x1C4 0xE00 0 [(8, 3), (8, 0), (16, 0), (32, 0)]
  else ({ s with mem := { s.mem with copy := some c } }).setF fMEM_COPY_STATUS_BUSY 1

/-! ## Writes, register by register. `i` is the index of the register, `put` writes its plain fields. -/

/-- Skip the fields at these lowest bits. -/
def atBits (l : List Nat) (f : FldRow) : Bool := l.contains f.lo

/-- Registers of the host die. -/
def State.writeHost (s : State) (req : Req) (a v i : Nat) (r : RegRow) : State :=
  let put := fun (s : State) (stopped : Bool) (l : List Nat) => s.putFields a v r.fields stopped (atBits l)
  if r.base = regCXL_Q_BASE_LO.base ∨ r.base = regCXL_Q_BASE_HI.base ∨ r.base = regCXL_Q_CFG.base then put s (s.qStopped i) []
  else if r.base = regCXL_Q_CTRL.base then s.queueCtrl i (bit v 0 == 1) (bit v 1 == 1)
  else if r.base = regCXL_Q_PTR.base then s.doorbell i (v % 65536)
  else if r.base = regCPR_CTRL.base then (put s true []).coreCtrl (0x300 + i) (bit v 0 == 1) (bit v 1 == 1)
  else if r.base = regCPR_MBOX.base then (put s true []).occur (0x300 + i) 7
  else if r.base = regCPR_MP_OP.base then (if req = .mp then s.mpOp v else s)
  else if r.base = regCPR_LOCK_BREAK.base then s.lockBreak (v % 1024)
  else if r.base = regSEC_LC_REQ.base then
    let s := put s true []
    if bit v 31 = 1 then s.lcGo else s
  else if r.base = regSEC_KL_CTRL.base then (if bit v 31 = 1 then s.keyGo else s)
  else if r.base = regSEC_DBG.base then (if bit v 31 = 1 then s.dbgUnlock else s)
  else if r.base = regNVS_REC_CTRL.base then
    let s := put s true []
    if bit v 31 = 1 then s.recJob else s
  else if r.base = regNVS_XFER_CTRL.base then
    let s := put s true []
    if bit v 31 = 1 then s.xferGo (reqNum req) else s
  else if r.base = regNVS_CNT_INC.base then s.cntInc (v % 256)
  else if r.base = regNVS_ACT.base then
    let s := put s true []
    if bit v 31 = 1 then s.activate_ else s
  else if r.base = regFST_STRUDEL_BASE.base then put s s.strudelStopped []
  else if r.base = regFST_STRUDEL_CELLS.base ∨ r.base = regFST_STRUDEL_DEV.base then s.strudelWrite a (BitVec.ofNat 32 v)
  else if r.base = regCDC_CFG.base then (put s s.cdcStopped []).runJobs
  else if r.base = regCDC_RING_BASE.base then put s s.cdcStopped []
  else if r.base = regCDC_RING_PTR.base then s.submitJobs (reqNum req) (v % 65536)
  else if r.base = regCDC_STATUS.base then s.releaseEncoders (v / 65536)
  else if r.base = regDMH_TC_CFG.base then (put s true []).setF fDMS_TC_CFG_HALF_EN (v % 2)
  else if r.base = regARB_APPLY.base then (if bit v 31 = 1 then s.arbApply else s)
  else if r.base = regMEM_BANK.base then (put s true [30]).bankRequest i (bitsOf v 31 30)
  else if r.base = regMEM_MARCH_CTRL.base then
    let s := put s true []
    let s := if bit v 30 = 1 then s.marchAbort else s
    if bit v 31 = 1 then s.marchGo else s
  else if r.base = regMEM_COPY_CTRL.base then
    let s := put s true []
    if bit v 31 = 1 then s.copyGo req else s
  else put s true []

/-- Registers of the raster die: timing, panes, pixels, cores, lanes, slots. -/
def State.writeRaster (s : State) (req : Req) (a v i : Nat) (r : RegRow) : State :=
  let put := fun (s : State) (stopped : Bool) (l : List Nat) => s.putFields a v r.fields stopped (atBits l)
  if r.base = regDMS_TC_CFG.base then (put s true []).setF fDMH_TC_CFG_HALF_EN (v % 2)
  else if r.base = regTMG_CTRL.base then (put s (s.gState i == 0) [0]).writeRun i (bit v 0 == 1)
  else if r.base = regTMG_VLATCH.base ∨ r.base = regPIX_LB.base ∨ r.base = regLNK_GRP.base then put s (s.gState i == 0) []
  else if r.base = regPAN_SR_CTRL.base then s.writeSleep (bit v 0 == 1)
  else if r.base = regPANE0.base then
    let same := s.f (fPANE_GROUP i) == bitsOf v ((fPANE_GROUP i).lo + (fPANE_GROUP i).w - 1) (fPANE_GROUP i).lo
    let was := s.f (fPANE_GROUP i)
    let s := put s (!s.on (fPANE_EN i)) (if same then [(fPANE_GROUP i).lo] else [])
    if s.f (fPANE_GROUP i) = was then s else s.checkPane i
  else if r.base = regPIX_TLD_CTRL.base then s.writeTldCtrl (reqNum req) v
  else if r.base = regDEFE0.base ∨ r.base = regDEFE1.base ∨ r.base = regDEFE2.base ∨ r.base = regDEFE3.base then
    if s.defRunning i then put s false []
    else put { s with pix := { s.pix with badDefects := smSet (fun _ => false) s.pix.badDefects i false } } true []
  else if r.base = regSQR_CTRL.base then (put s true []).coreCtrl (0x400 + i) (bit v 0 == 1) (bit v 1 == 1)
  else if r.base = regSQR_CFG.base then put s (s.coreStopped (0x400 + i)) []
  else if r.base = regSQR_MBOX.base then (put s true []).occur (0x400 + i) 7
  else if r.base = regSQR_WSEL.base then
    { s with th := { s.th with wsel := smSet (fun _ => 0) s.th.wsel (reqNum req) (v % 128) } }
  else if r.base = regLNK_CFG.base then
    let was := s.on (fLNK_CFG_EN i)
    let s := put s (s.lnSt i == 0) []
    s.laneEn i was (bit v 31 == 1)
  else if r.base = regLNK_EQ.base then put s (s.lnSt i == 0) []
  else if r.base = regLNK_TEST.base then
    ((put (s.idleTo i (s.txNow i)) (s.testStopped i) []).laneTest i).checkLock i
  else if r.base = regLNK_INJ.base then
    (put s true []).armInj i (bit v 31 == 1)
  else if r.base = regLNK_CMD.base then s.lnkCmd i v
  else if r.base = regLNK_UPQ_CTRL.base then
    let s := put s true []
    if bit v 31 = 1 then s.upqPop i false else s
  else if r.base = regLNK_SPARE.base then
    let active := s.on (fLNK_SPARE_ACTIVE i)
    let s := put s (!active) (if active then [16] else [])
    s.spareCmd i (bit v 31) (bit v 30) (s.f (fLNK_SPARE_CHAIN i))
  else if r.base = regSLTA0.base ∨ r.base = regSLTA1.base then
    let ok := s.tableStopped i
    let s := put s ok []
    if ok then r.fields.foldl (fun s f =>
      s.setF (fldAt (a + 0x20000) f) (bitsOf v (f.lo + f.w - 1) f.lo)) s else s
  else put s true []

/-- Registers of the panel drive, the bistable engine, calibration, events and faults. -/
def State.writeDrive (s : State) (req : Req) (a v i : Nat) (r : RegRow) : State :=
  let put := fun (s : State) (stopped : Bool) (l : List Nat) => s.putFields a v r.fields stopped (atBits l)
  let g2 := bitsOf v 30 27
  if r.base = regDRV_CTRL.base then s.writePwr i (bit v 0 == 1)
  else if r.base = regDRV_COM.base then put s (s.gState i == 0) []
  else if r.base = regDRV_GTO.base then put s (s.gState (s.f (fDRV_GTO_GROUP i)) == 0 && s.gState g2 == 0) []
  else if r.base = regDRV_RAIL.base then put s (s.railStop (s.f (fDRV_RAIL_GROUP i)) && s.railStop g2) []
  else if r.base = regDRV_DISCH.base then put s (s.gState (s.f (fDRV_DISCH_GROUP i)) == 0 && s.gState g2 == 0) []
  else if r.base = regDRV_RAIL_OVR.base then s.railForce (v % 64) (bitsOf v 9 8)
  else if r.base = regDRV_PF.base then
    let s := put s true [31]
    if bit v 31 = 1 then s.clearTripped else s
  else if r.base = regDRV_BON_CTRL.base then
    let s := put s true []
    let s := if bit v 31 = 1 then s.bonEnter else s
    let s := if bit v 30 = 1 ∧ req = .mp then s.bonExit else s
    if bit v 29 = 1 then s.bonSend else s
  else if r.base = regDRV_BON_CFG.base ∨ r.base = regDRV_BON_CH.base then put s (!s.on fDRV_BON_CTRL_ACTIVE) []
  else if r.base = regBIS_REQ0.base then
    (s.setBisReg (fBIS_REQ0_X0 i) req (v % 65536)).setBisReg (fBIS_REQ0_Y0 i) req (v / 65536)
  else if r.base = regBIS_REQ1.base then
    (s.setBisReg (fBIS_REQ1_WM1 i) req (v % 65536)).setBisReg (fBIS_REQ1_HM1 i) req (v / 65536)
  else if r.base = regBIS_REQ2.base then s.bisReq2 req i v
  else if r.base = regBIS_JBASE.base then (if s.bisStopped then (put s true []).journalScan else put s false [])
  else if r.base = regCAL_VAL_TS.base ∨ r.base = regCAL_VAL_ADC.base ∨ r.base = regCAL_VAL_LANE.base ∨
      r.base = regCAL_VAL_DCC.base then s.calWrite ((a - 0x03200000) / 16) v
  else if r.base = regCAL_CMD.base then s.calCmd v
  else if r.base = regCAL_SNS_CFG.base then (put s (!s.on (fCAL_SNS_CFG_FOLD i)) [31]).foldWrite i (bit v 31 == 1)
  else if r.base = regCAL_PLANE_A.base ∨ r.base = regCAL_PLANE_B.base then put s (!s.on (fCAL_SNS_CFG_FOLD i)) []
  else if r.base = regEVR_BASE_LO.base ∨ r.base = regEVR_BASE_HI.base then put s (!s.on (fEVR_CFG_EN i)) []
  else if r.base = regEVR_CFG.base then
    let was := s.on (fEVR_CFG_EN i)
    let s := put s (!was) []
    if bit v 31 = 1 ∧ ¬ was then s.ringOn i else s
  else if r.base = regEVR_PTR.base then s.writeHead i (v / 65536)
  else put s true []

/-- Index of a register within its set. -/
def rowIndex (r : RegRow) (a : Nat) : Nat := if r.s1 = 0 then 0 else min ((a - r.base) / r.s1) (r.n1 - 1)

/-- A write that reaches its register. -/
def State.regWrite (s : State) (req : Req) (a v : Nat) (r : RegRow) : State :=
  let i := rowIndex r a
  let s := s.stageWord req a v r
  if a < 0x01E00000 then s.writeHost req a v i r
  else if a < 0x02E00000 then s.writeRaster req a v i r
  else s.writeDrive req a v i r

/-- A write to what the offset names: a window, the bonbon memory, a register, nothing (R719). -/
def State.placeWrite (s : State) (req : Req) (a v : Nat) : State :=
  if 0x00900000 ≤ a ∧ a < 0x00A00000 then s.nvWindow (a - 0x00900000) v
  else if 0x02F00000 ≤ a ∧ a < 0x02F80000 then
    { s with drv := { s.drv with bonMem := putBytes (fun _ => 0#8) s.drv.bonMem (a - 0x02F00000) (leBytes 4 v) } }
  else match s.window req a with
    | some w => s.windowWrite a v w
    | none =>
      match regRowAt a with
      | none => s
      | some r => s.regWrite req a v r

/-- Does a write of BAR0 by a requester reach its register (R526, R265, R676, R733)? -/
def State.takesWrite (s : State) (req : Req) (a : Nat) : Bool :=
  s.barOk req && s.reach a && !(req == .pf1 && (!s.on fGEN_CTRL_PF1_WEN || a == fGEN_CTRL_PF1_WEN.addr))

/-- A 32-bit register write by a requester: BAR0 offsets, and the doorbells of BAR2 of PF1 at 0x1000_0000 + 0x800 × q (R341). -/
def State.busWrite (s : State) (req : Req) (a v : Nat) : State :=
  let v := v % 2 ^ 32
  if ¬ s.barOk req then s
  else if 0x10000000 ≤ a then
    (if req = .pf1 ∧ s.reach 0x00300000 ∧ (a - 0x10000000) % 0x800 = 0 ∧ (a - 0x10000000) / 0x800 < 512 then
      s.doorbell ((a - 0x10000000) / 0x800) (v % 65536) else s)
  else if ¬ s.reach a then s
  else if req = .pf1 ∧ (¬ s.on fGEN_CTRL_PF1_WEN ∨ a = fGEN_CTRL_PF1_WEN.addr) then s.setW1c fGEN_STATUS_DENIED 0
  else
    match s.critBit a v with
    | none => (s.placeWrite req a v).wakeBanks
    | some k => match s.judge req a k with
      | (true, s) => (s.placeWrite req a v).wakeBanks
      | (false, s) => s

/-! ## Reads -/

/-- A word of a register from the store, WO fields reading zero. -/
def State.plainRead (s : State) (a : Nat) (r : RegRow) : Nat := s.wordOf a r fun f => f.acc != .wo

/-- A read of an LO register: its upper word is latched for the requester (R721). -/
def State.readLo (s : State) (req : Req) (a v : Nat) : Nat × State := (v % 2 ^ 32, s.latchHi req (a + 4) (v / 2 ^ 32))

/-- PC_W and RSD of a core's STATUS, in their places (R293, R304). -/
def State.coreStatus (s : State) (o : Nat) : Nat := (s.core o).pc / 4 % 2 ^ 16 + (s.core o).stack.length * 2 ^ 20

/-- The mirrors of GEN_STATUS (R734). -/
def State.genStatus (s : State) : Nat :=
  s.f fGEN_STATUS_DENIED + 2 ^ 25 * s.f fDRV_PF_TRIPPED + 2 ^ 26 * s.f fFLT_STATUS_TERMINAL + 2 ^ 27 * s.f fFLT_STATUS_DEGRADED +
    2 ^ 28 * s.f fPAN_SR_STATUS_ACTIVE + 2 ^ 29 * s.f fEVT_TSYNC_STATUS_TIME_VALID + 2 ^ 30 * s.f fNVS_STATUS_READY +
    2 ^ 31 * s.f fCLK_BOOT_DONE

/-- HEAD and TAIL of a ring of 2^`log2` places: the bits above read as zero (R244, R339). -/
def ringPtrs (p log2 : Nat) : Nat := p / 65536 % 2 ^ log2 * 65536 + p % 65536 % 2 ^ log2

/-- TEMP_STALE (R184): the temperature source is the panel's sensor, which has no valid reading. -/
def State.tempStale (s : State) (g : Nat) : Bool := s.on (fPIX_OD_TEMP_SRC g) && !s.on (fDRV_TEMP_VALID g)

/-- CHAIN of LNK_SPARE as it reads: while ACTIVE, the chain carried (R421). -/
def State.spareRead (s : State) (k p : Nat) : Nat :=
  if s.on (fLNK_SPARE_ACTIVE k) then p - s.f (fLNK_SPARE_CHAIN k) * 2 ^ 16 + (s.ln (256 + k)).swChain * 2 ^ 16 else p

/-- A word of the public identity key (R559). -/
def State.idWord (s : State) (o : Nat) : Nat := leNat ((List.range 4).map fun k => s.sec.idPub.getD (o + k) 0#8)

/-- READY of CAL_SNS_STATUS (R518). -/
def State.foldReadyCount (s : State) (g : Nat) : Nat := min 65535 (s.foldReady g).length

/-- A read of a register. -/
def State.regRead (s : State) (req : Req) (a : Nat) (r : RegRow) : Nat × State :=
  let i := rowIndex r a
  let p := s.plainRead a r
  if r.base = regGEN_ROMVER.base then (Config.romVer % 2 ^ 32, s)
  else if r.base = regGEN_STATUS.base then (s.genStatus, s)
  else if r.base = regEVT_TIME_LO.base then s.readLo req a s.time.master
  else if r.base = regTMG_FRAME_LO.base then s.readLo req a ((s.grp i).frame % 2 ^ 48)
  else if r.base = regTMG_LATCH_LO.base then s.readLo req a ((s.grp i).latchTick % 2 ^ 64)
  else if r.base = regCAL_TS_LO.base then s.readLo req a (p + 2 ^ 32 * s.f (fCAL_TS_HI_TS_HI i))
  else if r.base = regSEC_SLOT_CTR_LO.base then s.readLo req a (s.lastCtr i)
  else if r.base = regNVS_CNT_LO.base then s.readLo req a (s.nvCnt i % 2 ^ 64)
  else if r.base = regEVT_TIME_HI.base ∨ r.base = regTMG_FRAME_HI.base ∨ r.base = regTMG_LATCH_HI.base ∨
      r.base = regCAL_TS_HI.base ∨ r.base = regSEC_SLOT_CTR_HI.base ∨ r.base = regNVS_CNT_HI.base then (s.latched req a, s)
  else if r.base = regTMG_BEAM.base then
    match s.beam i s.time.raster with
    | (y, x) => (x % 65536 + 65536 * y, s)
  else if r.base = regTMG_NEXT_CUT.base then (s.ncutLo i, s)
  else if r.base = regCPR_STATUS.base then (p + s.coreStatus (0x300 + i), s)
  else if r.base = regSQR_STATUS.base then (p + s.coreStatus (0x400 + i), s)
  else if r.base = regSQR_WSEL.base then (smGet (fun _ => 0) s.th.wsel (reqNum req), s)
  else if r.base = regCPR_MP_OP.base ∨ r.base = regCPR_MP_RESULT.base then (if req = .mp then p else 0, s)
  else if r.base = regLNK_UPQ_HDR.base then (s.upqHdr i, s)
  else if r.base = regLNK_UPQ_DATA.base then s.upqData i
  else if r.base = regMEM_NOUGAT.base then (s.f fMEM_NOUGAT_QRESETS * 2 ^ 24 + s.poolFree, s)
  else if r.base = regDRV_STATUS.base then (p + b2n (s.groupDisch i) * 2 ^ 20, s)
  else if r.base = regBIS_REQ0.base then (s.bisReg (fBIS_REQ0_X0 i) req + 65536 * s.bisReg (fBIS_REQ0_Y0 i) req, s)
  else if r.base = regBIS_REQ1.base then (s.bisReg (fBIS_REQ1_WM1 i) req + 65536 * s.bisReg (fBIS_REQ1_HM1 i) req, s)
  else if r.base = regBIS_REQ2.base then (p + s.bisReg (fBIS_REQ2_RES i) req * 2 ^ 28, s)
  else if r.base = regPIX_STATUS.base then (p + b2n (s.tempStale i) * 2 ^ 30, s)
  else if r.base = regCDC_RING_PTR.base then (ringPtrs p s.cdcLog2, s)
  else if r.base = regCXL_Q_PTR.base then (ringPtrs p (s.qLog2 i), s)
  else if r.base = regLNK_SPARE.base then (s.spareRead i p, s)
  else if r.base = regCAL_SNS_STATUS.base then (p + s.foldReadyCount i, s)
  else (p, s)

/-- A read of the fault log: word `w` of slot `i` (R704, R717). -/
def State.logWord (s : State) (i w : Nat) : Nat :=
  leNat (((fltBytes (smGet (fun _ => noRec) s.flt.log i)).drop (4 * w)).take 4)

/-- A read of what the offset names. The views of pane and slot shadows overlay the values in effect with the commits that have
arrived (R102, R321, R400). -/
def State.placeRead (s : State) (req : Req) (a : Nat) : Nat × State :=
  if 0x00900000 ≤ a ∧ a < 0x00A00000 then
    (if s.on fNVS_STATUS_READY then leNat (s.nvRead (a - 0x00900000) 4) else 0, s)
  else if 0x03601000 ≤ a ∧ a < 0x03603000 then (s.logWord ((a - 0x03601000) / 32) (a % 32 / 4), s)
  else if 0x02F00000 ≤ a ∧ a < 0x02F80000 then
    (leNat ((List.range 4).map fun k => smGet (fun _ => 0#8) s.drv.bonMem (a - 0x02F00000 + k)), s)
  else if 0x00600800 ≤ a ∧ a < 0x00600860 then (s.idWord (a - 0x00600800), s)
  else if 0x02310000 ≤ a ∧ a < 0x023B0000 then
    match regRowAt (a - 0x00100000) with
    | none => (0, s)
    | some r => (s.withPending.plainRead (a - 0x00100000) r, s)
  else if (List.range 16).any fun g => 0x02E00080 + 0x100 * g ≤ a && a < 0x02E00100 + 0x100 * g then
    (smGet (fun _ => 0) s.drv.dcb (32 * ((a - 0x02E00000) / 0x100) + (a % 0x100 - 0x80) / 4), s)
  else
    match s.window req a with
    | some (data, o, i) =>
      let b := memBank data (memKey o i)
      (if s.bankSt b = 2 then 0 else if data then s.dmem o i else s.imem o i, s.touchBank b)
    | none =>
      match regRowAt a with
      | none => (0, s)
      | some r =>
        if r.base = regSLTS0.base ∨ r.base = regSLTS1.base then (s.withPending.plainRead a r, s)
        else s.regRead req a r

/-- A 32-bit register read by a requester. -/
def State.busRead (s : State) (req : Req) (a : Nat) : Nat × State :=
  if ¬ s.barOk req ∨ ¬ s.reach a then (0, s) else s.placeRead req a

end Sys2Proof.Machine
end

