-- ==== Sys2Proof/Machine/RegRows.lean ====
section
/-!
DEFINITION. The commands that are an access to one register: each is a register write or read of Bus at the address and with the
word its row names, and does nothing when its word or index is not the row's.
-/
namespace Sys2Proof.Machine

/-- A write of a field's word that is the row's own. -/
def State.rowWrite (s : State) (ok : Bool) (req : Req) (f : Fld) (data : Word) : Host.Outcome State Fault Refusal :=
  if ok then .next (s.busWrite req f.addr data.toNat) else .next s

/-- A read of a register by a requester whose BARs answer (R526): the data goes to it. -/
def State.rowRead (s : State) (ok : Bool) (req : Req) (a : Nat) : Host.Outcome State Fault Refusal :=
  if ok ∧ s.barOk req then
    match s.busRead req a with
    | (v, s) => .next (s.out (.regData req a (BitVec.ofNat 32 v)))
  else .next s

/-- Does bit `i` of a word stand? -/
def wbit (w : Word) (i : Nat) : Bool := w.getLsbD i

/-- REG_WRITE (R3, R8, R320, R567). -/
def execRegWrite (req : Req) (addr : Nat) (data : Word) (s : State) : Host.Outcome State Fault Refusal :=
  if addr % 4 ≠ 0 then .fault .unalignedAccess else .next (s.busWrite req addr data.toNat)

/-- A 64-bit write to an aligned register pair: two 32-bit writes, the lower address first (R3). They enter the queue together; a
64-bit read of a pair is the read of its lower word and then of its upper one. -/
def State.write64 (s : State) (req : Req) (addr : Nat) (data : BitVec 64) : State :=
  { s with pending := s.pending ++ [.regWrite req addr (data.extractLsb' 0 32), .regWrite req (addr + 4) (data.extractLsb' 32 32)] }

/-! ## Latched reads (R37, R89, R92, R506, R591, R629), the upstream queue (R419, R420) -/

def execEvtTimeLoRead (req : Req) (s : State) : Host.Outcome State Fault Refusal :=
  s.rowRead true req fEVT_TIME_LO_TIME_LO.addr

def execTmgFrameLoRead (req : Req) (g : Nat) (s : State) : Host.Outcome State Fault Refusal :=
  s.rowRead (decide (g < 16)) req (fTMG_FRAME_LO_FRAME_LO g).addr

def execTmgLatchLoRead (req : Req) (g : Nat) (s : State) : Host.Outcome State Fault Refusal :=
  s.rowRead (decide (g < 16)) req (fTMG_LATCH_LO_LATCH_LO g).addr

def execCalTsLoRead (req : Req) (item : Nat) (s : State) : Host.Outcome State Fault Refusal :=
  s.rowRead (decide (item < 360)) req (fCAL_TS_LO_TS_LO item).addr

def execSecSlotCtrLoRead (req : Req) (n : Nat) (s : State) : Host.Outcome State Fault Refusal :=
  s.rowRead (decide (n < 64)) req (fSEC_SLOT_CTR_LO_CTR_LO n).addr

def execNvsCntLoRead (req : Req) (n : Nat) (s : State) : Host.Outcome State Fault Refusal :=
  s.rowRead (decide (n < 256)) req (fNVS_CNT_LO_VAL_LO n).addr

def execUpqDataRead (req : Req) (g : Nat) (s : State) : Host.Outcome State Fault Refusal :=
  s.rowRead (decide (g < 16)) req (fLNK_UPQ_DATA_DATA g).addr

/-- UPQ_POP; `mism`: the queue's pointer copies differ at the pop, which resets it (R644). -/
def execUpqPop (req : Req) (g : Nat) (data : Word) (mism : Bool) (s : State) : Host.Outcome State Fault Refusal :=
  let a := (fLNK_UPQ_CTRL_POP g).addr
  if 16 ≤ g ∨ ¬ wbit data 31 then .next s
  else if mism ∧ s.takesWrite req a then .next ((s.busWrite req a (data.toNat % 2 ^ 31)).uqReset g)
  else .next (s.busWrite req a data.toNat)

/-! ## Raster groups and panes (R54, R55, R122, R126), tables (R145, R146), codec (R206, R217, R224) -/

def execGroupRun (req : Req) (g : Nat) (data : Word) (s : State) : Host.Outcome State Fault Refusal :=
  s.rowWrite (decide (g < 16) && wbit data 0 && s.gState g == 0) req (fTMG_CTRL_RUN g) data

def execGroupStop (req : Req) (g : Nat) (data : Word) (s : State) : Host.Outcome State Fault Refusal :=
  s.rowWrite (decide (g < 16) && !wbit data 0 && (s.gState g == 1 || s.gState g == 2)) req (fTMG_CTRL_RUN g) data

def execGroupResume (req : Req) (g : Nat) (data : Word) (s : State) : Host.Outcome State Fault Refusal :=
  s.rowWrite (decide (g < 16) && wbit data 0 && s.gState g == 3) req (fTMG_CTRL_RUN g) data

def execSrSleepSet (req : Req) (data : Word) (s : State) : Host.Outcome State Fault Refusal :=
  s.rowWrite (wbit data 0) req fPAN_SR_CTRL_SLEEP data

def execSrSleepClear (req : Req) (data : Word) (s : State) : Host.Outcome State Fault Refusal :=
  s.rowWrite (!wbit data 0) req fPAN_SR_CTRL_SLEEP data

def execTableLoad (req : Req) (data : Word) (s : State) : Host.Outcome State Fault Refusal :=
  s.rowWrite (wbit data 31 && !wbit data 30) req fPIX_TLD_CTRL_GO data

def execTableReadback (req : Req) (data : Word) (s : State) : Host.Outcome State Fault Refusal :=
  s.rowWrite (wbit data 31 && wbit data 30) req fPIX_TLD_CTRL_GO data

def execStrudelConfigWrite (req : Req) (addr : Nat) (data : Word) (s : State) : Host.Outcome State Fault Refusal :=
  s.rowWrite (addr == fFST_STRUDEL_CELLS_CELLS.addr || addr == fFST_STRUDEL_DEV_DEV_FIRST.addr) req ⟨addr, 0, 32⟩ data

def execCodecSubmit (req : Req) (data : Word) (s : State) : Host.Outcome State Fault Refusal :=
  s.rowWrite true req fCDC_RING_PTR_TAIL data

def execEncoderRelease (req : Req) (data : Word) (s : State) : Host.Outcome State Fault Refusal :=
  s.rowWrite (decide (65536 ≤ data.toNat)) req fCDC_STATUS_QUAR data

/-! ## Cores and queues (R287, R299, R303, R307 to R310), the management port (R327, R330) -/

def execCoreRun (req : Req) (core : Nat) (data : Word) (s : State) : Host.Outcome State Fault Refusal :=
  s.rowWrite ((isTR core || isTC core) && wbit data 0) req
    (if isTR core then fSQR_CTRL_RUN (core - 0x400) else fCPR_CTRL_RUN (core - 0x300)) data

def execCoreStop (req : Req) (core : Nat) (data : Word) (s : State) : Host.Outcome State Fault Refusal :=
  s.rowWrite ((isTR core || isTC core) && wbit data 1) req
    (if isTR core then fSQR_CTRL_STOP (core - 0x400) else fCPR_CTRL_STOP (core - 0x300)) data

def execMboxWrite (req : Req) (core : Nat) (data : Word) (s : State) : Host.Outcome State Fault Refusal :=
  s.rowWrite (isTR core || isTC core) req (fcMbox core) data

def execCoreMemWindowWrite (req : Req) (addr : Nat) (data : Word) (s : State) : Host.Outcome State Fault Refusal :=
  s.rowWrite ((s.window req addr).isSome && addr % 4 == 0) req ⟨addr, 0, 32⟩ data

/-- DOORBELL: TAIL through the BAR2 page of the queue, or through CXL_Q_PTR. -/
def execDoorbell (req : Req) (q : Nat) (bar2 : Bool) (data : Word) (s : State) : Host.Outcome State Fault Refusal :=
  s.rowWrite (decide (q < 512)) req (if bar2 then fCXL_Q_DB_TAIL q else fCXL_Q_PTR_TAIL q) data

def execQueueRun (req : Req) (q : Nat) (data : Word) (s : State) : Host.Outcome State Fault Refusal :=
  s.rowWrite (decide (q < 512) && wbit data 0) req (fCXL_Q_CTRL_RUN q) data

def execQueueStop (req : Req) (q : Nat) (data : Word) (s : State) : Host.Outcome State Fault Refusal :=
  s.rowWrite (decide (q < 512) && !wbit data 0) req (fCXL_Q_CTRL_RUN q) data

def execCxlQReset (req : Req) (q : Nat) (data : Word) (s : State) : Host.Outcome State Fault Refusal :=
  s.rowWrite (decide (q < 512) && wbit data 1) req (fCXL_Q_CTRL_RESET q) data

/-- The management port's operations: OP of CPR_MP_OP. -/
def execMpTbegin (data : Word) (s : State) : Host.Outcome State Fault Refusal :=
  s.rowWrite (data.toNat / 2 ^ 28 == 1) .mp fCPR_MP_OP_OP data

def execMpCommit (data : Word) (s : State) : Host.Outcome State Fault Refusal :=
  s.rowWrite (data.toNat / 2 ^ 28 == 2) .mp fCPR_MP_OP_OP data

def execMpAbort (data : Word) (s : State) : Host.Outcome State Fault Refusal :=
  s.rowWrite (data.toNat / 2 ^ 28 == 3) .mp fCPR_MP_OP_OP data

def execMpLock (data : Word) (s : State) : Host.Outcome State Fault Refusal :=
  s.rowWrite (data.toNat / 2 ^ 28 == 4) .mp fCPR_MP_OP_OP data

def execMpUnlock (data : Word) (s : State) : Host.Outcome State Fault Refusal :=
  s.rowWrite (data.toNat / 2 ^ 28 == 5) .mp fCPR_MP_OP_OP data

def execLockBreak (req : Req) (data : Word) (s : State) : Host.Outcome State Fault Refusal :=
  s.rowWrite true req fCPR_LOCK_BREAK_LOCK data

/-! ## Lane pairs (R385, R387, R389, R396, R397, R399) -/

def execLaneEnable (req : Req) (l : Nat) (data : Word) (s : State) : Host.Outcome State Fault Refusal :=
  s.rowWrite (decide (l < 272) && wbit data 31) req (fLNK_CFG_EN l) data

def execReenumerate (req : Req) (l : Nat) (data : Word) (s : State) : Host.Outcome State Fault Refusal :=
  s.rowWrite (decide (l < 272) && wbit data 31) req (fLNK_CMD_ENUM l) data

def execQueueFlush (req : Req) (l : Nat) (data : Word) (s : State) : Host.Outcome State Fault Refusal :=
  s.rowWrite (decide (l < 272) && data.toNat % 65536 != 0) req (fLNK_CMD_FLUSH l) data

def execSpareForce (req : Req) (k : Nat) (data : Word) (s : State) : Host.Outcome State Fault Refusal :=
  s.rowWrite (decide (k < 16) && wbit data 31) req (fLNK_SPARE_FORCE k) data

def execSpareRelease (req : Req) (k : Nat) (data : Word) (s : State) : Host.Outcome State Fault Refusal :=
  s.rowWrite (decide (k < 16) && wbit data 30) req (fLNK_SPARE_RELEASE k) data

def execInject (req : Req) (l : Nat) (data : Word) (s : State) : Host.Outcome State Fault Refusal :=
  s.rowWrite (decide (l < 272) && wbit data 31) req (fLNK_INJ_GO l) data

/-! ## Panel drive, bistable engine, bonbon window (R440 to R448, R457 to R461) -/

def execRailPowerUp (req : Req) (g : Nat) (data : Word) (s : State) : Host.Outcome State Fault Refusal :=
  s.rowWrite (decide (g < 16) && wbit data 0) req (fDRV_CTRL_PWR g) data

def execRailPowerDown (req : Req) (g : Nat) (data : Word) (s : State) : Host.Outcome State Fault Refusal :=
  s.rowWrite (decide (g < 16) && !wbit data 0) req (fDRV_CTRL_PWR g) data

def execRailForceOn (req : Req) (data : Word) (s : State) : Host.Outcome State Fault Refusal :=
  s.rowWrite (bitsOf data.toNat 9 8 == 2) req fDRV_RAIL_OVR_ACT data

def execRailForceOff (req : Req) (data : Word) (s : State) : Host.Outcome State Fault Refusal :=
  s.rowWrite (bitsOf data.toNat 9 8 == 1) req fDRV_RAIL_OVR_ACT data

def execRailForceRelease (req : Req) (data : Word) (s : State) : Host.Outcome State Fault Refusal :=
  s.rowWrite (bitsOf data.toNat 9 8 == 0) req fDRV_RAIL_OVR_ACT data

/-- TRIPPED_CLEAR: the write meets the levels that PFAIL_N and VIN_SENSE have then (R444, R447). -/
def execTrippedClear (req : Req) (data : Word) (pinLow vinLow : Bool) (s : State) : Host.Outcome State Fault Refusal :=
  { s with drv := { s.drv with pfailLow := pinLow, vinLow := vinLow } }.rowWrite (wbit data 31) req fDRV_PF_TRIPPED data

def execBisRequest (req : Req) (g : Nat) (data : Word) (s : State) : Host.Outcome State Fault Refusal :=
  s.rowWrite (decide (g < 16) && wbit data 31) req (fBIS_REQ2_GO g) data

def execJournalScan (req : Req) (data : Word) (s : State) : Host.Outcome State Fault Refusal :=
  s.rowWrite true req fBIS_JBASE_JPAGE data

def execBonbonEnter (req : Req) (data : Word) (s : State) : Host.Outcome State Fault Refusal :=
  s.rowWrite (wbit data 31) req fDRV_BON_CTRL_ENTER data

def execBonbonSend (req : Req) (data : Word) (s : State) : Host.Outcome State Fault Refusal :=
  s.rowWrite (wbit data 29) req fDRV_BON_CTRL_SEND data

def execBonbonExit (req : Req) (data : Word) (s : State) : Host.Outcome State Fault Refusal :=
  s.rowWrite (wbit data 30) req fDRV_BON_CTRL_EXIT data

/-! ## Calibration (R488, R491 to R493, R497, R502), event rings (R535, R538) -/

def execCalGo (req : Req) (data : Word) (s : State) : Host.Outcome State Fault Refusal :=
  s.rowWrite (wbit data 31) req fCAL_CMD_GO data

def execCalSave (req : Req) (data : Word) (s : State) : Host.Outcome State Fault Refusal :=
  s.rowWrite (wbit data 30) req fCAL_CMD_SAVE data

def execCalLoad (req : Req) (data : Word) (s : State) : Host.Outcome State Fault Refusal :=
  s.rowWrite (wbit data 29) req fCAL_CMD_LOAD data

def execCalValWrite (req : Req) (item : Nat) (data : Word) (s : State) : Host.Outcome State Fault Refusal :=
  s.rowWrite (decide (item < 344)) req ⟨0x03200000 + 16 * item, 0, 32⟩ data

def execFoldEnable (req : Req) (g : Nat) (data : Word) (s : State) : Host.Outcome State Fault Refusal :=
  s.rowWrite (decide (g < 16) && wbit data 31) req (fCAL_SNS_CFG_FOLD g) data

def execFoldDisable (req : Req) (g : Nat) (data : Word) (s : State) : Host.Outcome State Fault Refusal :=
  s.rowWrite (decide (g < 16) && !wbit data 31) req (fCAL_SNS_CFG_FOLD g) data

def execEvrHeadWrite (req : Req) (k : Nat) (data : Word) (s : State) : Host.Outcome State Fault Refusal :=
  s.rowWrite (decide (k < 8)) req (fEVR_PTR_HEAD k) data

def execEvrEnable (req : Req) (k : Nat) (data : Word) (s : State) : Host.Outcome State Fault Refusal :=
  s.rowWrite (decide (k < 8) && wbit data 31 && !s.on (fEVR_CFG_EN k)) req (fEVR_CFG_EN k) data

/-! ## Security (R575, R578, R579), the store (R595, R609, R613, R622), images (R686) -/

def execKeyLoadBlob (req : Req) (data : Word) (s : State) : Host.Outcome State Fault Refusal :=
  s.rowWrite (wbit data 31) req fSEC_KL_CTRL_GO data

def execLcRequest (req : Req) (data : Word) (s : State) : Host.Outcome State Fault Refusal :=
  s.rowWrite (wbit data 31) req fSEC_LC_REQ_GO data

def execDebugUnlock (req : Req) (data : Word) (s : State) : Host.Outcome State Fault Refusal :=
  s.rowWrite (wbit data 31) req fSEC_DBG_UNLOCK data

/-- RECORD_WINDOW_WRITE at an offset of the window. -/
def execRecordWindowWrite (req : Req) (ofs : Nat) (data : Word) (s : State) : Host.Outcome State Fault Refusal :=
  s.rowWrite (decide (ofs < 0x100000) && ofs % 4 == 0) req ⟨0x00900000 + ofs, 0, 32⟩ data

def execRecordJob (req : Req) (data : Word) (s : State) : Host.Outcome State Fault Refusal :=
  s.rowWrite (wbit data 31) req fNVS_REC_CTRL_GO data

def execCounterIncrement (req : Req) (data : Word) (s : State) : Host.Outcome State Fault Refusal :=
  s.rowWrite true req fNVS_CNT_INC_CNT data

/-- The four transfers: OP of NVS_XFER_CTRL. -/
def execNvsErase (req : Req) (data : Word) (s : State) : Host.Outcome State Fault Refusal :=
  s.rowWrite (wbit data 31 && bitsOf data.toNat 26 24 == 1) req fNVS_XFER_CTRL_GO data

def execNvsProgram (req : Req) (data : Word) (s : State) : Host.Outcome State Fault Refusal :=
  s.rowWrite (wbit data 31 && bitsOf data.toNat 26 24 == 2) req fNVS_XFER_CTRL_GO data

def execNvsReadSlot (req : Req) (data : Word) (s : State) : Host.Outcome State Fault Refusal :=
  s.rowWrite (wbit data 31 && bitsOf data.toNat 26 24 == 3) req fNVS_XFER_CTRL_GO data

def execNvsReadLog (req : Req) (data : Word) (s : State) : Host.Outcome State Fault Refusal :=
  s.rowWrite (wbit data 31 && bitsOf data.toNat 26 24 == 4) req fNVS_XFER_CTRL_GO data

def execImageActivate (req : Req) (data : Word) (s : State) : Host.Outcome State Fault Refusal :=
  s.rowWrite (wbit data 31) req fNVS_ACT_GO data

/-! ## On-chip memory and arbiters (R634, R639, R651, R657, R663) -/

def execBankPowerRequest (req : Req) (b : Nat) (data : Word) (s : State) : Host.Outcome State Fault Refusal :=
  s.rowWrite (decide (b < 260)) req (fMEM_BANK_REQ b) data

def execMarchStart (req : Req) (data : Word) (s : State) : Host.Outcome State Fault Refusal :=
  s.rowWrite (wbit data 31) req fMEM_MARCH_CTRL_GO data

def execMarchAbort (req : Req) (data : Word) (s : State) : Host.Outcome State Fault Refusal :=
  s.rowWrite (wbit data 30) req fMEM_MARCH_CTRL_ABORT data

def execArbApply (req : Req) (data : Word) (s : State) : Host.Outcome State Fault Refusal :=
  s.rowWrite (wbit data 31) req fARB_APPLY_APPLY data

def execCopyStart (req : Req) (data : Word) (s : State) : Host.Outcome State Fault Refusal :=
  s.rowWrite (wbit data 31) req fMEM_COPY_CTRL_GO data

end Sys2Proof.Machine
end

