-- ==== Sys2Proof/Machine/Copy.lean ====
section
/-!
DEFINITION. The copy engine's work (R657): COPY_DONE moves what was copied, in address order, and reports it.
-/
namespace Sys2Proof.Machine

/-- 32 bytes of the frame store as the engine reads them: those of a poisoned unit are free values (R193, R194). -/
def State.unitRead (s : State) (a : Nat) : List Byte × State :=
  if s.poisoned a then match s.draw 256 with
    | (v, s) => (leBytes 32 v, s)
  else (s.fsBytes a 32, s)

/-- 32 bytes of BAR0, word by word (R265). -/
def State.barBytes (s : State) (a : Nat) : List Byte × State :=
  (List.range 8).foldl (fun (r : List Byte × State) k =>
    match r.2.busRead (.core 0xE00) (a + 4 * k) with
    | (v, s) => (r.1 ++ leBytes 4 v, s)) ([], s)

/-- Write 32 bytes of BAR0. -/
def State.barPut (s : State) (a : Nat) (bs : List Byte) : State :=
  (List.range 8).foldl (fun s k => s.busWrite (.core 0xE00) (a + 4 * k) (leNat ((bs.drop (4 * k)).take 4))) s

/-- Move piece `k` of 32 bytes. -/
def State.copyPiece (s : State) (c : Copy) (k : Nat) : State :=
  let (bs, s) := if c.sSpace = 0 then s.unitRead (256 * c.sLoc + 32 * k) else s.barBytes (4 * c.sLoc + 32 * k)
  if c.dSpace = 0 then s.devWrite (tagCopy c.by_ c.own) (256 * c.dLoc + 32 * k) bs else s.barPut (4 * c.dLoc + 32 * k) bs

/-- COPY_DONE (R655, R657): the copy has lost `rounds` rounds and ended, refused for `reason` (R655) with `bytes` bytes moved,
or whole with reason 0. It waits for lines of the source that the host may cache
(R532) and for their stacks (R199). -/
def execCopyDone (rounds reason bytes : Nat) (s : State) : Host.Outcome State Fault Refusal :=
  match s.mem.copy with
  | none => .next s
  | some c =>
    let pieces := if reason = 0 then 8 * c.units else min (bytes / 32) (8 * c.units)
    if 3 < reason then .next s
    else
      let (ok, s) := s.readGate false (if c.sSpace = 0 then [(256 * c.sLoc, 32 * pieces)] else [])
      if ¬ ok then .next s
      else
        let s := (List.range pieces).foldl (fun s k => s.copyPiece c k) { s with mem := { s.mem with copy := none } }
        let st := if reason ≠ 0 then 2 else if 0 < rounds then 1 else 0
        let rounds := min rounds 65535
        let s := if st = 2 then s.refused 12 reason else if st = 1 then s.deferred 12 else s
        let s := ((s.setF fMEM_COPY_STATUS_BUSY 0).setF fMEM_COPY_STATUS_STATUS st).setF fMEM_COPY_STATUS_REASON reason
        let s := (s.setF fMEM_COPY_STATUS_ROUNDS rounds).setF fMEM_COPY_DONE_BYTES (32 * pieces)
        .next (s.raise 0x1C4 0xE00 0 [(8, st), (8, reason), (16, rounds), (32, 32 * pieces)])

end Sys2Proof.Machine
end

