-- ==== Sys2Proof/Machine/Slots.lean ====
section
/-!
DEFINITION. Slots on the wire (08): the slots of a line period (R370, R371), what leaves in them from the partner queues
(R275, R367, R380, R383, R385), pixels and underruns (R77, R78, R366, R451), sensing in blanking (R494), free slots (R372).
-/
namespace Sys2Proof.Machine

/-! ## Packets of a queue in a slot (R275, R367) -/

/-- Is the next packet of a queue ready to leave in a slot of `kind` that starts at `t`? Its index in the queue: a packet whose
segments are leaving goes on before any other (R367). -/
def State.nextPkt (s : State) (c p kind t : Nat) : Option Nat :=
  let l := s.pq c p
  let next := if s.midPacket c p then l.findIdx? fun k => k.begun && !k.out else l.findIdx? fun k => !k.out
  match (if s.chainUp c then next else none) with
  | none => none
  | some i =>
    match l[i]? with
    | none => none
    | some k =>
      let busy := p != 15 && l.any fun j => j.out && space j == space k
      let deaf := expects p k && !(s.on (fLNK_STATUS_BLOCK_LOCK (s.rxLane c)) && !s.on (fLNK_STATUS_RX_ASLEEP (s.rxLane c)))
      if k.kind = kind ∧ k.ready ≤ t ∧ ¬ busy ∧ ¬ deaf then some i else none

/-- The SEQ of a packet, given at its first sending (R380). -/
def State.giveSeq (s : State) (c p i : Nat) (k : Pkt) : Pkt × State :=
  match k.seq with
  | some _ => (k, s)
  | none =>
    let n := s.nextSeq c p (space k)
    let k := { k with seq := some n }
    (k, (s.setNextSeq c p (space k) (n + 1)).setPkt c p i k)

/-- Send the next segment of packet `i` in `room` blocks (R367): blocks used, whether the packet went out whole with this
segment, and the state. A resend is counted as it begins (R383). -/
def State.sendSeg (s : State) (c p i room : Nat) : Nat × Bool × State :=
  match (s.pq c p)[i]? with
  | none => (0, true, s)
  | some k =>
    let (k, s) := s.giveSeq c p i k
    let left := k.words.length - k.sent
    let n := min left (2 * (room - 2))
    let last := decide (n = left)
    let seg := segBytes k.typ (16 * c + p) (k.seq.getD 0) (k.sent == 0) last (decide (0 < k.tries))
      ((k.words.drop k.sent).take n)
    let s := if 0 < k.tries ∧ k.sent = 0 then s.count (fLNK_DLV_RETRIES c) 1 else s
    let s := s.sendPkt c seg
    let s := if ¬ last then s.setPkt c p i { k with sent := k.sent + n }
      else if p = 15 ∨ k.flushed then s.dropPkt c p i
      else s.setPkt c p i { k with sent := k.words.length, out := true, timer := 0 }
    (2 + (n + 1) / 2, last, if last then s.boundary c p else s)

/-- Fill a room from one queue, whole packets and at last a segment (R370). `fuel` bounds the packets. -/
def fillFrom (c p kind t : Nat) : Nat → Nat → State → Nat × State
  | 0, room, s => (room, s)
  | fuel + 1, room, s =>
    match s.nextPkt c p kind t with
    | none => (room, s)
    | some i =>
      if room < 3 then (room, s)
      else
        let (used, whole, s) := s.sendSeg c p i room
        if whole then fillFrom c p kind t fuel (room - used) s else (room - used, s)

/-- Fill a room from the queues of several positions, chosen round by round by the chain's arbiter, the broadcast queue last
(R353, R646). -/
def fillShared (c kind t : Nat) : Nat → List Nat → Nat → State → State
  | 0, _, _, s => s
  | fuel + 1, skip, room, s =>
    let ready := (List.range 15).filter fun p => !skip.contains p && (s.nextPkt c p kind t).isSome
    if room < 3 then s
    else
      match s.arbRound (arbChain c) (fun _ => 0) ready ready with
      | (some p, s) =>
        (match s.nextPkt c p kind t with
        | none => s
        | some i =>
          let (used, whole, s) := s.sendSeg c p i room
          fillShared c kind t fuel (if whole then skip else p :: skip) (room - used) s)
      | (none, s) => (fillFrom c 15 kind t 64 room s).2

/-- The timers of the outstanding packets a later slot names are counted (R383). -/
def State.countTimers (s : State) (c part kind : Nat) : State :=
  (List.range 15).foldl (fun s p =>
    if names part p ∧ (s.pq c p).any (fun k => k.out && k.kind == kind) then
      s.setPq c p ((s.pq c p).map fun k => if k.out ∧ k.kind = kind then { k with timer := k.timer + 1 } else k)
    else s) s

/-- Fill the room of a CMD, SENSE or CAL slot that names `part`. -/
def State.fillSlot (s : State) (c part kind room t : Nat) : State :=
  let s := s.countTimers c part kind
  if part = 15 then fillShared c kind t 256 [] room s else (fillFrom c part kind t 64 room s).2

/-! ## Pixels (R77, R78, R366, R371, R451) -/

/-- The code inserted for a missing component (R77): 10 bits widened, then reduced with the rounding of DMODE 0. -/
def State.urCode (s : State) (g v : Nat) : Nat :=
  let d := s.depth g
  min (2 ^ d - 1) ((expand v 10 + 2 ^ (13 - d)) / 2 ^ (14 - d))

/-- The codes of a missing pixel: background of the topmost pane that covers it, or of the group. -/
def State.urPixel (s : State) (g x y : Nat) : List Nat :=
  (match (s.layers g x y).head? with
  | some p => [s.f (fPANE_BG_R p), s.f (fPANE_BG_G p), s.f (fPANE_BG_B p)]
  | none => [s.f (fPAN_GROUP_BG_R g), s.f (fPAN_GROUP_BG_G g), s.f (fPAN_GROUP_BG_B g)]).map fun v => s.urCode g v

/-- A finished pixel, if its data is there and no earlier column of the line was missing. -/
def State.lbPixel (s : State) (g x y : Nat) : Option Nat :=
  let w := smGet (fun _ => 0) s.pix.lb (lbKey g y x)
  let cut : Bool := match (s.grp g).urCol with
    | some c => decide (c ≤ x)
    | none => false
  if 2 ^ 63 ≤ w ∧ ¬ cut then some w else none

/-- An underrun from column `x` on line `y`, at the slot that starts at `t` (R77, R78). -/
def State.underrun (s : State) (g x y t : Nat) : State :=
  let r := s.grp g
  let s := if r.urLine = some y then s else s.count (fTMG_UR_CNT_LINES g) 1
  let mode := s.f (fTMG_CTRL_UR_MODE g)
  let s := if r.urRaised then s else s.raiseG 0x102 g [(48, r.frame), (16, y), (16, x), (8, mode)]
  let abort := if mode = 1 ∧ r.urAbort.isNone then some t else r.urAbort
  let s := { s with pix := { s.pix with urLines := smSet (fun _ => false) s.pix.urLines (g * 65536 + y) true } }
  s.setGrp g { r with urCol := some (min x (r.urCol.getD x)), urLine := some y, urRaised := true, urAbort := abort }

/-- Bits of the columns of a PIX payload of a group that is not bistable. -/
def State.pixBits (s : State) (g y : Nat) (xs : List Nat) : List Bool :=
  let d := s.depth g
  let spare := s.tech g == 2
  msbBits (xs.flatMap fun x =>
    let (cs, ss) := match s.lbPixel g x y with
      | some w => ([w % 2 ^ 14, w / 2 ^ 14 % 2 ^ 14, w / 2 ^ 28 % 2 ^ 14], [w / 2 ^ 42 % 8, w / 2 ^ 45 % 8, w / 2 ^ 48 % 8])
      | none => (s.urPixel g x y, [0, 0, 0])
    (cs.zip ss).flatMap fun e => (d, e.1) :: (if spare then [(3, e.2)] else []))

/-- Drive codes of the columns of a bistable group, one after another. -/
def bisCodes (g y f : Nat) (off : Bool) : List Nat → State → List Nat × State
  | [], s => ([], s)
  | x :: xs, s =>
    let (c, s) := if off then (0, s) else s.bisCode g x y f ((s.lbPixel g x y).map fun w => w / 2 ^ 14 % 2 ^ 14)
    let (r, s) := bisCodes g y f off xs s
    (c :: r, s)

/-- The PIX packet of a slot (R366, R451): it starts at tick `t`. -/
def State.sendPix (s : State) (g c e t : Nat) : State :=
  let r := s.grp g
  let y := r.line
  let n := s.f (fSLTA_NCOL c e)
  let xs := (List.range n).map fun i => s.f (fSLTA_COL0 c e) + i
  let off := r.tripLine
  let s := match (if off then none else xs.find? fun x => (s.lbPixel g x y).isNone) with
    | some x => s.underrun g x y t
    | none => s
  let pid := 16 * c + s.f (fSLTA_PARTNER c e)
  if s.tech g = 3 then
    let (codes, s) := bisCodes g y r.frame off xs s
    s.sendPkt c (pixPacket pid (pixLen 3 5 n) (msbBits (codes.map fun v => (2, v))))
  else s.sendPkt c (pixPacket pid (pixLen (s.tech g) (s.depth g) n) (s.pixBits g y xs))

/-! ## Slots of a line period -/

/-- Start tick of slot `e` of the line period in progress, and of the block after it (R370). -/
def State.slotBlock (s : State) (c e lineTick : Nat) : Nat :=
  let rate := s.f (fLNK_CFG_RATE c)
  blockAt rate lineTick + ((List.range e).map fun i => s.f (fSLTA_LEN c i)).sum
def State.slotTick (s : State) (c e lineTick : Nat) : Nat :=
  blockTick (s.f (fLNK_CFG_RATE c)) (s.slotBlock c e lineTick)

/-- The block at which a slot is cut off on its lanes, if it is (R371). -/
def State.setTxEnd (s : State) (c : Nat) (e : Option Nat) : State :=
  (s.lanesOf c).foldl (fun s l => s.setLn l { s.ln l with txEnd := e }) s

/-- One slot is sent: SOS, body, EOS. `t` is its start tick. A slot that the next line period would meet ends in the block before that
period's slot 0 (R371; log 127). -/
def State.sendSlot (s : State) (g c e t : Nat) : State :=
  let r := s.grp g
  let part := s.f (fSLTA_PARTNER c e)
  let kind := s.f (fSLTA_KIND c e)
  let len := s.f (fSLTA_LEN c e)
  if kind = 4 then s
  else
    let blank := decide (r.cur.vact ≤ r.line) || r.blankFrame
    let biscuit := s.on (fTMG_STATUS_BISCUIT g)
    let sense := kind == 0 && r.bsense == 1 && !s.on fDRV_PF_TRIPPED && blank && !biscuit && decide (r.bresv + 5 ≤ len)
    let kind' := if sense then 2 else kind
    let resv := if sense then r.bresv else s.f (fSLTA_RESV c e)
    let next := blockAt (s.f (fLNK_CFG_RATE c)) (r.lineAt (r.line + 1))
    let trunc := decide (next < s.slotBlock c (e + 1) r.lineTick)
    let stop := if trunc then next else s.slotBlock c (e + 1) r.lineTick
    let s := (s.idleChain c (s.slotBlock c e r.lineTick)).setTxEnd c (if trunc then some next else none)
    let s := s.sendCtl c (sosBlock (e == 0) e part kind' r.line r.frame
      (b2n blank + 2 * b2n biscuit + 4 * b2n (s.ln c).newTab))
    let s := if kind' = 0 then
        if blank ∨ biscuit ∨ (r.tripLine ∧ s.tech g ≠ 3) then s else s.sendPix g c e t
      else s.fillSlot c part kind' (len - 2 - resv) t
    ((s.idleChain c (stop - 1)).setTxEnd c none).sendCtl c (eosBlock e trunc)

/-- SLOT_START (R370): slot `slot` of chain `c` starts. -/
def execSlotStart (c slot : Nat) (s : State) : Host.Outcome State Fault Refusal :=
  match s.chainOwner c with
  | none => .next s
  | some g =>
    let r := s.grp g
    let x := s.ln c
    let t := s.slotTick c slot r.lineTick
    let on := (s.lanesOf c).any fun l => (s.ln l).lineOn
    if 256 ≤ c ∨ s.gState g < 2 ∨ ¬ r.live ∨ ¬ s.chainUp c ∨ ¬ on ∨ x.slot ≠ slot ∨ s.f (fSLT_ACT_NSLOT c) ≤ slot ∨
        s.time.raster < t then .next s
    else .next ((s.setLn c { x with slot := slot + 1 }).sendSlot g c slot t)

/-! ## Free slots (R372) -/

/-- The packet that leaves in the next free slot: position and index. -/
def State.freePkt (s : State) (c : Nat) : Option (Nat × Nat) × State :=
  let t := s.time.raster
  let ready := fun p => (List.range 4).findSome? fun k => s.nextPkt c p k t
  let cands := (List.range 15).filter fun p => (ready p).isSome
  match s.arbRound (arbChain c) (fun _ => 0) cands cands with
  | (some p, s') => ((ready p).map fun i => (p, i), s')
  | (none, s') => ((ready 15).map fun i => (15, i), s')

/-- The block at which the next free slot of a lane begins: one block at least lies before it. -/
def State.freeBlock (s : State) (l : Nat) : Nat := max (s.txNow l) ((s.ln l).txAt + 1)

/-- Sixteen IDLE blocks on every lane of a chain, with the FILL that may fall due among them. -/
def State.idle16 (s : State) (c : Nat) : State :=
  (s.lanesOf c).foldl (fun s l => s.idleTo l ((s.ln l).txAt + (if 1008 ≤ (s.ln l).txFill then 17 else 16))) s

/-- FREE_SLOT: a queued packet of a STOPPED group is sent whole in a free slot. -/
def execFreeSlot (c : Nat) (s : State) : Host.Outcome State Fault Refusal :=
  match s.chainOwner c with
  | none => .next s
  | some g =>
    if 256 ≤ c ∨ s.gState g ≠ 0 ∨ ¬ s.chainUp c ∨ ¬ (s.lanesOf c).any (fun l => s.txOn l) then .next s
    else
      match s.freePkt c with
      | (none, _) => .next s
      | (some (p, i), s) =>
        (match (s.pq c p)[i]? with
        | none => .next s
        | some k =>
          let s := s.countTimers c p k.kind
          let s := (s.lanesOf c).foldl (fun s l => s.idleTo l (s.freeBlock l)) s
          let s := s.sendCtl c (sosBlock false 63 p k.kind 0xFFFF (s.grp g).frame 8)
          let (_, _, s) := s.sendSeg c p i 64
          .next ((s.idle16 c).sendCtl c (eosBlock 63 false)))

end Sys2Proof.Machine
end

