-- ==== Sys2Proof/Machine/Operands.lean ====
section
/-!
DEFINITION. What every Thoene instruction shares (06): its words taken apart and judged (R256 to R259), the general registers
(R252), operands and immediates (R260, R266), issue, retirement and the end of a queue entry (R282, R316, R317), and the local
space (R254, R255).
-/
namespace Sys2Proof.Machine

/-! ## Encoding (R256, R257) -/

/-- An instruction: its opcode (the embedded one in an L form), bits [25:0] of its form, and the 32-bit immediate of an L form. -/
structure Ins where
  op : Nat
  w : Nat
  long : Option Nat
  deriving DecidableEq, Repr

/-- Take the words of an instruction apart; `w1` is the word after it. -/
def insOf (w0 w1 : Nat) : Ins :=
  if w0 / 2 ^ 26 = 0x0E then ⟨bitsOf w0 25 20, bitsOf w0 19 10 * 65536, some w1⟩ else ⟨w0 / 2 ^ 26, w0 % 2 ^ 26, none⟩

def Ins.d (i : Ins) : Nat := bitsOf i.w 25 21
def Ins.a (i : Ins) : Nat := bitsOf i.w 20 16
def Ins.b (i : Ins) : Nat := bitsOf i.w 15 11
def Ins.x (i : Ins) : Nat := bitsOf i.w 10 0
def Ins.imm (i : Ins) : Nat := bitsOf i.w 15 0

/-- W form: flag and mode. -/
def Ins.wn (i : Ins) : Nat := bitsOf i.w 20 18
def Ins.mode (i : Ins) : Nat := bitsOf i.w 17 16

/-- Gate variant: pin, register, MODE and offset. -/
def Ins.pin (i : Ins) : Nat := bitsOf i.w 25 20
def Ins.ga (i : Ins) : Nat := bitsOf i.w 19 15
def Ins.gmode (i : Ins) : Nat := bit i.w 14
def Ins.goff (i : Ins) : Nat := bitsOf i.w 13 0

/-- Flag variants: n of a branch on a flag, n of the T form's x. -/
def Ins.bn (i : Ins) : Nat := bitsOf i.w 23 21
def Ins.xn (i : Ins) : Nat := bitsOf i.w 2 0

/-! ### Encoders of the forms (R256, R257): the first word, and for the L form its embedded bits -/

/-- T form. -/
def wordT (op d a b x : Nat) : Nat := op * 2 ^ 26 + d * 2 ^ 21 + a * 2 ^ 16 + b * 2 ^ 11 + x

/-- I form. -/
def wordI (op d a imm : Nat) : Nat := op * 2 ^ 26 + d * 2 ^ 21 + a * 2 ^ 16 + imm

/-- W form. -/
def wordW (op a n mode imm : Nat) : Nat := op * 2 ^ 26 + a * 2 ^ 21 + n * 2 ^ 18 + mode * 2 ^ 16 + imm

/-- I form, branch on a flag. -/
def wordF (op n off : Nat) : Nat := op * 2 ^ 26 + n * 2 ^ 21 + off

/-- I form, gate. -/
def wordG (op pin a mode off : Nat) : Nat := op * 2 ^ 26 + pin * 2 ^ 20 + a * 2 ^ 15 + mode * 2 ^ 14 + off

/-- First word of an L form that embeds `op` with bits [25:16] of its I form: d and a. The second word is the immediate. -/
def wordL (op d a : Nat) : Nat := 0x0E * 2 ^ 26 + op * 2 ^ 20 + d * 2 ^ 15 + a * 2 ^ 10

/-- Bytes of the instruction. -/
def Ins.len (i : Ins) : Nat := if i.long.isSome then 8 else 4

/-- Reserved opcodes (R258). -/
def reservedOp (op : Nat) : Bool := [0x0D, 0x0F, 0x12, 0x1E, 0x1F, 0x27, 0x2E, 0x2F].contains op

/-- Opcodes outside the T-C profile (R258). -/
def trOnly (op : Nat) : Bool := [0x30, 0x31, 0x34, 0x35, 0x36, 0x37].contains op

/-- Opcodes an L form may embed (R257). -/
def embeddable (op : Nat) : Bool := [0x10, 0x11, 0x13, 0x14, 0x15, 0x19, 0x1A, 0x1C, 0x2A, 0x2B, 0x33].contains op

/-- Every field that R259 and R260 give as zero is zero. -/
def Ins.zeros (i : Ins) : Bool :=
  let all : Bool := i.w == 0
  match i.op with
  | 0x00 => all
  | 0x26 => all
  | 0x3A => all
  | 0x3F => all
  | 0x0C => decide (i.d = 0 ∧ i.x < 64)
  | 0x10 => i.a == 0
  | 0x1D => i.a == 0
  | 0x16 => decide (i.imm < 32)
  | 0x17 => decide (i.imm < 32)
  | 0x18 => decide (i.imm < 32)
  | 0x24 => i.d == 0
  | 0x25 => i.d == 0
  | 0x2C => decide (bitsOf i.w 25 24 = 0 ∧ i.a = 0)
  | 0x2D => decide (bitsOf i.w 25 24 = 0 ∧ i.a = 0)
  | 0x31 => i.mode == 0
  | 0x32 => decide (i.mode = 0 ∧ i.imm < 32)
  | 0x34 => decide (i.d = 0 ∧ i.x < 64)
  | 0x38 => decide (i.w < 8)
  | 0x39 => decide (i.b = 0 ∧ i.x < 8)
  | 0x3B => decide (i.b = 0 ∧ i.x < 8)
  | 0x3C => decide (i.d = 0 ∧ i.b = 0 ∧ i.x < 8)
  | 0x3D => decide (i.d = 0 ∧ i.a = 0 ∧ i.imm < 32)
  | 0x3E => bitsOf i.w 15 14 == 0
  | op => if 1 ≤ op ∧ op ≤ 0x0B then i.x == 0 else true

/-- Variants that fault with ILLEGAL: WAITT's modes, WAITE's sources, EMIT's kinds (R270, R271, R273). -/
def Ins.variant (i : Ins) (o : Nat) : Bool :=
  match i.op with
  | 0x33 => decide (i.mode ≠ 3 ∧ (isTR o ∨ i.mode ≠ 1))
  | 0x32 => srcOk o i.imm
  | 0x34 => decide (bitsOf i.x 5 3 ≤ 4)
  | _ => true

/-- Does core `o` take the instruction with first word `w0` without an ILLEGAL fault (R257 to R259)? -/
def Ins.legal (i : Ins) (o w0 : Nat) : Bool :=
  !reservedOp i.op && (i.long.isNone || (embeddable i.op && w0 % 1024 == 0)) && (isTR o || !trOnly i.op) && i.zeros &&
    i.variant o

/-- General registers an instruction reads, for the wait of R282. -/
def Ins.reads (i : Ins) : List Nat :=
  if i.op = 0x29 ∨ i.op = 0x2B then [i.a, i.d]
  else if i.op = 0x10 ∨ i.op = 0x1D then []
  else if i.op < 0x10 ∨ i.op = 0x34 then [i.a, i.b]
  else if 0x35 ≤ i.op ∧ i.op ≤ 0x37 then [i.ga]
  else if (0x20 ≤ i.op ∧ i.op ≤ 0x23) ∨ i.op = 0x3E then [i.d, i.a]
  else if 0x30 ≤ i.op ∧ i.op ≤ 0x33 then [i.d]
  else [i.a]

/-! ## Registers and operands (R252, R260, R266) -/

/-- A general register: G0 reads as zero. -/
def State.gw (s : State) (o n : Nat) : Word := if n = 0 then 0#32 else BitVec.ofNat 32 (smGet (fun _ => 0) (s.core o).g n)

/-- Write a general register: writes to G0 are discarded. -/
def State.setG (s : State) (o n : Nat) (v : Word) : State :=
  if n = 0 then s else s.setCore o { s.core o with g := smSet (fun _ => 0) (s.core o).g n v.toNat }

/-- Operand B of an arithmetic or logic instruction: Gb in the T form, else the extended immediate (R260). -/
def State.opB (s : State) (o : Nat) (i : Ins) (signed : Bool) : Word :=
  match i.long with
  | some v => BitVec.ofNat 32 v
  | none =>
    if i.op < 0x10 then s.gw o i.b
    else if signed then BitVec.ofNat 32 (toField 32 (sInt 16 i.imm))
    else BitVec.ofNat 32 i.imm

/-- Ga + the signed offset of LD, ST, LDX and STX, or + imm32 (R264, R265). -/
def State.address (s : State) (o : Nat) (i : Ins) : Nat := (s.gw o i.a + s.opB o i true).toNat

/-- Ga + imm of a W form: the immediate is zero-extended (R266). -/
def State.waitSum (s : State) (o : Nat) (i : Ins) : Nat := (s.gw o i.d + s.opB o i false).toNat

/-! ## Issue and retirement (R282, R316) -/

/-- May the core issue an instruction now? It is RUNNING, nothing holds it, its memory is filled (R635), its image is not being
replaced (R689), its next cycle has come (R282) and its watchdog has not run out (R285). -/
def State.mayIssue (s : State) (o : Nat) : Bool :=
  let c := s.core o
  (isTR o || isTC o) && s.coreSt o == 1 && c.act == .run && !s.coreInit o && !(isTC o && s.copying (o - 0x300)) &&
    decide (c.next ≤ s.clock o) && (s.f (fcLimit o) == 0 || decide (c.wdog < 1024 * s.f (fcLimit o)))

/-- Is the PC an address of R253? -/
def State.pcOk (s : State) (o : Nat) : Bool := (s.core o).pc % 4 == 0 && decide ((s.core o).pc / 4 < imemWords o)

/-- The word at the PC and the one after it. -/
def State.word0 (s : State) (o : Nat) : Nat := s.imem o ((s.core o).pc / 4)
def State.word1 (s : State) (o : Nat) : Nat := s.imem o ((s.core o).pc / 4 + 1)

/-- Is a register the instruction reads not readable yet (R282)? -/
def State.hotRead (s : State) (o : Nat) (i : Ins) : Bool :=
  let c := s.core o
  c.hot != 0 && i.reads.contains c.hot && decide (s.clock o < c.hotAt)

/-- The instruction that core `o` can issue in this cycle without a fault of R258 or a wait for an operand, if there is one. -/
def State.nextIns (s : State) (o : Nat) : Option Ins :=
  if ¬ s.mayIssue o ∨ ¬ s.pcOk o ∨ (s.word0 o / 2 ^ 26 = 0x0E ∧ imemWords o ≤ (s.core o).pc / 4 + 1) then none
  else
    let i := insOf (s.word0 o) (s.word1 o)
    if i.legal o (s.word0 o) ∧ ¬ s.hotRead o i then some i else none

/-- Does a core before `o` in order of SELF issue, in this cycle, an instruction that satisfies `p`? It goes first (R265, R277). -/
def State.lowerIssues (s : State) (o : Nat) (p : Nat → Ins → Bool) : Bool :=
  (allCores.filter fun c => decide (c < o)).any fun c => (s.nextIns c).any (p c)

/-- Core `o` issues the instruction at its PC if its opcode is `mine`: it faults (R258), waits for an operand (R282), or does
`run`. A command that names another instruction than the one there does nothing. -/
def State.issue (s : State) (o : Nat) (mine : Nat → Bool) (run : Ins → State → State) : Host.Outcome State Fault Refusal :=
  if ¬ s.mayIssue o ∨ ¬ s.pcOk o ∨ ¬ mine (s.word0 o / 2 ^ 26) then .next s
  else if s.word0 o / 2 ^ 26 = 0x0E ∧ imemWords o ≤ (s.core o).pc / 4 + 1 then .next (s.coreFault o 2)
  else
    let i := insOf (s.word0 o) (s.word1 o)
    if ¬ i.legal o (s.word0 o) then .next (s.coreFault o 1)
    else if s.hotRead o i then .next s
    else .next (run i (s.setCore o { s.core o with len := i.len }))

/-- Execution has reached word 0x7FFE in a queue entry: the entry ends, with status 3 if a critical write in it was denied
(R316, R317). -/
def State.atEnd (s : State) (o : Nat) : State :=
  match s.inEntry o with
  | none => s
  | some e =>
    if (s.core o).pc ≠ 0x1FFF8 then s
    else
      let s := (s.setCore o (s.core o).idle).setCoreSt o 0
      s.entryEnd (o - 0x300) (if e.denied = 0 then 0 else 3) e.denied 0

/-- Go on at `pc` after `n` cycles. -/
def State.goOn (s : State) (o pc n : Nat) : State :=
  (s.setCore o { (s.core o).idle with pc := pc, next := cycleAfter o (s.clock o) n }).atEnd o

/-- The instruction retires after `n` cycles, one more in an L form. -/
def State.retire (s : State) (o n : Nat) : State :=
  s.goOn o ((s.core o).pc + (s.core o).len) (n + ((s.core o).len / 4 - 1))

/-- A branch is taken to a target, in two cycles (R262, R263, R282). -/
def State.jump (s : State) (o target : Nat) : State := s.goOn o (target % 2 ^ 32) 2

/-- An instruction whose result is readable one cycle later than usual retires (R282). -/
def State.retireHot (s : State) (o d : Nat) : State :=
  let t := cycleAfter o (s.clock o) 2
  let s := s.retire o 1
  s.setCore o { s.core o with hot := d, hotAt := t }

/-! ## The local space (R254, R255) -/

/-- A read of the local space; none where it faults with LDST. -/
def State.localRead (s : State) (o a : Nat) : Option (Word × State) :=
  let r := fun (v : Nat) => some (BitVec.ofNat 32 v, s)
  if a % 4 ≠ 0 then none
  else if a / 4 < dmemWords o then r (s.dmem o (a / 4))
  else
    match a with
    | 0xFFFFF000 => r (if isTR o then (s.beam (s.coreGroup o) s.time.raster).1 else 0)
    | 0xFFFFF004 => r (if isTR o then (s.beam (s.coreGroup o) s.time.raster).2 else 0)
    | 0xFFFFF008 => r (if isTR o then (s.grp (s.coreGroup o)).frame else 0)
    | 0xFFFFF00C =>
      some (BitVec.ofNat 32 (s.clock o), s.setCore o { s.core o with timeHi := s.clock o / 2 ^ 32 % 2 ^ 32 })
    | 0xFFFFF010 => r (s.core o).timeHi
    | 0xFFFFF014 => r (if isTR o then s.coreGroup o else 0xFFFFFFFF)
    | 0xFFFFF018 => r o
    | 0xFFFFF01C => r (s.core o).flags
    | 0xFFFFF020 => r (s.f (fcPend o))
    | _ => none

/-- A write of the local space; none where it faults with LDST. -/
def State.localWrite (s : State) (o a : Nat) (v : Word) : Option State :=
  if a % 4 ≠ 0 then none
  else if a / 4 < dmemWords o then some (s.setDmem o (a / 4) v.toNat)
  else if a = 0xFFFFF01C then some (s.setCore o { s.core o with flags := v.toNat % 256 })
  else none

end Sys2Proof.Machine
end

