-- ==== Sys2Proof/Machine/Flags.lean ====
section
/-!
DEFINITION. The condition flags C0 to C7 of a Thoene core (R252): writing one, and every condition that an instruction computes
(R259, R261, R262).
-/
namespace Sys2Proof.Machine

/-- Write flag Cn. -/
def State.setFlag (s : State) (o n : Nat) (b : Bool) : State :=
  s.setCore o { s.core o with flags := Machine.putBit (s.core o).flags n b }

/-- Is flag Cn 1? -/
def State.flag (s : State) (o n : Nat) : Bool := bit (s.core o).flags n == 1

/-- The conditions of CMP: 0 EQ, 1 NE, 2 LT, 3 GE, signed unless `u` (R259, R261). -/
def cmpHolds (cond : Nat) (u : Bool) (a b : Word) : Bool :=
  let lt := if u then BitVec.ult a b else BitVec.slt a b
  match cond with
  | 0 => a == b
  | 1 => a != b
  | 2 => lt
  | _ => !lt

/-- The conditions of a branch on registers, by opcode (R262). -/
def branchHolds (op : Nat) (a b : Word) : Bool := cmpHolds (op - 0x20) false a b

end Sys2Proof.Machine
end

