-- ==== Sys2Proof/Machine/ThoeneAlu.lean ====
section
/-!
DEFINITION. Arithmetic, logic and comparison of the Thoene cores (R258, R260, R261).
-/
namespace Sys2Proof.Machine

/-- Gd := f(Ga, B) (R260). -/
def aluRun (o : Nat) (signed : Bool) (f : Word → Word → Word) (i : Ins) (s : State) : State :=
  (s.setG o i.d (f (s.gw o i.a) (s.opB o i signed))).retire o 1

/-- The functions of R260. -/
def shlW (a b : Word) : Word := a <<< (b.toNat % 32)
def shrW (a b : Word) : Word := a >>> (b.toNat % 32)
def sraW (a b : Word) : Word := BitVec.sshiftRight a (b.toNat % 32)
def minW (a b : Word) : Word := if BitVec.slt a b then a else b
def maxW (a b : Word) : Word := if BitVec.slt a b then b else a
def mul16W (a b : Word) : Word := BitVec.ofNat 32 (a.toNat % 65536 * (b.toNat % 65536))
def luiW (_ b : Word) : Word := b <<< 16

/-- CMP: Cn := Ga cond B (R261). -/
def cmpRun (o : Nat) (i : Ins) (s : State) : State :=
  let (n, cond, u) := if i.op = 0x0C then (i.xn, bitsOf i.x 4 3, bit i.x 5 == 1) else (i.d % 8, i.d / 8, false)
  (s.setFlag o n (cmpHolds cond u (s.gw o i.a) (s.opB o i true))).retire o 1

def execNop (core : Nat) (s : State) : Host.Outcome State Fault Refusal :=
  s.issue core (fun op => op == 0x00) fun _ s => s.retire core 1

def execAdd (core : Nat) (s : State) : Host.Outcome State Fault Refusal :=
  s.issue core (fun op => op == 0x01 || op == 0x11) (aluRun core true fun a b => a + b)

def execSub (core : Nat) (s : State) : Host.Outcome State Fault Refusal :=
  s.issue core (fun op => op == 0x02) (aluRun core true fun a b => a - b)

def execAnd (core : Nat) (s : State) : Host.Outcome State Fault Refusal :=
  s.issue core (fun op => op == 0x03 || op == 0x13) (aluRun core false fun a b => a &&& b)

def execOr (core : Nat) (s : State) : Host.Outcome State Fault Refusal :=
  s.issue core (fun op => op == 0x04 || op == 0x14) (aluRun core false fun a b => a ||| b)

def execXor (core : Nat) (s : State) : Host.Outcome State Fault Refusal :=
  s.issue core (fun op => op == 0x05 || op == 0x15) (aluRun core false fun a b => a ^^^ b)

def execShl (core : Nat) (s : State) : Host.Outcome State Fault Refusal :=
  s.issue core (fun op => op == 0x06 || op == 0x16) (aluRun core false shlW)

def execShr (core : Nat) (s : State) : Host.Outcome State Fault Refusal :=
  s.issue core (fun op => op == 0x07 || op == 0x17) (aluRun core false shrW)

def execSra (core : Nat) (s : State) : Host.Outcome State Fault Refusal :=
  s.issue core (fun op => op == 0x08 || op == 0x18) (aluRun core false sraW)

def execMin (core : Nat) (s : State) : Host.Outcome State Fault Refusal :=
  s.issue core (fun op => op == 0x09 || op == 0x19) (aluRun core true minW)

def execMax (core : Nat) (s : State) : Host.Outcome State Fault Refusal :=
  s.issue core (fun op => op == 0x0A || op == 0x1A) (aluRun core true maxW)

/-- MUL16: the product is readable one cycle later (R260, R282). -/
def execMul16 (core : Nat) (s : State) : Host.Outcome State Fault Refusal :=
  s.issue core (fun op => op == 0x0B || op == 0x1B) fun i s =>
    (s.setG core i.d (mul16W (s.gw core i.a) (s.opB core i false))).retireHot core i.d

def execCmp (core : Nat) (s : State) : Host.Outcome State Fault Refusal :=
  s.issue core (fun op => op == 0x0C || op == 0x1C) (cmpRun core)

def execLdi (core : Nat) (s : State) : Host.Outcome State Fault Refusal :=
  s.issue core (fun op => op == 0x10) (aluRun core true fun _ b => b)

def execLui (core : Nat) (s : State) : Host.Outcome State Fault Refusal :=
  s.issue core (fun op => op == 0x1D) (aluRun core false luiW)

end Sys2Proof.Machine
end

