-- ==== Sys2Proof/Machine/ThoeneFlow.lean ====
section
/-!
DEFINITION. Branches, jumps and calls of the Thoene cores (R262, R263), HALT (R281), what faults before it executes (R258), the
watchdog (R285) and the power-fail vector (R286).
-/
namespace Sys2Proof.Machine

/-- PC + 4 × sext(off), or Ga + 4 × sext(off). -/
def State.target (s : State) (o : Nat) (i : Ins) (fromReg : Bool) : Nat :=
  toField 32 ((if fromReg then (s.gw o i.a).toNat else (s.core o).pc : Nat) + 4 * sInt 16 i.imm)

/-- A branch of R262: on registers in bits [25:21] and [20:16], or on a flag. -/
def branchRun (o : Nat) (i : Ins) (s : State) : State :=
  let take := if i.op = 0x2C then !s.flag o i.bn else if i.op = 0x2D then s.flag o i.bn
    else branchHolds i.op (s.gw o i.d) (s.gw o i.a)
  if take then s.jump o (s.target o i false) else s.retire o 1

def execBeq (core : Nat) (s : State) : Host.Outcome State Fault Refusal :=
  s.issue core (fun op => op == 0x20 || op == 0x2C) (branchRun core)

def execBne (core : Nat) (s : State) : Host.Outcome State Fault Refusal :=
  s.issue core (fun op => op == 0x21 || op == 0x2D) (branchRun core)

def execBlt (core : Nat) (s : State) : Host.Outcome State Fault Refusal :=
  s.issue core (fun op => op == 0x22) (branchRun core)

def execBge (core : Nat) (s : State) : Host.Outcome State Fault Refusal :=
  s.issue core (fun op => op == 0x23) (branchRun core)

def execJ (core : Nat) (s : State) : Host.Outcome State Fault Refusal :=
  s.issue core (fun op => op == 0x24) fun i s => s.jump core (s.target core i (i.a != 0))

/-- CALL pushes PC + 4; depth 8 faults with STACK. -/
def execCall (core : Nat) (s : State) : Host.Outcome State Fault Refusal :=
  s.issue core (fun op => op == 0x25) fun i s =>
    let c := s.core core
    if 8 ≤ c.stack.length then s.coreFault core 5
    else (s.setCore core { c with stack := (c.pc + 4) :: c.stack }).jump core (s.target core i (i.a != 0))

/-- RET pops; depth 0 faults with STACK. -/
def execRet (core : Nat) (s : State) : Host.Outcome State Fault Refusal :=
  s.issue core (fun op => op == 0x26) fun _ s =>
    let c := s.core core
    match c.stack with
    | [] => s.coreFault core 5
    | a :: st => (s.setCore core { c with stack := st }).jump core a

/-- HALT (R281, R284, R317): the owner has faulted; a queue entry ends with status 1, DETAIL 0, and its command processor serves
no queue until RUN. -/
def execHalt (core : Nat) (s : State) : Host.Outcome State Fault Refusal :=
  s.issue core (fun op => op == 0x3F) fun _ s =>
    let c := s.core core
    let s := s.setCore core { c.idle with pc := c.pc + 4 }
    let s := if (s.inEntry core).isSome then (s.entryEnd (core - 0x300) 1 0 c.pc).setNoServe (core - 0x300) true else s
    (s.ownerFail core 1).setCoreSt core 3

/-- RESERVED_OPCODE (R253, R258, R263): the word at the PC has a reserved opcode, or the PC is outside its range. -/
def execReservedOpcode (core : Nat) (s : State) : Host.Outcome State Fault Refusal :=
  if ¬ s.mayIssue core then .next s
  else if ¬ s.pcOk core then .next (s.coreFault core 2)
  else if reservedOp (s.word0 core / 2 ^ 26) then .next (s.coreFault core 1)
  else .next s

/-- WATCHDOG_EXPIRY (R285). -/
def execWatchdogExpiry (core : Nat) (s : State) : Host.Outcome State Fault Refusal :=
  let lim := s.f (fcLimit core)
  if (isTR core ∨ isTC core) ∧ s.coreSt core = 1 ∧ lim ≠ 0 ∧ 1024 * lim ≤ (s.core core).wdog then .next (s.coreFault core 7)
  else .next s

/-- PF_VECTOR (R286): within 3,200 ticks of a trip, every T-R core with PF_EN takes its vector. -/
def execPfVector (s : State) : Host.Outcome State Fault Refusal :=
  if s.on fDRV_PF_TRIPPED then .next (trCores.foldl (fun s o => s.pfVector o) s).wakeBanks else .next s

end Sys2Proof.Machine
end

