-- ==== Sys2Proof/Machine/ThoeneMem.lean ====
section
/-!
DEFINITION. Memory and device registers of the Thoene cores (R264, R265, R282), and the L form (R257).
-/
namespace Sys2Proof.Machine

def execLd (core : Nat) (s : State) : Host.Outcome State Fault Refusal :=
  s.issue core (fun op => op == 0x28) fun i s =>
    match s.localRead core (s.address core i) with
    | none => s.coreFault core 3
    | some (v, s) => (s.setG core i.d v).retireHot core i.d

def execSt (core : Nat) (s : State) : Host.Outcome State Fault Refusal :=
  s.issue core (fun op => op == 0x29) fun i s =>
    match s.localWrite core (s.address core i) (s.gw core i.d) with
    | none => s.coreFault core 3
    | some s => s.retire core 1

/-- Offsets of host-die blocks and of raster-die blocks (R718). -/
def hostDie (a : Nat) : Bool := decide (a < 0x01400000 ∨ (0x03400000 ≤ a ∧ a < 0x03800000))
def rasterDie (a : Nat) : Bool := decide (0x01E00000 ≤ a ∧ a < 0x03400000)

/-- An offset that faults with XADDR (R265). -/
def xaddrBad (o a : Nat) : Bool := a % 4 != 0 || decide (0x04000000 ≤ a) || (isTR o && hostDie a)

/-- LDX: a command processor's read of a raster-die block takes a TC1 round trip (R282). -/
def ldxRun (o : Nat) (i : Ins) (s : State) : State :=
  let a := s.address o i
  if xaddrBad o a then s.coreFault o 4
  else if isTC o ∧ rasterDie a then s.setCore o { s.core o with act := .load i.d a }
  else
    match s.busRead (.core o) a with
    | (v, s) => (s.setG o i.d (BitVec.ofNat 32 v)).retire o (if isTR o then 20 else 1)

/-- STX: writes of several cores to one register in one cycle apply in order of SELF, so that it waits for a lower core's. -/
def stxRun (o : Nat) (i : Ins) (s : State) : State :=
  let a := s.address o i
  if xaddrBad o a then s.coreFault o 4
  else if s.lowerIssues o fun c j => j.op == 0x2B && s.address c j == a && !xaddrBad c a then s
  else
    let c := s.core o
    let s := s.busWrite (.core o) a (s.gw o i.d).toNat
    if s.coreSt o = 1 ∧ (s.core o).pc = c.pc ∧ (s.core o).next = c.next then s.retire o 2 else s

def execLdx (core : Nat) (s : State) : Host.Outcome State Fault Refusal :=
  s.issue core (fun op => op == 0x2A) (ldxRun core)

def execStx (core : Nat) (s : State) : Host.Outcome State Fault Refusal :=
  s.issue core (fun op => op == 0x2B) (stxRun core)

/-- LDX_DONE: the data of a read of a raster-die block returns. -/
def execLdxDone (core : Nat) (s : State) : Host.Outcome State Fault Refusal :=
  match (s.core core).act with
  | .load d a =>
    match s.busRead (.core core) a with
    | (v, s) => .next ((s.setG core d (BitVec.ofNat 32 v)).retire core 1)
  | _ => .next s

end Sys2Proof.Machine
end

