-- ==== Sys2Proof/Machine/ThoeneWait.lean ====
section
/-!
DEFINITION. The waits of the Thoene cores (R266 to R272), FENCE (R279), their completions, and the L form (R257).
-/
namespace Sys2Proof.Machine

/-- A wait completes with its flag (R266, R285): the next instruction issues in the next cycle. -/
def State.waitDone (s : State) (o n : Nat) (flag : Bool) : State :=
  let s := (s.setFlag o n flag).setCoreSt o 1
  (s.setCore o { s.core o with wdog := 0 }).retire o 1

/-- The core waits. -/
def State.park (s : State) (o : Nat) (a : Act) : State := (s.setCore o { s.core o with act := a, ready := none }).setCoreSt o 2

/-- Is a line of the group in progress (R50, R269)? -/
def State.lineLive (s : State) (g : Nat) : Bool := (s.grp g).live && s.gState g != 0

/-- The start tick of the line current in a group; a free value where no line is in progress (log entry 31). -/
def State.lineStart (s : State) (g : Nat) : Nat × State :=
  if s.lineLive g then ((s.grp g).lineTick, s) else s.draw 64

/-- Is a line start, a frame start or a stop of the group due by now and not yet made? -/
def State.lineOwed (s : State) (g : Nat) : Bool :=
  match s.nextEv g with
  | .none => false
  | .line t => decide (t ≤ s.time.raster)
  | .zero t => decide (t ≤ s.time.raster)
  | .wait t => decide (t ≤ s.time.raster)
  | .stop t => decide (t ≤ s.time.raster)

/-- WAITL (R267, R268). A line that starts in the tick of issue counts as started: the instruction issues after it. -/
def execWaitl (core : Nat) (s : State) : Host.Outcome State Fault Refusal :=
  s.issue core (fun op => op == 0x30) fun i s =>
    let x := s.grp (s.coreGroup core)
    let sync := i.mode % 2 == 1
    if s.lineOwed (s.coreGroup core) then s else
    let target := s.waitSum core i
    let live := s.lineLive (s.coreGroup core)
    let passed := live && decide (x.waitTarget sync target ≤ x.line)
    if passed ∧ i.mode / 2 = 1 then s.waitDone core i.wn false
    else s.park core (.waitLine i.wn target sync (!passed) (if live then some x.line else none))

/-- WAITL_DONE (R268): a line start has decided the wait's flag. -/
def execWaitlDone (core : Nat) (s : State) : Host.Outcome State Fault Refusal :=
  match (s.core core).act, (s.core core).ready with
  | .waitLine n _ _ _ _, some b => .next (s.waitDone core n b)
  | _, _ => .next s

/-- Has the column come in the line in progress (R50, R269)? -/
def State.colReached (s : State) (g c : Nat) : Bool :=
  let x := s.grp g
  s.lineLive g && decide (c < x.cur.htotal) && (x.teWait.isSome || decide (x.colTick c ≤ s.time.raster))

/-- WAITC (R269). -/
def execWaitc (core : Nat) (s : State) : Host.Outcome State Fault Refusal :=
  s.issue core (fun op => op == 0x31) fun i s =>
    let c := s.waitSum core i
    if s.colReached (s.coreGroup core) c then s.waitDone core i.wn false else s.park core (.waitCol i.wn c)

/-- WAITC_DONE (R269). -/
def execWaitcDone (core : Nat) (s : State) : Host.Outcome State Fault Refusal :=
  match (s.core core).act with
  | .waitCol n c =>
    match (s.core core).ready with
    | some b => .next (s.waitDone core n b)
    | none => if s.colReached (s.coreGroup core) c then .next (s.waitDone core n true) else .next s
  | _ => .next s

/-- WAITE (R271, R272). -/
def execWaite (core : Nat) (s : State) : Host.Outcome State Fault Refusal :=
  s.issue core (fun op => op == 0x32) fun i s =>
    if bit (s.f (fcPend core)) i.imm = 1 then (s.putBit (fcPend core) i.imm false).waitDone core i.wn true
    else
      let t := (s.gw core i.d).toNat
      s.park core (.waitEvent i.wn i.imm (if t = 0 then none else some (s.clock core + t)))

/-- A WAITE ends with flag `n` at 0, its timeout at tick `t`: an occurrence of `src` later in that tick still wins (R272). -/
def State.waitExpire (s : State) (o n src t : Nat) : State :=
  let s := s.waitDone o n false
  s.setCore o { s.core o with expired := some (t, n, src) }

/-- WAITE_DONE (R272): the source has occurred, or the timeout has expired. -/
def execWaiteDone (core : Nat) (s : State) : Host.Outcome State Fault Refusal :=
  match (s.core core).act with
  | .waitEvent n src deadline =>
    match (s.core core).ready, deadline with
    | some b, _ => .next (s.waitDone core n b)
    | none, some t => if t ≤ s.clock core then .next (s.waitExpire core n src t) else .next s
    | none, none => .next s
  | _ => .next s

/-- Has device time reached the target of a WAITT (R270)? `low`: TIME_LO against a 32-bit target. -/
def State.timeReached (s : State) (o target : Nat) (low : Bool) : Bool :=
  if low then decide (0 ≤ sInt 32 (toField 32 ((s.clock o : Int) - target))) else decide (target ≤ s.clock o)

/-- WAITT (R270). -/
def waittRun (o : Nat) (i : Ins) (s : State) : State :=
  let v := s.waitSum o i
  let (target, s) := match i.mode with
    | 0 => (v, s)
    | 1 => match s.lineStart (s.coreGroup o) with
      | (t, s) => (t + v, s)
    | _ => (s.clock o + v, s)
  let low := i.mode == 0
  if s.timeReached o target low then s.waitDone o i.wn false else s.park o (.waitTime i.wn target low)

def execWaitt (core : Nat) (s : State) : Host.Outcome State Fault Refusal :=
  s.issue core (fun op => op == 0x33) (waittRun core)

/-- WAITT_DONE (R270). -/
def execWaittDone (core : Nat) (s : State) : Host.Outcome State Fault Refusal :=
  match (s.core core).act with
  | .waitTime n target low => if s.timeReached core target low then .next (s.waitDone core n true) else .next s
  | _ => .next s

/-! ## FENCE (R279) -/

/-- Events of a core that the merge has not taken. -/
def State.ownEvents (s : State) (o : Nat) : Nat := (s.ev.enRoute.filter fun e => e.origin == o).length

/-- Is an event that the core raised by EVENT, with a code of 0x4000 and up (R280), still to reach the merge? -/
def State.eventsOpen (s : State) (o : Nat) : Bool := s.ev.enRoute.any fun e => e.origin == o && decide (0x4000 ≤ e.code)

/-- Is a packet of the core still to leave its lane for the first time? -/
def State.emitsOpen (s : State) (o : Nat) : Bool :=
  s.ch.queues.any fun q => q.2.any fun k => k.core == o && !k.out && k.tries == 0

/-- Is an edge scheduled by the core still to be placed? -/
def State.edgesOpen (s : State) (o : Nat) : Bool := s.th.gto.any fun p => p.2.edges.any fun e => e.core == o

/-- Is a write to the frame store that the core caused still to complete: of a copy, a codec job, the readback of a table or a transfer
of the non-volatile store that it started? -/
def State.writesOpen (s : State) (o : Nat) : Bool :=
  (s.mem.copy.any fun c => c.by_ == o && c.dSpace == 0) || (s.codec.jobs.any fun j => j.by_ == o) ||
    (s.pix.tld.any fun t => t.by_ == o && t.dir == 1) || (s.nv.xfer.any fun x => x.by_ == o && decide (3 ≤ x.op)) || s.writesFor o

/-- Is the work a mask selects complete? A write of STX has taken effect when it retires (bit 0). -/
def State.fenceClear (s : State) (o mask : Nat) : Bool :=
  let m := if mask = 0 then 31 else mask
  !(bit m 1 == 1 && s.emitsOpen o) && !(bit m 2 == 1 && s.edgesOpen o) && !(bit m 3 == 1 && s.eventsOpen o) &&
    !(bit m 4 == 1 && isTC o && s.writesOpen o)

/-- The FENCE retires; its completion does not zero the watchdog. -/
def State.fenceEnd (s : State) (o : Nat) : State := (s.setCoreSt o 1).retire o 1

/-- FENCE. -/
def execFence (core : Nat) (s : State) : Host.Outcome State Fault Refusal :=
  s.issue core (fun op => op == 0x3D) fun i s =>
    if s.fenceClear core i.imm then s.retire core 1 else s.park core (.fence i.imm)

/-- FENCE_DONE. -/
def execFenceDone (core : Nat) (s : State) : Host.Outcome State Fault Refusal :=
  match (s.core core).act with
  | .fence mask => if s.fenceClear core mask then .next (s.fenceEnd core) else .next s
  | _ => .next s

/-! ## The L form (R257) -/

/-- L_FORM: the embedded instruction with the 32-bit immediate. -/
def execLForm (core : Nat) (s : State) : Host.Outcome State Fault Refusal :=
  s.issue core (fun op => op == 0x0E) fun i s =>
    match i.op with
    | 0x10 => aluRun core true (fun _ b => b) i s
    | 0x11 => aluRun core true (fun a b => a + b) i s
    | 0x13 => aluRun core false (fun a b => a &&& b) i s
    | 0x14 => aluRun core false (fun a b => a ||| b) i s
    | 0x15 => aluRun core false (fun a b => a ^^^ b) i s
    | 0x19 => aluRun core true minW i s
    | 0x1A => aluRun core true maxW i s
    | 0x1C => cmpRun core i s
    | 0x2A => ldxRun core i s
    | 0x2B => stxRun core i s
    | _ => waittRun core i s

end Sys2Proof.Machine
end

