-- ==== Sys2Proof/Machine/ThoeneEmit.lean ====
section
/-!
DEFINITION. Emission and gate timing (R273 to R277), and program events (R280), of the Thoene cores.
-/
namespace Sys2Proof.Machine

/-- TYPE and slot kind of an EMIT's KIND (R273, R364, R400). -/
def emitKind : Nat → Nat × Nat
  | 0 => (2, 1)
  | 1 => (3, 1)
  | 2 => (5, 2)
  | 3 => (5, 3)
  | _ => (8, 1)

/-- The buffer of an EMIT at a local address: N, then N payload words; none where it leaves data memory (R273, R274). A word 0
whose N is out of range names no payload. -/
def State.emitBuffer (s : State) (o a : Nat) : Option (Nat × List Nat) :=
  let ok := fun (w : Nat) => decide (w < dmemWords o)
  if a % 4 ≠ 0 ∨ ¬ ok (a / 4) then none
  else
    let n := s.dmem o (a / 4) % 256
    if n = 0 ∨ 64 < n then some (n, [])
    else if ¬ ok (a / 4 + n) then none
    else some (n, (List.range n).map fun k => s.dmem o (a / 4 + 1 + k))

/-- EMIT (R273, R274, R275, R282). `mism`: the queue's pointer copies differ at the push (R644). -/
def emitRun (o : Nat) (mism : Bool) (i : Ins) (s : State) : State :=
  let gb := (s.gw o i.b).toNat
  let c := bitsOf gb 11 4
  let p := gb % 16
  match s.emitBuffer o (s.gw o i.a).toNat with
  | none => s.coreFault o 3
  | some (n, words) =>
    if s.chainOwner c ≠ some (s.coreGroup o) then s.coreFault o 6
    else if words = [] then (s.setFlag o i.xn false).retire o 4
    else
      let s := if mism then s.partnerReset c p else s
      let (typ, kind) := emitKind (bitsOf i.x 5 3)
      let cycles := 4 + (n + 3) / 4
      let retire := s.clock o + (cycles - 1) * (if o = 0x440 then 16 else 1)
      match s.enqueue c p ⟨typ, kind, words, o, retire + 64, 0, none, false, 0, 0, 0, false⟩ with
      | (true, s) => (s.setFlag o i.xn true).retire o cycles
      | (false, s) => (s.setFlag o i.xn false).retire o 4

def execEmit (core : Nat) (mism : Bool) (s : State) : Host.Outcome State Fault Refusal :=
  s.issue core (fun op => op == 0x34) (emitRun core mism)

/-- Edges that a gate instruction of core `o` schedules (R276). -/
def State.gateEdges (s : State) (o : Nat) (i : Ins) : Nat :=
  if i.op ≠ 0x37 then 1 else if (s.gw o i.ga).toNat / 65536 = 0 then 0 else 2

/-- A gate instruction (R276, R277): edges at offsets from its base; it stalls while its pin has too few free entries. Edges of several
cores for one pin in one cycle are scheduled in order of SELF, so that it waits for a lower core's. -/
def gateRun (o : Nat) (i : Ins) (ofs : Int) (edges : List (Nat × Bool)) (s : State) : State :=
  if ¬ s.pinOf i.pin (s.coreGroup o) then s.coreFault o 6
  else if 8 < (s.pin i.pin).edges.length + edges.length then s
  else if s.lowerIssues o fun c j => decide (0x35 ≤ j.op ∧ j.op ≤ 0x37) && j.pin == i.pin && s.pinOf j.pin (s.coreGroup c) &&
      decide ((s.pin j.pin).edges.length + s.gateEdges c j ≤ 8) then s
  else
    let (base, s) := if i.gmode = 1 then (s.clock o, s) else s.lineStart (s.coreGroup o)
    (edges.foldl (fun s e => s.schedule i.pin o ((base : Int) + ofs + i.goff + e.1) e.2) s).retire o 1

def execGset (core : Nat) (s : State) : Host.Outcome State Fault Refusal :=
  s.issue core (fun op => op == 0x35) fun i s => gateRun core i (s.gw core i.ga).toInt [(0, true)] s

def execGclr (core : Nat) (s : State) : Host.Outcome State Fault Refusal :=
  s.issue core (fun op => op == 0x36) fun i s => gateRun core i (s.gw core i.ga).toInt [(0, false)] s

/-- GPULSE: Ga[31:16] is the width, Ga[15:0] the offset; a width of 0 schedules nothing. -/
def execGpulse (core : Nat) (s : State) : Host.Outcome State Fault Refusal :=
  s.issue core (fun op => op == 0x37) fun i s =>
    let v := (s.gw core i.ga).toNat
    gateRun core i (v % 65536 : Nat) (if v / 65536 = 0 then [] else [(0, true), (v / 65536, false)]) s

/-- EVENT (R280): it stalls while sixteen events of the core wait for the merge. -/
def execEvent (core : Nat) (s : State) : Host.Outcome State Fault Refusal :=
  s.issue core (fun op => op == 0x3E) fun i s =>
    if 16 ≤ s.ownEvents core then s
    else
      (s.raise (0x4000 + i.goff) core (s.coreLocus core)
        [(32, (s.gw core i.d).toNat), (32, (s.gw core i.a).toNat), (32, 0), (32, (s.core core).pc)]).retire core 1

end Sys2Proof.Machine
end

