-- ==== Sys2Proof/Machine/ThoeneTxn.lean ====
section
/-!
DEFINITION. The transaction and lock instructions of the Thoene cores (R278, R319 to R328). On a T-R core they take a TC1 round
trip and act when its reply comes (R282).
-/
namespace Sys2Proof.Machine

/-- A COMMIT leaves core `o` (R271, R278, R324): a command processor's goes over TC1, a sequencer's arrives as it retires. -/
def State.commitFrom (s : State) (o : Nat) (c : Commit) : State :=
  if isTR o then s.arriveCommit c
  else
    let s := { s with transit := s.transit ++ [c] }
    match s.inEntry o with
    | some e => s.setEntry (o - 0x300) (some { e with commits := c.cseq :: e.commits })
    | none => s

/-- Owners whose LOCK of lock `n` the command processors issue in this cycle (R328); a sequencer's request is made in the tick of its
LOCK_TXN_REPLY. -/
def State.lockRivals (s : State) (n : Nat) : List Nat :=
  ((List.range 8).map fun c => 0x300 + c).filterMap fun c =>
    match s.nextIns c with
    | some j => if j.op = 0x3B ∧ (s.gw c j.a).toNat % 1024 = n then some (s.owner c) else none
    | none => none

/-- The requests for lock `n` of this cycle, `own`'s among them, in order of owner identity (R646). -/
def State.lockReqs (s : State) (own n : Nat) : List Nat :=
  (List.range 0x441).filter fun w => w == own || (s.lockRivals n).contains w

/-- The round of a free lock's arbiter among the requests of this cycle (R328, R646, R647): whether `own` is taken, and the ages after
it. -/
def State.lockRound (s : State) (own n : Nat) : Bool × State :=
  match s.arbRound (arbLock n) (fun _ => 0) (s.lockReqs own n) (s.lockReqs own n) with
  | (w, t) => if w = some own then (true, t) else (false, s)

/-- LOCK: a request that another of the same cycle goes before waits for it, and then finds the lock taken. -/
def lockRun (o d n lock : Nat) (s : State) : State :=
  let own := s.owner o
  let free := s.f (fCPR_LOCK_STATUS lock) != 3
  match (if free then s.lockRound own lock else (true, s)) with
  | (false, s) => s
  | (true, s) =>
    match s.lockTake own lock with
    | (st, ok, s) => ((s.setG o d (BitVec.ofNat 32 st)).setFlag o n ok).retire o 1

/-- What a transaction or lock instruction does (R278). A queue's COMMIT waits for the frame-store writes of its copies (R47, R324; log
99). A COMMIT that stops its own core by a program swap (R687) goes no further. -/
def txnRun (o op d ga n : Nat) (s : State) : State :=
  let own := s.owner o
  match op with
  | 0x38 => match s.txnBegin own with
    | (ok, s) => (s.setFlag o n ok).retire o 1
  | 0x39 =>
    if own < 512 ∧ (s.txnSlot own).isSome ∧ s.copiesOf own then s else
    match s.txnCommit own (ga % 16) with
    | (none, s) => ((s.setG o d 0).setFlag o n false).retire o 1
    | (some c, s) =>
      let s := ((s.commitFrom o c).setG o d (BitVec.ofNat 32 c.cseq)).setFlag o n true
      if s.coreSt o = 1 then s.retire o 1 else s
  | 0x3A => (s.txnAbort own).retire o 1
  | 0x3B => lockRun o d n (ga % 1024) s
  | _ => match s.lockFree own (ga % 1024) with
    | (ok, s) => (s.setFlag o n ok).retire o 1

/-- Issue of such an instruction: a T-R core holds until the reply. -/
def txnIssue (o : Nat) (i : Ins) (s : State) : State :=
  let ga := (s.gw o i.a).toNat
  if i.op = 0x39 ∧ isTR o ∧ ga % 16 ≠ s.coreGroup o then s.coreFault o 6
  else if isTR o then s.setCore o { s.core o with act := .trip i.op i.d ga i.xn }
  else txnRun o i.op i.d ga i.xn s

def execTbegin (core : Nat) (s : State) : Host.Outcome State Fault Refusal :=
  s.issue core (fun op => op == 0x38) (txnIssue core)

def execCommit (core : Nat) (s : State) : Host.Outcome State Fault Refusal :=
  s.issue core (fun op => op == 0x39) (txnIssue core)

def execAbort (core : Nat) (s : State) : Host.Outcome State Fault Refusal :=
  s.issue core (fun op => op == 0x3A) (txnIssue core)

def execLock (core : Nat) (s : State) : Host.Outcome State Fault Refusal :=
  s.issue core (fun op => op == 0x3B) (txnIssue core)

def execUnlock (core : Nat) (s : State) : Host.Outcome State Fault Refusal :=
  s.issue core (fun op => op == 0x3C) (txnIssue core)

/-- LOCK_TXN_REPLY (R282): the reply of the host die reaches a T-R core. -/
def execLockTxnReply (core : Nat) (s : State) : Host.Outcome State Fault Refusal :=
  match (s.core core).act with
  | .trip op d ga n => .next (txnRun core op d ga n s)
  | _ => .next s

end Sys2Proof.Machine
end

