-- ==== Sys2Proof/Machine/Dispatch.lean ====
section
/-!
DEFINITION. The dispatch of commands: one arm per constructor of `Instr`.
-/
namespace Sys2Proof.Machine

def exec (i : Instr) (s : State) : Host.Outcome State Fault Refusal :=
  match i with
  | .regWrite req addr data => Sys2Proof.Machine.execRegWrite req addr data s
  | .porstAssert => Sys2Proof.Machine.execPorstAssert s
  | .porstDeassert => Sys2Proof.Machine.execPorstDeassert s
  | .stageComplete stage rep => Sys2Proof.Machine.execStageComplete stage rep s
  | .stageTimeout stage => Sys2Proof.Machine.execStageTimeout stage s
  | .pllRetry locked => Sys2Proof.Machine.execPllRetry locked s
  | .flitReceive dir lg flit => Sys2Proof.Machine.execFlitReceive dir lg flit s
  | .flitSlot dir lg tc0 tc1 tc2 tc3 cred crtc => Sys2Proof.Machine.execFlitSlot dir lg tc0 tc1 tc2 tc3 cred crtc s
  | .replayTimeout dir lg => Sys2Proof.Machine.execReplayTimeout dir lg s
  | .laneGroupRetrain dir lg => Sys2Proof.Machine.execLaneGroupRetrain dir lg s
  | .retrainDone dir lg failed => Sys2Proof.Machine.execRetrainDone dir lg failed s
  | .linkMgmtFlit dir lg lastSeq => Sys2Proof.Machine.execLinkMgmtFlit dir lg lastSeq s
  | .clockSourceLoss src => Sys2Proof.Machine.execClockSourceLoss src s
  | .clockSourceReturn src => Sys2Proof.Machine.execClockSourceReturn src s
  | .tsyncSend => Sys2Proof.Machine.execTsyncSend s
  | .tsyncSample arrival rtt replayed => Sys2Proof.Machine.execTsyncSample arrival rtt replayed s
  | .tsyncHoldover => Sys2Proof.Machine.execTsyncHoldover s
  | .evtTimeLoRead req => Sys2Proof.Machine.execEvtTimeLoRead req s
  | .eventMergeArrival k => Sys2Proof.Machine.execEventMergeArrival k s
  | .eventRelease => Sys2Proof.Machine.execEventRelease s
  | .groupRun req g data => Sys2Proof.Machine.execGroupRun req g data s
  | .groupStop req g data => Sys2Proof.Machine.execGroupStop req g data s
  | .groupResume req g data => Sys2Proof.Machine.execGroupResume req g data s
  | .groupEnterStopped g => Sys2Proof.Machine.execGroupEnterStopped g s
  | .lineStart g => Sys2Proof.Machine.execLineStart g s
  | .syncoutPulseEnd g => Sys2Proof.Machine.execSyncoutPulseEnd g s
  | .cutoff g => Sys2Proof.Machine.execCutoff g s
  | .latch g => Sys2Proof.Machine.execLatch g s
  | .commitArrival => Sys2Proof.Machine.execCommitArrival s
  | .syncinEdge pin level stamp => Sys2Proof.Machine.execSyncinEdge pin level stamp s
  | .teEdge g level stamp => Sys2Proof.Machine.execTeEdge g level stamp s
  | .teWaitBegin g => Sys2Proof.Machine.execTeWaitBegin g s
  | .teTimeout g => Sys2Proof.Machine.execTeTimeout g s
  | .slotStart c slot => Sys2Proof.Machine.execSlotStart c slot s
  | .tmgFrameLoRead req g => Sys2Proof.Machine.execTmgFrameLoRead req g s
  | .tmgLatchLoRead req g => Sys2Proof.Machine.execTmgLatchLoRead req g s
  | .srSleepSet req data => Sys2Proof.Machine.execSrSleepSet req data s
  | .srSleepClear req data => Sys2Proof.Machine.execSrSleepClear req data s
  | .pipeSpan g line span => Sys2Proof.Machine.execPipeSpan g line span s
  | .tableLoad req data => Sys2Proof.Machine.execTableLoad req data s
  | .tableReadback req data => Sys2Proof.Machine.execTableReadback req data s
  | .tldDone rounds => Sys2Proof.Machine.execTldDone rounds s
  | .fstReadDone addr err cls => Sys2Proof.Machine.execFstReadDone addr err cls s
  | .scrubRead refused err => Sys2Proof.Machine.execScrubRead refused err s
  | .refreshInterval pc busy => Sys2Proof.Machine.execRefreshInterval pc busy s
  | .stackIdle stack => Sys2Proof.Machine.execStackIdle stack s
  | .stackExitDone stack => Sys2Proof.Machine.execStackExitDone stack s
  | .strudelConfigWrite req addr data => Sys2Proof.Machine.execStrudelConfigWrite req addr data s
  | .codecSubmit req data => Sys2Proof.Machine.execCodecSubmit req data s
  | .codecEncode => Sys2Proof.Machine.execCodecEncode s
  | .codecRelease => Sys2Proof.Machine.execCodecRelease s
  | .codecBlockDone e mismatch rounds => Sys2Proof.Machine.execCodecBlockDone e mismatch rounds s
  | .cellRelease => Sys2Proof.Machine.execCellRelease s
  | .encoderRelease req data => Sys2Proof.Machine.execEncoderRelease req data s
  | .blockFetchDone p bx by_ => Sys2Proof.Machine.execBlockFetchDone p bx by_ s
  | .tileFetchTimeout p bx by_ dec => Sys2Proof.Machine.execTileFetchTimeout p bx by_ dec s
  | .blockDecodeDone p bx by_ dec => Sys2Proof.Machine.execBlockDecodeDone p bx by_ dec s
  | .nop core => Sys2Proof.Machine.execNop core s
  | .add core => Sys2Proof.Machine.execAdd core s
  | .sub core => Sys2Proof.Machine.execSub core s
  | .and core => Sys2Proof.Machine.execAnd core s
  | .or core => Sys2Proof.Machine.execOr core s
  | .xor core => Sys2Proof.Machine.execXor core s
  | .shl core => Sys2Proof.Machine.execShl core s
  | .shr core => Sys2Proof.Machine.execShr core s
  | .sra core => Sys2Proof.Machine.execSra core s
  | .min core => Sys2Proof.Machine.execMin core s
  | .max core => Sys2Proof.Machine.execMax core s
  | .mul16 core => Sys2Proof.Machine.execMul16 core s
  | .cmp core => Sys2Proof.Machine.execCmp core s
  | .ldi core => Sys2Proof.Machine.execLdi core s
  | .lui core => Sys2Proof.Machine.execLui core s
  | .lForm core => Sys2Proof.Machine.execLForm core s
  | .beq core => Sys2Proof.Machine.execBeq core s
  | .bne core => Sys2Proof.Machine.execBne core s
  | .blt core => Sys2Proof.Machine.execBlt core s
  | .bge core => Sys2Proof.Machine.execBge core s
  | .j core => Sys2Proof.Machine.execJ core s
  | .call core => Sys2Proof.Machine.execCall core s
  | .ret core => Sys2Proof.Machine.execRet core s
  | .ld core => Sys2Proof.Machine.execLd core s
  | .st core => Sys2Proof.Machine.execSt core s
  | .ldx core => Sys2Proof.Machine.execLdx core s
  | .ldxDone core => Sys2Proof.Machine.execLdxDone core s
  | .stx core => Sys2Proof.Machine.execStx core s
  | .waitl core => Sys2Proof.Machine.execWaitl core s
  | .waitlDone core => Sys2Proof.Machine.execWaitlDone core s
  | .waitc core => Sys2Proof.Machine.execWaitc core s
  | .waitcDone core => Sys2Proof.Machine.execWaitcDone core s
  | .waite core => Sys2Proof.Machine.execWaite core s
  | .waiteDone core => Sys2Proof.Machine.execWaiteDone core s
  | .waitt core => Sys2Proof.Machine.execWaitt core s
  | .waittDone core => Sys2Proof.Machine.execWaittDone core s
  | .fence core => Sys2Proof.Machine.execFence core s
  | .fenceDone core => Sys2Proof.Machine.execFenceDone core s
  | .emit core mism => Sys2Proof.Machine.execEmit core mism s
  | .gset core => Sys2Proof.Machine.execGset core s
  | .gclr core => Sys2Proof.Machine.execGclr core s
  | .gpulse core => Sys2Proof.Machine.execGpulse core s
  | .gtoEdgePlace p => Sys2Proof.Machine.execGtoEdgePlace p s
  | .tbegin core => Sys2Proof.Machine.execTbegin core s
  | .commit core => Sys2Proof.Machine.execCommit core s
  | .abort core => Sys2Proof.Machine.execAbort core s
  | .lock core => Sys2Proof.Machine.execLock core s
  | .unlock core => Sys2Proof.Machine.execUnlock core s
  | .event core => Sys2Proof.Machine.execEvent core s
  | .halt core => Sys2Proof.Machine.execHalt core s
  | .watchdogExpiry core => Sys2Proof.Machine.execWatchdogExpiry core s
  | .pfVector => Sys2Proof.Machine.execPfVector s
  | .coreRun req core data => Sys2Proof.Machine.execCoreRun req core data s
  | .coreStop req core data => Sys2Proof.Machine.execCoreStop req core data s
  | .mboxWrite req core data => Sys2Proof.Machine.execMboxWrite req core data s
  | .coreMemWindowWrite req addr data => Sys2Proof.Machine.execCoreMemWindowWrite req addr data s
  | .doorbell req q bar2 data => Sys2Proof.Machine.execDoorbell req q bar2 data s
  | .entryTake cp => Sys2Proof.Machine.execEntryTake cp s
  | .entryFetchDone cp host => Sys2Proof.Machine.execEntryFetchDone cp host s
  | .trailerCheckDone => Sys2Proof.Machine.execTrailerCheckDone s
  | .entryRelease q => Sys2Proof.Machine.execEntryRelease q s
  | .queueRun req q data => Sys2Proof.Machine.execQueueRun req q data s
  | .queueStop req q data => Sys2Proof.Machine.execQueueStop req q data s
  | .cxlQReset req q data => Sys2Proof.Machine.execCxlQReset req q data s
  | .commitResultReport => Sys2Proof.Machine.execCommitResultReport s
  | .mpTbegin data => Sys2Proof.Machine.execMpTbegin data s
  | .mpCommit data => Sys2Proof.Machine.execMpCommit data s
  | .mpAbort data => Sys2Proof.Machine.execMpAbort data s
  | .mpLock data => Sys2Proof.Machine.execMpLock data s
  | .mpUnlock data => Sys2Proof.Machine.execMpUnlock data s
  | .mpTargetReset => Sys2Proof.Machine.execMpTargetReset s
  | .lockBreak req data => Sys2Proof.Machine.execLockBreak req data s
  | .laneEnable req l data => Sys2Proof.Machine.execLaneEnable req l data s
  | .blockLockGained l => Sys2Proof.Machine.execBlockLockGained l s
  | .blockLockLost l => Sys2Proof.Machine.execBlockLockLost l s
  | .invalidBlock l => Sys2Proof.Machine.execInvalidBlock l s
  | .alignSend bundle => Sys2Proof.Machine.execAlignSend bundle s
  | .alignReturn c isLocal lat => Sys2Proof.Machine.execAlignReturn c isLocal lat s
  | .enumSend c => Sys2Proof.Machine.execEnumSend c s
  | .enumReturn c count ovf => Sys2Proof.Machine.execEnumReturn c count ovf s
  | .ackReceive c pid seq => Sys2Proof.Machine.execAckReceive c pid seq s
  | .nakReceive c pid seq reason kind => Sys2Proof.Machine.execNakReceive c pid seq reason kind s
  | .rdrReceive c pid seq words mism => Sys2Proof.Machine.execRdrReceive c pid seq words mism s
  | .snsReceive c pid seq words mism => Sys2Proof.Machine.execSnsReceive c pid seq words mism s
  | .retryTimeout c pos sp => Sys2Proof.Machine.execRetryTimeout c pos sp s
  | .freeSlot c => Sys2Proof.Machine.execFreeSlot c s
  | .reenumerate req l data => Sys2Proof.Machine.execReenumerate req l data s
  | .queueFlush req l data => Sys2Proof.Machine.execQueueFlush req l data s
  | .txSleep l => Sys2Proof.Machine.execTxSleep l s
  | .txWake l => Sys2Proof.Machine.execTxWake l s
  | .txWakeDone l => Sys2Proof.Machine.execTxWakeDone l s
  | .rxSleep l => Sys2Proof.Machine.execRxSleep l s
  | .rxWake l => Sys2Proof.Machine.execRxWake l s
  | .spareAutoSwitch c => Sys2Proof.Machine.execSpareAutoSwitch c s
  | .txDriverFault l low => Sys2Proof.Machine.execTxDriverFault l low s
  | .spareForce req k data => Sys2Proof.Machine.execSpareForce req k data s
  | .spareRelease req k data => Sys2Proof.Machine.execSpareRelease req k data s
  | .spareSwitchTimeout k => Sys2Proof.Machine.execSpareSwitchTimeout k s
  | .failedRetry c => Sys2Proof.Machine.execFailedRetry c s
  | .inject req l data => Sys2Proof.Machine.execInject req l data s
  | .injectRepeat l => Sys2Proof.Machine.execInjectRepeat l s
  | .upqDataRead req g => Sys2Proof.Machine.execUpqDataRead req g s
  | .upqPop req g data mism => Sys2Proof.Machine.execUpqPop req g data mism s
  | .railPowerUp req g data => Sys2Proof.Machine.execRailPowerUp req g data s
  | .railPowerDown req g data => Sys2Proof.Machine.execRailPowerDown req g data s
  | .railOnDelay g => Sys2Proof.Machine.execRailOnDelay g s
  | .railOffDelay g => Sys2Proof.Machine.execRailOffDelay g s
  | .railgoodEdge r level => Sys2Proof.Machine.execRailgoodEdge r level s
  | .railTimeout r => Sys2Proof.Machine.execRailTimeout r s
  | .railForceOn req data => Sys2Proof.Machine.execRailForceOn req data s
  | .railForceOff req data => Sys2Proof.Machine.execRailForceOff req data s
  | .railForceRelease req data => Sys2Proof.Machine.execRailForceRelease req data s
  | .pfTrip pinLow vinLow => Sys2Proof.Machine.execPfTrip pinLow vinLow s
  | .pfDischarge => Sys2Proof.Machine.execPfDischarge s
  | .trippedClear req data pinLow vinLow => Sys2Proof.Machine.execTrippedClear req data pinLow vinLow s
  | .panelTempPoll g => Sys2Proof.Machine.execPanelTempPoll g s
  | .panelTempReadDone g ok raw => Sys2Proof.Machine.execPanelTempReadDone g ok raw s
  | .bisRequest req g data => Sys2Proof.Machine.execBisRequest req g data s
  | .bisBlockFetchDone g mode band err => Sys2Proof.Machine.execBisBlockFetchDone g mode band err s
  | .journalScan req data => Sys2Proof.Machine.execJournalScan req data s
  | .bonbonEnter req data => Sys2Proof.Machine.execBonbonEnter req data s
  | .bonbonSend req data => Sys2Proof.Machine.execBonbonSend req data s
  | .bonbonExit req data => Sys2Proof.Machine.execBonbonExit req data s
  | .calPeriod cls => Sys2Proof.Machine.execCalPeriod cls s
  | .calGo req data => Sys2Proof.Machine.execCalGo req data s
  | .calApply item a b err => Sys2Proof.Machine.execCalApply item a b err s
  | .calRunTimeout item => Sys2Proof.Machine.execCalRunTimeout item s
  | .calValWrite req item data => Sys2Proof.Machine.execCalValWrite req item data s
  | .calSave req data => Sys2Proof.Machine.execCalSave req data s
  | .calLoad req data => Sys2Proof.Machine.execCalLoad req data s
  | .calTsLoRead req item => Sys2Proof.Machine.execCalTsLoRead req item s
  | .tempSensorUpdate n raw => Sys2Proof.Machine.execTempSensorUpdate n raw s
  | .railMonitorUpdate n raw => Sys2Proof.Machine.execRailMonitorUpdate n raw s
  | .foldEnable req g data => Sys2Proof.Machine.execFoldEnable req g data s
  | .foldDisable req g data => Sys2Proof.Machine.execFoldDisable req g data s
  | .foldWritesDone g => Sys2Proof.Machine.execFoldWritesDone g s
  | .foldReplayDone g => Sys2Proof.Machine.execFoldReplayDone g s
  | .foldRetry g => Sys2Proof.Machine.execFoldRetry g s
  | .hostHotReset => Sys2Proof.Machine.execHostHotReset s
  | .perstAssert => Sys2Proof.Machine.execPerstAssert s
  | .linkLoss => Sys2Proof.Machine.execLinkLoss s
  | .linkUp rate width cxl lopt => Sys2Proof.Machine.execLinkUp rate width cxl lopt s
  | .flr func => Sys2Proof.Machine.execFlr func s
  | .cxlReset => Sys2Proof.Machine.execCxlReset s
  | .cxlCacheAvailable => Sys2Proof.Machine.execCxlCacheAvailable s
  | .cxlCacheUnavailable => Sys2Proof.Machine.execCxlCacheUnavailable s
  | .hdmCommit base size memEnable => Sys2Proof.Machine.execHdmCommit base size memEnable s
  | .cxlmemRead hpa cache => Sys2Proof.Machine.execCxlmemRead hpa cache s
  | .cxlmemWrite hpa bytes mask wb => Sys2Proof.Machine.execCxlmemWrite hpa bytes mask wb s
  | .biResponse line => Sys2Proof.Machine.execBiResponse line s
  | .biTimeout line => Sys2Proof.Machine.execBiTimeout line s
  | .cacheReadDone line bytes failed p => Sys2Proof.Machine.execCacheReadDone line bytes failed p s
  | .cacheReadTimeout line => Sys2Proof.Machine.execCacheReadTimeout line s
  | .cdatRead => Sys2Proof.Machine.execCdatRead s
  | .identifyMemoryDevice => Sys2Proof.Machine.execIdentifyMemoryDevice s
  | .getSupportedLogs => Sys2Proof.Machine.execGetSupportedLogs s
  | .getLog log n => Sys2Proof.Machine.execGetLog log n s
  | .getEventRecords log => Sys2Proof.Machine.execGetEventRecords log s
  | .clearEventRecords log n => Sys2Proof.Machine.execClearEventRecords log n s
  | .getEventInterruptPolicy => Sys2Proof.Machine.execGetEventInterruptPolicy s
  | .setEventInterruptPolicy policy => Sys2Proof.Machine.execSetEventInterruptPolicy policy s
  | .getHealthInfo => Sys2Proof.Machine.execGetHealthInfo s
  | .getPoisonList => Sys2Proof.Machine.execGetPoisonList s
  | .mailboxUnsupported opcode => Sys2Proof.Machine.execMailboxUnsupported opcode s
  | .getVersion => Sys2Proof.Machine.execGetVersion s
  | .getCapabilities => Sys2Proof.Machine.execGetCapabilities s
  | .negotiateAlgorithms offered => Sys2Proof.Machine.execNegotiateAlgorithms offered s
  | .getDigests => Sys2Proof.Machine.execGetDigests s
  | .getCertificate slot ofs n => Sys2Proof.Machine.execGetCertificate slot ofs n s
  | .challenge nonce => Sys2Proof.Machine.execChallenge nonce s
  | .getMeasurements sign nonce => Sys2Proof.Machine.execGetMeasurements sign nonce s
  | .keyExchange transport authority => Sys2Proof.Machine.execKeyExchange transport authority s
  | .heartbeat session => Sys2Proof.Machine.execHeartbeat session s
  | .vendorDefinedRequest session blob => Sys2Proof.Machine.execVendorDefinedRequest session blob s
  | .evrHeadWrite req k data => Sys2Proof.Machine.execEvrHeadWrite req k data s
  | .evrEnable req k data => Sys2Proof.Machine.execEvrEnable req k data s
  | .msixTimer k => Sys2Proof.Machine.execMsixTimer k s
  | .msixUnmask func vec => Sys2Proof.Machine.execMsixUnmask func vec s
  | .keyLoadBlob req data => Sys2Proof.Machine.execKeyLoadBlob req data s
  | .lcRequest req data => Sys2Proof.Machine.execLcRequest req data s
  | .debugUnlock req data => Sys2Proof.Machine.execDebugUnlock req data s
  | .tamper => Sys2Proof.Machine.execTamper s
  | .secSlotCtrLoRead req n => Sys2Proof.Machine.execSecSlotCtrLoRead req n s
  | .recordWindowWrite req ofs data => Sys2Proof.Machine.execRecordWindowWrite req ofs data s
  | .recordJob req data => Sys2Proof.Machine.execRecordJob req data s
  | .recordAccept => Sys2Proof.Machine.execRecordAccept s
  | .flushProgramDone => Sys2Proof.Machine.execFlushProgramDone s
  | .sectorEraseDone sec => Sys2Proof.Machine.execSectorEraseDone sec s
  | .dumpCopyDone => Sys2Proof.Machine.execDumpCopyDone s
  | .counterIncrement req data => Sys2Proof.Machine.execCounterIncrement req data s
  | .nvsCntLoRead req n => Sys2Proof.Machine.execNvsCntLoRead req n s
  | .nvsErase req data => Sys2Proof.Machine.execNvsErase req data s
  | .nvsProgram req data => Sys2Proof.Machine.execNvsProgram req data s
  | .nvsReadSlot req data => Sys2Proof.Machine.execNvsReadSlot req data s
  | .nvsReadLog req data => Sys2Proof.Machine.execNvsReadLog req data s
  | .xferUnitDone deferred misread => Sys2Proof.Machine.execXferUnitDone deferred misread s
  | .imageActivate req data => Sys2Proof.Machine.execImageActivate req data s
  | .cpQuiescent cp => Sys2Proof.Machine.execCpQuiescent cp s
  | .cpSwap cp => Sys2Proof.Machine.execCpSwap cp s
  | .activationTimeout => Sys2Proof.Machine.execActivationTimeout s
  | .bankPowerRequest req b data => Sys2Proof.Machine.execBankPowerRequest req b data s
  | .bankRetentionIdle b => Sys2Proof.Machine.execBankRetentionIdle b s
  | .bankInitDone b => Sys2Proof.Machine.execBankInitDone b s
  | .sramRead b word err use => Sys2Proof.Machine.execSramRead b word err use s
  | .marchStart req data => Sys2Proof.Machine.execMarchStart req data s
  | .marchAbort req data => Sys2Proof.Machine.execMarchAbort req data s
  | .marchDone bad => Sys2Proof.Machine.execMarchDone bad s
  | .arbRound arb reqs scan => Sys2Proof.Machine.execArbRound arb reqs scan s
  | .arbApply req data => Sys2Proof.Machine.execArbApply req data s
  | .arbApplyRaster => Sys2Proof.Machine.execArbApplyRaster s
  | .requesterMask n withdrawn => Sys2Proof.Machine.execRequesterMask n withdrawn s
  | .copyStart req data => Sys2Proof.Machine.execCopyStart req data s
  | .copyDone rounds reason bytes => Sys2Proof.Machine.execCopyDone rounds reason bytes s
  | .h2dSnoop line => Sys2Proof.Machine.execH2dSnoop line s
  | .perstDeassert => Sys2Proof.Machine.execPerstDeassert s
  | .unclaimedPacket c bcast => Sys2Proof.Machine.execUnclaimedPacket c bcast s
  | .upstreamBadCrc c => Sys2Proof.Machine.execUpstreamBadCrc c s
  | .reservedOpcode core => Sys2Proof.Machine.execReservedOpcode core s
  | .lockTxnReply core => Sys2Proof.Machine.execLockTxnReply core s
  | .requesterUnmask n => Sys2Proof.Machine.execRequesterUnmask n s
  | .l1Entry => Sys2Proof.Machine.execL1Entry s
  | .l1Exit => Sys2Proof.Machine.execL1Exit s
  | .ideKm session stream active => Sys2Proof.Machine.execIdeKm session stream active s
  | .d3hot func on => Sys2Proof.Machine.execD3hot func on s

end Sys2Proof.Machine
end

