-- ==== Sys2Proof/Machine/Tick.lean ====
section
/-!
DEFINITION. What one HCORE cycle does whatever is commanded (R32 to R34, R285): the clocks advance, and the watchdogs of the
cores that execute count. It is what a step on an empty queue is (log entry 32).
-/
namespace Sys2Proof.Machine

/-- One cycle of a core's watchdog (R285): it counts while the core is RUNNING, not inside a wait or a FENCE. -/
def State.dogCycle (s : State) (o : Nat) : State :=
  if s.coreSt o = 1 then s.setCore o { s.core o with wdog := (s.core o).wdog + 1 } else s

/-- One HCORE cycle; nothing moves while PORST_N is asserted. A cycle of SQA ends every 16 ticks of the copy (R251). -/
def State.tick (s : State) : State :=
  if s.boot.porst then s
  else
    let sqa := (tickTime s.time (s.on fDRV_BON_CTRL_ACTIVE)).raster / 16 != s.time.raster / 16
    let s := { s with time := tickTime s.time (s.on fDRV_BON_CTRL_ACTIVE) }
    let s := s.setOn fEVT_TSYNC_STATUS_SLEWING (s.time.corr != 0)
    allCores.foldl (fun s o => if o = 0x440 ∧ ¬ sqa then s else s.dogCycle o) s

end Sys2Proof.Machine
end

