-- ==== Sys2Proof/Safety.lean ====
section
/-!
DEFINITION. What counts as a safe state and a safe step: the sparse maps of the frame store and of the registers stand in their
canonical form, and a step answers a next state that is safe again.
-/
namespace Sys2Proof.Machine

/-- The frame store's bytes and poison marks stand in canonical form (R190, R193). -/
def Memory.wf (s : State) : Bool := smWf (fun _ => 0#8) s.fs.mem && smWf (fun _ => false) s.fs.poison

/-- The register fields stand in canonical form: a field at its reset value is not listed (R5). -/
def Regs.wf (s : State) : Bool := smWf fieldReset s.regs

/-- A safe state. -/
def State.Safe (s : State) : Prop := Memory.wf s = true ∧ Regs.wf s = true

/-- A safe outcome: a next state that is safe, neither a fault nor a refusal. -/
def SafeOutcome (o : Host.Outcome State Fault Refusal) : Prop := ∃ t, o = .next t ∧ t.Safe

/-- The parts of the state: its fields, the registers with their books, the frame store's in three (bytes, poison marks, the rest of its books). -/
inductive Part where
  | pending
  | regs
  | latches
  | free
  | outs
  | time
  | ev
  | flt
  | link
  | groups
  | transit
  | host
  | fsMem
  | fsPoison
  | fsRest
  | nv
  | boot
  | pix
  | codec
  | th
  | ch
  | drv
  | cal
  | arb
  | sec
  | mem
  deriving DecidableEq, Repr

/-- Part `p` is in `t` what it is in `s`. -/
def State.same (s t : State) : Part → Prop
  | .pending => t.pending = s.pending
  | .regs => t.regs = s.regs ∧ t.w1cAt = s.w1cAt
  | .latches => t.latches = s.latches
  | .free => t.free = s.free
  | .outs => t.outs = s.outs
  | .time => t.time = s.time
  | .ev => t.ev = s.ev
  | .flt => t.flt = s.flt
  | .link => t.link = s.link
  | .groups => t.groups = s.groups
  | .transit => t.transit = s.transit
  | .host => t.host = s.host
  | .fsMem => t.fs.mem = s.fs.mem
  | .fsPoison => t.fs.poison = s.fs.poison
  | .fsRest => t.fs.lastCe = s.fs.lastCe ∧ t.fs.scrub = s.fs.scrub ∧ t.fs.postponed = s.fs.postponed ∧
      t.fs.lastReq = s.fs.lastReq ∧ t.fs.exitAt = s.fs.exitAt ∧ t.fs.used = s.fs.used ∧ t.fs.lostCells = s.fs.lostCells ∧
      t.fs.wq = s.fs.wq
  | .nv => t.nv = s.nv
  | .boot => t.boot = s.boot
  | .pix => t.pix = s.pix
  | .codec => t.codec = s.codec
  | .th => t.th = s.th
  | .ch => t.ch = s.ch
  | .drv => t.drv = s.drv
  | .cal => t.cal = s.cal
  | .arb => t.arb = s.arb
  | .sec => t.sec = s.sec
  | .mem => t.mem = s.mem

/-- The parts of the state that a command may change (log entry 33); every other part is after it what it was before. -/
def mayTouch : Instr → List Part
  | .clockSourceReturn _ | .stackIdle _ | .invalidBlock _ | .alignReturn _ _ _ | .rxSleep _ | .bankRetentionIdle _
  | .bankInitDone _ | .unclaimedPacket _ _ | .upstreamBadCrc _ | .l1Entry | .l1Exit => [.regs]
  | .cdatRead | .identifyMemoryDevice | .getSupportedLogs | .getEventRecords _ | .getEventInterruptPolicy
  | .getPoisonList | .mailboxUnsupported _ | .getVersion | .getCapabilities | .negotiateAlgorithms _ | .getDigests
  | .getCertificate _ _ _ | .challenge _ | .getMeasurements _ _ | .heartbeat _ | .h2dSnoop _ => [.outs]
  | .replayTimeout _ _ | .linkMgmtFlit _ _ _ => [.link]
  | .syncoutPulseEnd _ => [.groups]
  | .cacheReadTimeout _ | .perstDeassert | .d3hot _ _ => [.host]
  | .refreshInterval _ _ => [.fsRest]
  | .dumpCopyDone => [.nv]
  | .porstDeassert => [.boot]
  | .txWakeDone _ => [.ch]
  | .calPeriod _ | .foldRetry _ => [.cal]
  | .requesterUnmask _ => [.arb]
  | .tempSensorUpdate _ _ | .railMonitorUpdate _ _ => [.regs, .free]
  | .evtTimeLoRead _ | .tmgFrameLoRead _ _ | .tmgLatchLoRead _ _ | .calTsLoRead _ _ | .secSlotCtrLoRead _ _
  | .nvsCntLoRead _ _ => [.latches, .outs]
  | .getLog _ _ | .getHealthInfo => [.free, .outs]
  | .tsyncHoldover => [.regs, .ev]
  | .tsyncSend => [.time, .link]
  | .teWaitBegin _ | .srSleepSet _ _ | .srSleepClear _ _ => [.regs, .groups]
  | .biTimeout _ | .ideKm _ _ _ => [.regs, .host]
  | .clearEventRecords _ _ | .setEventInterruptPolicy _ | .msixUnmask _ _ => [.outs, .host]
  | .counterIncrement _ _ => [.regs, .nv]
  | .codecSubmit _ _ => [.regs, .codec]
  | .mboxWrite _ _ _ | .coreMemWindowWrite _ _ _ | .doorbell _ _ _ _ => [.regs, .th]
  | .ackReceive _ _ _ | .txWake _ | .rxWake _ => [.regs, .ch]
  | .enumSend _ => [.outs, .ch]
  | .trippedClear _ _ _ _ | .bisRequest _ _ _ => [.regs, .drv]
  | .panelTempPoll _ => [.outs, .drv]
  | .calValWrite _ _ _ => [.regs, .cal]
  | .calRunTimeout _ => [.ev, .cal]
  | .gtoEdgePlace _ => [.th, .cal]
  | .arbApply _ _ | .arbApplyRaster | .requesterMask _ _ => [.regs, .arb]
  | .keyExchange _ _ => [.outs, .sec]
  | .laneGroupRetrain _ _ => [.regs, .ev, .link]
  | .hdmCommit _ _ _ => [.regs, .outs, .host]
  | .linkUp _ _ _ _ | .flr _ | .cxlCacheAvailable => [.regs, .ev, .host]
  | .flushProgramDone | .sectorEraseDone _ => [.regs, .ev, .nv]
  | .activationTimeout => [.regs, .ev, .boot]
  | .tableLoad _ _ | .tableReadback _ _ => [.regs, .ev, .pix]
  | .encoderRelease _ _ => [.regs, .ev, .codec]
  | .syncinEdge _ _ _ => [.regs, .groups, .th]
  | .mpTbegin _ | .mpCommit _ | .mpAbort _ | .mpLock _ | .mpUnlock _ => [.regs, .transit, .th]
  | .recordWindowWrite _ _ _ => [.regs, .nv, .th]
  | .txSleep _ | .inject _ _ _ | .injectRepeat _ | .upqDataRead _ _ => [.regs, .outs, .ch]
  | .blockLockGained _ | .enumReturn _ _ _ | .nakReceive _ _ _ _ _ | .retryTimeout _ _ _ | .reenumerate _ _ _
  | .queueFlush _ _ _ | .spareAutoSwitch _ | .txDriverFault _ _ | .spareForce _ _ _ | .spareRelease _ _ _
  | .failedRetry _ => [.regs, .ev, .ch]
  | .railPowerUp _ _ _ | .railPowerDown _ _ _ | .railOnDelay _ | .railOffDelay _ | .panelTempReadDone _ _ _
  | .journalScan _ _ => [.regs, .ev, .drv]
  | .pfDischarge => [.regs, .nv, .drv]
  | .railForceOn _ _ | .railForceOff _ _ | .railForceRelease _ _ | .bankPowerRequest _ _ _ => [.regs, .th, .drv]
  | .copyStart _ _ => [.regs, .ev, .mem]
  | .tsyncSample _ _ _ => [.regs, .time, .ev, .link]
  | .strudelConfigWrite _ _ _ | .cellRelease => [.regs, .ev, .fsRest, .codec]
  | .teEdge _ _ _ => [.regs, .ev, .groups, .th]
  | .nvsErase _ _ | .nvsProgram _ _ | .nvsReadSlot _ _ | .nvsReadLog _ _ => [.regs, .ev, .nv, .th]
  | .laneEnable _ _ _ => [.regs, .outs, .ev, .ch]
  | .calGo _ _ | .calSave _ _ | .calLoad _ _ => [.regs, .ev, .nv, .cal]
  | .foldEnable _ _ _ | .foldDisable _ _ _ => [.regs, .ev, .th, .cal]
  | .tamper => [.regs, .ev, .nv, .sec]
  | .debugUnlock _ _ => [.regs, .ev, .th, .sec]
  | .flitReceive _ _ _ => [.regs, .ev, .flt, .link, .groups]
  | .cxlCacheUnavailable => [.regs, .ev, .groups, .host, .pix]
  | .tileFetchTimeout _ _ _ _ | .blockDecodeDone _ _ _ _ => [.regs, .ev, .flt, .groups, .codec]
  | .commitResultReport | .lockBreak _ _ => [.regs, .ev, .flt, .groups, .th]
  | .recordJob _ _ => [.regs, .free, .ev, .nv, .th]
  | .imageActivate _ _ => [.regs, .ev, .nv, .boot, .th]
  | .blockLockLost _ | .spareSwitchTimeout _ => [.regs, .ev, .flt, .groups, .ch]
  | .railgoodEdge _ _ | .railTimeout _ => [.regs, .ev, .flt, .groups, .drv]
  | .bisBlockFetchDone _ _ _ _ => [.regs, .free, .ev, .nv, .drv]
  | .calApply _ _ _ _ => [.regs, .outs, .ev, .ch, .cal]
  | .flitSlot _ _ _ _ _ _ _ _ => [.regs, .outs, .time, .link, .arb]
  | .pllRetry _ => [.regs, .ev, .host, .boot, .sec]
  | .cpQuiescent _ => [.regs, .ev, .boot, .th, .sec]
  | .marchDone _ => [.regs, .ev, .flt, .groups, .mem]
  | .marchStart _ _ | .marchAbort _ _ => [.regs, .ev, .th, .drv, .mem]
  | .alignSend _ | .upqPop _ _ _ _ => [.regs, .outs, .ev, .flt, .groups, .ch]
  | .rdrReceive _ _ _ _ _ => [.regs, .ev, .flt, .groups, .th, .ch]
  | .cutoff _ => [.regs, .ev, .groups, .nv, .drv, .cal]
  | .mpTargetReset => [.regs, .ev, .flt, .groups, .th, .arb]
  | .freeSlot _ => [.regs, .free, .outs, .ev, .ch, .arb]
  | .vendorDefinedRequest _ _ => [.regs, .free, .outs, .ev, .nv, .sec]
  | .cpSwap _ => [.regs, .ev, .boot, .th, .drv, .sec]
  | .retrainDone _ _ _ => [.regs, .outs, .ev, .flt, .link, .groups, .host]
  | .cxlmemRead _ _ | .cxlmemWrite _ _ _ _ => [.regs, .outs, .groups, .host, .fsMem, .fsPoison, .fsRest]
  | .blockFetchDone _ _ _ => [.regs, .outs, .host, .fsMem, .fsPoison, .fsRest, .codec]
  | .stageTimeout _ => [.regs, .ev, .flt, .groups, .boot, .th, .drv]
  | .pfTrip _ _ => [.regs, .ev, .groups, .nv, .boot, .th, .drv]
  | .nop _ | .add _ | .sub _ | .and _ | .or _ | .xor _ | .shl _ | .shr _ | .sra _ | .min _ | .max _ | .mul16 _ | .cmp _
  | .ldi _ | .lui _ | .beq _ | .bne _ | .blt _ | .bge _ | .j _ | .call _ | .ret _ | .ld _ | .st _ | .waitl _
  | .waitlDone _ | .waitc _ | .waitcDone _ | .waite _ | .waiteDone _ | .waittDone _ | .fence _ | .fenceDone _
  | .event _ | .halt _ | .watchdogExpiry _ | .trailerCheckDone | .queueRun _ _ _ | .queueStop _ _ _ | .cxlQReset _ _ _
  | .reservedOpcode _ => [.regs, .ev, .flt, .groups, .nv, .th, .arb]
  | .entryTake _ => [.regs, .outs, .ev, .boot, .th, .drv, .arb]
  | .evrHeadWrite _ _ _ | .evrEnable _ _ _ | .msixTimer _
    => [.regs, .outs, .ev, .groups, .host, .fsMem, .fsPoison, .fsRest]
  | .cacheReadDone _ _ _ _ => [.regs, .outs, .groups, .host, .fsMem, .fsPoison, .fsRest, .pix]
  | .codecEncode => [.regs, .outs, .ev, .host, .fsMem, .fsPoison, .fsRest, .codec]
  | .foldReplayDone _ => [.regs, .outs, .groups, .host, .fsMem, .fsPoison, .fsRest, .cal]
  | .snsReceive _ _ _ _ _ => [.regs, .free, .ev, .flt, .groups, .th, .ch, .cal]
  | .arbRound _ _ _ => [.regs, .outs, .ev, .link, .host, .fsRest, .pix, .arb]
  | .waitt _ | .gset _ | .gclr _ | .gpulse _ => [.regs, .free, .ev, .flt, .groups, .nv, .th, .arb]
  | .emit _ _ => [.regs, .ev, .flt, .groups, .nv, .th, .ch, .arb]
  | .entryRelease _ => [.regs, .ev, .flt, .groups, .nv, .th, .drv, .arb]
  | .coreRun _ _ _ | .coreStop _ _ _ => [.regs, .ev, .flt, .groups, .nv, .th, .arb, .sec]
  | .fstReadDone _ _ _ | .scrubRead _ _ => [.regs, .outs, .ev, .flt, .groups, .host, .fsMem, .fsPoison, .fsRest]
  | .eventMergeArrival _ | .eventRelease | .xferUnitDone _ _
    => [.regs, .outs, .ev, .groups, .host, .fsMem, .fsPoison, .fsRest, .nv]
  | .pipeSpan _ _ _ | .tldDone _ => [.regs, .outs, .ev, .groups, .host, .fsMem, .fsPoison, .fsRest, .pix]
  | .codecRelease => [.regs, .outs, .ev, .groups, .host, .fsMem, .fsPoison, .fsRest, .codec]
  | .foldWritesDone _ => [.regs, .outs, .ev, .groups, .host, .fsMem, .fsPoison, .fsRest, .cal]
  | .ldx _ | .ldxDone _ => [.regs, .latches, .ev, .flt, .groups, .nv, .th, .ch, .arb]
  | .slotStart _ _ => [.regs, .free, .outs, .ev, .groups, .pix, .ch, .drv, .arb]
  | .pfVector => [.regs, .ev, .flt, .groups, .th, .ch, .drv, .arb, .sec]
  | .codecBlockDone _ _ _ => [.regs, .outs, .ev, .flt, .groups, .host, .fsMem, .fsPoison, .fsRest, .codec]
  | .keyLoadBlob _ _ => [.regs, .free, .outs, .ev, .host, .fsMem, .fsPoison, .fsRest, .nv, .sec]
  | .lcRequest _ _ => [.regs, .free, .outs, .ev, .host, .fsMem, .fsPoison, .fsRest, .nv, .th, .sec]
  | .stackExitDone _ | .biResponse _
    => [.regs, .free, .outs, .ev, .groups, .host, .fsMem, .fsPoison, .fsRest, .nv, .codec, .sec]
  | .entryFetchDone _ _ => [.regs, .outs, .ev, .flt, .groups, .host, .fsMem, .fsPoison, .fsRest, .nv, .th, .drv, .arb]
  | .cxlReset => [.regs, .free, .outs, .ev, .groups, .host, .fsMem, .fsPoison, .fsRest, .nv, .pix, .codec, .sec]
  | .groupEnterStopped _ => [.regs, .outs, .ev, .flt, .groups, .nv, .boot, .pix, .th, .ch, .drv, .cal, .arb, .sec]
  | .commitArrival | .tbegin _ | .commit _ | .abort _ | .lock _ | .unlock _ | .lockTxnReply _
    => [.regs, .ev, .flt, .groups, .transit, .nv, .boot, .pix, .th, .ch, .drv, .cal, .arb, .sec]
  | .sramRead _ _ _ _ => [.regs, .ev, .flt, .groups, .transit, .fsRest, .nv, .pix, .th, .ch, .drv, .cal, .arb, .mem]
  | .recordAccept
    => [.regs, .free, .outs, .ev, .transit, .host, .fsMem, .fsPoison, .fsRest, .nv, .boot, .th, .drv, .cal, .sec]
  | .clockSourceLoss _ | .hostHotReset | .perstAssert | .linkLoss
    => [.regs, .free, .outs, .ev, .flt, .groups, .host, .fsMem, .fsPoison, .fsRest, .nv, .pix, .codec, .th, .arb, .sec]
  | .groupRun _ _ _ | .groupStop _ _ _ | .groupResume _ _ _
    => [.regs, .outs, .ev, .flt, .groups, .host, .nv, .boot, .pix, .codec, .th, .ch, .drv, .cal, .arb, .sec]
  | .lineStart _ | .teTimeout _
    => [.regs, .outs, .ev, .flt, .groups, .host, .fsMem, .fsPoison, .fsRest, .nv, .boot, .pix, .th, .ch, .drv, .arb, .sec]
  | .stageComplete _ _
    => [.regs, .outs, .time, .ev, .flt, .link, .groups, .host, .fsMem, .fsPoison, .nv, .boot, .th, .ch, .drv, .cal, .sec, .mem]
  | .latch _
    => [.regs, .outs, .ev, .flt, .groups, .host, .fsMem, .fsPoison, .fsRest, .nv, .boot, .pix, .codec, .th, .ch, .drv, .cal, .arb, .sec]
  | .porstAssert
    => [.regs, .latches, .time, .ev, .flt, .link, .groups, .transit, .host, .fsMem, .fsPoison, .fsRest, .nv, .boot, .pix, .codec, .th, .ch, .drv, .cal, .arb, .sec, .mem]
  | .regWrite _ _ _ | .lForm _ | .stx _ | .bonbonEnter _ _ | .bonbonSend _ _ | .bonbonExit _ _ | .copyDone _ _ _
    => [.regs, .latches, .free, .outs, .time, .ev, .flt, .link, .groups, .transit, .host, .fsMem, .fsPoison, .fsRest, .nv, .boot, .pix, .codec, .th, .ch, .drv, .cal, .arb, .sec, .mem]

/-- From `s` to `t` no register field changes but those of `fs`, nor when a bit of another one was last set, and no other part but those
of `ps`. -/
def Only (fs : List Fld) (ps : List Part) (s t : State) : Prop :=
  (∀ k, k ∉ fs.map fldKey → smGet fieldReset t.regs k = smGet fieldReset s.regs k) ∧
    (∀ k, k / 32 ∉ fs.map fldKey → smGet (fun _ => 0) t.w1cAt k = smGet (fun _ => 0) s.w1cAt k) ∧
    ∀ p, p ≠ .regs → p ∉ ps → s.same t p

/-- The write of word `v` at BAR0 offset `a` is not critical (R567), or R568 lets it be carried out. -/
def State.granted (s : State) (req : Req) (a v : Nat) : Prop :=
  match s.critBit a v with
  | none => True
  | some k => (s.judge req a k).1 = true

/-- The place of a raster. -/
def Grp.pos (x : Grp) : List Nat × Bool × Bool × Timing :=
  ([x.line, x.lineTick, x.k, x.k0, x.frame, x.epoch, x.latchTick], x.live, x.latched, x.cur)

/-! ## A Thoene core that issues (06) -/

/-- Core `o` issues the instruction at its PC: it may (R258, R282), the PC lies in its memory (R253), the word there has opcode
`op` and is taken apart as `i` with the word after it, it raises no ILLEGAL fault, and every register it reads is readable. -/
def State.issues (s : State) (o op : Nat) (i : Ins) : Prop :=
  s.mayIssue o = true ∧ s.pcOk o = true ∧ s.word0 o / 2 ^ 26 = op ∧ (op = 0x0E → (s.core o).pc / 4 + 1 < imemWords o) ∧
    insOf (s.word0 o) (s.word1 o) = i ∧ i.legal o (s.word0 o) = true ∧ s.hotRead o i = false

/-- From `s` to `t` nothing changed but core `o` itself: its registers, flags, PC and stack. -/
def State.onlyCore (s t : State) (o : Nat) : Prop :=
  t = { s with th := { s.th with cores := t.th.cores } } ∧ ∀ p, p ≠ o → t.core p = s.core p

/-- Core `o` goes on at `pc` after `n` cycles with general registers `g` and flags `fl`; nothing else changes, unless `pc` is the
end of a queue entry (R316). -/
def State.wentOn (s t : State) (o : Nat) (g : Nat → Word) (fl pc n : Nat) : Prop :=
  (∀ k, t.gw o k = if k = 0 then 0#32 else g k) ∧ (t.core o).flags = fl ∧ (t.core o).stack = (s.core o).stack ∧
    (t.core o).pc = pc ∧ (s.inEntry o = none ∨ pc ≠ 0x1FFF8 → (t.core o).next = cycleAfter o (s.clock o) n ∧ s.onlyCore t o)

end Sys2Proof.Machine
end

