-- ==== Sys2Proof/Certificates/Slice0/Obligations.lean ====
section
/-!
DEFINITION. The statements for the provers. `Only fs ps s t` (Safety) is the frame: from `s` to `t` no register field but those of
`fs` and no other part of the state but those of `ps` changed.
-/
open Sys2Proof Sys2Proof.Machine

/-- From `s` to `t` one event was raised, stamped with the clock of its origin's die, behind those under way (R40, R43). -/
def Raised (s t : State) (code origin locus : Nat) (args : List (Nat × Nat)) : Prop :=
  t.ev.enRoute = s.ev.enRoute ++ [⟨s.clock origin, code, false, origin, locus, packBits args⟩] ∧
    t.ev.merge = s.ev.merge ∧ t.ev.rings = s.ev.rings

/-- R16, R14. What a receiver does with a flit on a lane group that carries traffic. -/
def Obligations.LinkReceiverKeepsSequence : Prop :=
  ∀ (s : State) (dir lg : Nat) (flit : Flit), s.lgUp dir lg = true → dir < 2 →
    (flitOk flit = true → (flitHdr flit).seq = (s.lane dir lg).exp →
      ∃ t, exec (.flitReceive dir lg flit) s = .next t ∧
        (t.lane dir lg).exp = ((s.lane dir lg).exp + 1) % 4096 ∧ (t.lane dir lg).drop = false ∧
        (t.lane dir lg).lastSeq = (flitHdr flit).seq ∧ (t.lane dir lg).ack = 1 ∧
        (t.lane dir lg).replay = (s.lane dir lg).replay ∧
        smGet (fun _ => 0) (t.lane (1 - dir) lg).cred (flitHdr flit).crtc =
          smGet (fun _ => 0) (s.lane (1 - dir) lg).cred (flitHdr flit).crtc + (flitHdr flit).cred ∧
        ((flitHdr flit).ackk ≠ 1 → (flitHdr flit).ackk ≠ 2 → (t.lane (1 - dir) lg).replay = (s.lane (1 - dir) lg).replay ∧
          Only [] [.link] s t) ∧
        ((flitHdr flit).ackk = 1 → ∀ a b h, (s.lane (1 - dir) lg).replay = a ++ h :: b →
          (∀ x ∈ a, x.seq ≠ (flitHdr flit).ackSeq) → h.seq = (flitHdr flit).ackSeq →
          (t.lane (1 - dir) lg).replay = b ∧ Only [] [.link] s t) ∧
        ((flitHdr flit).ackk = 2 → ∀ a b h, (s.lane (1 - dir) lg).replay = a ++ h :: b →
          (∀ x ∈ a, x.seq ≠ (flitHdr flit).ackSeq) → h.seq = (flitHdr flit).ackSeq →
          (t.lane (1 - dir) lg).replay = b ∧ (t.lane (1 - dir) lg).resend = b.length) ∧
        (∀ d l, l < 10 → d < 2 → l ≠ lg → t.lane d l = s.lane d l) ∧
        ∀ p, p ∉ [Part.regs, .ev, .flt, .link, .groups] → s.same t p) ∧
    ((flitOk flit = false ∨ (flitHdr flit).seq ≠ (s.lane dir lg).exp) → (s.lane dir lg).drop = false →
      ∃ t, exec (.flitReceive dir lg flit) s = .next t ∧ (t.lane dir lg).drop = true ∧ (t.lane dir lg).ack = 2 ∧
        (t.lane dir lg).exp = (s.lane dir lg).exp ∧ (∀ d l, lgKey d l ≠ lgKey dir lg → t.lane d l = s.lane d l) ∧
        Only [] [.link] s t) ∧
    ((flitOk flit = false ∨ (flitHdr flit).seq ≠ (s.lane dir lg).exp) → (s.lane dir lg).drop = true →
      exec (.flitReceive dir lg flit) s = .next s)

/-- R21, R16, R18, R33: what a transmitter of an operating lane group puts into a flit slot: a flit still to be resent; nothing
while 128 flits are unacknowledged; else the first of the order of R21 among the flits of retired lane groups, the block's own
and those offered (of TC2 with their requesters, one of which has won the round of R647), or an idle flit. An idle flit's TC of 0
is the model's choice (log entry 113). -/
def Obligations.LinkTransmitterFillsSlots : Prop :=
  ∀ (s : State) (dir lg cred crtc : Nat) (o0 o1 : Option Payload) (o2 : List (Nat × Payload)) (o3 : Option Payload),
    s.lgUp dir lg = true →
    let x := s.lane dir lg
    let c := Instr.flitSlot dir lg o0 o1 o2 o3 cred crtc
    let flitOf (f : HeldFlit) : Flit := mkFlit ⟨f.tc, f.kind, f.seq, ((s.lane (1 - dir) lg).exp + 4095) % 4096,
      (s.lane (1 - dir) lg).ack, crtc % 4, cred % 256, f.plen, lg⟩ f.data
    let sends (t : State) (tc : Nat) (f : HeldFlit) : Prop := t.outs = .flit dir lg (flitOf f) :: s.outs ∧
      (t.lane dir lg).seq = (x.seq + 1) % 4096 ∧ (t.lane dir lg).replay = x.replay ++ [f] ∧
      (t.lane dir lg).hist = (tc :: x.hist).take 64 ∧ (t.lane dir lg).grant = none ∧ (t.lane (1 - dir) lg).ack = 0
    (∀ f, 0 < x.resend → x.replay[x.replay.length - x.resend]? = some f →
      ∃ t, exec c s = .next t ∧ t.outs = .flit dir lg (flitOf f) :: s.outs ∧
        (t.lane dir lg).resend = x.resend - 1 ∧ (t.lane dir lg).replay = x.replay ∧ (t.lane dir lg).seq = x.seq ∧
        t.f (fLgReplays dir lg) = satAdd (s.f (fLgReplays dir lg)) 1 (2 ^ (fLgReplays dir lg).w - 1) ∧
        Only [fLgReplays dir lg] [.outs, .link] s t) ∧
    (x.resend = 0 → 128 ≤ x.replay.length → exec c s = .next s) ∧
    (x.resend = 0 → x.replay.length < 128 →
      (∀ h rest, s.moved dir = h :: rest → h.tc = 0 → ∃ t, exec c s = .next t ∧
        sends t 0 { h with seq := x.seq } ∧ t.moved dir = rest ∧
        t.f (fLgReplays dir lg) = satAdd (s.f (fLgReplays dir lg)) 1 (2 ^ (fLgReplays dir lg).w - 1) ∧
        Only [fLgReplays dir lg] [.outs, .link] s t) ∧
      (s.moved dir = [] →
        (∀ p, o0 = some p → payloadOk p = true → ∃ t, exec c s = .next t ∧
          sends t 0 ⟨x.seq, 0, p.kind, p.plen, cutPayload p, 0⟩ ∧ Only [] [.outs, .link] s t) ∧
        (o0 = none → s.ctrlReady dir lg = true →
          (∀ rest, s.ownFlits dir = .sync :: rest → ∃ t, exec c s = .next t ∧
            sends t 1 ⟨x.seq, 1, 2, 8, payloadOf (leBytes 8 (s.clock (dirOrigin dir))), 0⟩ ∧ t.ownFlits dir = rest ∧
            (dir = 0 → t.time.syncSent = some s.time.master) ∧ Only [] [.outs, .link, .time] s t) ∧
          (∀ p, s.ownFlits dir = [] → o1 = some p → payloadOk p = true → ∃ t, exec c s = .next t ∧
            sends t 1 ⟨x.seq, 1, p.kind, p.plen, cutPayload p, 0⟩ ∧ Only [] [.outs, .link] s t)) ∧
        (o0 = none → s.ctrlReady dir lg = false ∨ (s.ownFlits dir = [] ∧ o1 = none) →
          (∀ n p, (∀ o ∈ o2, o.1 < 16 ∧ payloadOk o.2 = true ∧ smGet (fun _ => false) s.arb.masked o.1 = false) →
            s.tc3Open dir lg = false ∨ o3 = none → o2.find? (fun o => o.1 == n) = some (n, p) →
            let r := s.classRound (arbLg (lgKey dir lg)) false ((List.range 16).filter fun k => o2.any fun o => o.1 == k)
            x.grant = some n ∨ (x.grant = none ∧ r.1 = some n) → ∃ t, exec c s = .next t ∧
              sends t 2 ⟨x.seq, 2, p.kind, p.plen, cutPayload p, n⟩ ∧ (x.grant = none → t.arb = r.2.arb) ∧
              Only [] [.outs, .link, .arb] s t) ∧
          (∀ p, o2 = [] → s.tc3Open dir lg = true → o3 = some p → payloadOk p = true →
            smGet (fun _ => false) s.arb.masked 15 = false → ∃ t, exec c s = .next t ∧
              sends t 3 ⟨x.seq, 3, p.kind, p.plen, cutPayload p, 15⟩ ∧ Only [] [.outs, .link, .arb] s t) ∧
          (o2 = [] → o3 = none → ∃ t, exec c s = .next t ∧ sends t 4 ⟨x.seq, 0, 1, 0, 0, 0⟩ ∧ Only [] [.outs, .link] s t))))

/-- R16 to R18, R25, R27: a transmitter replays after 256 ticks without an answer; a lane group retrains after four replays
without progress, returns at full or half width or is retired, and the flits of a retired one are moved. -/
def Obligations.LinkReplaysRetrainsAndRetires : Prop :=
  ∀ (s : State) (dir lg : Nat), dir < 2 → lg < 10 →
    let x := s.lane dir lg
    (s.lgUp dir lg = true → x.replay ≠ [] → x.heldSince + 256 ≤ s.clock (dirOrigin dir) →
      ∃ t, exec (.replayTimeout dir lg) s = .next t ∧ (t.lane dir lg).resend = x.replay.length ∧
        (t.lane dir lg).replay = x.replay ∧ (t.lane dir lg).heldSince = s.clock (dirOrigin dir) ∧ Only [] [.link] s t) ∧
    (s.lgUp dir lg = true → 4 ≤ x.same →
      ∃ t, exec (.laneGroupRetrain dir lg) s = .next t ∧ t.f (fLgState dir lg) = 1 ∧
        t.f (fLgRetrains dir lg) = satAdd (s.f (fLgRetrains dir lg)) 1 255 ∧ (t.lane dir lg).same = 0 ∧
        (t.lane dir lg).replay = x.replay ∧ Raised s t 0x12 (dirOrigin dir) 0 [(8, lg), (8, 1)] ∧
        ∀ p, p ∉ [Part.regs, .ev, .link] → s.same t p) ∧
    (∀ failed, s.f (fLgState dir lg) = 1 →
      ∃ t, exec (.retrainDone dir lg failed) s = .next t ∧
        (x.half = 0 → failed % 256 = 0 → failed / 256 % 256 = 0 → t.f (fLgState dir lg) = 2) ∧
        (s.on fDMH_TC_CFG_HALF_EN = true → x.half = 0 → failed % 256 = 0 → failed / 256 % 256 ≠ 0 →
          t.f (fLgState dir lg) = 3) ∧
        (s.on fDMH_TC_CFG_HALF_EN = true → x.half = 0 → failed % 256 ≠ 0 → failed / 256 % 256 = 0 →
          t.f (fLgState dir lg) = 4) ∧
        (failed % 256 ≠ 0 → failed / 256 % 256 ≠ 0 → t.f (fLgState dir lg) = 5 ∧ (t.lane dir lg).awaitMgmt = true) ∧
        (s.on fDMH_TC_CFG_HALF_EN = false → failed % 65536 ≠ 0 →
          t.f (fLgState dir lg) = 5 ∧ (t.lane dir lg).awaitMgmt = true) ∧
        (t.f (fLgState dir lg) = 5 → t.ownFlits (1 - dir) = s.ownFlits (1 - dir) ++ [.report lg x.lastSeq]) ∧
        (failed ≠ 0 → t.f (fLgFaultSeen dir lg) = 1 ∧ t.f (fLgFaultLane dir lg) = lowestLane failed % 16) ∧
        ∀ p, p ∉ [Part.regs, .outs, .ev, .flt, .link, .groups, .host] → s.same t p) ∧
    (x.awaitMgmt = true → OwnFlit.report lg x.lastSeq ∉ s.ownFlits (1 - dir) →
      ∃ t, exec (.linkMgmtFlit dir lg x.lastSeq) s = .next t ∧
        t.moved dir = s.moved dir ++ (ackUpTo x x.lastSeq (s.clock (dirOrigin dir))).replay.filter (fun h => h.kind != 1) ∧
        (t.lane dir lg).replay = [] ∧ (t.lane dir lg).awaitMgmt = false ∧ Only [] [.link] s t)

/-- R31, R706, R747: the loss of a clock source clears its LOCK bit, sets its LOSS bit and raises CLK_LOSS; a root PLL
(0, 1), a forwarded reference (3, 4), the CXL PLL (7) and a lane reference (8 to 11) have their consequences besides; a
return sets the LOCK bit again. -/
def Obligations.ClockSourceLossAndReturn : Prop :=
  (∀ (s : State) (src : Nat), src < 13 → bit (s.f fCLK_LOCK_LOCK) src = 1 →
    ∃ u, (∀ i, i < 13 → bit (u.f fCLK_LOCK_LOCK) i = if i = src then 0 else bit (s.f fCLK_LOCK_LOCK) i) ∧
      (∀ i, i < 13 → bit (u.f fCLK_LOCK_LOSS) i = if i = src then 1 else bit (s.f fCLK_LOCK_LOSS) i) ∧
      Raised s u 0x10 0xD02 0 [(16, src)] ∧ Only [fCLK_LOCK_LOCK, fCLK_LOCK_LOSS] [.ev] s u ∧
      (src ≤ 1 → exec (.clockSourceLoss src) s = .next (u.fault 0x17 0xE00 src 0)) ∧
      (src = 3 ∨ src = 4 → bit (s.f fCLK_LOCK_LOCK) (7 - src) = 1 →
        exec (.clockSourceLoss src) s = .next (u.fault 0x04 0xE00 src 0)) ∧
      (src = 3 ∨ src = 4 → bit (s.f fCLK_LOCK_LOCK) (7 - src) = 0 →
        exec (.clockSourceLoss src) s = .next (u.fault 0x05 0xE00 src 0)) ∧
      (src = 7 → exec (.clockSourceLoss src) s = exec .linkLoss u) ∧
      (8 ≤ src ∧ src ≤ 11 → ∃ t, exec (.clockSourceLoss src) s = .next t ∧
        (∀ l, (l < 256 ∧ l / 64 = src - 8) ∨ (256 ≤ l ∧ l < 272 ∧ (l - 256) / 4 = src - 8) → s.lnSt l ≠ 0 → s.lnSt l ≠ 6 →
          t.lnSt l = 1 ∧ t.f (fLNK_STATUS_BLOCK_LOCK l) = 0)) ∧
      (src = 2 ∨ src = 5 ∨ src = 6 ∨ src = 12 → exec (.clockSourceLoss src) s = .next u)) ∧
  (∀ (s : State) (src : Nat), src < 13 →
    ∃ t, exec (.clockSourceReturn src) s = .next t ∧
      (∀ i, i < 13 → bit (t.f fCLK_LOCK_LOCK) i = if i = src then 1 else bit (s.f fCLK_LOCK_LOCK) i) ∧
      Only [fCLK_LOCK_LOCK] [] s t)

/-- R33 to R36, R39: every 65,536 ticks the host die has a synchronisation flit to send, which FLIT_SLOT sends with the master; the
raster die answers it and takes an accepted sample (no
replay, a round trip within 6 ticks of the smallest) into its correction, steps to the first one of a start-up, counts it,
sets TIME_VALID at the eighth, and sets HOLDOVER after 1,048,576 ticks without one. -/
def Obligations.TimeSynchronisationSamples : Prop :=
  ∀ s : State,
    (s.time.syncDue ≤ s.time.master → s.ctrlLg 0 ≠ none → ∃ t, exec .tsyncSend s = .next t ∧
      t.time = { s.time with syncDue := s.time.master + 65536 } ∧
      t.ownFlits 0 = (if .sync ∈ s.ownFlits 0 then s.ownFlits 0 else s.ownFlits 0 ++ [.sync]) ∧ Only [] [.time, .link] s t) ∧
    (s.time.master < s.time.syncDue ∨ s.ctrlLg 0 = none → exec .tsyncSend s = .next s) ∧
    (∀ (sent arrival rtt : Nat) (replayed : Bool), s.time.syncSent = some sent →
      let ok := replayed = false ∧ ∀ m, s.time.minRtt = some m → rtt ≤ m + 6
      let off : Int := (arrival : Int) - sent - ((rtt / 2 : Nat) : Int)
      (¬ ok → ∃ t, exec (.tsyncSample arrival rtt replayed) s = .next t ∧ t.time.raster = s.time.raster ∧
        t.time.corr = s.time.corr ∧ t.time.lastSample = s.time.lastSample ∧ t.time.syncSent = none ∧ t.ownFlits 1 = s.ownFlits 1 ++ [.sync] ∧
        Only [] [.time, .link] s t) ∧
      (ok → ∃ t, exec (.tsyncSample arrival rtt replayed) s = .next t ∧ t.time.syncSent = none ∧
        t.ownFlits 1 = s.ownFlits 1 ++ [.sync] ∧
        t.time.minRtt = some (match s.time.minRtt with | none => rtt | some m => min m rtt) ∧
        t.f fEVT_TSYNC_STATUS_SAMPLES = (s.f fEVT_TSYNC_STATUS_SAMPLES + 1) % 65536 ∧
        t.f fEVT_TSYNC_STATUS_OFFSET = (max (-127) (min 127 off) % 256).toNat ∧
        t.f fEVT_TSYNC_STATUS_HOLDOVER = 0 ∧ t.time.lastSample = t.time.raster ∧
        (s.f fEVT_TSYNC_STATUS_SAMPLES = 0 → s.on fEVT_TSYNC_STATUS_TIME_VALID = false → off ≤ 0 →
          (t.time.raster : Int) = s.time.raster - off ∧ t.time.corr = 0) ∧
        (s.f fEVT_TSYNC_STATUS_SAMPLES ≠ 0 ∨ s.on fEVT_TSYNC_STATUS_TIME_VALID = true →
          t.time.raster = s.time.raster ∧ t.time.corr = -off) ∧
        (t.f fEVT_TSYNC_STATUS_TIME_VALID =
          if 7 ≤ s.f fEVT_TSYNC_STATUS_SAMPLES then 1 else s.f fEVT_TSYNC_STATUS_TIME_VALID) ∧
        (s.on fEVT_TSYNC_STATUS_HOLDOVER = false → t.ev = s.ev) ∧
        (s.on fEVT_TSYNC_STATUS_HOLDOVER = true → t.ev.enRoute.length = s.ev.enRoute.length + 1) ∧
        Only [fEVT_TSYNC_STATUS_SAMPLES, fEVT_TSYNC_STATUS_SLEWING, fEVT_TSYNC_STATUS_OFFSET,
          fEVT_TSYNC_STATUS_TIME_VALID, fEVT_TSYNC_STATUS_HOLDOVER] [.time, .ev, .link] s t)) ∧
    (s.time.lastSample + 1048576 ≤ s.time.raster → s.on fEVT_TSYNC_STATUS_HOLDOVER = false →
      ∃ t, exec .tsyncHoldover s = .next t ∧ t.f fEVT_TSYNC_STATUS_HOLDOVER = 1 ∧ Raised s t 0x11 0xD01 0 [(8, 1)] ∧
        Only [fEVT_TSYNC_STATUS_HOLDOVER] [.ev] s t)

/-- R37, R89, R92, R506, R591, R629, R721: a read of an LO register returns the lower word and latches the upper word of the
same moment for that requester alone. -/
def Obligations.LatchedReadsReturnOneMoment : Prop :=
  ∀ (s : State) (req : Req),
    let reads (c : Instr) (a v : Nat) : Prop :=
      (s.barOk req = true → s.reach a = true →
        ∃ t, exec c s = .next t ∧ t.outs = .regData req a (BitVec.ofNat 32 v) :: s.outs ∧
          t.latched req (a + 4) = v / 2 ^ 32 ∧
          (∀ q b, latchKey q b ≠ latchKey req (a + 4) → t.latched q b = s.latched q b) ∧ Only [] [.latches, .outs] s t) ∧
      (s.barOk req = true → s.reach a = false →
        ∃ t, exec c s = .next t ∧ t.outs = .regData req a 0 :: s.outs ∧ Only [] [.outs] s t) ∧
      (s.barOk req = false → exec c s = .next s)
    reads (.evtTimeLoRead req) 0x03400000 s.time.master ∧
    (∀ g, g < 16 → reads (.tmgFrameLoRead req g) (fTMG_FRAME_LO_FRAME_LO g).addr ((s.grp g).frame % 2 ^ 48)) ∧
    (∀ g, g < 16 → reads (.tmgLatchLoRead req g) (fTMG_LATCH_LO_LATCH_LO g).addr ((s.grp g).latchTick % 2 ^ 64)) ∧
    (∀ n, n < 64 → reads (.secSlotCtrLoRead req n) (fSEC_SLOT_CTR_LO_CTR_LO n).addr (s.lastCtr n)) ∧
    (∀ n, n < 256 → reads (.nvsCntLoRead req n) (fNVS_CNT_LO_VAL_LO n).addr (s.nvCnt n % 2 ^ 64)) ∧
    (∀ i, i < 360 → s.f (fCAL_TS_LO_TS_LO i) < 2 ^ 32 → reads (.calTsLoRead req i) (fCAL_TS_LO_TS_LO i).addr
      (s.f (fCAL_TS_LO_TS_LO i) + 2 ^ 32 * s.f (fCAL_TS_HI_TS_HI i)))

/-- R44, R45: the merge takes an arriving event behind those of its origin, releases the one of least stamp, then lowest
origin, once SETTLE has passed and not earlier, and releases a late arrival at once with LATE set; R536: a record that no
enabled route takes, and that the log does not keep, is discarded. -/
def Obligations.EventMergeReleasesInStampOrder : Prop :=
  ∀ s : State,
    (∀ k e, s.ev.enRoute[k]? = some e → (∀ x ∈ s.ev.enRoute.take k, x.origin ≠ e.origin) →
      (s.time.master ≤ e.stamp + s.settle →
        ∃ t, exec (.eventMergeArrival k) s = .next t ∧ t.ev.enRoute = s.ev.enRoute.eraseIdx k ∧
          t.ev.merge = s.ev.merge ++ [e] ∧ t.ev.rings = s.ev.rings ∧ Only [] [.ev] s t) ∧
      (e.stamp + s.settle < s.time.master →
        ∃ u, u.ev.enRoute = s.ev.enRoute.eraseIdx k ∧ u.ev.merge = s.ev.merge ∧ u.ev.rings = s.ev.rings ∧
          Only [] [.ev] s u ∧ exec (.eventMergeArrival k) s = .next (u.release { e with late := true }))) ∧
    (∀ (i : Nat) (e : Ev), s.ev.merge[i]? = some e →
      (∀ (j : Nat) (x : Ev), s.ev.merge[j]? = some x →
        e.stamp < x.stamp ∨ (e.stamp = x.stamp ∧ (e.origin < x.origin ∨ (e.origin = x.origin ∧ i ≤ j)))) →
      (e.stamp + s.settle ≤ s.time.master →
        ∃ u, u.ev.merge = s.ev.merge.eraseIdx i ∧ u.ev.enRoute = s.ev.enRoute ∧ u.ev.rings = s.ev.rings ∧
          Only [] [.ev] s u ∧ exec .eventRelease s = .next (u.release e)) ∧
      (s.time.master < e.stamp + s.settle → exec .eventRelease s = .next s)) ∧
    (s.ev.merge = [] → exec .eventRelease s = .next s) ∧
    (∀ e : Ev, s.logged e = false →
      (s.on (fEVT_ROUTE_EN (e.origin / 256 % 16)) = false ∨
        s.on (fEVR_CFG_EN (s.f (fEVT_ROUTE_RING (e.origin / 256 % 16)))) = false) → s.release e = s)

/-- R535, R537 to R539: a record written to a ring in host memory is followed by the tail word and then by the message it
causes; enabling a ring sets TAIL to HEAD; a write of HEAD frees room; the timer and an unmasked vector send their message. -/
def Obligations.EventRingsWriteRecordTailMessage : Prop :=
  ∀ (s : State) (k : Nat), k < 8 → (s.ring k).acts = [] →
    (∀ e : Ev, s.logged e = false → s.on (fEVT_ROUTE_EN (e.origin / 256 % 16)) = true →
      s.f (fEVT_ROUTE_RING (e.origin / 256 % 16)) = k → s.on (fEVR_CFG_EN k) = true → s.on (fEVR_CFG_SPACE k) = true →
      (s.ring k).held = [] → s.ringFull k = false → s.ownVec e = false →
      s.on (fEVT_ROUTE_URGENT (e.origin / 256 % 16)) = false → (s.ring k).p + 1 < max 1 (s.f (fEVR_MOD_CNT k)) →
      (s.release e).outs =
        .hostWrite (s.f (fEVR_CFG_FUNC k)) (s.ringBase k + 32 * s.ringSize k)
            (leBytes 8 ((s.ringTail k + 1) % s.ringSize k % 65536 % s.ringSize k)) ::
          .hostWrite (s.f (fEVR_CFG_FUNC k)) (s.ringBase k + 32 * s.ringTail k) (evBytes e) :: s.outs ∧
        ((s.release e).ring k).p = (s.ring k).p + 1 ∧ ((s.release e).ring k).held = [] ∧
        (s.release e).f (fEVR_PTR_TAIL k) = (s.ringTail k + 1) % s.ringSize k % 65536 ∧ (s.release e).fs = s.fs) ∧
    (∀ req data, (s.ring k).held = [] → data.getLsbD 31 = true → s.on (fEVR_CFG_EN k) = false →
      s.takesWrite req (fEVR_CFG_EN k).addr = true →
      ∃ t, exec (.evrEnable req k data) s = .next t ∧ t.f (fEVR_CFG_EN k) = 1 ∧ t.f (fEVR_STATUS_HELD k) = 0 ∧
        t.f (fEVR_PTR_TAIL k) = t.ringHead k % 65536 ∧ t.f (fEVR_PTR_HEAD k) = s.f (fEVR_PTR_HEAD k) ∧ t.outs = s.outs) ∧
    (∀ req data, (s.ring k).held = [] → s.takesWrite req (fEVR_PTR_HEAD k).addr = true →
      ∃ t, exec (.evrHeadWrite req k data) s = .next t ∧
        t.f (fEVR_PTR_HEAD k) = data.toNat / 65536 % s.ringSize k % 65536 ∧
        t.f (fEVR_PTR_TAIL k) = s.f (fEVR_PTR_TAIL k) ∧ t.outs = s.outs ∧ (t.ring k).p = (s.ring k).p) ∧
    (s.f (fEVR_MOD_TIME k) ≠ 0 → (s.ring k).p ≠ 0 →
      (s.ring k).pFirst + 64 * s.f (fEVR_MOD_TIME k) ≤ s.time.master →
      ∃ t, exec (.msixTimer k) s = .next t ∧ (t.ring k).p = 0 ∧
        t.outs = (s.msix (s.f (fEVR_CFG_FUNC k)) (s.f (fEVR_CFG_VEC k))).outs ∧
        t.host = (s.msix (s.f (fEVR_CFG_FUNC k)) (s.f (fEVR_CFG_VEC k))).host ∧ t.regs = s.regs) ∧
    (∀ func vec, func < 2 → vec < msixCount func →
      ∃ t, exec (.msixUnmask func vec) s = .next t ∧
        smGet (fun _ => false) t.host.unmasked (2048 * func + vec) = true ∧
        smGet (fun _ => false) t.host.msixPend (2048 * func + vec) = false ∧
        t.outs = (if smGet (fun _ => false) s.host.msixPend (2048 * func + vec) = true then .msix func vec :: s.outs
          else s.outs) ∧ Only [] [.outs, .host] s t)

/-- R48, R49, R73 to R75: a group's next line starts at the tick of the grid and not before; line 0 opens a frame with the next
frame number and, in a fresh group, a new epoch; a TE wait begins; a SYNCOUT pulse ends; a TE wait times out. -/
def Obligations.RasterLinesFollowTheGrid : Prop :=
  ∀ (s : State) (g : Nat), g < 16 →
    let x := s.grp g
    (x.latchDue = false →
      (∀ t, s.nextEv g = .line t → t ≤ s.time.raster →
        ∃ u, exec (.lineStart g) s = .next u ∧ (u.grp g).k = x.k + 1 ∧ (u.grp g).lineTick = t ∧
          (u.grp g).frame = x.frame ∧ (u.grp g).epoch = x.epoch ∧ (u.grp g).cur = x.cur ∧ (u.grp g).live = x.live ∧
          (x.urAbort = none → (u.grp g).line = x.line + 1) ∧
          (∀ a, x.urAbort = some a → a + s.cutoff g ≤ t → x.line + 1 < x.cur.vact → (u.grp g).line = x.cur.vact) ∧
          (∀ h, h ≠ g → (u.grp h).pos = (s.grp h).pos)) ∧
      (∀ t, s.nextEv g = .zero t → t ≤ s.time.raster → x.swaps = [] →
        ∃ u, exec (.lineStart g) s = .next u ∧ (u.grp g).line = 0 ∧ (u.grp g).lineTick = t ∧ (u.grp g).live = true ∧
          (u.grp g).frame = (x.frame + 1) % 2 ^ 48 ∧ (u.grp g).latched = false ∧ (u.grp g).cur = (s.endFrame g).timing g ∧
          (x.live = false ∨ x.newTiming = true ∨ x.teWait.isSome = true →
            (u.grp g).epoch = 65536 * t ∧ (u.grp g).k = 0) ∧
          (x.live = true → x.newTiming = false → x.teWait = none →
            (u.grp g).epoch = x.epoch ∧ (u.grp g).k = x.k + 1) ∧
          (∀ h, h ≠ g → (u.grp h).pos = (s.grp h).pos)) ∧
      (∀ t, s.nextEv g = .line t ∨ s.nextEv g = .zero t → s.time.raster < t → exec (.lineStart g) s = .next s) ∧
      (∀ t, s.nextEv g = .wait t → t ≤ s.time.raster →
        ∃ u, exec (.teWaitBegin g) s = .next u ∧ (u.grp g).teWait = some t ∧ u.f (fTMG_STATUS_TE_WAIT g) = 1 ∧
          (∀ h, h ≠ g → u.grp h = s.grp h) ∧ Only [fTMG_STATUS_TE_WAIT g] [.groups] s u)) ∧
    (x.latchDue = true → exec (.lineStart g) s = .next s) ∧
    (∀ t, x.syncEnd = some t → t ≤ s.time.raster →
      ∃ u, exec (.syncoutPulseEnd g) s = .next u ∧ (u.grp g).syncEnd = none ∧
        (∀ h, h ≠ g → u.grp h = s.grp h) ∧ Only [] [.groups] s u) ∧
    (∀ w, x.teWait = some w → x.teE = none → s.f (fTMG_TE_CFG_TIMEOUT g) ≠ 0 → s.on (fTMG_TE_CFG_FALLBACK g) = false →
      ceilTick (65536 * w + (x.teOuts + 1) * s.f (fTMG_TE_CFG_TIMEOUT g) * s.lper g) ≤ s.time.raster →
      ∃ u, exec (.teTimeout g) s = .next u ∧ (u.grp g).teOuts = x.teOuts + 1 ∧ (u.grp g).teWait = some w ∧
        Raised s u 0x107 (0x800 + g) (locusGroup g) [(48, x.frame + 1), (8, 0)] ∧ Only [] [.ev, .groups] s u) ∧
    (∀ w, x.teWait = some w → x.teE = none → s.f (fTMG_TE_CFG_TIMEOUT g) ≠ 0 → s.on (fTMG_TE_CFG_FALLBACK g) = true →
      x.swaps = [] →
      ceilTick (65536 * w + (x.teOuts + 1) * s.f (fTMG_TE_CFG_TIMEOUT g) * s.lper g) ≤ s.time.raster →
      ∃ u, exec (.teTimeout g) s = .next u ∧ (u.grp g).line = 0 ∧ (u.grp g).frame = (x.frame + 1) % 2 ^ 48 ∧
        (u.grp g).lineTick = ceilTick (65536 * w + (x.teOuts + 1) * s.f (fTMG_TE_CFG_TIMEOUT g) * s.lper g))

/-- R53 to R55, R80. RUN written in each STATE of a raster group, and the entry into STOPPED. `w` is the state after the other
fields of the word are written, as the checks see it. -/
def Obligations.GroupsStartStopAndResume : Prop :=
  ∀ (s : State) (g : Nat), g < 16 →
    (∀ req data, s.takesWrite req (fTMG_CTRL_RUN g).addr = true →
      let w := s.putFields (fTMG_CTRL_RUN g).addr data.toNat regTMG_CTRL.fields (s.gState g == 0) (atBits [0])
      let code := w.startCode g
      let st (n c : Nat) : Ev := ⟨s.clock (0x800 + g), 0x108, false, 0x800 + g, locusGroup g, packBits [(8, n), (8, c)]⟩
      (data.getLsbD 0 = true → s.gState g = 0 → s.on fDRV_PF_TRIPPED = false → w.on fFLT_STATUS_TERMINAL = false →
        (code = 0 → ∃ t, exec (.groupRun req g data) s = .next t ∧ t.gState g = 1 ∧ t.f (fTMG_CTRL_RUN g) = 1 ∧
          (t.grp g).live = false ∧ t.f (fTMG_LAD_STATUS_STEP g) = 0 ∧ t.f (fTMG_LAD_STATUS_STATIC g) = 0 ∧
          (t.grp g).due = ceilTick (65536 * s.time.raster + (w.lead g + 1) * w.lper g) ∧
          ∃ l, t.ev.enRoute = s.ev.enRoute ++ st 1 0 :: l) ∧
        (code ≠ 0 → code < 16 → ∃ t, exec (.groupRun req g data) s = .next t ∧ t.gState g = 0 ∧ t.f (fTMG_CTRL_RUN g) = 0 ∧
          t.f (fTMG_STATUS_CFG_ERR g) = code ∧ t.ev.enRoute = s.ev.enRoute ++ [st 0 code] ∧ t.groups = s.groups) ∧
        (16 ≤ code → ∃ t, exec (.groupRun req g data) s = .next t ∧ t.gState g = 0 ∧ t.f (fTMG_CTRL_RUN g) = 0 ∧
          t.f (fTMG_STATUS_CFG_ERR g) = 0 ∧ t.f (fDRV_STATUS_CHK g) = code % 256 ∧
          t.ev.enRoute = s.ev.enRoute ++ [st 0 code] ∧ t.groups = s.groups)) ∧
      (data.getLsbD 0 = false → s.gState g = 1 ∨ s.gState g = 2 → (s.grp g).teWait = none →
        ∃ t, exec (.groupStop req g data) s = .next t ∧ t.gState g = 3 ∧ t.f (fTMG_CTRL_RUN g) = 0 ∧
          (t.grp g).left = s.gState g ∧ t.ev.enRoute = s.ev.enRoute ++ [st 3 0] ∧ ∀ h, h ≠ g → t.grp h = s.grp h) ∧
      (data.getLsbD 0 = true → s.gState g = 3 → s.on fDRV_PF_TRIPPED = false → w.on fFLT_STATUS_TERMINAL = false →
        ∃ t, exec (.groupResume req g data) s = .next t ∧ t.gState g = (s.grp g).left % 8 ∧ t.f (fTMG_CTRL_RUN g) = 1 ∧
          t.ev.enRoute = s.ev.enRoute ++ [st (s.grp g).left 0] ∧ t.groups = s.groups ∧
          (t.gState g = 1 → bit (t.f fPAN_SR_STATUS_GROUPS) g = 0))) ∧
    ((s.grp g).latchDue = false → (s.grp g).swaps = [] → (s.grp g).attr = [] → (s.grp g).held = [] → (s.grp g).later = [] →
      (∃ t, s.nextEv g = .stop t ∧ t ≤ s.time.raster) ∨ (s.gState g = 3 ∧ (s.grp g).teWait.isSome = true) →
      ∃ t, exec (.groupEnterStopped g) s = .next t ∧ t.gState g = 0 ∧ t.f (fTMG_LAD_STATUS_PAIR g) = 0 ∧ (t.grp g).live = false ∧ (t.grp g).latched = false)

/-- R56, R57, R59, R60, R69, R74, R76. A cut-off decides which commits the coming latch takes; the latch is taken; a commit that
reaches the raster die is refused, waits for the coming latch or for the one after it; edges of SYNCIN and TE pins are noted. -/
def Obligations.CutoffsLatchesCommitsAndEdges : Prop :=
  ∀ (s : State),
    (∀ g t, g < 16 → s.nextCut g = some t → t ≤ s.time.raster → (s.grp g).cutPassed = false →
      ∃ u, exec (.cutoff g) s = .next u ∧ (u.grp g).cutPassed = true ∧
        (u.grp g).attr = (splitHeld (s.heldNow g) ((s.grp g).held ++ (s.grp g).attr)).1 ∧
        (u.grp g).held = (splitHeld (s.heldNow g) ((s.grp g).held ++ (s.grp g).attr)).2.map (fun c => { c with waited := true }) ∧
        (u.grp g).later = (s.grp g).later ∧ ∀ h, h ≠ g → u.grp h = s.grp h) ∧
    (∀ g, g < 16 → (s.grp g).latchDue = true → (s.grp g).cutPassed = true →
      ∃ u, exec (.latch g) s = .next u ∧ (u.grp g).latched = true ∧ (u.grp g).latchTick = (s.grp g).lineTick ∧
        (u.grp g).line = (s.grp g).line ∧ (u.grp g).lineTick = (s.grp g).lineTick ∧ (u.grp g).frame = (s.grp g).frame ∧
        (u.grp g).epoch = (s.grp g).epoch ∧ (u.grp g).cur = (s.grp g).cur ∧ ∀ h, h ≠ g → (u.grp h).pos = (s.grp h).pos) ∧
    (∀ g, g < 16 → (s.grp g).latchDue = false → exec (.latch g) s = .next s) ∧
    (∀ c cs, s.transit = c :: cs → c.group < 16 →
      let s0 := { s with transit := cs }
      let c' := { c with arrival := s.time.raster }
      (s0.commitCode c' ≠ 0 →
        ∃ t, exec .commitArrival s = .next t ∧ t.transit = cs ∧ t.groups = s.groups ∧
          t.ev.enRoute = s.ev.enRoute ++ [⟨s.clock c.issuer, 0x101, false, c.issuer, locusGroup c.group,
            packBits [(16, c.cseq), (8, s0.commitCode c')]⟩] ∧
          t.th.reports = s.th.reports ++ [⟨c.issuer, c.cseq, true⟩]) ∧
      (s0.commitCode c' = 0 → s.gState c.group ≠ 0 →
        ∃ t, exec .commitArrival s = .next t ∧ t.transit = cs ∧
          (t.grp c.group).attr = (if s0.pastCut c.group = true then (s.grp c.group).attr else insertCommit c' (s.grp c.group).attr) ∧
          (t.grp c.group).later = (if s0.pastCut c.group = true then insertCommit c' (s.grp c.group).later else (s.grp c.group).later) ∧
          ∀ h, h ≠ c.group → t.grp h = s.grp h)) ∧
    (∀ (c : Commit) (l : List Commit), let before := fun d : Commit => decide (¬ (d.arrival = c.arrival ∧ c.issuer < d.issuer))
      insertCommit c l = l.takeWhile before ++ c :: l.dropWhile before) ∧
    (∀ pin level stamp, pin < 4 → stamp ≤ s.time.raster →
      ∃ t, exec (.syncinEdge pin level stamp) s = .next t ∧
        (∀ g, g < 16 → s.on (fTMG_GENLOCK_GL_EN g) = true → s.f (fTMG_GENLOCK_SRC g) = pin →
          s.on (fTMG_GENLOCK_POL g) = !level → (s.grp g).gl.tsync = none →
          (t.grp g).gl.e1 = some (65536 * stamp) ∧ (t.grp g).gl.e2 = (s.grp g).gl.e1) ∧
        (∀ g, g < 16 → s.on (fTMG_GENLOCK_GL_EN g) = false ∨ s.f (fTMG_GENLOCK_SRC g) ≠ pin ∨
          s.on (fTMG_GENLOCK_POL g) = level → t.grp g = s.grp g)) ∧
    (∀ g level stamp, g < 16 → stamp ≤ s.time.raster → level ≠ s.on (fTMG_TE_CFG_POL g) →
      ∃ t, exec (.teEdge g level stamp) s = .next t ∧
        t.ev.enRoute = s.ev.enRoute ++ (if s.on (fTMG_TE_CFG_TE_EVT g) = true then
          [⟨stamp, 0x106, false, 0xB00 + g, locusGroup g, packBits [(8, b2n level)]⟩] else []) ∧
        (s.gState g ≠ 0 → (s.grp g).live = false ∨ (s.grp g).cur.vact ≤ (s.grp g).line → (s.grp g).vactTick < stamp →
          (s.grp g).teE = none → (t.grp g).teE = some stamp) ∧
        ((s.grp g).teE.isSome = true → t.groups = s.groups) ∧ ∀ h, h ≠ g → t.grp h = s.grp h)

/-- R122, R126, R138, R145 to R148. A write of SLEEP binds every running group to enter or leave self-refresh at its next latch
whose cut-off follows; the table-load engine takes, refuses and ends a transfer; a span's pixels reach the line buffer. -/
def Obligations.SelfRefreshTablesAndSpans : Prop :=
  ∀ (s : State),
    (∀ req (data : Word), s.takesWrite req fPAN_SR_CTRL_SLEEP.addr = true →
      (data.getLsbD 0 = true → ∃ t, exec (.srSleepSet req data) s = .next t ∧ t.f fPAN_SR_CTRL_SLEEP = 1 ∧
        t.f fPAN_SR_STATUS_CAUSE = 1 ∧ t.ev = s.ev ∧ ∀ g, g < 16 → t.grp g = if s.running g = true then
          { s.grp g with srEnterAtLatch := !s.inSr g || (s.grp g).srAtLatch == 2, srExitAtLatch := false } else s.grp g) ∧
      (data.getLsbD 0 = false → ∃ t, exec (.srSleepClear req data) s = .next t ∧ t.f fPAN_SR_CTRL_SLEEP = 0 ∧
        t.f fPAN_SR_STATUS_CAUSE = s.f fPAN_SR_STATUS_CAUSE ∧ t.ev = s.ev ∧ ∀ g, g < 16 → t.grp g = if s.running g = true then
          { s.grp g with srExitAtLatch := s.inSr g || (s.grp g).srAtLatch == 1, srEnterAtLatch := false } else s.grp g)) ∧
    (∀ req (data : Word), s.takesWrite req fPIX_TLD_CTRL_GO.addr = true → data.getLsbD 31 = true →
      let g := bitsOf data.toNat 27 24
      let kind := bitsOf data.toNat 21 20
      let bank := bit data.toNat 16
      let w := (((s.setF fPIX_TLD_CTRL_DIR (bit data.toNat 30)).setF fPIX_TLD_CTRL_GROUP g).setF fPIX_TLD_CTRL_KIND kind).setF
        fPIX_TLD_CTRL_BANK bank
      let ld := w.putBit (fLoaded g kind) bank false
      (data.getLsbD 30 = false → s.on fPIX_TLD_STATUS_BUSY = false → kind ≠ 3 → ld.bankInUse g kind bank = false →
        256 * s.f fPIX_TLD_SRC_GRAN + 2 * tblEntries kind ≤ fsEnd →
        ∃ t, exec (.tableLoad req data) s = .next t ∧ t.pix.tld = some ⟨g, kind, bank, 0, s.f fPIX_TLD_SRC_GRAN, 0, reqNum req⟩ ∧
          t.f fPIX_TLD_STATUS_BUSY = 1 ∧ bit (t.f (fLoaded g kind)) bank = 0 ∧ t.pix.tables = s.pix.tables ∧ t.ev = s.ev) ∧
      (data.getLsbD 30 = false → s.on fPIX_TLD_STATUS_BUSY = false → kind ≠ 3 → ld.bankInUse g kind bank = true →
        ∃ t, exec (.tableLoad req data) s = .next t ∧ t.pix.tld = none ∧ t.f fPIX_TLD_STATUS_BUSY = 0 ∧
          t.f fPIX_TLD_STATUS_RESULT = 2 ∧ bit (t.f (fLoaded g kind)) bank = 0 ∧ t.on fFLT_STATUS_ERR_CFG_LIVE = true ∧
          t.pix.tables = s.pix.tables) ∧
      (data.getLsbD 30 = true → s.on fPIX_TLD_STATUS_BUSY = false → kind ≠ 3 →
        256 * s.f fPIX_TLD_SRC_GRAN + 2 * tblEntries kind ≤ fsEnd →
        ∃ t, exec (.tableReadback req data) s = .next t ∧ t.pix.tld = some ⟨g, kind, bank, 1, s.f fPIX_TLD_SRC_GRAN, 0, reqNum req⟩ ∧
          t.f fPIX_TLD_STATUS_BUSY = 1 ∧ t.f (fLoaded g kind) = s.f (fLoaded g kind) ∧ t.ev = s.ev) ∧
      (s.on fPIX_TLD_STATUS_BUSY = true → ∃ t, exec (if data.getLsbD 30 then .tableReadback req data else .tableLoad req data) s =
        .next t ∧ t.f fPIX_TLD_STATUS_REJECT = 1 ∧ t.pix = s.pix ∧ t.ev = s.ev)) ∧
    (∀ rounds (t : Tld), s.pix.tld = some t →
      let e (r : Nat) : Ev := ⟨s.clock (0x800 + t.group), 0x123, false, 0x800 + t.group, locusGroup t.group,
        packBits [(8, r), (8, t.kind), (8, t.bank), (8, t.dir), (16, min rounds 65535)]⟩
      (t.dir = 1 → ∃ u, exec (.tldDone rounds) s = .next u ∧ u.pix.tld = none ∧ u.f fPIX_TLD_STATUS_BUSY = 0 ∧
        u.f fPIX_TLD_STATUS_RESULT = (if rounds = 0 then 0 else 1) ∧
        u.fs.mem = (s.devWrite (tagCopy t.by_ noOwner) (256 * t.gran) ((List.range (tblEntries t.kind)).flatMap fun i =>
          leBytes 2 (smGet (fun _ => 0) s.pix.tables (tblKey t.group t.kind t.bank i)))).fs.mem) ∧
      (t.dir ≠ 1 → s.asleep (256 * t.gran) (2 * tblEntries t.kind) = false →
        s.readBlocked (256 * t.gran) (2 * tblEntries t.kind) = [] →
        let bs := s.fsBytes (256 * t.gran) (2 * tblEntries t.kind)
        (s.poisonedIn (256 * t.gran) (2 * tblEntries t.kind) = true → ∃ u, exec (.tldDone rounds) s = .next u ∧
          u.pix.tld = none ∧ u.f fPIX_TLD_STATUS_BUSY = 0 ∧ u.f fPIX_TLD_STATUS_RESULT = 4 ∧ u.pix.tables = s.pix.tables ∧
          u.ev.enRoute = s.ev.enRoute ++ [e 4]) ∧
        (s.poisonedIn (256 * t.gran) (2 * tblEntries t.kind) = false → ∃ u, exec (.tldDone rounds) s = .next u ∧
          u.pix.tld = none ∧ u.f fPIX_TLD_STATUS_BUSY = 0 ∧ u.f fPIX_TLD_STATUS_RESULT = (if rounds = 0 then 0 else 1) ∧
          u.pix.tables = loadEntries t.group t.kind t.bank (tblEntries t.kind) bs s.pix.tables 0 ∧
          u.ev.enRoute = s.ev.enRoute ++ [e (if rounds = 0 then 0 else 1)]))) ∧
    (∀ g line span px, g < 16 → s.nextSpan g = (line, span) → s.spanDue g = true → s.spanPx g line span = some px →
      (s.spanLater g line = true → exec (.pipeSpan g line span) s = .next s) ∧
      (s.spanLater g line = false → ∃ t, exec (.pipeSpan g line span) s = .next t ∧
        t.nextSpan g = (let c := if 64 * (span + 1) < s.hact g then 1024 * line + span + 1 else 1024 * (line + 1); (c / 1024, c % 1024)) ∧
        t.pix.lb = (if s.lineOver g line = true ∧ s.tech g ≠ 3 then s.pix.lb else
          px.foldl (fun m e => smSet (fun _ => 0) m (lbKey g line e.1) (e.2.2 + 2 ^ 63)) s.pix.lb) ∧
        (s.lineOver g (min (line / 2 * 2 + 1) (s.vact g - 1)) = false → t.pix.odv = if s.histOn g = true then
          px.foldl (fun m e => smSet (fun _ => 0) m (odvKey g line e.1) (e.2.1 + 2 ^ 42)) s.pix.odv else s.pix.odv))) ∧
    (∀ g line span, g < 16 → s.nextSpan g = (line, span) → s.spanDue g = true → s.spanPx g line span = none →
      exec (.pipeSpan g line span) s = .next (s.spanGate g line span).2)

/-- R193, R195, R196, R198, R199, R206. Reads of the frame store and of the scrubber, the refresh rule of a pseudo-channel, the
low-power states of a stack, and the held registers of the cell pool. -/
def Obligations.FrameStoreReadsRefreshAndPower : Prop :=
  ∀ (s : State),
    (∀ addr err cls, addr < fsEnd →
      let k := stackOf addr
      (s.stackReady k = true →
        (s.poisoned addr = true ∨ err = 2 → ∃ t, exec (.fstReadDone addr err cls) s = .next t ∧ t.poisoned addr = true ∧
          t.f fFST_ECC_CNT_UE = min (s.f fFST_ECC_CNT_UE + 1) 65535 % 65536 ∧ t.f fFST_UE_ADDR_VALID = 1 ∧
          t.f fFST_UE_ADDR_GRAN = addr / 256 % 2 ^ 28 ∧ t.fs.mem = s.fs.mem ∧
          ∃ l, t.ev.enRoute = s.ev.enRoute ++ ⟨s.time.master, 0x135, false, 0xE00, 0,
            packBits [(8, 1), (8, k), (16, 0), (32, addr / 256), (8, cls)]⟩ :: l) ∧
        (s.poisoned addr = false → err = 1 → ∃ t, exec (.fstReadDone addr err cls) s = .next t ∧
          t.f fFST_ECC_CNT_CE = min (s.f fFST_ECC_CNT_CE + 1) 65535 % 65536 ∧ t.fs.mem = s.fs.mem ∧ t.fs.poison = s.fs.poison) ∧
        (s.poisoned addr = false → err = 0 → ∃ t, exec (.fstReadDone addr err cls) s = .next t ∧
          smGet (fun _ => 0) t.fs.lastReq k = s.time.master ∧ Only [] [.fsRest] s t ∧ t.fs.exitAt = s.fs.exitAt)) ∧
      (s.f (fStack k) ≠ 0 → ∃ t, exec (.fstReadDone addr err cls) s = .next t ∧ t.f (fStack k) = 0 ∧
        t.exitAt k = some (s.time.master + s.exitLat (s.f (fStack k))) ∧ Only [fStack k] [.fsRest] s t)) ∧
    (∀ refused err,
      let a := 256 * s.fs.scrub
      (s.on fFST_SCRUB_CFG_SCRUB_EN = true → refused = true ∨ (s.asleep a 256 = false ∧ ∀ i, i < 8 → err / 4 ^ i % 4 = 0 ∧
          s.poisoned (a + 32 * i) = false) → ∃ t, exec (.scrubRead refused err) s = .next t ∧
        t.fs.scrub = (s.fs.scrub + 1) % (fsEnd / 256) ∧ Only [] [.fsRest] s t) ∧
      (s.on fFST_SCRUB_CFG_SCRUB_EN = true → refused = false → s.asleep a 256 = false → ∃ t, exec (.scrubRead refused err) s = .next t ∧
        t.fs.scrub = (s.fs.scrub + 1) % (fsEnd / 256) ∧ t.fs.mem = s.fs.mem ∧
        ∀ i, i < 8 → err / 4 ^ i % 4 = 2 → t.poisoned (a + 32 * i) = true) ∧
      (s.on fFST_SCRUB_CFG_SCRUB_EN = true → refused = false → s.asleep a 256 = true →
        exec (.scrubRead refused err) s = .next (s.touchRange a 256)) ∧
      (s.on fFST_SCRUB_CFG_SCRUB_EN = false → exec (.scrubRead refused err) s = .next s)) ∧
    (∀ pc busy, pc < 64 → s.f (fStack (pc / 32)) ≠ 2 →
      let n := smGet (fun _ => 0) s.fs.postponed pc
      (busy = false ∨ n < 7 → ∃ t, exec (.refreshInterval pc busy) s = .next t ∧
        smGet (fun _ => 0) t.fs.postponed pc = (if busy then n + 1 else 0) ∧ Only [] [.fsRest] s t) ∧
      (busy = true → 7 ≤ n → ∃ t, exec (.refreshInterval pc busy) s = .next t ∧ smGet (fun _ => 0) t.fs.postponed pc = 8 ∧
        Only [] [.fsRest] s t)) ∧
    (∀ pc busy, pc < 64 → s.f (fStack (pc / 32)) = 2 → exec (.refreshInterval pc busy) s = .next s) ∧
    (∀ stack, stack < 2 → smGet (fun _ => 0) s.fs.lastReq stack + 1024 ≤ s.time.master → s.exitAt stack = none →
      s.stackPending stack = false →
      (s.on fFST_PWR_CFG_SR_EN = true → s.exitLat 2 + s.f fFST_PWR_CFG_MARGIN ≤ s.f fPAN_TOL_TOL →
        ∃ t, exec (.stackIdle stack) s = .next t ∧ t.f (fStack stack) = 2 ∧ Only [fStack stack] [] s t) ∧
      (s.on fFST_PWR_CFG_SR_EN = false ∨ s.f fPAN_TOL_TOL < s.exitLat 2 + s.f fFST_PWR_CFG_MARGIN →
        s.on fFST_PWR_CFG_PD_EN = true → s.exitLat 1 + s.f fFST_PWR_CFG_MARGIN ≤ s.f fPAN_TOL_TOL → s.f (fStack stack) = 0 →
        ∃ t, exec (.stackIdle stack) s = .next t ∧ t.f (fStack stack) = 1 ∧ Only [fStack stack] [] s t)) ∧
    (∀ stack due, s.exitAt stack = some due → due ≤ s.time.master →
      let u := { s with fs := { s.fs with exitAt := smSet (fun _ => none) s.fs.exitAt stack none } }
      let go := s.host.memWait.filter fun r => u.stackReady (stackOf (64 * r.line))
      exec (.stackExitDone stack) s = .next ((go.foldl (fun (s : State) r => s.memServe r) { u with host := { s.host with
        memWait := s.host.memWait.filter fun r => !u.stackReady (stackOf (64 * r.line)) } }).storeGoes)) ∧
    (∀ req (data : Word), s.takesWrite req fFST_STRUDEL_CELLS_CELLS.addr = true →
      (s.strudelStopped = true → ∃ t, exec (.strudelConfigWrite req fFST_STRUDEL_CELLS_CELLS.addr data) s = .next t ∧
        t.f fFST_STRUDEL_CELLS_CELLS = bitsOf data.toNat 23 0 ∧ t.fs.used = [] ∧ t.codec.releasing = [] ∧ t.fs.mem = s.fs.mem) ∧
      (s.strudelStopped = false →
        ∃ t, exec (.strudelConfigWrite req fFST_STRUDEL_CELLS_CELLS.addr data) s = .next t ∧
          t.f fFST_STRUDEL_CELLS_CELLS = s.f fFST_STRUDEL_CELLS_CELLS ∧ t.f fFLT_STATUS_ERR_CFG_LIVE = 1 ∧ t.fs = s.fs)) ∧
    (∀ req (data : Word), s.takesWrite req fFST_STRUDEL_DEV_DEV_FIRST.addr = true →
      (s.setF fFST_STRUDEL_DEV_LOW (bitsOf data.toNat 31 24)).strudelStopped = true →
      ∃ t, exec (.strudelConfigWrite req fFST_STRUDEL_DEV_DEV_FIRST.addr data) s = .next t ∧
        t.f fFST_STRUDEL_DEV_DEV_FIRST = bitsOf data.toNat 23 0 ∧ t.f fFST_STRUDEL_DEV_LOW = bitsOf data.toNat 31 24 ∧
        t.fs.used = [] ∧ t.fs.mem = s.fs.mem)

/-- R217, R219 to R221, R224 to R228. Jobs are submitted, checked, encoded block by block and released in ring order; freed cells
return after 65,536 ticks; a tile's block is fetched, decoded, or rendered as background with its code. -/
def Obligations.CodecJobsCellsAndTiles : Prop :=
  ∀ (s : State),
    (∀ req (data : Word), s.takesWrite req fCDC_RING_PTR_TAIL.addr = true →
      let n := 2 ^ s.cdcLog2
      let tail := data.toNat % 65536 % n
      let old := s.f fCDC_RING_PTR_TAIL % n
      let count := (tail + n - old) % n
      let room := (old + n - s.f fCDC_RING_PTR_HEAD % n) % n + count < n
      ∃ t, exec (.codecSubmit req data) s = .next t ∧ t.ev = s.ev ∧ t.fs = s.fs ∧
        (room → t.f fCDC_RING_PTR_TAIL = tail % 65536 ∧
          t.codec.jobs.map (fun j => (j.idx, j.started)) = s.codec.jobs.map (fun j => (j.idx, j.started)) ++
            (List.range count).map (fun i => ((old + i) % n, false))) ∧
        (¬ room → t.f fCDC_RING_PTR_TAIL = s.f fCDC_RING_PTR_TAIL ∧ t.codec = s.codec)) ∧
    (∀ j v, s.nextJob = (some j, v) →
      let r := jobRefusal j (v.on fCXL_LINK_STATUS_CACHE)
      let todo := (jobBlocks j).filter fun b =>
        encodeRows (jobF j 9 31 16) b.2 (surfHb (jobSurf j) b.2) (jobF j 0 16 16 == 1) != 0
      (jobF j 0 31 24 ≠ 2 → r ≠ 0 →
        exec .codecEncode s = .next (v.setJob j.idx fun _ => { j with started := true, reason := r }).runJobs) ∧
      (jobF j 0 31 24 ≠ 2 → r = 0 →
        exec .codecEncode s = .next (v.setJob j.idx fun _ => { j with started := true, todo := todo }).runJobs) ∧
      (jobF j 0 31 24 = 2 → r ≠ 0 →
        exec .codecRelease s = .next (v.setJob j.idx fun _ => { j with started := true, reason := r }).runJobs) ∧
      (∀ w, jobF j 0 31 24 = 2 → r = 0 → (v.codec.jobs.any fun i => i.started && (!i.todo.isEmpty || i.busy != 0)) = false →
        v.readGate false ((jobBlocks j).flatMap fun b => v.chainReads (surfDesc (jobSurf j) b.1 b.2)) = (true, w) →
        exec .codecRelease s = .next ((((jobBlocks j).foldl (fun s b => s.releaseBlock (jobSurf j) b) w).setJob j.idx
          fun _ => { j with started := true }).runJobs))) ∧
    (∀ j js, s.codec.jobs = j :: js → j.started = true → j.todo = [] → j.busy = 0 → jobStatus j ≠ 1 → js = [] →
      let t := completeJobs s.codec.jobs s
      t.codec.jobs = [] ∧ t.f fCDC_RING_PTR_HEAD = (s.f fCDC_RING_PTR_HEAD + 1) % 2 ^ s.cdcLog2 % 65536 ∧
        Raised s t 0x133 (0xC00 + j.lastEnc.getD 0) 0 [(16, jobF j 0 15 0), (8, jobStatus j), (8, j.reason), (32, j.written),
          (16, j.shorts), (16, min j.rounds 65535)]) ∧
    (∀ e rounds idx bx by_ j v, (s.enc e).block = some (idx, bx, by_) → (s.codec.jobs.find? fun j => j.idx == idx) = some j →
      s.writesWait tagCodec = false → s.encClash j bx by_ = false →
      let rows := encodeRows (jobF j 9 31 16) by_ (surfHb (jobSurf j) by_) (jobF j 0 16 16 == 1)
      let short := decide (rows < surfHb (jobSurf j) by_)
      s.encodeGate j bx by_ (surfWb (jobSurf j) bx) rows = (true, v) →
      let u := v.dropSource j bx by_ (surfWb (jobSurf j) bx) rows
      (v.srcRows j bx by_ (surfWb (jobSurf j) bx) rows 0 = none →
        exec (.codecBlockDone e 0 rounds) s = .next (((u.setJob idx fun j =>
          { j with busy := j.busy - 1, srcFail := true, rounds := j.rounds + rounds }).setEnc e
            { u.enc e with block := none }).runJobs)) ∧
      (∀ px, v.srcRows j bx by_ (surfWb (jobSurf j) bx) rows 0 = some px →
        let bytes := encodeBlock (jobSurf j).fmt bx by_ (surfWb (jobSurf j) bx) rows short false px
        let need := cellsNeeded bytes.length (jobSurf j).slot
        let cells := findCells u (u.devEnd - u.devFirst) need u.devFirst
        (cells.length < need → j.waited = false → ∃ t, exec (.codecBlockDone e 0 rounds) s = .next t ∧
          Raised v t 0x134 0xE00 0 [(32, v.f fFST_STRUDEL_FREE_FREE)] ∧ t.fs = v.fs ∧ t.codec.encs = v.codec.encs) ∧
        (need ≤ cells.length →
          let w := u.writeBlock j bx by_ bytes cells
          let w := if short then w.count fCDC_SHORT_CNT_SHORT 1 else w
          exec (.codecBlockDone e 0 rounds) s = .next (((w.setJob idx fun j => { j with
              busy := j.busy - 1
              written := j.written + 1
              shorts := j.shorts + b2n short
              rounds := j.rounds + rounds
              lastEnc := some e }).setEnc e { w.enc e with block := none }).runJobs)))) ∧
    (∀ due cs rest, s.codec.releasing = (due, cs) :: rest → due ≤ s.time.master →
      ∃ t, exec .cellRelease s = .next t ∧ t.codec.releasing = rest ∧ t.fs.mem = s.fs.mem ∧
        (∀ c, smGet (fun _ => false) t.fs.used c = if c ∈ cs then false else smGet (fun _ => false) s.fs.used c)) ∧
    (∀ req (data : Word), s.takesWrite req fCDC_STATUS_QUAR.addr = true → 65536 ≤ data.toNat → s.codec.jobs = [] →
      s.w1cNow fCDC_STATUS_QUAR = 0 → ∃ t, exec (.encoderRelease req data) s = .next t ∧ ∀ e, e < 16 → data.getLsbD (16 + e) = true →
        bit (t.f fCDC_STATUS_QUAR) e = 0) ∧
    (∀ p bx by_, s.isTiled p = true → bx < surfBW (s.paneSurf p) → by_ < surfBH (s.paneSurf p) → s.tile p bx by_ = none →
      (∀ v, s.readGate true (s.blockReads (s.paneSurf p) bx by_) = (true, v) →
        ∃ t, exec (.blockFetchDone p bx by_) s = .next t ∧ t.tile p bx by_ = some (fetchBlock v (v.paneSurf p) bx by_) ∧
          Only [] [.codec] v t) ∧
      (∀ dec,
        ∃ t, exec (.tileFetchTimeout p bx by_ dec) s = .next t ∧ t.tile p bx by_ = some .background ∧
          ∃ l, t.ev.enRoute = s.ev.enRoute ++ ⟨s.clock (0xC40 + dec), 0x130, false, 0xC40 + dec, locusPane (s.f (fPANE_GROUP p)) p,
            packBits [(8, 8), (8, 0), (48, s.procFrame (s.f (fPANE_GROUP p))), (16, bx), (16, by_)]⟩ :: l)) ∧
    (∀ p bx by_ dec, s.tilesBefore p by_ < 64 →
      (s.tile p bx by_ = some .empty → ∃ t, exec (.blockDecodeDone p bx by_ dec) s = .next t ∧
        t.tile p bx by_ = some .background ∧ Only [] [.codec] s t) ∧
      (∀ len n bytes rows px, s.tile p bx by_ = some (.stream len n bytes) →
        decodeBlock (s.paneSurf p).fmt bx by_ (surfWb (s.paneSurf p) bx) (surfHb (s.paneSurf p) by_) len n (s.paneSurf p).slot
          bytes = .ok rows px → ∃ t, exec (.blockDecodeDone p bx by_ dec) s = .next t ∧
          t.tile p bx by_ = some (.shown rows px) ∧ Only [] [.codec] s t) ∧
      (∀ code, s.tile p bx by_ = some (.failed code) → ∃ t, exec (.blockDecodeDone p bx by_ dec) s = .next t ∧
        t.tile p bx by_ = some .background ∧
        ∃ l, t.ev.enRoute = s.ev.enRoute ++ ⟨s.clock (0xC40 + dec), 0x130, false, 0xC40 + dec, locusPane (s.f (fPANE_GROUP p)) p,
          packBits [(8, code), (8, 0), (48, s.procFrame (s.f (fPANE_GROUP p))), (16, bx), (16, by_)]⟩ :: l))

/-- R252, R257, R260, R282. An arithmetic or logic instruction writes its destination register with the
function of the table, operand B being Gb, the sign- or zero-extended immediate, or the L form's second word. -/
def Obligations.ArithmeticWritesItsDestination : Prop :=
  ∀ (s : State) (o op : Nat) (i : Ins), s.issues o op i →
    let a := s.gw o i.a
    let b := if i.long.isSome then BitVec.ofNat 32 (i.long.getD 0) else if i.op < 0x10 then s.gw o i.b
      else BitVec.ofInt 32 (sInt 16 i.imm)
    let bz := if i.long.isSome then BitVec.ofNat 32 (i.long.getD 0) else if i.op < 0x10 then s.gw o i.b
      else BitVec.ofNat 32 i.imm
    let fl := (s.core o).flags
    let pc := (s.core o).pc
    let gets := fun (c : Instr) (v : Word) (n : Nat) => ∃ t, exec c s = .next t ∧
      s.wentOn t o (fun k => if k = i.d then v else s.gw o k) fl (pc + 4 * n) n
    (op = 0x00 → ∃ t, exec (.nop o) s = .next t ∧ s.wentOn t o (s.gw o) fl (pc + 4) 1) ∧
    (op = 0x01 ∨ op = 0x11 → gets (.add o) (a + b) 1) ∧ (op = 0x02 → gets (.sub o) (a - b) 1) ∧
    (op = 0x03 ∨ op = 0x13 → gets (.and o) (a &&& bz) 1) ∧ (op = 0x04 ∨ op = 0x14 → gets (.or o) (a ||| bz) 1) ∧
    (op = 0x05 ∨ op = 0x15 → gets (.xor o) (a ^^^ bz) 1) ∧
    (op = 0x06 ∨ op = 0x16 → gets (.shl o) (a <<< (bz.toNat % 32)) 1) ∧
    (op = 0x07 ∨ op = 0x17 → gets (.shr o) (a >>> (bz.toNat % 32)) 1) ∧
    (op = 0x08 ∨ op = 0x18 → gets (.sra o) (a.sshiftRight (bz.toNat % 32)) 1) ∧
    (op = 0x09 ∨ op = 0x19 → gets (.min o) (if a.slt b then a else b) 1) ∧
    (op = 0x0A ∨ op = 0x1A → gets (.max o) (if a.slt b then b else a) 1) ∧
    (op = 0x0B ∨ op = 0x1B → gets (.mul16 o) (BitVec.ofNat 32 (a.toNat % 65536 * (bz.toNat % 65536))) 1 ∧
      ∃ t, exec (.mul16 o) s = .next t ∧ (t.core o).hot = i.d ∧ (t.core o).hotAt = cycleAfter o (s.clock o) 2) ∧
    (op = 0x10 → gets (.ldi o) b 1) ∧ (op = 0x1D → gets (.lui o) (bz <<< 16) 1) ∧
    (op = 0x0E →
      (i.op = 0x10 → gets (.lForm o) b 2) ∧ (i.op = 0x11 → gets (.lForm o) (a + b) 2) ∧
      (i.op = 0x13 → gets (.lForm o) (a &&& b) 2) ∧ (i.op = 0x14 → gets (.lForm o) (a ||| b) 2) ∧
      (i.op = 0x15 → gets (.lForm o) (a ^^^ b) 2) ∧ (i.op = 0x19 → gets (.lForm o) (if a.slt b then a else b) 2) ∧
      (i.op = 0x1A → gets (.lForm o) (if a.slt b then b else a) 2))

/-- R254, R255, R262 to R264, R282. Branches, jumps, CALL and RET set the PC; LD reads and ST writes the local space at Ga plus the
signed offset, an LD's register being readable one cycle later. -/
def Obligations.BranchesCallsAndLocalMemory : Prop :=
  ∀ (s : State) (o op : Nat) (i : Ins), s.issues o op i →
    let c := s.core o
    let off := 4 * sInt 16 i.imm
    let rel := ((c.pc + off) % 2 ^ 32).toNat
    let tgt := if i.a = 0 then rel else (((s.gw o i.a).toNat + off) % 2 ^ 32).toNat
    let goes := fun (c' : Instr) (s' : State) (pc n : Nat) => ∃ t, exec c' s = .next t ∧ s'.wentOn t o (s.gw o) c.flags pc n
    let br := fun (c' : Instr) (take : Prop) => (take → goes c' s rel 2) ∧ (¬ take → goes c' s (c.pc + 4) 1)
    let x := s.gw o i.d
    let y := s.gw o i.a
    let flag := bit c.flags (bitsOf i.w 23 21)
    let a := (s.gw o i.a + BitVec.ofInt 32 (sInt 16 i.imm)).toNat
    let loads := fun (v : Word) (s' : State) => ∃ t, exec (.ld o) s = .next t ∧
      s'.wentOn t o (fun k => if k = i.d then v else s.gw o k) c.flags (c.pc + 4) 1 ∧ (t.core o).hot = i.d ∧
        (t.core o).hotAt = cycleAfter o (s.clock o) 2
    (op = 0x20 → br (.beq o) (x = y)) ∧ (op = 0x21 → br (.bne o) (x ≠ y)) ∧ (op = 0x22 → br (.blt o) (x.toInt < y.toInt)) ∧
    (op = 0x23 → br (.bge o) (y.toInt ≤ x.toInt)) ∧ (op = 0x2C → br (.beq o) (flag = 0)) ∧ (op = 0x2D → br (.bne o) (flag = 1)) ∧
    (op = 0x24 → goes (.j o) s tgt 2) ∧
    (op = 0x25 → (c.stack.length < 8 → goes (.call o) (s.setCore o { c with stack := (c.pc + 4) :: c.stack }) tgt 2) ∧
      (8 ≤ c.stack.length → exec (.call o) s = .next ((s.setCore o { c with len := 4 }).coreFault o 5))) ∧
    (op = 0x26 → (∀ r st, c.stack = r :: st → goes (.ret o) (s.setCore o { c with stack := st }) (r % 2 ^ 32) 2) ∧
      (c.stack = [] → exec (.ret o) s = .next ((s.setCore o { c with len := 4 }).coreFault o 5))) ∧
    (op = 0x28 →
      (a % 4 = 0 → a / 4 < dmemWords o → loads (BitVec.ofNat 32 (s.dmem o (a / 4))) s) ∧
      (a = 0xFFFFF000 → loads (BitVec.ofNat 32 (if isTR o then (s.beam (s.coreGroup o) s.time.raster).1 else 0)) s) ∧
      (a = 0xFFFFF004 → loads (BitVec.ofNat 32 (if isTR o then (s.beam (s.coreGroup o) s.time.raster).2 else 0)) s) ∧
      (a = 0xFFFFF008 → loads (BitVec.ofNat 32 (if isTR o then (s.grp (s.coreGroup o)).frame else 0)) s) ∧
      (a = 0xFFFFF00C → loads (BitVec.ofNat 32 (s.clock o)) (s.setCore o { c with timeHi := s.clock o / 2 ^ 32 % 2 ^ 32 })) ∧
      (a = 0xFFFFF010 → loads (BitVec.ofNat 32 c.timeHi) s) ∧
      (a = 0xFFFFF014 → loads (BitVec.ofNat 32 (if isTR o then s.coreGroup o else 0xFFFFFFFF)) s) ∧
      (a = 0xFFFFF018 → loads (BitVec.ofNat 32 o) s) ∧ (a = 0xFFFFF01C → loads (BitVec.ofNat 32 c.flags) s) ∧
      (a = 0xFFFFF020 → loads (BitVec.ofNat 32 (s.f (fcPend o))) s) ∧
      (a % 4 ≠ 0 ∨ (dmemWords o ≤ a / 4 ∧ a < 0xFFFFF000) ∨ 0xFFFFF020 < a →
        exec (.ld o) s = .next ((s.setCore o { c with len := 4 }).coreFault o 3))) ∧
    (op = 0x29 →
      (a % 4 = 0 → a / 4 < dmemWords o → goes (.st o) (s.setDmem o (a / 4) x.toNat) (c.pc + 4) 1) ∧
      (a = 0xFFFFF01C → ∃ t, exec (.st o) s = .next t ∧ s.wentOn t o (s.gw o) (x.toNat % 256) (c.pc + 4) 1) ∧
      (a % 4 ≠ 0 ∨ (dmemWords o ≤ a / 4 ∧ a ≠ 0xFFFFF01C) →
        exec (.st o) s = .next ((s.setCore o { c with len := 4 }).coreFault o 3)))

/-- R253, R257 to R259, R281, R283 to R287. What a fault writes and where the core goes on; what faults before it executes; HALT, the
watchdog and the power-fail vector. -/
def Obligations.CoreFaultsHaltsAndVectors : Prop :=
  ∀ (s : State) (o : Nat), isTR o = true ∨ isTC o = true → s.inEntry o = none →
    let c := s.core o
    (∀ cause, cause < 9 →
      let t := s.coreFault o cause
      let insn := if cause = 2 then 0 else s.imem o (c.pc / 4)
      let goesOn := s.on (fcRestart o) = true ∧ s.on fDRV_PF_TRIPPED = false
      t.f (fcFValid o) = 1 ∧ t.f (fcFCause o) = cause ∧ t.f (fcFPc o) = c.pc / 4 % 2 ^ 16 ∧ t.f (fcFInsn o) = insn % 2 ^ 32 ∧
        (∃ l, t.ev.enRoute = s.ev.enRoute ++ ⟨s.clock o, 0x140, false, o, s.coreLocus o, packBits [(8, cause),
          (8, b2n (decide goesOn)), (16, 0), (32, c.pc), (32, insn)]⟩ :: l) ∧
        (¬ goesOn → t.f (fcState o) = 4 ∧ (∀ k, t.gw o k = s.gw o k) ∧ (t.core o).pc = c.pc) ∧
        (goesOn → t.f (fcState o) = 1 ∧ t.f (fcPend o) = 0 ∧ (t.core o).pc = 4 * s.f (fcFaultW o) ∧ (t.core o).stack = [] ∧
          (t.core o).wdog = 0 ∧ (t.core o).flags = c.flags ∧ t.gw o 1 = BitVec.ofNat 32 cause ∧
          t.gw o 2 = BitVec.ofNat 32 c.pc ∧ ∀ k, k ≠ 1 → k ≠ 2 → t.gw o k = s.gw o k)) ∧
    (s.mayIssue o = true →
      (s.pcOk o = false → exec (.reservedOpcode o) s = .next (s.coreFault o 2)) ∧
      (s.pcOk o = true → s.word0 o / 2 ^ 26 ∈ [0x0D, 0x0F, 0x12, 0x1E, 0x1F, 0x27, 0x2E, 0x2F] →
        exec (.reservedOpcode o) s = .next (s.coreFault o 1)) ∧
      (s.pcOk o = true → s.word0 o / 2 ^ 26 = 0x02 → s.word0 o % 2 ^ 11 ≠ 0 → exec (.sub o) s = .next (s.coreFault o 1)) ∧
      (s.pcOk o = true → s.word0 o / 2 ^ 26 = 0x30 → isTC o = true → exec (.waitl o) s = .next (s.coreFault o 1)) ∧
      (s.pcOk o = true → s.word0 o / 2 ^ 26 = 0x0E → s.word0 o % 1024 ≠ 0 → c.pc / 4 + 1 < imemWords o →
        exec (.lForm o) s = .next (s.coreFault o 1)) ∧
      (s.pcOk o = true → s.word0 o / 2 ^ 26 = 0x0E → c.pc / 4 + 1 = imemWords o → exec (.lForm o) s = .next (s.coreFault o 2))) ∧
    (∀ i, s.issues o 0x3F i → ∃ t, exec (.halt o) s = .next t ∧ t.f (fcState o) = 3 ∧ (t.core o).pc = c.pc + 4 ∧
      (∀ k, t.gw o k = s.gw o k) ∧ t.th.gto = s.th.gto ∧ t.ch = s.ch) ∧
    (s.f (fcState o) = 1 → s.f (fcLimit o) ≠ 0 → 1024 * s.f (fcLimit o) ≤ c.wdog →
      exec (.watchdogExpiry o) s = .next (s.coreFault o 7)) ∧
    (s.on fDRV_PF_TRIPPED = true → exec .pfVector s = .next (trCores.foldl (fun s o => s.pfVector o) s).wakeBanks) ∧
    (isTR o = true → s.f (fcState o) ≠ 0 → s.f (fcPfv o) = 0 → s.on (fSQR_CFG_PF_EN (o - 0x400)) = true →
      (c.faultAt = some (s.clock o) → s.pfVector o = s) ∧ (c.faultAt ≠ some (s.clock o) →
      let t := s.pfVector o
      t.f (fcState o) = 1 ∧ t.f (fcPfv o) = 1 ∧ t.f (fcPend o) = 0 ∧ (t.core o).pc = 4 * s.f (fSQR_VEC_PF_W (o - 0x400)) ∧
        (t.core o).flags = 0 ∧ (t.core o).stack = [] ∧ (t.core o).wdog = 0 ∧ (∀ k, t.gw o k = s.gw o k) ∧
        ∃ l, t.ev.enRoute = s.ev.enRoute ++ l ++ [⟨s.clock o, 0x142, false, o, s.coreLocus o, packBits [(32, 0), (32, c.pc)]⟩]))

/-- R266 to R272, R279, R285, R290. Each wait and FENCE completes at issue or parks the core in WAITING with what it waits for, and
its completion writes the flag, zeroes the watchdog (not FENCE's) and goes on; which flag, by the tables of R268 to R272. -/
def Obligations.WaitsAndFencesCompleteWithTheirFlag : Prop :=
  ∀ (s : State) (o : Nat), isTR o = true ∨ isTC o = true →
    let c := s.core o
    let g := s.coreGroup o
    let x := s.grp g
    let live := x.live = true ∧ s.f (fTMG_STATUS_STATE g) ≠ 0
    let pend := fun n => bit (s.f (fcPend o)) n
    (∀ op i, s.issues o op i →
      let u := s.setCore o { c with len := if op = 0x0E then 8 else 4 }
      let sum := (s.gw o i.d + (if op = 0x0E then BitVec.ofNat 32 (i.long.getD 0) else BitVec.ofNat 32 i.imm)).toNat
      let n := bitsOf i.w 20 18
      let mode := bitsOf i.w 17 16
      (op = 0x30 → s.lineOwed g = false →
        let passed := live ∧ x.waitTarget (mode % 2 == 1) sum ≤ x.line
        (passed ∧ 2 ≤ mode → exec (.waitl o) s = .next (u.waitDone o n false)) ∧
        (¬ (passed ∧ 2 ≤ mode) → exec (.waitl o) s =
          .next (u.park o (.waitLine n sum (mode % 2 == 1) (!decide passed) (if live then some x.line else none))))) ∧
      (op = 0x31 → exec (.waitc o) s =
        .next (if s.colReached g sum then u.waitDone o n false else u.park o (.waitCol n sum))) ∧
      (op = 0x32 →
        (pend i.imm = 1 → exec (.waite o) s = .next ((u.putBit (fcPend o) i.imm false).waitDone o n true)) ∧
        (pend i.imm = 0 → exec (.waite o) s = .next (u.park o (.waitEvent n i.imm
          (if s.gw o i.d = 0 then none else some (s.clock o + (s.gw o i.d).toNat)))))) ∧
      (op = 0x33 ∨ (op = 0x0E ∧ i.op = 0x33) →
        let cmd := if op = 0x33 then Instr.waitt o else .lForm o
        let done := fun (u : State) (target : Nat) (low reached : Bool) =>
          exec cmd s = .next (if reached then u.waitDone o n false else u.park o (.waitTime n target low))
        (mode = 0 → done u sum true (decide (0 ≤ (BitVec.ofNat 32 (s.clock o) - BitVec.ofNat 32 sum).toInt))) ∧
        (mode = 1 → live → done u (x.lineTick + sum) false (decide (x.lineTick + sum ≤ s.clock o))) ∧
        (mode = 2 → done u (s.clock o + sum) false (sum == 0))) ∧
      (op = 0x3D → exec (.fence o) s = .next (if s.fenceClear o i.imm then u.retire o 1 else u.park o (.fence i.imm)))) ∧
    (∀ a, let t := s.park o a
      (t.core o).act = a ∧ (t.core o).ready = none ∧ t.f (fcState o) = 2 ∧ (s.f (fcState o) = 1 →
        Raised s t 0x141 o (s.coreLocus o) [(8, 2), (8, 1), (16, 0), (32, c.pc)])) ∧
    (∀ n b, let u := (s.setFlag o n b).setCoreSt o 1
      u.wentOn (s.waitDone o n b) o (s.gw o) (putBit c.flags n b) (c.pc + c.len) (1 + (c.len / 4 - 1)) ∧
        ((s.waitDone o n b).core o).wdog = 0 ∧ u.f (fcState o) = 1 ∧ (s.f (fcState o) = 2 →
          Raised s u 0x141 o (s.coreLocus o) [(8, 1), (8, 2), (16, 0), (32, c.pc)])) ∧
    (∀ n l sy ar p b, c.act = .waitLine n l sy ar p → c.ready = some b → exec (.waitlDone o) s = .next (s.waitDone o n b)) ∧
    (∀ n k, c.act = .waitCol n k → (∀ b, c.ready = some b → exec (.waitcDone o) s = .next (s.waitDone o n b)) ∧
      (c.ready = none → s.colReached g k = true → exec (.waitcDone o) s = .next (s.waitDone o n true))) ∧
    (∀ n k d, c.act = .waitEvent n k d → (∀ b, c.ready = some b → exec (.waiteDone o) s = .next (s.waitDone o n b)) ∧
      (∀ t, c.ready = none → d = some t → t ≤ s.clock o → exec (.waiteDone o) s =
        .next ((s.waitDone o n false).setCore o { (s.waitDone o n false).core o with expired := some (t, n, k) }))) ∧
    (∀ n k, srcOk o k = true → c.act = .run → c.expired = some (s.clock o, n, k) →
      (s.occur o k).core o = { c with flags := c.flags ||| 2 ^ n, expired := none }) ∧
    (∀ n t low, c.act = .waitTime n t low → s.timeReached o t low = true →
      exec (.waittDone o) s = .next (s.waitDone o n true)) ∧
    (∀ m, c.act = .fence m → s.fenceClear o m = true → exec (.fenceDone o) s = .next ((s.setCoreSt o 1).retire o 1)) ∧
    (∀ l y p, (y = l → waitLineFlag l y p = some true) ∧
      (∀ q, p = some q → y ≠ l → y = 0 ∨ (q < l ∧ l < y) → waitLineFlag l y p = some false))

/-- R273 to R277, R280, R282, R385, R430. EMIT queues its packet and says so in its flag; GSET, GCLR and GPULSE schedule edges, placed
in order of tick; EVENT raises its record. -/
def Obligations.EmitGatesAndEvents : Prop :=
  ∀ (s : State) (o op : Nat) (i : Ins), s.issues o op i →
    let c := s.core o
    let u := s.setCore o { c with len := 4 }
    let went := fun (c' : Instr) (s' : State) (fl n : Nat) => ∃ t, exec c' s = .next t ∧ s'.wentOn t o (s.gw o) fl (c.pc + 4) n
    (op = 0x34 →
      let ch := (s.gw o i.b).toNat / 16 % 256
      let pos := (s.gw o i.b).toNat % 16
      let cn := i.w % 8
      let kind := bitsOf i.w 5 3
      (s.emitBuffer o (s.gw o i.a).toNat = none → exec (.emit o false) s = .next (u.coreFault o 3)) ∧
      (∀ n ws, s.emitBuffer o (s.gw o i.a).toNat = some (n, ws) →
        (s.chainOwner ch ≠ some (s.coreGroup o) → exec (.emit o false) s = .next (u.coreFault o 6)) ∧
        (s.chainOwner ch = some (s.coreGroup o) →
          (ws = [] → went (.emit o false) s (putBit c.flags cn false) 4) ∧
          (ws ≠ [] → s.f (fLNK_CFG_QDEPTH ch) < (s.pq ch pos).length ∨ s.poolHas (cellsOf ws.length) = false →
            went (.emit o false) s (putBit c.flags cn false) 4) ∧
          (ws ≠ [] → (s.pq ch pos).length ≤ s.f (fLNK_CFG_QDEPTH ch) → s.poolHas (cellsOf ws.length) = true →
            let cycles := 4 + (n + 3) / 4
            let at' := s.clock o + (cycles - 1) * (if o = 0x440 then 16 else 1)
            let ty := if kind = 0 then 2 else if kind = 1 then 3 else if kind = 2 ∨ kind = 3 then 5 else 8
            let sk := if kind = 2 then 2 else if kind = 3 then 3 else 1
            went (.emit o false) ((s.setPq ch pos (insertPkt ⟨ty, sk, ws, o, at' + 64, 0, none, false, 0, 0, 0, false⟩ (s.pq ch pos))).takeCells
              (cellsOf ws.length)) (putBit c.flags cn true) cycles)))) ∧
    (op = 0x35 ∨ op = 0x36 ∨ op = 0x37 →
      let p := bitsOf i.w 25 20
      let ga := s.gw o (bitsOf i.w 19 15)
      let cmd := if op = 0x35 then Instr.gset o else if op = 0x36 then .gclr o else .gpulse o
      let wide := ga.toNat / 65536
      let need := if op = 0x37 then (if wide = 0 then 0 else 2) else 1
      let base := if bit i.w 14 = 1 then s.clock o else (s.grp (s.coreGroup o)).lineTick
      let T : Int := base + (if op = 0x37 then ((ga.toNat % 65536 : Nat) : Int) else ga.toInt) + (i.w % 2 ^ 14 : Nat)
      let low := u.lowerIssues o fun c j => decide (0x35 ≤ j.op ∧ j.op ≤ 0x37) && j.pin == p && u.pinOf j.pin (u.coreGroup c) &&
        decide ((u.pin j.pin).edges.length + u.gateEdges c j ≤ 8)
      (s.pinOf p (s.coreGroup o) = false → exec cmd s = .next (u.coreFault o 6)) ∧
      (s.pinOf p (s.coreGroup o) = true → 8 < (s.pin p).edges.length + need → exec cmd s = .next u) ∧
      (s.pinOf p (s.coreGroup o) = true → (s.pin p).edges.length + need ≤ 8 → low = true → exec cmd s = .next u) ∧
      (s.pinOf p (s.coreGroup o) = true → (s.pin p).edges.length + need ≤ 8 → low = false → bit i.w 14 = 1 ∨ s.lineLive (s.coreGroup o) = true →
        exec cmd s = .next ((if op = 0x35 then u.schedule p o T true else if op = 0x36 then u.schedule p o T false else
          if wide = 0 then u else (u.schedule p o T true).schedule p o (T + wide) false).retire o 1))) ∧
    (∀ (k : Pkt) (l : List Pkt), let before := fun j : Pkt => j.started || decide (¬ (k.ready < j.ready ∨ (k.ready = j.ready ∧ k.core < j.core)))
      insertPkt k l = l.takeWhile before ++ k :: l.dropWhile before) ∧
    (op = 0x3E →
      (16 ≤ s.ownEvents o → exec (.event o) s = .next u) ∧
      (s.ownEvents o < 16 → went (.event o) (s.raise (0x4000 + i.w % 2 ^ 14) o (s.coreLocus o)
        [(32, (s.gw o i.d).toNat), (32, (s.gw o i.a).toNat), (32, 0), (32, c.pc)]) c.flags 1)) ∧
    (∀ p T rise, p < 64 → isTR o = true → s.edgesOff p = false → ¬ (o = 0x440 ∧ s.on fDRV_BON_CTRL_ACTIVE) →
      let t := s.schedule p o T rise
      ((s.time.raster : Int) + 8 ≤ T → (t.pin p).edges = (s.pin p).edges ++ [⟨T.toNat, rise, o⟩] ∧ Only [] [.th] s t) ∧
      (T < (s.time.raster : Int) + 8 → (t.pin p).edges = (s.pin p).edges ++ [⟨s.time.raster + 8, rise, o⟩] ∧
        t.f (fSQR_LATE_EDGES (o - 0x400)) = min (s.f (fSQR_LATE_EDGES (o - 0x400)) + 1) 0xFFFFFFFF ∧
        Only [fSQR_LATE_EDGES (o - 0x400)] [.th] s t)) ∧
    (∀ p e, firstDue (s.pin p).edges s.time.raster = some e →
      ∃ t, exec (.gtoEdgePlace p) s = .next t ∧ (t.pin p).edges = (s.pin p).edges.filter (fun y => y.tick != e.tick) ∧
        (t.pin p).level = (if s.edgesOff p then (s.pin p).level else e.rise) ∧ Only [] [.th, .cal] s t)

/-- R278, R319, R322, R326 to R330, R342, R343. Opening, aborting and committing a transaction, taking and freeing a lock, by
any owner and by the management port; what the failure of its holder and a forced break make of a lock. -/
def Obligations.TransactionsAndLocksOfAnOwner : Prop :=
  ∀ (s : State),
    (∀ w, w ≤ 0x440 →
      let free := (List.range 256).find? fun t => s.f (fCPR_TXN_OWN_STATE t) == 0
      (s.txnSlot w ≠ none ∨ free = none → s.txnBegin w = (false, s)) ∧
      (∀ t, s.txnSlot w = none → free = some t → ∃ u, s.txnBegin w = (true, u) ∧ u.f (fCPR_TXN_OWN_STATE t) = 1 ∧
        u.f (fCPR_TXN_OWN_OWNER t) = w ∧ u.f (fCPR_TXN_OWN_DOOM t) = 0 ∧ u.f (fCPR_TXN_CNT_WRITES t) = 0 ∧ u.txnWs t = [] ∧
        Only ([fCPR_TXN_OWN_STATE t, fCPR_TXN_OWN_OWNER t, fCPR_TXN_OWN_DOOM t, fCPR_TXN_CNT_WRITES t, fCPR_TXN_STATUS_OPEN,
          fCXL_Q_STATUS_TXN_OPEN w]) [.th] s u) ∧
      (s.txnSlot w = none → s.txnAbort w = s ∧ ∀ g, s.txnCommit w g = (none, s)) ∧
      (∀ t, s.txnSlot w = some t →
        (s.txnAbort w).f (fCPR_TXN_OWN_STATE t) = 0 ∧
          (s.txnAbort w).f fCPR_TXN_STATUS_FREE = (s.f fCPR_TXN_STATUS_FREE + (s.txnWs t).length) % 2 ^ 19 ∧
        ∀ g, ∃ u, s.txnCommit w g = (some ⟨w, (smGet (fun _ => 0) s.th.cseq w + 1) % 4096, g, s.txnWs t,
            (match s.f (fCPR_TXN_OWN_DOOM t) with
              | 1 => 11
              | 2 => 12
              | _ => 0), 0, false⟩, u) ∧ u.f (fCPR_TXN_OWN_STATE t) = 0 ∧ u.f fCPR_TXN_STATUS_FREE = s.f fCPR_TXN_STATUS_FREE)) ∧
    (∀ w n, w ≤ 0x440 → n < 1024 →
      let st := s.f (fCPR_LOCK_STATUS n)
      let mine := st = 3 ∧ s.f (fCPR_LOCK_OWNER n) = w ∧ s.on (fCPR_LOCK_ORPHAN n) = false
      (mine → s.lockTake w n = (0, true, s)) ∧ (st = 3 → ¬ mine → s.lockTake w n = (3, false, s)) ∧
      (st ≠ 3 → ∃ u, s.lockTake w n = (st, true, u) ∧ u.f (fCPR_LOCK_STATUS n) = 3 ∧ u.f (fCPR_LOCK_OWNER n) = w ∧
        u.f (fCPR_LOCK_ORPHAN n) = 0 ∧ Only [fCPR_LOCK_STATUS n, fCPR_LOCK_OWNER n, fCPR_LOCK_ORPHAN n] [.th] s u) ∧
      (mine → ∃ u, s.lockFree w n = (true, u) ∧ u.f (fCPR_LOCK_STATUS n) = 0 ∧ Only [fCPR_LOCK_STATUS n] [.th] s u) ∧
      (¬ mine → s.lockFree w n = (false, s))) ∧
    (∀ data : Word, s.takesWrite .mp fCPR_MP_OP_OP.addr = true →
      let v := data.toNat
      let g := v / 2 ^ 10 % 16
      let n := v % 2 ^ 10
      let u := (s.setF fCPR_MP_OP_GROUP g).setF fCPR_MP_OP_LOCK n
      let done := fun (c : Instr) (x : State) (flag : Bool) (value : Nat) => ∃ t, exec c s = .next t ∧
        t = (x.mpResult flag value).wakeBanks ∧ t.f fCPR_MP_RESULT_FLAG = b2n flag ∧ t.f fCPR_MP_RESULT_VALUE = value % 2 ^ 12
      (v / 2 ^ 28 = 1 → done (.mpTbegin data) (u.txnBegin 512).2 (u.txnBegin 512).1 0) ∧
      (v / 2 ^ 28 = 2 → (∀ x, u.txnCommit 512 g = (none, x) → done (.mpCommit data) x false 0) ∧
        ∀ c x, u.txnCommit 512 g = (some c, x) → done (.mpCommit data) { x with transit := x.transit ++ [c] } true c.cseq) ∧
      (v / 2 ^ 28 = 3 → done (.mpAbort data) (u.txnAbort 512) false 0) ∧
      (v / 2 ^ 28 = 4 → done (.mpLock data) (u.lockTake 512 n).2.2 (u.lockTake 512 n).2.1 (u.lockTake 512 n).1) ∧
      (v / 2 ^ 28 = 5 → done (.mpUnlock data) (u.lockFree 512 n).2 (u.lockFree 512 n).1 0)) ∧
    exec .mpTargetReset s = .next (s.ownerFail 512 0) ∧
    (∀ n cause, n < 1024 → cause < 3 →
      let l := s.lk n
      let t := s.lockFail n cause
      (l.point = none → t.f (fCPR_LOCK_STATUS n) = 1 ∧ t.f (fCPR_LOCK_ORPHAN n) = 0) ∧
      (∀ cs, l.point = some cs → l.result = none → t.f (fCPR_LOCK_STATUS n) = s.f (fCPR_LOCK_STATUS n) ∧
        t.f (fCPR_LOCK_ORPHAN n) = 1) ∧
      (∀ cs r, l.point = some cs → l.result = some r → t.f (fCPR_LOCK_STATUS n) = 2 ∧ t.f (fCPR_LOCK_REFUSED n) = b2n r ∧
        t.f (fCPR_LOCK_CSEQ n) = cs % 2 ^ 12)) ∧
    (∀ r rest, s.th.reports = r :: rest →
      exec .commitResultReport s = .next ({ s with th := { s.th with reports := rest } }.takeReport r)) ∧
    (∀ req (data : Word), s.takesWrite req fCPR_LOCK_BREAK_LOCK.addr = true → s.granted req fCPR_LOCK_BREAK_LOCK.addr data.toNat →
      let n := data.toNat % 1024
      (s.f (fCPR_LOCK_STATUS n) ≠ 3 → exec (.lockBreak req data) s = .next s.wakeBanks) ∧
      (s.f (fCPR_LOCK_STATUS n) = 3 → s.on (fCPR_LOCK_ORPHAN n) = false →
        let u := if (s.lk n).point.isSome then s else
          match s.txnSlot (s.f (fCPR_LOCK_OWNER n)) with
          | none => s
          | some t => if s.f (fCPR_TXN_OWN_STATE t) = 1 then s.doomTxn t 2 else s
        exec (.lockBreak req data) s = .next (u.lockFail n 2).wakeBanks))

/-- R265, R278, R282, R287, R299, R303, R305. The transaction and lock instructions, LDX and STX of a core, at once or at the reply that a
trip over TC1 ends with; start and stop of a core, its mailbox and the windows to its memories. -/
def Obligations.TransactionInstructionsDeviceAccessAndCoreControl : Prop :=
  ∀ (s : State) (o : Nat),
    let c := s.core o
    (∀ op i, s.issues o op i →
      let u := s.setCore o { c with len := if op = 0x0E then 8 else 4 }
      let w := s.owner o
      let ga := (s.gw o i.a).toNat
      let x := i.w % 8
      let a := (s.gw o i.a + (if op = 0x0E then BitVec.ofNat 32 (i.long.getD 0) else BitVec.ofInt 32 (sInt 16 i.imm))).toNat
      let bad := a % 4 ≠ 0 ∨ 0x04000000 ≤ a ∨ (isTR o = true ∧ (a < 0x01400000 ∨ (0x03400000 ≤ a ∧ a < 0x03800000)))
      let ldx := if op = 0x0E then Instr.lForm o else .ldx o
      let stx := if op = 0x0E then Instr.lForm o else .stx o
      (isTC o = true →
        (op = 0x38 → exec (.tbegin o) s = .next (((u.txnBegin w).2.setFlag o x (u.txnBegin w).1).retire o 1)) ∧
        (op = 0x39 → w < 512 → (s.txnSlot w).isSome = true → u.copiesOf w = true → exec (.commit o) s = .next u) ∧
        (op = 0x39 → 512 ≤ w ∨ s.txnSlot w = none ∨ u.copiesOf w = false → (∀ y, u.txnCommit w (ga % 16) = (none, y) →
            exec (.commit o) s = .next (((y.setG o i.d 0).setFlag o x false).retire o 1)) ∧
          ∀ k y, u.txnCommit w (ga % 16) = (some k, y) →
            let z := ((y.commitFrom o k).setG o i.d (BitVec.ofNat 32 k.cseq)).setFlag o x true
            exec (.commit o) s = .next (if z.f (fcState o) = 1 then z.retire o 1 else z)) ∧
        (op = 0x3A → exec (.abort o) s = .next ((u.txnAbort w).retire o 1)) ∧
        (op = 0x3B → let free := s.f (fCPR_LOCK_STATUS (ga % 1024)) ≠ 3
          let took := fun y : State => (((y.lockTake w (ga % 1024)).2.2.setG o i.d (BitVec.ofNat 32 (y.lockTake w (ga % 1024)).1)).setFlag o x
            (y.lockTake w (ga % 1024)).2.1).retire o 1
          (¬ free → exec (.lock o) s = .next (took u)) ∧
          (free → (u.lockRound w (ga % 1024)).1 = true → exec (.lock o) s = .next (took (u.lockRound w (ga % 1024)).2)) ∧
          (free → (u.lockRound w (ga % 1024)).1 = false → exec (.lock o) s = .next u)) ∧
        (op = 0x3C → exec (.unlock o) s = .next (((u.lockFree w (ga % 1024)).2.setFlag o x (u.lockFree w (ga % 1024)).1).retire o 1))) ∧
      (isTR o = true → ∀ cmd, (op, cmd) ∈ [(0x38, Instr.tbegin o), (0x39, .commit o), (0x3A, .abort o), (0x3B, .lock o), (0x3C, .unlock o)] →
        (op = 0x39 → ga % 16 ≠ s.coreGroup o → exec cmd s = .next (u.coreFault o 6)) ∧
        (op ≠ 0x39 ∨ ga % 16 = s.coreGroup o → exec cmd s = .next (u.setCore o { u.core o with act := .trip op i.d ga x }))) ∧
      (op = 0x2A ∨ (op = 0x0E ∧ i.op = 0x2A) →
        (bad → exec ldx s = .next (u.coreFault o 4)) ∧
        (¬ bad → isTC o = true → 0x01E00000 ≤ a → a < 0x03400000 →
          exec ldx s = .next (u.setCore o { u.core o with act := .load i.d a })) ∧
        (¬ bad → isTR o = true ∨ a < 0x01E00000 ∨ 0x03400000 ≤ a →
          exec ldx s = .next (((u.busRead (.core o) a).2.setG o i.d (BitVec.ofNat 32 (u.busRead (.core o) a).1)).retire o
            (if isTR o then 20 else 1)))) ∧
      (op = 0x2B ∨ (op = 0x0E ∧ i.op = 0x2B) →
        (bad → exec stx s = .next (u.coreFault o 4)) ∧
        (¬ bad → (u.lowerIssues o fun c j => j.op == 0x2B && u.address c j == a && !xaddrBad c a) = true → exec stx s = .next u) ∧
        (¬ bad → (u.lowerIssues o fun c j => j.op == 0x2B && u.address c j == a && !xaddrBad c a) = false → let y := u.busWrite (.core o) a (s.gw o i.d).toNat
          exec stx s = .next (if y.f (fcState o) = 1 ∧ (y.core o).pc = c.pc ∧ (y.core o).next = c.next then y.retire o 2 else y)))) ∧
    (∀ op d ga n, c.act = .trip op d ga n → exec (.lockTxnReply o) s = .next (txnRun o op d ga n s)) ∧
    (∀ d a, c.act = .load d a → exec (.ldxDone o) s =
      .next (((s.busRead (.core o) a).2.setG o d (BitVec.ofNat 32 (s.busRead (.core o) a).1)).retire o 1)) ∧
    (∀ req (data : Word), isTR o = true ∨ isTC o = true →
      let ctrl := if isTR o then fSQR_CTRL_RUN (o - 0x400) else fCPR_CTRL_RUN (o - 0x300)
      let p := s.putFields ctrl.addr data.toNat (if isTR o then regSQR_CTRL else regCPR_CTRL).fields true (atBits [])
      let q := s.putFields (fcMbox o).addr data.toNat (if isTR o then regSQR_MBOX else regCPR_MBOX).fields true (atBits [])
      (s.takesWrite req ctrl.addr = true →
        (data.getLsbD 0 = true → data.getLsbD 1 = false → exec (.coreRun req o data) s = .next (p.coreStart o).wakeBanks) ∧
        (data.getLsbD 1 = true → data.getLsbD 0 = false → exec (.coreStop req o data) s = .next (p.coreStop o).wakeBanks) ∧
        (data.getLsbD 1 = true → data.getLsbD 0 = true →
          exec (.coreStop req o data) s = .next ((p.coreStop o).coreStart o).wakeBanks)) ∧
      (s.takesWrite req (fcMbox o).addr = true → exec (.mboxWrite req o data) s = .next (q.occur o 7).wakeBanks)) ∧
    (isTR o = true ∨ isTC o = true → s.coreStopped o = true → s.on fDRV_PF_TRIPPED = false → s.on fFLT_STATUS_TERMINAL = false →
      let t := s.coreStart o
      t.f (fcState o) = 1 ∧ t.f (fcPend o) = 0 ∧ t.f (fcPfv o) = 0 ∧ (t.core o).pc = 4 * s.f (fcStartW o) ∧ (t.core o).stack = [] ∧
        (t.core o).wdog = 0 ∧ (t.core o).flags = c.flags ∧ ∀ k, t.gw o k = s.gw o k) ∧
    ((s.coreStop o).f (fcState o) = 0 ∧ (s.coreStopped o = false ∨ s.on fDRV_PF_TRIPPED = true ∨ s.on fFLT_STATUS_TERMINAL = true →
      s.coreStart o = s)) ∧
    (∀ req addr (data : Word) isData k i, s.window req addr = some (isData, k, i) → addr % 4 = 0 → s.takesWrite req addr = true →
      (s.coreStopped k = false → exec (.coreMemWindowWrite req addr data) s = .next (s.err 1 addr).wakeBanks) ∧
      (s.coreStopped k = true → s.bankSt (memBank isData (memKey k i)) ≠ 2 → exec (.coreMemWindowWrite req addr data) s =
        .next (let y := s.touchBank (memBank isData (memKey k i))
          if isData then y.setDmem k i data.toNat else y.setImem k i data.toNat).wakeBanks))

/-- R306 to R311, R313 to R318, R333, R570, R571, R684. A doorbell moves TAIL; an idle command processor takes the entry at HEAD; its
header is judged, its trailer checked, and it starts with the registers R316 gives; how it ends; RUN, STOP and RESET of a queue. -/
def Obligations.QueuesTakeCheckStartAndEndEntries : Prop :=
  ∀ (s : State),
    (∀ req q (data : Word), q < 512 →
      let t := s.doorbell q (data.toNat % 65536)
      (s.takesWrite req (fCXL_Q_PTR_TAIL q).addr = true → exec (.doorbell req q false data) s = .next t.wakeBanks) ∧
      (s.barOk .pf1 = true → s.reach 0x00300000 = true → exec (.doorbell .pf1 q true data) s = .next t) ∧
      t.f (fCXL_Q_PTR_TAIL q) = data.toNat % 65536 % s.qSize q % 65536) ∧
    (∀ cp, cp < 8 → s.cpIdle cp = true →
      (cp = 0 → s.autoDue0 = true → exec (.entryTake cp) s = .next s.autoStart) ∧
      (cp ≠ 0 ∨ s.autoDue0 = false → ∀ q u, s.arbRound (arbCp cp) (fun _ => 0) (s.cpReady cp) (s.cpReady cp) = (some q, u) →
        ∃ t, exec (.entryTake cp) s = .next t ∧ t.entry cp = some ⟨q, u.qHead q, 0, 0, false, [], 0, false, 0, []⟩ ∧
          (u.on (fCXL_Q_CFG_SPACE q) = true → t.outs = .rdCurr (u.qAddr q (u.qHead q) / 64) :: u.outs))) ∧
    (∀ cp host e, s.entry cp = some e → e.stage = 0 →
      let a := s.qAddr e.q e.idx
      let goes := fun (v : State) (d : Option (List Byte)) =>
        (d = none → exec (.entryFetchDone cp host) s = .next (v.entryEnd cp 5 0 0)) ∧
        (∀ bs, d = some bs →
          let w := leNat (bs.take 4)
          let x : Entry := { e with data := bs, tag := w % 2 ^ 16, notify := bit w 26 == 1, crit := bit w 27 == 1, slot := w / 2 ^ 16 % 64 }
          let u := v.setEntry cp (some x)
          (x.bad ≠ 0 → exec (.entryFetchDone cp host) s = .next (u.entryEnd cp 4 x.bad 0)) ∧
          (x.bad = 0 → x.crit = true → ∃ t, exec (.entryFetchDone cp host) s = .next t ∧
            t.entry cp = some { x with stage := 1 } ∧ t.th.checks = s.th.checks ++ [e.q]) ∧
          (x.bad = 0 → x.crit = false → exec (.entryFetchDone cp host) s = .next (u.entryGo cp x)))
      (s.on (fCXL_Q_CFG_SPACE e.q) = true → s.on fCXL_LINK_STATUS_CACHE = true → goes s host) ∧
      (s.on (fCXL_Q_CFG_SPACE e.q) = false → fsEnd < a + 64 → goes s none) ∧
      (s.on (fCXL_Q_CFG_SPACE e.q) = false → a + 64 ≤ fsEnd → s.asleep a 64 = false → s.readBlocked a 64 = [] →
        goes (s.touchRange a 64) (if s.poisonedIn a 64 = true then none else some (s.fsBytes a 64)))) ∧
    (∀ cp e, cp < 8 →
      let pr := s.program cp e.prog
      (e.kind = 0 → s.entryGo cp e = s.entryEnd cp 0 0 0) ∧ (e.kind = 1 → s.entryGo cp e = s.entryStart cp e) ∧
      (e.kind = 2 → pr.1 = false → s.entryGo cp e = s.entryEnd cp 4 4 0) ∧
      (e.kind = 2 → pr.1 = true → pr.2.1 = true → e.crit = false → s.entryGo cp e = s.entryEnd cp 3 1 0) ∧
      (e.kind = 2 → pr.1 = true → pr.2.1 = false → s.entryGo cp e = s.entryStart cp e) ∧
      (let t := s.entryStart cp e
        let o := 0x300 + cp
        t.entry cp = some { e with stage := 3 } ∧ t.f (fcState o) = 1 ∧ (t.core o).flags = 0 ∧ (t.core o).stack = [0x1FFF8] ∧
          (t.core o).pc = (if e.kind = 2 then 4 * pr.2.2 else 4 * 0x7FF0) ∧ (e.kind ≠ 2 → t.gw o 30 = BitVec.ofNat 32 e.tag ∧
            t.gw o 31 = BitVec.ofNat 32 e.q ∧ ∀ k, k < 30 → t.gw o k = 0) ∧
          (e.kind = 1 → e.nwords ≤ 14 → ∀ i, i < 14 →
            t.imem o (0x7FF0 + i) = if i < e.nwords then e.word (2 + i) % 2 ^ 32 else 0))) ∧
    (∀ q rest cp e, s.th.checks = q :: rest → s.qEntry q = some (cp, e) →
      let u := { s with th := { s.th with checks := rest } }
      let code := u.trailerCode e
      (code ≠ 0 → exec .trailerCheckDone s = .next ((u.raise 0x1A0 q 0
        [(8, code), (8, e.slot), (16, 0), (16, e.idx), (16, 0), (64, e.ctr)]).entryEnd cp 2 code 0)) ∧
      (code = 0 → exec .trailerCheckDone s = .next (((u.setEntry cp (some { e with stage := 2 })).setLastCtr e.slot e.ctr).nvSubmit
        ⟨1, q, ctrAddr e.slot, leBytes 8 e.ctr⟩))) ∧
    (∀ q cp e, s.qEntry q = some (cp, e) → e.stage = 4 → exec (.entryRelease q) s = .next (s.entryGo cp e)) ∧
    (∀ cp e st d pc, s.entry cp = some e → e.q < 512 → e.stage ≠ 2 → e.slot ≠ 64 → st ∈ [0, 2, 3, 4] → d < 256 → s.stopReq e.q = false →
      let t := s.entryEnd cp st d pc
      t.entry cp = none ∧ t.f (fCXL_Q_PTR_HEAD e.q) = (e.idx + 1) % s.qSize e.q % 65536 ∧ t.f (fCXL_Q_STATUS_LAST_ST e.q) = st ∧
        t.f (fCXL_Q_STATUS_DETAIL e.q) = d ∧ t.f (fCXL_Q_STATUS_LAST_TAG e.q) = e.tag % 65536 ∧
        t.f (fCXL_Q_STATUS_STATE e.q) = s.f (fCXL_Q_STATUS_STATE e.q) ∧
        t.ev.enRoute = s.ev.enRoute ++ if e.notify = true ∨ st ≠ 0 then [⟨s.clock e.q, 0x150, false, e.q, 0,
          packBits [(16, e.tag), (8, st), (8, d), (16, e.idx), (16, 0), (32, 0)]⟩] else []) ∧
    (∀ req q (data : Word), q < 512 → s.takesWrite req (fCXL_Q_CTRL_RUN q).addr = true →
      let t := s.queueCtrl q (data.getLsbD 0) (data.getLsbD 1)
      (data.getLsbD 0 = true → exec (.queueRun req q data) s = .next t.wakeBanks) ∧
      (data.getLsbD 0 = false → exec (.queueStop req q data) s = .next t.wakeBanks) ∧
      (data.getLsbD 1 = true → exec (.cxlQReset req q data) s = .next t.wakeBanks)) ∧
    (∀ q, q < 512 →
      (s.f (fCXL_Q_STATUS_STATE q) = 0 ∨ s.f (fCXL_Q_STATUS_STATE q) = 3 →
        (s.queueCtrl q true false).f (fCXL_Q_STATUS_STATE q) =
          (if s.on (fCXL_Q_CFG_SPACE q) = true ∧ s.on fCXL_LINK_STATUS_CACHE = false then 2 else 1) ∧
        (s.queueCtrl q true false).f (fCXL_Q_CTRL_RUN q) = 1) ∧
      (s.qEntry q = none → (s.queueCtrl q false false).f (fCXL_Q_STATUS_STATE q) = 0 ∧
        (s.queueCtrl q false false).f (fCXL_Q_CTRL_RUN q) = 0) ∧
      (∀ x, s.qEntry q = some x → (s.queueCtrl q false false).stopReq q = true ∧
        (s.queueCtrl q false false).f (fCXL_Q_STATUS_STATE q) = s.f (fCXL_Q_STATUS_STATE q)) ∧
      (s.cxlQReset q 0 0).f (fCXL_Q_STATUS_STATE q) = 0)

/-- R356, R360, R361, R370, R372, R385, R387 to R389. A lane pair comes up blind; block lock begins enumeration; two equal counts end
it; lock loss returns the chain to LOCKING unless its spare can take it; ALIGN blocks; slots, free slots, flushes. -/
def Obligations.LanePairsComeUpEnumerateAndSend : Prop :=
  ∀ (s : State),
    (∀ (u : State) l st cause, l < 272 → st < 8 → u.lnSt l ≠ st →
      let t := u.setLnSt l st cause
      t.lnSt l = st ∧ Raised u t 0x160 (laneOrigin l) (u.laneLocus l) [(8, st), (8, u.lnSt l), (8, cause)]) ∧
    (∀ req l (data : Word), l < 272 → s.takesWrite req (fLNK_CFG_EN l).addr = true → data.getLsbD 31 = true →
      let u := s.putFields (fLNK_CFG_EN l).addr data.toNat regLNK_CFG.fields (s.lnSt l == 0) (atBits [])
      exec (.laneEnable req l data) s = .next (u.laneEn l (s.on (fLNK_CFG_EN l)) true).wakeBanks ∧
      (s.f (fLNK_CFG_EN l) = 0 → (u.laneEn l (s.on (fLNK_CFG_EN l)) true).wakeBanks.lnSt l =
        if s.f (fLNK_TEST_MODE l) = 1 ∨ s.f (fLNK_TEST_MODE l) = 2 then 4 else 1)) ∧
    (∀ l, l < 256 → s.f (fLNK_STATUS_BLOCK_LOCK l) = 0 → s.f (fLNK_STATUS_RX_ASLEEP l) = 0 → s.lnSt l = 1 →
      ∃ t, exec (.blockLockGained l) s = .next t ∧ t.lnSt l = 2) ∧
    (∀ l, l < 256 → s.f (fLNK_STATUS_BLOCK_LOCK l) = 1 → ∃ t, exec (.blockLockLost l) s = .next t ∧ t.f (fLNK_STATUS_BLOCK_LOCK l) = 0 ∧
      (s.lnSt l = 2 → t.lnSt l = 1) ∧
      (s.lnSt l = 3 → s.canSwitch l = false → (s.ln (256 + spareOf l)).sw = 0 → t.lnSt l = 1) ∧
      (s.lnSt l = 3 → s.canSwitch l = true ∨ ((s.ln (256 + spareOf l)).sw ≠ 0 ∧ s.spareChain (spareOf l) = l) → t.lnSt l = 3)) ∧
    (∀ l, l < 272 → ∃ t, exec (.invalidBlock l) s = .next t ∧ t.f (fLNK_ERR_BLK l) = satAdd (s.f (fLNK_ERR_BLK l)) 1 4095 % 4096 ∧
      Only [fLNK_ERR_BLK l] [] s t) ∧
    (∀ c, c < 256 → s.lnSt c = 2 →
      exec (.enumSend c) s = .next ((s.idleTo c (s.txNow c)).sendCtl c (ctlBlock 0x66 [c, 0, 0, 0, 0, 0])) ∧
      (s.f (fLNK_STATUS_TX_ASLEEP c) = 0 → (s.ln c).wakeAt = none → (s.ln c).txEnd = none →
        .lane c 0 (ctlBlock 0x66 [c, 0, 0, 0, 0, 0]) ∈ ((s.idleTo c (s.txNow c)).sendCtl c (ctlBlock 0x66 [c, 0, 0, 0, 0, 0])).outs)) ∧
    (∀ c n ovf, c < 256 → s.lnSt c = 2 → n < 32 → ∃ t, exec (.enumReturn c n ovf) s = .next t ∧
      (ovf = true → t.lnSt c = 2 ∧ t.f (fLNK_STATUS_PARTNERS c) = 17) ∧
      (ovf = false → (s.ln c).enumCount ≠ some n → t.lnSt c = 2 ∧ (t.ln c).enumCount = some n) ∧
      (ovf = false → (s.ln c).enumCount = some n → t.lnSt c = 3 ∧ t.f (fLNK_STATUS_PARTNERS c) = n)) ∧
    (∀ b, b < 16 → (s.ln (256 + b)).sw = 0 → (s.ln (256 + b)).release = false → ∃ t, exec (.alignSend b) s = .next t ∧
      smGet (fun _ => 0) t.ch.align b = (smGet (fun _ => 0) s.ch.align b + 1) % 2 ^ 24 ∧
      smGet (fun _ => none) t.ch.aligned b = some s.time.raster ∧
      ∀ i, i < 16 → s.txOn (16 * b + i) = true → (s.ln (16 * b + i)).txEnd = none →
        ¬ (s.lnSt (16 * b + i) = 4 ∧ s.f (fLNK_TEST_MODE (16 * b + i)) = 1) →
        .lane (16 * b + i) 0 (alignBlock b (smGet (fun _ => 0) s.ch.align b) (16 * b + i) false) ∈ t.outs) ∧
    (∀ c lat, c < 256 → s.lnSt c ≠ 0 → ∃ t, exec (.alignReturn c false lat) s = .next t ∧
      t.f (fLNK_STATUS_RING_LAT c) = min 1023 lat ∧ Only [fLNK_STATUS_RING_LAT c] [] s t) ∧
    (∀ c k g, c < 256 → s.chainOwner c = some g → 2 ≤ s.gState g → (s.grp g).live = true → s.chainUp c = true →
      ((s.lanesOf c).any fun l => (s.ln l).lineOn) = true → (s.ln c).slot = k → k < s.f (fSLT_ACT_NSLOT c) →
      s.slotTick c k (s.grp g).lineTick ≤ s.time.raster →
      exec (.slotStart c k) s = .next ((s.setLn c { s.ln c with slot := k + 1 }).sendSlot g c k (s.slotTick c k (s.grp g).lineTick))) ∧
    (∀ c g p i u k, c < 256 → s.chainOwner c = some g → s.gState g = 0 → s.chainUp c = true →
      ((s.lanesOf c).any fun l => s.txOn l) = true → s.freePkt c = (some (p, i), u) → (u.pq c p)[i]? = some k →
      let v := u.countTimers c p k.kind
      let w := (v.lanesOf c).foldl (fun s l => s.idleTo l (s.freeBlock l)) v
      let x := w.sendCtl c (sosBlock false 63 p k.kind 0xFFFF (w.grp g).frame 8)
      exec (.freeSlot c) s = .next (((x.sendSeg c p i 64).2.2.idle16 c).sendCtl c (eosBlock 63 false))) ∧
    (∀ req l (data : Word), l < 272 → s.takesWrite req (fLNK_CMD_ENUM l).addr = true →
      let t := (s.lnkCmd l data.toNat).wakeBanks
      (data.getLsbD 31 = true → exec (.reenumerate req l data) s = .next t) ∧
      (data.toNat % 65536 ≠ 0 → exec (.queueFlush req l data) s = .next t)) ∧
    (∀ (u : State) c v, c < 256 → u.lnkCmd c v = (List.range 16).foldl (fun s p => s.boundary c p) (u.setLn c { u.ln c with
      flush := (u.ln c).flush ||| (v % 65536)
      enumReq := (u.ln c).enumReq || (bit v 31 == 1 && u.lnSt c == 3) })) ∧
    (∀ (u : State) c p, c < 256 → p < 16 →
      (u.midPacket c p = true → u.boundary c p = u) ∧
      (u.midPacket c p = false → bit (u.ln c).flush p = 1 → (u.boundary c p).pq c p = []) ∧
      ((∀ q, q < 16 → u.midPacket c q = false) → (u.ln c).enumReq = true → u.lnSt c = 3 → (u.boundary c p).lnSt c = 2))

/-- R373, R379, R381, R383, R384, R386, R419, R420, R644. An answer ends the wait of the packet it matches; a failed attempt is
resent at most three times; sense answers enter the upstream queue, which software reads and pops. -/
def Obligations.UpstreamAnswersEndWaitsAndFillTheQueue : Prop :=
  ∀ (s : State),
    (∀ c pid seq, s.hears c pid = true →
      (∀ i, s.answers c (pid % 16) [2, 8] seq = some i → ∃ t, exec (.ackReceive c pid seq) s = .next t ∧
        t.pq c (pid % 16) = (s.pq c (pid % 16)).eraseIdx i ∧ Only [fMEM_NOUGAT_FREE, fSLT_ACT_STARVED c] [.ch] s t) ∧
      (s.answers c (pid % 16) [2, 8] seq = none → exec (.ackReceive c pid seq) s = .next s)) ∧
    (∀ c pid seq reason, s.hears c pid = true →
      let u := s.count (fLNK_DLV_PIXNAK c) 1
      (∀ g, s.chainOwner c = some g → (s.ln c).nakFrame ≠ some (s.grp g).frame →
        ∃ t, exec (.nakReceive c pid seq reason 0) s = .next t ∧ t.f (fLNK_DLV_PIXNAK c) = satAdd (s.f (fLNK_DLV_PIXNAK c)) 1 65535 ∧
          (t.ln c).nakFrame = some (s.grp g).frame ∧ t.ev.enRoute = s.ev.enRoute ++ [⟨s.clock (laneOrigin c), 0x163, false, laneOrigin c,
            u.laneLocus c, packBits [(16, pid), (8, reason), (8, 0), (48, (s.grp g).frame), (16, (s.grp g).line)]⟩]) ∧
      (∀ g, s.chainOwner c = some g → (s.ln c).nakFrame = some (s.grp g).frame → exec (.nakReceive c pid seq reason 0) s = .next u) ∧
      (∀ kind, kind ≠ 0 → pid % 16 = 15 → exec (.nakReceive c pid seq reason kind) s = .next s) ∧
      (∀ kind i k, kind ≠ 0 → pid % 16 ≠ 15 → s.waitingIn c (pid % 16) (if kind = 1 then 0 else 1) = some i → (s.pq c (pid % 16))[i]? = some k →
        (reason = 3 → exec (.nakReceive c pid seq reason kind) s = .next ((s.setNextSeq c (pid % 16) (if kind = 1 then 0 else 1)
          seq).attemptFail c (pid % 16) i 3 true)) ∧
        (reason ≠ 3 → k.seq = some seq → exec (.nakReceive c pid seq reason kind) s = .next (s.attemptFail c (pid % 16) i reason false)) ∧
        (reason ≠ 3 → k.seq ≠ some seq → exec (.nakReceive c pid seq reason kind) s = .next s))) ∧
    (∀ (u : State) c p i nak reseq k, c < 256 → (u.pq c p)[i]? = some k → k.flushed = false → bit (u.ln c).flush p = 0 →
      (u.ln c).enumReq = false →
      let t := u.attemptFail c p i nak reseq
      (k.tries < 3 →
        (t.pq c p)[i]? = some { k with
          seq := if reseq then none else k.seq
          out := false
          sent := 0
          timer := 0
          tries := k.tries + 1
          nak := nak } ∧ Only [] [.ch] u t) ∧
      (3 ≤ k.tries → t.pq c p = (u.pq c p).eraseIdx i ∧ t.f (fLNK_DLV_FAILS c) = satAdd (u.f (fLNK_DLV_FAILS c)) 1 255 ∧
        ∃ loc, Raised u t 0x162 (laneOrigin c) loc [(16, 16 * c + p), (8, k.typ), (8, k.seq.getD 0), (8, nak)])) ∧
    (∀ (u : State) c p i room k, c < 256 → p < 16 → (u.pq c p)[i]? = some k → 0 < k.tries → k.sent = 0 →
      (u.sendSeg c p i room).2.2.f (fLNK_DLV_RETRIES c) = satAdd (u.f (fLNK_DLV_RETRIES c)) 1 255) ∧
    (∀ c pos sp i, pos < 15 → ((s.pq c pos).findIdx? fun k => space k == sp && k.out && decide (2 ≤ k.timer)) = some i →
      exec (.retryTimeout c pos sp) s = .next (s.attemptFail c pos i ((((s.pq c pos)[i]?).map fun k => k.nak).getD 0) false)) ∧
    (∀ c pid seq ws mism g, s.hears c pid = true → s.chainOwner c = some g →
      let u := s.senseOccurs c
      (∀ v, u.upstreamPush g ⟨4, pid, seq, ws.take 64⟩ mism = (true, v) →
        exec (.rdrReceive c pid seq ws mism) s = .next (v.answered c (pid % 16) (v.answers c (pid % 16) [3] seq))) ∧
      (∀ v, u.upstreamPush g ⟨4, pid, seq, ws.take 64⟩ mism = (false, v) → exec (.rdrReceive c pid seq ws mism) s = .next v) ∧
      (let hit := u.answers c (pid % 16) [5] seq
        let w := u.answered c (pid % 16) hit
        w.chainOwner c = some g →
        let x := if w.on (fLNK_CFG_UPQ_SNS c) then (w.upstreamPush g ⟨5, pid, seq, ws.take 64⟩ mism).2 else w
        exec (.snsReceive c pid seq ws mism) s = .next (if hit.isSome = true then x.foldTake g pid (ws.take 64) else x))) ∧
    (∀ (u : State) g (p : UpPkt), g < 16 →
      let full := 1024 ≤ (u.uq g).pkts.length ∨ u.poolHas (cellsOf p.words.length) = false
      let r := u.upstreamPush g p false
      (full → r.1 = false ∧ r.2.f (fLNK_UPQ_CTRL_OVF g) = 1 ∧ r.2.uq g = u.uq g ∧
        Raised u r.2 0x166 (0x900 + p.pid / 16) (locusGroup g) [(16, p.pid), (8, p.typ)]) ∧
      (¬ full → r.1 = true ∧ (r.2.uq g).pkts = (u.uq g).pkts ++ [p] ∧ r.2.f (fLNK_UPQ_CTRL_COUNT g) = (u.uq g).pkts.length + 1 ∧
        r.2.f fMEM_NOUGAT_FREE = (u.f fMEM_NOUGAT_FREE - cellsOf p.words.length) % 2 ^ fMEM_NOUGAT_FREE.w)) ∧
    (∀ c, c < 256 → ∃ t u, exec (.unclaimedPacket c false) s = .next t ∧ exec (.upstreamBadCrc c) s = .next u ∧
      t.f (fLNK_ERR_UNCLAIMED c) = satAdd (s.f (fLNK_ERR_UNCLAIMED c)) 1 255 ∧ Only [fLNK_ERR_UNCLAIMED c] [] s t ∧
      u.f (fLNK_ERR_CRC c) = satAdd (s.f (fLNK_ERR_CRC c)) 1 4095 ∧ Only [fLNK_ERR_CRC c] [] s u) ∧
    (∀ req g, g < 16 → s.barOk req = true → s.reach (fLNK_UPQ_DATA_DATA g).addr = true →
      (∀ p ps w, (s.uq g).pkts = p :: ps → p.words[(s.uq g).rd]? = some w → ∃ t, exec (.upqDataRead req g) s = .next t ∧
        t.outs = .regData req (fLNK_UPQ_DATA_DATA g).addr (BitVec.ofNat 32 w) :: s.outs ∧ (t.uq g).rd = (s.uq g).rd + 1 ∧ (t.uq g).last = w) ∧
      ((∀ p ps, (s.uq g).pkts = p :: ps → p.words.length ≤ (s.uq g).rd) → ∃ t, exec (.upqDataRead req g) s = .next t ∧
        t.outs = .regData req (fLNK_UPQ_DATA_DATA g).addr (BitVec.ofNat 32 (s.uq g).last) :: s.outs ∧ t.f (fLNK_UPQ_CTRL_UNDER g) = 1)) ∧
    (∀ req g (data : Word), g < 16 → s.takesWrite req (fLNK_UPQ_CTRL_POP g).addr = true → data.getLsbD 31 = true →
      let u := s.putFields (fLNK_UPQ_CTRL_POP g).addr data.toNat regLNK_UPQ_CTRL.fields true (atBits [])
      exec (.upqPop req g data false) s = .next (u.upqPop g false).wakeBanks ∧
      (∀ p ps, (s.uq g).pkts = p :: ps → ((u.upqPop g false).uq g).pkts = ps ∧ ((u.upqPop g false).uq g).rd = 0 ∧
        (u.upqPop g false).f (fLNK_UPQ_CTRL_COUNT g) = ps.length % 65536) ∧
      ((s.uq g).pkts = [] → u.upqPop g false = u))

/-- R391, R392, R394, R396 to R399. A transmitter and a receiver fall asleep and wake on their own; a chain moves to its spare, back,
or fails; a driver fault; an armed injection. -/
def Obligations.LanePairsSleepSwitchAndInject : Prop :=
  ∀ (s : State),
    (∀ l c, s.laneChain l = some c → s.chainUp c = true →
      (s.f (fLNK_CFG_TXSLEEP l) = 1 → s.f (fLNK_STATUS_TX_ASLEEP l) = 0 → (s.ln l).wakeAt = none → s.anyQueued c = false →
        ∃ t, exec (.txSleep l) s = .next t ∧ t.f (fLNK_STATUS_TX_ASLEEP l) = 1 ∧ (t.ln l).lineOn = false ∧
          (s.lnSt l ≠ 0 → (s.ln l).txEnd = none → ∃ L, t.outs = L ++ s.outs ∧ L.count (.lane l 0 (holdBlock 2)) = 4) ∧
          Only [fLNK_STATUS_TX_ASLEEP l] [.outs, .ch] s t) ∧
      (s.f (fLNK_CFG_RXSLEEP l) = 1 → s.f (fLNK_STATUS_RX_ASLEEP l) = 0 → s.anyExpecting c = false →
        ∃ t, exec (.rxSleep l) s = .next t ∧ t.f (fLNK_STATUS_RX_ASLEEP l) = 1 ∧ t.f (fLNK_STATUS_BLOCK_LOCK l) = 0 ∧
          Only [fLNK_STATUS_RX_ASLEEP l, fLNK_STATUS_BLOCK_LOCK l] [] s t)) ∧
    (∀ l c, l < 272 → s.laneChain l = some c →
      (s.f (fLNK_STATUS_TX_ASLEEP l) = 1 → (if (s.ln l).autoSlept = true then s.autoDue c = true else s.anyQueued c = true) →
        ∃ t, exec (.txWake l) s = .next t ∧ t.f (fLNK_STATUS_TX_ASLEEP l) = 0 ∧ (t.ln l).wakeAt = some (s.time.raster + 32000) ∧
          Only [fLNK_STATUS_TX_ASLEEP l] [.ch] s t) ∧
      (∀ d, (s.ln l).wakeAt = some d → d ≤ s.time.raster → ∃ t, exec (.txWakeDone l) s = .next t ∧ (t.ln l).wakeAt = none ∧
        Only [] [.ch] s t) ∧
      (s.f (fLNK_STATUS_RX_ASLEEP l) = 1 → (if (s.ln l).rxAuto = true then s.autoDue c = true else s.anyExpecting c = true) →
        ∃ t, exec (.rxWake l) s = .next t ∧ t.f (fLNK_STATUS_RX_ASLEEP l) = 0 ∧ Only [fLNK_STATUS_RX_ASLEEP l] [.ch] s t)) ∧
    (∀ c, c < 256 → s.canSwitch c = true → (s.lnSt c = 1 ∨ s.lnSt c = 2 ∨ s.lnSt c = 3) →
      (s.f (fLNK_STATUS_BLOCK_LOCK c) = 0 → s.f (fLNK_STATUS_RX_ASLEEP c) = 0 → exec (.spareAutoSwitch c) s = .next (s.startSwitch c 0)) ∧
      let x := (s.startSwitch c 0).ln (256 + c / 16)
      x.sw = 1 ∧ x.swChain = c % 16 ∧ x.selCode = c % 16) ∧
    (∀ l low, l < 272 → s.lnSt l ≠ 0 → ∃ t, exec (.txDriverFault l low) s = .next t ∧ t.f (fLNK_STATUS_TXFAULT l) = b2n low ∧
      (low = true → l < 256 → s.canSwitch l = true → s.lnSt l = 1 ∨ s.lnSt l = 2 ∨ s.lnSt l = 3 →
        t = (s.setF (fLNK_STATUS_TXFAULT l) 1).startSwitch l 1)) ∧
    (∀ (u : State) k, k < 16 → (u.ln (256 + k)).sw = 1 → (u.ln (256 + k)).release = false → (u.ln (256 + k)).swChain < 16 →
      let t := u.spareAlign k
      t.lnSt (u.spareChain k) = 5 ∧ t.f (fLNK_SPARE_ACTIVE k) = 1 ∧
        (t.ln (256 + k)).sw = if u.f (fLNK_STATUS_BLOCK_LOCK (256 + k)) = 0 then 2 else 3) ∧
    (∀ k, k < 16 → (s.ln (256 + k)).sw = 2 → 2 ≤ (s.ln (256 + k)).swAligns → (s.ln (256 + k)).swChain < 16 →
      ∃ t, exec (.spareSwitchTimeout k) s = .next t ∧ t.lnSt (s.spareChain k) = 6 ∧ t.f (fLNK_SPARE_ACTIVE k) = 0) ∧
    (∀ c, c < 256 → s.lnSt c = 6 → s.f (fLNK_STATUS_BLOCK_LOCK c) = 1 → ∃ t, exec (.failedRetry c) s = .next t ∧ t.lnSt c = 2) ∧
    (∀ req k (data : Word), k < 16 → s.takesWrite req (fLNK_SPARE_FORCE k).addr = true →
      let active := s.on (fLNK_SPARE_ACTIVE k)
      let u := s.putFields (fLNK_SPARE_FORCE k).addr data.toNat regLNK_SPARE.fields (!active) (atBits (if active then [16] else []))
      let t := (u.spareCmd k (b2n (data.getLsbD 31)) (b2n (data.getLsbD 30)) (u.f (fLNK_SPARE_CHAIN k))).wakeBanks
      (data.getLsbD 31 = true → exec (.spareForce req k data) s = .next t) ∧
      (data.getLsbD 30 = true → exec (.spareRelease req k data) s = .next t)) ∧
    (∀ (u : State) k n, k < 16 → n < 16 →
      (u.spareFree k = true → bit (u.f (fLNK_SPARE_PROT k)) n = 1 → (u.relockBundle k).lnSt (16 * k + n) ≠ 0 →
        u.spareCmd k 1 0 n = (u.relockBundle k).startSwitch (16 * k + n) 2) ∧
      (u.on (fLNK_SPARE_ACTIVE k) = true → ((u.spareCmd k 0 1 n).ln (256 + k)).release = true)) ∧
    (∀ req l (data : Word), l < 272 → s.takesWrite req (fLNK_INJ_GO l).addr = true → data.getLsbD 31 = true →
      let u := s.putFields (fLNK_INJ_GO l).addr data.toNat regLNK_INJ.fields true (atBits [])
      let t := u.armInj l true
      let kind := u.f (fLNK_INJ_KIND l)
      exec (.inject req l data) s = .next t.wakeBanks ∧
      (kind = 0 → (t.ln l).injArmed = false ∧ (t.ln l).injOn = false) ∧
      (kind ≠ 0 → u.lnSt l ≠ 4 → (t.ln l).injArmed = true ∧ (t.ln l).injOn = (u.f (fLNK_INJ_PERIOD l) != 0)) ∧
      (kind ≠ 0 → u.lnSt l = 4 → (t.ln l).injArmed = false ∧ t.f (fLNK_TEST_ERR_ERRORS l) =
        if u.f (fLNK_TEST_CHK_LOCK l) = 0 then u.f (fLNK_TEST_ERR_ERRORS l)
        else satAdd (u.f (fLNK_TEST_ERR_ERRORS l)) (if kind = 1 then 1 else if kind = 2 then u.f (fLNK_INJ_BURST l) + 1 else 0)
          (2 ^ (fLNK_TEST_ERR_ERRORS l).w - 1))) ∧
    (∀ (u : State) l bs, l < 272 → (u.ln l).injArmed = true → u.txOn l = true →
      let r := u.inject l bs
      let n := u.f (fLNK_INJ_BURST l) + 1
      (r.2.2.ln l).injArmed = false ∧
      (u.f (fLNK_INJ_KIND l) = 3 → r.1 = bs ∧ r.2.1 = 4) ∧
      (u.f (fLNK_INJ_KIND l) = 1 → ∃ i, i < 64 ∧ r.1 = flipBits i 1 bs) ∧
      (u.f (fLNK_INJ_KIND l) = 2 → n ≤ 32 → ∃ i, i + n ≤ 64 ∧ r.1 = flipBits i n bs)) ∧
    (∀ l, l < 272 → (s.ln l).injOn = true → (s.ln l).injArmed = false → (s.ln l).injNext ≤ s.txNow l → s.lnSt l ≠ 4 →
      ∃ t, exec (.injectRepeat l) s = .next t ∧ (t.ln l).injArmed = true ∧ Only [] [.ch] s t)

/-- R439 to R443. Rails are asserted in ascending and deasserted in descending order, each order after the delays of the one before;
a rail that misses its time or falls faults its group; a forced rail; the panel temperature. -/
def Obligations.RailsRampFaultAndFollowTheirOrder : Prop :=
  ∀ (s : State),
    (∀ req g (data : Word), g < 16 → s.takesWrite req (fDRV_CTRL_PWR g).addr = true →
      (data.getLsbD 0 = true → exec (.railPowerUp req g data) s = .next (s.writePwr g true).wakeBanks) ∧
      (data.getLsbD 0 = false → exec (.railPowerDown req g data) s = .next (s.writePwr g false).wakeBanks)) ∧
    (∀ (u : State) g, g < 16 → u.rState g = 0 ∨ u.rState g = 4 → u.writePwr g true =
      (((u.setF (fDRV_CTRL_PWR g) 1).setPwr g ⟨0, 0, false, false⟩).setRState g 1 0xFF).railUpFrom g 0) ∧
    (∀ (u : State) g, g < 16 → u.rState g = 1 ∨ u.rState g = 2 →
      (u.gState g = 0 → u.writePwr g false = (u.setF (fDRV_CTRL_PWR g) 0).railDown g) ∧
      (u.gState g ≠ 0 → ((u.writePwr g false).pwr g).downWaits = true ∧ (u.writePwr g false).rState g = u.rState g)) ∧
    (∀ (u : State) g k, g < 16 →
      ((∀ j, k ≤ j → j < 8 → u.railsAt g j = []) → (u.railUpFrom g k).rState g = 2) ∧
      (∀ j, k ≤ j → j < 8 → u.railsAt g j ≠ [] → (∀ i, k ≤ i → i < j → u.railsAt g i = []) →
        let t := u.railUpFrom g k
        t.rState g = u.rState g ∧ (t.pwr g).order = j ∧
          ∀ r, (t.rail r).seqOn = if r ∈ u.railsAt g j then true else (u.rail r).seqOn)) ∧
    (∀ (u : State) g k, g < 16 →
      let on := fun j => (u.railsAt g j).filter fun r => (u.rail r).seqOn
      ((∀ j, j < k → j < 8 → on j = []) → u.rState g = 3 → (u.railDownFrom g k).rState g = 0) ∧
      (∀ j, j < k → j < 8 → on j ≠ [] → (∀ i, j < i → i < k → i < 8 → on i = []) →
        let t := u.railDownFrom g k
        t.rState g = u.rState g ∧ (t.pwr g).order = j ∧ (t.pwr g).offTick = u.time.raster ∧
          ∀ r, (t.rail r).seqOn = if r ∈ on j then false else (u.rail r).seqOn)) ∧
    (∀ g, g < 16 → s.rState g = 1 →
      (∀ r, r ∈ s.railsAt g (s.pwr g).order → ∃ t0, (s.rail r).goodTick = some t0 ∧ t0 + 160000 * s.f (fDRV_RAIL_ON_DLY r) ≤ s.time.raster) →
      exec (.railOnDelay g) s = .next (s.railUpFrom g ((s.pwr g).order + 1))) ∧
    (∀ g, g < 16 → (s.pwr g).down = true →
      (s.pwr g).offTick + 160000 * ((s.railsAt g (s.pwr g).order).map fun r => s.f (fDRV_RAIL_OFF_DLY r)).foldl max 0 ≤ s.time.raster →
      exec (.railOffDelay g) s = .next (s.railDownFrom g (s.pwr g).order)) ∧
    (∀ r b, r < 48 → s.f (fDRV_RAIL_GOOD r) = b2n (!b) →
      let g := s.f (fDRV_RAIL_GROUP r)
      let u := (s.setOn (fDRV_RAIL_GOOD r) b).setRail r { s.rail r with goodTick := if b = true ∧ (s.rail r).seqOn = true then some s.time.raster else none }
      (b = true → exec (.railgoodEdge r b) s = .next u) ∧
      (b = false → s.f (fDRV_RAIL_EN r) = 1 → s.rState g = 2 → (s.rail r).seqOn = true → (s.rail r).force = 0 → g < 16 →
        exec (.railgoodEdge r b) s = .next (u.railFault g r)) ∧
      (b = false → (s.rail r).force ≠ 0 → exec (.railgoodEdge r b) s = .next u)) ∧
    (∀ r, r < 48 → s.f (fDRV_RAIL_EN r) = 1 → s.rState (s.f (fDRV_RAIL_GROUP r)) = 1 → (s.rail r).seqOn = true → (s.rail r).force = 0 →
      (s.rail r).goodTick = none → s.f (fDRV_RAIL_ORDER r) = (s.pwr (s.f (fDRV_RAIL_GROUP r))).order →
      (s.rail r).onTick + 1600000 * max 1 (s.f (fDRV_RAIL_TMO r)) ≤ s.time.raster →
      exec (.railTimeout r) s = .next (s.railFault (s.f (fDRV_RAIL_GROUP r)) r)) ∧
    (∀ (u : State) g r, g < 16 → (u.railFault g r).rState g = 4) ∧
    (∀ req (data : Word), s.takesWrite req fDRV_RAIL_OVR_ACT.addr = true → s.granted req fDRV_RAIL_OVR_ACT.addr data.toNat →
      let r := data.toNat % 64
      let act := bitsOf data.toNat 9 8
      let t := s.railForce r act
      (act = 2 → exec (.railForceOn req data) s = .next t.wakeBanks) ∧
      (act = 1 → exec (.railForceOff req data) s = .next t.wakeBanks) ∧
      (act = 0 → exec (.railForceRelease req data) s = .next t.wakeBanks) ∧
      (r < 48 → act < 3 → t.f (fDRV_RAIL_OVR r) = b2n (act != 0) ∧
        t.f (fDRV_RAIL_ON r) = b2n (act == 2 || (act == 0 && (s.rail r).seqOn)) ∧ (t.rail r).force = act)) ∧
    (∀ g, g < 16 →
      (s.f (fDRV_TEMP_EN g) = 1 → ∃ t, exec (.panelTempPoll g) s = .next t ∧ smGet (fun _ => false) t.drv.tempBusy g = true ∧
        t.outs = .tempRead (s.f (fDRV_TEMP_BUS g)) (s.f (fDRV_TEMP_ADDR g)) :: s.outs ∧ Only [] [.drv, .outs] s t) ∧
      (smGet (fun _ => false) s.drv.tempBusy g = true →
        (∀ raw, ∃ t, exec (.panelTempReadDone g true raw) s = .next t ∧ t.on (fDRV_TEMP_VALID g) = true ∧ t.tempFails g = 0 ∧
          t.f (fDRV_TEMP_TEMP g) = toField 16 (sInt 12 (raw / 16 % 4096)) % 65536) ∧
        (∀ raw, ∃ t, exec (.panelTempReadDone g false raw) s = .next t ∧ t.tempFails g = min 3 (s.tempFails g + 1) ∧
          (s.tempFails g < 2 → t.f (fDRV_TEMP_VALID g) = s.f (fDRV_TEMP_VALID g)) ∧
          (2 ≤ s.tempFails g → t.f (fDRV_TEMP_VALID g) = 0))))

/-- R444, R445, R447, R457 to R461, R463, R605, R685. A trip stops every group and is recorded; the discharge follows 320 ticks later;
TRIPPED clears only when no source holds; the bonbon window is entered, sent and left. -/
def Obligations.PowerFailTripsAndTheBonbonWindow : Prop :=
  ∀ (s : State),
    (∀ p v, let u : State := { s with drv := { s.drv with pfailLow := p, vinLow := v } }
      u.pfCause = b2n (s.on fDRV_PF_PIN_EN && p) + 2 * b2n (s.on fDRV_PF_VIN_EN && v) ∧
      (s.boot.act = none → u.pfCause ≠ 0 → s.f fDRV_PF_TRIPPED = 0 → ∃ t, exec (.pfTrip p v) s = .next t ∧ t.f fDRV_PF_TRIPPED = 1 ∧
        t.f fDRV_PF_CAUSE = u.pfCause ∧ t.drv.tripTick = some s.time.master ∧
        (∃ l, t.ev.enRoute = s.ev.enRoute ++ ⟨s.time.master, 0x172, false, 0xE00, 0, packBits [(8, u.pfCause)]⟩ :: l) ∧
        ∀ g, g < 16 → s.gState g = 1 ∨ s.gState g = 2 → t.gState g = 3 ∧ t.f (fTMG_CTRL_RUN g) = 0) ∧
      (s.boot.act = none → u.pfCause = 0 ∨ s.f fDRV_PF_TRIPPED = 1 → exec (.pfTrip p v) s = .next u)) ∧
    (∀ k, s.drv.tripTick = some k → k + 320 ≤ s.time.master → s.drv.discharged = false → ∃ t, exec .pfDischarge s = .next t ∧
      t.drv.discharged = true ∧ (∀ g, g < 16 → (t.bis g).flight = []) ∧ (s.f fNVS_STATUS_READY = 1 → t.nv.dumpPhase = 1 ∧ t.nv.xfer = none ∧ t.f fNVS_XFER_CTRL_BUSY = 0)) ∧
    (∀ req (data : Word) p v, let u : State := { s with drv := { s.drv with pfailLow := p, vinLow := v } }
      s.takesWrite req fDRV_PF_TRIPPED.addr = true → data.getLsbD 31 = true →
      let w := u.putFields fDRV_PF_TRIPPED.addr data.toNat regDRV_PF.fields true (atBits [31])
      exec (.trippedClear req data p v) s = .next w.clearTripped.wakeBanks) ∧
    (∀ (u : State),
      (u.f fDRV_PF_TRIPPED = 1 → u.pfCause = 0 → u.w1cNow fDRV_PF_TRIPPED = 0 → u.clearTripped.f fDRV_PF_TRIPPED = 0 ∧ u.clearTripped.drv.discharged = false ∧
        u.clearTripped.drv.tripTick = none) ∧
      (u.pfCause ≠ 0 → u.clearTripped = u)) ∧
    (∀ req (data : Word), s.takesWrite req fDRV_BON_CTRL_ENTER.addr = true →
      let u := s.putFields fDRV_BON_CTRL_ENTER.addr data.toNat regDRV_BON_CTRL.fields true (atBits [])
      let a := if data.getLsbD 31 = true then u.bonEnter else u
      let b := if data.getLsbD 30 = true ∧ req = .mp then a.bonExit else a
      let t := (if data.getLsbD 29 = true then b.bonSend else b).wakeBanks
      (data.getLsbD 31 = true → exec (.bonbonEnter req data) s = .next t) ∧
      (data.getLsbD 30 = true → exec (.bonbonExit req data) s = .next t) ∧
      (data.getLsbD 29 = true → exec (.bonbonSend req data) s = .next t)) ∧
    (∀ (u : State), u.f fDRV_BON_CTRL_ACTIVE = 0 →
      ((∃ g, g < 16 ∧ u.gState g ≠ 0) → u.bonEnter = u.setF fDRV_BON_CTRL_ERR 1) ∧
      ((∀ g, g < 16 → u.gState g = 0) → u.bonOk = false → u.bonEnter = u.setF fDRV_BON_CTRL_ERR 2) ∧
      ((∀ g, g < 16 → u.gState g = 0) → u.bonOk = true →
        u.bonEnter.f fDRV_BON_CTRL_ACTIVE = 1 ∧ u.bonEnter.drv.bonMem = u.drv.bonMem ∧ u.bonEnter.ev.enRoute = u.ev.enRoute ++
          [⟨u.time.raster, 0x175, false, 0x440, 0, packBits [(8, 1), (8, 0)]⟩]) ∧
      (u.boot.bonbonExit = false → u.bonSend = u.setF fDRV_BON_CTRL_ERR 4) ∧ u.bonExit = u) ∧
    (∀ (u : State), u.f fDRV_BON_CTRL_ACTIVE = 1 →
      u.bonEnter = u ∧ (u.time.raster < u.drv.bonUntil → u.bonSend = u.setF fDRV_BON_CTRL_ERR 3) ∧
      u.bonExit.f fDRV_BON_CTRL_ACTIVE = 0 ∧ u.bonExit.f fCLK_BOOT_BONBON = 1 ∧ u.bonExit.boot.running = [2] ∧
      ∃ l, u.bonExit.ev.enRoute = u.ev.enRoute ++ ⟨u.time.raster, 0x175, false, 0x440, 0, packBits [(8, 0), (8, u.f fDRV_BON_CTRL_ERR)]⟩ :: l)

/-- R448, R449, R455 to R457. A request over a rectangle is refused with its reason or waits; a fetched waveform block serves the
requests, a failed one ends those that need it; writing JPAGE reads the open entries of every group's journal. -/
def Obligations.BistableRequestsBlocksAndJournal : Prop :=
  ∀ (s : State),
    (∀ req g (data : Word), g < 16 → s.takesWrite req (fBIS_REQ2_GO g).addr = true → data.getLsbD 31 = true →
      let r := bisReqOf (s.bisReg (fBIS_REQ0_X0 g) req) (s.bisReg (fBIS_REQ0_Y0 g) req) (s.bisReg (fBIS_REQ1_WM1 g) req)
        (s.bisReg (fBIS_REQ1_HM1 g) req) (bitsOf data.toNat 27 24) (bitsOf data.toNat 15 0)
      ∃ t, exec (.bisRequest req g data) s = .next t ∧ t.bisReg (fBIS_REQ2_RES g) req = s.bisRes g r ∧
        (s.bisRes g r = 0 → (t.bis g).waiting = (s.bis g).waiting ++ [r]) ∧
        (s.bisRes g r ≠ 0 → t.bis g = s.bis g)) ∧
    (∀ (u : State) g r, u.bisRes g r = if 64 ≤ (u.bis g).waiting.length then 1
      else if u.hact g ≤ r.x0 + r.wm1 ∨ u.vact g ≤ r.y0 + r.hm1 then 2
      else if u.gState g ≠ 2 ∨ u.tech g ≠ 3 then 3
      else if hdrModes (u.bis g).hdr ≤ r.mode then 4 else 0) ∧
    (∀ g mode band err, g < 16 → (∃ w, w ∈ (s.bis g).cache ∧ w.mode = mode ∧ w.band = band ∧ w.st = 0) →
      let a := s.wfBase g + 256 + 65536 * (16 * mode + band)
      (err = false → s.poisonedIn a 65536 = false → ∃ t, exec (.bisBlockFetchDone g mode band err) s = .next t ∧
        (t.bis g).cache = ((s.bis g).cache.map fun w => if w.mode = mode ∧ w.band = band ∧ w.st = 0 then ⟨mode, band, 1, s.fsBytes a 65536⟩ else w) ∧
        (t.bis g).waiting = (s.bis g).waiting ∧ (t.bis g).flight = (s.bis g).flight) ∧
      (err = true ∨ s.poisonedIn a 65536 = true → ∃ t, exec (.bisBlockFetchDone g mode band err) s = .next t ∧
        (t.bis g).cache = ((s.bis g).cache.filter fun w => !(w.mode == mode && w.band == band)) ∧
        (t.bis g).waiting = ((s.bis g).waiting.filter fun r => !(r.mode == mode && (s.bis g).band == band)))) ∧
    (∀ req (data : Word), s.takesWrite req fBIS_JBASE_JPAGE.addr = true → s.bisStopped = true →
      exec (.journalScan req data) s = .next (s.putFields fBIS_JBASE_JPAGE.addr data.toNat regBIS_JBASE.fields true (atBits [])).journalScan.wakeBanks) ∧
    (∀ (u : State) g, g < 16 →
      let word := fun i k => leNat (u.nvBytes (u.journalAddr g i + 4 * k) 4)
      (u.journalScan.bis g).opens = (((List.range 64).map fun i => (i, word i 0, word i 1, word i 2, word i 3)).filter fun o => bit o.2.1 31 == 1) ∧
      u.journalScan.f (fBIS_STATUS_OPEN g) = (u.journalScan.bis g).opens.length % 128)

/-- R488 to R493, R512, R513. Runs of the calibration items start by period or command, apply one code in their gap, time out; values
are written, saved and loaded; sensor readings are corrected. A sum outside the field and a corrected voltage are free values. -/
def Obligations.CalibrationItemsRunSaveAndRead : Prop :=
  ∀ (s : State),
    (∀ cls, cls < 4 → s.calPeriod cls ≠ 0 → s.f fCLK_BOOT_DONE = 1 →
      smGet (fun _ => 0) s.cal.lastRun cls = 0 ∨ smGet (fun _ => 0) s.cal.lastRun cls + s.calPeriod cls ≤ s.time.master →
      ∃ t, exec (.calPeriod cls) s = .next t ∧ smGet (fun _ => 0) t.cal.lastRun cls = s.time.master ∧ Only [] [.cal] s t ∧
        ∀ i, t.calRun i = if i ∈ calItems cls ∧ s.calRun i = none then some (s.calClock i) else s.calRun i) ∧
    (∀ req (data : Word), s.takesWrite req fCAL_CMD_GO.addr = true →
      let t := (s.calCmd data.toNat).wakeBanks
      (data.getLsbD 31 = true → exec (.calGo req data) s = .next t) ∧ (data.getLsbD 30 = true → exec (.calSave req data) s = .next t) ∧
        (data.getLsbD 29 = true → exec (.calLoad req data) s = .next t)) ∧
    (∀ (u : State) v,
      let a := u.setF fCAL_CMD_ITEM (bitsOf v 8 0)
      let b := if bit v 30 = 1 then a.calSave else a
      let c := if bit v 29 = 1 then b.calLoad else b
      u.calCmd v = if bit v 31 = 1 then c.calStart (c.f fCAL_CMD_ITEM) else c) ∧
    (∀ (u : State) i, i < 344 → (u.calRun i = none → (u.calStart i).calRun i = some (u.calClock i)) ∧ (u.calRun i ≠ none → u.calStart i = u)) ∧
    (∀ (u : State) i, 344 ≤ i → u.calStart i = u) ∧
    (∀ (u : State),
      (u.f fCAL_CMD_BUSY = 1 → u.calSave.f fCAL_CMD_RESULT = 1 ∧ u.calLoad.f fCAL_CMD_RESULT = 1 ∧
        Raised u u.calSave 0x183 0xE00 0 [(8, 1), (8, 1), (16, 0), (32, u.cal.saveSeq)]) ∧
      (u.f fCAL_CMD_BUSY = 0 → 4090 < u.f fCAL_NV_CPAGE → u.calSave.f fCAL_CMD_RESULT = 3 ∧ u.calLoad.f fCAL_CMD_RESULT = 3) ∧
      (u.f fCAL_CMD_BUSY = 0 → u.f fCAL_NV_CPAGE ≤ 4090 →
        u.calSave.f fCAL_CMD_BUSY = 1 ∧ (u.calSetOk (256 * u.f fCAL_NV_CPAGE) = false → u.calLoad.f fCAL_CMD_RESULT = 2) ∧
        (u.calSetOk (256 * u.f fCAL_NV_CPAGE) = true → u.calLoad = (u.calTake (256 * u.f fCAL_NV_CPAGE)).calNvDone 2 0))) ∧
    (∀ i a b, i < 344 → s.calRun i ≠ none →
      (if 48 ≤ i ∧ i < 320 then s.idleTo (i - 48) (s.txNow (i - 48)) else s).calGap i = true →
      ∃ t, exec (.calApply i a b false) s = .next t ∧ t.calRun i = none ∧
        t.f (calA i) = (calStep (calA i).w (s.f (calA i)) a).1 % 2 ^ (calA i).w ∧
        (∀ fb, calB i = some fb → t.f fb = (calStep fb.w (s.f fb) b).1 % 2 ^ fb.w) ∧
        t.f (fCAL_CNT_COUNT i) = satAdd (s.f (fCAL_CNT_COUNT i)) 1 (2 ^ 32 - 1) ∧
        t.f (fCAL_TS_LO_TS_LO i) = s.calClock i % 2 ^ 32 ∧ t.f (fCAL_TS_HI_TS_HI i) = s.calClock i / 2 ^ 32 % 2 ^ 32) ∧
    (∀ i, i < 344 → s.calRun i ≠ none →
      (∀ a b, ∃ t, exec (.calApply i a b true) s = .next t ∧ t.calRun i = none ∧ Raised s t 0x180 0xE00 0 [(16, i), (8, 3)] ∧
        Only [] [.ev, .cal, .outs, .ch] s t) ∧
      (∀ k, s.calRun i = some k → k + 2 ^ 30 ≤ s.calClock i → ∃ t, exec (.calRunTimeout i) s = .next t ∧ t.calRun i = none ∧
        Raised s t 0x180 0xE00 0 [(16, i), (8, 1)] ∧ Only [] [.ev, .cal] s t)) ∧
    (∀ req i (data : Word), i < 344 → s.takesWrite req (0x03200000 + 16 * i) = true →
      exec (.calValWrite req i data) s = .next (s.calWrite i data.toNat).wakeBanks ∧ (s.calWrite i data.toNat).calRun i = none ∧
        (s.calWrite i data.toNat).f (calA i) = bitsOf data.toNat ((calA i).lo + (calA i).w - 1) (calA i).lo % 2 ^ (calA i).w) ∧
    (∀ n raw, n < 32 → s.calRun n = none →
      let v := sInt 16 (raw % 65536) + sInt 16 (s.f (fCAL_VAL_TS_OFS n))
      ∃ t, exec (.tempSensorUpdate n raw) s = .next t ∧ t.f (fCAL_TEMP_VALID n) = 1 ∧
        (-32768 ≤ v → v ≤ 32767 → t.f (fCAL_TEMP_TEMP n) = toField 16 v % 65536) ∧
        (v < -32768 ∨ 32767 < v → t.f (fCAL_TEMP_TEMP n) = Config.freeValue s.free % 65536)) ∧
    (∀ n raw, n < 16 → s.calRun (32 + n) = none → ∃ t, exec (.railMonitorUpdate n raw) s = .next t ∧ t.f (fCAL_RAIL_VALID n) = 1 ∧
      let ofs := sInt 16 (s.f (fCAL_VAL_ADC_OFS n))
      let exact := ofs % 10 = 0 ∧ s.f (fCAL_VAL_ADC_GAIN n) = 0 ∧ 0 ≤ (raw : Int) + ofs / 10 ∧ (raw : Int) + ofs / 10 < 65536
      (exact → (t.f (fCAL_RAIL_MV n) : Int) = raw + ofs / 10) ∧
      (¬ exact → t.f (fCAL_RAIL_MV n) = Config.freeValue s.free % 65536))

/-- R497, R499 to R502. FOLD = 1 is refused with its code or begins COLLECT, FOLD = 0 abandons the cycle; the phases WRITE and REPLAY
end when their writes are made; a gain moves by at most STEP and the offset of a word never. -/
def Obligations.TheSenseFoldCyclesThroughItsPhases : Prop :=
  ∀ (s : State),
    (∀ req g (data : Word), g < 16 → s.takesWrite req (fCAL_SNS_CFG_FOLD g).addr = true →
      let a := (fCAL_SNS_CFG_FOLD g).addr
      let v := s.stageWord req a data.toNat regCAL_SNS_CFG
      let t := ((v.putFields a data.toNat regCAL_SNS_CFG.fields (!v.on (fCAL_SNS_CFG_FOLD g)) (atBits [31])).foldWrite g (data.getLsbD 31)).wakeBanks
      (data.getLsbD 31 = true → exec (.foldEnable req g data) s = .next t) ∧
      (data.getLsbD 31 = false → exec (.foldDisable req g data) s = .next t)) ∧
    (∀ (u : State) g, g < 16 →
      (u.f (fCAL_SNS_CFG_FOLD g) = 0 → u.foldCheck g ≠ 0 → u.foldCheck g < 8 →
        (u.foldWrite g true).f (fCAL_SNS_STATUS_ERR g) = u.foldCheck g ∧ (u.foldWrite g true).f (fCAL_SNS_CFG_FOLD g) = 0 ∧
        Raised u (u.foldWrite g true) 0x182 (0x800 + g) (locusGroup g) [(8, 0), (8, 2), (8, u.foldCheck g)]) ∧
      (u.f (fCAL_SNS_CFG_FOLD g) = 0 → u.foldCheck g = 0 →
        (u.foldWrite g true).f (fCAL_SNS_CFG_FOLD g) = 1 ∧ (u.foldWrite g true).f (fCAL_SNS_STATUS_PHASE g) = 0 ∧
        Raised u (u.foldWrite g true) 0x182 (0x800 + g) (locusGroup g) [(8, 1), (8, 0), (8, 0)]) ∧
      (u.f (fCAL_SNS_CFG_FOLD g) = 1 → (u.foldWrite g false).f (fCAL_SNS_CFG_FOLD g) = 0 ∧ (u.foldWrite g false).fold g = FoldSt.init ∧
        (u.foldWrite g false).f (fCAL_SNS_STATUS_PHASE g) = 0 ∧
        Raised u (u.foldWrite g false) 0x182 (0x800 + g) (locusGroup g) [(8, 0), (8, 0), (8, 0)])) ∧
    (∀ (u : State) g, u.foldCheck g = if u.foldSide g false = u.foldSide g true then 1
      else if u.f (u.foldGran g) ≠ u.foldSide g false ∧ u.f (u.foldGran g) ≠ u.foldSide g true then 2
      else if u.planeEn g (u.foldPlane g) = false then 3
      else if u.planeCode g (u.foldPlane g) ≠ 0 then 4 else 0) ∧
    (∀ g, g < 16 → s.f (fCAL_SNS_CFG_FOLD g) = 1 → s.f (fCAL_SNS_STATUS_PHASE g) = 1 →
      let src := 256 * s.foldSide g (s.on (fCAL_SNS_STATUS_INEFF g))
      (∀ e ∈ (s.fold g).todo, s.asleep (src + e.1) 2 = false ∧ s.readBlocked (src + e.1) 2 = []) →
      ∃ t, exec (.foldWritesDone g) s = .next t ∧ t.f (fCAL_SNS_STATUS_PHASE g) = 2 ∧ (t.fold g).todo = []) ∧
    (∀ g, g < 16 → s.f (fCAL_SNS_CFG_FOLD g) = 1 → s.f (fCAL_SNS_STATUS_PHASE g) = 3 →
      ∃ t, exec (.foldReplayDone g) s = .next t ∧ t.f (fCAL_SNS_STATUS_PHASE g) = 0 ∧ (t.fold g).replay = []) ∧
    (∀ g, g < 16 → s.f (fCAL_SNS_CFG_FOLD g) = 1 → s.f (fCAL_SNS_STATUS_PHASE g) = 1 ∨ s.f (fCAL_SNS_STATUS_PHASE g) = 3 →
      ∃ t, exec (.foldRetry g) s = .next t ∧ (t.fold g).retries = (s.fold g).retries + 1 ∧ Only [] [.cal] s t) ∧
    (∀ w e m (step : Int), w < 65536 → 1 ≤ step →
      let g0 := sInt 8 (w / 256)
      let tg := max (-128) (min 127 ((((1024 * e + m) / (2 * m) : Nat) : Int) - 512))
      foldWord w e m step % 256 = w % 256 ∧ sInt 8 (foldWord w e m step / 256) = g0 + max (-step) (min step (tg - g0)))

/-- R541, R542, R545, R546. Host resets and link loss act in the order of the rules and leave the link down, the decoder uncommitted,
the IDE streams and the D3hot states reset; training ends in L0 with what it negotiated; the function-level resets and the link's power
states change what is theirs. The conditions of LINK_UP are R522's rates and widths, the boot stage (R679) and the reset pins. -/
def Obligations.HostResetsAndTheHostLink : Prop :=
  ∀ (s : State),
    (s.boot.porst = false → exec .hostHotReset s = .next ((s.count fCXL_HOST_CNT_HOTRST 1).hostReset 1 2 1) ∧
      (s.host.perst = false → exec .perstAssert s =
        .next (({ s with host := { s.host with perst := true } }.count fCXL_HOST_CNT_HOTRST 1).hostReset 9 2 1))) ∧
    (∃ t, exec .perstDeassert s = .next t ∧ t.host.perst = false ∧ t.host.training = true ∧ Only [] [.host] s t) ∧
    (s.on fCXL_LINK_STATUS_UP = true → exec .linkLoss s = .next ((s.count fCXL_HOST_CNT_LINKLOSS 1).hostReset 2 3 2)) ∧
    (∀ (u : State) (kind sleep qcause : Nat), let t := u.hostReset kind sleep qcause
      t.host.inReset = true ∧ t.host.training = true ∧ t.host.memEn = false ∧ t.host.hdm = none ∧ t.host.ideKeys = [] ∧
        t.host.d3pf0 = false ∧ t.host.d3pf1 = false ∧ t.f fCXL_BI_SF_USED = 0 ∧ t.f fCXL_LINK_STATUS_CACHE = 0 ∧
      t.f fCXL_LINK_STATUS_UP = 0 ∧ t.f fCXL_LINK_STATUS_CXL = 0 ∧ t.f fCXL_LINK_STATUS_LOPT = 0 ∧ t.f fCXL_LINK_STATUS_L1 = 0 ∧
      t.f fCXL_LINK_STATUS_MEM = 0 ∧ t.f fCXL_LINK_STATUS_IDE_IO = 0 ∧ t.f fCXL_LINK_STATUS_IDE_CM = 0 ∧
      t.f fCXL_LINK_STATUS_WIDTH = 0 ∧ t.f fCXL_LINK_STATUS_RATE = 0) ∧
    (∀ rate width cxl lopt, s.on fCXL_LINK_STATUS_UP = false → s.host.perst = false → s.boot.porst = false →
      bit (s.f fGEN_BLKRDY_RDY) 2 = 1 → 3 ≤ rate → rate ≤ 6 → width = 4 ∨ width = 8 ∨ width = 16 →
      ∃ t, exec (.linkUp rate width cxl lopt) s = .next t ∧ t.f fCXL_LINK_STATUS_UP = 1 ∧ t.f fCXL_LINK_STATUS_CXL = b2n cxl ∧
        t.f fCXL_LINK_STATUS_LOPT = b2n lopt ∧ t.f fCXL_LINK_STATUS_WIDTH = width ∧ t.f fCXL_LINK_STATUS_RATE = rate ∧
        t.host.inReset = false ∧ Raised s t 0x190 0xE00 0 [(8, 3), (8, rate), (8, width)] ∧
        Only [fCXL_LINK_STATUS_UP, fCXL_LINK_STATUS_CXL, fCXL_LINK_STATUS_LOPT, fCXL_LINK_STATUS_WIDTH, fCXL_LINK_STATUS_RATE]
          [.regs, .host, .ev] s t) ∧
    (∀ func, func < 2 → ∃ t, exec (.flr func) s = .next t ∧
      (∀ e ∈ t.host.unmasked, e.1 / 2048 ≠ func) ∧ (∀ e ∈ t.host.msixPend, e.1 / 2048 ≠ func) ∧
      (func = 0 → t.host.d3pf0 = false ∧ t.host.d3pf1 = s.host.d3pf1) ∧ (func = 1 → t.host.d3pf1 = false ∧ t.host.d3pf0 = s.host.d3pf0) ∧
      t.outs = s.outs ∧ t.fs.mem = s.fs.mem ∧ t.groups = s.groups ∧
      t = ({ ((s.count fCXL_HOST_CNT_FLR 1).msixReset func).hostRingsOff [func] with host := t.host }).hostState (6 + func)) ∧
    (∃ t, exec .cxlReset s = .next t ∧ t.host.hdm = none ∧ t.f fCXL_BI_SF_USED = 0 ∧ t.f fCXL_LINK_STATUS_CACHE = 0 ∧ t.f fCXL_LINK_STATUS_MEM = 0 ∧
      t = ({ ((s.count fCXL_HOST_CNT_FLR 1).cacheLost 4).dropSf with host := t.host }).memStat.hostState 8) ∧
    (s.on fCXL_LINK_STATUS_UP = true → ∃ t, exec .l1Entry s = .next t ∧ t.f fCXL_LINK_STATUS_L1 = 1 ∧
      Only [fCXL_LINK_STATUS_L1] [.regs] s t) ∧
    (∃ t, exec .l1Exit s = .next t ∧ t.f fCXL_LINK_STATUS_L1 = 0 ∧ Only [fCXL_LINK_STATUS_L1] [.regs] s t) ∧
    (∀ on, exec (.d3hot 0 on) s = .next { s with host := { s.host with d3pf0 := on } } ∧
      exec (.d3hot 1 on) s = .next { s with host := { s.host with d3pf1 := on } }) ∧
    (∀ session stream active, (s.sec.sessions.any fun x => x.1 == session) = true → stream < 2 → s.on fCXL_LINK_STATUS_UP = true →
      ∃ t, exec (.ideKm session stream active) s = .next t ∧
        t.f (if stream = 0 then fCXL_LINK_STATUS_IDE_IO else fCXL_LINK_STATUS_IDE_CM) = b2n active ∧
        (∀ k, smGet (fun _ => false) t.host.ideKeys k = if k = stream then active else smGet (fun _ => false) s.host.ideKeys k) ∧
        Only [if stream = 0 then fCXL_LINK_STATUS_IDE_IO else fCXL_LINK_STATUS_IDE_CM] [.regs, .host] s t) ∧
    (∀ line, ∃ t, exec (.h2dSnoop line) s = .next t ∧ t.outs = .rspIHitI line :: s.outs ∧ Only [] [.outs] s t)

/-- R530 to R534. CXL.cache begins and ends; the one decoder maps 48 GB at a multiple of 256 MB; host reads and writes of the frame store,
the snoop filter and its back-invalidates; RdCurr data. The first clause for reads and writes is R530's: without a committed decoder, or
with Mem_Enable 0, none is accepted. -/
def Obligations.CxlCacheAndMemoryRequests : Prop :=
  ∀ (s : State),
    (s.on fCXL_LINK_STATUS_UP = true → s.on fCXL_LINK_STATUS_CXL = true → s.host.inReset = false → s.on fCXL_LINK_STATUS_CACHE = false →
      exec .cxlCacheAvailable s = .next
        ((({ s with host := { s.host with cacheEn := true } }.setF fCXL_LINK_STATUS_CACHE 1).cacheQueues true).hostState 4)) ∧
    (s.on fCXL_LINK_STATUS_CACHE = true → ∃ t, exec .cxlCacheUnavailable s = .next t ∧ t = (s.cacheLost 4).hostState 5 ∧
      t.f fCXL_LINK_STATUS_CACHE = 0 ∧ t.host.cacheEn = false) ∧
    (∀ base size memEnable, let ok := decide (size = 48 * 2 ^ 30 ∧ base % 2 ^ 28 = 0)
      ∃ t, exec (.hdmCommit base size memEnable) s = .next t ∧ t.host.memEn = memEnable ∧
        t.host.hdm = (if ok then some base else s.host.hdm) ∧ t.f fCXL_LINK_STATUS_MEM = b2n (memEnable && t.host.hdm.isSome) ∧
        t.outs = .reply 20 [BitVec.ofNat 8 (b2n ok)] :: s.outs ∧ Only [fCXL_LINK_STATUS_MEM] [.regs, .host, .outs] s t) ∧
    (s.host.hdm = none ∨ s.host.memEn = false → ∀ hpa cache bytes mask wb,
      exec (.cxlmemRead hpa cache) s = .next s ∧ exec (.cxlmemWrite hpa bytes mask wb) s = .next s) ∧
    (∀ base hpa, s.host.hdm = some base → s.host.memEn = true → s.on fCXL_LINK_STATUS_UP = true → s.on fCXL_LINK_STATUS_CXL = true →
      base ≤ hpa → hpa < base + 48 * 2 ^ 30 →
      let line := (hpa - base) / 64
      let data := Out.memData line (s.fsBytes (64 * line) 64) (s.poisoned (64 * line)) (s.poisoned (64 * line + 32))
      s.stackReady (stackOf (64 * line)) = true →
      (∀ cache, cache = false ∨ s.host.sf.contains line = true →
        ∃ t, exec (.cxlmemRead hpa cache) s = .next t ∧ t.outs = data :: s.outs ∧ Only [] [.outs, .fsRest] s t) ∧
      (s.host.sf.contains line = false → s.host.sf.length < 32768 →
        ∃ t, exec (.cxlmemRead hpa true) s = .next t ∧ t.outs = data :: s.outs ∧ t.host.sf = s.host.sf ++ [line] ∧
          t.f fCXL_BI_SF_USED = s.host.sf.length + 1 ∧ Only [fCXL_BI_SF_USED] [.regs, .outs, .fsRest, .host] s t) ∧
      (∀ old rest, s.host.sf.contains line = false → s.host.sf = old :: rest → 32768 ≤ s.host.sf.length →
        ∃ t, exec (.cxlmemRead hpa true) s = .next t ∧ t.host.sfWait = s.host.sfWait ++ [line] ∧ t.host.sf = s.host.sf ∧
          ((s.host.bi.any fun b => b.line == old) = false →
            t.outs = .biSnp old true :: s.outs ∧ t.host.bi = s.host.bi ++ [⟨old, s.time.master, false, false⟩]) ∧
          Only [] [.outs, .fsRest, .host] s t) ∧
      (∀ (bytes : List Byte) mask wb, bytes.length = 64 →
        ∃ t, exec (.cxlmemWrite hpa bytes mask wb) s = .next t ∧ t.outs = .memDone line :: s.outs ∧
          (∀ i, i < 64 → t.fsByte (64 * line + i) = if bit mask i = 1 then bytes.getD i 0 else s.fsByte (64 * line + i)) ∧
          (∀ a, a < 64 * line ∨ 64 * line + 64 ≤ a → t.fsByte a = s.fsByte a) ∧
          (∀ a, t.poisoned a = if a / 64 = line ∧ mask % 2 ^ 64 = 2 ^ 64 - 1 then false else s.poisoned a) ∧
          t.host.sf = (if wb then s.host.sf.filter fun l => l != line else s.host.sf) ∧
          Only [fCXL_BI_SF_USED] [.regs, .outs, .groups, .host, .fsMem, .fsPoison, .fsRest] s t)) ∧
    (∀ line, (s.host.bi.any fun b => b.line == line) = true →
      let u := s.lineFreed line
      u.f fCXL_BI_SF_USED = (s.host.sf.filter fun l => l != line).length % 2 ^ 16 ∧
      (u.host.sfWait = [] → exec (.biResponse line) s = .next u) ∧
      (∀ l rest, u.host.sfWait = l :: rest → u.host.sf.length < 32768 →
        exec (.biResponse line) s = .next (({ u with host := { u.host with sfWait := rest } }.hostRead l).setSf (u.host.sf ++ [l])))) ∧
    (∀ line, (s.host.bi.any fun b => b.line == line && b.realtime && !b.late &&
        decide (b.since + s.f fCXL_BI_RT_TMO ≤ s.time.master)) = true →
      ∃ t, exec (.biTimeout line) s = .next t ∧ (∀ b ∈ s.host.bi, b.line = line → b.realtime = true →
          b.since + s.f fCXL_BI_RT_TMO ≤ s.time.master → { b with late := true } ∈ t.host.bi) ∧
        t.f fCXL_BI_LATE_COUNT = satAdd (s.f fCXL_BI_LATE_COUNT) 1 (2 ^ fCXL_BI_LATE_COUNT.w - 1) ∧
        Only [fCXL_BI_LATE_COUNT] [.regs, .host] s t) ∧
    (∀ line (bytes : List Byte), bytes.length = 64 →
      (s.on fCXL_LINK_STATUS_CACHE = true ∨ s.askedAt line ≠ none → ∀ failed, ∃ t, exec (.cacheReadDone line bytes failed none) s = .next t ∧
        (let lost := failed || (match s.askedAt line with | some k => decide (k + 16384 < s.time.master) | none => false)
        (∀ i, i < 64 → t.hostByte (64 * line + i) = if lost then 257 else (bytes.getD i 0).toNat) ∧
        (∀ p, lost = false → exec (.cacheReadDone line bytes failed (some p)) s = .next (t.captureBytes p (64 * line) bytes))) ∧
        (∀ a, a < 64 * line ∨ 64 * line + 64 ≤ a → t.hostByte a = s.hostByte a) ∧
        (∀ l, t.askedAt l = if l = line then none else s.askedAt l) ∧ Only [] [.host] s t) ∧
      (∀ k, s.askedAt line = some k → k + 16384 ≤ s.time.master → ∃ t, exec (.cacheReadTimeout line) s = .next t ∧
        (∀ i, i < 64 → t.hostByte (64 * line + i) = 257) ∧ t.askedAt line = none ∧ Only [] [.host] s t)) ∧
    ((s.on fCXL_LINK_STATUS_CACHE = true → ∀ rs, let missing := (rs.flatMap fun r => s.hostMissing r.1 r.2).eraseDups
        (s.hostGate rs).1 = missing.isEmpty ∧
        ∀ l ∈ missing, ((s.hostGate rs).2.askedAt l).isSome = true ∧
          (s.askedAt l = none → .rdCurr l ∈ (s.hostGate rs).2.outs)))

/-- R527, R528. The CDAT and every mailbox command of PF0 reply with the content of the tables; event records are read oldest first and
cleared oldest first; the bytes of the Command Effects Log and the temperature of a device with no valid reading are free; another
opcode completes with Unsupported. Replies change nothing but the replies sent (and the counter of the free values). -/
def Obligations.MailboxRepliesOfTheManagementFunction : Prop :=
  ∀ (s : State),
    (∃ t, exec .cdatRead s = .next t ∧ Only [] [.outs] s t ∧
      t.outs = .reply 21 ([0, 0, 0xC00000000, 150, 100, 2360, 2360, 0, 1].flatMap fun v => leBytes 8 v) :: s.outs) ∧
    (∃ t, exec .identifyMemoryDevice s = .next t ∧ t.outs = .reply 22 (leBytes 8 48 ++ leBytes 8 48 ++ leBytes 8 0) :: s.outs ∧
      Only [] [.outs] s t) ∧
    (∃ t, exec .getSupportedLogs s = .next t ∧ t.outs = .reply 23 [0#8] :: s.outs ∧ Only [] [.outs] s t) ∧
    (∀ log n, ∃ t, exec (.getLog log n) s = .next t ∧ Only [] [.outs, .free] s t ∧
      (log = 0 → ∃ bs, bs.length = n ∧ t.outs = .reply 24 bs :: s.outs) ∧ (log ≠ 0 → t.outs = .reply 30 [] :: s.outs)) ∧
    (∀ log, ∃ t, exec (.getEventRecords log) s = .next t ∧ Only [] [.outs] s t ∧
      t.outs = .reply 25 (leBytes 2 (s.evLog log).overflow ++ (s.evLog log).recs.flatMap fun r => leBytes 1 r.1 ++ leBytes 8 r.2) :: s.outs) ∧
    (∀ log n, ∃ t, exec (.clearEventRecords log n) s = .next t ∧ Only [] [.outs, .host] s t ∧ t.outs = .reply 26 [] :: s.outs ∧
      (t.evLog log).recs = (s.evLog log).recs.drop n ∧ (t.evLog log).overflow = 0 ∧ (∀ k, k ≠ log → t.evLog k = s.evLog k)) ∧
    (∃ t, exec .getEventInterruptPolicy s = .next t ∧ t.outs = .reply 27 (leBytes 4 s.host.intPolicy) :: s.outs ∧ Only [] [.outs] s t) ∧
    (∀ policy, ∃ t, exec (.setEventInterruptPolicy policy) s = .next t ∧ t.host.intPolicy = policy % 2 ^ 32 ∧
      t.outs = .reply 28 [] :: s.outs ∧ Only [] [.outs, .host] s t) ∧
    (∃ t, exec .getHealthInfo s = .next t ∧ Only [] [.outs, .free] s t ∧
      ((∃ n, n < 32 ∧ s.on (fCAL_TEMP_VALID n) = true) → ∃ n, n < 32 ∧ s.on (fCAL_TEMP_VALID n) = true ∧
        (∀ k, k < 32 → s.on (fCAL_TEMP_VALID k) = true → sInt 16 (s.f (fCAL_TEMP_TEMP k)) ≤ sInt 16 (s.f (fCAL_TEMP_TEMP n))) ∧
        t.outs = .reply 29 (leBytes 2 (toField 16 (sInt 16 (s.f (fCAL_TEMP_TEMP n))))) :: s.outs)) ∧
    (∃ t, exec .getPoisonList s = .next t ∧ t.outs = .reply 31 (s.host.poisonList.flatMap fun g => leBytes 4 g) :: s.outs ∧
      Only [] [.outs] s t) ∧
    (∀ op, ∃ t, exec (.mailboxUnsupported op) s = .next t ∧ t.outs = .reply 30 [] :: s.outs ∧ Only [] [.outs] s t) ∧
    (∀ log kind detail, (s.cxlLog log kind detail).evLog log = if (s.evLog log).recs.length < 64 then
        ⟨(s.evLog log).recs ++ [(kind, detail)], (s.evLog log).overflow⟩
      else ⟨(s.evLog log).recs.drop 1 ++ [(kind, detail)], (s.evLog log).overflow + 1⟩)

/-- R560 to R563, R574. The SPDM requests and their replies: while DBG_OPEN or TAMPERED is 1, and before the identity key is in the
praline bank, those that need a signature and KEY_EXCHANGE are answered with ERROR; at most four sessions. Cryptography is uninterpreted
(log entry 9); a reply's payload is its content, not its wire format. -/
def Obligations.SpdmRequestsAndTheIdentityKey : Prop :=
  ∀ (s : State),
    let withheld := s.on fSEC_LC_DBG_OPEN = true ∨ s.on fSEC_LC_TAMPERED = true
    let error := Host.Outcome.next (s.out (.reply 255 []))
    let n := leNat (s.nvBytes 0x2400 4)
    exec .getVersion s = .next (s.out (.reply 1 [0x12#8, 0x13#8])) ∧
    exec .getCapabilities s = .next (s.out (.reply 2 [1#8, 2#8, 3#8, 4#8, 5#8, 6#8, 7#8, 8#8])) ∧
    (∀ offered, ((∀ i, 1 ≤ i → i ≤ 5 → i ∈ offered) → exec (.negotiateAlgorithms offered) s =
        .next (s.out (.reply 3 [1#8, 2#8, 3#8, 4#8, 5#8]))) ∧
      (∀ i, 1 ≤ i → i ≤ 5 → i ∉ offered → exec (.negotiateAlgorithms offered) s = error)) ∧
    (0 < n → n ≤ 7164 → let chain := s.nvBytes 0x2404 n
      exec .getDigests s = .next (s.out (.reply 4 (Config.sha384 chain))) ∧
      (∀ ofs len, exec (.getCertificate 0 ofs len) s = .next (s.out (.reply 5 ((chain.drop ofs).take len)))) ∧
      (¬ withheld → s.sec.idOn = true → ∀ nonce, exec (.challenge nonce) s =
        .next (s.out (.reply 6 (Config.sha384 chain ++ Config.ecdsaSign s.sec.idPub (nonce ++ Config.sha384 chain)))))) ∧
    (n = 0 → exec .getDigests s = .next (s.out (.reply 4 [])) ∧ (∀ slot ofs len, exec (.getCertificate slot ofs len) s = error)) ∧
    (∀ slot ofs len, slot ≠ 0 → exec (.getCertificate slot ofs len) s = error) ∧
    (withheld ∨ s.sec.idOn = false → (∀ nonce, exec (.challenge nonce) s = error ∧ exec (.getMeasurements true nonce) s = error) ∧
      (∀ transport authority, exec (.keyExchange transport authority) s = error)) ∧
    (∀ nonce, ∃ rom blocks, (blocks = measIndices.flatMap fun i =>
        BitVec.ofNat 8 i :: measBlock (if i = 1 then rom else smGet (fun _ => Meas.empty) s.sec.meas i)) ∧ exec (.getMeasurements false nonce) s = .next (s.out (.reply 7 blocks)) ∧
      (¬ withheld → s.sec.idOn = true → exec (.getMeasurements true nonce) s =
        .next (s.out (.reply 7 (blocks ++ Config.ecdsaSign s.sec.idPub (nonce ++ blocks)))))) ∧
    (∀ transport authority, (4 ≤ s.sec.sessions.length → exec (.keyExchange transport authority) s = error) ∧
      (¬ withheld → s.sec.idOn = true → s.sec.sessions.length < 4 →
        ∃ t, exec (.keyExchange transport authority) s = .next t ∧ Only [] [.outs, .sec] s t ∧
          t.sec.sessions = s.sec.sessions ++ [(s.sec.nextSession, transport, authority)] ∧
          t.sec.nextSession = s.sec.nextSession + 1 ∧ t.outs = .reply 8 (leBytes 4 s.sec.nextSession) :: s.outs)) ∧
    (∀ session, ((s.sec.sessions.any fun x => x.1 == session) = true → exec (.heartbeat session) s =
        .next (s.out (.reply 9 (leBytes 4 session)))) ∧
      ((s.sec.sessions.any fun x => x.1 == session) = false → exec (.heartbeat session) s = error ∧
        ∀ blob, exec (.vendorDefinedRequest session blob) s = error)) ∧
    (∀ session transport authority (blob : List Byte), (s.sec.sessions.find? fun x => x.1 == session) = some (session, transport, authority) →
      (authority = (if s.f fSEC_LC_STATE = 2 then 2 else 1) → s.f fSEC_LC_STATE ≠ 4 → blob.length = 288 →
        (s.sec.load = none → s.sec.goWait = none → exec (.vendorDefinedRequest session blob) s = .next ((s.keyLoad blob 1).out (.reply 10 []))) ∧
        (s.sec.load ≠ none ∨ s.sec.goWait ≠ none → ∃ t, exec (.vendorDefinedRequest session blob) s = .next t ∧
          Raised s t 0x1A3 0xE00 0 [(8, leNat ((blob.drop 2).take 1)), (8, 6), (8, 1)] ∧ Only [] [.ev] s t)) ∧
      (authority ≠ (if s.f fSEC_LC_STATE = 2 then 2 else 1) ∨ s.f fSEC_LC_STATE = 4 → exec (.vendorDefinedRequest session blob) s = error)) ∧
    (∀ (blob : List Byte), withheld → leNat (blob.take 2) = 1 → leNat ((blob.drop 7).take 1) = 0 → leNat ((blob.drop 6).take 1) = 1 →
      s.keyLoad blob 0 = s.keyDone (leNat ((blob.drop 2).take 1)) (if s.blobSig blob then 2 else 1) 0 (leNat ((blob.drop 4).take 2)))

/-- R571 to R580. Key loads are judged in the model's order (signature, decryption, GEN, slot; the order is the model's, log entry 40) and
take effect when their record is accepted; life-cycle changes follow R577's table with their codes; an unlock and a tamper trip wipe the
praline bank and end every session. The wipe leaves no key, no session and no issuer slot valid. -/
def Obligations.KeysLifeCycleDebugAndTamper : Prop :=
  ∀ (s : State),
    (∀ req (data : Word), s.takesWrite req fSEC_KL_CTRL_GO.addr = true → data.getLsbD 31 = true →
      exec (.keyLoadBlob req data) s = .next s.keyGo.wakeBanks) ∧
    (let a := 256 * s.f fSEC_BLOB_SRC_GRAN;
      (s.sec.load ≠ none ∨ s.sec.goWait ≠ none → s.keyGo.f fSEC_KL_CTRL_RESULT = 6 ∧ Raised s s.keyGo 0x1A3 0xE00 0 [(8, 0), (8, 6)]) ∧
      (s.sec.load = none → s.sec.goWait = none → 0xC00000000 < a + 288 ∨ s.poisonedIn a 288 = true →
        s.keyGo.f fSEC_KL_CTRL_RESULT = 5 ∧ s.keyGo.f fSEC_KL_CTRL_BUSY = 0 ∧ Raised s s.keyGo 0x1A3 0xE00 0 [(8, 0), (8, 5), (8, 0), (8, 0), (16, 0)]) ∧
      (s.sec.load = none → s.sec.goWait = none → a + 288 ≤ 0xC00000000 → s.poisonedIn a 288 = false →
        (s.asleep a 288 = true ∨ s.readBlocked a 288 ≠ [] → s.keyGo.sec.goWait = some (1, a, 0, 0)) ∧
        (s.asleep a 288 = false → s.readBlocked a 288 = [] → ∃ u : State, u = { s.touchRange a 288 with sec := { s.sec with goWait := none } } ∧
          s.keyGo = u.keyLoad (s.fsBytes a 288) 0))) ∧
    (∀ (blob : List Byte), let at_ := fun (o n : Nat) => leNat ((blob.drop o).take n)
      at_ 0 2 = 1 → at_ 7 1 = 0 → at_ 6 1 = 1 ∨ at_ 6 1 = 2 →
      (s.blobSig blob = false → s.keyLoad blob 0 = s.keyDone (at_ 2 1) 1 0 (at_ 4 2)) ∧
      (at_ 4 2 ≤ s.f (fSEC_SLOT_CFG_GEN (at_ 2 1)) → s.keyLoad blob 1 = s.keyDone (at_ 2 1) 3 1 (at_ 4 2)) ∧
      (s.f (fSEC_SLOT_CFG_GEN (at_ 2 1)) < at_ 4 2 → s.slotOpen (at_ 2 1) = false → s.keyLoad blob 1 = s.keyDone (at_ 2 1) 4 1 (at_ 4 2)) ∧
      (s.f (fSEC_SLOT_CFG_GEN (at_ 2 1)) < at_ 4 2 → s.slotOpen (at_ 2 1) = true →
        s.keyLoad blob 1 = s.keySubmit ⟨at_ 2 1, at_ 6 1, (blob.drop 128).take 48, at_ 3 1, at_ 4 2, at_ 8 8, 1⟩ ∧
        ((s.keyLoad blob 1).sec.load = some ⟨at_ 2 1, at_ 6 1, (blob.drop 128).take 48, at_ 3 1, at_ 4 2, at_ 8 8, 1⟩))) ∧
    (∀ slot key perm gen ctr via, slot < 64 → s.sec.load = some ⟨slot, 1, key, perm, gen, ctr, via⟩ → key ≠ [] → perm < 256 → gen < 65536 →
      ctr < 2 ^ 64 → let t := s.keyAccepted
      t.slotKey slot = key ∧ t.f (fSEC_SLOT_CFG_VALID slot) = 1 ∧ t.f (fSEC_SLOT_CFG_PERM slot) = perm ∧ t.f (fSEC_SLOT_CFG_GEN slot) = gen ∧
      t.lastCtr slot = ctr ∧ t.sec.load = none) ∧
    (∀ n, n < 64 → s.wipe.slotKey n = [] ∧ s.wipe.f (fSEC_SLOT_CFG_VALID n) = 0 ∧ s.wipe.sec.sessions = [] ∧ s.wipe.sec.idOn = false) ∧
    (∀ req (data : Word), s.takesWrite req fSEC_LC_REQ_GO.addr = true → s.granted req fSEC_LC_REQ_GO.addr data.toNat →
      data.getLsbD 31 = true → exec (.lcRequest req data) s =
        .next (s.putFields fSEC_LC_REQ_GO.addr data.toNat regSEC_LC_REQ.fields true (atBits [])).lcGo.wakeBanks) ∧
    (let old := s.f fSEC_LC_STATE
      let new := s.f fSEC_LC_REQ_TARGET;
      (s.sec.load ≠ none ∨ s.sec.goWait ≠ none → s.lcGo = s.lcDone old 4) ∧
      (s.sec.load = none → s.sec.goWait = none → (s.nv.waiting.any fun w => w.writer == 3) = false →
        let edge := (old = 0 ∧ new = 1) ∨ (old = 1 ∧ new = 2) ∨ (old = 2 ∧ new = 3) ∨ (old = 3 ∧ new = 1) ∨ (old ≠ 4 ∧ new = 4)
        (¬ edge → s.lcGo = s.lcDone old 1) ∧
        (old = 3 → new = 1 → s.sec.fuseRedeploy = 3 → s.lcGo = s.lcDone old 2) ∧
        (edge → new ≠ 2 → ¬ (old = 3 ∧ new = 1 ∧ s.sec.fuseRedeploy = 3) → ∃ u : State, u.sec.fuseState = new ∧
          u.sec.fuseRedeploy = s.sec.fuseRedeploy + b2n (decide (old = 3 ∧ new = 1)) ∧
          u.sec.fuseOwner = (if new = 3 then 0 else s.sec.fuseOwner) ∧
          u.sec.sessions = [] ∧ u.sec.keys = [] ∧ s.lcGo = ((u.lcEffects old new []).measLc).lcDone old 0) ∧
        (let a := 256 * s.f fSEC_BLOB_SRC_GRAN
          let root := s.fsBytes a 97
          old = 1 → new = 2 →
          (0xC00000000 < a + 97 ∨ s.poisonedIn a 97 = true → s.lcGo = s.lcDone old 3) ∧
          (a + 97 ≤ 0xC00000000 → s.poisonedIn a 97 = false → s.asleep a 97 = false → s.readBlocked a 97 = [] →
            (¬ (root.take 1 = [4#8] ∧ Config.pointOk root = true) →
              s.lcGo = ({ s.touchRange a 97 with sec := { s.sec with goWait := none } } : State).lcDone old 3) ∧
            (root.take 1 = [4#8] → Config.pointOk root = true → ∃ u : State, u.sec.fuseState = 2 ∧
              u.sec.fuseOwner = s.f fSEC_LC_REQ_OWNER_REQ ∧ u.sec.fuseRedeploy = s.sec.fuseRedeploy ∧
              u.sec.sessions = [] ∧ u.sec.keys = [] ∧ s.lcGo = ((u.lcEffects 1 2 root).measLc).lcDone 1 0))))) ∧
    (∀ old result, result < 16 → (s.lcDone old result).f fSEC_LC_REQ_RESULT = result ∧
      Raised s (s.lcDone old result) 0x1A1 0xE00 0 [(8, s.f fSEC_LC_STATE), (8, old), (8, result)]) ∧
    (∀ req (data : Word), s.takesWrite req fSEC_DBG_UNLOCK.addr = true → s.granted req fSEC_DBG_UNLOCK.addr data.toNat →
      data.getLsbD 31 = true → exec (.debugUnlock req data) s = .next s.dbgUnlock.wakeBanks) ∧
    (s.dbgUnlock.f fSEC_LC_DBG_OPEN = 1 ∧ s.dbgUnlock.sec.sessions = [] ∧ s.dbgUnlock.sec.keys = s.wipe.sec.keys) ∧
    (s.on fSEC_TAMPER_TAMPER_EN = false → exec .tamper s = .next s) ∧
    (s.on fSEC_TAMPER_TAMPER_EN = true → ∃ t, exec .tamper s = .next t ∧ t.f fSEC_LC_TAMPERED = 1 ∧ t.sec.sessions = [] ∧
      t.sec.idOn = false ∧ t.sec.keys = s.wipe.sec.keys)

/-- R595 to R603, R605, R609, R611, R622. Records from software: a window write is accepted at once or sets REJECT, a record job waits; an
accepted record takes the next SEQ, the mirror takes its bytes; a counter's increment; the flush makes entries durable in SEQ order,
a record only with its copy B; erases and the dump end as their events say. -/
def Obligations.RecordsAreAcceptedFlushedAndDumped : Prop :=
  ∀ (s : State),
    (∀ req ofs (data : Word), ofs < 0x100000 → ofs % 4 = 0 → s.takesWrite req (0x00900000 + ofs) = true →
      s.granted req (0x00900000 + ofs) data.toNat → ∃ t, exec (.recordWindowWrite req ofs data) s = .next t ∧
        t = (s.nvWindow ofs data.toNat).wakeBanks) ∧
    (∀ a data, s.on fNVS_STATUS_READY = false → (s.nvWindow a data).f fNVS_STATUS_REJECT = 1 ∧ Only [fNVS_STATUS_REJECT] [.regs] s (s.nvWindow a data)) ∧
    (∀ a data, s.on fNVS_STATUS_READY = true → a < 36 * 256 → s.nvWindow a data = s) ∧
    (∀ a data, s.on fNVS_STATUS_READY = true → 36 * 256 ≤ a → s.on fNVS_STATUS_BUSY = true ∨ 65536 - s.nvUsed < 32 →
      (s.nvWindow a data).f fNVS_STATUS_REJECT = 1 ∧ Only [fNVS_STATUS_REJECT] [.regs] s (s.nvWindow a data)) ∧
    (∀ a data, s.on fNVS_STATUS_READY = true → 36 * 256 ≤ a → s.on fNVS_STATUS_BUSY = false → s.nvUsed + 32 ≤ 65536 →
      s.nvWindow a data = s.nvAccept a (leBytes 4 data)) ∧
    (∀ a (bs : List Byte), let t := s.nvAccept a bs
      let sq := (s.f fNVS_SEQ_ACC_SEQ + 1) % 2 ^ 32
      t.f fNVS_SEQ_ACC_SEQ = sq ∧ t.nv.cache = s.nv.cache ++ [⟨1, sq, a, bs⟩] ∧
      (∀ k, t.nvByte k = if a ≤ k ∧ k < a + bs.length then bs.getD (k - a) 0 else s.nvByte k) ∧
      Only [fNVS_SEQ_ACC_SEQ, fNVS_STATUS_CFREE, fNVS_STATUS_BT_VALID] [.regs, .nv] s t) ∧
    (∀ req (data : Word), s.takesWrite req fNVS_REC_CTRL_GO.addr = true → s.granted req fNVS_REC_CTRL_GO.addr data.toNat →
      data.getLsbD 31 = true → exec (.recordJob req data) s =
        .next (s.putFields fNVS_REC_CTRL_GO.addr data.toNat regNVS_REC_CTRL.fields true (atBits [])).recJob.wakeBanks) ∧
    (s.on fNVS_REC_CTRL_BUSY = false → let len := s.f fNVS_REC_CTRL_LEN
      let a := 4 * s.f fNVS_REC_DST_ADDR
      (¬ (len % 4 = 0 ∧ 4 ≤ len ∧ len ≤ 4096 ∧ a + len ≤ 0x100000) → s.recJob = s.recDone 2 a) ∧
      (len % 4 = 0 → 4 ≤ len → len ≤ 4096 → a + len ≤ 0x100000 →
        (a < 36 * 256 → s.recJob = s.recDone 3 a) ∧
        (36 * 256 ≤ a → 0xC00000000 < 256 * s.f fNVS_REC_SRC_GRAN + len → s.recJob = s.recDone 4 a) ∧
        (36 * 256 ≤ a → 256 * s.f fNVS_REC_SRC_GRAN + len ≤ 0xC00000000 → s.recJob.f fNVS_REC_CTRL_BUSY = 1))) ∧
    (s.on fNVS_STATUS_READY = false ∨ s.on fNVS_STATUS_BUSY = true ∨ s.nvHead = none → exec .recordAccept s = .next s) ∧
    (∀ w, s.on fNVS_STATUS_READY = true → s.on fNVS_STATUS_BUSY = false → s.nvHead = some w → w.writer ≠ 0 → w.writer ≠ 6 →
      exec .recordAccept s = .next (((s.nvDrop w).nvAccept w.addr w.data).nvAccepted w).nvBusyUpd) ∧
    (∀ w, s.on fNVS_STATUS_READY = true → s.on fNVS_STATUS_BUSY = false → s.nvHead = some w → w.writer = 0 →
      let src := 256 * (w.tag / 2)
      (s.poisonedIn src w.data.length = true → exec .recordAccept s = .next ((s.nvDrop w).recDone 4 w.addr).nvBusyUpd) ∧
      (s.poisonedIn src w.data.length = false → s.asleep src w.data.length = false → s.readBlocked src w.data.length = [] →
        exec .recordAccept s = .next (((((s.touchRange src w.data.length).nvDrop w).nvAccept w.addr
          (s.fsBytes src w.data.length)).nvAccepted w).nvBusyUpd))) ∧
    (∀ w, s.on fNVS_STATUS_READY = true → s.on fNVS_STATUS_BUSY = false → s.nvHead = some w → w.writer = 6 →
      exec .recordAccept s = .next (((s.nvDrop w).nvIncr w.addr).nvBusyUpd).actGo) ∧
    (∀ req (data : Word), s.takesWrite req fNVS_CNT_INC_CNT.addr = true → exec (.counterIncrement req data) s =
        .next (s.cntInc (data.toNat % 256)).wakeBanks) ∧
    (∀ n, (248 ≤ n ∨ s.on fNVS_STATUS_READY = false ∨ s.on fNVS_STATUS_BUSY = true ∨ 65536 - s.nvUsed < 32 →
        (s.cntInc n).f fNVS_STATUS_REJECT = 1 ∧ (∀ k, (s.cntInc n).nvCnt k = s.nvCnt k)) ∧
      (n < 248 → s.on fNVS_STATUS_READY = true → s.on fNVS_STATUS_BUSY = false → s.nvUsed + 32 ≤ 65536 →
        ∀ k, (s.cntInc n).nvCnt k = s.nvCnt k + b2n (k == n))) ∧
    (s.on fNVS_STATUS_READY = true → s.nv.dumpPhase = 0 → ∀ e rest, s.nv.cache = e :: rest →
      exec .flushProgramDone s = .next (s.nvProgram e).compactStep.nvForced ∧
      (e.kind = 3 → (s.nvProgram e).nv.cache = rest ∧ (s.nvProgram e).f fNVS_SEQ_DUR_SEQ = e.seq % 2 ^ 32) ∧
      (e.kind = 1 → s.nv.copyADone = false → (s.nvProgram e).nv.cache = s.nv.cache) ∧
      (e.kind = 1 → s.nv.copyADone = true → (s.progCopy 2 e).isSome = true → (s.nvProgram e).f fNVS_SEQ_DUR_SEQ = e.seq % 2 ^ 32)) ∧
    (∀ sec, sec < 256 → (s.sec_ sec).erasing = true → s.nv.dumpPhase = 0 → exec (.sectorEraseDone sec) s =
      .next (s.setSec sec ⟨0, [], false, false, (s.sec_ sec).erases + 1⟩).nvWear.compactStep.nvForced) ∧
    (s.nv.dumpPhase = 1 ∨ s.nv.dumpPhase = 2 → ∃ t, exec .dumpCopyDone s = .next t ∧ t.nv.dump = s.nv.cache ∧ t.nv.dumpA = true ∧
      t.nv.dumpPhase = 3 ∧ Only [] [.nv] s t) ∧
    (s.nv.dumpPhase = 3 → ∃ t, exec .dumpCopyDone s = .next t ∧ t.nv.dump = s.nv.dump ∧ t.nv.dumpB = true ∧ t.nv.dumpPhase = 4 ∧
      Only [] [.nv] s t)

/-- R613, R623, R615. The transfer engine: a GO is ignored while BUSY, refused with its code, or begins; units end one by one: an erase
clears a sector, a program takes what flash can take and is read back, a read copies the slot or the log. -/
def Obligations.TransfersOfTheImageSlots : Prop :=
  ∀ (s : State),
    (∀ req (data : Word), s.takesWrite req fNVS_XFER_CTRL_GO.addr = true → s.granted req fNVS_XFER_CTRL_GO.addr data.toNat →
      data.getLsbD 31 = true →
      let t := ((s.putFields fNVS_XFER_CTRL_GO.addr data.toNat regNVS_XFER_CTRL.fields true (atBits [])).xferGo (reqNum req)).wakeBanks
      (bitsOf data.toNat 26 24 = 1 → exec (.nvsErase req data) s = .next t) ∧
      (bitsOf data.toNat 26 24 = 2 → exec (.nvsProgram req data) s = .next t) ∧
      (bitsOf data.toNat 26 24 = 3 → exec (.nvsReadSlot req data) s = .next t) ∧
      (bitsOf data.toNat 26 24 = 4 → exec (.nvsReadLog req data) s = .next t)) ∧
    (∀ (n : Nat), let u := s.xferGo n
      let op := s.f fNVS_XFER_CTRL_OP
      let slot := s.f fNVS_XFER_CTRL_SLOT
      let units := s.f fNVS_XFER_CTRL_COUNTM1 + 1
      let ofs := s.f fNVS_XFER_OFS_OFS
      let gran := s.f fNVS_XFER_GRAN_GRAN
      1 ≤ op → op ≤ 4 →
      (s.on fNVS_XFER_CTRL_BUSY = true → u.f fNVS_STATUS_REJECT = 1 ∧ Only [fNVS_STATUS_REJECT] [.regs] s u) ∧
      (s.on fNVS_XFER_CTRL_BUSY = false →
        (op ≤ 2 → slot = s.f fNVS_ACT_ACTIVE → u = s.xferEnd 2 op slot 0) ∧
        (slot ≠ s.f fNVS_ACT_ACTIVE ∨ 3 ≤ op →
          (op = 1 → ofs % 65536 ≠ 0 ∨ 0x1000000 < ofs + units * 65536 → u = s.xferEnd 3 op slot 0) ∧
          (op = 2 ∨ op = 3 → ofs % 256 ≠ 0 ∨ 0x1000000 < ofs + units * 256 → u = s.xferEnd 3 op slot 0) ∧
          ((op = 2 ∨ op = 3) ∧ ofs % 256 = 0 ∧ ofs + units * 256 ≤ 0x1000000 ∧ 0xC00000000 < 256 * gran + 256 * units ∨
            op = 4 ∧ 0xC00000000 < 256 * gran + 64 * units → u = s.xferEnd 5 op slot 0) ∧
          ((op = 1 ∧ ofs % 65536 = 0 ∧ ofs + units * 65536 ≤ 0x1000000) ∨
            ((op = 2 ∨ op = 3) ∧ ofs % 256 = 0 ∧ ofs + units * 256 ≤ 0x1000000 ∧ 256 * gran + 256 * units ≤ 0xC00000000) ∨
            (op = 4 ∧ 256 * gran + 64 * units ≤ 0xC00000000) →
            u.f fNVS_XFER_CTRL_BUSY = 1 ∧ u.nv.xfer = some ⟨op, slot, ofs, gran, units, 0, false, n⟩ ∧
            Only [fNVS_XFER_CTRL_BUSY] [.regs, .nv] s u)))) ∧
    (s.nv.xfer = none → ∀ d m, exec (.xferUnitDone d m) s = .next s) ∧
    (∀ x d m, s.nv.xfer = some x →
      (x.op = 1 → ∃ u : State, exec (.xferUnitDone d m) s = .next (u.xferNext x d) ∧ Only [] [.nv] s u ∧
        (∀ k, smGet (fun _ => 0xFF#8) u.nv.nor k =
          if x.slot * 0x1000000 + x.ofs + 65536 * x.done ≤ k ∧ k < x.slot * 0x1000000 + x.ofs + 65536 * x.done + 65536 then 0xFF#8
          else smGet (fun _ => 0xFF#8) s.nv.nor k)) ∧
      (x.op = 2 → let fs := 256 * x.gran + 256 * x.done
        (s.poisonedIn fs 256 = true → exec (.xferUnitDone d m) s = .next (s.xferEnd 5 2 x.slot x.done)) ∧
        (s.poisonedIn fs 256 = false → s.asleep fs 256 = false → s.readBlocked fs 256 = [] → ∃ u : State, Only [] [.nv, .fsRest] s u ∧
          (∀ i, i < 256 → smGet (fun _ => 0xFF#8) u.nv.nor (x.slot * 0x1000000 + x.ofs + 256 * x.done + i) =
            smGet (fun _ => 0xFF#8) s.nv.nor (x.slot * 0x1000000 + x.ofs + 256 * x.done + i) &&& s.fsByte (fs + i)) ∧
          (exec (.xferUnitDone d true) s = .next (u.xferEnd 4 2 x.slot x.done)) ∧
          ((∀ i, i < 256 → smGet (fun _ => 0xFF#8) s.nv.nor (x.slot * 0x1000000 + x.ofs + 256 * x.done + i) = 0xFF#8) →
            exec (.xferUnitDone d false) s = .next (u.xferNext x d)))) ∧
      (x.op = 3 → exec (.xferUnitDone d m) s =
        .next ((s.devWrite (tagCopy x.by_ noOwner) (256 * x.gran + 256 * x.done) (s.norBytes x.slot (x.ofs + 256 * x.done) 256)).xferNext x d)) ∧
      (x.op = 4 → exec (.xferUnitDone d m) s =
        .next ((s.devWrite (tagCopy x.by_ noOwner) (256 * x.gran + 64 * x.done) (s.logBytes (x.ofs + x.done))).xferNext x d))) ∧
    (∀ x d, (x.done + 1 < x.units → ∃ y, (s.xferNext x d).nv.xfer = some y ∧ y.done = x.done + 1 ∧ Only [] [.nv] s (s.xferNext x d)) ∧
      (x.units ≤ x.done + 1 → (s.xferNext x d).nv.xfer = none ∧ (s.xferNext x d).f fNVS_XFER_CTRL_BUSY = 0 ∧
        (s.xferNext x d).f fNVS_XFER_CTRL_RESULT = b2n (x.deferred || d)))

/-- R686, R689. Activation: GO of NVS_ACT is refused with its code or waits for the increment of counter 251; command processors swap at
the end of a quiet entry, with their registers and flags zero; a swap not made in 2^31 ticks of GO ends the activation with RESULT 5. -/
def Obligations.ImageActivationAndLiveSwaps : Prop :=
  ∀ (s : State),
    (∀ req (data : Word), s.takesWrite req fNVS_ACT_GO.addr = true → s.granted req fNVS_ACT_GO.addr data.toNat → data.getLsbD 31 = true →
      exec (.imageActivate req data) s =
        .next (s.putFields fNVS_ACT_GO.addr data.toNat regNVS_ACT.fields true (atBits [])).activate_.wakeBanks) ∧
    (s.boot.act ≠ none ∨ s.on fNVS_XFER_CTRL_BUSY = true → s.activate_.f fNVS_ACT_RESULT = 6 ∧ s.activate_.boot.act = s.boot.act ∧
      Only [fNVS_ACT_RESULT] [.regs, .ev] s s.activate_) ∧
    (s.boot.act = none → s.on fNVS_XFER_CTRL_BUSY = false →
      let slot := 1 - s.f fNVS_ACT_ACTIVE
      s.firstOk slot = false → s.activate_.f fNVS_ACT_RESULT = (if s.dirValid slot = true then 2 else 1) ∧
        (s.dirValid slot = true → s.activate_.f fNVS_ACT_FIMG = 0)) ∧
    (s.boot.act = none → ∀ cp, exec (.cpQuiescent cp) s = .next s ∧ exec (.cpSwap cp) s = .next s ∧ exec .activationTimeout s = .next s) ∧
    (∀ a cp, s.boot.act = some a → a.cps.contains cp = true → s.entry cp = none → s.txnSlot (0x300 + cp) = none →
      s.heldLocks (0x300 + cp) = [] → s.on fDRV_PF_TRIPPED = false →
      (s.cpHalted cp = true → exec (.cpQuiescent cp) s =
        .next (((s.newFirmware a.slot cp).setAct { a with cps := a.cps.erase cp }).cpSwapped cp 0).actDone) ∧
      (s.cpHalted cp = false → ∃ t, exec (.cpQuiescent cp) s = .next t ∧ Only [] [.boot] s t ∧
        t.boot.act = some { a with cps := a.cps.erase cp, copying := a.copying ++ [(cp, s.time.master)] })) ∧
    (∀ a cp q tick, s.boot.act = some a → a.copying.find? (fun x => x.1 == cp) = some (q, tick) → ∃ u : State, ∃ waited,
      exec (.cpSwap cp) s = .next ((u.cpSwapped cp waited).wakeBanks).actDone ∧ waited = s.time.master - tick ∧
      (u.core (0x300 + cp)).g = [] ∧ (u.core (0x300 + cp)).flags = 0 ∧ (u.core (0x300 + cp)).stack = [] ∧
      u.boot.act = some { a with copying := a.copying.filter fun x => x.1 != cp }) ∧
    (∀ a, s.boot.act = some a → a.goTick + 2 ^ 31 ≤ s.time.master → a.cps ≠ [] ∨ a.groups ≠ [] →
      ∃ t, exec .activationTimeout s = .next t ∧ t.f fNVS_ACT_RESULT = 5 ∧ t.f fNVS_ACT_BUSY = 0 ∧ t.boot.act = none ∧
        t.f fNVS_ACT_ACTIVE = s.f fNVS_ACT_ACTIVE) ∧
    (∀ a, s.boot.act = some a → s.time.master < a.goTick + 2 ^ 31 → exec .activationTimeout s = .next s)

/-- R676 to R679, R683, R745. PORST_N returns everything but flash, fuses and pin levels to its reset value and starts stage 1 when it
is released; a stage's end sets its bit, makes its blocks reachable, reports BOOT_STAGE and begins the stages that follow; failures are
recorded with their stage and code. That the timeouts of stages 2 to 7 leave the stage not complete is the model's reading (log entry 41). -/
def Obligations.StartUpStagesRunInOrder : Prop :=
  ∀ (s : State),
    (∃ t, exec .porstAssert s = .next t ∧ t.boot.porst = true ∧ t.regs = State.reset.regs ∧ t.ev = State.reset.ev ∧ t.groups = State.reset.groups ∧
      t.fs = State.reset.fs ∧ t.th = State.reset.th ∧ t.ch = State.reset.ch ∧ t.cal = State.reset.cal ∧ t.mem = State.reset.mem ∧
      t.nv.nor = s.nv.nor ∧ t.nv.cache = [] ∧ t.nv.mirror = [] ∧ t.sec.fuseState = s.sec.fuseState ∧ t.sec.devid = s.sec.devid ∧
      t.sec.keys = [] ∧ t.sec.sessions = [] ∧ t.host.perst = s.host.perst ∧ t.pending = s.pending) ∧
    (s.boot.porst = true → ∃ t, exec .porstDeassert s = .next t ∧ t.boot.porst = false ∧ t.boot.running = [1] ∧ Only [] [.boot] s t) ∧
    (∀ k fcode fimg, 1 ≤ k → k ≤ 8 → let t := s.stageEnd k fcode fimg
      (∀ b, b < 24 → bit (t.f fGEN_BLKRDY_RDY) b = if b ∈ stageBlocks k then 1 else bit (s.f fGEN_BLKRDY_RDY) b) ∧
      (∀ j, 1 ≤ j → j ≤ 8 → t.stageDone j = (s.stageDone j || j == k)) ∧ t.fs = s.fs ∧ t.nv = s.nv ∧ t.sec = s.sec ∧ t.th = s.th) ∧
    (stageBlocks 1 = [0, 1, 2, 22, 23] ∧ stageBlocks 2 = [9, 10] ∧ stageBlocks 3 = [4] ∧ stageBlocks 4 = [5] ∧ stageBlocks 5 = [6, 7] ∧
      stageBlocks 6 = [8, 11, 12, 13, 14, 15, 17, 18, 19, 20, 21] ∧ stageBlocks 7 = [3, 16] ∧ stageBlocks 8 = []) ∧
    (∀ k rep, s.boot.running.contains k = false → exec (.stageComplete k rep) s = .next s ∧ exec (.stageTimeout k) s = .next s) ∧
    (∀ rep, (s.boot.running.contains 1 = true → rep.hw = false → s.boot.pllRetry = false → exec (.stageComplete 1 rep) s = .next s.stage1) ∧
      (s.boot.running.contains 1 = true → rep.hw = true → exec (.stageComplete 1 rep) s = .next (s.stage1Fail 1)) ∧
      (s.boot.running.contains 2 = true → exec (.stageComplete 2 rep) s = .next (s.stage2 rep)) ∧
      (s.boot.running.contains 3 = true → exec (.stageComplete 3 rep) s = .next (s.stage3 rep)) ∧
      (s.boot.running.contains 4 = true → exec (.stageComplete 4 rep) s = .next (s.stage4 rep)) ∧
      (s.boot.running.contains 5 = true → rep.hw = false → ∃ u : State, exec (.stageComplete 5 rep) s = .next (u.stageEnd 5 0 0) ∧
        u.fs.mem = [] ∧ u.fs.poison = []) ∧
      (s.boot.running.contains 5 = true → rep.hw = true → exec (.stageComplete 5 rep) s = .next ((s.stageStop 5 2 0).fault 0x18 0xE00 5 2)) ∧
      (s.boot.running.contains 6 = true → exec (.stageComplete 6 rep) s = .next (s.stage6 rep)) ∧
      (s.boot.running.contains 7 = true → exec (.stageComplete 7 rep) s = .next s.stage7) ∧
      (s.boot.running.contains 8 = true → s.on fNVS_STATUS_BT_VALID = false → exec (.stageComplete 8 rep) s = .next (s.stageStop 8 5 0).bootDone) ∧
      (s.boot.running.contains 8 = true → s.on fNVS_STATUS_BT_VALID = true → (∀ l, l < 256 → s.on (fLNK_CFG_EN l) = true →
        s.lnSt l = 3 ∨ s.lnSt l = 5 ∨ s.lnSt l = 6) → exec (.stageComplete 8 rep) s = .next (s.stageEnd 8 0 0).bootDone)) ∧
    (∀ rep, s.boot.otherTried = false → s.boot.bonbonExit = false → let sel := s.counter251 rep % 2
      s.stage3 rep = if s.firstOk sel = true then (s.takeSlot sel).stageEnd 3 0 0
        else if s.firstOk (1 - sel) = true then ((s.setF fCLK_BOOT_FALLBACK 1).takeSlot (1 - sel)).stageEnd 3 0 0
        else (s.setF fCLK_BOOT_RECOVERY 1).stageEnd 3 3 0) ∧
    (∀ k, s.boot.running.contains k = true → (k = 1 → exec (.stageTimeout k) s = .next (s.stage1Fail 1)) ∧
      (2 ≤ k → k ≤ 7 → exec (.stageTimeout k) s = .next (s.stageStop k 1 0)) ∧
      (k = 8 → s.on fNVS_STATUS_BT_VALID = true → s.lanesDone = false → exec (.stageTimeout k) s = .next (s.stageStop 8 4 0).bootDone)) ∧
    (∀ k fcode fimg, k < 16 → 1 ≤ fcode → fcode < 8 → let t := s.stageStop k fcode fimg
      t.f fCLK_BOOT_FSTAGE = k ∧ t.f fCLK_BOOT_FCODE = fcode ∧ t.boot.running = s.boot.running.erase k) ∧
    (s.boot.running.contains 1 = true → s.boot.pllRetry = true →
      exec (.pllRetry true) s = .next (({ s with boot := { s.boot with pllRetry := false } } : State).stage1) ∧
      exec (.pllRetry false) s = .next s)

/-- R634 to R641, R663. A bank's power requests, its return to RETENTION and the end of its zero fill; an access meets a corrected or an
uncorrectable error, and what the word belonged to is lost; a march starts over the banks it takes, ends by ABORT or with its result. -/
def Obligations.BanksErrorsAndMarches : Prop :=
  ∀ (s : State),
    (∀ req b (data : Word), b < 260 → s.takesWrite req (fMEM_BANK_REQ b).addr = true → exec (.bankPowerRequest req b data) s =
      .next ((s.putFields (fMEM_BANK_REQ b).addr data.toNat regMEM_BANK.fields true (atBits [30])).bankRequest b (bitsOf data.toNat 31 30)).wakeBanks) ∧
    (∀ (u : State) b, b < 260 →
      ((u.bankRequest b 0).f (fMEM_BANK_REQ b) = 0 ∧ (u.bankRequest b 0).f (fMEM_BANK_STATE b) = 0) ∧
      (u.bankFree b = true → (u.bankRequest b 1).f (fMEM_BANK_REQ b) = 1 ∧ (u.bankRequest b 1).f (fMEM_BANK_STATE b) = 1 ∧
        (u.bankRequest b 2).f (fMEM_BANK_REQ b) = 2 ∧ (u.bankRequest b 2).f (fMEM_BANK_STATE b) = 2 ∧ (u.bankRequest b 2).f (fMEM_BANK_INIT b) = 0) ∧
      (u.f (fMEM_BANK_STATE b) = 2 → (u.bankRequest b 0).f (fMEM_BANK_INIT b) = 1) ∧
      (∀ r, r = 1 ∨ r = 2 → u.bankFree b = false → u.bankRequest b r = u.err 1 (0x01200000 + 4 * b))) ∧
    (∀ b, b < 260 → s.f (fMEM_BANK_REQ b) = 1 → s.f (fMEM_BANK_STATE b) = 0 → s.on (fMEM_BANK_INIT b) = false →
      ∃ t, exec (.bankRetentionIdle b) s = .next t ∧ t.f (fMEM_BANK_STATE b) = 1 ∧ Only [fMEM_BANK_STATE b] [.regs] s t) ∧
    (∀ b, b < 260 → ∃ t, exec (.bankInitDone b) s = .next t ∧ t.f (fMEM_BANK_INIT b) = 0 ∧ Only [fMEM_BANK_INIT b] [.regs] s t) ∧
    (∀ b word use, b < 260 → word < 32768 → let u := s.touchBank b
      (s.f (fMEM_BANK_STATE b) = 2 → ∀ err, exec (.sramRead b word err use) s = .next s) ∧
      (s.f (fMEM_BANK_STATE b) ≠ 2 → (exec (.sramRead b word 0 use) s = .next u ∧ exec (.sramRead b word 1 use) s = .next (u.sramCorrected b word) ∧
        exec (.sramRead b word 2 use) s = .next ((u.sramUncorrectable b word).sramLost use)))) ∧
    (∀ b word, b < 260 → word < 32768 → (s.sramUncorrectable b word).f fMEM_UE_VALID = 1 ∧ (s.sramUncorrectable b word).f fMEM_UE_BANK = b ∧
      (s.sramUncorrectable b word).f fMEM_UE_WORD = word ∧
      (s.sramUncorrectable b word).f fMEM_UE_CNT_COUNT = satAdd (s.f fMEM_UE_CNT_COUNT) 1 (2 ^ fMEM_UE_CNT_COUNT.w - 1)) ∧
    (∀ req (data : Word), s.takesWrite req fMEM_MARCH_CTRL_GO.addr = true →
      let u := s.putFields fMEM_MARCH_CTRL_GO.addr data.toNat regMEM_MARCH_CTRL.fields true (atBits [])
      (data.getLsbD 31 = true → data.getLsbD 30 = false → exec (.marchStart req data) s = .next u.marchGo.wakeBanks) ∧
      (data.getLsbD 30 = true → data.getLsbD 31 = false → exec (.marchAbort req data) s = .next u.marchAbort.wakeBanks)) ∧
    (∀ (u : State), (u.on fMEM_MARCH_STATUS_BUSY = true → u.marchGo = u) ∧
      (u.on fMEM_MARCH_STATUS_BUSY = false → u.marchGo.f fMEM_MARCH_STATUS_BUSY = 1 ∧
        ∃ m, u.marchGo.mem.march = some m ∧ m.mode = u.f fMEM_MARCH_CTRL_MODE ∧
          (∀ b ∈ m.banks, u.f fMEM_MARCH_CTRL_FIRST ≤ b ∧ b ≤ u.f fMEM_MARCH_CTRL_LAST ∧ b < 260 ∧ u.marchTakes m.mode b = true)) ∧
      (∀ m, u.mem.march = some m → u.marchAbort.f fMEM_MARCH_STATUS_BUSY = 0 ∧ u.marchAbort.f fMEM_MARCH_STATUS_RESULT = 4 ∧
        u.marchAbort.mem.march = none)) ∧
    (∀ m bad, s.mem.march = some m → ∃ t, exec (.marchDone bad) s = .next t ∧ t.mem.march = none ∧ t.f fMEM_MARCH_STATUS_BUSY = 0 ∧
      ((∀ e ∈ bad, e.1 ∉ m.banks) → t.f fMEM_MARCH_STATUS_RESULT = (if m.skipped then 3 else 0) ∧ t.f fMEM_MARCH_STATUS_FAILS = 0))

/-- R651, R652, R655, R657, R265, R3. Arbiter values apply on the host die at APPLY and on the raster die later; masks; a copy starts, is
reported invalid, or ends with its status; a register write reaches its register, is denied, or goes nowhere, and one whose offset is not
a multiple of 4 faults. -/
def Obligations.ArbitersCopiesAndRegisterWrites : Prop :=
  ∀ (s : State),
    (∀ req (data : Word), s.takesWrite req fARB_APPLY_APPLY.addr = true → data.getLsbD 31 = true →
      exec (.arbApply req data) s = .next s.arbApply.wakeBanks) ∧
    (∀ n, n < 16 → s.arbApply.f (fARB_REQ_EFF_PRIO n) = s.f (fARB_REQ_CFG_PRIO n) % 2 ^ (fARB_REQ_EFF_PRIO n).w ∧
      s.arbApply.f (fARB_REQ_EFF_DEADLINE n) = s.f (fARB_REQ_CFG_DEADLINE n) % 2 ^ (fARB_REQ_EFF_DEADLINE n).w ∧
      smGet (fun _ => 1024) s.arbApply.arb.sent n = s.f (fARB_REQ_CFG_PRIO n) + 16 * s.f (fARB_REQ_CFG_DEADLINE n) ∧
      s.arbApply.f fARB_APPLY_PENDING = 1 ∧ s.arbApply.arb.effR = s.arb.effR) ∧
    (s.on fARB_APPLY_PENDING = true → ∃ t, exec .arbApplyRaster s = .next t ∧ t.arb.effR = s.arb.sent ∧ t.f fARB_APPLY_PENDING = 0 ∧
      Only [fARB_APPLY_PENDING] [.regs, .arb] s t) ∧
    (∀ n, n < 16 → (∃ t, exec (.requesterMask n 0) s = .next t ∧ smGet (fun _ => false) t.arb.masked n = true ∧ Only [] [.arb] s t) ∧
      (∀ k, 1 ≤ k → n ≠ 12 → ∃ t, exec (.requesterMask n k) s = .next t ∧ smGet (fun _ => false) t.arb.masked n = true ∧
        t.f (fARB_REQ_REF_REFUSALS n) = satAdd (s.f (fARB_REQ_REF_REFUSALS n)) k (2 ^ (fARB_REQ_REF_REFUSALS n).w - 1) ∧
        t.f (fARB_REQ_REF_REASON n) = 2 ∧ Only [fARB_REQ_REF_REFUSALS n, fARB_REQ_REF_REASON n] [.regs, .arb] s t) ∧
      (∃ t, exec (.requesterUnmask n) s = .next t ∧ (∀ k, smGet (fun _ => false) t.arb.masked k = if k = n then false else smGet (fun _ => false) s.arb.masked k) ∧
        (∀ k < 64, smGet (fun _ => 0) t.arb.ages ((128 + k) * 4096 + n) = 0) ∧ Only [] [.arb] s t)) ∧
    (∀ req (data : Word), s.takesWrite req fMEM_COPY_CTRL_GO.addr = true → data.getLsbD 31 = true → exec (.copyStart req data) s =
      .next ((s.putFields fMEM_COPY_CTRL_GO.addr data.toNat regMEM_COPY_CTRL.fields true (atBits [])).copyGo req).wakeBanks) ∧
    (∀ (u : State) req, (u.on fMEM_COPY_STATUS_BUSY = true → u.copyGo req = u) ∧
      (u.on fMEM_COPY_STATUS_BUSY = false → u.f fMEM_COPY_SRC_SPACE = 1 → u.f fMEM_COPY_DST_SPACE = 1 →
        (u.copyGo req).f fMEM_COPY_STATUS_STATUS = 3 ∧ (u.copyGo req).f fMEM_COPY_DONE_BYTES = 0 ∧
        Raised u (u.copyGo req) 0x1C4 0xE00 0 [(8, 3), (8, 0), (16, 0), (32, 0)]) ∧
      (u.on fMEM_COPY_STATUS_BUSY = false → u.f fMEM_COPY_SRC_SPACE = 0 → u.f fMEM_COPY_DST_SPACE = 0 →
        let n := u.f fMEM_COPY_CTRL_LEN256M1 + 1
        256 * u.f fMEM_COPY_SRC_LOC + 256 * n ≤ 0xC00000000 → 256 * u.f fMEM_COPY_DST_LOC + 256 * n ≤ 0xC00000000 →
        (u.copyGo req).f fMEM_COPY_STATUS_BUSY = 1 ∧
        (u.copyGo req).mem.copy = some ⟨0, u.f fMEM_COPY_SRC_LOC, 0, u.f fMEM_COPY_DST_LOC, n, reqNum req, (u.reqOwner req).getD noOwner⟩)) ∧
    (∀ c rounds reason bytes, s.mem.copy = some c → reason ≤ 3 →
      let pieces := if reason = 0 then 8 * c.units else min (bytes / 32) (8 * c.units)
      (c.sSpace = 0 → s.asleep (256 * c.sLoc) (32 * pieces) = false ∧ s.readBlocked (256 * c.sLoc) (32 * pieces) = []) →
      ∃ u t : State, exec (.copyDone rounds reason bytes) s = .next t ∧ t.f fMEM_COPY_STATUS_BUSY = 0 ∧
        t.f fMEM_COPY_STATUS_STATUS = (if reason ≠ 0 then 2 else if 0 < rounds then 1 else 0) ∧ t.f fMEM_COPY_STATUS_REASON = reason ∧
        t.f fMEM_COPY_STATUS_ROUNDS = min rounds 65535 ∧ t.fs = u.fs ∧
        t.f fMEM_COPY_DONE_BYTES = 32 * pieces % 2 ^ fMEM_COPY_DONE_BYTES.w ∧
        u = (List.range pieces).foldl (fun s k => s.copyPiece c k)
          { (if c.sSpace = 0 then s.touchRange (256 * c.sLoc) (32 * pieces) else s) with mem := { s.mem with copy := none } }) ∧
    (∀ req a (data : Word), a % 4 = 0 → exec (.regWrite req a data) s = .next (s.busWrite req a data.toNat)) ∧
    (∀ req a (data : Word), a % 4 ≠ 0 → exec (.regWrite req a data) s = .fault .unalignedAccess) ∧
    (∀ req a v, a < 0x10000000 → (s.barOk req = false ∨ s.reach a = false → s.busWrite req a v = s) ∧
      (s.barOk .pf1 = true → s.reach a = true → s.on fGEN_CTRL_PF1_WEN = false →
        (s.busWrite .pf1 a v).f fGEN_STATUS_DENIED = 1 ∧ Only [fGEN_STATUS_DENIED] [.regs] s (s.busWrite .pf1 a v)))

/-- The block's steps: a step takes the command at the front of the queue and is that command's effect on the state with the rest of the
queue; the queue is first in, first out, and no command changes it. -/
def Obligations.StepRunsTheFrontCommand : Prop :=
  (∀ (c : Instr) (s : State), step { s with pending := c :: s.pending } = exec c s) ∧
  (∀ (c : Instr) (cs : List Instr) (s : State), s.pending = c :: cs → step s = exec c { s with pending := cs })

/-- R34, R285. An empty queue lets one HCORE cycle pass (the model's choice, log entry 32): nothing moves while PORST_N is asserted;
otherwise no die's copy of device time decreases or, outside bonbon mode, advances by more than two, and the watchdogs of RUNNING cores
count. -/
def Obligations.AnEmptyQueuePassesOneCycle : Prop :=
  ∀ (s : State), s.pending = [] → (s.boot.porst = true → step s = .next s) ∧
    (s.boot.porst = false → ∃ t, step s = .next t ∧ Only [fEVT_TSYNC_STATUS_SLEWING] [.regs, .time, .th] s t ∧
      s.time.master < t.time.master ∧ s.time.raster ≤ t.time.raster ∧
      (s.on fDRV_BON_CTRL_ACTIVE = false → t.time.master = s.time.master + 1 ∧ t.time.raster ≤ s.time.raster + 2 ∧
        (s.time.corr = 0 → t.time.raster = s.time.raster + 1)) ∧
      (s.on fDRV_BON_CTRL_ACTIVE = true → t.time.master = s.time.master + 16 ∧ t.time.raster = s.time.raster + 16) ∧
      (∀ o ∈ allCores, o ≠ 0x440 → (t.core o).wdog = (s.core o).wdog + b2n (s.coreSt o == 1)))

/-- R5. What PORST_N leaves: every register field at the Reset column of its table (here some fields with a reset value other than 0),
every group STOPPED, every core STOPPED, nothing queued or under way, no latch, no reservation of memory; PORST_N asserted. That the fuses
read 0, and what else the log names (log entry 34), is the model's choice. -/
def Obligations.ResetLeavesTheStatedValues : Prop :=
  let s := State.reset
  s.pending = [] ∧ s.boot.porst = true ∧ (∀ g, g < 16 → s.gState g = 0) ∧ (∀ o ∈ allCores, s.coreSt o = 0) ∧
    s.f fCXL_BI_RT_TMO = 0x640 ∧ (∀ k, k < 8 → s.f (fEVR_CFG_LOG2N k) = 8 ∧ s.f (fEVR_CFG_FUNC k) = 1 ∧ s.f (fEVR_MOD_CNT k) = 1) ∧
    s.f fGEN_BLKRDY_RDY = 0 ∧ s.f fCLK_BOOT_STAGES = 0 ∧ s.f fCXL_LINK_STATUS_UP = 0 ∧ s.ev.enRoute = [] ∧ s.fs.mem = [] ∧
    s.nv.cache = [] ∧ s.transit = [] ∧ s.host.sf = []

/-- The model's invariant, kept by every step from every state that has it, whatever the command: the sparse maps of the frame store and of
the register fields stand in their canonical form, so that equal contents are equal data (R190, R193, R5). -/
def Obligations.EveryStepKeepsTheCanonicalForm : Prop :=
  ∀ (s t : State), s.Safe → step s = .next t → t.Safe

/-- The state after reset has the invariant that every step keeps. -/
def Obligations.ResetHasTheCanonicalForm : Prop := State.reset.Safe

/-- The frame of every command: a part of the state that the command does not name in `mayTouch` (Safety; log entry 33) is, in the next
state, what it was: registers, events, fault log, groups, frame store bytes and poison marks, cores, lanes, the non-volatile store and
each other part. -/
def Obligations.CommandsTouchOnlyTheirParts : Prop :=
  ∀ (c : Instr) (s t : State), exec c s = .next t → ∀ p, p ∉ mayTouch c → s.same t p

/-- The queue of commands is first in, first out, and only the sender adds to it: a step takes its front and leaves the rest in order. -/
def Obligations.EveryStepTakesTheFrontAndLeavesTheRest : Prop :=
  ∀ (s t : State), step s = .next t → t.pending = s.pending.tail

/-- R3. No command stops the block but a register write whose offset is not a multiple of 4, which the manual calls undefined: every other
command answers a next state from every state, and no step is refused. -/
def Obligations.OnlyMisalignedWritesStop : Prop :=
  (∀ (c : Instr) (s : State), (∀ req a data, c = .regWrite req a data → a % 4 = 0) → ∃ t, exec c s = .next t) ∧
  (∀ (s : State), (∀ c ∈ s.pending.head?, ∀ req a data, c = .regWrite req a data → a % 4 = 0) → ∃ t, step s = .next t)

/-- R256, R257. Taking an instruction's words apart gives back every field at every value its form admits: the T, I and W forms, the branch,
gate and event variants, and the L form with its 32-bit immediate. -/
def Obligations.InstructionWordsComeApartAsEncoded : Prop :=
  (∀ op d a b x w1, op < 64 → op ≠ 0x0E → d < 32 → a < 32 → b < 32 → x < 2 ^ 11 → let i := insOf (wordT op d a b x) w1
    wordT op d a b x < 2 ^ 32 ∧ i.op = op ∧ i.d = d ∧ i.a = a ∧ i.b = b ∧ i.x = x ∧ i.long = none) ∧
  (∀ op d a imm w1, op < 64 → op ≠ 0x0E → d < 32 → a < 32 → imm < 2 ^ 16 → let i := insOf (wordI op d a imm) w1
    wordI op d a imm < 2 ^ 32 ∧ i.op = op ∧ i.d = d ∧ i.a = a ∧ i.imm = imm ∧ i.long = none) ∧
  (∀ op a n mode imm w1, op < 64 → op ≠ 0x0E → a < 32 → n < 8 → mode < 4 → imm < 2 ^ 16 → let i := insOf (wordW op a n mode imm) w1
    wordW op a n mode imm < 2 ^ 32 ∧ i.op = op ∧ i.d = a ∧ i.wn = n ∧ i.mode = mode ∧ i.imm = imm ∧ i.long = none) ∧
  (∀ op n off w1, op < 64 → op ≠ 0x0E → n < 8 → off < 2 ^ 16 → let i := insOf (wordF op n off) w1
    wordF op n off < 2 ^ 32 ∧ i.op = op ∧ i.bn = n ∧ i.imm = off ∧ bitsOf i.w 25 24 = 0 ∧ i.a = 0 ∧ i.long = none) ∧
  (∀ op pin a mode off w1, op < 64 → op ≠ 0x0E → pin < 64 → a < 32 → mode < 2 → off < 2 ^ 14 → let i := insOf (wordG op pin a mode off) w1
    wordG op pin a mode off < 2 ^ 32 ∧ i.op = op ∧ i.pin = pin ∧ i.ga = a ∧ i.gmode = mode ∧ i.goff = off ∧ i.long = none) ∧
  (∀ op d a v, op < 64 → d < 32 → a < 32 → v < 2 ^ 32 → let i := insOf (wordL op d a) v
    wordL op d a < 2 ^ 32 ∧ wordL op d a % 2 ^ 10 = 0 ∧ i.op = op ∧ i.d = d ∧ i.a = a ∧ i.long = some v)

/-- R599. A record from software that covers a byte of pages 0 to 63 is a protected-partition write (bit 0 of R567), judged under R568; one that
covers pages 0 to 35 is refused even when authorised, a record job with RESULT 3; the AT9840's own writers reach these pages without a
trailer; a journal entry or a calibration set there is never the record accepted next; pages 0 to 35 read zero to every requester. -/
def Obligations.ProtectedPagesOfTheRecordStore : Prop :=
  ∀ (s : State),
    (∀ a v, a < 64 * 256 → s.critBit (0x00900000 + a) v = some 0) ∧
    (∀ v, bit v 31 = 1 → 4 * s.f fNVS_REC_DST_ADDR < 64 * 256 → s.critBit fNVS_REC_CTRL_GO.addr v = some 0) ∧
    (∀ a v, s.on fNVS_STATUS_READY = true → a < 36 * 256 → s.nvWindow a v = s) ∧
    (s.on fNVS_REC_CTRL_BUSY = false → s.f fNVS_REC_CTRL_LEN % 4 = 0 → 4 ≤ s.f fNVS_REC_CTRL_LEN → s.f fNVS_REC_CTRL_LEN ≤ 4096 →
      4 * s.f fNVS_REC_DST_ADDR < 36 * 256 → s.recJob = s.recDone 3 (4 * s.f fNVS_REC_DST_ADDR) ∧ s.recJob.f fNVS_REC_CTRL_RESULT = 3) ∧
    (∀ w, s.on fNVS_STATUS_READY = true → s.on fNVS_STATUS_BUSY = false → s.nvHead = some w → w.writer = 1 ∨ w.writer = 2 ∨ w.writer = 3 →
      exec .recordAccept s = .next (((s.nvDrop w).nvAccept w.addr w.data).nvAccepted w).nvBusyUpd) ∧
    (∀ w, w.writer = 4 ∨ w.writer = 5 → w.addr < 64 * 256 → s.nvHead ≠ some w) ∧
    (∀ req a, a % 4 = 0 → a < 36 * 256 → (s.busRead req (0x00900000 + a)).1 = 0)

/-- R567, R568. A register write that is critical under bit `k` is carried out only by a checked entry whose issuer slot holds that bit, or by
the management port in MANUFACTURE; an entry with CRIT = 0 or without the bit is marked to end with DETAIL 2 or 3 and its write is ignored;
any other requester's is ignored and sets ERR_CRIT. (R684's autostart entry, issuer slot 64, is left to its own rule.) -/
def Obligations.CriticalWritesNeedTheirPermission : Prop :=
  ∀ (s : State) req a v k, v < 2 ^ 32 → a < 0x10000000 → s.takesWrite req a = true → s.critBit a v = some k →
    (∀ o e, req = .core o → s.inEntry o = some e → (e.crit = false → s.busWrite req a v = s.setEntry (o - 0x300) (some { e with denied := 2 })) ∧
      (e.crit = true → e.slot < 64 →
        (bit (s.f (fSEC_SLOT_CFG_PERM e.slot)) k = 0 → s.busWrite req a v = s.setEntry (o - 0x300) (some { e with denied := 3 })) ∧
        (bit (s.f (fSEC_SLOT_CFG_PERM e.slot)) k = 1 → s.busWrite req a v = (s.placeWrite req a v).wakeBanks))) ∧
    ((∃ o, req = .core o ∧ s.inEntry o = none) ∨ req = .pf0 ∨ req = .pf1 ∨ (req = .mp ∧ s.f fSEC_LC_STATE ≠ 0) →
      s.busWrite req a v = s.err 3 a ∧ (s.busWrite req a v).f fFLT_STATUS_ERR_CRIT = 1 ∧ (s.busWrite req a v).nv = s.nv ∧
      (s.busWrite req a v).sec = s.sec ∧ (s.busWrite req a v).drv = s.drv) ∧
    (req = .mp → s.f fSEC_LC_STATE = 0 → s.busWrite req a v = (s.placeWrite req a v).wakeBanks)

/-- R213. The codec's residue of a component `v` with prediction `p` at depth `d`, mapped to a natural number, and the decoder's inverse. -/
def Obligations.CodecResidueInverts : Prop :=
  ∀ d v p : Nat, 0 < d → v < 2 ^ d → p < 2 ^ d →
    (let e₀ : Int := ((v : Int) - p) % 2 ^ d
      let e : Int := if 2 ^ (d - 1) ≤ e₀ then e₀ - 2 ^ d else e₀
      (mapResidue d v p : Int) = if 0 ≤ e then 2 * e else -2 * e - 1) ∧
    mapResidue d v p < 2 ^ d ∧ unmapResidue d (mapResidue d v p) p = v ∧
    (∀ e : Int, -2 ^ (d - 1) ≤ e → e < 2 ^ (d - 1) →
      (unmapResidue d (if 0 ≤ e then 2 * e else -2 * e - 1).toNat p : Int) = (p + e) % 2 ^ d)

/-- R261. CMP sets Cn to 1 when Ga cond B holds and to 0 otherwise: EQ, NE, LT, GE; LT and GE compare as signed unless U is 1 (T form), the I
and L forms as signed. Operand B is Gb, the sign-extended immediate or the L form's second word. Nothing else changes but the PC. -/
def Obligations.CompareSetsItsFlag : Prop :=
  ∀ (s : State) (o op : Nat) (i : Ins), s.issues o op i →
    let a := s.gw o i.a
    let b := if i.long.isSome then BitVec.ofNat 32 (i.long.getD 0) else if i.op < 0x10 then s.gw o i.b
      else BitVec.ofInt 32 (sInt 16 i.imm)
    let sets := fun (c : Instr) (cn cond : Nat) (u : Bool) (n : Nat) => ∃ t, exec c s = .next t ∧ s.wentOn t o (s.gw o)
      (putBit (s.core o).flags cn (match cond with
        | 0 => decide (a = b)
        | 1 => decide (a ≠ b)
        | 2 => if u then decide (a.toNat < b.toNat) else decide (a.toInt < b.toInt)
        | _ => if u then decide (b.toNat ≤ a.toNat) else decide (b.toInt ≤ a.toInt))) ((s.core o).pc + 4 * n) n
    (op = 0x0C → sets (.cmp o) i.xn (bitsOf i.x 4 3) (bit i.x 5 == 1) 1) ∧
    (op = 0x1C → sets (.cmp o) (i.d % 8) (i.d / 8) false 1) ∧
    (op = 0x0E → i.op = 0x1C → sets (.lForm o) (i.d % 8) (i.d / 8) false 2)

/-- R613, R623. A GO of the transfer engine that R613 does not refuse begins its operation: BUSY is 1 and the transfer stands as set
up. Each unit of an operation completes: an erased sector reads 0xFF, a programmed unit reads the conjunction of flash and source, a
unit read is stored in the frame store; the last unit ends the operation with BUSY 0 and its RESULT. A unit's source is readable where
no byte of it is poisoned, its stack is awake and no line of it waits for the host. -/
def Obligations.TransferOperationsBeginAndTheirUnitsComplete : Prop :=
  ∀ (s : State),
    (∀ req (data : Word), s.takesWrite req fNVS_XFER_CTRL_GO.addr = true → s.granted req fNVS_XFER_CTRL_GO.addr data.toNat →
      data.getLsbD 31 = true → s.on fNVS_XFER_CTRL_BUSY = false →
      let op := bitsOf data.toNat 26 24
      let slot := bitsOf data.toNat 23 23
      let units := data.toNat % 2 ^ 16 + 1
      let ofs := s.f fNVS_XFER_OFS_OFS
      let gran := s.f fNVS_XFER_GRAN_GRAN
      let begins := fun (c : Instr) => ∃ t, exec c s = .next t ∧ t.f fNVS_XFER_CTRL_BUSY = 1 ∧
        t.nv = { s.nv with xfer := some ⟨op, slot, ofs, gran, units, 0, false, reqNum req⟩ } ∧
        ∃ u, t = u.wakeBanks ∧ Only [fNVS_XFER_CTRL_OP, fNVS_XFER_CTRL_SLOT, fNVS_XFER_CTRL_COUNTM1, fNVS_XFER_CTRL_BUSY] [.regs, .nv] s u
      (op = 1 → slot ≠ s.f fNVS_ACT_ACTIVE → ofs % 65536 = 0 → ofs + units * 65536 ≤ 0x1000000 → begins (.nvsErase req data)) ∧
      (op = 2 → slot ≠ s.f fNVS_ACT_ACTIVE → ofs % 256 = 0 → ofs + units * 256 ≤ 0x1000000 → 256 * gran + 256 * units ≤ 0xC00000000 →
        begins (.nvsProgram req data)) ∧
      (op = 3 → ofs % 256 = 0 → ofs + units * 256 ≤ 0x1000000 → 256 * gran + 256 * units ≤ 0xC00000000 → begins (.nvsReadSlot req data)) ∧
      (op = 4 → 256 * gran + 64 * units ≤ 0xC00000000 → begins (.nvsReadLog req data))) ∧
    (∀ x d m, s.nv.xfer = some x →
      let at_ := x.slot * 0x1000000 + x.ofs
      let fs := 256 * x.gran + 256 * x.done
      let unit := fun (t : State) =>
        (x.done + 1 < x.units → t.nv.xfer = some { x with done := x.done + 1, deferred := x.deferred || d }) ∧
        (x.units ≤ x.done + 1 → t.nv.xfer = none ∧ t.f fNVS_XFER_CTRL_BUSY = 0 ∧ t.f fNVS_XFER_CTRL_RESULT = b2n (x.deferred || d))
      (x.op = 1 → ∃ t, exec (.xferUnitDone d m) s = .next t ∧ unit t ∧
        ∀ k, smGet (fun _ => 0xFF#8) t.nv.nor k =
          if at_ + 65536 * x.done ≤ k ∧ k < at_ + 65536 * x.done + 65536 then 0xFF#8 else smGet (fun _ => 0xFF#8) s.nv.nor k) ∧
      (x.op = 2 → s.poisonedIn fs 256 = false → s.asleep fs 256 = false → s.readBlocked fs 256 = [] →
        (∀ i, i < 256 → smGet (fun _ => 0xFF#8) s.nv.nor (at_ + 256 * x.done + i) = 0xFF#8) →
        ∃ t, exec (.xferUnitDone d false) s = .next t ∧ unit t ∧
          ∀ k, smGet (fun _ => 0xFF#8) t.nv.nor k =
            if at_ + 256 * x.done ≤ k ∧ k < at_ + 256 * x.done + 256 then s.fsByte (fs + (k - (at_ + 256 * x.done)))
            else smGet (fun _ => 0xFF#8) s.nv.nor k) ∧
      (x.op = 3 → ∃ t, exec (.xferUnitDone d m) s = .next t ∧ unit t ∧ t.nv.nor = s.nv.nor ∧
        t.fs = (s.devWrite (tagCopy x.by_ noOwner) fs (s.norBytes x.slot (x.ofs + 256 * x.done) 256)).fs) ∧
      (x.op = 4 → ∃ t, exec (.xferUnitDone d m) s = .next t ∧ unit t ∧ t.nv.nor = s.nv.nor ∧
        t.fs = (s.devWrite (tagCopy x.by_ noOwner) (256 * x.gran + 64 * x.done) (s.logBytes (x.ofs + x.done))).fs))

/-- R647, R648, R196. A round of the link, of a pseudo-channel or of a bank port among its pending requests (a refresh that is due is one;
a masked requester's are not, nor TC3 beyond TC3_MAX at the link, nor an overdue request, which is refused): the highest class, in it the
greatest PRIO plus age, ties to the lower index; the winner's age becomes 0, those of the others rise, and a requester that is not
pending keeps its age. The link's next slot is the winner's; a due refresh that wins is performed. -/
def Obligations.ARoundGrantsTheGreatestRankOfTheHighestClass : Prop :=
  ∀ (s : State) (arb : Nat) (reqs : List (Nat × Nat × Bool)) (scan : List Nat),
    isLinkArb arb = true ∨ isPcArb arb = true ∨ isBankArb arb = true → (∀ r ∈ reqs, r.1 < 4096) →
    let due := s.refreshDue arb
    let emerg := isPcArb arb && scan.any fun g => decide (g < 16) && s.scanEmerg g
    let now := if rasterArb arb then s.time.raster else s.time.master
    let stands := fun (r : Nat × Nat × Bool) => (r.1 < 16 → smGet (fun _ => false) s.arb.masked r.1 = false) ∧
      (r.1 = 15 → isLinkArb arb = true → s.tc3Open ((arb - 64) / 16) ((arb - 64) % 16) = true) ∧
      ¬ (11 ≤ r.1 ∧ r.1 ≤ 13 ∧ r.2.1 + 1024 * max 1 (s.arbCfg arb r.1 / 16) ≤ now)
    let pend := fun (n : Nat) => (∃ r ∈ reqs, r.1 = n ∧ stands r) ∨
      (n = 14 ∧ due = true ∧ smGet (fun _ => false) s.arb.masked 14 = false ∧ ∀ r ∈ reqs, r.1 ≠ 14)
    let rank := fun (n : Nat) => s.arbCfg arb n % 16 + s.age arb n
    let above := fun (w j : Nat) => s.standing arb emerg j < s.standing arb emerg w ∨
      s.standing arb emerg j = s.standing arb emerg w ∧ (rank j < rank w ∨ rank j = rank w ∧ w < j)
    ∃ t, exec (.arbRound arb reqs scan) s = .next t ∧
      (∀ w, pend w → (∀ j, pend j → j ≠ w → above w j) →
        t.age arb w = 0 ∧ (∀ j, pend j → j ≠ w → t.age arb j = min 4095 (s.age arb j + 1)) ∧
        (isLinkArb arb = true → (t.lane ((arb - 64) / 16) ((arb - 64) % 16)).grant = some w) ∧
        (w = 14 → due = true → smGet (fun _ => 0) t.fs.postponed (arb - 128) = 0)) ∧
      (∀ j, j < 4096 → ¬ pend j → t.age arb j = s.age arb j) ∧
      (∀ a j, a ≠ arb → j < 4096 → t.age a j = s.age a j) ∧
      t.fs.mem = s.fs.mem ∧ t.groups = s.groups ∧ t.th = s.th ∧ t.ch = s.ch ∧ t.drv = s.drv ∧ t.codec = s.codec ∧ t.nv = s.nv

/-- R3. A 64-bit write of an aligned pair of registers is two 32-bit writes, the one to the lower address first: with nothing
before it in the queue, the first step carries out the write of the lower word at the lower address and leaves the other waiting, and the
second step carries out that one, of the upper word. -/
def Obligations.AWideWriteIsTwoWritesLowerAddressFirst : Prop :=
  ∀ (s : State) (req : Req) (a : Nat) (data : BitVec 64), s.pending = [] → a % 8 = 0 →
    let second := Instr.regWrite req (a + 4) (BitVec.ofNat 32 (data.toNat / 2 ^ 32))
    ∃ t, step (s.write64 req a data) = .next t ∧
      t = ({ s with pending := [second] } : State).busWrite req a (data.toNat % 2 ^ 32) ∧ t.pending = [second] ∧
      step t = .next (({ t with pending := [] } : State).busWrite req (a + 4) (data.toNat / 2 ^ 32))
end

