-- ==== Sys2Proof/Laws/Bits.lean ====
section
/-!
SUPPORT. Laws of single bits: what a bit of a bit set reads after one bit of it was written.
-/
set_option Elab.async false
namespace Sys2Proof.Machine
theorem bit_eq (n i : Nat) : bit n i = b2n (n.testBit i) := by
  simp only [bit, b2n, Nat.testBit, Nat.shiftRight_eq_div_pow, Nat.one_and_eq_mod_two]
  rcases Nat.mod_two_eq_zero_or_one (n / 2 ^ i) with h | h
  · simp [h]
  · simp [h]

theorem putBit_testBit (n i j : Nat) (b : Bool) : (putBit n i b).testBit j = if j = i then b else n.testBit j := by
  have h1 : putBit n i b = n / 2 ^ (i + 1) * 2 ^ (i + 1) + (b2n b * 2 ^ i + n % 2 ^ i) := by
    have e1 := Nat.div_add_mod n (2 ^ i)
    have e2 := Nat.div_add_mod (n / 2 ^ i) 2
    have e3 : n / 2 ^ i / 2 = n / 2 ^ (i + 1) := by rw [Nat.div_div_eq_div_mul, pow_succ]
    rw [e3] at e2
    unfold putBit bit
    have e4 : 2 ^ (i + 1) = 2 * 2 ^ i := by ring
    have e5 : n = n / 2 ^ (i + 1) * 2 ^ (i + 1) + (n / 2 ^ i % 2 * 2 ^ i + n % 2 ^ i) := by
      conv_lhs => rw [← e1, ← e2]
      rw [e4]; ring
    have e6 : n - n / 2 ^ i % 2 * 2 ^ i = n / 2 ^ (i + 1) * 2 ^ (i + 1) + n % 2 ^ i := by omega
    rw [e6]
    cases b
    · simp [b2n]
    · simp [b2n]; omega
  have h2 : b2n b * 2 ^ i + n % 2 ^ i < 2 ^ (i + 1) := by
    have := Nat.mod_lt n (Nat.two_pow_pos i)
    have e4 : 2 ^ (i + 1) = 2 * 2 ^ i := by ring
    cases b
    · simp [b2n]; omega
    · simp [b2n]; omega
  rw [h1, mul_comm, Nat.testBit_two_pow_mul_add _ h2]
  by_cases hj : j < i + 1
  · rw [if_pos hj, mul_comm, Nat.testBit_two_pow_mul_add _ (Nat.mod_lt n (Nat.two_pow_pos i))]
    by_cases hji : j = i
    · subst hji; cases b <;> simp [b2n]
    · have : j < i := by omega
      rw [if_pos this, if_neg hji, Nat.testBit_mod_two_pow]; simp [this]
  · rw [if_neg hj, if_neg (by omega), Nat.testBit_div_two_pow]
    congr 1; omega

/-- A bit of a bit set after one bit of it was written. -/
theorem bit_putBit (n i j w : Nat) (b : Bool) (h : j < w) :
    bit (putBit n i b % 2 ^ w) j = if j = i then b2n b else bit n j := by
  rw [bit_eq, Nat.testBit_mod_two_pow, putBit_testBit, bit_eq]
  simp only [h, decide_true, Bool.true_and]
  split <;> rfl
end Sys2Proof.Machine
end

