-- ==== Sys2Proof/Laws/Store.lean ====
section
/-!
SUPPORT. Laws of the sparse maps: what a read sees after a write, and that every write keeps the canonical form.
-/
set_option Elab.async false
namespace Sys2Proof.Machine

variable {α : Type} [DecidableEq α] {d : Nat → α} {m : SMap α} {k j : Nat} {v : α}

omit [DecidableEq α] in
theorem smGet_smErase (d : Nat → α) (m : SMap α) (k j : Nat) :
    smGet d (smErase m k) j = if j = k then d j else smGet d m j := by
  induction m with
  | nil => simp [smErase, smGet]
  | cons p m ih =>
    obtain ⟨a, x⟩ := p
    simp only [smErase]
    split
    · subst a; rw [ih]; by_cases h : j = k
      · simp [h]
      · simp [smGet, h, Ne.symm h]
    · by_cases h : a = j
      · subst a; simp [smGet, *]
      · simp [smGet, h, ih]

omit [DecidableEq α] in
theorem smGet_smInsert (d : Nat → α) (m : SMap α) (k j : Nat) (v : α) (h : ∀ p ∈ m, p.1 ≠ k) :
    smGet d (smInsert m k v) j = if j = k then v else smGet d m j := by
  induction m with
  | nil => simp [smInsert, smGet, eq_comm]
  | cons p m ih =>
    obtain ⟨a, x⟩ := p
    have hak : a ≠ k := h (a, x) (by simp)
    simp only [smInsert]
    split
    · by_cases hj : j = k
      · simp [smGet, hj]
      · simp [smGet, hj, Ne.symm hj]
    · rw [smGet, ih (fun p hp => h p (by simp [hp]))]
      by_cases hj : j = k
      · subst j; simp [hak]
      · simp [smGet, hj]

omit [DecidableEq α] in
theorem smErase_keys (m : SMap α) (k : Nat) : ∀ p ∈ smErase m k, p ∈ m ∧ p.1 ≠ k := by
  induction m with
  | nil => simp [smErase]
  | cons p m ih =>
    obtain ⟨a, x⟩ := p
    intro q hq
    simp only [smErase] at hq
    split at hq
    · have := ih q hq; simp [this]
    · rcases List.mem_cons.1 hq with rfl | hq
      · simpa
      · have := ih q hq; simp [this]

/-- Reading a key after a write: the value written at that key, the old value elsewhere. -/
@[simp] theorem smGet_smSet (d : Nat → α) (m : SMap α) (k j : Nat) (v : α) :
    smGet d (smSet d m k v) j = if j = k then v else smGet d m j := by
  unfold smSet
  split
  · rename_i h; rw [smGet_smErase]; by_cases hj : j = k
    · subst j; simp [h]
    · simp [hj]
  · rw [smGet_smInsert _ _ _ _ _ (fun p hp => (smErase_keys m k p hp).2), smGet_smErase]
    by_cases hj : j = k <;> simp [hj]

/-- The canonical form as a proposition. -/
theorem smWf_cons {a : Nat} {m : SMap α} :
    smWf d ((a, v) :: m) = true ↔ v ≠ d a ∧ (∀ p ∈ m, a < p.1) ∧ smWf d m = true := by
  simp [smWf, and_assoc]

theorem smWf_smErase (h : smWf d m = true) : smWf d (smErase m k) = true := by
  induction m with
  | nil => rfl
  | cons p m ih =>
    obtain ⟨a, x⟩ := p
    rw [smWf_cons] at h
    simp only [smErase]
    split
    · exact ih h.2.2
    · rw [smWf_cons]
      exact ⟨h.1, fun q hq => h.2.1 q (smErase_keys m k q hq).1, ih h.2.2⟩

omit [DecidableEq α] in
theorem smInsert_keys (m : SMap α) (k : Nat) (v : α) : ∀ p ∈ smInsert m k v, p = (k, v) ∨ p ∈ m := by
  induction m with
  | nil => simp [smInsert]
  | cons p m ih =>
    obtain ⟨a, x⟩ := p
    intro q hq
    simp only [smInsert] at hq
    split at hq
    · simpa using hq
    · rcases List.mem_cons.1 hq with rfl | hq
      · simp
      · rcases ih q hq with h | h <;> simp [h]

theorem smWf_smInsert (h : smWf d m = true) (hv : v ≠ d k) (hk : ∀ p ∈ m, p.1 ≠ k) :
    smWf d (smInsert m k v) = true := by
  induction m with
  | nil => simp [smInsert, smWf, hv]
  | cons p m ih =>
    obtain ⟨a, x⟩ := p
    have hak : a ≠ k := hk (a, x) (by simp)
    have h' := smWf_cons.1 h
    simp only [smInsert]
    split
    · rename_i hlt
      rw [smWf_cons]
      refine ⟨hv, fun q hq => ?_, h⟩
      rcases List.mem_cons.1 hq with rfl | hq
      · exact hlt
      · exact lt_trans hlt (h'.2.1 q hq)
    · rw [smWf_cons]
      refine ⟨h'.1, fun q hq => ?_, ih h'.2.2 fun p hp => hk p (by simp [hp])⟩
      rcases smInsert_keys m k v q hq with rfl | hq
      · simp only; omega
      · exact h'.2.1 q hq

/-- A write keeps the canonical form. -/
theorem smWf_smSet (h : smWf d m = true) : smWf d (smSet d m k v) = true := by
  unfold smSet
  split
  · exact smWf_smErase h
  · rename_i hv
    exact smWf_smInsert (smWf_smErase h) hv fun p hp => (smErase_keys m k p hp).2

/-- Leaving entries out keeps the canonical form. -/
theorem smWf_filter (q : Nat × α → Bool) (h : smWf d m = true) : smWf d (m.filter q) = true := by
  induction m with
  | nil => rfl
  | cons p m ih =>
    obtain ⟨a, x⟩ := p
    rw [smWf_cons] at h
    simp only [List.filter_cons]
    split
    · rw [smWf_cons]
      exact ⟨h.1, fun q hq => h.2.1 q (List.mem_filter.1 hq).1, ih h.2.2⟩
    · exact ih h.2.2

/-- A register field reads back what was written, cut to its width; every other field is as before. -/
theorem regGet_regSet (m : SMap Nat) (x y : Fld) (v : Nat) :
    regGet (regSet m x v) y = if fldKey y = fldKey x then v % 2 ^ x.w else regGet m y := by
  simp [regGet, regSet]

end Sys2Proof.Machine
end

