-- ==== Sys2Proof/Laws/State.lean ====
section
/-!
SUPPORT. What an update of the state leaves alone: one lemma per part and shared update, each true by computation; and what
a read sees after the update that wrote it.
-/
set_option Elab.async false
namespace Sys2Proof.Machine
variable (s : State)

/-! ## Register fields -/

@[simp] theorem f_setF (x y : Fld) (v : Nat) :
    (s.setF x v).f y = if fldKey y = fldKey x then v % 2 ^ x.w else s.f y := regGet_regSet ..

@[simp] theorem f_setOn (x y : Fld) (b : Bool) :
    (s.setOn x b).f y = if fldKey y = fldKey x then b2n b % 2 ^ x.w else s.f y := regGet_regSet ..

@[simp] theorem f_count (x y : Fld) (n : Nat) : (s.count x n).f y =
    if fldKey y = fldKey x then satAdd (s.f x) n (2 ^ x.w - 1) % 2 ^ x.w else s.f y := regGet_regSet ..

@[simp] theorem f_putBit (x y : Fld) (i : Nat) (b : Bool) : (s.putBit x i b).f y =
    if fldKey y = fldKey x then Machine.putBit (s.f x) i b % 2 ^ x.w else s.f y := regGet_regSet ..

@[simp] theorem f_groupState (g st c : Nat) (y : Fld) : (s.groupState g st c).f y =
    if fldKey y = fldKey (fTMG_STATUS_STATE g) then st % 2 ^ (fTMG_STATUS_STATE g).w else s.f y := regGet_regSet ..

/-- A saturating counter never wraps. -/
theorem satAdd_mod (n k w : Nat) : satAdd n k (2 ^ w - 1) % 2 ^ w = satAdd n k (2 ^ w - 1) := by
  have : 0 < 2 ^ w := Nat.two_pow_pos w
  exact Nat.mod_eq_of_lt (by unfold satAdd; omega)

/-- A read of a field after a change of other fields. -/
theorem reg_setF (x : Fld) (v k : Nat) : smGet fieldReset (s.setF x v).regs k =
    if k = fldKey x then v % 2 ^ x.w else smGet fieldReset s.regs k := smGet_smSet ..

theorem reg_setOn (x : Fld) (b : Bool) (k : Nat) : smGet fieldReset (s.setOn x b).regs k =
    if k = fldKey x then b2n b % 2 ^ x.w else smGet fieldReset s.regs k := smGet_smSet ..

theorem reg_count (x : Fld) (n k : Nat) : smGet fieldReset (s.count x n).regs k =
    if k = fldKey x then satAdd (s.f x) n (2 ^ x.w - 1) % 2 ^ x.w else smGet fieldReset s.regs k := smGet_smSet ..

theorem reg_putBit (x : Fld) (i : Nat) (b : Bool) (k : Nat) : smGet fieldReset (s.putBit x i b).regs k =
    if k = fldKey x then Machine.putBit (s.f x) i b % 2 ^ x.w else smGet fieldReset s.regs k := smGet_smSet ..

/-! ## A read of what was written -/

@[simp] theorem out_outs (o : Out) : (s.out o).outs = o :: s.outs := rfl
@[simp] theorem raise_ev (c o l : Nat) (as : List (Nat × Nat)) : (s.raise c o l as).ev =
    { s.ev with enRoute := s.ev.enRoute ++ [⟨s.clock o, c, false, o, l, packBits as⟩] } := rfl
@[simp] theorem raiseG_ev (c g : Nat) (as : List (Nat × Nat)) : (s.raiseG c g as).ev =
    { s.ev with enRoute := s.ev.enRoute ++ [⟨s.clock (0x800 + g), c, false, 0x800 + g, locusGroup g, packBits as⟩] } := rfl
@[simp] theorem draw_fst (w : Nat) : (s.draw w).1 = Config.freeValue s.free % 2 ^ w := rfl
@[simp] theorem draw_snd (w : Nat) : (s.draw w).2 = { s with free := s.free + 1 } := rfl

@[simp] theorem lane_setLane (d l d' l' : Nat) (x : LaneGrp) :
    (s.setLane d l x).lane d' l' = if lgKey d' l' = lgKey d l then x else s.lane d' l' := smGet_smSet ..
@[simp] theorem moved_setMoved (d d' : Nat) (x : List HeldFlit) :
    (s.setMoved d x).moved d' = if d' = d then x else s.moved d' := smGet_smSet ..
@[simp] theorem grp_setGrp (g g' : Nat) (x : Grp) :
    (s.setGrp g x).grp g' = if g' = g then x else s.grp g' := smGet_smSet ..
@[simp] theorem ring_setRing (g g' : Nat) (x : Ring) :
    (s.setRing g x).ring g' = if g' = g then x else s.ring g' := smGet_smSet ..
@[simp] theorem core_setCore (g g' : Nat) (x : Core) :
    (s.setCore g x).core g' = if g' = g then x else s.core g' := smGet_smSet ..
@[simp] theorem entry_setEntry (g g' : Nat) (x : Option Entry) :
    (s.setEntry g x).entry g' = if g' = g then x else s.entry g' := smGet_smSet ..
@[simp] theorem stopReq_setStopReq (g g' : Nat) (x : Bool) :
    (s.setStopReq g x).stopReq g' = if g' = g then x else s.stopReq g' := smGet_smSet ..
@[simp] theorem lk_setLk (g g' : Nat) (x : LockSt) :
    (s.setLk g x).lk g' = if g' = g then x else s.lk g' := smGet_smSet ..
@[simp] theorem pin_setPin (g g' : Nat) (x : GtoPin) :
    (s.setPin g x).pin g' = if g' = g then x else s.pin g' := smGet_smSet ..
@[simp] theorem rail_setRail (g g' : Nat) (x : RailSt) :
    (s.setRail g x).rail g' = if g' = g then x else s.rail g' := smGet_smSet ..
@[simp] theorem pwr_setPwr (g g' : Nat) (x : PwrSt) :
    (s.setPwr g x).pwr g' = if g' = g then x else s.pwr g' := smGet_smSet ..
@[simp] theorem calRun_setCalRun (g g' : Nat) (x : Option Nat) :
    (s.setCalRun g x).calRun g' = if g' = g then x else s.calRun g' := smGet_smSet ..
@[simp] theorem fold_setFold (g g' : Nat) (x : FoldSt) :
    (s.setFold g x).fold g' = if g' = g then x else s.fold g' := smGet_smSet ..
@[simp] theorem acc_setAcc (g g' : Nat) (x : Acc) :
    (s.setAcc g x).acc g' = if g' = g then x else s.acc g' := smGet_smSet ..
@[simp] theorem ln_setLn (g g' : Nat) (x : LaneSt) :
    (s.setLn g x).ln g' = if g' = g then x else s.ln g' := smGet_smSet ..
@[simp] theorem uq_setUq (g g' : Nat) (x : Upq) :
    (s.setUq g x).uq g' = if g' = g then x else s.uq g' := smGet_smSet ..
@[simp] theorem pq_setPq (c p c' p' : Nat) (x : List Pkt) :
    (s.setPq c p x).pq c' p' = if qKey c' p' = qKey c p then x else s.pq c' p' := smGet_smSet ..
@[simp] theorem tile_setTile (p a b p' a' b' : Nat) (x : Option TileBlk) :
    (s.setTile p a b x).tile p' a' b' = if tileKey p' a' b' = tileKey p a b then x else s.tile p' a' b' := smGet_smSet ..
@[simp] theorem latched_latchHi (q q' : Req) (a a' v : Nat) :
    (s.latchHi q a v).latched q' a' = if latchKey q' a' = latchKey q a then v else s.latched q' a' := smGet_smSet ..
@[simp] theorem imem_setImem (o w o' w' v : Nat) :
    (s.setImem o w v).imem o' w' = if memKey o' w' = memKey o w then v % 2 ^ 32 else s.imem o' w' := smGet_smSet ..
@[simp] theorem dmem_setDmem (o w o' w' v : Nat) :
    (s.setDmem o w v).dmem o' w' = if memKey o' w' = memKey o w then v % 2 ^ 32 else s.dmem o' w' := smGet_smSet ..
@[simp] theorem nextSeq_setNextSeq (c p q c' p' q' v : Nat) :
    (s.setNextSeq c p q v).nextSeq c' p' q' = if 2 * qKey c' p' + q' = 2 * qKey c p + q then v % 256 else s.nextSeq c' p' q' := smGet_smSet ..
@[simp] theorem age_setAge (a i a' i' v : Nat) :
    (s.setAge a i v).age a' i' = if 4096 * a' + i' = 4096 * a + i then v else s.age a' i' := smGet_smSet ..
@[simp] theorem sec_setSec (g g' : Nat) (x : NvSector) :
    (s.setSec g x).sec_ g' = if g' = g then x else s.sec_ g' := smGet_smSet ..

/-! ## What an update leaves alone -/

/-! `setF` -/
@[simp] theorem setF_pending (x : Fld) (v : Nat) : (s.setF x v).pending = s.pending := rfl
@[simp] theorem setF_latches (x : Fld) (v : Nat) : (s.setF x v).latches = s.latches := rfl
@[simp] theorem setF_w1cAt (x : Fld) (v : Nat) : (s.setF x v).w1cAt = s.w1cAt := rfl
@[simp] theorem setF_free (x : Fld) (v : Nat) : (s.setF x v).free = s.free := rfl
@[simp] theorem setF_outs (x : Fld) (v : Nat) : (s.setF x v).outs = s.outs := rfl
@[simp] theorem setF_time (x : Fld) (v : Nat) : (s.setF x v).time = s.time := rfl
@[simp] theorem setF_ev (x : Fld) (v : Nat) : (s.setF x v).ev = s.ev := rfl
@[simp] theorem setF_flt (x : Fld) (v : Nat) : (s.setF x v).flt = s.flt := rfl
@[simp] theorem setF_link (x : Fld) (v : Nat) : (s.setF x v).link = s.link := rfl
@[simp] theorem setF_groups (x : Fld) (v : Nat) : (s.setF x v).groups = s.groups := rfl
@[simp] theorem setF_transit (x : Fld) (v : Nat) : (s.setF x v).transit = s.transit := rfl
@[simp] theorem setF_host (x : Fld) (v : Nat) : (s.setF x v).host = s.host := rfl
@[simp] theorem setF_fs (x : Fld) (v : Nat) : (s.setF x v).fs = s.fs := rfl
@[simp] theorem setF_nv (x : Fld) (v : Nat) : (s.setF x v).nv = s.nv := rfl
@[simp] theorem setF_boot (x : Fld) (v : Nat) : (s.setF x v).boot = s.boot := rfl
@[simp] theorem setF_pix (x : Fld) (v : Nat) : (s.setF x v).pix = s.pix := rfl
@[simp] theorem setF_codec (x : Fld) (v : Nat) : (s.setF x v).codec = s.codec := rfl
@[simp] theorem setF_th (x : Fld) (v : Nat) : (s.setF x v).th = s.th := rfl
@[simp] theorem setF_ch (x : Fld) (v : Nat) : (s.setF x v).ch = s.ch := rfl
@[simp] theorem setF_drv (x : Fld) (v : Nat) : (s.setF x v).drv = s.drv := rfl
@[simp] theorem setF_cal (x : Fld) (v : Nat) : (s.setF x v).cal = s.cal := rfl
@[simp] theorem setF_arb (x : Fld) (v : Nat) : (s.setF x v).arb = s.arb := rfl
@[simp] theorem setF_sec (x : Fld) (v : Nat) : (s.setF x v).sec = s.sec := rfl
@[simp] theorem setF_mem (x : Fld) (v : Nat) : (s.setF x v).mem = s.mem := rfl

/-! `setOn` -/
@[simp] theorem setOn_pending (x : Fld) (b : Bool) : (s.setOn x b).pending = s.pending := rfl
@[simp] theorem setOn_latches (x : Fld) (b : Bool) : (s.setOn x b).latches = s.latches := rfl
@[simp] theorem setOn_w1cAt (x : Fld) (b : Bool) : (s.setOn x b).w1cAt = s.w1cAt := rfl
@[simp] theorem setOn_free (x : Fld) (b : Bool) : (s.setOn x b).free = s.free := rfl
@[simp] theorem setOn_outs (x : Fld) (b : Bool) : (s.setOn x b).outs = s.outs := rfl
@[simp] theorem setOn_time (x : Fld) (b : Bool) : (s.setOn x b).time = s.time := rfl
@[simp] theorem setOn_ev (x : Fld) (b : Bool) : (s.setOn x b).ev = s.ev := rfl
@[simp] theorem setOn_flt (x : Fld) (b : Bool) : (s.setOn x b).flt = s.flt := rfl
@[simp] theorem setOn_link (x : Fld) (b : Bool) : (s.setOn x b).link = s.link := rfl
@[simp] theorem setOn_groups (x : Fld) (b : Bool) : (s.setOn x b).groups = s.groups := rfl
@[simp] theorem setOn_transit (x : Fld) (b : Bool) : (s.setOn x b).transit = s.transit := rfl
@[simp] theorem setOn_host (x : Fld) (b : Bool) : (s.setOn x b).host = s.host := rfl
@[simp] theorem setOn_fs (x : Fld) (b : Bool) : (s.setOn x b).fs = s.fs := rfl
@[simp] theorem setOn_nv (x : Fld) (b : Bool) : (s.setOn x b).nv = s.nv := rfl
@[simp] theorem setOn_boot (x : Fld) (b : Bool) : (s.setOn x b).boot = s.boot := rfl
@[simp] theorem setOn_pix (x : Fld) (b : Bool) : (s.setOn x b).pix = s.pix := rfl
@[simp] theorem setOn_codec (x : Fld) (b : Bool) : (s.setOn x b).codec = s.codec := rfl
@[simp] theorem setOn_th (x : Fld) (b : Bool) : (s.setOn x b).th = s.th := rfl
@[simp] theorem setOn_ch (x : Fld) (b : Bool) : (s.setOn x b).ch = s.ch := rfl
@[simp] theorem setOn_drv (x : Fld) (b : Bool) : (s.setOn x b).drv = s.drv := rfl
@[simp] theorem setOn_cal (x : Fld) (b : Bool) : (s.setOn x b).cal = s.cal := rfl
@[simp] theorem setOn_arb (x : Fld) (b : Bool) : (s.setOn x b).arb = s.arb := rfl
@[simp] theorem setOn_sec (x : Fld) (b : Bool) : (s.setOn x b).sec = s.sec := rfl
@[simp] theorem setOn_mem (x : Fld) (b : Bool) : (s.setOn x b).mem = s.mem := rfl

/-! `count` -/
@[simp] theorem count_pending (x : Fld) (n : Nat) : (s.count x n).pending = s.pending := rfl
@[simp] theorem count_latches (x : Fld) (n : Nat) : (s.count x n).latches = s.latches := rfl
@[simp] theorem count_w1cAt (x : Fld) (n : Nat) : (s.count x n).w1cAt = s.w1cAt := rfl
@[simp] theorem count_free (x : Fld) (n : Nat) : (s.count x n).free = s.free := rfl
@[simp] theorem count_outs (x : Fld) (n : Nat) : (s.count x n).outs = s.outs := rfl
@[simp] theorem count_time (x : Fld) (n : Nat) : (s.count x n).time = s.time := rfl
@[simp] theorem count_ev (x : Fld) (n : Nat) : (s.count x n).ev = s.ev := rfl
@[simp] theorem count_flt (x : Fld) (n : Nat) : (s.count x n).flt = s.flt := rfl
@[simp] theorem count_link (x : Fld) (n : Nat) : (s.count x n).link = s.link := rfl
@[simp] theorem count_groups (x : Fld) (n : Nat) : (s.count x n).groups = s.groups := rfl
@[simp] theorem count_transit (x : Fld) (n : Nat) : (s.count x n).transit = s.transit := rfl
@[simp] theorem count_host (x : Fld) (n : Nat) : (s.count x n).host = s.host := rfl
@[simp] theorem count_fs (x : Fld) (n : Nat) : (s.count x n).fs = s.fs := rfl
@[simp] theorem count_nv (x : Fld) (n : Nat) : (s.count x n).nv = s.nv := rfl
@[simp] theorem count_boot (x : Fld) (n : Nat) : (s.count x n).boot = s.boot := rfl
@[simp] theorem count_pix (x : Fld) (n : Nat) : (s.count x n).pix = s.pix := rfl
@[simp] theorem count_codec (x : Fld) (n : Nat) : (s.count x n).codec = s.codec := rfl
@[simp] theorem count_th (x : Fld) (n : Nat) : (s.count x n).th = s.th := rfl
@[simp] theorem count_ch (x : Fld) (n : Nat) : (s.count x n).ch = s.ch := rfl
@[simp] theorem count_drv (x : Fld) (n : Nat) : (s.count x n).drv = s.drv := rfl
@[simp] theorem count_cal (x : Fld) (n : Nat) : (s.count x n).cal = s.cal := rfl
@[simp] theorem count_arb (x : Fld) (n : Nat) : (s.count x n).arb = s.arb := rfl
@[simp] theorem count_sec (x : Fld) (n : Nat) : (s.count x n).sec = s.sec := rfl
@[simp] theorem count_mem (x : Fld) (n : Nat) : (s.count x n).mem = s.mem := rfl

/-! `putBit` -/
@[simp] theorem putBit_pending (x : Fld) (i : Nat) (b : Bool) : (s.putBit x i b).pending = s.pending := rfl
@[simp] theorem putBit_latches (x : Fld) (i : Nat) (b : Bool) : (s.putBit x i b).latches = s.latches := rfl
@[simp] theorem putBit_w1cAt (x : Fld) (i : Nat) (b : Bool) : (s.putBit x i b).w1cAt = s.w1cAt := rfl
@[simp] theorem putBit_free (x : Fld) (i : Nat) (b : Bool) : (s.putBit x i b).free = s.free := rfl
@[simp] theorem putBit_outs (x : Fld) (i : Nat) (b : Bool) : (s.putBit x i b).outs = s.outs := rfl
@[simp] theorem putBit_time (x : Fld) (i : Nat) (b : Bool) : (s.putBit x i b).time = s.time := rfl
@[simp] theorem putBit_ev (x : Fld) (i : Nat) (b : Bool) : (s.putBit x i b).ev = s.ev := rfl
@[simp] theorem putBit_flt (x : Fld) (i : Nat) (b : Bool) : (s.putBit x i b).flt = s.flt := rfl
@[simp] theorem putBit_link (x : Fld) (i : Nat) (b : Bool) : (s.putBit x i b).link = s.link := rfl
@[simp] theorem putBit_groups (x : Fld) (i : Nat) (b : Bool) : (s.putBit x i b).groups = s.groups := rfl
@[simp] theorem putBit_transit (x : Fld) (i : Nat) (b : Bool) : (s.putBit x i b).transit = s.transit := rfl
@[simp] theorem putBit_host (x : Fld) (i : Nat) (b : Bool) : (s.putBit x i b).host = s.host := rfl
@[simp] theorem putBit_fs (x : Fld) (i : Nat) (b : Bool) : (s.putBit x i b).fs = s.fs := rfl
@[simp] theorem putBit_nv (x : Fld) (i : Nat) (b : Bool) : (s.putBit x i b).nv = s.nv := rfl
@[simp] theorem putBit_boot (x : Fld) (i : Nat) (b : Bool) : (s.putBit x i b).boot = s.boot := rfl
@[simp] theorem putBit_pix (x : Fld) (i : Nat) (b : Bool) : (s.putBit x i b).pix = s.pix := rfl
@[simp] theorem putBit_codec (x : Fld) (i : Nat) (b : Bool) : (s.putBit x i b).codec = s.codec := rfl
@[simp] theorem putBit_th (x : Fld) (i : Nat) (b : Bool) : (s.putBit x i b).th = s.th := rfl
@[simp] theorem putBit_ch (x : Fld) (i : Nat) (b : Bool) : (s.putBit x i b).ch = s.ch := rfl
@[simp] theorem putBit_drv (x : Fld) (i : Nat) (b : Bool) : (s.putBit x i b).drv = s.drv := rfl
@[simp] theorem putBit_cal (x : Fld) (i : Nat) (b : Bool) : (s.putBit x i b).cal = s.cal := rfl
@[simp] theorem putBit_arb (x : Fld) (i : Nat) (b : Bool) : (s.putBit x i b).arb = s.arb := rfl
@[simp] theorem putBit_sec (x : Fld) (i : Nat) (b : Bool) : (s.putBit x i b).sec = s.sec := rfl
@[simp] theorem putBit_mem (x : Fld) (i : Nat) (b : Bool) : (s.putBit x i b).mem = s.mem := rfl

/-! `out` -/
@[simp] theorem out_pending (o : Out) : (s.out o).pending = s.pending := rfl
@[simp] theorem out_regs (o : Out) : (s.out o).regs = s.regs := rfl
@[simp] theorem out_latches (o : Out) : (s.out o).latches = s.latches := rfl
@[simp] theorem out_w1cAt (o : Out) : (s.out o).w1cAt = s.w1cAt := rfl
@[simp] theorem out_free (o : Out) : (s.out o).free = s.free := rfl
@[simp] theorem out_time (o : Out) : (s.out o).time = s.time := rfl
@[simp] theorem out_ev (o : Out) : (s.out o).ev = s.ev := rfl
@[simp] theorem out_flt (o : Out) : (s.out o).flt = s.flt := rfl
@[simp] theorem out_link (o : Out) : (s.out o).link = s.link := rfl
@[simp] theorem out_groups (o : Out) : (s.out o).groups = s.groups := rfl
@[simp] theorem out_transit (o : Out) : (s.out o).transit = s.transit := rfl
@[simp] theorem out_host (o : Out) : (s.out o).host = s.host := rfl
@[simp] theorem out_fs (o : Out) : (s.out o).fs = s.fs := rfl
@[simp] theorem out_nv (o : Out) : (s.out o).nv = s.nv := rfl
@[simp] theorem out_boot (o : Out) : (s.out o).boot = s.boot := rfl
@[simp] theorem out_pix (o : Out) : (s.out o).pix = s.pix := rfl
@[simp] theorem out_codec (o : Out) : (s.out o).codec = s.codec := rfl
@[simp] theorem out_th (o : Out) : (s.out o).th = s.th := rfl
@[simp] theorem out_ch (o : Out) : (s.out o).ch = s.ch := rfl
@[simp] theorem out_drv (o : Out) : (s.out o).drv = s.drv := rfl
@[simp] theorem out_cal (o : Out) : (s.out o).cal = s.cal := rfl
@[simp] theorem out_arb (o : Out) : (s.out o).arb = s.arb := rfl
@[simp] theorem out_sec (o : Out) : (s.out o).sec = s.sec := rfl
@[simp] theorem out_mem (o : Out) : (s.out o).mem = s.mem := rfl
@[simp] theorem f_out (o : Out) (y : Fld) : (s.out o).f y = s.f y := rfl

/-! `setGrp` -/
@[simp] theorem setGrp_pending (g : Nat) (x : Grp) : (s.setGrp g x).pending = s.pending := rfl
@[simp] theorem setGrp_regs (g : Nat) (x : Grp) : (s.setGrp g x).regs = s.regs := rfl
@[simp] theorem setGrp_latches (g : Nat) (x : Grp) : (s.setGrp g x).latches = s.latches := rfl
@[simp] theorem setGrp_w1cAt (g : Nat) (x : Grp) : (s.setGrp g x).w1cAt = s.w1cAt := rfl
@[simp] theorem setGrp_free (g : Nat) (x : Grp) : (s.setGrp g x).free = s.free := rfl
@[simp] theorem setGrp_outs (g : Nat) (x : Grp) : (s.setGrp g x).outs = s.outs := rfl
@[simp] theorem setGrp_time (g : Nat) (x : Grp) : (s.setGrp g x).time = s.time := rfl
@[simp] theorem setGrp_ev (g : Nat) (x : Grp) : (s.setGrp g x).ev = s.ev := rfl
@[simp] theorem setGrp_flt (g : Nat) (x : Grp) : (s.setGrp g x).flt = s.flt := rfl
@[simp] theorem setGrp_link (g : Nat) (x : Grp) : (s.setGrp g x).link = s.link := rfl
@[simp] theorem setGrp_transit (g : Nat) (x : Grp) : (s.setGrp g x).transit = s.transit := rfl
@[simp] theorem setGrp_host (g : Nat) (x : Grp) : (s.setGrp g x).host = s.host := rfl
@[simp] theorem setGrp_fs (g : Nat) (x : Grp) : (s.setGrp g x).fs = s.fs := rfl
@[simp] theorem setGrp_nv (g : Nat) (x : Grp) : (s.setGrp g x).nv = s.nv := rfl
@[simp] theorem setGrp_boot (g : Nat) (x : Grp) : (s.setGrp g x).boot = s.boot := rfl
@[simp] theorem setGrp_pix (g : Nat) (x : Grp) : (s.setGrp g x).pix = s.pix := rfl
@[simp] theorem setGrp_codec (g : Nat) (x : Grp) : (s.setGrp g x).codec = s.codec := rfl
@[simp] theorem setGrp_th (g : Nat) (x : Grp) : (s.setGrp g x).th = s.th := rfl
@[simp] theorem setGrp_ch (g : Nat) (x : Grp) : (s.setGrp g x).ch = s.ch := rfl
@[simp] theorem setGrp_drv (g : Nat) (x : Grp) : (s.setGrp g x).drv = s.drv := rfl
@[simp] theorem setGrp_cal (g : Nat) (x : Grp) : (s.setGrp g x).cal = s.cal := rfl
@[simp] theorem setGrp_arb (g : Nat) (x : Grp) : (s.setGrp g x).arb = s.arb := rfl
@[simp] theorem setGrp_sec (g : Nat) (x : Grp) : (s.setGrp g x).sec = s.sec := rfl
@[simp] theorem setGrp_mem (g : Nat) (x : Grp) : (s.setGrp g x).mem = s.mem := rfl
@[simp] theorem f_setGrp (g : Nat) (x : Grp) (y : Fld) : (s.setGrp g x).f y = s.f y := rfl

/-! `raiseAt` -/
@[simp] theorem raiseAt_pending (st c o l : Nat) (as : List (Nat × Nat)) : (s.raiseAt st c o l as).pending = s.pending := rfl
@[simp] theorem raiseAt_regs (st c o l : Nat) (as : List (Nat × Nat)) : (s.raiseAt st c o l as).regs = s.regs := rfl
@[simp] theorem raiseAt_latches (st c o l : Nat) (as : List (Nat × Nat)) : (s.raiseAt st c o l as).latches = s.latches := rfl
@[simp] theorem raiseAt_w1cAt (st c o l : Nat) (as : List (Nat × Nat)) : (s.raiseAt st c o l as).w1cAt = s.w1cAt := rfl
@[simp] theorem raiseAt_free (st c o l : Nat) (as : List (Nat × Nat)) : (s.raiseAt st c o l as).free = s.free := rfl
@[simp] theorem raiseAt_outs (st c o l : Nat) (as : List (Nat × Nat)) : (s.raiseAt st c o l as).outs = s.outs := rfl
@[simp] theorem raiseAt_time (st c o l : Nat) (as : List (Nat × Nat)) : (s.raiseAt st c o l as).time = s.time := rfl
@[simp] theorem raiseAt_flt (st c o l : Nat) (as : List (Nat × Nat)) : (s.raiseAt st c o l as).flt = s.flt := rfl
@[simp] theorem raiseAt_link (st c o l : Nat) (as : List (Nat × Nat)) : (s.raiseAt st c o l as).link = s.link := rfl
@[simp] theorem raiseAt_groups (st c o l : Nat) (as : List (Nat × Nat)) : (s.raiseAt st c o l as).groups = s.groups := rfl
@[simp] theorem raiseAt_transit (st c o l : Nat) (as : List (Nat × Nat)) : (s.raiseAt st c o l as).transit = s.transit := rfl
@[simp] theorem raiseAt_host (st c o l : Nat) (as : List (Nat × Nat)) : (s.raiseAt st c o l as).host = s.host := rfl
@[simp] theorem raiseAt_fs (st c o l : Nat) (as : List (Nat × Nat)) : (s.raiseAt st c o l as).fs = s.fs := rfl
@[simp] theorem raiseAt_nv (st c o l : Nat) (as : List (Nat × Nat)) : (s.raiseAt st c o l as).nv = s.nv := rfl
@[simp] theorem raiseAt_boot (st c o l : Nat) (as : List (Nat × Nat)) : (s.raiseAt st c o l as).boot = s.boot := rfl
@[simp] theorem raiseAt_pix (st c o l : Nat) (as : List (Nat × Nat)) : (s.raiseAt st c o l as).pix = s.pix := rfl
@[simp] theorem raiseAt_codec (st c o l : Nat) (as : List (Nat × Nat)) : (s.raiseAt st c o l as).codec = s.codec := rfl
@[simp] theorem raiseAt_th (st c o l : Nat) (as : List (Nat × Nat)) : (s.raiseAt st c o l as).th = s.th := rfl
@[simp] theorem raiseAt_ch (st c o l : Nat) (as : List (Nat × Nat)) : (s.raiseAt st c o l as).ch = s.ch := rfl
@[simp] theorem raiseAt_drv (st c o l : Nat) (as : List (Nat × Nat)) : (s.raiseAt st c o l as).drv = s.drv := rfl
@[simp] theorem raiseAt_cal (st c o l : Nat) (as : List (Nat × Nat)) : (s.raiseAt st c o l as).cal = s.cal := rfl
@[simp] theorem raiseAt_arb (st c o l : Nat) (as : List (Nat × Nat)) : (s.raiseAt st c o l as).arb = s.arb := rfl
@[simp] theorem raiseAt_sec (st c o l : Nat) (as : List (Nat × Nat)) : (s.raiseAt st c o l as).sec = s.sec := rfl
@[simp] theorem raiseAt_mem (st c o l : Nat) (as : List (Nat × Nat)) : (s.raiseAt st c o l as).mem = s.mem := rfl
@[simp] theorem f_raiseAt (st c o l : Nat) (as : List (Nat × Nat)) (y : Fld) : (s.raiseAt st c o l as).f y = s.f y := rfl

/-! `raise` -/
@[simp] theorem raise_pending (c o l : Nat) (as : List (Nat × Nat)) : (s.raise c o l as).pending = s.pending := rfl
@[simp] theorem raise_regs (c o l : Nat) (as : List (Nat × Nat)) : (s.raise c o l as).regs = s.regs := rfl
@[simp] theorem raise_latches (c o l : Nat) (as : List (Nat × Nat)) : (s.raise c o l as).latches = s.latches := rfl
@[simp] theorem raise_w1cAt (c o l : Nat) (as : List (Nat × Nat)) : (s.raise c o l as).w1cAt = s.w1cAt := rfl
@[simp] theorem raise_free (c o l : Nat) (as : List (Nat × Nat)) : (s.raise c o l as).free = s.free := rfl
@[simp] theorem raise_outs (c o l : Nat) (as : List (Nat × Nat)) : (s.raise c o l as).outs = s.outs := rfl
@[simp] theorem raise_time (c o l : Nat) (as : List (Nat × Nat)) : (s.raise c o l as).time = s.time := rfl
@[simp] theorem raise_flt (c o l : Nat) (as : List (Nat × Nat)) : (s.raise c o l as).flt = s.flt := rfl
@[simp] theorem raise_link (c o l : Nat) (as : List (Nat × Nat)) : (s.raise c o l as).link = s.link := rfl
@[simp] theorem raise_groups (c o l : Nat) (as : List (Nat × Nat)) : (s.raise c o l as).groups = s.groups := rfl
@[simp] theorem raise_transit (c o l : Nat) (as : List (Nat × Nat)) : (s.raise c o l as).transit = s.transit := rfl
@[simp] theorem raise_host (c o l : Nat) (as : List (Nat × Nat)) : (s.raise c o l as).host = s.host := rfl
@[simp] theorem raise_fs (c o l : Nat) (as : List (Nat × Nat)) : (s.raise c o l as).fs = s.fs := rfl
@[simp] theorem raise_nv (c o l : Nat) (as : List (Nat × Nat)) : (s.raise c o l as).nv = s.nv := rfl
@[simp] theorem raise_boot (c o l : Nat) (as : List (Nat × Nat)) : (s.raise c o l as).boot = s.boot := rfl
@[simp] theorem raise_pix (c o l : Nat) (as : List (Nat × Nat)) : (s.raise c o l as).pix = s.pix := rfl
@[simp] theorem raise_codec (c o l : Nat) (as : List (Nat × Nat)) : (s.raise c o l as).codec = s.codec := rfl
@[simp] theorem raise_th (c o l : Nat) (as : List (Nat × Nat)) : (s.raise c o l as).th = s.th := rfl
@[simp] theorem raise_ch (c o l : Nat) (as : List (Nat × Nat)) : (s.raise c o l as).ch = s.ch := rfl
@[simp] theorem raise_drv (c o l : Nat) (as : List (Nat × Nat)) : (s.raise c o l as).drv = s.drv := rfl
@[simp] theorem raise_cal (c o l : Nat) (as : List (Nat × Nat)) : (s.raise c o l as).cal = s.cal := rfl
@[simp] theorem raise_arb (c o l : Nat) (as : List (Nat × Nat)) : (s.raise c o l as).arb = s.arb := rfl
@[simp] theorem raise_sec (c o l : Nat) (as : List (Nat × Nat)) : (s.raise c o l as).sec = s.sec := rfl
@[simp] theorem raise_mem (c o l : Nat) (as : List (Nat × Nat)) : (s.raise c o l as).mem = s.mem := rfl
@[simp] theorem f_raise (c o l : Nat) (as : List (Nat × Nat)) (y : Fld) : (s.raise c o l as).f y = s.f y := rfl

/-! `raiseG` -/
@[simp] theorem raiseG_pending (c g : Nat) (as : List (Nat × Nat)) : (s.raiseG c g as).pending = s.pending := rfl
@[simp] theorem raiseG_regs (c g : Nat) (as : List (Nat × Nat)) : (s.raiseG c g as).regs = s.regs := rfl
@[simp] theorem raiseG_latches (c g : Nat) (as : List (Nat × Nat)) : (s.raiseG c g as).latches = s.latches := rfl
@[simp] theorem raiseG_w1cAt (c g : Nat) (as : List (Nat × Nat)) : (s.raiseG c g as).w1cAt = s.w1cAt := rfl
@[simp] theorem raiseG_free (c g : Nat) (as : List (Nat × Nat)) : (s.raiseG c g as).free = s.free := rfl
@[simp] theorem raiseG_outs (c g : Nat) (as : List (Nat × Nat)) : (s.raiseG c g as).outs = s.outs := rfl
@[simp] theorem raiseG_time (c g : Nat) (as : List (Nat × Nat)) : (s.raiseG c g as).time = s.time := rfl
@[simp] theorem raiseG_flt (c g : Nat) (as : List (Nat × Nat)) : (s.raiseG c g as).flt = s.flt := rfl
@[simp] theorem raiseG_link (c g : Nat) (as : List (Nat × Nat)) : (s.raiseG c g as).link = s.link := rfl
@[simp] theorem raiseG_groups (c g : Nat) (as : List (Nat × Nat)) : (s.raiseG c g as).groups = s.groups := rfl
@[simp] theorem raiseG_transit (c g : Nat) (as : List (Nat × Nat)) : (s.raiseG c g as).transit = s.transit := rfl
@[simp] theorem raiseG_host (c g : Nat) (as : List (Nat × Nat)) : (s.raiseG c g as).host = s.host := rfl
@[simp] theorem raiseG_fs (c g : Nat) (as : List (Nat × Nat)) : (s.raiseG c g as).fs = s.fs := rfl
@[simp] theorem raiseG_nv (c g : Nat) (as : List (Nat × Nat)) : (s.raiseG c g as).nv = s.nv := rfl
@[simp] theorem raiseG_boot (c g : Nat) (as : List (Nat × Nat)) : (s.raiseG c g as).boot = s.boot := rfl
@[simp] theorem raiseG_pix (c g : Nat) (as : List (Nat × Nat)) : (s.raiseG c g as).pix = s.pix := rfl
@[simp] theorem raiseG_codec (c g : Nat) (as : List (Nat × Nat)) : (s.raiseG c g as).codec = s.codec := rfl
@[simp] theorem raiseG_th (c g : Nat) (as : List (Nat × Nat)) : (s.raiseG c g as).th = s.th := rfl
@[simp] theorem raiseG_ch (c g : Nat) (as : List (Nat × Nat)) : (s.raiseG c g as).ch = s.ch := rfl
@[simp] theorem raiseG_drv (c g : Nat) (as : List (Nat × Nat)) : (s.raiseG c g as).drv = s.drv := rfl
@[simp] theorem raiseG_cal (c g : Nat) (as : List (Nat × Nat)) : (s.raiseG c g as).cal = s.cal := rfl
@[simp] theorem raiseG_arb (c g : Nat) (as : List (Nat × Nat)) : (s.raiseG c g as).arb = s.arb := rfl
@[simp] theorem raiseG_sec (c g : Nat) (as : List (Nat × Nat)) : (s.raiseG c g as).sec = s.sec := rfl
@[simp] theorem raiseG_mem (c g : Nat) (as : List (Nat × Nat)) : (s.raiseG c g as).mem = s.mem := rfl
@[simp] theorem f_raiseG (c g : Nat) (as : List (Nat × Nat)) (y : Fld) : (s.raiseG c g as).f y = s.f y := rfl

/-! `groupState` -/
@[simp] theorem groupState_pending (g st c : Nat) : (s.groupState g st c).pending = s.pending := rfl
@[simp] theorem groupState_latches (g st c : Nat) : (s.groupState g st c).latches = s.latches := rfl
@[simp] theorem groupState_w1cAt (g st c : Nat) : (s.groupState g st c).w1cAt = s.w1cAt := rfl
@[simp] theorem groupState_free (g st c : Nat) : (s.groupState g st c).free = s.free := rfl
@[simp] theorem groupState_outs (g st c : Nat) : (s.groupState g st c).outs = s.outs := rfl
@[simp] theorem groupState_time (g st c : Nat) : (s.groupState g st c).time = s.time := rfl
@[simp] theorem groupState_flt (g st c : Nat) : (s.groupState g st c).flt = s.flt := rfl
@[simp] theorem groupState_link (g st c : Nat) : (s.groupState g st c).link = s.link := rfl
@[simp] theorem groupState_groups (g st c : Nat) : (s.groupState g st c).groups = s.groups := rfl
@[simp] theorem groupState_transit (g st c : Nat) : (s.groupState g st c).transit = s.transit := rfl
@[simp] theorem groupState_host (g st c : Nat) : (s.groupState g st c).host = s.host := rfl
@[simp] theorem groupState_fs (g st c : Nat) : (s.groupState g st c).fs = s.fs := rfl
@[simp] theorem groupState_nv (g st c : Nat) : (s.groupState g st c).nv = s.nv := rfl
@[simp] theorem groupState_boot (g st c : Nat) : (s.groupState g st c).boot = s.boot := rfl
@[simp] theorem groupState_pix (g st c : Nat) : (s.groupState g st c).pix = s.pix := rfl
@[simp] theorem groupState_codec (g st c : Nat) : (s.groupState g st c).codec = s.codec := rfl
@[simp] theorem groupState_th (g st c : Nat) : (s.groupState g st c).th = s.th := rfl
@[simp] theorem groupState_ch (g st c : Nat) : (s.groupState g st c).ch = s.ch := rfl
@[simp] theorem groupState_drv (g st c : Nat) : (s.groupState g st c).drv = s.drv := rfl
@[simp] theorem groupState_cal (g st c : Nat) : (s.groupState g st c).cal = s.cal := rfl
@[simp] theorem groupState_arb (g st c : Nat) : (s.groupState g st c).arb = s.arb := rfl
@[simp] theorem groupState_sec (g st c : Nat) : (s.groupState g st c).sec = s.sec := rfl
@[simp] theorem groupState_mem (g st c : Nat) : (s.groupState g st c).mem = s.mem := rfl

/-! `deferred` -/
@[simp] theorem deferred_pending (n : Nat) : (s.deferred n).pending = s.pending := rfl
@[simp] theorem deferred_latches (n : Nat) : (s.deferred n).latches = s.latches := rfl
@[simp] theorem deferred_w1cAt (n : Nat) : (s.deferred n).w1cAt = s.w1cAt := rfl
@[simp] theorem deferred_free (n : Nat) : (s.deferred n).free = s.free := rfl
@[simp] theorem deferred_outs (n : Nat) : (s.deferred n).outs = s.outs := rfl
@[simp] theorem deferred_time (n : Nat) : (s.deferred n).time = s.time := rfl
@[simp] theorem deferred_ev (n : Nat) : (s.deferred n).ev = s.ev := rfl
@[simp] theorem deferred_flt (n : Nat) : (s.deferred n).flt = s.flt := rfl
@[simp] theorem deferred_link (n : Nat) : (s.deferred n).link = s.link := rfl
@[simp] theorem deferred_groups (n : Nat) : (s.deferred n).groups = s.groups := rfl
@[simp] theorem deferred_transit (n : Nat) : (s.deferred n).transit = s.transit := rfl
@[simp] theorem deferred_host (n : Nat) : (s.deferred n).host = s.host := rfl
@[simp] theorem deferred_fs (n : Nat) : (s.deferred n).fs = s.fs := rfl
@[simp] theorem deferred_nv (n : Nat) : (s.deferred n).nv = s.nv := rfl
@[simp] theorem deferred_boot (n : Nat) : (s.deferred n).boot = s.boot := rfl
@[simp] theorem deferred_pix (n : Nat) : (s.deferred n).pix = s.pix := rfl
@[simp] theorem deferred_codec (n : Nat) : (s.deferred n).codec = s.codec := rfl
@[simp] theorem deferred_th (n : Nat) : (s.deferred n).th = s.th := rfl
@[simp] theorem deferred_ch (n : Nat) : (s.deferred n).ch = s.ch := rfl
@[simp] theorem deferred_drv (n : Nat) : (s.deferred n).drv = s.drv := rfl
@[simp] theorem deferred_cal (n : Nat) : (s.deferred n).cal = s.cal := rfl
@[simp] theorem deferred_arb (n : Nat) : (s.deferred n).arb = s.arb := rfl
@[simp] theorem deferred_sec (n : Nat) : (s.deferred n).sec = s.sec := rfl
@[simp] theorem deferred_mem (n : Nat) : (s.deferred n).mem = s.mem := rfl

/-! `refused` -/
@[simp] theorem refused_pending (n r : Nat) : (s.refused n r).pending = s.pending := rfl
@[simp] theorem refused_latches (n r : Nat) : (s.refused n r).latches = s.latches := rfl
@[simp] theorem refused_w1cAt (n r : Nat) : (s.refused n r).w1cAt = s.w1cAt := rfl
@[simp] theorem refused_free (n r : Nat) : (s.refused n r).free = s.free := rfl
@[simp] theorem refused_outs (n r : Nat) : (s.refused n r).outs = s.outs := rfl
@[simp] theorem refused_time (n r : Nat) : (s.refused n r).time = s.time := rfl
@[simp] theorem refused_ev (n r : Nat) : (s.refused n r).ev = s.ev := rfl
@[simp] theorem refused_flt (n r : Nat) : (s.refused n r).flt = s.flt := rfl
@[simp] theorem refused_link (n r : Nat) : (s.refused n r).link = s.link := rfl
@[simp] theorem refused_groups (n r : Nat) : (s.refused n r).groups = s.groups := rfl
@[simp] theorem refused_transit (n r : Nat) : (s.refused n r).transit = s.transit := rfl
@[simp] theorem refused_host (n r : Nat) : (s.refused n r).host = s.host := rfl
@[simp] theorem refused_fs (n r : Nat) : (s.refused n r).fs = s.fs := rfl
@[simp] theorem refused_nv (n r : Nat) : (s.refused n r).nv = s.nv := rfl
@[simp] theorem refused_boot (n r : Nat) : (s.refused n r).boot = s.boot := rfl
@[simp] theorem refused_pix (n r : Nat) : (s.refused n r).pix = s.pix := rfl
@[simp] theorem refused_codec (n r : Nat) : (s.refused n r).codec = s.codec := rfl
@[simp] theorem refused_th (n r : Nat) : (s.refused n r).th = s.th := rfl
@[simp] theorem refused_ch (n r : Nat) : (s.refused n r).ch = s.ch := rfl
@[simp] theorem refused_drv (n r : Nat) : (s.refused n r).drv = s.drv := rfl
@[simp] theorem refused_cal (n r : Nat) : (s.refused n r).cal = s.cal := rfl
@[simp] theorem refused_arb (n r : Nat) : (s.refused n r).arb = s.arb := rfl
@[simp] theorem refused_sec (n r : Nat) : (s.refused n r).sec = s.sec := rfl
@[simp] theorem refused_mem (n r : Nat) : (s.refused n r).mem = s.mem := rfl

/-! `latchHi` -/
@[simp] theorem latchHi_pending (q : Req) (a v : Nat) : (s.latchHi q a v).pending = s.pending := rfl
@[simp] theorem latchHi_regs (q : Req) (a v : Nat) : (s.latchHi q a v).regs = s.regs := rfl
@[simp] theorem latchHi_w1cAt (q : Req) (a v : Nat) : (s.latchHi q a v).w1cAt = s.w1cAt := rfl
@[simp] theorem latchHi_free (q : Req) (a v : Nat) : (s.latchHi q a v).free = s.free := rfl
@[simp] theorem latchHi_outs (q : Req) (a v : Nat) : (s.latchHi q a v).outs = s.outs := rfl
@[simp] theorem latchHi_time (q : Req) (a v : Nat) : (s.latchHi q a v).time = s.time := rfl
@[simp] theorem latchHi_ev (q : Req) (a v : Nat) : (s.latchHi q a v).ev = s.ev := rfl
@[simp] theorem latchHi_flt (q : Req) (a v : Nat) : (s.latchHi q a v).flt = s.flt := rfl
@[simp] theorem latchHi_link (q : Req) (a v : Nat) : (s.latchHi q a v).link = s.link := rfl
@[simp] theorem latchHi_groups (q : Req) (a v : Nat) : (s.latchHi q a v).groups = s.groups := rfl
@[simp] theorem latchHi_transit (q : Req) (a v : Nat) : (s.latchHi q a v).transit = s.transit := rfl
@[simp] theorem latchHi_host (q : Req) (a v : Nat) : (s.latchHi q a v).host = s.host := rfl
@[simp] theorem latchHi_fs (q : Req) (a v : Nat) : (s.latchHi q a v).fs = s.fs := rfl
@[simp] theorem latchHi_nv (q : Req) (a v : Nat) : (s.latchHi q a v).nv = s.nv := rfl
@[simp] theorem latchHi_boot (q : Req) (a v : Nat) : (s.latchHi q a v).boot = s.boot := rfl
@[simp] theorem latchHi_pix (q : Req) (a v : Nat) : (s.latchHi q a v).pix = s.pix := rfl
@[simp] theorem latchHi_codec (q : Req) (a v : Nat) : (s.latchHi q a v).codec = s.codec := rfl
@[simp] theorem latchHi_th (q : Req) (a v : Nat) : (s.latchHi q a v).th = s.th := rfl
@[simp] theorem latchHi_ch (q : Req) (a v : Nat) : (s.latchHi q a v).ch = s.ch := rfl
@[simp] theorem latchHi_drv (q : Req) (a v : Nat) : (s.latchHi q a v).drv = s.drv := rfl
@[simp] theorem latchHi_cal (q : Req) (a v : Nat) : (s.latchHi q a v).cal = s.cal := rfl
@[simp] theorem latchHi_arb (q : Req) (a v : Nat) : (s.latchHi q a v).arb = s.arb := rfl
@[simp] theorem latchHi_sec (q : Req) (a v : Nat) : (s.latchHi q a v).sec = s.sec := rfl
@[simp] theorem latchHi_mem (q : Req) (a v : Nat) : (s.latchHi q a v).mem = s.mem := rfl
@[simp] theorem f_latchHi (q : Req) (a v : Nat) (y : Fld) : (s.latchHi q a v).f y = s.f y := rfl

/-! `fsPut` -/
@[simp] theorem fsPut_pending (a : Nat) (bs : List Byte) : (s.fsPut a bs).pending = s.pending := rfl
@[simp] theorem fsPut_regs (a : Nat) (bs : List Byte) : (s.fsPut a bs).regs = s.regs := rfl
@[simp] theorem fsPut_latches (a : Nat) (bs : List Byte) : (s.fsPut a bs).latches = s.latches := rfl
@[simp] theorem fsPut_w1cAt (a : Nat) (bs : List Byte) : (s.fsPut a bs).w1cAt = s.w1cAt := rfl
@[simp] theorem fsPut_free (a : Nat) (bs : List Byte) : (s.fsPut a bs).free = s.free := rfl
@[simp] theorem fsPut_outs (a : Nat) (bs : List Byte) : (s.fsPut a bs).outs = s.outs := rfl
@[simp] theorem fsPut_time (a : Nat) (bs : List Byte) : (s.fsPut a bs).time = s.time := rfl
@[simp] theorem fsPut_ev (a : Nat) (bs : List Byte) : (s.fsPut a bs).ev = s.ev := rfl
@[simp] theorem fsPut_flt (a : Nat) (bs : List Byte) : (s.fsPut a bs).flt = s.flt := rfl
@[simp] theorem fsPut_link (a : Nat) (bs : List Byte) : (s.fsPut a bs).link = s.link := rfl
@[simp] theorem fsPut_groups (a : Nat) (bs : List Byte) : (s.fsPut a bs).groups = s.groups := rfl
@[simp] theorem fsPut_transit (a : Nat) (bs : List Byte) : (s.fsPut a bs).transit = s.transit := rfl
@[simp] theorem fsPut_host (a : Nat) (bs : List Byte) : (s.fsPut a bs).host = s.host := rfl
@[simp] theorem fsPut_nv (a : Nat) (bs : List Byte) : (s.fsPut a bs).nv = s.nv := rfl
@[simp] theorem fsPut_boot (a : Nat) (bs : List Byte) : (s.fsPut a bs).boot = s.boot := rfl
@[simp] theorem fsPut_pix (a : Nat) (bs : List Byte) : (s.fsPut a bs).pix = s.pix := rfl
@[simp] theorem fsPut_codec (a : Nat) (bs : List Byte) : (s.fsPut a bs).codec = s.codec := rfl
@[simp] theorem fsPut_th (a : Nat) (bs : List Byte) : (s.fsPut a bs).th = s.th := rfl
@[simp] theorem fsPut_ch (a : Nat) (bs : List Byte) : (s.fsPut a bs).ch = s.ch := rfl
@[simp] theorem fsPut_drv (a : Nat) (bs : List Byte) : (s.fsPut a bs).drv = s.drv := rfl
@[simp] theorem fsPut_cal (a : Nat) (bs : List Byte) : (s.fsPut a bs).cal = s.cal := rfl
@[simp] theorem fsPut_arb (a : Nat) (bs : List Byte) : (s.fsPut a bs).arb = s.arb := rfl
@[simp] theorem fsPut_sec (a : Nat) (bs : List Byte) : (s.fsPut a bs).sec = s.sec := rfl
@[simp] theorem fsPut_mem (a : Nat) (bs : List Byte) : (s.fsPut a bs).mem = s.mem := rfl
@[simp] theorem f_fsPut (a : Nat) (bs : List Byte) (y : Fld) : (s.fsPut a bs).f y = s.f y := rfl

/-! `fsPoison` -/
@[simp] theorem fsPoison_pending (a : Nat) : (s.fsPoison a).pending = s.pending := rfl
@[simp] theorem fsPoison_regs (a : Nat) : (s.fsPoison a).regs = s.regs := rfl
@[simp] theorem fsPoison_latches (a : Nat) : (s.fsPoison a).latches = s.latches := rfl
@[simp] theorem fsPoison_w1cAt (a : Nat) : (s.fsPoison a).w1cAt = s.w1cAt := rfl
@[simp] theorem fsPoison_free (a : Nat) : (s.fsPoison a).free = s.free := rfl
@[simp] theorem fsPoison_outs (a : Nat) : (s.fsPoison a).outs = s.outs := rfl
@[simp] theorem fsPoison_time (a : Nat) : (s.fsPoison a).time = s.time := rfl
@[simp] theorem fsPoison_ev (a : Nat) : (s.fsPoison a).ev = s.ev := rfl
@[simp] theorem fsPoison_flt (a : Nat) : (s.fsPoison a).flt = s.flt := rfl
@[simp] theorem fsPoison_link (a : Nat) : (s.fsPoison a).link = s.link := rfl
@[simp] theorem fsPoison_groups (a : Nat) : (s.fsPoison a).groups = s.groups := rfl
@[simp] theorem fsPoison_transit (a : Nat) : (s.fsPoison a).transit = s.transit := rfl
@[simp] theorem fsPoison_host (a : Nat) : (s.fsPoison a).host = s.host := rfl
@[simp] theorem fsPoison_nv (a : Nat) : (s.fsPoison a).nv = s.nv := rfl
@[simp] theorem fsPoison_boot (a : Nat) : (s.fsPoison a).boot = s.boot := rfl
@[simp] theorem fsPoison_pix (a : Nat) : (s.fsPoison a).pix = s.pix := rfl
@[simp] theorem fsPoison_codec (a : Nat) : (s.fsPoison a).codec = s.codec := rfl
@[simp] theorem fsPoison_th (a : Nat) : (s.fsPoison a).th = s.th := rfl
@[simp] theorem fsPoison_ch (a : Nat) : (s.fsPoison a).ch = s.ch := rfl
@[simp] theorem fsPoison_drv (a : Nat) : (s.fsPoison a).drv = s.drv := rfl
@[simp] theorem fsPoison_cal (a : Nat) : (s.fsPoison a).cal = s.cal := rfl
@[simp] theorem fsPoison_arb (a : Nat) : (s.fsPoison a).arb = s.arb := rfl
@[simp] theorem fsPoison_sec (a : Nat) : (s.fsPoison a).sec = s.sec := rfl
@[simp] theorem fsPoison_mem (a : Nat) : (s.fsPoison a).mem = s.mem := rfl
@[simp] theorem f_fsPoison (a : Nat) (y : Fld) : (s.fsPoison a).f y = s.f y := rfl

/-! `setLane` -/
@[simp] theorem setLane_pending (d l : Nat) (x : LaneGrp) : (s.setLane d l x).pending = s.pending := rfl
@[simp] theorem setLane_regs (d l : Nat) (x : LaneGrp) : (s.setLane d l x).regs = s.regs := rfl
@[simp] theorem setLane_latches (d l : Nat) (x : LaneGrp) : (s.setLane d l x).latches = s.latches := rfl
@[simp] theorem setLane_w1cAt (d l : Nat) (x : LaneGrp) : (s.setLane d l x).w1cAt = s.w1cAt := rfl
@[simp] theorem setLane_free (d l : Nat) (x : LaneGrp) : (s.setLane d l x).free = s.free := rfl
@[simp] theorem setLane_outs (d l : Nat) (x : LaneGrp) : (s.setLane d l x).outs = s.outs := rfl
@[simp] theorem setLane_time (d l : Nat) (x : LaneGrp) : (s.setLane d l x).time = s.time := rfl
@[simp] theorem setLane_ev (d l : Nat) (x : LaneGrp) : (s.setLane d l x).ev = s.ev := rfl
@[simp] theorem setLane_flt (d l : Nat) (x : LaneGrp) : (s.setLane d l x).flt = s.flt := rfl
@[simp] theorem setLane_groups (d l : Nat) (x : LaneGrp) : (s.setLane d l x).groups = s.groups := rfl
@[simp] theorem setLane_transit (d l : Nat) (x : LaneGrp) : (s.setLane d l x).transit = s.transit := rfl
@[simp] theorem setLane_host (d l : Nat) (x : LaneGrp) : (s.setLane d l x).host = s.host := rfl
@[simp] theorem setLane_fs (d l : Nat) (x : LaneGrp) : (s.setLane d l x).fs = s.fs := rfl
@[simp] theorem setLane_nv (d l : Nat) (x : LaneGrp) : (s.setLane d l x).nv = s.nv := rfl
@[simp] theorem setLane_boot (d l : Nat) (x : LaneGrp) : (s.setLane d l x).boot = s.boot := rfl
@[simp] theorem setLane_pix (d l : Nat) (x : LaneGrp) : (s.setLane d l x).pix = s.pix := rfl
@[simp] theorem setLane_codec (d l : Nat) (x : LaneGrp) : (s.setLane d l x).codec = s.codec := rfl
@[simp] theorem setLane_th (d l : Nat) (x : LaneGrp) : (s.setLane d l x).th = s.th := rfl
@[simp] theorem setLane_ch (d l : Nat) (x : LaneGrp) : (s.setLane d l x).ch = s.ch := rfl
@[simp] theorem setLane_drv (d l : Nat) (x : LaneGrp) : (s.setLane d l x).drv = s.drv := rfl
@[simp] theorem setLane_cal (d l : Nat) (x : LaneGrp) : (s.setLane d l x).cal = s.cal := rfl
@[simp] theorem setLane_arb (d l : Nat) (x : LaneGrp) : (s.setLane d l x).arb = s.arb := rfl
@[simp] theorem setLane_sec (d l : Nat) (x : LaneGrp) : (s.setLane d l x).sec = s.sec := rfl
@[simp] theorem setLane_mem (d l : Nat) (x : LaneGrp) : (s.setLane d l x).mem = s.mem := rfl
@[simp] theorem f_setLane (d l : Nat) (x : LaneGrp) (y : Fld) : (s.setLane d l x).f y = s.f y := rfl

/-! `setMoved` -/
@[simp] theorem setMoved_pending (d : Nat) (l : List HeldFlit) : (s.setMoved d l).pending = s.pending := rfl
@[simp] theorem setMoved_regs (d : Nat) (l : List HeldFlit) : (s.setMoved d l).regs = s.regs := rfl
@[simp] theorem setMoved_latches (d : Nat) (l : List HeldFlit) : (s.setMoved d l).latches = s.latches := rfl
@[simp] theorem setMoved_w1cAt (d : Nat) (l : List HeldFlit) : (s.setMoved d l).w1cAt = s.w1cAt := rfl
@[simp] theorem setMoved_free (d : Nat) (l : List HeldFlit) : (s.setMoved d l).free = s.free := rfl
@[simp] theorem setMoved_outs (d : Nat) (l : List HeldFlit) : (s.setMoved d l).outs = s.outs := rfl
@[simp] theorem setMoved_time (d : Nat) (l : List HeldFlit) : (s.setMoved d l).time = s.time := rfl
@[simp] theorem setMoved_ev (d : Nat) (l : List HeldFlit) : (s.setMoved d l).ev = s.ev := rfl
@[simp] theorem setMoved_flt (d : Nat) (l : List HeldFlit) : (s.setMoved d l).flt = s.flt := rfl
@[simp] theorem setMoved_groups (d : Nat) (l : List HeldFlit) : (s.setMoved d l).groups = s.groups := rfl
@[simp] theorem setMoved_transit (d : Nat) (l : List HeldFlit) : (s.setMoved d l).transit = s.transit := rfl
@[simp] theorem setMoved_host (d : Nat) (l : List HeldFlit) : (s.setMoved d l).host = s.host := rfl
@[simp] theorem setMoved_fs (d : Nat) (l : List HeldFlit) : (s.setMoved d l).fs = s.fs := rfl
@[simp] theorem setMoved_nv (d : Nat) (l : List HeldFlit) : (s.setMoved d l).nv = s.nv := rfl
@[simp] theorem setMoved_boot (d : Nat) (l : List HeldFlit) : (s.setMoved d l).boot = s.boot := rfl
@[simp] theorem setMoved_pix (d : Nat) (l : List HeldFlit) : (s.setMoved d l).pix = s.pix := rfl
@[simp] theorem setMoved_codec (d : Nat) (l : List HeldFlit) : (s.setMoved d l).codec = s.codec := rfl
@[simp] theorem setMoved_th (d : Nat) (l : List HeldFlit) : (s.setMoved d l).th = s.th := rfl
@[simp] theorem setMoved_ch (d : Nat) (l : List HeldFlit) : (s.setMoved d l).ch = s.ch := rfl
@[simp] theorem setMoved_drv (d : Nat) (l : List HeldFlit) : (s.setMoved d l).drv = s.drv := rfl
@[simp] theorem setMoved_cal (d : Nat) (l : List HeldFlit) : (s.setMoved d l).cal = s.cal := rfl
@[simp] theorem setMoved_arb (d : Nat) (l : List HeldFlit) : (s.setMoved d l).arb = s.arb := rfl
@[simp] theorem setMoved_sec (d : Nat) (l : List HeldFlit) : (s.setMoved d l).sec = s.sec := rfl
@[simp] theorem setMoved_mem (d : Nat) (l : List HeldFlit) : (s.setMoved d l).mem = s.mem := rfl
@[simp] theorem f_setMoved (d : Nat) (l : List HeldFlit) (y : Fld) : (s.setMoved d l).f y = s.f y := rfl

/-! `setRing` -/
@[simp] theorem setRing_pending (k : Nat) (r : Ring) : (s.setRing k r).pending = s.pending := rfl
@[simp] theorem setRing_regs (k : Nat) (r : Ring) : (s.setRing k r).regs = s.regs := rfl
@[simp] theorem setRing_latches (k : Nat) (r : Ring) : (s.setRing k r).latches = s.latches := rfl
@[simp] theorem setRing_w1cAt (k : Nat) (r : Ring) : (s.setRing k r).w1cAt = s.w1cAt := rfl
@[simp] theorem setRing_free (k : Nat) (r : Ring) : (s.setRing k r).free = s.free := rfl
@[simp] theorem setRing_outs (k : Nat) (r : Ring) : (s.setRing k r).outs = s.outs := rfl
@[simp] theorem setRing_time (k : Nat) (r : Ring) : (s.setRing k r).time = s.time := rfl
@[simp] theorem setRing_flt (k : Nat) (r : Ring) : (s.setRing k r).flt = s.flt := rfl
@[simp] theorem setRing_link (k : Nat) (r : Ring) : (s.setRing k r).link = s.link := rfl
@[simp] theorem setRing_groups (k : Nat) (r : Ring) : (s.setRing k r).groups = s.groups := rfl
@[simp] theorem setRing_transit (k : Nat) (r : Ring) : (s.setRing k r).transit = s.transit := rfl
@[simp] theorem setRing_host (k : Nat) (r : Ring) : (s.setRing k r).host = s.host := rfl
@[simp] theorem setRing_fs (k : Nat) (r : Ring) : (s.setRing k r).fs = s.fs := rfl
@[simp] theorem setRing_nv (k : Nat) (r : Ring) : (s.setRing k r).nv = s.nv := rfl
@[simp] theorem setRing_boot (k : Nat) (r : Ring) : (s.setRing k r).boot = s.boot := rfl
@[simp] theorem setRing_pix (k : Nat) (r : Ring) : (s.setRing k r).pix = s.pix := rfl
@[simp] theorem setRing_codec (k : Nat) (r : Ring) : (s.setRing k r).codec = s.codec := rfl
@[simp] theorem setRing_th (k : Nat) (r : Ring) : (s.setRing k r).th = s.th := rfl
@[simp] theorem setRing_ch (k : Nat) (r : Ring) : (s.setRing k r).ch = s.ch := rfl
@[simp] theorem setRing_drv (k : Nat) (r : Ring) : (s.setRing k r).drv = s.drv := rfl
@[simp] theorem setRing_cal (k : Nat) (r : Ring) : (s.setRing k r).cal = s.cal := rfl
@[simp] theorem setRing_arb (k : Nat) (r : Ring) : (s.setRing k r).arb = s.arb := rfl
@[simp] theorem setRing_sec (k : Nat) (r : Ring) : (s.setRing k r).sec = s.sec := rfl
@[simp] theorem setRing_mem (k : Nat) (r : Ring) : (s.setRing k r).mem = s.mem := rfl
@[simp] theorem f_setRing (k : Nat) (r : Ring) (y : Fld) : (s.setRing k r).f y = s.f y := rfl

/-! `setCore` -/
@[simp] theorem setCore_pending (o : Nat) (c : Core) : (s.setCore o c).pending = s.pending := rfl
@[simp] theorem setCore_regs (o : Nat) (c : Core) : (s.setCore o c).regs = s.regs := rfl
@[simp] theorem setCore_latches (o : Nat) (c : Core) : (s.setCore o c).latches = s.latches := rfl
@[simp] theorem setCore_w1cAt (o : Nat) (c : Core) : (s.setCore o c).w1cAt = s.w1cAt := rfl
@[simp] theorem setCore_free (o : Nat) (c : Core) : (s.setCore o c).free = s.free := rfl
@[simp] theorem setCore_outs (o : Nat) (c : Core) : (s.setCore o c).outs = s.outs := rfl
@[simp] theorem setCore_time (o : Nat) (c : Core) : (s.setCore o c).time = s.time := rfl
@[simp] theorem setCore_ev (o : Nat) (c : Core) : (s.setCore o c).ev = s.ev := rfl
@[simp] theorem setCore_flt (o : Nat) (c : Core) : (s.setCore o c).flt = s.flt := rfl
@[simp] theorem setCore_link (o : Nat) (c : Core) : (s.setCore o c).link = s.link := rfl
@[simp] theorem setCore_groups (o : Nat) (c : Core) : (s.setCore o c).groups = s.groups := rfl
@[simp] theorem setCore_transit (o : Nat) (c : Core) : (s.setCore o c).transit = s.transit := rfl
@[simp] theorem setCore_host (o : Nat) (c : Core) : (s.setCore o c).host = s.host := rfl
@[simp] theorem setCore_fs (o : Nat) (c : Core) : (s.setCore o c).fs = s.fs := rfl
@[simp] theorem setCore_nv (o : Nat) (c : Core) : (s.setCore o c).nv = s.nv := rfl
@[simp] theorem setCore_boot (o : Nat) (c : Core) : (s.setCore o c).boot = s.boot := rfl
@[simp] theorem setCore_pix (o : Nat) (c : Core) : (s.setCore o c).pix = s.pix := rfl
@[simp] theorem setCore_codec (o : Nat) (c : Core) : (s.setCore o c).codec = s.codec := rfl
@[simp] theorem setCore_ch (o : Nat) (c : Core) : (s.setCore o c).ch = s.ch := rfl
@[simp] theorem setCore_drv (o : Nat) (c : Core) : (s.setCore o c).drv = s.drv := rfl
@[simp] theorem setCore_cal (o : Nat) (c : Core) : (s.setCore o c).cal = s.cal := rfl
@[simp] theorem setCore_arb (o : Nat) (c : Core) : (s.setCore o c).arb = s.arb := rfl
@[simp] theorem setCore_sec (o : Nat) (c : Core) : (s.setCore o c).sec = s.sec := rfl
@[simp] theorem setCore_mem (o : Nat) (c : Core) : (s.setCore o c).mem = s.mem := rfl
@[simp] theorem f_setCore (o : Nat) (c : Core) (y : Fld) : (s.setCore o c).f y = s.f y := rfl

/-! `setImem` -/
@[simp] theorem setImem_pending (o w v : Nat) : (s.setImem o w v).pending = s.pending := rfl
@[simp] theorem setImem_regs (o w v : Nat) : (s.setImem o w v).regs = s.regs := rfl
@[simp] theorem setImem_latches (o w v : Nat) : (s.setImem o w v).latches = s.latches := rfl
@[simp] theorem setImem_w1cAt (o w v : Nat) : (s.setImem o w v).w1cAt = s.w1cAt := rfl
@[simp] theorem setImem_free (o w v : Nat) : (s.setImem o w v).free = s.free := rfl
@[simp] theorem setImem_outs (o w v : Nat) : (s.setImem o w v).outs = s.outs := rfl
@[simp] theorem setImem_time (o w v : Nat) : (s.setImem o w v).time = s.time := rfl
@[simp] theorem setImem_ev (o w v : Nat) : (s.setImem o w v).ev = s.ev := rfl
@[simp] theorem setImem_flt (o w v : Nat) : (s.setImem o w v).flt = s.flt := rfl
@[simp] theorem setImem_link (o w v : Nat) : (s.setImem o w v).link = s.link := rfl
@[simp] theorem setImem_groups (o w v : Nat) : (s.setImem o w v).groups = s.groups := rfl
@[simp] theorem setImem_transit (o w v : Nat) : (s.setImem o w v).transit = s.transit := rfl
@[simp] theorem setImem_host (o w v : Nat) : (s.setImem o w v).host = s.host := rfl
@[simp] theorem setImem_fs (o w v : Nat) : (s.setImem o w v).fs = s.fs := rfl
@[simp] theorem setImem_nv (o w v : Nat) : (s.setImem o w v).nv = s.nv := rfl
@[simp] theorem setImem_boot (o w v : Nat) : (s.setImem o w v).boot = s.boot := rfl
@[simp] theorem setImem_pix (o w v : Nat) : (s.setImem o w v).pix = s.pix := rfl
@[simp] theorem setImem_codec (o w v : Nat) : (s.setImem o w v).codec = s.codec := rfl
@[simp] theorem setImem_ch (o w v : Nat) : (s.setImem o w v).ch = s.ch := rfl
@[simp] theorem setImem_drv (o w v : Nat) : (s.setImem o w v).drv = s.drv := rfl
@[simp] theorem setImem_cal (o w v : Nat) : (s.setImem o w v).cal = s.cal := rfl
@[simp] theorem setImem_arb (o w v : Nat) : (s.setImem o w v).arb = s.arb := rfl
@[simp] theorem setImem_sec (o w v : Nat) : (s.setImem o w v).sec = s.sec := rfl
@[simp] theorem setImem_mem (o w v : Nat) : (s.setImem o w v).mem = s.mem := rfl
@[simp] theorem f_setImem (o w v : Nat) (y : Fld) : (s.setImem o w v).f y = s.f y := rfl

/-! `setDmem` -/
@[simp] theorem setDmem_pending (o w v : Nat) : (s.setDmem o w v).pending = s.pending := rfl
@[simp] theorem setDmem_regs (o w v : Nat) : (s.setDmem o w v).regs = s.regs := rfl
@[simp] theorem setDmem_latches (o w v : Nat) : (s.setDmem o w v).latches = s.latches := rfl
@[simp] theorem setDmem_w1cAt (o w v : Nat) : (s.setDmem o w v).w1cAt = s.w1cAt := rfl
@[simp] theorem setDmem_free (o w v : Nat) : (s.setDmem o w v).free = s.free := rfl
@[simp] theorem setDmem_outs (o w v : Nat) : (s.setDmem o w v).outs = s.outs := rfl
@[simp] theorem setDmem_time (o w v : Nat) : (s.setDmem o w v).time = s.time := rfl
@[simp] theorem setDmem_ev (o w v : Nat) : (s.setDmem o w v).ev = s.ev := rfl
@[simp] theorem setDmem_flt (o w v : Nat) : (s.setDmem o w v).flt = s.flt := rfl
@[simp] theorem setDmem_link (o w v : Nat) : (s.setDmem o w v).link = s.link := rfl
@[simp] theorem setDmem_groups (o w v : Nat) : (s.setDmem o w v).groups = s.groups := rfl
@[simp] theorem setDmem_transit (o w v : Nat) : (s.setDmem o w v).transit = s.transit := rfl
@[simp] theorem setDmem_host (o w v : Nat) : (s.setDmem o w v).host = s.host := rfl
@[simp] theorem setDmem_fs (o w v : Nat) : (s.setDmem o w v).fs = s.fs := rfl
@[simp] theorem setDmem_nv (o w v : Nat) : (s.setDmem o w v).nv = s.nv := rfl
@[simp] theorem setDmem_boot (o w v : Nat) : (s.setDmem o w v).boot = s.boot := rfl
@[simp] theorem setDmem_pix (o w v : Nat) : (s.setDmem o w v).pix = s.pix := rfl
@[simp] theorem setDmem_codec (o w v : Nat) : (s.setDmem o w v).codec = s.codec := rfl
@[simp] theorem setDmem_ch (o w v : Nat) : (s.setDmem o w v).ch = s.ch := rfl
@[simp] theorem setDmem_drv (o w v : Nat) : (s.setDmem o w v).drv = s.drv := rfl
@[simp] theorem setDmem_cal (o w v : Nat) : (s.setDmem o w v).cal = s.cal := rfl
@[simp] theorem setDmem_arb (o w v : Nat) : (s.setDmem o w v).arb = s.arb := rfl
@[simp] theorem setDmem_sec (o w v : Nat) : (s.setDmem o w v).sec = s.sec := rfl
@[simp] theorem setDmem_mem (o w v : Nat) : (s.setDmem o w v).mem = s.mem := rfl
@[simp] theorem f_setDmem (o w v : Nat) (y : Fld) : (s.setDmem o w v).f y = s.f y := rfl

/-! `setEntry` -/
@[simp] theorem setEntry_pending (c : Nat) (e : Option Entry) : (s.setEntry c e).pending = s.pending := rfl
@[simp] theorem setEntry_regs (c : Nat) (e : Option Entry) : (s.setEntry c e).regs = s.regs := rfl
@[simp] theorem setEntry_latches (c : Nat) (e : Option Entry) : (s.setEntry c e).latches = s.latches := rfl
@[simp] theorem setEntry_w1cAt (c : Nat) (e : Option Entry) : (s.setEntry c e).w1cAt = s.w1cAt := rfl
@[simp] theorem setEntry_free (c : Nat) (e : Option Entry) : (s.setEntry c e).free = s.free := rfl
@[simp] theorem setEntry_outs (c : Nat) (e : Option Entry) : (s.setEntry c e).outs = s.outs := rfl
@[simp] theorem setEntry_time (c : Nat) (e : Option Entry) : (s.setEntry c e).time = s.time := rfl
@[simp] theorem setEntry_ev (c : Nat) (e : Option Entry) : (s.setEntry c e).ev = s.ev := rfl
@[simp] theorem setEntry_flt (c : Nat) (e : Option Entry) : (s.setEntry c e).flt = s.flt := rfl
@[simp] theorem setEntry_link (c : Nat) (e : Option Entry) : (s.setEntry c e).link = s.link := rfl
@[simp] theorem setEntry_groups (c : Nat) (e : Option Entry) : (s.setEntry c e).groups = s.groups := rfl
@[simp] theorem setEntry_transit (c : Nat) (e : Option Entry) : (s.setEntry c e).transit = s.transit := rfl
@[simp] theorem setEntry_host (c : Nat) (e : Option Entry) : (s.setEntry c e).host = s.host := rfl
@[simp] theorem setEntry_fs (c : Nat) (e : Option Entry) : (s.setEntry c e).fs = s.fs := rfl
@[simp] theorem setEntry_nv (c : Nat) (e : Option Entry) : (s.setEntry c e).nv = s.nv := rfl
@[simp] theorem setEntry_boot (c : Nat) (e : Option Entry) : (s.setEntry c e).boot = s.boot := rfl
@[simp] theorem setEntry_pix (c : Nat) (e : Option Entry) : (s.setEntry c e).pix = s.pix := rfl
@[simp] theorem setEntry_codec (c : Nat) (e : Option Entry) : (s.setEntry c e).codec = s.codec := rfl
@[simp] theorem setEntry_ch (c : Nat) (e : Option Entry) : (s.setEntry c e).ch = s.ch := rfl
@[simp] theorem setEntry_drv (c : Nat) (e : Option Entry) : (s.setEntry c e).drv = s.drv := rfl
@[simp] theorem setEntry_cal (c : Nat) (e : Option Entry) : (s.setEntry c e).cal = s.cal := rfl
@[simp] theorem setEntry_arb (c : Nat) (e : Option Entry) : (s.setEntry c e).arb = s.arb := rfl
@[simp] theorem setEntry_sec (c : Nat) (e : Option Entry) : (s.setEntry c e).sec = s.sec := rfl
@[simp] theorem setEntry_mem (c : Nat) (e : Option Entry) : (s.setEntry c e).mem = s.mem := rfl
@[simp] theorem f_setEntry (c : Nat) (e : Option Entry) (y : Fld) : (s.setEntry c e).f y = s.f y := rfl

/-! `setNoServe` -/
@[simp] theorem setNoServe_pending (c : Nat) (b : Bool) : (s.setNoServe c b).pending = s.pending := rfl
@[simp] theorem setNoServe_regs (c : Nat) (b : Bool) : (s.setNoServe c b).regs = s.regs := rfl
@[simp] theorem setNoServe_latches (c : Nat) (b : Bool) : (s.setNoServe c b).latches = s.latches := rfl
@[simp] theorem setNoServe_w1cAt (c : Nat) (b : Bool) : (s.setNoServe c b).w1cAt = s.w1cAt := rfl
@[simp] theorem setNoServe_free (c : Nat) (b : Bool) : (s.setNoServe c b).free = s.free := rfl
@[simp] theorem setNoServe_outs (c : Nat) (b : Bool) : (s.setNoServe c b).outs = s.outs := rfl
@[simp] theorem setNoServe_time (c : Nat) (b : Bool) : (s.setNoServe c b).time = s.time := rfl
@[simp] theorem setNoServe_ev (c : Nat) (b : Bool) : (s.setNoServe c b).ev = s.ev := rfl
@[simp] theorem setNoServe_flt (c : Nat) (b : Bool) : (s.setNoServe c b).flt = s.flt := rfl
@[simp] theorem setNoServe_link (c : Nat) (b : Bool) : (s.setNoServe c b).link = s.link := rfl
@[simp] theorem setNoServe_groups (c : Nat) (b : Bool) : (s.setNoServe c b).groups = s.groups := rfl
@[simp] theorem setNoServe_transit (c : Nat) (b : Bool) : (s.setNoServe c b).transit = s.transit := rfl
@[simp] theorem setNoServe_host (c : Nat) (b : Bool) : (s.setNoServe c b).host = s.host := rfl
@[simp] theorem setNoServe_fs (c : Nat) (b : Bool) : (s.setNoServe c b).fs = s.fs := rfl
@[simp] theorem setNoServe_nv (c : Nat) (b : Bool) : (s.setNoServe c b).nv = s.nv := rfl
@[simp] theorem setNoServe_boot (c : Nat) (b : Bool) : (s.setNoServe c b).boot = s.boot := rfl
@[simp] theorem setNoServe_pix (c : Nat) (b : Bool) : (s.setNoServe c b).pix = s.pix := rfl
@[simp] theorem setNoServe_codec (c : Nat) (b : Bool) : (s.setNoServe c b).codec = s.codec := rfl
@[simp] theorem setNoServe_ch (c : Nat) (b : Bool) : (s.setNoServe c b).ch = s.ch := rfl
@[simp] theorem setNoServe_drv (c : Nat) (b : Bool) : (s.setNoServe c b).drv = s.drv := rfl
@[simp] theorem setNoServe_cal (c : Nat) (b : Bool) : (s.setNoServe c b).cal = s.cal := rfl
@[simp] theorem setNoServe_arb (c : Nat) (b : Bool) : (s.setNoServe c b).arb = s.arb := rfl
@[simp] theorem setNoServe_sec (c : Nat) (b : Bool) : (s.setNoServe c b).sec = s.sec := rfl
@[simp] theorem setNoServe_mem (c : Nat) (b : Bool) : (s.setNoServe c b).mem = s.mem := rfl
@[simp] theorem f_setNoServe (c : Nat) (b : Bool) (y : Fld) : (s.setNoServe c b).f y = s.f y := rfl

/-! `setStopReq` -/
@[simp] theorem setStopReq_pending (q : Nat) (b : Bool) : (s.setStopReq q b).pending = s.pending := rfl
@[simp] theorem setStopReq_regs (q : Nat) (b : Bool) : (s.setStopReq q b).regs = s.regs := rfl
@[simp] theorem setStopReq_latches (q : Nat) (b : Bool) : (s.setStopReq q b).latches = s.latches := rfl
@[simp] theorem setStopReq_w1cAt (q : Nat) (b : Bool) : (s.setStopReq q b).w1cAt = s.w1cAt := rfl
@[simp] theorem setStopReq_free (q : Nat) (b : Bool) : (s.setStopReq q b).free = s.free := rfl
@[simp] theorem setStopReq_outs (q : Nat) (b : Bool) : (s.setStopReq q b).outs = s.outs := rfl
@[simp] theorem setStopReq_time (q : Nat) (b : Bool) : (s.setStopReq q b).time = s.time := rfl
@[simp] theorem setStopReq_ev (q : Nat) (b : Bool) : (s.setStopReq q b).ev = s.ev := rfl
@[simp] theorem setStopReq_flt (q : Nat) (b : Bool) : (s.setStopReq q b).flt = s.flt := rfl
@[simp] theorem setStopReq_link (q : Nat) (b : Bool) : (s.setStopReq q b).link = s.link := rfl
@[simp] theorem setStopReq_groups (q : Nat) (b : Bool) : (s.setStopReq q b).groups = s.groups := rfl
@[simp] theorem setStopReq_transit (q : Nat) (b : Bool) : (s.setStopReq q b).transit = s.transit := rfl
@[simp] theorem setStopReq_host (q : Nat) (b : Bool) : (s.setStopReq q b).host = s.host := rfl
@[simp] theorem setStopReq_fs (q : Nat) (b : Bool) : (s.setStopReq q b).fs = s.fs := rfl
@[simp] theorem setStopReq_nv (q : Nat) (b : Bool) : (s.setStopReq q b).nv = s.nv := rfl
@[simp] theorem setStopReq_boot (q : Nat) (b : Bool) : (s.setStopReq q b).boot = s.boot := rfl
@[simp] theorem setStopReq_pix (q : Nat) (b : Bool) : (s.setStopReq q b).pix = s.pix := rfl
@[simp] theorem setStopReq_codec (q : Nat) (b : Bool) : (s.setStopReq q b).codec = s.codec := rfl
@[simp] theorem setStopReq_ch (q : Nat) (b : Bool) : (s.setStopReq q b).ch = s.ch := rfl
@[simp] theorem setStopReq_drv (q : Nat) (b : Bool) : (s.setStopReq q b).drv = s.drv := rfl
@[simp] theorem setStopReq_cal (q : Nat) (b : Bool) : (s.setStopReq q b).cal = s.cal := rfl
@[simp] theorem setStopReq_arb (q : Nat) (b : Bool) : (s.setStopReq q b).arb = s.arb := rfl
@[simp] theorem setStopReq_sec (q : Nat) (b : Bool) : (s.setStopReq q b).sec = s.sec := rfl
@[simp] theorem setStopReq_mem (q : Nat) (b : Bool) : (s.setStopReq q b).mem = s.mem := rfl
@[simp] theorem f_setStopReq (q : Nat) (b : Bool) (y : Fld) : (s.setStopReq q b).f y = s.f y := rfl

/-! `setLk` -/
@[simp] theorem setLk_pending (n : Nat) (x : LockSt) : (s.setLk n x).pending = s.pending := rfl
@[simp] theorem setLk_regs (n : Nat) (x : LockSt) : (s.setLk n x).regs = s.regs := rfl
@[simp] theorem setLk_latches (n : Nat) (x : LockSt) : (s.setLk n x).latches = s.latches := rfl
@[simp] theorem setLk_w1cAt (n : Nat) (x : LockSt) : (s.setLk n x).w1cAt = s.w1cAt := rfl
@[simp] theorem setLk_free (n : Nat) (x : LockSt) : (s.setLk n x).free = s.free := rfl
@[simp] theorem setLk_outs (n : Nat) (x : LockSt) : (s.setLk n x).outs = s.outs := rfl
@[simp] theorem setLk_time (n : Nat) (x : LockSt) : (s.setLk n x).time = s.time := rfl
@[simp] theorem setLk_ev (n : Nat) (x : LockSt) : (s.setLk n x).ev = s.ev := rfl
@[simp] theorem setLk_flt (n : Nat) (x : LockSt) : (s.setLk n x).flt = s.flt := rfl
@[simp] theorem setLk_link (n : Nat) (x : LockSt) : (s.setLk n x).link = s.link := rfl
@[simp] theorem setLk_groups (n : Nat) (x : LockSt) : (s.setLk n x).groups = s.groups := rfl
@[simp] theorem setLk_transit (n : Nat) (x : LockSt) : (s.setLk n x).transit = s.transit := rfl
@[simp] theorem setLk_host (n : Nat) (x : LockSt) : (s.setLk n x).host = s.host := rfl
@[simp] theorem setLk_fs (n : Nat) (x : LockSt) : (s.setLk n x).fs = s.fs := rfl
@[simp] theorem setLk_nv (n : Nat) (x : LockSt) : (s.setLk n x).nv = s.nv := rfl
@[simp] theorem setLk_boot (n : Nat) (x : LockSt) : (s.setLk n x).boot = s.boot := rfl
@[simp] theorem setLk_pix (n : Nat) (x : LockSt) : (s.setLk n x).pix = s.pix := rfl
@[simp] theorem setLk_codec (n : Nat) (x : LockSt) : (s.setLk n x).codec = s.codec := rfl
@[simp] theorem setLk_ch (n : Nat) (x : LockSt) : (s.setLk n x).ch = s.ch := rfl
@[simp] theorem setLk_drv (n : Nat) (x : LockSt) : (s.setLk n x).drv = s.drv := rfl
@[simp] theorem setLk_cal (n : Nat) (x : LockSt) : (s.setLk n x).cal = s.cal := rfl
@[simp] theorem setLk_arb (n : Nat) (x : LockSt) : (s.setLk n x).arb = s.arb := rfl
@[simp] theorem setLk_sec (n : Nat) (x : LockSt) : (s.setLk n x).sec = s.sec := rfl
@[simp] theorem setLk_mem (n : Nat) (x : LockSt) : (s.setLk n x).mem = s.mem := rfl
@[simp] theorem f_setLk (n : Nat) (x : LockSt) (y : Fld) : (s.setLk n x).f y = s.f y := rfl

/-! `setPin` -/
@[simp] theorem setPin_pending (p : Nat) (x : GtoPin) : (s.setPin p x).pending = s.pending := rfl
@[simp] theorem setPin_regs (p : Nat) (x : GtoPin) : (s.setPin p x).regs = s.regs := rfl
@[simp] theorem setPin_latches (p : Nat) (x : GtoPin) : (s.setPin p x).latches = s.latches := rfl
@[simp] theorem setPin_w1cAt (p : Nat) (x : GtoPin) : (s.setPin p x).w1cAt = s.w1cAt := rfl
@[simp] theorem setPin_free (p : Nat) (x : GtoPin) : (s.setPin p x).free = s.free := rfl
@[simp] theorem setPin_outs (p : Nat) (x : GtoPin) : (s.setPin p x).outs = s.outs := rfl
@[simp] theorem setPin_time (p : Nat) (x : GtoPin) : (s.setPin p x).time = s.time := rfl
@[simp] theorem setPin_ev (p : Nat) (x : GtoPin) : (s.setPin p x).ev = s.ev := rfl
@[simp] theorem setPin_flt (p : Nat) (x : GtoPin) : (s.setPin p x).flt = s.flt := rfl
@[simp] theorem setPin_link (p : Nat) (x : GtoPin) : (s.setPin p x).link = s.link := rfl
@[simp] theorem setPin_groups (p : Nat) (x : GtoPin) : (s.setPin p x).groups = s.groups := rfl
@[simp] theorem setPin_transit (p : Nat) (x : GtoPin) : (s.setPin p x).transit = s.transit := rfl
@[simp] theorem setPin_host (p : Nat) (x : GtoPin) : (s.setPin p x).host = s.host := rfl
@[simp] theorem setPin_fs (p : Nat) (x : GtoPin) : (s.setPin p x).fs = s.fs := rfl
@[simp] theorem setPin_nv (p : Nat) (x : GtoPin) : (s.setPin p x).nv = s.nv := rfl
@[simp] theorem setPin_boot (p : Nat) (x : GtoPin) : (s.setPin p x).boot = s.boot := rfl
@[simp] theorem setPin_pix (p : Nat) (x : GtoPin) : (s.setPin p x).pix = s.pix := rfl
@[simp] theorem setPin_codec (p : Nat) (x : GtoPin) : (s.setPin p x).codec = s.codec := rfl
@[simp] theorem setPin_ch (p : Nat) (x : GtoPin) : (s.setPin p x).ch = s.ch := rfl
@[simp] theorem setPin_drv (p : Nat) (x : GtoPin) : (s.setPin p x).drv = s.drv := rfl
@[simp] theorem setPin_cal (p : Nat) (x : GtoPin) : (s.setPin p x).cal = s.cal := rfl
@[simp] theorem setPin_arb (p : Nat) (x : GtoPin) : (s.setPin p x).arb = s.arb := rfl
@[simp] theorem setPin_sec (p : Nat) (x : GtoPin) : (s.setPin p x).sec = s.sec := rfl
@[simp] theorem setPin_mem (p : Nat) (x : GtoPin) : (s.setPin p x).mem = s.mem := rfl
@[simp] theorem f_setPin (p : Nat) (x : GtoPin) (y : Fld) : (s.setPin p x).f y = s.f y := rfl

/-! `setRail` -/
@[simp] theorem setRail_pending (r : Nat) (x : RailSt) : (s.setRail r x).pending = s.pending := rfl
@[simp] theorem setRail_regs (r : Nat) (x : RailSt) : (s.setRail r x).regs = s.regs := rfl
@[simp] theorem setRail_latches (r : Nat) (x : RailSt) : (s.setRail r x).latches = s.latches := rfl
@[simp] theorem setRail_w1cAt (r : Nat) (x : RailSt) : (s.setRail r x).w1cAt = s.w1cAt := rfl
@[simp] theorem setRail_free (r : Nat) (x : RailSt) : (s.setRail r x).free = s.free := rfl
@[simp] theorem setRail_outs (r : Nat) (x : RailSt) : (s.setRail r x).outs = s.outs := rfl
@[simp] theorem setRail_time (r : Nat) (x : RailSt) : (s.setRail r x).time = s.time := rfl
@[simp] theorem setRail_ev (r : Nat) (x : RailSt) : (s.setRail r x).ev = s.ev := rfl
@[simp] theorem setRail_flt (r : Nat) (x : RailSt) : (s.setRail r x).flt = s.flt := rfl
@[simp] theorem setRail_link (r : Nat) (x : RailSt) : (s.setRail r x).link = s.link := rfl
@[simp] theorem setRail_groups (r : Nat) (x : RailSt) : (s.setRail r x).groups = s.groups := rfl
@[simp] theorem setRail_transit (r : Nat) (x : RailSt) : (s.setRail r x).transit = s.transit := rfl
@[simp] theorem setRail_host (r : Nat) (x : RailSt) : (s.setRail r x).host = s.host := rfl
@[simp] theorem setRail_fs (r : Nat) (x : RailSt) : (s.setRail r x).fs = s.fs := rfl
@[simp] theorem setRail_nv (r : Nat) (x : RailSt) : (s.setRail r x).nv = s.nv := rfl
@[simp] theorem setRail_boot (r : Nat) (x : RailSt) : (s.setRail r x).boot = s.boot := rfl
@[simp] theorem setRail_pix (r : Nat) (x : RailSt) : (s.setRail r x).pix = s.pix := rfl
@[simp] theorem setRail_codec (r : Nat) (x : RailSt) : (s.setRail r x).codec = s.codec := rfl
@[simp] theorem setRail_th (r : Nat) (x : RailSt) : (s.setRail r x).th = s.th := rfl
@[simp] theorem setRail_ch (r : Nat) (x : RailSt) : (s.setRail r x).ch = s.ch := rfl
@[simp] theorem setRail_cal (r : Nat) (x : RailSt) : (s.setRail r x).cal = s.cal := rfl
@[simp] theorem setRail_arb (r : Nat) (x : RailSt) : (s.setRail r x).arb = s.arb := rfl
@[simp] theorem setRail_sec (r : Nat) (x : RailSt) : (s.setRail r x).sec = s.sec := rfl
@[simp] theorem setRail_mem (r : Nat) (x : RailSt) : (s.setRail r x).mem = s.mem := rfl
@[simp] theorem f_setRail (r : Nat) (x : RailSt) (y : Fld) : (s.setRail r x).f y = s.f y := rfl

/-! `setPwr` -/
@[simp] theorem setPwr_pending (g : Nat) (x : PwrSt) : (s.setPwr g x).pending = s.pending := rfl
@[simp] theorem setPwr_regs (g : Nat) (x : PwrSt) : (s.setPwr g x).regs = s.regs := rfl
@[simp] theorem setPwr_latches (g : Nat) (x : PwrSt) : (s.setPwr g x).latches = s.latches := rfl
@[simp] theorem setPwr_w1cAt (g : Nat) (x : PwrSt) : (s.setPwr g x).w1cAt = s.w1cAt := rfl
@[simp] theorem setPwr_free (g : Nat) (x : PwrSt) : (s.setPwr g x).free = s.free := rfl
@[simp] theorem setPwr_outs (g : Nat) (x : PwrSt) : (s.setPwr g x).outs = s.outs := rfl
@[simp] theorem setPwr_time (g : Nat) (x : PwrSt) : (s.setPwr g x).time = s.time := rfl
@[simp] theorem setPwr_ev (g : Nat) (x : PwrSt) : (s.setPwr g x).ev = s.ev := rfl
@[simp] theorem setPwr_flt (g : Nat) (x : PwrSt) : (s.setPwr g x).flt = s.flt := rfl
@[simp] theorem setPwr_link (g : Nat) (x : PwrSt) : (s.setPwr g x).link = s.link := rfl
@[simp] theorem setPwr_groups (g : Nat) (x : PwrSt) : (s.setPwr g x).groups = s.groups := rfl
@[simp] theorem setPwr_transit (g : Nat) (x : PwrSt) : (s.setPwr g x).transit = s.transit := rfl
@[simp] theorem setPwr_host (g : Nat) (x : PwrSt) : (s.setPwr g x).host = s.host := rfl
@[simp] theorem setPwr_fs (g : Nat) (x : PwrSt) : (s.setPwr g x).fs = s.fs := rfl
@[simp] theorem setPwr_nv (g : Nat) (x : PwrSt) : (s.setPwr g x).nv = s.nv := rfl
@[simp] theorem setPwr_boot (g : Nat) (x : PwrSt) : (s.setPwr g x).boot = s.boot := rfl
@[simp] theorem setPwr_pix (g : Nat) (x : PwrSt) : (s.setPwr g x).pix = s.pix := rfl
@[simp] theorem setPwr_codec (g : Nat) (x : PwrSt) : (s.setPwr g x).codec = s.codec := rfl
@[simp] theorem setPwr_th (g : Nat) (x : PwrSt) : (s.setPwr g x).th = s.th := rfl
@[simp] theorem setPwr_ch (g : Nat) (x : PwrSt) : (s.setPwr g x).ch = s.ch := rfl
@[simp] theorem setPwr_cal (g : Nat) (x : PwrSt) : (s.setPwr g x).cal = s.cal := rfl
@[simp] theorem setPwr_arb (g : Nat) (x : PwrSt) : (s.setPwr g x).arb = s.arb := rfl
@[simp] theorem setPwr_sec (g : Nat) (x : PwrSt) : (s.setPwr g x).sec = s.sec := rfl
@[simp] theorem setPwr_mem (g : Nat) (x : PwrSt) : (s.setPwr g x).mem = s.mem := rfl
@[simp] theorem f_setPwr (g : Nat) (x : PwrSt) (y : Fld) : (s.setPwr g x).f y = s.f y := rfl

/-! `setBisReg` -/
@[simp] theorem setBisReg_pending (f : Fld) (q : Req) (v : Nat) : (s.setBisReg f q v).pending = s.pending := rfl
@[simp] theorem setBisReg_regs (f : Fld) (q : Req) (v : Nat) : (s.setBisReg f q v).regs = s.regs := rfl
@[simp] theorem setBisReg_latches (f : Fld) (q : Req) (v : Nat) : (s.setBisReg f q v).latches = s.latches := rfl
@[simp] theorem setBisReg_w1cAt (f : Fld) (q : Req) (v : Nat) : (s.setBisReg f q v).w1cAt = s.w1cAt := rfl
@[simp] theorem setBisReg_free (f : Fld) (q : Req) (v : Nat) : (s.setBisReg f q v).free = s.free := rfl
@[simp] theorem setBisReg_outs (f : Fld) (q : Req) (v : Nat) : (s.setBisReg f q v).outs = s.outs := rfl
@[simp] theorem setBisReg_time (f : Fld) (q : Req) (v : Nat) : (s.setBisReg f q v).time = s.time := rfl
@[simp] theorem setBisReg_ev (f : Fld) (q : Req) (v : Nat) : (s.setBisReg f q v).ev = s.ev := rfl
@[simp] theorem setBisReg_flt (f : Fld) (q : Req) (v : Nat) : (s.setBisReg f q v).flt = s.flt := rfl
@[simp] theorem setBisReg_link (f : Fld) (q : Req) (v : Nat) : (s.setBisReg f q v).link = s.link := rfl
@[simp] theorem setBisReg_groups (f : Fld) (q : Req) (v : Nat) : (s.setBisReg f q v).groups = s.groups := rfl
@[simp] theorem setBisReg_transit (f : Fld) (q : Req) (v : Nat) : (s.setBisReg f q v).transit = s.transit := rfl
@[simp] theorem setBisReg_host (f : Fld) (q : Req) (v : Nat) : (s.setBisReg f q v).host = s.host := rfl
@[simp] theorem setBisReg_fs (f : Fld) (q : Req) (v : Nat) : (s.setBisReg f q v).fs = s.fs := rfl
@[simp] theorem setBisReg_nv (f : Fld) (q : Req) (v : Nat) : (s.setBisReg f q v).nv = s.nv := rfl
@[simp] theorem setBisReg_boot (f : Fld) (q : Req) (v : Nat) : (s.setBisReg f q v).boot = s.boot := rfl
@[simp] theorem setBisReg_pix (f : Fld) (q : Req) (v : Nat) : (s.setBisReg f q v).pix = s.pix := rfl
@[simp] theorem setBisReg_codec (f : Fld) (q : Req) (v : Nat) : (s.setBisReg f q v).codec = s.codec := rfl
@[simp] theorem setBisReg_th (f : Fld) (q : Req) (v : Nat) : (s.setBisReg f q v).th = s.th := rfl
@[simp] theorem setBisReg_ch (f : Fld) (q : Req) (v : Nat) : (s.setBisReg f q v).ch = s.ch := rfl
@[simp] theorem setBisReg_cal (f : Fld) (q : Req) (v : Nat) : (s.setBisReg f q v).cal = s.cal := rfl
@[simp] theorem setBisReg_arb (f : Fld) (q : Req) (v : Nat) : (s.setBisReg f q v).arb = s.arb := rfl
@[simp] theorem setBisReg_sec (f : Fld) (q : Req) (v : Nat) : (s.setBisReg f q v).sec = s.sec := rfl
@[simp] theorem setBisReg_mem (f : Fld) (q : Req) (v : Nat) : (s.setBisReg f q v).mem = s.mem := rfl
@[simp] theorem f_setBisReg (f : Fld) (q : Req) (v : Nat) (y : Fld) : (s.setBisReg f q v).f y = s.f y := rfl

/-! `setCalRun` -/
@[simp] theorem setCalRun_pending (i : Nat) (t : Option Nat) : (s.setCalRun i t).pending = s.pending := rfl
@[simp] theorem setCalRun_regs (i : Nat) (t : Option Nat) : (s.setCalRun i t).regs = s.regs := rfl
@[simp] theorem setCalRun_latches (i : Nat) (t : Option Nat) : (s.setCalRun i t).latches = s.latches := rfl
@[simp] theorem setCalRun_w1cAt (i : Nat) (t : Option Nat) : (s.setCalRun i t).w1cAt = s.w1cAt := rfl
@[simp] theorem setCalRun_free (i : Nat) (t : Option Nat) : (s.setCalRun i t).free = s.free := rfl
@[simp] theorem setCalRun_outs (i : Nat) (t : Option Nat) : (s.setCalRun i t).outs = s.outs := rfl
@[simp] theorem setCalRun_time (i : Nat) (t : Option Nat) : (s.setCalRun i t).time = s.time := rfl
@[simp] theorem setCalRun_ev (i : Nat) (t : Option Nat) : (s.setCalRun i t).ev = s.ev := rfl
@[simp] theorem setCalRun_flt (i : Nat) (t : Option Nat) : (s.setCalRun i t).flt = s.flt := rfl
@[simp] theorem setCalRun_link (i : Nat) (t : Option Nat) : (s.setCalRun i t).link = s.link := rfl
@[simp] theorem setCalRun_groups (i : Nat) (t : Option Nat) : (s.setCalRun i t).groups = s.groups := rfl
@[simp] theorem setCalRun_transit (i : Nat) (t : Option Nat) : (s.setCalRun i t).transit = s.transit := rfl
@[simp] theorem setCalRun_host (i : Nat) (t : Option Nat) : (s.setCalRun i t).host = s.host := rfl
@[simp] theorem setCalRun_fs (i : Nat) (t : Option Nat) : (s.setCalRun i t).fs = s.fs := rfl
@[simp] theorem setCalRun_nv (i : Nat) (t : Option Nat) : (s.setCalRun i t).nv = s.nv := rfl
@[simp] theorem setCalRun_boot (i : Nat) (t : Option Nat) : (s.setCalRun i t).boot = s.boot := rfl
@[simp] theorem setCalRun_pix (i : Nat) (t : Option Nat) : (s.setCalRun i t).pix = s.pix := rfl
@[simp] theorem setCalRun_codec (i : Nat) (t : Option Nat) : (s.setCalRun i t).codec = s.codec := rfl
@[simp] theorem setCalRun_th (i : Nat) (t : Option Nat) : (s.setCalRun i t).th = s.th := rfl
@[simp] theorem setCalRun_ch (i : Nat) (t : Option Nat) : (s.setCalRun i t).ch = s.ch := rfl
@[simp] theorem setCalRun_drv (i : Nat) (t : Option Nat) : (s.setCalRun i t).drv = s.drv := rfl
@[simp] theorem setCalRun_arb (i : Nat) (t : Option Nat) : (s.setCalRun i t).arb = s.arb := rfl
@[simp] theorem setCalRun_sec (i : Nat) (t : Option Nat) : (s.setCalRun i t).sec = s.sec := rfl
@[simp] theorem setCalRun_mem (i : Nat) (t : Option Nat) : (s.setCalRun i t).mem = s.mem := rfl
@[simp] theorem f_setCalRun (i : Nat) (t : Option Nat) (y : Fld) : (s.setCalRun i t).f y = s.f y := rfl

/-! `setCalTrim` -/
@[simp] theorem setCalTrim_pending (i : Nat) (b : Bool) : (s.setCalTrim i b).pending = s.pending := rfl
@[simp] theorem setCalTrim_regs (i : Nat) (b : Bool) : (s.setCalTrim i b).regs = s.regs := rfl
@[simp] theorem setCalTrim_latches (i : Nat) (b : Bool) : (s.setCalTrim i b).latches = s.latches := rfl
@[simp] theorem setCalTrim_w1cAt (i : Nat) (b : Bool) : (s.setCalTrim i b).w1cAt = s.w1cAt := rfl
@[simp] theorem setCalTrim_free (i : Nat) (b : Bool) : (s.setCalTrim i b).free = s.free := rfl
@[simp] theorem setCalTrim_outs (i : Nat) (b : Bool) : (s.setCalTrim i b).outs = s.outs := rfl
@[simp] theorem setCalTrim_time (i : Nat) (b : Bool) : (s.setCalTrim i b).time = s.time := rfl
@[simp] theorem setCalTrim_ev (i : Nat) (b : Bool) : (s.setCalTrim i b).ev = s.ev := rfl
@[simp] theorem setCalTrim_flt (i : Nat) (b : Bool) : (s.setCalTrim i b).flt = s.flt := rfl
@[simp] theorem setCalTrim_link (i : Nat) (b : Bool) : (s.setCalTrim i b).link = s.link := rfl
@[simp] theorem setCalTrim_groups (i : Nat) (b : Bool) : (s.setCalTrim i b).groups = s.groups := rfl
@[simp] theorem setCalTrim_transit (i : Nat) (b : Bool) : (s.setCalTrim i b).transit = s.transit := rfl
@[simp] theorem setCalTrim_host (i : Nat) (b : Bool) : (s.setCalTrim i b).host = s.host := rfl
@[simp] theorem setCalTrim_fs (i : Nat) (b : Bool) : (s.setCalTrim i b).fs = s.fs := rfl
@[simp] theorem setCalTrim_nv (i : Nat) (b : Bool) : (s.setCalTrim i b).nv = s.nv := rfl
@[simp] theorem setCalTrim_boot (i : Nat) (b : Bool) : (s.setCalTrim i b).boot = s.boot := rfl
@[simp] theorem setCalTrim_pix (i : Nat) (b : Bool) : (s.setCalTrim i b).pix = s.pix := rfl
@[simp] theorem setCalTrim_codec (i : Nat) (b : Bool) : (s.setCalTrim i b).codec = s.codec := rfl
@[simp] theorem setCalTrim_th (i : Nat) (b : Bool) : (s.setCalTrim i b).th = s.th := rfl
@[simp] theorem setCalTrim_ch (i : Nat) (b : Bool) : (s.setCalTrim i b).ch = s.ch := rfl
@[simp] theorem setCalTrim_drv (i : Nat) (b : Bool) : (s.setCalTrim i b).drv = s.drv := rfl
@[simp] theorem setCalTrim_arb (i : Nat) (b : Bool) : (s.setCalTrim i b).arb = s.arb := rfl
@[simp] theorem setCalTrim_sec (i : Nat) (b : Bool) : (s.setCalTrim i b).sec = s.sec := rfl
@[simp] theorem setCalTrim_mem (i : Nat) (b : Bool) : (s.setCalTrim i b).mem = s.mem := rfl
@[simp] theorem f_setCalTrim (i : Nat) (b : Bool) (y : Fld) : (s.setCalTrim i b).f y = s.f y := rfl

/-! `setFold` -/
@[simp] theorem setFold_pending (g : Nat) (x : FoldSt) : (s.setFold g x).pending = s.pending := rfl
@[simp] theorem setFold_regs (g : Nat) (x : FoldSt) : (s.setFold g x).regs = s.regs := rfl
@[simp] theorem setFold_latches (g : Nat) (x : FoldSt) : (s.setFold g x).latches = s.latches := rfl
@[simp] theorem setFold_w1cAt (g : Nat) (x : FoldSt) : (s.setFold g x).w1cAt = s.w1cAt := rfl
@[simp] theorem setFold_free (g : Nat) (x : FoldSt) : (s.setFold g x).free = s.free := rfl
@[simp] theorem setFold_outs (g : Nat) (x : FoldSt) : (s.setFold g x).outs = s.outs := rfl
@[simp] theorem setFold_time (g : Nat) (x : FoldSt) : (s.setFold g x).time = s.time := rfl
@[simp] theorem setFold_ev (g : Nat) (x : FoldSt) : (s.setFold g x).ev = s.ev := rfl
@[simp] theorem setFold_flt (g : Nat) (x : FoldSt) : (s.setFold g x).flt = s.flt := rfl
@[simp] theorem setFold_link (g : Nat) (x : FoldSt) : (s.setFold g x).link = s.link := rfl
@[simp] theorem setFold_groups (g : Nat) (x : FoldSt) : (s.setFold g x).groups = s.groups := rfl
@[simp] theorem setFold_transit (g : Nat) (x : FoldSt) : (s.setFold g x).transit = s.transit := rfl
@[simp] theorem setFold_host (g : Nat) (x : FoldSt) : (s.setFold g x).host = s.host := rfl
@[simp] theorem setFold_fs (g : Nat) (x : FoldSt) : (s.setFold g x).fs = s.fs := rfl
@[simp] theorem setFold_nv (g : Nat) (x : FoldSt) : (s.setFold g x).nv = s.nv := rfl
@[simp] theorem setFold_boot (g : Nat) (x : FoldSt) : (s.setFold g x).boot = s.boot := rfl
@[simp] theorem setFold_pix (g : Nat) (x : FoldSt) : (s.setFold g x).pix = s.pix := rfl
@[simp] theorem setFold_codec (g : Nat) (x : FoldSt) : (s.setFold g x).codec = s.codec := rfl
@[simp] theorem setFold_th (g : Nat) (x : FoldSt) : (s.setFold g x).th = s.th := rfl
@[simp] theorem setFold_ch (g : Nat) (x : FoldSt) : (s.setFold g x).ch = s.ch := rfl
@[simp] theorem setFold_drv (g : Nat) (x : FoldSt) : (s.setFold g x).drv = s.drv := rfl
@[simp] theorem setFold_arb (g : Nat) (x : FoldSt) : (s.setFold g x).arb = s.arb := rfl
@[simp] theorem setFold_sec (g : Nat) (x : FoldSt) : (s.setFold g x).sec = s.sec := rfl
@[simp] theorem setFold_mem (g : Nat) (x : FoldSt) : (s.setFold g x).mem = s.mem := rfl
@[simp] theorem f_setFold (g : Nat) (x : FoldSt) (y : Fld) : (s.setFold g x).f y = s.f y := rfl

/-! `setAcc` -/
@[simp] theorem setAcc_pending (k : Nat) (a : Acc) : (s.setAcc k a).pending = s.pending := rfl
@[simp] theorem setAcc_regs (k : Nat) (a : Acc) : (s.setAcc k a).regs = s.regs := rfl
@[simp] theorem setAcc_latches (k : Nat) (a : Acc) : (s.setAcc k a).latches = s.latches := rfl
@[simp] theorem setAcc_w1cAt (k : Nat) (a : Acc) : (s.setAcc k a).w1cAt = s.w1cAt := rfl
@[simp] theorem setAcc_free (k : Nat) (a : Acc) : (s.setAcc k a).free = s.free := rfl
@[simp] theorem setAcc_outs (k : Nat) (a : Acc) : (s.setAcc k a).outs = s.outs := rfl
@[simp] theorem setAcc_time (k : Nat) (a : Acc) : (s.setAcc k a).time = s.time := rfl
@[simp] theorem setAcc_ev (k : Nat) (a : Acc) : (s.setAcc k a).ev = s.ev := rfl
@[simp] theorem setAcc_flt (k : Nat) (a : Acc) : (s.setAcc k a).flt = s.flt := rfl
@[simp] theorem setAcc_link (k : Nat) (a : Acc) : (s.setAcc k a).link = s.link := rfl
@[simp] theorem setAcc_groups (k : Nat) (a : Acc) : (s.setAcc k a).groups = s.groups := rfl
@[simp] theorem setAcc_transit (k : Nat) (a : Acc) : (s.setAcc k a).transit = s.transit := rfl
@[simp] theorem setAcc_host (k : Nat) (a : Acc) : (s.setAcc k a).host = s.host := rfl
@[simp] theorem setAcc_fs (k : Nat) (a : Acc) : (s.setAcc k a).fs = s.fs := rfl
@[simp] theorem setAcc_nv (k : Nat) (a : Acc) : (s.setAcc k a).nv = s.nv := rfl
@[simp] theorem setAcc_boot (k : Nat) (a : Acc) : (s.setAcc k a).boot = s.boot := rfl
@[simp] theorem setAcc_pix (k : Nat) (a : Acc) : (s.setAcc k a).pix = s.pix := rfl
@[simp] theorem setAcc_codec (k : Nat) (a : Acc) : (s.setAcc k a).codec = s.codec := rfl
@[simp] theorem setAcc_th (k : Nat) (a : Acc) : (s.setAcc k a).th = s.th := rfl
@[simp] theorem setAcc_ch (k : Nat) (a : Acc) : (s.setAcc k a).ch = s.ch := rfl
@[simp] theorem setAcc_drv (k : Nat) (a : Acc) : (s.setAcc k a).drv = s.drv := rfl
@[simp] theorem setAcc_arb (k : Nat) (a : Acc) : (s.setAcc k a).arb = s.arb := rfl
@[simp] theorem setAcc_sec (k : Nat) (a : Acc) : (s.setAcc k a).sec = s.sec := rfl
@[simp] theorem setAcc_mem (k : Nat) (a : Acc) : (s.setAcc k a).mem = s.mem := rfl
@[simp] theorem f_setAcc (k : Nat) (a : Acc) (y : Fld) : (s.setAcc k a).f y = s.f y := rfl

/-! `setNextSeq` -/
@[simp] theorem setNextSeq_pending (c p sp v : Nat) : (s.setNextSeq c p sp v).pending = s.pending := rfl
@[simp] theorem setNextSeq_regs (c p sp v : Nat) : (s.setNextSeq c p sp v).regs = s.regs := rfl
@[simp] theorem setNextSeq_latches (c p sp v : Nat) : (s.setNextSeq c p sp v).latches = s.latches := rfl
@[simp] theorem setNextSeq_w1cAt (c p sp v : Nat) : (s.setNextSeq c p sp v).w1cAt = s.w1cAt := rfl
@[simp] theorem setNextSeq_free (c p sp v : Nat) : (s.setNextSeq c p sp v).free = s.free := rfl
@[simp] theorem setNextSeq_outs (c p sp v : Nat) : (s.setNextSeq c p sp v).outs = s.outs := rfl
@[simp] theorem setNextSeq_time (c p sp v : Nat) : (s.setNextSeq c p sp v).time = s.time := rfl
@[simp] theorem setNextSeq_ev (c p sp v : Nat) : (s.setNextSeq c p sp v).ev = s.ev := rfl
@[simp] theorem setNextSeq_flt (c p sp v : Nat) : (s.setNextSeq c p sp v).flt = s.flt := rfl
@[simp] theorem setNextSeq_link (c p sp v : Nat) : (s.setNextSeq c p sp v).link = s.link := rfl
@[simp] theorem setNextSeq_groups (c p sp v : Nat) : (s.setNextSeq c p sp v).groups = s.groups := rfl
@[simp] theorem setNextSeq_transit (c p sp v : Nat) : (s.setNextSeq c p sp v).transit = s.transit := rfl
@[simp] theorem setNextSeq_host (c p sp v : Nat) : (s.setNextSeq c p sp v).host = s.host := rfl
@[simp] theorem setNextSeq_fs (c p sp v : Nat) : (s.setNextSeq c p sp v).fs = s.fs := rfl
@[simp] theorem setNextSeq_nv (c p sp v : Nat) : (s.setNextSeq c p sp v).nv = s.nv := rfl
@[simp] theorem setNextSeq_boot (c p sp v : Nat) : (s.setNextSeq c p sp v).boot = s.boot := rfl
@[simp] theorem setNextSeq_pix (c p sp v : Nat) : (s.setNextSeq c p sp v).pix = s.pix := rfl
@[simp] theorem setNextSeq_codec (c p sp v : Nat) : (s.setNextSeq c p sp v).codec = s.codec := rfl
@[simp] theorem setNextSeq_th (c p sp v : Nat) : (s.setNextSeq c p sp v).th = s.th := rfl
@[simp] theorem setNextSeq_drv (c p sp v : Nat) : (s.setNextSeq c p sp v).drv = s.drv := rfl
@[simp] theorem setNextSeq_cal (c p sp v : Nat) : (s.setNextSeq c p sp v).cal = s.cal := rfl
@[simp] theorem setNextSeq_arb (c p sp v : Nat) : (s.setNextSeq c p sp v).arb = s.arb := rfl
@[simp] theorem setNextSeq_sec (c p sp v : Nat) : (s.setNextSeq c p sp v).sec = s.sec := rfl
@[simp] theorem setNextSeq_mem (c p sp v : Nat) : (s.setNextSeq c p sp v).mem = s.mem := rfl
@[simp] theorem f_setNextSeq (c p sp v : Nat) (y : Fld) : (s.setNextSeq c p sp v).f y = s.f y := rfl

/-! `setTile` -/
@[simp] theorem setTile_pending (p bx by_ : Nat) (b : Option TileBlk) : (s.setTile p bx by_ b).pending = s.pending := rfl
@[simp] theorem setTile_regs (p bx by_ : Nat) (b : Option TileBlk) : (s.setTile p bx by_ b).regs = s.regs := rfl
@[simp] theorem setTile_latches (p bx by_ : Nat) (b : Option TileBlk) : (s.setTile p bx by_ b).latches = s.latches := rfl
@[simp] theorem setTile_w1cAt (p bx by_ : Nat) (b : Option TileBlk) : (s.setTile p bx by_ b).w1cAt = s.w1cAt := rfl
@[simp] theorem setTile_free (p bx by_ : Nat) (b : Option TileBlk) : (s.setTile p bx by_ b).free = s.free := rfl
@[simp] theorem setTile_outs (p bx by_ : Nat) (b : Option TileBlk) : (s.setTile p bx by_ b).outs = s.outs := rfl
@[simp] theorem setTile_time (p bx by_ : Nat) (b : Option TileBlk) : (s.setTile p bx by_ b).time = s.time := rfl
@[simp] theorem setTile_ev (p bx by_ : Nat) (b : Option TileBlk) : (s.setTile p bx by_ b).ev = s.ev := rfl
@[simp] theorem setTile_flt (p bx by_ : Nat) (b : Option TileBlk) : (s.setTile p bx by_ b).flt = s.flt := rfl
@[simp] theorem setTile_link (p bx by_ : Nat) (b : Option TileBlk) : (s.setTile p bx by_ b).link = s.link := rfl
@[simp] theorem setTile_groups (p bx by_ : Nat) (b : Option TileBlk) : (s.setTile p bx by_ b).groups = s.groups := rfl
@[simp] theorem setTile_transit (p bx by_ : Nat) (b : Option TileBlk) : (s.setTile p bx by_ b).transit = s.transit := rfl
@[simp] theorem setTile_host (p bx by_ : Nat) (b : Option TileBlk) : (s.setTile p bx by_ b).host = s.host := rfl
@[simp] theorem setTile_fs (p bx by_ : Nat) (b : Option TileBlk) : (s.setTile p bx by_ b).fs = s.fs := rfl
@[simp] theorem setTile_nv (p bx by_ : Nat) (b : Option TileBlk) : (s.setTile p bx by_ b).nv = s.nv := rfl
@[simp] theorem setTile_boot (p bx by_ : Nat) (b : Option TileBlk) : (s.setTile p bx by_ b).boot = s.boot := rfl
@[simp] theorem setTile_pix (p bx by_ : Nat) (b : Option TileBlk) : (s.setTile p bx by_ b).pix = s.pix := rfl
@[simp] theorem setTile_th (p bx by_ : Nat) (b : Option TileBlk) : (s.setTile p bx by_ b).th = s.th := rfl
@[simp] theorem setTile_ch (p bx by_ : Nat) (b : Option TileBlk) : (s.setTile p bx by_ b).ch = s.ch := rfl
@[simp] theorem setTile_drv (p bx by_ : Nat) (b : Option TileBlk) : (s.setTile p bx by_ b).drv = s.drv := rfl
@[simp] theorem setTile_cal (p bx by_ : Nat) (b : Option TileBlk) : (s.setTile p bx by_ b).cal = s.cal := rfl
@[simp] theorem setTile_arb (p bx by_ : Nat) (b : Option TileBlk) : (s.setTile p bx by_ b).arb = s.arb := rfl
@[simp] theorem setTile_sec (p bx by_ : Nat) (b : Option TileBlk) : (s.setTile p bx by_ b).sec = s.sec := rfl
@[simp] theorem setTile_mem (p bx by_ : Nat) (b : Option TileBlk) : (s.setTile p bx by_ b).mem = s.mem := rfl
@[simp] theorem f_setTile (p bx by_ : Nat) (b : Option TileBlk) (y : Fld) : (s.setTile p bx by_ b).f y = s.f y := rfl

/-! `setPq` -/
@[simp] theorem setPq_pending (c p : Nat) (l : List Pkt) : (s.setPq c p l).pending = s.pending := rfl
@[simp] theorem setPq_regs (c p : Nat) (l : List Pkt) : (s.setPq c p l).regs = s.regs := rfl
@[simp] theorem setPq_latches (c p : Nat) (l : List Pkt) : (s.setPq c p l).latches = s.latches := rfl
@[simp] theorem setPq_w1cAt (c p : Nat) (l : List Pkt) : (s.setPq c p l).w1cAt = s.w1cAt := rfl
@[simp] theorem setPq_free (c p : Nat) (l : List Pkt) : (s.setPq c p l).free = s.free := rfl
@[simp] theorem setPq_outs (c p : Nat) (l : List Pkt) : (s.setPq c p l).outs = s.outs := rfl
@[simp] theorem setPq_time (c p : Nat) (l : List Pkt) : (s.setPq c p l).time = s.time := rfl
@[simp] theorem setPq_ev (c p : Nat) (l : List Pkt) : (s.setPq c p l).ev = s.ev := rfl
@[simp] theorem setPq_flt (c p : Nat) (l : List Pkt) : (s.setPq c p l).flt = s.flt := rfl
@[simp] theorem setPq_link (c p : Nat) (l : List Pkt) : (s.setPq c p l).link = s.link := rfl
@[simp] theorem setPq_groups (c p : Nat) (l : List Pkt) : (s.setPq c p l).groups = s.groups := rfl
@[simp] theorem setPq_transit (c p : Nat) (l : List Pkt) : (s.setPq c p l).transit = s.transit := rfl
@[simp] theorem setPq_host (c p : Nat) (l : List Pkt) : (s.setPq c p l).host = s.host := rfl
@[simp] theorem setPq_fs (c p : Nat) (l : List Pkt) : (s.setPq c p l).fs = s.fs := rfl
@[simp] theorem setPq_nv (c p : Nat) (l : List Pkt) : (s.setPq c p l).nv = s.nv := rfl
@[simp] theorem setPq_boot (c p : Nat) (l : List Pkt) : (s.setPq c p l).boot = s.boot := rfl
@[simp] theorem setPq_pix (c p : Nat) (l : List Pkt) : (s.setPq c p l).pix = s.pix := rfl
@[simp] theorem setPq_codec (c p : Nat) (l : List Pkt) : (s.setPq c p l).codec = s.codec := rfl
@[simp] theorem setPq_th (c p : Nat) (l : List Pkt) : (s.setPq c p l).th = s.th := rfl
@[simp] theorem setPq_drv (c p : Nat) (l : List Pkt) : (s.setPq c p l).drv = s.drv := rfl
@[simp] theorem setPq_cal (c p : Nat) (l : List Pkt) : (s.setPq c p l).cal = s.cal := rfl
@[simp] theorem setPq_arb (c p : Nat) (l : List Pkt) : (s.setPq c p l).arb = s.arb := rfl
@[simp] theorem setPq_sec (c p : Nat) (l : List Pkt) : (s.setPq c p l).sec = s.sec := rfl
@[simp] theorem setPq_mem (c p : Nat) (l : List Pkt) : (s.setPq c p l).mem = s.mem := rfl
@[simp] theorem f_setPq (c p : Nat) (l : List Pkt) (y : Fld) : (s.setPq c p l).f y = s.f y := rfl

/-! `setLn` -/
@[simp] theorem setLn_pending (l : Nat) (x : LaneSt) : (s.setLn l x).pending = s.pending := rfl
@[simp] theorem setLn_regs (l : Nat) (x : LaneSt) : (s.setLn l x).regs = s.regs := rfl
@[simp] theorem setLn_latches (l : Nat) (x : LaneSt) : (s.setLn l x).latches = s.latches := rfl
@[simp] theorem setLn_w1cAt (l : Nat) (x : LaneSt) : (s.setLn l x).w1cAt = s.w1cAt := rfl
@[simp] theorem setLn_free (l : Nat) (x : LaneSt) : (s.setLn l x).free = s.free := rfl
@[simp] theorem setLn_outs (l : Nat) (x : LaneSt) : (s.setLn l x).outs = s.outs := rfl
@[simp] theorem setLn_time (l : Nat) (x : LaneSt) : (s.setLn l x).time = s.time := rfl
@[simp] theorem setLn_ev (l : Nat) (x : LaneSt) : (s.setLn l x).ev = s.ev := rfl
@[simp] theorem setLn_flt (l : Nat) (x : LaneSt) : (s.setLn l x).flt = s.flt := rfl
@[simp] theorem setLn_link (l : Nat) (x : LaneSt) : (s.setLn l x).link = s.link := rfl
@[simp] theorem setLn_groups (l : Nat) (x : LaneSt) : (s.setLn l x).groups = s.groups := rfl
@[simp] theorem setLn_transit (l : Nat) (x : LaneSt) : (s.setLn l x).transit = s.transit := rfl
@[simp] theorem setLn_host (l : Nat) (x : LaneSt) : (s.setLn l x).host = s.host := rfl
@[simp] theorem setLn_fs (l : Nat) (x : LaneSt) : (s.setLn l x).fs = s.fs := rfl
@[simp] theorem setLn_nv (l : Nat) (x : LaneSt) : (s.setLn l x).nv = s.nv := rfl
@[simp] theorem setLn_boot (l : Nat) (x : LaneSt) : (s.setLn l x).boot = s.boot := rfl
@[simp] theorem setLn_pix (l : Nat) (x : LaneSt) : (s.setLn l x).pix = s.pix := rfl
@[simp] theorem setLn_codec (l : Nat) (x : LaneSt) : (s.setLn l x).codec = s.codec := rfl
@[simp] theorem setLn_th (l : Nat) (x : LaneSt) : (s.setLn l x).th = s.th := rfl
@[simp] theorem setLn_drv (l : Nat) (x : LaneSt) : (s.setLn l x).drv = s.drv := rfl
@[simp] theorem setLn_cal (l : Nat) (x : LaneSt) : (s.setLn l x).cal = s.cal := rfl
@[simp] theorem setLn_arb (l : Nat) (x : LaneSt) : (s.setLn l x).arb = s.arb := rfl
@[simp] theorem setLn_sec (l : Nat) (x : LaneSt) : (s.setLn l x).sec = s.sec := rfl
@[simp] theorem setLn_mem (l : Nat) (x : LaneSt) : (s.setLn l x).mem = s.mem := rfl
@[simp] theorem f_setLn (l : Nat) (x : LaneSt) (y : Fld) : (s.setLn l x).f y = s.f y := rfl

/-! `setUq` -/
@[simp] theorem setUq_pending (g : Nat) (q : Upq) : (s.setUq g q).pending = s.pending := rfl
@[simp] theorem setUq_regs (g : Nat) (q : Upq) : (s.setUq g q).regs = s.regs := rfl
@[simp] theorem setUq_latches (g : Nat) (q : Upq) : (s.setUq g q).latches = s.latches := rfl
@[simp] theorem setUq_w1cAt (g : Nat) (q : Upq) : (s.setUq g q).w1cAt = s.w1cAt := rfl
@[simp] theorem setUq_free (g : Nat) (q : Upq) : (s.setUq g q).free = s.free := rfl
@[simp] theorem setUq_outs (g : Nat) (q : Upq) : (s.setUq g q).outs = s.outs := rfl
@[simp] theorem setUq_time (g : Nat) (q : Upq) : (s.setUq g q).time = s.time := rfl
@[simp] theorem setUq_ev (g : Nat) (q : Upq) : (s.setUq g q).ev = s.ev := rfl
@[simp] theorem setUq_flt (g : Nat) (q : Upq) : (s.setUq g q).flt = s.flt := rfl
@[simp] theorem setUq_link (g : Nat) (q : Upq) : (s.setUq g q).link = s.link := rfl
@[simp] theorem setUq_groups (g : Nat) (q : Upq) : (s.setUq g q).groups = s.groups := rfl
@[simp] theorem setUq_transit (g : Nat) (q : Upq) : (s.setUq g q).transit = s.transit := rfl
@[simp] theorem setUq_host (g : Nat) (q : Upq) : (s.setUq g q).host = s.host := rfl
@[simp] theorem setUq_fs (g : Nat) (q : Upq) : (s.setUq g q).fs = s.fs := rfl
@[simp] theorem setUq_nv (g : Nat) (q : Upq) : (s.setUq g q).nv = s.nv := rfl
@[simp] theorem setUq_boot (g : Nat) (q : Upq) : (s.setUq g q).boot = s.boot := rfl
@[simp] theorem setUq_pix (g : Nat) (q : Upq) : (s.setUq g q).pix = s.pix := rfl
@[simp] theorem setUq_codec (g : Nat) (q : Upq) : (s.setUq g q).codec = s.codec := rfl
@[simp] theorem setUq_th (g : Nat) (q : Upq) : (s.setUq g q).th = s.th := rfl
@[simp] theorem setUq_drv (g : Nat) (q : Upq) : (s.setUq g q).drv = s.drv := rfl
@[simp] theorem setUq_cal (g : Nat) (q : Upq) : (s.setUq g q).cal = s.cal := rfl
@[simp] theorem setUq_arb (g : Nat) (q : Upq) : (s.setUq g q).arb = s.arb := rfl
@[simp] theorem setUq_sec (g : Nat) (q : Upq) : (s.setUq g q).sec = s.sec := rfl
@[simp] theorem setUq_mem (g : Nat) (q : Upq) : (s.setUq g q).mem = s.mem := rfl
@[simp] theorem f_setUq (g : Nat) (q : Upq) (y : Fld) : (s.setUq g q).f y = s.f y := rfl

/-! `setAge` -/
@[simp] theorem setAge_pending (a i v : Nat) : (s.setAge a i v).pending = s.pending := rfl
@[simp] theorem setAge_regs (a i v : Nat) : (s.setAge a i v).regs = s.regs := rfl
@[simp] theorem setAge_latches (a i v : Nat) : (s.setAge a i v).latches = s.latches := rfl
@[simp] theorem setAge_w1cAt (a i v : Nat) : (s.setAge a i v).w1cAt = s.w1cAt := rfl
@[simp] theorem setAge_free (a i v : Nat) : (s.setAge a i v).free = s.free := rfl
@[simp] theorem setAge_outs (a i v : Nat) : (s.setAge a i v).outs = s.outs := rfl
@[simp] theorem setAge_time (a i v : Nat) : (s.setAge a i v).time = s.time := rfl
@[simp] theorem setAge_ev (a i v : Nat) : (s.setAge a i v).ev = s.ev := rfl
@[simp] theorem setAge_flt (a i v : Nat) : (s.setAge a i v).flt = s.flt := rfl
@[simp] theorem setAge_link (a i v : Nat) : (s.setAge a i v).link = s.link := rfl
@[simp] theorem setAge_groups (a i v : Nat) : (s.setAge a i v).groups = s.groups := rfl
@[simp] theorem setAge_transit (a i v : Nat) : (s.setAge a i v).transit = s.transit := rfl
@[simp] theorem setAge_host (a i v : Nat) : (s.setAge a i v).host = s.host := rfl
@[simp] theorem setAge_fs (a i v : Nat) : (s.setAge a i v).fs = s.fs := rfl
@[simp] theorem setAge_nv (a i v : Nat) : (s.setAge a i v).nv = s.nv := rfl
@[simp] theorem setAge_boot (a i v : Nat) : (s.setAge a i v).boot = s.boot := rfl
@[simp] theorem setAge_pix (a i v : Nat) : (s.setAge a i v).pix = s.pix := rfl
@[simp] theorem setAge_codec (a i v : Nat) : (s.setAge a i v).codec = s.codec := rfl
@[simp] theorem setAge_th (a i v : Nat) : (s.setAge a i v).th = s.th := rfl
@[simp] theorem setAge_ch (a i v : Nat) : (s.setAge a i v).ch = s.ch := rfl
@[simp] theorem setAge_drv (a i v : Nat) : (s.setAge a i v).drv = s.drv := rfl
@[simp] theorem setAge_cal (a i v : Nat) : (s.setAge a i v).cal = s.cal := rfl
@[simp] theorem setAge_sec (a i v : Nat) : (s.setAge a i v).sec = s.sec := rfl
@[simp] theorem setAge_mem (a i v : Nat) : (s.setAge a i v).mem = s.mem := rfl
@[simp] theorem f_setAge (a i v : Nat) (y : Fld) : (s.setAge a i v).f y = s.f y := rfl

/-! `setSec` -/
@[simp] theorem setSec_pending (i : Nat) (x : NvSector) : (s.setSec i x).pending = s.pending := rfl
@[simp] theorem setSec_regs (i : Nat) (x : NvSector) : (s.setSec i x).regs = s.regs := rfl
@[simp] theorem setSec_latches (i : Nat) (x : NvSector) : (s.setSec i x).latches = s.latches := rfl
@[simp] theorem setSec_w1cAt (i : Nat) (x : NvSector) : (s.setSec i x).w1cAt = s.w1cAt := rfl
@[simp] theorem setSec_free (i : Nat) (x : NvSector) : (s.setSec i x).free = s.free := rfl
@[simp] theorem setSec_outs (i : Nat) (x : NvSector) : (s.setSec i x).outs = s.outs := rfl
@[simp] theorem setSec_time (i : Nat) (x : NvSector) : (s.setSec i x).time = s.time := rfl
@[simp] theorem setSec_ev (i : Nat) (x : NvSector) : (s.setSec i x).ev = s.ev := rfl
@[simp] theorem setSec_flt (i : Nat) (x : NvSector) : (s.setSec i x).flt = s.flt := rfl
@[simp] theorem setSec_link (i : Nat) (x : NvSector) : (s.setSec i x).link = s.link := rfl
@[simp] theorem setSec_groups (i : Nat) (x : NvSector) : (s.setSec i x).groups = s.groups := rfl
@[simp] theorem setSec_transit (i : Nat) (x : NvSector) : (s.setSec i x).transit = s.transit := rfl
@[simp] theorem setSec_host (i : Nat) (x : NvSector) : (s.setSec i x).host = s.host := rfl
@[simp] theorem setSec_fs (i : Nat) (x : NvSector) : (s.setSec i x).fs = s.fs := rfl
@[simp] theorem setSec_boot (i : Nat) (x : NvSector) : (s.setSec i x).boot = s.boot := rfl
@[simp] theorem setSec_pix (i : Nat) (x : NvSector) : (s.setSec i x).pix = s.pix := rfl
@[simp] theorem setSec_codec (i : Nat) (x : NvSector) : (s.setSec i x).codec = s.codec := rfl
@[simp] theorem setSec_th (i : Nat) (x : NvSector) : (s.setSec i x).th = s.th := rfl
@[simp] theorem setSec_ch (i : Nat) (x : NvSector) : (s.setSec i x).ch = s.ch := rfl
@[simp] theorem setSec_drv (i : Nat) (x : NvSector) : (s.setSec i x).drv = s.drv := rfl
@[simp] theorem setSec_cal (i : Nat) (x : NvSector) : (s.setSec i x).cal = s.cal := rfl
@[simp] theorem setSec_arb (i : Nat) (x : NvSector) : (s.setSec i x).arb = s.arb := rfl
@[simp] theorem setSec_sec (i : Nat) (x : NvSector) : (s.setSec i x).sec = s.sec := rfl
@[simp] theorem setSec_mem (i : Nat) (x : NvSector) : (s.setSec i x).mem = s.mem := rfl
@[simp] theorem f_setSec (i : Nat) (x : NvSector) (y : Fld) : (s.setSec i x).f y = s.f y := rfl

/-! `setJob` -/
@[simp] theorem setJob_pending (i : Nat) (f : Job → Job) : (s.setJob i f).pending = s.pending := rfl
@[simp] theorem setJob_regs (i : Nat) (f : Job → Job) : (s.setJob i f).regs = s.regs := rfl
@[simp] theorem setJob_latches (i : Nat) (f : Job → Job) : (s.setJob i f).latches = s.latches := rfl
@[simp] theorem setJob_w1cAt (i : Nat) (f : Job → Job) : (s.setJob i f).w1cAt = s.w1cAt := rfl
@[simp] theorem setJob_free (i : Nat) (f : Job → Job) : (s.setJob i f).free = s.free := rfl
@[simp] theorem setJob_outs (i : Nat) (f : Job → Job) : (s.setJob i f).outs = s.outs := rfl
@[simp] theorem setJob_time (i : Nat) (f : Job → Job) : (s.setJob i f).time = s.time := rfl
@[simp] theorem setJob_ev (i : Nat) (f : Job → Job) : (s.setJob i f).ev = s.ev := rfl
@[simp] theorem setJob_flt (i : Nat) (f : Job → Job) : (s.setJob i f).flt = s.flt := rfl
@[simp] theorem setJob_link (i : Nat) (f : Job → Job) : (s.setJob i f).link = s.link := rfl
@[simp] theorem setJob_groups (i : Nat) (f : Job → Job) : (s.setJob i f).groups = s.groups := rfl
@[simp] theorem setJob_transit (i : Nat) (f : Job → Job) : (s.setJob i f).transit = s.transit := rfl
@[simp] theorem setJob_host (i : Nat) (f : Job → Job) : (s.setJob i f).host = s.host := rfl
@[simp] theorem setJob_fs (i : Nat) (f : Job → Job) : (s.setJob i f).fs = s.fs := rfl
@[simp] theorem setJob_nv (i : Nat) (f : Job → Job) : (s.setJob i f).nv = s.nv := rfl
@[simp] theorem setJob_boot (i : Nat) (f : Job → Job) : (s.setJob i f).boot = s.boot := rfl
@[simp] theorem setJob_pix (i : Nat) (f : Job → Job) : (s.setJob i f).pix = s.pix := rfl
@[simp] theorem setJob_th (i : Nat) (f : Job → Job) : (s.setJob i f).th = s.th := rfl
@[simp] theorem setJob_ch (i : Nat) (f : Job → Job) : (s.setJob i f).ch = s.ch := rfl
@[simp] theorem setJob_drv (i : Nat) (f : Job → Job) : (s.setJob i f).drv = s.drv := rfl
@[simp] theorem setJob_cal (i : Nat) (f : Job → Job) : (s.setJob i f).cal = s.cal := rfl
@[simp] theorem setJob_arb (i : Nat) (f : Job → Job) : (s.setJob i f).arb = s.arb := rfl
@[simp] theorem setJob_sec (i : Nat) (f : Job → Job) : (s.setJob i f).sec = s.sec := rfl
@[simp] theorem setJob_mem (i : Nat) (f : Job → Job) : (s.setJob i f).mem = s.mem := rfl
@[simp] theorem f_setJob (i : Nat) (f : Job → Job) (y : Fld) : (s.setJob i f).f y = s.f y := rfl

/-! `setTemp` -/
@[simp] theorem setTemp_pending (g n : Nat) (b : Bool) : (s.setTemp g n b).pending = s.pending := rfl
@[simp] theorem setTemp_regs (g n : Nat) (b : Bool) : (s.setTemp g n b).regs = s.regs := rfl
@[simp] theorem setTemp_latches (g n : Nat) (b : Bool) : (s.setTemp g n b).latches = s.latches := rfl
@[simp] theorem setTemp_w1cAt (g n : Nat) (b : Bool) : (s.setTemp g n b).w1cAt = s.w1cAt := rfl
@[simp] theorem setTemp_free (g n : Nat) (b : Bool) : (s.setTemp g n b).free = s.free := rfl
@[simp] theorem setTemp_outs (g n : Nat) (b : Bool) : (s.setTemp g n b).outs = s.outs := rfl
@[simp] theorem setTemp_time (g n : Nat) (b : Bool) : (s.setTemp g n b).time = s.time := rfl
@[simp] theorem setTemp_ev (g n : Nat) (b : Bool) : (s.setTemp g n b).ev = s.ev := rfl
@[simp] theorem setTemp_flt (g n : Nat) (b : Bool) : (s.setTemp g n b).flt = s.flt := rfl
@[simp] theorem setTemp_link (g n : Nat) (b : Bool) : (s.setTemp g n b).link = s.link := rfl
@[simp] theorem setTemp_groups (g n : Nat) (b : Bool) : (s.setTemp g n b).groups = s.groups := rfl
@[simp] theorem setTemp_transit (g n : Nat) (b : Bool) : (s.setTemp g n b).transit = s.transit := rfl
@[simp] theorem setTemp_host (g n : Nat) (b : Bool) : (s.setTemp g n b).host = s.host := rfl
@[simp] theorem setTemp_fs (g n : Nat) (b : Bool) : (s.setTemp g n b).fs = s.fs := rfl
@[simp] theorem setTemp_nv (g n : Nat) (b : Bool) : (s.setTemp g n b).nv = s.nv := rfl
@[simp] theorem setTemp_boot (g n : Nat) (b : Bool) : (s.setTemp g n b).boot = s.boot := rfl
@[simp] theorem setTemp_pix (g n : Nat) (b : Bool) : (s.setTemp g n b).pix = s.pix := rfl
@[simp] theorem setTemp_codec (g n : Nat) (b : Bool) : (s.setTemp g n b).codec = s.codec := rfl
@[simp] theorem setTemp_th (g n : Nat) (b : Bool) : (s.setTemp g n b).th = s.th := rfl
@[simp] theorem setTemp_ch (g n : Nat) (b : Bool) : (s.setTemp g n b).ch = s.ch := rfl
@[simp] theorem setTemp_cal (g n : Nat) (b : Bool) : (s.setTemp g n b).cal = s.cal := rfl
@[simp] theorem setTemp_arb (g n : Nat) (b : Bool) : (s.setTemp g n b).arb = s.arb := rfl
@[simp] theorem setTemp_sec (g n : Nat) (b : Bool) : (s.setTemp g n b).sec = s.sec := rfl
@[simp] theorem setTemp_mem (g n : Nat) (b : Bool) : (s.setTemp g n b).mem = s.mem := rfl
@[simp] theorem f_setTemp (g n : Nat) (b : Bool) (y : Fld) : (s.setTemp g n b).f y = s.f y := rfl

/-! `setFlag` -/
@[simp] theorem setFlag_pending (o n : Nat) (b : Bool) : (s.setFlag o n b).pending = s.pending := rfl
@[simp] theorem setFlag_regs (o n : Nat) (b : Bool) : (s.setFlag o n b).regs = s.regs := rfl
@[simp] theorem setFlag_latches (o n : Nat) (b : Bool) : (s.setFlag o n b).latches = s.latches := rfl
@[simp] theorem setFlag_w1cAt (o n : Nat) (b : Bool) : (s.setFlag o n b).w1cAt = s.w1cAt := rfl
@[simp] theorem setFlag_free (o n : Nat) (b : Bool) : (s.setFlag o n b).free = s.free := rfl
@[simp] theorem setFlag_outs (o n : Nat) (b : Bool) : (s.setFlag o n b).outs = s.outs := rfl
@[simp] theorem setFlag_time (o n : Nat) (b : Bool) : (s.setFlag o n b).time = s.time := rfl
@[simp] theorem setFlag_ev (o n : Nat) (b : Bool) : (s.setFlag o n b).ev = s.ev := rfl
@[simp] theorem setFlag_flt (o n : Nat) (b : Bool) : (s.setFlag o n b).flt = s.flt := rfl
@[simp] theorem setFlag_link (o n : Nat) (b : Bool) : (s.setFlag o n b).link = s.link := rfl
@[simp] theorem setFlag_groups (o n : Nat) (b : Bool) : (s.setFlag o n b).groups = s.groups := rfl
@[simp] theorem setFlag_transit (o n : Nat) (b : Bool) : (s.setFlag o n b).transit = s.transit := rfl
@[simp] theorem setFlag_host (o n : Nat) (b : Bool) : (s.setFlag o n b).host = s.host := rfl
@[simp] theorem setFlag_fs (o n : Nat) (b : Bool) : (s.setFlag o n b).fs = s.fs := rfl
@[simp] theorem setFlag_nv (o n : Nat) (b : Bool) : (s.setFlag o n b).nv = s.nv := rfl
@[simp] theorem setFlag_boot (o n : Nat) (b : Bool) : (s.setFlag o n b).boot = s.boot := rfl
@[simp] theorem setFlag_pix (o n : Nat) (b : Bool) : (s.setFlag o n b).pix = s.pix := rfl
@[simp] theorem setFlag_codec (o n : Nat) (b : Bool) : (s.setFlag o n b).codec = s.codec := rfl
@[simp] theorem setFlag_ch (o n : Nat) (b : Bool) : (s.setFlag o n b).ch = s.ch := rfl
@[simp] theorem setFlag_drv (o n : Nat) (b : Bool) : (s.setFlag o n b).drv = s.drv := rfl
@[simp] theorem setFlag_cal (o n : Nat) (b : Bool) : (s.setFlag o n b).cal = s.cal := rfl
@[simp] theorem setFlag_arb (o n : Nat) (b : Bool) : (s.setFlag o n b).arb = s.arb := rfl
@[simp] theorem setFlag_sec (o n : Nat) (b : Bool) : (s.setFlag o n b).sec = s.sec := rfl
@[simp] theorem setFlag_mem (o n : Nat) (b : Bool) : (s.setFlag o n b).mem = s.mem := rfl
@[simp] theorem f_setFlag (o n : Nat) (b : Bool) (y : Fld) : (s.setFlag o n b).f y = s.f y := rfl

/-! `setAct` -/
@[simp] theorem setAct_pending (a : ActSt) : (s.setAct a).pending = s.pending := rfl
@[simp] theorem setAct_regs (a : ActSt) : (s.setAct a).regs = s.regs := rfl
@[simp] theorem setAct_latches (a : ActSt) : (s.setAct a).latches = s.latches := rfl
@[simp] theorem setAct_w1cAt (a : ActSt) : (s.setAct a).w1cAt = s.w1cAt := rfl
@[simp] theorem setAct_free (a : ActSt) : (s.setAct a).free = s.free := rfl
@[simp] theorem setAct_outs (a : ActSt) : (s.setAct a).outs = s.outs := rfl
@[simp] theorem setAct_time (a : ActSt) : (s.setAct a).time = s.time := rfl
@[simp] theorem setAct_ev (a : ActSt) : (s.setAct a).ev = s.ev := rfl
@[simp] theorem setAct_flt (a : ActSt) : (s.setAct a).flt = s.flt := rfl
@[simp] theorem setAct_link (a : ActSt) : (s.setAct a).link = s.link := rfl
@[simp] theorem setAct_groups (a : ActSt) : (s.setAct a).groups = s.groups := rfl
@[simp] theorem setAct_transit (a : ActSt) : (s.setAct a).transit = s.transit := rfl
@[simp] theorem setAct_host (a : ActSt) : (s.setAct a).host = s.host := rfl
@[simp] theorem setAct_fs (a : ActSt) : (s.setAct a).fs = s.fs := rfl
@[simp] theorem setAct_nv (a : ActSt) : (s.setAct a).nv = s.nv := rfl
@[simp] theorem setAct_pix (a : ActSt) : (s.setAct a).pix = s.pix := rfl
@[simp] theorem setAct_codec (a : ActSt) : (s.setAct a).codec = s.codec := rfl
@[simp] theorem setAct_th (a : ActSt) : (s.setAct a).th = s.th := rfl
@[simp] theorem setAct_ch (a : ActSt) : (s.setAct a).ch = s.ch := rfl
@[simp] theorem setAct_drv (a : ActSt) : (s.setAct a).drv = s.drv := rfl
@[simp] theorem setAct_cal (a : ActSt) : (s.setAct a).cal = s.cal := rfl
@[simp] theorem setAct_arb (a : ActSt) : (s.setAct a).arb = s.arb := rfl
@[simp] theorem setAct_sec (a : ActSt) : (s.setAct a).sec = s.sec := rfl
@[simp] theorem setAct_mem (a : ActSt) : (s.setAct a).mem = s.mem := rfl
@[simp] theorem f_setAct (a : ActSt) (y : Fld) : (s.setAct a).f y = s.f y := rfl

/-! ## Accessors of the parts that register writes, outputs and events leave alone -/

/-! `setF` -/
@[simp] theorem lane_setF (x : Fld) (n' : Nat) (d l : Nat) : (s.setF x n').lane d l = s.lane d l := rfl
@[simp] theorem moved_setF (x : Fld) (n' : Nat) (d : Nat) : (s.setF x n').moved d = s.moved d := rfl
@[simp] theorem grp_setF (x : Fld) (n' : Nat) (g : Nat) : (s.setF x n').grp g = s.grp g := rfl
@[simp] theorem core_setF (x : Fld) (n' : Nat) (o : Nat) : (s.setF x n').core o = s.core o := rfl
@[simp] theorem entry_setF (x : Fld) (n' : Nat) (c : Nat) : (s.setF x n').entry c = s.entry c := rfl
@[simp] theorem stopReq_setF (x : Fld) (n' : Nat) (q : Nat) : (s.setF x n').stopReq q = s.stopReq q := rfl
@[simp] theorem lk_setF (x : Fld) (n' : Nat) (n : Nat) : (s.setF x n').lk n = s.lk n := rfl
@[simp] theorem pin_setF (x : Fld) (n' : Nat) (p : Nat) : (s.setF x n').pin p = s.pin p := rfl
@[simp] theorem rail_setF (x : Fld) (n' : Nat) (r : Nat) : (s.setF x n').rail r = s.rail r := rfl
@[simp] theorem pwr_setF (x : Fld) (n' : Nat) (g : Nat) : (s.setF x n').pwr g = s.pwr g := rfl
@[simp] theorem calRun_setF (x : Fld) (n' : Nat) (i : Nat) : (s.setF x n').calRun i = s.calRun i := rfl
@[simp] theorem fold_setF (x : Fld) (n' : Nat) (g : Nat) : (s.setF x n').fold g = s.fold g := rfl
@[simp] theorem acc_setF (x : Fld) (n' : Nat) (k : Nat) : (s.setF x n').acc k = s.acc k := rfl
@[simp] theorem ln_setF (x : Fld) (n' : Nat) (l : Nat) : (s.setF x n').ln l = s.ln l := rfl
@[simp] theorem uq_setF (x : Fld) (n' : Nat) (g : Nat) : (s.setF x n').uq g = s.uq g := rfl
@[simp] theorem pq_setF (x : Fld) (n' : Nat) (c p : Nat) : (s.setF x n').pq c p = s.pq c p := rfl
@[simp] theorem tile_setF (x : Fld) (n' : Nat) (p a b : Nat) : (s.setF x n').tile p a b = s.tile p a b := rfl
@[simp] theorem latched_setF (x : Fld) (n' : Nat) (q : Req) (a : Nat) : (s.setF x n').latched q a = s.latched q a := rfl
@[simp] theorem imem_setF (x : Fld) (n' : Nat) (o w : Nat) : (s.setF x n').imem o w = s.imem o w := rfl
@[simp] theorem dmem_setF (x : Fld) (n' : Nat) (o w : Nat) : (s.setF x n').dmem o w = s.dmem o w := rfl
@[simp] theorem sec_setF (x : Fld) (n' : Nat) (i : Nat) : (s.setF x n').sec_ i = s.sec_ i := rfl
@[simp] theorem ring_setF (x : Fld) (n' : Nat) (k : Nat) : (s.setF x n').ring k = s.ring k := rfl
@[simp] theorem bis_setF (x : Fld) (n' : Nat) (g : Nat) : (s.setF x n').bis g = s.bis g := rfl
@[simp] theorem enc_setF (x : Fld) (n' : Nat) (e : Nat) : (s.setF x n').enc e = s.enc e := rfl
@[simp] theorem clock_setF (x : Fld) (n' : Nat) (o : Nat) : (s.setF x n').clock o = s.clock o := rfl

/-! `setOn` -/
@[simp] theorem lane_setOn (x : Fld) (b' : Bool) (d l : Nat) : (s.setOn x b').lane d l = s.lane d l := rfl
@[simp] theorem moved_setOn (x : Fld) (b' : Bool) (d : Nat) : (s.setOn x b').moved d = s.moved d := rfl
@[simp] theorem grp_setOn (x : Fld) (b' : Bool) (g : Nat) : (s.setOn x b').grp g = s.grp g := rfl
@[simp] theorem core_setOn (x : Fld) (b' : Bool) (o : Nat) : (s.setOn x b').core o = s.core o := rfl
@[simp] theorem entry_setOn (x : Fld) (b' : Bool) (c : Nat) : (s.setOn x b').entry c = s.entry c := rfl
@[simp] theorem stopReq_setOn (x : Fld) (b' : Bool) (q : Nat) : (s.setOn x b').stopReq q = s.stopReq q := rfl
@[simp] theorem lk_setOn (x : Fld) (b' : Bool) (n : Nat) : (s.setOn x b').lk n = s.lk n := rfl
@[simp] theorem pin_setOn (x : Fld) (b' : Bool) (p : Nat) : (s.setOn x b').pin p = s.pin p := rfl
@[simp] theorem rail_setOn (x : Fld) (b' : Bool) (r : Nat) : (s.setOn x b').rail r = s.rail r := rfl
@[simp] theorem pwr_setOn (x : Fld) (b' : Bool) (g : Nat) : (s.setOn x b').pwr g = s.pwr g := rfl
@[simp] theorem calRun_setOn (x : Fld) (b' : Bool) (i : Nat) : (s.setOn x b').calRun i = s.calRun i := rfl
@[simp] theorem fold_setOn (x : Fld) (b' : Bool) (g : Nat) : (s.setOn x b').fold g = s.fold g := rfl
@[simp] theorem acc_setOn (x : Fld) (b' : Bool) (k : Nat) : (s.setOn x b').acc k = s.acc k := rfl
@[simp] theorem ln_setOn (x : Fld) (b' : Bool) (l : Nat) : (s.setOn x b').ln l = s.ln l := rfl
@[simp] theorem uq_setOn (x : Fld) (b' : Bool) (g : Nat) : (s.setOn x b').uq g = s.uq g := rfl
@[simp] theorem pq_setOn (x : Fld) (b' : Bool) (c p : Nat) : (s.setOn x b').pq c p = s.pq c p := rfl
@[simp] theorem tile_setOn (x : Fld) (b' : Bool) (p a b : Nat) : (s.setOn x b').tile p a b = s.tile p a b := rfl
@[simp] theorem latched_setOn (x : Fld) (b' : Bool) (q : Req) (a : Nat) : (s.setOn x b').latched q a = s.latched q a := rfl
@[simp] theorem imem_setOn (x : Fld) (b' : Bool) (o w : Nat) : (s.setOn x b').imem o w = s.imem o w := rfl
@[simp] theorem dmem_setOn (x : Fld) (b' : Bool) (o w : Nat) : (s.setOn x b').dmem o w = s.dmem o w := rfl
@[simp] theorem sec_setOn (x : Fld) (b' : Bool) (i : Nat) : (s.setOn x b').sec_ i = s.sec_ i := rfl
@[simp] theorem ring_setOn (x : Fld) (b' : Bool) (k : Nat) : (s.setOn x b').ring k = s.ring k := rfl
@[simp] theorem bis_setOn (x : Fld) (b' : Bool) (g : Nat) : (s.setOn x b').bis g = s.bis g := rfl
@[simp] theorem enc_setOn (x : Fld) (b' : Bool) (e : Nat) : (s.setOn x b').enc e = s.enc e := rfl
@[simp] theorem clock_setOn (x : Fld) (b' : Bool) (o : Nat) : (s.setOn x b').clock o = s.clock o := rfl

/-! `count` -/
@[simp] theorem lane_count (x : Fld) (n' : Nat) (d l : Nat) : (s.count x n').lane d l = s.lane d l := rfl
@[simp] theorem moved_count (x : Fld) (n' : Nat) (d : Nat) : (s.count x n').moved d = s.moved d := rfl
@[simp] theorem grp_count (x : Fld) (n' : Nat) (g : Nat) : (s.count x n').grp g = s.grp g := rfl
@[simp] theorem core_count (x : Fld) (n' : Nat) (o : Nat) : (s.count x n').core o = s.core o := rfl
@[simp] theorem entry_count (x : Fld) (n' : Nat) (c : Nat) : (s.count x n').entry c = s.entry c := rfl
@[simp] theorem stopReq_count (x : Fld) (n' : Nat) (q : Nat) : (s.count x n').stopReq q = s.stopReq q := rfl
@[simp] theorem lk_count (x : Fld) (n' : Nat) (n : Nat) : (s.count x n').lk n = s.lk n := rfl
@[simp] theorem pin_count (x : Fld) (n' : Nat) (p : Nat) : (s.count x n').pin p = s.pin p := rfl
@[simp] theorem rail_count (x : Fld) (n' : Nat) (r : Nat) : (s.count x n').rail r = s.rail r := rfl
@[simp] theorem pwr_count (x : Fld) (n' : Nat) (g : Nat) : (s.count x n').pwr g = s.pwr g := rfl
@[simp] theorem calRun_count (x : Fld) (n' : Nat) (i : Nat) : (s.count x n').calRun i = s.calRun i := rfl
@[simp] theorem fold_count (x : Fld) (n' : Nat) (g : Nat) : (s.count x n').fold g = s.fold g := rfl
@[simp] theorem acc_count (x : Fld) (n' : Nat) (k : Nat) : (s.count x n').acc k = s.acc k := rfl
@[simp] theorem ln_count (x : Fld) (n' : Nat) (l : Nat) : (s.count x n').ln l = s.ln l := rfl
@[simp] theorem uq_count (x : Fld) (n' : Nat) (g : Nat) : (s.count x n').uq g = s.uq g := rfl
@[simp] theorem pq_count (x : Fld) (n' : Nat) (c p : Nat) : (s.count x n').pq c p = s.pq c p := rfl
@[simp] theorem tile_count (x : Fld) (n' : Nat) (p a b : Nat) : (s.count x n').tile p a b = s.tile p a b := rfl
@[simp] theorem latched_count (x : Fld) (n' : Nat) (q : Req) (a : Nat) : (s.count x n').latched q a = s.latched q a := rfl
@[simp] theorem imem_count (x : Fld) (n' : Nat) (o w : Nat) : (s.count x n').imem o w = s.imem o w := rfl
@[simp] theorem dmem_count (x : Fld) (n' : Nat) (o w : Nat) : (s.count x n').dmem o w = s.dmem o w := rfl
@[simp] theorem sec_count (x : Fld) (n' : Nat) (i : Nat) : (s.count x n').sec_ i = s.sec_ i := rfl
@[simp] theorem ring_count (x : Fld) (n' : Nat) (k : Nat) : (s.count x n').ring k = s.ring k := rfl
@[simp] theorem bis_count (x : Fld) (n' : Nat) (g : Nat) : (s.count x n').bis g = s.bis g := rfl
@[simp] theorem enc_count (x : Fld) (n' : Nat) (e : Nat) : (s.count x n').enc e = s.enc e := rfl
@[simp] theorem clock_count (x : Fld) (n' : Nat) (o : Nat) : (s.count x n').clock o = s.clock o := rfl

/-! `putBit` -/
@[simp] theorem lane_putBit (x : Fld) (n' : Nat) (b' : Bool) (d l : Nat) : (s.putBit x n' b').lane d l = s.lane d l := rfl
@[simp] theorem moved_putBit (x : Fld) (n' : Nat) (b' : Bool) (d : Nat) : (s.putBit x n' b').moved d = s.moved d := rfl
@[simp] theorem grp_putBit (x : Fld) (n' : Nat) (b' : Bool) (g : Nat) : (s.putBit x n' b').grp g = s.grp g := rfl
@[simp] theorem core_putBit (x : Fld) (n' : Nat) (b' : Bool) (o : Nat) : (s.putBit x n' b').core o = s.core o := rfl
@[simp] theorem entry_putBit (x : Fld) (n' : Nat) (b' : Bool) (c : Nat) : (s.putBit x n' b').entry c = s.entry c := rfl
@[simp] theorem stopReq_putBit (x : Fld) (n' : Nat) (b' : Bool) (q : Nat) : (s.putBit x n' b').stopReq q = s.stopReq q := rfl
@[simp] theorem lk_putBit (x : Fld) (n' : Nat) (b' : Bool) (n : Nat) : (s.putBit x n' b').lk n = s.lk n := rfl
@[simp] theorem pin_putBit (x : Fld) (n' : Nat) (b' : Bool) (p : Nat) : (s.putBit x n' b').pin p = s.pin p := rfl
@[simp] theorem rail_putBit (x : Fld) (n' : Nat) (b' : Bool) (r : Nat) : (s.putBit x n' b').rail r = s.rail r := rfl
@[simp] theorem pwr_putBit (x : Fld) (n' : Nat) (b' : Bool) (g : Nat) : (s.putBit x n' b').pwr g = s.pwr g := rfl
@[simp] theorem calRun_putBit (x : Fld) (n' : Nat) (b' : Bool) (i : Nat) : (s.putBit x n' b').calRun i = s.calRun i := rfl
@[simp] theorem fold_putBit (x : Fld) (n' : Nat) (b' : Bool) (g : Nat) : (s.putBit x n' b').fold g = s.fold g := rfl
@[simp] theorem acc_putBit (x : Fld) (n' : Nat) (b' : Bool) (k : Nat) : (s.putBit x n' b').acc k = s.acc k := rfl
@[simp] theorem ln_putBit (x : Fld) (n' : Nat) (b' : Bool) (l : Nat) : (s.putBit x n' b').ln l = s.ln l := rfl
@[simp] theorem uq_putBit (x : Fld) (n' : Nat) (b' : Bool) (g : Nat) : (s.putBit x n' b').uq g = s.uq g := rfl
@[simp] theorem pq_putBit (x : Fld) (n' : Nat) (b' : Bool) (c p : Nat) : (s.putBit x n' b').pq c p = s.pq c p := rfl
@[simp] theorem tile_putBit (x : Fld) (n' : Nat) (b' : Bool) (p a b : Nat) : (s.putBit x n' b').tile p a b = s.tile p a b := rfl
@[simp] theorem latched_putBit (x : Fld) (n' : Nat) (b' : Bool) (q : Req) (a : Nat) : (s.putBit x n' b').latched q a = s.latched q a := rfl
@[simp] theorem imem_putBit (x : Fld) (n' : Nat) (b' : Bool) (o w : Nat) : (s.putBit x n' b').imem o w = s.imem o w := rfl
@[simp] theorem dmem_putBit (x : Fld) (n' : Nat) (b' : Bool) (o w : Nat) : (s.putBit x n' b').dmem o w = s.dmem o w := rfl
@[simp] theorem sec_putBit (x : Fld) (n' : Nat) (b' : Bool) (i : Nat) : (s.putBit x n' b').sec_ i = s.sec_ i := rfl
@[simp] theorem ring_putBit (x : Fld) (n' : Nat) (b' : Bool) (k : Nat) : (s.putBit x n' b').ring k = s.ring k := rfl
@[simp] theorem bis_putBit (x : Fld) (n' : Nat) (b' : Bool) (g : Nat) : (s.putBit x n' b').bis g = s.bis g := rfl
@[simp] theorem enc_putBit (x : Fld) (n' : Nat) (b' : Bool) (e : Nat) : (s.putBit x n' b').enc e = s.enc e := rfl
@[simp] theorem clock_putBit (x : Fld) (n' : Nat) (b' : Bool) (o : Nat) : (s.putBit x n' b').clock o = s.clock o := rfl

/-! `out` -/
@[simp] theorem lane_out (x : Out) (d l : Nat) : (s.out x).lane d l = s.lane d l := rfl
@[simp] theorem moved_out (x : Out) (d : Nat) : (s.out x).moved d = s.moved d := rfl
@[simp] theorem grp_out (x : Out) (g : Nat) : (s.out x).grp g = s.grp g := rfl
@[simp] theorem core_out (x : Out) (o : Nat) : (s.out x).core o = s.core o := rfl
@[simp] theorem entry_out (x : Out) (c : Nat) : (s.out x).entry c = s.entry c := rfl
@[simp] theorem stopReq_out (x : Out) (q : Nat) : (s.out x).stopReq q = s.stopReq q := rfl
@[simp] theorem lk_out (x : Out) (n : Nat) : (s.out x).lk n = s.lk n := rfl
@[simp] theorem pin_out (x : Out) (p : Nat) : (s.out x).pin p = s.pin p := rfl
@[simp] theorem rail_out (x : Out) (r : Nat) : (s.out x).rail r = s.rail r := rfl
@[simp] theorem pwr_out (x : Out) (g : Nat) : (s.out x).pwr g = s.pwr g := rfl
@[simp] theorem calRun_out (x : Out) (i : Nat) : (s.out x).calRun i = s.calRun i := rfl
@[simp] theorem fold_out (x : Out) (g : Nat) : (s.out x).fold g = s.fold g := rfl
@[simp] theorem acc_out (x : Out) (k : Nat) : (s.out x).acc k = s.acc k := rfl
@[simp] theorem ln_out (x : Out) (l : Nat) : (s.out x).ln l = s.ln l := rfl
@[simp] theorem uq_out (x : Out) (g : Nat) : (s.out x).uq g = s.uq g := rfl
@[simp] theorem pq_out (x : Out) (c p : Nat) : (s.out x).pq c p = s.pq c p := rfl
@[simp] theorem tile_out (x : Out) (p a b : Nat) : (s.out x).tile p a b = s.tile p a b := rfl
@[simp] theorem latched_out (x : Out) (q : Req) (a : Nat) : (s.out x).latched q a = s.latched q a := rfl
@[simp] theorem imem_out (x : Out) (o w : Nat) : (s.out x).imem o w = s.imem o w := rfl
@[simp] theorem dmem_out (x : Out) (o w : Nat) : (s.out x).dmem o w = s.dmem o w := rfl
@[simp] theorem sec_out (x : Out) (i : Nat) : (s.out x).sec_ i = s.sec_ i := rfl
@[simp] theorem ring_out (x : Out) (k : Nat) : (s.out x).ring k = s.ring k := rfl
@[simp] theorem bis_out (x : Out) (g : Nat) : (s.out x).bis g = s.bis g := rfl
@[simp] theorem enc_out (x : Out) (e : Nat) : (s.out x).enc e = s.enc e := rfl
@[simp] theorem clock_out (x : Out) (o : Nat) : (s.out x).clock o = s.clock o := rfl

/-! `raise` -/
@[simp] theorem lane_raise (m' x y : Nat) (as : List (Nat × Nat)) (d l : Nat) : (s.raise m' x y as).lane d l = s.lane d l := rfl
@[simp] theorem moved_raise (m' x y : Nat) (as : List (Nat × Nat)) (d : Nat) : (s.raise m' x y as).moved d = s.moved d := rfl
@[simp] theorem grp_raise (m' x y : Nat) (as : List (Nat × Nat)) (g : Nat) : (s.raise m' x y as).grp g = s.grp g := rfl
@[simp] theorem core_raise (m' x y : Nat) (as : List (Nat × Nat)) (o : Nat) : (s.raise m' x y as).core o = s.core o := rfl
@[simp] theorem entry_raise (m' x y : Nat) (as : List (Nat × Nat)) (c : Nat) : (s.raise m' x y as).entry c = s.entry c := rfl
@[simp] theorem stopReq_raise (m' x y : Nat) (as : List (Nat × Nat)) (q : Nat) : (s.raise m' x y as).stopReq q = s.stopReq q := rfl
@[simp] theorem lk_raise (m' x y : Nat) (as : List (Nat × Nat)) (n : Nat) : (s.raise m' x y as).lk n = s.lk n := rfl
@[simp] theorem pin_raise (m' x y : Nat) (as : List (Nat × Nat)) (p : Nat) : (s.raise m' x y as).pin p = s.pin p := rfl
@[simp] theorem rail_raise (m' x y : Nat) (as : List (Nat × Nat)) (r : Nat) : (s.raise m' x y as).rail r = s.rail r := rfl
@[simp] theorem pwr_raise (m' x y : Nat) (as : List (Nat × Nat)) (g : Nat) : (s.raise m' x y as).pwr g = s.pwr g := rfl
@[simp] theorem calRun_raise (m' x y : Nat) (as : List (Nat × Nat)) (i : Nat) : (s.raise m' x y as).calRun i = s.calRun i := rfl
@[simp] theorem fold_raise (m' x y : Nat) (as : List (Nat × Nat)) (g : Nat) : (s.raise m' x y as).fold g = s.fold g := rfl
@[simp] theorem acc_raise (m' x y : Nat) (as : List (Nat × Nat)) (k : Nat) : (s.raise m' x y as).acc k = s.acc k := rfl
@[simp] theorem ln_raise (m' x y : Nat) (as : List (Nat × Nat)) (l : Nat) : (s.raise m' x y as).ln l = s.ln l := rfl
@[simp] theorem uq_raise (m' x y : Nat) (as : List (Nat × Nat)) (g : Nat) : (s.raise m' x y as).uq g = s.uq g := rfl
@[simp] theorem pq_raise (m' x y : Nat) (as : List (Nat × Nat)) (c p : Nat) : (s.raise m' x y as).pq c p = s.pq c p := rfl
@[simp] theorem tile_raise (m' x y : Nat) (as : List (Nat × Nat)) (p a b : Nat) : (s.raise m' x y as).tile p a b = s.tile p a b := rfl
@[simp] theorem latched_raise (m' x y : Nat) (as : List (Nat × Nat)) (q : Req) (a : Nat) : (s.raise m' x y as).latched q a = s.latched q a := rfl
@[simp] theorem imem_raise (m' x y : Nat) (as : List (Nat × Nat)) (o w : Nat) : (s.raise m' x y as).imem o w = s.imem o w := rfl
@[simp] theorem dmem_raise (m' x y : Nat) (as : List (Nat × Nat)) (o w : Nat) : (s.raise m' x y as).dmem o w = s.dmem o w := rfl
@[simp] theorem sec_raise (m' x y : Nat) (as : List (Nat × Nat)) (i : Nat) : (s.raise m' x y as).sec_ i = s.sec_ i := rfl
@[simp] theorem ring_raise (m' x y : Nat) (as : List (Nat × Nat)) (k : Nat) : (s.raise m' x y as).ring k = s.ring k := rfl
@[simp] theorem bis_raise (m' x y : Nat) (as : List (Nat × Nat)) (g : Nat) : (s.raise m' x y as).bis g = s.bis g := rfl
@[simp] theorem enc_raise (m' x y : Nat) (as : List (Nat × Nat)) (e : Nat) : (s.raise m' x y as).enc e = s.enc e := rfl
@[simp] theorem clock_raise (m' x y : Nat) (as : List (Nat × Nat)) (o : Nat) : (s.raise m' x y as).clock o = s.clock o := rfl

/-! `raiseG` -/
@[simp] theorem lane_raiseG (m' x : Nat) (as : List (Nat × Nat)) (d l : Nat) : (s.raiseG m' x as).lane d l = s.lane d l := rfl
@[simp] theorem moved_raiseG (m' x : Nat) (as : List (Nat × Nat)) (d : Nat) : (s.raiseG m' x as).moved d = s.moved d := rfl
@[simp] theorem grp_raiseG (m' x : Nat) (as : List (Nat × Nat)) (g : Nat) : (s.raiseG m' x as).grp g = s.grp g := rfl
@[simp] theorem core_raiseG (m' x : Nat) (as : List (Nat × Nat)) (o : Nat) : (s.raiseG m' x as).core o = s.core o := rfl
@[simp] theorem entry_raiseG (m' x : Nat) (as : List (Nat × Nat)) (c : Nat) : (s.raiseG m' x as).entry c = s.entry c := rfl
@[simp] theorem stopReq_raiseG (m' x : Nat) (as : List (Nat × Nat)) (q : Nat) : (s.raiseG m' x as).stopReq q = s.stopReq q := rfl
@[simp] theorem lk_raiseG (m' x : Nat) (as : List (Nat × Nat)) (n : Nat) : (s.raiseG m' x as).lk n = s.lk n := rfl
@[simp] theorem pin_raiseG (m' x : Nat) (as : List (Nat × Nat)) (p : Nat) : (s.raiseG m' x as).pin p = s.pin p := rfl
@[simp] theorem rail_raiseG (m' x : Nat) (as : List (Nat × Nat)) (r : Nat) : (s.raiseG m' x as).rail r = s.rail r := rfl
@[simp] theorem pwr_raiseG (m' x : Nat) (as : List (Nat × Nat)) (g : Nat) : (s.raiseG m' x as).pwr g = s.pwr g := rfl
@[simp] theorem calRun_raiseG (m' x : Nat) (as : List (Nat × Nat)) (i : Nat) : (s.raiseG m' x as).calRun i = s.calRun i := rfl
@[simp] theorem fold_raiseG (m' x : Nat) (as : List (Nat × Nat)) (g : Nat) : (s.raiseG m' x as).fold g = s.fold g := rfl
@[simp] theorem acc_raiseG (m' x : Nat) (as : List (Nat × Nat)) (k : Nat) : (s.raiseG m' x as).acc k = s.acc k := rfl
@[simp] theorem ln_raiseG (m' x : Nat) (as : List (Nat × Nat)) (l : Nat) : (s.raiseG m' x as).ln l = s.ln l := rfl
@[simp] theorem uq_raiseG (m' x : Nat) (as : List (Nat × Nat)) (g : Nat) : (s.raiseG m' x as).uq g = s.uq g := rfl
@[simp] theorem pq_raiseG (m' x : Nat) (as : List (Nat × Nat)) (c p : Nat) : (s.raiseG m' x as).pq c p = s.pq c p := rfl
@[simp] theorem tile_raiseG (m' x : Nat) (as : List (Nat × Nat)) (p a b : Nat) : (s.raiseG m' x as).tile p a b = s.tile p a b := rfl
@[simp] theorem latched_raiseG (m' x : Nat) (as : List (Nat × Nat)) (q : Req) (a : Nat) : (s.raiseG m' x as).latched q a = s.latched q a := rfl
@[simp] theorem imem_raiseG (m' x : Nat) (as : List (Nat × Nat)) (o w : Nat) : (s.raiseG m' x as).imem o w = s.imem o w := rfl
@[simp] theorem dmem_raiseG (m' x : Nat) (as : List (Nat × Nat)) (o w : Nat) : (s.raiseG m' x as).dmem o w = s.dmem o w := rfl
@[simp] theorem sec_raiseG (m' x : Nat) (as : List (Nat × Nat)) (i : Nat) : (s.raiseG m' x as).sec_ i = s.sec_ i := rfl
@[simp] theorem ring_raiseG (m' x : Nat) (as : List (Nat × Nat)) (k : Nat) : (s.raiseG m' x as).ring k = s.ring k := rfl
@[simp] theorem bis_raiseG (m' x : Nat) (as : List (Nat × Nat)) (g : Nat) : (s.raiseG m' x as).bis g = s.bis g := rfl
@[simp] theorem enc_raiseG (m' x : Nat) (as : List (Nat × Nat)) (e : Nat) : (s.raiseG m' x as).enc e = s.enc e := rfl
@[simp] theorem clock_raiseG (m' x : Nat) (as : List (Nat × Nat)) (o : Nat) : (s.raiseG m' x as).clock o = s.clock o := rfl

/-! `groupState` -/
@[simp] theorem lane_groupState (x y z : Nat) (d l : Nat) : (s.groupState x y z).lane d l = s.lane d l := rfl
@[simp] theorem moved_groupState (x y z : Nat) (d : Nat) : (s.groupState x y z).moved d = s.moved d := rfl
@[simp] theorem grp_groupState (x y z : Nat) (g : Nat) : (s.groupState x y z).grp g = s.grp g := rfl
@[simp] theorem core_groupState (x y z : Nat) (o : Nat) : (s.groupState x y z).core o = s.core o := rfl
@[simp] theorem entry_groupState (x y z : Nat) (c : Nat) : (s.groupState x y z).entry c = s.entry c := rfl
@[simp] theorem stopReq_groupState (x y z : Nat) (q : Nat) : (s.groupState x y z).stopReq q = s.stopReq q := rfl
@[simp] theorem lk_groupState (x y z : Nat) (n : Nat) : (s.groupState x y z).lk n = s.lk n := rfl
@[simp] theorem pin_groupState (x y z : Nat) (p : Nat) : (s.groupState x y z).pin p = s.pin p := rfl
@[simp] theorem rail_groupState (x y z : Nat) (r : Nat) : (s.groupState x y z).rail r = s.rail r := rfl
@[simp] theorem pwr_groupState (x y z : Nat) (g : Nat) : (s.groupState x y z).pwr g = s.pwr g := rfl
@[simp] theorem calRun_groupState (x y z : Nat) (i : Nat) : (s.groupState x y z).calRun i = s.calRun i := rfl
@[simp] theorem fold_groupState (x y z : Nat) (g : Nat) : (s.groupState x y z).fold g = s.fold g := rfl
@[simp] theorem acc_groupState (x y z : Nat) (k : Nat) : (s.groupState x y z).acc k = s.acc k := rfl
@[simp] theorem ln_groupState (x y z : Nat) (l : Nat) : (s.groupState x y z).ln l = s.ln l := rfl
@[simp] theorem uq_groupState (x y z : Nat) (g : Nat) : (s.groupState x y z).uq g = s.uq g := rfl
@[simp] theorem pq_groupState (x y z : Nat) (c p : Nat) : (s.groupState x y z).pq c p = s.pq c p := rfl
@[simp] theorem tile_groupState (x y z : Nat) (p a b : Nat) : (s.groupState x y z).tile p a b = s.tile p a b := rfl
@[simp] theorem latched_groupState (x y z : Nat) (q : Req) (a : Nat) : (s.groupState x y z).latched q a = s.latched q a := rfl
@[simp] theorem imem_groupState (x y z : Nat) (o w : Nat) : (s.groupState x y z).imem o w = s.imem o w := rfl
@[simp] theorem dmem_groupState (x y z : Nat) (o w : Nat) : (s.groupState x y z).dmem o w = s.dmem o w := rfl
@[simp] theorem sec_groupState (x y z : Nat) (i : Nat) : (s.groupState x y z).sec_ i = s.sec_ i := rfl
@[simp] theorem ring_groupState (x y z : Nat) (k : Nat) : (s.groupState x y z).ring k = s.ring k := rfl
@[simp] theorem bis_groupState (x y z : Nat) (g : Nat) : (s.groupState x y z).bis g = s.bis g := rfl
@[simp] theorem enc_groupState (x y z : Nat) (e : Nat) : (s.groupState x y z).enc e = s.enc e := rfl
@[simp] theorem clock_groupState (x y z : Nat) (o : Nat) : (s.groupState x y z).clock o = s.clock o := rfl


/-! `setW1c` -/
@[simp] theorem setW1c_pending (x : Fld) (i : Nat) : (s.setW1c x i).pending = s.pending := rfl
@[simp] theorem setW1c_latches (x : Fld) (i : Nat) : (s.setW1c x i).latches = s.latches := rfl
@[simp] theorem setW1c_free (x : Fld) (i : Nat) : (s.setW1c x i).free = s.free := rfl
@[simp] theorem setW1c_outs (x : Fld) (i : Nat) : (s.setW1c x i).outs = s.outs := rfl
@[simp] theorem setW1c_time (x : Fld) (i : Nat) : (s.setW1c x i).time = s.time := rfl
@[simp] theorem setW1c_ev (x : Fld) (i : Nat) : (s.setW1c x i).ev = s.ev := rfl
@[simp] theorem setW1c_flt (x : Fld) (i : Nat) : (s.setW1c x i).flt = s.flt := rfl
@[simp] theorem setW1c_link (x : Fld) (i : Nat) : (s.setW1c x i).link = s.link := rfl
@[simp] theorem setW1c_groups (x : Fld) (i : Nat) : (s.setW1c x i).groups = s.groups := rfl
@[simp] theorem setW1c_transit (x : Fld) (i : Nat) : (s.setW1c x i).transit = s.transit := rfl
@[simp] theorem setW1c_host (x : Fld) (i : Nat) : (s.setW1c x i).host = s.host := rfl
@[simp] theorem setW1c_fs (x : Fld) (i : Nat) : (s.setW1c x i).fs = s.fs := rfl
@[simp] theorem setW1c_nv (x : Fld) (i : Nat) : (s.setW1c x i).nv = s.nv := rfl
@[simp] theorem setW1c_boot (x : Fld) (i : Nat) : (s.setW1c x i).boot = s.boot := rfl
@[simp] theorem setW1c_pix (x : Fld) (i : Nat) : (s.setW1c x i).pix = s.pix := rfl
@[simp] theorem setW1c_codec (x : Fld) (i : Nat) : (s.setW1c x i).codec = s.codec := rfl
@[simp] theorem setW1c_th (x : Fld) (i : Nat) : (s.setW1c x i).th = s.th := rfl
@[simp] theorem setW1c_ch (x : Fld) (i : Nat) : (s.setW1c x i).ch = s.ch := rfl
@[simp] theorem setW1c_drv (x : Fld) (i : Nat) : (s.setW1c x i).drv = s.drv := rfl
@[simp] theorem setW1c_cal (x : Fld) (i : Nat) : (s.setW1c x i).cal = s.cal := rfl
@[simp] theorem setW1c_arb (x : Fld) (i : Nat) : (s.setW1c x i).arb = s.arb := rfl
@[simp] theorem setW1c_sec (x : Fld) (i : Nat) : (s.setW1c x i).sec = s.sec := rfl
@[simp] theorem setW1c_mem (x : Fld) (i : Nat) : (s.setW1c x i).mem = s.mem := rfl

/-! `setOwn` -/
@[simp] theorem setOwn_pending (d : Nat) (l : List OwnFlit) : (s.setOwn d l).pending = s.pending := rfl
@[simp] theorem setOwn_regs (d : Nat) (l : List OwnFlit) : (s.setOwn d l).regs = s.regs := rfl
@[simp] theorem setOwn_latches (d : Nat) (l : List OwnFlit) : (s.setOwn d l).latches = s.latches := rfl
@[simp] theorem setOwn_w1cAt (d : Nat) (l : List OwnFlit) : (s.setOwn d l).w1cAt = s.w1cAt := rfl
@[simp] theorem setOwn_free (d : Nat) (l : List OwnFlit) : (s.setOwn d l).free = s.free := rfl
@[simp] theorem setOwn_outs (d : Nat) (l : List OwnFlit) : (s.setOwn d l).outs = s.outs := rfl
@[simp] theorem setOwn_time (d : Nat) (l : List OwnFlit) : (s.setOwn d l).time = s.time := rfl
@[simp] theorem setOwn_ev (d : Nat) (l : List OwnFlit) : (s.setOwn d l).ev = s.ev := rfl
@[simp] theorem setOwn_flt (d : Nat) (l : List OwnFlit) : (s.setOwn d l).flt = s.flt := rfl
@[simp] theorem setOwn_groups (d : Nat) (l : List OwnFlit) : (s.setOwn d l).groups = s.groups := rfl
@[simp] theorem setOwn_transit (d : Nat) (l : List OwnFlit) : (s.setOwn d l).transit = s.transit := rfl
@[simp] theorem setOwn_host (d : Nat) (l : List OwnFlit) : (s.setOwn d l).host = s.host := rfl
@[simp] theorem setOwn_fs (d : Nat) (l : List OwnFlit) : (s.setOwn d l).fs = s.fs := rfl
@[simp] theorem setOwn_nv (d : Nat) (l : List OwnFlit) : (s.setOwn d l).nv = s.nv := rfl
@[simp] theorem setOwn_boot (d : Nat) (l : List OwnFlit) : (s.setOwn d l).boot = s.boot := rfl
@[simp] theorem setOwn_pix (d : Nat) (l : List OwnFlit) : (s.setOwn d l).pix = s.pix := rfl
@[simp] theorem setOwn_codec (d : Nat) (l : List OwnFlit) : (s.setOwn d l).codec = s.codec := rfl
@[simp] theorem setOwn_th (d : Nat) (l : List OwnFlit) : (s.setOwn d l).th = s.th := rfl
@[simp] theorem setOwn_ch (d : Nat) (l : List OwnFlit) : (s.setOwn d l).ch = s.ch := rfl
@[simp] theorem setOwn_drv (d : Nat) (l : List OwnFlit) : (s.setOwn d l).drv = s.drv := rfl
@[simp] theorem setOwn_cal (d : Nat) (l : List OwnFlit) : (s.setOwn d l).cal = s.cal := rfl
@[simp] theorem setOwn_arb (d : Nat) (l : List OwnFlit) : (s.setOwn d l).arb = s.arb := rfl
@[simp] theorem setOwn_sec (d : Nat) (l : List OwnFlit) : (s.setOwn d l).sec = s.sec := rfl
@[simp] theorem setOwn_mem (d : Nat) (l : List OwnFlit) : (s.setOwn d l).mem = s.mem := rfl
@[simp] theorem f_setOwn (d : Nat) (l : List OwnFlit) (y : Fld) : (s.setOwn d l).f y = s.f y := rfl
@[simp] theorem f_setW1c (x y : Fld) (i : Nat) : (s.setW1c x i).f y =
    if fldKey y = fldKey x then Machine.putBit (s.f x) i true % 2 ^ x.w else s.f y := f_putBit s x y i true
theorem reg_setW1c (x : Fld) (i k : Nat) : smGet fieldReset (s.setW1c x i).regs k =
    if k = fldKey x then Machine.putBit (s.f x) i true % 2 ^ x.w else smGet fieldReset s.regs k := reg_putBit s x i true k
/-- Which bit was last set when, after a bit of a W1C field is set (R7). -/
theorem w1cAt_setW1c (x : Fld) (i k : Nat) (h : i < 32) (hk : k / 32 ≠ fldKey x) :
    smGet (fun _ => 0) (s.setW1c x i).w1cAt k = smGet (fun _ => 0) s.w1cAt k := by
  unfold State.setW1c
  rw [smGet_smSet, if_neg (by unfold w1cKey; omega)]
@[simp] theorem ownFlits_setOwn (d d' : Nat) (l : List OwnFlit) :
    (s.setOwn d l).ownFlits d' = if d' = d then l else s.ownFlits d' := smGet_smSet ..

end Sys2Proof.Machine
end

