-- ==== Sys2Proof/Laws/Touch.lean ====
section
/-!
SUPPORT. Which parts of the state an operation can change: `Touch m s t` says that from `s` to `t` only the parts of the set `m`
changed (a set of parts as a number, one bit for each). One lemma for each operation, in the files after this one.
-/
set_option Elab.async false
namespace Sys2Proof.Machine

/-- The bit of a part. -/
def Part.bit : Part → Nat
  | .pending => 2 ^ 0
  | .regs => 2 ^ 1
  | .latches => 2 ^ 2
  | .free => 2 ^ 3
  | .outs => 2 ^ 4
  | .time => 2 ^ 5
  | .ev => 2 ^ 6
  | .flt => 2 ^ 7
  | .link => 2 ^ 8
  | .groups => 2 ^ 9
  | .transit => 2 ^ 10
  | .host => 2 ^ 11
  | .fsMem => 2 ^ 12
  | .fsPoison => 2 ^ 13
  | .fsRest => 2 ^ 14
  | .nv => 2 ^ 15
  | .boot => 2 ^ 16
  | .pix => 2 ^ 17
  | .codec => 2 ^ 18
  | .th => 2 ^ 19
  | .ch => 2 ^ 20
  | .drv => 2 ^ 21
  | .cal => 2 ^ 22
  | .arb => 2 ^ 23
  | .sec => 2 ^ 24
  | .mem => 2 ^ 25

/-- The set `m` has every part of the set `n`. -/
def Has (m n : Nat) : Prop := n &&& m = n

theorem Has.s {m n k : Nat} (h : Has m n) (e : k &&& n = k) : Has m k := by
  unfold Has at *
  rw [← e, Nat.and_assoc, h]

theorem Has.refl {m : Nat} : Has m m := Nat.and_self m

/-- From `s` to `t` only parts of the set `m` changed. -/
def Touch (m : Nat) (s t : State) : Prop := ∀ p : Part, Has m p.bit ∨ s.same t p

/-- Every next state the outcome answers is touched from `s` in `m` alone. -/
def TouchO (m : Nat) (s : State) (o : Host.Outcome State Fault Refusal) : Prop := ∀ t, o = .next t → Touch m s t

namespace Touch

variable {m : Nat} {s t u : State}

theorem same {s t : State} (p : Part) (h : Touch m s t) (e : ¬ Has m p.bit) : s.same t p := (h p).resolve_left e

theorem refl : Touch m s s := fun p => .inr (by cases p <;> simp [State.same])

theorem trans (h : Touch m s t) (g : Touch m t u) : Touch m s u := by
  intro p
  rcases h p with h | h
  · exact .inl h
  · rcases g p with g | g
    · exact .inl g
    · right; cases p <;> simp_all [State.same]

/-- The state of a pair, once the pair is known by its parts. -/
theorem ofEq {β : Type} {p : β × State} {b : β} (e : p = (b, u)) (h : Touch m s p.2) : Touch m s u := by
  subst e; exact h

theorem ofEq2 {β γ : Type} {p : β × γ × State} {b : β} {c : γ} (e : p = (b, c, u)) (h : Touch m s p.2.2) : Touch m s u := by
  subst e; exact h

theorem ite {c : Prop} {_ : Decidable c} (h : Touch m s t) (g : Touch m s u) : Touch m s (if c then t else u) := by
  split
  · exact h
  · exact g

theorem snd {β : Type} {b : β} (h : Touch m s t) : Touch m s (b, t).2 := h

theorem fst {β : Type} {b : β} (h : Touch m s t) : Touch m s (t, b).1 := h

theorem snd2 {β γ : Type} {b : β} {c : γ} (h : Touch m s t) : Touch m s (b, c, t).2.2 := h

theorem ite2 {β : Type} {c : Prop} {_ : Decidable c} {p q : β × State} (h : Touch m s p.2) (g : Touch m s q.2) :
    Touch m s (if c then p else q).2 := by
  split
  · exact h
  · exact g

theorem ite1 {β : Type} {c : Prop} {_ : Decidable c} {p q : State × β} (h : Touch m s p.1) (g : Touch m s q.1) :
    Touch m s (if c then p else q).1 := by
  split
  · exact h
  · exact g

theorem ite22 {β γ : Type} {c : Prop} {_ : Decidable c} {p q : β × γ × State} (h : Touch m s p.2.2) (g : Touch m s q.2.2) :
    Touch m s (if c then p else q).2.2 := by
  split
  · exact h
  · exact g

theorem foldl {β : Type} {l : List β} {f : State → β → State} (hf : ∀ t x, Touch m s t → Touch m s (f t x)) (h : Touch m s t) :
    Touch m s (l.foldl f t) := by
  induction l generalizing t with
  | nil => exact h
  | cons x l ih => exact ih (hf t x h)

/-- A fold over pairs of a value and a state. -/
theorem foldl2 {β γ : Type} {l : List β} {f : γ × State → β → γ × State} {p : γ × State}
    (hf : ∀ p x, Touch m s p.2 → Touch m s (f p x).2) (h : Touch m s p.2) : Touch m s (l.foldl f p).2 := by
  induction l generalizing p with
  | nil => exact h
  | cons x l ih => exact ih (hf p x h)

/-- A fold over pairs of a state and a value. -/
theorem foldl1 {β γ : Type} {l : List β} {f : State × γ → β → State × γ} {p : State × γ}
    (hf : ∀ p x, Touch m s p.1 → Touch m s (f p x).1) (h : Touch m s p.1) : Touch m s (l.foldl f p).1 := by
  induction l generalizing p with
  | nil => exact h
  | cons x l ih => exact ih (hf p x h)

theorem setF {x : Fld} {v : Nat} (d : Has m 2) (h : Touch m s t) : Touch m s (t.setF x v) := by
  intro p; cases p <;> first | exact h _ | exact .inl d

/-- A later piece after an earlier one. -/
theorem seq (g : Touch m t u) (h : Touch m s t) : Touch m s u := h.trans g

theorem seqO {o : Host.Outcome State Fault Refusal} (g : TouchO m t o) (h : Touch m s t) : TouchO m s o :=
  fun v e => h.trans (g v e)

theorem next (h : Touch m s t) : TouchO m s (.next t) := fun _ e => by cases e; exact h

theorem stop {r : Fault} : TouchO m s (.fault r) := fun _ e => by cases e

theorem iteO {c : Prop} {_ : Decidable c} {o p : Host.Outcome State Fault Refusal} (h : TouchO m s o) (g : TouchO m s p) :
    TouchO m s (if c then o else p) := by
  split
  · exact h
  · exact g

end Touch

end Sys2Proof.Machine
end

