-- ==== Sys2Proof/Laws/TouchBase.lean ====
section
/-!
SUPPORT. Which parts of the state an operation can change, one lemma for each: Ops, FrameStore, Codec, Panes, Pool, NvStore, Sec, Cores, Banks, WriteSet.
-/
set_option Elab.async false
set_option linter.all false

namespace Sys2Proof.Machine.Touch

variable {m : Nat} {s t : State}

/-! ## Updates of parts -/

theorem upd_1 {v1 v3} (d : Has m 2) (h : Touch m s t) :
    Touch m s ⟨t.pending, v1, t.latches, v3, t.free, t.outs, t.time, t.ev, t.flt, t.link, t.groups, t.transit, t.host, t.fs, t.nv, t.boot, t.pix, t.codec, t.th, t.ch, t.drv, t.cal, t.arb, t.sec, t.mem⟩ := by
  intro p; cases p <;> first | exact h _ | exact .inl (d.s rfl)

theorem upd_3 {v4} (d : Has m 8) (h : Touch m s t) :
    Touch m s ⟨t.pending, t.regs, t.latches, t.w1cAt, v4, t.outs, t.time, t.ev, t.flt, t.link, t.groups, t.transit, t.host, t.fs, t.nv, t.boot, t.pix, t.codec, t.th, t.ch, t.drv, t.cal, t.arb, t.sec, t.mem⟩ := by
  intro p; cases p <;> first | exact h _ | exact .inl (d.s rfl)

theorem upd_4 {v5} (d : Has m 16) (h : Touch m s t) :
    Touch m s ⟨t.pending, t.regs, t.latches, t.w1cAt, t.free, v5, t.time, t.ev, t.flt, t.link, t.groups, t.transit, t.host, t.fs, t.nv, t.boot, t.pix, t.codec, t.th, t.ch, t.drv, t.cal, t.arb, t.sec, t.mem⟩ := by
  intro p; cases p <;> first | exact h _ | exact .inl (d.s rfl)

theorem upd_9 {v10} (d : Has m 512) (h : Touch m s t) :
    Touch m s ⟨t.pending, t.regs, t.latches, t.w1cAt, t.free, t.outs, t.time, t.ev, t.flt, t.link, v10, t.transit, t.host, t.fs, t.nv, t.boot, t.pix, t.codec, t.th, t.ch, t.drv, t.cal, t.arb, t.sec, t.mem⟩ := by
  intro p; cases p <;> first | exact h _ | exact .inl (d.s rfl)

theorem upd_6 {v7} (d : Has m 64) (h : Touch m s t) :
    Touch m s ⟨t.pending, t.regs, t.latches, t.w1cAt, t.free, t.outs, t.time, v7, t.flt, t.link, t.groups, t.transit, t.host, t.fs, t.nv, t.boot, t.pix, t.codec, t.th, t.ch, t.drv, t.cal, t.arb, t.sec, t.mem⟩ := by
  intro p; cases p <;> first | exact h _ | exact .inl (d.s rfl)

theorem upd_7 {v8} (d : Has m 128) (h : Touch m s t) :
    Touch m s ⟨t.pending, t.regs, t.latches, t.w1cAt, t.free, t.outs, t.time, t.ev, v8, t.link, t.groups, t.transit, t.host, t.fs, t.nv, t.boot, t.pix, t.codec, t.th, t.ch, t.drv, t.cal, t.arb, t.sec, t.mem⟩ := by
  intro p; cases p <;> first | exact h _ | exact .inl (d.s rfl)

theorem upd_11 {v12} (d : Has m 2048) (h : Touch m s t) :
    Touch m s ⟨t.pending, t.regs, t.latches, t.w1cAt, t.free, t.outs, t.time, t.ev, t.flt, t.link, t.groups, t.transit, v12, t.fs, t.nv, t.boot, t.pix, t.codec, t.th, t.ch, t.drv, t.cal, t.arb, t.sec, t.mem⟩ := by
  intro p; cases p <;> first | exact h _ | exact .inl (d.s rfl)

theorem upd_24 {v23} (d : Has m 16777216) (h : Touch m s t) :
    Touch m s ⟨t.pending, t.regs, t.latches, t.w1cAt, t.free, t.outs, t.time, t.ev, t.flt, t.link, t.groups, t.transit, t.host, t.fs, t.nv, t.boot, t.pix, t.codec, t.th, t.ch, t.drv, t.cal, t.arb, v23, t.mem⟩ := by
  intro p; cases p <;> first | exact h _ | exact .inl (d.s rfl)

theorem upd_12_13 {f0 f1} (d : Has m 12288) (h : Touch m s t) :
    Touch m s ⟨t.pending, t.regs, t.latches, t.w1cAt, t.free, t.outs, t.time, t.ev, t.flt, t.link, t.groups, t.transit, t.host, ⟨f0, f1, t.fs.lastCe, t.fs.scrub, t.fs.postponed, t.fs.lastReq, t.fs.exitAt, t.fs.used, t.fs.lostCells, t.fs.wq⟩, t.nv, t.boot, t.pix, t.codec, t.th, t.ch, t.drv, t.cal, t.arb, t.sec, t.mem⟩ := by
  intro p; cases p <;> first | exact h _ | exact .inl (d.s rfl)

theorem upd_13 {f1} (d : Has m 8192) (h : Touch m s t) :
    Touch m s ⟨t.pending, t.regs, t.latches, t.w1cAt, t.free, t.outs, t.time, t.ev, t.flt, t.link, t.groups, t.transit, t.host, ⟨t.fs.mem, f1, t.fs.lastCe, t.fs.scrub, t.fs.postponed, t.fs.lastReq, t.fs.exitAt, t.fs.used, t.fs.lostCells, t.fs.wq⟩, t.nv, t.boot, t.pix, t.codec, t.th, t.ch, t.drv, t.cal, t.arb, t.sec, t.mem⟩ := by
  intro p; cases p <;> first | exact h _ | exact .inl (d.s rfl)

theorem upd_2 {v2} (d : Has m 4) (h : Touch m s t) :
    Touch m s ⟨t.pending, t.regs, v2, t.w1cAt, t.free, t.outs, t.time, t.ev, t.flt, t.link, t.groups, t.transit, t.host, t.fs, t.nv, t.boot, t.pix, t.codec, t.th, t.ch, t.drv, t.cal, t.arb, t.sec, t.mem⟩ := by
  intro p; cases p <;> first | exact h _ | exact .inl (d.s rfl)

theorem upd_12_13_14 {f0 f1 f2 f3 f4 f5 f6 f7 f8 f9} (d : Has m 28672) (h : Touch m s t) :
    Touch m s ⟨t.pending, t.regs, t.latches, t.w1cAt, t.free, t.outs, t.time, t.ev, t.flt, t.link, t.groups, t.transit, t.host, ⟨f0, f1, f2, f3, f4, f5, f6, f7, f8, f9⟩, t.nv, t.boot, t.pix, t.codec, t.th, t.ch, t.drv, t.cal, t.arb, t.sec, t.mem⟩ := by
  intro p; cases p <;> first | exact h _ | exact .inl (d.s rfl)

theorem upd_14 {f2 f3 f4 f5 f6 f7 f8 f9} (d : Has m 16384) (h : Touch m s t) :
    Touch m s ⟨t.pending, t.regs, t.latches, t.w1cAt, t.free, t.outs, t.time, t.ev, t.flt, t.link, t.groups, t.transit, t.host, ⟨t.fs.mem, t.fs.poison, f2, f3, f4, f5, f6, f7, f8, f9⟩, t.nv, t.boot, t.pix, t.codec, t.th, t.ch, t.drv, t.cal, t.arb, t.sec, t.mem⟩ := by
  intro p; cases p <;> first | exact h _ | exact .inl (d.s rfl)

theorem upd_18 {v17} (d : Has m 262144) (h : Touch m s t) :
    Touch m s ⟨t.pending, t.regs, t.latches, t.w1cAt, t.free, t.outs, t.time, t.ev, t.flt, t.link, t.groups, t.transit, t.host, t.fs, t.nv, t.boot, t.pix, v17, t.th, t.ch, t.drv, t.cal, t.arb, t.sec, t.mem⟩ := by
  intro p; cases p <;> first | exact h _ | exact .inl (d.s rfl)

theorem upd_14_18 {f2 f3 f4 f5 f6 f7 f8 f9 v17} (d : Has m 278528) (h : Touch m s t) :
    Touch m s ⟨t.pending, t.regs, t.latches, t.w1cAt, t.free, t.outs, t.time, t.ev, t.flt, t.link, t.groups, t.transit, t.host, ⟨t.fs.mem, t.fs.poison, f2, f3, f4, f5, f6, f7, f8, f9⟩, t.nv, t.boot, t.pix, v17, t.th, t.ch, t.drv, t.cal, t.arb, t.sec, t.mem⟩ := by
  intro p; cases p <;> first | exact h _ | exact .inl (d.s rfl)

theorem upd_17 {v16} (d : Has m 131072) (h : Touch m s t) :
    Touch m s ⟨t.pending, t.regs, t.latches, t.w1cAt, t.free, t.outs, t.time, t.ev, t.flt, t.link, t.groups, t.transit, t.host, t.fs, t.nv, t.boot, v16, t.codec, t.th, t.ch, t.drv, t.cal, t.arb, t.sec, t.mem⟩ := by
  intro p; cases p <;> first | exact h _ | exact .inl (d.s rfl)

theorem upd_23 {v22} (d : Has m 8388608) (h : Touch m s t) :
    Touch m s ⟨t.pending, t.regs, t.latches, t.w1cAt, t.free, t.outs, t.time, t.ev, t.flt, t.link, t.groups, t.transit, t.host, t.fs, t.nv, t.boot, t.pix, t.codec, t.th, t.ch, t.drv, t.cal, v22, t.sec, t.mem⟩ := by
  intro p; cases p <;> first | exact h _ | exact .inl (d.s rfl)

theorem upd_20 {v19} (d : Has m 1048576) (h : Touch m s t) :
    Touch m s ⟨t.pending, t.regs, t.latches, t.w1cAt, t.free, t.outs, t.time, t.ev, t.flt, t.link, t.groups, t.transit, t.host, t.fs, t.nv, t.boot, t.pix, t.codec, t.th, v19, t.drv, t.cal, t.arb, t.sec, t.mem⟩ := by
  intro p; cases p <;> first | exact h _ | exact .inl (d.s rfl)

theorem upd_15 {v14} (d : Has m 32768) (h : Touch m s t) :
    Touch m s ⟨t.pending, t.regs, t.latches, t.w1cAt, t.free, t.outs, t.time, t.ev, t.flt, t.link, t.groups, t.transit, t.host, t.fs, v14, t.boot, t.pix, t.codec, t.th, t.ch, t.drv, t.cal, t.arb, t.sec, t.mem⟩ := by
  intro p; cases p <;> first | exact h _ | exact .inl (d.s rfl)

theorem upd_19 {v18} (d : Has m 524288) (h : Touch m s t) :
    Touch m s ⟨t.pending, t.regs, t.latches, t.w1cAt, t.free, t.outs, t.time, t.ev, t.flt, t.link, t.groups, t.transit, t.host, t.fs, t.nv, t.boot, t.pix, t.codec, v18, t.ch, t.drv, t.cal, t.arb, t.sec, t.mem⟩ := by
  intro p; cases p <;> first | exact h _ | exact .inl (d.s rfl)

theorem upd_21 {v20} (d : Has m 2097152) (h : Touch m s t) :
    Touch m s ⟨t.pending, t.regs, t.latches, t.w1cAt, t.free, t.outs, t.time, t.ev, t.flt, t.link, t.groups, t.transit, t.host, t.fs, t.nv, t.boot, t.pix, t.codec, t.th, t.ch, v20, t.cal, t.arb, t.sec, t.mem⟩ := by
  intro p; cases p <;> first | exact h _ | exact .inl (d.s rfl)

theorem upd_22 {v21} (d : Has m 4194304) (h : Touch m s t) :
    Touch m s ⟨t.pending, t.regs, t.latches, t.w1cAt, t.free, t.outs, t.time, t.ev, t.flt, t.link, t.groups, t.transit, t.host, t.fs, t.nv, t.boot, t.pix, t.codec, t.th, t.ch, t.drv, v21, t.arb, t.sec, t.mem⟩ := by
  intro p; cases p <;> first | exact h _ | exact .inl (d.s rfl)

theorem upd_8 {v9} (d : Has m 256) (h : Touch m s t) :
    Touch m s ⟨t.pending, t.regs, t.latches, t.w1cAt, t.free, t.outs, t.time, t.ev, t.flt, v9, t.groups, t.transit, t.host, t.fs, t.nv, t.boot, t.pix, t.codec, t.th, t.ch, t.drv, t.cal, t.arb, t.sec, t.mem⟩ := by
  intro p; cases p <;> first | exact h _ | exact .inl (d.s rfl)

theorem upd_5 {v6} (d : Has m 32) (h : Touch m s t) :
    Touch m s ⟨t.pending, t.regs, t.latches, t.w1cAt, t.free, t.outs, v6, t.ev, t.flt, t.link, t.groups, t.transit, t.host, t.fs, t.nv, t.boot, t.pix, t.codec, t.th, t.ch, t.drv, t.cal, t.arb, t.sec, t.mem⟩ := by
  intro p; cases p <;> first | exact h _ | exact .inl (d.s rfl)

theorem upd_16 {v15} (d : Has m 65536) (h : Touch m s t) :
    Touch m s ⟨t.pending, t.regs, t.latches, t.w1cAt, t.free, t.outs, t.time, t.ev, t.flt, t.link, t.groups, t.transit, t.host, t.fs, t.nv, v15, t.pix, t.codec, t.th, t.ch, t.drv, t.cal, t.arb, t.sec, t.mem⟩ := by
  intro p; cases p <;> first | exact h _ | exact .inl (d.s rfl)

theorem upd_10 {v11} (d : Has m 1024) (h : Touch m s t) :
    Touch m s ⟨t.pending, t.regs, t.latches, t.w1cAt, t.free, t.outs, t.time, t.ev, t.flt, t.link, t.groups, v11, t.host, t.fs, t.nv, t.boot, t.pix, t.codec, t.th, t.ch, t.drv, t.cal, t.arb, t.sec, t.mem⟩ := by
  intro p; cases p <;> first | exact h _ | exact .inl (d.s rfl)

theorem upd_25 {v24} (d : Has m 33554432) (h : Touch m s t) :
    Touch m s ⟨t.pending, t.regs, t.latches, t.w1cAt, t.free, t.outs, t.time, t.ev, t.flt, t.link, t.groups, t.transit, t.host, t.fs, t.nv, t.boot, t.pix, t.codec, t.th, t.ch, t.drv, t.cal, t.arb, t.sec, v24⟩ := by
  intro p; cases p <;> first | exact h _ | exact .inl (d.s rfl)

theorem upd_16_21 {v15 v20} (d : Has m 2162688) (h : Touch m s t) :
    Touch m s ⟨t.pending, t.regs, t.latches, t.w1cAt, t.free, t.outs, t.time, t.ev, t.flt, t.link, t.groups, t.transit, t.host, t.fs, t.nv, v15, t.pix, t.codec, t.th, t.ch, v20, t.cal, t.arb, t.sec, t.mem⟩ := by
  intro p; cases p <;> first | exact h _ | exact .inl (d.s rfl)

theorem upd_12 {f0} (d : Has m 4096) (h : Touch m s t) :
    Touch m s ⟨t.pending, t.regs, t.latches, t.w1cAt, t.free, t.outs, t.time, t.ev, t.flt, t.link, t.groups, t.transit, t.host, ⟨f0, t.fs.poison, t.fs.lastCe, t.fs.scrub, t.fs.postponed, t.fs.lastReq, t.fs.exitAt, t.fs.used, t.fs.lostCells, t.fs.wq⟩, t.nv, t.boot, t.pix, t.codec, t.th, t.ch, t.drv, t.cal, t.arb, t.sec, t.mem⟩ := by
  intro p; cases p <;> first | exact h _ | exact .inl (d.s rfl)

/-! ## Ops -/

theorem setOn {a1 a2} (d : Has m 2) (h : Touch m s t) : Touch m s (State.setOn t a1 a2) := by
  unfold State.setOn; exact (.setF (d.s rfl) h)

theorem count {a1 a2} (d : Has m 2) (h : Touch m s t) : Touch m s (State.count t a1 a2) := by
  unfold State.count; exact (.setF (d.s rfl) h)

theorem putBit {a1 a2 a3} (d : Has m 2) (h : Touch m s t) : Touch m s (State.putBit t a1 a2 a3) := by
  unfold State.putBit; exact (.setF (d.s rfl) h)

theorem setW1c {a1 a2} (d : Has m 2) (h : Touch m s t) : Touch m s (State.setW1c t a1 a2) := by
  unfold State.setW1c; exact (.upd_1 (d.s rfl) (.putBit (d.s rfl) h))

theorem draw {a1} (d : Has m 8) (h : Touch m s t) : Touch m s (State.draw t a1).2 := by
  unfold State.draw; exact (.snd (.upd_3 (d.s rfl) h))

theorem out {a1} (d : Has m 16) (h : Touch m s t) : Touch m s (State.out t a1) := by
  unfold State.out; exact (.upd_4 (d.s rfl) h)

theorem setGrp {a1 a2} (d : Has m 512) (h : Touch m s t) : Touch m s (State.setGrp t a1 a2) := by
  unfold State.setGrp; exact (.upd_9 (d.s rfl) h)

theorem raiseAt {a1 a2 a3 a4 a5} (d : Has m 64) (h : Touch m s t) : Touch m s (State.raiseAt t a1 a2 a3 a4 a5) := by
  unfold State.raiseAt; exact (.upd_6 (d.s rfl) h)

theorem raise {a1 a2 a3 a4} (d : Has m 64) (h : Touch m s t) : Touch m s (State.raise t a1 a2 a3 a4) := by
  unfold State.raise; exact (.raiseAt (d.s rfl) h)

theorem raiseG {a1 a2 a3} (d : Has m 64) (h : Touch m s t) : Touch m s (State.raiseG t a1 a2 a3) := by
  unfold State.raiseG; exact (.raise (d.s rfl) h)

theorem groupState {a1 a2 a3} (d : Has m 66) (h : Touch m s t) : Touch m s (State.groupState t a1 a2 a3) := by
  unfold State.groupState; exact (.raiseG (d.s rfl) (.setF (d.s rfl) h))

theorem stopGroup {a1} (d : Has m 578) (h : Touch m s t) : Touch m s (State.stopGroup t a1) := by
  unfold State.stopGroup; exact (.ite (.groupState (d.s rfl) (.setF (d.s rfl) (.setGrp (d.s rfl) h))) h)

theorem deferred {a1} (d : Has m 2) (h : Touch m s t) : Touch m s (State.deferred t a1) := by
  unfold State.deferred; exact (.count (d.s rfl) h)

theorem refused {a1 a2} (d : Has m 2) (h : Touch m s t) : Touch m s (State.refused t a1 a2) := by
  unfold State.refused; exact (.setF (d.s rfl) (.count (d.s rfl) h))

theorem err {a1 a2} (d : Has m 2) (h : Touch m s t) : Touch m s (State.err t a1 a2) := by
  unfold State.err; (try dsimp only); split; exacts [(.setW1c (d.s rfl) (.setF (d.s rfl) (.setF (d.s rfl) h))), (.setW1c (d.s rfl) (.setF (d.s rfl) (.setF (d.s rfl) h))), (.setW1c (d.s rfl) (.setF (d.s rfl) (.setF (d.s rfl) h)))]

theorem degraded  (d : Has m 2) (h : Touch m s t) : Touch m s (State.degraded t) := by
  unfold State.degraded; exact (.setOn (d.s rfl) h)

theorem terminal {a1} (d : Has m 578) (h : Touch m s t) : Touch m s (State.terminal t a1) := by
  unfold State.terminal; exact (.seq (.ite (.foldl (fun _ _ h5 => (.stopGroup (d.s rfl) h5)) .refl) .refl) (.setF (d.s rfl) h))

theorem fault {a1 a2 a3 a4} (d : Has m 706) (h : Touch m s t) : Touch m s (State.fault t a1 a2 a3 a4) := by
  unfold State.fault; (try dsimp only); split; exacts [(.upd_7 (d.s rfl) (.count (d.s rfl) (.degraded (d.s rfl) (.ite (.terminal (d.s rfl) h) h)))), (.ite (.count (d.s rfl) (.degraded (d.s rfl) (.ite (.terminal (d.s rfl) h) h))) (.raise (d.s rfl) (.setF (d.s rfl) (.setF (d.s rfl) (.upd_7 (d.s rfl) (.count (d.s rfl) (.degraded (d.s rfl) (.ite (.terminal (d.s rfl) h) h))))))))]

theorem msix {a1 a2} (d : Has m 2064) (h : Touch m s t) : Touch m s (State.msix t a1 a2) := by
  unfold State.msix; exact (.ite h (.ite (.out (d.s rfl) h) (.upd_11 (d.s rfl) h)))

theorem logIrq {a1} (d : Has m 2064) (h : Touch m s t) : Touch m s (State.logIrq t a1) := by
  unfold State.logIrq; exact (.ite (.msix (d.s rfl) h) h)

theorem cxlLog {a1 a2 a3} (d : Has m 2064) (h : Touch m s t) : Touch m s (State.cxlLog t a1 a2 a3) := by
  unfold State.cxlLog; exact (.logIrq (d.s rfl) (.upd_11 (d.s rfl) h))

theorem measure {a1 a2} (d : Has m 16777280) (h : Touch m s t) : Touch m s (State.measure t a1 a2) := by
  unfold State.measure; exact (.ite h (.raise (d.s rfl) (.upd_24 (d.s rfl) h)))

theorem fsPut {a1 a2} (d : Has m 12288) (h : Touch m s t) : Touch m s (State.fsPut t a1 a2) := by
  unfold State.fsPut; exact (.upd_12_13 (d.s rfl) h)

theorem fsPoison {a1} (d : Has m 8192) (h : Touch m s t) : Touch m s (State.fsPoison t a1) := by
  unfold State.fsPoison; exact (.upd_13 (d.s rfl) h)

theorem latchHi {a1 a2 a3} (d : Has m 4) (h : Touch m s t) : Touch m s (State.latchHi t a1 a2 a3) := by
  unfold State.latchHi; exact (.upd_2 (d.s rfl) h)

/-! ## FrameStore -/

theorem noteWrite {a1 a2} (d : Has m 512) (h : Touch m s t) : Touch m s (State.noteWrite t a1 a2) := by
  unfold State.noteWrite; exact (.foldl (fun _ _ h5 => (.ite (.setGrp (d.s rfl) h5) h5)) h)

theorem fsWrite {a1 a2} (d : Has m 12800) (h : Touch m s t) : Touch m s (State.fsWrite t a1 a2) := by
  unfold State.fsWrite; exact (.noteWrite (d.s rfl) (.fsPut (d.s rfl) h))

theorem leaveLowPower {a1} (d : Has m 28674) (h : Touch m s t) : Touch m s (State.leaveLowPower t a1) := by
  unfold State.leaveLowPower; exact (.ite h (.upd_12_13_14 (d.s rfl) (.setF (d.s rfl) h)))

theorem touchStack {a1} (d : Has m 28674) (h : Touch m s t) : Touch m s (State.touchStack t a1) := by
  unfold State.touchStack; exact (.upd_14 (d.s rfl) (.leaveLowPower (d.s rfl) h))

theorem touchRange {a1 a2} (d : Has m 28674) (h : Touch m s t) : Touch m s (State.touchRange t a1 a2) := by
  unfold State.touchRange; exact (.foldl (fun _ _ h5 => (.touchStack (d.s rfl) h5)) h)

theorem sendBi {a1 a2 a3} (d : Has m 2064) (h : Touch m s t) : Touch m s (State.sendBi t a1 a2 a3) := by
  unfold State.sendBi; exact (.foldl (fun _ _ h5 => (.ite (.upd_11 (d.s rfl) h5) (.out (d.s rfl) (.upd_11 (d.s rfl) h5)))) h)

theorem readGate {a1 a2} (d : Has m 30738) (h : Touch m s t) : Touch m s (State.readGate t a1 a2).2 := by
  unfold State.readGate; exact (.snd (.sendBi (d.s rfl) (.foldl (fun _ _ h5 => (.touchRange (d.s rfl) h5)) h)))

theorem devRead {a1 a2} (d : Has m 30738) (h : Touch m s t) : Touch m s (State.devRead t a1 a2).2 := by
  unfold State.devRead; exact (.snd (.readGate (a1 := Bool.false) (a2 := [(a1, a2)]) (d.s rfl) h))

theorem askHost {a1} (d : Has m 2064) (h : Touch m s t) : Touch m s (State.askHost t a1) := by
  unfold State.askHost; exact (.out (d.s rfl) (.upd_11 (d.s rfl) h))

theorem hostGate {a1} (d : Has m 2064) (h : Touch m s t) : Touch m s (State.hostGate t a1).2 := by
  unfold State.hostGate; exact (.ite2 (.snd (.foldl (fun _ _ h5 => (.askHost (d.s rfl) h5)) h)) (.snd h))

theorem dropHost {a1 a2} (d : Has m 2048) (h : Touch m s t) : Touch m s (State.dropHost t a1 a2) := by
  unfold State.dropHost; exact (.upd_11 (d.s rfl) h)

theorem askWrite {a1} (d : Has m 2064) (h : Touch m s t) : Touch m s (State.askWrite t a1) := by
  unfold State.askWrite; exact (.sendBi (d.s rfl) h)

theorem devWriteLine {a1 a2 a3} (d : Has m 31250) (h : Touch m s t) : Touch m s (State.devWriteLine t a1 a2 a3) := by
  unfold State.devWriteLine; exact (.seq (.ite (.askWrite (d.s rfl) (.upd_14 (d.s rfl) .refl)) (.fsWrite (d.s rfl) .refl)) (.touchRange (d.s rfl) h))

theorem devWriteGo {tag a1 a2 a3} (d : Has m 31250) (h : Touch m s t) : Touch m s (Machine.devWriteGo tag a1 t a2 a3) := by
  induction a1 generalizing t a2 a3 with
  | zero => exact h
  | succ n ih => exact .ite h (ih (.devWriteLine (d.s rfl) h))

theorem devWrite {a1 a2 a3} (d : Has m 31250) (h : Touch m s t) : Touch m s (State.devWrite t a1 a2 a3) := by
  unfold State.devWrite; exact (.devWriteGo (d.s rfl) h)

theorem drainWrites (d : Has m 31248) (h : Touch m s t) : Touch m s t.drainWrites := by
  unfold State.drainWrites
  exact .upd_14 (d.s rfl) (.foldl2 (fun p w h => by
    split
    · exact .askWrite (d.s rfl) h
    · exact .fsWrite (d.s rfl) h) h)

theorem checkTol  (d : Has m 28674) (h : Touch m s t) : Touch m s (State.checkTol t) := by
  unfold State.checkTol; exact (.foldl (fun _ _ h5 => (.ite (.leaveLowPower (d.s rfl) h5) h5)) h)

theorem fsCorrected {a1 a2} (d : Has m 19154) (h : Touch m s t) : Touch m s (State.fsCorrected t a1 a2) := by
  unfold State.fsCorrected; exact (.seq (.fault (d.s rfl) (.ite .refl (.cxlLog (d.s rfl) (.raise (d.s rfl) (.upd_14 (d.s rfl) .refl))))) (.count (d.s rfl) h))

theorem fsUncorrectable {a1 a2} (d : Has m 10962) (h : Touch m s t) : Touch m s (State.fsUncorrectable t a1 a2) := by
  unfold State.fsUncorrectable; exact (.fault (d.s rfl) (.cxlLog (d.s rfl) (.raise (d.s rfl) (.upd_11 (d.s rfl) (.setF (d.s rfl) (.setW1c (d.s rfl) (.count (d.s rfl) (.fsPoison (d.s rfl) h))))))))

theorem fsEcc {a1 a2 a3} (d : Has m 27346) (h : Touch m s t) : Touch m s (State.fsEcc t a1 a2 a3) := by
  unfold State.fsEcc; exact (.ite (.fsUncorrectable (d.s rfl) h) (.ite (.fsCorrected (d.s rfl) h) h))

theorem execFstReadDone {a0 a1 a2} (d : Has m 31442) (h : Touch m s t) : TouchO m s (Machine.execFstReadDone a0 a1 a2 t) := by
  unfold Machine.execFstReadDone; exact (.iteO (.next h) (.iteO (.next (.fsEcc (d.s rfl) (.touchStack (d.s rfl) h))) (.next (.touchStack (d.s rfl) h))))

theorem execScrubRead {a0 a1} (d : Has m 31442) (h : Touch m s t) : TouchO m s (Machine.execScrubRead a0 a1 t) := by
  unfold Machine.execScrubRead; exact (.iteO (.next h) (.iteO (.next (.upd_14 (d.s rfl) h)) (.iteO (.next (.touchRange (d.s rfl) h)) (.next (.foldl (fun _ _ h5 => (.fsEcc (d.s rfl) h5)) (.upd_14 (d.s rfl) (.touchRange (d.s rfl) h)))))))

theorem execRefreshInterval {a0 a1} (d : Has m 16384) (h : Touch m s t) : TouchO m s (Machine.execRefreshInterval a0 a1 t) := by
  unfold Machine.execRefreshInterval; exact (.iteO (.next h) (.iteO (.next (.upd_14 (d.s rfl) h)) (.iteO (.next (.upd_14 (d.s rfl) h)) (.next (.upd_14 (d.s rfl) h)))))

/-! ## Codec -/

theorem markCell {a1 a2} (d : Has m 16384) (h : Touch m s t) : Touch m s (State.markCell t a1 a2) := by
  unfold State.markCell; exact (.upd_14 (d.s rfl) h)

theorem setFree {a1} (d : Has m 66) (h : Touch m s t) : Touch m s (State.setFree t a1) := by
  unfold State.setFree; exact (.seq (.ite (.raise (d.s rfl) .refl) .refl) (.setF (d.s rfl) h))

theorem freeOld {a1} (d : Has m 262144) (h : Touch m s t) : Touch m s (State.freeOld t a1) := by
  unfold State.freeOld; exact (.upd_18 (d.s rfl) h)

theorem settleFreed  (d : Has m 262144) (h : Touch m s t) : Touch m s (State.settleFreed t) := by
  unfold State.settleFreed; exact (.ite h (.upd_18 (d.s rfl) h))

theorem setTile {a1 a2 a3 a4} (d : Has m 262144) (h : Touch m s t) : Touch m s (State.setTile t a1 a2 a3 a4) := by
  unfold State.setTile; exact (.upd_18 (d.s rfl) h)

theorem badBlock {a1 a2 a3 a4 a5} (d : Has m 262850) (h : Touch m s t) : Touch m s (State.badBlock t a1 a2 a3 a4 a5) := by
  unfold State.badBlock; exact (.fault (d.s rfl) (.raise (d.s rfl) (.count (d.s rfl) (.setTile (d.s rfl) h))))

theorem dropTiles {a1} (d : Has m 262144) (h : Touch m s t) : Touch m s (State.dropTiles t a1) := by
  unfold State.dropTiles; exact (.upd_18 (d.s rfl) h)

theorem execBlockFetchDone {a0 a1 a2} (d : Has m 292882) (h : Touch m s t) : TouchO m s (Machine.execBlockFetchDone a0 a1 a2 t) := by
  unfold Machine.execBlockFetchDone; exact (.iteO (by (try dsimp only); split; exacts [(by rename_i h5; exact (.next (ofEq h5 (.readGate (d.s rfl) h)))), (by rename_i h6; exact (.next (.setTile (d.s rfl) (ofEq h6 (.readGate (d.s rfl) h)))))]) (.next h))

theorem execTileFetchTimeout {a0 a1 a2 a3} (d : Has m 262850) (h : Touch m s t) : TouchO m s (Machine.execTileFetchTimeout a0 a1 a2 a3 t) := by
  unfold Machine.execTileFetchTimeout; exact (.iteO (.next (.badBlock (d.s rfl) h)) (.next h))

theorem execBlockDecodeDone {a0 a1 a2 a3} (d : Has m 262850) (h : Touch m s t) : TouchO m s (Machine.execBlockDecodeDone a0 a1 a2 a3 t) := by
  unfold Machine.execBlockDecodeDone; exact (.iteO (.next h) (by (try dsimp only); split; exacts [(.next (.setTile (d.s rfl) h)), (.next (.badBlock (d.s rfl) h)), (by (try dsimp only); split; exacts [(.next (.setTile (d.s rfl) h)), (.next (.badBlock (d.s rfl) h))]), (.next h)]))

theorem setEnc {a1 a2} (d : Has m 262146) (h : Touch m s t) : Touch m s (State.setEnc t a1 a2) := by
  unfold State.setEnc; exact (.putBit (d.s rfl) (.upd_18 (d.s rfl) h))

theorem setJob {a1 a2} (d : Has m 262144) (h : Touch m s t) : Touch m s (State.setJob t a1 a2) := by
  unfold State.setJob; exact (.upd_18 (d.s rfl) h)

theorem handOut  (d : Has m 262146) (h : Touch m s t) : Touch m s (State.handOut t) := by
  unfold State.handOut; exact (.foldl (fun _ _ h5 => (.ite (by (try dsimp only); split; exacts [(by (try dsimp only); split; exacts [h5, (.setEnc (d.s rfl) (.setJob (d.s rfl) h5))]), h5]) h5)) h)

theorem completeJobs {a1} (d : Has m 262210) (h : Touch m s t) : Touch m s (Machine.completeJobs a1 t) := by
  induction a1 generalizing t with
  | nil => exact .upd_18 (d.s rfl) h
  | cons j js ih => exact .ite (ih (.raise (d.s rfl) (.ite (.deferred (d.s rfl) (.setF (d.s rfl) h)) (.setF (d.s rfl) h)))) (.upd_18 (d.s rfl) h)

theorem runJobs  (d : Has m 262210) (h : Touch m s t) : Touch m s (State.runJobs t) := by
  unfold State.runJobs; exact (.seq (.ite (.completeJobs (d.s rfl) .refl) .refl) (.settleFreed (d.s rfl) (.handOut (d.s rfl) h)))

theorem submitJobs {a1 a2} (d : Has m 262146) (h : Touch m s t) : Touch m s (State.submitJobs t a1 a2) := by
  unfold State.submitJobs; exact (.ite h (.setF (d.s rfl) (.upd_18 (d.s rfl) h)))

theorem nextJob  (d : Has m 30738) (h : Touch m s t) : Touch m s (State.nextJob t).2 := by
  unfold State.nextJob; (try dsimp only); split; exacts [(.snd h), (.ite2 (.snd h) (by (try dsimp only); split; exacts [(by rename_i h5; exact (.snd (ofEq h5 (.devRead (d.s rfl) h)))), (by rename_i h6; exact (.snd (ofEq h6 (.devRead (d.s rfl) h))))]))]

theorem refuseJob {a1 a2} (d : Has m 262210) (h : Touch m s t) : Touch m s (State.refuseJob t a1 a2) := by
  unfold State.refuseJob; exact (.runJobs (d.s rfl) (.setJob (d.s rfl) h))

theorem execCodecEncode  (d : Has m 292946) (h : Touch m s t) : TouchO m s (Machine.execCodecEncode t) := by
  unfold Machine.execCodecEncode; (try dsimp only); split; exacts [(by rename_i h5; exact (.next (ofEq h5 (.nextJob (d.s rfl) h)))), (by rename_i h6; exact (.iteO (.next (ofEq h6 (.nextJob (d.s rfl) h))) (.iteO (.next (.refuseJob (d.s rfl) (ofEq h6 (.nextJob (d.s rfl) h)))) (.next (.runJobs (d.s rfl) (.setJob (d.s rfl) (ofEq h6 (.nextJob (d.s rfl) h))))))))]

theorem releaseBlock {a1 a2} (d : Has m 293394) (h : Touch m s t) : Touch m s (State.releaseBlock t a1 a2) := by
  unfold State.releaseBlock; exact (.devWrite (d.s rfl) (.freeOld (d.s rfl) h))

theorem execCodecRelease  (d : Has m 293458) (h : Touch m s t) : TouchO m s (Machine.execCodecRelease t) := by
  unfold Machine.execCodecRelease; (try dsimp only); split; exacts [(by rename_i h5; exact (.next (ofEq h5 (.nextJob (d.s rfl) h)))), (by rename_i h6; exact (.iteO (.next (ofEq h6 (.nextJob (d.s rfl) h))) (.iteO (.next (.refuseJob (d.s rfl) (ofEq h6 (.nextJob (d.s rfl) h)))) (.iteO (.next (ofEq h6 (.nextJob (d.s rfl) h))) (by (try dsimp only); split; exacts [(by rename_i h7; exact (.next (ofEq h7 (.readGate (d.s rfl) (ofEq h6 (.nextJob (d.s rfl) h)))))), (by rename_i h8; exact (.next (.runJobs (d.s rfl) (.setJob (d.s rfl) (.foldl (fun _ _ h9 => (.releaseBlock (d.s rfl) h9)) (ofEq h8 (.readGate (d.s rfl) (ofEq h6 (.nextJob (d.s rfl) h)))))))))])))))]

theorem encodeGate {a1 a2 a3 a4 a5} (d : Has m 30738) (h : Touch m s t) : Touch m s (State.encodeGate t a1 a2 a3 a4 a5).2 := by
  unfold State.encodeGate; exact (.ite2 (.snd (.readGate (d.s rfl) (.hostGate (d.s rfl) h))) (.readGate (d.s rfl) h))

theorem dropSource {a1 a2 a3 a4 a5} (d : Has m 2048) (h : Touch m s t) : Touch m s (State.dropSource t a1 a2 a3 a4 a5) := by
  unfold State.dropSource; exact (.ite (.foldl (fun _ _ h5 => (.dropHost (d.s rfl) h5)) h) h)

theorem writeCells {a1 a2} (d : Has m 31250) (h : Touch m s t) : Touch m s (Machine.writeCells a1 a2 t) := by
  induction a1 generalizing t a2 with
  | nil => exact h
  | cons c cs ih => exact ih (.markCell (d.s rfl) (.devWrite (d.s rfl) (.devWrite (d.s rfl) h)))

theorem writeBlock {a1 a2 a3 a4 a5} (d : Has m 293458) (h : Touch m s t) : Touch m s (State.writeBlock t a1 a2 a3 a4 a5) := by
  unfold State.writeBlock; exact (.seq (.freeOld (d.s rfl) (.devWrite (d.s rfl) (.devWrite (d.s rfl) (.ite .refl (.setFree (d.s rfl) .refl))))) (.writeCells (d.s rfl) h))

theorem quarantine {a1} (d : Has m 706) (h : Touch m s t) : Touch m s (State.quarantine t a1) := by
  unfold State.quarantine; exact (.fault (d.s rfl) (.raise (d.s rfl) (.setW1c (d.s rfl) h)))

theorem encMismatch {a1 a2 a3 a4 a5} (d : Has m 262850) (h : Touch m s t) : Touch m s (State.encMismatch t a1 a2 a3 a4 a5) := by
  unfold State.encMismatch; exact (.seq (.seq (.seq (.seq (.ite (.quarantine (d.s rfl) .refl) .refl) (.ite .refl (.fault (d.s rfl) .refl))) (.raise (d.s rfl) .refl)) (.setEnc (d.s rfl) .refl)) (.count (d.s rfl) h))

theorem execCodecBlockDone {a0 a1 a2} (d : Has m 293586) (h : Touch m s t) : TouchO m s (Machine.execCodecBlockDone a0 a1 a2 t) := by
  unfold Machine.execCodecBlockDone; (try dsimp only); split; exacts [(.next h), (by (try dsimp only); split; exacts [(.next h), (.iteO (.next h) (by (try dsimp only); split; exacts [(by rename_i h5; exact (.next (ofEq h5 (.encodeGate (d.s rfl) h)))), (by rename_i h6; exact (by (try dsimp only); split; exacts [(.next (.runJobs (d.s rfl) (.setEnc (d.s rfl) (.setJob (d.s rfl) (.dropSource (d.s rfl) (ofEq h6 (.encodeGate (d.s rfl) h))))))), (.iteO (.next (.runJobs (d.s rfl) (.setJob (d.s rfl) (.encMismatch (d.s rfl) (.setEnc (d.s rfl) (.dropSource (d.s rfl) (ofEq h6 (.encodeGate (d.s rfl) h)))))))) (.iteO (.seqO (.next (.ite .refl (.raise (d.s rfl) .refl))) (.setJob (d.s rfl) (ofEq h6 (.encodeGate (d.s rfl) h)))) (.seqO (.seqO (.next (.runJobs (d.s rfl) (.setEnc (d.s rfl) (.setJob (d.s rfl) (.ite (.encMismatch (d.s rfl) .refl) .refl))))) (.ite (.count (d.s rfl) .refl) .refl)) (.writeBlock (d.s rfl) (.dropSource (d.s rfl) (ofEq h6 (.encodeGate (d.s rfl) h)))))))]))]))])]

theorem execCellRelease  (d : Has m 278594) (h : Touch m s t) : TouchO m s (Machine.execCellRelease t) := by
  unfold Machine.execCellRelease; (try dsimp only); split; exacts [(.next h), (.iteO (.next h) (.next (.setFree (d.s rfl) (.foldl (fun _ _ h5 => (.markCell (d.s rfl) h5)) (.upd_18 (d.s rfl) h)))))]

theorem releaseEncoders {a1} (d : Has m 262210) (h : Touch m s t) : Touch m s (State.releaseEncoders t a1) := by
  unfold State.releaseEncoders; exact (.runJobs (d.s rfl) (.degraded (d.s rfl) (.foldl (fun _ _ h5 => (.ite (.raise (d.s rfl) (.setEnc (d.s rfl) (.putBit (d.s rfl) h5))) h5)) h)))

theorem freeAllCells  (d : Has m 278594) (h : Touch m s t) : Touch m s (State.freeAllCells t) := by
  unfold State.freeAllCells; exact (.setFree (d.s rfl) (.upd_14_18 (d.s rfl) h))

theorem strudelWrite {a1 a2} (d : Has m 278594) (h : Touch m s t) : Touch m s (State.strudelWrite t a1 a2) := by
  unfold State.strudelWrite; exact (.seq (.ite (.err (d.s rfl) .refl) (.ite (.freeAllCells (d.s rfl) (.setF (d.s rfl) .refl)) (.ite (.freeAllCells (d.s rfl) (.setF (d.s rfl) .refl)) .refl))) (.ite (.setF (d.s rfl) h) h))

/-! ## Panes -/

theorem checkPane {a1} (d : Has m 66) (h : Touch m s t) : Touch m s (State.checkPane t a1) := by
  unfold State.checkPane; exact (.seq (.ite .refl (.raise (d.s rfl) .refl)) (.setF (d.s rfl) h))

theorem losePane {a1} (d : Has m 131138) (h : Touch m s t) : Touch m s (State.losePane t a1) := by
  unfold State.losePane; exact (.ite (.checkPane (d.s rfl) (.upd_17 (d.s rfl) h)) (.upd_17 (d.s rfl) h))

theorem captureBytes {a1 a2 a3} (d : Has m 162322) (h : Touch m s t) : Touch m s (State.captureBytes t a1 a2 a3) := by
  unfold State.captureBytes; exact (.ite (.foldl (fun _ _ h5 => (.ite h5 (.upd_17 (d.s rfl) (.devWrite (d.s rfl) h5)))) h) h)

theorem dropCaptures {a1} (d : Has m 131072) (h : Touch m s t) : Touch m s (State.dropCaptures t a1) := by
  unfold State.dropCaptures; exact (.upd_17 (d.s rfl) h)

theorem captureLatch {a1} (d : Has m 131072) (h : Touch m s t) : Touch m s (State.captureLatch t a1) := by
  unfold State.captureLatch; exact (.upd_17 (d.s rfl) (.dropCaptures (d.s rfl) h))

theorem captureFrameEnd {a1} (d : Has m 131074) (h : Touch m s t) : Touch m s (State.captureFrameEnd t a1) := by
  unfold State.captureFrameEnd; exact (.upd_17 (d.s rfl) (.foldl (fun _ _ h5 => (.ite h5 (.setF (d.s rfl) h5))) h))

theorem dropHostPanes {a1} (d : Has m 2048) (h : Touch m s t) : Touch m s (State.dropHostPanes t a1) := by
  unfold State.dropHostPanes; exact (.foldl (fun _ _ h5 => (.dropHost (d.s rfl) h5)) h)

theorem setSr {a1 a2 a3} (d : Has m 131138) (h : Touch m s t) : Touch m s (State.setSr t a1 a2 a3) := by
  unfold State.setSr; exact (.seq (.seq (.raiseG (d.s rfl) (.ite (.dropCaptures (d.s rfl) .refl) .refl)) (.setOn (d.s rfl) .refl)) (.putBit (d.s rfl) h))

theorem sleepNow {a1} (d : Has m 131650) (h : Touch m s t) : Touch m s (State.sleepNow t a1) := by
  unfold State.sleepNow; exact (.seq (.foldl (fun _ _ h5 => (.seq (.ite (.setGrp (d.s rfl) (.setSr (d.s rfl) .refl)) .refl) (.setGrp (d.s rfl) h5))) .refl) (.setF (d.s rfl) (.setF (d.s rfl) h)))

theorem writeSleep {a1} (d : Has m 514) (h : Touch m s t) : Touch m s (State.writeSleep t a1) := by
  unfold State.writeSleep; exact (.foldl (fun _ _ h5 => (.ite h5 (.ite (.setGrp (d.s rfl) h5) (.setGrp (d.s rfl) h5)))) (.setOn (d.s rfl) (.ite (.setF (d.s rfl) h) h)))

/-! ## Pool -/

theorem setAge {a1 a2 a3} (d : Has m 8388608) (h : Touch m s t) : Touch m s (State.setAge t a1 a2 a3) := by
  unfold State.setAge; exact (.upd_23 (d.s rfl) h)

theorem arbRound {a1 a2 a3 a4} (d : Has m 8388608) (h : Touch m s t) : Touch m s (State.arbRound t a1 a2 a3 a4).2 := by
  unfold State.arbRound; (try dsimp only); split; exacts [(.snd h), (.snd (.foldl (fun _ _ h5 => (.setAge (d.s rfl) h5)) (.setAge (d.s rfl) h)))]

theorem classRound {a1 a2 a3} (d : Has m 8388608) (h : Touch m s t) : Touch m s (State.classRound t a1 a2 a3).2 := by
  unfold State.classRound; exact (.arbRound (d.s rfl) h)

theorem takeCells {a1} (d : Has m 2) (h : Touch m s t) : Touch m s (State.takeCells t a1) := by
  unfold State.takeCells; exact (.setF (d.s rfl) h)

theorem freeCells {a1} (d : Has m 2) (h : Touch m s t) : Touch m s (State.freeCells t a1) := by
  unfold State.freeCells; exact (.setF (d.s rfl) h)

theorem setPq {a1 a2 a3} (d : Has m 1048576) (h : Touch m s t) : Touch m s (State.setPq t a1 a2 a3) := by
  unfold State.setPq; exact (.upd_20 (d.s rfl) h)

theorem setLn {a1 a2} (d : Has m 1048576) (h : Touch m s t) : Touch m s (State.setLn t a1 a2) := by
  unfold State.setLn; exact (.upd_20 (d.s rfl) h)

theorem setUq {a1 a2} (d : Has m 1048576) (h : Touch m s t) : Touch m s (State.setUq t a1 a2) := by
  unfold State.setUq; exact (.upd_20 (d.s rfl) h)

theorem keepPq {a1 a2 a3} (d : Has m 1048578) (h : Touch m s t) : Touch m s (State.keepPq t a1 a2 a3) := by
  unfold State.keepPq; exact (.freeCells (d.s rfl) (.setPq (d.s rfl) h))

theorem flushPq {a1 a2} (d : Has m 1048578) (h : Touch m s t) : Touch m s (State.flushPq t a1 a2).2 := by
  unfold State.flushPq; exact (.snd (.keepPq (d.s rfl) h))

theorem queueReset {a1 a2 a3 a4} (d : Has m 706) (h : Touch m s t) : Touch m s (State.queueReset t a1 a2 a3 a4) := by
  unfold State.queueReset; exact (.fault (d.s rfl) (.raise (d.s rfl) (.count (d.s rfl) h)))

/-! ## NvStore -/

theorem nvCfree  (d : Has m 2) (h : Touch m s t) : Touch m s (State.nvCfree t) := by
  unfold State.nvCfree; exact (.setF (d.s rfl) h)

theorem nvSetBusy {a1} (d : Has m 66) (h : Touch m s t) : Touch m s (State.nvSetBusy t a1) := by
  unfold State.nvSetBusy; exact (.seq (.ite .refl (.raise (d.s rfl) .refl)) (.setF (d.s rfl) (.setF (d.s rfl) h)))

theorem nvFellBack  (d : Has m 32768) (h : Touch m s t) : Touch m s (State.nvFellBack t) := by
  unfold State.nvFellBack; exact (.ite h (.upd_15 (d.s rfl) h))

theorem nvBusyUpd  (d : Has m 32834) (h : Touch m s t) : Touch m s (State.nvBusyUpd t) := by
  unfold State.nvBusyUpd; exact (.nvFellBack (d.s rfl) (.ite h (.ite (.nvSetBusy (d.s rfl) h) (.ite (.nvSetBusy (d.s rfl) h) (.nvSetBusy (d.s rfl) h)))))

theorem nvAdd {a1 a2 a3} (d : Has m 32770) (h : Touch m s t) : Touch m s (State.nvAdd t a1 a2 a3) := by
  unfold State.nvAdd; exact (.nvCfree (d.s rfl) (.setF (d.s rfl) (.upd_15 (d.s rfl) h)))

theorem nvAccept {a1 a2} (d : Has m 32770) (h : Touch m s t) : Touch m s (State.nvAccept t a1 a2) := by
  unfold State.nvAccept; exact (.seq (.ite (.setOn (d.s rfl) .refl) .refl) (.nvAdd (d.s rfl) (.upd_15 (d.s rfl) h)))

theorem nvIncr {a1} (d : Has m 32770) (h : Touch m s t) : Touch m s (State.nvIncr t a1) := by
  unfold State.nvIncr; exact (.nvAdd (d.s rfl) (.upd_15 (d.s rfl) h))

theorem nvLogAdd {a1} (d : Has m 32770) (h : Touch m s t) : Touch m s (State.nvLogAdd t a1) := by
  unfold State.nvLogAdd; exact (.setF (d.s rfl) (.upd_15 (d.s rfl) (.nvAdd (d.s rfl) h)))

theorem nvLog {a1} (d : Has m 32770) (h : Touch m s t) : Touch m s (State.nvLog t a1) := by
  unfold State.nvLog; exact (.ite h (.ite (.count (d.s rfl) h) (.nvLogAdd (d.s rfl) h)))

theorem nvSubmit {a1} (d : Has m 32834) (h : Touch m s t) : Touch m s (State.nvSubmit t a1) := by
  unfold State.nvSubmit; exact (.nvBusyUpd (d.s rfl) (.upd_15 (d.s rfl) h))

theorem nvTrip {a1} (d : Has m 32834) (h : Touch m s t) : Touch m s (State.nvTrip t a1) := by
  unfold State.nvTrip; exact (.ite h (.nvSetBusy (d.s rfl) (.nvLogAdd (d.s rfl) (.nvIncr (d.s rfl) h))))

theorem nvDumpStart  (d : Has m 32770) (h : Touch m s t) : Touch m s (State.nvDumpStart t) := by
  unfold State.nvDumpStart; exact (.ite h (.upd_15 (d.s rfl) (.setF (d.s rfl) h)))

/-! ## Sec -/

theorem drawBytes {a1} (d : Has m 8) (h : Touch m s t) : Touch m s (t.drawBytes a1).2 := by
  unfold State.drawBytes
  exact Touch.draw (a1 := 8 * a1) (d.s rfl) h

theorem wrap {a1} (d : Has m 8) (h : Touch m s t) : Touch m s (State.wrap t a1).2 := by
  unfold State.wrap; exact (.snd (.drawBytes (a1 := 12) (d.s rfl) h))

theorem setSlot {a1 a2 a3 a4} (d : Has m 16777218) (h : Touch m s t) : Touch m s (State.setSlot t a1 a2 a3 a4) := by
  unfold State.setSlot; exact (.setF (d.s rfl) (.setF (d.s rfl) (.setOn (d.s rfl) (.upd_24 (d.s rfl) h))))

theorem setLastCtr {a1 a2} (d : Has m 2) (h : Touch m s t) : Touch m s (State.setLastCtr t a1 a2) := by
  unfold State.setLastCtr; exact (.setF (d.s rfl) (.setF (d.s rfl) h))

theorem reloadSlot {a1} (d : Has m 16777218) (h : Touch m s t) : Touch m s (State.reloadSlot t a1) := by
  unfold State.reloadSlot; exact (.ite (.setSlot (d.s rfl) h) (by (try dsimp only); split; exacts [(.setSlot (d.s rfl) h), (.setSlot (d.s rfl) h)]))

theorem reloadId  (d : Has m 16777216) (h : Touch m s t) : Touch m s (State.reloadId t) := by
  unfold State.reloadId; exact (.upd_24 (d.s rfl) h)

theorem wipe  (d : Has m 16777218) (h : Touch m s t) : Touch m s (State.wipe t) := by
  unfold State.wipe; exact (.foldl (fun _ _ h5 => (.setSlot (d.s rfl) h5)) (.upd_24 (d.s rfl) h))

theorem secRecord {a1 a2} (d : Has m 32834) (h : Touch m s t) : Touch m s (State.secRecord t a1 a2) := by
  unfold State.secRecord; exact (.nvSubmit (d.s rfl) h)

theorem eraseSlotRec {a1} (d : Has m 32834) (h : Touch m s t) : Touch m s (State.eraseSlotRec t a1) := by
  unfold State.eraseSlotRec; exact (.secRecord (d.s rfl) h)

theorem dropCtr {a1 a2} (d : Has m 32770) (h : Touch m s t) : Touch m s (State.dropCtr t a1 a2) := by
  unfold State.dropCtr; exact (.setLastCtr (d.s rfl) (.upd_15 (d.s rfl) h))

theorem measLc  (d : Has m 16777280) (h : Touch m s t) : Touch m s (State.measLc t) := by
  unfold State.measLc; exact (.measure (d.s rfl) h)

theorem keyDone {a1 a2 a3 a4} (d : Has m 66) (h : Touch m s t) : Touch m s (State.keyDone t a1 a2 a3 a4) := by
  unfold State.keyDone; exact (.raise (d.s rfl) (.ite (.setF (d.s rfl) (.setF (d.s rfl) h)) h))

theorem keySubmit {a1} (d : Has m 16810058) (h : Touch m s t) : Touch m s (State.keySubmit t a1) := by
  unfold State.keySubmit; exact (.seq (.ite (.nvSubmit (d.s rfl) .refl) (.nvSubmit (d.s rfl) (.wrap (a1 := a1.key) (d.s rfl) .refl))) (.ite (.setF (d.s rfl) (.upd_24 (d.s rfl) h)) (.upd_24 (d.s rfl) h)))

theorem keyAccepted  (d : Has m 16810050) (h : Touch m s t) : Touch m s (State.keyAccepted t) := by
  unfold State.keyAccepted; (try dsimp only); split; exacts [h, (.keyDone (d.s rfl) (.ite (.setSlot (d.s rfl) (.upd_24 (d.s rfl) h)) (.secRecord (d.s rfl) (.setLastCtr (d.s rfl) (.setSlot (d.s rfl) (.upd_24 (d.s rfl) h))))))]

theorem keyLoad {a1 a2} (d : Has m 16810058) (h : Touch m s t) : Touch m s (State.keyLoad t a1 a2) := by
  unfold State.keyLoad; exact (.ite (.keyDone (d.s rfl) (.draw (a1 := 4) (d.s rfl) h)) (.ite (.keyDone (d.s rfl) h) (by (try dsimp only); split; exacts [(.keyDone (d.s rfl) h), (.ite (.keyDone (d.s rfl) h) (.ite (.keyDone (d.s rfl) h) (.keySubmit (d.s rfl) h)))])))

theorem keyRead {a1} (d : Has m 16840794) (h : Touch m s t) : Touch m s (State.keyRead t a1) := by
  unfold State.keyRead; (try dsimp only); split; exacts [(by rename_i h5; exact (.upd_24 (d.s rfl) (ofEq h5 (.devRead (d.s rfl) h)))), (by rename_i h6; exact (.keyLoad (d.s rfl) (.upd_24 (d.s rfl) (ofEq h6 (.devRead (d.s rfl) h)))))]

theorem keyGo  (d : Has m 16840794) (h : Touch m s t) : Touch m s (State.keyGo t) := by
  unfold State.keyGo; exact (.ite (.raise (d.s rfl) (.setF (d.s rfl) h)) (.ite (.keyDone (d.s rfl) h) (.keyRead (d.s rfl) h)))

theorem lcDone {a1 a2} (d : Has m 66) (h : Touch m s t) : Touch m s (State.lcDone t a1 a2) := by
  unfold State.lcDone; exact (.raise (d.s rfl) (.setF (d.s rfl) h))

theorem fuseRegs  (d : Has m 2) (h : Touch m s t) : Touch m s (State.fuseRegs t) := by
  unfold State.fuseRegs; exact (.setF (d.s rfl) (.setF (d.s rfl) (.setF (d.s rfl) (.setF (d.s rfl) (.setF (d.s rfl) h)))))

theorem lcEffects {a1 a2 a3} (d : Has m 16810058) (h : Touch m s t) : Touch m s (State.lcEffects t a1 a2 a3) := by
  unfold State.lcEffects; (try dsimp only); split; exacts [(.ite (.setF (d.s rfl) (.upd_24 (d.s rfl) (.foldl (fun _ _ h300005 => (.reloadSlot (d.s rfl) h300005)) (.secRecord (d.s rfl) (.upd_24 (d.s rfl) (.wrap (a1 := ((t.drawBytes 96).2.drawBytes 48).1) (d.s rfl) (.drawBytes (a1 := 48) (d.s rfl) (.drawBytes (a1 := 96) (d.s rfl) h)))))))) (.upd_24 (d.s rfl) (.foldl (fun _ _ h6 => (.reloadSlot (d.s rfl) h6)) h))), (.setF (d.s rfl) (.upd_24 (d.s rfl) (.foldl (fun _ _ h7 => (.reloadSlot (d.s rfl) h7)) (.eraseSlotRec (d.s rfl) (.secRecord (d.s rfl) (.upd_24 (d.s rfl) h)))))), (.upd_24 (d.s rfl) (.foldl (fun _ _ h9 => (.reloadSlot (d.s rfl) h9)) (.foldl (fun _ _ h8 => (.eraseSlotRec (d.s rfl) h8)) (.secRecord (d.s rfl) (.upd_24 (d.s rfl) h))))), (.setF (d.s rfl) (.foldl (fun _ _ h10 => (.eraseSlotRec (d.s rfl) h10)) (.secRecord (d.s rfl) (.upd_24 (d.s rfl) h))))]

theorem lcMake {a1 a2 a3} (d : Has m 16810058) (h : Touch m s t) : Touch m s (State.lcMake t a1 a2 a3) := by
  unfold State.lcMake; exact (.ite (.lcDone (d.s rfl) h) (.lcDone (d.s rfl) (.measLc (d.s rfl) (.lcEffects (d.s rfl) (.wipe (d.s rfl) (.fuseRegs (d.s rfl) (.upd_24 (d.s rfl) h)))))))

theorem lcRead {a1 a2 a3} (d : Has m 16840794) (h : Touch m s t) : Touch m s (State.lcRead t a1 a2 a3) := by
  unfold State.lcRead; (try dsimp only); split; exacts [(by rename_i h5; exact (.upd_24 (d.s rfl) (ofEq h5 (.devRead (d.s rfl) h)))), (by rename_i h6; exact (.lcMake (d.s rfl) (.upd_24 (d.s rfl) (ofEq h6 (.devRead (d.s rfl) h)))))]

theorem lcGo  (d : Has m 16840794) (h : Touch m s t) : Touch m s (State.lcGo t) := by
  unfold State.lcGo; exact (.ite (.lcDone (d.s rfl) h) (.ite (.lcDone (d.s rfl) h) (.ite (.lcDone (d.s rfl) h) (.ite (.lcDone (d.s rfl) h) (.ite (.lcRead (d.s rfl) h) (.lcMake (d.s rfl) h))))))

theorem secResume  (d : Has m 16840794) (h : Touch m s t) : Touch m s (State.secResume t) := by
  unfold State.secResume; (try dsimp only); split; exacts [(.keyRead (d.s rfl) h), (.lcRead (d.s rfl) h), h]

theorem dbgUnlock  (d : Has m 16777282) (h : Touch m s t) : Touch m s (State.dbgUnlock t) := by
  unfold State.dbgUnlock; exact (.measLc (d.s rfl) (.raise (d.s rfl) (.setF (d.s rfl) (.wipe (d.s rfl) h))))

theorem execTamper  (d : Has m 16810050) (h : Touch m s t) : TouchO m s (Machine.execTamper t) := by
  unfold Machine.execTamper; exact (.iteO (.next h) (.seqO (.next (.measLc (d.s rfl) (.raise (d.s rfl) (.ite (.foldl (fun _ _ h5 => (.eraseSlotRec (d.s rfl) h5)) .refl) .refl)))) (.count (d.s rfl) (.setF (d.s rfl) (.wipe (d.s rfl) h)))))

theorem spdmError  (d : Has m 16) (h : Touch m s t) : Touch m s (State.spdmError t) := by
  unfold State.spdmError; exact (.out (d.s rfl) h)

theorem execGetVersion  (d : Has m 16) (h : Touch m s t) : TouchO m s (Machine.execGetVersion t) := by
  unfold Machine.execGetVersion; exact (.next (.out (d.s rfl) h))

theorem execGetCapabilities  (d : Has m 16) (h : Touch m s t) : TouchO m s (Machine.execGetCapabilities t) := by
  unfold Machine.execGetCapabilities; exact (.next (.out (d.s rfl) h))

theorem execNegotiateAlgorithms {a0} (d : Has m 16) (h : Touch m s t) : TouchO m s (Machine.execNegotiateAlgorithms a0 t) := by
  unfold Machine.execNegotiateAlgorithms; exact (.iteO (.next (.out (d.s rfl) h)) (.next (.spdmError (d.s rfl) h)))

theorem execGetDigests  (d : Has m 16) (h : Touch m s t) : TouchO m s (Machine.execGetDigests t) := by
  unfold Machine.execGetDigests; (try dsimp only); split; exacts [(.next (.out (d.s rfl) h)), (.next (.out (d.s rfl) h))]

theorem execGetCertificate {a0 a1 a2} (d : Has m 16) (h : Touch m s t) : TouchO m s (Machine.execGetCertificate a0 a1 a2 t) := by
  unfold Machine.execGetCertificate; (try dsimp only); split; exacts [(.next (.spdmError (d.s rfl) h)), (.iteO (.next (.out (d.s rfl) h)) (.next (.spdmError (d.s rfl) h)))]

theorem execChallenge {a0} (d : Has m 16) (h : Touch m s t) : TouchO m s (Machine.execChallenge a0 t) := by
  unfold Machine.execChallenge; exact (.iteO (.next (.spdmError (d.s rfl) h)) (.next (.out (d.s rfl) h)))

theorem execGetMeasurements {a0 a1} (d : Has m 16) (h : Touch m s t) : TouchO m s (Machine.execGetMeasurements a0 a1 t) := by
  unfold Machine.execGetMeasurements; exact (.iteO (.next (.out (d.s rfl) h)) (.iteO (.next (.spdmError (d.s rfl) h)) (.next (.out (d.s rfl) h))))

theorem execKeyExchange {a0 a1} (d : Has m 16777232) (h : Touch m s t) : TouchO m s (Machine.execKeyExchange a0 a1 t) := by
  unfold Machine.execKeyExchange; exact (.iteO (.next (.spdmError (d.s rfl) h)) (.next (.out (d.s rfl) (.upd_24 (d.s rfl) h))))

theorem execHeartbeat {a0} (d : Has m 16) (h : Touch m s t) : TouchO m s (Machine.execHeartbeat a0 t) := by
  unfold Machine.execHeartbeat; exact (.iteO (.next (.out (d.s rfl) h)) (.next (.spdmError (d.s rfl) h)))

theorem execVendorDefinedRequest {a0 a1} (d : Has m 16810074) (h : Touch m s t) : TouchO m s (Machine.execVendorDefinedRequest a0 a1 t) := by
  unfold Machine.execVendorDefinedRequest; (try dsimp only); split; exacts [(.next (.spdmError (d.s rfl) h)), (.iteO (.next (.spdmError (d.s rfl) h)) (.iteO (.next (.raise (d.s rfl) h)) (.next (.out (d.s rfl) (.keyLoad (d.s rfl) h)))))]

/-! ## Cores -/

theorem setCore {a1 a2} (d : Has m 524288) (h : Touch m s t) : Touch m s (State.setCore t a1 a2) := by
  unfold State.setCore; exact (.upd_19 (d.s rfl) h)

theorem setImem {a1 a2 a3} (d : Has m 524288) (h : Touch m s t) : Touch m s (State.setImem t a1 a2 a3) := by
  unfold State.setImem; exact (.upd_19 (d.s rfl) h)

theorem setDmem {a1 a2 a3} (d : Has m 524288) (h : Touch m s t) : Touch m s (State.setDmem t a1 a2 a3) := by
  unfold State.setDmem; exact (.upd_19 (d.s rfl) h)

theorem setEntry {a1 a2} (d : Has m 524288) (h : Touch m s t) : Touch m s (State.setEntry t a1 a2) := by
  unfold State.setEntry; exact (.upd_19 (d.s rfl) h)

theorem setNoServe {a1 a2} (d : Has m 524288) (h : Touch m s t) : Touch m s (State.setNoServe t a1 a2) := by
  unfold State.setNoServe; exact (.upd_19 (d.s rfl) h)

theorem setStopReq {a1 a2} (d : Has m 524288) (h : Touch m s t) : Touch m s (State.setStopReq t a1 a2) := by
  unfold State.setStopReq; exact (.upd_19 (d.s rfl) h)

theorem setCoreSt {a1 a2} (d : Has m 66) (h : Touch m s t) : Touch m s (State.setCoreSt t a1 a2) := by
  unfold State.setCoreSt; exact (.ite h (.raise (d.s rfl) (.setF (d.s rfl) h)))

theorem occur {a1 a2} (d : Has m 524290) (h : Touch m s t) : Touch m s (State.occur t a1 a2) := by
  unfold State.occur; exact (.ite h (by (try dsimp only); split; exacts [(.ite (.setCore (d.s rfl) h) (.putBit (d.s rfl) h)), (by (try dsimp only); split; exacts [(.ite (.setCore (d.s rfl) h) (.putBit (d.s rfl) h)), (.putBit (d.s rfl) h)])]))

theorem occurGroup {a1 a2} (d : Has m 524290) (h : Touch m s t) : Touch m s (State.occurGroup t a1 a2) := by
  unfold State.occurGroup; exact (.foldl (fun _ _ h5 => (.ite (.occur (d.s rfl) h5) h5)) h)

theorem occurApplied {a1 a2} (d : Has m 524290) (h : Touch m s t) : Touch m s (State.occurApplied t a1 a2) := by
  unfold State.occurApplied; exact (.ite (.occur (d.s rfl) h) (.foldl (fun _ _ h5 => (by (try dsimp only); split; exacts [(.ite (.occur (d.s rfl) h5) h5), h5])) h))

theorem setTxnWs {a1 a2} (d : Has m 524290) (h : Touch m s t) : Touch m s (State.setTxnWs t a1 a2) := by
  unfold State.setTxnWs; exact (.setF (d.s rfl) (.upd_19 (d.s rfl) h))

theorem qOpen {a1 a2} (d : Has m 2) (h : Touch m s t) : Touch m s (State.qOpen t a1 a2) := by
  unfold State.qOpen; exact (.ite (.setOn (d.s rfl) h) h)

theorem txnBegin {a1} (d : Has m 524290) (h : Touch m s t) : Touch m s (State.txnBegin t a1).2 := by
  unfold State.txnBegin; (try dsimp only); split; exacts [(.snd (.qOpen (d.s rfl) (.count (d.s rfl) (.setTxnWs (d.s rfl) (.setF (d.s rfl) (.setF (d.s rfl) (.setF (d.s rfl) h))))))), (.snd h)]

theorem txnClose {a1} (d : Has m 524290) (h : Touch m s t) : Touch m s (State.txnClose t a1) := by
  unfold State.txnClose; exact (.qOpen (d.s rfl) (.setF (d.s rfl) (.setTxnWs (d.s rfl) (.setF (d.s rfl) (.setF (d.s rfl) (.setF (d.s rfl) h))))))

theorem freeShadow {a1} (d : Has m 2) (h : Touch m s t) : Touch m s (State.freeShadow t a1) := by
  unfold State.freeShadow; exact (.setF (d.s rfl) h)

theorem doomTxn {a1 a2} (d : Has m 66) (h : Touch m s t) : Touch m s (State.doomTxn t a1 a2) := by
  unfold State.doomTxn; exact (.raise (d.s rfl) (.setF (d.s rfl) (.setF (d.s rfl) h)))

theorem stage {a1 a2 a3 a4} (d : Has m 524354) (h : Touch m s t) : Touch m s (State.stage t a1 a2 a3 a4) := by
  unfold State.stage; exact (.ite h (.ite (.setTxnWs (d.s rfl) h) (.ite (.doomTxn (d.s rfl) h) (.setF (d.s rfl) (.setTxnWs (d.s rfl) h)))))

theorem setLk {a1 a2} (d : Has m 524288) (h : Touch m s t) : Touch m s (State.setLk t a1 a2) := by
  unfold State.setLk; exact (.upd_19 (d.s rfl) h)

theorem lockTake {a1 a2} (d : Has m 524290) (h : Touch m s t) : Touch m s (State.lockTake t a1 a2).2.2 := by
  unfold State.lockTake
  by_cases c : t.f (fCPR_LOCK_STATUS a2) = 3
  · by_cases d : t.holds a1 a2 = true <;> simpa [c, d] using h
  · simp only [c, if_false]
    exact .setLk (d.s rfl) (.setF (d.s rfl) (.setF (d.s rfl) (.setF (d.s rfl) h)))

theorem lockFree {a1 a2} (d : Has m 524290) (h : Touch m s t) : Touch m s (State.lockFree t a1 a2).2 := by
  unfold State.lockFree; exact (.ite2 (.snd (.setLk (d.s rfl) (.setF (d.s rfl) h))) (.snd h))

theorem lockBroken {a1 a2 a3 a4} (d : Has m 524994) (h : Touch m s t) : Touch m s (State.lockBroken t a1 a2 a3 a4) := by
  unfold State.lockBroken; exact (.seq (.seq (.seq (.ite .refl (.fault (d.s rfl) .refl)) (.raise (d.s rfl) .refl)) (.ite (.setF (d.s rfl) (.setF (d.s rfl) .refl)) .refl)) (.setLk (d.s rfl) (.setF (d.s rfl) (.setF (d.s rfl) h))))

theorem lockFail {a1 a2} (d : Has m 524994) (h : Touch m s t) : Touch m s (State.lockFail t a1 a2) := by
  unfold State.lockFail; (try dsimp only); split; exacts [(.lockBroken (d.s rfl) (.setLk (d.s rfl) h)), (by (try dsimp only); split; exacts [(.lockBroken (d.s rfl) (.setLk (d.s rfl) h)), (.setF (d.s rfl) (.setLk (d.s rfl) h))])]

theorem maskLocks {a1} (d : Has m 8388608) (h : Touch m s t) : Touch m s (State.maskLocks t a1) := by
  unfold State.maskLocks; exact (.upd_23 (d.s rfl) h)

theorem ownerFail {a1 a2} (d : Has m 8913602) (h : Touch m s t) : Touch m s (State.ownerFail t a1 a2) := by
  unfold State.ownerFail; exact (.foldl (fun _ _ h5 => (.lockFail (d.s rfl) h5)) (by (try dsimp only); split; exacts [(.ite (.maskLocks (d.s rfl) h) h), (.raise (d.s rfl) (.freeShadow (d.s rfl) (.txnClose (d.s rfl) (.ite (.maskLocks (d.s rfl) h) h))))]))

theorem txnAbort {a1} (d : Has m 524290) (h : Touch m s t) : Touch m s (State.txnAbort t a1) := by
  unfold State.txnAbort; (try dsimp only); split; exacts [h, (.freeShadow (d.s rfl) (.txnClose (d.s rfl) h))]

theorem txnCommit {a1 a2} (d : Has m 524290) (h : Touch m s t) : Touch m s (State.txnCommit t a1 a2).2 := by
  unfold State.txnCommit
  split
  · exact h
  · dsimp only
    exact .foldl (fun _ _ h5 => .ite (.setLk (d.s rfl) h5) h5) (.upd_19 (d.s rfl) (.txnClose (d.s rfl) h))

theorem commitDone {a1 a2} (d : Has m 524290) (h : Touch m s t) : Touch m s (State.commitDone t a1 a2) := by
  unfold State.commitDone; exact (.upd_19 (d.s rfl) (.freeShadow (d.s rfl) h))

theorem takeReport {a1} (d : Has m 524994) (h : Touch m s t) : Touch m s (State.takeReport t a1) := by
  unfold State.takeReport; exact (.foldl (fun _ _ h5 => (.ite (.lockBroken (d.s rfl) h5) (.setLk (d.s rfl) h5))) h)

theorem setQState {a1 a2 a3} (d : Has m 66) (h : Touch m s t) : Touch m s (State.setQState t a1 a2 a3) := by
  unfold State.setQState; exact (.seq (.ite .refl (.raise (d.s rfl) (.setF (d.s rfl) .refl))) (.ite (.setF (d.s rfl) h) h))

theorem entryEnd {a1 a2 a3 a4} (d : Has m 8946370) (h : Touch m s t) : Touch m s (State.entryEnd t a1 a2 a3 a4) := by
  unfold State.entryEnd; (try dsimp only); split; exacts [h, (.seq (.seq (.seq (.seq (.seq (.ite (.setQState (d.s rfl) (.setStopReq (d.s rfl) (.ownerFail (d.s rfl) .refl))) (.seq (.ite (.setQState (d.s rfl) (.setStopReq (d.s rfl) .refl)) .refl) (.ite (.ownerFail (d.s rfl) .refl) .refl))) (.ite (.raise (d.s rfl) .refl) .refl)) (.setF (d.s rfl) (.setF (d.s rfl) (.setF (d.s rfl) .refl)))) (.ite (.upd_19 (d.s rfl) .refl) (.setF (d.s rfl) (.upd_19 (d.s rfl) .refl)))) (.setEntry (d.s rfl) .refl)) (.ite (.dropCtr (d.s rfl) h) h))]

theorem coreFaultWith {a1 a2 a3} (d : Has m 8946370) (h : Touch m s t) : Touch m s (State.coreFaultWith t a1 a2 a3) := by
  unfold State.coreFaultWith; exact (.seq (.seq (.seq (.seq (.seq (.seq (.ite (.setNoServe (d.s rfl) (.setF (d.s rfl) (.setCore (d.s rfl) .refl))) (.ite (.setF (d.s rfl) (.setF (d.s rfl) (.setCore (d.s rfl) .refl))) (.setF (d.s rfl) (.setF (d.s rfl) (.setCore (d.s rfl) .refl))))) (.fault (d.s rfl) .refl)) (.ownerFail (d.s rfl) .refl)) (.ite (.entryEnd (d.s rfl) .refl) .refl)) (.raise (d.s rfl) .refl)) (.setF (d.s rfl) (.setF (d.s rfl) .refl))) (.setF (d.s rfl) (.setF (d.s rfl) (.setW1c (d.s rfl) h))))

theorem coreFault {a1 a2} (d : Has m 8946370) (h : Touch m s t) : Touch m s (State.coreFault t a1 a2) := by
  unfold State.coreFault; exact (.coreFaultWith (d.s rfl) h)

theorem measSeq {a1} (d : Has m 16777280) (h : Touch m s t) : Touch m s (State.measSeq t a1) := by
  unfold State.measSeq; exact (.measure (d.s rfl) h)

theorem coreStart {a1} (d : Has m 17301570) (h : Touch m s t) : Touch m s (State.coreStart t a1) := by
  unfold State.coreStart; exact (.ite h (.seq (.seq (.ite (.measSeq (d.s rfl) .refl) .refl) (.setCoreSt (d.s rfl) (.setNoServe (d.s rfl) (.setF (d.s rfl) (.setF (d.s rfl) .refl))))) (.setCore (d.s rfl) h)))

theorem coreStop {a1} (d : Has m 8946370) (h : Touch m s t) : Touch m s (State.coreStop t a1) := by
  unfold State.coreStop; exact (.seq (.setCoreSt (d.s rfl) (.ownerFail (d.s rfl) (.ite (.setNoServe (d.s rfl) (.entryEnd (d.s rfl) .refl)) .refl))) (.setCore (d.s rfl) h))

theorem coreCtrl {a1 a2 a3} (d : Has m 25723586) (h : Touch m s t) : Touch m s (State.coreCtrl t a1 a2 a3) := by
  unfold State.coreCtrl; exact (.seq (.ite (.coreStart (d.s rfl) .refl) .refl) (.ite (.coreStop (d.s rfl) h) h))

theorem armStart {a1} (d : Has m 17301570) (h : Touch m s t) : Touch m s (State.armStart t a1) := by
  unfold State.armStart; exact (.foldl (fun _ _ h5 => (.ite (.coreStart (d.s rfl) h5) h5)) h)

theorem dropPackets {a1} (d : Has m 1048578) (h : Touch m s t) : Touch m s (State.dropPackets t a1) := by
  unfold State.dropPackets; exact (.foldl (fun _ _ h5 => (.keepPq (d.s rfl) h5)) h)

theorem setPin {a1 a2} (d : Has m 524288) (h : Touch m s t) : Touch m s (State.setPin t a1 a2) := by
  unfold State.setPin; exact (.upd_19 (d.s rfl) h)

theorem cancelEdges {a1} (d : Has m 524288) (h : Touch m s t) : Touch m s (State.cancelEdges t a1) := by
  unfold State.cancelEdges; exact (.upd_19 (d.s rfl) h)

theorem pfVector {a1} (d : Has m 26739394) (h : Touch m s t) : Touch m s (State.pfVector t a1) := by
  unfold State.pfVector; exact (.ite h (.seq (.seq (.seq (.seq (.raise (d.s rfl) (.ite (.measSeq (d.s rfl) .refl) .refl)) (.setF (d.s rfl) (.setF (d.s rfl) (.setF (d.s rfl) .refl)))) (.setCore (d.s rfl) .refl)) (.ownerFail (d.s rfl) .refl)) (.dropPackets (d.s rfl) (.cancelEdges (d.s rfl) h))))

/-! ## Banks -/

theorem bankLose {a1} (d : Has m 2621440) (h : Touch m s t) : Touch m s (State.bankLose t a1) := by
  unfold State.bankLose; exact (.ite (.upd_19 (d.s rfl) h) (.ite (.upd_21 (d.s rfl) h) h))

theorem setBank {a1 a2} (d : Has m 2621442) (h : Touch m s t) : Touch m s (State.setBank t a1 a2) := by
  unfold State.setBank; exact (.seq (.ite (.setF (d.s rfl) (.bankLose (d.s rfl) .refl)) (.ite (.setF (d.s rfl) .refl) .refl)) (.setF (d.s rfl) h))

theorem bankRequest {a1 a2} (d : Has m 2621442) (h : Touch m s t) : Touch m s (State.bankRequest t a1 a2) := by
  unfold State.bankRequest; exact (.ite (.setBank (d.s rfl) (.setF (d.s rfl) h)) (.ite (.setBank (d.s rfl) (.setF (d.s rfl) h)) (.err (d.s rfl) h)))

theorem wakeBanks  (d : Has m 2621442) (h : Touch m s t) : Touch m s (State.wakeBanks t) := by
  unfold State.wakeBanks; exact (.foldl (fun _ _ h5 => (.ite (.setBank (d.s rfl) (.setF (d.s rfl) h5)) h5)) h)

theorem touchBank {a1} (d : Has m 2) (h : Touch m s t) : Touch m s (State.touchBank t a1) := by
  unfold State.touchBank; exact (.ite (.setF (d.s rfl) h) h)

/-! ## WriteSet -/

theorem applyWord {a1} (d : Has m 2) (h : Touch m s t) : Touch m s (State.applyWord t a1) := by
  unfold State.applyWord; (try dsimp only); split; exacts [h, (.foldl (fun _ _ h5 => (.ite (.setF (d.s rfl) h5) h5)) h)]

theorem applyWs {a1} (d : Has m 2) (h : Touch m s t) : Touch m s (State.applyWs t a1) := by
  unfold State.applyWs; exact (.foldl (fun _ _ h5 => (.applyWord (d.s rfl) h5)) h)

end Sys2Proof.Machine.Touch
end

