-- ==== Sys2Proof/Laws/TouchBlocks.lean ====
section
/-!
SUPPORT. Which parts of the state an operation can change, one lemma for each: Pixel, Chains, Drive, Bistable, Events, Calib, Nvs, Queues, HostIf, Upstream, Images.
-/
set_option Elab.async false
set_option linter.all false

namespace Sys2Proof.Machine.Touch

variable {m : Nat} {s t : State}

/-! ## Pixel -/

theorem endTld {a1 a2} (d : Has m 131138) (h : Touch m s t) : Touch m s (State.endTld t a1 a2) := by
  unfold State.endTld; exact (.seq (.seq (.raiseG (d.s rfl) (.ite (.deferred (d.s rfl) .refl) .refl)) (.setF (d.s rfl) .refl)) (.setF (d.s rfl) (.setF (d.s rfl) (.upd_17 (d.s rfl) h))))

theorem writeTldCtrl {a1 a2} (d : Has m 131138) (h : Touch m s t) : Touch m s (State.writeTldCtrl t a1 a2) := by
  unfold State.writeTldCtrl; exact (.seq (.seq (.ite .refl (.ite (.setW1c (d.s rfl) .refl) (.seq (.ite (.endTld (d.s rfl) .refl) (.ite (.endTld (d.s rfl) (.err (d.s rfl) .refl)) (.ite (.endTld (d.s rfl) .refl) (.setF (d.s rfl) (.upd_17 (d.s rfl) .refl))))) (.ite (.putBit (d.s rfl) .refl) .refl)))) (.setF (d.s rfl) (.setF (d.s rfl) .refl))) (.setF (d.s rfl) (.setF (d.s rfl) h)))

theorem execTldDone {a0} (d : Has m 162386) (h : Touch m s t) : TouchO m s (Machine.execTldDone a0 t) := by
  unfold Machine.execTldDone; (try dsimp only); split; exacts [(.next h), (.iteO (.next (.endTld (d.s rfl) (.devWrite (d.s rfl) h))) (by (try dsimp only); split; exacts [(by rename_i h5; exact (.next (ofEq h5 (.devRead (d.s rfl) h)))), (by rename_i h6; exact (.iteO (.next (.endTld (d.s rfl) (ofEq h6 (.devRead (d.s rfl) h)))) (.next (.endTld (d.s rfl) (.putBit (d.s rfl) (.upd_17 (d.s rfl) (ofEq h6 (.devRead (d.s rfl) h))))))))]))]

theorem checkPlanes {a1 a2} (d : Has m 66) (h : Touch m s t) : Touch m s (State.checkPlanes t a1 a2) := by
  unfold State.checkPlanes; exact (.foldl (fun _ _ h5 => (.seq (.seq (.ite .refl (.raiseG (d.s rfl) .refl)) (.ite (.setF (d.s rfl) .refl) .refl)) (.ite (.putBit (d.s rfl) h5) h5))) h)

theorem noteSkips {a1 a2} (d : Has m 131650) (h : Touch m s t) : Touch m s (State.noteSkips t a1 a2) := by
  unfold State.noteSkips; exact (.ite h (by (try dsimp only); split; exacts [h, (.seq (.ite (.upd_17 (d.s rfl) .refl) (.raiseG (d.s rfl) (.setGrp (d.s rfl) (.upd_17 (d.s rfl) .refl)))) (.count (d.s rfl) h))]))

theorem markUnsent {a1 a2} (d : Has m 131072) (h : Touch m s t) : Touch m s (State.markUnsent t a1 a2) := by
  unfold State.markUnsent; exact (.upd_17 (d.s rfl) h)

theorem histBlock {a1 a2 a3} (d : Has m 162322) (h : Touch m s t) : Touch m s (State.histBlock t a1 a2 a3) := by
  unfold State.histBlock; (try dsimp only); split; exacts [(.ite (.upd_17 (d.s rfl) h) (.devWrite (d.s rfl) (.upd_17 (d.s rfl) h))), h]

theorem histLine {a1 a2} (d : Has m 162322) (h : Touch m s t) : Touch m s (State.histLine t a1 a2) := by
  unfold State.histLine; exact (.ite (.foldl (fun _ _ h5 => (.histBlock (d.s rfl) h5)) h) h)

theorem histClear {a1} (d : Has m 131074) (h : Touch m s t) : Touch m s (State.histClear t a1) := by
  unfold State.histClear; exact (.upd_17 (d.s rfl) (.setF (d.s rfl) h))

theorem histFrameEnd {a1} (d : Has m 131074) (h : Touch m s t) : Touch m s (State.histFrameEnd t a1) := by
  unfold State.histFrameEnd; exact (.upd_17 (d.s rfl) (.ite (.setF (d.s rfl) h) h))

theorem pixTurn {a1} (d : Has m 131072) (h : Touch m s t) : Touch m s (State.pixTurn t a1) := by
  unfold State.pixTurn; exact (.upd_17 (d.s rfl) h)

theorem decideBand {a1 a2 a3} (d : Has m 66) (h : Touch m s t) : Touch m s (State.decideBand t a1 a2 a3) := by
  unfold State.decideBand; exact (.ite (.ite (.seq (.ite .refl (.raiseG (d.s rfl) .refl)) (.setF (d.s rfl) h)) h) (.seq (.ite .refl (.raiseG (d.s rfl) .refl)) (.setF (d.s rfl) (.setF (d.s rfl) h))))

theorem spanGate {a1 a2 a3} (d : Has m 30738) (h : Touch m s t) : Touch m s (State.spanGate t a1 a2 a3).2 := by
  unfold State.spanGate; exact (.snd (.hostGate (d.s rfl) (.readGate (d.s rfl) h)))

theorem spanDone {a1 a2 a3} (d : Has m 131072) (h : Touch m s t) : Touch m s (State.spanDone t a1 a2 a3) := by
  unfold State.spanDone; exact (.upd_17 (d.s rfl) h)

theorem noteDrops {a1 a2} (d : Has m 578) (h : Touch m s t) : Touch m s (State.noteDrops t a1 a2) := by
  unfold State.noteDrops; exact (.ite h (.seq (.ite .refl (.raiseG (d.s rfl) (.setGrp (d.s rfl) .refl))) (.count (d.s rfl) h)))

theorem notePlaneEcc {a1 a2 a3} (d : Has m 131136) (h : Touch m s t) : Touch m s (State.notePlaneEcc t a1 a2 a3) := by
  unfold State.notePlaneEcc; exact (.foldl (fun _ _ h5 => (.ite h5 (.raiseG (d.s rfl) (.upd_17 (d.s rfl) h5)))) (.ite (.raiseG (d.s rfl) h) h))

theorem storeSpan {a1 a2 a3 a4} (d : Has m 162322) (h : Touch m s t) : Touch m s (State.storeSpan t a1 a2 a3 a4) := by
  unfold State.storeSpan; exact (.ite (.foldl (fun _ _ h5 => (.ite (.histBlock (d.s rfl) h5) h5)) (.upd_17 (d.s rfl) h)) (.upd_17 (d.s rfl) h))

theorem execPipeSpan {a0 a1 a2} (d : Has m 162386) (h : Touch m s t) : TouchO m s (Machine.execPipeSpan a0 a1 a2 t) := by
  unfold Machine.execPipeSpan; exact (.iteO (.next h) (by (try dsimp only); split; exacts [(.next (.spanGate (d.s rfl) h)), (.iteO (.next h) (.seqO (.next (.spanDone (d.s rfl) (.storeSpan (d.s rfl) (.notePlaneEcc (d.s rfl) (.ite (.noteSkips (d.s rfl) (.noteDrops (d.s rfl) .refl)) .refl))))) (.spanGate (d.s rfl) h)))]))

/-! ## Chains -/

theorem raiseLane {a1 a2 a3} (d : Has m 64) (h : Touch m s t) : Touch m s (State.raiseLane t a1 a2 a3) := by
  unfold State.raiseLane; exact (.raise (d.s rfl) h)

theorem idleTo {a1 a2} (d : Has m 1048592) (h : Touch m s t) : Touch m s (State.idleTo t a1 a2) := by
  unfold State.idleTo; exact (.ite h (.ite (.out (d.s rfl) (.setLn (d.s rfl) h)) (.out (d.s rfl) (.setLn (d.s rfl) h))))

theorem txRun {a1 a2 a3 a4} (d : Has m 1048592) (h : Touch m s t) : Touch m s (Machine.txRun a1 a2 a3 a4 t) := by
  induction a2 generalizing t a3 a4 with
  | zero => exact h
  | succ n ih =>
    unfold Machine.txRun
    exact .ite h (.ite (ih (.out (d.s rfl) (.setLn (d.s rfl) h))) (ih (.out (d.s rfl) (.setLn (d.s rfl) h))))

theorem drive {a1 a2 a3} (d : Has m 1048592) (h : Touch m s t) : Touch m s (State.drive t a1 a2 a3) := by
  unfold State.drive; exact (.ite (.txRun (d.s rfl) h) h)

theorem inject {a1 a2} (d : Has m 1048584) (h : Touch m s t) : Touch m s (State.inject t a1 a2).2.2 := by
  unfold State.inject; exact (.ite22 (.snd2 h) (.seq (.ite22 (.snd2 .refl) (.snd2 (.draw (a1 := 16) (d.s rfl) .refl))) (.setLn (d.s rfl) h)))

theorem idleChain {a1 a2} (d : Has m 1048592) (h : Touch m s t) : Touch m s (State.idleChain t a1 a2) := by
  unfold State.idleChain; exact (.foldl (fun _ _ h5 => (.idleTo (d.s rfl) h5)) h)

theorem sendCtl {a1 a2} (d : Has m 1048592) (h : Touch m s t) : Touch m s (State.sendCtl t a1 a2) := by
  unfold State.sendCtl; exact (.foldl (fun _ _ h5 => (.drive (d.s rfl) h5)) h)

theorem sendPkt {a1 a2} (d : Has m 1048600) (h : Touch m s t) : Touch m s (State.sendPkt t a1 a2) := by
  unfold State.sendPkt; exact (.foldl (fun _ _ h5 => (.drive (d.s rfl) (.inject (a2 := a2) (d.s rfl) h5))) h)

theorem setLnSt {a1 a2 a3} (d : Has m 66) (h : Touch m s t) : Touch m s (State.setLnSt t a1 a2 a3) := by
  unfold State.setLnSt; exact (.ite h (.degraded (d.s rfl) (.raiseLane (d.s rfl) (.setF (d.s rfl) h))))

theorem cmdFailed {a1 a2 a3 a4} (d : Has m 66) (h : Touch m s t) : Touch m s (State.cmdFailed t a1 a2 a3 a4) := by
  unfold State.cmdFailed; exact (.raiseLane (d.s rfl) (.count (d.s rfl) h))

theorem unstarve {a1} (d : Has m 1048578) (h : Touch m s t) : Touch m s (State.unstarve t a1) := by
  unfold State.unstarve; exact (.setOn (d.s rfl) (.setLn (d.s rfl) h))

theorem enterEnum {a1 a2} (d : Has m 1048642) (h : Touch m s t) : Touch m s (State.enterEnum t a1 a2) := by
  unfold State.enterEnum; exact (.setLnSt (d.s rfl) (.unstarve (d.s rfl) (.setLn (d.s rfl) (.foldl (fun _ _ h5 => (.seq (.ite .refl (.foldl (fun _ _ h6 => (.cmdFailed (d.s rfl) h6)) .refl)) (.keepPq (d.s rfl) h5))) h))))

theorem zeroSeqs {a1} (d : Has m 1048576) (h : Touch m s t) : Touch m s (State.zeroSeqs t a1) := by
  unfold State.zeroSeqs; exact (.upd_20 (d.s rfl) h)

theorem relock {a1} (d : Has m 66) (h : Touch m s t) : Touch m s (State.relock t a1) := by
  unfold State.relock; exact (.ite (.setLnSt (d.s rfl) h) h)

theorem relockBundle {a1} (d : Has m 66) (h : Touch m s t) : Touch m s (State.relockBundle t a1) := by
  unfold State.relockBundle; exact (.foldl (fun _ _ h5 => (.relock (d.s rfl) h5)) h)

theorem startSwitch {a1 a2} (d : Has m 1048642) (h : Touch m s t) : Touch m s (State.startSwitch t a1 a2) := by
  unfold State.startSwitch; exact (.relockBundle (d.s rfl) (.setLn (d.s rfl) h))

theorem spareStandby {a1} (d : Has m 1048578) (h : Touch m s t) : Touch m s (State.spareStandby t a1) := by
  unfold State.spareStandby; exact (.degraded (d.s rfl) (.setLn (d.s rfl) (.setF (d.s rfl) (.setF (d.s rfl) (.setF (d.s rfl) h)))))

theorem switchFail {a1} (d : Has m 1049282) (h : Touch m s t) : Touch m s (State.switchFail t a1) := by
  unfold State.switchFail; exact (.fault (d.s rfl) (.raise (d.s rfl) (.setLnSt (d.s rfl) (.spareStandby (d.s rfl) h))))

theorem checkLock {a1} (d : Has m 2) (h : Touch m s t) : Touch m s (State.checkLock t a1) := by
  unfold State.checkLock; exact (.setOn (d.s rfl) h)

theorem laneEn {a1 a2 a3} (d : Has m 1048658) (h : Touch m s t) : Touch m s (State.laneEn t a1 a2 a3) := by
  unfold State.laneEn; exact (.seq (.ite .refl (.ite (.checkLock (d.s rfl) (.setLnSt (d.s rfl) (.setLn (d.s rfl) .refl))) (.checkLock (d.s rfl) (.setLnSt (d.s rfl) (.setLn (d.s rfl) (.setF (d.s rfl) (.setF (d.s rfl) (.setF (d.s rfl) (.idleTo (d.s rfl) .refl))))))))) (.ite (.relock (d.s rfl) h) h))

theorem laneTest {a1} (d : Has m 1048658) (h : Touch m s t) : Touch m s (State.laneTest t a1) := by
  unfold State.laneTest; exact (.seq (.ite .refl (.ite (.setLnSt (d.s rfl) .refl) (.ite (.ite (.enterEnum (d.s rfl) .refl) (.setLnSt (d.s rfl) .refl)) .refl))) (.idleTo (d.s rfl) h))

theorem execBlockLockGained {a0} (d : Has m 1048642) (h : Touch m s t) : TouchO m s (Machine.execBlockLockGained a0 t) := by
  unfold Machine.execBlockLockGained; exact (.iteO (.next h) (.seqO (.iteO (.next (.ite (.setLn (d.s rfl) .refl) .refl)) (.next (.ite (.enterEnum (d.s rfl) .refl) .refl))) (.setLn (d.s rfl) (.setF (d.s rfl) h))))

theorem execBlockLockLost {a0} (d : Has m 1049282) (h : Touch m s t) : TouchO m s (Machine.execBlockLockLost a0 t) := by
  unfold Machine.execBlockLockLost; exact (.iteO (.next h) (.seqO (.seqO (.iteO (.next (.ite (.switchFail (d.s rfl) .refl) .refl)) (.iteO (.next (.setLnSt (d.s rfl) .refl)) (.next (.relock (d.s rfl) .refl)))) (.setLn (d.s rfl) .refl)) (.setF (d.s rfl) h)))

theorem execInvalidBlock {a0} (d : Has m 2) (h : Touch m s t) : TouchO m s (Machine.execInvalidBlock a0 t) := by
  unfold Machine.execInvalidBlock; exact (.next (.ite (.count (d.s rfl) h) h))

theorem execEnumSend {a0} (d : Has m 1048592) (h : Touch m s t) : TouchO m s (Machine.execEnumSend a0 t) := by
  unfold Machine.execEnumSend; exact (.next (.ite (.sendCtl (d.s rfl) (.idleTo (d.s rfl) h)) h))

theorem execEnumReturn {a0 a1 a2} (d : Has m 1048642) (h : Touch m s t) : TouchO m s (Machine.execEnumReturn a0 a1 a2 t) := by
  unfold Machine.execEnumReturn; exact (.iteO (.next h) (.iteO (.next (.raiseLane (d.s rfl) (.setF (d.s rfl) (.setLn (d.s rfl) h)))) (.iteO (.next (.raiseLane (d.s rfl) (.setLnSt (d.s rfl) (.zeroSeqs (d.s rfl) (.setF (d.s rfl) (.setLn (d.s rfl) h)))))) (.next (.setLn (d.s rfl) h)))))

theorem spareAlign {a1} (d : Has m 1049298) (h : Touch m s t) : Touch m s (State.spareAlign t a1) := by
  unfold State.spareAlign; exact (.ite (.setLnSt (d.s rfl) (.raise (d.s rfl) (.spareStandby (d.s rfl) h))) (.ite (.fault (d.s rfl) (.raise (d.s rfl) (.setLnSt (d.s rfl) (.setF (d.s rfl) (.setF (d.s rfl) (.setF (d.s rfl) (.setLn (d.s rfl) (.idleTo (d.s rfl) (.idleTo (d.s rfl) h))))))))) (.ite (.setLn (d.s rfl) h) h)))

theorem alignOn {a1 a2} (d : Has m 1048592) (h : Touch m s t) : Touch m s (State.alignOn t a1 a2) := by
  unfold State.alignOn; exact (.ite h (.drive (d.s rfl) (.idleTo (d.s rfl) h)))

theorem execAlignSend {a0} (d : Has m 1049298) (h : Touch m s t) : TouchO m s (Machine.execAlignSend a0 t) := by
  unfold Machine.execAlignSend; exact (.iteO (.next h) (.next (.upd_20 (d.s rfl) (.alignOn (d.s rfl) (.foldl (fun _ _ h5 => (.alignOn (d.s rfl) h5)) (.spareAlign (d.s rfl) h))))))

theorem execAlignReturn {a0 a1 a2} (d : Has m 2) (h : Touch m s t) : TouchO m s (Machine.execAlignReturn a0 a1 a2 t) := by
  unfold Machine.execAlignReturn; exact (.next (.ite (.setF (d.s rfl) h) h))

theorem execSpareAutoSwitch {a0} (d : Has m 1048642) (h : Touch m s t) : TouchO m s (Machine.execSpareAutoSwitch a0 t) := by
  unfold Machine.execSpareAutoSwitch; exact (.next (.ite (.startSwitch (d.s rfl) h) h))

theorem execTxDriverFault {a0 a1} (d : Has m 1048642) (h : Touch m s t) : TouchO m s (Machine.execTxDriverFault a0 a1 t) := by
  unfold Machine.execTxDriverFault; exact (.iteO (.next h) (.seqO (.next (.ite (.startSwitch (d.s rfl) .refl) .refl)) (.setOn (d.s rfl) h)))

theorem execSpareSwitchTimeout {a0} (d : Has m 1049282) (h : Touch m s t) : TouchO m s (Machine.execSpareSwitchTimeout a0 t) := by
  unfold Machine.execSpareSwitchTimeout; exact (.next (.ite (.switchFail (d.s rfl) h) h))

theorem execFailedRetry {a0} (d : Has m 1048642) (h : Touch m s t) : TouchO m s (Machine.execFailedRetry a0 t) := by
  unfold Machine.execFailedRetry; exact (.next (.ite (.enterEnum (d.s rfl) h) h))

theorem spareCmd {a1 a2 a3 a4} (d : Has m 1048642) (h : Touch m s t) : Touch m s (State.spareCmd t a1 a2 a3 a4) := by
  unfold State.spareCmd; exact (.seq (.seq (.ite (.setLn (d.s rfl) .refl) .refl) (.ite (.startSwitch (d.s rfl) .refl) .refl)) (.relockBundle (d.s rfl) h))

theorem boundary {a1 a2} (d : Has m 1048642) (h : Touch m s t) : Touch m s (State.boundary t a1 a2) := by
  unfold State.boundary; exact (.ite h (.seq (.ite (.ite (.enterEnum (d.s rfl) .refl) (.setLn (d.s rfl) .refl)) .refl) (.ite (.unstarve (d.s rfl) (.flushPq (d.s rfl) (.setLn (d.s rfl) h))) h)))

theorem lnkCmd {a1 a2} (d : Has m 1048642) (h : Touch m s t) : Touch m s (State.lnkCmd t a1 a2) := by
  unfold State.lnkCmd; exact (.ite h (.foldl (fun _ _ h5 => (.boundary (d.s rfl) h5)) (.setLn (d.s rfl) h)))

theorem injectTest {a1} (d : Has m 1048594) (h : Touch m s t) : Touch m s (State.injectTest t a1) := by
  unfold State.injectTest; exact (.ite h (.seq (.seq (.ite (.count (d.s rfl) .refl) .refl) (.setLn (d.s rfl) .refl)) (.idleTo (d.s rfl) h)))

theorem armInj {a1 a2} (d : Has m 1048594) (h : Touch m s t) : Touch m s (State.armInj t a1 a2) := by
  unfold State.armInj; exact (.ite (.setLn (d.s rfl) h) (.ite (.injectTest (d.s rfl) (.setLn (d.s rfl) h)) h))

theorem execInjectRepeat {a0} (d : Has m 1048594) (h : Touch m s t) : TouchO m s (Machine.execInjectRepeat a0 t) := by
  unfold Machine.execInjectRepeat; exact (.next (.ite (.injectTest (d.s rfl) (.setLn (d.s rfl) h)) h))

theorem txSleep {a1} (d : Has m 1048594) (h : Touch m s t) : Touch m s (State.txSleep t a1) := by
  unfold State.txSleep; exact (.setLn (d.s rfl) (.setF (d.s rfl) (.foldl (fun _ _ h5 => (.drive (d.s rfl) h5)) (.idleTo (d.s rfl) h))))

theorem execTxSleep {a0} (d : Has m 1048594) (h : Touch m s t) : TouchO m s (Machine.execTxSleep a0 t) := by
  unfold Machine.execTxSleep; (try dsimp only); split; exacts [(.next h), (.next (.ite (.txSleep (d.s rfl) h) h))]

theorem execTxWake {a0} (d : Has m 1048578) (h : Touch m s t) : TouchO m s (Machine.execTxWake a0 t) := by
  unfold Machine.execTxWake; exact (.next (.ite (.setLn (d.s rfl) (.setF (d.s rfl) h)) h))

theorem execTxWakeDone {a0} (d : Has m 1048576) (h : Touch m s t) : TouchO m s (Machine.execTxWakeDone a0 t) := by
  unfold Machine.execTxWakeDone; (try dsimp only); split; exacts [(.next (.ite (.setLn (d.s rfl) h) h)), (.next h)]

theorem rxSleep {a1} (d : Has m 2) (h : Touch m s t) : Touch m s (State.rxSleep t a1) := by
  unfold State.rxSleep; exact (.setF (d.s rfl) (.setF (d.s rfl) h))

theorem execRxSleep {a0} (d : Has m 2) (h : Touch m s t) : TouchO m s (Machine.execRxSleep a0 t) := by
  unfold Machine.execRxSleep; (try dsimp only); split; exacts [(.next h), (.next (.ite (.rxSleep (d.s rfl) h) h))]

theorem execRxWake {a0} (d : Has m 1048578) (h : Touch m s t) : TouchO m s (Machine.execRxWake a0 t) := by
  unfold Machine.execRxWake; exact (.next (.ite (.setLn (d.s rfl) (.setF (d.s rfl) h)) h))

theorem copyTable {a1} (d : Has m 2) (h : Touch m s t) : Touch m s (State.copyTable t a1) := by
  unfold State.copyTable; exact (.foldl (fun _ _ h5 => (.setF (d.s rfl) (.setF (d.s rfl) (.setF (d.s rfl) (.setF (d.s rfl) (.setF (d.s rfl) (.setF (d.s rfl) h5))))))) h)

theorem activate {a1} (d : Has m 1048642) (h : Touch m s t) : Touch m s (State.activate t a1) := by
  unfold State.activate; exact (.setOn (d.s rfl) (.setLn (d.s rfl) (.foldl (fun _ _ h6 => (.raiseLane (d.s rfl) h6)) (.foldl (fun _ _ h5 => (.raiseLane (d.s rfl) h5)) (.setLn (d.s rfl) (.setF (d.s rfl) (.setF (d.s rfl) (.copyTable (d.s rfl) h))))))))

theorem tableEpoch {a1 a2 a3 a4 a5} (d : Has m 1048642) (h : Touch m s t) : Touch m s (State.tableEpoch t a1 a2 a3 a4 a5) := by
  unfold State.tableEpoch; exact (.ite (.activate (d.s rfl) h) (.setF (d.s rfl) (.setLn (d.s rfl) h)))

theorem setNextSeq {a1 a2 a3 a4} (d : Has m 1048576) (h : Touch m s t) : Touch m s (State.setNextSeq t a1 a2 a3 a4) := by
  unfold State.setNextSeq; exact (.upd_20 (d.s rfl) h)

theorem setPkt {a1 a2 a3 a4} (d : Has m 1048576) (h : Touch m s t) : Touch m s (State.setPkt t a1 a2 a3 a4) := by
  unfold State.setPkt; exact (.setPq (d.s rfl) h)

theorem dropPkt {a1 a2 a3} (d : Has m 1048578) (h : Touch m s t) : Touch m s (State.dropPkt t a1 a2 a3) := by
  unfold State.dropPkt; exact (.unstarve (d.s rfl) (.keepPq (d.s rfl) h))

theorem attemptFail {a1 a2 a3 a4 a5} (d : Has m 1048642) (h : Touch m s t) : Touch m s (State.attemptFail t a1 a2 a3 a4 a5) := by
  unfold State.attemptFail; (try dsimp only); split; exacts [h, (.boundary (d.s rfl) (.ite (.dropPkt (d.s rfl) h) (.ite (.cmdFailed (d.s rfl) (.dropPkt (d.s rfl) h)) (.setPkt (d.s rfl) h))))]

theorem partnerReset {a1 a2} (d : Has m 1049282) (h : Touch m s t) : Touch m s (State.partnerReset t a1 a2) := by
  unfold State.partnerReset; exact (.unstarve (d.s rfl) (.queueReset (d.s rfl) (.flushPq (a1 := a1) (a2 := a2) (d.s rfl) h)))

theorem enqueue {a1 a2 a3} (d : Has m 1048578) (h : Touch m s t) : Touch m s (State.enqueue t a1 a2 a3).2 := by
  unfold State.enqueue; exact (.ite2 (.snd h) (.snd (.takeCells (d.s rfl) (.setPq (d.s rfl) h))))

/-! ## Drive -/

theorem schedule {a1 a2 a3 a4} (d : Has m 524290) (h : Touch m s t) : Touch m s (State.schedule t a1 a2 a3 a4) := by
  unfold State.schedule; exact (.seq (.ite .refl (.setPin (d.s rfl) .refl)) (.ite (.count (d.s rfl) h) h))

theorem execGtoEdgePlace {a0} (d : Has m 4718592) (h : Touch m s t) : TouchO m s (Machine.execGtoEdgePlace a0 t) := by
  unfold Machine.execGtoEdgePlace; (try dsimp only); split; exacts [(.next h), (.next (.setPin (d.s rfl) (.upd_22 (d.s rfl) h)))]

theorem discardEdges {a1} (d : Has m 524288) (h : Touch m s t) : Touch m s (State.discardEdges t a1) := by
  unfold State.discardEdges; exact (.foldl (fun _ _ h5 => (.ite (.setPin (d.s rfl) h5) h5)) h)

theorem setRail {a1 a2} (d : Has m 2097152) (h : Touch m s t) : Touch m s (State.setRail t a1 a2) := by
  unfold State.setRail; exact (.upd_21 (d.s rfl) h)

theorem setPwr {a1 a2} (d : Has m 2097152) (h : Touch m s t) : Touch m s (State.setPwr t a1 a2) := by
  unfold State.setPwr; exact (.upd_21 (d.s rfl) h)

theorem railShow {a1} (d : Has m 2) (h : Touch m s t) : Touch m s (State.railShow t a1) := by
  unfold State.railShow; exact (.setOn (d.s rfl) (.setOn (d.s rfl) h))

theorem railSeq {a1 a2} (d : Has m 2097154) (h : Touch m s t) : Touch m s (State.railSeq t a1 a2) := by
  unfold State.railSeq; exact (.railShow (d.s rfl) (.setRail (d.s rfl) h))

theorem setRState {a1 a2 a3} (d : Has m 66) (h : Touch m s t) : Touch m s (State.setRState t a1 a2 a3) := by
  unfold State.setRState; exact (.ite h (.raiseG (d.s rfl) (.setF (d.s rfl) h)))

theorem railUpFrom {a1 a2} (d : Has m 2097218) (h : Touch m s t) : Touch m s (State.railUpFrom t a1 a2) := by
  unfold State.railUpFrom; (try dsimp only); split; exacts [(.setRState (d.s rfl) h), (.foldl (fun _ _ h5 => (.railSeq (d.s rfl) h5)) (.setPwr (d.s rfl) h))]

theorem railDownFrom {a1 a2} (d : Has m 2097218) (h : Touch m s t) : Touch m s (State.railDownFrom t a1 a2) := by
  unfold State.railDownFrom; (try dsimp only); split; exacts [(.seq (.ite (.setRState (d.s rfl) .refl) .refl) (.setPwr (d.s rfl) h)), (.foldl (fun _ _ h5 => (.railSeq (d.s rfl) h5)) (.setPwr (d.s rfl) h))]

theorem railDown {a1} (d : Has m 2097218) (h : Touch m s t) : Touch m s (State.railDown t a1) := by
  unfold State.railDown; exact (.seq (.railDownFrom (d.s rfl) (.ite .refl (.setRState (d.s rfl) .refl))) (.setPwr (d.s rfl) h))

theorem writePwr {a1 a2} (d : Has m 2097218) (h : Touch m s t) : Touch m s (State.writePwr t a1 a2) := by
  unfold State.writePwr; exact (.seq (.ite (.ite (.railUpFrom (d.s rfl) (.setRState (d.s rfl) (.setPwr (d.s rfl) .refl))) (.setPwr (d.s rfl) .refl)) (.ite (.ite (.railDown (d.s rfl) .refl) (.setPwr (d.s rfl) .refl)) .refl)) (.setOn (d.s rfl) h))

theorem railFault {a1 a2} (d : Has m 2097858) (h : Touch m s t) : Touch m s (State.railFault t a1 a2) := by
  unfold State.railFault; exact (.seq (.seq (.ite (.railDown (d.s rfl) .refl) (.setPwr (d.s rfl) .refl)) (.stopGroup (d.s rfl) (.fault (d.s rfl) .refl))) (.setRState (d.s rfl) h))

theorem railStopped {a1} (d : Has m 2097218) (h : Touch m s t) : Touch m s (State.railStopped t a1) := by
  unfold State.railStopped; exact (.ite (.railDown (d.s rfl) h) h)

theorem execRailOnDelay {a0} (d : Has m 2097218) (h : Touch m s t) : TouchO m s (Machine.execRailOnDelay a0 t) := by
  unfold Machine.execRailOnDelay; exact (.iteO (.next h) (.next (.railUpFrom (d.s rfl) h)))

theorem execRailOffDelay {a0} (d : Has m 2097218) (h : Touch m s t) : TouchO m s (Machine.execRailOffDelay a0 t) := by
  unfold Machine.execRailOffDelay; exact (.iteO (.next h) (.next (.railDownFrom (d.s rfl) h)))

theorem execRailgoodEdge {a0 a1} (d : Has m 2097858) (h : Touch m s t) : TouchO m s (Machine.execRailgoodEdge a0 a1 t) := by
  unfold Machine.execRailgoodEdge; exact (.iteO (.next h) (.seqO (.seqO (.iteO (.next (.railFault (d.s rfl) .refl)) (.next .refl)) (.setRail (d.s rfl) .refl)) (.setOn (d.s rfl) h)))

theorem execRailTimeout {a0} (d : Has m 2097858) (h : Touch m s t) : TouchO m s (Machine.execRailTimeout a0 t) := by
  unfold Machine.execRailTimeout; exact (.iteO (.next h) (.next (.railFault (d.s rfl) h)))

theorem railForce {a1 a2} (d : Has m 2097154) (h : Touch m s t) : Touch m s (State.railForce t a1 a2) := by
  unfold State.railForce; exact (.ite h (.railShow (d.s rfl) (.setRail (d.s rfl) h)))

theorem bookDcb {a1 a2 a3 a4 a5} (d : Has m 2097152) (h : Touch m s t) : Touch m s (State.bookDcb t a1 a2 a3 a4 a5) := by
  unfold State.bookDcb; exact (.ite h (.foldl (fun _ _ h5 => (.upd_21 (d.s rfl) h5)) h))

theorem setTemp {a1 a2 a3} (d : Has m 2097152) (h : Touch m s t) : Touch m s (State.setTemp t a1 a2 a3) := by
  unfold State.setTemp; exact (.upd_21 (d.s rfl) h)

theorem execPanelTempPoll {a0} (d : Has m 2097168) (h : Touch m s t) : TouchO m s (Machine.execPanelTempPoll a0 t) := by
  unfold Machine.execPanelTempPoll; exact (.iteO (.next h) (.next (.out (d.s rfl) (.setTemp (d.s rfl) h))))

theorem tempValid {a1 a2} (d : Has m 66) (h : Touch m s t) : Touch m s (State.tempValid t a1 a2) := by
  unfold State.tempValid; exact (.ite h (.raiseG (d.s rfl) (.setOn (d.s rfl) h)))

theorem execPanelTempReadDone {a0 a1 a2} (d : Has m 2097218) (h : Touch m s t) : TouchO m s (Machine.execPanelTempReadDone a0 a1 a2 t) := by
  unfold Machine.execPanelTempReadDone; exact (.iteO (.next h) (.iteO (.next (.tempValid (d.s rfl) (.setF (d.s rfl) (.setTemp (d.s rfl) h)))) (.seqO (.next (.ite (.tempValid (d.s rfl) .refl) .refl)) (.setTemp (d.s rfl) h))))

theorem pfTrip {a1 a2} (d : Has m 2130498) (h : Touch m s t) : Touch m s (State.pfTrip t a1 a2) := by
  unfold State.pfTrip; exact (.ite (.upd_21 (d.s rfl) h) (.foldl (fun _ _ h5 => (.stopGroup (d.s rfl) h5)) (.nvTrip (d.s rfl) (.raise (d.s rfl) (.upd_21 (d.s rfl) (.setF (d.s rfl) (.setW1c (d.s rfl) (.upd_21 (d.s rfl) h))))))))

theorem clearTripped  (d : Has m 2097154) (h : Touch m s t) : Touch m s (State.clearTripped t) := by
  unfold State.clearTripped; exact (.ite (.upd_21 (d.s rfl) (.setF (d.s rfl) h)) h)

theorem bonChain {a1} (d : Has m 1048600) (h : Touch m s t) : Touch m s (State.bonChain t a1) := by
  unfold State.bonChain; exact (.foldl (fun _ _ h5 => (.sendCtl (d.s rfl) (.sendPkt (d.s rfl) (.sendCtl (d.s rfl) (.draw (a1 := 8) (d.s rfl) h5))))) h)

theorem bonSend  (d : Has m 3145754) (h : Touch m s t) : Touch m s (State.bonSend t) := by
  unfold State.bonSend; exact (.ite (.setF (d.s rfl) h) (.ite (.setF (d.s rfl) h) (.upd_21 (d.s rfl) (.foldl (fun _ _ h5 => (.bonChain (d.s rfl) h5)) h))))

/-! ## Bistable -/

theorem setBis {a1 a2} (d : Has m 2097154) (h : Touch m s t) : Touch m s (State.setBis t a1 a2) := by
  unfold State.setBis; exact (.upd_21 (d.s rfl) (.setF (d.s rfl) (.setF (d.s rfl) h)))

theorem setBisReg {a1 a2 a3} (d : Has m 2097152) (h : Touch m s t) : Touch m s (State.setBisReg t a1 a2 a3) := by
  unfold State.setBisReg; exact (.upd_21 (d.s rfl) h)

theorem decideBis {a1 a2 a3} (d : Has m 2097218) (h : Touch m s t) : Touch m s (State.decideBis t a1 a2 a3) := by
  unfold State.decideBis; exact (.ite (.ite (.seq (.ite .refl (.raiseG (d.s rfl) .refl)) (.setBis (d.s rfl) h)) h) (.seq (.ite .refl (.raiseG (d.s rfl) .refl)) (.setBis (d.s rfl) (.setF (d.s rfl) h))))

theorem journal {a1 a2 a3 a4 a5 a6} (d : Has m 2129986) (h : Touch m s t) : Touch m s (State.journal t a1 a2 a3 a4 a5 a6).2 := by
  unfold State.journal; exact (.snd (.nvSubmit (d.s rfl) (.upd_21 (d.s rfl) h)))

theorem bisAccepted {a1} (d : Has m 2097154) (h : Touch m s t) : Touch m s (State.bisAccepted t a1) := by
  unfold State.bisAccepted; exact (.foldl (fun _ _ h5 => (.ite (.setBis (d.s rfl) h5) h5)) h)

theorem bisDone {a1 a2 a3 a4 a5 a6 a7} (d : Has m 64) (h : Touch m s t) : Touch m s (State.bisDone t a1 a2 a3 a4 a5 a6 a7) := by
  unfold State.bisDone; exact (.raiseG (d.s rfl) h)

theorem bisSubmit {a1 a2} (d : Has m 2097154) (h : Touch m s t) : Touch m s (State.bisSubmit t a1 a2).2 := by
  unfold State.bisSubmit; exact (.ite2 (.snd h) (.snd (.setBis (d.s rfl) h)))

theorem bisReq2 {a1 a2 a3} (d : Has m 2097154) (h : Touch m s t) : Touch m s (State.bisReq2 t a1 a2 a3) := by
  unfold State.bisReq2; exact (.seq (.ite .refl (.setBisReg (d.s rfl) (.bisSubmit (a1 := a2) (d.s rfl) .refl))) (.setF (d.s rfl) (.setF (d.s rfl) h)))

theorem bisAuto {a1} (d : Has m 2097154) (h : Touch m s t) : Touch m s (State.bisAuto t a1) := by
  unfold State.bisAuto; exact (.ite h (.bisSubmit (d.s rfl) h))

theorem execBisBlockFetchDone {a0 a1 a2 a3} (d : Has m 2129994) (h : Touch m s t) : TouchO m s (Machine.execBisBlockFetchDone a0 a1 a2 a3 t) := by
  unfold Machine.execBisBlockFetchDone; exact (.iteO (.next h) (.iteO (.next (.setBis (d.s rfl) h)) (.next (.foldl (fun _ _ h6 => (.bisDone (d.s rfl) (.journal (d.s rfl) h6))) (.foldl (fun _ _ h5 => (.bisDone (d.s rfl) (.ite (.journal (a1 := a0) (a2 := Bool.false) (d.s rfl) (.ite2 (.snd h5) (.draw (a1 := 6) (d.s rfl) h5))) (.ite2 (.snd h5) (.draw (a1 := 6) (d.s rfl) h5))))) (.setBis (d.s rfl) h))))))

theorem bisJudge {a1 a2 a3 a4 a5} (d : Has m 2129986) (h : Touch m s t) : Touch m s (State.bisJudge t a1 a2 a3 a4 a5).2 := by
  unfold State.bisJudge; exact (.ite2 (.snd h) (.ite2 (.snd (.setBis (d.s rfl) h)) (.ite2 (.snd h) (.snd (.journal (a1 := a1) (a2 := Bool.true) (a3 := a5) (a4 := (t.bis a1).band) (a5 := if a5.jband.isSome = Bool.true then a5.slot else (List.find? (fun i => !(t.bis a1).slots.contains i) (List.range 64)).getD 0) (a6 := (t.grp a1).frame + 1) (d.s rfl) h)))))

theorem bisJudgeAll {a1 a2 a3 a4 a5} (d : Has m 2129986) (h : Touch m s t) : Touch m s (Machine.bisJudgeAll a1 a2 a3 a4 a5 t) := by
  induction a3 generalizing t a4 a5 with
  | nil => exact .setBis (d.s rfl) h
  | cons r rs ih => exact ih (.setBis (d.s rfl) (.bisJudge (d.s rfl) h))

theorem bisCutoff {a1 a2} (d : Has m 2129986) (h : Touch m s t) : Touch m s (State.bisCutoff t a1 a2) := by
  unfold State.bisCutoff; exact (.ite h (.bisJudgeAll (d.s rfl) h))

theorem lvlTake {a1 a2} (d : Has m 31250) (h : Touch m s t) : Touch m s (State.lvlTake t a1 a2) := by
  unfold State.lvlTake; exact (.foldl (fun _ _ h5 => (.foldl (fun _ _ h6 => (.ite h6 (.devWrite (d.s rfl) h6))) h5)) h)

theorem bisEnd {a1 a2 a3} (d : Has m 2161234) (h : Touch m s t) : Touch m s (State.bisEnd t a1 a2 a3).2 := by
  unfold State.bisEnd; exact (.ite2 (.snd h) (.seq (.seq (.ite2 (.snd (.journal (d.s rfl) .refl)) (.snd (.journal (d.s rfl) .refl))) (.bisDone (d.s rfl) .refl)) (.lvlTake (d.s rfl) h)))

theorem bisEndAll {a1 a2 a3 a4} (d : Has m 2161234) (h : Touch m s t) : Touch m s (Machine.bisEndAll a1 a2 a3 a4 t) := by
  induction a3 generalizing t a4 with
  | nil => exact .setBis (d.s rfl) h
  | cons u us ih =>
    unfold Machine.bisEndAll
    dsimp only
    split
    · exact ih (.bisEnd (d.s rfl) h)
    · exact ih (.ite (.setBis (d.s rfl) (.bisEnd (d.s rfl) h)) (.bisEnd (d.s rfl) h))

theorem bisLine0 {a1 a2} (d : Has m 2685522) (h : Touch m s t) : Touch m s (State.bisLine0 t a1 a2) := by
  unfold State.bisLine0; exact (.ite h (.seq (.seq (.seq (.seq (.ite .refl (.occurGroup (d.s rfl) .refl)) (.setBis (d.s rfl) .refl)) (.bisEndAll (d.s rfl) .refl)) (.setBis (d.s rfl) .refl)) (.setF (d.s rfl) h)))

theorem bisTarget {a1 a2 a3 a4} (d : Has m 31250) (h : Touch m s t) : Touch m s (State.bisTarget t a1 a2 a3 a4) := by
  unfold State.bisTarget; exact (.ite h (.foldl (fun _ _ h5 => (.ite h5 (.devWrite (d.s rfl) h5))) h))

theorem bisLine {a1 a2} (d : Has m 31250) (h : Touch m s t) : Touch m s (State.bisLine t a1 a2) := by
  unfold State.bisLine; exact (.foldl (fun _ _ h5 => (.bisTarget (d.s rfl) h5)) h)

theorem bisLate {a1} (d : Has m 31250) (h : Touch m s t) : Touch m s (State.bisLate t a1) := by
  unfold State.bisLate; exact (.ite h (.foldl (fun _ _ h5 => (.bisLine (d.s rfl) h5)) h))

theorem bisTrip  (d : Has m 2097154) (h : Touch m s t) : Touch m s (State.bisTrip t) := by
  unfold State.bisTrip; exact (.foldl (fun _ _ h5 => (.ite h5 (.setBis (d.s rfl) h5))) h)

theorem execPfDischarge  (d : Has m 2129922) (h : Touch m s t) : TouchO m s (Machine.execPfDischarge t) := by
  unfold Machine.execPfDischarge; (try dsimp only); split; exacts [(.next h), (.iteO (.next h) (.next (.nvDumpStart (d.s rfl) (.bisTrip (d.s rfl) (.upd_21 (d.s rfl) h)))))]

theorem bisCode {a1 a2 a3 a4 a5} (d : Has m 2097162) (h : Touch m s t) : Touch m s (State.bisCode t a1 a2 a3 a4 a5).2 := by
  unfold State.bisCode; (try dsimp only); split; exacts [(.snd h), (.snd h), (by (try dsimp only); split; exacts [(.snd h), (.ite2 (.snd (.setBis (d.s rfl) h)) (by (try dsimp only); split; exacts [(.snd h), (.draw (a1 := 2) (d.s rfl) h)]))])]

theorem bisStart {a1 a2} (d : Has m 2129986) (h : Touch m s t) : Touch m s (State.bisStart t a1 a2) := by
  unfold State.bisStart; exact (.ite h (.seq (.seq (.ite (.foldl (fun _ _ h5 => (.setBis (d.s rfl) h5)) .refl) (.foldl (fun _ _ h6 => (.journal (d.s rfl) h6)) .refl)) (.setBis (d.s rfl) .refl)) (.decideBis (d.s rfl) h)))

theorem journalScan  (d : Has m 2097218) (h : Touch m s t) : Touch m s (State.journalScan t) := by
  unfold State.journalScan; exact (.foldl (fun _ _ h5 => (.foldl (fun _ _ h6 => (.raiseG (d.s rfl) h6)) (.setF (d.s rfl) (.setBis (d.s rfl) h5)))) h)

/-! ## Events -/

theorem setRing {a1 a2} (d : Has m 64) (h : Touch m s t) : Touch m s (State.setRing t a1 a2) := by
  unfold State.setRing; exact (.upd_6 (d.s rfl) h)

theorem ringStatus {a1} (d : Has m 2) (h : Touch m s t) : Touch m s (State.ringStatus t a1) := by
  unfold State.ringStatus; exact (.setF (d.s rfl) (.setOn (d.s rfl) h))

theorem runActs {k a1} (d : Has m 31314) (h : Touch m s t) : Touch m s (Machine.runActs k a1 t) := by
  induction a1 generalizing t with
  | nil => exact .setRing (d.s rfl) h
  | cons a as ih =>
    cases a with
    | msix f v => exact ih (.msix (d.s rfl) h)
    | host f a bs => exact ih (.out (d.s rfl) h)
    | fs a bs => exact .ite (ih (.fsWrite (d.s rfl) (.touchRange (d.s rfl) h))) (.setRing (d.s rfl) (.sendBi (d.s rfl) (.touchRange (d.s rfl) h)))

theorem ringDo {a1 a2} (d : Has m 31314) (h : Touch m s t) : Touch m s (State.ringDo t a1 a2) := by
  unfold State.ringDo; exact (.ite (.runActs (d.s rfl) h) (.setRing (d.s rfl) h))

theorem ringsResume  (d : Has m 31314) (h : Touch m s t) : Touch m s (State.ringsResume t) := by
  unfold State.ringsResume; exact (.foldl (fun _ _ h5 => (.runActs (d.s rfl) h5)) h)

theorem ringCount {a1 a2} (d : Has m 64) (h : Touch m s t) : Touch m s (State.ringCount t a1 a2).1 := by
  unfold State.ringCount; exact (.fst (.setRing (d.s rfl) h))

theorem ringPut {a1 a2} (d : Has m 66) (h : Touch m s t) : Touch m s (State.ringPut t a1 a2).1 := by
  unfold State.ringPut; exact (.fst (.ringCount (a1 := a1) (a2 := a2) (d.s rfl) (.setF (d.s rfl) h)))

theorem ringFill {a0 a1} (d : Has m 66) (h : Touch m s t) : Touch m s (Machine.ringFill a0 a1 t).1 := by
  induction a1 generalizing t with
  | nil => exact .setRing (d.s rfl) h
  | cons a as ih =>
    unfold Machine.ringFill
    split
    · exact .setRing (d.s rfl) h
    · exact ih (.ringPut (d.s rfl) h)

theorem ringDrain {a1} (d : Has m 31314) (h : Touch m s t) : Touch m s (State.ringDrain t a1) := by
  unfold State.ringDrain; exact (.ringStatus (d.s rfl) (.ite (.ringFill (a0 := a1) (a1 := (t.ring a1).held) (d.s rfl) h) (.ringDo (d.s rfl) (.ringFill (a0 := a1) (a1 := (t.ring a1).held) (d.s rfl) h))))

theorem ringTake {a1 a2} (d : Has m 31314) (h : Touch m s t) : Touch m s (State.ringTake t a1 a2) := by
  unfold State.ringTake; exact (.ite (.ringDrain (d.s rfl) (.setRing (d.s rfl) h)) (.count (d.s rfl) (.setRing (d.s rfl) h)))

theorem ringOff {a1} (d : Has m 66) (h : Touch m s t) : Touch m s (State.ringOff t a1) := by
  unfold State.ringOff; exact (.ringStatus (d.s rfl) (.setRing (d.s rfl) (.count (d.s rfl) (.setF (d.s rfl) h))))

theorem ringOn {a1} (d : Has m 31314) (h : Touch m s t) : Touch m s (State.ringOn t a1) := by
  unfold State.ringOn; exact (.ringDrain (d.s rfl) (.setF (d.s rfl) (.setF (d.s rfl) h)))

theorem release {a1} (d : Has m 64082) (h : Touch m s t) : Touch m s (State.release t a1) := by
  unfold State.release; exact (.seq (.ite (.ringTake (d.s rfl) .refl) .refl) (.nvLog (d.s rfl) h))

theorem execEventMergeArrival {a0} (d : Has m 64082) (h : Touch m s t) : TouchO m s (Machine.execEventMergeArrival a0 t) := by
  unfold Machine.execEventMergeArrival; (try dsimp only); split; exacts [(.next h), (.iteO (.next h) (.iteO (.next (.release (d.s rfl) (.upd_6 (d.s rfl) h))) (.next (.upd_6 (d.s rfl) (.upd_6 (d.s rfl) h)))))]

theorem execEventRelease  (d : Has m 64082) (h : Touch m s t) : TouchO m s (Machine.execEventRelease t) := by
  unfold Machine.execEventRelease; (try dsimp only); split; exacts [(.next h), (.iteO (.next (.release (d.s rfl) (.upd_6 (d.s rfl) h))) (.next h))]

theorem writeHead {a1 a2} (d : Has m 31314) (h : Touch m s t) : Touch m s (State.writeHead t a1 a2) := by
  unfold State.writeHead; exact (.ringDrain (d.s rfl) (.setF (d.s rfl) h))

theorem execMsixTimer {a0} (d : Has m 31314) (h : Touch m s t) : TouchO m s (Machine.execMsixTimer a0 t) := by
  unfold Machine.execMsixTimer; exact (.iteO (.next h) (.next (.ringDo (d.s rfl) (.setRing (d.s rfl) h))))

theorem execMsixUnmask {a0 a1} (d : Has m 2064) (h : Touch m s t) : TouchO m s (Machine.execMsixUnmask a0 a1 t) := by
  unfold Machine.execMsixUnmask; exact (.iteO (.next h) (.next (.ite (.msix (d.s rfl) (.upd_11 (d.s rfl) h)) (.upd_11 (d.s rfl) h))))

/-! ## Calib -/

theorem setCalRun {a1 a2} (d : Has m 4194304) (h : Touch m s t) : Touch m s (State.setCalRun t a1 a2) := by
  unfold State.setCalRun; exact (.upd_22 (d.s rfl) h)

theorem calStart {a1} (d : Has m 4194304) (h : Touch m s t) : Touch m s (State.calStart t a1) := by
  unfold State.calStart; exact (.ite h (.setCalRun (d.s rfl) h))

theorem calItem {a1 a2} (d : Has m 64) (h : Touch m s t) : Touch m s (State.calItem t a1 a2) := by
  unfold State.calItem; exact (.raise (d.s rfl) h)

theorem execCalPeriod {a0} (d : Has m 4194304) (h : Touch m s t) : TouchO m s (Machine.execCalPeriod a0 t) := by
  unfold Machine.execCalPeriod; exact (.iteO (.next h) (.next (.foldl (fun _ _ h5 => (.calStart (d.s rfl) h5)) (.upd_22 (d.s rfl) h))))

theorem setCalTrim {a1 a2} (d : Has m 4194304) (h : Touch m s t) : Touch m s (State.setCalTrim t a1 a2) := by
  unfold State.setCalTrim; exact (.upd_22 (d.s rfl) h)

theorem execCalApply {a0 a1 a2 a3} (d : Has m 5242962) (h : Touch m s t) : TouchO m s (Machine.execCalApply a0 a1 a2 a3 t) := by
  unfold Machine.execCalApply; exact (.iteO (.next (.ite (.idleTo (d.s rfl) h) h)) (.iteO (.next (.ite (.setCalTrim (d.s rfl) (.ite (.idleTo (d.s rfl) h) h)) (.ite (.idleTo (d.s rfl) h) h))) (.iteO (.next (.calItem (d.s rfl) (.setCalRun (d.s rfl) (.ite (.idleTo (d.s rfl) h) h)))) (.iteO (.next (.ite (.idleTo (d.s rfl) h) h)) (.seqO (.seqO (.next (.ite (.calItem (d.s rfl) .refl) .refl)) (.setCalTrim (d.s rfl) (.setCalRun (d.s rfl) .refl))) (.setF (d.s rfl) (.setF (d.s rfl) (.count (d.s rfl) (by (try dsimp only); split; exacts [(.snd (.setF (d.s rfl) (.ite (.idleTo (d.s rfl) h) h))), (.snd (.setF (d.s rfl) (.setF (d.s rfl) (.ite (.idleTo (d.s rfl) h) h))))])))))))))

theorem execCalRunTimeout {a0} (d : Has m 4194368) (h : Touch m s t) : TouchO m s (Machine.execCalRunTimeout a0 t) := by
  unfold Machine.execCalRunTimeout; (try dsimp only); split; exacts [(.next h), (.next (.ite (.calItem (d.s rfl) (.setCalRun (d.s rfl) h)) h))]

theorem calWrite {a1 a2} (d : Has m 4194306) (h : Touch m s t) : Touch m s (State.calWrite t a1 a2) := by
  unfold State.calWrite; exact (.ite h (.setCalTrim (d.s rfl) (.setCalRun (d.s rfl) (by (try dsimp only); split; exacts [(.setF (d.s rfl) (.setF (d.s rfl) h)), (.setF (d.s rfl) h)]))))

theorem calNvDone {a1 a2} (d : Has m 66) (h : Touch m s t) : Touch m s (State.calNvDone t a1 a2) := by
  unfold State.calNvDone; exact (.raise (d.s rfl) (.setF (d.s rfl) h))

theorem calSave  (d : Has m 4227138) (h : Touch m s t) : Touch m s (State.calSave t) := by
  unfold State.calSave; exact (.ite (.calNvDone (d.s rfl) h) (.ite (.calNvDone (d.s rfl) h) (.nvSubmit (d.s rfl) (.upd_22 (d.s rfl) (.setF (d.s rfl) h)))))

theorem calSaved  (d : Has m 4194370) (h : Touch m s t) : Touch m s (State.calSaved t) := by
  unfold State.calSaved; exact (.calNvDone (d.s rfl) (.upd_22 (d.s rfl) (.setF (d.s rfl) h)))

theorem calTake {a1} (d : Has m 4194306) (h : Touch m s t) : Touch m s (State.calTake t a1) := by
  unfold State.calTake; exact (.upd_22 (d.s rfl) (.foldl (fun _ _ h5 => (.calWrite (d.s rfl) h5)) h))

theorem calLoad  (d : Has m 4194370) (h : Touch m s t) : Touch m s (State.calLoad t) := by
  unfold State.calLoad; exact (.ite (.calNvDone (d.s rfl) h) (.ite (.calNvDone (d.s rfl) h) (.ite (.calNvDone (d.s rfl) (.calTake (d.s rfl) h)) (.calNvDone (d.s rfl) h))))

theorem calCmd {a1} (d : Has m 4227138) (h : Touch m s t) : Touch m s (State.calCmd t a1) := by
  unfold State.calCmd; exact (.seq (.seq (.seq (.ite (.calStart (d.s rfl) .refl) .refl) (.ite (.calLoad (d.s rfl) .refl) .refl)) (.ite (.calSave (d.s rfl) .refl) .refl)) (.setF (d.s rfl) h))

theorem execTempSensorUpdate {a0 a1} (d : Has m 10) (h : Touch m s t) : TouchO m s (Machine.execTempSensorUpdate a0 a1 t) := by
  unfold Machine.execTempSensorUpdate; exact (.iteO (.next h) (.next (.setF (d.s rfl) (.setF (d.s rfl) (.ite2 (.draw (a1 := 16) (d.s rfl) h) (.snd h))))))

theorem execRailMonitorUpdate {a0 a1} (d : Has m 10) (h : Touch m s t) : TouchO m s (Machine.execRailMonitorUpdate a0 a1 t) := by
  unfold Machine.execRailMonitorUpdate; exact (.iteO (.next h) (.next (.setF (d.s rfl) (.setF (d.s rfl) (.ite2 (.snd h) (.draw (a1 := 16) (d.s rfl) h))))))

theorem setFold {a1 a2} (d : Has m 4194304) (h : Touch m s t) : Touch m s (State.setFold t a1 a2) := by
  unfold State.setFold; exact (.upd_22 (d.s rfl) h)

theorem setAcc {a1 a2} (d : Has m 4194304) (h : Touch m s t) : Touch m s (State.setAcc t a1 a2) := by
  unfold State.setAcc; exact (.upd_22 (d.s rfl) h)

theorem freeAccs {a1} (d : Has m 4194306) (h : Touch m s t) : Touch m s (State.freeAccs t a1) := by
  unfold State.freeAccs; exact (.setF (d.s rfl) (.foldl (fun _ _ h5 => (.setAcc (d.s rfl) h5)) h))

theorem foldEvent {a1 a2 a3 a4} (d : Has m 64) (h : Touch m s t) : Touch m s (State.foldEvent t a1 a2 a3 a4) := by
  unfold State.foldEvent; exact (.raiseG (d.s rfl) h)

theorem foldAbandon {a1 a2} (d : Has m 4194370) (h : Touch m s t) : Touch m s (State.foldAbandon t a1 a2) := by
  unfold State.foldAbandon; exact (.foldEvent (d.s rfl) (.setF (d.s rfl) (.setF (d.s rfl) (.setFold (d.s rfl) (.freeAccs (d.s rfl) h)))))

theorem foldWrite {a1 a2} (d : Has m 4194370) (h : Touch m s t) : Touch m s (State.foldWrite t a1 a2) := by
  unfold State.foldWrite; exact (.ite h (.ite (.foldAbandon (d.s rfl) h) (.seq (.ite (.foldEvent (d.s rfl) .refl) (.foldEvent (d.s rfl) (.setFold (d.s rfl) (.setOn (d.s rfl) (.setF (d.s rfl) (.setF (d.s rfl) .refl)))))) (.setF (d.s rfl) h))))

theorem foldSample {a1 a2 a3 a4 a5 a6} (d : Has m 4194314) (h : Touch m s t) : Touch m s (State.foldSample t a1 a2 a3 a4 a5 a6) := by
  unfold State.foldSample; exact (.ite h (.ite (.count (d.s rfl) h) (.seq (.setAcc (d.s rfl) (.ite2 (.draw (a1 := 16) (d.s rfl) .refl) (.snd .refl))) (.ite (.setF (d.s rfl) h) h))))

theorem foldTake {a1 a2 a3} (d : Has m 4194314) (h : Touch m s t) : Touch m s (State.foldTake t a1 a2 a3) := by
  unfold State.foldTake; exact (.ite h (.ite (.upd_22 (d.s rfl) h) (.ite h (.ite (.count (d.s rfl) h) (by (try dsimp only); split; exacts [(.count (d.s rfl) h), (.ite (.count (d.s rfl) h) (.foldl (fun _ _ h5 => (.foldSample (d.s rfl) h5)) h))])))))

theorem foldWriteWords {a1 a2 a3 a4} (d : Has m 4225618) (h : Touch m s t) : Touch m s (Machine.foldWriteWords a1 a2 a3 a4 t) := by
  induction a4 generalizing t with
  | nil => exact h
  | cons w ws ih => exact .ite (ih (.calItem (d.s rfl) h)) (ih (.setFold (d.s rfl) (.devWrite (d.s rfl) h)))

theorem execFoldWritesDone {a0} (d : Has m 4225618) (h : Touch m s t) : TouchO m s (Machine.execFoldWritesDone a0 t) := by
  unfold Machine.execFoldWritesDone
  refine .iteO (.next h) ?_
  dsimp only
  split
  · exact .next (.readGate (d.s rfl) h)
  · exact .next (.setF (d.s rfl) (.setFold (d.s rfl) (.foldWriteWords (d.s rfl) (.readGate (d.s rfl) h))))

theorem execFoldReplayDone {a0} (d : Has m 4225554) (h : Touch m s t) : TouchO m s (Machine.execFoldReplayDone a0 t) := by
  unfold Machine.execFoldReplayDone; exact (.iteO (.next h) (.next (.setF (d.s rfl) (.setFold (d.s rfl) (.foldl (fun _ _ h5 => (.devWrite (d.s rfl) h5)) h)))))

theorem execFoldRetry {a0} (d : Has m 4194304) (h : Touch m s t) : TouchO m s (Machine.execFoldRetry a0 t) := by
  unfold Machine.execFoldRetry; exact (.next (.ite (.setFold (d.s rfl) h) h))

theorem foldCutoff {a1} (d : Has m 4194304) (h : Touch m s t) : Touch m s (State.foldCutoff t a1) := by
  unfold State.foldCutoff; exact (.ite (.setFold (d.s rfl) h) h)

theorem foldSwap {a1 a2 a3} (d : Has m 4194370) (h : Touch m s t) : Touch m s (State.foldSwap t a1 a2 a3) := by
  unfold State.foldSwap; exact (.setFold (d.s rfl) (.setF (d.s rfl) (.setF (d.s rfl) (.setF (d.s rfl) (.count (d.s rfl) (.setF (d.s rfl) (.raiseG (d.s rfl) (.setOn (d.s rfl) (.setF (d.s rfl) h)))))))))

theorem foldClose {a1} (d : Has m 4194306) (h : Touch m s t) : Touch m s (State.foldClose t a1) := by
  unfold State.foldClose; exact (.setFold (d.s rfl) (.setF (d.s rfl) (.freeAccs (d.s rfl) h)))

theorem foldLatch {a1 a2 a3 a4 a5} (d : Has m 4194370) (h : Touch m s t) : Touch m s (State.foldLatch t a1 a2 a3 a4 a5) := by
  unfold State.foldLatch; exact (.ite h (by (try dsimp only); split; exacts [(.ite (.foldClose (d.s rfl) (.setFold (d.s rfl) h)) (.setFold (d.s rfl) h)), (.ite (.foldSwap (d.s rfl) (.setFold (d.s rfl) h)) (.setFold (d.s rfl) h)), (.setFold (d.s rfl) h)]))

/-! ## Nvs -/

theorem nvReject  (d : Has m 2) (h : Touch m s t) : Touch m s (State.nvReject t) := by
  unfold State.nvReject; exact (.setW1c (d.s rfl) h)

theorem nvWindow {a1 a2} (d : Has m 32770) (h : Touch m s t) : Touch m s (State.nvWindow t a1 a2) := by
  unfold State.nvWindow; exact (.ite (.nvReject (d.s rfl) h) (.ite h (.ite (.nvReject (d.s rfl) h) (.nvAccept (d.s rfl) h))))

theorem recDone {a1 a2} (d : Has m 74) (h : Touch m s t) : Touch m s (State.recDone t a1 a2) := by
  unfold State.recDone; exact (.seq (.raise (d.s rfl) (.ite2 (.snd .refl) (.draw (a1 := 32) (d.s rfl) .refl))) (.setF (d.s rfl) (.setF (d.s rfl) h)))

theorem recJob  (d : Has m 32842) (h : Touch m s t) : Touch m s (State.recJob t) := by
  unfold State.recJob; exact (.ite h (.ite (.recDone (d.s rfl) h) (.ite (.recDone (d.s rfl) h) (.ite (.recDone (d.s rfl) h) (.nvSubmit (d.s rfl) (.setF (d.s rfl) h))))))

theorem nvAccepted {a1} (d : Has m 23625802) (h : Touch m s t) : Touch m s (State.nvAccepted t a1) := by
  unfold State.nvAccepted; (try dsimp only); split; exacts [(.recDone (d.s rfl) h), (.foldl (fun _ _ h5 => (by (try dsimp only); split; exacts [(.ite (.setEntry (d.s rfl) h5) h5), h5])) h), (.keyAccepted (d.s rfl) h), (.bisAccepted (d.s rfl) h), (.calSaved (d.s rfl) h), h]

theorem nvDrop {a1} (d : Has m 32768) (h : Touch m s t) : Touch m s (State.nvDrop t a1) := by
  unfold State.nvDrop; exact (.upd_15 (d.s rfl) h)

theorem recordAccept  (d : Has m 23656538) (h : Touch m s t) : Touch m s (State.recordAccept t) := by
  unfold State.recordAccept; exact (.ite h (by (try dsimp only); split; exacts [h, (.ite (.nvBusyUpd (d.s rfl) (.nvIncr (d.s rfl) (.nvDrop (d.s rfl) h))) (.ite (.ite (.nvBusyUpd (d.s rfl) (.recDone (d.s rfl) (.nvDrop (d.s rfl) h))) (by (try dsimp only); split; exacts [(by rename_i h5; exact (ofEq h5 (.devRead (d.s rfl) h))), (by rename_i h6; exact (.nvBusyUpd (d.s rfl) (.nvAccepted (d.s rfl) (.nvAccept (d.s rfl) (.nvDrop (d.s rfl) (ofEq h6 (.devRead (d.s rfl) h)))))))])) (.nvBusyUpd (d.s rfl) (.nvAccepted (d.s rfl) (.nvAccept (d.s rfl) (.nvDrop (d.s rfl) h))))))]))

theorem cntInc {a1} (d : Has m 32770) (h : Touch m s t) : Touch m s (State.cntInc t a1) := by
  unfold State.cntInc; exact (.ite (.nvReject (d.s rfl) h) (.nvIncr (d.s rfl) h))

theorem setSec {a1 a2} (d : Has m 32768) (h : Touch m s t) : Touch m s (State.setSec t a1 a2) := by
  unfold State.setSec; exact (.upd_15 (d.s rfl) h)

theorem nvWear  (d : Has m 2) (h : Touch m s t) : Touch m s (State.nvWear t) := by
  unfold State.nvWear; exact (.setF (d.s rfl) (.setF (d.s rfl) h))

theorem progCopy {a1 a2 u} (d : Has m 32770) (h : Touch m s t) (e : t.progCopy a1 a2 = some u) : Touch m s u := by
  unfold State.progCopy at e
  dsimp only at e
  split at e
  · split at e
    · cases e
    · cases e; exact .nvWear (d.s rfl) (.setSec (d.s rfl) (.upd_15 (d.s rfl) h))
  · split at e
    · cases e; exact .setSec (d.s rfl) h
    · split at e
      · cases e
      · cases e; exact .nvWear (d.s rfl) (.setSec (d.s rfl) (.upd_15 (d.s rfl) (.setSec (d.s rfl) h)))

theorem reaccept {a1 a2} (d : Has m 32770) (h : Touch m s t) : Touch m s (Machine.reaccept a1 a2 t) := by
  induction a2 generalizing t with
  | zero => exact h
  | succ n ih =>
    unfold Machine.reaccept
    split
    · exact h
    · exact .ite h (ih (.upd_15 (d.s rfl) (.nvAccept (d.s rfl) h)))

theorem compactStep  (d : Has m 32770) (h : Touch m s t) : Touch m s (State.compactStep t) := by
  unfold State.compactStep; (try dsimp only); split; exacts [(by (try dsimp only); split; exacts [(.ite (.upd_15 (d.s rfl) h) h), (.ite (.ite (.upd_15 (d.s rfl) h) h) (.reaccept (d.s rfl) (.ite (.upd_15 (d.s rfl) h) h)))]), (.ite (by (try dsimp only); split; exacts [(.ite (.upd_15 (d.s rfl) h) h), (.ite (.ite (.upd_15 (d.s rfl) h) h) (.reaccept (d.s rfl) (.ite (.upd_15 (d.s rfl) h) h)))]) (.upd_15 (d.s rfl) (.setSec (d.s rfl) (by (try dsimp only); split; exacts [(.ite (.upd_15 (d.s rfl) h) h), (.ite (.ite (.upd_15 (d.s rfl) h) h) (.reaccept (d.s rfl) (.ite (.upd_15 (d.s rfl) h) h)))]))))]

theorem nvForced  (d : Has m 32834) (h : Touch m s t) : Touch m s (State.nvForced t) := by
  unfold State.nvForced; exact (.nvBusyUpd (d.s rfl) (.upd_15 (d.s rfl) h))

theorem nvDurable {a1} (d : Has m 32770) (h : Touch m s t) : Touch m s (State.nvDurable t a1) := by
  unfold State.nvDurable; exact (.nvCfree (d.s rfl) (.setF (d.s rfl) (.upd_15 (d.s rfl) h)))

theorem nvProgram {a1} (d : Has m 32770) (h : Touch m s t) : Touch m s (t.nvProgram a1) := by
  unfold State.nvProgram
  split
  · split
    · split
      · exact h
      · rename_i e; exact .nvDurable (d.s rfl) (.progCopy (d.s rfl) h e)
    · split
      · exact h
      · rename_i e; exact .upd_15 (d.s rfl) (.progCopy (d.s rfl) h e)
  · exact .nvDurable (d.s rfl) (.upd_15 (d.s rfl) h)
  · exact .nvDurable (d.s rfl) h

theorem execFlushProgramDone  (d : Has m 32834) (h : Touch m s t) : TouchO m s (Machine.execFlushProgramDone t) := by
  unfold Machine.execFlushProgramDone; (try dsimp only); split; exacts [(.next h), (.iteO (.next h) (.iteO (.next (.upd_15 (d.s rfl) (.nvProgram (d.s rfl) h))) (.next (.nvForced (d.s rfl) (.compactStep (d.s rfl) (.nvProgram (d.s rfl) h))))))]

theorem nvFlush  (d : Has m 32770) (h : Touch m s t) : Touch m s (State.nvFlush t) := by
  unfold State.nvFlush; exact (.foldl (fun _ _ h5 => (by (try dsimp only); split; exacts [h5, (.nvProgram (d.s rfl) h5)])) h)

theorem execSectorEraseDone {a0} (d : Has m 32834) (h : Touch m s t) : TouchO m s (Machine.execSectorEraseDone a0 t) := by
  unfold Machine.execSectorEraseDone; exact (.iteO (.iteO (.next (.upd_15 (d.s rfl) h)) (.next h)) (.iteO (.next h) (.next (.nvForced (d.s rfl) (.compactStep (d.s rfl) (.nvWear (d.s rfl) (.setSec (d.s rfl) h)))))))

theorem execDumpCopyDone  (d : Has m 32768) (h : Touch m s t) : TouchO m s (Machine.execDumpCopyDone t) := by
  unfold Machine.execDumpCopyDone; (try dsimp only); split; exacts [(.next (.upd_15 (d.s rfl) h)), (.next (.upd_15 (d.s rfl) h)), (.next (.upd_15 (d.s rfl) h)), (.next h)]

theorem nvLose  (d : Has m 32768) (h : Touch m s t) : Touch m s (State.nvLose t) := by
  unfold State.nvLose; exact (.upd_15 (d.s rfl) h)

theorem dropCopy {a1 a2} (d : Has m 32768) (h : Touch m s t) : Touch m s (State.dropCopy t a1 a2) := by
  unfold State.dropCopy; exact (.upd_15 (d.s rfl) h)

theorem reCopy {a1 a2} (d : Has m 32770) (h : Touch m s t) : Touch m s (t.reCopy a1 a2) := by
  unfold State.reCopy
  cases e : (t.dropCopy a1.seq a2).progCopy (a2 + 1) a1 with
  | none => exact h
  | some u => exact .progCopy (d.s rfl) (.dropCopy (d.s rfl) h) e

theorem scanRec {a1 a2 a3} (d : Has m 33474) (h : Touch m s t) : Touch m s (State.scanRec t a1 a2 a3) := by
  unfold State.scanRec; exact (.ite (.ite (.raise (d.s rfl) (.upd_15 (d.s rfl) (.reCopy (d.s rfl) h))) h) (.ite (.raise (d.s rfl) (.reCopy (d.s rfl) h)) (.seq (.ite (.fault (d.s rfl) (.raise (d.s rfl) .refl)) .refl) (.dropCopy (d.s rfl) (.dropCopy (d.s rfl) h)))))

theorem replayEnt {a1} (d : Has m 32770) (h : Touch m s t) : Touch m s (State.replayEnt t a1) := by
  unfold State.replayEnt; (try dsimp only); split; exacts [(.reCopy (d.s rfl) (.reCopy (d.s rfl) h)), (.upd_15 (d.s rfl) h), (.upd_15 (d.s rfl) h)]

theorem buildMirror  (d : Has m 32768) (h : Touch m s t) : Touch m s (State.buildMirror t) := by
  unfold State.buildMirror; exact (.upd_15 (d.s rfl) h)

theorem nvComplete  (d : Has m 32770) (h : Touch m s t) : Touch m s (State.nvComplete t) := by
  unfold State.nvComplete; exact (.foldl (fun _ _ h5 => (.nvAccept (d.s rfl) h5)) (.upd_15 (d.s rfl) h))

theorem nvScan {a1 a2 a3 a4} (d : Has m 33474) (h : Touch m s t) : Touch m s (State.nvScan t a1 a2 a3 a4) := by
  unfold State.nvScan; exact (.seq (.seq (.seq (.seq (.seq (.seq (.seq (.seq (.seq (.seq (.nvForced (d.s rfl) (.compactStep (d.s rfl) (.ite .refl (.nvIncr (d.s rfl) .refl)))) (.setOn (d.s rfl) (.setF (d.s rfl) .refl))) (.nvComplete (d.s rfl) .refl)) (.nvCfree (d.s rfl) (.nvWear (d.s rfl) (.setF (d.s rfl) .refl)))) (.setF (d.s rfl) (.setF (d.s rfl) .refl))) (.buildMirror (d.s rfl) (.upd_15 (d.s rfl) .refl))) (.ite .refl (.fault (d.s rfl) (.raise (d.s rfl) .refl)))) (.ite (.upd_15 (d.s rfl) .refl) .refl)) (.setF (d.s rfl) .refl)) (.foldl (fun _ _ h5 => (.replayEnt (d.s rfl) h5)) .refl)) (.foldl (fun _ _ h6 => (.scanRec (d.s rfl) h6)) h))

theorem xferEnd {a1 a2 a3 a4} (d : Has m 32834) (h : Touch m s t) : Touch m s (State.xferEnd t a1 a2 a3 a4) := by
  unfold State.xferEnd; exact (.raise (d.s rfl) (.setF (d.s rfl) (.setF (d.s rfl) (.ite (.deferred (d.s rfl) (.upd_15 (d.s rfl) h)) (.upd_15 (d.s rfl) h)))))

theorem xferGo {a1} (d : Has m 32834) (h : Touch m s t) : Touch m s (State.xferGo t a1) := by
  unfold State.xferGo; exact (.ite h (.ite (.nvReject (d.s rfl) h) (.ite (.xferEnd (d.s rfl) h) (.ite (.xferEnd (d.s rfl) h) (.ite (.xferEnd (d.s rfl) h) (.upd_15 (d.s rfl) (.setF (d.s rfl) h)))))))

theorem xferNext {a1 a2} (d : Has m 32834) (h : Touch m s t) : Touch m s (State.xferNext t a1 a2) := by
  unfold State.xferNext; exact (.ite (.upd_15 (d.s rfl) h) (.xferEnd (d.s rfl) h))

theorem execXferUnitDone {a0 a1} (d : Has m 64082) (h : Touch m s t) : TouchO m s (Machine.execXferUnitDone a0 a1 t) := by
  unfold Machine.execXferUnitDone; (try dsimp only); split; exacts [(.next h), (by (try dsimp only); split; exacts [(.next (.xferNext (d.s rfl) (.upd_15 (d.s rfl) h))), (.iteO (.next (.xferEnd (d.s rfl) h)) (by (try dsimp only); split; exacts [(by rename_i h5; exact (.next (ofEq h5 (.devRead (d.s rfl) h)))), (by rename_i h6; exact (.iteO (.next (.xferEnd (d.s rfl) (.upd_15 (d.s rfl) (ofEq h6 (.devRead (d.s rfl) h))))) (.next (.xferNext (d.s rfl) (.upd_15 (d.s rfl) (ofEq h6 (.devRead (d.s rfl) h)))))))])), (.next (.xferNext (d.s rfl) (.devWrite (d.s rfl) h))), (.next (.xferNext (d.s rfl) (.devWrite (d.s rfl) h)))])]

/-! ## Queues -/

theorem doorbell {a1 a2} (d : Has m 524290) (h : Touch m s t) : Touch m s (State.doorbell t a1 a2) := by
  unfold State.doorbell; exact (.occur (d.s rfl) (.setF (d.s rfl) (.upd_19 (d.s rfl) h)))

theorem cxlQReset {a1 a2 a3} (d : Has m 8946370) (h : Touch m s t) : Touch m s (State.cxlQReset t a1 a2 a3) := by
  unfold State.cxlQReset; exact (.setQState (d.s rfl) (.setF (d.s rfl) (by (try dsimp only); split; exacts [(.ownerFail (d.s rfl) (.setStopReq (d.s rfl) h)), (.seq (.ite (.setCoreSt (d.s rfl) (.setCore (d.s rfl) .refl)) .refl) (.entryEnd (d.s rfl) (.setStopReq (d.s rfl) h)))])))

theorem queueCtrl {a1 a2 a3} (d : Has m 8946370) (h : Touch m s t) : Touch m s (State.queueCtrl t a1 a2 a3) := by
  unfold State.queueCtrl; exact (.seq (.ite (.seq (.ite (.setQState (d.s rfl) .refl) .refl) (.setStopReq (d.s rfl) (.setF (d.s rfl) .refl))) (.ite (.setStopReq (d.s rfl) (.setF (d.s rfl) .refl)) (.setQState (d.s rfl) (.setF (d.s rfl) .refl)))) (.ite (.cxlQReset (d.s rfl) h) h))

theorem putWords {a1 a2 a3} (d : Has m 524288) (h : Touch m s t) : Touch m s (Machine.putWords a1 a2 a3 t) := by
  induction a3 generalizing t a2 with
  | nil => exact h
  | cons w ws ih => exact ih (.setImem (d.s rfl) h)

theorem entryStart {a1 a2} (d : Has m 2621506) (h : Touch m s t) : Touch m s (State.entryStart t a1 a2) := by
  unfold State.entryStart; exact (.wakeBanks (d.s rfl) (.setCoreSt (d.s rfl) (.setEntry (d.s rfl) (.setF (d.s rfl) (.setCore (d.s rfl) (.ite (.putWords (d.s rfl) h) h))))))

theorem entryGo {a1 a2} (d : Has m 11043522) (h : Touch m s t) : Touch m s (State.entryGo t a1 a2) := by
  unfold State.entryGo; exact (.ite (.entryEnd (d.s rfl) h) (.ite (.ite (.entryEnd (d.s rfl) h) (.ite (.entryEnd (d.s rfl) h) (.ite (.entryEnd (d.s rfl) h) (.entryStart (d.s rfl) h)))) (.entryStart (d.s rfl) h)))

theorem autoStart  (d : Has m 2687042) (h : Touch m s t) : Touch m s (State.autoStart t) := by
  unfold State.autoStart; exact (.ite h (.ite (.entryStart (d.s rfl) (.upd_16 (d.s rfl) h)) (.upd_16 (d.s rfl) h)))

theorem execEntryTake {a0} (d : Has m 11075666) (h : Touch m s t) : TouchO m s (Machine.execEntryTake a0 t) := by
  unfold Machine.execEntryTake; exact (.iteO (.next h) (.iteO (.next (.autoStart (d.s rfl) h)) (by (try dsimp only); split; exacts [(by rename_i h5; exact (.next h)), (by rename_i h6; exact (.seqO (.next (.ite (.out (d.s rfl) .refl) .refl)) (.setEntry (d.s rfl) (ofEq h6 (.arbRound (d.s rfl) h)))))])))

theorem execEntryFetchDone {a0 a1} (d : Has m 11074258) (h : Touch m s t) : TouchO m s (Machine.execEntryFetchDone a0 a1 t) := by
  unfold Machine.execEntryFetchDone; (try dsimp only); split; exacts [(.next h), (.iteO (.next h) (.iteO (.next h) (.iteO (.next (.readGate (a1 := Bool.false) (d.s rfl) h)) (by (try dsimp only); split; exacts [(.next (.entryEnd (d.s rfl) (.readGate (a1 := Bool.false) (d.s rfl) h))), (.seqO (.iteO (.next (.entryEnd (d.s rfl) .refl)) (.iteO (.next (.upd_19 (d.s rfl) (.setEntry (d.s rfl) .refl))) (.next (.entryGo (d.s rfl) .refl)))) (.setEntry (d.s rfl) (.readGate (a1 := Bool.false) (d.s rfl) h)))]))))]

theorem execTrailerCheckDone  (d : Has m 8946370) (h : Touch m s t) : TouchO m s (Machine.execTrailerCheckDone t) := by
  unfold Machine.execTrailerCheckDone; (try dsimp only); split; exacts [(.next h), (by (try dsimp only); split; exacts [(.next (.upd_19 (d.s rfl) h)), (.iteO (.next (.entryEnd (d.s rfl) (.raise (d.s rfl) (.upd_19 (d.s rfl) h)))) (.next (.nvSubmit (d.s rfl) (.setLastCtr (d.s rfl) (.setEntry (d.s rfl) (.upd_19 (d.s rfl) h))))))])]

theorem execEntryRelease {a0} (d : Has m 11043522) (h : Touch m s t) : TouchO m s (Machine.execEntryRelease a0 t) := by
  unfold Machine.execEntryRelease; (try dsimp only); split; exacts [(.next h), (.iteO (.next (.entryGo (d.s rfl) h)) (.next h))]

theorem execCommitResultReport  (d : Has m 524994) (h : Touch m s t) : TouchO m s (Machine.execCommitResultReport t) := by
  unfold Machine.execCommitResultReport; (try dsimp only); split; exacts [(.next h), (.next (.takeReport (d.s rfl) (.upd_19 (d.s rfl) h)))]

theorem mpResult {a1 a2} (d : Has m 2) (h : Touch m s t) : Touch m s (State.mpResult t a1 a2) := by
  unfold State.mpResult; exact (.setF (d.s rfl) (.setOn (d.s rfl) h))

theorem mpOp {a1} (d : Has m 525314) (h : Touch m s t) : Touch m s (State.mpOp t a1) := by
  unfold State.mpOp; (try dsimp only); split; exacts [(.mpResult (d.s rfl) (.txnBegin (a1 := 512) (d.s rfl) (.setF (d.s rfl) (.setF (d.s rfl) h)))), (by (try dsimp only); split; exacts [(by rename_i h5; exact (.mpResult (d.s rfl) (ofEq h5 (.txnCommit (d.s rfl) (.setF (d.s rfl) (.setF (d.s rfl) h)))))), (by rename_i h6; exact (.mpResult (d.s rfl) (.upd_10 (d.s rfl) (ofEq h6 (.txnCommit (d.s rfl) (.setF (d.s rfl) (.setF (d.s rfl) h)))))))]), (.mpResult (d.s rfl) (.txnAbort (d.s rfl) (.setF (d.s rfl) (.setF (d.s rfl) h)))), (.mpResult (d.s rfl) (.lockTake (a1 := 512) (a2 := a1 % 2 ^ 10) (d.s rfl) (.setF (d.s rfl) (.setF (d.s rfl) h)))), (.mpResult (d.s rfl) (.lockFree (a1 := 512) (a2 := a1 % 2 ^ 10) (d.s rfl) (.setF (d.s rfl) (.setF (d.s rfl) h)))), (.setF (d.s rfl) (.setF (d.s rfl) h))]

theorem execMpTargetReset  (d : Has m 8913602) (h : Touch m s t) : TouchO m s (Machine.execMpTargetReset t) := by
  unfold Machine.execMpTargetReset; exact (.next (.ownerFail (d.s rfl) h))

theorem lockBreak {a1} (d : Has m 524994) (h : Touch m s t) : Touch m s (State.lockBreak t a1) := by
  unfold State.lockBreak; exact (.ite h (.lockFail (d.s rfl) (.ite h (by (try dsimp only); split; exacts [h, (.ite (.doomTxn (d.s rfl) h) h)]))))

/-! ## HostIf -/

theorem hostState {a1} (d : Has m 64) (h : Touch m s t) : Touch m s (State.hostState t a1) := by
  unfold State.hostState; exact (.raise (d.s rfl) h)

theorem setSf {a1} (d : Has m 2050) (h : Touch m s t) : Touch m s (State.setSf t a1) := by
  unfold State.setSf; exact (.setF (d.s rfl) (.upd_11 (d.s rfl) h))

theorem storeGoes  (d : Has m 17103450) (h : Touch m s t) : Touch m s (State.storeGoes t) := by
  unfold State.storeGoes; exact (.secResume (d.s rfl) (.ringsResume (d.s rfl) (.runJobs (d.s rfl) (.drainWrites (d.s rfl) h))))

theorem lineFreed {a1} (d : Has m 17103450) (h : Touch m s t) : Touch m s (State.lineFreed t a1) := by
  unfold State.lineFreed; exact (.storeGoes (d.s rfl) (.setSf (d.s rfl) (.upd_11 (d.s rfl) h)))

theorem dropSf  (d : Has m 17103450) (h : Touch m s t) : Touch m s (State.dropSf t) := by
  unfold State.dropSf; exact (.storeGoes (d.s rfl) (.setSf (d.s rfl) (.upd_11 (d.s rfl) h)))

theorem cacheQueues {a1} (d : Has m 66) (h : Touch m s t) : Touch m s (State.cacheQueues t a1) := by
  unfold State.cacheQueues; exact (.foldl (fun _ _ h5 => (.ite (.setQState (d.s rfl) h5) (.ite (.setQState (d.s rfl) h5) h5))) h)

theorem cacheLost {a1} (d : Has m 133698) (h : Touch m s t) : Touch m s (State.cacheLost t a1) := by
  unfold State.cacheLost; exact (.ite (.upd_11 (d.s rfl) h) (.seq (.ite .refl (.sleepNow (d.s rfl) .refl)) (.cacheQueues (d.s rfl) (.count (d.s rfl) (.setF (d.s rfl) (.upd_11 (d.s rfl) h))))))

theorem execCxlCacheAvailable  (d : Has m 2114) (h : Touch m s t) : TouchO m s (Machine.execCxlCacheAvailable t) := by
  unfold Machine.execCxlCacheAvailable; exact (.iteO (.next h) (.next (.hostState (d.s rfl) (.cacheQueues (d.s rfl) (.setF (d.s rfl) (.upd_11 (d.s rfl) h))))))

theorem execCxlCacheUnavailable  (d : Has m 133698) (h : Touch m s t) : TouchO m s (Machine.execCxlCacheUnavailable t) := by
  unfold Machine.execCxlCacheUnavailable; exact (.iteO (.next h) (.next (.hostState (d.s rfl) (.cacheLost (d.s rfl) h))))

theorem hostRingsOff {a1} (d : Has m 66) (h : Touch m s t) : Touch m s (State.hostRingsOff t a1) := by
  unfold State.hostRingsOff; exact (.foldl (fun _ _ h5 => (.ite (.ringOff (d.s rfl) h5) h5)) h)

theorem msixReset {a1} (d : Has m 2048) (h : Touch m s t) : Touch m s (State.msixReset t a1) := by
  unfold State.msixReset; exact (.upd_11 (d.s rfl) h)

theorem memStat  (d : Has m 2) (h : Touch m s t) : Touch m s (State.memStat t) := by
  unfold State.memStat; exact (.setOn (d.s rfl) h)

theorem linkDown  (d : Has m 2) (h : Touch m s t) : Touch m s (State.linkDown t) := by
  unfold State.linkDown; exact (.setF (d.s rfl) (.setF (d.s rfl) (.setF (d.s rfl) (.setF (d.s rfl) (.setF (d.s rfl) (.setF (d.s rfl) (.setF (d.s rfl) (.setF (d.s rfl) h))))))))

theorem hostReset {a1 a2 a3} (d : Has m 26147546) (h : Touch m s t) : Touch m s (State.hostReset t a1 a2 a3) := by
  unfold State.hostReset; exact (.fault (d.s rfl) (.hostState (d.s rfl) (.memStat (d.s rfl) (.linkDown (d.s rfl) (.msixReset (d.s rfl) (.msixReset (d.s rfl) (.upd_11 (d.s rfl) (.dropSf (d.s rfl) (.hostRingsOff (d.s rfl) (.cacheQueues (d.s rfl) (.cacheLost (d.s rfl) (.foldl (fun _ _ h5 => (.ite (.cxlQReset (d.s rfl) h5) h5)) (.sleepNow (d.s rfl) h)))))))))))))

theorem execHostHotReset  (d : Has m 26147546) (h : Touch m s t) : TouchO m s (Machine.execHostHotReset t) := by
  unfold Machine.execHostHotReset; exact (.iteO (.next h) (.next (.hostReset (d.s rfl) (.count (d.s rfl) h))))

theorem execPerstAssert  (d : Has m 26147546) (h : Touch m s t) : TouchO m s (Machine.execPerstAssert t) := by
  unfold Machine.execPerstAssert; exact (.iteO (.next (.upd_11 (d.s rfl) h)) (.next (.hostReset (d.s rfl) (.count (d.s rfl) (.upd_11 (d.s rfl) h)))))

theorem execPerstDeassert  (d : Has m 2048) (h : Touch m s t) : TouchO m s (Machine.execPerstDeassert t) := by
  unfold Machine.execPerstDeassert; exact (.next (.upd_11 (d.s rfl) h))

theorem execLinkLoss  (d : Has m 26147546) (h : Touch m s t) : TouchO m s (Machine.execLinkLoss t) := by
  unfold Machine.execLinkLoss; exact (.iteO (.next h) (.next (.hostReset (d.s rfl) (.count (d.s rfl) h))))

theorem execLinkUp {a0 a1 a2 a3} (d : Has m 2114) (h : Touch m s t) : TouchO m s (Machine.execLinkUp a0 a1 a2 a3 t) := by
  unfold Machine.execLinkUp; exact (.iteO (.next h) (.next (.hostState (d.s rfl) (.setF (d.s rfl) (.setF (d.s rfl) (.setOn (d.s rfl) (.setOn (d.s rfl) (.setF (d.s rfl) (.upd_11 (d.s rfl) h)))))))))

theorem execFlr {a0} (d : Has m 2114) (h : Touch m s t) : TouchO m s (Machine.execFlr a0 t) := by
  unfold Machine.execFlr; exact (.iteO (.next h) (.seqO (.next (.hostState (d.s rfl) (.ite (.upd_11 (d.s rfl) .refl) (.upd_11 (d.s rfl) .refl)))) (.hostRingsOff (d.s rfl) (.msixReset (d.s rfl) (.count (d.s rfl) h)))))

theorem execCxlReset  (d : Has m 17234522) (h : Touch m s t) : TouchO m s (Machine.execCxlReset t) := by
  unfold Machine.execCxlReset; exact (.next (.hostState (d.s rfl) (.memStat (d.s rfl) (.upd_11 (d.s rfl) (.dropSf (d.s rfl) (.cacheLost (d.s rfl) (.count (d.s rfl) h)))))))

theorem execL1Entry  (d : Has m 2) (h : Touch m s t) : TouchO m s (Machine.execL1Entry t) := by
  unfold Machine.execL1Entry; exact (.iteO (.next (.setF (d.s rfl) h)) (.next h))

theorem execL1Exit  (d : Has m 2) (h : Touch m s t) : TouchO m s (Machine.execL1Exit t) := by
  unfold Machine.execL1Exit; exact (.next (.setF (d.s rfl) h))

theorem execD3hot {a0 a1} (d : Has m 2048) (h : Touch m s t) : TouchO m s (Machine.execD3hot a0 a1 t) := by
  unfold Machine.execD3hot; (try dsimp only); split; exacts [(.next (.upd_11 (d.s rfl) h)), (.next (.upd_11 (d.s rfl) h)), (.next h)]

theorem execIdeKm {a0 a1 a2} (d : Has m 2050) (h : Touch m s t) : TouchO m s (Machine.execIdeKm a0 a1 a2 t) := by
  unfold Machine.execIdeKm; exact (.iteO (.next h) (.next (.setOn (d.s rfl) (.upd_11 (d.s rfl) h))))

theorem execHdmCommit {a0 a1 a2} (d : Has m 2066) (h : Touch m s t) : TouchO m s (Machine.execHdmCommit a0 a1 a2 t) := by
  unfold Machine.execHdmCommit; exact (.next (.out (d.s rfl) (.memStat (d.s rfl) (.upd_11 (d.s rfl) h))))

theorem hostRead {a1} (d : Has m 16) (h : Touch m s t) : Touch m s (State.hostRead t a1) := by
  unfold State.hostRead; exact (.out (d.s rfl) h)

theorem partWrite {a1 a2 a3 a4} (d : Has m 4096) (h : Touch m s t) : Touch m s (Machine.partWrite a1 a2 a3 a4 t) := by
  induction a3 generalizing t a2 with
  | nil => exact h
  | cons b bs ih => exact ih (.ite (.upd_12 d h) h)

theorem memServe {a1} (d : Has m 14866) (h : Touch m s t) : Touch m s (State.memServe t a1) := by
  unfold State.memServe; (try dsimp only); split; exacts [(.ite (.hostRead (d.s rfl) h) (.ite (.setSf (d.s rfl) (.hostRead (d.s rfl) h)) (.sendBi (d.s rfl) (.upd_11 (d.s rfl) h)))), (.seq (.out (d.s rfl) (.ite (.setSf (d.s rfl) .refl) .refl)) (.ite (.fsWrite (d.s rfl) h) (.noteWrite (d.s rfl) (.partWrite (d.s rfl) h))))]

theorem memRequest {a1} (d : Has m 31250) (h : Touch m s t) : Touch m s (State.memRequest t a1) := by
  unfold State.memRequest; exact (.seq (.ite (.memServe (d.s rfl) .refl) (.upd_11 (d.s rfl) .refl)) (.touchStack (d.s rfl) h))

theorem execCxlmemRead {a0 a1} (d : Has m 31250) (h : Touch m s t) : TouchO m s (Machine.execCxlmemRead a0 a1 t) := by
  unfold Machine.execCxlmemRead; (try dsimp only); split; exacts [(.next h), (.next (.memRequest (d.s rfl) h))]

theorem execCxlmemWrite {a0 a1 a2 a3} (d : Has m 31250) (h : Touch m s t) : TouchO m s (Machine.execCxlmemWrite a0 a1 a2 a3 t) := by
  unfold Machine.execCxlmemWrite; (try dsimp only); split; exacts [(.next h), (.next (.memRequest (d.s rfl) h))]

theorem stackServes  (d : Has m 17103450) (h : Touch m s t) : Touch m s (State.stackServes t) := by
  unfold State.stackServes; exact (.storeGoes (d.s rfl) (.foldl (fun _ _ h5 => (.memServe (d.s rfl) h5)) (.upd_11 (d.s rfl) h)))

theorem execStackExitDone {a0} (d : Has m 17103450) (h : Touch m s t) : TouchO m s (Machine.execStackExitDone a0 t) := by
  unfold Machine.execStackExitDone; (try dsimp only); split; exacts [(.next h), (.iteO (.next (.stackServes (d.s rfl) (.upd_14 (d.s rfl) h))) (.next h))]

theorem execStackIdle {a0} (d : Has m 2) (h : Touch m s t) : TouchO m s (Machine.execStackIdle a0 t) := by
  unfold Machine.execStackIdle; exact (.iteO (.next h) (.iteO (.next (.setF (d.s rfl) h)) (.iteO (.next (.setF (d.s rfl) h)) (.next h))))

theorem execBiResponse {a0} (d : Has m 17103450) (h : Touch m s t) : TouchO m s (Machine.execBiResponse a0 t) := by
  unfold Machine.execBiResponse; exact (.iteO (.next h) (by (try dsimp only); split; exacts [(.next (.lineFreed (d.s rfl) h)), (.iteO (.next (.setSf (d.s rfl) (.hostRead (d.s rfl) (.upd_11 (d.s rfl) (.lineFreed (d.s rfl) h))))) (.next (.lineFreed (d.s rfl) h)))]))

theorem execBiTimeout {a0} (d : Has m 2050) (h : Touch m s t) : TouchO m s (Machine.execBiTimeout a0 t) := by
  unfold Machine.execBiTimeout; exact (.iteO (.next (.count (d.s rfl) (.upd_11 (d.s rfl) h))) (.next h))

theorem hostCame {a1 a2} (d : Has m 2048) (h : Touch m s t) : Touch m s (State.hostCame t a1 a2) := by
  unfold State.hostCame; exact (.upd_11 (d.s rfl) h)

theorem execCacheReadDone {a0 a1 a2 a3} (d : Has m 162322) (h : Touch m s t) : TouchO m s (Machine.execCacheReadDone a0 a1 a2 a3 t) := by
  unfold Machine.execCacheReadDone; exact (.iteO (.next h) (by (try dsimp only); split; exacts [(.next (.hostCame (d.s rfl) h)), (.iteO (.next (.hostCame (d.s rfl) h)) (.next (.captureBytes (d.s rfl) (.hostCame (d.s rfl) h))))]))

theorem execCacheReadTimeout {a0} (d : Has m 2048) (h : Touch m s t) : TouchO m s (Machine.execCacheReadTimeout a0 t) := by
  unfold Machine.execCacheReadTimeout; (try dsimp only); split; exacts [(.next h), (.next (.ite (.hostCame (d.s rfl) h) h))]

theorem execH2dSnoop {a0} (d : Has m 16) (h : Touch m s t) : TouchO m s (Machine.execH2dSnoop a0 t) := by
  unfold Machine.execH2dSnoop; exact (.next (.out (d.s rfl) h))

theorem execCdatRead  (d : Has m 16) (h : Touch m s t) : TouchO m s (Machine.execCdatRead t) := by
  unfold Machine.execCdatRead; exact (.next (.out (d.s rfl) h))

theorem execIdentifyMemoryDevice  (d : Has m 16) (h : Touch m s t) : TouchO m s (Machine.execIdentifyMemoryDevice t) := by
  unfold Machine.execIdentifyMemoryDevice; exact (.next (.out (d.s rfl) h))

theorem execGetSupportedLogs  (d : Has m 16) (h : Touch m s t) : TouchO m s (Machine.execGetSupportedLogs t) := by
  unfold Machine.execGetSupportedLogs; exact (.next (.out (d.s rfl) h))

theorem execGetLog {a0 a1} (d : Has m 24) (h : Touch m s t) : TouchO m s (Machine.execGetLog a0 a1 t) := by
  unfold Machine.execGetLog; exact (.iteO (.next (.out (d.s rfl) h)) (.next (.out (d.s rfl) (.drawBytes (a1 := a1) (d.s rfl) h))))

theorem execGetEventRecords {a0} (d : Has m 16) (h : Touch m s t) : TouchO m s (Machine.execGetEventRecords a0 t) := by
  unfold Machine.execGetEventRecords; exact (.next (.out (d.s rfl) h))

theorem execClearEventRecords {a0 a1} (d : Has m 2064) (h : Touch m s t) : TouchO m s (Machine.execClearEventRecords a0 a1 t) := by
  unfold Machine.execClearEventRecords; exact (.next (.out (d.s rfl) (.upd_11 (d.s rfl) h)))

theorem execGetEventInterruptPolicy  (d : Has m 16) (h : Touch m s t) : TouchO m s (Machine.execGetEventInterruptPolicy t) := by
  unfold Machine.execGetEventInterruptPolicy; exact (.next (.out (d.s rfl) h))

theorem execSetEventInterruptPolicy {a0} (d : Has m 2064) (h : Touch m s t) : TouchO m s (Machine.execSetEventInterruptPolicy a0 t) := by
  unfold Machine.execSetEventInterruptPolicy; exact (.next (.out (d.s rfl) (.upd_11 (d.s rfl) h)))

theorem execGetHealthInfo  (d : Has m 24) (h : Touch m s t) : TouchO m s (Machine.execGetHealthInfo t) := by
  unfold Machine.execGetHealthInfo; (try dsimp only); split; exacts [(.next (.out (d.s rfl) (.drawBytes (a1 := 2) (d.s rfl) h))), (.next (.out (d.s rfl) h))]

theorem execGetPoisonList  (d : Has m 16) (h : Touch m s t) : TouchO m s (Machine.execGetPoisonList t) := by
  unfold Machine.execGetPoisonList; exact (.next (.out (d.s rfl) h))

theorem execMailboxUnsupported {a0} (d : Has m 16) (h : Touch m s t) : TouchO m s (Machine.execMailboxUnsupported a0 t) := by
  unfold Machine.execMailboxUnsupported; exact (.next (.out (d.s rfl) h))

/-! ## Upstream -/

theorem putUq {a1 a2} (d : Has m 1048578) (h : Touch m s t) : Touch m s (State.putUq t a1 a2) := by
  unfold State.putUq; exact (.setF (d.s rfl) (.setUq (d.s rfl) h))

theorem uqReset {a1} (d : Has m 1049282) (h : Touch m s t) : Touch m s (State.uqReset t a1) := by
  unfold State.uqReset; exact (.queueReset (d.s rfl) (.freeCells (d.s rfl) (.putUq (d.s rfl) h)))

theorem upstreamPush {a1 a2 a3} (d : Has m 1049282) (h : Touch m s t) : Touch m s (State.upstreamPush t a1 a2 a3).2 := by
  unfold State.upstreamPush; exact (.seq (.ite2 (.snd (.raise (d.s rfl) (.setW1c (d.s rfl) .refl))) (.snd (.takeCells (d.s rfl) (.putUq (d.s rfl) .refl)))) (.ite (.uqReset (d.s rfl) h) h))

theorem upqData {a1} (d : Has m 1048578) (h : Touch m s t) : Touch m s (State.upqData t a1).2 := by
  unfold State.upqData; (try dsimp only); split; exacts [(.snd (.setUq (d.s rfl) h)), (.snd (.setW1c (d.s rfl) h))]

theorem upqPop {a1 a2} (d : Has m 1049282) (h : Touch m s t) : Touch m s (State.upqPop t a1 a2) := by
  unfold State.upqPop; exact (.ite (.uqReset (d.s rfl) h) (by (try dsimp only); split; exacts [h, (.freeCells (d.s rfl) (.putUq (d.s rfl) h))]))

theorem answered {a1 a2 a3} (d : Has m 1048578) (h : Touch m s t) : Touch m s (State.answered t a1 a2 a3) := by
  unfold State.answered; (try dsimp only); split; exacts [(.dropPkt (d.s rfl) h), h]

theorem execAckReceive {a0 a1 a2} (d : Has m 1048578) (h : Touch m s t) : TouchO m s (Machine.execAckReceive a0 a1 a2 t) := by
  unfold Machine.execAckReceive; exact (.iteO (.next (.answered (d.s rfl) h)) (.next h))

theorem execNakReceive {a0 a1 a2 a3 a4} (d : Has m 1048642) (h : Touch m s t) : TouchO m s (Machine.execNakReceive a0 a1 a2 a3 a4 t) := by
  unfold Machine.execNakReceive; exact (.iteO (.next h) (.iteO (by (try dsimp only); split; exacts [(.next (.count (d.s rfl) h)), (.iteO (.next (.count (d.s rfl) h)) (.next (.raiseLane (d.s rfl) (.setLn (d.s rfl) (.count (d.s rfl) h)))))]) (by (try dsimp only); split; exacts [(.next h), (by (try dsimp only); split; exacts [(.next h), (.iteO (.next (.attemptFail (d.s rfl) (.setNextSeq (d.s rfl) h))) (.iteO (.next (.attemptFail (d.s rfl) h)) (.next h)))])])))

theorem senseOccurs {a1} (d : Has m 524290) (h : Touch m s t) : Touch m s (State.senseOccurs t a1) := by
  unfold State.senseOccurs; (try dsimp only); split; exacts [(.occurGroup (d.s rfl) h), h]

theorem execRdrReceive {a0 a1 a2 a3 a4} (d : Has m 1573570) (h : Touch m s t) : TouchO m s (Machine.execRdrReceive a0 a1 a2 a3 a4 t) := by
  unfold Machine.execRdrReceive; exact (.iteO (.next h) (by (try dsimp only); split; exacts [(.next (.answered (d.s rfl) (.senseOccurs (d.s rfl) h))), (.next (.ite (.answered (d.s rfl) (.upstreamPush (a2 := { typ := 4, pid := a1, seq := a2, words := List.take 64 a3 }) (a3 := a4) (d.s rfl) (.senseOccurs (d.s rfl) h))) (.upstreamPush (a2 := { typ := 4, pid := a1, seq := a2, words := List.take 64 a3 }) (a3 := a4) (d.s rfl) (.senseOccurs (d.s rfl) h))))]))

theorem execSnsReceive {a0 a1 a2 a3 a4} (d : Has m 5767882) (h : Touch m s t) : TouchO m s (Machine.execSnsReceive a0 a1 a2 a3 a4 t) := by
  unfold Machine.execSnsReceive; exact (.iteO (.next h) (by (try dsimp only); split; exacts [(.next (.answered (d.s rfl) (.senseOccurs (d.s rfl) h))), (.seqO (.next (.ite (.foldTake (d.s rfl) .refl) .refl)) (.ite (.upstreamPush (d.s rfl) (.answered (d.s rfl) (.senseOccurs (d.s rfl) h))) (.answered (d.s rfl) (.senseOccurs (d.s rfl) h))))]))

theorem execRetryTimeout {a0 a1 a2} (d : Has m 1048642) (h : Touch m s t) : TouchO m s (Machine.execRetryTimeout a0 a1 a2 t) := by
  unfold Machine.execRetryTimeout; exact (.iteO (.next h) (by (try dsimp only); split; exacts [(.next (.attemptFail (d.s rfl) h)), (.next h)]))

theorem execUnclaimedPacket {a0 a1} (d : Has m 2) (h : Touch m s t) : TouchO m s (Machine.execUnclaimedPacket a0 a1 t) := by
  unfold Machine.execUnclaimedPacket; exact (.next (.ite (.count (d.s rfl) h) h))

theorem execUpstreamBadCrc {a0} (d : Has m 2) (h : Touch m s t) : TouchO m s (Machine.execUpstreamBadCrc a0 t) := by
  unfold Machine.execUpstreamBadCrc; exact (.next (.ite (.count (d.s rfl) h) h))

/-! ## Images -/

theorem measImages {a1} (d : Has m 16777280) (h : Touch m s t) : Touch m s (State.measImages t a1) := by
  unfold State.measImages; exact (.measure (d.s rfl) (by (try dsimp only); split; exacts [(.measure (d.s rfl) h), (.measure (d.s rfl) h)]))

theorem measCps  (d : Has m 16777280) (h : Touch m s t) : Touch m s (State.measCps t) := by
  unfold State.measCps; exact (.measure (d.s rfl) h)

theorem loadMem {a1 a2 a3} (d : Has m 524288) (h : Touch m s t) : Touch m s (State.loadMem t a1 a2 a3) := by
  unfold State.loadMem; exact (.upd_19 (d.s rfl) h)

theorem loadCp {a1 a2} (d : Has m 524288) (h : Touch m s t) : Touch m s (State.loadCp t a1 a2) := by
  unfold State.loadCp; exact (.loadMem (d.s rfl) h)

theorem loadSeq {a1 a2 a3} (d : Has m 524290) (h : Touch m s t) : Touch m s (State.loadSeq t a1 a2 a3) := by
  unfold State.loadSeq; exact (.setF (d.s rfl) (.setF (d.s rfl) (.setF (d.s rfl) (.setF (d.s rfl) (.setF (d.s rfl) (.setF (d.s rfl) (.setF (d.s rfl) (.setF (d.s rfl) (.loadMem (d.s rfl) h)))))))))

theorem loadWord {a1 a2} (d : Has m 2097154) (h : Touch m s t) : Touch m s (State.loadWord t a1 a2) := by
  unfold State.loadWord; exact (.ite (.upd_21 (d.s rfl) h) (by (try dsimp only); split; exacts [h, (.foldl (fun _ _ h5 => (.ite (.setF (d.s rfl) h5) h5)) h)]))

theorem actEnd {a1 a2} (d : Has m 65602) (h : Touch m s t) : Touch m s (State.actEnd t a1 a2) := by
  unfold State.actEnd; exact (.raise (d.s rfl) (.setF (d.s rfl) (.setF (d.s rfl) (.setF (d.s rfl) (.upd_16 (d.s rfl) h)))))

theorem actDone  (d : Has m 16842818) (h : Touch m s t) : Touch m s (State.actDone t) := by
  unfold State.actDone; (try dsimp only); split; exacts [h, (.ite (.actEnd (d.s rfl) (.measImages (d.s rfl) (.setF (d.s rfl) (.setF (d.s rfl) (.setF (d.s rfl) h))))) h)]

end Sys2Proof.Machine.Touch
end

