-- ==== Sys2Proof/Laws/TouchRest.lean ====
section
/-!
SUPPORT. Which parts of the state an operation can change, one lemma for each: Link, Commits, Genlock, Tolerance, Raster, Mem, Boot, Bus, RegRows, Copy, Slots, Operands, Flags, ThoeneAlu, ThoeneFlow, ThoeneMem, ThoeneWait, ThoeneEmit, ThoeneTxn, Tick.
-/
set_option Elab.async false
set_option linter.all false

namespace Sys2Proof.Machine.Touch

variable {m : Nat} {s t : State}

/-! ## Link -/

theorem setLane {a1 a2 a3} (d : Has m 256) (h : Touch m s t) : Touch m s (State.setLane t a1 a2 a3) := by
  unfold State.setLane; exact (.upd_8 (d.s rfl) h)

theorem setMoved {a1 a2} (d : Has m 256) (h : Touch m s t) : Touch m s (State.setMoved t a1 a2) := by
  unfold State.setMoved; exact (.upd_8 (d.s rfl) h)

theorem markCtrl {a1} (d : Has m 2) (h : Touch m s t) : Touch m s (State.markCtrl t a1) := by
  unfold State.markCtrl; exact (.foldl (fun _ _ h5 => (.setOn (d.s rfl) h5)) h)

theorem setOwn {a1 a2} (d : Has m 256) (h : Touch m s t) : Touch m s (State.setOwn t a1 a2) := by
  unfold State.setOwn; exact (.upd_8 (d.s rfl) h)

theorem execFlitReceive {a0 a1 a2} (d : Has m 962) (h : Touch m s t) : TouchO m s (Machine.execFlitReceive a0 a1 a2 t) := by
  unfold Machine.execFlitReceive; exact (.iteO (.next h) (.iteO (.next (.ite h (.setLane (d.s rfl) h))) (by (try dsimp only); split; exacts [(.next (.setLane (d.s rfl) (.setLane (d.s rfl) h))), (.next (.fault (d.s rfl) (.setLane (d.s rfl) (.setLane (d.s rfl) h)))), (.next (.setLane (d.s rfl) (.setLane (d.s rfl) h)))])))

theorem linkGrant {a1 a2 a3} (d : Has m 8388608) (h : Touch m s t) : Touch m s (State.linkGrant t a1 a2 a3).2 := by
  unfold State.linkGrant; (try dsimp only); split; exacts [(.ite2 (.snd h) (.classRound (d.s rfl) h)), (.classRound (d.s rfl) h)]

theorem flitTaken {a1 a2 a3} (d : Has m 290) (h : Touch m s t) : Touch m s (State.flitTaken t a1 a2 a3) := by
  unfold State.flitTaken; (try dsimp only); split; exacts [(.count (d.s rfl) (.setMoved (d.s rfl) h)), (.seq (.ite (.upd_5 (d.s rfl) .refl) .refl) (.setOwn (d.s rfl) h)), h]

theorem sendFlit {a1 a2 a3} (d : Has m 290) (h : Touch m s t) : Touch m s (State.sendFlit t a1 a2 a3).2.2 := by
  unfold State.sendFlit; (try dsimp only); split; exacts [(.snd2 (.flitTaken (d.s rfl) h)), (.snd2 h)]

theorem newFlit {a1 a2 a3} (d : Has m 8388898) (h : Touch m s t) : Touch m s (State.newFlit t a1 a2 a3).2.2 := by
  unfold State.newFlit; (try dsimp only); split; exacts [(.sendFlit (d.s rfl) h), (.sendFlit (d.s rfl) h), (.sendFlit (d.s rfl) h), (.sendFlit (a1 := a1) (a2 := a2) (a3 := List.find? (fun e => Option.some e.2.req == (t.linkGrant a1 a2 (Sys2Proof.Machine.fourReqs (t.stepFour a1 a2 a3))).1) (t.stepFour a1 a2 a3)) (d.s rfl) (.linkGrant (a1 := a1) (a2 := a2) (a3 := Sys2Proof.Machine.fourReqs (t.stepFour a1 a2 a3)) (d.s rfl) h)), (.sendFlit (d.s rfl) h)]

theorem execFlitSlot {a0 a1 a2 a3 a4 a5 a6 a7} (d : Has m 8388914) (h : Touch m s t) : TouchO m s (Machine.execFlitSlot a0 a1 a2 a3 a4 a5 a6 a7 t) := by
  unfold Machine.execFlitSlot; exact (.iteO (.next h) (.iteO (by (try dsimp only); split; exacts [(.next h), (.next (.out (d.s rfl) (.setLane (d.s rfl) (.count (d.s rfl) (.setLane (d.s rfl) h)))))]) (.iteO (.next h) (.next (.out (d.s rfl) (.setLane (d.s rfl) (.setLane (d.s rfl) (.newFlit (a1 := a0) (a2 := a1) (a3 := fun tc =>
  match tc with
  | 0 => List.map (fun p => (0, p)) a2.toList
  | 1 => List.map (fun p => (0, p)) a3.toList
  | 2 => List.filter (fun o => Decidable.decide (o.1 < 16)) a4
  | x => List.map (fun p => (15, p)) a5.toList) (d.s rfl) h))))))))

theorem execReplayTimeout {a0 a1} (d : Has m 256) (h : Touch m s t) : TouchO m s (Machine.execReplayTimeout a0 a1 t) := by
  unfold Machine.execReplayTimeout; exact (.iteO (.next (.setLane (d.s rfl) h)) (.next h))

theorem execLaneGroupRetrain {a0 a1} (d : Has m 322) (h : Touch m s t) : TouchO m s (Machine.execLaneGroupRetrain a0 a1 t) := by
  unfold Machine.execLaneGroupRetrain; exact (.iteO (.next (.raise (d.s rfl) (.degraded (d.s rfl) (.markCtrl (d.s rfl) (.count (d.s rfl) (.setF (d.s rfl) (.setLane (d.s rfl) h))))))) (.next h))

theorem execRetrainDone {a0 a1 a2} (d : Has m 3026) (h : Touch m s t) : TouchO m s (Machine.execRetrainDone a0 a1 a2 t) := by
  unfold Machine.execRetrainDone; exact (.iteO (.next h) (.seqO (.seqO (.seqO (.seqO (.iteO (.next (.raise (d.s rfl) (.degraded (d.s rfl) .refl))) (.next (.cxlLog (d.s rfl) (.fault (d.s rfl) (.raise (d.s rfl) .refl))))) (.ite (.setOwn (d.s rfl) .refl) .refl)) (.setLane (d.s rfl) .refl)) (.markCtrl (d.s rfl) (.setF (d.s rfl) .refl))) (.ite h (.setW1c (d.s rfl) (.setF (d.s rfl) h)))))

theorem execLinkMgmtFlit {a0 a1 a2} (d : Has m 256) (h : Touch m s t) : TouchO m s (Machine.execLinkMgmtFlit a0 a1 a2 t) := by
  unfold Machine.execLinkMgmtFlit; exact (.iteO (.next h) (.next (.setLane (d.s rfl) (.setMoved (d.s rfl) h))))

theorem execTsyncSend  (d : Has m 288) (h : Touch m s t) : TouchO m s (Machine.execTsyncSend t) := by
  unfold Machine.execTsyncSend; exact (.iteO (.next h) (.next (.ite (.upd_5 (d.s rfl) h) (.setOwn (d.s rfl) (.upd_5 (d.s rfl) h)))))

theorem timeLearnt {a1} (d : Has m 34) (h : Touch m s t) : Touch m s (State.timeLearnt t a1) := by
  unfold State.timeLearnt; exact (.setF (d.s rfl) (.setF (d.s rfl) (.setF (d.s rfl) (.upd_5 (d.s rfl) h))))

theorem execTsyncSample {a0 a1 a2} (d : Has m 354) (h : Touch m s t) : TouchO m s (Machine.execTsyncSample a0 a1 a2 t) := by
  unfold Machine.execTsyncSample; (try dsimp only); split; exacts [(.next h), (.seqO (.iteO (.next (.upd_5 (d.s rfl) .refl)) (.seqO (.seqO (.seqO (.iteO (.next (.raise (d.s rfl) (.setF (d.s rfl) .refl))) (.next .refl)) (.ite (.setF (d.s rfl) .refl) .refl)) (.setF (d.s rfl) .refl)) (.setOn (d.s rfl) (.setF (d.s rfl) (.upd_5 (d.s rfl) .refl))))) (.setOwn (d.s rfl) h))]

theorem execTsyncHoldover  (d : Has m 66) (h : Touch m s t) : TouchO m s (Machine.execTsyncHoldover t) := by
  unfold Machine.execTsyncHoldover; exact (.iteO (.next (.raise (d.s rfl) (.setF (d.s rfl) h))) (.next h))

/-! ## Commits -/

theorem withPending  (d : Has m 2) (h : Touch m s t) : Touch m s (State.withPending t) := by
  unfold State.withPending; exact (.foldl (fun _ _ h5 => (.foldl (fun _ _ h6 => (.applyWs (d.s rfl) h6)) h5)) h)

theorem swapCores {a1 a2 a3} (d : Has m 25723586) (h : Touch m s t) : Touch m s (State.swapCores t a1 a2 a3) := by
  unfold State.swapCores; exact (.foldl (fun _ _ h6 => (.ite (.ite (.setF (d.s rfl) h6) (.coreStart (d.s rfl) h6)) h6)) (.foldl (fun _ _ h5 => (.ite (.coreStop (d.s rfl) (.ite h5 (.cancelEdges (d.s rfl) h5))) h5)) h))

theorem doSwap {a1 a2 a3 a4} (d : Has m 25789122) (h : Touch m s t) : Touch m s (State.doSwap t a1 a2 a3 a4) := by
  unfold State.doSwap; exact (.ite (by (try dsimp only); split; exacts [(.actDone (d.s rfl) (.upd_16 (d.s rfl) (.putBit (d.s rfl) (.measSeq (d.s rfl) (.raiseG (d.s rfl) (.count (d.s rfl) (.swapCores (d.s rfl) h))))))), (.putBit (d.s rfl) (.measSeq (d.s rfl) (.raiseG (d.s rfl) (.count (d.s rfl) (.swapCores (d.s rfl) h)))))]) (.measSeq (d.s rfl) (.raiseG (d.s rfl) (.count (d.s rfl) (.swapCores (d.s rfl) h)))))

theorem genlockConfig {a1 a2} (d : Has m 514) (h : Touch m s t) : Touch m s (State.genlockConfig t a1 a2) := by
  unfold State.genlockConfig; exact (.ite (.ite (.setF (d.s rfl) (.setF (d.s rfl) (.setGrp (d.s rfl) h))) h) (.ite (.setF (d.s rfl) (.setGrp (d.s rfl) h)) (.ite (.setGrp (d.s rfl) h) h)))

theorem measTable {a2} {t1 : State} (d : Has m 16777280) (h : Touch m s t) (h1 : Touch m s t1) : Touch m s (State.measTable t t1 a2) := by
  unfold State.measTable; exact (.measure (d.s rfl) h)

theorem commitPanes {a1 a2 a3} (d : Has m 2228290) (h : Touch m s t) : Touch m s (State.commitPanes t a1 a2 a3) := by
  unfold State.commitPanes; exact (.seq (.ite (.foldl (fun _ _ h5 => (.checkPane (d.s rfl) h5)) .refl) .refl) (.foldl (fun _ _ h6 => (.bisAuto (d.s rfl) (.checkPane (d.s rfl) (.setF (d.s rfl) (.upd_17 (d.s rfl) h6))))) (.dropCaptures (d.s rfl) h)))

theorem takeHdr {a1} (d : Has m 2097154) (h : Touch m s t) : Touch m s (State.takeHdr t a1) := by
  unfold State.takeHdr; (try dsimp only); split; exacts [h, (.setBis (d.s rfl) h)]

theorem applyCommit {a1 a2 a3} (d : Has m 33260226) (h : Touch m s t) : Touch m s (State.applyCommit t a1 a2 a3) := by
  unfold State.applyCommit; exact (.seq (.seq (.seq (.seq (.seq (.seq (.seq (.seq (.commitDone (d.s rfl) (.occurApplied (d.s rfl) (.ite .refl (.ite (.doSwap (d.s rfl) .refl) (.setGrp (d.s rfl) .refl))))) (.foldl (fun _ _ h5 => (.tableEpoch (d.s rfl) h5)) .refl)) (.commitPanes (d.s rfl) .refl)) (.takeHdr (d.s rfl) (.checkPlanes (d.s rfl) .refl))) (.ite (.histClear (d.s rfl) .refl) .refl)) (.genlockConfig (d.s rfl) .refl)) (.setGrp (d.s rfl) .refl)) (.applyWs (d.s rfl) .refl)) (.ite (.foldAbandon (d.s rfl) h) h))

theorem refuseCommit {a1 a2} (d : Has m 2621506) (h : Touch m s t) : Touch m s (State.refuseCommit t a1 a2) := by
  unfold State.refuseCommit; exact (.commitDone (d.s rfl) (.raise (d.s rfl) (.setBis (d.s rfl) (.ite (.setF (d.s rfl) (.setF (d.s rfl) h)) h))))

theorem latchCommit {a1 a2 a3} (d : Has m 33260226) (h : Touch m s t) : Touch m s (State.latchCommit t a1 a2 a3) := by
  unfold State.latchCommit; exact (.ite (.refuseCommit (d.s rfl) h) (.applyCommit (d.s rfl) h))

theorem showPend {a1} (d : Has m 2) (h : Touch m s t) : Touch m s (State.showPend t a1) := by
  unfold State.showPend; exact (.setOn (d.s rfl) (.setF (d.s rfl) h))

theorem arriveCommit {a1} (d : Has m 33260226) (h : Touch m s t) : Touch m s (State.arriveCommit t a1) := by
  unfold State.arriveCommit; exact (.ite (.refuseCommit (d.s rfl) h) (.seq (.ite (.applyCommit (d.s rfl) .refl) (.showPend (d.s rfl) (.setGrp (d.s rfl) .refl))) (.ite (.measTable (d.s rfl) (.ite (.setBis (d.s rfl) h) h) (.applyWs (d.s rfl) (.withPending (d.s rfl) h))) (.ite (.setBis (d.s rfl) h) h))))

theorem execCommitArrival  (d : Has m 33261250) (h : Touch m s t) : TouchO m s (Machine.execCommitArrival t) := by
  unfold Machine.execCommitArrival; (try dsimp only); split; exacts [(.next h), (.next (.arriveCommit (d.s rfl) (.upd_10 (d.s rfl) h)))]

theorem passCutoff {a1} (d : Has m 6324802) (h : Touch m s t) : Touch m s (State.passCutoff t a1) := by
  unfold State.passCutoff; exact (.foldCutoff (d.s rfl) (.bisCutoff (d.s rfl) (.showPend (d.s rfl) (.setGrp (d.s rfl) h))))

theorem execCutoff {a0} (d : Has m 6324802) (h : Touch m s t) : TouchO m s (Machine.execCutoff a0 t) := by
  unfold Machine.execCutoff; (try dsimp only); split; exacts [(.next h), (.iteO (.next h) (.next (.passCutoff (d.s rfl) h)))]

/-! ## Genlock -/

theorem freeRun {a1 a2} (d : Has m 578) (h : Touch m s t) : Touch m s (State.freeRun t a1 a2) := by
  unfold State.freeRun; exact (.raiseG (d.s rfl) (.setF (d.s rfl) (.setGrp (d.s rfl) h)))

theorem acquire {a1} (d : Has m 514) (h : Touch m s t) : Touch m s (State.acquire t a1) := by
  unfold State.acquire; exact (.setF (d.s rfl) (.setGrp (d.s rfl) h))

theorem glMove {a1 a2} (d : Has m 578) (h : Touch m s t) : Touch m s (State.glMove t a1 a2) := by
  unfold State.glMove; (try dsimp only); split; exacts [(.ite (.raiseG (d.s rfl) (.setF (d.s rfl) (.setGrp (d.s rfl) h))) (by (try dsimp only); split; exacts [(.ite (.freeRun (d.s rfl) h) (.setGrp (d.s rfl) h)), (.setGrp (d.s rfl) h)])), (.ite (.setGrp (d.s rfl) h) (.ite (.freeRun (d.s rfl) h) (.setGrp (d.s rfl) h))), h]

theorem glDecide {a1 a2} (d : Has m 578) (h : Touch m s t) : Touch m s (State.glDecide t a1 a2) := by
  unfold State.glDecide; exact (.ite h (by (try dsimp only); split; exacts [(.ite (.freeRun (d.s rfl) (.ite (.acquire (d.s rfl) (.ite (.setGrp (d.s rfl) h) h)) (.ite (.setGrp (d.s rfl) h) h))) (.ite (.acquire (d.s rfl) (.ite (.setGrp (d.s rfl) h) h)) (.ite (.setGrp (d.s rfl) h) h))), (.seq (.seq (.ite (.freeRun (d.s rfl) .refl) (.glMove (d.s rfl) .refl)) (.setF (d.s rfl) .refl)) (.setGrp (d.s rfl) (.ite (.acquire (d.s rfl) (.ite (.setGrp (d.s rfl) h) h)) (.ite (.setGrp (d.s rfl) h) h))))]))

theorem execSyncinEdge {a0 a1 a2} (d : Has m 524802) (h : Touch m s t) : TouchO m s (Machine.execSyncinEdge a0 a1 a2 t) := by
  unfold Machine.execSyncinEdge; exact (.iteO (.next h) (.next (.foldl (fun _ _ h6 => (.ite (.setGrp (d.s rfl) h6) h6)) (.ite (.foldl (fun _ _ h5 => (.occur (d.s rfl) h5)) h) h))))

theorem execTeEdge {a0 a1 a2} (d : Has m 524866) (h : Touch m s t) : TouchO m s (Machine.execTeEdge a0 a1 a2 t) := by
  unfold Machine.execTeEdge; exact (.iteO (.next h) (.seqO (.seqO (.next (.ite (.setGrp (d.s rfl) .refl) .refl)) (.occurGroup (d.s rfl) .refl)) (.ite (.raiseAt (d.s rfl) h) h)))

theorem execSyncoutPulseEnd {a0} (d : Has m 512) (h : Touch m s t) : TouchO m s (Machine.execSyncoutPulseEnd a0 t) := by
  unfold Machine.execSyncoutPulseEnd; (try dsimp only); split; exacts [(.next (.ite (.setGrp (d.s rfl) h) h)), (.next h)]

/-! ## Tolerance -/

theorem panTol  (d : Has m 2) (h : Touch m s t) : Touch m s (State.panTol t) := by
  unfold State.panTol; exact (.setF (d.s rfl) (.setF (d.s rfl) h))

/-! ## Raster -/

theorem coreLine {a1 a2} (d : Has m 524288) (h : Touch m s t) : Touch m s (State.coreLine t a1 a2) := by
  unfold State.coreLine; exact (.foldl (fun _ _ h5 => (.ite h5 (by (try dsimp only); split; exacts [(.setCore (d.s rfl) h5), (by (try dsimp only); split; exacts [(.setCore (d.s rfl) h5), (.ite (.setCore (d.s rfl) h5) h5)]), h5]))) h)

theorem pairLine {a1 a2 a3} (d : Has m 1048576) (h : Touch m s t) : Touch m s (State.pairLine t a1 a2 a3) := by
  unfold State.pairLine; exact (.setLn (d.s rfl) h)

theorem laneLine {a1} (d : Has m 1048658) (h : Touch m s t) : Touch m s (State.laneLine t a1) := by
  unfold State.laneLine; exact (.foldl (fun _ _ h5 => (by (try dsimp only); split; exacts [(.ite (.sendCtl (d.s rfl) (.idleChain (d.s rfl) (.foldl (fun _ _ h6 => (.pairLine (d.s rfl) h6)) (.setLn (d.s rfl) (by (try dsimp only); split; exacts [(.ite (.activate (d.s rfl) h5) h5), h5]))))) (.foldl (fun _ _ h7 => (.pairLine (d.s rfl) h7)) (.setLn (d.s rfl) (by (try dsimp only); split; exacts [(.ite (.activate (d.s rfl) h5) h5), h5])))), (.foldl (fun _ _ h8 => (.pairLine (d.s rfl) h8)) (.setLn (d.s rfl) (by (try dsimp only); split; exacts [(.ite (.activate (d.s rfl) h5) h5), h5])))])) h)

theorem autoSleep {a1} (d : Has m 1048594) (h : Touch m s t) : Touch m s (State.autoSleep t a1) := by
  unfold State.autoSleep; exact (.ite h (.foldl (fun _ _ h5 => (.ite h5 (.seq (.seq (.ite .refl (.rxSleep (d.s rfl) .refl)) (.setLn (d.s rfl) .refl)) (.foldl (fun _ _ h6 => (.ite h6 (.setLn (d.s rfl) (.txSleep (d.s rfl) h6)))) h5)))) h))

theorem dropLine {a1 a2} (d : Has m 131072) (h : Touch m s t) : Touch m s (State.dropLine t a1 a2) := by
  unfold State.dropLine; exact (.upd_17 (d.s rfl) h)

theorem dropLines {a1} (d : Has m 131072) (h : Touch m s t) : Touch m s (State.dropLines t a1) := by
  unfold State.dropLines; exact (.upd_17 (d.s rfl) h)

theorem everyLine {a1} (d : Has m 1208914) (h : Touch m s t) : Touch m s (State.everyLine t a1) := by
  unfold State.everyLine; exact (.seq (.seq (.seq (.checkTol (d.s rfl) (.panTol (d.s rfl) (.autoSleep (d.s rfl) (.ite (.glDecide (d.s rfl) .refl) .refl)))) (.laneLine (d.s rfl) .refl)) (.ite (.markUnsent (d.s rfl) .refl) .refl)) (.setGrp (d.s rfl) h))

theorem leaveLine {a1 a2} (d : Has m 162322) (h : Touch m s t) : Touch m s (State.leaveLine t a1 a2) := by
  unfold State.leaveLine; exact (.seq (.ite (.markUnsent (d.s rfl) (.dropLines (d.s rfl) (.bisLate (d.s rfl) .refl))) (.dropLine (d.s rfl) .refl)) (.histLine (d.s rfl) (.bisLine (d.s rfl) h)))

theorem nextLine {a1 a2} (d : Has m 1735250) (h : Touch m s t) : Touch m s (State.nextLine t a1 a2) := by
  unfold State.nextLine; exact (.everyLine (d.s rfl) (.coreLine (d.s rfl) (.setF (d.s rfl) (.setGrp (d.s rfl) (.leaveLine (d.s rfl) h)))))

theorem endFrame {a1} (d : Has m 2228738) (h : Touch m s t) : Touch m s (State.endFrame t a1) := by
  unfold State.endFrame; exact (.ite h (.setGrp (d.s rfl) (.dropLine (d.s rfl) (.histFrameEnd (d.s rfl) (.captureFrameEnd (d.s rfl) (.bookDcb (d.s rfl) h))))))

theorem raiseApplied {a1} (d : Has m 578) (h : Touch m s t) : Touch m s (State.raiseApplied t a1) := by
  unfold State.raiseApplied; exact (.setGrp (d.s rfl) (.foldl (fun _ _ h5 => (.raiseAt (d.s rfl) (.foldl (fun _ _ h6 => (.setF (d.s rfl) h6)) h5))) h))

theorem takeFrame {a1} (d : Has m 131586) (h : Touch m s t) : Touch m s (State.takeFrame t a1) := by
  unfold State.takeFrame; exact (.setGrp (d.s rfl) (.upd_17 (d.s rfl) (.setOn (d.s rfl) (.setF (d.s rfl) h))))

theorem syncStart {a1} (d : Has m 512) (h : Touch m s t) : Touch m s (State.syncStart t a1) := by
  unfold State.syncStart; exact (.ite h (.setGrp (d.s rfl) h))

theorem lineZero {a1 a2} (d : Has m 29096658) (h : Touch m s t) : Touch m s (State.lineZero t a1 a2) := by
  unfold State.lineZero; exact (.seq (.seq (.seq (.seq (.seq (.seq (.everyLine (d.s rfl) (.bisLine0 (d.s rfl) (.setGrp (d.s rfl) (.foldl (fun _ _ h5 => (.doSwap (d.s rfl) h5)) (.coreLine (d.s rfl) (.occurGroup (d.s rfl) (.ite (.raiseG (d.s rfl) .refl) .refl))))))) (.ite .refl (.raiseApplied (d.s rfl) .refl))) (.syncStart (d.s rfl) (.takeFrame (d.s rfl) .refl))) (.ite .refl (.seq (.ite (.setSr (d.s rfl) .refl) .refl) (.groupState (d.s rfl) .refl)))) (.setF (d.s rfl) (.setF (d.s rfl) (.setOn (d.s rfl) .refl)))) (.setGrp (d.s rfl) .refl)) (.endFrame (d.s rfl) h))

theorem execLineStart {a0} (d : Has m 29096658) (h : Touch m s t) : TouchO m s (Machine.execLineStart a0 t) := by
  unfold Machine.execLineStart; exact (.iteO (.next h) (by (try dsimp only); split; exacts [(.next (.ite (.nextLine (d.s rfl) h) h)), (.next (.ite (.lineZero (d.s rfl) h) h)), (.next h)]))

theorem execTeWaitBegin {a0} (d : Has m 514) (h : Touch m s t) : TouchO m s (Machine.execTeWaitBegin a0 t) := by
  unfold Machine.execTeWaitBegin; exact (.iteO (.next h) (by (try dsimp only); split; exacts [(.iteO (.next h) (.next (.setF (d.s rfl) (.setGrp (d.s rfl) h)))), (.next h)]))

theorem execTeTimeout {a0} (d : Has m 29096658) (h : Touch m s t) : TouchO m s (Machine.execTeTimeout a0 t) := by
  unfold Machine.execTeTimeout; (try dsimp only); split; exacts [(.next h), (.iteO (.next h) (.seqO (.next (.ite (.lineZero (d.s rfl) .refl) (.setGrp (d.s rfl) .refl))) (.raiseG (d.s rfl) h)))]

theorem trimFrame {a1} (d : Has m 576) (h : Touch m s t) : Touch m s (State.trimFrame t a1) := by
  unfold State.trimFrame; (try dsimp only); split; exacts [h, (.seq (.ite .refl (.raiseG (d.s rfl) .refl)) (.setGrp (d.s rfl) h))]

theorem setPorch {a1 a2} (d : Has m 578) (h : Touch m s t) : Touch m s (State.setPorch t a1 a2) := by
  unfold State.setPorch; exact (.setF (d.s rfl) (.setGrp (d.s rfl) (.trimFrame (d.s rfl) (.setF (d.s rfl) (.setOn (d.s rfl) (.setF (d.s rfl) (.setF (d.s rfl) (by (try dsimp only); split; exacts [(.raiseG (d.s rfl) (.setGrp (d.s rfl) h)), (.setGrp (d.s rfl) h)]))))))))

theorem latchSr {a1} (d : Has m 131650) (h : Touch m s t) : Touch m s (State.latchSr t a1) := by
  unfold State.latchSr; (try dsimp only); split; exacts [(.ite (.setGrp (d.s rfl) h) (.setSr (d.s rfl) (.setGrp (d.s rfl) h))), (.ite (.setSr (d.s rfl) (.setGrp (d.s rfl) h)) (.setGrp (d.s rfl) h)), (.setGrp (d.s rfl) h)]

theorem pipeDone {a1} (d : Has m 424466) (h : Touch m s t) : Touch m s (State.pipeDone t a1) := by
  unfold State.pipeDone; exact (.dropHostPanes (d.s rfl) (.dropTiles (d.s rfl) (.dropLines (d.s rfl) (.bisLate (d.s rfl) (.captureLatch (d.s rfl) h)))))

theorem pipeNext {a1} (d : Has m 133632) (h : Touch m s t) : Touch m s (State.pipeNext t a1) := by
  unfold State.pipeNext; exact (.setGrp (d.s rfl) (.dropHostPanes (d.s rfl) (.pixTurn (d.s rfl) h)))

theorem takeLatch {a1} (d : Has m 33553106) (h : Touch m s t) : Touch m s (State.takeLatch t a1) := by
  unfold State.takeLatch; exact (.seq (.seq (.seq (.seq (.seq (.seq (.seq (.occurGroup (d.s rfl) (.ite (.decideBis (d.s rfl) .refl) (.decideBand (d.s rfl) .refl))) (.setPorch (d.s rfl) .refl)) (.setGrp (d.s rfl) .refl)) (.pipeNext (d.s rfl) (.latchSr (d.s rfl) (.showPend (d.s rfl) .refl)))) (.foldl (fun _ _ h5 => (.latchCommit (d.s rfl) h5)) .refl)) (.setGrp (d.s rfl) .refl)) (.ite .refl (.foldLatch (d.s rfl) .refl))) (.pipeDone (d.s rfl) h))

theorem execLatch {a0} (d : Has m 33553106) (h : Touch m s t) : TouchO m s (Machine.execLatch a0 t) := by
  unfold Machine.execLatch; exact (.next (.ite (.takeLatch (d.s rfl) h) h))

theorem startGroup {a1} (d : Has m 19827266) (h : Touch m s t) : Touch m s (State.startGroup t a1) := by
  unfold State.startGroup; exact (.ite (.raiseG (d.s rfl) (.setF (d.s rfl) (.ite (.setF (d.s rfl) (.setF (d.s rfl) h)) (.setF (d.s rfl) h)))) (.seq (.seq (.seq (.seq (.seq (.armStart (d.s rfl) (.ite (.bisStart (d.s rfl) (.measTable (d.s rfl) .refl .refl)) (.decideBand (d.s rfl) .refl))) (.checkPlanes (d.s rfl) (.groupState (d.s rfl) .refl))) (.setF (d.s rfl) (.setF (d.s rfl) (.setF (d.s rfl) .refl)))) (.setBis (d.s rfl) (.pipeNext (d.s rfl) (.dropTiles (d.s rfl) (.dropLines (d.s rfl) .refl))))) (.histClear (d.s rfl) (.dropCaptures (d.s rfl) .refl))) (.setGrp (d.s rfl) h)))

theorem resumeGroup {a1} (d : Has m 66) (h : Touch m s t) : Touch m s (State.resumeGroup t a1) := by
  unfold State.resumeGroup; exact (.seq (.ite .refl (.setOn (d.s rfl) (.putBit (d.s rfl) .refl))) (.groupState (d.s rfl) (.setF (d.s rfl) h)))

theorem enterStopped {a1} (d : Has m 33260242) (h : Touch m s t) : Touch m s (State.enterStopped t a1) := by
  unfold State.enterStopped; exact (.seq (.seq (.seq (.seq (.seq (.seq (.seq (.seq (.panTol (d.s rfl) (.railStopped (d.s rfl) (.discardEdges (d.s rfl) (.foldl (fun _ _ h5 => (.seq (.seq (.ite .refl (.foldl (fun _ _ h6 => (.sendCtl (d.s rfl) h6)) (.idleChain (d.s rfl) .refl))) (.foldl (fun _ _ h7 => (.setLn (d.s rfl) h7)) .refl)) (.ite (.activate (d.s rfl) h5) h5))) .refl)))) (.setOn (d.s rfl) .refl)) (.putBit (d.s rfl) .refl)) (.showPend (d.s rfl) (.setGrp (d.s rfl) .refl))) (.foldl (fun _ _ h8 => (.latchCommit (d.s rfl) h8)) .refl)) (.foldl (fun _ _ h9 => (.doSwap (d.s rfl) h9)) .refl)) (.groupState (d.s rfl) (.setF (d.s rfl) (.setF (d.s rfl) (.setF (d.s rfl) .refl))))) (.setGrp (d.s rfl) .refl)) (.endFrame (d.s rfl) h))

theorem writeRun {a1 a2} (d : Has m 33524434) (h : Touch m s t) : Touch m s (State.writeRun t a1 a2) := by
  unfold State.writeRun; exact (.ite (.ite h (.ite (.startGroup (d.s rfl) h) (.ite (.resumeGroup (d.s rfl) h) h))) (.seq (.ite (.enterStopped (d.s rfl) .refl) .refl) (.stopGroup (d.s rfl) h)))

theorem execGroupEnterStopped {a0} (d : Has m 33260242) (h : Touch m s t) : TouchO m s (Machine.execGroupEnterStopped a0 t) := by
  unfold Machine.execGroupEnterStopped; exact (.iteO (.next h) (.iteO (.next (.enterStopped (d.s rfl) h)) (by (try dsimp only); split; exacts [(.next (.ite (.enterStopped (d.s rfl) h) h)), (.next h)])))

/-! ## Mem -/

theorem spoilCommit {a1 a2} (d : Has m 1536) (h : Touch m s t) : Touch m s (State.spoilCommit t a1 a2) := by
  unfold State.spoilCommit; exact (.foldl (fun _ _ h5 => (.setGrp (d.s rfl) h5)) (.upd_10 (d.s rfl) h))

theorem loseHeld {a1 a2} (d : Has m 66) (h : Touch m s t) : Touch m s (State.loseHeld t a1 a2) := by
  unfold State.loseHeld; (try dsimp only); split; exacts [(.ringStatus (d.s rfl) (.count (d.s rfl) (.setRing (d.s rfl) h))), h]

theorem eventReset  (d : Has m 706) (h : Touch m s t) : Touch m s (State.eventReset t) := by
  unfold State.eventReset; exact (.queueReset (d.s rfl) (.upd_6 (d.s rfl) h))

theorem sramLost {a1} (d : Has m 16434882) (h : Touch m s t) : Touch m s (State.sramLost t a1) := by
  unfold State.sramLost; (try dsimp only); split; exacts [h, h, (.eventReset (d.s rfl) h), (.ite (.ite (.coreFault (d.s rfl) h) (.coreFaultWith (d.s rfl) h)) h), (.ite (.losePane (d.s rfl) h) h), (.ite (.raiseG (d.s rfl) (.upd_17 (d.s rfl) h)) h), (.ite (.raiseG (d.s rfl) (.putBit (d.s rfl) h)) h), (.spoilCommit (d.s rfl) h), (.ite (.ite (.setFree (d.s rfl) (.upd_14 (d.s rfl) h)) (.upd_14 (d.s rfl) h)) h), (.ite (.partnerReset (d.s rfl) h) h), (.ite (.uqReset (d.s rfl) h) h), (.queueReset (d.s rfl) h), (.loseHeld (d.s rfl) h), (.freeAccs (d.s rfl) h), (.ite (.setBis (d.s rfl) h) h)]

theorem sramCorrected {a1 a2} (d : Has m 33555138) (h : Touch m s t) : Touch m s (State.sramCorrected t a1 a2) := by
  unfold State.sramCorrected; exact (.seq (.ite .refl (.raise (d.s rfl) (.ite (.upd_25 (d.s rfl) .refl) (.upd_25 (d.s rfl) .refl)))) (.fault (d.s rfl) (.count (d.s rfl) h)))

theorem sramUncorrectable {a1 a2} (d : Has m 706) (h : Touch m s t) : Touch m s (State.sramUncorrectable t a1 a2) := by
  unfold State.sramUncorrectable; exact (.fault (d.s rfl) (.raise (d.s rfl) (.count (d.s rfl) (.setF (d.s rfl) (.setF (d.s rfl) (.setW1c (d.s rfl) h))))))

theorem execSramRead {a0 a1 a2 a3} (d : Has m 49989314) (h : Touch m s t) : TouchO m s (Machine.execSramRead a0 a1 a2 a3 t) := by
  unfold Machine.execSramRead; exact (.iteO (.next h) (.seqO (.iteO (.next (.sramCorrected (d.s rfl) .refl)) (.iteO (.next (.sramLost (d.s rfl) (.sramUncorrectable (d.s rfl) .refl))) (.next .refl))) (.touchBank (d.s rfl) h)))

theorem execBankRetentionIdle {a0} (d : Has m 2) (h : Touch m s t) : TouchO m s (Machine.execBankRetentionIdle a0 t) := by
  unfold Machine.execBankRetentionIdle; exact (.next (.ite (.setF (d.s rfl) h) h))

theorem execBankInitDone {a0} (d : Has m 2) (h : Touch m s t) : TouchO m s (Machine.execBankInitDone a0 t) := by
  unfold Machine.execBankInitDone; exact (.next (.ite (.setF (d.s rfl) h) h))

theorem marchWipe {a1 a2} (d : Has m 2621440) (h : Touch m s t) : Touch m s (State.marchWipe t a1 a2) := by
  unfold State.marchWipe; exact (.ite (.foldl (fun _ _ h5 => (.bankLose (d.s rfl) h5)) h) h)

theorem marchGo  (d : Has m 36175874) (h : Touch m s t) : Touch m s (State.marchGo t) := by
  unfold State.marchGo; exact (.ite h (.setF (d.s rfl) (.setF (d.s rfl) (.marchWipe (d.s rfl) (.upd_25 (d.s rfl) h)))))

theorem marchBank {a1 a2 a3 a4} (d : Has m 706) (h : Touch m s t) : Touch m s (State.marchBank t a1 a2 a3 a4).2.2 := by
  unfold State.marchBank; exact (.ite22 (.snd2 (.setF (d.s rfl) (.setF (d.s rfl) h))) (.snd2 (.fault (d.s rfl) (.setF (d.s rfl) h))))

theorem marchBanks {a0 a1 a2 a3} (d : Has m 706) (h : Touch m s t) : Touch m s (Machine.marchBanks a0 a1 a2 a3 t).2.2 := by
  induction a1 generalizing t a2 a3 with
  | nil => exact h
  | cons x xs ih => exact ih (.marchBank (d.s rfl) h)

theorem marchEnd {a1 a2 a3 a4 a5} (d : Has m 33554498) (h : Touch m s t) : Touch m s (State.marchEnd t a1 a2 a3 a4 a5) := by
  unfold State.marchEnd; exact (.raise (d.s rfl) (.setF (d.s rfl) (.setF (d.s rfl) (.setF (d.s rfl) (.setF (d.s rfl) (.setF (d.s rfl) (.upd_25 (d.s rfl) h)))))))

theorem marchAbort  (d : Has m 33554498) (h : Touch m s t) : Touch m s (State.marchAbort t) := by
  unfold State.marchAbort; (try dsimp only); split; exacts [h, (.marchEnd (d.s rfl) h)]

theorem execMarchDone {a0} (d : Has m 33555138) (h : Touch m s t) : TouchO m s (Machine.execMarchDone a0 t) := by
  unfold Machine.execMarchDone; (try dsimp only); split; exacts [(.next h), (.next (.degraded (d.s rfl) (.marchEnd (d.s rfl) (.marchBanks (a2 := 0) (a3 := 0) (d.s rfl) h))))]

theorem noteEmerg {a1} (d : Has m 131136) (h : Touch m s t) : Touch m s (State.noteEmerg t a1) := by
  unfold State.noteEmerg; exact (.ite h (.raiseG (d.s rfl) (.upd_17 (d.s rfl) h)))

theorem linkGranted {a1 a2} (d : Has m 256) (h : Touch m s t) : Touch m s (State.linkGranted t a1 a2) := by
  unfold State.linkGranted; exact (.setLane (d.s rfl) h)

theorem refreshGranted {a1} (d : Has m 18450) (h : Touch m s t) : Touch m s (State.refreshGranted t a1) := by
  unfold State.refreshGranted; exact (.cxlLog (d.s rfl) (.count (d.s rfl) (.upd_14 (d.s rfl) h)))

theorem execArbRound {a0 a1 a2} (d : Has m 8538450) (h : Touch m s t) : TouchO m s (Machine.execArbRound a0 a1 a2 t) := by
  unfold Machine.execArbRound; exact (.iteO (.next h) (by (try dsimp only); split; exacts [(.next (.classRound (a1 := a0) (a2 := !(if Sys2Proof.Machine.isPcArb a0 = Bool.true then List.filter (fun g => Decidable.decide (g < 16) && t.scanEmerg g) a2 else []).isEmpty) (d.s rfl) (.foldl (fun _ _ h100006 => (.ite h100006 (.refused (d.s rfl) h100006))) (.foldl (fun _ _ h100005 => (.noteEmerg (d.s rfl) h100005)) h)))), (.seqO (.next (.ite (.deferred (d.s rfl) .refl) .refl)) (.ite (.linkGranted (d.s rfl) (.classRound (a1 := a0) (a2 := !(if Sys2Proof.Machine.isPcArb a0 = Bool.true then List.filter (fun g => Decidable.decide (g < 16) && t.scanEmerg g) a2 else []).isEmpty) (d.s rfl) (.foldl (fun _ _ h100008 => (.ite h100008 (.refused (d.s rfl) h100008))) (.foldl (fun _ _ h100007 => (.noteEmerg (d.s rfl) h100007)) h)))) (.ite (.refreshGranted (d.s rfl) (.classRound (a1 := a0) (a2 := !(if Sys2Proof.Machine.isPcArb a0 = Bool.true then List.filter (fun g => Decidable.decide (g < 16) && t.scanEmerg g) a2 else []).isEmpty) (d.s rfl) (.foldl (fun _ _ h100010 => (.ite h100010 (.refused (d.s rfl) h100010))) (.foldl (fun _ _ h100009 => (.noteEmerg (d.s rfl) h100009)) h)))) (.classRound (a1 := a0) (a2 := !(if Sys2Proof.Machine.isPcArb a0 = Bool.true then List.filter (fun g => Decidable.decide (g < 16) && t.scanEmerg g) a2 else []).isEmpty) (d.s rfl) (.foldl (fun _ _ h100012 => (.ite h100012 (.refused (d.s rfl) h100012))) (.foldl (fun _ _ h100011 => (.noteEmerg (d.s rfl) h100011)) h))))))]))

theorem arbApply  (d : Has m 8388610) (h : Touch m s t) : Touch m s (State.arbApply t) := by
  unfold State.arbApply; exact (.setF (d.s rfl) (.foldl (fun _ _ h5 => (.upd_23 (d.s rfl) (.setF (d.s rfl) (.setF (d.s rfl) h5)))) h))

theorem execArbApplyRaster  (d : Has m 8388610) (h : Touch m s t) : TouchO m s (Machine.execArbApplyRaster t) := by
  unfold Machine.execArbApplyRaster; exact (.next (.ite (.setF (d.s rfl) (.upd_23 (d.s rfl) h)) h))

theorem execRequesterMask {a0 a1} (d : Has m 8388610) (h : Touch m s t) : TouchO m s (Machine.execRequesterMask a0 a1 t) := by
  unfold Machine.execRequesterMask; exact (.iteO (.next h) (.iteO (.next (.upd_23 (d.s rfl) h)) (.next (.setF (d.s rfl) (.count (d.s rfl) (.upd_23 (d.s rfl) h))))))

theorem execRequesterUnmask {a0} (d : Has m 8388608) (h : Touch m s t) : TouchO m s (Machine.execRequesterUnmask a0 t) := by
  unfold Machine.execRequesterUnmask; exact (.iteO (.next h) (.next (.upd_23 (d.s rfl) h)))

/-! ## Boot -/

theorem execPorstAssert (d : Has m 67108838) (h : Touch m s t) : TouchO m s (Machine.execPorstAssert t) :=
  .next fun p => by cases p <;> first | exact .inl (d.s rfl) | exact h .pending | exact h .free | exact h .outs

theorem execPorstDeassert  (d : Has m 65536) (h : Touch m s t) : TouchO m s (Machine.execPorstDeassert t) := by
  unfold Machine.execPorstDeassert; exact (.iteO (.next h) (.next (.upd_16 (d.s rfl) h)))

theorem stageOff {a1} (d : Has m 65536) (h : Touch m s t) : Touch m s (State.stageOff t a1) := by
  unfold State.stageOff; exact (.upd_16 (d.s rfl) h)

theorem bootStage {a1 a2 a3} (d : Has m 64) (h : Touch m s t) : Touch m s (State.bootStage t a1 a2 a3) := by
  unfold State.bootStage; exact (.raise (d.s rfl) h)

theorem stageFail {a1 a2 a3} (d : Has m 2) (h : Touch m s t) : Touch m s (State.stageFail t a1 a2 a3) := by
  unfold State.stageFail; exact (.ite h (.seq (.ite (.setF (d.s rfl) .refl) .refl) (.setF (d.s rfl) (.setF (d.s rfl) h))))

theorem stageStop {a1 a2 a3} (d : Has m 65602) (h : Touch m s t) : Touch m s (State.stageStop t a1 a2 a3) := by
  unfold State.stageStop; exact (.bootStage (d.s rfl) (.stageOff (d.s rfl) (.stageFail (d.s rfl) h)))

theorem stageEnd {a1 a2 a3} (d : Has m 65602) (h : Touch m s t) : Touch m s (State.stageEnd t a1 a2 a3) := by
  unfold State.stageEnd; exact (.upd_16 (d.s rfl) (.bootStage (d.s rfl) (.foldl (fun _ _ h5 => (.putBit (d.s rfl) h5)) (.putBit (d.s rfl) (.stageOff (d.s rfl) (.stageFail (d.s rfl) h))))))

theorem lockBits {a1} (d : Has m 2) (h : Touch m s t) : Touch m s (State.lockBits t a1) := by
  unfold State.lockBits; exact (.foldl (fun _ _ h5 => (.putBit (d.s rfl) h5)) h)

theorem bootMarch {a1 a2 a3} (d : Has m 33555138) (h : Touch m s t) : Touch m s (State.bootMarch t a1 a2 a3).2 := by
  unfold State.bootMarch; exact (.snd (.degraded (d.s rfl) (.marchEnd (d.s rfl) (.marchBanks (a0 := Bool.true) (a1 := List.filter (fun e => a2 e.1) a1.bad) (a2 := 0) (a3 := 0) (d.s rfl) h))))

theorem stage1  (d : Has m 16844866) (h : Touch m s t) : Touch m s (State.stage1 t) := by
  unfold State.stage1; exact (.stageEnd (d.s rfl) (.measLc (d.s rfl) (.upd_11 (d.s rfl) (.fuseRegs (d.s rfl) (.lockBits (d.s rfl) h)))))

theorem stage1Fail {a1} (d : Has m 66242) (h : Touch m s t) : Touch m s (State.stage1Fail t a1) := by
  unfold State.stage1Fail; exact (.fault (d.s rfl) (.bootStage (d.s rfl) (.stageFail (d.s rfl) (.upd_16 (d.s rfl) h))))

theorem stage2 {a1} (d : Has m 33620674) (h : Touch m s t) : Touch m s (State.stage2 t a1) := by
  unfold State.stage2; exact (.stageEnd (d.s rfl) (.bootMarch (a1 := a1) (a2 := fun b => Decidable.decide (b < 96 ∨ 256 ≤ b ∧ b < 260)) (a3 := 259) (d.s rfl) h))

theorem takeSlot {a1} (d : Has m 16777282) (h : Touch m s t) : Touch m s (State.takeSlot t a1) := by
  unfold State.takeSlot; exact (.measure (d.s rfl) (.measure (d.s rfl) (.setF (d.s rfl) (.setF (d.s rfl) (.setF (d.s rfl) h)))))

theorem recovery {a1 a2} (d : Has m 65602) (h : Touch m s t) : Touch m s (State.recovery t a1 a2) := by
  unfold State.recovery; exact (.seq (.ite (.stageEnd (d.s rfl) .refl) (.stageStop (d.s rfl) .refl)) (.setF (d.s rfl) h))

theorem stage3 {a1} (d : Has m 16842818) (h : Touch m s t) : Touch m s (State.stage3 t a1) := by
  unfold State.stage3; exact (.ite (.stageEnd (d.s rfl) (.takeSlot (d.s rfl) (.ite (.setF (d.s rfl) h) h))) (.ite (.stageEnd (d.s rfl) (.takeSlot (d.s rfl) (.setF (d.s rfl) h))) (.recovery (d.s rfl) h)))

theorem reloadCtrs  (d : Has m 2) (h : Touch m s t) : Touch m s (State.reloadCtrs t) := by
  unfold State.reloadCtrs; exact (.foldl (fun _ _ h5 => (.setLastCtr (d.s rfl) h5)) h)

theorem stage4 {a1} (d : Has m 16876226) (h : Touch m s t) : Touch m s (State.stage4 t a1) := by
  unfold State.stage4; exact (.stageEnd (d.s rfl) (.setF (d.s rfl) (.reloadCtrs (d.s rfl) (.foldl (fun _ _ h5 => (.reloadSlot (d.s rfl) h5)) (.reloadId (d.s rfl) (.nvScan (d.s rfl) h))))))

theorem stage5 {a1} (d : Has m 78530) (h : Touch m s t) : Touch m s (State.stage5 t a1) := by
  unfold State.stage5; exact (.ite (.fault (d.s rfl) (.stageStop (d.s rfl) h)) (.stageEnd (d.s rfl) (.lockBits (d.s rfl) (.upd_12_13 (d.s rfl) h))))

theorem trainLane {a1 a2 a3} (d : Has m 962) (h : Touch m s t) : Touch m s (State.trainLane t a1 a2 a3) := by
  unfold State.trainLane; exact (.seq (.seq (.seq (.ite .refl (.fault (d.s rfl) (.raise (d.s rfl) .refl))) (.setLane (d.s rfl) .refl)) (.setF (d.s rfl) .refl)) (.ite h (.setW1c (d.s rfl) (.setF (d.s rfl) h))))

theorem trainLink {a1} (d : Has m 994) (h : Touch m s t) : Touch m s (State.trainLink t a1) := by
  unfold State.trainLink; exact (.seq (.degraded (d.s rfl) (.ite .refl (.timeLearnt (d.s rfl) .refl))) (.foldl (fun _ _ h5 => (.markCtrl (d.s rfl) (.foldl (fun _ _ h6 => (.trainLane (d.s rfl) h6)) h5))) h))

theorem loadRaster {a1} (d : Has m 2097154) (h : Touch m s t) : Touch m s (State.loadRaster t a1) := by
  unfold State.loadRaster; (try dsimp only); split; exacts [h, (.foldl (fun _ _ h5 => (.loadWord (d.s rfl) h5)) h)]

theorem stage6 {a1} (d : Has m 35718114) (h : Touch m s t) : Touch m s (State.stage6 t a1) := by
  unfold State.stage6; exact (.ite (.fault (d.s rfl) (.stageStop (d.s rfl) h)) (by (try dsimp only); split; exacts [(.ite (.recovery (d.s rfl) h) (.upd_16 (d.s rfl) (.putBit (d.s rfl) (.stageStop (d.s rfl) h)))), (.stageEnd (d.s rfl) (.loadRaster (d.s rfl) (.bootMarch (a1 := a1) (a2 := fun b => Decidable.decide (96 ≤ b ∧ b < 256)) (a3 := 255) (d.s rfl) (.trainLink (d.s rfl) (.lockBits (d.s rfl) h)))))]))

theorem loadImg {a1 a2} (d : Has m 524290) (h : Touch m s t) : Touch m s (State.loadImg t a1 a2) := by
  unfold State.loadImg; exact (.ite (.ite (.loadCp (d.s rfl) h) (.setNoServe (d.s rfl) (.loadMem (d.s rfl) h))) (.ite (.foldl (fun _ _ h5 => (.ite h5 (.loadSeq (d.s rfl) h5))) h) h))

theorem loadBoard  (d : Has m 3145810) (h : Touch m s t) : Touch m s (State.loadBoard t) := by
  unfold State.loadBoard; exact (.foldl (fun _ _ h7 => (.laneEn (d.s rfl) (.setOn (d.s rfl) h7))) (.foldl (fun _ _ h6 => (.loadWord (d.s rfl) h6)) (.foldl (fun _ _ h5 => (.loadWord (d.s rfl) (.loadWord (d.s rfl) h5))) (.loadWord (d.s rfl) h))))

theorem stage7  (d : Has m 24707154) (h : Touch m s t) : Touch m s (State.stage7 t) := by
  unfold State.stage7; exact (.seq (.ite (.loadBoard (d.s rfl) (.upd_16 (d.s rfl) .refl)) (.upd_16 (d.s rfl) .refl)) (by (try dsimp only); split; exacts [(.stageEnd (d.s rfl) (.upd_16 (d.s rfl) (.foldl (fun _ _ h6 => (.measSeq (d.s rfl) h6)) (.measImages (d.s rfl) (.measCps (d.s rfl) (.calLoad (d.s rfl) (.foldl (fun _ _ h5 => (.loadImg (d.s rfl) h5)) h))))))), (.stageEnd (d.s rfl) (.upd_16 (d.s rfl) (.foldl (fun _ _ h8 => (.measSeq (d.s rfl) h8)) (.measImages (d.s rfl) (.measCps (d.s rfl) (.calLoad (d.s rfl) (.foldl (fun _ _ h7 => (.loadImg (d.s rfl) h7)) h)))))))]))

theorem bootDone  (d : Has m 2687042) (h : Touch m s t) : Touch m s (State.bootDone t) := by
  unfold State.bootDone; exact (.autoStart (d.s rfl) (.setF (d.s rfl) h))

theorem execStageComplete {a0 a1} (d : Has m 58309618) (h : Touch m s t) : TouchO m s (Machine.execStageComplete a0 a1 t) := by
  unfold Machine.execStageComplete; exact (.iteO (.next h) (by (try dsimp only); split; exacts [(.next (.ite (.stage1Fail (d.s rfl) h) (.ite h (.stage1 (d.s rfl) h)))), (.next (.stage2 (d.s rfl) h)), (.next (.stage3 (d.s rfl) h)), (.next (.stage4 (d.s rfl) h)), (.next (.stage5 (d.s rfl) h)), (.next (.stage6 (d.s rfl) h)), (.next (.stage7 (d.s rfl) h)), (.iteO (.next (.bootDone (d.s rfl) (.stageStop (d.s rfl) h))) (.iteO (.next (.bootDone (d.s rfl) (.stageEnd (d.s rfl) h))) (.next h))), (.next h)]))

theorem execStageTimeout {a0} (d : Has m 2687682) (h : Touch m s t) : TouchO m s (Machine.execStageTimeout a0 t) := by
  unfold Machine.execStageTimeout; exact (.iteO (.next h) (.iteO (.next (.stage1Fail (d.s rfl) h)) (.iteO (.next (.ite (.bootDone (d.s rfl) (.stageStop (d.s rfl) h)) (.ite h (.bootDone (d.s rfl) (.stageStop (d.s rfl) h))))) (.next (.stageStop (d.s rfl) h)))))

theorem execPllRetry {a0} (d : Has m 16844866) (h : Touch m s t) : TouchO m s (Machine.execPllRetry a0 t) := by
  unfold Machine.execPllRetry; exact (.iteO (.next h) (.iteO (.next (.stage1 (d.s rfl) (.upd_16 (d.s rfl) h))) (.next h)))

theorem execClockSourceLoss {a0} (d : Has m 26147546) (h : Touch m s t) : TouchO m s (Machine.execClockSourceLoss a0 t) := by
  unfold Machine.execClockSourceLoss; exact (.iteO (.next h) (.seqO (.seqO (.iteO (.next (.fault (d.s rfl) .refl)) (.iteO (.next (.fault (d.s rfl) .refl)) (.iteO (.execLinkLoss (d.s rfl) .refl) (.iteO (.next (.foldl (fun _ _ h5 => (.ite h5 (.setLnSt (d.s rfl) (.setF (d.s rfl) h5)))) .refl)) (.next .refl))))) (.raise (d.s rfl) .refl)) (.setW1c (d.s rfl) (.putBit (d.s rfl) h))))

theorem execClockSourceReturn {a0} (d : Has m 2) (h : Touch m s t) : TouchO m s (Machine.execClockSourceReturn a0 t) := by
  unfold Machine.execClockSourceReturn; exact (.next (.ite h (.putBit (d.s rfl) h)))

theorem bonDown (d : Has m 67108838) (h : Touch m s t) : Touch m s t.bonDown := by
  unfold State.bonDown
  refine .setF (d.s rfl) (.setF (d.s rfl) (.setF (d.s rfl) (.setF (d.s rfl) fun p => ?_)))
  cases p <;> first | exact .inl (d.s rfl) | exact h .pending | exact h .free | exact h .outs

theorem bonState {a1 a2} (d : Has m 64) (h : Touch m s t) : Touch m s (State.bonState t a1 a2) := by
  unfold State.bonState; exact (.raise (d.s rfl) h)

theorem bonEnter  (d : Has m 67108838) (h : Touch m s t) : Touch m s (State.bonEnter t) := by
  unfold State.bonEnter; exact (.ite h (.ite (.setF (d.s rfl) h) (.ite (.setF (d.s rfl) h) (.bonDown (d.s rfl) (.bonState (d.s rfl) (.setF (d.s rfl) (.setF (d.s rfl) h)))))))

theorem bonExit  (d : Has m 18939970) (h : Touch m s t) : Touch m s (State.bonExit t) := by
  unfold State.bonExit; exact (.ite h (.measLc (d.s rfl) (.fuseRegs (d.s rfl) (.foldl (fun _ _ h5 => (.putBit (d.s rfl) h5)) (.setF (d.s rfl) (.setF (d.s rfl) (.upd_16_21 (d.s rfl) (.bonState (d.s rfl) (.setF (d.s rfl) h)))))))))

theorem activate_  (d : Has m 622658) (h : Touch m s t) : Touch m s (State.activate_ t) := by
  unfold State.activate_; exact (.ite (.raise (d.s rfl) (.setF (d.s rfl) h)) (.ite (.actEnd (d.s rfl) (.setF (d.s rfl) (.setF (d.s rfl) (.setF (d.s rfl) h)))) (.ite (.actEnd (d.s rfl) (.setF (d.s rfl) (.setF (d.s rfl) (.setF (d.s rfl) h)))) (by (try dsimp only); split; exacts [(.actEnd (d.s rfl) (.setF (d.s rfl) (.setF (d.s rfl) (.setF (d.s rfl) h)))), (.ite (.actEnd (d.s rfl) (.setF (d.s rfl) (.setF (d.s rfl) (.setF (d.s rfl) h)))) (.ite (.actEnd (d.s rfl) (.setF (d.s rfl) (.setF (d.s rfl) (.setF (d.s rfl) h)))) (.nvSubmit (d.s rfl) (.upd_16 (d.s rfl) (.ite (.foldl (fun _ _ h5 => (.foldl (fun _ _ h6 => (.loadSeq (d.s rfl) h6)) h5)) (.setF (d.s rfl) (.setF (d.s rfl) (.setF (d.s rfl) h)))) (.setF (d.s rfl) (.setF (d.s rfl) (.setF (d.s rfl) h))))))))]))))

theorem issueSwap {a1 a2} (d : Has m 66560) (h : Touch m s t) : Touch m s (State.issueSwap t a1 a2) := by
  unfold State.issueSwap; exact (.upd_10 (d.s rfl) (.upd_16 (d.s rfl) h))

theorem cpSwapped {a1 a2} (d : Has m 16777282) (h : Touch m s t) : Touch m s (State.cpSwapped t a1 a2) := by
  unfold State.cpSwapped; exact (.measCps (d.s rfl) (.raise (d.s rfl) (.putBit (d.s rfl) h)))

theorem newFirmware {a1 a2} (d : Has m 524288) (h : Touch m s t) : Touch m s (State.newFirmware t a1 a2) := by
  unfold State.newFirmware; (try dsimp only); split; exacts [h, (.loadCp (d.s rfl) h)]

theorem setAct {a1} (d : Has m 65536) (h : Touch m s t) : Touch m s (State.setAct t a1) := by
  unfold State.setAct; exact (.upd_16 (d.s rfl) h)

theorem actGo  (d : Has m 17368130) (h : Touch m s t) : Touch m s (State.actGo t) := by
  unfold State.actGo; (try dsimp only); split; exacts [(.setF (d.s rfl) h), (.ite (.actEnd (d.s rfl) (.setF (d.s rfl) h)) (.actDone (d.s rfl) (.foldl (fun _ _ h6 => (.issueSwap (d.s rfl) h6)) (.setAct (d.s rfl) (.foldl (fun _ _ h5 => (.cpSwapped (d.s rfl) (.newFirmware (d.s rfl) h5))) (.setF (d.s rfl) h))))))]

theorem execRecordAccept  (d : Has m 23723098) (h : Touch m s t) : TouchO m s (Machine.execRecordAccept t) := by
  unfold Machine.execRecordAccept; exact (.next (.ite (.actGo (d.s rfl) (.recordAccept (d.s rfl) h)) (.recordAccept (d.s rfl) h)))

theorem execCpQuiescent {a0} (d : Has m 17367106) (h : Touch m s t) : TouchO m s (Machine.execCpQuiescent a0 t) := by
  unfold Machine.execCpQuiescent; (try dsimp only); split; exacts [(.next h), (.iteO (.next h) (.iteO (.next (.actDone (d.s rfl) (.cpSwapped (d.s rfl) (.setAct (d.s rfl) (.newFirmware (d.s rfl) h))))) (.next (.setAct (d.s rfl) h))))]

theorem execCpSwap {a0} (d : Has m 19464258) (h : Touch m s t) : TouchO m s (Machine.execCpSwap a0 t) := by
  unfold Machine.execCpSwap; (try dsimp only); split; exacts [(.next h), (by (try dsimp only); split; exacts [(.next h), (.seqO (.seqO (.next (.actDone (d.s rfl) (.wakeBanks (d.s rfl) (.cpSwapped (d.s rfl) (.ite (.setCoreSt (d.s rfl) .refl) .refl))))) (.setCore (d.s rfl) .refl)) (.setAct (d.s rfl) (.newFirmware (d.s rfl) h)))])]

theorem execActivationTimeout  (d : Has m 65602) (h : Touch m s t) : TouchO m s (Machine.execActivationTimeout t) := by
  unfold Machine.execActivationTimeout; (try dsimp only); split; exacts [(.next h), (.iteO (.next h) (.next (.actEnd (d.s rfl) h)))]

theorem execPfTrip {a0 a1} (d : Has m 2720322) (h : Touch m s t) : TouchO m s (Machine.execPfTrip a0 a1 t) := by
  unfold Machine.execPfTrip; (try dsimp only); split; exacts [(.next (.pfTrip (d.s rfl) h)), (.iteO (.next (.pfTrip (d.s rfl) h)) (.next (.setAct (d.s rfl) (.foldl (fun _ _ h5 => (.raise (d.s rfl) (.setCoreSt (d.s rfl) (.setNoServe (d.s rfl) (.loadMem (d.s rfl) h5))))) (.pfTrip (d.s rfl) h)))))]

/-! ## Bus -/

theorem judge {a1 a2 a3} (d : Has m 524290) (h : Touch m s t) : Touch m s (State.judge t a1 a2 a3).2 := by
  unfold State.judge; (try dsimp only); split; exacts [(by (try dsimp only); split; exacts [(.snd (.err (d.s rfl) h)), (.ite2 (.snd (.setEntry (d.s rfl) h)) (.ite2 (.ite2 (.snd (.setEntry (d.s rfl) h)) (.snd h)) (.ite2 (.snd h) (.snd (.setEntry (d.s rfl) h)))))]), (.ite2 (.snd h) (.snd (.err (d.s rfl) h))), (.snd (.err (d.s rfl) h))]

theorem putFields {a1 a2 a3 a4 a5} (d : Has m 2) (h : Touch m s t) : Touch m s (State.putFields t a1 a2 a3 a4 a5) := by
  unfold State.putFields; exact (.foldl (fun _ _ h5 => (.ite h5 (by (try dsimp only); split; exacts [(.setF (d.s rfl) h5), (.setF (d.s rfl) h5), (.ite (.setF (d.s rfl) h5) (.err (d.s rfl) h5)), h5]))) h)

theorem stageWord {a1 a2 a3 a4} (d : Has m 524354) (h : Touch m s t) : Touch m s (State.stageWord t a1 a2 a3 a4) := by
  unfold State.stageWord; exact (.ite h (by (try dsimp only); split; exacts [(.stage (d.s rfl) h), (.ite (.err (d.s rfl) h) h)]))

theorem windowWrite {a1 a2 a3} (d : Has m 524290) (h : Touch m s t) : Touch m s (State.windowWrite t a1 a2 a3) := by
  unfold State.windowWrite; exact (.ite (.err (d.s rfl) h) (.ite h (.ite (.setDmem (d.s rfl) (.touchBank (d.s rfl) h)) (.setImem (d.s rfl) (.touchBank (d.s rfl) h)))))

theorem copyGo {a1} (d : Has m 33554498) (h : Touch m s t) : Touch m s (State.copyGo t a1) := by
  unfold State.copyGo; exact (.ite h (.ite (.raise (d.s rfl) (.setF (d.s rfl) (.setF (d.s rfl) (.setF (d.s rfl) (.setF (d.s rfl) h))))) (.setF (d.s rfl) (.upd_25 (d.s rfl) h))))

theorem writeHost {a1 a2 a3 a4 a5} (d : Has m 61734618) (h : Touch m s t) : Touch m s (State.writeHost t a1 a2 a3 a4 a5) := by
  unfold State.writeHost; exact (.ite (.putFields (d.s rfl) h) (.ite (.queueCtrl (d.s rfl) h) (.ite (.doorbell (d.s rfl) h) (.ite (.coreCtrl (d.s rfl) (.putFields (d.s rfl) h)) (.ite (.occur (d.s rfl) (.putFields (d.s rfl) h)) (.ite (.ite (.mpOp (d.s rfl) h) h) (.ite (.lockBreak (d.s rfl) h) (.ite (.seq (.ite (.lcGo (d.s rfl) .refl) .refl) (.putFields (d.s rfl) h)) (.ite (.ite (.keyGo (d.s rfl) h) h) (.ite (.ite (.dbgUnlock (d.s rfl) h) h) (.ite (.seq (.ite (.recJob (d.s rfl) .refl) .refl) (.putFields (d.s rfl) h)) (.ite (.seq (.ite (.xferGo (d.s rfl) .refl) .refl) (.putFields (d.s rfl) h)) (.ite (.cntInc (d.s rfl) h) (.ite (.seq (.ite (.activate_ (d.s rfl) .refl) .refl) (.putFields (d.s rfl) h)) (.ite (.putFields (d.s rfl) h) (.ite (.strudelWrite (d.s rfl) h) (.ite (.runJobs (d.s rfl) (.putFields (d.s rfl) h)) (.ite (.putFields (d.s rfl) h) (.ite (.submitJobs (d.s rfl) h) (.ite (.releaseEncoders (d.s rfl) h) (.ite (.setF (d.s rfl) (.putFields (d.s rfl) h)) (.ite (.ite (.arbApply (d.s rfl) h) h) (.ite (.bankRequest (d.s rfl) (.putFields (d.s rfl) h)) (.ite (.seq (.seq (.ite (.marchGo (d.s rfl) .refl) .refl) (.ite (.marchAbort (d.s rfl) .refl) .refl)) (.putFields (d.s rfl) h)) (.ite (.seq (.ite (.copyGo (d.s rfl) .refl) .refl) (.putFields (d.s rfl) h)) (.putFields (d.s rfl) h))))))))))))))))))))))))))

theorem writeRaster {a1 a2 a3 a4 a5} (d : Has m 33524434) (h : Touch m s t) : Touch m s (State.writeRaster t a1 a2 a3 a4 a5) := by
  unfold State.writeRaster; exact (.ite (.setF (d.s rfl) (.putFields (d.s rfl) h)) (.ite (.writeRun (d.s rfl) (.putFields (d.s rfl) h)) (.ite (.putFields (d.s rfl) h) (.ite (.writeSleep (d.s rfl) h) (.ite (.seq (.ite .refl (.checkPane (d.s rfl) .refl)) (.putFields (d.s rfl) h)) (.ite (.writeTldCtrl (d.s rfl) h) (.ite (.ite (.putFields (d.s rfl) h) (.putFields (d.s rfl) (.upd_17 (d.s rfl) h))) (.ite (.coreCtrl (d.s rfl) (.putFields (d.s rfl) h)) (.ite (.putFields (d.s rfl) h) (.ite (.occur (d.s rfl) (.putFields (d.s rfl) h)) (.ite (.upd_19 (d.s rfl) h) (.ite (.laneEn (d.s rfl) (.putFields (d.s rfl) h)) (.ite (.putFields (d.s rfl) h) (.ite (.checkLock (d.s rfl) (.laneTest (d.s rfl) (.putFields (d.s rfl) (.idleTo (d.s rfl) h)))) (.ite (.armInj (d.s rfl) (.putFields (d.s rfl) h)) (.ite (.lnkCmd (d.s rfl) h) (.ite (.seq (.ite (.upqPop (d.s rfl) .refl) .refl) (.putFields (d.s rfl) h)) (.ite (.spareCmd (d.s rfl) (.putFields (d.s rfl) h)) (.ite (.seq (.ite (.foldl (fun _ _ h5 => (.setF (d.s rfl) h5)) .refl) .refl) (.putFields (d.s rfl) h)) (.putFields (d.s rfl) h))))))))))))))))))))

theorem writeDrive {a1 a2 a3 a4 a5} (d : Has m 67108862) (h : Touch m s t) : Touch m s (State.writeDrive t a1 a2 a3 a4 a5) := by
  unfold State.writeDrive; exact (.ite (.writePwr (d.s rfl) h) (.ite (.putFields (d.s rfl) h) (.ite (.putFields (d.s rfl) h) (.ite (.putFields (d.s rfl) h) (.ite (.putFields (d.s rfl) h) (.ite (.railForce (d.s rfl) h) (.ite (.seq (.ite (.clearTripped (d.s rfl) .refl) .refl) (.putFields (d.s rfl) h)) (.ite (.seq (.seq (.seq (.ite (.bonSend (d.s rfl) .refl) .refl) (.ite (.bonExit (d.s rfl) .refl) .refl)) (.ite (.bonEnter (d.s rfl) .refl) .refl)) (.putFields (d.s rfl) h)) (.ite (.putFields (d.s rfl) h) (.ite (.setBisReg (d.s rfl) (.setBisReg (d.s rfl) h)) (.ite (.setBisReg (d.s rfl) (.setBisReg (d.s rfl) h)) (.ite (.bisReq2 (d.s rfl) h) (.ite (.ite (.journalScan (d.s rfl) (.putFields (d.s rfl) h)) (.putFields (d.s rfl) h)) (.ite (.calWrite (d.s rfl) h) (.ite (.calCmd (d.s rfl) h) (.ite (.foldWrite (d.s rfl) (.putFields (d.s rfl) h)) (.ite (.putFields (d.s rfl) h) (.ite (.putFields (d.s rfl) h) (.ite (.seq (.ite (.ringOn (d.s rfl) .refl) .refl) (.putFields (d.s rfl) h)) (.ite (.writeHead (d.s rfl) h) (.putFields (d.s rfl) h)))))))))))))))))))))

theorem regWrite {a1 a2 a3 a4} (d : Has m 67108862) (h : Touch m s t) : Touch m s (State.regWrite t a1 a2 a3 a4) := by
  unfold State.regWrite; exact (.seq (.ite (.writeHost (d.s rfl) .refl) (.ite (.writeRaster (d.s rfl) .refl) (.writeDrive (d.s rfl) .refl))) (.stageWord (d.s rfl) h))

theorem placeWrite {a1 a2 a3} (d : Has m 67108862) (h : Touch m s t) : Touch m s (State.placeWrite t a1 a2 a3) := by
  unfold State.placeWrite; exact (.ite (.nvWindow (d.s rfl) h) (.ite (.upd_21 (d.s rfl) h) (by (try dsimp only); split; exacts [(.windowWrite (d.s rfl) h), (by (try dsimp only); split; exacts [h, (.regWrite (d.s rfl) h)])])))

theorem busWrite {a1 a2 a3} (d : Has m 67108862) (h : Touch m s t) : Touch m s (State.busWrite t a1 a2 a3) := by
  unfold State.busWrite; exact (.ite h (.ite (.ite (.doorbell (d.s rfl) h) h) (.ite h (.ite (.setW1c (d.s rfl) h) (by (try dsimp only); split; exacts [(.wakeBanks (d.s rfl) (.placeWrite (d.s rfl) h)), (by (try dsimp only); split; exacts [(by rename_i h5; exact (.wakeBanks (d.s rfl) (.placeWrite (d.s rfl) (ofEq h5 (.judge (d.s rfl) h))))), (by rename_i h6; exact (ofEq h6 (.judge (d.s rfl) h)))])])))))

theorem readLo {a1 a2 a3} (d : Has m 4) (h : Touch m s t) : Touch m s (State.readLo t a1 a2 a3).2 := by
  unfold State.readLo; exact (.snd (.latchHi (d.s rfl) h))

theorem regRead {a1 a2 a3} (d : Has m 1048582) (h : Touch m s t) : Touch m s (State.regRead t a1 a2 a3).2 := by
  unfold State.regRead; exact (.ite2 (.snd h) (.ite2 (.snd h) (.ite2 (.readLo (d.s rfl) h) (.ite2 (.readLo (d.s rfl) h) (.ite2 (.readLo (d.s rfl) h) (.ite2 (.readLo (d.s rfl) h) (.ite2 (.readLo (d.s rfl) h) (.ite2 (.readLo (d.s rfl) h) (.ite2 (.snd h) (.ite2 (.snd h) (.ite2 (.snd h) (.ite2 (.snd h) (.ite2 (.snd h) (.ite2 (.snd h) (.ite2 (.snd h) (.ite2 (.snd h) (.ite2 (.upqData (d.s rfl) h) (.ite2 (.snd h) (.ite2 (.snd h) (.ite2 (.snd h) (.ite2 (.snd h) (.ite2 (.snd h) (.ite2 (.snd h) (.ite2 (.snd h) (.ite2 (.snd h) (.ite2 (.snd h) (.ite2 (.snd h) (.snd h))))))))))))))))))))))))))))

theorem placeRead {a1 a2} (d : Has m 1048582) (h : Touch m s t) : Touch m s (State.placeRead t a1 a2).2 := by
  unfold State.placeRead; exact (.ite2 (.snd h) (.ite2 (.snd h) (.ite2 (.snd h) (.ite2 (.snd h) (.ite2 (by (try dsimp only); split; exacts [(.snd h), (.snd h)]) (.ite2 (.snd h) (by (try dsimp only); split; exacts [(.snd (.touchBank (d.s rfl) h)), (by (try dsimp only); split; exacts [(.snd h), (.ite2 (.snd h) (.regRead (d.s rfl) h))])])))))))

theorem busRead {a1 a2} (d : Has m 1048582) (h : Touch m s t) : Touch m s (State.busRead t a1 a2).2 := by
  unfold State.busRead; exact (.ite2 (.snd h) (.placeRead (d.s rfl) h))

/-! ## RegRows -/

theorem rowWrite {a1 a2 a3 a4} (d : Has m 67108862) (h : Touch m s t) : TouchO m s (State.rowWrite t a1 a2 a3 a4) := by
  unfold State.rowWrite; exact (.iteO (.next (.busWrite (d.s rfl) h)) (.next h))

theorem rowRead {a1 a2 a3} (d : Has m 1048598) (h : Touch m s t) : TouchO m s (State.rowRead t a1 a2 a3) := by
  unfold State.rowRead; exact (.iteO (.next (.out (d.s rfl) (.busRead (a1 := a2) (a2 := a3) (d.s rfl) h))) (.next h))

/-! ## Copy -/

theorem unitRead {a1} (d : Has m 8) (h : Touch m s t) : Touch m s (State.unitRead t a1).2 := by
  unfold State.unitRead; exact (.ite2 (.snd (.draw (a1 := 256) (d.s rfl) h)) (.snd h))

theorem barBytes {a1} (d : Has m 1048582) (h : Touch m s t) : Touch m s (t.barBytes a1).2 :=
  .foldl2 (fun _ _ h => .busRead (d.s rfl) h) h

theorem barPut {a1 a2} (d : Has m 67108862) (h : Touch m s t) : Touch m s (State.barPut t a1 a2) := by
  unfold State.barPut; exact (.foldl (fun _ _ h5 => (.busWrite (d.s rfl) h5)) h)

theorem copyPiece {a1 a2} (d : Has m 67108862) (h : Touch m s t) : Touch m s (State.copyPiece t a1 a2) := by
  unfold State.copyPiece; exact (.ite (.devWrite (d.s rfl) (.ite2 (.unitRead (a1 := 256 * a1.sLoc + 32 * a2) (d.s rfl) h) (.barBytes (a1 := 4 * a1.sLoc + 32 * a2) (d.s rfl) h))) (.barPut (d.s rfl) (.ite2 (.unitRead (a1 := 256 * a1.sLoc + 32 * a2) (d.s rfl) h) (.barBytes (a1 := 4 * a1.sLoc + 32 * a2) (d.s rfl) h))))

theorem execCopyDone {a0 a1 a2} (d : Has m 67108862) (h : Touch m s t) : TouchO m s (Machine.execCopyDone a0 a1 a2 t) := by
  unfold Machine.execCopyDone; (try dsimp only); split; exacts [(.next h), (.iteO (.next h) (.iteO (.next (.readGate (a1 := Bool.false) (d.s rfl) h)) (.seqO (.next (.raise (d.s rfl) (.setF (d.s rfl) (.setF (d.s rfl) (.setF (d.s rfl) (.setF (d.s rfl) (.setF (d.s rfl) (.ite (.refused (d.s rfl) .refl) (.ite (.deferred (d.s rfl) .refl) .refl))))))))) (.foldl (fun _ _ h100005 => (.copyPiece (d.s rfl) h100005)) (.upd_25 (d.s rfl) (.readGate (a1 := Bool.false) (d.s rfl) h))))))]

/-! ## Slots -/

theorem giveSeq {a1 a2 a3 a4} (d : Has m 1048576) (h : Touch m s t) : Touch m s (State.giveSeq t a1 a2 a3 a4).2 := by
  unfold State.giveSeq; (try dsimp only); split; exacts [(.snd h), (.snd (.setPkt (d.s rfl) (.setNextSeq (d.s rfl) h)))]

theorem sendSeg {a1 a2 a3 a4} (d : Has m 1048666) (h : Touch m s t) : Touch m s (State.sendSeg t a1 a2 a3 a4).2.2 := by
  unfold State.sendSeg; (try dsimp only); split; exacts [(.snd2 h), (.seq (.seq (.seq (.snd2 (.ite (.boundary (d.s rfl) .refl) .refl)) (.ite (.setPkt (d.s rfl) .refl) (.ite (.dropPkt (d.s rfl) .refl) (.setPkt (d.s rfl) .refl)))) (.sendPkt (d.s rfl) .refl)) (.ite (.count (d.s rfl) (.giveSeq (a1 := a1) (a2 := a2) (a3 := a3) (d.s rfl) h)) (.giveSeq (a1 := a1) (a2 := a2) (a3 := a3) (d.s rfl) h)))]

theorem fillFrom {a0 a1 a2 a3 a4 a5} (d : Has m 1048666) (h : Touch m s t) : Touch m s (Machine.fillFrom a0 a1 a2 a3 a4 a5 t).2 := by
  induction a4 generalizing t a5 with
  | zero => exact h
  | succ n ih =>
    unfold Machine.fillFrom
    split
    · exact h
    · split
      · exact h
      · dsimp only
        split
        · exact ih (.sendSeg (d.s rfl) h)
        · exact .sendSeg (d.s rfl) h

theorem fillShared {a1 a2 a3 a4 a5 a6} (d : Has m 9437274) (h : Touch m s t) : Touch m s (Machine.fillShared a1 a2 a3 a4 a5 a6 t) := by
  induction a4 generalizing t a5 a6 with
  | zero => exact h
  | succ n ih =>
    unfold Machine.fillShared
    refine .ite h ?_
    split
    · rename_i e
      have g := ofEq e (.arbRound (d.s rfl) h)
      split
      · exact g
      · exact ih (.sendSeg (d.s rfl) g)
    · rename_i e; exact .fillFrom (d.s rfl) (ofEq e (.arbRound (d.s rfl) h))

theorem countTimers {a1 a2 a3} (d : Has m 1048576) (h : Touch m s t) : Touch m s (State.countTimers t a1 a2 a3) := by
  unfold State.countTimers; exact (.foldl (fun _ _ h5 => (.ite (.setPq (d.s rfl) h5) h5)) h)

theorem fillSlot {a1 a2 a3 a4 a5} (d : Has m 9437274) (h : Touch m s t) : Touch m s (State.fillSlot t a1 a2 a3 a4 a5) := by
  unfold State.fillSlot; exact (.seq (.ite (.fillShared (d.s rfl) .refl) (.fillFrom (d.s rfl) .refl)) (.countTimers (d.s rfl) h))

theorem underrun {a1 a2 a3 a4} (d : Has m 131650) (h : Touch m s t) : Touch m s (State.underrun t a1 a2 a3 a4) := by
  unfold State.underrun; exact (.seq (.setGrp (d.s rfl) (.upd_17 (d.s rfl) (.ite .refl (.raiseG (d.s rfl) .refl)))) (.ite h (.count (d.s rfl) h)))

theorem bisCodes {a0 a1 a2 a3 a4} (d : Has m 2097162) (h : Touch m s t) : Touch m s (Machine.bisCodes a0 a1 a2 a3 a4 t).2 := by
  induction a4 generalizing t with
  | nil => exact h
  | cons x xs ih =>
    unfold Machine.bisCodes
    refine ih ?_
    split
    · exact h
    · exact .bisCode (d.s rfl) h

theorem sendPix {a1 a2 a3 a4} (d : Has m 3277402) (h : Touch m s t) : Touch m s (State.sendPix t a1 a2 a3 a4) := by
  unfold State.sendPix; exact (.seq (.ite (.sendPkt (d.s rfl) (.bisCodes (a0 := a1) (a1 := (t.grp a1).line) (a2 := (t.grp a1).frame) (a3 := (t.grp a1).tripLine) (a4 := List.map (fun i => t.f (Sys2Proof.Machine.fSLTA_COL0 a2 a3) + i) (List.range (t.f (Sys2Proof.Machine.fSLTA_NCOL a2 a3)))) (d.s rfl) .refl)) (.sendPkt (d.s rfl) .refl)) (by (try dsimp only); split; exacts [(.underrun (d.s rfl) h), h]))

theorem setTxEnd {a1 a2} (d : Has m 1048576) (h : Touch m s t) : Touch m s (State.setTxEnd t a1 a2) := by
  unfold State.setTxEnd; exact (.foldl (fun _ _ h5 => (.setLn (d.s rfl) h5)) h)

theorem sendSlot {a1 a2 a3 a4} (d : Has m 11666010) (h : Touch m s t) : Touch m s (State.sendSlot t a1 a2 a3 a4) := by
  unfold State.sendSlot; exact (.ite h (.seq (.seq (.sendCtl (d.s rfl) (.setTxEnd (d.s rfl) (.idleChain (d.s rfl) (.ite (.ite .refl (.sendPix (d.s rfl) .refl)) (.fillSlot (d.s rfl) .refl))))) (.sendCtl (d.s rfl) .refl)) (.setTxEnd (d.s rfl) (.idleChain (d.s rfl) h))))

theorem execSlotStart {a0 a1} (d : Has m 11666010) (h : Touch m s t) : TouchO m s (Machine.execSlotStart a0 a1 t) := by
  unfold Machine.execSlotStart; (try dsimp only); split; exacts [(.next h), (.iteO (.next h) (.next (.sendSlot (d.s rfl) (.setLn (d.s rfl) h))))]

theorem freePkt {a1} (d : Has m 8388608) (h : Touch m s t) : Touch m s (State.freePkt t a1).2 := by
  unfold State.freePkt; (try dsimp only); split; exacts [(by rename_i h5; exact (.snd (ofEq h5 (.arbRound (d.s rfl) h)))), (by rename_i h6; exact (.snd (ofEq h6 (.arbRound (d.s rfl) h))))]

theorem idle16 {a1} (d : Has m 1048592) (h : Touch m s t) : Touch m s (State.idle16 t a1) := by
  unfold State.idle16; exact (.foldl (fun _ _ h5 => (.idleTo (d.s rfl) h5)) h)

theorem execFreeSlot {a0} (d : Has m 9437274) (h : Touch m s t) : TouchO m s (Machine.execFreeSlot a0 t) := by
  unfold Machine.execFreeSlot; (try dsimp only); split; exacts [(.next h), (.iteO (.next h) (by (try dsimp only); split; exacts [(by rename_i h5; exact (.next h)), (by rename_i h6; exact (by (try dsimp only); split; exacts [(.next (ofEq h6 (.freePkt (d.s rfl) h))), (.next (.sendCtl (d.s rfl) (.idle16 (d.s rfl) (.sendSeg (a1 := a0) (a4 := 64) (d.s rfl) (.sendCtl (d.s rfl) (.foldl (fun _ _ h100007 => (.idleTo (d.s rfl) h100007)) (.countTimers (d.s rfl) (ofEq h6 (.freePkt (d.s rfl) h)))))))))]))]))]

/-! ## Operands -/

theorem setG {a1 a2 a3} (d : Has m 524288) (h : Touch m s t) : Touch m s (State.setG t a1 a2 a3) := by
  unfold State.setG; exact (.ite h (.setCore (d.s rfl) h))

theorem issue {o mine run} (d : Has m 8946370) (h : Touch m s t) (hr : ∀ i t, Touch m s t → Touch m s (run i t)) : TouchO m s (t.issue o mine run) := by
  unfold State.issue
  exact .iteO (.next h) (.iteO (.next (.coreFault (d.s rfl) h)) (.iteO (.next (.coreFault (d.s rfl) h)) (.iteO (.next h) (.next (hr _ _ (.setCore (d.s rfl) h))))))

theorem atEnd {a1} (d : Has m 8946370) (h : Touch m s t) : Touch m s (State.atEnd t a1) := by
  unfold State.atEnd; (try dsimp only); split; exacts [h, (.ite h (.entryEnd (d.s rfl) (.setCoreSt (d.s rfl) (.setCore (d.s rfl) h))))]

theorem goOn {a1 a2 a3} (d : Has m 8946370) (h : Touch m s t) : Touch m s (State.goOn t a1 a2 a3) := by
  unfold State.goOn; exact (.atEnd (d.s rfl) (.setCore (d.s rfl) h))

theorem retire {a1 a2} (d : Has m 8946370) (h : Touch m s t) : Touch m s (State.retire t a1 a2) := by
  unfold State.retire; exact (.goOn (d.s rfl) h)

theorem jump {a1 a2} (d : Has m 8946370) (h : Touch m s t) : Touch m s (State.jump t a1 a2) := by
  unfold State.jump; exact (.goOn (d.s rfl) h)

theorem retireHot {a1 a2} (d : Has m 8946370) (h : Touch m s t) : Touch m s (State.retireHot t a1 a2) := by
  unfold State.retireHot; exact (.setCore (d.s rfl) (.retire (d.s rfl) h))

theorem localRead {a1 a2 v u} (d : Has m 524288) (h : Touch m s t) (e : t.localRead a1 a2 = some (v, u)) : Touch m s u := by
  unfold State.localRead at e
  dsimp only at e
  split at e
  · cases e
  · split at e
    · cases e; exact h
    · split at e <;> cases e <;> first | exact h | exact .setCore (d.s rfl) h

theorem localWrite {a1 a2 a3 u} (d : Has m 524288) (h : Touch m s t) (e : t.localWrite a1 a2 a3 = some u) : Touch m s u := by
  unfold State.localWrite at e
  split at e
  · cases e
  · split at e
    · cases e; exact .setDmem (d.s rfl) h
    · split at e
      · cases e; exact .setCore (d.s rfl) h
      · cases e

/-! ## Flags -/

theorem setFlag {a1 a2 a3} (d : Has m 524288) (h : Touch m s t) : Touch m s (State.setFlag t a1 a2 a3) := by
  unfold State.setFlag; exact (.setCore (d.s rfl) h)

/-! ## ThoeneAlu -/

theorem aluRun {a0 a1 a2 a3} (d : Has m 8946370) (h : Touch m s t) : Touch m s (Machine.aluRun a0 a1 a2 a3 t) := by
  unfold Machine.aluRun; exact (.retire (d.s rfl) (.setG (d.s rfl) h))

theorem cmpRun {a0 a1} (d : Has m 8946370) (h : Touch m s t) : Touch m s (Machine.cmpRun a0 a1 t) := by
  unfold Machine.cmpRun; exact (.retire (d.s rfl) (.setFlag (d.s rfl) h))

theorem execNop {a0} (d : Has m 8946370) (h : Touch m s t) : TouchO m s (Machine.execNop a0 t) := by
  unfold Machine.execNop; exact (.issue (d.s rfl) h (fun _ _ h5 => (.retire (d.s rfl) h5)))

theorem execAdd {a0} (d : Has m 8946370) (h : Touch m s t) : TouchO m s (Machine.execAdd a0 t) := by
  unfold Machine.execAdd; exact (.issue (d.s rfl) h (fun _ _ h5 => (.aluRun (d.s rfl) h5)))

theorem execSub {a0} (d : Has m 8946370) (h : Touch m s t) : TouchO m s (Machine.execSub a0 t) := by
  unfold Machine.execSub; exact (.issue (d.s rfl) h (fun _ _ h5 => (.aluRun (d.s rfl) h5)))

theorem execAnd {a0} (d : Has m 8946370) (h : Touch m s t) : TouchO m s (Machine.execAnd a0 t) := by
  unfold Machine.execAnd; exact (.issue (d.s rfl) h (fun _ _ h5 => (.aluRun (d.s rfl) h5)))

theorem execOr {a0} (d : Has m 8946370) (h : Touch m s t) : TouchO m s (Machine.execOr a0 t) := by
  unfold Machine.execOr; exact (.issue (d.s rfl) h (fun _ _ h5 => (.aluRun (d.s rfl) h5)))

theorem execXor {a0} (d : Has m 8946370) (h : Touch m s t) : TouchO m s (Machine.execXor a0 t) := by
  unfold Machine.execXor; exact (.issue (d.s rfl) h (fun _ _ h5 => (.aluRun (d.s rfl) h5)))

theorem execShl {a0} (d : Has m 8946370) (h : Touch m s t) : TouchO m s (Machine.execShl a0 t) := by
  unfold Machine.execShl; exact (.issue (d.s rfl) h (fun _ _ h5 => (.aluRun (d.s rfl) h5)))

theorem execShr {a0} (d : Has m 8946370) (h : Touch m s t) : TouchO m s (Machine.execShr a0 t) := by
  unfold Machine.execShr; exact (.issue (d.s rfl) h (fun _ _ h5 => (.aluRun (d.s rfl) h5)))

theorem execSra {a0} (d : Has m 8946370) (h : Touch m s t) : TouchO m s (Machine.execSra a0 t) := by
  unfold Machine.execSra; exact (.issue (d.s rfl) h (fun _ _ h5 => (.aluRun (d.s rfl) h5)))

theorem execMin {a0} (d : Has m 8946370) (h : Touch m s t) : TouchO m s (Machine.execMin a0 t) := by
  unfold Machine.execMin; exact (.issue (d.s rfl) h (fun _ _ h5 => (.aluRun (d.s rfl) h5)))

theorem execMax {a0} (d : Has m 8946370) (h : Touch m s t) : TouchO m s (Machine.execMax a0 t) := by
  unfold Machine.execMax; exact (.issue (d.s rfl) h (fun _ _ h5 => (.aluRun (d.s rfl) h5)))

theorem execMul16 {a0} (d : Has m 8946370) (h : Touch m s t) : TouchO m s (Machine.execMul16 a0 t) := by
  unfold Machine.execMul16; exact (.issue (d.s rfl) h (fun _ _ h5 => (.retireHot (d.s rfl) (.setG (d.s rfl) h5))))

theorem execCmp {a0} (d : Has m 8946370) (h : Touch m s t) : TouchO m s (Machine.execCmp a0 t) := by
  unfold Machine.execCmp; exact (.issue (d.s rfl) h (fun _ _ h5 => (.cmpRun (d.s rfl) h5)))

theorem execLdi {a0} (d : Has m 8946370) (h : Touch m s t) : TouchO m s (Machine.execLdi a0 t) := by
  unfold Machine.execLdi; exact (.issue (d.s rfl) h (fun _ _ h5 => (.aluRun (d.s rfl) h5)))

theorem execLui {a0} (d : Has m 8946370) (h : Touch m s t) : TouchO m s (Machine.execLui a0 t) := by
  unfold Machine.execLui; exact (.issue (d.s rfl) h (fun _ _ h5 => (.aluRun (d.s rfl) h5)))

/-! ## ThoeneFlow -/

theorem branchRun {a0 a1} (d : Has m 8946370) (h : Touch m s t) : Touch m s (Machine.branchRun a0 a1 t) := by
  unfold Machine.branchRun; exact (.ite (.jump (d.s rfl) h) (.retire (d.s rfl) h))

theorem execBeq {a0} (d : Has m 8946370) (h : Touch m s t) : TouchO m s (Machine.execBeq a0 t) := by
  unfold Machine.execBeq; exact (.issue (d.s rfl) h (fun _ _ h5 => (.branchRun (d.s rfl) h5)))

theorem execBne {a0} (d : Has m 8946370) (h : Touch m s t) : TouchO m s (Machine.execBne a0 t) := by
  unfold Machine.execBne; exact (.issue (d.s rfl) h (fun _ _ h5 => (.branchRun (d.s rfl) h5)))

theorem execBlt {a0} (d : Has m 8946370) (h : Touch m s t) : TouchO m s (Machine.execBlt a0 t) := by
  unfold Machine.execBlt; exact (.issue (d.s rfl) h (fun _ _ h5 => (.branchRun (d.s rfl) h5)))

theorem execBge {a0} (d : Has m 8946370) (h : Touch m s t) : TouchO m s (Machine.execBge a0 t) := by
  unfold Machine.execBge; exact (.issue (d.s rfl) h (fun _ _ h5 => (.branchRun (d.s rfl) h5)))

theorem execJ {a0} (d : Has m 8946370) (h : Touch m s t) : TouchO m s (Machine.execJ a0 t) := by
  unfold Machine.execJ; exact (.issue (d.s rfl) h (fun _ _ h5 => (.jump (d.s rfl) h5)))

theorem execCall {a0} (d : Has m 8946370) (h : Touch m s t) : TouchO m s (Machine.execCall a0 t) := by
  unfold Machine.execCall; exact (.issue (d.s rfl) h (fun _ _ h5 => (.ite (.coreFault (d.s rfl) h5) (.jump (d.s rfl) (.setCore (d.s rfl) h5)))))

theorem execRet {a0} (d : Has m 8946370) (h : Touch m s t) : TouchO m s (Machine.execRet a0 t) := by
  unfold Machine.execRet; exact (.issue (d.s rfl) h (fun _ _ h5 => (by (try dsimp only); split; exacts [(.coreFault (d.s rfl) h5), (.jump (d.s rfl) (.setCore (d.s rfl) h5))])))

theorem execHalt {a0} (d : Has m 8946370) (h : Touch m s t) : TouchO m s (Machine.execHalt a0 t) := by
  unfold Machine.execHalt; exact (.issue (d.s rfl) h (fun _ _ h5 => (.seq (.setCoreSt (d.s rfl) (.ownerFail (d.s rfl) (.ite (.setNoServe (d.s rfl) (.entryEnd (d.s rfl) .refl)) .refl))) (.setCore (d.s rfl) h5))))

theorem execReservedOpcode {a0} (d : Has m 8946370) (h : Touch m s t) : TouchO m s (Machine.execReservedOpcode a0 t) := by
  unfold Machine.execReservedOpcode; exact (.iteO (.next h) (.iteO (.next (.coreFault (d.s rfl) h)) (.iteO (.next (.coreFault (d.s rfl) h)) (.next h))))

theorem execWatchdogExpiry {a0} (d : Has m 8946370) (h : Touch m s t) : TouchO m s (Machine.execWatchdogExpiry a0 t) := by
  unfold Machine.execWatchdogExpiry; exact (.iteO (.next (.coreFault (d.s rfl) h)) (.next h))

theorem execPfVector  (d : Has m 28836546) (h : Touch m s t) : TouchO m s (Machine.execPfVector t) := by
  unfold Machine.execPfVector; exact (.iteO (.next (.wakeBanks (d.s rfl) (.foldl (fun _ _ h5 => (.pfVector (d.s rfl) h5)) h))) (.next h))

/-! ## ThoeneMem -/

theorem execLd {a0} (d : Has m 8946370) (h : Touch m s t) : TouchO m s (Machine.execLd a0 t) := by
  unfold Machine.execLd
  refine .issue (d.s rfl) h fun i t h => ?_
  split
  · exact .coreFault (d.s rfl) h
  · rename_i e; exact .retireHot (d.s rfl) (.setG (d.s rfl) (.localRead (d.s rfl) h e))

theorem execSt {a0} (d : Has m 8946370) (h : Touch m s t) : TouchO m s (Machine.execSt a0 t) := by
  unfold Machine.execSt
  refine .issue (d.s rfl) h fun i t h => ?_
  split
  · exact .coreFault (d.s rfl) h
  · rename_i e; exact .retire (d.s rfl) (.localWrite (d.s rfl) h e)

theorem ldxRun {a0 a1} (d : Has m 9994950) (h : Touch m s t) : Touch m s (Machine.ldxRun a0 a1 t) := by
  unfold Machine.ldxRun; exact (.ite (.coreFault (d.s rfl) h) (.ite (.setCore (d.s rfl) h) (.retire (d.s rfl) (.setG (d.s rfl) (.busRead (a1 := Sys2Proof.Req.core a0) (a2 := t.address a0 a1) (d.s rfl) h)))))

theorem stxRun {a0 a1} (d : Has m 67108862) (h : Touch m s t) : Touch m s (Machine.stxRun a0 a1 t) := by
  unfold Machine.stxRun; exact (.ite (.coreFault (d.s rfl) h) (.ite h (.seq (.ite (.retire (d.s rfl) .refl) .refl) (.busWrite (d.s rfl) h))))

theorem execLdx {a0} (d : Has m 9994950) (h : Touch m s t) : TouchO m s (Machine.execLdx a0 t) := by
  unfold Machine.execLdx; exact (.issue (d.s rfl) h (fun _ _ h5 => (.ldxRun (d.s rfl) h5)))

theorem execStx {a0} (d : Has m 67108862) (h : Touch m s t) : TouchO m s (Machine.execStx a0 t) := by
  unfold Machine.execStx; exact (.issue (d.s rfl) h (fun _ _ h5 => (.stxRun (d.s rfl) h5)))

theorem execLdxDone {a0} (d : Has m 9994950) (h : Touch m s t) : TouchO m s (Machine.execLdxDone a0 t) := by
  unfold Machine.execLdxDone; (try dsimp only); split; exacts [(.next (.retire (d.s rfl) (.setG (d.s rfl) (.busRead (a1 := Sys2Proof.Req.core a0) (d.s rfl) h)))), (.next h)]

/-! ## ThoeneWait -/

theorem waitDone {a1 a2 a3} (d : Has m 8946370) (h : Touch m s t) : Touch m s (State.waitDone t a1 a2 a3) := by
  unfold State.waitDone; exact (.retire (d.s rfl) (.setCore (d.s rfl) (.setCoreSt (d.s rfl) (.setFlag (d.s rfl) h))))

theorem park {a1 a2} (d : Has m 524354) (h : Touch m s t) : Touch m s (State.park t a1 a2) := by
  unfold State.park; exact (.setCoreSt (d.s rfl) (.setCore (d.s rfl) h))

theorem lineStart {a1} (d : Has m 8) (h : Touch m s t) : Touch m s (State.lineStart t a1).2 := by
  unfold State.lineStart; exact (.ite2 (.snd h) (.draw (d.s rfl) h))

theorem execWaitl {a0} (d : Has m 8946370) (h : Touch m s t) : TouchO m s (Machine.execWaitl a0 t) := by
  unfold Machine.execWaitl; exact (.issue (d.s rfl) h (fun _ _ h5 => (.ite h5 (.ite (.waitDone (d.s rfl) h5) (.park (d.s rfl) h5)))))

theorem execWaitlDone {a0} (d : Has m 8946370) (h : Touch m s t) : TouchO m s (Machine.execWaitlDone a0 t) := by
  unfold Machine.execWaitlDone; (try dsimp only); split; exacts [(.next (.waitDone (d.s rfl) h)), (.next h)]

theorem execWaitc {a0} (d : Has m 8946370) (h : Touch m s t) : TouchO m s (Machine.execWaitc a0 t) := by
  unfold Machine.execWaitc; exact (.issue (d.s rfl) h (fun _ _ h5 => (.ite (.waitDone (d.s rfl) h5) (.park (d.s rfl) h5))))

theorem execWaitcDone {a0} (d : Has m 8946370) (h : Touch m s t) : TouchO m s (Machine.execWaitcDone a0 t) := by
  unfold Machine.execWaitcDone; (try dsimp only); split; exacts [(by (try dsimp only); split; exacts [(.next (.waitDone (d.s rfl) h)), (.iteO (.next (.waitDone (d.s rfl) h)) (.next h))]), (.next h)]

theorem execWaite {a0} (d : Has m 8946370) (h : Touch m s t) : TouchO m s (Machine.execWaite a0 t) := by
  unfold Machine.execWaite; exact (.issue (d.s rfl) h (fun _ _ h5 => (.ite (.waitDone (d.s rfl) (.putBit (d.s rfl) h5)) (.park (d.s rfl) h5))))

theorem waitExpire {a1 a2 a3 a4} (d : Has m 8946370) (h : Touch m s t) : Touch m s (State.waitExpire t a1 a2 a3 a4) := by
  unfold State.waitExpire; exact (.setCore (d.s rfl) (.waitDone (d.s rfl) h))

theorem execWaiteDone {a0} (d : Has m 8946370) (h : Touch m s t) : TouchO m s (Machine.execWaiteDone a0 t) := by
  unfold Machine.execWaiteDone; (try dsimp only); split; exacts [(by (try dsimp only); split; exacts [(.next (.waitDone (d.s rfl) h)), (.iteO (.next (.waitExpire (d.s rfl) h)) (.next h)), (.next h)]), (.next h)]

theorem waittRun {a0 a1} (d : Has m 8946378) (h : Touch m s t) : Touch m s (Machine.waittRun a0 a1 t) := by
  unfold Machine.waittRun; exact (.ite (.waitDone (d.s rfl) (by (try dsimp only); split; exacts [(.snd h), (.snd (.lineStart (a1 := t.coreGroup a0) (d.s rfl) h)), (.snd h)])) (.park (d.s rfl) (by (try dsimp only); split; exacts [(.snd h), (.snd (.lineStart (a1 := t.coreGroup a0) (d.s rfl) h)), (.snd h)])))

theorem execWaitt {a0} (d : Has m 8946378) (h : Touch m s t) : TouchO m s (Machine.execWaitt a0 t) := by
  unfold Machine.execWaitt; exact (.issue (d.s rfl) h (fun _ _ h5 => (.waittRun (d.s rfl) h5)))

theorem execWaittDone {a0} (d : Has m 8946370) (h : Touch m s t) : TouchO m s (Machine.execWaittDone a0 t) := by
  unfold Machine.execWaittDone; (try dsimp only); split; exacts [(.iteO (.next (.waitDone (d.s rfl) h)) (.next h)), (.next h)]

theorem fenceEnd {a1} (d : Has m 8946370) (h : Touch m s t) : Touch m s (State.fenceEnd t a1) := by
  unfold State.fenceEnd; exact (.retire (d.s rfl) (.setCoreSt (d.s rfl) h))

theorem execFence {a0} (d : Has m 8946370) (h : Touch m s t) : TouchO m s (Machine.execFence a0 t) := by
  unfold Machine.execFence; exact (.issue (d.s rfl) h (fun _ _ h5 => (.ite (.retire (d.s rfl) h5) (.park (d.s rfl) h5))))

theorem execFenceDone {a0} (d : Has m 8946370) (h : Touch m s t) : TouchO m s (Machine.execFenceDone a0 t) := by
  unfold Machine.execFenceDone; (try dsimp only); split; exacts [(.iteO (.next (.fenceEnd (d.s rfl) h)) (.next h)), (.next h)]

theorem execLForm {a0} (d : Has m 67108862) (h : Touch m s t) : TouchO m s (Machine.execLForm a0 t) := by
  unfold Machine.execLForm; exact (.issue (d.s rfl) h (fun _ _ h5 => (by (try dsimp only); split; exacts [(.aluRun (d.s rfl) h5), (.aluRun (d.s rfl) h5), (.aluRun (d.s rfl) h5), (.aluRun (d.s rfl) h5), (.aluRun (d.s rfl) h5), (.aluRun (d.s rfl) h5), (.aluRun (d.s rfl) h5), (.cmpRun (d.s rfl) h5), (.ldxRun (d.s rfl) h5), (.stxRun (d.s rfl) h5), (.waittRun (d.s rfl) h5)])))

/-! ## ThoeneEmit -/

theorem emitRun {a0 a1 a2} (d : Has m 9994946) (h : Touch m s t) : Touch m s (Machine.emitRun a0 a1 a2 t) := by
  unfold Machine.emitRun; (try dsimp only); split; exacts [(.coreFault (d.s rfl) h), (.ite (.coreFault (d.s rfl) h) (.ite (.retire (d.s rfl) (.setFlag (d.s rfl) h)) (by (try dsimp only); split; exacts [(by rename_i h100005; exact (.retire (d.s rfl) (.setFlag (d.s rfl) (ofEq h100005 (.enqueue (a1 := Sys2Proof.Machine.bitsOf (BitVec.toNat (t.gw a0 a2.b)) 11 4) (a2 := BitVec.toNat (t.gw a0 a2.b) % 16) (d.s rfl) (.ite (.partnerReset (d.s rfl) h) h)))))), (by rename_i h100006; exact (.retire (d.s rfl) (.setFlag (d.s rfl) (ofEq h100006 (.enqueue (a1 := Sys2Proof.Machine.bitsOf (BitVec.toNat (t.gw a0 a2.b)) 11 4) (a2 := BitVec.toNat (t.gw a0 a2.b) % 16) (d.s rfl) (.ite (.partnerReset (d.s rfl) h) h))))))])))]

theorem execEmit {a0 a1} (d : Has m 9994946) (h : Touch m s t) : TouchO m s (Machine.execEmit a0 a1 t) := by
  unfold Machine.execEmit; exact (.issue (d.s rfl) h (fun _ _ h5 => (.emitRun (d.s rfl) h5)))

theorem gateRun {a0 a1 a2 a3} (d : Has m 8946378) (h : Touch m s t) : Touch m s (Machine.gateRun a0 a1 a2 a3 t) := by
  unfold Machine.gateRun; exact (.ite (.coreFault (d.s rfl) h) (.ite h (.ite h (.retire (d.s rfl) (.foldl (fun _ _ h100005 => (.schedule (d.s rfl) h100005)) (.ite2 (.snd h) (.lineStart (a1 := t.coreGroup a0) (d.s rfl) h)))))))

theorem execGset {a0} (d : Has m 8946378) (h : Touch m s t) : TouchO m s (Machine.execGset a0 t) := by
  unfold Machine.execGset; exact (.issue (d.s rfl) h (fun _ _ h5 => (.gateRun (d.s rfl) h5)))

theorem execGclr {a0} (d : Has m 8946378) (h : Touch m s t) : TouchO m s (Machine.execGclr a0 t) := by
  unfold Machine.execGclr; exact (.issue (d.s rfl) h (fun _ _ h5 => (.gateRun (d.s rfl) h5)))

theorem execGpulse {a0} (d : Has m 8946378) (h : Touch m s t) : TouchO m s (Machine.execGpulse a0 t) := by
  unfold Machine.execGpulse; exact (.issue (d.s rfl) h (fun _ _ h5 => (.gateRun (d.s rfl) h5)))

theorem execEvent {a0} (d : Has m 8946370) (h : Touch m s t) : TouchO m s (Machine.execEvent a0 t) := by
  unfold Machine.execEvent; exact (.issue (d.s rfl) h (fun _ _ h5 => (.ite h5 (.retire (d.s rfl) (.raise (d.s rfl) h5)))))

/-! ## ThoeneTxn -/

theorem commitFrom {a1 a2} (d : Has m 33261250) (h : Touch m s t) : Touch m s (State.commitFrom t a1 a2) := by
  unfold State.commitFrom; exact (.ite (.arriveCommit (d.s rfl) h) (by (try dsimp only); split; exacts [(.setEntry (d.s rfl) (.upd_10 (d.s rfl) h)), (.upd_10 (d.s rfl) h)]))

theorem lockRound {a1 a2} (d : Has m 8388608) (h : Touch m s t) : Touch m s (State.lockRound t a1 a2).2 := by
  unfold State.lockRound
  split
  rename_i e
  exact .ite2 (.snd (ofEq e (.arbRound (d.s rfl) h))) (.snd h)

theorem lockRun {a0 a1 a2 a3} (d : Has m 8946370) (h : Touch m s t) : Touch m s (Machine.lockRun a0 a1 a2 a3 t) := by
  unfold Machine.lockRun; (try dsimp only); split; exacts [(by rename_i h5; exact (ofEq h5 (.ite2 (.lockRound (d.s rfl) h) (.snd h)))), (by rename_i h6; exact (.retire (d.s rfl) (.setFlag (d.s rfl) (.setG (d.s rfl) (.lockTake (a1 := t.owner a0) (a2 := a3) (d.s rfl) (ofEq h6 (.ite2 (.lockRound (d.s rfl) h) (.snd h))))))))]

theorem txnRun {a0 a1 a2 a3 a4} (d : Has m 33261250) (h : Touch m s t) : Touch m s (Machine.txnRun a0 a1 a2 a3 a4 t) := by
  unfold Machine.txnRun; (try dsimp only); split; exacts [(.retire (d.s rfl) (.setFlag (d.s rfl) (.txnBegin (a1 := t.owner a0) (d.s rfl) h))), (.ite h (by (try dsimp only); split; exacts [(by rename_i h5; exact (.retire (d.s rfl) (.setFlag (d.s rfl) (.setG (d.s rfl) (ofEq h5 (.txnCommit (d.s rfl) h)))))), (by rename_i h6; exact (.seq (.ite (.retire (d.s rfl) .refl) .refl) (.setFlag (d.s rfl) (.setG (d.s rfl) (.commitFrom (d.s rfl) (ofEq h6 (.txnCommit (d.s rfl) h)))))))])), (.retire (d.s rfl) (.txnAbort (d.s rfl) h)), (.lockRun (d.s rfl) h), (.retire (d.s rfl) (.setFlag (d.s rfl) (.lockFree (a1 := t.owner a0) (a2 := a3 % 1024) (d.s rfl) h)))]

theorem txnIssue {a0 a1} (d : Has m 33261250) (h : Touch m s t) : Touch m s (Machine.txnIssue a0 a1 t) := by
  unfold Machine.txnIssue; exact (.ite (.coreFault (d.s rfl) h) (.ite (.setCore (d.s rfl) h) (.txnRun (d.s rfl) h)))

theorem execTbegin {a0} (d : Has m 33261250) (h : Touch m s t) : TouchO m s (Machine.execTbegin a0 t) := by
  unfold Machine.execTbegin; exact (.issue (d.s rfl) h (fun _ _ h5 => (.txnIssue (d.s rfl) h5)))

theorem execCommit {a0} (d : Has m 33261250) (h : Touch m s t) : TouchO m s (Machine.execCommit a0 t) := by
  unfold Machine.execCommit; exact (.issue (d.s rfl) h (fun _ _ h5 => (.txnIssue (d.s rfl) h5)))

theorem execAbort {a0} (d : Has m 33261250) (h : Touch m s t) : TouchO m s (Machine.execAbort a0 t) := by
  unfold Machine.execAbort; exact (.issue (d.s rfl) h (fun _ _ h5 => (.txnIssue (d.s rfl) h5)))

theorem execLock {a0} (d : Has m 33261250) (h : Touch m s t) : TouchO m s (Machine.execLock a0 t) := by
  unfold Machine.execLock; exact (.issue (d.s rfl) h (fun _ _ h5 => (.txnIssue (d.s rfl) h5)))

theorem execUnlock {a0} (d : Has m 33261250) (h : Touch m s t) : TouchO m s (Machine.execUnlock a0 t) := by
  unfold Machine.execUnlock; exact (.issue (d.s rfl) h (fun _ _ h5 => (.txnIssue (d.s rfl) h5)))

theorem execLockTxnReply {a0} (d : Has m 33261250) (h : Touch m s t) : TouchO m s (Machine.execLockTxnReply a0 t) := by
  unfold Machine.execLockTxnReply; (try dsimp only); split; exacts [(.next (.txnRun (d.s rfl) h)), (.next h)]

/-! ## Tick -/

theorem dogCycle {a1} (d : Has m 524288) (h : Touch m s t) : Touch m s (State.dogCycle t a1) := by
  unfold State.dogCycle; exact (.ite (.setCore (d.s rfl) h) h)

theorem tick  (d : Has m 524322) (h : Touch m s t) : Touch m s (State.tick t) := by
  unfold State.tick; exact (.ite h (.foldl (fun _ _ h5 => (.ite h5 (.dogCycle (d.s rfl) h5))) (.setOn (d.s rfl) (.upd_5 (d.s rfl) h))))

end Sys2Proof.Machine.Touch
end

