-- ==== Sys2Proof/Laws/Writes.lean ====
section
/-!
SUPPORT. Where a register write goes: for each register with a row of its own, that a write which is taken runs that register's
rule, and what the rule is.
-/
set_option Elab.async false
namespace Sys2Proof.Machine
variable {s : State} {req : Req} {a v i : Nat} {r : RegRow}

/-- Offsets that are neither a window nor a doorbell page nor the bonbon memory. -/
def plainOfs (a : Nat) : Bool :=
  decide (a < 0x10000000 ∧ ¬ (0x00900000 ≤ a ∧ a < 0x00A00000) ∧ ¬ (0x02F00000 ≤ a ∧ a < 0x02F80000) ∧
    ¬ (0x00480000 ≤ a ∧ a < 0x00600000) ∧ ¬ (0x02900000 ≤ a ∧ a < 0x02914000))

theorem window_none (h : plainOfs a = true) : s.window req a = none := by
  simp only [plainOfs, decide_eq_true_eq] at h
  unfold State.window
  dsimp only
  rw [if_neg (by omega), if_neg (by omega), if_neg (by omega), if_neg (by omega)]

theorem busWrite_taken (ht : s.takesWrite req a = true) (ha : a < 0x10000000) (hv : v < 2 ^ 32)
    (hc : s.critBit a v = none) : s.busWrite req a v = (s.placeWrite req a v).wakeBanks := by
  unfold State.takesWrite at ht
  unfold State.busWrite
  rw [Nat.mod_eq_of_lt hv]
  simp only [Bool.and_eq_true, Bool.not_eq_true', Bool.and_eq_false_iff, beq_eq_false_iff_ne, Bool.or_eq_false_iff,
    Bool.not_eq_false'] at ht
  obtain ⟨⟨h1, h2⟩, h3⟩ := ht
  simp only [h1, h2, hc, not_true_eq_false, if_false, if_neg (show ¬ 0x10000000 ≤ a by omega)]
  rw [if_neg]
  intro ⟨h4, h5⟩
  rcases h3 with h3 | h3
  · exact h3 h4
  · rcases h5 with h5 | h5
    · exact h5 h3.1
    · exact h3.2 h5

theorem placeWrite_reg (h : plainOfs a = true) (hr : regRowAt a = some r) :
    s.placeWrite req a v = s.regWrite req a v r := by
  have h' := h
  simp only [plainOfs, decide_eq_true_eq] at h'
  unfold State.placeWrite
  rw [if_neg (by omega), if_neg (by omega), window_none h]
  simp only [hr]

theorem stageWord_nil (h : sMask r = 0) : s.stageWord req a v r = s := by
  have h0 : s.stageMask req a r = 0 := by unfold State.stageMask; simp [h]
  unfold State.stageWord; simp [h0]

/-- Addresses at which some write is critical. -/
def critOfs (a : Nat) : Bool :=
  decide ((0x00900000 ≤ a ∧ a < 0x00A00000) ∨ a = 0x00800018 ∨ a = 0x00800020 ∨ a = 0x00800030 ∨ a = 0x00600004 ∨
    a = 0x00401018 ∨ a = 0x02E01300 ∨ a = 0x00600010) || allGroups.any fun g => a == (fDRV_MODE_TECH g).addr

theorem critBit_none (h : critOfs a = false) : s.critBit a v = none := by
  simp only [critOfs, Bool.or_eq_false_iff, decide_eq_false_iff_not] at h
  obtain ⟨h1, h2⟩ := h
  unfold State.critBit
  rw [if_neg (by omega),
    if_neg (fun h => h1 (by have := h.1; simp only [fNVS_REC_CTRL_GO] at this; omega)),
    if_neg (fun h => h1 (by have := h.1; simp only [fNVS_XFER_CTRL_GO] at this; omega)),
    if_neg (fun h => h1 (by have := h.1; simp only [fNVS_ACT_GO] at this; omega)),
    if_neg (fun h => h1 (by have := h.1; simp only [fSEC_LC_REQ_GO] at this; omega)),
    if_neg (fun h => h1 (by simp only [fCPR_LOCK_BREAK_LOCK] at h; omega)),
    if_neg (fun h => h1 (by simp only [fDRV_RAIL_OVR_ACT] at h; omega)),
    if_neg (fun h => h1 (by have := h.1; simp only [fSEC_DBG_UNLOCK] at this; omega)), if_neg]
  intro h3
  rw [List.any_eq_true] at h3
  rw [List.any_eq_false] at h2
  obtain ⟨g, hg, h4⟩ := h3
  simp only [Bool.and_eq_true] at h4
  exact h2 g hg h4.1

/-- A critical write that is carried out changes nothing by being judged. -/
theorem judge_true {k : Nat} (h : (s.judge req a k).1 = true) : s.judge req a k = (true, s) := by
  unfold State.judge at h ⊢
  split at h
  · split at h
    · simp at h
    · dsimp only at h ⊢
      split at h
      · simp at h
      · rename_i c; rw [if_neg c]
        split at h
        · rename_i c; rw [if_pos c]
          split at h
          · simp at h
          · rename_i c; rw [if_neg c]
        · rename_i c; rw [if_neg c]
          split at h
          · rename_i c; rw [if_pos c]
          · simp at h
  · split at h
    · rename_i c; rw [if_pos c]
    · simp at h
  · simp at h

/-- A write that reaches a register and is carried out, critical or not. -/
theorem busWrite_regG (ht : s.takesWrite req a = true) (hv : v < 2 ^ 32) (hj : s.granted req a v)
    (hp : plainOfs a = true) (hr : regRowAt a = some r) (hm : sMask r = 0) :
    s.busWrite req a v = (if a < 0x01E00000 then s.writeHost req a v (rowIndex r a) r
      else if a < 0x02E00000 then s.writeRaster req a v (rowIndex r a) r
      else s.writeDrive req a v (rowIndex r a) r).wakeBanks := by
  have hp' := hp
  simp only [plainOfs, decide_eq_true_eq] at hp'
  have hw : s.busWrite req a v = (s.placeWrite req a v).wakeBanks := by
    cases hc : s.critBit a v with
    | none => exact busWrite_taken ht hp'.1 hv hc
    | some k =>
      unfold State.granted at hj
      rw [hc] at hj
      unfold State.takesWrite at ht
      unfold State.busWrite
      rw [Nat.mod_eq_of_lt hv]
      simp only [Bool.and_eq_true, Bool.not_eq_true', Bool.and_eq_false_iff, beq_eq_false_iff_ne, Bool.or_eq_false_iff,
        Bool.not_eq_false'] at ht
      obtain ⟨⟨h1, h2⟩, h3⟩ := ht
      simp only [h1, h2, hc, judge_true hj, not_true_eq_false, if_false, if_neg (show ¬ 0x10000000 ≤ a by omega)]
      rw [if_neg]
      intro ⟨h4, h5⟩
      rcases h3 with h3 | h3
      · exact h3 h4
      · rcases h5 with h5 | h5
        · exact h5 h3.1
        · exact h3.2 h5
  rw [hw, placeWrite_reg hp hr]
  unfold State.regWrite
  rw [stageWord_nil hm]

/-- A write that reaches a register whose fields are none of them staged and that is not critical. -/
theorem busWrite_reg (ht : s.takesWrite req a = true) (hv : v < 2 ^ 32) (hc : critOfs a = false) (hp : plainOfs a = true)
    (hr : regRowAt a = some r) (hm : sMask r = 0) :
    s.busWrite req a v = (if a < 0x01E00000 then s.writeHost req a v (rowIndex r a) r
      else if a < 0x02E00000 then s.writeRaster req a v (rowIndex r a) r
      else s.writeDrive req a v (rowIndex r a) r).wakeBanks := by
  have hp' := hp
  simp only [plainOfs, decide_eq_true_eq] at hp'
  rw [busWrite_taken ht hp'.1 hv (critBit_none hc), placeWrite_reg hp hr]
  unfold State.regWrite
  rw [stageWord_nil hm]

theorem row_TMG_CTRL : ∀ i < 16, regRowAt (fTMG_CTRL_RUN i).addr = some regTMG_CTRL ∧ plainOfs (fTMG_CTRL_RUN i).addr = true ∧
    rowIndex regTMG_CTRL (fTMG_CTRL_RUN i).addr = i ∧ critOfs (fTMG_CTRL_RUN i).addr = false := by decide +kernel

theorem writeRaster_TMG_CTRL : s.writeRaster req a v i regTMG_CTRL = (
    (s.putFields a v regTMG_CTRL.fields (s.gState i == 0) (atBits [0])).writeRun i (bit v 0 == 1)) := rfl

theorem write_TMG_CTRL (hi : i < 16) (ht : s.takesWrite req (fTMG_CTRL_RUN i).addr = true) (hv : v < 2 ^ 32) :
    s.busWrite req (fTMG_CTRL_RUN i).addr v = (s.writeRaster req (fTMG_CTRL_RUN i).addr v i regTMG_CTRL).wakeBanks := by
  obtain ⟨h1, h2, h3, h4⟩ := row_TMG_CTRL i hi
  rw [busWrite_reg ht hv h4 h2 h1 (by decide), h3]
  rw [if_neg (by simp only [fTMG_CTRL_RUN]; omega), if_pos (by simp only [fTMG_CTRL_RUN]; omega)]

theorem row_PAN_SR_CTRL : regRowAt fPAN_SR_CTRL_SLEEP.addr = some regPAN_SR_CTRL ∧ plainOfs fPAN_SR_CTRL_SLEEP.addr = true ∧
    rowIndex regPAN_SR_CTRL fPAN_SR_CTRL_SLEEP.addr = 0 ∧ critOfs fPAN_SR_CTRL_SLEEP.addr = false := by decide

theorem writeRaster_PAN_SR_CTRL : s.writeRaster req a v 0 regPAN_SR_CTRL = (
    s.writeSleep (bit v 0 == 1)) := rfl

theorem write_PAN_SR_CTRL (ht : s.takesWrite req fPAN_SR_CTRL_SLEEP.addr = true) (hv : v < 2 ^ 32) :
    s.busWrite req fPAN_SR_CTRL_SLEEP.addr v = (s.writeRaster req fPAN_SR_CTRL_SLEEP.addr v 0 regPAN_SR_CTRL).wakeBanks := by
  obtain ⟨h1, h2, h3, h4⟩ := row_PAN_SR_CTRL
  rw [busWrite_reg ht hv h4 h2 h1 (by decide), h3]
  rw [if_neg (by decide), if_pos (by decide)]

theorem row_PIX_TLD_CTRL : regRowAt fPIX_TLD_CTRL_GO.addr = some regPIX_TLD_CTRL ∧ plainOfs fPIX_TLD_CTRL_GO.addr = true ∧
    rowIndex regPIX_TLD_CTRL fPIX_TLD_CTRL_GO.addr = 0 ∧ critOfs fPIX_TLD_CTRL_GO.addr = false := by decide

theorem writeRaster_PIX_TLD_CTRL : s.writeRaster req a v 0 regPIX_TLD_CTRL = (
    s.writeTldCtrl (reqNum req) v) := rfl

theorem write_PIX_TLD_CTRL (ht : s.takesWrite req fPIX_TLD_CTRL_GO.addr = true) (hv : v < 2 ^ 32) :
    s.busWrite req fPIX_TLD_CTRL_GO.addr v = (s.writeRaster req fPIX_TLD_CTRL_GO.addr v 0 regPIX_TLD_CTRL).wakeBanks := by
  obtain ⟨h1, h2, h3, h4⟩ := row_PIX_TLD_CTRL
  rw [busWrite_reg ht hv h4 h2 h1 (by decide), h3]
  rw [if_neg (by decide), if_pos (by decide)]

theorem row_FST_STRUDEL_CELLS : regRowAt fFST_STRUDEL_CELLS_CELLS.addr = some regFST_STRUDEL_CELLS ∧ plainOfs fFST_STRUDEL_CELLS_CELLS.addr = true ∧
    rowIndex regFST_STRUDEL_CELLS fFST_STRUDEL_CELLS_CELLS.addr = 0 ∧ critOfs fFST_STRUDEL_CELLS_CELLS.addr = false := by decide

theorem writeHost_FST_STRUDEL_CELLS : s.writeHost req a v 0 regFST_STRUDEL_CELLS = (
    s.strudelWrite a (BitVec.ofNat 32 v)) := rfl

theorem write_FST_STRUDEL_CELLS (ht : s.takesWrite req fFST_STRUDEL_CELLS_CELLS.addr = true) (hv : v < 2 ^ 32) :
    s.busWrite req fFST_STRUDEL_CELLS_CELLS.addr v = (s.writeHost req fFST_STRUDEL_CELLS_CELLS.addr v 0 regFST_STRUDEL_CELLS).wakeBanks := by
  obtain ⟨h1, h2, h3, h4⟩ := row_FST_STRUDEL_CELLS
  rw [busWrite_reg ht hv h4 h2 h1 (by decide), h3]
  rw [if_pos (by decide)]

theorem row_FST_STRUDEL_DEV : regRowAt fFST_STRUDEL_DEV_DEV_FIRST.addr = some regFST_STRUDEL_DEV ∧ plainOfs fFST_STRUDEL_DEV_DEV_FIRST.addr = true ∧
    rowIndex regFST_STRUDEL_DEV fFST_STRUDEL_DEV_DEV_FIRST.addr = 0 ∧ critOfs fFST_STRUDEL_DEV_DEV_FIRST.addr = false := by decide

theorem writeHost_FST_STRUDEL_DEV : s.writeHost req a v 0 regFST_STRUDEL_DEV = (
    s.strudelWrite a (BitVec.ofNat 32 v)) := rfl

theorem write_FST_STRUDEL_DEV (ht : s.takesWrite req fFST_STRUDEL_DEV_DEV_FIRST.addr = true) (hv : v < 2 ^ 32) :
    s.busWrite req fFST_STRUDEL_DEV_DEV_FIRST.addr v = (s.writeHost req fFST_STRUDEL_DEV_DEV_FIRST.addr v 0 regFST_STRUDEL_DEV).wakeBanks := by
  obtain ⟨h1, h2, h3, h4⟩ := row_FST_STRUDEL_DEV
  rw [busWrite_reg ht hv h4 h2 h1 (by decide), h3]
  rw [if_pos (by decide)]

theorem row_CDC_RING_PTR : regRowAt fCDC_RING_PTR_TAIL.addr = some regCDC_RING_PTR ∧ plainOfs fCDC_RING_PTR_TAIL.addr = true ∧
    rowIndex regCDC_RING_PTR fCDC_RING_PTR_TAIL.addr = 0 ∧ critOfs fCDC_RING_PTR_TAIL.addr = false := by decide

theorem writeHost_CDC_RING_PTR : s.writeHost req a v 0 regCDC_RING_PTR = (
    s.submitJobs (reqNum req) (v % 65536)) := rfl

theorem write_CDC_RING_PTR (ht : s.takesWrite req fCDC_RING_PTR_TAIL.addr = true) (hv : v < 2 ^ 32) :
    s.busWrite req fCDC_RING_PTR_TAIL.addr v = (s.writeHost req fCDC_RING_PTR_TAIL.addr v 0 regCDC_RING_PTR).wakeBanks := by
  obtain ⟨h1, h2, h3, h4⟩ := row_CDC_RING_PTR
  rw [busWrite_reg ht hv h4 h2 h1 (by decide), h3]
  rw [if_pos (by decide)]

theorem row_CDC_STATUS : regRowAt fCDC_STATUS_QUAR.addr = some regCDC_STATUS ∧ plainOfs fCDC_STATUS_QUAR.addr = true ∧
    rowIndex regCDC_STATUS fCDC_STATUS_QUAR.addr = 0 ∧ critOfs fCDC_STATUS_QUAR.addr = false := by decide

theorem writeHost_CDC_STATUS : s.writeHost req a v 0 regCDC_STATUS = (
    s.releaseEncoders (v / 65536)) := rfl

theorem write_CDC_STATUS (ht : s.takesWrite req fCDC_STATUS_QUAR.addr = true) (hv : v < 2 ^ 32) :
    s.busWrite req fCDC_STATUS_QUAR.addr v = (s.writeHost req fCDC_STATUS_QUAR.addr v 0 regCDC_STATUS).wakeBanks := by
  obtain ⟨h1, h2, h3, h4⟩ := row_CDC_STATUS
  rw [busWrite_reg ht hv h4 h2 h1 (by decide), h3]
  rw [if_pos (by decide)]

theorem row_CPR_CTRL : ∀ i < 8, regRowAt (fCPR_CTRL_RUN i).addr = some regCPR_CTRL ∧ plainOfs (fCPR_CTRL_RUN i).addr = true ∧
    rowIndex regCPR_CTRL (fCPR_CTRL_RUN i).addr = i ∧ critOfs (fCPR_CTRL_RUN i).addr = false := by decide +kernel

theorem writeHost_CPR_CTRL : s.writeHost req a v i regCPR_CTRL = (
    (s.putFields a v regCPR_CTRL.fields true (atBits [])).coreCtrl (0x300 + i) (bit v 0 == 1) (bit v 1 == 1)) := rfl

theorem write_CPR_CTRL (hi : i < 8) (ht : s.takesWrite req (fCPR_CTRL_RUN i).addr = true) (hv : v < 2 ^ 32) :
    s.busWrite req (fCPR_CTRL_RUN i).addr v = (s.writeHost req (fCPR_CTRL_RUN i).addr v i regCPR_CTRL).wakeBanks := by
  obtain ⟨h1, h2, h3, h4⟩ := row_CPR_CTRL i hi
  rw [busWrite_reg ht hv h4 h2 h1 (by decide), h3]
  rw [if_pos (by simp only [fCPR_CTRL_RUN]; omega)]

theorem row_SQR_CTRL : ∀ i < 65, regRowAt (fSQR_CTRL_RUN i).addr = some regSQR_CTRL ∧ plainOfs (fSQR_CTRL_RUN i).addr = true ∧
    rowIndex regSQR_CTRL (fSQR_CTRL_RUN i).addr = i ∧ critOfs (fSQR_CTRL_RUN i).addr = false := by decide +kernel

theorem writeRaster_SQR_CTRL : s.writeRaster req a v i regSQR_CTRL = (
    (s.putFields a v regSQR_CTRL.fields true (atBits [])).coreCtrl (0x400 + i) (bit v 0 == 1) (bit v 1 == 1)) := rfl

theorem write_SQR_CTRL (hi : i < 65) (ht : s.takesWrite req (fSQR_CTRL_RUN i).addr = true) (hv : v < 2 ^ 32) :
    s.busWrite req (fSQR_CTRL_RUN i).addr v = (s.writeRaster req (fSQR_CTRL_RUN i).addr v i regSQR_CTRL).wakeBanks := by
  obtain ⟨h1, h2, h3, h4⟩ := row_SQR_CTRL i hi
  rw [busWrite_reg ht hv h4 h2 h1 (by decide), h3]
  rw [if_neg (by simp only [fSQR_CTRL_RUN]; omega), if_pos (by simp only [fSQR_CTRL_RUN]; omega)]

theorem row_CPR_MBOX : ∀ i < 8, regRowAt (fCPR_MBOX_DATA i).addr = some regCPR_MBOX ∧ plainOfs (fCPR_MBOX_DATA i).addr = true ∧
    rowIndex regCPR_MBOX (fCPR_MBOX_DATA i).addr = i ∧ critOfs (fCPR_MBOX_DATA i).addr = false := by decide +kernel

theorem writeHost_CPR_MBOX : s.writeHost req a v i regCPR_MBOX = (
    (s.putFields a v regCPR_MBOX.fields true (atBits [])).occur (0x300 + i) 7) := rfl

theorem write_CPR_MBOX (hi : i < 8) (ht : s.takesWrite req (fCPR_MBOX_DATA i).addr = true) (hv : v < 2 ^ 32) :
    s.busWrite req (fCPR_MBOX_DATA i).addr v = (s.writeHost req (fCPR_MBOX_DATA i).addr v i regCPR_MBOX).wakeBanks := by
  obtain ⟨h1, h2, h3, h4⟩ := row_CPR_MBOX i hi
  rw [busWrite_reg ht hv h4 h2 h1 (by decide), h3]
  rw [if_pos (by simp only [fCPR_MBOX_DATA]; omega)]

theorem row_SQR_MBOX : ∀ i < 65, regRowAt (fSQR_MBOX_DATA i).addr = some regSQR_MBOX ∧ plainOfs (fSQR_MBOX_DATA i).addr = true ∧
    rowIndex regSQR_MBOX (fSQR_MBOX_DATA i).addr = i ∧ critOfs (fSQR_MBOX_DATA i).addr = false := by decide +kernel

theorem writeRaster_SQR_MBOX : s.writeRaster req a v i regSQR_MBOX = (
    (s.putFields a v regSQR_MBOX.fields true (atBits [])).occur (0x400 + i) 7) := rfl

theorem write_SQR_MBOX (hi : i < 65) (ht : s.takesWrite req (fSQR_MBOX_DATA i).addr = true) (hv : v < 2 ^ 32) :
    s.busWrite req (fSQR_MBOX_DATA i).addr v = (s.writeRaster req (fSQR_MBOX_DATA i).addr v i regSQR_MBOX).wakeBanks := by
  obtain ⟨h1, h2, h3, h4⟩ := row_SQR_MBOX i hi
  rw [busWrite_reg ht hv h4 h2 h1 (by decide), h3]
  rw [if_neg (by simp only [fSQR_MBOX_DATA]; omega), if_pos (by simp only [fSQR_MBOX_DATA]; omega)]

theorem row_CXL_Q_CTRL : ∀ i < 512, regRowAt (fCXL_Q_CTRL_RUN i).addr = some regCXL_Q_CTRL ∧ plainOfs (fCXL_Q_CTRL_RUN i).addr = true ∧
    rowIndex regCXL_Q_CTRL (fCXL_Q_CTRL_RUN i).addr = i ∧ critOfs (fCXL_Q_CTRL_RUN i).addr = false := by decide +kernel

theorem writeHost_CXL_Q_CTRL : s.writeHost req a v i regCXL_Q_CTRL = (
    s.queueCtrl i (bit v 0 == 1) (bit v 1 == 1)) := rfl

theorem write_CXL_Q_CTRL (hi : i < 512) (ht : s.takesWrite req (fCXL_Q_CTRL_RUN i).addr = true) (hv : v < 2 ^ 32) :
    s.busWrite req (fCXL_Q_CTRL_RUN i).addr v = (s.writeHost req (fCXL_Q_CTRL_RUN i).addr v i regCXL_Q_CTRL).wakeBanks := by
  obtain ⟨h1, h2, h3, h4⟩ := row_CXL_Q_CTRL i hi
  rw [busWrite_reg ht hv h4 h2 h1 (by decide), h3]
  rw [if_pos (by simp only [fCXL_Q_CTRL_RUN]; omega)]

theorem row_CXL_Q_PTR : ∀ i < 512, regRowAt (fCXL_Q_PTR_TAIL i).addr = some regCXL_Q_PTR ∧ plainOfs (fCXL_Q_PTR_TAIL i).addr = true ∧
    rowIndex regCXL_Q_PTR (fCXL_Q_PTR_TAIL i).addr = i ∧ critOfs (fCXL_Q_PTR_TAIL i).addr = false := by decide +kernel

theorem writeHost_CXL_Q_PTR : s.writeHost req a v i regCXL_Q_PTR = (
    s.doorbell i (v % 65536)) := rfl

theorem write_CXL_Q_PTR (hi : i < 512) (ht : s.takesWrite req (fCXL_Q_PTR_TAIL i).addr = true) (hv : v < 2 ^ 32) :
    s.busWrite req (fCXL_Q_PTR_TAIL i).addr v = (s.writeHost req (fCXL_Q_PTR_TAIL i).addr v i regCXL_Q_PTR).wakeBanks := by
  obtain ⟨h1, h2, h3, h4⟩ := row_CXL_Q_PTR i hi
  rw [busWrite_reg ht hv h4 h2 h1 (by decide), h3]
  rw [if_pos (by simp only [fCXL_Q_PTR_TAIL]; omega)]

theorem row_CPR_MP_OP : regRowAt fCPR_MP_OP_OP.addr = some regCPR_MP_OP ∧ plainOfs fCPR_MP_OP_OP.addr = true ∧
    rowIndex regCPR_MP_OP fCPR_MP_OP_OP.addr = 0 ∧ critOfs fCPR_MP_OP_OP.addr = false := by decide

theorem writeHost_CPR_MP_OP : s.writeHost req a v 0 regCPR_MP_OP = (
    (if req = .mp then s.mpOp v else s)) := rfl

theorem write_CPR_MP_OP (ht : s.takesWrite req fCPR_MP_OP_OP.addr = true) (hv : v < 2 ^ 32) :
    s.busWrite req fCPR_MP_OP_OP.addr v = (s.writeHost req fCPR_MP_OP_OP.addr v 0 regCPR_MP_OP).wakeBanks := by
  obtain ⟨h1, h2, h3, h4⟩ := row_CPR_MP_OP
  rw [busWrite_reg ht hv h4 h2 h1 (by decide), h3]
  rw [if_pos (by decide)]

theorem row_CPR_LOCK_BREAK : regRowAt fCPR_LOCK_BREAK_LOCK.addr = some regCPR_LOCK_BREAK ∧ plainOfs fCPR_LOCK_BREAK_LOCK.addr = true ∧
    rowIndex regCPR_LOCK_BREAK fCPR_LOCK_BREAK_LOCK.addr = 0 := by decide

theorem writeHost_CPR_LOCK_BREAK : s.writeHost req a v 0 regCPR_LOCK_BREAK = (
    s.lockBreak (v % 1024)) := rfl

theorem write_CPR_LOCK_BREAK (ht : s.takesWrite req fCPR_LOCK_BREAK_LOCK.addr = true) (hv : v < 2 ^ 32) (hj : s.granted req fCPR_LOCK_BREAK_LOCK.addr v) :
    s.busWrite req fCPR_LOCK_BREAK_LOCK.addr v = (s.writeHost req fCPR_LOCK_BREAK_LOCK.addr v 0 regCPR_LOCK_BREAK).wakeBanks := by
  obtain ⟨h1, h2, h3⟩ := row_CPR_LOCK_BREAK
  rw [busWrite_regG ht hv hj h2 h1 (by decide), h3]
  rw [if_pos (by decide)]

theorem row_LNK_CFG : ∀ i < 272, regRowAt (fLNK_CFG_EN i).addr = some regLNK_CFG ∧ plainOfs (fLNK_CFG_EN i).addr = true ∧
    rowIndex regLNK_CFG (fLNK_CFG_EN i).addr = i ∧ critOfs (fLNK_CFG_EN i).addr = false := by decide +kernel

theorem writeRaster_LNK_CFG : s.writeRaster req a v i regLNK_CFG = (
    let was := s.on (fLNK_CFG_EN i)
    let s := s.putFields a v regLNK_CFG.fields (s.lnSt i == 0) (atBits [])
    s.laneEn i was (bit v 31 == 1)) := rfl

theorem write_LNK_CFG (hi : i < 272) (ht : s.takesWrite req (fLNK_CFG_EN i).addr = true) (hv : v < 2 ^ 32) :
    s.busWrite req (fLNK_CFG_EN i).addr v = (s.writeRaster req (fLNK_CFG_EN i).addr v i regLNK_CFG).wakeBanks := by
  obtain ⟨h1, h2, h3, h4⟩ := row_LNK_CFG i hi
  rw [busWrite_reg ht hv h4 h2 h1 (by decide), h3]
  rw [if_neg (by simp only [fLNK_CFG_EN]; omega), if_pos (by simp only [fLNK_CFG_EN]; omega)]

theorem row_LNK_CMD : ∀ i < 272, regRowAt (fLNK_CMD_ENUM i).addr = some regLNK_CMD ∧ plainOfs (fLNK_CMD_ENUM i).addr = true ∧
    rowIndex regLNK_CMD (fLNK_CMD_ENUM i).addr = i ∧ critOfs (fLNK_CMD_ENUM i).addr = false := by decide +kernel

theorem writeRaster_LNK_CMD : s.writeRaster req a v i regLNK_CMD = (
    s.lnkCmd i v) := rfl

theorem write_LNK_CMD (hi : i < 272) (ht : s.takesWrite req (fLNK_CMD_ENUM i).addr = true) (hv : v < 2 ^ 32) :
    s.busWrite req (fLNK_CMD_ENUM i).addr v = (s.writeRaster req (fLNK_CMD_ENUM i).addr v i regLNK_CMD).wakeBanks := by
  obtain ⟨h1, h2, h3, h4⟩ := row_LNK_CMD i hi
  rw [busWrite_reg ht hv h4 h2 h1 (by decide), h3]
  rw [if_neg (by simp only [fLNK_CMD_ENUM]; omega), if_pos (by simp only [fLNK_CMD_ENUM]; omega)]

theorem row_LNK_SPARE : ∀ i < 16, regRowAt (fLNK_SPARE_FORCE i).addr = some regLNK_SPARE ∧ plainOfs (fLNK_SPARE_FORCE i).addr = true ∧
    rowIndex regLNK_SPARE (fLNK_SPARE_FORCE i).addr = i ∧ critOfs (fLNK_SPARE_FORCE i).addr = false := by decide +kernel

theorem writeRaster_LNK_SPARE : s.writeRaster req a v i regLNK_SPARE = (
    let active := s.on (fLNK_SPARE_ACTIVE i)
    let s := s.putFields a v regLNK_SPARE.fields (!active) (atBits (if active then [16] else []))
    s.spareCmd i (bit v 31) (bit v 30) (s.f (fLNK_SPARE_CHAIN i))) := rfl

theorem write_LNK_SPARE (hi : i < 16) (ht : s.takesWrite req (fLNK_SPARE_FORCE i).addr = true) (hv : v < 2 ^ 32) :
    s.busWrite req (fLNK_SPARE_FORCE i).addr v = (s.writeRaster req (fLNK_SPARE_FORCE i).addr v i regLNK_SPARE).wakeBanks := by
  obtain ⟨h1, h2, h3, h4⟩ := row_LNK_SPARE i hi
  rw [busWrite_reg ht hv h4 h2 h1 (by decide), h3]
  rw [if_neg (by simp only [fLNK_SPARE_FORCE]; omega), if_pos (by simp only [fLNK_SPARE_FORCE]; omega)]

theorem row_LNK_INJ : ∀ i < 272, regRowAt (fLNK_INJ_GO i).addr = some regLNK_INJ ∧ plainOfs (fLNK_INJ_GO i).addr = true ∧
    rowIndex regLNK_INJ (fLNK_INJ_GO i).addr = i ∧ critOfs (fLNK_INJ_GO i).addr = false := by decide +kernel

theorem writeRaster_LNK_INJ : s.writeRaster req a v i regLNK_INJ = (
    (s.putFields a v regLNK_INJ.fields true (atBits [])).armInj i (bit v 31 == 1)) := rfl

theorem write_LNK_INJ (hi : i < 272) (ht : s.takesWrite req (fLNK_INJ_GO i).addr = true) (hv : v < 2 ^ 32) :
    s.busWrite req (fLNK_INJ_GO i).addr v = (s.writeRaster req (fLNK_INJ_GO i).addr v i regLNK_INJ).wakeBanks := by
  obtain ⟨h1, h2, h3, h4⟩ := row_LNK_INJ i hi
  rw [busWrite_reg ht hv h4 h2 h1 (by decide), h3]
  rw [if_neg (by simp only [fLNK_INJ_GO]; omega), if_pos (by simp only [fLNK_INJ_GO]; omega)]

theorem row_LNK_UPQ_CTRL : ∀ i < 16, regRowAt (fLNK_UPQ_CTRL_POP i).addr = some regLNK_UPQ_CTRL ∧ plainOfs (fLNK_UPQ_CTRL_POP i).addr = true ∧
    rowIndex regLNK_UPQ_CTRL (fLNK_UPQ_CTRL_POP i).addr = i ∧ critOfs (fLNK_UPQ_CTRL_POP i).addr = false := by decide +kernel

theorem writeRaster_LNK_UPQ_CTRL : s.writeRaster req a v i regLNK_UPQ_CTRL = (
    let s := s.putFields a v regLNK_UPQ_CTRL.fields true (atBits [])
    if bit v 31 = 1 then s.upqPop i false else s) := rfl

theorem write_LNK_UPQ_CTRL (hi : i < 16) (ht : s.takesWrite req (fLNK_UPQ_CTRL_POP i).addr = true) (hv : v < 2 ^ 32) :
    s.busWrite req (fLNK_UPQ_CTRL_POP i).addr v = (s.writeRaster req (fLNK_UPQ_CTRL_POP i).addr v i regLNK_UPQ_CTRL).wakeBanks := by
  obtain ⟨h1, h2, h3, h4⟩ := row_LNK_UPQ_CTRL i hi
  rw [busWrite_reg ht hv h4 h2 h1 (by decide), h3]
  rw [if_neg (by simp only [fLNK_UPQ_CTRL_POP]; omega), if_pos (by simp only [fLNK_UPQ_CTRL_POP]; omega)]

theorem row_DRV_CTRL : ∀ i < 16, regRowAt (fDRV_CTRL_PWR i).addr = some regDRV_CTRL ∧ plainOfs (fDRV_CTRL_PWR i).addr = true ∧
    rowIndex regDRV_CTRL (fDRV_CTRL_PWR i).addr = i ∧ critOfs (fDRV_CTRL_PWR i).addr = false := by decide +kernel

theorem writeDrive_DRV_CTRL : s.writeDrive req a v i regDRV_CTRL = (
    s.writePwr i (bit v 0 == 1)) := rfl

theorem write_DRV_CTRL (hi : i < 16) (ht : s.takesWrite req (fDRV_CTRL_PWR i).addr = true) (hv : v < 2 ^ 32) :
    s.busWrite req (fDRV_CTRL_PWR i).addr v = (s.writeDrive req (fDRV_CTRL_PWR i).addr v i regDRV_CTRL).wakeBanks := by
  obtain ⟨h1, h2, h3, h4⟩ := row_DRV_CTRL i hi
  rw [busWrite_reg ht hv h4 h2 h1 (by decide), h3]
  rw [if_neg (by simp only [fDRV_CTRL_PWR]; omega), if_neg (by simp only [fDRV_CTRL_PWR]; omega)]

theorem row_DRV_RAIL_OVR : regRowAt fDRV_RAIL_OVR_ACT.addr = some regDRV_RAIL_OVR ∧ plainOfs fDRV_RAIL_OVR_ACT.addr = true ∧
    rowIndex regDRV_RAIL_OVR fDRV_RAIL_OVR_ACT.addr = 0 := by decide

theorem writeDrive_DRV_RAIL_OVR : s.writeDrive req a v 0 regDRV_RAIL_OVR = (
    s.railForce (v % 64) (bitsOf v 9 8)) := rfl

theorem write_DRV_RAIL_OVR (ht : s.takesWrite req fDRV_RAIL_OVR_ACT.addr = true) (hv : v < 2 ^ 32) (hj : s.granted req fDRV_RAIL_OVR_ACT.addr v) :
    s.busWrite req fDRV_RAIL_OVR_ACT.addr v = (s.writeDrive req fDRV_RAIL_OVR_ACT.addr v 0 regDRV_RAIL_OVR).wakeBanks := by
  obtain ⟨h1, h2, h3⟩ := row_DRV_RAIL_OVR
  rw [busWrite_regG ht hv hj h2 h1 (by decide), h3]
  rw [if_neg (by decide), if_neg (by decide)]

theorem row_DRV_PF : regRowAt fDRV_PF_TRIPPED.addr = some regDRV_PF ∧ plainOfs fDRV_PF_TRIPPED.addr = true ∧
    rowIndex regDRV_PF fDRV_PF_TRIPPED.addr = 0 ∧ critOfs fDRV_PF_TRIPPED.addr = false := by decide

theorem writeDrive_DRV_PF : s.writeDrive req a v 0 regDRV_PF = (
    let s := s.putFields a v regDRV_PF.fields true (atBits [31])
    if bit v 31 = 1 then s.clearTripped else s) := rfl

theorem write_DRV_PF (ht : s.takesWrite req fDRV_PF_TRIPPED.addr = true) (hv : v < 2 ^ 32) :
    s.busWrite req fDRV_PF_TRIPPED.addr v = (s.writeDrive req fDRV_PF_TRIPPED.addr v 0 regDRV_PF).wakeBanks := by
  obtain ⟨h1, h2, h3, h4⟩ := row_DRV_PF
  rw [busWrite_reg ht hv h4 h2 h1 (by decide), h3]
  rw [if_neg (by decide), if_neg (by decide)]

theorem row_BIS_REQ2 : ∀ i < 16, regRowAt (fBIS_REQ2_GO i).addr = some regBIS_REQ2 ∧ plainOfs (fBIS_REQ2_GO i).addr = true ∧
    rowIndex regBIS_REQ2 (fBIS_REQ2_GO i).addr = i ∧ critOfs (fBIS_REQ2_GO i).addr = false := by decide +kernel

theorem writeDrive_BIS_REQ2 : s.writeDrive req a v i regBIS_REQ2 = (
    s.bisReq2 req i v) := rfl

theorem write_BIS_REQ2 (hi : i < 16) (ht : s.takesWrite req (fBIS_REQ2_GO i).addr = true) (hv : v < 2 ^ 32) :
    s.busWrite req (fBIS_REQ2_GO i).addr v = (s.writeDrive req (fBIS_REQ2_GO i).addr v i regBIS_REQ2).wakeBanks := by
  obtain ⟨h1, h2, h3, h4⟩ := row_BIS_REQ2 i hi
  rw [busWrite_reg ht hv h4 h2 h1 (by decide), h3]
  rw [if_neg (by simp only [fBIS_REQ2_GO]; omega), if_neg (by simp only [fBIS_REQ2_GO]; omega)]

theorem row_BIS_JBASE : regRowAt fBIS_JBASE_JPAGE.addr = some regBIS_JBASE ∧ plainOfs fBIS_JBASE_JPAGE.addr = true ∧
    rowIndex regBIS_JBASE fBIS_JBASE_JPAGE.addr = 0 ∧ critOfs fBIS_JBASE_JPAGE.addr = false := by decide

theorem writeDrive_BIS_JBASE : s.writeDrive req a v 0 regBIS_JBASE = (
    (if s.bisStopped then (s.putFields a v regBIS_JBASE.fields true (atBits [])).journalScan else s.putFields a v regBIS_JBASE.fields false (atBits []))) := rfl

theorem write_BIS_JBASE (ht : s.takesWrite req fBIS_JBASE_JPAGE.addr = true) (hv : v < 2 ^ 32) :
    s.busWrite req fBIS_JBASE_JPAGE.addr v = (s.writeDrive req fBIS_JBASE_JPAGE.addr v 0 regBIS_JBASE).wakeBanks := by
  obtain ⟨h1, h2, h3, h4⟩ := row_BIS_JBASE
  rw [busWrite_reg ht hv h4 h2 h1 (by decide), h3]
  rw [if_neg (by decide), if_neg (by decide)]

theorem row_DRV_BON_CTRL : regRowAt fDRV_BON_CTRL_ENTER.addr = some regDRV_BON_CTRL ∧ plainOfs fDRV_BON_CTRL_ENTER.addr = true ∧
    rowIndex regDRV_BON_CTRL fDRV_BON_CTRL_ENTER.addr = 0 ∧ critOfs fDRV_BON_CTRL_ENTER.addr = false := by decide

theorem writeDrive_DRV_BON_CTRL : s.writeDrive req a v 0 regDRV_BON_CTRL = (
    let s := s.putFields a v regDRV_BON_CTRL.fields true (atBits [])
    let s := if bit v 31 = 1 then s.bonEnter else s
    let s := if bit v 30 = 1 ∧ req = .mp then s.bonExit else s
    if bit v 29 = 1 then s.bonSend else s) := rfl

theorem write_DRV_BON_CTRL (ht : s.takesWrite req fDRV_BON_CTRL_ENTER.addr = true) (hv : v < 2 ^ 32) :
    s.busWrite req fDRV_BON_CTRL_ENTER.addr v = (s.writeDrive req fDRV_BON_CTRL_ENTER.addr v 0 regDRV_BON_CTRL).wakeBanks := by
  obtain ⟨h1, h2, h3, h4⟩ := row_DRV_BON_CTRL
  rw [busWrite_reg ht hv h4 h2 h1 (by decide), h3]
  rw [if_neg (by decide), if_neg (by decide)]

theorem row_CAL_CMD : regRowAt fCAL_CMD_GO.addr = some regCAL_CMD ∧ plainOfs fCAL_CMD_GO.addr = true ∧
    rowIndex regCAL_CMD fCAL_CMD_GO.addr = 0 ∧ critOfs fCAL_CMD_GO.addr = false := by decide

theorem writeDrive_CAL_CMD : s.writeDrive req a v 0 regCAL_CMD = (
    s.calCmd v) := rfl

theorem write_CAL_CMD (ht : s.takesWrite req fCAL_CMD_GO.addr = true) (hv : v < 2 ^ 32) :
    s.busWrite req fCAL_CMD_GO.addr v = (s.writeDrive req fCAL_CMD_GO.addr v 0 regCAL_CMD).wakeBanks := by
  obtain ⟨h1, h2, h3, h4⟩ := row_CAL_CMD
  rw [busWrite_reg ht hv h4 h2 h1 (by decide), h3]
  rw [if_neg (by decide), if_neg (by decide)]

theorem row_CAL_SNS_CFG : ∀ i < 16, regRowAt (fCAL_SNS_CFG_FOLD i).addr = some regCAL_SNS_CFG ∧ plainOfs (fCAL_SNS_CFG_FOLD i).addr = true ∧
    rowIndex regCAL_SNS_CFG (fCAL_SNS_CFG_FOLD i).addr = i ∧ critOfs (fCAL_SNS_CFG_FOLD i).addr = false := by decide +kernel

theorem writeDrive_CAL_SNS_CFG : s.writeDrive req a v i regCAL_SNS_CFG = (
    (s.putFields a v regCAL_SNS_CFG.fields (!s.on (fCAL_SNS_CFG_FOLD i)) (atBits [31])).foldWrite i (bit v 31 == 1)) := rfl

theorem write_CAL_SNS_CFG (hi : i < 16) (ht : s.takesWrite req (fCAL_SNS_CFG_FOLD i).addr = true) (hv : v < 2 ^ 32) :
    s.busWrite req (fCAL_SNS_CFG_FOLD i).addr v = ((s.stageWord req (fCAL_SNS_CFG_FOLD i).addr v regCAL_SNS_CFG).writeDrive req (fCAL_SNS_CFG_FOLD i).addr v i regCAL_SNS_CFG).wakeBanks := by
  obtain ⟨h1, h2, h3, h4⟩ := row_CAL_SNS_CFG i hi
  have hp := h2
  simp only [plainOfs, decide_eq_true_eq] at hp
  rw [busWrite_taken ht hp.1 hv (critBit_none h4), placeWrite_reg h2 h1, State.regWrite, h3]
  rw [if_neg (by simp only [fCAL_SNS_CFG_FOLD]; omega), if_neg (by simp only [fCAL_SNS_CFG_FOLD]; omega)]

theorem row_CAL_VAL_TS : ∀ i < 32, regRowAt (fCAL_VAL_TS_OFS i).addr = some regCAL_VAL_TS ∧ plainOfs (fCAL_VAL_TS_OFS i).addr = true ∧
    rowIndex regCAL_VAL_TS (fCAL_VAL_TS_OFS i).addr = i ∧ critOfs (fCAL_VAL_TS_OFS i).addr = false := by decide +kernel

theorem writeDrive_CAL_VAL_TS : s.writeDrive req a v i regCAL_VAL_TS = (
    s.calWrite ((a - 0x03200000) / 16) v) := by
  unfold State.writeDrive
  dsimp only
  repeat rw [if_neg (by decide)]
  rw [if_pos (by decide)]

theorem write_CAL_VAL_TS (hi : i < 32) (ht : s.takesWrite req (fCAL_VAL_TS_OFS i).addr = true) (hv : v < 2 ^ 32) :
    s.busWrite req (fCAL_VAL_TS_OFS i).addr v = (s.writeDrive req (fCAL_VAL_TS_OFS i).addr v i regCAL_VAL_TS).wakeBanks := by
  obtain ⟨h1, h2, h3, h4⟩ := row_CAL_VAL_TS i hi
  rw [busWrite_reg ht hv h4 h2 h1 (by decide), h3]
  rw [if_neg (by simp only [fCAL_VAL_TS_OFS]; omega), if_neg (by simp only [fCAL_VAL_TS_OFS]; omega)]

theorem row_CAL_VAL_ADC : ∀ i < 16, regRowAt (fCAL_VAL_ADC_OFS i).addr = some regCAL_VAL_ADC ∧ plainOfs (fCAL_VAL_ADC_OFS i).addr = true ∧
    rowIndex regCAL_VAL_ADC (fCAL_VAL_ADC_OFS i).addr = i ∧ critOfs (fCAL_VAL_ADC_OFS i).addr = false := by decide +kernel

theorem writeDrive_CAL_VAL_ADC : s.writeDrive req a v i regCAL_VAL_ADC = (
    s.calWrite ((a - 0x03200000) / 16) v) := by
  unfold State.writeDrive
  dsimp only
  repeat rw [if_neg (by decide)]
  rw [if_pos (by decide)]

theorem write_CAL_VAL_ADC (hi : i < 16) (ht : s.takesWrite req (fCAL_VAL_ADC_OFS i).addr = true) (hv : v < 2 ^ 32) :
    s.busWrite req (fCAL_VAL_ADC_OFS i).addr v = (s.writeDrive req (fCAL_VAL_ADC_OFS i).addr v i regCAL_VAL_ADC).wakeBanks := by
  obtain ⟨h1, h2, h3, h4⟩ := row_CAL_VAL_ADC i hi
  rw [busWrite_reg ht hv h4 h2 h1 (by decide), h3]
  rw [if_neg (by simp only [fCAL_VAL_ADC_OFS]; omega), if_neg (by simp only [fCAL_VAL_ADC_OFS]; omega)]

theorem row_CAL_VAL_LANE : ∀ i < 272, regRowAt (fCAL_VAL_LANE_OFST i).addr = some regCAL_VAL_LANE ∧ plainOfs (fCAL_VAL_LANE_OFST i).addr = true ∧
    rowIndex regCAL_VAL_LANE (fCAL_VAL_LANE_OFST i).addr = i ∧ critOfs (fCAL_VAL_LANE_OFST i).addr = false := by decide +kernel

theorem writeDrive_CAL_VAL_LANE : s.writeDrive req a v i regCAL_VAL_LANE = (
    s.calWrite ((a - 0x03200000) / 16) v) := by
  unfold State.writeDrive
  dsimp only
  repeat rw [if_neg (by decide)]
  rw [if_pos (by decide)]

theorem write_CAL_VAL_LANE (hi : i < 272) (ht : s.takesWrite req (fCAL_VAL_LANE_OFST i).addr = true) (hv : v < 2 ^ 32) :
    s.busWrite req (fCAL_VAL_LANE_OFST i).addr v = (s.writeDrive req (fCAL_VAL_LANE_OFST i).addr v i regCAL_VAL_LANE).wakeBanks := by
  obtain ⟨h1, h2, h3, h4⟩ := row_CAL_VAL_LANE i hi
  rw [busWrite_reg ht hv h4 h2 h1 (by decide), h3]
  rw [if_neg (by simp only [fCAL_VAL_LANE_OFST]; omega), if_neg (by simp only [fCAL_VAL_LANE_OFST]; omega)]

theorem row_CAL_VAL_DCC : ∀ i < 24, regRowAt (fCAL_VAL_DCC_CODE i).addr = some regCAL_VAL_DCC ∧ plainOfs (fCAL_VAL_DCC_CODE i).addr = true ∧
    rowIndex regCAL_VAL_DCC (fCAL_VAL_DCC_CODE i).addr = i ∧ critOfs (fCAL_VAL_DCC_CODE i).addr = false := by decide +kernel

theorem writeDrive_CAL_VAL_DCC : s.writeDrive req a v i regCAL_VAL_DCC = (
    s.calWrite ((a - 0x03200000) / 16) v) := by
  unfold State.writeDrive
  dsimp only
  repeat rw [if_neg (by decide)]
  rw [if_pos (by decide)]

theorem write_CAL_VAL_DCC (hi : i < 24) (ht : s.takesWrite req (fCAL_VAL_DCC_CODE i).addr = true) (hv : v < 2 ^ 32) :
    s.busWrite req (fCAL_VAL_DCC_CODE i).addr v = (s.writeDrive req (fCAL_VAL_DCC_CODE i).addr v i regCAL_VAL_DCC).wakeBanks := by
  obtain ⟨h1, h2, h3, h4⟩ := row_CAL_VAL_DCC i hi
  rw [busWrite_reg ht hv h4 h2 h1 (by decide), h3]
  rw [if_neg (by simp only [fCAL_VAL_DCC_CODE]; omega), if_neg (by simp only [fCAL_VAL_DCC_CODE]; omega)]

theorem row_EVR_PTR : ∀ i < 8, regRowAt (fEVR_PTR_HEAD i).addr = some regEVR_PTR ∧ plainOfs (fEVR_PTR_HEAD i).addr = true ∧
    rowIndex regEVR_PTR (fEVR_PTR_HEAD i).addr = i ∧ critOfs (fEVR_PTR_HEAD i).addr = false := by decide +kernel

theorem writeDrive_EVR_PTR : s.writeDrive req a v i regEVR_PTR = (
    s.writeHead i (v / 65536)) := rfl

theorem write_EVR_PTR (hi : i < 8) (ht : s.takesWrite req (fEVR_PTR_HEAD i).addr = true) (hv : v < 2 ^ 32) :
    s.busWrite req (fEVR_PTR_HEAD i).addr v = (s.writeDrive req (fEVR_PTR_HEAD i).addr v i regEVR_PTR).wakeBanks := by
  obtain ⟨h1, h2, h3, h4⟩ := row_EVR_PTR i hi
  rw [busWrite_reg ht hv h4 h2 h1 (by decide), h3]
  rw [if_neg (by simp only [fEVR_PTR_HEAD]; omega), if_neg (by simp only [fEVR_PTR_HEAD]; omega)]

theorem row_EVR_CFG : ∀ i < 8, regRowAt (fEVR_CFG_EN i).addr = some regEVR_CFG ∧ plainOfs (fEVR_CFG_EN i).addr = true ∧
    rowIndex regEVR_CFG (fEVR_CFG_EN i).addr = i ∧ critOfs (fEVR_CFG_EN i).addr = false := by decide +kernel

theorem writeDrive_EVR_CFG : s.writeDrive req a v i regEVR_CFG = (
    let was := s.on (fEVR_CFG_EN i)
    let s := s.putFields a v regEVR_CFG.fields (!was) (atBits [])
    if bit v 31 = 1 ∧ ¬ was then s.ringOn i else s) := rfl

theorem write_EVR_CFG (hi : i < 8) (ht : s.takesWrite req (fEVR_CFG_EN i).addr = true) (hv : v < 2 ^ 32) :
    s.busWrite req (fEVR_CFG_EN i).addr v = (s.writeDrive req (fEVR_CFG_EN i).addr v i regEVR_CFG).wakeBanks := by
  obtain ⟨h1, h2, h3, h4⟩ := row_EVR_CFG i hi
  rw [busWrite_reg ht hv h4 h2 h1 (by decide), h3]
  rw [if_neg (by simp only [fEVR_CFG_EN]; omega), if_neg (by simp only [fEVR_CFG_EN]; omega)]

theorem row_SEC_KL_CTRL : regRowAt fSEC_KL_CTRL_GO.addr = some regSEC_KL_CTRL ∧ plainOfs fSEC_KL_CTRL_GO.addr = true ∧
    rowIndex regSEC_KL_CTRL fSEC_KL_CTRL_GO.addr = 0 ∧ critOfs fSEC_KL_CTRL_GO.addr = false := by decide

theorem writeHost_SEC_KL_CTRL : s.writeHost req a v 0 regSEC_KL_CTRL = (
    (if bit v 31 = 1 then s.keyGo else s)) := rfl

theorem write_SEC_KL_CTRL (ht : s.takesWrite req fSEC_KL_CTRL_GO.addr = true) (hv : v < 2 ^ 32) :
    s.busWrite req fSEC_KL_CTRL_GO.addr v = (s.writeHost req fSEC_KL_CTRL_GO.addr v 0 regSEC_KL_CTRL).wakeBanks := by
  obtain ⟨h1, h2, h3, h4⟩ := row_SEC_KL_CTRL
  rw [busWrite_reg ht hv h4 h2 h1 (by decide), h3]
  rw [if_pos (by decide)]

theorem row_SEC_LC_REQ : regRowAt fSEC_LC_REQ_GO.addr = some regSEC_LC_REQ ∧ plainOfs fSEC_LC_REQ_GO.addr = true ∧
    rowIndex regSEC_LC_REQ fSEC_LC_REQ_GO.addr = 0 := by decide

theorem writeHost_SEC_LC_REQ : s.writeHost req a v 0 regSEC_LC_REQ = (
    let s := s.putFields a v regSEC_LC_REQ.fields true (atBits [])
    if bit v 31 = 1 then s.lcGo else s) := rfl

theorem write_SEC_LC_REQ (ht : s.takesWrite req fSEC_LC_REQ_GO.addr = true) (hv : v < 2 ^ 32) (hj : s.granted req fSEC_LC_REQ_GO.addr v) :
    s.busWrite req fSEC_LC_REQ_GO.addr v = (s.writeHost req fSEC_LC_REQ_GO.addr v 0 regSEC_LC_REQ).wakeBanks := by
  obtain ⟨h1, h2, h3⟩ := row_SEC_LC_REQ
  rw [busWrite_regG ht hv hj h2 h1 (by decide), h3]
  rw [if_pos (by decide)]

theorem row_SEC_DBG : regRowAt fSEC_DBG_UNLOCK.addr = some regSEC_DBG ∧ plainOfs fSEC_DBG_UNLOCK.addr = true ∧
    rowIndex regSEC_DBG fSEC_DBG_UNLOCK.addr = 0 := by decide

theorem writeHost_SEC_DBG : s.writeHost req a v 0 regSEC_DBG = (
    (if bit v 31 = 1 then s.dbgUnlock else s)) := rfl

theorem write_SEC_DBG (ht : s.takesWrite req fSEC_DBG_UNLOCK.addr = true) (hv : v < 2 ^ 32) (hj : s.granted req fSEC_DBG_UNLOCK.addr v) :
    s.busWrite req fSEC_DBG_UNLOCK.addr v = (s.writeHost req fSEC_DBG_UNLOCK.addr v 0 regSEC_DBG).wakeBanks := by
  obtain ⟨h1, h2, h3⟩ := row_SEC_DBG
  rw [busWrite_regG ht hv hj h2 h1 (by decide), h3]
  rw [if_pos (by decide)]

theorem row_NVS_REC_CTRL : regRowAt fNVS_REC_CTRL_GO.addr = some regNVS_REC_CTRL ∧ plainOfs fNVS_REC_CTRL_GO.addr = true ∧
    rowIndex regNVS_REC_CTRL fNVS_REC_CTRL_GO.addr = 0 := by decide

theorem writeHost_NVS_REC_CTRL : s.writeHost req a v 0 regNVS_REC_CTRL = (
    let s := s.putFields a v regNVS_REC_CTRL.fields true (atBits [])
    if bit v 31 = 1 then s.recJob else s) := rfl

theorem write_NVS_REC_CTRL (ht : s.takesWrite req fNVS_REC_CTRL_GO.addr = true) (hv : v < 2 ^ 32) (hj : s.granted req fNVS_REC_CTRL_GO.addr v) :
    s.busWrite req fNVS_REC_CTRL_GO.addr v = (s.writeHost req fNVS_REC_CTRL_GO.addr v 0 regNVS_REC_CTRL).wakeBanks := by
  obtain ⟨h1, h2, h3⟩ := row_NVS_REC_CTRL
  rw [busWrite_regG ht hv hj h2 h1 (by decide), h3]
  rw [if_pos (by decide)]

theorem row_NVS_CNT_INC : regRowAt fNVS_CNT_INC_CNT.addr = some regNVS_CNT_INC ∧ plainOfs fNVS_CNT_INC_CNT.addr = true ∧
    rowIndex regNVS_CNT_INC fNVS_CNT_INC_CNT.addr = 0 ∧ critOfs fNVS_CNT_INC_CNT.addr = false := by decide

theorem writeHost_NVS_CNT_INC : s.writeHost req a v 0 regNVS_CNT_INC = (
    s.cntInc (v % 256)) := rfl

theorem write_NVS_CNT_INC (ht : s.takesWrite req fNVS_CNT_INC_CNT.addr = true) (hv : v < 2 ^ 32) :
    s.busWrite req fNVS_CNT_INC_CNT.addr v = (s.writeHost req fNVS_CNT_INC_CNT.addr v 0 regNVS_CNT_INC).wakeBanks := by
  obtain ⟨h1, h2, h3, h4⟩ := row_NVS_CNT_INC
  rw [busWrite_reg ht hv h4 h2 h1 (by decide), h3]
  rw [if_pos (by decide)]

theorem row_NVS_XFER_CTRL : regRowAt fNVS_XFER_CTRL_GO.addr = some regNVS_XFER_CTRL ∧ plainOfs fNVS_XFER_CTRL_GO.addr = true ∧
    rowIndex regNVS_XFER_CTRL fNVS_XFER_CTRL_GO.addr = 0 := by decide

theorem writeHost_NVS_XFER_CTRL : s.writeHost req a v 0 regNVS_XFER_CTRL = (
    let s := s.putFields a v regNVS_XFER_CTRL.fields true (atBits [])
    if bit v 31 = 1 then s.xferGo (reqNum req) else s) := rfl

theorem write_NVS_XFER_CTRL (ht : s.takesWrite req fNVS_XFER_CTRL_GO.addr = true) (hv : v < 2 ^ 32) (hj : s.granted req fNVS_XFER_CTRL_GO.addr v) :
    s.busWrite req fNVS_XFER_CTRL_GO.addr v = (s.writeHost req fNVS_XFER_CTRL_GO.addr v 0 regNVS_XFER_CTRL).wakeBanks := by
  obtain ⟨h1, h2, h3⟩ := row_NVS_XFER_CTRL
  rw [busWrite_regG ht hv hj h2 h1 (by decide), h3]
  rw [if_pos (by decide)]

theorem row_NVS_ACT : regRowAt fNVS_ACT_GO.addr = some regNVS_ACT ∧ plainOfs fNVS_ACT_GO.addr = true ∧
    rowIndex regNVS_ACT fNVS_ACT_GO.addr = 0 := by decide

theorem writeHost_NVS_ACT : s.writeHost req a v 0 regNVS_ACT = (
    let s := s.putFields a v regNVS_ACT.fields true (atBits [])
    if bit v 31 = 1 then s.activate_ else s) := rfl

theorem write_NVS_ACT (ht : s.takesWrite req fNVS_ACT_GO.addr = true) (hv : v < 2 ^ 32) (hj : s.granted req fNVS_ACT_GO.addr v) :
    s.busWrite req fNVS_ACT_GO.addr v = (s.writeHost req fNVS_ACT_GO.addr v 0 regNVS_ACT).wakeBanks := by
  obtain ⟨h1, h2, h3⟩ := row_NVS_ACT
  rw [busWrite_regG ht hv hj h2 h1 (by decide), h3]
  rw [if_pos (by decide)]

theorem row_MEM_BANK : ∀ i < 260, regRowAt (fMEM_BANK_REQ i).addr = some regMEM_BANK ∧ plainOfs (fMEM_BANK_REQ i).addr = true ∧
    rowIndex regMEM_BANK (fMEM_BANK_REQ i).addr = i ∧ critOfs (fMEM_BANK_REQ i).addr = false := by decide +kernel

theorem writeHost_MEM_BANK : s.writeHost req a v i regMEM_BANK = (
    (s.putFields a v regMEM_BANK.fields true (atBits [30])).bankRequest i (bitsOf v 31 30)) := rfl

theorem write_MEM_BANK (hi : i < 260) (ht : s.takesWrite req (fMEM_BANK_REQ i).addr = true) (hv : v < 2 ^ 32) :
    s.busWrite req (fMEM_BANK_REQ i).addr v = (s.writeHost req (fMEM_BANK_REQ i).addr v i regMEM_BANK).wakeBanks := by
  obtain ⟨h1, h2, h3, h4⟩ := row_MEM_BANK i hi
  rw [busWrite_reg ht hv h4 h2 h1 (by decide), h3]
  rw [if_pos (by simp only [fMEM_BANK_REQ]; omega)]

theorem row_MEM_MARCH_CTRL : regRowAt fMEM_MARCH_CTRL_GO.addr = some regMEM_MARCH_CTRL ∧ plainOfs fMEM_MARCH_CTRL_GO.addr = true ∧
    rowIndex regMEM_MARCH_CTRL fMEM_MARCH_CTRL_GO.addr = 0 ∧ critOfs fMEM_MARCH_CTRL_GO.addr = false := by decide

theorem writeHost_MEM_MARCH_CTRL : s.writeHost req a v 0 regMEM_MARCH_CTRL = (
    let s := s.putFields a v regMEM_MARCH_CTRL.fields true (atBits [])
    let s := if bit v 30 = 1 then s.marchAbort else s
    if bit v 31 = 1 then s.marchGo else s) := rfl

theorem write_MEM_MARCH_CTRL (ht : s.takesWrite req fMEM_MARCH_CTRL_GO.addr = true) (hv : v < 2 ^ 32) :
    s.busWrite req fMEM_MARCH_CTRL_GO.addr v = (s.writeHost req fMEM_MARCH_CTRL_GO.addr v 0 regMEM_MARCH_CTRL).wakeBanks := by
  obtain ⟨h1, h2, h3, h4⟩ := row_MEM_MARCH_CTRL
  rw [busWrite_reg ht hv h4 h2 h1 (by decide), h3]
  rw [if_pos (by decide)]

theorem row_ARB_APPLY : regRowAt fARB_APPLY_APPLY.addr = some regARB_APPLY ∧ plainOfs fARB_APPLY_APPLY.addr = true ∧
    rowIndex regARB_APPLY fARB_APPLY_APPLY.addr = 0 ∧ critOfs fARB_APPLY_APPLY.addr = false := by decide

theorem writeHost_ARB_APPLY : s.writeHost req a v 0 regARB_APPLY = (
    (if bit v 31 = 1 then s.arbApply else s)) := rfl

theorem write_ARB_APPLY (ht : s.takesWrite req fARB_APPLY_APPLY.addr = true) (hv : v < 2 ^ 32) :
    s.busWrite req fARB_APPLY_APPLY.addr v = (s.writeHost req fARB_APPLY_APPLY.addr v 0 regARB_APPLY).wakeBanks := by
  obtain ⟨h1, h2, h3, h4⟩ := row_ARB_APPLY
  rw [busWrite_reg ht hv h4 h2 h1 (by decide), h3]
  rw [if_pos (by decide)]

theorem row_MEM_COPY_CTRL : regRowAt fMEM_COPY_CTRL_GO.addr = some regMEM_COPY_CTRL ∧ plainOfs fMEM_COPY_CTRL_GO.addr = true ∧
    rowIndex regMEM_COPY_CTRL fMEM_COPY_CTRL_GO.addr = 0 ∧ critOfs fMEM_COPY_CTRL_GO.addr = false := by decide

theorem writeHost_MEM_COPY_CTRL : s.writeHost req a v 0 regMEM_COPY_CTRL = (
    let s := s.putFields a v regMEM_COPY_CTRL.fields true (atBits [])
    if bit v 31 = 1 then s.copyGo req else s) := rfl

theorem write_MEM_COPY_CTRL (ht : s.takesWrite req fMEM_COPY_CTRL_GO.addr = true) (hv : v < 2 ^ 32) :
    s.busWrite req fMEM_COPY_CTRL_GO.addr v = (s.writeHost req fMEM_COPY_CTRL_GO.addr v 0 regMEM_COPY_CTRL).wakeBanks := by
  obtain ⟨h1, h2, h3, h4⟩ := row_MEM_COPY_CTRL
  rw [busWrite_reg ht hv h4 h2 h1 (by decide), h3]
  rw [if_pos (by decide)]

end Sys2Proof.Machine
end

