-- ==== Sys2Proof/Laws/TouchRows.lean ====
section
/-!
SUPPORT. Which parts of the state a register write can change, register by register, and each command that is one.
-/
set_option Elab.async false
set_option linter.all false

namespace Sys2Proof.Machine.Touch

variable {m : Nat} {s t : State}

/-- The banks that return to ON change register fields alone. -/
theorem wakeRegs (d : Has m 2) (h : Touch m s t) : Touch m s t.wakeBanks := by
  unfold State.wakeBanks
  refine .foldl (fun t b h => .ite ?_ h) h
  unfold State.setBank
  dsimp only
  rw [if_neg (by decide)]
  exact .ite (.setF d (.setF d (.setF d h))) (.setF d (.setF d h))

/-- A write to a register either does nothing, is denied, or runs the register's rule. -/
theorem busWrite_row {req : Req} {a v : Nat} {r : RegRow} (d : Has m 2) (dc : critOfs a = true → Has m (2 ^ 19))
    (h : Touch m s t) (hp : plainOfs a = true) (hr : regRowAt a = some r) (hm : sMask r = 0)
    (hw : ∀ w, Touch m s (if a < 0x01E00000 then t.writeHost req a w (rowIndex r a) r
      else if a < 0x02E00000 then t.writeRaster req a w (rowIndex r a) r
      else t.writeDrive req a w (rowIndex r a) r)) : Touch m s (t.busWrite req a v) := by
  have hp' := hp
  simp only [plainOfs, decide_eq_true_eq] at hp'
  have hg : ∀ w, Touch m s (t.placeWrite req a w).wakeBanks := by
    intro w
    rw [placeWrite_reg hp hr]
    unfold State.regWrite
    rw [stageWord_nil hm]
    exact .wakeRegs d (hw w)
  unfold State.busWrite
  dsimp only
  refine .ite h ?_
  rw [if_neg (by omega)]
  refine .ite h (.ite (.setW1c d h) ?_)
  split
  · exact hg _
  · rename_i k hk
    have hc : critOfs a = true := by
      by_contra hc
      rw [critBit_none (by simpa using hc)] at hk
      cases hk
    split
    · rename_i s' e
      have := judge_true (s := t) (req := req) (a := a) (k := k) (by rw [e])
      rw [this] at e
      cases e
      exact hg _
    · rename_i s' e
      exact ofEq e (.judge (by
        have h1 := dc hc
        unfold Has at *
        have : (524290 : Nat) = 2 ||| 2 ^ 19 := by rfl
        rw [this, Nat.and_or_distrib_right, d, h1]) h)

theorem wr_TMG_CTRL {req : Req} {a v i : Nat} (d : Has m 33524434) (h : Touch m s t) : Touch m s (t.writeRaster req a v i regTMG_CTRL) := by
  rw [writeRaster_TMG_CTRL]; exact (.writeRun (d.s rfl) (.putFields (d.s rfl) h))

theorem busWrite_TMG_CTRL {req i v} (d : Has m 33524434) (hi : i < 16) (h : Touch m s t) : Touch m s (t.busWrite req (fTMG_CTRL_RUN i).addr v) := by
  obtain ⟨h1, h2, h3, h4⟩ := row_TMG_CTRL i hi
  refine .busWrite_row (d.s rfl) (fun e => by rw [h4] at e; cases e) h h2 h1 (by decide) fun w => ?_
  rw [h3, if_neg (by simp only [fTMG_CTRL_RUN]; omega), if_pos (by simp only [fTMG_CTRL_RUN]; omega)]
  exact .wr_TMG_CTRL (d.s rfl) h

theorem wr_PAN_SR_CTRL {req : Req} {a v : Nat} (d : Has m 514) (h : Touch m s t) : Touch m s (t.writeRaster req a v 0 regPAN_SR_CTRL) := by
  rw [writeRaster_PAN_SR_CTRL]; exact (.writeSleep (d.s rfl) h)

theorem busWrite_PAN_SR_CTRL {req v} (d : Has m 514) (h : Touch m s t) : Touch m s (t.busWrite req fPAN_SR_CTRL_SLEEP.addr v) := by
  obtain ⟨h1, h2, h3, h4⟩ := row_PAN_SR_CTRL
  refine .busWrite_row (d.s rfl) (fun e => by rw [h4] at e; cases e) h h2 h1 (by decide) fun w => ?_
  rw [h3, if_neg (by decide), if_pos (by decide)]
  exact .wr_PAN_SR_CTRL (d.s rfl) h

theorem wr_PIX_TLD_CTRL {req : Req} {a v : Nat} (d : Has m 131138) (h : Touch m s t) : Touch m s (t.writeRaster req a v 0 regPIX_TLD_CTRL) := by
  rw [writeRaster_PIX_TLD_CTRL]; exact (.writeTldCtrl (d.s rfl) h)

theorem busWrite_PIX_TLD_CTRL {req v} (d : Has m 131138) (h : Touch m s t) : Touch m s (t.busWrite req fPIX_TLD_CTRL_GO.addr v) := by
  obtain ⟨h1, h2, h3, h4⟩ := row_PIX_TLD_CTRL
  refine .busWrite_row (d.s rfl) (fun e => by rw [h4] at e; cases e) h h2 h1 (by decide) fun w => ?_
  rw [h3, if_neg (by decide), if_pos (by decide)]
  exact .wr_PIX_TLD_CTRL (d.s rfl) h

theorem wr_FST_STRUDEL_CELLS {req : Req} {a v : Nat} (d : Has m 278594) (h : Touch m s t) : Touch m s (t.writeHost req a v 0 regFST_STRUDEL_CELLS) := by
  rw [writeHost_FST_STRUDEL_CELLS]; exact (.strudelWrite (d.s rfl) h)

theorem busWrite_FST_STRUDEL_CELLS {req v} (d : Has m 278594) (h : Touch m s t) : Touch m s (t.busWrite req fFST_STRUDEL_CELLS_CELLS.addr v) := by
  obtain ⟨h1, h2, h3, h4⟩ := row_FST_STRUDEL_CELLS
  refine .busWrite_row (d.s rfl) (fun e => by rw [h4] at e; cases e) h h2 h1 (by decide) fun w => ?_
  rw [h3, if_pos (by decide)]
  exact .wr_FST_STRUDEL_CELLS (d.s rfl) h

theorem wr_FST_STRUDEL_DEV {req : Req} {a v : Nat} (d : Has m 278594) (h : Touch m s t) : Touch m s (t.writeHost req a v 0 regFST_STRUDEL_DEV) := by
  rw [writeHost_FST_STRUDEL_DEV]; exact (.strudelWrite (d.s rfl) h)

theorem busWrite_FST_STRUDEL_DEV {req v} (d : Has m 278594) (h : Touch m s t) : Touch m s (t.busWrite req fFST_STRUDEL_DEV_DEV_FIRST.addr v) := by
  obtain ⟨h1, h2, h3, h4⟩ := row_FST_STRUDEL_DEV
  refine .busWrite_row (d.s rfl) (fun e => by rw [h4] at e; cases e) h h2 h1 (by decide) fun w => ?_
  rw [h3, if_pos (by decide)]
  exact .wr_FST_STRUDEL_DEV (d.s rfl) h

theorem wr_CDC_RING_PTR {req : Req} {a v : Nat} (d : Has m 262146) (h : Touch m s t) : Touch m s (t.writeHost req a v 0 regCDC_RING_PTR) := by
  rw [writeHost_CDC_RING_PTR]; exact (.submitJobs (d.s rfl) h)

theorem busWrite_CDC_RING_PTR {req v} (d : Has m 262146) (h : Touch m s t) : Touch m s (t.busWrite req fCDC_RING_PTR_TAIL.addr v) := by
  obtain ⟨h1, h2, h3, h4⟩ := row_CDC_RING_PTR
  refine .busWrite_row (d.s rfl) (fun e => by rw [h4] at e; cases e) h h2 h1 (by decide) fun w => ?_
  rw [h3, if_pos (by decide)]
  exact .wr_CDC_RING_PTR (d.s rfl) h

theorem wr_CDC_STATUS {req : Req} {a v : Nat} (d : Has m 262210) (h : Touch m s t) : Touch m s (t.writeHost req a v 0 regCDC_STATUS) := by
  rw [writeHost_CDC_STATUS]; exact (.releaseEncoders (d.s rfl) h)

theorem busWrite_CDC_STATUS {req v} (d : Has m 262210) (h : Touch m s t) : Touch m s (t.busWrite req fCDC_STATUS_QUAR.addr v) := by
  obtain ⟨h1, h2, h3, h4⟩ := row_CDC_STATUS
  refine .busWrite_row (d.s rfl) (fun e => by rw [h4] at e; cases e) h h2 h1 (by decide) fun w => ?_
  rw [h3, if_pos (by decide)]
  exact .wr_CDC_STATUS (d.s rfl) h

theorem wr_CPR_CTRL {req : Req} {a v i : Nat} (d : Has m 25723586) (h : Touch m s t) : Touch m s (t.writeHost req a v i regCPR_CTRL) := by
  rw [writeHost_CPR_CTRL]; exact (.coreCtrl (d.s rfl) (.putFields (d.s rfl) h))

theorem busWrite_CPR_CTRL {req i v} (d : Has m 25723586) (hi : i < 8) (h : Touch m s t) : Touch m s (t.busWrite req (fCPR_CTRL_RUN i).addr v) := by
  obtain ⟨h1, h2, h3, h4⟩ := row_CPR_CTRL i hi
  refine .busWrite_row (d.s rfl) (fun e => by rw [h4] at e; cases e) h h2 h1 (by decide) fun w => ?_
  rw [h3, if_pos (by simp only [fCPR_CTRL_RUN]; omega)]
  exact .wr_CPR_CTRL (d.s rfl) h

theorem wr_SQR_CTRL {req : Req} {a v i : Nat} (d : Has m 25723586) (h : Touch m s t) : Touch m s (t.writeRaster req a v i regSQR_CTRL) := by
  rw [writeRaster_SQR_CTRL]; exact (.coreCtrl (d.s rfl) (.putFields (d.s rfl) h))

theorem busWrite_SQR_CTRL {req i v} (d : Has m 25723586) (hi : i < 65) (h : Touch m s t) : Touch m s (t.busWrite req (fSQR_CTRL_RUN i).addr v) := by
  obtain ⟨h1, h2, h3, h4⟩ := row_SQR_CTRL i hi
  refine .busWrite_row (d.s rfl) (fun e => by rw [h4] at e; cases e) h h2 h1 (by decide) fun w => ?_
  rw [h3, if_neg (by simp only [fSQR_CTRL_RUN]; omega), if_pos (by simp only [fSQR_CTRL_RUN]; omega)]
  exact .wr_SQR_CTRL (d.s rfl) h

theorem wr_CPR_MBOX {req : Req} {a v i : Nat} (d : Has m 524290) (h : Touch m s t) : Touch m s (t.writeHost req a v i regCPR_MBOX) := by
  rw [writeHost_CPR_MBOX]; exact (.occur (d.s rfl) (.putFields (d.s rfl) h))

theorem busWrite_CPR_MBOX {req i v} (d : Has m 524290) (hi : i < 8) (h : Touch m s t) : Touch m s (t.busWrite req (fCPR_MBOX_DATA i).addr v) := by
  obtain ⟨h1, h2, h3, h4⟩ := row_CPR_MBOX i hi
  refine .busWrite_row (d.s rfl) (fun e => by rw [h4] at e; cases e) h h2 h1 (by decide) fun w => ?_
  rw [h3, if_pos (by simp only [fCPR_MBOX_DATA]; omega)]
  exact .wr_CPR_MBOX (d.s rfl) h

theorem wr_SQR_MBOX {req : Req} {a v i : Nat} (d : Has m 524290) (h : Touch m s t) : Touch m s (t.writeRaster req a v i regSQR_MBOX) := by
  rw [writeRaster_SQR_MBOX]; exact (.occur (d.s rfl) (.putFields (d.s rfl) h))

theorem busWrite_SQR_MBOX {req i v} (d : Has m 524290) (hi : i < 65) (h : Touch m s t) : Touch m s (t.busWrite req (fSQR_MBOX_DATA i).addr v) := by
  obtain ⟨h1, h2, h3, h4⟩ := row_SQR_MBOX i hi
  refine .busWrite_row (d.s rfl) (fun e => by rw [h4] at e; cases e) h h2 h1 (by decide) fun w => ?_
  rw [h3, if_neg (by simp only [fSQR_MBOX_DATA]; omega), if_pos (by simp only [fSQR_MBOX_DATA]; omega)]
  exact .wr_SQR_MBOX (d.s rfl) h

theorem wr_CXL_Q_CTRL {req : Req} {a v i : Nat} (d : Has m 8946370) (h : Touch m s t) : Touch m s (t.writeHost req a v i regCXL_Q_CTRL) := by
  rw [writeHost_CXL_Q_CTRL]; exact (.queueCtrl (d.s rfl) h)

theorem busWrite_CXL_Q_CTRL {req i v} (d : Has m 8946370) (hi : i < 512) (h : Touch m s t) : Touch m s (t.busWrite req (fCXL_Q_CTRL_RUN i).addr v) := by
  obtain ⟨h1, h2, h3, h4⟩ := row_CXL_Q_CTRL i hi
  refine .busWrite_row (d.s rfl) (fun e => by rw [h4] at e; cases e) h h2 h1 (by decide) fun w => ?_
  rw [h3, if_pos (by simp only [fCXL_Q_CTRL_RUN]; omega)]
  exact .wr_CXL_Q_CTRL (d.s rfl) h

theorem wr_CXL_Q_PTR {req : Req} {a v i : Nat} (d : Has m 524290) (h : Touch m s t) : Touch m s (t.writeHost req a v i regCXL_Q_PTR) := by
  rw [writeHost_CXL_Q_PTR]; exact (.doorbell (d.s rfl) h)

theorem busWrite_CXL_Q_PTR {req i v} (d : Has m 524290) (hi : i < 512) (h : Touch m s t) : Touch m s (t.busWrite req (fCXL_Q_PTR_TAIL i).addr v) := by
  obtain ⟨h1, h2, h3, h4⟩ := row_CXL_Q_PTR i hi
  refine .busWrite_row (d.s rfl) (fun e => by rw [h4] at e; cases e) h h2 h1 (by decide) fun w => ?_
  rw [h3, if_pos (by simp only [fCXL_Q_PTR_TAIL]; omega)]
  exact .wr_CXL_Q_PTR (d.s rfl) h

theorem wr_CPR_MP_OP {req : Req} {a v : Nat} (d : Has m 525314) (h : Touch m s t) : Touch m s (t.writeHost req a v 0 regCPR_MP_OP) := by
  rw [writeHost_CPR_MP_OP]; exact (.ite (.mpOp (d.s rfl) h) h)

theorem busWrite_CPR_MP_OP {req v} (d : Has m 525314) (h : Touch m s t) : Touch m s (t.busWrite req fCPR_MP_OP_OP.addr v) := by
  obtain ⟨h1, h2, h3, h4⟩ := row_CPR_MP_OP
  refine .busWrite_row (d.s rfl) (fun e => by rw [h4] at e; cases e) h h2 h1 (by decide) fun w => ?_
  rw [h3, if_pos (by decide)]
  exact .wr_CPR_MP_OP (d.s rfl) h

theorem wr_CPR_LOCK_BREAK {req : Req} {a v : Nat} (d : Has m 524994) (h : Touch m s t) : Touch m s (t.writeHost req a v 0 regCPR_LOCK_BREAK) := by
  rw [writeHost_CPR_LOCK_BREAK]; exact (.lockBreak (d.s rfl) h)

theorem busWrite_CPR_LOCK_BREAK {req v} (d : Has m 524994) (h : Touch m s t) : Touch m s (t.busWrite req fCPR_LOCK_BREAK_LOCK.addr v) := by
  obtain ⟨h1, h2, h3⟩ := row_CPR_LOCK_BREAK
  refine .busWrite_row (d.s rfl) (fun _ => d.s rfl) h h2 h1 (by decide) fun w => ?_
  rw [h3, if_pos (by decide)]
  exact .wr_CPR_LOCK_BREAK (d.s rfl) h

theorem wr_LNK_CFG {req : Req} {a v i : Nat} (d : Has m 1048658) (h : Touch m s t) : Touch m s (t.writeRaster req a v i regLNK_CFG) := by
  rw [writeRaster_LNK_CFG]; exact (.laneEn (d.s rfl) (.putFields (d.s rfl) h))

theorem busWrite_LNK_CFG {req i v} (d : Has m 1048658) (hi : i < 272) (h : Touch m s t) : Touch m s (t.busWrite req (fLNK_CFG_EN i).addr v) := by
  obtain ⟨h1, h2, h3, h4⟩ := row_LNK_CFG i hi
  refine .busWrite_row (d.s rfl) (fun e => by rw [h4] at e; cases e) h h2 h1 (by decide) fun w => ?_
  rw [h3, if_neg (by simp only [fLNK_CFG_EN]; omega), if_pos (by simp only [fLNK_CFG_EN]; omega)]
  exact .wr_LNK_CFG (d.s rfl) h

theorem wr_LNK_CMD {req : Req} {a v i : Nat} (d : Has m 1048642) (h : Touch m s t) : Touch m s (t.writeRaster req a v i regLNK_CMD) := by
  rw [writeRaster_LNK_CMD]; exact (.lnkCmd (d.s rfl) h)

theorem busWrite_LNK_CMD {req i v} (d : Has m 1048642) (hi : i < 272) (h : Touch m s t) : Touch m s (t.busWrite req (fLNK_CMD_ENUM i).addr v) := by
  obtain ⟨h1, h2, h3, h4⟩ := row_LNK_CMD i hi
  refine .busWrite_row (d.s rfl) (fun e => by rw [h4] at e; cases e) h h2 h1 (by decide) fun w => ?_
  rw [h3, if_neg (by simp only [fLNK_CMD_ENUM]; omega), if_pos (by simp only [fLNK_CMD_ENUM]; omega)]
  exact .wr_LNK_CMD (d.s rfl) h

theorem wr_LNK_SPARE {req : Req} {a v i : Nat} (d : Has m 1048642) (h : Touch m s t) : Touch m s (t.writeRaster req a v i regLNK_SPARE) := by
  rw [writeRaster_LNK_SPARE]; exact (.spareCmd (d.s rfl) (.putFields (d.s rfl) h))

theorem busWrite_LNK_SPARE {req i v} (d : Has m 1048642) (hi : i < 16) (h : Touch m s t) : Touch m s (t.busWrite req (fLNK_SPARE_FORCE i).addr v) := by
  obtain ⟨h1, h2, h3, h4⟩ := row_LNK_SPARE i hi
  refine .busWrite_row (d.s rfl) (fun e => by rw [h4] at e; cases e) h h2 h1 (by decide) fun w => ?_
  rw [h3, if_neg (by simp only [fLNK_SPARE_FORCE]; omega), if_pos (by simp only [fLNK_SPARE_FORCE]; omega)]
  exact .wr_LNK_SPARE (d.s rfl) h

theorem wr_LNK_INJ {req : Req} {a v i : Nat} (d : Has m 1048594) (h : Touch m s t) : Touch m s (t.writeRaster req a v i regLNK_INJ) := by
  rw [writeRaster_LNK_INJ]; exact (.armInj (d.s rfl) (.putFields (d.s rfl) h))

theorem busWrite_LNK_INJ {req i v} (d : Has m 1048594) (hi : i < 272) (h : Touch m s t) : Touch m s (t.busWrite req (fLNK_INJ_GO i).addr v) := by
  obtain ⟨h1, h2, h3, h4⟩ := row_LNK_INJ i hi
  refine .busWrite_row (d.s rfl) (fun e => by rw [h4] at e; cases e) h h2 h1 (by decide) fun w => ?_
  rw [h3, if_neg (by simp only [fLNK_INJ_GO]; omega), if_pos (by simp only [fLNK_INJ_GO]; omega)]
  exact .wr_LNK_INJ (d.s rfl) h

theorem wr_LNK_UPQ_CTRL {req : Req} {a v i : Nat} (d : Has m 1049282) (h : Touch m s t) : Touch m s (t.writeRaster req a v i regLNK_UPQ_CTRL) := by
  rw [writeRaster_LNK_UPQ_CTRL]; exact (.seq (.ite (.upqPop (d.s rfl) .refl) .refl) (.putFields (d.s rfl) h))

theorem busWrite_LNK_UPQ_CTRL {req i v} (d : Has m 1049282) (hi : i < 16) (h : Touch m s t) : Touch m s (t.busWrite req (fLNK_UPQ_CTRL_POP i).addr v) := by
  obtain ⟨h1, h2, h3, h4⟩ := row_LNK_UPQ_CTRL i hi
  refine .busWrite_row (d.s rfl) (fun e => by rw [h4] at e; cases e) h h2 h1 (by decide) fun w => ?_
  rw [h3, if_neg (by simp only [fLNK_UPQ_CTRL_POP]; omega), if_pos (by simp only [fLNK_UPQ_CTRL_POP]; omega)]
  exact .wr_LNK_UPQ_CTRL (d.s rfl) h

theorem wr_DRV_CTRL {req : Req} {a v i : Nat} (d : Has m 2097218) (h : Touch m s t) : Touch m s (t.writeDrive req a v i regDRV_CTRL) := by
  rw [writeDrive_DRV_CTRL]; exact (.writePwr (d.s rfl) h)

theorem busWrite_DRV_CTRL {req i v} (d : Has m 2097218) (hi : i < 16) (h : Touch m s t) : Touch m s (t.busWrite req (fDRV_CTRL_PWR i).addr v) := by
  obtain ⟨h1, h2, h3, h4⟩ := row_DRV_CTRL i hi
  refine .busWrite_row (d.s rfl) (fun e => by rw [h4] at e; cases e) h h2 h1 (by decide) fun w => ?_
  rw [h3, if_neg (by simp only [fDRV_CTRL_PWR]; omega), if_neg (by simp only [fDRV_CTRL_PWR]; omega)]
  exact .wr_DRV_CTRL (d.s rfl) h

theorem wr_DRV_RAIL_OVR {req : Req} {a v : Nat} (d : Has m 2097154) (h : Touch m s t) : Touch m s (t.writeDrive req a v 0 regDRV_RAIL_OVR) := by
  rw [writeDrive_DRV_RAIL_OVR]; exact (.railForce (d.s rfl) h)

theorem busWrite_DRV_RAIL_OVR {req v} (d : Has m 2621442) (h : Touch m s t) : Touch m s (t.busWrite req fDRV_RAIL_OVR_ACT.addr v) := by
  obtain ⟨h1, h2, h3⟩ := row_DRV_RAIL_OVR
  refine .busWrite_row (d.s rfl) (fun _ => d.s rfl) h h2 h1 (by decide) fun w => ?_
  rw [h3, if_neg (by decide), if_neg (by decide)]
  exact .wr_DRV_RAIL_OVR (d.s rfl) h

theorem wr_DRV_PF {req : Req} {a v : Nat} (d : Has m 2097154) (h : Touch m s t) : Touch m s (t.writeDrive req a v 0 regDRV_PF) := by
  rw [writeDrive_DRV_PF]; exact (.seq (.ite (.clearTripped (d.s rfl) .refl) .refl) (.putFields (d.s rfl) h))

theorem busWrite_DRV_PF {req v} (d : Has m 2097154) (h : Touch m s t) : Touch m s (t.busWrite req fDRV_PF_TRIPPED.addr v) := by
  obtain ⟨h1, h2, h3, h4⟩ := row_DRV_PF
  refine .busWrite_row (d.s rfl) (fun e => by rw [h4] at e; cases e) h h2 h1 (by decide) fun w => ?_
  rw [h3, if_neg (by decide), if_neg (by decide)]
  exact .wr_DRV_PF (d.s rfl) h

theorem wr_BIS_REQ2 {req : Req} {a v i : Nat} (d : Has m 2097154) (h : Touch m s t) : Touch m s (t.writeDrive req a v i regBIS_REQ2) := by
  rw [writeDrive_BIS_REQ2]; exact (.bisReq2 (d.s rfl) h)

theorem busWrite_BIS_REQ2 {req i v} (d : Has m 2097154) (hi : i < 16) (h : Touch m s t) : Touch m s (t.busWrite req (fBIS_REQ2_GO i).addr v) := by
  obtain ⟨h1, h2, h3, h4⟩ := row_BIS_REQ2 i hi
  refine .busWrite_row (d.s rfl) (fun e => by rw [h4] at e; cases e) h h2 h1 (by decide) fun w => ?_
  rw [h3, if_neg (by simp only [fBIS_REQ2_GO]; omega), if_neg (by simp only [fBIS_REQ2_GO]; omega)]
  exact .wr_BIS_REQ2 (d.s rfl) h

theorem wr_BIS_JBASE {req : Req} {a v : Nat} (d : Has m 2097218) (h : Touch m s t) : Touch m s (t.writeDrive req a v 0 regBIS_JBASE) := by
  rw [writeDrive_BIS_JBASE]; exact (.ite (.journalScan (d.s rfl) (.putFields (d.s rfl) h)) (.putFields (d.s rfl) h))

theorem busWrite_BIS_JBASE {req v} (d : Has m 2097218) (h : Touch m s t) : Touch m s (t.busWrite req fBIS_JBASE_JPAGE.addr v) := by
  obtain ⟨h1, h2, h3, h4⟩ := row_BIS_JBASE
  refine .busWrite_row (d.s rfl) (fun e => by rw [h4] at e; cases e) h h2 h1 (by decide) fun w => ?_
  rw [h3, if_neg (by decide), if_neg (by decide)]
  exact .wr_BIS_JBASE (d.s rfl) h

theorem wr_DRV_BON_CTRL {req : Req} {a v : Nat} (d : Has m 67108862) (h : Touch m s t) : Touch m s (t.writeDrive req a v 0 regDRV_BON_CTRL) := by
  rw [writeDrive_DRV_BON_CTRL]; exact (.seq (.seq (.seq (.ite (.bonSend (d.s rfl) .refl) .refl) (.ite (.bonExit (d.s rfl) .refl) .refl)) (.ite (.bonEnter (d.s rfl) .refl) .refl)) (.putFields (d.s rfl) h))

theorem busWrite_DRV_BON_CTRL {req v} (d : Has m 67108862) (h : Touch m s t) : Touch m s (t.busWrite req fDRV_BON_CTRL_ENTER.addr v) := by
  obtain ⟨h1, h2, h3, h4⟩ := row_DRV_BON_CTRL
  refine .busWrite_row (d.s rfl) (fun e => by rw [h4] at e; cases e) h h2 h1 (by decide) fun w => ?_
  rw [h3, if_neg (by decide), if_neg (by decide)]
  exact .wr_DRV_BON_CTRL (d.s rfl) h

theorem wr_CAL_CMD {req : Req} {a v : Nat} (d : Has m 4227138) (h : Touch m s t) : Touch m s (t.writeDrive req a v 0 regCAL_CMD) := by
  rw [writeDrive_CAL_CMD]; exact (.calCmd (d.s rfl) h)

theorem busWrite_CAL_CMD {req v} (d : Has m 4227138) (h : Touch m s t) : Touch m s (t.busWrite req fCAL_CMD_GO.addr v) := by
  obtain ⟨h1, h2, h3, h4⟩ := row_CAL_CMD
  refine .busWrite_row (d.s rfl) (fun e => by rw [h4] at e; cases e) h h2 h1 (by decide) fun w => ?_
  rw [h3, if_neg (by decide), if_neg (by decide)]
  exact .wr_CAL_CMD (d.s rfl) h

theorem wr_CAL_SNS_CFG {req : Req} {a v i : Nat} (d : Has m 4194370) (h : Touch m s t) : Touch m s (t.writeDrive req a v i regCAL_SNS_CFG) := by
  rw [writeDrive_CAL_SNS_CFG]; exact (.foldWrite (d.s rfl) (.putFields (d.s rfl) h))

theorem busWrite_CAL_SNS_CFG {req i v} (d : Has m 4718658) (hi : i < 16) (h : Touch m s t) :
    Touch m s (t.busWrite req (fCAL_SNS_CFG_FOLD i).addr v) := by
  obtain ⟨h1, h2, h3, h4⟩ := row_CAL_SNS_CFG i hi
  have hp := h2
  simp only [plainOfs, decide_eq_true_eq] at hp
  unfold State.busWrite
  dsimp only
  refine .ite h ?_
  rw [if_neg (by omega)]
  refine .ite h (.ite (.setW1c (d.s rfl) h) ?_)
  rw [critBit_none h4]
  refine .wakeRegs (d.s rfl) ?_
  rw [placeWrite_reg h2 h1]
  unfold State.regWrite
  rw [h3]
  dsimp only
  rw [if_neg (by simp only [fCAL_SNS_CFG_FOLD]; omega), if_neg (by simp only [fCAL_SNS_CFG_FOLD]; omega)]
  exact .wr_CAL_SNS_CFG (d.s rfl) (.stageWord (d.s rfl) h)

theorem wr_CAL_VAL_TS {req : Req} {a v i : Nat} (d : Has m 4194306) (h : Touch m s t) : Touch m s (t.writeDrive req a v i regCAL_VAL_TS) := by
  rw [writeDrive_CAL_VAL_TS]; exact (.calWrite (d.s rfl) h)

theorem busWrite_CAL_VAL_TS {req i v} (d : Has m 4194306) (hi : i < 32) (h : Touch m s t) : Touch m s (t.busWrite req (fCAL_VAL_TS_OFS i).addr v) := by
  obtain ⟨h1, h2, h3, h4⟩ := row_CAL_VAL_TS i hi
  refine .busWrite_row (d.s rfl) (fun e => by rw [h4] at e; cases e) h h2 h1 (by decide) fun w => ?_
  rw [h3, if_neg (by simp only [fCAL_VAL_TS_OFS]; omega), if_neg (by simp only [fCAL_VAL_TS_OFS]; omega)]
  exact .wr_CAL_VAL_TS (d.s rfl) h

theorem wr_CAL_VAL_ADC {req : Req} {a v i : Nat} (d : Has m 4194306) (h : Touch m s t) : Touch m s (t.writeDrive req a v i regCAL_VAL_ADC) := by
  rw [writeDrive_CAL_VAL_ADC]; exact (.calWrite (d.s rfl) h)

theorem busWrite_CAL_VAL_ADC {req i v} (d : Has m 4194306) (hi : i < 16) (h : Touch m s t) : Touch m s (t.busWrite req (fCAL_VAL_ADC_OFS i).addr v) := by
  obtain ⟨h1, h2, h3, h4⟩ := row_CAL_VAL_ADC i hi
  refine .busWrite_row (d.s rfl) (fun e => by rw [h4] at e; cases e) h h2 h1 (by decide) fun w => ?_
  rw [h3, if_neg (by simp only [fCAL_VAL_ADC_OFS]; omega), if_neg (by simp only [fCAL_VAL_ADC_OFS]; omega)]
  exact .wr_CAL_VAL_ADC (d.s rfl) h

theorem wr_CAL_VAL_LANE {req : Req} {a v i : Nat} (d : Has m 4194306) (h : Touch m s t) : Touch m s (t.writeDrive req a v i regCAL_VAL_LANE) := by
  rw [writeDrive_CAL_VAL_LANE]; exact (.calWrite (d.s rfl) h)

theorem busWrite_CAL_VAL_LANE {req i v} (d : Has m 4194306) (hi : i < 272) (h : Touch m s t) : Touch m s (t.busWrite req (fCAL_VAL_LANE_OFST i).addr v) := by
  obtain ⟨h1, h2, h3, h4⟩ := row_CAL_VAL_LANE i hi
  refine .busWrite_row (d.s rfl) (fun e => by rw [h4] at e; cases e) h h2 h1 (by decide) fun w => ?_
  rw [h3, if_neg (by simp only [fCAL_VAL_LANE_OFST]; omega), if_neg (by simp only [fCAL_VAL_LANE_OFST]; omega)]
  exact .wr_CAL_VAL_LANE (d.s rfl) h

theorem wr_CAL_VAL_DCC {req : Req} {a v i : Nat} (d : Has m 4194306) (h : Touch m s t) : Touch m s (t.writeDrive req a v i regCAL_VAL_DCC) := by
  rw [writeDrive_CAL_VAL_DCC]; exact (.calWrite (d.s rfl) h)

theorem busWrite_CAL_VAL_DCC {req i v} (d : Has m 4194306) (hi : i < 24) (h : Touch m s t) : Touch m s (t.busWrite req (fCAL_VAL_DCC_CODE i).addr v) := by
  obtain ⟨h1, h2, h3, h4⟩ := row_CAL_VAL_DCC i hi
  refine .busWrite_row (d.s rfl) (fun e => by rw [h4] at e; cases e) h h2 h1 (by decide) fun w => ?_
  rw [h3, if_neg (by simp only [fCAL_VAL_DCC_CODE]; omega), if_neg (by simp only [fCAL_VAL_DCC_CODE]; omega)]
  exact .wr_CAL_VAL_DCC (d.s rfl) h

theorem wr_EVR_PTR {req : Req} {a v i : Nat} (d : Has m 31314) (h : Touch m s t) : Touch m s (t.writeDrive req a v i regEVR_PTR) := by
  rw [writeDrive_EVR_PTR]; exact (.writeHead (d.s rfl) h)

theorem busWrite_EVR_PTR {req i v} (d : Has m 31314) (hi : i < 8) (h : Touch m s t) : Touch m s (t.busWrite req (fEVR_PTR_HEAD i).addr v) := by
  obtain ⟨h1, h2, h3, h4⟩ := row_EVR_PTR i hi
  refine .busWrite_row (d.s rfl) (fun e => by rw [h4] at e; cases e) h h2 h1 (by decide) fun w => ?_
  rw [h3, if_neg (by simp only [fEVR_PTR_HEAD]; omega), if_neg (by simp only [fEVR_PTR_HEAD]; omega)]
  exact .wr_EVR_PTR (d.s rfl) h

theorem wr_EVR_CFG {req : Req} {a v i : Nat} (d : Has m 31314) (h : Touch m s t) : Touch m s (t.writeDrive req a v i regEVR_CFG) := by
  rw [writeDrive_EVR_CFG]; exact (.seq (.ite (.ringOn (d.s rfl) .refl) .refl) (.putFields (d.s rfl) h))

theorem busWrite_EVR_CFG {req i v} (d : Has m 31314) (hi : i < 8) (h : Touch m s t) : Touch m s (t.busWrite req (fEVR_CFG_EN i).addr v) := by
  obtain ⟨h1, h2, h3, h4⟩ := row_EVR_CFG i hi
  refine .busWrite_row (d.s rfl) (fun e => by rw [h4] at e; cases e) h h2 h1 (by decide) fun w => ?_
  rw [h3, if_neg (by simp only [fEVR_CFG_EN]; omega), if_neg (by simp only [fEVR_CFG_EN]; omega)]
  exact .wr_EVR_CFG (d.s rfl) h

theorem wr_SEC_KL_CTRL {req : Req} {a v : Nat} (d : Has m 16840794) (h : Touch m s t) : Touch m s (t.writeHost req a v 0 regSEC_KL_CTRL) := by
  rw [writeHost_SEC_KL_CTRL]; exact (.ite (.keyGo (d.s rfl) h) h)

theorem busWrite_SEC_KL_CTRL {req v} (d : Has m 16840794) (h : Touch m s t) : Touch m s (t.busWrite req fSEC_KL_CTRL_GO.addr v) := by
  obtain ⟨h1, h2, h3, h4⟩ := row_SEC_KL_CTRL
  refine .busWrite_row (d.s rfl) (fun e => by rw [h4] at e; cases e) h h2 h1 (by decide) fun w => ?_
  rw [h3, if_pos (by decide)]
  exact .wr_SEC_KL_CTRL (d.s rfl) h

theorem wr_SEC_LC_REQ {req : Req} {a v : Nat} (d : Has m 16840794) (h : Touch m s t) : Touch m s (t.writeHost req a v 0 regSEC_LC_REQ) := by
  rw [writeHost_SEC_LC_REQ]; exact (.seq (.ite (.lcGo (d.s rfl) .refl) .refl) (.putFields (d.s rfl) h))

theorem busWrite_SEC_LC_REQ {req v} (d : Has m 17365082) (h : Touch m s t) : Touch m s (t.busWrite req fSEC_LC_REQ_GO.addr v) := by
  obtain ⟨h1, h2, h3⟩ := row_SEC_LC_REQ
  refine .busWrite_row (d.s rfl) (fun _ => d.s rfl) h h2 h1 (by decide) fun w => ?_
  rw [h3, if_pos (by decide)]
  exact .wr_SEC_LC_REQ (d.s rfl) h

theorem wr_SEC_DBG {req : Req} {a v : Nat} (d : Has m 16777282) (h : Touch m s t) : Touch m s (t.writeHost req a v 0 regSEC_DBG) := by
  rw [writeHost_SEC_DBG]; exact (.ite (.dbgUnlock (d.s rfl) h) h)

theorem busWrite_SEC_DBG {req v} (d : Has m 17301570) (h : Touch m s t) : Touch m s (t.busWrite req fSEC_DBG_UNLOCK.addr v) := by
  obtain ⟨h1, h2, h3⟩ := row_SEC_DBG
  refine .busWrite_row (d.s rfl) (fun _ => d.s rfl) h h2 h1 (by decide) fun w => ?_
  rw [h3, if_pos (by decide)]
  exact .wr_SEC_DBG (d.s rfl) h

theorem wr_NVS_REC_CTRL {req : Req} {a v : Nat} (d : Has m 32842) (h : Touch m s t) : Touch m s (t.writeHost req a v 0 regNVS_REC_CTRL) := by
  rw [writeHost_NVS_REC_CTRL]; exact (.seq (.ite (.recJob (d.s rfl) .refl) .refl) (.putFields (d.s rfl) h))

theorem busWrite_NVS_REC_CTRL {req v} (d : Has m 557130) (h : Touch m s t) : Touch m s (t.busWrite req fNVS_REC_CTRL_GO.addr v) := by
  obtain ⟨h1, h2, h3⟩ := row_NVS_REC_CTRL
  refine .busWrite_row (d.s rfl) (fun _ => d.s rfl) h h2 h1 (by decide) fun w => ?_
  rw [h3, if_pos (by decide)]
  exact .wr_NVS_REC_CTRL (d.s rfl) h

theorem wr_NVS_CNT_INC {req : Req} {a v : Nat} (d : Has m 32770) (h : Touch m s t) : Touch m s (t.writeHost req a v 0 regNVS_CNT_INC) := by
  rw [writeHost_NVS_CNT_INC]; exact (.cntInc (d.s rfl) h)

theorem busWrite_NVS_CNT_INC {req v} (d : Has m 32770) (h : Touch m s t) : Touch m s (t.busWrite req fNVS_CNT_INC_CNT.addr v) := by
  obtain ⟨h1, h2, h3, h4⟩ := row_NVS_CNT_INC
  refine .busWrite_row (d.s rfl) (fun e => by rw [h4] at e; cases e) h h2 h1 (by decide) fun w => ?_
  rw [h3, if_pos (by decide)]
  exact .wr_NVS_CNT_INC (d.s rfl) h

theorem wr_NVS_XFER_CTRL {req : Req} {a v : Nat} (d : Has m 32834) (h : Touch m s t) : Touch m s (t.writeHost req a v 0 regNVS_XFER_CTRL) := by
  rw [writeHost_NVS_XFER_CTRL]; exact (.seq (.ite (.xferGo (d.s rfl) .refl) .refl) (.putFields (d.s rfl) h))

theorem busWrite_NVS_XFER_CTRL {req v} (d : Has m 557122) (h : Touch m s t) : Touch m s (t.busWrite req fNVS_XFER_CTRL_GO.addr v) := by
  obtain ⟨h1, h2, h3⟩ := row_NVS_XFER_CTRL
  refine .busWrite_row (d.s rfl) (fun _ => d.s rfl) h h2 h1 (by decide) fun w => ?_
  rw [h3, if_pos (by decide)]
  exact .wr_NVS_XFER_CTRL (d.s rfl) h

theorem wr_NVS_ACT {req : Req} {a v : Nat} (d : Has m 622658) (h : Touch m s t) : Touch m s (t.writeHost req a v 0 regNVS_ACT) := by
  rw [writeHost_NVS_ACT]; exact (.seq (.ite (.activate_ (d.s rfl) .refl) .refl) (.putFields (d.s rfl) h))

theorem busWrite_NVS_ACT {req v} (d : Has m 622658) (h : Touch m s t) : Touch m s (t.busWrite req fNVS_ACT_GO.addr v) := by
  obtain ⟨h1, h2, h3⟩ := row_NVS_ACT
  refine .busWrite_row (d.s rfl) (fun _ => d.s rfl) h h2 h1 (by decide) fun w => ?_
  rw [h3, if_pos (by decide)]
  exact .wr_NVS_ACT (d.s rfl) h

theorem wr_MEM_BANK {req : Req} {a v i : Nat} (d : Has m 2621442) (h : Touch m s t) : Touch m s (t.writeHost req a v i regMEM_BANK) := by
  rw [writeHost_MEM_BANK]; exact (.bankRequest (d.s rfl) (.putFields (d.s rfl) h))

theorem busWrite_MEM_BANK {req i v} (d : Has m 2621442) (hi : i < 260) (h : Touch m s t) : Touch m s (t.busWrite req (fMEM_BANK_REQ i).addr v) := by
  obtain ⟨h1, h2, h3, h4⟩ := row_MEM_BANK i hi
  refine .busWrite_row (d.s rfl) (fun e => by rw [h4] at e; cases e) h h2 h1 (by decide) fun w => ?_
  rw [h3, if_pos (by simp only [fMEM_BANK_REQ]; omega)]
  exact .wr_MEM_BANK (d.s rfl) h

theorem wr_MEM_MARCH_CTRL {req : Req} {a v : Nat} (d : Has m 36175938) (h : Touch m s t) : Touch m s (t.writeHost req a v 0 regMEM_MARCH_CTRL) := by
  rw [writeHost_MEM_MARCH_CTRL]; exact (.seq (.seq (.ite (.marchGo (d.s rfl) .refl) .refl) (.ite (.marchAbort (d.s rfl) .refl) .refl)) (.putFields (d.s rfl) h))

theorem busWrite_MEM_MARCH_CTRL {req v} (d : Has m 36175938) (h : Touch m s t) : Touch m s (t.busWrite req fMEM_MARCH_CTRL_GO.addr v) := by
  obtain ⟨h1, h2, h3, h4⟩ := row_MEM_MARCH_CTRL
  refine .busWrite_row (d.s rfl) (fun e => by rw [h4] at e; cases e) h h2 h1 (by decide) fun w => ?_
  rw [h3, if_pos (by decide)]
  exact .wr_MEM_MARCH_CTRL (d.s rfl) h

theorem wr_ARB_APPLY {req : Req} {a v : Nat} (d : Has m 8388610) (h : Touch m s t) : Touch m s (t.writeHost req a v 0 regARB_APPLY) := by
  rw [writeHost_ARB_APPLY]; exact (.ite (.arbApply (d.s rfl) h) h)

theorem busWrite_ARB_APPLY {req v} (d : Has m 8388610) (h : Touch m s t) : Touch m s (t.busWrite req fARB_APPLY_APPLY.addr v) := by
  obtain ⟨h1, h2, h3, h4⟩ := row_ARB_APPLY
  refine .busWrite_row (d.s rfl) (fun e => by rw [h4] at e; cases e) h h2 h1 (by decide) fun w => ?_
  rw [h3, if_pos (by decide)]
  exact .wr_ARB_APPLY (d.s rfl) h

theorem wr_MEM_COPY_CTRL {req : Req} {a v : Nat} (d : Has m 33554498) (h : Touch m s t) : Touch m s (t.writeHost req a v 0 regMEM_COPY_CTRL) := by
  rw [writeHost_MEM_COPY_CTRL]; exact (.seq (.ite (.copyGo (d.s rfl) .refl) .refl) (.putFields (d.s rfl) h))

theorem busWrite_MEM_COPY_CTRL {req v} (d : Has m 33554498) (h : Touch m s t) : Touch m s (t.busWrite req fMEM_COPY_CTRL_GO.addr v) := by
  obtain ⟨h1, h2, h3, h4⟩ := row_MEM_COPY_CTRL
  refine .busWrite_row (d.s rfl) (fun e => by rw [h4] at e; cases e) h h2 h1 (by decide) fun w => ?_
  rw [h3, if_pos (by decide)]
  exact .wr_MEM_COPY_CTRL (d.s rfl) h

theorem execGroupRun {req g data} (d : Has m 33524434) (h : Touch m s t) : TouchO m s (Machine.execGroupRun req g data t) := by
  unfold Machine.execGroupRun State.rowWrite
  by_cases c : (decide (g < 16) && wbit data 0 && t.gState g == 0) = true
  · rw [if_pos c]
    have hi : g < 16 := by simp only [Bool.and_eq_true, decide_eq_true_eq] at c; omega
    exact .next (.busWrite_TMG_CTRL d hi h)
  · rw [if_neg c]; exact .next h

theorem execGroupStop {req g data} (d : Has m 33524434) (h : Touch m s t) : TouchO m s (Machine.execGroupStop req g data t) := by
  unfold Machine.execGroupStop State.rowWrite
  by_cases c : (decide (g < 16) && !wbit data 0 && (t.gState g == 1 || t.gState g == 2)) = true
  · rw [if_pos c]
    have hi : g < 16 := by simp only [Bool.and_eq_true, decide_eq_true_eq] at c; omega
    exact .next (.busWrite_TMG_CTRL d hi h)
  · rw [if_neg c]; exact .next h

theorem execGroupResume {req g data} (d : Has m 33524434) (h : Touch m s t) : TouchO m s (Machine.execGroupResume req g data t) := by
  unfold Machine.execGroupResume State.rowWrite
  by_cases c : (decide (g < 16) && wbit data 0 && t.gState g == 3) = true
  · rw [if_pos c]
    have hi : g < 16 := by simp only [Bool.and_eq_true, decide_eq_true_eq] at c; omega
    exact .next (.busWrite_TMG_CTRL d hi h)
  · rw [if_neg c]; exact .next h

theorem execSrSleepSet {req data} (d : Has m 514) (h : Touch m s t) : TouchO m s (Machine.execSrSleepSet req data t) := by
  unfold Machine.execSrSleepSet State.rowWrite
  split
  · exact .next (.busWrite_PAN_SR_CTRL d h)
  · exact .next h

theorem execSrSleepClear {req data} (d : Has m 514) (h : Touch m s t) : TouchO m s (Machine.execSrSleepClear req data t) := by
  unfold Machine.execSrSleepClear State.rowWrite
  split
  · exact .next (.busWrite_PAN_SR_CTRL d h)
  · exact .next h

theorem execTableLoad {req data} (d : Has m 131138) (h : Touch m s t) : TouchO m s (Machine.execTableLoad req data t) := by
  unfold Machine.execTableLoad State.rowWrite
  split
  · exact .next (.busWrite_PIX_TLD_CTRL d h)
  · exact .next h

theorem execTableReadback {req data} (d : Has m 131138) (h : Touch m s t) : TouchO m s (Machine.execTableReadback req data t) := by
  unfold Machine.execTableReadback State.rowWrite
  split
  · exact .next (.busWrite_PIX_TLD_CTRL d h)
  · exact .next h

theorem execCodecSubmit {req data} (d : Has m 262146) (h : Touch m s t) : TouchO m s (Machine.execCodecSubmit req data t) := by
  unfold Machine.execCodecSubmit State.rowWrite
  split
  · exact .next (.busWrite_CDC_RING_PTR d h)
  · exact .next h

theorem execEncoderRelease {req data} (d : Has m 262210) (h : Touch m s t) : TouchO m s (Machine.execEncoderRelease req data t) := by
  unfold Machine.execEncoderRelease State.rowWrite
  split
  · exact .next (.busWrite_CDC_STATUS d h)
  · exact .next h

theorem execQueueRun {req q data} (d : Has m 8946370) (h : Touch m s t) : TouchO m s (Machine.execQueueRun req q data t) := by
  unfold Machine.execQueueRun State.rowWrite
  by_cases c : (decide (q < 512) && wbit data 0) = true
  · rw [if_pos c]
    have hi : q < 512 := by simp only [Bool.and_eq_true, decide_eq_true_eq] at c; omega
    exact .next (.busWrite_CXL_Q_CTRL d hi h)
  · rw [if_neg c]; exact .next h

theorem execQueueStop {req q data} (d : Has m 8946370) (h : Touch m s t) : TouchO m s (Machine.execQueueStop req q data t) := by
  unfold Machine.execQueueStop State.rowWrite
  by_cases c : (decide (q < 512) && !wbit data 0) = true
  · rw [if_pos c]
    have hi : q < 512 := by simp only [Bool.and_eq_true, decide_eq_true_eq] at c; omega
    exact .next (.busWrite_CXL_Q_CTRL d hi h)
  · rw [if_neg c]; exact .next h

theorem execCxlQReset {req q data} (d : Has m 8946370) (h : Touch m s t) : TouchO m s (Machine.execCxlQReset req q data t) := by
  unfold Machine.execCxlQReset State.rowWrite
  by_cases c : (decide (q < 512) && wbit data 1) = true
  · rw [if_pos c]
    have hi : q < 512 := by simp only [Bool.and_eq_true, decide_eq_true_eq] at c; omega
    exact .next (.busWrite_CXL_Q_CTRL d hi h)
  · rw [if_neg c]; exact .next h

theorem execMpTbegin {data} (d : Has m 525314) (h : Touch m s t) : TouchO m s (Machine.execMpTbegin data t) := by
  unfold Machine.execMpTbegin State.rowWrite
  split
  · exact .next (.busWrite_CPR_MP_OP d h)
  · exact .next h

theorem execMpCommit {data} (d : Has m 525314) (h : Touch m s t) : TouchO m s (Machine.execMpCommit data t) := by
  unfold Machine.execMpCommit State.rowWrite
  split
  · exact .next (.busWrite_CPR_MP_OP d h)
  · exact .next h

theorem execMpAbort {data} (d : Has m 525314) (h : Touch m s t) : TouchO m s (Machine.execMpAbort data t) := by
  unfold Machine.execMpAbort State.rowWrite
  split
  · exact .next (.busWrite_CPR_MP_OP d h)
  · exact .next h

theorem execMpLock {data} (d : Has m 525314) (h : Touch m s t) : TouchO m s (Machine.execMpLock data t) := by
  unfold Machine.execMpLock State.rowWrite
  split
  · exact .next (.busWrite_CPR_MP_OP d h)
  · exact .next h

theorem execMpUnlock {data} (d : Has m 525314) (h : Touch m s t) : TouchO m s (Machine.execMpUnlock data t) := by
  unfold Machine.execMpUnlock State.rowWrite
  split
  · exact .next (.busWrite_CPR_MP_OP d h)
  · exact .next h

theorem execLockBreak {req data} (d : Has m 524994) (h : Touch m s t) : TouchO m s (Machine.execLockBreak req data t) := by
  unfold Machine.execLockBreak State.rowWrite
  split
  · exact .next (.busWrite_CPR_LOCK_BREAK d h)
  · exact .next h

theorem execLaneEnable {req l data} (d : Has m 1048658) (h : Touch m s t) : TouchO m s (Machine.execLaneEnable req l data t) := by
  unfold Machine.execLaneEnable State.rowWrite
  by_cases c : (decide (l < 272) && wbit data 31) = true
  · rw [if_pos c]
    have hi : l < 272 := by simp only [Bool.and_eq_true, decide_eq_true_eq] at c; omega
    exact .next (.busWrite_LNK_CFG d hi h)
  · rw [if_neg c]; exact .next h

theorem execReenumerate {req l data} (d : Has m 1048642) (h : Touch m s t) : TouchO m s (Machine.execReenumerate req l data t) := by
  unfold Machine.execReenumerate State.rowWrite
  by_cases c : (decide (l < 272) && wbit data 31) = true
  · rw [if_pos c]
    have hi : l < 272 := by simp only [Bool.and_eq_true, decide_eq_true_eq] at c; omega
    exact .next (.busWrite_LNK_CMD d hi h)
  · rw [if_neg c]; exact .next h

theorem execQueueFlush {req l data} (d : Has m 1048642) (h : Touch m s t) : TouchO m s (Machine.execQueueFlush req l data t) := by
  unfold Machine.execQueueFlush State.rowWrite
  by_cases c : (decide (l < 272) && data.toNat % 65536 != 0) = true
  · rw [if_pos c]
    have hi : l < 272 := by simp only [Bool.and_eq_true, decide_eq_true_eq] at c; omega
    exact .next (.busWrite_LNK_CMD d hi h)
  · rw [if_neg c]; exact .next h

theorem execSpareForce {req k data} (d : Has m 1048642) (h : Touch m s t) : TouchO m s (Machine.execSpareForce req k data t) := by
  unfold Machine.execSpareForce State.rowWrite
  by_cases c : (decide (k < 16) && wbit data 31) = true
  · rw [if_pos c]
    have hi : k < 16 := by simp only [Bool.and_eq_true, decide_eq_true_eq] at c; omega
    exact .next (.busWrite_LNK_SPARE d hi h)
  · rw [if_neg c]; exact .next h

theorem execSpareRelease {req k data} (d : Has m 1048642) (h : Touch m s t) : TouchO m s (Machine.execSpareRelease req k data t) := by
  unfold Machine.execSpareRelease State.rowWrite
  by_cases c : (decide (k < 16) && wbit data 30) = true
  · rw [if_pos c]
    have hi : k < 16 := by simp only [Bool.and_eq_true, decide_eq_true_eq] at c; omega
    exact .next (.busWrite_LNK_SPARE d hi h)
  · rw [if_neg c]; exact .next h

theorem execInject {req l data} (d : Has m 1048594) (h : Touch m s t) : TouchO m s (Machine.execInject req l data t) := by
  unfold Machine.execInject State.rowWrite
  by_cases c : (decide (l < 272) && wbit data 31) = true
  · rw [if_pos c]
    have hi : l < 272 := by simp only [Bool.and_eq_true, decide_eq_true_eq] at c; omega
    exact .next (.busWrite_LNK_INJ d hi h)
  · rw [if_neg c]; exact .next h

theorem execRailPowerUp {req g data} (d : Has m 2097218) (h : Touch m s t) : TouchO m s (Machine.execRailPowerUp req g data t) := by
  unfold Machine.execRailPowerUp State.rowWrite
  by_cases c : (decide (g < 16) && wbit data 0) = true
  · rw [if_pos c]
    have hi : g < 16 := by simp only [Bool.and_eq_true, decide_eq_true_eq] at c; omega
    exact .next (.busWrite_DRV_CTRL d hi h)
  · rw [if_neg c]; exact .next h

theorem execRailPowerDown {req g data} (d : Has m 2097218) (h : Touch m s t) : TouchO m s (Machine.execRailPowerDown req g data t) := by
  unfold Machine.execRailPowerDown State.rowWrite
  by_cases c : (decide (g < 16) && !wbit data 0) = true
  · rw [if_pos c]
    have hi : g < 16 := by simp only [Bool.and_eq_true, decide_eq_true_eq] at c; omega
    exact .next (.busWrite_DRV_CTRL d hi h)
  · rw [if_neg c]; exact .next h

theorem execRailForceOn {req data} (d : Has m 2621442) (h : Touch m s t) : TouchO m s (Machine.execRailForceOn req data t) := by
  unfold Machine.execRailForceOn State.rowWrite
  split
  · exact .next (.busWrite_DRV_RAIL_OVR d h)
  · exact .next h

theorem execRailForceOff {req data} (d : Has m 2621442) (h : Touch m s t) : TouchO m s (Machine.execRailForceOff req data t) := by
  unfold Machine.execRailForceOff State.rowWrite
  split
  · exact .next (.busWrite_DRV_RAIL_OVR d h)
  · exact .next h

theorem execRailForceRelease {req data} (d : Has m 2621442) (h : Touch m s t) : TouchO m s (Machine.execRailForceRelease req data t) := by
  unfold Machine.execRailForceRelease State.rowWrite
  split
  · exact .next (.busWrite_DRV_RAIL_OVR d h)
  · exact .next h

theorem execBisRequest {req g data} (d : Has m 2097154) (h : Touch m s t) : TouchO m s (Machine.execBisRequest req g data t) := by
  unfold Machine.execBisRequest State.rowWrite
  by_cases c : (decide (g < 16) && wbit data 31) = true
  · rw [if_pos c]
    have hi : g < 16 := by simp only [Bool.and_eq_true, decide_eq_true_eq] at c; omega
    exact .next (.busWrite_BIS_REQ2 d hi h)
  · rw [if_neg c]; exact .next h

theorem execJournalScan {req data} (d : Has m 2097218) (h : Touch m s t) : TouchO m s (Machine.execJournalScan req data t) := by
  unfold Machine.execJournalScan State.rowWrite
  split
  · exact .next (.busWrite_BIS_JBASE d h)
  · exact .next h

theorem execBonbonEnter {req data} (d : Has m 67108862) (h : Touch m s t) : TouchO m s (Machine.execBonbonEnter req data t) := by
  unfold Machine.execBonbonEnter State.rowWrite
  split
  · exact .next (.busWrite_DRV_BON_CTRL d h)
  · exact .next h

theorem execBonbonSend {req data} (d : Has m 67108862) (h : Touch m s t) : TouchO m s (Machine.execBonbonSend req data t) := by
  unfold Machine.execBonbonSend State.rowWrite
  split
  · exact .next (.busWrite_DRV_BON_CTRL d h)
  · exact .next h

theorem execBonbonExit {req data} (d : Has m 67108862) (h : Touch m s t) : TouchO m s (Machine.execBonbonExit req data t) := by
  unfold Machine.execBonbonExit State.rowWrite
  split
  · exact .next (.busWrite_DRV_BON_CTRL d h)
  · exact .next h

theorem execCalGo {req data} (d : Has m 4227138) (h : Touch m s t) : TouchO m s (Machine.execCalGo req data t) := by
  unfold Machine.execCalGo State.rowWrite
  split
  · exact .next (.busWrite_CAL_CMD d h)
  · exact .next h

theorem execCalSave {req data} (d : Has m 4227138) (h : Touch m s t) : TouchO m s (Machine.execCalSave req data t) := by
  unfold Machine.execCalSave State.rowWrite
  split
  · exact .next (.busWrite_CAL_CMD d h)
  · exact .next h

theorem execCalLoad {req data} (d : Has m 4227138) (h : Touch m s t) : TouchO m s (Machine.execCalLoad req data t) := by
  unfold Machine.execCalLoad State.rowWrite
  split
  · exact .next (.busWrite_CAL_CMD d h)
  · exact .next h

theorem execEvrHeadWrite {req k data} (d : Has m 31314) (h : Touch m s t) : TouchO m s (Machine.execEvrHeadWrite req k data t) := by
  unfold Machine.execEvrHeadWrite State.rowWrite
  by_cases c : (decide (k < 8)) = true
  · rw [if_pos c]
    have hi : k < 8 := by simp only [Bool.and_eq_true, decide_eq_true_eq] at c; omega
    exact .next (.busWrite_EVR_PTR d hi h)
  · rw [if_neg c]; exact .next h

theorem execEvrEnable {req k data} (d : Has m 31314) (h : Touch m s t) : TouchO m s (Machine.execEvrEnable req k data t) := by
  unfold Machine.execEvrEnable State.rowWrite
  by_cases c : (decide (k < 8) && wbit data 31 && !t.on (fEVR_CFG_EN k)) = true
  · rw [if_pos c]
    have hi : k < 8 := by simp only [Bool.and_eq_true, decide_eq_true_eq] at c; omega
    exact .next (.busWrite_EVR_CFG d hi h)
  · rw [if_neg c]; exact .next h

theorem execKeyLoadBlob {req data} (d : Has m 16840794) (h : Touch m s t) : TouchO m s (Machine.execKeyLoadBlob req data t) := by
  unfold Machine.execKeyLoadBlob State.rowWrite
  split
  · exact .next (.busWrite_SEC_KL_CTRL d h)
  · exact .next h

theorem execLcRequest {req data} (d : Has m 17365082) (h : Touch m s t) : TouchO m s (Machine.execLcRequest req data t) := by
  unfold Machine.execLcRequest State.rowWrite
  split
  · exact .next (.busWrite_SEC_LC_REQ d h)
  · exact .next h

theorem execDebugUnlock {req data} (d : Has m 17301570) (h : Touch m s t) : TouchO m s (Machine.execDebugUnlock req data t) := by
  unfold Machine.execDebugUnlock State.rowWrite
  split
  · exact .next (.busWrite_SEC_DBG d h)
  · exact .next h

theorem execRecordJob {req data} (d : Has m 557130) (h : Touch m s t) : TouchO m s (Machine.execRecordJob req data t) := by
  unfold Machine.execRecordJob State.rowWrite
  split
  · exact .next (.busWrite_NVS_REC_CTRL d h)
  · exact .next h

theorem execCounterIncrement {req data} (d : Has m 32770) (h : Touch m s t) : TouchO m s (Machine.execCounterIncrement req data t) := by
  unfold Machine.execCounterIncrement State.rowWrite
  split
  · exact .next (.busWrite_NVS_CNT_INC d h)
  · exact .next h

theorem execNvsErase {req data} (d : Has m 557122) (h : Touch m s t) : TouchO m s (Machine.execNvsErase req data t) := by
  unfold Machine.execNvsErase State.rowWrite
  split
  · exact .next (.busWrite_NVS_XFER_CTRL d h)
  · exact .next h

theorem execNvsProgram {req data} (d : Has m 557122) (h : Touch m s t) : TouchO m s (Machine.execNvsProgram req data t) := by
  unfold Machine.execNvsProgram State.rowWrite
  split
  · exact .next (.busWrite_NVS_XFER_CTRL d h)
  · exact .next h

theorem execNvsReadSlot {req data} (d : Has m 557122) (h : Touch m s t) : TouchO m s (Machine.execNvsReadSlot req data t) := by
  unfold Machine.execNvsReadSlot State.rowWrite
  split
  · exact .next (.busWrite_NVS_XFER_CTRL d h)
  · exact .next h

theorem execNvsReadLog {req data} (d : Has m 557122) (h : Touch m s t) : TouchO m s (Machine.execNvsReadLog req data t) := by
  unfold Machine.execNvsReadLog State.rowWrite
  split
  · exact .next (.busWrite_NVS_XFER_CTRL d h)
  · exact .next h

theorem execImageActivate {req data} (d : Has m 622658) (h : Touch m s t) : TouchO m s (Machine.execImageActivate req data t) := by
  unfold Machine.execImageActivate State.rowWrite
  split
  · exact .next (.busWrite_NVS_ACT d h)
  · exact .next h

theorem execBankPowerRequest {req b data} (d : Has m 2621442) (h : Touch m s t) : TouchO m s (Machine.execBankPowerRequest req b data t) := by
  unfold Machine.execBankPowerRequest State.rowWrite
  by_cases c : (decide (b < 260)) = true
  · rw [if_pos c]
    have hi : b < 260 := by simp only [Bool.and_eq_true, decide_eq_true_eq] at c; omega
    exact .next (.busWrite_MEM_BANK d hi h)
  · rw [if_neg c]; exact .next h

theorem execMarchStart {req data} (d : Has m 36175938) (h : Touch m s t) : TouchO m s (Machine.execMarchStart req data t) := by
  unfold Machine.execMarchStart State.rowWrite
  split
  · exact .next (.busWrite_MEM_MARCH_CTRL d h)
  · exact .next h

theorem execMarchAbort {req data} (d : Has m 36175938) (h : Touch m s t) : TouchO m s (Machine.execMarchAbort req data t) := by
  unfold Machine.execMarchAbort State.rowWrite
  split
  · exact .next (.busWrite_MEM_MARCH_CTRL d h)
  · exact .next h

theorem execArbApply {req data} (d : Has m 8388610) (h : Touch m s t) : TouchO m s (Machine.execArbApply req data t) := by
  unfold Machine.execArbApply State.rowWrite
  split
  · exact .next (.busWrite_ARB_APPLY d h)
  · exact .next h

theorem execCopyStart {req data} (d : Has m 33554498) (h : Touch m s t) : TouchO m s (Machine.execCopyStart req data t) := by
  unfold Machine.execCopyStart State.rowWrite
  split
  · exact .next (.busWrite_MEM_COPY_CTRL d h)
  · exact .next h

theorem execRegWrite {req addr data} (d : Has m 67108862) (h : Touch m s t) : TouchO m s (Machine.execRegWrite req addr data t) := by
  unfold Machine.execRegWrite
  exact .iteO .stop (.next (.busWrite (d.s rfl) h))

/-- A read of a register by a requester touches what the read itself touches, and the outputs. -/
theorem rowReadOf {req : Req} {ok : Bool} {a : Nat} (d : Has m 16) (h : Touch m s t)
    (hr : Touch m s (t.busRead req a).2) : TouchO m s (t.rowRead ok req a) := by
  unfold State.rowRead
  split
  · exact .next (.out (d.s rfl) hr)
  · exact .next h

theorem readReg {req : Req} {a : Nat} {r : RegRow} (h : Touch m s t) (hp : plainOfs a = true) (hr : regRowAt a = some r)
    (hs : ¬ (0x00600800 ≤ a ∧ a < 0x00600860) ∧ ¬ (0x03601000 ≤ a ∧ a < 0x03603000) ∧ ¬ (0x02310000 ≤ a ∧ a < 0x023B0000) ∧ ¬ (0x02E00000 ≤ a ∧ a < 0x02E01100) ∧
      r.base ≠ regSLTS0.base ∧ r.base ≠ regSLTS1.base)
    (hw : Touch m s (t.regRead req a r).2) : Touch m s (t.busRead req a).2 := by
  have hp' := hp
  simp only [plainOfs, decide_eq_true_eq] at hp'
  unfold State.busRead
  split
  · exact h
  · unfold State.placeRead
    rw [if_neg (by omega), if_neg (by omega), if_neg (by omega), if_neg (by omega), if_neg (by omega), if_neg, window_none hp]
    · simp only [hr]
      rw [if_neg (by rintro (e | e); exact hs.2.2.2.2.1 e; exact hs.2.2.2.2.2 e)]
      exact hw
    · intro e
      rw [List.any_eq_true] at e
      obtain ⟨g, hg, e⟩ := e
      rw [List.mem_range] at hg
      simp only [Bool.and_eq_true, decide_eq_true_eq] at e
      omega

theorem row_EVT_TIME_LO : regRowAt fEVT_TIME_LO_TIME_LO.addr = some regEVT_TIME_LO ∧ plainOfs fEVT_TIME_LO_TIME_LO.addr = true := by
  decide

theorem row_TMG_FRAME_LO : ∀ i < 16, regRowAt (fTMG_FRAME_LO_FRAME_LO i).addr = some regTMG_FRAME_LO ∧
    plainOfs (fTMG_FRAME_LO_FRAME_LO i).addr = true ∧ rowIndex regTMG_FRAME_LO (fTMG_FRAME_LO_FRAME_LO i).addr = i := by
  decide +kernel

theorem row_TMG_LATCH_LO : ∀ i < 16, regRowAt (fTMG_LATCH_LO_LATCH_LO i).addr = some regTMG_LATCH_LO ∧
    plainOfs (fTMG_LATCH_LO_LATCH_LO i).addr = true ∧ rowIndex regTMG_LATCH_LO (fTMG_LATCH_LO_LATCH_LO i).addr = i := by
  decide +kernel

theorem row_CAL_TS_LO : ∀ i < 360, regRowAt (fCAL_TS_LO_TS_LO i).addr = some regCAL_TS_LO ∧
    plainOfs (fCAL_TS_LO_TS_LO i).addr = true ∧ rowIndex regCAL_TS_LO (fCAL_TS_LO_TS_LO i).addr = i := by
  decide +kernel

theorem row_SEC_SLOT_CTR_LO : ∀ i < 64, regRowAt (fSEC_SLOT_CTR_LO_CTR_LO i).addr = some regSEC_SLOT_CTR_LO ∧
    plainOfs (fSEC_SLOT_CTR_LO_CTR_LO i).addr = true ∧
    rowIndex regSEC_SLOT_CTR_LO (fSEC_SLOT_CTR_LO_CTR_LO i).addr = i := by
  decide +kernel

theorem row_NVS_CNT_LO : ∀ i < 256, regRowAt (fNVS_CNT_LO_VAL_LO i).addr = some regNVS_CNT_LO ∧
    plainOfs (fNVS_CNT_LO_VAL_LO i).addr = true ∧ rowIndex regNVS_CNT_LO (fNVS_CNT_LO_VAL_LO i).addr = i := by
  decide +kernel

theorem row_LNK_UPQ_DATA : ∀ i < 16, regRowAt (fLNK_UPQ_DATA_DATA i).addr = some regLNK_UPQ_DATA ∧
    plainOfs (fLNK_UPQ_DATA_DATA i).addr = true ∧ rowIndex regLNK_UPQ_DATA (fLNK_UPQ_DATA_DATA i).addr = i := by
  decide +kernel

theorem execEvtTimeLoRead {req} (d : Has m 20) (h : Touch m s t) : TouchO m s (Machine.execEvtTimeLoRead req t) :=
  .rowReadOf (d.s rfl) h (.readReg h row_EVT_TIME_LO.2 row_EVT_TIME_LO.1 (by decide) (.readLo (d.s rfl) h))

theorem execTmgFrameLoRead {req g} (d : Has m 20) (h : Touch m s t) : TouchO m s (Machine.execTmgFrameLoRead req g t) := by
  by_cases hg : g < 16
  · have hr := row_TMG_FRAME_LO g hg
    exact .rowReadOf (d.s rfl) h (.readReg h hr.2.1 hr.1 (by simp only [fTMG_FRAME_LO_FRAME_LO]; refine ⟨?_, ?_, ?_, ?_, by decide, by decide⟩ <;> omega)
      (.readLo (d.s rfl) h))
  · unfold Machine.execTmgFrameLoRead State.rowRead; rw [if_neg (by simp [hg])]; exact .next h

theorem execTmgLatchLoRead {req g} (d : Has m 20) (h : Touch m s t) : TouchO m s (Machine.execTmgLatchLoRead req g t) := by
  by_cases hg : g < 16
  · have hr := row_TMG_LATCH_LO g hg
    exact .rowReadOf (d.s rfl) h (.readReg h hr.2.1 hr.1 (by simp only [fTMG_LATCH_LO_LATCH_LO]; refine ⟨?_, ?_, ?_, ?_, by decide, by decide⟩ <;> omega)
      (.readLo (d.s rfl) h))
  · unfold Machine.execTmgLatchLoRead State.rowRead; rw [if_neg (by simp [hg])]; exact .next h

theorem execCalTsLoRead {req item} (d : Has m 20) (h : Touch m s t) : TouchO m s (Machine.execCalTsLoRead req item t) := by
  by_cases hg : item < 360
  · have hr := row_CAL_TS_LO item hg
    exact .rowReadOf (d.s rfl) h (.readReg h hr.2.1 hr.1 (by simp only [fCAL_TS_LO_TS_LO]; refine ⟨?_, ?_, ?_, ?_, by decide, by decide⟩ <;> omega)
      (.readLo (d.s rfl) h))
  · unfold Machine.execCalTsLoRead State.rowRead; rw [if_neg (by simp [hg])]; exact .next h

theorem execSecSlotCtrLoRead {req n} (d : Has m 20) (h : Touch m s t) : TouchO m s (Machine.execSecSlotCtrLoRead req n t) := by
  by_cases hg : n < 64
  · have hr := row_SEC_SLOT_CTR_LO n hg
    exact .rowReadOf (d.s rfl) h (.readReg h hr.2.1 hr.1 (by simp only [fSEC_SLOT_CTR_LO_CTR_LO]; refine ⟨?_, ?_, ?_, ?_, by decide, by decide⟩ <;> omega)
      (.readLo (d.s rfl) h))
  · unfold Machine.execSecSlotCtrLoRead State.rowRead; rw [if_neg (by simp [hg])]; exact .next h

theorem execNvsCntLoRead {req n} (d : Has m 20) (h : Touch m s t) : TouchO m s (Machine.execNvsCntLoRead req n t) := by
  by_cases hg : n < 256
  · have hr := row_NVS_CNT_LO n hg
    exact .rowReadOf (d.s rfl) h (.readReg h hr.2.1 hr.1 (by simp only [fNVS_CNT_LO_VAL_LO]; refine ⟨?_, ?_, ?_, ?_, by decide, by decide⟩ <;> omega)
      (.readLo (d.s rfl) h))
  · unfold Machine.execNvsCntLoRead State.rowRead; rw [if_neg (by simp [hg])]; exact .next h

theorem execUpqDataRead {req g} (d : Has m 1048594) (h : Touch m s t) : TouchO m s (Machine.execUpqDataRead req g t) := by
  by_cases hg : g < 16
  · have hr := row_LNK_UPQ_DATA g hg
    refine .rowReadOf (d.s rfl) h (.readReg h hr.2.1 hr.1 (by simp only [fLNK_UPQ_DATA_DATA]; refine ⟨?_, ?_, ?_, ?_, by decide, by decide⟩ <;> omega) ?_)
    show Touch m s (t.upqData (rowIndex regLNK_UPQ_DATA (fLNK_UPQ_DATA_DATA g).addr)).2
    exact .upqData (d.s rfl) h
  · unfold Machine.execUpqDataRead State.rowRead; rw [if_neg (by simp [hg])]; exact .next h

theorem execUpqPop {req g data mism} (d : Has m 1049298) (h : Touch m s t) : TouchO m s (Machine.execUpqPop req g data mism t) := by
  unfold Machine.execUpqPop
  dsimp only
  split
  · exact .next h
  · rename_i c
    have hi : g < 16 := by omega
    exact .iteO (.next (.uqReset (d.s rfl) (.busWrite_LNK_UPQ_CTRL (d.s rfl) hi h)))
      (.next (.busWrite_LNK_UPQ_CTRL (d.s rfl) hi h))

theorem execStrudelConfigWrite {req addr data} (d : Has m 278594) (h : Touch m s t) :
    TouchO m s (Machine.execStrudelConfigWrite req addr data t) := by
  unfold Machine.execStrudelConfigWrite State.rowWrite
  split
  · rename_i c
    simp only [Bool.or_eq_true, beq_iff_eq] at c
    rcases c with rfl | rfl
    · exact .next (.busWrite_FST_STRUDEL_CELLS (d.s rfl) h)
    · exact .next (.busWrite_FST_STRUDEL_DEV (d.s rfl) h)
  · exact .next h

theorem execCoreRun {req core data} (d : Has m 25723586) (h : Touch m s t) : TouchO m s (Machine.execCoreRun req core data t) := by
  unfold Machine.execCoreRun State.rowWrite
  split
  · rename_i c
    simp only [Bool.and_eq_true, Bool.or_eq_true, isTR, isTC, decide_eq_true_eq] at c
    by_cases e : isTR core = true
    · rw [if_pos e]; exact .next (.busWrite_SQR_CTRL (d.s rfl) (by simp [isTR] at e; omega) h)
    · rw [if_neg e]; exact .next (.busWrite_CPR_CTRL (d.s rfl) (by simp [isTR] at e; omega) h)
  · exact .next h

theorem execCoreStop {req core data} (d : Has m 25723586) (h : Touch m s t) : TouchO m s (Machine.execCoreStop req core data t) := by
  unfold Machine.execCoreStop State.rowWrite
  split
  · rename_i c
    simp only [Bool.and_eq_true, Bool.or_eq_true, isTR, isTC, decide_eq_true_eq] at c
    by_cases e : isTR core = true
    · rw [if_pos e]
      have := Touch.busWrite_SQR_CTRL (req := req) (v := data.toNat) (d.s rfl) (i := core - 0x400) (by simp [isTR] at e; omega) h
      exact .next this
    · rw [if_neg e]
      have := Touch.busWrite_CPR_CTRL (req := req) (v := data.toNat) (d.s rfl) (i := core - 0x300) (by simp [isTR] at e; omega) h
      exact .next this
  · exact .next h

theorem execMboxWrite {req core data} (d : Has m 524290) (h : Touch m s t) : TouchO m s (Machine.execMboxWrite req core data t) := by
  unfold Machine.execMboxWrite State.rowWrite fcMbox
  split
  · rename_i c
    simp only [Bool.or_eq_true, isTR, isTC, decide_eq_true_eq] at c
    by_cases e : isTR core = true
    · rw [if_pos e]; exact .next (.busWrite_SQR_MBOX (d.s rfl) (by simp [isTR] at e; omega) h)
    · rw [if_neg e]; exact .next (.busWrite_CPR_MBOX (d.s rfl) (by simp [isTR] at e; omega) h)
  · exact .next h

theorem execDoorbell {req q bar2 data} (d : Has m 524290) (h : Touch m s t) : TouchO m s (Machine.execDoorbell req q bar2 data t) := by
  unfold Machine.execDoorbell State.rowWrite
  split
  · rename_i c
    simp only [decide_eq_true_eq] at c
    cases bar2
    · exact .next (.busWrite_CXL_Q_PTR (d.s rfl) c h)
    · refine .next ?_
      show Touch m s (t.busWrite req (fCXL_Q_DB_TAIL q).addr data.toNat)
      unfold State.busWrite
      refine .ite h ?_
      rw [if_pos (by simp only [fCXL_Q_DB_TAIL]; omega)]
      exact .ite (.doorbell (d.s rfl) h) h
  · exact .next h

theorem execTrippedClear {req data pinLow vinLow} (d : Has m 2097154) (h : Touch m s t) :
    TouchO m s (Machine.execTrippedClear req data pinLow vinLow t) := by
  unfold Machine.execTrippedClear State.rowWrite
  refine .iteO (.next (.busWrite_DRV_PF (d.s rfl) (.upd_21 (d.s rfl) h))) (.next (.upd_21 (d.s rfl) h))

theorem execCalValWrite {req item data} (d : Has m 4194306) (h : Touch m s t) :
    TouchO m s (Machine.execCalValWrite req item data t) := by
  unfold Machine.execCalValWrite State.rowWrite
  split
  · rename_i c
    simp only [decide_eq_true_eq] at c
    dsimp only
    by_cases c1 : item < 32
    · have e : 0x03200000 + 16 * item = (fCAL_VAL_TS_OFS item).addr := by simp only [fCAL_VAL_TS_OFS]; try omega
      rw [e]; exact .next (.busWrite_CAL_VAL_TS (d.s rfl) c1 h)
    by_cases c2 : item < 48
    · have e : 0x03200000 + 16 * item = (fCAL_VAL_ADC_OFS (item - 32)).addr := by simp only [fCAL_VAL_ADC_OFS]; omega
      rw [e]; exact .next (.busWrite_CAL_VAL_ADC (d.s rfl) (by omega) h)
    by_cases c3 : item < 320
    · have e : 0x03200000 + 16 * item = (fCAL_VAL_LANE_OFST (item - 48)).addr := by simp only [fCAL_VAL_LANE_OFST]; omega
      rw [e]; exact .next (.busWrite_CAL_VAL_LANE (d.s rfl) (by omega) h)
    · have e : 0x03200000 + 16 * item = (fCAL_VAL_DCC_CODE (item - 320)).addr := by simp only [fCAL_VAL_DCC_CODE]; omega
      rw [e]; exact .next (.busWrite_CAL_VAL_DCC (d.s rfl) (by omega) h)
  · exact .next h

theorem execFoldEnable {req g data} (d : Has m 4718658) (h : Touch m s t) : TouchO m s (Machine.execFoldEnable req g data t) := by
  unfold Machine.execFoldEnable State.rowWrite
  by_cases c : (decide (g < 16) && wbit data 31) = true
  · rw [if_pos c]
    have hi : g < 16 := by simp only [Bool.and_eq_true, decide_eq_true_eq] at c; omega
    exact .next (.busWrite_CAL_SNS_CFG d hi h)
  · rw [if_neg c]; exact .next h

theorem execFoldDisable {req g data} (d : Has m 4718658) (h : Touch m s t) : TouchO m s (Machine.execFoldDisable req g data t) := by
  unfold Machine.execFoldDisable State.rowWrite
  by_cases c : (decide (g < 16) && !wbit data 31) = true
  · rw [if_pos c]
    have hi : g < 16 := by simp only [Bool.and_eq_true, decide_eq_true_eq] at c; omega
    exact .next (.busWrite_CAL_SNS_CFG d hi h)
  · rw [if_neg c]; exact .next h

/-- A write of BAR0, whatever it names. -/
theorem busWrite_any {req : Req} {a v : Nat} (d : Has m 524290) (h : Touch m s t) (ha : a < 0x10000000)
    (hw : ∀ w, Touch m s (t.placeWrite req a w)) : Touch m s (t.busWrite req a v) := by
  unfold State.busWrite
  dsimp only
  refine .ite h ?_
  rw [if_neg (by omega)]
  refine .ite h (.ite (.setW1c (d.s rfl) h) ?_)
  split
  · exact .wakeRegs (d.s rfl) (hw _)
  · rename_i k hk
    split
    · rename_i s' e
      have := judge_true (s := t) (req := req) (a := a) (k := k) (by rw [e])
      rw [this] at e
      cases e
      exact .wakeRegs (d.s rfl) (hw _)
    · rename_i s' e
      exact ofEq e (.judge d h)

theorem execCoreMemWindowWrite {req addr data} (d : Has m 524290) (h : Touch m s t) :
    TouchO m s (Machine.execCoreMemWindowWrite req addr data t) := by
  unfold Machine.execCoreMemWindowWrite State.rowWrite
  split
  · rename_i c
    simp only [Bool.and_eq_true, beq_iff_eq] at c
    have hr : (0x00480000 ≤ addr ∧ addr < 0x00600000) ∨ (0x02900000 ≤ addr ∧ addr < 0x02914000) := by
      by_contra e
      have : t.window req addr = none := by
        unfold State.window
        dsimp only
        rw [if_neg (by omega), if_neg (by omega), if_neg (by omega), if_neg (by omega)]
      rw [this] at c
      exact absurd c.1 (by simp)
    refine .next (.busWrite_any d h (by dsimp only; omega) fun w => ?_)
    unfold State.placeWrite
    dsimp only
    rw [if_neg (by omega), if_neg (by omega)]
    cases hw : t.window req addr with
    | none => rw [hw] at c; exact absurd c.1 (by simp)
    | some x =>
      dsimp only
      unfold State.windowWrite
      dsimp only
      refine .ite (.err (d.s rfl) h) (.ite h (.ite (.setDmem (d.s rfl) ?_) (.setImem (d.s rfl) ?_)))
      all_goals exact .touchBank (d.s rfl) h
  · exact .next h

theorem execRecordWindowWrite {req ofs data} (d : Has m 557058) (h : Touch m s t) :
    TouchO m s (Machine.execRecordWindowWrite req ofs data t) := by
  unfold Machine.execRecordWindowWrite State.rowWrite
  split
  · rename_i c
    simp only [Bool.and_eq_true, decide_eq_true_eq] at c
    refine .next (.busWrite_any (d.s rfl) h (by dsimp only; omega) fun w => ?_)
    unfold State.placeWrite
    dsimp only
    rw [if_pos (by omega)]
    exact .nvWindow (d.s rfl) h
  · exact .next h

end Sys2Proof.Machine.Touch
end

