-- ==== Sys2Proof/Laws/Regs.lean ====
section
/-!
SUPPORT. Which register fields the operations shared by every block leave alone: a fault reaching the FLT block, a group told to
stop, the CXL event logs.
-/
set_option Elab.async false
namespace Sys2Proof.Machine
variable (s : State) {y : Fld}

/-- `y` is no field of the FLT block, no RUN and no STATE of a raster group: a fault leaves it alone. -/
def apart (y : Fld) : Bool :=
  decide ((y.addr < 0x03600000 ∨ 0x03600100 ≤ y.addr) ∧ y.lo < 32) &&
    decide (y.addr < 0x02000000 ∨ 0x02100000 ≤ y.addr ∨ 8 ≤ y.addr % 0x10000)

theorem apart_run (h : apart y = true) {g : Nat} (hg : g < 16) : fldKey y ≠ fldKey (fTMG_CTRL_RUN g) := by
  simp only [apart, Bool.and_eq_true, decide_eq_true_eq] at h
  simp only [fldKey, fTMG_CTRL_RUN]; omega

theorem apart_state (h : apart y = true) {g : Nat} (hg : g < 16) : fldKey y ≠ fldKey (fTMG_STATUS_STATE g) := by
  simp only [apart, Bool.and_eq_true, decide_eq_true_eq] at h
  simp only [fldKey, fTMG_STATUS_STATE]; omega

theorem f_stopGroup (h : apart y = true) {g : Nat} (hg : g < 16) : (s.stopGroup g).f y = s.f y := by
  unfold State.stopGroup
  split
  · simp [apart_run h hg, apart_state h hg]
  · rfl

theorem f_foldl_stop (h : apart y = true) (l : List Nat) (hl : ∀ g ∈ l, g < 16) :
    ∀ s : State, (l.foldl (fun s g => s.stopGroup g) s).f y = s.f y := by
  induction l with
  | nil => intro s; rfl
  | cons g l ih =>
    intro s
    rw [List.foldl_cons, ih (fun g hg => hl g (List.mem_cons_of_mem _ hg)), f_stopGroup s h (hl g List.mem_cons_self)]

theorem apart_flt (h : apart y = true) {x : Fld} (hx : 0x03600000 ≤ x.addr ∧ x.addr < 0x03600100 ∧ x.lo < 32) :
    fldKey y ≠ fldKey x := by
  simp only [apart, Bool.and_eq_true, decide_eq_true_eq] at h
  simp only [fldKey]; omega

theorem f_setF_apart (h : apart y = true) {x : Fld} (hx : 0x03600000 ≤ x.addr ∧ x.addr < 0x03600100 ∧ x.lo < 32) (v : Nat) :
    (s.setF x v).f y = s.f y := by
  rw [f_setF, if_neg (apart_flt h hx)]

theorem f_terminal (h : apart y = true) (b : Bool) : (s.terminal b).f y = s.f y := by
  unfold State.terminal
  dsimp only
  split
  · rw [f_foldl_stop h _ (by decide), f_setF_apart _ h (by decide)]
  · rw [f_setF_apart _ h (by decide)]

theorem f_degraded (h : apart y = true) : s.degraded.f y = s.f y := by
  unfold State.degraded
  exact f_setF_apart _ h (by decide) _

theorem faultClass_lt (c : Nat) : faultClass c < 4 := by
  unfold faultClass; split <;> decide

/-- A fault changes no register field but those of the FLT block, and RUN and STATE of raster groups. -/
theorem f_fault (h : apart y = true) (c o u d : Nat) : (s.fault c o u d).f y = s.f y := by
  have h4 : ∀ t : State, (t.count (fFLT_CNT_COUNT (faultClass c)) 1).f y = t.f y := fun t =>
    f_setF_apart _ h (by have := faultClass_lt c; simp only [fFLT_CNT_COUNT]; omega) _
  have h5 : (if faultClass c = 3 then
      s.terminal (c != 0x05 && !(c == 0x17 && u == 1)) else s).f y = s.f y := by
    split
    · exact f_terminal _ h _
    · rfl
  unfold State.fault
  dsimp only
  revert h5
  generalize (if faultClass c = 3 then s.terminal (c != 0x05 && !(c == 0x17 && u == 1)) else s) = s1
  intro h5
  have h6 := (h4 _).trans ((f_degraded _ h).trans h5)
  revert h6
  generalize s1.degraded.count (fFLT_CNT_COUNT (faultClass c)) 1 = s2
  intro h6
  split
  · exact h6
  · split
    · exact h6
    · rw [f_raise, f_setF_apart _ h (by decide), f_setF_apart _ h (by decide)]
      exact h6

theorem f_msix (f v : Nat) (y : Fld) : (s.msix f v).f y = s.f y := by
  unfold State.msix; dsimp only; split
  · rfl
  · split <;> rfl

theorem f_logIrq (l : Nat) (y : Fld) : (s.logIrq l).f y = s.f y := by
  unfold State.logIrq; dsimp only; split
  · exact f_msix ..
  · rfl

theorem f_cxlLog (l k d : Nat) (y : Fld) : (s.cxlLog l k d).f y = s.f y := by
  unfold State.cxlLog; dsimp only; rw [f_logIrq]; rfl

theorem f_measure (i : Nat) (m : Meas) (y : Fld) : (s.measure i m).f y = s.f y := by
  unfold State.measure; dsimp only; split <;> rfl


/-! ## What a fault leaves alone beside the registers -/

theorem touch_same {m : Nat} {s t : State} (h : Touch m s t) (p : Part) (e : (p.bit &&& m == p.bit) = false) :
    s.same t p := h.same p (by intro h'; unfold Has at h'; rw [h'] at e; simp at e)

theorem fault_touch (c o u d : Nat) : Touch 706 s (s.fault c o u d) := .fault (m := 706) .refl .refl
@[simp] theorem fault_pending (c o u d : Nat) : (s.fault c o u d).pending = s.pending := touch_same (fault_touch s c o u d) .pending (by decide)
@[simp] theorem fault_latches (c o u d : Nat) : (s.fault c o u d).latches = s.latches := touch_same (fault_touch s c o u d) .latches (by decide)
@[simp] theorem fault_free (c o u d : Nat) : (s.fault c o u d).free = s.free := touch_same (fault_touch s c o u d) .free (by decide)
@[simp] theorem fault_outs (c o u d : Nat) : (s.fault c o u d).outs = s.outs := touch_same (fault_touch s c o u d) .outs (by decide)
@[simp] theorem fault_time (c o u d : Nat) : (s.fault c o u d).time = s.time := touch_same (fault_touch s c o u d) .time (by decide)
@[simp] theorem fault_link (c o u d : Nat) : (s.fault c o u d).link = s.link := touch_same (fault_touch s c o u d) .link (by decide)
@[simp] theorem fault_transit (c o u d : Nat) : (s.fault c o u d).transit = s.transit := touch_same (fault_touch s c o u d) .transit (by decide)
@[simp] theorem fault_host (c o u d : Nat) : (s.fault c o u d).host = s.host := touch_same (fault_touch s c o u d) .host (by decide)
@[simp] theorem fault_nv (c o u d : Nat) : (s.fault c o u d).nv = s.nv := touch_same (fault_touch s c o u d) .nv (by decide)
@[simp] theorem fault_boot (c o u d : Nat) : (s.fault c o u d).boot = s.boot := touch_same (fault_touch s c o u d) .boot (by decide)
@[simp] theorem fault_pix (c o u d : Nat) : (s.fault c o u d).pix = s.pix := touch_same (fault_touch s c o u d) .pix (by decide)
@[simp] theorem fault_codec (c o u d : Nat) : (s.fault c o u d).codec = s.codec := touch_same (fault_touch s c o u d) .codec (by decide)
@[simp] theorem fault_th (c o u d : Nat) : (s.fault c o u d).th = s.th := touch_same (fault_touch s c o u d) .th (by decide)
@[simp] theorem fault_ch (c o u d : Nat) : (s.fault c o u d).ch = s.ch := touch_same (fault_touch s c o u d) .ch (by decide)
@[simp] theorem fault_drv (c o u d : Nat) : (s.fault c o u d).drv = s.drv := touch_same (fault_touch s c o u d) .drv (by decide)
@[simp] theorem fault_cal (c o u d : Nat) : (s.fault c o u d).cal = s.cal := touch_same (fault_touch s c o u d) .cal (by decide)
@[simp] theorem fault_arb (c o u d : Nat) : (s.fault c o u d).arb = s.arb := touch_same (fault_touch s c o u d) .arb (by decide)
@[simp] theorem fault_sec (c o u d : Nat) : (s.fault c o u d).sec = s.sec := touch_same (fault_touch s c o u d) .sec (by decide)
@[simp] theorem fault_mem (c o u d : Nat) : (s.fault c o u d).mem = s.mem := touch_same (fault_touch s c o u d) .mem (by decide)

/-! ## The banks that a register write wakes (R634) -/

/-- `y` lies in no MEM_BANK word. -/
def noBank (y : Fld) : Bool := decide ((y.addr < 0x01200000 ∨ 0x01200410 ≤ y.addr) ∧ y.lo < 32)

theorem f_setBank_zero (b : Nat) (hb : b < 260) (h : noBank y = true) : (s.setBank b 0).f y = s.f y := by
  simp only [noBank, decide_eq_true_eq] at h
  have h1 : fldKey y ≠ fldKey (fMEM_BANK_STATE b) := by simp only [fldKey, fMEM_BANK_STATE]; omega
  have h2 : fldKey y ≠ fldKey (fMEM_BANK_INIT b) := by simp only [fldKey, fMEM_BANK_INIT]; omega
  unfold State.setBank
  dsimp only
  rw [if_neg (by decide)]
  split
  · simp [h1, h2]
  · simp [h1]

/-- A register write that wakes banks changes no other register field by it. -/
theorem f_wakeBanks (h : noBank y = true) : s.wakeBanks.f y = s.f y := by
  unfold State.wakeBanks
  have : ∀ (l : List Nat), (∀ b ∈ l, b < 260) → ∀ s : State, (l.foldl (fun s b =>
    if (s.f (fMEM_BANK_REQ b) = 1 ∨ s.f (fMEM_BANK_REQ b) = 2) ∧ ¬ s.bankFree b then
      (s.setF (fMEM_BANK_REQ b) 0).setBank b 0 else s) s).f y = s.f y := by
    intro l
    induction l with
    | nil => intro _ s; rfl
    | cons b l ih =>
      intro hl s
      rw [List.foldl_cons, ih (fun c hc => hl c (List.mem_cons_of_mem _ hc))]
      have hb := hl b List.mem_cons_self
      split
      · rw [f_setBank_zero _ b hb h, f_setF, if_neg]
        simp only [noBank, decide_eq_true_eq] at h
        simp only [fldKey, fMEM_BANK_REQ]; omega
      · rfl
  exact this _ (by simp) s

theorem wake_touch : Touch 2 s s.wakeBanks := .wakeRegs (m := 2) .refl .refl
@[simp] theorem wake_pending : s.wakeBanks.pending = s.pending := touch_same (wake_touch s) .pending (by decide)
@[simp] theorem wake_latches : s.wakeBanks.latches = s.latches := touch_same (wake_touch s) .latches (by decide)
@[simp] theorem wake_free : s.wakeBanks.free = s.free := touch_same (wake_touch s) .free (by decide)
@[simp] theorem wake_outs : s.wakeBanks.outs = s.outs := touch_same (wake_touch s) .outs (by decide)
@[simp] theorem wake_time : s.wakeBanks.time = s.time := touch_same (wake_touch s) .time (by decide)
@[simp] theorem wake_ev : s.wakeBanks.ev = s.ev := touch_same (wake_touch s) .ev (by decide)
@[simp] theorem wake_flt : s.wakeBanks.flt = s.flt := touch_same (wake_touch s) .flt (by decide)
@[simp] theorem wake_link : s.wakeBanks.link = s.link := touch_same (wake_touch s) .link (by decide)
@[simp] theorem wake_groups : s.wakeBanks.groups = s.groups := touch_same (wake_touch s) .groups (by decide)
@[simp] theorem wake_transit : s.wakeBanks.transit = s.transit := touch_same (wake_touch s) .transit (by decide)
@[simp] theorem wake_host : s.wakeBanks.host = s.host := touch_same (wake_touch s) .host (by decide)
@[simp] theorem wake_nv : s.wakeBanks.nv = s.nv := touch_same (wake_touch s) .nv (by decide)
@[simp] theorem wake_boot : s.wakeBanks.boot = s.boot := touch_same (wake_touch s) .boot (by decide)
@[simp] theorem wake_pix : s.wakeBanks.pix = s.pix := touch_same (wake_touch s) .pix (by decide)
@[simp] theorem wake_codec : s.wakeBanks.codec = s.codec := touch_same (wake_touch s) .codec (by decide)
@[simp] theorem wake_th : s.wakeBanks.th = s.th := touch_same (wake_touch s) .th (by decide)
@[simp] theorem wake_ch : s.wakeBanks.ch = s.ch := touch_same (wake_touch s) .ch (by decide)
@[simp] theorem wake_drv : s.wakeBanks.drv = s.drv := touch_same (wake_touch s) .drv (by decide)
@[simp] theorem wake_cal : s.wakeBanks.cal = s.cal := touch_same (wake_touch s) .cal (by decide)
@[simp] theorem wake_arb : s.wakeBanks.arb = s.arb := touch_same (wake_touch s) .arb (by decide)
@[simp] theorem wake_sec : s.wakeBanks.sec = s.sec := touch_same (wake_touch s) .sec (by decide)
@[simp] theorem wake_mem : s.wakeBanks.mem = s.mem := touch_same (wake_touch s) .mem (by decide)
@[simp] theorem wake_fs : s.wakeBanks.fs = s.fs := by
  have h1 := touch_same (wake_touch s) .fsMem (by decide)
  have h2 := touch_same (wake_touch s) .fsPoison (by decide)
  have h3 := touch_same (wake_touch s) .fsRest (by decide)
  simp only [State.same] at h1 h2 h3
  cases hx : s.wakeBanks.fs; cases hy : s.fs
  simp_all

/-! ## The plain write of a word's fields -/

/-- What the field `f` of a word, none of class W1C, reads after a write of `v` (R6, R8), if it read `c` before. -/
def putVal (c v : Nat) (f : FldRow) (stopped : Bool) (skip : FldRow → Bool) : Nat :=
  let n := bitsOf v (f.lo + f.w - 1) f.lo
  if skip f then c
  else match f.acc, f.cls with
    | .rw, .l => n % 2 ^ f.w
    | .rw, .h => if stopped then n % 2 ^ f.w else c
    | _, _ => c

/-- `y` is no field of the FLT block. -/
def noFlt (y : Fld) : Bool := decide ((y.addr < 0x03600000 ∨ 0x03600100 ≤ y.addr) ∧ y.lo < 32)

theorem f_setF_noFlt (h : noFlt y = true) {x : Fld} (hx : 0x03600000 ≤ x.addr ∧ x.addr < 0x03600100 ∧ x.lo < 32) (v : Nat) :
    (s.setF x v).f y = s.f y := by
  rw [f_setF, if_neg]
  simp only [noFlt, decide_eq_true_eq] at h
  simp only [fldKey]; omega

theorem f_setW1c_noFlt (h : noFlt y = true) {x : Fld} (hx : 0x03600000 ≤ x.addr ∧ x.addr < 0x03600100 ∧ x.lo < 32) (i : Nat) :
    (s.setW1c x i).f y = s.f y := f_setF_noFlt s h hx _

theorem f_err (h : noFlt y = true) (k a : Nat) : (s.err k a).f y = s.f y := by
  unfold State.err
  dsimp only
  split <;> rw [f_setW1c_noFlt _ h (by decide), f_setF_noFlt _ h (by decide), f_setF_noFlt _ h (by decide)]

variable {a v : Nat} {st : Bool} {sk : FldRow → Bool}

/-- The write of one field. -/
theorem f_putFields_cons (f : FldRow) (fs : List FldRow) (s : State) : s.putFields a v (f :: fs) st sk =
    (s.putFields a v [f] st sk).putFields a v fs st sk := rfl

theorem f_putFields_one (f : FldRow) (hp : noFlt y = true) (h1 : fldKey y ≠ fldKey (fldAt a f)) :
    (s.putFields a v [f] st sk).f y = s.f y := by
  unfold State.putFields
  simp only [List.foldl_cons, List.foldl_nil]
  cases sk f
  · simp only [Bool.false_eq_true, if_false]
    split
    · rw [f_setF, if_neg h1]
    · rw [f_setF, if_neg h1]
    · split
      · rw [f_setF, if_neg h1]
      · exact f_err _ hp ..
    · rfl
  · rfl

theorem f_putFields_self (f : FldRow) (hp : noFlt (fldAt a f) = true) (hc : f.acc ≠ .w1c) :
    (s.putFields a v [f] st sk).f (fldAt a f) = putVal (s.f (fldAt a f)) v f st sk := by
  unfold State.putFields putVal
  simp only [List.foldl_cons, List.foldl_nil]
  cases sk f
  · simp only [Bool.false_eq_true, if_false]
    rcases f with ⟨lo, w, acc, cls, reset⟩
    cases acc
    case ro => rfl
    case wo => rfl
    case w1c => exact absurd rfl hc
    case rw =>
      cases cls
      case l => dsimp only; rw [f_setF, if_pos rfl]; rfl
      case s => rfl
      case h =>
        dsimp only
        split
        · rw [f_setF, if_pos rfl]; rfl
        · exact f_err _ hp ..
  · rfl

/-- A plain write of a word leaves the fields of other words. -/
theorem f_putFields_ne (fs : List FldRow) (hp : noFlt y = true) (hn : ∀ f ∈ fs, fldKey y ≠ fldKey (fldAt a f)) :
    ∀ s : State, (s.putFields a v fs st sk).f y = s.f y := by
  induction fs with
  | nil => intro s; rfl
  | cons f fs ih =>
    intro s
    rw [f_putFields_cons, ih (fun g hg => hn g (List.mem_cons_of_mem _ hg)),
      f_putFields_one s f hp (hn f List.mem_cons_self)]

/-- What a field of the word, none of class W1C, reads after a plain write. -/
theorem f_putFields_at (f : FldRow) (pre post : List FldRow) (hp : noFlt (fldAt a f) = true)
    (h1 : ∀ g ∈ pre, g.lo ≠ f.lo ∧ g.lo < 32) (h2 : ∀ g ∈ post, g.lo ≠ f.lo ∧ g.lo < 32) (hc : f.acc ≠ .w1c) :
    (s.putFields a v (pre ++ f :: post) st sk).f (fldAt a f) = putVal (s.f (fldAt a f)) v f st sk := by
  have e : s.putFields a v (pre ++ f :: post) st sk =
      ((s.putFields a v pre st sk).putFields a v [f] st sk).putFields a v post st sk := by
    unfold State.putFields; rw [List.foldl_append]; rfl
  have k : ∀ g : FldRow, g.lo ≠ f.lo → g.lo < 32 → fldKey (fldAt a f) ≠ fldKey (fldAt a g) := by
    intro g h h'; simp only [fldKey, fldAt]; omega
  rw [e, f_putFields_ne post hp (fun g hg => k g (h2 g hg).1 (h2 g hg).2), f_putFields_self _ f hp hc,
    f_putFields_ne pre hp (fun g hg => k g (h1 g hg).1 (h1 g hg).2)]

theorem put_touch (fs : List FldRow) : Touch 2 s (s.putFields a v fs st sk) := .putFields (m := 2) .refl .refl
@[simp] theorem putFields_pending (fs : List FldRow) : (s.putFields a v fs st sk).pending = s.pending :=
  touch_same (put_touch s fs) .pending (by decide)
@[simp] theorem putFields_latches (fs : List FldRow) : (s.putFields a v fs st sk).latches = s.latches :=
  touch_same (put_touch s fs) .latches (by decide)
@[simp] theorem putFields_free (fs : List FldRow) : (s.putFields a v fs st sk).free = s.free :=
  touch_same (put_touch s fs) .free (by decide)
@[simp] theorem putFields_outs (fs : List FldRow) : (s.putFields a v fs st sk).outs = s.outs :=
  touch_same (put_touch s fs) .outs (by decide)
@[simp] theorem putFields_time (fs : List FldRow) : (s.putFields a v fs st sk).time = s.time :=
  touch_same (put_touch s fs) .time (by decide)
@[simp] theorem putFields_ev (fs : List FldRow) : (s.putFields a v fs st sk).ev = s.ev :=
  touch_same (put_touch s fs) .ev (by decide)
@[simp] theorem putFields_flt (fs : List FldRow) : (s.putFields a v fs st sk).flt = s.flt :=
  touch_same (put_touch s fs) .flt (by decide)
@[simp] theorem putFields_link (fs : List FldRow) : (s.putFields a v fs st sk).link = s.link :=
  touch_same (put_touch s fs) .link (by decide)
@[simp] theorem putFields_groups (fs : List FldRow) : (s.putFields a v fs st sk).groups = s.groups :=
  touch_same (put_touch s fs) .groups (by decide)
@[simp] theorem putFields_transit (fs : List FldRow) : (s.putFields a v fs st sk).transit = s.transit :=
  touch_same (put_touch s fs) .transit (by decide)
@[simp] theorem putFields_host (fs : List FldRow) : (s.putFields a v fs st sk).host = s.host :=
  touch_same (put_touch s fs) .host (by decide)
@[simp] theorem putFields_nv (fs : List FldRow) : (s.putFields a v fs st sk).nv = s.nv :=
  touch_same (put_touch s fs) .nv (by decide)
@[simp] theorem putFields_boot (fs : List FldRow) : (s.putFields a v fs st sk).boot = s.boot :=
  touch_same (put_touch s fs) .boot (by decide)
@[simp] theorem putFields_pix (fs : List FldRow) : (s.putFields a v fs st sk).pix = s.pix :=
  touch_same (put_touch s fs) .pix (by decide)
@[simp] theorem putFields_codec (fs : List FldRow) : (s.putFields a v fs st sk).codec = s.codec :=
  touch_same (put_touch s fs) .codec (by decide)
@[simp] theorem putFields_th (fs : List FldRow) : (s.putFields a v fs st sk).th = s.th :=
  touch_same (put_touch s fs) .th (by decide)
@[simp] theorem putFields_ch (fs : List FldRow) : (s.putFields a v fs st sk).ch = s.ch :=
  touch_same (put_touch s fs) .ch (by decide)
@[simp] theorem putFields_drv (fs : List FldRow) : (s.putFields a v fs st sk).drv = s.drv :=
  touch_same (put_touch s fs) .drv (by decide)
@[simp] theorem putFields_cal (fs : List FldRow) : (s.putFields a v fs st sk).cal = s.cal :=
  touch_same (put_touch s fs) .cal (by decide)
@[simp] theorem putFields_arb (fs : List FldRow) : (s.putFields a v fs st sk).arb = s.arb :=
  touch_same (put_touch s fs) .arb (by decide)
@[simp] theorem putFields_sec (fs : List FldRow) : (s.putFields a v fs st sk).sec = s.sec :=
  touch_same (put_touch s fs) .sec (by decide)
@[simp] theorem putFields_mem (fs : List FldRow) : (s.putFields a v fs st sk).mem = s.mem :=
  touch_same (put_touch s fs) .mem (by decide)

/-- A row whose word is its own is the write of that word by the requester. -/
theorem rowWrite_of {ok : Bool} {req : Req} {x : Fld} {w : Word} (h : ok = true) :
    s.rowWrite ok req x w = .next (s.busWrite req x.addr w.toNat) := by
  unfold State.rowWrite; rw [if_pos h]

end Sys2Proof.Machine
end

