-- ==== Sys2Proof/Laws/Calm.lean ====
section
/-!
SUPPORT. What an operation leaves alone: one register field, and the events under way, behind which it may only put more.
-/
set_option Elab.async false
namespace Sys2Proof.Machine

/-- From `s` to `t` the field `y` reads the same, and events were only raised. -/
def Calm (y : Fld) (s t : State) : Prop := t.f y = s.f y ∧ ∃ l, t.ev.enRoute = s.ev.enRoute ++ l

/-- `y` lies outside the words at `lo` to `hi`. -/
def outside (y : Fld) (lo hi : Nat) : Prop := y.lo < 32 ∧ (y.addr < lo ∨ hi ≤ y.addr)

/-- `x` lies in the words at `lo` to `hi`. -/
def inside (x : Fld) (lo hi : Nat) : Prop := x.lo < 32 ∧ lo ≤ x.addr ∧ x.addr < hi

namespace Calm
variable {y : Fld} {s t u : State}

theorem key_ne {lo hi : Nat} {x : Fld} (h : outside y lo hi) (k : inside x lo hi) : fldKey y ≠ fldKey x := by
  simp only [outside, inside, fldKey] at *; omega

theorem refl : Calm y s s := ⟨rfl, [], by simp⟩
theorem trans (h : Calm y s t) (k : Calm y t u) : Calm y s u := by
  obtain ⟨h1, l, h2⟩ := h
  obtain ⟨k1, m, k2⟩ := k
  exact ⟨k1.trans h1, l ++ m, by rw [k2, h2, List.append_assoc]⟩
/-- Nothing but parts that are no registers and no events changed. -/
theorem same (h : t.regs = s.regs) (k : t.ev = s.ev) : Calm y s t := ⟨by simp only [State.f, h], [], by simp [k]⟩
theorem of_touch {m : Nat} (h : Touch m s t) (e : (Part.regs.bit &&& m == Part.regs.bit) = false)
    (k : (Part.ev.bit &&& m == Part.ev.bit) = false) : Calm y s t := same (touch_same h .regs e).1 (touch_same h .ev k)
theorem setF {x : Fld} {v : Nat} (h : fldKey y ≠ fldKey x) : Calm y s (s.setF x v) :=
  ⟨by rw [f_setF, if_neg h], [], by simp⟩
theorem setF' {x : Fld} {v : Nat} (k : Calm y s t) (h : fldKey y ≠ fldKey x) : Calm y s (t.setF x v) := k.trans (setF h)
theorem same' (k : Calm y s t) (h : u.regs = t.regs) (e : u.ev = t.ev) : Calm y s u := k.trans (same h e)
theorem setCore' {o : Nat} {x : Core} (k : Calm y s t) : Calm y s (t.setCore o x) := k.same' rfl rfl
theorem setNoServe' {c : Nat} {b : Bool} (k : Calm y s t) : Calm y s (t.setNoServe c b) := k.same' rfl rfl
theorem setPin' {o : Nat} {x : GtoPin} (k : Calm y s t) : Calm y s (t.setPin o x) := k.same' rfl rfl
theorem setRail' {o : Nat} {x : RailSt} (k : Calm y s t) : Calm y s (t.setRail o x) := k.same' rfl rfl
theorem setPwr' {o : Nat} {x : PwrSt} (k : Calm y s t) : Calm y s (t.setPwr o x) := k.same' rfl rfl
theorem setLn' {o : Nat} {x : LaneSt} (k : Calm y s t) : Calm y s (t.setLn o x) := k.same' rfl rfl
theorem sendCtl' {l : Nat} {b : List Byte} (k : Calm y s t) : Calm y s (t.sendCtl l b) :=
  k.trans (of_touch (m := 1048592) (Touch.sendCtl .refl .refl) (by decide) (by decide))
theorem setGrp' {g : Nat} {x : Grp} (k : Calm y s t) : Calm y s (t.setGrp g x) := k.same' rfl rfl
theorem raise (c o l : Nat) (a : List (Nat × Nat)) : Calm y s (s.raise c o l a) := ⟨rfl, _, rfl⟩
theorem raise' {c o l : Nat} {a : List (Nat × Nat)} (k : Calm y s t) : Calm y s (t.raise c o l a) := k.trans (raise _ _ _ _)
theorem raiseG (c g : Nat) (a : List (Nat × Nat)) : Calm y s (s.raiseG c g a) := raise _ _ _ _
theorem ite {c : Prop} {_ : Decidable c} (h : Calm y s t) (k : Calm y s u) : Calm y s (if c then t else u) := by
  split <;> assumption
theorem foldl {α : Type} (l : List α) (F : State → α → State) (h : ∀ s, ∀ a ∈ l, Calm y s (F s a)) : ∀ s, Calm y s (l.foldl F s) := by
  induction l with
  | nil => exact fun _ => refl
  | cons a l ih =>
    exact fun s => (h s a List.mem_cons_self).trans (ih (fun s b hb => h s b (List.mem_cons_of_mem _ hb)) _)

/-! ## A fault raises events and withdraws none -/

theorem fault_ev (s : State) (c o u d : Nat) : ∃ l, (s.fault c o u d).ev.enRoute = s.ev.enRoute ++ l := by
  have h1 : ∀ (l : List Nat) (s : State), ∃ k, (l.foldl (fun s g => s.stopGroup g) s).ev.enRoute = s.ev.enRoute ++ k := by
    intro l
    induction l with
    | nil => exact fun s => ⟨[], by simp⟩
    | cons g l ih =>
      intro s
      rw [List.foldl_cons]
      obtain ⟨k, hk⟩ := ih (s.stopGroup g)
      have h : ∃ j, (s.stopGroup g).ev.enRoute = s.ev.enRoute ++ j := by
        unfold State.stopGroup
        split
        · exact ⟨_, rfl⟩
        · exact ⟨[], by simp⟩
      obtain ⟨j, hj⟩ := h
      exact ⟨j ++ k, by rw [hk, hj, List.append_assoc]⟩
  have h2 : ∀ (s : State) (b : Bool), ∃ k, (s.terminal b).ev.enRoute = s.ev.enRoute ++ k := by
    intro s b
    unfold State.terminal
    dsimp only
    split
    · exact h1 _ (s.setF _ _)
    · exact ⟨[], by simp⟩
  unfold State.fault
  dsimp only
  have h3 : ∃ k, (if faultClass c = 3 then s.terminal (c != 0x05 && !(c == 0x17 && u == 1)) else s).ev.enRoute = s.ev.enRoute ++ k := by
    split
    · exact h2 _ _
    · exact ⟨[], by simp⟩
  generalize (if faultClass c = 3 then s.terminal (c != 0x05 && !(c == 0x17 && u == 1)) else s) = s1 at *
  obtain ⟨k, hk⟩ := h3
  have h4 : (s1.degraded.count (fFLT_CNT_COUNT (faultClass c)) 1).ev.enRoute = s.ev.enRoute ++ k := hk
  generalize s1.degraded.count (fFLT_CNT_COUNT (faultClass c)) 1 = s2 at *
  split
  · exact ⟨k, h4⟩
  · split
    · exact ⟨k, h4⟩
    · rw [raise_ev]
      show ∃ l, s2.ev.enRoute ++ _ = _
      rw [h4]
      exact ⟨_, List.append_assoc _ _ _⟩

theorem fault' {c o u d : Nat} (hy : apart y = true) (k : Calm y s t) : Calm y s (t.fault c o u d) :=
  k.trans ⟨f_fault _ hy _ _ _ _, fault_ev _ _ _ _ _⟩

/-! ## Planes, bands, cores -/

theorem putBit {x : Fld} {i : Nat} {v : Bool} (h : fldKey y ≠ fldKey x) : Calm y s (s.putBit x i v) := by
  unfold State.putBit; exact setF h

theorem checkPlanes {g : Nat} {ks : List Nat} (hg : g < 16) (h : outside y 0x02400000 0x02401000) : Calm y s (s.checkPlanes g ks) := by
  have h1 : fldKey y ≠ fldKey (fPIX_STATUS_INV g) := key_ne h (by simp only [inside, fPIX_STATUS_INV]; omega)
  have h2 : fldKey y ≠ fldKey (fPIX_STATUS_HIST_VALID g) := key_ne h (by simp only [inside, fPIX_STATUS_HIST_VALID]; omega)
  unfold State.checkPlanes
  refine foldl _ _ (fun s k _ => ?_) s
  dsimp only
  refine Calm.trans (t := if s.planeOn g k = true then s.putBit (fPIX_STATUS_INV g) k (s.planeCode g k != 0) else s)
    (ite (putBit h1) refl) ?_
  generalize (if s.planeOn g k = true then _ else s) = s1
  generalize s.planeCode g k = c
  exact Calm.trans (t := if c ≠ 0 ∧ k = 2 then s1.setF (fPIX_STATUS_HIST_VALID g) 0 else s1) (ite (setF h2) refl) (ite refl (raiseG _ _ _))

theorem decideBand {g f : Nat} {b : Bool} (hg : g < 16) (h : outside y 0x02400000 0x02401000) : Calm y s (s.decideBand g b f) := by
  have h2 : fldKey y ≠ fldKey (fPIX_STATUS_BAND g) := key_ne h (by simp only [inside, fPIX_STATUS_BAND]; omega)
  have h3 : fldKey y ≠ fldKey (fPIX_STATUS_THETA g) := key_ne h (by simp only [inside, fPIX_STATUS_THETA]; omega)
  unfold State.decideBand
  exact ite (ite ((setF h2).trans (ite refl (raiseG _ _ _))) refl) (((setF h3).setF' h2).trans (ite refl (raiseG _ _ _)))

theorem nvSetBusy (c : Nat) (h : outside y 0x00800000 0x00801000) : Calm y s (s.nvSetBusy c) := by
  have h1 : fldKey y ≠ fldKey fNVS_STATUS_BUSY := key_ne h (by simp only [inside, fNVS_STATUS_BUSY]; omega)
  have h2 : fldKey y ≠ fldKey fNVS_STATUS_CAUSE := key_ne h (by simp only [inside, fNVS_STATUS_CAUSE]; omega)
  unfold State.nvSetBusy
  exact ite ((setF h1).setF' h2) ((setF h1).setF' h2).raise'

theorem nvSubmit (j : NvWait) (h : outside y 0x00800000 0x00801000) : Calm y s (s.nvSubmit j) := by
  have k : Calm y s { s with nv := { s.nv with waiting := s.nv.waiting ++ [j] } } := same rfl rfl
  have h := fun t c => nvSetBusy (y := y) (s := t) c h
  unfold State.nvSubmit State.nvBusyUpd State.nvFellBack
  exact ite (ite k (ite (k.trans (h _ _)) (ite (k.trans (h _ _)) (k.trans (h _ _)))))
    ((ite k (ite (k.trans (h _ _)) (ite (k.trans (h _ _)) (k.trans (h _ _))))).same' rfl rfl)

theorem measure (i : Nat) (m : Meas) : Calm y s (s.measure i m) :=
  by
  unfold State.measure
  dsimp only
  split
  · exact refl
  · exact (same rfl rfl : Calm y s { s with sec := _ }).trans (raise _ _ _ _)

theorem setBis' {g : Nat} {x : BisSt} (k : Calm y s t) (hg : g < 16) (h : outside y 0x03000000 0x03002000) :
    Calm y s (t.setBis g x) := by
  have h1 : fldKey y ≠ fldKey (fBIS_STATUS_INFLIGHT g) := key_ne h (by simp only [inside, fBIS_STATUS_INFLIGHT]; omega)
  have h2 : fldKey y ≠ fldKey (fBIS_STATUS_WAITING g) := key_ne h (by simp only [inside, fBIS_STATUS_WAITING]; omega)
  unfold State.setBis
  exact ((k.setF' h1).setF' h2).same' rfl rfl

theorem decideBis {g f : Nat} {b : Bool} (hg : g < 16) (h : outside y 0x02400000 0x02401000)
    (hb : outside y 0x03000000 0x03002000) : Calm y s (s.decideBis g b f) := by
  have h3 : fldKey y ≠ fldKey (fPIX_STATUS_THETA g) := key_ne h (by simp only [inside, fPIX_STATUS_THETA]; omega)
  unfold State.decideBis
  exact ite (ite ((setBis' refl hg hb).trans (ite refl (raiseG _ _ _))) refl)
    (((setF h3).setBis' hg hb).trans (ite refl (raiseG _ _ _)))

theorem journal (g : Nat) (b : Bool) (r : BisReq) (c d e : Nat) (h : outside y 0x00800000 0x00801000) :
    Calm y s (s.journal g b r c d e).2 := by
  unfold State.journal
  exact (same rfl rfl : Calm y s { s with drv := { s.drv with bisRec := s.drv.bisRec + 1 } }).trans (nvSubmit _ h)

theorem bisStart {g f : Nat} (hg : g < 16) (h : outside y 0x02400000 0x02401000) (hb : outside y 0x03000000 0x03002000)
    (hn : outside y 0x00800000 0x00801000) : Calm y s (s.bisStart g f) := by
  unfold State.bisStart
  have k : Calm y s (s.decideBis g true f) := decideBis hg h hb
  exact ite refl (ite ((k.setBis' hg hb).trans (foldl _ _ (fun s o _ => setBis' refl hg hb) _))
    ((k.setBis' hg hb).trans (foldl _ _ (fun s o _ => journal _ _ _ _ _ _ hn) _)))

theorem setCoreSt (o n : Nat) (ho : o ∈ trCores) (h : outside y 0x02800000 0x02810000) : Calm y s (s.setCoreSt o n) := by
  have ho : 0x400 ≤ o ∧ o < 0x441 := by simp [trCores] at ho; omega
  have h1 : fldKey y ≠ fldKey (fcState o) := key_ne h (by unfold fcState; rw [if_pos (by simp [isTR]; omega)]; simp only [inside, fSQR_STATUS_STATE]; omega)
  unfold State.setCoreSt
  exact ite refl (setF h1).raise'

theorem coreStart (o : Nat) (ho : o ∈ trCores) (h : outside y 0x02800000 0x02810000) : Calm y s (s.coreStart o) := by
  have ho' : 0x400 ≤ o ∧ o < 0x441 := by simp [trCores] at ho; omega
  have hi : isTR o = true := by simp [isTR]; omega
  have h1 : fldKey y ≠ fldKey (fcPend o) := key_ne h (by unfold fcPend; rw [if_pos hi]; simp only [inside, fSQR_PEND_PEND]; omega)
  have h2 : fldKey y ≠ fldKey (fcPfv o) := key_ne h (by unfold fcPfv; rw [if_pos hi]; simp only [inside, fSQR_STATUS_PFV]; omega)
  have k : ∀ c : Core, Calm y s ((((s.setCore o c).setF (fcPend o) 0).setF (fcPfv o) 0).setNoServe (o - 0x300) false) := fun c =>
    setNoServe' (setF' (setF' (setCore' refl) h1) h2)
  have k := fun c => (k c).trans (setCoreSt o 1 ho h)
  unfold State.coreStart
  exact ite refl (ite ((k _).trans (measure _ _)) (k _))

theorem armStart (g : Nat) (h : outside y 0x02800000 0x02810000) : Calm y s (s.armStart g) := by
  unfold State.armStart
  exact foldl _ _ (fun s o ho => ite (coreStart o ho h) refl) s

/-! ## What the entry into STOPPED does around the raster block (R55) -/

theorem tmg_ne {x : Fld} (h : inside y 0x02000000 0x02100000) (k : x.lo < 32 ∧ 0x02100000 ≤ x.addr) : fldKey y ≠ fldKey x :=
  key_ne (lo := 0x02100000) (hi := x.addr + 1) (by simp only [inside, outside] at *; omega) (by simp only [inside]; omega)

variable (h : inside y 0x02000000 0x02100000)
include h

theorem panTol : Calm y s s.panTol := by
  unfold State.panTol
  exact setF' (setF (tmg_ne h (by decide))) (tmg_ne h (by decide))

theorem discardEdges (g : Nat) : Calm y s (s.discardEdges g) := by
  unfold State.discardEdges
  exact foldl _ _ (fun s p _ => ite (setPin' refl) refl) s

theorem setRState (g st r : Nat) : Calm y s (s.setRState g st r) := by
  unfold State.setRState
  exact ite refl (setF (tmg_ne h (by simp only [fDRV_STATUS_RSTATE]; omega))).raise'

theorem railSeq (r : Nat) (b : Bool) : Calm y s (s.railSeq r b) := by
  unfold State.railSeq State.railShow
  exact setF' (setF' (setRail' refl) (tmg_ne h (by simp only [fDRV_RAIL_ON]; omega)))
    (tmg_ne h (by simp only [fDRV_RAIL_OVR]; omega))

theorem railDownFrom (g k : Nat) : Calm y s (s.railDownFrom g k) := by
  unfold State.railDownFrom
  dsimp only
  split
  · exact ite ((setPwr' refl).trans (setRState h _ _ _)) (setPwr' refl)
  · exact (setPwr' refl).trans (foldl _ _ (fun s r _ => railSeq h r _) _)

theorem railDown (g : Nat) : Calm y s (s.railDown g) := by
  unfold State.railDown
  have k : Calm y s (s.setPwr g { s.pwr g with down := true, downWaits := false }) := setPwr' refl
  exact (ite k (k.trans (setRState h _ _ _))).trans (railDownFrom h _ _)

theorem railStopped (g : Nat) : Calm y s (s.railStopped g) := by
  unfold State.railStopped
  exact ite (railDown h g) refl

theorem activate (c : Nat) : Calm y s (s.activate c) := by
  have k : Calm y s (s.copyTable c) := by
    unfold State.copyTable
    exact foldl _ _ (fun s e _ => setF' (setF' (setF' (setF' (setF' (setF (tmg_ne h (by simp only [fSLTA_PARTNER]; omega)))
      (tmg_ne h (by simp only [fSLTA_KIND]; omega))) (tmg_ne h (by simp only [fSLTA_RESV]; omega)))
      (tmg_ne h (by simp only [fSLTA_LEN]; omega))) (tmg_ne h (by simp only [fSLTA_NCOL]; omega)))
      (tmg_ne h (by simp only [fSLTA_COL0]; omega))) s
  have h1 : fldKey y ≠ fldKey (fSLT_ACT_NSLOT c) := tmg_ne h (by simp only [fSLT_ACT_NSLOT]; omega)
  have h2 : fldKey y ≠ fldKey (fSLT_ACT_PEND c) := tmg_ne h (by simp only [fSLT_ACT_PEND]; omega)
  have h3 : fldKey y ≠ fldKey (fSLT_ACT_STARVED c) := tmg_ne h (by simp only [fSLT_ACT_STARVED]; omega)
  unfold State.activate
  dsimp only
  refine setF' ?_ h3
  refine setLn' ?_
  refine Calm.trans ?_ (foldl _ _ (fun s e _ => raise _ _ _ _) _)
  refine Calm.trans ?_ (foldl _ _ (fun s e _ => raise _ _ _ _) _)
  exact setLn' (setF' (setF' k h1) h2)

omit h in
theorem holds (c : Nat) (l : List Nat) (b : List Byte) : Calm y s (l.foldl (fun s _ => s.sendCtl c b) s) :=
  foldl _ _ (fun _ _ _ => sendCtl' refl) s

/-! ## The failure of an owner that is no queue (R329) -/

omit h
variable (ho : outside y 0x00401000 0x00405000) (ha : apart y = true)
include ho ha

omit ha in
theorem lock_ne {x : Fld} (k : inside x 0x00404000 0x00405000) : fldKey y ≠ fldKey x :=
  key_ne ho (by simp only [inside] at *; omega)

theorem lockBroken {n : Nat} (hn : n < 1024) (a b c : Nat) : Calm y s (s.lockBroken n a b c) := by
  have h1 : fldKey y ≠ fldKey (fCPR_LOCK_STATUS n) := lock_ne ho (by simp only [inside, fCPR_LOCK_STATUS]; omega)
  have h2 : fldKey y ≠ fldKey (fCPR_LOCK_ORPHAN n) := lock_ne ho (by simp only [inside, fCPR_LOCK_ORPHAN]; omega)
  have h3 : fldKey y ≠ fldKey (fCPR_LOCK_REFUSED n) := lock_ne ho (by simp only [inside, fCPR_LOCK_REFUSED]; omega)
  have h4 : fldKey y ≠ fldKey (fCPR_LOCK_CSEQ n) := lock_ne ho (by simp only [inside, fCPR_LOCK_CSEQ]; omega)
  unfold State.lockBroken
  have k : Calm y s (((s.setF (fCPR_LOCK_STATUS n) a).setF (fCPR_LOCK_ORPHAN n) 0).setLk n ⟨none, none, 0⟩) :=
    same' (setF' (setF h1) h2) rfl rfl
  exact ite (raise' (ite (setF' (setF' k h3) h4) k)) (fault' ha (raise' (ite (setF' (setF' k h3) h4) k)))

theorem lockFail {n : Nat} (hn : n < 1024) (c : Nat) : Calm y s (s.lockFail n c) := by
  have h2 : fldKey y ≠ fldKey (fCPR_LOCK_ORPHAN n) := lock_ne ho (by simp only [inside, fCPR_LOCK_ORPHAN]; omega)
  have k : ∀ l, Calm y s (s.setLk n l) := fun _ => same rfl rfl
  unfold State.lockFail
  dsimp only
  split
  · exact (k _).trans (lockBroken ho ha hn _ _ _)
  · split
    · exact (k _).trans (lockBroken ho ha hn _ _ _)
    · exact setF' (k _) h2

omit ha in
theorem txnClose {t : Nat} (ht : t < 256) (hq : 512 ≤ s.f (fCPR_TXN_OWN_OWNER t)) : Calm y s (s.txnClose t) := by
  have h1 : fldKey y ≠ fldKey (fCPR_TXN_OWN_STATE t) := key_ne ho (by simp only [inside, fCPR_TXN_OWN_STATE]; omega)
  have h2 : fldKey y ≠ fldKey (fCPR_TXN_OWN_DOOM t) := key_ne ho (by simp only [inside, fCPR_TXN_OWN_DOOM]; omega)
  have h3 : fldKey y ≠ fldKey (fCPR_TXN_OWN_OWNER t) := key_ne ho (by simp only [inside, fCPR_TXN_OWN_OWNER]; omega)
  have h4 : fldKey y ≠ fldKey (fCPR_TXN_CNT_WRITES t) := key_ne ho (by simp only [inside, fCPR_TXN_CNT_WRITES]; omega)
  have h5 : fldKey y ≠ fldKey fCPR_TXN_STATUS_OPEN := key_ne ho (by simp only [inside, fCPR_TXN_STATUS_OPEN]; omega)
  unfold State.txnClose State.qOpen State.setTxnWs
  dsimp only
  rw [if_neg (by omega)]
  exact setF' (setF' (same' (setF' (setF' (setF h1) h2) h3) rfl rfl) h4) h5

omit ho ha in
theorem maskLocks {o : Nat} : Calm y s (s.maskLocks o) := same rfl rfl

theorem ownerFail {w : Nat} (hw : 512 ≤ w) (how : Nat) : Calm y s (s.ownerFail w how) := by
  have h6 : fldKey y ≠ fldKey fCPR_TXN_STATUS_FREE := key_ne ho (by simp only [inside, fCPR_TXN_STATUS_FREE]; omega)
  unfold State.ownerFail
  dsimp only
  refine (ite maskLocks refl).trans (t := if how = 0 then s.maskLocks w else s) ?_
  generalize (if how = 0 then s.maskLocks w else s) = s
  refine Calm.trans (t := match s.txnSlot w with
    | none => s
    | some t => ((s.txnClose t).freeShadow (s.txnWs t).length).raise 0x153 w 0 [(8, 1 + how), (24, 0), (32, (s.txnWs t).length)])
    ?_ (foldl _ _ (fun s n hn => lockFail ho ha (by
      unfold State.heldLocks at hn
      exact List.mem_range.1 (List.mem_filter.1 hn).1) how) _)
  split
  · exact refl
  · rename_i t ht
    have m := List.mem_of_find?_eq_some ht
    have p := List.find?_some ht
    simp only [Bool.and_eq_true, beq_iff_eq] at p
    exact raise' (setF' (txnClose ho (List.mem_range.1 m) (by rw [p.2]; exact hw)) h6)

end Calm
end Sys2Proof.Machine
end

