-- ==== Sys2Proof/Laws/Dispatch.lean ====
section
/-!
SUPPORT. Which meaning each command runs: exec of a constructor is its meaning, by definition.
-/
set_option Elab.async false
namespace Sys2Proof.Machine

variable (s : State)

@[simp] theorem exec_regWrite {req addr data} : exec (.regWrite req addr data) s = execRegWrite req addr data s := rfl
@[simp] theorem exec_porstAssert : exec (.porstAssert) s = execPorstAssert s := rfl
@[simp] theorem exec_porstDeassert : exec (.porstDeassert) s = execPorstDeassert s := rfl
@[simp] theorem exec_stageComplete {stage rep} : exec (.stageComplete stage rep) s = execStageComplete stage rep s := rfl
@[simp] theorem exec_stageTimeout {stage} : exec (.stageTimeout stage) s = execStageTimeout stage s := rfl
@[simp] theorem exec_pllRetry {locked} : exec (.pllRetry locked) s = execPllRetry locked s := rfl
@[simp] theorem exec_flitReceive {dir lg flit} : exec (.flitReceive dir lg flit) s = execFlitReceive dir lg flit s := rfl
@[simp] theorem exec_flitSlot {dir lg tc0 tc1 tc2 tc3 cred crtc} : exec (.flitSlot dir lg tc0 tc1 tc2 tc3 cred crtc) s = execFlitSlot dir lg tc0 tc1 tc2 tc3 cred crtc s := rfl
@[simp] theorem exec_replayTimeout {dir lg} : exec (.replayTimeout dir lg) s = execReplayTimeout dir lg s := rfl
@[simp] theorem exec_laneGroupRetrain {dir lg} : exec (.laneGroupRetrain dir lg) s = execLaneGroupRetrain dir lg s := rfl
@[simp] theorem exec_retrainDone {dir lg failed} : exec (.retrainDone dir lg failed) s = execRetrainDone dir lg failed s := rfl
@[simp] theorem exec_linkMgmtFlit {dir lg lastSeq} : exec (.linkMgmtFlit dir lg lastSeq) s = execLinkMgmtFlit dir lg lastSeq s := rfl
@[simp] theorem exec_clockSourceLoss {src} : exec (.clockSourceLoss src) s = execClockSourceLoss src s := rfl
@[simp] theorem exec_clockSourceReturn {src} : exec (.clockSourceReturn src) s = execClockSourceReturn src s := rfl
@[simp] theorem exec_tsyncSend : exec (.tsyncSend) s = execTsyncSend s := rfl
@[simp] theorem exec_tsyncSample {arrival rtt replayed} : exec (.tsyncSample arrival rtt replayed) s = execTsyncSample arrival rtt replayed s := rfl
@[simp] theorem exec_tsyncHoldover : exec (.tsyncHoldover) s = execTsyncHoldover s := rfl
@[simp] theorem exec_evtTimeLoRead {req} : exec (.evtTimeLoRead req) s = execEvtTimeLoRead req s := rfl
@[simp] theorem exec_eventMergeArrival {k} : exec (.eventMergeArrival k) s = execEventMergeArrival k s := rfl
@[simp] theorem exec_eventRelease : exec (.eventRelease) s = execEventRelease s := rfl
@[simp] theorem exec_groupRun {req g data} : exec (.groupRun req g data) s = execGroupRun req g data s := rfl
@[simp] theorem exec_groupStop {req g data} : exec (.groupStop req g data) s = execGroupStop req g data s := rfl
@[simp] theorem exec_groupResume {req g data} : exec (.groupResume req g data) s = execGroupResume req g data s := rfl
@[simp] theorem exec_groupEnterStopped {g} : exec (.groupEnterStopped g) s = execGroupEnterStopped g s := rfl
@[simp] theorem exec_lineStart {g} : exec (.lineStart g) s = execLineStart g s := rfl
@[simp] theorem exec_syncoutPulseEnd {g} : exec (.syncoutPulseEnd g) s = execSyncoutPulseEnd g s := rfl
@[simp] theorem exec_cutoff {g} : exec (.cutoff g) s = execCutoff g s := rfl
@[simp] theorem exec_latch {g} : exec (.latch g) s = execLatch g s := rfl
@[simp] theorem exec_commitArrival : exec (.commitArrival) s = execCommitArrival s := rfl
@[simp] theorem exec_syncinEdge {pin level stamp} : exec (.syncinEdge pin level stamp) s = execSyncinEdge pin level stamp s := rfl
@[simp] theorem exec_teEdge {g level stamp} : exec (.teEdge g level stamp) s = execTeEdge g level stamp s := rfl
@[simp] theorem exec_teWaitBegin {g} : exec (.teWaitBegin g) s = execTeWaitBegin g s := rfl
@[simp] theorem exec_teTimeout {g} : exec (.teTimeout g) s = execTeTimeout g s := rfl
@[simp] theorem exec_slotStart {c slot} : exec (.slotStart c slot) s = execSlotStart c slot s := rfl
@[simp] theorem exec_tmgFrameLoRead {req g} : exec (.tmgFrameLoRead req g) s = execTmgFrameLoRead req g s := rfl
@[simp] theorem exec_tmgLatchLoRead {req g} : exec (.tmgLatchLoRead req g) s = execTmgLatchLoRead req g s := rfl
@[simp] theorem exec_srSleepSet {req data} : exec (.srSleepSet req data) s = execSrSleepSet req data s := rfl
@[simp] theorem exec_srSleepClear {req data} : exec (.srSleepClear req data) s = execSrSleepClear req data s := rfl
@[simp] theorem exec_pipeSpan {g line span} : exec (.pipeSpan g line span) s = execPipeSpan g line span s := rfl
@[simp] theorem exec_tableLoad {req data} : exec (.tableLoad req data) s = execTableLoad req data s := rfl
@[simp] theorem exec_tableReadback {req data} : exec (.tableReadback req data) s = execTableReadback req data s := rfl
@[simp] theorem exec_tldDone {rounds} : exec (.tldDone rounds) s = execTldDone rounds s := rfl
@[simp] theorem exec_fstReadDone {addr err cls} : exec (.fstReadDone addr err cls) s = execFstReadDone addr err cls s := rfl
@[simp] theorem exec_scrubRead {refused err} : exec (.scrubRead refused err) s = execScrubRead refused err s := rfl
@[simp] theorem exec_refreshInterval {pc busy} : exec (.refreshInterval pc busy) s = execRefreshInterval pc busy s := rfl
@[simp] theorem exec_stackIdle {stack} : exec (.stackIdle stack) s = execStackIdle stack s := rfl
@[simp] theorem exec_stackExitDone {stack} : exec (.stackExitDone stack) s = execStackExitDone stack s := rfl
@[simp] theorem exec_strudelConfigWrite {req addr data} : exec (.strudelConfigWrite req addr data) s = execStrudelConfigWrite req addr data s := rfl
@[simp] theorem exec_codecSubmit {req data} : exec (.codecSubmit req data) s = execCodecSubmit req data s := rfl
@[simp] theorem exec_codecEncode : exec (.codecEncode) s = execCodecEncode s := rfl
@[simp] theorem exec_codecRelease : exec (.codecRelease) s = execCodecRelease s := rfl
@[simp] theorem exec_codecBlockDone {e mismatch rounds} : exec (.codecBlockDone e mismatch rounds) s = execCodecBlockDone e mismatch rounds s := rfl
@[simp] theorem exec_cellRelease : exec (.cellRelease) s = execCellRelease s := rfl
@[simp] theorem exec_encoderRelease {req data} : exec (.encoderRelease req data) s = execEncoderRelease req data s := rfl
@[simp] theorem exec_blockFetchDone {p bx by_} : exec (.blockFetchDone p bx by_) s = execBlockFetchDone p bx by_ s := rfl
@[simp] theorem exec_tileFetchTimeout {p bx by_ dec} : exec (.tileFetchTimeout p bx by_ dec) s = execTileFetchTimeout p bx by_ dec s := rfl
@[simp] theorem exec_blockDecodeDone {p bx by_ dec} : exec (.blockDecodeDone p bx by_ dec) s = execBlockDecodeDone p bx by_ dec s := rfl
@[simp] theorem exec_nop {core} : exec (.nop core) s = execNop core s := rfl
@[simp] theorem exec_add {core} : exec (.add core) s = execAdd core s := rfl
@[simp] theorem exec_sub {core} : exec (.sub core) s = execSub core s := rfl
@[simp] theorem exec_and {core} : exec (.and core) s = execAnd core s := rfl
@[simp] theorem exec_or {core} : exec (.or core) s = execOr core s := rfl
@[simp] theorem exec_xor {core} : exec (.xor core) s = execXor core s := rfl
@[simp] theorem exec_shl {core} : exec (.shl core) s = execShl core s := rfl
@[simp] theorem exec_shr {core} : exec (.shr core) s = execShr core s := rfl
@[simp] theorem exec_sra {core} : exec (.sra core) s = execSra core s := rfl
@[simp] theorem exec_min {core} : exec (.min core) s = execMin core s := rfl
@[simp] theorem exec_max {core} : exec (.max core) s = execMax core s := rfl
@[simp] theorem exec_mul16 {core} : exec (.mul16 core) s = execMul16 core s := rfl
@[simp] theorem exec_cmp {core} : exec (.cmp core) s = execCmp core s := rfl
@[simp] theorem exec_ldi {core} : exec (.ldi core) s = execLdi core s := rfl
@[simp] theorem exec_lui {core} : exec (.lui core) s = execLui core s := rfl
@[simp] theorem exec_lForm {core} : exec (.lForm core) s = execLForm core s := rfl
@[simp] theorem exec_beq {core} : exec (.beq core) s = execBeq core s := rfl
@[simp] theorem exec_bne {core} : exec (.bne core) s = execBne core s := rfl
@[simp] theorem exec_blt {core} : exec (.blt core) s = execBlt core s := rfl
@[simp] theorem exec_bge {core} : exec (.bge core) s = execBge core s := rfl
@[simp] theorem exec_j {core} : exec (.j core) s = execJ core s := rfl
@[simp] theorem exec_call {core} : exec (.call core) s = execCall core s := rfl
@[simp] theorem exec_ret {core} : exec (.ret core) s = execRet core s := rfl
@[simp] theorem exec_ld {core} : exec (.ld core) s = execLd core s := rfl
@[simp] theorem exec_st {core} : exec (.st core) s = execSt core s := rfl
@[simp] theorem exec_ldx {core} : exec (.ldx core) s = execLdx core s := rfl
@[simp] theorem exec_ldxDone {core} : exec (.ldxDone core) s = execLdxDone core s := rfl
@[simp] theorem exec_stx {core} : exec (.stx core) s = execStx core s := rfl
@[simp] theorem exec_waitl {core} : exec (.waitl core) s = execWaitl core s := rfl
@[simp] theorem exec_waitlDone {core} : exec (.waitlDone core) s = execWaitlDone core s := rfl
@[simp] theorem exec_waitc {core} : exec (.waitc core) s = execWaitc core s := rfl
@[simp] theorem exec_waitcDone {core} : exec (.waitcDone core) s = execWaitcDone core s := rfl
@[simp] theorem exec_waite {core} : exec (.waite core) s = execWaite core s := rfl
@[simp] theorem exec_waiteDone {core} : exec (.waiteDone core) s = execWaiteDone core s := rfl
@[simp] theorem exec_waitt {core} : exec (.waitt core) s = execWaitt core s := rfl
@[simp] theorem exec_waittDone {core} : exec (.waittDone core) s = execWaittDone core s := rfl
@[simp] theorem exec_fence {core} : exec (.fence core) s = execFence core s := rfl
@[simp] theorem exec_fenceDone {core} : exec (.fenceDone core) s = execFenceDone core s := rfl
@[simp] theorem exec_emit {core mism} : exec (.emit core mism) s = execEmit core mism s := rfl
@[simp] theorem exec_gset {core} : exec (.gset core) s = execGset core s := rfl
@[simp] theorem exec_gclr {core} : exec (.gclr core) s = execGclr core s := rfl
@[simp] theorem exec_gpulse {core} : exec (.gpulse core) s = execGpulse core s := rfl
@[simp] theorem exec_gtoEdgePlace {p} : exec (.gtoEdgePlace p) s = execGtoEdgePlace p s := rfl
@[simp] theorem exec_tbegin {core} : exec (.tbegin core) s = execTbegin core s := rfl
@[simp] theorem exec_commit {core} : exec (.commit core) s = execCommit core s := rfl
@[simp] theorem exec_abort {core} : exec (.abort core) s = execAbort core s := rfl
@[simp] theorem exec_lock {core} : exec (.lock core) s = execLock core s := rfl
@[simp] theorem exec_unlock {core} : exec (.unlock core) s = execUnlock core s := rfl
@[simp] theorem exec_event {core} : exec (.event core) s = execEvent core s := rfl
@[simp] theorem exec_halt {core} : exec (.halt core) s = execHalt core s := rfl
@[simp] theorem exec_watchdogExpiry {core} : exec (.watchdogExpiry core) s = execWatchdogExpiry core s := rfl
@[simp] theorem exec_pfVector : exec (.pfVector) s = execPfVector s := rfl
@[simp] theorem exec_coreRun {req core data} : exec (.coreRun req core data) s = execCoreRun req core data s := rfl
@[simp] theorem exec_coreStop {req core data} : exec (.coreStop req core data) s = execCoreStop req core data s := rfl
@[simp] theorem exec_mboxWrite {req core data} : exec (.mboxWrite req core data) s = execMboxWrite req core data s := rfl
@[simp] theorem exec_coreMemWindowWrite {req addr data} : exec (.coreMemWindowWrite req addr data) s = execCoreMemWindowWrite req addr data s := rfl
@[simp] theorem exec_doorbell {req q bar2 data} : exec (.doorbell req q bar2 data) s = execDoorbell req q bar2 data s := rfl
@[simp] theorem exec_entryTake {cp} : exec (.entryTake cp) s = execEntryTake cp s := rfl
@[simp] theorem exec_entryFetchDone {cp host} : exec (.entryFetchDone cp host) s = execEntryFetchDone cp host s := rfl
@[simp] theorem exec_trailerCheckDone : exec (.trailerCheckDone) s = execTrailerCheckDone s := rfl
@[simp] theorem exec_entryRelease {q} : exec (.entryRelease q) s = execEntryRelease q s := rfl
@[simp] theorem exec_queueRun {req q data} : exec (.queueRun req q data) s = execQueueRun req q data s := rfl
@[simp] theorem exec_queueStop {req q data} : exec (.queueStop req q data) s = execQueueStop req q data s := rfl
@[simp] theorem exec_cxlQReset {req q data} : exec (.cxlQReset req q data) s = execCxlQReset req q data s := rfl
@[simp] theorem exec_commitResultReport : exec (.commitResultReport) s = execCommitResultReport s := rfl
@[simp] theorem exec_mpTbegin {data} : exec (.mpTbegin data) s = execMpTbegin data s := rfl
@[simp] theorem exec_mpCommit {data} : exec (.mpCommit data) s = execMpCommit data s := rfl
@[simp] theorem exec_mpAbort {data} : exec (.mpAbort data) s = execMpAbort data s := rfl
@[simp] theorem exec_mpLock {data} : exec (.mpLock data) s = execMpLock data s := rfl
@[simp] theorem exec_mpUnlock {data} : exec (.mpUnlock data) s = execMpUnlock data s := rfl
@[simp] theorem exec_mpTargetReset : exec (.mpTargetReset) s = execMpTargetReset s := rfl
@[simp] theorem exec_lockBreak {req data} : exec (.lockBreak req data) s = execLockBreak req data s := rfl
@[simp] theorem exec_laneEnable {req l data} : exec (.laneEnable req l data) s = execLaneEnable req l data s := rfl
@[simp] theorem exec_blockLockGained {l} : exec (.blockLockGained l) s = execBlockLockGained l s := rfl
@[simp] theorem exec_blockLockLost {l} : exec (.blockLockLost l) s = execBlockLockLost l s := rfl
@[simp] theorem exec_invalidBlock {l} : exec (.invalidBlock l) s = execInvalidBlock l s := rfl
@[simp] theorem exec_alignSend {bundle} : exec (.alignSend bundle) s = execAlignSend bundle s := rfl
@[simp] theorem exec_alignReturn {c isLocal lat} : exec (.alignReturn c isLocal lat) s = execAlignReturn c isLocal lat s := rfl
@[simp] theorem exec_enumSend {c} : exec (.enumSend c) s = execEnumSend c s := rfl
@[simp] theorem exec_enumReturn {c count ovf} : exec (.enumReturn c count ovf) s = execEnumReturn c count ovf s := rfl
@[simp] theorem exec_ackReceive {c pid seq} : exec (.ackReceive c pid seq) s = execAckReceive c pid seq s := rfl
@[simp] theorem exec_nakReceive {c pid seq reason kind} : exec (.nakReceive c pid seq reason kind) s = execNakReceive c pid seq reason kind s := rfl
@[simp] theorem exec_rdrReceive {c pid seq words mism} : exec (.rdrReceive c pid seq words mism) s = execRdrReceive c pid seq words mism s := rfl
@[simp] theorem exec_snsReceive {c pid seq words mism} : exec (.snsReceive c pid seq words mism) s = execSnsReceive c pid seq words mism s := rfl
@[simp] theorem exec_retryTimeout {c pos sp} : exec (.retryTimeout c pos sp) s = execRetryTimeout c pos sp s := rfl
@[simp] theorem exec_freeSlot {c} : exec (.freeSlot c) s = execFreeSlot c s := rfl
@[simp] theorem exec_reenumerate {req l data} : exec (.reenumerate req l data) s = execReenumerate req l data s := rfl
@[simp] theorem exec_queueFlush {req l data} : exec (.queueFlush req l data) s = execQueueFlush req l data s := rfl
@[simp] theorem exec_txSleep {l} : exec (.txSleep l) s = execTxSleep l s := rfl
@[simp] theorem exec_txWake {l} : exec (.txWake l) s = execTxWake l s := rfl
@[simp] theorem exec_txWakeDone {l} : exec (.txWakeDone l) s = execTxWakeDone l s := rfl
@[simp] theorem exec_rxSleep {l} : exec (.rxSleep l) s = execRxSleep l s := rfl
@[simp] theorem exec_rxWake {l} : exec (.rxWake l) s = execRxWake l s := rfl
@[simp] theorem exec_spareAutoSwitch {c} : exec (.spareAutoSwitch c) s = execSpareAutoSwitch c s := rfl
@[simp] theorem exec_txDriverFault {l low} : exec (.txDriverFault l low) s = execTxDriverFault l low s := rfl
@[simp] theorem exec_spareForce {req k data} : exec (.spareForce req k data) s = execSpareForce req k data s := rfl
@[simp] theorem exec_spareRelease {req k data} : exec (.spareRelease req k data) s = execSpareRelease req k data s := rfl
@[simp] theorem exec_spareSwitchTimeout {k} : exec (.spareSwitchTimeout k) s = execSpareSwitchTimeout k s := rfl
@[simp] theorem exec_failedRetry {c} : exec (.failedRetry c) s = execFailedRetry c s := rfl
@[simp] theorem exec_inject {req l data} : exec (.inject req l data) s = execInject req l data s := rfl
@[simp] theorem exec_injectRepeat {l} : exec (.injectRepeat l) s = execInjectRepeat l s := rfl
@[simp] theorem exec_upqDataRead {req g} : exec (.upqDataRead req g) s = execUpqDataRead req g s := rfl
@[simp] theorem exec_upqPop {req g data mism} : exec (.upqPop req g data mism) s = execUpqPop req g data mism s := rfl
@[simp] theorem exec_railPowerUp {req g data} : exec (.railPowerUp req g data) s = execRailPowerUp req g data s := rfl
@[simp] theorem exec_railPowerDown {req g data} : exec (.railPowerDown req g data) s = execRailPowerDown req g data s := rfl
@[simp] theorem exec_railOnDelay {g} : exec (.railOnDelay g) s = execRailOnDelay g s := rfl
@[simp] theorem exec_railOffDelay {g} : exec (.railOffDelay g) s = execRailOffDelay g s := rfl
@[simp] theorem exec_railgoodEdge {r level} : exec (.railgoodEdge r level) s = execRailgoodEdge r level s := rfl
@[simp] theorem exec_railTimeout {r} : exec (.railTimeout r) s = execRailTimeout r s := rfl
@[simp] theorem exec_railForceOn {req data} : exec (.railForceOn req data) s = execRailForceOn req data s := rfl
@[simp] theorem exec_railForceOff {req data} : exec (.railForceOff req data) s = execRailForceOff req data s := rfl
@[simp] theorem exec_railForceRelease {req data} : exec (.railForceRelease req data) s = execRailForceRelease req data s := rfl
@[simp] theorem exec_pfTrip {pinLow vinLow} : exec (.pfTrip pinLow vinLow) s = execPfTrip pinLow vinLow s := rfl
@[simp] theorem exec_pfDischarge : exec (.pfDischarge) s = execPfDischarge s := rfl
@[simp] theorem exec_trippedClear {req data pinLow vinLow} : exec (.trippedClear req data pinLow vinLow) s = execTrippedClear req data pinLow vinLow s := rfl
@[simp] theorem exec_panelTempPoll {g} : exec (.panelTempPoll g) s = execPanelTempPoll g s := rfl
@[simp] theorem exec_panelTempReadDone {g ok raw} : exec (.panelTempReadDone g ok raw) s = execPanelTempReadDone g ok raw s := rfl
@[simp] theorem exec_bisRequest {req g data} : exec (.bisRequest req g data) s = execBisRequest req g data s := rfl
@[simp] theorem exec_bisBlockFetchDone {g mode band err} : exec (.bisBlockFetchDone g mode band err) s = execBisBlockFetchDone g mode band err s := rfl
@[simp] theorem exec_journalScan {req data} : exec (.journalScan req data) s = execJournalScan req data s := rfl
@[simp] theorem exec_bonbonEnter {req data} : exec (.bonbonEnter req data) s = execBonbonEnter req data s := rfl
@[simp] theorem exec_bonbonSend {req data} : exec (.bonbonSend req data) s = execBonbonSend req data s := rfl
@[simp] theorem exec_bonbonExit {req data} : exec (.bonbonExit req data) s = execBonbonExit req data s := rfl
@[simp] theorem exec_calPeriod {cls} : exec (.calPeriod cls) s = execCalPeriod cls s := rfl
@[simp] theorem exec_calGo {req data} : exec (.calGo req data) s = execCalGo req data s := rfl
@[simp] theorem exec_calApply {item a b err} : exec (.calApply item a b err) s = execCalApply item a b err s := rfl
@[simp] theorem exec_calRunTimeout {item} : exec (.calRunTimeout item) s = execCalRunTimeout item s := rfl
@[simp] theorem exec_calValWrite {req item data} : exec (.calValWrite req item data) s = execCalValWrite req item data s := rfl
@[simp] theorem exec_calSave {req data} : exec (.calSave req data) s = execCalSave req data s := rfl
@[simp] theorem exec_calLoad {req data} : exec (.calLoad req data) s = execCalLoad req data s := rfl
@[simp] theorem exec_calTsLoRead {req item} : exec (.calTsLoRead req item) s = execCalTsLoRead req item s := rfl
@[simp] theorem exec_tempSensorUpdate {n raw} : exec (.tempSensorUpdate n raw) s = execTempSensorUpdate n raw s := rfl
@[simp] theorem exec_railMonitorUpdate {n raw} : exec (.railMonitorUpdate n raw) s = execRailMonitorUpdate n raw s := rfl
@[simp] theorem exec_foldEnable {req g data} : exec (.foldEnable req g data) s = execFoldEnable req g data s := rfl
@[simp] theorem exec_foldDisable {req g data} : exec (.foldDisable req g data) s = execFoldDisable req g data s := rfl
@[simp] theorem exec_foldWritesDone {g} : exec (.foldWritesDone g) s = execFoldWritesDone g s := rfl
@[simp] theorem exec_foldReplayDone {g} : exec (.foldReplayDone g) s = execFoldReplayDone g s := rfl
@[simp] theorem exec_foldRetry {g} : exec (.foldRetry g) s = execFoldRetry g s := rfl
@[simp] theorem exec_hostHotReset : exec (.hostHotReset) s = execHostHotReset s := rfl
@[simp] theorem exec_perstAssert : exec (.perstAssert) s = execPerstAssert s := rfl
@[simp] theorem exec_linkLoss : exec (.linkLoss) s = execLinkLoss s := rfl
@[simp] theorem exec_linkUp {rate width cxl lopt} : exec (.linkUp rate width cxl lopt) s = execLinkUp rate width cxl lopt s := rfl
@[simp] theorem exec_flr {func} : exec (.flr func) s = execFlr func s := rfl
@[simp] theorem exec_cxlReset : exec (.cxlReset) s = execCxlReset s := rfl
@[simp] theorem exec_cxlCacheAvailable : exec (.cxlCacheAvailable) s = execCxlCacheAvailable s := rfl
@[simp] theorem exec_cxlCacheUnavailable : exec (.cxlCacheUnavailable) s = execCxlCacheUnavailable s := rfl
@[simp] theorem exec_hdmCommit {base size memEnable} : exec (.hdmCommit base size memEnable) s = execHdmCommit base size memEnable s := rfl
@[simp] theorem exec_cxlmemRead {hpa cache} : exec (.cxlmemRead hpa cache) s = execCxlmemRead hpa cache s := rfl
@[simp] theorem exec_cxlmemWrite {hpa bytes mask wb} : exec (.cxlmemWrite hpa bytes mask wb) s = execCxlmemWrite hpa bytes mask wb s := rfl
@[simp] theorem exec_biResponse {line} : exec (.biResponse line) s = execBiResponse line s := rfl
@[simp] theorem exec_biTimeout {line} : exec (.biTimeout line) s = execBiTimeout line s := rfl
@[simp] theorem exec_cacheReadDone {line bytes failed p} : exec (.cacheReadDone line bytes failed p) s = execCacheReadDone line bytes failed p s := rfl
@[simp] theorem exec_cacheReadTimeout {line} : exec (.cacheReadTimeout line) s = execCacheReadTimeout line s := rfl
@[simp] theorem exec_cdatRead : exec (.cdatRead) s = execCdatRead s := rfl
@[simp] theorem exec_identifyMemoryDevice : exec (.identifyMemoryDevice) s = execIdentifyMemoryDevice s := rfl
@[simp] theorem exec_getSupportedLogs : exec (.getSupportedLogs) s = execGetSupportedLogs s := rfl
@[simp] theorem exec_getLog {log n} : exec (.getLog log n) s = execGetLog log n s := rfl
@[simp] theorem exec_getEventRecords {log} : exec (.getEventRecords log) s = execGetEventRecords log s := rfl
@[simp] theorem exec_clearEventRecords {log n} : exec (.clearEventRecords log n) s = execClearEventRecords log n s := rfl
@[simp] theorem exec_getEventInterruptPolicy : exec (.getEventInterruptPolicy) s = execGetEventInterruptPolicy s := rfl
@[simp] theorem exec_setEventInterruptPolicy {policy} : exec (.setEventInterruptPolicy policy) s = execSetEventInterruptPolicy policy s := rfl
@[simp] theorem exec_getHealthInfo : exec (.getHealthInfo) s = execGetHealthInfo s := rfl
@[simp] theorem exec_getPoisonList : exec (.getPoisonList) s = execGetPoisonList s := rfl
@[simp] theorem exec_mailboxUnsupported {opcode} : exec (.mailboxUnsupported opcode) s = execMailboxUnsupported opcode s := rfl
@[simp] theorem exec_getVersion : exec (.getVersion) s = execGetVersion s := rfl
@[simp] theorem exec_getCapabilities : exec (.getCapabilities) s = execGetCapabilities s := rfl
@[simp] theorem exec_negotiateAlgorithms {offered} : exec (.negotiateAlgorithms offered) s = execNegotiateAlgorithms offered s := rfl
@[simp] theorem exec_getDigests : exec (.getDigests) s = execGetDigests s := rfl
@[simp] theorem exec_getCertificate {slot ofs n} : exec (.getCertificate slot ofs n) s = execGetCertificate slot ofs n s := rfl
@[simp] theorem exec_challenge {nonce} : exec (.challenge nonce) s = execChallenge nonce s := rfl
@[simp] theorem exec_getMeasurements {sign nonce} : exec (.getMeasurements sign nonce) s = execGetMeasurements sign nonce s := rfl
@[simp] theorem exec_keyExchange {transport authority} : exec (.keyExchange transport authority) s = execKeyExchange transport authority s := rfl
@[simp] theorem exec_heartbeat {session} : exec (.heartbeat session) s = execHeartbeat session s := rfl
@[simp] theorem exec_vendorDefinedRequest {session blob} : exec (.vendorDefinedRequest session blob) s = execVendorDefinedRequest session blob s := rfl
@[simp] theorem exec_evrHeadWrite {req k data} : exec (.evrHeadWrite req k data) s = execEvrHeadWrite req k data s := rfl
@[simp] theorem exec_evrEnable {req k data} : exec (.evrEnable req k data) s = execEvrEnable req k data s := rfl
@[simp] theorem exec_msixTimer {k} : exec (.msixTimer k) s = execMsixTimer k s := rfl
@[simp] theorem exec_msixUnmask {func vec} : exec (.msixUnmask func vec) s = execMsixUnmask func vec s := rfl
@[simp] theorem exec_keyLoadBlob {req data} : exec (.keyLoadBlob req data) s = execKeyLoadBlob req data s := rfl
@[simp] theorem exec_lcRequest {req data} : exec (.lcRequest req data) s = execLcRequest req data s := rfl
@[simp] theorem exec_debugUnlock {req data} : exec (.debugUnlock req data) s = execDebugUnlock req data s := rfl
@[simp] theorem exec_tamper : exec (.tamper) s = execTamper s := rfl
@[simp] theorem exec_secSlotCtrLoRead {req n} : exec (.secSlotCtrLoRead req n) s = execSecSlotCtrLoRead req n s := rfl
@[simp] theorem exec_recordWindowWrite {req ofs data} : exec (.recordWindowWrite req ofs data) s = execRecordWindowWrite req ofs data s := rfl
@[simp] theorem exec_recordJob {req data} : exec (.recordJob req data) s = execRecordJob req data s := rfl
@[simp] theorem exec_recordAccept : exec (.recordAccept) s = execRecordAccept s := rfl
@[simp] theorem exec_flushProgramDone : exec (.flushProgramDone) s = execFlushProgramDone s := rfl
@[simp] theorem exec_sectorEraseDone {sec} : exec (.sectorEraseDone sec) s = execSectorEraseDone sec s := rfl
@[simp] theorem exec_dumpCopyDone : exec (.dumpCopyDone) s = execDumpCopyDone s := rfl
@[simp] theorem exec_counterIncrement {req data} : exec (.counterIncrement req data) s = execCounterIncrement req data s := rfl
@[simp] theorem exec_nvsCntLoRead {req n} : exec (.nvsCntLoRead req n) s = execNvsCntLoRead req n s := rfl
@[simp] theorem exec_nvsErase {req data} : exec (.nvsErase req data) s = execNvsErase req data s := rfl
@[simp] theorem exec_nvsProgram {req data} : exec (.nvsProgram req data) s = execNvsProgram req data s := rfl
@[simp] theorem exec_nvsReadSlot {req data} : exec (.nvsReadSlot req data) s = execNvsReadSlot req data s := rfl
@[simp] theorem exec_nvsReadLog {req data} : exec (.nvsReadLog req data) s = execNvsReadLog req data s := rfl
@[simp] theorem exec_xferUnitDone {deferred misread} : exec (.xferUnitDone deferred misread) s = execXferUnitDone deferred misread s := rfl
@[simp] theorem exec_imageActivate {req data} : exec (.imageActivate req data) s = execImageActivate req data s := rfl
@[simp] theorem exec_cpQuiescent {cp} : exec (.cpQuiescent cp) s = execCpQuiescent cp s := rfl
@[simp] theorem exec_cpSwap {cp} : exec (.cpSwap cp) s = execCpSwap cp s := rfl
@[simp] theorem exec_activationTimeout : exec (.activationTimeout) s = execActivationTimeout s := rfl
@[simp] theorem exec_bankPowerRequest {req b data} : exec (.bankPowerRequest req b data) s = execBankPowerRequest req b data s := rfl
@[simp] theorem exec_bankRetentionIdle {b} : exec (.bankRetentionIdle b) s = execBankRetentionIdle b s := rfl
@[simp] theorem exec_bankInitDone {b} : exec (.bankInitDone b) s = execBankInitDone b s := rfl
@[simp] theorem exec_sramRead {b word err use} : exec (.sramRead b word err use) s = execSramRead b word err use s := rfl
@[simp] theorem exec_marchStart {req data} : exec (.marchStart req data) s = execMarchStart req data s := rfl
@[simp] theorem exec_marchAbort {req data} : exec (.marchAbort req data) s = execMarchAbort req data s := rfl
@[simp] theorem exec_marchDone {bad} : exec (.marchDone bad) s = execMarchDone bad s := rfl
@[simp] theorem exec_arbRound {arb reqs scan} : exec (.arbRound arb reqs scan) s = execArbRound arb reqs scan s := rfl
@[simp] theorem exec_arbApply {req data} : exec (.arbApply req data) s = execArbApply req data s := rfl
@[simp] theorem exec_arbApplyRaster : exec (.arbApplyRaster) s = execArbApplyRaster s := rfl
@[simp] theorem exec_requesterMask {n withdrawn} : exec (.requesterMask n withdrawn) s = execRequesterMask n withdrawn s := rfl
@[simp] theorem exec_copyStart {req data} : exec (.copyStart req data) s = execCopyStart req data s := rfl
@[simp] theorem exec_copyDone {rounds reason bytes} : exec (.copyDone rounds reason bytes) s = execCopyDone rounds reason bytes s := rfl
@[simp] theorem exec_h2dSnoop {line} : exec (.h2dSnoop line) s = execH2dSnoop line s := rfl
@[simp] theorem exec_perstDeassert : exec (.perstDeassert) s = execPerstDeassert s := rfl
@[simp] theorem exec_unclaimedPacket {c bcast} : exec (.unclaimedPacket c bcast) s = execUnclaimedPacket c bcast s := rfl
@[simp] theorem exec_upstreamBadCrc {c} : exec (.upstreamBadCrc c) s = execUpstreamBadCrc c s := rfl
@[simp] theorem exec_reservedOpcode {core} : exec (.reservedOpcode core) s = execReservedOpcode core s := rfl
@[simp] theorem exec_lockTxnReply {core} : exec (.lockTxnReply core) s = execLockTxnReply core s := rfl
@[simp] theorem exec_requesterUnmask {n} : exec (.requesterUnmask n) s = execRequesterUnmask n s := rfl
@[simp] theorem exec_l1Entry : exec (.l1Entry) s = execL1Entry s := rfl
@[simp] theorem exec_l1Exit : exec (.l1Exit) s = execL1Exit s := rfl
@[simp] theorem exec_ideKm {session stream active} : exec (.ideKm session stream active) s = execIdeKm session stream active s := rfl
@[simp] theorem exec_d3hot {func on} : exec (.d3hot func on) s = execD3hot func on s := rfl

end Sys2Proof.Machine
end

