-- ==== Sys2Proof/Laws/Kept.lean ====
section
/-!
SUPPORT. What no operation of the block does: `Kept s t` says that `t` has the waiting commands of `s`, and that the canonical
forms of the registers and of the frame store hold in `t` where they hold in `s`. One lemma for each operation, in KeptOps.lean
and the files after it; `KeptO` says it of an outcome.
-/
set_option Elab.async false
namespace Sys2Proof.Machine

/-- From `s` to `t` the queue stands and the canonical forms are kept. -/
structure Kept (s t : State) : Prop where
  pending : t.pending = s.pending
  regs : Regs.wf s = true → Regs.wf t = true
  mem : Memory.wf s = true → Memory.wf t = true

/-- Every next state the outcome answers is kept from `s`. -/
def KeptO (s : State) (o : Host.Outcome State Fault Refusal) : Prop := ∀ t, o = .next t → Kept s t

namespace Kept

variable {s t u : State}

theorem refl : Kept s s := ⟨rfl, id, id⟩

theorem trans (h : Kept s t) (g : Kept t u) : Kept s u :=
  ⟨g.pending.trans h.pending, g.regs ∘ h.regs, g.mem ∘ h.mem⟩

/-- An update of parts that are neither the queue nor the registers nor the frame store's bytes. -/
theorem upd {la w1 fr ou ti ev fl li gr tr ho nv bo pi co th ch dr ca ar se me} {fs : FsSt} (h : Kept s t)
    (m : fs.mem = t.fs.mem := by rfl) (q : fs.poison = t.fs.poison := by rfl) :
    Kept s ⟨t.pending, t.regs, la, w1, fr, ou, ti, ev, fl, li, gr, tr, ho, fs, nv, bo, pi, co, th, ch, dr, ca, ar, se, me⟩ :=
  ⟨h.pending, h.regs, fun w => by unfold Memory.wf; simp only [m, q]; exact h.mem w⟩

/-- The state of a pair, once the pair is known by its parts. -/
theorem ofEq {β : Type} {p : β × State} {b : β} (e : p = (b, u)) (h : Kept s p.2) : Kept s u := by
  subst e; exact h

theorem ofEq2 {β γ : Type} {p : β × γ × State} {b : β} {c : γ} (e : p = (b, c, u)) (h : Kept s p.2.2) : Kept s u := by
  subst e; exact h

theorem ite {c : Prop} {_ : Decidable c} (h : Kept s t) (g : Kept s u) : Kept s (if c then t else u) := by
  split
  · exact h
  · exact g

theorem snd {β : Type} {b : β} (h : Kept s t) : Kept s (b, t).2 := h

theorem fst {β : Type} {b : β} (h : Kept s t) : Kept s (t, b).1 := h

theorem snd2 {β γ : Type} {b : β} {c : γ} (h : Kept s t) : Kept s (b, c, t).2.2 := h

theorem ite2 {β : Type} {c : Prop} {_ : Decidable c} {p q : β × State} (h : Kept s p.2) (g : Kept s q.2) :
    Kept s (if c then p else q).2 := by
  split
  · exact h
  · exact g

theorem ite1 {β : Type} {c : Prop} {_ : Decidable c} {p q : State × β} (h : Kept s p.1) (g : Kept s q.1) :
    Kept s (if c then p else q).1 := by
  split
  · exact h
  · exact g

theorem ite22 {β γ : Type} {c : Prop} {_ : Decidable c} {p q : β × γ × State} (h : Kept s p.2.2) (g : Kept s q.2.2) :
    Kept s (if c then p else q).2.2 := by
  split
  · exact h
  · exact g

theorem foldl {β : Type} {l : List β} {f : State → β → State} (hf : ∀ t x, Kept s t → Kept s (f t x)) (h : Kept s t) :
    Kept s (l.foldl f t) := by
  induction l generalizing t with
  | nil => exact h
  | cons x l ih => exact ih (hf t x h)

/-- A fold over pairs of a value and a state. -/
theorem foldl2 {β γ : Type} {l : List β} {f : γ × State → β → γ × State} {p : γ × State}
    (hf : ∀ p x, Kept s p.2 → Kept s (f p x).2) (h : Kept s p.2) : Kept s (l.foldl f p).2 := by
  induction l generalizing p with
  | nil => exact h
  | cons x l ih => exact ih (hf p x h)

/-- A fold over pairs of a state and a value. -/
theorem foldl1 {β γ : Type} {l : List β} {f : State × γ → β → State × γ} {p : State × γ}
    (hf : ∀ p x, Kept s p.1 → Kept s (f p x).1) (h : Kept s p.1) : Kept s (l.foldl f p).1 := by
  induction l generalizing p with
  | nil => exact h
  | cons x l ih => exact ih (hf p x h)

theorem setF {x : Fld} {v : Nat} (h : Kept s t) : Kept s (t.setF x v) :=
  ⟨h.pending, fun w => smWf_smSet (h.regs w), h.mem⟩

/-- A later piece after an earlier one. -/
theorem seq (g : Kept t u) (h : Kept s t) : Kept s u := h.trans g

theorem seqO {o : Host.Outcome State Fault Refusal} (g : KeptO t o) (h : Kept s t) : KeptO s o :=
  fun v e => h.trans (g v e)

theorem next (h : Kept s t) : KeptO s (.next t) := fun _ e => by cases e; exact h

theorem stop {r : Fault} : KeptO s (.fault r) := fun _ e => by cases e

theorem iteO {c : Prop} {_ : Decidable c} {o p : Host.Outcome State Fault Refusal} (h : KeptO s o) (g : KeptO s p) :
    KeptO s (if c then o else p) := by
  split
  · exact h
  · exact g

end Kept

end Sys2Proof.Machine
end

