-- ==== Sys2Proof/Laws/KeptBase.lean ====
section
/-!
SUPPORT. That operations of the block keep the queue and the canonical forms, one lemma for each: Ops, FrameStore, Codec, Panes, Pool, NvStore, Sec, Cores, Banks, WriteSet.
-/
set_option Elab.async false
set_option linter.all false

namespace Sys2Proof.Machine.Kept

variable {s t : State}

/-! ## Ops -/

theorem setOn {a1 a2} (h : Kept s t) : Kept s (State.setOn t a1 a2) := by
  unfold State.setOn; exact (.setF h)

theorem count {a1 a2} (h : Kept s t) : Kept s (State.count t a1 a2) := by
  unfold State.count; exact (.setF h)

theorem putBit {a1 a2 a3} (h : Kept s t) : Kept s (State.putBit t a1 a2 a3) := by
  unfold State.putBit; exact (.setF h)

theorem setW1c {a1 a2} (h : Kept s t) : Kept s (State.setW1c t a1 a2) := by
  unfold State.setW1c; exact (.upd (.putBit h))

theorem draw {a1} (h : Kept s t) : Kept s (State.draw t a1).2 := by
  unfold State.draw; exact (.snd (.upd h))

theorem out {a1} (h : Kept s t) : Kept s (State.out t a1) := by
  unfold State.out; exact (.upd h)

theorem setGrp {a1 a2} (h : Kept s t) : Kept s (State.setGrp t a1 a2) := by
  unfold State.setGrp; exact (.upd h)

theorem raiseAt {a1 a2 a3 a4 a5} (h : Kept s t) : Kept s (State.raiseAt t a1 a2 a3 a4 a5) := by
  unfold State.raiseAt; exact (.upd h)

theorem raise {a1 a2 a3 a4} (h : Kept s t) : Kept s (State.raise t a1 a2 a3 a4) := by
  unfold State.raise; exact (.raiseAt h)

theorem raiseG {a1 a2 a3} (h : Kept s t) : Kept s (State.raiseG t a1 a2 a3) := by
  unfold State.raiseG; exact (.raise h)

theorem groupState {a1 a2 a3} (h : Kept s t) : Kept s (State.groupState t a1 a2 a3) := by
  unfold State.groupState; exact (.raiseG (.setF h))

theorem stopGroup {a1} (h : Kept s t) : Kept s (State.stopGroup t a1) := by
  unfold State.stopGroup; exact (.ite (.groupState (.setF (.setGrp h))) h)

theorem deferred {a1} (h : Kept s t) : Kept s (State.deferred t a1) := by
  unfold State.deferred; exact (.count h)

theorem refused {a1 a2} (h : Kept s t) : Kept s (State.refused t a1 a2) := by
  unfold State.refused; exact (.setF (.count h))

theorem err {a1 a2} (h : Kept s t) : Kept s (State.err t a1 a2) := by
  unfold State.err; (try dsimp only); split; exacts [(.setW1c (.setF (.setF h))), (.setW1c (.setF (.setF h))), (.setW1c (.setF (.setF h)))]

theorem degraded  (h : Kept s t) : Kept s (State.degraded t) := by
  unfold State.degraded; exact (.setOn h)

theorem terminal {a1} (h : Kept s t) : Kept s (State.terminal t a1) := by
  unfold State.terminal; exact (.seq (.ite (.foldl (fun _ _ h5 => (.stopGroup h5)) .refl) .refl) (.setF h))

theorem fault {a1 a2 a3 a4} (h : Kept s t) : Kept s (State.fault t a1 a2 a3 a4) := by
  unfold State.fault; (try dsimp only); split; exacts [(.upd (.count (.degraded (.ite (.terminal h) h)))), (.ite (.count (.degraded (.ite (.terminal h) h))) (.raise (.setF (.setF (.upd (.count (.degraded (.ite (.terminal h) h))))))))]

theorem msix {a1 a2} (h : Kept s t) : Kept s (State.msix t a1 a2) := by
  unfold State.msix; exact (.ite h (.ite (.out h) (.upd h)))

theorem logIrq {a1} (h : Kept s t) : Kept s (State.logIrq t a1) := by
  unfold State.logIrq; exact (.ite (.msix h) h)

theorem cxlLog {a1 a2 a3} (h : Kept s t) : Kept s (State.cxlLog t a1 a2 a3) := by
  unfold State.cxlLog; exact (.logIrq (.upd h))

theorem measure {a1 a2} (h : Kept s t) : Kept s (State.measure t a1 a2) := by
  unfold State.measure; exact (.ite h (.raise (.upd h)))

theorem smWf_putBytes {d : Nat → Byte} {m : SMap Byte} {a : Nat} {bs : List Byte} (h : smWf d m = true) :
    smWf d (putBytes d m a bs) = true := by
  induction bs generalizing m a with
  | nil => exact h
  | cons b bs ih => exact ih (smWf_smSet h)

theorem fsPut {a1 a2} (h : Kept s t) : Kept s (t.fsPut a1 a2) := by
  refine ⟨h.pending, h.regs, fun w => ?_⟩
  have hm := h.mem w
  simp only [Memory.wf, State.fsPut, Bool.and_eq_true] at hm ⊢
  refine ⟨smWf_putBytes hm.1, ?_⟩
  generalize wholeUnits a1 a2.length = l
  generalize t.fs.poison = m at hm
  have hp := hm.2
  clear hm
  induction l generalizing m with
  | nil => exact hp
  | cons u l ih => exact ih _ (smWf_smSet hp)

theorem fsPoison {a1} (h : Kept s t) : Kept s (t.fsPoison a1) := by
  refine ⟨h.pending, h.regs, fun w => ?_⟩
  have hm := h.mem w
  simp only [Memory.wf, State.fsPoison, Bool.and_eq_true] at hm ⊢
  exact ⟨hm.1, smWf_smSet hm.2⟩

theorem latchHi {a1 a2 a3} (h : Kept s t) : Kept s (State.latchHi t a1 a2 a3) := by
  unfold State.latchHi; exact (.upd h)

/-! ## FrameStore -/

theorem noteWrite {a1 a2} (h : Kept s t) : Kept s (State.noteWrite t a1 a2) := by
  unfold State.noteWrite; exact (.foldl (fun _ _ h5 => (.ite (.setGrp h5) h5)) h)

theorem fsWrite {a1 a2} (h : Kept s t) : Kept s (State.fsWrite t a1 a2) := by
  unfold State.fsWrite; exact (.noteWrite (.fsPut h))

theorem leaveLowPower {a1} (h : Kept s t) : Kept s (State.leaveLowPower t a1) := by
  unfold State.leaveLowPower; exact (.ite h (.upd (.setF h)))

theorem touchStack {a1} (h : Kept s t) : Kept s (State.touchStack t a1) := by
  unfold State.touchStack; exact (.upd (.leaveLowPower h))

theorem touchRange {a1 a2} (h : Kept s t) : Kept s (State.touchRange t a1 a2) := by
  unfold State.touchRange; exact (.foldl (fun _ _ h5 => (.touchStack h5)) h)

theorem sendBi {a1 a2 a3} (h : Kept s t) : Kept s (State.sendBi t a1 a2 a3) := by
  unfold State.sendBi; exact (.foldl (fun _ _ h5 => (.ite (.upd h5) (.out (.upd h5)))) h)

theorem readGate {a1 a2} (h : Kept s t) : Kept s (State.readGate t a1 a2).2 := by
  unfold State.readGate; exact (.snd (.sendBi (.foldl (fun _ _ h5 => (.touchRange h5)) h)))

theorem devRead {a1 a2} (h : Kept s t) : Kept s (State.devRead t a1 a2).2 := by
  unfold State.devRead; exact (.snd (.readGate (a1 := Bool.false) (a2 := [(a1, a2)]) h))

theorem askHost {a1} (h : Kept s t) : Kept s (State.askHost t a1) := by
  unfold State.askHost; exact (.out (.upd h))

theorem hostGate {a1} (h : Kept s t) : Kept s (State.hostGate t a1).2 := by
  unfold State.hostGate; exact (.ite2 (.snd (.foldl (fun _ _ h5 => (.askHost h5)) h)) (.snd h))

theorem dropHost {a1 a2} (h : Kept s t) : Kept s (State.dropHost t a1 a2) := by
  unfold State.dropHost; exact (.upd h)

theorem askWrite {a1} (h : Kept s t) : Kept s (State.askWrite t a1) := by
  unfold State.askWrite; exact (.sendBi h)

theorem devWriteLine {a1 a2 a3} (h : Kept s t) : Kept s (State.devWriteLine t a1 a2 a3) := by
  unfold State.devWriteLine; exact (.seq (.ite (.askWrite (.upd .refl)) (.fsWrite .refl)) (.touchRange h))

theorem devWriteGo {tag a1 a2 a3} (h : Kept s t) : Kept s (Machine.devWriteGo tag a1 t a2 a3) := by
  induction a1 generalizing t a2 a3 with
  | zero => exact h
  | succ n ih => exact .ite h (ih (.devWriteLine h))

theorem devWrite {a1 a2 a3} (h : Kept s t) : Kept s (State.devWrite t a1 a2 a3) := by
  unfold State.devWrite; exact (.devWriteGo h)

theorem drainWrites (h : Kept s t) : Kept s t.drainWrites := by
  unfold State.drainWrites
  exact .upd (.foldl2 (fun p w h => by
    split
    · exact .askWrite h
    · exact .fsWrite h) h)

theorem checkTol  (h : Kept s t) : Kept s (State.checkTol t) := by
  unfold State.checkTol; exact (.foldl (fun _ _ h5 => (.ite (.leaveLowPower h5) h5)) h)

theorem fsCorrected {a1 a2} (h : Kept s t) : Kept s (State.fsCorrected t a1 a2) := by
  unfold State.fsCorrected; exact (.seq (.fault (.ite .refl (.cxlLog (.raise (.upd .refl))))) (.count h))

theorem fsUncorrectable {a1 a2} (h : Kept s t) : Kept s (State.fsUncorrectable t a1 a2) := by
  unfold State.fsUncorrectable; exact (.fault (.cxlLog (.raise (.upd (.setF (.setW1c (.count (.fsPoison h))))))))

theorem fsEcc {a1 a2 a3} (h : Kept s t) : Kept s (State.fsEcc t a1 a2 a3) := by
  unfold State.fsEcc; exact (.ite (.fsUncorrectable h) (.ite (.fsCorrected h) h))

theorem execFstReadDone {a0 a1 a2} (h : Kept s t) : KeptO s (Machine.execFstReadDone a0 a1 a2 t) := by
  unfold Machine.execFstReadDone; exact (.iteO (.next h) (.iteO (.next (.fsEcc (.touchStack h))) (.next (.touchStack h))))

theorem execScrubRead {a0 a1} (h : Kept s t) : KeptO s (Machine.execScrubRead a0 a1 t) := by
  unfold Machine.execScrubRead; exact (.iteO (.next h) (.iteO (.next (.upd h)) (.iteO (.next (.touchRange h)) (.next (.foldl (fun _ _ h5 => (.fsEcc h5)) (.upd (.touchRange h)))))))

theorem execRefreshInterval {a0 a1} (h : Kept s t) : KeptO s (Machine.execRefreshInterval a0 a1 t) := by
  unfold Machine.execRefreshInterval; exact (.iteO (.next h) (.iteO (.next (.upd h)) (.iteO (.next (.upd h)) (.next (.upd h)))))

/-! ## Codec -/

theorem markCell {a1 a2} (h : Kept s t) : Kept s (State.markCell t a1 a2) := by
  unfold State.markCell; exact (.upd h)

theorem setFree {a1} (h : Kept s t) : Kept s (State.setFree t a1) := by
  unfold State.setFree; exact (.seq (.ite (.raise .refl) .refl) (.setF h))

theorem freeOld {a1} (h : Kept s t) : Kept s (State.freeOld t a1) := by
  unfold State.freeOld; exact (.upd h)

theorem settleFreed  (h : Kept s t) : Kept s (State.settleFreed t) := by
  unfold State.settleFreed; exact (.ite h (.upd h))

theorem setTile {a1 a2 a3 a4} (h : Kept s t) : Kept s (State.setTile t a1 a2 a3 a4) := by
  unfold State.setTile; exact (.upd h)

theorem badBlock {a1 a2 a3 a4 a5} (h : Kept s t) : Kept s (State.badBlock t a1 a2 a3 a4 a5) := by
  unfold State.badBlock; exact (.fault (.raise (.count (.setTile h))))

theorem dropTiles {a1} (h : Kept s t) : Kept s (State.dropTiles t a1) := by
  unfold State.dropTiles; exact (.upd h)

theorem execBlockFetchDone {a0 a1 a2} (h : Kept s t) : KeptO s (Machine.execBlockFetchDone a0 a1 a2 t) := by
  unfold Machine.execBlockFetchDone; exact (.iteO (by (try dsimp only); split; exacts [(by rename_i h5; exact (.next (ofEq h5 (.readGate h)))), (by rename_i h6; exact (.next (.setTile (ofEq h6 (.readGate h)))))]) (.next h))

theorem execTileFetchTimeout {a0 a1 a2 a3} (h : Kept s t) : KeptO s (Machine.execTileFetchTimeout a0 a1 a2 a3 t) := by
  unfold Machine.execTileFetchTimeout; exact (.iteO (.next (.badBlock h)) (.next h))

theorem execBlockDecodeDone {a0 a1 a2 a3} (h : Kept s t) : KeptO s (Machine.execBlockDecodeDone a0 a1 a2 a3 t) := by
  unfold Machine.execBlockDecodeDone; exact (.iteO (.next h) (by (try dsimp only); split; exacts [(.next (.setTile h)), (.next (.badBlock h)), (by (try dsimp only); split; exacts [(.next (.setTile h)), (.next (.badBlock h))]), (.next h)]))

theorem setEnc {a1 a2} (h : Kept s t) : Kept s (State.setEnc t a1 a2) := by
  unfold State.setEnc; exact (.putBit (.upd h))

theorem setJob {a1 a2} (h : Kept s t) : Kept s (State.setJob t a1 a2) := by
  unfold State.setJob; exact (.upd h)

theorem handOut  (h : Kept s t) : Kept s (State.handOut t) := by
  unfold State.handOut; exact (.foldl (fun _ _ h5 => (.ite (by (try dsimp only); split; exacts [(by (try dsimp only); split; exacts [h5, (.setEnc (.setJob h5))]), h5]) h5)) h)

theorem completeJobs {a1} (h : Kept s t) : Kept s (Machine.completeJobs a1 t) := by
  induction a1 generalizing t with
  | nil => exact .upd h
  | cons j js ih => exact .ite (ih (.raise (.ite (.deferred (.setF h)) (.setF h)))) (.upd h)

theorem runJobs  (h : Kept s t) : Kept s (State.runJobs t) := by
  unfold State.runJobs; exact (.seq (.ite (.completeJobs .refl) .refl) (.settleFreed (.handOut h)))

theorem submitJobs {a1 a2} (h : Kept s t) : Kept s (State.submitJobs t a1 a2) := by
  unfold State.submitJobs; exact (.ite h (.setF (.upd h)))

theorem nextJob  (h : Kept s t) : Kept s (State.nextJob t).2 := by
  unfold State.nextJob; (try dsimp only); split; exacts [(.snd h), (.ite2 (.snd h) (by (try dsimp only); split; exacts [(by rename_i h5; exact (.snd (ofEq h5 (.devRead h)))), (by rename_i h6; exact (.snd (ofEq h6 (.devRead h))))]))]

theorem refuseJob {a1 a2} (h : Kept s t) : Kept s (State.refuseJob t a1 a2) := by
  unfold State.refuseJob; exact (.runJobs (.setJob h))

theorem execCodecEncode  (h : Kept s t) : KeptO s (Machine.execCodecEncode t) := by
  unfold Machine.execCodecEncode; (try dsimp only); split; exacts [(by rename_i h5; exact (.next (ofEq h5 (.nextJob h)))), (by rename_i h6; exact (.iteO (.next (ofEq h6 (.nextJob h))) (.iteO (.next (.refuseJob (ofEq h6 (.nextJob h)))) (.next (.runJobs (.setJob (ofEq h6 (.nextJob h))))))))]

theorem releaseBlock {a1 a2} (h : Kept s t) : Kept s (State.releaseBlock t a1 a2) := by
  unfold State.releaseBlock; exact (.devWrite (.freeOld h))

theorem execCodecRelease  (h : Kept s t) : KeptO s (Machine.execCodecRelease t) := by
  unfold Machine.execCodecRelease; (try dsimp only); split; exacts [(by rename_i h5; exact (.next (ofEq h5 (.nextJob h)))), (by rename_i h6; exact (.iteO (.next (ofEq h6 (.nextJob h))) (.iteO (.next (.refuseJob (ofEq h6 (.nextJob h)))) (.iteO (.next (ofEq h6 (.nextJob h))) (by (try dsimp only); split; exacts [(by rename_i h7; exact (.next (ofEq h7 (.readGate (ofEq h6 (.nextJob h)))))), (by rename_i h8; exact (.next (.runJobs (.setJob (.foldl (fun _ _ h9 => (.releaseBlock h9)) (ofEq h8 (.readGate (ofEq h6 (.nextJob h)))))))))])))))]

theorem encodeGate {a1 a2 a3 a4 a5} (h : Kept s t) : Kept s (State.encodeGate t a1 a2 a3 a4 a5).2 := by
  unfold State.encodeGate; exact (.ite2 (.snd (.readGate (.hostGate h))) (.readGate h))

theorem dropSource {a1 a2 a3 a4 a5} (h : Kept s t) : Kept s (State.dropSource t a1 a2 a3 a4 a5) := by
  unfold State.dropSource; exact (.ite (.foldl (fun _ _ h5 => (.dropHost h5)) h) h)

theorem writeCells {a1 a2} (h : Kept s t) : Kept s (Machine.writeCells a1 a2 t) := by
  induction a1 generalizing t a2 with
  | nil => exact h
  | cons c cs ih => exact ih (.markCell (.devWrite (.devWrite h)))

theorem writeBlock {a1 a2 a3 a4 a5} (h : Kept s t) : Kept s (State.writeBlock t a1 a2 a3 a4 a5) := by
  unfold State.writeBlock; exact (.seq (.freeOld (.devWrite (.devWrite (.ite .refl (.setFree .refl))))) (.writeCells h))

theorem quarantine {a1} (h : Kept s t) : Kept s (State.quarantine t a1) := by
  unfold State.quarantine; exact (.fault (.raise (.setW1c h)))

theorem encMismatch {a1 a2 a3 a4 a5} (h : Kept s t) : Kept s (State.encMismatch t a1 a2 a3 a4 a5) := by
  unfold State.encMismatch; exact (.seq (.seq (.seq (.seq (.ite (.quarantine .refl) .refl) (.ite .refl (.fault .refl))) (.raise .refl)) (.setEnc .refl)) (.count h))

theorem execCodecBlockDone {a0 a1 a2} (h : Kept s t) : KeptO s (Machine.execCodecBlockDone a0 a1 a2 t) := by
  unfold Machine.execCodecBlockDone; (try dsimp only); split; exacts [(.next h), (by (try dsimp only); split; exacts [(.next h), (.iteO (.next h) (by (try dsimp only); split; exacts [(by rename_i h5; exact (.next (ofEq h5 (.encodeGate h)))), (by rename_i h6; exact (by (try dsimp only); split; exacts [(.next (.runJobs (.setEnc (.setJob (.dropSource (ofEq h6 (.encodeGate h))))))), (.iteO (.next (.runJobs (.setJob (.encMismatch (.setEnc (.dropSource (ofEq h6 (.encodeGate h)))))))) (.iteO (.seqO (.next (.ite .refl (.raise .refl))) (.setJob (ofEq h6 (.encodeGate h)))) (.seqO (.seqO (.next (.runJobs (.setEnc (.setJob (.ite (.encMismatch .refl) .refl))))) (.ite (.count .refl) .refl)) (.writeBlock (.dropSource (ofEq h6 (.encodeGate h)))))))]))]))])]

theorem execCellRelease  (h : Kept s t) : KeptO s (Machine.execCellRelease t) := by
  unfold Machine.execCellRelease; (try dsimp only); split; exacts [(.next h), (.iteO (.next h) (.next (.setFree (.foldl (fun _ _ h5 => (.markCell h5)) (.upd h)))))]

theorem releaseEncoders {a1} (h : Kept s t) : Kept s (State.releaseEncoders t a1) := by
  unfold State.releaseEncoders; exact (.runJobs (.degraded (.foldl (fun _ _ h5 => (.ite (.raise (.setEnc (.putBit h5))) h5)) h)))

theorem freeAllCells  (h : Kept s t) : Kept s (State.freeAllCells t) := by
  unfold State.freeAllCells; exact (.setFree (.upd h))

theorem strudelWrite {a1 a2} (h : Kept s t) : Kept s (State.strudelWrite t a1 a2) := by
  unfold State.strudelWrite; exact (.seq (.ite (.err .refl) (.ite (.freeAllCells (.setF .refl)) (.ite (.freeAllCells (.setF .refl)) .refl))) (.ite (.setF h) h))

/-! ## Panes -/

theorem checkPane {a1} (h : Kept s t) : Kept s (State.checkPane t a1) := by
  unfold State.checkPane; exact (.seq (.ite .refl (.raise .refl)) (.setF h))

theorem losePane {a1} (h : Kept s t) : Kept s (State.losePane t a1) := by
  unfold State.losePane; exact (.ite (.checkPane (.upd h)) (.upd h))

theorem captureBytes {a1 a2 a3} (h : Kept s t) : Kept s (State.captureBytes t a1 a2 a3) := by
  unfold State.captureBytes; exact (.ite (.foldl (fun _ _ h5 => (.ite h5 (.upd (.devWrite h5)))) h) h)

theorem dropCaptures {a1} (h : Kept s t) : Kept s (State.dropCaptures t a1) := by
  unfold State.dropCaptures; exact (.upd h)

theorem captureLatch {a1} (h : Kept s t) : Kept s (State.captureLatch t a1) := by
  unfold State.captureLatch; exact (.upd (.dropCaptures h))

theorem captureFrameEnd {a1} (h : Kept s t) : Kept s (State.captureFrameEnd t a1) := by
  unfold State.captureFrameEnd; exact (.upd (.foldl (fun _ _ h5 => (.ite h5 (.setF h5))) h))

theorem dropHostPanes {a1} (h : Kept s t) : Kept s (State.dropHostPanes t a1) := by
  unfold State.dropHostPanes; exact (.foldl (fun _ _ h5 => (.dropHost h5)) h)

theorem setSr {a1 a2 a3} (h : Kept s t) : Kept s (State.setSr t a1 a2 a3) := by
  unfold State.setSr; exact (.seq (.seq (.raiseG (.ite (.dropCaptures .refl) .refl)) (.setOn .refl)) (.putBit h))

theorem sleepNow {a1} (h : Kept s t) : Kept s (State.sleepNow t a1) := by
  unfold State.sleepNow; exact (.seq (.foldl (fun _ _ h5 => (.seq (.ite (.setGrp (.setSr .refl)) .refl) (.setGrp h5))) .refl) (.setF (.setF h)))

theorem writeSleep {a1} (h : Kept s t) : Kept s (State.writeSleep t a1) := by
  unfold State.writeSleep; exact (.foldl (fun _ _ h5 => (.ite h5 (.ite (.setGrp h5) (.setGrp h5)))) (.setOn (.ite (.setF h) h)))

/-! ## Pool -/

theorem setAge {a1 a2 a3} (h : Kept s t) : Kept s (State.setAge t a1 a2 a3) := by
  unfold State.setAge; exact (.upd h)

theorem arbRound {a1 a2 a3 a4} (h : Kept s t) : Kept s (State.arbRound t a1 a2 a3 a4).2 := by
  unfold State.arbRound; (try dsimp only); split; exacts [(.snd h), (.snd (.foldl (fun _ _ h5 => (.setAge h5)) (.setAge h)))]

theorem classRound {a1 a2 a3} (h : Kept s t) : Kept s (State.classRound t a1 a2 a3).2 := by
  unfold State.classRound; exact (.arbRound h)

theorem takeCells {a1} (h : Kept s t) : Kept s (State.takeCells t a1) := by
  unfold State.takeCells; exact (.setF h)

theorem freeCells {a1} (h : Kept s t) : Kept s (State.freeCells t a1) := by
  unfold State.freeCells; exact (.setF h)

theorem setPq {a1 a2 a3} (h : Kept s t) : Kept s (State.setPq t a1 a2 a3) := by
  unfold State.setPq; exact (.upd h)

theorem setLn {a1 a2} (h : Kept s t) : Kept s (State.setLn t a1 a2) := by
  unfold State.setLn; exact (.upd h)

theorem setUq {a1 a2} (h : Kept s t) : Kept s (State.setUq t a1 a2) := by
  unfold State.setUq; exact (.upd h)

theorem keepPq {a1 a2 a3} (h : Kept s t) : Kept s (State.keepPq t a1 a2 a3) := by
  unfold State.keepPq; exact (.freeCells (.setPq h))

theorem flushPq {a1 a2} (h : Kept s t) : Kept s (State.flushPq t a1 a2).2 := by
  unfold State.flushPq; exact (.snd (.keepPq h))

theorem queueReset {a1 a2 a3 a4} (h : Kept s t) : Kept s (State.queueReset t a1 a2 a3 a4) := by
  unfold State.queueReset; exact (.fault (.raise (.count h)))

/-! ## NvStore -/

theorem nvCfree  (h : Kept s t) : Kept s (State.nvCfree t) := by
  unfold State.nvCfree; exact (.setF h)

theorem nvSetBusy {a1} (h : Kept s t) : Kept s (State.nvSetBusy t a1) := by
  unfold State.nvSetBusy; exact (.seq (.ite .refl (.raise .refl)) (.setF (.setF h)))

theorem nvFellBack  (h : Kept s t) : Kept s (State.nvFellBack t) := by
  unfold State.nvFellBack; exact (.ite h (.upd h))

theorem nvBusyUpd  (h : Kept s t) : Kept s (State.nvBusyUpd t) := by
  unfold State.nvBusyUpd; exact (.nvFellBack (.ite h (.ite (.nvSetBusy h) (.ite (.nvSetBusy h) (.nvSetBusy h)))))

theorem nvAdd {a1 a2 a3} (h : Kept s t) : Kept s (State.nvAdd t a1 a2 a3) := by
  unfold State.nvAdd; exact (.nvCfree (.setF (.upd h)))

theorem nvAccept {a1 a2} (h : Kept s t) : Kept s (State.nvAccept t a1 a2) := by
  unfold State.nvAccept; exact (.seq (.ite (.setOn .refl) .refl) (.nvAdd (.upd h)))

theorem nvIncr {a1} (h : Kept s t) : Kept s (State.nvIncr t a1) := by
  unfold State.nvIncr; exact (.nvAdd (.upd h))

theorem nvLogAdd {a1} (h : Kept s t) : Kept s (State.nvLogAdd t a1) := by
  unfold State.nvLogAdd; exact (.setF (.upd (.nvAdd h)))

theorem nvLog {a1} (h : Kept s t) : Kept s (State.nvLog t a1) := by
  unfold State.nvLog; exact (.ite h (.ite (.count h) (.nvLogAdd h)))

theorem nvSubmit {a1} (h : Kept s t) : Kept s (State.nvSubmit t a1) := by
  unfold State.nvSubmit; exact (.nvBusyUpd (.upd h))

theorem nvTrip {a1} (h : Kept s t) : Kept s (State.nvTrip t a1) := by
  unfold State.nvTrip; exact (.ite h (.nvSetBusy (.nvLogAdd (.nvIncr h))))

theorem nvDumpStart  (h : Kept s t) : Kept s (State.nvDumpStart t) := by
  unfold State.nvDumpStart; exact (.ite h (.upd (.setF h)))

/-! ## Sec -/

theorem drawBytes {a1} (h : Kept s t) : Kept s (t.drawBytes a1).2 := by
  unfold State.drawBytes
  exact Kept.draw (a1 := 8 * a1) h

theorem wrap {a1} (h : Kept s t) : Kept s (State.wrap t a1).2 := by
  unfold State.wrap; exact (.snd (.drawBytes (a1 := 12) h))

theorem setSlot {a1 a2 a3 a4} (h : Kept s t) : Kept s (State.setSlot t a1 a2 a3 a4) := by
  unfold State.setSlot; exact (.setF (.setF (.setOn (.upd h))))

theorem setLastCtr {a1 a2} (h : Kept s t) : Kept s (State.setLastCtr t a1 a2) := by
  unfold State.setLastCtr; exact (.setF (.setF h))

theorem reloadSlot {a1} (h : Kept s t) : Kept s (State.reloadSlot t a1) := by
  unfold State.reloadSlot; exact (.ite (.setSlot h) (by (try dsimp only); split; exacts [(.setSlot h), (.setSlot h)]))

theorem reloadId  (h : Kept s t) : Kept s (State.reloadId t) := by
  unfold State.reloadId; exact (.upd h)

theorem wipe  (h : Kept s t) : Kept s (State.wipe t) := by
  unfold State.wipe; exact (.foldl (fun _ _ h5 => (.setSlot h5)) (.upd h))

theorem secRecord {a1 a2} (h : Kept s t) : Kept s (State.secRecord t a1 a2) := by
  unfold State.secRecord; exact (.nvSubmit h)

theorem eraseSlotRec {a1} (h : Kept s t) : Kept s (State.eraseSlotRec t a1) := by
  unfold State.eraseSlotRec; exact (.secRecord h)

theorem dropCtr {a1 a2} (h : Kept s t) : Kept s (State.dropCtr t a1 a2) := by
  unfold State.dropCtr; exact (.setLastCtr (.upd h))

theorem measLc  (h : Kept s t) : Kept s (State.measLc t) := by
  unfold State.measLc; exact (.measure h)

theorem keyDone {a1 a2 a3 a4} (h : Kept s t) : Kept s (State.keyDone t a1 a2 a3 a4) := by
  unfold State.keyDone; exact (.raise (.ite (.setF (.setF h)) h))

theorem keySubmit {a1} (h : Kept s t) : Kept s (State.keySubmit t a1) := by
  unfold State.keySubmit; exact (.seq (.ite (.nvSubmit .refl) (.nvSubmit (.wrap (a1 := a1.key) .refl))) (.ite (.setF (.upd h)) (.upd h)))

theorem keyAccepted  (h : Kept s t) : Kept s (State.keyAccepted t) := by
  unfold State.keyAccepted; (try dsimp only); split; exacts [h, (.keyDone (.ite (.setSlot (.upd h)) (.secRecord (.setLastCtr (.setSlot (.upd h))))))]

theorem keyLoad {a1 a2} (h : Kept s t) : Kept s (State.keyLoad t a1 a2) := by
  unfold State.keyLoad; exact (.ite (.keyDone (.draw (a1 := 4) h)) (.ite (.keyDone h) (by (try dsimp only); split; exacts [(.keyDone h), (.ite (.keyDone h) (.ite (.keyDone h) (.keySubmit h)))])))

theorem keyRead {a1} (h : Kept s t) : Kept s (State.keyRead t a1) := by
  unfold State.keyRead; (try dsimp only); split; exacts [(by rename_i h5; exact (.upd (ofEq h5 (.devRead h)))), (by rename_i h6; exact (.keyLoad (.upd (ofEq h6 (.devRead h)))))]

theorem keyGo  (h : Kept s t) : Kept s (State.keyGo t) := by
  unfold State.keyGo; exact (.ite (.raise (.setF h)) (.ite (.keyDone h) (.keyRead h)))

theorem lcDone {a1 a2} (h : Kept s t) : Kept s (State.lcDone t a1 a2) := by
  unfold State.lcDone; exact (.raise (.setF h))

theorem fuseRegs  (h : Kept s t) : Kept s (State.fuseRegs t) := by
  unfold State.fuseRegs; exact (.setF (.setF (.setF (.setF (.setF h)))))

theorem lcEffects {a1 a2 a3} (h : Kept s t) : Kept s (State.lcEffects t a1 a2 a3) := by
  unfold State.lcEffects; (try dsimp only); split; exacts [(.ite (.setF (.upd (.foldl (fun _ _ h300005 => (.reloadSlot h300005)) (.secRecord (.upd (.wrap (a1 := ((t.drawBytes 96).2.drawBytes 48).1) (.drawBytes (a1 := 48) (.drawBytes (a1 := 96) h)))))))) (.upd (.foldl (fun _ _ h6 => (.reloadSlot h6)) h))), (.setF (.upd (.foldl (fun _ _ h7 => (.reloadSlot h7)) (.eraseSlotRec (.secRecord (.upd h)))))), (.upd (.foldl (fun _ _ h9 => (.reloadSlot h9)) (.foldl (fun _ _ h8 => (.eraseSlotRec h8)) (.secRecord (.upd h))))), (.setF (.foldl (fun _ _ h10 => (.eraseSlotRec h10)) (.secRecord (.upd h))))]

theorem lcMake {a1 a2 a3} (h : Kept s t) : Kept s (State.lcMake t a1 a2 a3) := by
  unfold State.lcMake; exact (.ite (.lcDone h) (.lcDone (.measLc (.lcEffects (.wipe (.fuseRegs (.upd h)))))))

theorem lcRead {a1 a2 a3} (h : Kept s t) : Kept s (State.lcRead t a1 a2 a3) := by
  unfold State.lcRead; (try dsimp only); split; exacts [(by rename_i h5; exact (.upd (ofEq h5 (.devRead h)))), (by rename_i h6; exact (.lcMake (.upd (ofEq h6 (.devRead h)))))]

theorem lcGo  (h : Kept s t) : Kept s (State.lcGo t) := by
  unfold State.lcGo; exact (.ite (.lcDone h) (.ite (.lcDone h) (.ite (.lcDone h) (.ite (.lcDone h) (.ite (.lcRead h) (.lcMake h))))))

theorem secResume  (h : Kept s t) : Kept s (State.secResume t) := by
  unfold State.secResume; (try dsimp only); split; exacts [(.keyRead h), (.lcRead h), h]

theorem dbgUnlock  (h : Kept s t) : Kept s (State.dbgUnlock t) := by
  unfold State.dbgUnlock; exact (.measLc (.raise (.setF (.wipe h))))

theorem execTamper  (h : Kept s t) : KeptO s (Machine.execTamper t) := by
  unfold Machine.execTamper; exact (.iteO (.next h) (.seqO (.next (.measLc (.raise (.ite (.foldl (fun _ _ h5 => (.eraseSlotRec h5)) .refl) .refl)))) (.count (.setF (.wipe h)))))

theorem spdmError  (h : Kept s t) : Kept s (State.spdmError t) := by
  unfold State.spdmError; exact (.out h)

theorem execGetVersion  (h : Kept s t) : KeptO s (Machine.execGetVersion t) := by
  unfold Machine.execGetVersion; exact (.next (.out h))

theorem execGetCapabilities  (h : Kept s t) : KeptO s (Machine.execGetCapabilities t) := by
  unfold Machine.execGetCapabilities; exact (.next (.out h))

theorem execNegotiateAlgorithms {a0} (h : Kept s t) : KeptO s (Machine.execNegotiateAlgorithms a0 t) := by
  unfold Machine.execNegotiateAlgorithms; exact (.iteO (.next (.out h)) (.next (.spdmError h)))

theorem execGetDigests  (h : Kept s t) : KeptO s (Machine.execGetDigests t) := by
  unfold Machine.execGetDigests; (try dsimp only); split; exacts [(.next (.out h)), (.next (.out h))]

theorem execGetCertificate {a0 a1 a2} (h : Kept s t) : KeptO s (Machine.execGetCertificate a0 a1 a2 t) := by
  unfold Machine.execGetCertificate; (try dsimp only); split; exacts [(.next (.spdmError h)), (.iteO (.next (.out h)) (.next (.spdmError h)))]

theorem execChallenge {a0} (h : Kept s t) : KeptO s (Machine.execChallenge a0 t) := by
  unfold Machine.execChallenge; exact (.iteO (.next (.spdmError h)) (.next (.out h)))

theorem execGetMeasurements {a0 a1} (h : Kept s t) : KeptO s (Machine.execGetMeasurements a0 a1 t) := by
  unfold Machine.execGetMeasurements; exact (.iteO (.next (.out h)) (.iteO (.next (.spdmError h)) (.next (.out h))))

theorem execKeyExchange {a0 a1} (h : Kept s t) : KeptO s (Machine.execKeyExchange a0 a1 t) := by
  unfold Machine.execKeyExchange; exact (.iteO (.next (.spdmError h)) (.next (.out (.upd h))))

theorem execHeartbeat {a0} (h : Kept s t) : KeptO s (Machine.execHeartbeat a0 t) := by
  unfold Machine.execHeartbeat; exact (.iteO (.next (.out h)) (.next (.spdmError h)))

theorem execVendorDefinedRequest {a0 a1} (h : Kept s t) : KeptO s (Machine.execVendorDefinedRequest a0 a1 t) := by
  unfold Machine.execVendorDefinedRequest; (try dsimp only); split; exacts [(.next (.spdmError h)), (.iteO (.next (.spdmError h)) (.iteO (.next (.raise h)) (.next (.out (.keyLoad h)))))]

/-! ## Cores -/

theorem setCore {a1 a2} (h : Kept s t) : Kept s (State.setCore t a1 a2) := by
  unfold State.setCore; exact (.upd h)

theorem setImem {a1 a2 a3} (h : Kept s t) : Kept s (State.setImem t a1 a2 a3) := by
  unfold State.setImem; exact (.upd h)

theorem setDmem {a1 a2 a3} (h : Kept s t) : Kept s (State.setDmem t a1 a2 a3) := by
  unfold State.setDmem; exact (.upd h)

theorem setEntry {a1 a2} (h : Kept s t) : Kept s (State.setEntry t a1 a2) := by
  unfold State.setEntry; exact (.upd h)

theorem setNoServe {a1 a2} (h : Kept s t) : Kept s (State.setNoServe t a1 a2) := by
  unfold State.setNoServe; exact (.upd h)

theorem setStopReq {a1 a2} (h : Kept s t) : Kept s (State.setStopReq t a1 a2) := by
  unfold State.setStopReq; exact (.upd h)

theorem setCoreSt {a1 a2} (h : Kept s t) : Kept s (State.setCoreSt t a1 a2) := by
  unfold State.setCoreSt; exact (.ite h (.raise (.setF h)))

theorem occur {a1 a2} (h : Kept s t) : Kept s (State.occur t a1 a2) := by
  unfold State.occur; exact (.ite h (by (try dsimp only); split; exacts [(.ite (.setCore h) (.putBit h)), (by (try dsimp only); split; exacts [(.ite (.setCore h) (.putBit h)), (.putBit h)])]))

theorem occurGroup {a1 a2} (h : Kept s t) : Kept s (State.occurGroup t a1 a2) := by
  unfold State.occurGroup; exact (.foldl (fun _ _ h5 => (.ite (.occur h5) h5)) h)

theorem occurApplied {a1 a2} (h : Kept s t) : Kept s (State.occurApplied t a1 a2) := by
  unfold State.occurApplied; exact (.ite (.occur h) (.foldl (fun _ _ h5 => (by (try dsimp only); split; exacts [(.ite (.occur h5) h5), h5])) h))

theorem setTxnWs {a1 a2} (h : Kept s t) : Kept s (State.setTxnWs t a1 a2) := by
  unfold State.setTxnWs; exact (.setF (.upd h))

theorem qOpen {a1 a2} (h : Kept s t) : Kept s (State.qOpen t a1 a2) := by
  unfold State.qOpen; exact (.ite (.setOn h) h)

theorem txnBegin {a1} (h : Kept s t) : Kept s (State.txnBegin t a1).2 := by
  unfold State.txnBegin; (try dsimp only); split; exacts [(.snd (.qOpen (.count (.setTxnWs (.setF (.setF (.setF h))))))), (.snd h)]

theorem txnClose {a1} (h : Kept s t) : Kept s (State.txnClose t a1) := by
  unfold State.txnClose; exact (.qOpen (.setF (.setTxnWs (.setF (.setF (.setF h))))))

theorem freeShadow {a1} (h : Kept s t) : Kept s (State.freeShadow t a1) := by
  unfold State.freeShadow; exact (.setF h)

theorem doomTxn {a1 a2} (h : Kept s t) : Kept s (State.doomTxn t a1 a2) := by
  unfold State.doomTxn; exact (.raise (.setF (.setF h)))

theorem stage {a1 a2 a3 a4} (h : Kept s t) : Kept s (State.stage t a1 a2 a3 a4) := by
  unfold State.stage; exact (.ite h (.ite (.setTxnWs h) (.ite (.doomTxn h) (.setF (.setTxnWs h)))))

theorem setLk {a1 a2} (h : Kept s t) : Kept s (State.setLk t a1 a2) := by
  unfold State.setLk; exact (.upd h)

theorem lockTake {a1 a2} (h : Kept s t) : Kept s (State.lockTake t a1 a2).2.2 := by
  unfold State.lockTake
  by_cases c : t.f (fCPR_LOCK_STATUS a2) = 3
  · by_cases d : t.holds a1 a2 = true <;> simpa [c, d] using h
  · simp only [c, if_false]
    exact .setLk (.setF (.setF (.setF h)))

theorem lockFree {a1 a2} (h : Kept s t) : Kept s (State.lockFree t a1 a2).2 := by
  unfold State.lockFree; exact (.ite2 (.snd (.setLk (.setF h))) (.snd h))

theorem lockBroken {a1 a2 a3 a4} (h : Kept s t) : Kept s (State.lockBroken t a1 a2 a3 a4) := by
  unfold State.lockBroken; exact (.seq (.seq (.seq (.ite .refl (.fault .refl)) (.raise .refl)) (.ite (.setF (.setF .refl)) .refl)) (.setLk (.setF (.setF h))))

theorem lockFail {a1 a2} (h : Kept s t) : Kept s (State.lockFail t a1 a2) := by
  unfold State.lockFail; (try dsimp only); split; exacts [(.lockBroken (.setLk h)), (by (try dsimp only); split; exacts [(.lockBroken (.setLk h)), (.setF (.setLk h))])]

theorem maskLocks {a1} (h : Kept s t) : Kept s (State.maskLocks t a1) := by
  unfold State.maskLocks; exact (.upd h)

theorem ownerFail {a1 a2} (h : Kept s t) : Kept s (State.ownerFail t a1 a2) := by
  unfold State.ownerFail; exact (.foldl (fun _ _ h5 => (.lockFail h5)) (by (try dsimp only); split; exacts [(.ite (.maskLocks h) h), (.raise (.freeShadow (.txnClose (.ite (.maskLocks h) h))))]))

theorem txnAbort {a1} (h : Kept s t) : Kept s (State.txnAbort t a1) := by
  unfold State.txnAbort; (try dsimp only); split; exacts [h, (.freeShadow (.txnClose h))]

theorem txnCommit {a1 a2} (h : Kept s t) : Kept s (State.txnCommit t a1 a2).2 := by
  unfold State.txnCommit
  split
  · exact h
  · dsimp only
    exact .foldl (fun _ _ h5 => .ite (.setLk h5) h5) (.upd (.txnClose h))

theorem commitDone {a1 a2} (h : Kept s t) : Kept s (State.commitDone t a1 a2) := by
  unfold State.commitDone; exact (.upd (.freeShadow h))

theorem takeReport {a1} (h : Kept s t) : Kept s (State.takeReport t a1) := by
  unfold State.takeReport; exact (.foldl (fun _ _ h5 => (.ite (.lockBroken h5) (.setLk h5))) h)

theorem setQState {a1 a2 a3} (h : Kept s t) : Kept s (State.setQState t a1 a2 a3) := by
  unfold State.setQState; exact (.seq (.ite .refl (.raise (.setF .refl))) (.ite (.setF h) h))

theorem entryEnd {a1 a2 a3 a4} (h : Kept s t) : Kept s (State.entryEnd t a1 a2 a3 a4) := by
  unfold State.entryEnd; (try dsimp only); split; exacts [h, (.seq (.seq (.seq (.seq (.seq (.ite (.setQState (.setStopReq (.ownerFail .refl))) (.seq (.ite (.setQState (.setStopReq .refl)) .refl) (.ite (.ownerFail .refl) .refl))) (.ite (.raise .refl) .refl)) (.setF (.setF (.setF .refl)))) (.ite (.upd .refl) (.setF (.upd .refl)))) (.setEntry .refl)) (.ite (.dropCtr h) h))]

theorem coreFaultWith {a1 a2 a3} (h : Kept s t) : Kept s (State.coreFaultWith t a1 a2 a3) := by
  unfold State.coreFaultWith; exact (.seq (.seq (.seq (.seq (.seq (.seq (.ite (.setNoServe (.setF (.setCore .refl))) (.ite (.setF (.setF (.setCore .refl))) (.setF (.setF (.setCore .refl))))) (.fault .refl)) (.ownerFail .refl)) (.ite (.entryEnd .refl) .refl)) (.raise .refl)) (.setF (.setF .refl))) (.setF (.setF (.setW1c h))))

theorem coreFault {a1 a2} (h : Kept s t) : Kept s (State.coreFault t a1 a2) := by
  unfold State.coreFault; exact (.coreFaultWith h)

theorem measSeq {a1} (h : Kept s t) : Kept s (State.measSeq t a1) := by
  unfold State.measSeq; exact (.measure h)

theorem coreStart {a1} (h : Kept s t) : Kept s (State.coreStart t a1) := by
  unfold State.coreStart; exact (.ite h (.seq (.seq (.ite (.measSeq .refl) .refl) (.setCoreSt (.setNoServe (.setF (.setF .refl))))) (.setCore h)))

theorem coreStop {a1} (h : Kept s t) : Kept s (State.coreStop t a1) := by
  unfold State.coreStop; exact (.seq (.setCoreSt (.ownerFail (.ite (.setNoServe (.entryEnd .refl)) .refl))) (.setCore h))

theorem coreCtrl {a1 a2 a3} (h : Kept s t) : Kept s (State.coreCtrl t a1 a2 a3) := by
  unfold State.coreCtrl; exact (.seq (.ite (.coreStart .refl) .refl) (.ite (.coreStop h) h))

theorem armStart {a1} (h : Kept s t) : Kept s (State.armStart t a1) := by
  unfold State.armStart; exact (.foldl (fun _ _ h5 => (.ite (.coreStart h5) h5)) h)

theorem dropPackets {a1} (h : Kept s t) : Kept s (State.dropPackets t a1) := by
  unfold State.dropPackets; exact (.foldl (fun _ _ h5 => (.keepPq h5)) h)

theorem setPin {a1 a2} (h : Kept s t) : Kept s (State.setPin t a1 a2) := by
  unfold State.setPin; exact (.upd h)

theorem cancelEdges {a1} (h : Kept s t) : Kept s (State.cancelEdges t a1) := by
  unfold State.cancelEdges; exact (.upd h)

theorem pfVector {a1} (h : Kept s t) : Kept s (State.pfVector t a1) := by
  unfold State.pfVector; exact (.ite h (.seq (.seq (.seq (.seq (.raise (.ite (.measSeq .refl) .refl)) (.setF (.setF (.setF .refl)))) (.setCore .refl)) (.ownerFail .refl)) (.dropPackets (.cancelEdges h))))

/-! ## Banks -/

theorem bankLose {a1} (h : Kept s t) : Kept s (State.bankLose t a1) := by
  unfold State.bankLose; exact (.ite (.upd h) (.ite (.upd h) h))

theorem setBank {a1 a2} (h : Kept s t) : Kept s (State.setBank t a1 a2) := by
  unfold State.setBank; exact (.seq (.ite (.setF (.bankLose .refl)) (.ite (.setF .refl) .refl)) (.setF h))

theorem bankRequest {a1 a2} (h : Kept s t) : Kept s (State.bankRequest t a1 a2) := by
  unfold State.bankRequest; exact (.ite (.setBank (.setF h)) (.ite (.setBank (.setF h)) (.err h)))

theorem wakeBanks  (h : Kept s t) : Kept s (State.wakeBanks t) := by
  unfold State.wakeBanks; exact (.foldl (fun _ _ h5 => (.ite (.setBank (.setF h5)) h5)) h)

theorem touchBank {a1} (h : Kept s t) : Kept s (State.touchBank t a1) := by
  unfold State.touchBank; exact (.ite (.setF h) h)

/-! ## WriteSet -/

theorem applyWord {a1} (h : Kept s t) : Kept s (State.applyWord t a1) := by
  unfold State.applyWord; (try dsimp only); split; exacts [h, (.foldl (fun _ _ h5 => (.ite (.setF h5) h5)) h)]

theorem applyWs {a1} (h : Kept s t) : Kept s (State.applyWs t a1) := by
  unfold State.applyWs; exact (.foldl (fun _ _ h5 => (.applyWord h5)) h)

end Sys2Proof.Machine.Kept
end

