-- ==== Sys2Proof/Laws/KeptBlocks.lean ====
section
/-!
SUPPORT. That operations of the block keep the queue and the canonical forms, one lemma for each: Pixel, Chains, Drive, Bistable, Events, Calib, Nvs, Queues, HostIf, Upstream, Images.
-/
set_option Elab.async false
set_option linter.all false

namespace Sys2Proof.Machine.Kept

variable {s t : State}

/-! ## Pixel -/

theorem endTld {a1 a2} (h : Kept s t) : Kept s (State.endTld t a1 a2) := by
  unfold State.endTld; exact (.seq (.seq (.raiseG (.ite (.deferred .refl) .refl)) (.setF .refl)) (.setF (.setF (.upd h))))

theorem writeTldCtrl {a1 a2} (h : Kept s t) : Kept s (State.writeTldCtrl t a1 a2) := by
  unfold State.writeTldCtrl; exact (.seq (.seq (.ite .refl (.ite (.setW1c .refl) (.seq (.ite (.endTld .refl) (.ite (.endTld (.err .refl)) (.ite (.endTld .refl) (.setF (.upd .refl))))) (.ite (.putBit .refl) .refl)))) (.setF (.setF .refl))) (.setF (.setF h)))

theorem execTldDone {a0} (h : Kept s t) : KeptO s (Machine.execTldDone a0 t) := by
  unfold Machine.execTldDone; (try dsimp only); split; exacts [(.next h), (.iteO (.next (.endTld (.devWrite h))) (by (try dsimp only); split; exacts [(by rename_i h5; exact (.next (ofEq h5 (.devRead h)))), (by rename_i h6; exact (.iteO (.next (.endTld (ofEq h6 (.devRead h)))) (.next (.endTld (.putBit (.upd (ofEq h6 (.devRead h))))))))]))]

theorem checkPlanes {a1 a2} (h : Kept s t) : Kept s (State.checkPlanes t a1 a2) := by
  unfold State.checkPlanes; exact (.foldl (fun _ _ h5 => (.seq (.seq (.ite .refl (.raiseG .refl)) (.ite (.setF .refl) .refl)) (.ite (.putBit h5) h5))) h)

theorem noteSkips {a1 a2} (h : Kept s t) : Kept s (State.noteSkips t a1 a2) := by
  unfold State.noteSkips; exact (.ite h (by (try dsimp only); split; exacts [h, (.seq (.ite (.upd .refl) (.raiseG (.setGrp (.upd .refl)))) (.count h))]))

theorem markUnsent {a1 a2} (h : Kept s t) : Kept s (State.markUnsent t a1 a2) := by
  unfold State.markUnsent; exact (.upd h)

theorem histBlock {a1 a2 a3} (h : Kept s t) : Kept s (State.histBlock t a1 a2 a3) := by
  unfold State.histBlock; (try dsimp only); split; exacts [(.ite (.upd h) (.devWrite (.upd h))), h]

theorem histLine {a1 a2} (h : Kept s t) : Kept s (State.histLine t a1 a2) := by
  unfold State.histLine; exact (.ite (.foldl (fun _ _ h5 => (.histBlock h5)) h) h)

theorem histClear {a1} (h : Kept s t) : Kept s (State.histClear t a1) := by
  unfold State.histClear; exact (.upd (.setF h))

theorem histFrameEnd {a1} (h : Kept s t) : Kept s (State.histFrameEnd t a1) := by
  unfold State.histFrameEnd; exact (.upd (.ite (.setF h) h))

theorem pixTurn {a1} (h : Kept s t) : Kept s (State.pixTurn t a1) := by
  unfold State.pixTurn; exact (.upd h)

theorem decideBand {a1 a2 a3} (h : Kept s t) : Kept s (State.decideBand t a1 a2 a3) := by
  unfold State.decideBand; exact (.ite (.ite (.seq (.ite .refl (.raiseG .refl)) (.setF h)) h) (.seq (.ite .refl (.raiseG .refl)) (.setF (.setF h))))

theorem spanGate {a1 a2 a3} (h : Kept s t) : Kept s (State.spanGate t a1 a2 a3).2 := by
  unfold State.spanGate; exact (.snd (.hostGate (.readGate h)))

theorem spanDone {a1 a2 a3} (h : Kept s t) : Kept s (State.spanDone t a1 a2 a3) := by
  unfold State.spanDone; exact (.upd h)

theorem noteDrops {a1 a2} (h : Kept s t) : Kept s (State.noteDrops t a1 a2) := by
  unfold State.noteDrops; exact (.ite h (.seq (.ite .refl (.raiseG (.setGrp .refl))) (.count h)))

theorem notePlaneEcc {a1 a2 a3} (h : Kept s t) : Kept s (State.notePlaneEcc t a1 a2 a3) := by
  unfold State.notePlaneEcc; exact (.foldl (fun _ _ h5 => (.ite h5 (.raiseG (.upd h5)))) (.ite (.raiseG h) h))

theorem storeSpan {a1 a2 a3 a4} (h : Kept s t) : Kept s (State.storeSpan t a1 a2 a3 a4) := by
  unfold State.storeSpan; exact (.ite (.foldl (fun _ _ h5 => (.ite (.histBlock h5) h5)) (.upd h)) (.upd h))

theorem execPipeSpan {a0 a1 a2} (h : Kept s t) : KeptO s (Machine.execPipeSpan a0 a1 a2 t) := by
  unfold Machine.execPipeSpan; exact (.iteO (.next h) (by (try dsimp only); split; exacts [(.next (.spanGate h)), (.iteO (.next h) (.seqO (.next (.spanDone (.storeSpan (.notePlaneEcc (.ite (.noteSkips (.noteDrops .refl)) .refl))))) (.spanGate h)))]))

/-! ## Chains -/

theorem raiseLane {a1 a2 a3} (h : Kept s t) : Kept s (State.raiseLane t a1 a2 a3) := by
  unfold State.raiseLane; exact (.raise h)

theorem idleTo {a1 a2} (h : Kept s t) : Kept s (State.idleTo t a1 a2) := by
  unfold State.idleTo; exact (.ite h (.ite (.out (.setLn h)) (.out (.setLn h))))

theorem txRun {a1 a2 a3 a4} (h : Kept s t) : Kept s (Machine.txRun a1 a2 a3 a4 t) := by
  induction a2 generalizing t a3 a4 with
  | zero => exact h
  | succ n ih =>
    unfold Machine.txRun
    exact .ite h (.ite (ih (.out (.setLn h))) (ih (.out (.setLn h))))

theorem drive {a1 a2 a3} (h : Kept s t) : Kept s (State.drive t a1 a2 a3) := by
  unfold State.drive; exact (.ite (.txRun h) h)

theorem inject {a1 a2} (h : Kept s t) : Kept s (State.inject t a1 a2).2.2 := by
  unfold State.inject; exact (.ite22 (.snd2 h) (.seq (.ite22 (.snd2 .refl) (.snd2 (.draw (a1 := 16) .refl))) (.setLn h)))

theorem idleChain {a1 a2} (h : Kept s t) : Kept s (State.idleChain t a1 a2) := by
  unfold State.idleChain; exact (.foldl (fun _ _ h5 => (.idleTo h5)) h)

theorem sendCtl {a1 a2} (h : Kept s t) : Kept s (State.sendCtl t a1 a2) := by
  unfold State.sendCtl; exact (.foldl (fun _ _ h5 => (.drive h5)) h)

theorem sendPkt {a1 a2} (h : Kept s t) : Kept s (State.sendPkt t a1 a2) := by
  unfold State.sendPkt; exact (.foldl (fun _ _ h5 => (.drive (.inject (a2 := a2) h5))) h)

theorem setLnSt {a1 a2 a3} (h : Kept s t) : Kept s (State.setLnSt t a1 a2 a3) := by
  unfold State.setLnSt; exact (.ite h (.degraded (.raiseLane (.setF h))))

theorem cmdFailed {a1 a2 a3 a4} (h : Kept s t) : Kept s (State.cmdFailed t a1 a2 a3 a4) := by
  unfold State.cmdFailed; exact (.raiseLane (.count h))

theorem unstarve {a1} (h : Kept s t) : Kept s (State.unstarve t a1) := by
  unfold State.unstarve; exact (.setOn (.setLn h))

theorem enterEnum {a1 a2} (h : Kept s t) : Kept s (State.enterEnum t a1 a2) := by
  unfold State.enterEnum; exact (.setLnSt (.unstarve (.setLn (.foldl (fun _ _ h5 => (.seq (.ite .refl (.foldl (fun _ _ h6 => (.cmdFailed h6)) .refl)) (.keepPq h5))) h))))

theorem zeroSeqs {a1} (h : Kept s t) : Kept s (State.zeroSeqs t a1) := by
  unfold State.zeroSeqs; exact (.upd h)

theorem relock {a1} (h : Kept s t) : Kept s (State.relock t a1) := by
  unfold State.relock; exact (.ite (.setLnSt h) h)

theorem relockBundle {a1} (h : Kept s t) : Kept s (State.relockBundle t a1) := by
  unfold State.relockBundle; exact (.foldl (fun _ _ h5 => (.relock h5)) h)

theorem startSwitch {a1 a2} (h : Kept s t) : Kept s (State.startSwitch t a1 a2) := by
  unfold State.startSwitch; exact (.relockBundle (.setLn h))

theorem spareStandby {a1} (h : Kept s t) : Kept s (State.spareStandby t a1) := by
  unfold State.spareStandby; exact (.degraded (.setLn (.setF (.setF (.setF h)))))

theorem switchFail {a1} (h : Kept s t) : Kept s (State.switchFail t a1) := by
  unfold State.switchFail; exact (.fault (.raise (.setLnSt (.spareStandby h))))

theorem checkLock {a1} (h : Kept s t) : Kept s (State.checkLock t a1) := by
  unfold State.checkLock; exact (.setOn h)

theorem laneEn {a1 a2 a3} (h : Kept s t) : Kept s (State.laneEn t a1 a2 a3) := by
  unfold State.laneEn; exact (.seq (.ite .refl (.ite (.checkLock (.setLnSt (.setLn .refl))) (.checkLock (.setLnSt (.setLn (.setF (.setF (.setF (.idleTo .refl))))))))) (.ite (.relock h) h))

theorem laneTest {a1} (h : Kept s t) : Kept s (State.laneTest t a1) := by
  unfold State.laneTest; exact (.seq (.ite .refl (.ite (.setLnSt .refl) (.ite (.ite (.enterEnum .refl) (.setLnSt .refl)) .refl))) (.idleTo h))

theorem execBlockLockGained {a0} (h : Kept s t) : KeptO s (Machine.execBlockLockGained a0 t) := by
  unfold Machine.execBlockLockGained; exact (.iteO (.next h) (.seqO (.iteO (.next (.ite (.setLn .refl) .refl)) (.next (.ite (.enterEnum .refl) .refl))) (.setLn (.setF h))))

theorem execBlockLockLost {a0} (h : Kept s t) : KeptO s (Machine.execBlockLockLost a0 t) := by
  unfold Machine.execBlockLockLost; exact (.iteO (.next h) (.seqO (.seqO (.iteO (.next (.ite (.switchFail .refl) .refl)) (.iteO (.next (.setLnSt .refl)) (.next (.relock .refl)))) (.setLn .refl)) (.setF h)))

theorem execInvalidBlock {a0} (h : Kept s t) : KeptO s (Machine.execInvalidBlock a0 t) := by
  unfold Machine.execInvalidBlock; exact (.next (.ite (.count h) h))

theorem execEnumSend {a0} (h : Kept s t) : KeptO s (Machine.execEnumSend a0 t) := by
  unfold Machine.execEnumSend; exact (.next (.ite (.sendCtl (.idleTo h)) h))

theorem execEnumReturn {a0 a1 a2} (h : Kept s t) : KeptO s (Machine.execEnumReturn a0 a1 a2 t) := by
  unfold Machine.execEnumReturn; exact (.iteO (.next h) (.iteO (.next (.raiseLane (.setF (.setLn h)))) (.iteO (.next (.raiseLane (.setLnSt (.zeroSeqs (.setF (.setLn h)))))) (.next (.setLn h)))))

theorem spareAlign {a1} (h : Kept s t) : Kept s (State.spareAlign t a1) := by
  unfold State.spareAlign; exact (.ite (.setLnSt (.raise (.spareStandby h))) (.ite (.fault (.raise (.setLnSt (.setF (.setF (.setF (.setLn (.idleTo (.idleTo h))))))))) (.ite (.setLn h) h)))

theorem alignOn {a1 a2} (h : Kept s t) : Kept s (State.alignOn t a1 a2) := by
  unfold State.alignOn; exact (.ite h (.drive (.idleTo h)))

theorem execAlignSend {a0} (h : Kept s t) : KeptO s (Machine.execAlignSend a0 t) := by
  unfold Machine.execAlignSend; exact (.iteO (.next h) (.next (.upd (.alignOn (.foldl (fun _ _ h5 => (.alignOn h5)) (.spareAlign h))))))

theorem execAlignReturn {a0 a1 a2} (h : Kept s t) : KeptO s (Machine.execAlignReturn a0 a1 a2 t) := by
  unfold Machine.execAlignReturn; exact (.next (.ite (.setF h) h))

theorem execSpareAutoSwitch {a0} (h : Kept s t) : KeptO s (Machine.execSpareAutoSwitch a0 t) := by
  unfold Machine.execSpareAutoSwitch; exact (.next (.ite (.startSwitch h) h))

theorem execTxDriverFault {a0 a1} (h : Kept s t) : KeptO s (Machine.execTxDriverFault a0 a1 t) := by
  unfold Machine.execTxDriverFault; exact (.iteO (.next h) (.seqO (.next (.ite (.startSwitch .refl) .refl)) (.setOn h)))

theorem execSpareSwitchTimeout {a0} (h : Kept s t) : KeptO s (Machine.execSpareSwitchTimeout a0 t) := by
  unfold Machine.execSpareSwitchTimeout; exact (.next (.ite (.switchFail h) h))

theorem execFailedRetry {a0} (h : Kept s t) : KeptO s (Machine.execFailedRetry a0 t) := by
  unfold Machine.execFailedRetry; exact (.next (.ite (.enterEnum h) h))

theorem spareCmd {a1 a2 a3 a4} (h : Kept s t) : Kept s (State.spareCmd t a1 a2 a3 a4) := by
  unfold State.spareCmd; exact (.seq (.seq (.ite (.setLn .refl) .refl) (.ite (.startSwitch .refl) .refl)) (.relockBundle h))

theorem boundary {a1 a2} (h : Kept s t) : Kept s (State.boundary t a1 a2) := by
  unfold State.boundary; exact (.ite h (.seq (.ite (.ite (.enterEnum .refl) (.setLn .refl)) .refl) (.ite (.unstarve (.flushPq (.setLn h))) h)))

theorem lnkCmd {a1 a2} (h : Kept s t) : Kept s (State.lnkCmd t a1 a2) := by
  unfold State.lnkCmd; exact (.ite h (.foldl (fun _ _ h5 => (.boundary h5)) (.setLn h)))

theorem injectTest {a1} (h : Kept s t) : Kept s (State.injectTest t a1) := by
  unfold State.injectTest; exact (.ite h (.seq (.seq (.ite (.count .refl) .refl) (.setLn .refl)) (.idleTo h)))

theorem armInj {a1 a2} (h : Kept s t) : Kept s (State.armInj t a1 a2) := by
  unfold State.armInj; exact (.ite (.setLn h) (.ite (.injectTest (.setLn h)) h))

theorem execInjectRepeat {a0} (h : Kept s t) : KeptO s (Machine.execInjectRepeat a0 t) := by
  unfold Machine.execInjectRepeat; exact (.next (.ite (.injectTest (.setLn h)) h))

theorem txSleep {a1} (h : Kept s t) : Kept s (State.txSleep t a1) := by
  unfold State.txSleep; exact (.setLn (.setF (.foldl (fun _ _ h5 => (.drive h5)) (.idleTo h))))

theorem execTxSleep {a0} (h : Kept s t) : KeptO s (Machine.execTxSleep a0 t) := by
  unfold Machine.execTxSleep; (try dsimp only); split; exacts [(.next h), (.next (.ite (.txSleep h) h))]

theorem execTxWake {a0} (h : Kept s t) : KeptO s (Machine.execTxWake a0 t) := by
  unfold Machine.execTxWake; exact (.next (.ite (.setLn (.setF h)) h))

theorem execTxWakeDone {a0} (h : Kept s t) : KeptO s (Machine.execTxWakeDone a0 t) := by
  unfold Machine.execTxWakeDone; (try dsimp only); split; exacts [(.next (.ite (.setLn h) h)), (.next h)]

theorem rxSleep {a1} (h : Kept s t) : Kept s (State.rxSleep t a1) := by
  unfold State.rxSleep; exact (.setF (.setF h))

theorem execRxSleep {a0} (h : Kept s t) : KeptO s (Machine.execRxSleep a0 t) := by
  unfold Machine.execRxSleep; (try dsimp only); split; exacts [(.next h), (.next (.ite (.rxSleep h) h))]

theorem execRxWake {a0} (h : Kept s t) : KeptO s (Machine.execRxWake a0 t) := by
  unfold Machine.execRxWake; exact (.next (.ite (.setLn (.setF h)) h))

theorem copyTable {a1} (h : Kept s t) : Kept s (State.copyTable t a1) := by
  unfold State.copyTable; exact (.foldl (fun _ _ h5 => (.setF (.setF (.setF (.setF (.setF (.setF h5))))))) h)

theorem activate {a1} (h : Kept s t) : Kept s (State.activate t a1) := by
  unfold State.activate; exact (.setOn (.setLn (.foldl (fun _ _ h6 => (.raiseLane h6)) (.foldl (fun _ _ h5 => (.raiseLane h5)) (.setLn (.setF (.setF (.copyTable h))))))))

theorem tableEpoch {a1 a2 a3 a4 a5} (h : Kept s t) : Kept s (State.tableEpoch t a1 a2 a3 a4 a5) := by
  unfold State.tableEpoch; exact (.ite (.activate h) (.setF (.setLn h)))

theorem setNextSeq {a1 a2 a3 a4} (h : Kept s t) : Kept s (State.setNextSeq t a1 a2 a3 a4) := by
  unfold State.setNextSeq; exact (.upd h)

theorem setPkt {a1 a2 a3 a4} (h : Kept s t) : Kept s (State.setPkt t a1 a2 a3 a4) := by
  unfold State.setPkt; exact (.setPq h)

theorem dropPkt {a1 a2 a3} (h : Kept s t) : Kept s (State.dropPkt t a1 a2 a3) := by
  unfold State.dropPkt; exact (.unstarve (.keepPq h))

theorem attemptFail {a1 a2 a3 a4 a5} (h : Kept s t) : Kept s (State.attemptFail t a1 a2 a3 a4 a5) := by
  unfold State.attemptFail; (try dsimp only); split; exacts [h, (.boundary (.ite (.dropPkt h) (.ite (.cmdFailed (.dropPkt h)) (.setPkt h))))]

theorem partnerReset {a1 a2} (h : Kept s t) : Kept s (State.partnerReset t a1 a2) := by
  unfold State.partnerReset; exact (.unstarve (.queueReset (.flushPq (a1 := a1) (a2 := a2) h)))

theorem enqueue {a1 a2 a3} (h : Kept s t) : Kept s (State.enqueue t a1 a2 a3).2 := by
  unfold State.enqueue; exact (.ite2 (.snd h) (.snd (.takeCells (.setPq h))))

/-! ## Drive -/

theorem schedule {a1 a2 a3 a4} (h : Kept s t) : Kept s (State.schedule t a1 a2 a3 a4) := by
  unfold State.schedule; exact (.seq (.ite .refl (.setPin .refl)) (.ite (.count h) h))

theorem execGtoEdgePlace {a0} (h : Kept s t) : KeptO s (Machine.execGtoEdgePlace a0 t) := by
  unfold Machine.execGtoEdgePlace; (try dsimp only); split; exacts [(.next h), (.next (.setPin (.upd h)))]

theorem discardEdges {a1} (h : Kept s t) : Kept s (State.discardEdges t a1) := by
  unfold State.discardEdges; exact (.foldl (fun _ _ h5 => (.ite (.setPin h5) h5)) h)

theorem setRail {a1 a2} (h : Kept s t) : Kept s (State.setRail t a1 a2) := by
  unfold State.setRail; exact (.upd h)

theorem setPwr {a1 a2} (h : Kept s t) : Kept s (State.setPwr t a1 a2) := by
  unfold State.setPwr; exact (.upd h)

theorem railShow {a1} (h : Kept s t) : Kept s (State.railShow t a1) := by
  unfold State.railShow; exact (.setOn (.setOn h))

theorem railSeq {a1 a2} (h : Kept s t) : Kept s (State.railSeq t a1 a2) := by
  unfold State.railSeq; exact (.railShow (.setRail h))

theorem setRState {a1 a2 a3} (h : Kept s t) : Kept s (State.setRState t a1 a2 a3) := by
  unfold State.setRState; exact (.ite h (.raiseG (.setF h)))

theorem railUpFrom {a1 a2} (h : Kept s t) : Kept s (State.railUpFrom t a1 a2) := by
  unfold State.railUpFrom; (try dsimp only); split; exacts [(.setRState h), (.foldl (fun _ _ h5 => (.railSeq h5)) (.setPwr h))]

theorem railDownFrom {a1 a2} (h : Kept s t) : Kept s (State.railDownFrom t a1 a2) := by
  unfold State.railDownFrom; (try dsimp only); split; exacts [(.seq (.ite (.setRState .refl) .refl) (.setPwr h)), (.foldl (fun _ _ h5 => (.railSeq h5)) (.setPwr h))]

theorem railDown {a1} (h : Kept s t) : Kept s (State.railDown t a1) := by
  unfold State.railDown; exact (.seq (.railDownFrom (.ite .refl (.setRState .refl))) (.setPwr h))

theorem writePwr {a1 a2} (h : Kept s t) : Kept s (State.writePwr t a1 a2) := by
  unfold State.writePwr; exact (.seq (.ite (.ite (.railUpFrom (.setRState (.setPwr .refl))) (.setPwr .refl)) (.ite (.ite (.railDown .refl) (.setPwr .refl)) .refl)) (.setOn h))

theorem railFault {a1 a2} (h : Kept s t) : Kept s (State.railFault t a1 a2) := by
  unfold State.railFault; exact (.seq (.seq (.ite (.railDown .refl) (.setPwr .refl)) (.stopGroup (.fault .refl))) (.setRState h))

theorem railStopped {a1} (h : Kept s t) : Kept s (State.railStopped t a1) := by
  unfold State.railStopped; exact (.ite (.railDown h) h)

theorem execRailOnDelay {a0} (h : Kept s t) : KeptO s (Machine.execRailOnDelay a0 t) := by
  unfold Machine.execRailOnDelay; exact (.iteO (.next h) (.next (.railUpFrom h)))

theorem execRailOffDelay {a0} (h : Kept s t) : KeptO s (Machine.execRailOffDelay a0 t) := by
  unfold Machine.execRailOffDelay; exact (.iteO (.next h) (.next (.railDownFrom h)))

theorem execRailgoodEdge {a0 a1} (h : Kept s t) : KeptO s (Machine.execRailgoodEdge a0 a1 t) := by
  unfold Machine.execRailgoodEdge; exact (.iteO (.next h) (.seqO (.seqO (.iteO (.next (.railFault .refl)) (.next .refl)) (.setRail .refl)) (.setOn h)))

theorem execRailTimeout {a0} (h : Kept s t) : KeptO s (Machine.execRailTimeout a0 t) := by
  unfold Machine.execRailTimeout; exact (.iteO (.next h) (.next (.railFault h)))

theorem railForce {a1 a2} (h : Kept s t) : Kept s (State.railForce t a1 a2) := by
  unfold State.railForce; exact (.ite h (.railShow (.setRail h)))

theorem bookDcb {a1 a2 a3 a4 a5} (h : Kept s t) : Kept s (State.bookDcb t a1 a2 a3 a4 a5) := by
  unfold State.bookDcb; exact (.ite h (.foldl (fun _ _ h5 => (.upd h5)) h))

theorem setTemp {a1 a2 a3} (h : Kept s t) : Kept s (State.setTemp t a1 a2 a3) := by
  unfold State.setTemp; exact (.upd h)

theorem execPanelTempPoll {a0} (h : Kept s t) : KeptO s (Machine.execPanelTempPoll a0 t) := by
  unfold Machine.execPanelTempPoll; exact (.iteO (.next h) (.next (.out (.setTemp h))))

theorem tempValid {a1 a2} (h : Kept s t) : Kept s (State.tempValid t a1 a2) := by
  unfold State.tempValid; exact (.ite h (.raiseG (.setOn h)))

theorem execPanelTempReadDone {a0 a1 a2} (h : Kept s t) : KeptO s (Machine.execPanelTempReadDone a0 a1 a2 t) := by
  unfold Machine.execPanelTempReadDone; exact (.iteO (.next h) (.iteO (.next (.tempValid (.setF (.setTemp h)))) (.seqO (.next (.ite (.tempValid .refl) .refl)) (.setTemp h))))

theorem pfTrip {a1 a2} (h : Kept s t) : Kept s (State.pfTrip t a1 a2) := by
  unfold State.pfTrip; exact (.ite (.upd h) (.foldl (fun _ _ h5 => (.stopGroup h5)) (.nvTrip (.raise (.upd (.setF (.setW1c (.upd h))))))))

theorem clearTripped  (h : Kept s t) : Kept s (State.clearTripped t) := by
  unfold State.clearTripped; exact (.ite (.upd (.setF h)) h)

theorem bonChain {a1} (h : Kept s t) : Kept s (State.bonChain t a1) := by
  unfold State.bonChain; exact (.foldl (fun _ _ h5 => (.sendCtl (.sendPkt (.sendCtl (.draw (a1 := 8) h5))))) h)

theorem bonSend  (h : Kept s t) : Kept s (State.bonSend t) := by
  unfold State.bonSend; exact (.ite (.setF h) (.ite (.setF h) (.upd (.foldl (fun _ _ h5 => (.bonChain h5)) h))))

/-! ## Bistable -/

theorem setBis {a1 a2} (h : Kept s t) : Kept s (State.setBis t a1 a2) := by
  unfold State.setBis; exact (.upd (.setF (.setF h)))

theorem setBisReg {a1 a2 a3} (h : Kept s t) : Kept s (State.setBisReg t a1 a2 a3) := by
  unfold State.setBisReg; exact (.upd h)

theorem decideBis {a1 a2 a3} (h : Kept s t) : Kept s (State.decideBis t a1 a2 a3) := by
  unfold State.decideBis; exact (.ite (.ite (.seq (.ite .refl (.raiseG .refl)) (.setBis h)) h) (.seq (.ite .refl (.raiseG .refl)) (.setBis (.setF h))))

theorem journal {a1 a2 a3 a4 a5 a6} (h : Kept s t) : Kept s (State.journal t a1 a2 a3 a4 a5 a6).2 := by
  unfold State.journal; exact (.snd (.nvSubmit (.upd h)))

theorem bisAccepted {a1} (h : Kept s t) : Kept s (State.bisAccepted t a1) := by
  unfold State.bisAccepted; exact (.foldl (fun _ _ h5 => (.ite (.setBis h5) h5)) h)

theorem bisDone {a1 a2 a3 a4 a5 a6 a7} (h : Kept s t) : Kept s (State.bisDone t a1 a2 a3 a4 a5 a6 a7) := by
  unfold State.bisDone; exact (.raiseG h)

theorem bisSubmit {a1 a2} (h : Kept s t) : Kept s (State.bisSubmit t a1 a2).2 := by
  unfold State.bisSubmit; exact (.ite2 (.snd h) (.snd (.setBis h)))

theorem bisReq2 {a1 a2 a3} (h : Kept s t) : Kept s (State.bisReq2 t a1 a2 a3) := by
  unfold State.bisReq2; exact (.seq (.ite .refl (.setBisReg (.bisSubmit (a1 := a2) .refl))) (.setF (.setF h)))

theorem bisAuto {a1} (h : Kept s t) : Kept s (State.bisAuto t a1) := by
  unfold State.bisAuto; exact (.ite h (.bisSubmit h))

theorem execBisBlockFetchDone {a0 a1 a2 a3} (h : Kept s t) : KeptO s (Machine.execBisBlockFetchDone a0 a1 a2 a3 t) := by
  unfold Machine.execBisBlockFetchDone; exact (.iteO (.next h) (.iteO (.next (.setBis h)) (.next (.foldl (fun _ _ h6 => (.bisDone (.journal h6))) (.foldl (fun _ _ h5 => (.bisDone (.ite (.journal (a1 := a0) (a2 := Bool.false) (.ite2 (.snd h5) (.draw (a1 := 6) h5))) (.ite2 (.snd h5) (.draw (a1 := 6) h5))))) (.setBis h))))))

theorem bisJudge {a1 a2 a3 a4 a5} (h : Kept s t) : Kept s (State.bisJudge t a1 a2 a3 a4 a5).2 := by
  unfold State.bisJudge; exact (.ite2 (.snd h) (.ite2 (.snd (.setBis h)) (.ite2 (.snd h) (.snd (.journal (a1 := a1) (a2 := Bool.true) (a3 := a5) (a4 := (t.bis a1).band) (a5 := if a5.jband.isSome = Bool.true then a5.slot else (List.find? (fun i => !(t.bis a1).slots.contains i) (List.range 64)).getD 0) (a6 := (t.grp a1).frame + 1) h)))))

theorem bisJudgeAll {a1 a2 a3 a4 a5} (h : Kept s t) : Kept s (Machine.bisJudgeAll a1 a2 a3 a4 a5 t) := by
  induction a3 generalizing t a4 a5 with
  | nil => exact .setBis h
  | cons r rs ih => exact ih (.setBis (.bisJudge h))

theorem bisCutoff {a1 a2} (h : Kept s t) : Kept s (State.bisCutoff t a1 a2) := by
  unfold State.bisCutoff; exact (.ite h (.bisJudgeAll h))

theorem lvlTake {a1 a2} (h : Kept s t) : Kept s (State.lvlTake t a1 a2) := by
  unfold State.lvlTake; exact (.foldl (fun _ _ h5 => (.foldl (fun _ _ h6 => (.ite h6 (.devWrite h6))) h5)) h)

theorem bisEnd {a1 a2 a3} (h : Kept s t) : Kept s (State.bisEnd t a1 a2 a3).2 := by
  unfold State.bisEnd; exact (.ite2 (.snd h) (.seq (.seq (.ite2 (.snd (.journal .refl)) (.snd (.journal .refl))) (.bisDone .refl)) (.lvlTake h)))

theorem bisEndAll {a1 a2 a3 a4} (h : Kept s t) : Kept s (Machine.bisEndAll a1 a2 a3 a4 t) := by
  induction a3 generalizing t a4 with
  | nil => exact .setBis h
  | cons u us ih =>
    unfold Machine.bisEndAll
    dsimp only
    split
    · exact ih (.bisEnd h)
    · exact ih (.ite (.setBis (.bisEnd h)) (.bisEnd h))

theorem bisLine0 {a1 a2} (h : Kept s t) : Kept s (State.bisLine0 t a1 a2) := by
  unfold State.bisLine0; exact (.ite h (.seq (.seq (.seq (.seq (.ite .refl (.occurGroup .refl)) (.setBis .refl)) (.bisEndAll .refl)) (.setBis .refl)) (.setF h)))

theorem bisTarget {a1 a2 a3 a4} (h : Kept s t) : Kept s (State.bisTarget t a1 a2 a3 a4) := by
  unfold State.bisTarget; exact (.ite h (.foldl (fun _ _ h5 => (.ite h5 (.devWrite h5))) h))

theorem bisLine {a1 a2} (h : Kept s t) : Kept s (State.bisLine t a1 a2) := by
  unfold State.bisLine; exact (.foldl (fun _ _ h5 => (.bisTarget h5)) h)

theorem bisLate {a1} (h : Kept s t) : Kept s (State.bisLate t a1) := by
  unfold State.bisLate; exact (.ite h (.foldl (fun _ _ h5 => (.bisLine h5)) h))

theorem bisTrip  (h : Kept s t) : Kept s (State.bisTrip t) := by
  unfold State.bisTrip; exact (.foldl (fun _ _ h5 => (.ite h5 (.setBis h5))) h)

theorem execPfDischarge  (h : Kept s t) : KeptO s (Machine.execPfDischarge t) := by
  unfold Machine.execPfDischarge; (try dsimp only); split; exacts [(.next h), (.iteO (.next h) (.next (.nvDumpStart (.bisTrip (.upd h)))))]

theorem bisCode {a1 a2 a3 a4 a5} (h : Kept s t) : Kept s (State.bisCode t a1 a2 a3 a4 a5).2 := by
  unfold State.bisCode; (try dsimp only); split; exacts [(.snd h), (.snd h), (by (try dsimp only); split; exacts [(.snd h), (.ite2 (.snd (.setBis h)) (by (try dsimp only); split; exacts [(.snd h), (.draw (a1 := 2) h)]))])]

theorem bisStart {a1 a2} (h : Kept s t) : Kept s (State.bisStart t a1 a2) := by
  unfold State.bisStart; exact (.ite h (.seq (.seq (.ite (.foldl (fun _ _ h5 => (.setBis h5)) .refl) (.foldl (fun _ _ h6 => (.journal h6)) .refl)) (.setBis .refl)) (.decideBis h)))

theorem journalScan  (h : Kept s t) : Kept s (State.journalScan t) := by
  unfold State.journalScan; exact (.foldl (fun _ _ h5 => (.foldl (fun _ _ h6 => (.raiseG h6)) (.setF (.setBis h5)))) h)

/-! ## Events -/

theorem setRing {a1 a2} (h : Kept s t) : Kept s (State.setRing t a1 a2) := by
  unfold State.setRing; exact (.upd h)

theorem ringStatus {a1} (h : Kept s t) : Kept s (State.ringStatus t a1) := by
  unfold State.ringStatus; exact (.setF (.setOn h))

theorem runActs {k a1} (h : Kept s t) : Kept s (Machine.runActs k a1 t) := by
  induction a1 generalizing t with
  | nil => exact .setRing h
  | cons a as ih =>
    cases a with
    | msix f v => exact ih (.msix h)
    | host f a bs => exact ih (.out h)
    | fs a bs => exact .ite (ih (.fsWrite (.touchRange h))) (.setRing (.sendBi (.touchRange h)))

theorem ringDo {a1 a2} (h : Kept s t) : Kept s (State.ringDo t a1 a2) := by
  unfold State.ringDo; exact (.ite (.runActs h) (.setRing h))

theorem ringsResume  (h : Kept s t) : Kept s (State.ringsResume t) := by
  unfold State.ringsResume; exact (.foldl (fun _ _ h5 => (.runActs h5)) h)

theorem ringCount {a1 a2} (h : Kept s t) : Kept s (State.ringCount t a1 a2).1 := by
  unfold State.ringCount; exact (.fst (.setRing h))

theorem ringPut {a1 a2} (h : Kept s t) : Kept s (State.ringPut t a1 a2).1 := by
  unfold State.ringPut; exact (.fst (.ringCount (a1 := a1) (a2 := a2) (.setF h)))

theorem ringFill {a0 a1} (h : Kept s t) : Kept s (Machine.ringFill a0 a1 t).1 := by
  induction a1 generalizing t with
  | nil => exact .setRing h
  | cons a as ih =>
    unfold Machine.ringFill
    split
    · exact .setRing h
    · exact ih (.ringPut h)

theorem ringDrain {a1} (h : Kept s t) : Kept s (State.ringDrain t a1) := by
  unfold State.ringDrain; exact (.ringStatus (.ite (.ringFill (a0 := a1) (a1 := (t.ring a1).held) h) (.ringDo (.ringFill (a0 := a1) (a1 := (t.ring a1).held) h))))

theorem ringTake {a1 a2} (h : Kept s t) : Kept s (State.ringTake t a1 a2) := by
  unfold State.ringTake; exact (.ite (.ringDrain (.setRing h)) (.count (.setRing h)))

theorem ringOff {a1} (h : Kept s t) : Kept s (State.ringOff t a1) := by
  unfold State.ringOff; exact (.ringStatus (.setRing (.count (.setF h))))

theorem ringOn {a1} (h : Kept s t) : Kept s (State.ringOn t a1) := by
  unfold State.ringOn; exact (.ringDrain (.setF (.setF h)))

theorem release {a1} (h : Kept s t) : Kept s (State.release t a1) := by
  unfold State.release; exact (.seq (.ite (.ringTake .refl) .refl) (.nvLog h))

theorem execEventMergeArrival {a0} (h : Kept s t) : KeptO s (Machine.execEventMergeArrival a0 t) := by
  unfold Machine.execEventMergeArrival; (try dsimp only); split; exacts [(.next h), (.iteO (.next h) (.iteO (.next (.release (.upd h))) (.next (.upd (.upd h)))))]

theorem execEventRelease  (h : Kept s t) : KeptO s (Machine.execEventRelease t) := by
  unfold Machine.execEventRelease; (try dsimp only); split; exacts [(.next h), (.iteO (.next (.release (.upd h))) (.next h))]

theorem writeHead {a1 a2} (h : Kept s t) : Kept s (State.writeHead t a1 a2) := by
  unfold State.writeHead; exact (.ringDrain (.setF h))

theorem execMsixTimer {a0} (h : Kept s t) : KeptO s (Machine.execMsixTimer a0 t) := by
  unfold Machine.execMsixTimer; exact (.iteO (.next h) (.next (.ringDo (.setRing h))))

theorem execMsixUnmask {a0 a1} (h : Kept s t) : KeptO s (Machine.execMsixUnmask a0 a1 t) := by
  unfold Machine.execMsixUnmask; exact (.iteO (.next h) (.next (.ite (.msix (.upd h)) (.upd h))))

/-! ## Calib -/

theorem setCalRun {a1 a2} (h : Kept s t) : Kept s (State.setCalRun t a1 a2) := by
  unfold State.setCalRun; exact (.upd h)

theorem calStart {a1} (h : Kept s t) : Kept s (State.calStart t a1) := by
  unfold State.calStart; exact (.ite h (.setCalRun h))

theorem calItem {a1 a2} (h : Kept s t) : Kept s (State.calItem t a1 a2) := by
  unfold State.calItem; exact (.raise h)

theorem execCalPeriod {a0} (h : Kept s t) : KeptO s (Machine.execCalPeriod a0 t) := by
  unfold Machine.execCalPeriod; exact (.iteO (.next h) (.next (.foldl (fun _ _ h5 => (.calStart h5)) (.upd h))))

theorem setCalTrim {a1 a2} (h : Kept s t) : Kept s (State.setCalTrim t a1 a2) := by
  unfold State.setCalTrim; exact (.upd h)

theorem execCalApply {a0 a1 a2 a3} (h : Kept s t) : KeptO s (Machine.execCalApply a0 a1 a2 a3 t) := by
  unfold Machine.execCalApply; exact (.iteO (.next (.ite (.idleTo h) h)) (.iteO (.next (.ite (.setCalTrim (.ite (.idleTo h) h)) (.ite (.idleTo h) h))) (.iteO (.next (.calItem (.setCalRun (.ite (.idleTo h) h)))) (.iteO (.next (.ite (.idleTo h) h)) (.seqO (.seqO (.next (.ite (.calItem .refl) .refl)) (.setCalTrim (.setCalRun .refl))) (.setF (.setF (.count (by (try dsimp only); split; exacts [(.snd (.setF (.ite (.idleTo h) h))), (.snd (.setF (.setF (.ite (.idleTo h) h))))])))))))))

theorem execCalRunTimeout {a0} (h : Kept s t) : KeptO s (Machine.execCalRunTimeout a0 t) := by
  unfold Machine.execCalRunTimeout; (try dsimp only); split; exacts [(.next h), (.next (.ite (.calItem (.setCalRun h)) h))]

theorem calWrite {a1 a2} (h : Kept s t) : Kept s (State.calWrite t a1 a2) := by
  unfold State.calWrite; exact (.ite h (.setCalTrim (.setCalRun (by (try dsimp only); split; exacts [(.setF (.setF h)), (.setF h)]))))

theorem calNvDone {a1 a2} (h : Kept s t) : Kept s (State.calNvDone t a1 a2) := by
  unfold State.calNvDone; exact (.raise (.setF h))

theorem calSave  (h : Kept s t) : Kept s (State.calSave t) := by
  unfold State.calSave; exact (.ite (.calNvDone h) (.ite (.calNvDone h) (.nvSubmit (.upd (.setF h)))))

theorem calSaved  (h : Kept s t) : Kept s (State.calSaved t) := by
  unfold State.calSaved; exact (.calNvDone (.upd (.setF h)))

theorem calTake {a1} (h : Kept s t) : Kept s (State.calTake t a1) := by
  unfold State.calTake; exact (.upd (.foldl (fun _ _ h5 => (.calWrite h5)) h))

theorem calLoad  (h : Kept s t) : Kept s (State.calLoad t) := by
  unfold State.calLoad; exact (.ite (.calNvDone h) (.ite (.calNvDone h) (.ite (.calNvDone (.calTake h)) (.calNvDone h))))

theorem calCmd {a1} (h : Kept s t) : Kept s (State.calCmd t a1) := by
  unfold State.calCmd; exact (.seq (.seq (.seq (.ite (.calStart .refl) .refl) (.ite (.calLoad .refl) .refl)) (.ite (.calSave .refl) .refl)) (.setF h))

theorem execTempSensorUpdate {a0 a1} (h : Kept s t) : KeptO s (Machine.execTempSensorUpdate a0 a1 t) := by
  unfold Machine.execTempSensorUpdate; exact (.iteO (.next h) (.next (.setF (.setF (.ite2 (.draw (a1 := 16) h) (.snd h))))))

theorem execRailMonitorUpdate {a0 a1} (h : Kept s t) : KeptO s (Machine.execRailMonitorUpdate a0 a1 t) := by
  unfold Machine.execRailMonitorUpdate; exact (.iteO (.next h) (.next (.setF (.setF (.ite2 (.snd h) (.draw (a1 := 16) h))))))

theorem setFold {a1 a2} (h : Kept s t) : Kept s (State.setFold t a1 a2) := by
  unfold State.setFold; exact (.upd h)

theorem setAcc {a1 a2} (h : Kept s t) : Kept s (State.setAcc t a1 a2) := by
  unfold State.setAcc; exact (.upd h)

theorem freeAccs {a1} (h : Kept s t) : Kept s (State.freeAccs t a1) := by
  unfold State.freeAccs; exact (.setF (.foldl (fun _ _ h5 => (.setAcc h5)) h))

theorem foldEvent {a1 a2 a3 a4} (h : Kept s t) : Kept s (State.foldEvent t a1 a2 a3 a4) := by
  unfold State.foldEvent; exact (.raiseG h)

theorem foldAbandon {a1 a2} (h : Kept s t) : Kept s (State.foldAbandon t a1 a2) := by
  unfold State.foldAbandon; exact (.foldEvent (.setF (.setF (.setFold (.freeAccs h)))))

theorem foldWrite {a1 a2} (h : Kept s t) : Kept s (State.foldWrite t a1 a2) := by
  unfold State.foldWrite; exact (.ite h (.ite (.foldAbandon h) (.seq (.ite (.foldEvent .refl) (.foldEvent (.setFold (.setOn (.setF (.setF .refl)))))) (.setF h))))

theorem foldSample {a1 a2 a3 a4 a5 a6} (h : Kept s t) : Kept s (State.foldSample t a1 a2 a3 a4 a5 a6) := by
  unfold State.foldSample; exact (.ite h (.ite (.count h) (.seq (.setAcc (.ite2 (.draw (a1 := 16) .refl) (.snd .refl))) (.ite (.setF h) h))))

theorem foldTake {a1 a2 a3} (h : Kept s t) : Kept s (State.foldTake t a1 a2 a3) := by
  unfold State.foldTake; exact (.ite h (.ite (.upd h) (.ite h (.ite (.count h) (by (try dsimp only); split; exacts [(.count h), (.ite (.count h) (.foldl (fun _ _ h5 => (.foldSample h5)) h))])))))

theorem foldWriteWords {a1 a2 a3 a4} (h : Kept s t) : Kept s (Machine.foldWriteWords a1 a2 a3 a4 t) := by
  induction a4 generalizing t with
  | nil => exact h
  | cons w ws ih => exact .ite (ih (.calItem h)) (ih (.setFold (.devWrite h)))

theorem execFoldWritesDone {a0} (h : Kept s t) : KeptO s (Machine.execFoldWritesDone a0 t) := by
  unfold Machine.execFoldWritesDone
  refine .iteO (.next h) ?_
  dsimp only
  split
  · exact .next (.readGate h)
  · exact .next (.setF (.setFold (.foldWriteWords (.readGate h))))

theorem execFoldReplayDone {a0} (h : Kept s t) : KeptO s (Machine.execFoldReplayDone a0 t) := by
  unfold Machine.execFoldReplayDone; exact (.iteO (.next h) (.next (.setF (.setFold (.foldl (fun _ _ h5 => (.devWrite h5)) h)))))

theorem execFoldRetry {a0} (h : Kept s t) : KeptO s (Machine.execFoldRetry a0 t) := by
  unfold Machine.execFoldRetry; exact (.next (.ite (.setFold h) h))

theorem foldCutoff {a1} (h : Kept s t) : Kept s (State.foldCutoff t a1) := by
  unfold State.foldCutoff; exact (.ite (.setFold h) h)

theorem foldSwap {a1 a2 a3} (h : Kept s t) : Kept s (State.foldSwap t a1 a2 a3) := by
  unfold State.foldSwap; exact (.setFold (.setF (.setF (.setF (.count (.setF (.raiseG (.setOn (.setF h)))))))))

theorem foldClose {a1} (h : Kept s t) : Kept s (State.foldClose t a1) := by
  unfold State.foldClose; exact (.setFold (.setF (.freeAccs h)))

theorem foldLatch {a1 a2 a3 a4 a5} (h : Kept s t) : Kept s (State.foldLatch t a1 a2 a3 a4 a5) := by
  unfold State.foldLatch; exact (.ite h (by (try dsimp only); split; exacts [(.ite (.foldClose (.setFold h)) (.setFold h)), (.ite (.foldSwap (.setFold h)) (.setFold h)), (.setFold h)]))

/-! ## Nvs -/

theorem nvReject  (h : Kept s t) : Kept s (State.nvReject t) := by
  unfold State.nvReject; exact (.setW1c h)

theorem nvWindow {a1 a2} (h : Kept s t) : Kept s (State.nvWindow t a1 a2) := by
  unfold State.nvWindow; exact (.ite (.nvReject h) (.ite h (.ite (.nvReject h) (.nvAccept h))))

theorem recDone {a1 a2} (h : Kept s t) : Kept s (State.recDone t a1 a2) := by
  unfold State.recDone; exact (.seq (.raise (.ite2 (.snd .refl) (.draw (a1 := 32) .refl))) (.setF (.setF h)))

theorem recJob  (h : Kept s t) : Kept s (State.recJob t) := by
  unfold State.recJob; exact (.ite h (.ite (.recDone h) (.ite (.recDone h) (.ite (.recDone h) (.nvSubmit (.setF h))))))

theorem nvAccepted {a1} (h : Kept s t) : Kept s (State.nvAccepted t a1) := by
  unfold State.nvAccepted; (try dsimp only); split; exacts [(.recDone h), (.foldl (fun _ _ h5 => (by (try dsimp only); split; exacts [(.ite (.setEntry h5) h5), h5])) h), (.keyAccepted h), (.bisAccepted h), (.calSaved h), h]

theorem nvDrop {a1} (h : Kept s t) : Kept s (State.nvDrop t a1) := by
  unfold State.nvDrop; exact (.upd h)

theorem recordAccept  (h : Kept s t) : Kept s (State.recordAccept t) := by
  unfold State.recordAccept; exact (.ite h (by (try dsimp only); split; exacts [h, (.ite (.nvBusyUpd (.nvIncr (.nvDrop h))) (.ite (.ite (.nvBusyUpd (.recDone (.nvDrop h))) (by (try dsimp only); split; exacts [(by rename_i h5; exact (ofEq h5 (.devRead h))), (by rename_i h6; exact (.nvBusyUpd (.nvAccepted (.nvAccept (.nvDrop (ofEq h6 (.devRead h)))))))])) (.nvBusyUpd (.nvAccepted (.nvAccept (.nvDrop h))))))]))

theorem cntInc {a1} (h : Kept s t) : Kept s (State.cntInc t a1) := by
  unfold State.cntInc; exact (.ite (.nvReject h) (.nvIncr h))

theorem setSec {a1 a2} (h : Kept s t) : Kept s (State.setSec t a1 a2) := by
  unfold State.setSec; exact (.upd h)

theorem nvWear  (h : Kept s t) : Kept s (State.nvWear t) := by
  unfold State.nvWear; exact (.setF (.setF h))

theorem progCopy {a1 a2 u} (h : Kept s t) (e : t.progCopy a1 a2 = some u) : Kept s u := by
  unfold State.progCopy at e
  dsimp only at e
  split at e
  · split at e
    · cases e
    · cases e; exact .nvWear (.setSec (.upd h))
  · split at e
    · cases e; exact .setSec h
    · split at e
      · cases e
      · cases e; exact .nvWear (.setSec (.upd (.setSec h)))

theorem reaccept {a1 a2} (h : Kept s t) : Kept s (Machine.reaccept a1 a2 t) := by
  induction a2 generalizing t with
  | zero => exact h
  | succ n ih =>
    unfold Machine.reaccept
    split
    · exact h
    · exact .ite h (ih (.upd (.nvAccept h)))

theorem compactStep  (h : Kept s t) : Kept s (State.compactStep t) := by
  unfold State.compactStep; (try dsimp only); split; exacts [(by (try dsimp only); split; exacts [(.ite (.upd h) h), (.ite (.ite (.upd h) h) (.reaccept (.ite (.upd h) h)))]), (.ite (by (try dsimp only); split; exacts [(.ite (.upd h) h), (.ite (.ite (.upd h) h) (.reaccept (.ite (.upd h) h)))]) (.upd (.setSec (by (try dsimp only); split; exacts [(.ite (.upd h) h), (.ite (.ite (.upd h) h) (.reaccept (.ite (.upd h) h)))]))))]

theorem nvForced  (h : Kept s t) : Kept s (State.nvForced t) := by
  unfold State.nvForced; exact (.nvBusyUpd (.upd h))

theorem nvDurable {a1} (h : Kept s t) : Kept s (State.nvDurable t a1) := by
  unfold State.nvDurable; exact (.nvCfree (.setF (.upd h)))

theorem nvProgram {a1} (h : Kept s t) : Kept s (t.nvProgram a1) := by
  unfold State.nvProgram
  split
  · split
    · split
      · exact h
      · rename_i e; exact .nvDurable (.progCopy h e)
    · split
      · exact h
      · rename_i e; exact .upd (.progCopy h e)
  · exact .nvDurable (.upd h)
  · exact .nvDurable h

theorem execFlushProgramDone  (h : Kept s t) : KeptO s (Machine.execFlushProgramDone t) := by
  unfold Machine.execFlushProgramDone; (try dsimp only); split; exacts [(.next h), (.iteO (.next h) (.iteO (.next (.upd (.nvProgram h))) (.next (.nvForced (.compactStep (.nvProgram h))))))]

theorem nvFlush  (h : Kept s t) : Kept s (State.nvFlush t) := by
  unfold State.nvFlush; exact (.foldl (fun _ _ h5 => (by (try dsimp only); split; exacts [h5, (.nvProgram h5)])) h)

theorem execSectorEraseDone {a0} (h : Kept s t) : KeptO s (Machine.execSectorEraseDone a0 t) := by
  unfold Machine.execSectorEraseDone; exact (.iteO (.iteO (.next (.upd h)) (.next h)) (.iteO (.next h) (.next (.nvForced (.compactStep (.nvWear (.setSec h)))))))

theorem execDumpCopyDone  (h : Kept s t) : KeptO s (Machine.execDumpCopyDone t) := by
  unfold Machine.execDumpCopyDone; (try dsimp only); split; exacts [(.next (.upd h)), (.next (.upd h)), (.next (.upd h)), (.next h)]

theorem nvLose  (h : Kept s t) : Kept s (State.nvLose t) := by
  unfold State.nvLose; exact (.upd h)

theorem dropCopy {a1 a2} (h : Kept s t) : Kept s (State.dropCopy t a1 a2) := by
  unfold State.dropCopy; exact (.upd h)

theorem reCopy {a1 a2} (h : Kept s t) : Kept s (t.reCopy a1 a2) := by
  unfold State.reCopy
  cases e : (t.dropCopy a1.seq a2).progCopy (a2 + 1) a1 with
  | none => exact h
  | some u => exact .progCopy (.dropCopy h) e

theorem scanRec {a1 a2 a3} (h : Kept s t) : Kept s (State.scanRec t a1 a2 a3) := by
  unfold State.scanRec; exact (.ite (.ite (.raise (.upd (.reCopy h))) h) (.ite (.raise (.reCopy h)) (.seq (.ite (.fault (.raise .refl)) .refl) (.dropCopy (.dropCopy h)))))

theorem replayEnt {a1} (h : Kept s t) : Kept s (State.replayEnt t a1) := by
  unfold State.replayEnt; (try dsimp only); split; exacts [(.reCopy (.reCopy h)), (.upd h), (.upd h)]

theorem buildMirror  (h : Kept s t) : Kept s (State.buildMirror t) := by
  unfold State.buildMirror; exact (.upd h)

theorem nvComplete  (h : Kept s t) : Kept s (State.nvComplete t) := by
  unfold State.nvComplete; exact (.foldl (fun _ _ h5 => (.nvAccept h5)) (.upd h))

theorem nvScan {a1 a2 a3 a4} (h : Kept s t) : Kept s (State.nvScan t a1 a2 a3 a4) := by
  unfold State.nvScan; exact (.seq (.seq (.seq (.seq (.seq (.seq (.seq (.seq (.seq (.seq (.nvForced (.compactStep (.ite .refl (.nvIncr .refl)))) (.setOn (.setF .refl))) (.nvComplete .refl)) (.nvCfree (.nvWear (.setF .refl)))) (.setF (.setF .refl))) (.buildMirror (.upd .refl))) (.ite .refl (.fault (.raise .refl)))) (.ite (.upd .refl) .refl)) (.setF .refl)) (.foldl (fun _ _ h5 => (.replayEnt h5)) .refl)) (.foldl (fun _ _ h6 => (.scanRec h6)) h))

theorem xferEnd {a1 a2 a3 a4} (h : Kept s t) : Kept s (State.xferEnd t a1 a2 a3 a4) := by
  unfold State.xferEnd; exact (.raise (.setF (.setF (.ite (.deferred (.upd h)) (.upd h)))))

theorem xferGo {a1} (h : Kept s t) : Kept s (State.xferGo t a1) := by
  unfold State.xferGo; exact (.ite h (.ite (.nvReject h) (.ite (.xferEnd h) (.ite (.xferEnd h) (.ite (.xferEnd h) (.upd (.setF h)))))))

theorem xferNext {a1 a2} (h : Kept s t) : Kept s (State.xferNext t a1 a2) := by
  unfold State.xferNext; exact (.ite (.upd h) (.xferEnd h))

theorem execXferUnitDone {a0 a1} (h : Kept s t) : KeptO s (Machine.execXferUnitDone a0 a1 t) := by
  unfold Machine.execXferUnitDone; (try dsimp only); split; exacts [(.next h), (by (try dsimp only); split; exacts [(.next (.xferNext (.upd h))), (.iteO (.next (.xferEnd h)) (by (try dsimp only); split; exacts [(by rename_i h5; exact (.next (ofEq h5 (.devRead h)))), (by rename_i h6; exact (.iteO (.next (.xferEnd (.upd (ofEq h6 (.devRead h))))) (.next (.xferNext (.upd (ofEq h6 (.devRead h)))))))])), (.next (.xferNext (.devWrite h))), (.next (.xferNext (.devWrite h)))])]

/-! ## Queues -/

theorem doorbell {a1 a2} (h : Kept s t) : Kept s (State.doorbell t a1 a2) := by
  unfold State.doorbell; exact (.occur (.setF (.upd h)))

theorem cxlQReset {a1 a2 a3} (h : Kept s t) : Kept s (State.cxlQReset t a1 a2 a3) := by
  unfold State.cxlQReset; exact (.setQState (.setF (by (try dsimp only); split; exacts [(.ownerFail (.setStopReq h)), (.seq (.ite (.setCoreSt (.setCore .refl)) .refl) (.entryEnd (.setStopReq h)))])))

theorem queueCtrl {a1 a2 a3} (h : Kept s t) : Kept s (State.queueCtrl t a1 a2 a3) := by
  unfold State.queueCtrl; exact (.seq (.ite (.seq (.ite (.setQState .refl) .refl) (.setStopReq (.setF .refl))) (.ite (.setStopReq (.setF .refl)) (.setQState (.setF .refl)))) (.ite (.cxlQReset h) h))

theorem putWords {a1 a2 a3} (h : Kept s t) : Kept s (Machine.putWords a1 a2 a3 t) := by
  induction a3 generalizing t a2 with
  | nil => exact h
  | cons w ws ih => exact ih (.setImem h)

theorem entryStart {a1 a2} (h : Kept s t) : Kept s (State.entryStart t a1 a2) := by
  unfold State.entryStart; exact (.wakeBanks (.setCoreSt (.setEntry (.setF (.setCore (.ite (.putWords h) h))))))

theorem entryGo {a1 a2} (h : Kept s t) : Kept s (State.entryGo t a1 a2) := by
  unfold State.entryGo; exact (.ite (.entryEnd h) (.ite (.ite (.entryEnd h) (.ite (.entryEnd h) (.ite (.entryEnd h) (.entryStart h)))) (.entryStart h)))

theorem autoStart  (h : Kept s t) : Kept s (State.autoStart t) := by
  unfold State.autoStart; exact (.ite h (.ite (.entryStart (.upd h)) (.upd h)))

theorem execEntryTake {a0} (h : Kept s t) : KeptO s (Machine.execEntryTake a0 t) := by
  unfold Machine.execEntryTake; exact (.iteO (.next h) (.iteO (.next (.autoStart h)) (by (try dsimp only); split; exacts [(by rename_i h5; exact (.next h)), (by rename_i h6; exact (.seqO (.next (.ite (.out .refl) .refl)) (.setEntry (ofEq h6 (.arbRound h)))))])))

theorem execEntryFetchDone {a0 a1} (h : Kept s t) : KeptO s (Machine.execEntryFetchDone a0 a1 t) := by
  unfold Machine.execEntryFetchDone; (try dsimp only); split; exacts [(.next h), (.iteO (.next h) (.iteO (.next h) (.iteO (.next (.readGate (a1 := Bool.false) h)) (by (try dsimp only); split; exacts [(.next (.entryEnd (.readGate (a1 := Bool.false) h))), (.seqO (.iteO (.next (.entryEnd .refl)) (.iteO (.next (.upd (.setEntry .refl))) (.next (.entryGo .refl)))) (.setEntry (.readGate (a1 := Bool.false) h)))]))))]

theorem execTrailerCheckDone  (h : Kept s t) : KeptO s (Machine.execTrailerCheckDone t) := by
  unfold Machine.execTrailerCheckDone; (try dsimp only); split; exacts [(.next h), (by (try dsimp only); split; exacts [(.next (.upd h)), (.iteO (.next (.entryEnd (.raise (.upd h)))) (.next (.nvSubmit (.setLastCtr (.setEntry (.upd h))))))])]

theorem execEntryRelease {a0} (h : Kept s t) : KeptO s (Machine.execEntryRelease a0 t) := by
  unfold Machine.execEntryRelease; (try dsimp only); split; exacts [(.next h), (.iteO (.next (.entryGo h)) (.next h))]

theorem execCommitResultReport  (h : Kept s t) : KeptO s (Machine.execCommitResultReport t) := by
  unfold Machine.execCommitResultReport; (try dsimp only); split; exacts [(.next h), (.next (.takeReport (.upd h)))]

theorem mpResult {a1 a2} (h : Kept s t) : Kept s (State.mpResult t a1 a2) := by
  unfold State.mpResult; exact (.setF (.setOn h))

theorem mpOp {a1} (h : Kept s t) : Kept s (State.mpOp t a1) := by
  unfold State.mpOp; (try dsimp only); split; exacts [(.mpResult (.txnBegin (a1 := 512) (.setF (.setF h)))), (by (try dsimp only); split; exacts [(by rename_i h5; exact (.mpResult (ofEq h5 (.txnCommit (.setF (.setF h)))))), (by rename_i h6; exact (.mpResult (.upd (ofEq h6 (.txnCommit (.setF (.setF h)))))))]), (.mpResult (.txnAbort (.setF (.setF h)))), (.mpResult (.lockTake (a1 := 512) (a2 := a1 % 2 ^ 10) (.setF (.setF h)))), (.mpResult (.lockFree (a1 := 512) (a2 := a1 % 2 ^ 10) (.setF (.setF h)))), (.setF (.setF h))]

theorem execMpTargetReset  (h : Kept s t) : KeptO s (Machine.execMpTargetReset t) := by
  unfold Machine.execMpTargetReset; exact (.next (.ownerFail h))

theorem lockBreak {a1} (h : Kept s t) : Kept s (State.lockBreak t a1) := by
  unfold State.lockBreak; exact (.ite h (.lockFail (.ite h (by (try dsimp only); split; exacts [h, (.ite (.doomTxn h) h)]))))

/-! ## HostIf -/

theorem hostState {a1} (h : Kept s t) : Kept s (State.hostState t a1) := by
  unfold State.hostState; exact (.raise h)

theorem setSf {a1} (h : Kept s t) : Kept s (State.setSf t a1) := by
  unfold State.setSf; exact (.setF (.upd h))

theorem storeGoes  (h : Kept s t) : Kept s (State.storeGoes t) := by
  unfold State.storeGoes; exact (.secResume (.ringsResume (.runJobs (.drainWrites h))))

theorem lineFreed {a1} (h : Kept s t) : Kept s (State.lineFreed t a1) := by
  unfold State.lineFreed; exact (.storeGoes (.setSf (.upd h)))

theorem dropSf  (h : Kept s t) : Kept s (State.dropSf t) := by
  unfold State.dropSf; exact (.storeGoes (.setSf (.upd h)))

theorem cacheQueues {a1} (h : Kept s t) : Kept s (State.cacheQueues t a1) := by
  unfold State.cacheQueues; exact (.foldl (fun _ _ h5 => (.ite (.setQState h5) (.ite (.setQState h5) h5))) h)

theorem cacheLost {a1} (h : Kept s t) : Kept s (State.cacheLost t a1) := by
  unfold State.cacheLost; exact (.ite (.upd h) (.seq (.ite .refl (.sleepNow .refl)) (.cacheQueues (.count (.setF (.upd h))))))

theorem execCxlCacheAvailable  (h : Kept s t) : KeptO s (Machine.execCxlCacheAvailable t) := by
  unfold Machine.execCxlCacheAvailable; exact (.iteO (.next h) (.next (.hostState (.cacheQueues (.setF (.upd h))))))

theorem execCxlCacheUnavailable  (h : Kept s t) : KeptO s (Machine.execCxlCacheUnavailable t) := by
  unfold Machine.execCxlCacheUnavailable; exact (.iteO (.next h) (.next (.hostState (.cacheLost h))))

theorem hostRingsOff {a1} (h : Kept s t) : Kept s (State.hostRingsOff t a1) := by
  unfold State.hostRingsOff; exact (.foldl (fun _ _ h5 => (.ite (.ringOff h5) h5)) h)

theorem msixReset {a1} (h : Kept s t) : Kept s (State.msixReset t a1) := by
  unfold State.msixReset; exact (.upd h)

theorem memStat  (h : Kept s t) : Kept s (State.memStat t) := by
  unfold State.memStat; exact (.setOn h)

theorem linkDown  (h : Kept s t) : Kept s (State.linkDown t) := by
  unfold State.linkDown; exact (.setF (.setF (.setF (.setF (.setF (.setF (.setF (.setF h))))))))

theorem hostReset {a1 a2 a3} (h : Kept s t) : Kept s (State.hostReset t a1 a2 a3) := by
  unfold State.hostReset; exact (.fault (.hostState (.memStat (.linkDown (.msixReset (.msixReset (.upd (.dropSf (.hostRingsOff (.cacheQueues (.cacheLost (.foldl (fun _ _ h5 => (.ite (.cxlQReset h5) h5)) (.sleepNow h)))))))))))))

theorem execHostHotReset  (h : Kept s t) : KeptO s (Machine.execHostHotReset t) := by
  unfold Machine.execHostHotReset; exact (.iteO (.next h) (.next (.hostReset (.count h))))

theorem execPerstAssert  (h : Kept s t) : KeptO s (Machine.execPerstAssert t) := by
  unfold Machine.execPerstAssert; exact (.iteO (.next (.upd h)) (.next (.hostReset (.count (.upd h)))))

theorem execPerstDeassert  (h : Kept s t) : KeptO s (Machine.execPerstDeassert t) := by
  unfold Machine.execPerstDeassert; exact (.next (.upd h))

theorem execLinkLoss  (h : Kept s t) : KeptO s (Machine.execLinkLoss t) := by
  unfold Machine.execLinkLoss; exact (.iteO (.next h) (.next (.hostReset (.count h))))

theorem execLinkUp {a0 a1 a2 a3} (h : Kept s t) : KeptO s (Machine.execLinkUp a0 a1 a2 a3 t) := by
  unfold Machine.execLinkUp; exact (.iteO (.next h) (.next (.hostState (.setF (.setF (.setOn (.setOn (.setF (.upd h)))))))))

theorem execFlr {a0} (h : Kept s t) : KeptO s (Machine.execFlr a0 t) := by
  unfold Machine.execFlr; exact (.iteO (.next h) (.seqO (.next (.hostState (.ite (.upd .refl) (.upd .refl)))) (.hostRingsOff (.msixReset (.count h)))))

theorem execCxlReset  (h : Kept s t) : KeptO s (Machine.execCxlReset t) := by
  unfold Machine.execCxlReset; exact (.next (.hostState (.memStat (.upd (.dropSf (.cacheLost (.count h)))))))

theorem execL1Entry  (h : Kept s t) : KeptO s (Machine.execL1Entry t) := by
  unfold Machine.execL1Entry; exact (.iteO (.next (.setF h)) (.next h))

theorem execL1Exit  (h : Kept s t) : KeptO s (Machine.execL1Exit t) := by
  unfold Machine.execL1Exit; exact (.next (.setF h))

theorem execD3hot {a0 a1} (h : Kept s t) : KeptO s (Machine.execD3hot a0 a1 t) := by
  unfold Machine.execD3hot; (try dsimp only); split; exacts [(.next (.upd h)), (.next (.upd h)), (.next h)]

theorem execIdeKm {a0 a1 a2} (h : Kept s t) : KeptO s (Machine.execIdeKm a0 a1 a2 t) := by
  unfold Machine.execIdeKm; exact (.iteO (.next h) (.next (.setOn (.upd h))))

theorem execHdmCommit {a0 a1 a2} (h : Kept s t) : KeptO s (Machine.execHdmCommit a0 a1 a2 t) := by
  unfold Machine.execHdmCommit; exact (.next (.out (.memStat (.upd h))))

theorem hostRead {a1} (h : Kept s t) : Kept s (State.hostRead t a1) := by
  unfold State.hostRead; exact (.out h)

theorem partWrite {a1 a2 a3 a4} (h : Kept s t) : Kept s (Machine.partWrite a1 a2 a3 a4 t) := by
  induction a3 generalizing t a2 with
  | nil => exact h
  | cons b bs ih =>
    refine ih ?_
    split
    · refine ⟨h.pending, h.regs, fun w => ?_⟩
      have hm := h.mem w
      simp only [Memory.wf, Bool.and_eq_true] at hm ⊢
      exact ⟨smWf_smSet hm.1, hm.2⟩
    · exact h

theorem memServe {a1} (h : Kept s t) : Kept s (State.memServe t a1) := by
  unfold State.memServe; (try dsimp only); split; exacts [(.ite (.hostRead h) (.ite (.setSf (.hostRead h)) (.sendBi (.upd h)))), (.seq (.out (.ite (.setSf .refl) .refl)) (.ite (.fsWrite h) (.noteWrite (.partWrite h))))]

theorem memRequest {a1} (h : Kept s t) : Kept s (State.memRequest t a1) := by
  unfold State.memRequest; exact (.seq (.ite (.memServe .refl) (.upd .refl)) (.touchStack h))

theorem execCxlmemRead {a0 a1} (h : Kept s t) : KeptO s (Machine.execCxlmemRead a0 a1 t) := by
  unfold Machine.execCxlmemRead; (try dsimp only); split; exacts [(.next h), (.next (.memRequest h))]

theorem execCxlmemWrite {a0 a1 a2 a3} (h : Kept s t) : KeptO s (Machine.execCxlmemWrite a0 a1 a2 a3 t) := by
  unfold Machine.execCxlmemWrite; (try dsimp only); split; exacts [(.next h), (.next (.memRequest h))]

theorem stackServes  (h : Kept s t) : Kept s (State.stackServes t) := by
  unfold State.stackServes; exact (.storeGoes (.foldl (fun _ _ h5 => (.memServe h5)) (.upd h)))

theorem execStackExitDone {a0} (h : Kept s t) : KeptO s (Machine.execStackExitDone a0 t) := by
  unfold Machine.execStackExitDone; (try dsimp only); split; exacts [(.next h), (.iteO (.next (.stackServes (.upd h))) (.next h))]

theorem execStackIdle {a0} (h : Kept s t) : KeptO s (Machine.execStackIdle a0 t) := by
  unfold Machine.execStackIdle; exact (.iteO (.next h) (.iteO (.next (.setF h)) (.iteO (.next (.setF h)) (.next h))))

theorem execBiResponse {a0} (h : Kept s t) : KeptO s (Machine.execBiResponse a0 t) := by
  unfold Machine.execBiResponse; exact (.iteO (.next h) (by (try dsimp only); split; exacts [(.next (.lineFreed h)), (.iteO (.next (.setSf (.hostRead (.upd (.lineFreed h))))) (.next (.lineFreed h)))]))

theorem execBiTimeout {a0} (h : Kept s t) : KeptO s (Machine.execBiTimeout a0 t) := by
  unfold Machine.execBiTimeout; exact (.iteO (.next (.count (.upd h))) (.next h))

theorem hostCame {a1 a2} (h : Kept s t) : Kept s (State.hostCame t a1 a2) := by
  unfold State.hostCame; exact (.upd h)

theorem execCacheReadDone {a0 a1 a2 a3} (h : Kept s t) : KeptO s (Machine.execCacheReadDone a0 a1 a2 a3 t) := by
  unfold Machine.execCacheReadDone; exact (.iteO (.next h) (by (try dsimp only); split; exacts [(.next (.hostCame h)), (.iteO (.next (.hostCame h)) (.next (.captureBytes (.hostCame h))))]))

theorem execCacheReadTimeout {a0} (h : Kept s t) : KeptO s (Machine.execCacheReadTimeout a0 t) := by
  unfold Machine.execCacheReadTimeout; (try dsimp only); split; exacts [(.next h), (.next (.ite (.hostCame h) h))]

theorem execH2dSnoop {a0} (h : Kept s t) : KeptO s (Machine.execH2dSnoop a0 t) := by
  unfold Machine.execH2dSnoop; exact (.next (.out h))

theorem execCdatRead  (h : Kept s t) : KeptO s (Machine.execCdatRead t) := by
  unfold Machine.execCdatRead; exact (.next (.out h))

theorem execIdentifyMemoryDevice  (h : Kept s t) : KeptO s (Machine.execIdentifyMemoryDevice t) := by
  unfold Machine.execIdentifyMemoryDevice; exact (.next (.out h))

theorem execGetSupportedLogs  (h : Kept s t) : KeptO s (Machine.execGetSupportedLogs t) := by
  unfold Machine.execGetSupportedLogs; exact (.next (.out h))

theorem execGetLog {a0 a1} (h : Kept s t) : KeptO s (Machine.execGetLog a0 a1 t) := by
  unfold Machine.execGetLog; exact (.iteO (.next (.out h)) (.next (.out (.drawBytes (a1 := a1) h))))

theorem execGetEventRecords {a0} (h : Kept s t) : KeptO s (Machine.execGetEventRecords a0 t) := by
  unfold Machine.execGetEventRecords; exact (.next (.out h))

theorem execClearEventRecords {a0 a1} (h : Kept s t) : KeptO s (Machine.execClearEventRecords a0 a1 t) := by
  unfold Machine.execClearEventRecords; exact (.next (.out (.upd h)))

theorem execGetEventInterruptPolicy  (h : Kept s t) : KeptO s (Machine.execGetEventInterruptPolicy t) := by
  unfold Machine.execGetEventInterruptPolicy; exact (.next (.out h))

theorem execSetEventInterruptPolicy {a0} (h : Kept s t) : KeptO s (Machine.execSetEventInterruptPolicy a0 t) := by
  unfold Machine.execSetEventInterruptPolicy; exact (.next (.out (.upd h)))

theorem execGetHealthInfo  (h : Kept s t) : KeptO s (Machine.execGetHealthInfo t) := by
  unfold Machine.execGetHealthInfo; (try dsimp only); split; exacts [(.next (.out (.drawBytes (a1 := 2) h))), (.next (.out h))]

theorem execGetPoisonList  (h : Kept s t) : KeptO s (Machine.execGetPoisonList t) := by
  unfold Machine.execGetPoisonList; exact (.next (.out h))

theorem execMailboxUnsupported {a0} (h : Kept s t) : KeptO s (Machine.execMailboxUnsupported a0 t) := by
  unfold Machine.execMailboxUnsupported; exact (.next (.out h))

/-! ## Upstream -/

theorem putUq {a1 a2} (h : Kept s t) : Kept s (State.putUq t a1 a2) := by
  unfold State.putUq; exact (.setF (.setUq h))

theorem uqReset {a1} (h : Kept s t) : Kept s (State.uqReset t a1) := by
  unfold State.uqReset; exact (.queueReset (.freeCells (.putUq h)))

theorem upstreamPush {a1 a2 a3} (h : Kept s t) : Kept s (State.upstreamPush t a1 a2 a3).2 := by
  unfold State.upstreamPush; exact (.seq (.ite2 (.snd (.raise (.setW1c .refl))) (.snd (.takeCells (.putUq .refl)))) (.ite (.uqReset h) h))

theorem upqData {a1} (h : Kept s t) : Kept s (State.upqData t a1).2 := by
  unfold State.upqData; (try dsimp only); split; exacts [(.snd (.setUq h)), (.snd (.setW1c h))]

theorem upqPop {a1 a2} (h : Kept s t) : Kept s (State.upqPop t a1 a2) := by
  unfold State.upqPop; exact (.ite (.uqReset h) (by (try dsimp only); split; exacts [h, (.freeCells (.putUq h))]))

theorem answered {a1 a2 a3} (h : Kept s t) : Kept s (State.answered t a1 a2 a3) := by
  unfold State.answered; (try dsimp only); split; exacts [(.dropPkt h), h]

theorem execAckReceive {a0 a1 a2} (h : Kept s t) : KeptO s (Machine.execAckReceive a0 a1 a2 t) := by
  unfold Machine.execAckReceive; exact (.iteO (.next (.answered h)) (.next h))

theorem execNakReceive {a0 a1 a2 a3 a4} (h : Kept s t) : KeptO s (Machine.execNakReceive a0 a1 a2 a3 a4 t) := by
  unfold Machine.execNakReceive; exact (.iteO (.next h) (.iteO (by (try dsimp only); split; exacts [(.next (.count h)), (.iteO (.next (.count h)) (.next (.raiseLane (.setLn (.count h)))))]) (by (try dsimp only); split; exacts [(.next h), (by (try dsimp only); split; exacts [(.next h), (.iteO (.next (.attemptFail (.setNextSeq h))) (.iteO (.next (.attemptFail h)) (.next h)))])])))

theorem senseOccurs {a1} (h : Kept s t) : Kept s (State.senseOccurs t a1) := by
  unfold State.senseOccurs; (try dsimp only); split; exacts [(.occurGroup h), h]

theorem execRdrReceive {a0 a1 a2 a3 a4} (h : Kept s t) : KeptO s (Machine.execRdrReceive a0 a1 a2 a3 a4 t) := by
  unfold Machine.execRdrReceive; exact (.iteO (.next h) (by (try dsimp only); split; exacts [(.next (.answered (.senseOccurs h))), (.next (.ite (.answered (.upstreamPush (a2 := { typ := 4, pid := a1, seq := a2, words := List.take 64 a3 }) (a3 := a4) (.senseOccurs h))) (.upstreamPush (a2 := { typ := 4, pid := a1, seq := a2, words := List.take 64 a3 }) (a3 := a4) (.senseOccurs h))))]))

theorem execSnsReceive {a0 a1 a2 a3 a4} (h : Kept s t) : KeptO s (Machine.execSnsReceive a0 a1 a2 a3 a4 t) := by
  unfold Machine.execSnsReceive; exact (.iteO (.next h) (by (try dsimp only); split; exacts [(.next (.answered (.senseOccurs h))), (.seqO (.next (.ite (.foldTake .refl) .refl)) (.ite (.upstreamPush (.answered (.senseOccurs h))) (.answered (.senseOccurs h))))]))

theorem execRetryTimeout {a0 a1 a2} (h : Kept s t) : KeptO s (Machine.execRetryTimeout a0 a1 a2 t) := by
  unfold Machine.execRetryTimeout; exact (.iteO (.next h) (by (try dsimp only); split; exacts [(.next (.attemptFail h)), (.next h)]))

theorem execUnclaimedPacket {a0 a1} (h : Kept s t) : KeptO s (Machine.execUnclaimedPacket a0 a1 t) := by
  unfold Machine.execUnclaimedPacket; exact (.next (.ite (.count h) h))

theorem execUpstreamBadCrc {a0} (h : Kept s t) : KeptO s (Machine.execUpstreamBadCrc a0 t) := by
  unfold Machine.execUpstreamBadCrc; exact (.next (.ite (.count h) h))

/-! ## Images -/

theorem measImages {a1} (h : Kept s t) : Kept s (State.measImages t a1) := by
  unfold State.measImages; exact (.measure (by (try dsimp only); split; exacts [(.measure h), (.measure h)]))

theorem measCps  (h : Kept s t) : Kept s (State.measCps t) := by
  unfold State.measCps; exact (.measure h)

theorem loadMem {a1 a2 a3} (h : Kept s t) : Kept s (State.loadMem t a1 a2 a3) := by
  unfold State.loadMem; exact (.upd h)

theorem loadCp {a1 a2} (h : Kept s t) : Kept s (State.loadCp t a1 a2) := by
  unfold State.loadCp; exact (.loadMem h)

theorem loadSeq {a1 a2 a3} (h : Kept s t) : Kept s (State.loadSeq t a1 a2 a3) := by
  unfold State.loadSeq; exact (.setF (.setF (.setF (.setF (.setF (.setF (.setF (.setF (.loadMem h)))))))))

theorem loadWord {a1 a2} (h : Kept s t) : Kept s (State.loadWord t a1 a2) := by
  unfold State.loadWord; exact (.ite (.upd h) (by (try dsimp only); split; exacts [h, (.foldl (fun _ _ h5 => (.ite (.setF h5) h5)) h)]))

theorem actEnd {a1 a2} (h : Kept s t) : Kept s (State.actEnd t a1 a2) := by
  unfold State.actEnd; exact (.raise (.setF (.setF (.setF (.upd h)))))

theorem actDone  (h : Kept s t) : Kept s (State.actDone t) := by
  unfold State.actDone; (try dsimp only); split; exacts [h, (.ite (.actEnd (.measImages (.setF (.setF (.setF h))))) h)]

end Sys2Proof.Machine.Kept
end

