-- ==== Sys2Proof/Laws/KeptRest.lean ====
section
/-!
SUPPORT. That operations of the block keep the queue and the canonical forms, one lemma for each: Link, Commits, Genlock, Tolerance, Raster, Mem, Boot, Bus, RegRows, Copy, Slots, Operands, Flags, ThoeneAlu, ThoeneFlow, ThoeneMem, ThoeneWait, ThoeneEmit, ThoeneTxn, Tick.
-/
set_option Elab.async false
set_option linter.all false

namespace Sys2Proof.Machine.Kept

variable {s t : State}

/-! ## Link -/

theorem setLane {a1 a2 a3} (h : Kept s t) : Kept s (State.setLane t a1 a2 a3) := by
  unfold State.setLane; exact (.upd h)

theorem setMoved {a1 a2} (h : Kept s t) : Kept s (State.setMoved t a1 a2) := by
  unfold State.setMoved; exact (.upd h)

theorem markCtrl {a1} (h : Kept s t) : Kept s (State.markCtrl t a1) := by
  unfold State.markCtrl; exact (.foldl (fun _ _ h5 => (.setOn h5)) h)

theorem setOwn {a1 a2} (h : Kept s t) : Kept s (State.setOwn t a1 a2) := by
  unfold State.setOwn; exact (.upd h)

theorem execFlitReceive {a0 a1 a2} (h : Kept s t) : KeptO s (Machine.execFlitReceive a0 a1 a2 t) := by
  unfold Machine.execFlitReceive; exact (.iteO (.next h) (.iteO (.next (.ite h (.setLane h))) (by (try dsimp only); split; exacts [(.next (.setLane (.setLane h))), (.next (.fault (.setLane (.setLane h)))), (.next (.setLane (.setLane h)))])))

theorem linkGrant {a1 a2 a3} (h : Kept s t) : Kept s (State.linkGrant t a1 a2 a3).2 := by
  unfold State.linkGrant; (try dsimp only); split; exacts [(.ite2 (.snd h) (.classRound h)), (.classRound h)]

theorem flitTaken {a1 a2 a3} (h : Kept s t) : Kept s (State.flitTaken t a1 a2 a3) := by
  unfold State.flitTaken; (try dsimp only); split; exacts [(.count (.setMoved h)), (.seq (.ite (.upd .refl) .refl) (.setOwn h)), h]

theorem sendFlit {a1 a2 a3} (h : Kept s t) : Kept s (State.sendFlit t a1 a2 a3).2.2 := by
  unfold State.sendFlit; (try dsimp only); split; exacts [(.snd2 (.flitTaken h)), (.snd2 h)]

theorem newFlit {a1 a2 a3} (h : Kept s t) : Kept s (State.newFlit t a1 a2 a3).2.2 := by
  unfold State.newFlit; (try dsimp only); split; exacts [(.sendFlit h), (.sendFlit h), (.sendFlit h), (.sendFlit (a1 := a1) (a2 := a2) (a3 := List.find? (fun e => Option.some e.2.req == (t.linkGrant a1 a2 (Sys2Proof.Machine.fourReqs (t.stepFour a1 a2 a3))).1) (t.stepFour a1 a2 a3)) (.linkGrant (a1 := a1) (a2 := a2) (a3 := Sys2Proof.Machine.fourReqs (t.stepFour a1 a2 a3)) h)), (.sendFlit h)]

theorem execFlitSlot {a0 a1 a2 a3 a4 a5 a6 a7} (h : Kept s t) : KeptO s (Machine.execFlitSlot a0 a1 a2 a3 a4 a5 a6 a7 t) := by
  unfold Machine.execFlitSlot; exact (.iteO (.next h) (.iteO (by (try dsimp only); split; exacts [(.next h), (.next (.out (.setLane (.count (.setLane h)))))]) (.iteO (.next h) (.next (.out (.setLane (.setLane (.newFlit (a1 := a0) (a2 := a1) (a3 := fun tc =>
  match tc with
  | 0 => List.map (fun p => (0, p)) a2.toList
  | 1 => List.map (fun p => (0, p)) a3.toList
  | 2 => List.filter (fun o => Decidable.decide (o.1 < 16)) a4
  | x => List.map (fun p => (15, p)) a5.toList) h))))))))

theorem execReplayTimeout {a0 a1} (h : Kept s t) : KeptO s (Machine.execReplayTimeout a0 a1 t) := by
  unfold Machine.execReplayTimeout; exact (.iteO (.next (.setLane h)) (.next h))

theorem execLaneGroupRetrain {a0 a1} (h : Kept s t) : KeptO s (Machine.execLaneGroupRetrain a0 a1 t) := by
  unfold Machine.execLaneGroupRetrain; exact (.iteO (.next (.raise (.degraded (.markCtrl (.count (.setF (.setLane h))))))) (.next h))

theorem execRetrainDone {a0 a1 a2} (h : Kept s t) : KeptO s (Machine.execRetrainDone a0 a1 a2 t) := by
  unfold Machine.execRetrainDone; exact (.iteO (.next h) (.seqO (.seqO (.seqO (.seqO (.iteO (.next (.raise (.degraded .refl))) (.next (.cxlLog (.fault (.raise .refl))))) (.ite (.setOwn .refl) .refl)) (.setLane .refl)) (.markCtrl (.setF .refl))) (.ite h (.setW1c (.setF h)))))

theorem execLinkMgmtFlit {a0 a1 a2} (h : Kept s t) : KeptO s (Machine.execLinkMgmtFlit a0 a1 a2 t) := by
  unfold Machine.execLinkMgmtFlit; exact (.iteO (.next h) (.next (.setLane (.setMoved h))))

theorem execTsyncSend  (h : Kept s t) : KeptO s (Machine.execTsyncSend t) := by
  unfold Machine.execTsyncSend; exact (.iteO (.next h) (.next (.ite (.upd h) (.setOwn (.upd h)))))

theorem timeLearnt {a1} (h : Kept s t) : Kept s (State.timeLearnt t a1) := by
  unfold State.timeLearnt; exact (.setF (.setF (.setF (.upd h))))

theorem execTsyncSample {a0 a1 a2} (h : Kept s t) : KeptO s (Machine.execTsyncSample a0 a1 a2 t) := by
  unfold Machine.execTsyncSample; (try dsimp only); split; exacts [(.next h), (.seqO (.iteO (.next (.upd .refl)) (.seqO (.seqO (.seqO (.iteO (.next (.raise (.setF .refl))) (.next .refl)) (.ite (.setF .refl) .refl)) (.setF .refl)) (.setOn (.setF (.upd .refl))))) (.setOwn h))]

theorem execTsyncHoldover  (h : Kept s t) : KeptO s (Machine.execTsyncHoldover t) := by
  unfold Machine.execTsyncHoldover; exact (.iteO (.next (.raise (.setF h))) (.next h))

/-! ## Commits -/

theorem withPending  (h : Kept s t) : Kept s (State.withPending t) := by
  unfold State.withPending; exact (.foldl (fun _ _ h5 => (.foldl (fun _ _ h6 => (.applyWs h6)) h5)) h)

theorem swapCores {a1 a2 a3} (h : Kept s t) : Kept s (State.swapCores t a1 a2 a3) := by
  unfold State.swapCores; exact (.foldl (fun _ _ h6 => (.ite (.ite (.setF h6) (.coreStart h6)) h6)) (.foldl (fun _ _ h5 => (.ite (.coreStop (.ite h5 (.cancelEdges h5))) h5)) h))

theorem doSwap {a1 a2 a3 a4} (h : Kept s t) : Kept s (State.doSwap t a1 a2 a3 a4) := by
  unfold State.doSwap; exact (.ite (by (try dsimp only); split; exacts [(.actDone (.upd (.putBit (.measSeq (.raiseG (.count (.swapCores h))))))), (.putBit (.measSeq (.raiseG (.count (.swapCores h)))))]) (.measSeq (.raiseG (.count (.swapCores h)))))

theorem genlockConfig {a1 a2} (h : Kept s t) : Kept s (State.genlockConfig t a1 a2) := by
  unfold State.genlockConfig; exact (.ite (.ite (.setF (.setF (.setGrp h))) h) (.ite (.setF (.setGrp h)) (.ite (.setGrp h) h)))

theorem measTable {a2} {t1 : State} (h : Kept s t) (h1 : Kept s t1) : Kept s (State.measTable t t1 a2) := by
  unfold State.measTable; exact (.measure h)

theorem commitPanes {a1 a2 a3} (h : Kept s t) : Kept s (State.commitPanes t a1 a2 a3) := by
  unfold State.commitPanes; exact (.seq (.ite (.foldl (fun _ _ h5 => (.checkPane h5)) .refl) .refl) (.foldl (fun _ _ h6 => (.bisAuto (.checkPane (.setF (.upd h6))))) (.dropCaptures h)))

theorem takeHdr {a1} (h : Kept s t) : Kept s (State.takeHdr t a1) := by
  unfold State.takeHdr; (try dsimp only); split; exacts [h, (.setBis h)]

theorem applyCommit {a1 a2 a3} (h : Kept s t) : Kept s (State.applyCommit t a1 a2 a3) := by
  unfold State.applyCommit; exact (.seq (.seq (.seq (.seq (.seq (.seq (.seq (.seq (.commitDone (.occurApplied (.ite .refl (.ite (.doSwap .refl) (.setGrp .refl))))) (.foldl (fun _ _ h5 => (.tableEpoch h5)) .refl)) (.commitPanes .refl)) (.takeHdr (.checkPlanes .refl))) (.ite (.histClear .refl) .refl)) (.genlockConfig .refl)) (.setGrp .refl)) (.applyWs .refl)) (.ite (.foldAbandon h) h))

theorem refuseCommit {a1 a2} (h : Kept s t) : Kept s (State.refuseCommit t a1 a2) := by
  unfold State.refuseCommit; exact (.commitDone (.raise (.setBis (.ite (.setF (.setF h)) h))))

theorem latchCommit {a1 a2 a3} (h : Kept s t) : Kept s (State.latchCommit t a1 a2 a3) := by
  unfold State.latchCommit; exact (.ite (.refuseCommit h) (.applyCommit h))

theorem showPend {a1} (h : Kept s t) : Kept s (State.showPend t a1) := by
  unfold State.showPend; exact (.setOn (.setF h))

theorem arriveCommit {a1} (h : Kept s t) : Kept s (State.arriveCommit t a1) := by
  unfold State.arriveCommit; exact (.ite (.refuseCommit h) (.seq (.ite (.applyCommit .refl) (.showPend (.setGrp .refl))) (.ite (.measTable (.ite (.setBis h) h) (.applyWs (.withPending h))) (.ite (.setBis h) h))))

theorem execCommitArrival  (h : Kept s t) : KeptO s (Machine.execCommitArrival t) := by
  unfold Machine.execCommitArrival; (try dsimp only); split; exacts [(.next h), (.next (.arriveCommit (.upd h)))]

theorem passCutoff {a1} (h : Kept s t) : Kept s (State.passCutoff t a1) := by
  unfold State.passCutoff; exact (.foldCutoff (.bisCutoff (.showPend (.setGrp h))))

theorem execCutoff {a0} (h : Kept s t) : KeptO s (Machine.execCutoff a0 t) := by
  unfold Machine.execCutoff; (try dsimp only); split; exacts [(.next h), (.iteO (.next h) (.next (.passCutoff h)))]

/-! ## Genlock -/

theorem freeRun {a1 a2} (h : Kept s t) : Kept s (State.freeRun t a1 a2) := by
  unfold State.freeRun; exact (.raiseG (.setF (.setGrp h)))

theorem acquire {a1} (h : Kept s t) : Kept s (State.acquire t a1) := by
  unfold State.acquire; exact (.setF (.setGrp h))

theorem glMove {a1 a2} (h : Kept s t) : Kept s (State.glMove t a1 a2) := by
  unfold State.glMove; (try dsimp only); split; exacts [(.ite (.raiseG (.setF (.setGrp h))) (by (try dsimp only); split; exacts [(.ite (.freeRun h) (.setGrp h)), (.setGrp h)])), (.ite (.setGrp h) (.ite (.freeRun h) (.setGrp h))), h]

theorem glDecide {a1 a2} (h : Kept s t) : Kept s (State.glDecide t a1 a2) := by
  unfold State.glDecide; exact (.ite h (by (try dsimp only); split; exacts [(.ite (.freeRun (.ite (.acquire (.ite (.setGrp h) h)) (.ite (.setGrp h) h))) (.ite (.acquire (.ite (.setGrp h) h)) (.ite (.setGrp h) h))), (.seq (.seq (.ite (.freeRun .refl) (.glMove .refl)) (.setF .refl)) (.setGrp (.ite (.acquire (.ite (.setGrp h) h)) (.ite (.setGrp h) h))))]))

theorem execSyncinEdge {a0 a1 a2} (h : Kept s t) : KeptO s (Machine.execSyncinEdge a0 a1 a2 t) := by
  unfold Machine.execSyncinEdge; exact (.iteO (.next h) (.next (.foldl (fun _ _ h6 => (.ite (.setGrp h6) h6)) (.ite (.foldl (fun _ _ h5 => (.occur h5)) h) h))))

theorem execTeEdge {a0 a1 a2} (h : Kept s t) : KeptO s (Machine.execTeEdge a0 a1 a2 t) := by
  unfold Machine.execTeEdge; exact (.iteO (.next h) (.seqO (.seqO (.next (.ite (.setGrp .refl) .refl)) (.occurGroup .refl)) (.ite (.raiseAt h) h)))

theorem execSyncoutPulseEnd {a0} (h : Kept s t) : KeptO s (Machine.execSyncoutPulseEnd a0 t) := by
  unfold Machine.execSyncoutPulseEnd; (try dsimp only); split; exacts [(.next (.ite (.setGrp h) h)), (.next h)]

/-! ## Tolerance -/

theorem panTol  (h : Kept s t) : Kept s (State.panTol t) := by
  unfold State.panTol; exact (.setF (.setF h))

/-! ## Raster -/

theorem coreLine {a1 a2} (h : Kept s t) : Kept s (State.coreLine t a1 a2) := by
  unfold State.coreLine; exact (.foldl (fun _ _ h5 => (.ite h5 (by (try dsimp only); split; exacts [(.setCore h5), (by (try dsimp only); split; exacts [(.setCore h5), (.ite (.setCore h5) h5)]), h5]))) h)

theorem pairLine {a1 a2 a3} (h : Kept s t) : Kept s (State.pairLine t a1 a2 a3) := by
  unfold State.pairLine; exact (.setLn h)

theorem laneLine {a1} (h : Kept s t) : Kept s (State.laneLine t a1) := by
  unfold State.laneLine; exact (.foldl (fun _ _ h5 => (by (try dsimp only); split; exacts [(.ite (.sendCtl (.idleChain (.foldl (fun _ _ h6 => (.pairLine h6)) (.setLn (by (try dsimp only); split; exacts [(.ite (.activate h5) h5), h5]))))) (.foldl (fun _ _ h7 => (.pairLine h7)) (.setLn (by (try dsimp only); split; exacts [(.ite (.activate h5) h5), h5])))), (.foldl (fun _ _ h8 => (.pairLine h8)) (.setLn (by (try dsimp only); split; exacts [(.ite (.activate h5) h5), h5])))])) h)

theorem autoSleep {a1} (h : Kept s t) : Kept s (State.autoSleep t a1) := by
  unfold State.autoSleep; exact (.ite h (.foldl (fun _ _ h5 => (.ite h5 (.seq (.seq (.ite .refl (.rxSleep .refl)) (.setLn .refl)) (.foldl (fun _ _ h6 => (.ite h6 (.setLn (.txSleep h6)))) h5)))) h))

theorem dropLine {a1 a2} (h : Kept s t) : Kept s (State.dropLine t a1 a2) := by
  unfold State.dropLine; exact (.upd h)

theorem dropLines {a1} (h : Kept s t) : Kept s (State.dropLines t a1) := by
  unfold State.dropLines; exact (.upd h)

theorem everyLine {a1} (h : Kept s t) : Kept s (State.everyLine t a1) := by
  unfold State.everyLine; exact (.seq (.seq (.seq (.checkTol (.panTol (.autoSleep (.ite (.glDecide .refl) .refl)))) (.laneLine .refl)) (.ite (.markUnsent .refl) .refl)) (.setGrp h))

theorem leaveLine {a1 a2} (h : Kept s t) : Kept s (State.leaveLine t a1 a2) := by
  unfold State.leaveLine; exact (.seq (.ite (.markUnsent (.dropLines (.bisLate .refl))) (.dropLine .refl)) (.histLine (.bisLine h)))

theorem nextLine {a1 a2} (h : Kept s t) : Kept s (State.nextLine t a1 a2) := by
  unfold State.nextLine; exact (.everyLine (.coreLine (.setF (.setGrp (.leaveLine h)))))

theorem endFrame {a1} (h : Kept s t) : Kept s (State.endFrame t a1) := by
  unfold State.endFrame; exact (.ite h (.setGrp (.dropLine (.histFrameEnd (.captureFrameEnd (.bookDcb h))))))

theorem raiseApplied {a1} (h : Kept s t) : Kept s (State.raiseApplied t a1) := by
  unfold State.raiseApplied; exact (.setGrp (.foldl (fun _ _ h5 => (.raiseAt (.foldl (fun _ _ h6 => (.setF h6)) h5))) h))

theorem takeFrame {a1} (h : Kept s t) : Kept s (State.takeFrame t a1) := by
  unfold State.takeFrame; exact (.setGrp (.upd (.setOn (.setF h))))

theorem syncStart {a1} (h : Kept s t) : Kept s (State.syncStart t a1) := by
  unfold State.syncStart; exact (.ite h (.setGrp h))

theorem lineZero {a1 a2} (h : Kept s t) : Kept s (State.lineZero t a1 a2) := by
  unfold State.lineZero; exact (.seq (.seq (.seq (.seq (.seq (.seq (.everyLine (.bisLine0 (.setGrp (.foldl (fun _ _ h5 => (.doSwap h5)) (.coreLine (.occurGroup (.ite (.raiseG .refl) .refl))))))) (.ite .refl (.raiseApplied .refl))) (.syncStart (.takeFrame .refl))) (.ite .refl (.seq (.ite (.setSr .refl) .refl) (.groupState .refl)))) (.setF (.setF (.setOn .refl)))) (.setGrp .refl)) (.endFrame h))

theorem execLineStart {a0} (h : Kept s t) : KeptO s (Machine.execLineStart a0 t) := by
  unfold Machine.execLineStart; exact (.iteO (.next h) (by (try dsimp only); split; exacts [(.next (.ite (.nextLine h) h)), (.next (.ite (.lineZero h) h)), (.next h)]))

theorem execTeWaitBegin {a0} (h : Kept s t) : KeptO s (Machine.execTeWaitBegin a0 t) := by
  unfold Machine.execTeWaitBegin; exact (.iteO (.next h) (by (try dsimp only); split; exacts [(.iteO (.next h) (.next (.setF (.setGrp h)))), (.next h)]))

theorem execTeTimeout {a0} (h : Kept s t) : KeptO s (Machine.execTeTimeout a0 t) := by
  unfold Machine.execTeTimeout; (try dsimp only); split; exacts [(.next h), (.iteO (.next h) (.seqO (.next (.ite (.lineZero .refl) (.setGrp .refl))) (.raiseG h)))]

theorem trimFrame {a1} (h : Kept s t) : Kept s (State.trimFrame t a1) := by
  unfold State.trimFrame; (try dsimp only); split; exacts [h, (.seq (.ite .refl (.raiseG .refl)) (.setGrp h))]

theorem setPorch {a1 a2} (h : Kept s t) : Kept s (State.setPorch t a1 a2) := by
  unfold State.setPorch; exact (.setF (.setGrp (.trimFrame (.setF (.setOn (.setF (.setF (by (try dsimp only); split; exacts [(.raiseG (.setGrp h)), (.setGrp h)]))))))))

theorem latchSr {a1} (h : Kept s t) : Kept s (State.latchSr t a1) := by
  unfold State.latchSr; (try dsimp only); split; exacts [(.ite (.setGrp h) (.setSr (.setGrp h))), (.ite (.setSr (.setGrp h)) (.setGrp h)), (.setGrp h)]

theorem pipeDone {a1} (h : Kept s t) : Kept s (State.pipeDone t a1) := by
  unfold State.pipeDone; exact (.dropHostPanes (.dropTiles (.dropLines (.bisLate (.captureLatch h)))))

theorem pipeNext {a1} (h : Kept s t) : Kept s (State.pipeNext t a1) := by
  unfold State.pipeNext; exact (.setGrp (.dropHostPanes (.pixTurn h)))

theorem takeLatch {a1} (h : Kept s t) : Kept s (State.takeLatch t a1) := by
  unfold State.takeLatch; exact (.seq (.seq (.seq (.seq (.seq (.seq (.seq (.occurGroup (.ite (.decideBis .refl) (.decideBand .refl))) (.setPorch .refl)) (.setGrp .refl)) (.pipeNext (.latchSr (.showPend .refl)))) (.foldl (fun _ _ h5 => (.latchCommit h5)) .refl)) (.setGrp .refl)) (.ite .refl (.foldLatch .refl))) (.pipeDone h))

theorem execLatch {a0} (h : Kept s t) : KeptO s (Machine.execLatch a0 t) := by
  unfold Machine.execLatch; exact (.next (.ite (.takeLatch h) h))

theorem startGroup {a1} (h : Kept s t) : Kept s (State.startGroup t a1) := by
  unfold State.startGroup; exact (.ite (.raiseG (.setF (.ite (.setF (.setF h)) (.setF h)))) (.seq (.seq (.seq (.seq (.seq (.armStart (.ite (.bisStart (.measTable .refl .refl)) (.decideBand .refl))) (.checkPlanes (.groupState .refl))) (.setF (.setF (.setF .refl)))) (.setBis (.pipeNext (.dropTiles (.dropLines .refl))))) (.histClear (.dropCaptures .refl))) (.setGrp h)))

theorem resumeGroup {a1} (h : Kept s t) : Kept s (State.resumeGroup t a1) := by
  unfold State.resumeGroup; exact (.seq (.ite .refl (.setOn (.putBit .refl))) (.groupState (.setF h)))

theorem enterStopped {a1} (h : Kept s t) : Kept s (State.enterStopped t a1) := by
  unfold State.enterStopped; exact (.seq (.seq (.seq (.seq (.seq (.seq (.seq (.seq (.panTol (.railStopped (.discardEdges (.foldl (fun _ _ h5 => (.seq (.seq (.ite .refl (.foldl (fun _ _ h6 => (.sendCtl h6)) (.idleChain .refl))) (.foldl (fun _ _ h7 => (.setLn h7)) .refl)) (.ite (.activate h5) h5))) .refl)))) (.setOn .refl)) (.putBit .refl)) (.showPend (.setGrp .refl))) (.foldl (fun _ _ h8 => (.latchCommit h8)) .refl)) (.foldl (fun _ _ h9 => (.doSwap h9)) .refl)) (.groupState (.setF (.setF (.setF .refl))))) (.setGrp .refl)) (.endFrame h))

theorem writeRun {a1 a2} (h : Kept s t) : Kept s (State.writeRun t a1 a2) := by
  unfold State.writeRun; exact (.ite (.ite h (.ite (.startGroup h) (.ite (.resumeGroup h) h))) (.seq (.ite (.enterStopped .refl) .refl) (.stopGroup h)))

theorem execGroupEnterStopped {a0} (h : Kept s t) : KeptO s (Machine.execGroupEnterStopped a0 t) := by
  unfold Machine.execGroupEnterStopped; exact (.iteO (.next h) (.iteO (.next (.enterStopped h)) (by (try dsimp only); split; exacts [(.next (.ite (.enterStopped h) h)), (.next h)])))

/-! ## Mem -/

theorem spoilCommit {a1 a2} (h : Kept s t) : Kept s (State.spoilCommit t a1 a2) := by
  unfold State.spoilCommit; exact (.foldl (fun _ _ h5 => (.setGrp h5)) (.upd h))

theorem loseHeld {a1 a2} (h : Kept s t) : Kept s (State.loseHeld t a1 a2) := by
  unfold State.loseHeld; (try dsimp only); split; exacts [(.ringStatus (.count (.setRing h))), h]

theorem eventReset  (h : Kept s t) : Kept s (State.eventReset t) := by
  unfold State.eventReset; exact (.queueReset (.upd h))

theorem sramLost {a1} (h : Kept s t) : Kept s (State.sramLost t a1) := by
  unfold State.sramLost; (try dsimp only); split; exacts [h, h, (.eventReset h), (.ite (.ite (.coreFault h) (.coreFaultWith h)) h), (.ite (.losePane h) h), (.ite (.raiseG (.upd h)) h), (.ite (.raiseG (.putBit h)) h), (.spoilCommit h), (.ite (.ite (.setFree (.upd h)) (.upd h)) h), (.ite (.partnerReset h) h), (.ite (.uqReset h) h), (.queueReset h), (.loseHeld h), (.freeAccs h), (.ite (.setBis h) h)]

theorem sramCorrected {a1 a2} (h : Kept s t) : Kept s (State.sramCorrected t a1 a2) := by
  unfold State.sramCorrected; exact (.seq (.ite .refl (.raise (.ite (.upd .refl) (.upd .refl)))) (.fault (.count h)))

theorem sramUncorrectable {a1 a2} (h : Kept s t) : Kept s (State.sramUncorrectable t a1 a2) := by
  unfold State.sramUncorrectable; exact (.fault (.raise (.count (.setF (.setF (.setW1c h))))))

theorem execSramRead {a0 a1 a2 a3} (h : Kept s t) : KeptO s (Machine.execSramRead a0 a1 a2 a3 t) := by
  unfold Machine.execSramRead; exact (.iteO (.next h) (.seqO (.iteO (.next (.sramCorrected .refl)) (.iteO (.next (.sramLost (.sramUncorrectable .refl))) (.next .refl))) (.touchBank h)))

theorem execBankRetentionIdle {a0} (h : Kept s t) : KeptO s (Machine.execBankRetentionIdle a0 t) := by
  unfold Machine.execBankRetentionIdle; exact (.next (.ite (.setF h) h))

theorem execBankInitDone {a0} (h : Kept s t) : KeptO s (Machine.execBankInitDone a0 t) := by
  unfold Machine.execBankInitDone; exact (.next (.ite (.setF h) h))

theorem marchWipe {a1 a2} (h : Kept s t) : Kept s (State.marchWipe t a1 a2) := by
  unfold State.marchWipe; exact (.ite (.foldl (fun _ _ h5 => (.bankLose h5)) h) h)

theorem marchGo  (h : Kept s t) : Kept s (State.marchGo t) := by
  unfold State.marchGo; exact (.ite h (.setF (.setF (.marchWipe (.upd h)))))

theorem marchBank {a1 a2 a3 a4} (h : Kept s t) : Kept s (State.marchBank t a1 a2 a3 a4).2.2 := by
  unfold State.marchBank; exact (.ite22 (.snd2 (.setF (.setF h))) (.snd2 (.fault (.setF h))))

theorem marchBanks {a0 a1 a2 a3} (h : Kept s t) : Kept s (Machine.marchBanks a0 a1 a2 a3 t).2.2 := by
  induction a1 generalizing t a2 a3 with
  | nil => exact h
  | cons x xs ih => exact ih (.marchBank h)

theorem marchEnd {a1 a2 a3 a4 a5} (h : Kept s t) : Kept s (State.marchEnd t a1 a2 a3 a4 a5) := by
  unfold State.marchEnd; exact (.raise (.setF (.setF (.setF (.setF (.setF (.upd h)))))))

theorem marchAbort  (h : Kept s t) : Kept s (State.marchAbort t) := by
  unfold State.marchAbort; (try dsimp only); split; exacts [h, (.marchEnd h)]

theorem execMarchDone {a0} (h : Kept s t) : KeptO s (Machine.execMarchDone a0 t) := by
  unfold Machine.execMarchDone; (try dsimp only); split; exacts [(.next h), (.next (.degraded (.marchEnd (.marchBanks (a2 := 0) (a3 := 0) h))))]

theorem noteEmerg {a1} (h : Kept s t) : Kept s (State.noteEmerg t a1) := by
  unfold State.noteEmerg; exact (.ite h (.raiseG (.upd h)))

theorem linkGranted {a1 a2} (h : Kept s t) : Kept s (State.linkGranted t a1 a2) := by
  unfold State.linkGranted; exact (.setLane h)

theorem refreshGranted {a1} (h : Kept s t) : Kept s (State.refreshGranted t a1) := by
  unfold State.refreshGranted; exact (.cxlLog (.count (.upd h)))

theorem execArbRound {a0 a1 a2} (h : Kept s t) : KeptO s (Machine.execArbRound a0 a1 a2 t) := by
  unfold Machine.execArbRound; exact (.iteO (.next h) (by (try dsimp only); split; exacts [(.next (.classRound (a1 := a0) (a2 := !(if Sys2Proof.Machine.isPcArb a0 = Bool.true then List.filter (fun g => Decidable.decide (g < 16) && t.scanEmerg g) a2 else []).isEmpty) (.foldl (fun _ _ h100006 => (.ite h100006 (.refused h100006))) (.foldl (fun _ _ h100005 => (.noteEmerg h100005)) h)))), (.seqO (.next (.ite (.deferred .refl) .refl)) (.ite (.linkGranted (.classRound (a1 := a0) (a2 := !(if Sys2Proof.Machine.isPcArb a0 = Bool.true then List.filter (fun g => Decidable.decide (g < 16) && t.scanEmerg g) a2 else []).isEmpty) (.foldl (fun _ _ h100008 => (.ite h100008 (.refused h100008))) (.foldl (fun _ _ h100007 => (.noteEmerg h100007)) h)))) (.ite (.refreshGranted (.classRound (a1 := a0) (a2 := !(if Sys2Proof.Machine.isPcArb a0 = Bool.true then List.filter (fun g => Decidable.decide (g < 16) && t.scanEmerg g) a2 else []).isEmpty) (.foldl (fun _ _ h100010 => (.ite h100010 (.refused h100010))) (.foldl (fun _ _ h100009 => (.noteEmerg h100009)) h)))) (.classRound (a1 := a0) (a2 := !(if Sys2Proof.Machine.isPcArb a0 = Bool.true then List.filter (fun g => Decidable.decide (g < 16) && t.scanEmerg g) a2 else []).isEmpty) (.foldl (fun _ _ h100012 => (.ite h100012 (.refused h100012))) (.foldl (fun _ _ h100011 => (.noteEmerg h100011)) h))))))]))

theorem arbApply  (h : Kept s t) : Kept s (State.arbApply t) := by
  unfold State.arbApply; exact (.setF (.foldl (fun _ _ h5 => (.upd (.setF (.setF h5)))) h))

theorem execArbApplyRaster  (h : Kept s t) : KeptO s (Machine.execArbApplyRaster t) := by
  unfold Machine.execArbApplyRaster; exact (.next (.ite (.setF (.upd h)) h))

theorem execRequesterMask {a0 a1} (h : Kept s t) : KeptO s (Machine.execRequesterMask a0 a1 t) := by
  unfold Machine.execRequesterMask; exact (.iteO (.next h) (.iteO (.next (.upd h)) (.next (.setF (.count (.upd h))))))

theorem execRequesterUnmask {a0} (h : Kept s t) : KeptO s (Machine.execRequesterUnmask a0 t) := by
  unfold Machine.execRequesterUnmask; exact (.iteO (.next h) (.next (.upd h)))

/-! ## Boot -/

theorem execPorstAssert (h : Kept s t) : KeptO s (Machine.execPorstAssert t) :=
  .next ⟨h.pending, fun _ => rfl, fun _ => rfl⟩

theorem execPorstDeassert  (h : Kept s t) : KeptO s (Machine.execPorstDeassert t) := by
  unfold Machine.execPorstDeassert; exact (.iteO (.next h) (.next (.upd h)))

theorem stageOff {a1} (h : Kept s t) : Kept s (State.stageOff t a1) := by
  unfold State.stageOff; exact (.upd h)

theorem bootStage {a1 a2 a3} (h : Kept s t) : Kept s (State.bootStage t a1 a2 a3) := by
  unfold State.bootStage; exact (.raise h)

theorem stageFail {a1 a2 a3} (h : Kept s t) : Kept s (State.stageFail t a1 a2 a3) := by
  unfold State.stageFail; exact (.ite h (.seq (.ite (.setF .refl) .refl) (.setF (.setF h))))

theorem stageStop {a1 a2 a3} (h : Kept s t) : Kept s (State.stageStop t a1 a2 a3) := by
  unfold State.stageStop; exact (.bootStage (.stageOff (.stageFail h)))

theorem stageEnd {a1 a2 a3} (h : Kept s t) : Kept s (State.stageEnd t a1 a2 a3) := by
  unfold State.stageEnd; exact (.upd (.bootStage (.foldl (fun _ _ h5 => (.putBit h5)) (.putBit (.stageOff (.stageFail h))))))

theorem lockBits {a1} (h : Kept s t) : Kept s (State.lockBits t a1) := by
  unfold State.lockBits; exact (.foldl (fun _ _ h5 => (.putBit h5)) h)

theorem bootMarch {a1 a2 a3} (h : Kept s t) : Kept s (State.bootMarch t a1 a2 a3).2 := by
  unfold State.bootMarch; exact (.snd (.degraded (.marchEnd (.marchBanks (a0 := Bool.true) (a1 := List.filter (fun e => a2 e.1) a1.bad) (a2 := 0) (a3 := 0) h))))

theorem stage1  (h : Kept s t) : Kept s (State.stage1 t) := by
  unfold State.stage1; exact (.stageEnd (.measLc (.upd (.fuseRegs (.lockBits h)))))

theorem stage1Fail {a1} (h : Kept s t) : Kept s (State.stage1Fail t a1) := by
  unfold State.stage1Fail; exact (.fault (.bootStage (.stageFail (.upd h))))

theorem stage2 {a1} (h : Kept s t) : Kept s (State.stage2 t a1) := by
  unfold State.stage2; exact (.stageEnd (.bootMarch (a1 := a1) (a2 := fun b => Decidable.decide (b < 96 ∨ 256 ≤ b ∧ b < 260)) (a3 := 259) h))

theorem takeSlot {a1} (h : Kept s t) : Kept s (State.takeSlot t a1) := by
  unfold State.takeSlot; exact (.measure (.measure (.setF (.setF (.setF h)))))

theorem recovery {a1 a2} (h : Kept s t) : Kept s (State.recovery t a1 a2) := by
  unfold State.recovery; exact (.seq (.ite (.stageEnd .refl) (.stageStop .refl)) (.setF h))

theorem stage3 {a1} (h : Kept s t) : Kept s (State.stage3 t a1) := by
  unfold State.stage3; exact (.ite (.stageEnd (.takeSlot (.ite (.setF h) h))) (.ite (.stageEnd (.takeSlot (.setF h))) (.recovery h)))

theorem reloadCtrs  (h : Kept s t) : Kept s (State.reloadCtrs t) := by
  unfold State.reloadCtrs; exact (.foldl (fun _ _ h5 => (.setLastCtr h5)) h)

theorem stage4 {a1} (h : Kept s t) : Kept s (State.stage4 t a1) := by
  unfold State.stage4; exact (.stageEnd (.setF (.reloadCtrs (.foldl (fun _ _ h5 => (.reloadSlot h5)) (.reloadId (.nvScan h))))))

theorem stage5 {a1} (h : Kept s t) : Kept s (t.stage5 a1) := by
  unfold State.stage5
  refine .ite (.fault (.stageStop h)) (.stageEnd (.lockBits ?_))
  exact ⟨h.pending, h.regs, fun _ => rfl⟩

theorem trainLane {a1 a2 a3} (h : Kept s t) : Kept s (State.trainLane t a1 a2 a3) := by
  unfold State.trainLane; exact (.seq (.seq (.seq (.ite .refl (.fault (.raise .refl))) (.setLane .refl)) (.setF .refl)) (.ite h (.setW1c (.setF h))))

theorem trainLink {a1} (h : Kept s t) : Kept s (State.trainLink t a1) := by
  unfold State.trainLink; exact (.seq (.degraded (.ite .refl (.timeLearnt .refl))) (.foldl (fun _ _ h5 => (.markCtrl (.foldl (fun _ _ h6 => (.trainLane h6)) h5))) h))

theorem loadRaster {a1} (h : Kept s t) : Kept s (State.loadRaster t a1) := by
  unfold State.loadRaster; (try dsimp only); split; exacts [h, (.foldl (fun _ _ h5 => (.loadWord h5)) h)]

theorem stage6 {a1} (h : Kept s t) : Kept s (State.stage6 t a1) := by
  unfold State.stage6; exact (.ite (.fault (.stageStop h)) (by (try dsimp only); split; exacts [(.ite (.recovery h) (.upd (.putBit (.stageStop h)))), (.stageEnd (.loadRaster (.bootMarch (a1 := a1) (a2 := fun b => Decidable.decide (96 ≤ b ∧ b < 256)) (a3 := 255) (.trainLink (.lockBits h)))))]))

theorem loadImg {a1 a2} (h : Kept s t) : Kept s (State.loadImg t a1 a2) := by
  unfold State.loadImg; exact (.ite (.ite (.loadCp h) (.setNoServe (.loadMem h))) (.ite (.foldl (fun _ _ h5 => (.ite h5 (.loadSeq h5))) h) h))

theorem loadBoard  (h : Kept s t) : Kept s (State.loadBoard t) := by
  unfold State.loadBoard; exact (.foldl (fun _ _ h7 => (.laneEn (.setOn h7))) (.foldl (fun _ _ h6 => (.loadWord h6)) (.foldl (fun _ _ h5 => (.loadWord (.loadWord h5))) (.loadWord h))))

theorem stage7  (h : Kept s t) : Kept s (State.stage7 t) := by
  unfold State.stage7; exact (.seq (.ite (.loadBoard (.upd .refl)) (.upd .refl)) (by (try dsimp only); split; exacts [(.stageEnd (.upd (.foldl (fun _ _ h6 => (.measSeq h6)) (.measImages (.measCps (.calLoad (.foldl (fun _ _ h5 => (.loadImg h5)) h))))))), (.stageEnd (.upd (.foldl (fun _ _ h8 => (.measSeq h8)) (.measImages (.measCps (.calLoad (.foldl (fun _ _ h7 => (.loadImg h7)) h)))))))]))

theorem bootDone  (h : Kept s t) : Kept s (State.bootDone t) := by
  unfold State.bootDone; exact (.autoStart (.setF h))

theorem execStageComplete {a0 a1} (h : Kept s t) : KeptO s (Machine.execStageComplete a0 a1 t) := by
  unfold Machine.execStageComplete; exact (.iteO (.next h) (by (try dsimp only); split; exacts [(.next (.ite (.stage1Fail h) (.ite h (.stage1 h)))), (.next (.stage2 h)), (.next (.stage3 h)), (.next (.stage4 h)), (.next (.stage5 h)), (.next (.stage6 h)), (.next (.stage7 h)), (.iteO (.next (.bootDone (.stageStop h))) (.iteO (.next (.bootDone (.stageEnd h))) (.next h))), (.next h)]))

theorem execStageTimeout {a0} (h : Kept s t) : KeptO s (Machine.execStageTimeout a0 t) := by
  unfold Machine.execStageTimeout; exact (.iteO (.next h) (.iteO (.next (.stage1Fail h)) (.iteO (.next (.ite (.bootDone (.stageStop h)) (.ite h (.bootDone (.stageStop h))))) (.next (.stageStop h)))))

theorem execPllRetry {a0} (h : Kept s t) : KeptO s (Machine.execPllRetry a0 t) := by
  unfold Machine.execPllRetry; exact (.iteO (.next h) (.iteO (.next (.stage1 (.upd h))) (.next h)))

theorem execClockSourceLoss {a0} (h : Kept s t) : KeptO s (Machine.execClockSourceLoss a0 t) := by
  unfold Machine.execClockSourceLoss; exact (.iteO (.next h) (.seqO (.seqO (.iteO (.next (.fault .refl)) (.iteO (.next (.fault .refl)) (.iteO (.execLinkLoss .refl) (.iteO (.next (.foldl (fun _ _ h5 => (.ite h5 (.setLnSt (.setF h5)))) .refl)) (.next .refl))))) (.raise .refl)) (.setW1c (.putBit h))))

theorem execClockSourceReturn {a0} (h : Kept s t) : KeptO s (Machine.execClockSourceReturn a0 t) := by
  unfold Machine.execClockSourceReturn; exact (.next (.ite h (.putBit h)))

theorem bonDown (h : Kept s t) : Kept s t.bonDown := by
  unfold State.bonDown
  refine .setF (.setF (.setF (.setF ⟨h.pending, fun w => ?_, fun _ => rfl⟩)))
  exact smWf_filter _ (h.regs w)

theorem bonState {a1 a2} (h : Kept s t) : Kept s (State.bonState t a1 a2) := by
  unfold State.bonState; exact (.raise h)

theorem bonEnter  (h : Kept s t) : Kept s (State.bonEnter t) := by
  unfold State.bonEnter; exact (.ite h (.ite (.setF h) (.ite (.setF h) (.bonDown (.bonState (.setF (.setF h)))))))

theorem bonExit  (h : Kept s t) : Kept s (State.bonExit t) := by
  unfold State.bonExit; exact (.ite h (.measLc (.fuseRegs (.foldl (fun _ _ h5 => (.putBit h5)) (.setF (.setF (.upd (.bonState (.setF h)))))))))

theorem activate_  (h : Kept s t) : Kept s (State.activate_ t) := by
  unfold State.activate_; exact (.ite (.raise (.setF h)) (.ite (.actEnd (.setF (.setF (.setF h)))) (.ite (.actEnd (.setF (.setF (.setF h)))) (by (try dsimp only); split; exacts [(.actEnd (.setF (.setF (.setF h)))), (.ite (.actEnd (.setF (.setF (.setF h)))) (.ite (.actEnd (.setF (.setF (.setF h)))) (.nvSubmit (.upd (.ite (.foldl (fun _ _ h5 => (.foldl (fun _ _ h6 => (.loadSeq h6)) h5)) (.setF (.setF (.setF h)))) (.setF (.setF (.setF h))))))))]))))

theorem issueSwap {a1 a2} (h : Kept s t) : Kept s (State.issueSwap t a1 a2) := by
  unfold State.issueSwap; exact (.upd (.upd h))

theorem cpSwapped {a1 a2} (h : Kept s t) : Kept s (State.cpSwapped t a1 a2) := by
  unfold State.cpSwapped; exact (.measCps (.raise (.putBit h)))

theorem newFirmware {a1 a2} (h : Kept s t) : Kept s (State.newFirmware t a1 a2) := by
  unfold State.newFirmware; (try dsimp only); split; exacts [h, (.loadCp h)]

theorem setAct {a1} (h : Kept s t) : Kept s (State.setAct t a1) := by
  unfold State.setAct; exact (.upd h)

theorem actGo  (h : Kept s t) : Kept s (State.actGo t) := by
  unfold State.actGo; (try dsimp only); split; exacts [(.setF h), (.ite (.actEnd (.setF h)) (.actDone (.foldl (fun _ _ h6 => (.issueSwap h6)) (.setAct (.foldl (fun _ _ h5 => (.cpSwapped (.newFirmware h5))) (.setF h))))))]

theorem execRecordAccept  (h : Kept s t) : KeptO s (Machine.execRecordAccept t) := by
  unfold Machine.execRecordAccept; exact (.next (.ite (.actGo (.recordAccept h)) (.recordAccept h)))

theorem execCpQuiescent {a0} (h : Kept s t) : KeptO s (Machine.execCpQuiescent a0 t) := by
  unfold Machine.execCpQuiescent; (try dsimp only); split; exacts [(.next h), (.iteO (.next h) (.iteO (.next (.actDone (.cpSwapped (.setAct (.newFirmware h))))) (.next (.setAct h))))]

theorem execCpSwap {a0} (h : Kept s t) : KeptO s (Machine.execCpSwap a0 t) := by
  unfold Machine.execCpSwap; (try dsimp only); split; exacts [(.next h), (by (try dsimp only); split; exacts [(.next h), (.seqO (.seqO (.next (.actDone (.wakeBanks (.cpSwapped (.ite (.setCoreSt .refl) .refl))))) (.setCore .refl)) (.setAct (.newFirmware h)))])]

theorem execActivationTimeout  (h : Kept s t) : KeptO s (Machine.execActivationTimeout t) := by
  unfold Machine.execActivationTimeout; (try dsimp only); split; exacts [(.next h), (.iteO (.next h) (.next (.actEnd h)))]

theorem execPfTrip {a0 a1} (h : Kept s t) : KeptO s (Machine.execPfTrip a0 a1 t) := by
  unfold Machine.execPfTrip; (try dsimp only); split; exacts [(.next (.pfTrip h)), (.iteO (.next (.pfTrip h)) (.next (.setAct (.foldl (fun _ _ h5 => (.raise (.setCoreSt (.setNoServe (.loadMem h5))))) (.pfTrip h)))))]

/-! ## Bus -/

theorem judge {a1 a2 a3} (h : Kept s t) : Kept s (State.judge t a1 a2 a3).2 := by
  unfold State.judge; (try dsimp only); split; exacts [(by (try dsimp only); split; exacts [(.snd (.err h)), (.ite2 (.snd (.setEntry h)) (.ite2 (.ite2 (.snd (.setEntry h)) (.snd h)) (.ite2 (.snd h) (.snd (.setEntry h)))))]), (.ite2 (.snd h) (.snd (.err h))), (.snd (.err h))]

theorem putFields {a1 a2 a3 a4 a5} (h : Kept s t) : Kept s (State.putFields t a1 a2 a3 a4 a5) := by
  unfold State.putFields; exact (.foldl (fun _ _ h5 => (.ite h5 (by (try dsimp only); split; exacts [(.setF h5), (.setF h5), (.ite (.setF h5) (.err h5)), h5]))) h)

theorem stageWord {a1 a2 a3 a4} (h : Kept s t) : Kept s (State.stageWord t a1 a2 a3 a4) := by
  unfold State.stageWord; exact (.ite h (by (try dsimp only); split; exacts [(.stage h), (.ite (.err h) h)]))

theorem windowWrite {a1 a2 a3} (h : Kept s t) : Kept s (State.windowWrite t a1 a2 a3) := by
  unfold State.windowWrite; exact (.ite (.err h) (.ite h (.ite (.setDmem (.touchBank h)) (.setImem (.touchBank h)))))

theorem copyGo {a1} (h : Kept s t) : Kept s (State.copyGo t a1) := by
  unfold State.copyGo; exact (.ite h (.ite (.raise (.setF (.setF (.setF (.setF h))))) (.setF (.upd h))))

theorem writeHost {a1 a2 a3 a4 a5} (h : Kept s t) : Kept s (State.writeHost t a1 a2 a3 a4 a5) := by
  unfold State.writeHost; exact (.ite (.putFields h) (.ite (.queueCtrl h) (.ite (.doorbell h) (.ite (.coreCtrl (.putFields h)) (.ite (.occur (.putFields h)) (.ite (.ite (.mpOp h) h) (.ite (.lockBreak h) (.ite (.seq (.ite (.lcGo .refl) .refl) (.putFields h)) (.ite (.ite (.keyGo h) h) (.ite (.ite (.dbgUnlock h) h) (.ite (.seq (.ite (.recJob .refl) .refl) (.putFields h)) (.ite (.seq (.ite (.xferGo .refl) .refl) (.putFields h)) (.ite (.cntInc h) (.ite (.seq (.ite (.activate_ .refl) .refl) (.putFields h)) (.ite (.putFields h) (.ite (.strudelWrite h) (.ite (.runJobs (.putFields h)) (.ite (.putFields h) (.ite (.submitJobs h) (.ite (.releaseEncoders h) (.ite (.setF (.putFields h)) (.ite (.ite (.arbApply h) h) (.ite (.bankRequest (.putFields h)) (.ite (.seq (.seq (.ite (.marchGo .refl) .refl) (.ite (.marchAbort .refl) .refl)) (.putFields h)) (.ite (.seq (.ite (.copyGo .refl) .refl) (.putFields h)) (.putFields h))))))))))))))))))))))))))

theorem writeRaster {a1 a2 a3 a4 a5} (h : Kept s t) : Kept s (State.writeRaster t a1 a2 a3 a4 a5) := by
  unfold State.writeRaster; exact (.ite (.setF (.putFields h)) (.ite (.writeRun (.putFields h)) (.ite (.putFields h) (.ite (.writeSleep h) (.ite (.seq (.ite .refl (.checkPane .refl)) (.putFields h)) (.ite (.writeTldCtrl h) (.ite (.ite (.putFields h) (.putFields (.upd h))) (.ite (.coreCtrl (.putFields h)) (.ite (.putFields h) (.ite (.occur (.putFields h)) (.ite (.upd h) (.ite (.laneEn (.putFields h)) (.ite (.putFields h) (.ite (.checkLock (.laneTest (.putFields (.idleTo h)))) (.ite (.armInj (.putFields h)) (.ite (.lnkCmd h) (.ite (.seq (.ite (.upqPop .refl) .refl) (.putFields h)) (.ite (.spareCmd (.putFields h)) (.ite (.seq (.ite (.foldl (fun _ _ h5 => (.setF h5)) .refl) .refl) (.putFields h)) (.putFields h))))))))))))))))))))

theorem writeDrive {a1 a2 a3 a4 a5} (h : Kept s t) : Kept s (State.writeDrive t a1 a2 a3 a4 a5) := by
  unfold State.writeDrive; exact (.ite (.writePwr h) (.ite (.putFields h) (.ite (.putFields h) (.ite (.putFields h) (.ite (.putFields h) (.ite (.railForce h) (.ite (.seq (.ite (.clearTripped .refl) .refl) (.putFields h)) (.ite (.seq (.seq (.seq (.ite (.bonSend .refl) .refl) (.ite (.bonExit .refl) .refl)) (.ite (.bonEnter .refl) .refl)) (.putFields h)) (.ite (.putFields h) (.ite (.setBisReg (.setBisReg h)) (.ite (.setBisReg (.setBisReg h)) (.ite (.bisReq2 h) (.ite (.ite (.journalScan (.putFields h)) (.putFields h)) (.ite (.calWrite h) (.ite (.calCmd h) (.ite (.foldWrite (.putFields h)) (.ite (.putFields h) (.ite (.putFields h) (.ite (.seq (.ite (.ringOn .refl) .refl) (.putFields h)) (.ite (.writeHead h) (.putFields h)))))))))))))))))))))

theorem regWrite {a1 a2 a3 a4} (h : Kept s t) : Kept s (State.regWrite t a1 a2 a3 a4) := by
  unfold State.regWrite; exact (.seq (.ite (.writeHost .refl) (.ite (.writeRaster .refl) (.writeDrive .refl))) (.stageWord h))

theorem placeWrite {a1 a2 a3} (h : Kept s t) : Kept s (State.placeWrite t a1 a2 a3) := by
  unfold State.placeWrite; exact (.ite (.nvWindow h) (.ite (.upd h) (by (try dsimp only); split; exacts [(.windowWrite h), (by (try dsimp only); split; exacts [h, (.regWrite h)])])))

theorem busWrite {a1 a2 a3} (h : Kept s t) : Kept s (State.busWrite t a1 a2 a3) := by
  unfold State.busWrite; exact (.ite h (.ite (.ite (.doorbell h) h) (.ite h (.ite (.setW1c h) (by (try dsimp only); split; exacts [(.wakeBanks (.placeWrite h)), (by (try dsimp only); split; exacts [(by rename_i h5; exact (.wakeBanks (.placeWrite (ofEq h5 (.judge h))))), (by rename_i h6; exact (ofEq h6 (.judge h)))])])))))

theorem readLo {a1 a2 a3} (h : Kept s t) : Kept s (State.readLo t a1 a2 a3).2 := by
  unfold State.readLo; exact (.snd (.latchHi h))

theorem regRead {a1 a2 a3} (h : Kept s t) : Kept s (State.regRead t a1 a2 a3).2 := by
  unfold State.regRead; exact (.ite2 (.snd h) (.ite2 (.snd h) (.ite2 (.readLo h) (.ite2 (.readLo h) (.ite2 (.readLo h) (.ite2 (.readLo h) (.ite2 (.readLo h) (.ite2 (.readLo h) (.ite2 (.snd h) (.ite2 (.snd h) (.ite2 (.snd h) (.ite2 (.snd h) (.ite2 (.snd h) (.ite2 (.snd h) (.ite2 (.snd h) (.ite2 (.snd h) (.ite2 (.upqData h) (.ite2 (.snd h) (.ite2 (.snd h) (.ite2 (.snd h) (.ite2 (.snd h) (.ite2 (.snd h) (.ite2 (.snd h) (.ite2 (.snd h) (.ite2 (.snd h) (.ite2 (.snd h) (.ite2 (.snd h) (.snd h))))))))))))))))))))))))))))

theorem placeRead {a1 a2} (h : Kept s t) : Kept s (State.placeRead t a1 a2).2 := by
  unfold State.placeRead; exact (.ite2 (.snd h) (.ite2 (.snd h) (.ite2 (.snd h) (.ite2 (.snd h) (.ite2 (by (try dsimp only); split; exacts [(.snd h), (.snd h)]) (.ite2 (.snd h) (by (try dsimp only); split; exacts [(.snd (.touchBank h)), (by (try dsimp only); split; exacts [(.snd h), (.ite2 (.snd h) (.regRead h))])])))))))

theorem busRead {a1 a2} (h : Kept s t) : Kept s (State.busRead t a1 a2).2 := by
  unfold State.busRead; exact (.ite2 (.snd h) (.placeRead h))

/-! ## RegRows -/

theorem rowWrite {a1 a2 a3 a4} (h : Kept s t) : KeptO s (State.rowWrite t a1 a2 a3 a4) := by
  unfold State.rowWrite; exact (.iteO (.next (.busWrite h)) (.next h))

theorem rowRead {a1 a2 a3} (h : Kept s t) : KeptO s (State.rowRead t a1 a2 a3) := by
  unfold State.rowRead; exact (.iteO (.next (.out (.busRead (a1 := a2) (a2 := a3) h))) (.next h))

theorem execRegWrite {a0 a1 a2} (h : Kept s t) : KeptO s (Machine.execRegWrite a0 a1 a2 t) := by
  unfold Machine.execRegWrite; exact (.iteO .stop (.next (.busWrite h)))

theorem execEvtTimeLoRead {a0} (h : Kept s t) : KeptO s (Machine.execEvtTimeLoRead a0 t) := by
  unfold Machine.execEvtTimeLoRead; exact (.rowRead h)

theorem execTmgFrameLoRead {a0 a1} (h : Kept s t) : KeptO s (Machine.execTmgFrameLoRead a0 a1 t) := by
  unfold Machine.execTmgFrameLoRead; exact (.rowRead h)

theorem execTmgLatchLoRead {a0 a1} (h : Kept s t) : KeptO s (Machine.execTmgLatchLoRead a0 a1 t) := by
  unfold Machine.execTmgLatchLoRead; exact (.rowRead h)

theorem execCalTsLoRead {a0 a1} (h : Kept s t) : KeptO s (Machine.execCalTsLoRead a0 a1 t) := by
  unfold Machine.execCalTsLoRead; exact (.rowRead h)

theorem execSecSlotCtrLoRead {a0 a1} (h : Kept s t) : KeptO s (Machine.execSecSlotCtrLoRead a0 a1 t) := by
  unfold Machine.execSecSlotCtrLoRead; exact (.rowRead h)

theorem execNvsCntLoRead {a0 a1} (h : Kept s t) : KeptO s (Machine.execNvsCntLoRead a0 a1 t) := by
  unfold Machine.execNvsCntLoRead; exact (.rowRead h)

theorem execUpqDataRead {a0 a1} (h : Kept s t) : KeptO s (Machine.execUpqDataRead a0 a1 t) := by
  unfold Machine.execUpqDataRead; exact (.rowRead h)

theorem execUpqPop {a0 a1 a2 a3} (h : Kept s t) : KeptO s (Machine.execUpqPop a0 a1 a2 a3 t) := by
  unfold Machine.execUpqPop; exact (.iteO (.next h) (.iteO (.next (.uqReset (.busWrite h))) (.next (.busWrite h))))

theorem execGroupRun {a0 a1 a2} (h : Kept s t) : KeptO s (Machine.execGroupRun a0 a1 a2 t) := by
  unfold Machine.execGroupRun; exact (.rowWrite h)

theorem execGroupStop {a0 a1 a2} (h : Kept s t) : KeptO s (Machine.execGroupStop a0 a1 a2 t) := by
  unfold Machine.execGroupStop; exact (.rowWrite h)

theorem execGroupResume {a0 a1 a2} (h : Kept s t) : KeptO s (Machine.execGroupResume a0 a1 a2 t) := by
  unfold Machine.execGroupResume; exact (.rowWrite h)

theorem execSrSleepSet {a0 a1} (h : Kept s t) : KeptO s (Machine.execSrSleepSet a0 a1 t) := by
  unfold Machine.execSrSleepSet; exact (.rowWrite h)

theorem execSrSleepClear {a0 a1} (h : Kept s t) : KeptO s (Machine.execSrSleepClear a0 a1 t) := by
  unfold Machine.execSrSleepClear; exact (.rowWrite h)

theorem execTableLoad {a0 a1} (h : Kept s t) : KeptO s (Machine.execTableLoad a0 a1 t) := by
  unfold Machine.execTableLoad; exact (.rowWrite h)

theorem execTableReadback {a0 a1} (h : Kept s t) : KeptO s (Machine.execTableReadback a0 a1 t) := by
  unfold Machine.execTableReadback; exact (.rowWrite h)

theorem execStrudelConfigWrite {a0 a1 a2} (h : Kept s t) : KeptO s (Machine.execStrudelConfigWrite a0 a1 a2 t) := by
  unfold Machine.execStrudelConfigWrite; exact (.rowWrite h)

theorem execCodecSubmit {a0 a1} (h : Kept s t) : KeptO s (Machine.execCodecSubmit a0 a1 t) := by
  unfold Machine.execCodecSubmit; exact (.rowWrite h)

theorem execEncoderRelease {a0 a1} (h : Kept s t) : KeptO s (Machine.execEncoderRelease a0 a1 t) := by
  unfold Machine.execEncoderRelease; exact (.rowWrite h)

theorem execCoreRun {a0 a1 a2} (h : Kept s t) : KeptO s (Machine.execCoreRun a0 a1 a2 t) := by
  unfold Machine.execCoreRun; exact (.rowWrite h)

theorem execCoreStop {a0 a1 a2} (h : Kept s t) : KeptO s (Machine.execCoreStop a0 a1 a2 t) := by
  unfold Machine.execCoreStop; exact (.rowWrite h)

theorem execMboxWrite {a0 a1 a2} (h : Kept s t) : KeptO s (Machine.execMboxWrite a0 a1 a2 t) := by
  unfold Machine.execMboxWrite; exact (.rowWrite h)

theorem execCoreMemWindowWrite {a0 a1 a2} (h : Kept s t) : KeptO s (Machine.execCoreMemWindowWrite a0 a1 a2 t) := by
  unfold Machine.execCoreMemWindowWrite; exact (.rowWrite h)

theorem execDoorbell {a0 a1 a2 a3} (h : Kept s t) : KeptO s (Machine.execDoorbell a0 a1 a2 a3 t) := by
  unfold Machine.execDoorbell; exact (.rowWrite h)

theorem execQueueRun {a0 a1 a2} (h : Kept s t) : KeptO s (Machine.execQueueRun a0 a1 a2 t) := by
  unfold Machine.execQueueRun; exact (.rowWrite h)

theorem execQueueStop {a0 a1 a2} (h : Kept s t) : KeptO s (Machine.execQueueStop a0 a1 a2 t) := by
  unfold Machine.execQueueStop; exact (.rowWrite h)

theorem execCxlQReset {a0 a1 a2} (h : Kept s t) : KeptO s (Machine.execCxlQReset a0 a1 a2 t) := by
  unfold Machine.execCxlQReset; exact (.rowWrite h)

theorem execMpTbegin {a0} (h : Kept s t) : KeptO s (Machine.execMpTbegin a0 t) := by
  unfold Machine.execMpTbegin; exact (.rowWrite h)

theorem execMpCommit {a0} (h : Kept s t) : KeptO s (Machine.execMpCommit a0 t) := by
  unfold Machine.execMpCommit; exact (.rowWrite h)

theorem execMpAbort {a0} (h : Kept s t) : KeptO s (Machine.execMpAbort a0 t) := by
  unfold Machine.execMpAbort; exact (.rowWrite h)

theorem execMpLock {a0} (h : Kept s t) : KeptO s (Machine.execMpLock a0 t) := by
  unfold Machine.execMpLock; exact (.rowWrite h)

theorem execMpUnlock {a0} (h : Kept s t) : KeptO s (Machine.execMpUnlock a0 t) := by
  unfold Machine.execMpUnlock; exact (.rowWrite h)

theorem execLockBreak {a0 a1} (h : Kept s t) : KeptO s (Machine.execLockBreak a0 a1 t) := by
  unfold Machine.execLockBreak; exact (.rowWrite h)

theorem execLaneEnable {a0 a1 a2} (h : Kept s t) : KeptO s (Machine.execLaneEnable a0 a1 a2 t) := by
  unfold Machine.execLaneEnable; exact (.rowWrite h)

theorem execReenumerate {a0 a1 a2} (h : Kept s t) : KeptO s (Machine.execReenumerate a0 a1 a2 t) := by
  unfold Machine.execReenumerate; exact (.rowWrite h)

theorem execQueueFlush {a0 a1 a2} (h : Kept s t) : KeptO s (Machine.execQueueFlush a0 a1 a2 t) := by
  unfold Machine.execQueueFlush; exact (.rowWrite h)

theorem execSpareForce {a0 a1 a2} (h : Kept s t) : KeptO s (Machine.execSpareForce a0 a1 a2 t) := by
  unfold Machine.execSpareForce; exact (.rowWrite h)

theorem execSpareRelease {a0 a1 a2} (h : Kept s t) : KeptO s (Machine.execSpareRelease a0 a1 a2 t) := by
  unfold Machine.execSpareRelease; exact (.rowWrite h)

theorem execInject {a0 a1 a2} (h : Kept s t) : KeptO s (Machine.execInject a0 a1 a2 t) := by
  unfold Machine.execInject; exact (.rowWrite h)

theorem execRailPowerUp {a0 a1 a2} (h : Kept s t) : KeptO s (Machine.execRailPowerUp a0 a1 a2 t) := by
  unfold Machine.execRailPowerUp; exact (.rowWrite h)

theorem execRailPowerDown {a0 a1 a2} (h : Kept s t) : KeptO s (Machine.execRailPowerDown a0 a1 a2 t) := by
  unfold Machine.execRailPowerDown; exact (.rowWrite h)

theorem execRailForceOn {a0 a1} (h : Kept s t) : KeptO s (Machine.execRailForceOn a0 a1 t) := by
  unfold Machine.execRailForceOn; exact (.rowWrite h)

theorem execRailForceOff {a0 a1} (h : Kept s t) : KeptO s (Machine.execRailForceOff a0 a1 t) := by
  unfold Machine.execRailForceOff; exact (.rowWrite h)

theorem execRailForceRelease {a0 a1} (h : Kept s t) : KeptO s (Machine.execRailForceRelease a0 a1 t) := by
  unfold Machine.execRailForceRelease; exact (.rowWrite h)

theorem execTrippedClear {a0 a1 a2 a3} (h : Kept s t) : KeptO s (Machine.execTrippedClear a0 a1 a2 a3 t) := by
  unfold Machine.execTrippedClear; exact (.rowWrite (.upd h))

theorem execBisRequest {a0 a1 a2} (h : Kept s t) : KeptO s (Machine.execBisRequest a0 a1 a2 t) := by
  unfold Machine.execBisRequest; exact (.rowWrite h)

theorem execJournalScan {a0 a1} (h : Kept s t) : KeptO s (Machine.execJournalScan a0 a1 t) := by
  unfold Machine.execJournalScan; exact (.rowWrite h)

theorem execBonbonEnter {a0 a1} (h : Kept s t) : KeptO s (Machine.execBonbonEnter a0 a1 t) := by
  unfold Machine.execBonbonEnter; exact (.rowWrite h)

theorem execBonbonSend {a0 a1} (h : Kept s t) : KeptO s (Machine.execBonbonSend a0 a1 t) := by
  unfold Machine.execBonbonSend; exact (.rowWrite h)

theorem execBonbonExit {a0 a1} (h : Kept s t) : KeptO s (Machine.execBonbonExit a0 a1 t) := by
  unfold Machine.execBonbonExit; exact (.rowWrite h)

theorem execCalGo {a0 a1} (h : Kept s t) : KeptO s (Machine.execCalGo a0 a1 t) := by
  unfold Machine.execCalGo; exact (.rowWrite h)

theorem execCalSave {a0 a1} (h : Kept s t) : KeptO s (Machine.execCalSave a0 a1 t) := by
  unfold Machine.execCalSave; exact (.rowWrite h)

theorem execCalLoad {a0 a1} (h : Kept s t) : KeptO s (Machine.execCalLoad a0 a1 t) := by
  unfold Machine.execCalLoad; exact (.rowWrite h)

theorem execCalValWrite {a0 a1 a2} (h : Kept s t) : KeptO s (Machine.execCalValWrite a0 a1 a2 t) := by
  unfold Machine.execCalValWrite; exact (.rowWrite h)

theorem execFoldEnable {a0 a1 a2} (h : Kept s t) : KeptO s (Machine.execFoldEnable a0 a1 a2 t) := by
  unfold Machine.execFoldEnable; exact (.rowWrite h)

theorem execFoldDisable {a0 a1 a2} (h : Kept s t) : KeptO s (Machine.execFoldDisable a0 a1 a2 t) := by
  unfold Machine.execFoldDisable; exact (.rowWrite h)

theorem execEvrHeadWrite {a0 a1 a2} (h : Kept s t) : KeptO s (Machine.execEvrHeadWrite a0 a1 a2 t) := by
  unfold Machine.execEvrHeadWrite; exact (.rowWrite h)

theorem execEvrEnable {a0 a1 a2} (h : Kept s t) : KeptO s (Machine.execEvrEnable a0 a1 a2 t) := by
  unfold Machine.execEvrEnable; exact (.rowWrite h)

theorem execKeyLoadBlob {a0 a1} (h : Kept s t) : KeptO s (Machine.execKeyLoadBlob a0 a1 t) := by
  unfold Machine.execKeyLoadBlob; exact (.rowWrite h)

theorem execLcRequest {a0 a1} (h : Kept s t) : KeptO s (Machine.execLcRequest a0 a1 t) := by
  unfold Machine.execLcRequest; exact (.rowWrite h)

theorem execDebugUnlock {a0 a1} (h : Kept s t) : KeptO s (Machine.execDebugUnlock a0 a1 t) := by
  unfold Machine.execDebugUnlock; exact (.rowWrite h)

theorem execRecordWindowWrite {a0 a1 a2} (h : Kept s t) : KeptO s (Machine.execRecordWindowWrite a0 a1 a2 t) := by
  unfold Machine.execRecordWindowWrite; exact (.rowWrite h)

theorem execRecordJob {a0 a1} (h : Kept s t) : KeptO s (Machine.execRecordJob a0 a1 t) := by
  unfold Machine.execRecordJob; exact (.rowWrite h)

theorem execCounterIncrement {a0 a1} (h : Kept s t) : KeptO s (Machine.execCounterIncrement a0 a1 t) := by
  unfold Machine.execCounterIncrement; exact (.rowWrite h)

theorem execNvsErase {a0 a1} (h : Kept s t) : KeptO s (Machine.execNvsErase a0 a1 t) := by
  unfold Machine.execNvsErase; exact (.rowWrite h)

theorem execNvsProgram {a0 a1} (h : Kept s t) : KeptO s (Machine.execNvsProgram a0 a1 t) := by
  unfold Machine.execNvsProgram; exact (.rowWrite h)

theorem execNvsReadSlot {a0 a1} (h : Kept s t) : KeptO s (Machine.execNvsReadSlot a0 a1 t) := by
  unfold Machine.execNvsReadSlot; exact (.rowWrite h)

theorem execNvsReadLog {a0 a1} (h : Kept s t) : KeptO s (Machine.execNvsReadLog a0 a1 t) := by
  unfold Machine.execNvsReadLog; exact (.rowWrite h)

theorem execImageActivate {a0 a1} (h : Kept s t) : KeptO s (Machine.execImageActivate a0 a1 t) := by
  unfold Machine.execImageActivate; exact (.rowWrite h)

theorem execBankPowerRequest {a0 a1 a2} (h : Kept s t) : KeptO s (Machine.execBankPowerRequest a0 a1 a2 t) := by
  unfold Machine.execBankPowerRequest; exact (.rowWrite h)

theorem execMarchStart {a0 a1} (h : Kept s t) : KeptO s (Machine.execMarchStart a0 a1 t) := by
  unfold Machine.execMarchStart; exact (.rowWrite h)

theorem execMarchAbort {a0 a1} (h : Kept s t) : KeptO s (Machine.execMarchAbort a0 a1 t) := by
  unfold Machine.execMarchAbort; exact (.rowWrite h)

theorem execArbApply {a0 a1} (h : Kept s t) : KeptO s (Machine.execArbApply a0 a1 t) := by
  unfold Machine.execArbApply; exact (.rowWrite h)

theorem execCopyStart {a0 a1} (h : Kept s t) : KeptO s (Machine.execCopyStart a0 a1 t) := by
  unfold Machine.execCopyStart; exact (.rowWrite h)

/-! ## Copy -/

theorem unitRead {a1} (h : Kept s t) : Kept s (State.unitRead t a1).2 := by
  unfold State.unitRead; exact (.ite2 (.snd (.draw (a1 := 256) h)) (.snd h))

theorem barBytes {a1} (h : Kept s t) : Kept s (t.barBytes a1).2 :=
  .foldl2 (fun _ _ h => .busRead h) h

theorem barPut {a1 a2} (h : Kept s t) : Kept s (State.barPut t a1 a2) := by
  unfold State.barPut; exact (.foldl (fun _ _ h5 => (.busWrite h5)) h)

theorem copyPiece {a1 a2} (h : Kept s t) : Kept s (State.copyPiece t a1 a2) := by
  unfold State.copyPiece; exact (.ite (.devWrite (.ite2 (.unitRead (a1 := 256 * a1.sLoc + 32 * a2) h) (.barBytes (a1 := 4 * a1.sLoc + 32 * a2) h))) (.barPut (.ite2 (.unitRead (a1 := 256 * a1.sLoc + 32 * a2) h) (.barBytes (a1 := 4 * a1.sLoc + 32 * a2) h))))

theorem execCopyDone {a0 a1 a2} (h : Kept s t) : KeptO s (Machine.execCopyDone a0 a1 a2 t) := by
  unfold Machine.execCopyDone; (try dsimp only); split; exacts [(.next h), (.iteO (.next h) (.iteO (.next (.readGate (a1 := Bool.false) h)) (.seqO (.next (.raise (.setF (.setF (.setF (.setF (.setF (.ite (.refused .refl) (.ite (.deferred .refl) .refl))))))))) (.foldl (fun _ _ h100005 => (.copyPiece h100005)) (.upd (.readGate (a1 := Bool.false) h))))))]

/-! ## Slots -/

theorem giveSeq {a1 a2 a3 a4} (h : Kept s t) : Kept s (State.giveSeq t a1 a2 a3 a4).2 := by
  unfold State.giveSeq; (try dsimp only); split; exacts [(.snd h), (.snd (.setPkt (.setNextSeq h)))]

theorem sendSeg {a1 a2 a3 a4} (h : Kept s t) : Kept s (State.sendSeg t a1 a2 a3 a4).2.2 := by
  unfold State.sendSeg; (try dsimp only); split; exacts [(.snd2 h), (.seq (.seq (.seq (.snd2 (.ite (.boundary .refl) .refl)) (.ite (.setPkt .refl) (.ite (.dropPkt .refl) (.setPkt .refl)))) (.sendPkt .refl)) (.ite (.count (.giveSeq (a1 := a1) (a2 := a2) (a3 := a3) h)) (.giveSeq (a1 := a1) (a2 := a2) (a3 := a3) h)))]

theorem fillFrom {a0 a1 a2 a3 a4 a5} (h : Kept s t) : Kept s (Machine.fillFrom a0 a1 a2 a3 a4 a5 t).2 := by
  induction a4 generalizing t a5 with
  | zero => exact h
  | succ n ih =>
    unfold Machine.fillFrom
    split
    · exact h
    · split
      · exact h
      · dsimp only
        split
        · exact ih (.sendSeg h)
        · exact .sendSeg h

theorem fillShared {a1 a2 a3 a4 a5 a6} (h : Kept s t) : Kept s (Machine.fillShared a1 a2 a3 a4 a5 a6 t) := by
  induction a4 generalizing t a5 a6 with
  | zero => exact h
  | succ n ih =>
    unfold Machine.fillShared
    refine .ite h ?_
    split
    · rename_i e
      have g := ofEq e (.arbRound h)
      split
      · exact g
      · exact ih (.sendSeg g)
    · rename_i e; exact .fillFrom (ofEq e (.arbRound h))

theorem countTimers {a1 a2 a3} (h : Kept s t) : Kept s (State.countTimers t a1 a2 a3) := by
  unfold State.countTimers; exact (.foldl (fun _ _ h5 => (.ite (.setPq h5) h5)) h)

theorem fillSlot {a1 a2 a3 a4 a5} (h : Kept s t) : Kept s (State.fillSlot t a1 a2 a3 a4 a5) := by
  unfold State.fillSlot; exact (.seq (.ite (.fillShared .refl) (.fillFrom .refl)) (.countTimers h))

theorem underrun {a1 a2 a3 a4} (h : Kept s t) : Kept s (State.underrun t a1 a2 a3 a4) := by
  unfold State.underrun; exact (.seq (.setGrp (.upd (.ite .refl (.raiseG .refl)))) (.ite h (.count h)))

theorem bisCodes {a0 a1 a2 a3 a4} (h : Kept s t) : Kept s (Machine.bisCodes a0 a1 a2 a3 a4 t).2 := by
  induction a4 generalizing t with
  | nil => exact h
  | cons x xs ih =>
    unfold Machine.bisCodes
    refine ih ?_
    split
    · exact h
    · exact .bisCode h

theorem sendPix {a1 a2 a3 a4} (h : Kept s t) : Kept s (State.sendPix t a1 a2 a3 a4) := by
  unfold State.sendPix; exact (.seq (.ite (.sendPkt (.bisCodes (a0 := a1) (a1 := (t.grp a1).line) (a2 := (t.grp a1).frame) (a3 := (t.grp a1).tripLine) (a4 := List.map (fun i => t.f (Sys2Proof.Machine.fSLTA_COL0 a2 a3) + i) (List.range (t.f (Sys2Proof.Machine.fSLTA_NCOL a2 a3)))) .refl)) (.sendPkt .refl)) (by (try dsimp only); split; exacts [(.underrun h), h]))

theorem setTxEnd {a1 a2} (h : Kept s t) : Kept s (State.setTxEnd t a1 a2) := by
  unfold State.setTxEnd; exact (.foldl (fun _ _ h5 => (.setLn h5)) h)

theorem sendSlot {a1 a2 a3 a4} (h : Kept s t) : Kept s (State.sendSlot t a1 a2 a3 a4) := by
  unfold State.sendSlot; exact (.ite h (.seq (.seq (.sendCtl (.setTxEnd (.idleChain (.ite (.ite .refl (.sendPix .refl)) (.fillSlot .refl))))) (.sendCtl .refl)) (.setTxEnd (.idleChain h))))

theorem execSlotStart {a0 a1} (h : Kept s t) : KeptO s (Machine.execSlotStart a0 a1 t) := by
  unfold Machine.execSlotStart; (try dsimp only); split; exacts [(.next h), (.iteO (.next h) (.next (.sendSlot (.setLn h))))]

theorem freePkt {a1} (h : Kept s t) : Kept s (State.freePkt t a1).2 := by
  unfold State.freePkt; (try dsimp only); split; exacts [(by rename_i h5; exact (.snd (ofEq h5 (.arbRound h)))), (by rename_i h6; exact (.snd (ofEq h6 (.arbRound h))))]

theorem idle16 {a1} (h : Kept s t) : Kept s (State.idle16 t a1) := by
  unfold State.idle16; exact (.foldl (fun _ _ h5 => (.idleTo h5)) h)

theorem execFreeSlot {a0} (h : Kept s t) : KeptO s (Machine.execFreeSlot a0 t) := by
  unfold Machine.execFreeSlot; (try dsimp only); split; exacts [(.next h), (.iteO (.next h) (by (try dsimp only); split; exacts [(by rename_i h5; exact (.next h)), (by rename_i h6; exact (by (try dsimp only); split; exacts [(.next (ofEq h6 (.freePkt h))), (.next (.sendCtl (.idle16 (.sendSeg (a1 := a0) (a4 := 64) (.sendCtl (.foldl (fun _ _ h100007 => (.idleTo h100007)) (.countTimers (ofEq h6 (.freePkt h)))))))))]))]))]

/-! ## Operands -/

theorem setG {a1 a2 a3} (h : Kept s t) : Kept s (State.setG t a1 a2 a3) := by
  unfold State.setG; exact (.ite h (.setCore h))

theorem issue {o mine run} (h : Kept s t) (hr : ∀ i t, Kept s t → Kept s (run i t)) : KeptO s (t.issue o mine run) := by
  unfold State.issue
  exact .iteO (.next h) (.iteO (.next (.coreFault h)) (.iteO (.next (.coreFault h)) (.iteO (.next h) (.next (hr _ _ (.setCore h))))))

theorem atEnd {a1} (h : Kept s t) : Kept s (State.atEnd t a1) := by
  unfold State.atEnd; (try dsimp only); split; exacts [h, (.ite h (.entryEnd (.setCoreSt (.setCore h))))]

theorem goOn {a1 a2 a3} (h : Kept s t) : Kept s (State.goOn t a1 a2 a3) := by
  unfold State.goOn; exact (.atEnd (.setCore h))

theorem retire {a1 a2} (h : Kept s t) : Kept s (State.retire t a1 a2) := by
  unfold State.retire; exact (.goOn h)

theorem jump {a1 a2} (h : Kept s t) : Kept s (State.jump t a1 a2) := by
  unfold State.jump; exact (.goOn h)

theorem retireHot {a1 a2} (h : Kept s t) : Kept s (State.retireHot t a1 a2) := by
  unfold State.retireHot; exact (.setCore (.retire h))

theorem localRead {a1 a2 v u} (h : Kept s t) (e : t.localRead a1 a2 = some (v, u)) : Kept s u := by
  unfold State.localRead at e
  dsimp only at e
  split at e
  · cases e
  · split at e
    · cases e; exact h
    · split at e <;> cases e <;> first | exact h | exact .setCore h

theorem localWrite {a1 a2 a3 u} (h : Kept s t) (e : t.localWrite a1 a2 a3 = some u) : Kept s u := by
  unfold State.localWrite at e
  split at e
  · cases e
  · split at e
    · cases e; exact .setDmem h
    · split at e
      · cases e; exact .setCore h
      · cases e

/-! ## Flags -/

theorem setFlag {a1 a2 a3} (h : Kept s t) : Kept s (State.setFlag t a1 a2 a3) := by
  unfold State.setFlag; exact (.setCore h)

/-! ## ThoeneAlu -/

theorem aluRun {a0 a1 a2 a3} (h : Kept s t) : Kept s (Machine.aluRun a0 a1 a2 a3 t) := by
  unfold Machine.aluRun; exact (.retire (.setG h))

theorem cmpRun {a0 a1} (h : Kept s t) : Kept s (Machine.cmpRun a0 a1 t) := by
  unfold Machine.cmpRun; exact (.retire (.setFlag h))

theorem execNop {a0} (h : Kept s t) : KeptO s (Machine.execNop a0 t) := by
  unfold Machine.execNop; exact (.issue h (fun _ _ h5 => (.retire h5)))

theorem execAdd {a0} (h : Kept s t) : KeptO s (Machine.execAdd a0 t) := by
  unfold Machine.execAdd; exact (.issue h (fun _ _ h5 => (.aluRun h5)))

theorem execSub {a0} (h : Kept s t) : KeptO s (Machine.execSub a0 t) := by
  unfold Machine.execSub; exact (.issue h (fun _ _ h5 => (.aluRun h5)))

theorem execAnd {a0} (h : Kept s t) : KeptO s (Machine.execAnd a0 t) := by
  unfold Machine.execAnd; exact (.issue h (fun _ _ h5 => (.aluRun h5)))

theorem execOr {a0} (h : Kept s t) : KeptO s (Machine.execOr a0 t) := by
  unfold Machine.execOr; exact (.issue h (fun _ _ h5 => (.aluRun h5)))

theorem execXor {a0} (h : Kept s t) : KeptO s (Machine.execXor a0 t) := by
  unfold Machine.execXor; exact (.issue h (fun _ _ h5 => (.aluRun h5)))

theorem execShl {a0} (h : Kept s t) : KeptO s (Machine.execShl a0 t) := by
  unfold Machine.execShl; exact (.issue h (fun _ _ h5 => (.aluRun h5)))

theorem execShr {a0} (h : Kept s t) : KeptO s (Machine.execShr a0 t) := by
  unfold Machine.execShr; exact (.issue h (fun _ _ h5 => (.aluRun h5)))

theorem execSra {a0} (h : Kept s t) : KeptO s (Machine.execSra a0 t) := by
  unfold Machine.execSra; exact (.issue h (fun _ _ h5 => (.aluRun h5)))

theorem execMin {a0} (h : Kept s t) : KeptO s (Machine.execMin a0 t) := by
  unfold Machine.execMin; exact (.issue h (fun _ _ h5 => (.aluRun h5)))

theorem execMax {a0} (h : Kept s t) : KeptO s (Machine.execMax a0 t) := by
  unfold Machine.execMax; exact (.issue h (fun _ _ h5 => (.aluRun h5)))

theorem execMul16 {a0} (h : Kept s t) : KeptO s (Machine.execMul16 a0 t) := by
  unfold Machine.execMul16; exact (.issue h (fun _ _ h5 => (.retireHot (.setG h5))))

theorem execCmp {a0} (h : Kept s t) : KeptO s (Machine.execCmp a0 t) := by
  unfold Machine.execCmp; exact (.issue h (fun _ _ h5 => (.cmpRun h5)))

theorem execLdi {a0} (h : Kept s t) : KeptO s (Machine.execLdi a0 t) := by
  unfold Machine.execLdi; exact (.issue h (fun _ _ h5 => (.aluRun h5)))

theorem execLui {a0} (h : Kept s t) : KeptO s (Machine.execLui a0 t) := by
  unfold Machine.execLui; exact (.issue h (fun _ _ h5 => (.aluRun h5)))

/-! ## ThoeneFlow -/

theorem branchRun {a0 a1} (h : Kept s t) : Kept s (Machine.branchRun a0 a1 t) := by
  unfold Machine.branchRun; exact (.ite (.jump h) (.retire h))

theorem execBeq {a0} (h : Kept s t) : KeptO s (Machine.execBeq a0 t) := by
  unfold Machine.execBeq; exact (.issue h (fun _ _ h5 => (.branchRun h5)))

theorem execBne {a0} (h : Kept s t) : KeptO s (Machine.execBne a0 t) := by
  unfold Machine.execBne; exact (.issue h (fun _ _ h5 => (.branchRun h5)))

theorem execBlt {a0} (h : Kept s t) : KeptO s (Machine.execBlt a0 t) := by
  unfold Machine.execBlt; exact (.issue h (fun _ _ h5 => (.branchRun h5)))

theorem execBge {a0} (h : Kept s t) : KeptO s (Machine.execBge a0 t) := by
  unfold Machine.execBge; exact (.issue h (fun _ _ h5 => (.branchRun h5)))

theorem execJ {a0} (h : Kept s t) : KeptO s (Machine.execJ a0 t) := by
  unfold Machine.execJ; exact (.issue h (fun _ _ h5 => (.jump h5)))

theorem execCall {a0} (h : Kept s t) : KeptO s (Machine.execCall a0 t) := by
  unfold Machine.execCall; exact (.issue h (fun _ _ h5 => (.ite (.coreFault h5) (.jump (.setCore h5)))))

theorem execRet {a0} (h : Kept s t) : KeptO s (Machine.execRet a0 t) := by
  unfold Machine.execRet; exact (.issue h (fun _ _ h5 => (by (try dsimp only); split; exacts [(.coreFault h5), (.jump (.setCore h5))])))

theorem execHalt {a0} (h : Kept s t) : KeptO s (Machine.execHalt a0 t) := by
  unfold Machine.execHalt; exact (.issue h (fun _ _ h5 => (.seq (.setCoreSt (.ownerFail (.ite (.setNoServe (.entryEnd .refl)) .refl))) (.setCore h5))))

theorem execReservedOpcode {a0} (h : Kept s t) : KeptO s (Machine.execReservedOpcode a0 t) := by
  unfold Machine.execReservedOpcode; exact (.iteO (.next h) (.iteO (.next (.coreFault h)) (.iteO (.next (.coreFault h)) (.next h))))

theorem execWatchdogExpiry {a0} (h : Kept s t) : KeptO s (Machine.execWatchdogExpiry a0 t) := by
  unfold Machine.execWatchdogExpiry; exact (.iteO (.next (.coreFault h)) (.next h))

theorem execPfVector  (h : Kept s t) : KeptO s (Machine.execPfVector t) := by
  unfold Machine.execPfVector; exact (.iteO (.next (.wakeBanks (.foldl (fun _ _ h5 => (.pfVector h5)) h))) (.next h))

/-! ## ThoeneMem -/

theorem execLd {a0} (h : Kept s t) : KeptO s (Machine.execLd a0 t) := by
  unfold Machine.execLd
  refine .issue h fun i t h => ?_
  split
  · exact .coreFault h
  · rename_i e; exact .retireHot (.setG (.localRead h e))

theorem execSt {a0} (h : Kept s t) : KeptO s (Machine.execSt a0 t) := by
  unfold Machine.execSt
  refine .issue h fun i t h => ?_
  split
  · exact .coreFault h
  · rename_i e; exact .retire (.localWrite h e)

theorem ldxRun {a0 a1} (h : Kept s t) : Kept s (Machine.ldxRun a0 a1 t) := by
  unfold Machine.ldxRun; exact (.ite (.coreFault h) (.ite (.setCore h) (.retire (.setG (.busRead (a1 := Sys2Proof.Req.core a0) (a2 := t.address a0 a1) h)))))

theorem stxRun {a0 a1} (h : Kept s t) : Kept s (Machine.stxRun a0 a1 t) := by
  unfold Machine.stxRun; exact (.ite (.coreFault h) (.ite h (.seq (.ite (.retire .refl) .refl) (.busWrite h))))

theorem execLdx {a0} (h : Kept s t) : KeptO s (Machine.execLdx a0 t) := by
  unfold Machine.execLdx; exact (.issue h (fun _ _ h5 => (.ldxRun h5)))

theorem execStx {a0} (h : Kept s t) : KeptO s (Machine.execStx a0 t) := by
  unfold Machine.execStx; exact (.issue h (fun _ _ h5 => (.stxRun h5)))

theorem execLdxDone {a0} (h : Kept s t) : KeptO s (Machine.execLdxDone a0 t) := by
  unfold Machine.execLdxDone; (try dsimp only); split; exacts [(.next (.retire (.setG (.busRead (a1 := Sys2Proof.Req.core a0) h)))), (.next h)]

/-! ## ThoeneWait -/

theorem waitDone {a1 a2 a3} (h : Kept s t) : Kept s (State.waitDone t a1 a2 a3) := by
  unfold State.waitDone; exact (.retire (.setCore (.setCoreSt (.setFlag h))))

theorem park {a1 a2} (h : Kept s t) : Kept s (State.park t a1 a2) := by
  unfold State.park; exact (.setCoreSt (.setCore h))

theorem lineStart {a1} (h : Kept s t) : Kept s (State.lineStart t a1).2 := by
  unfold State.lineStart; exact (.ite2 (.snd h) (.draw h))

theorem execWaitl {a0} (h : Kept s t) : KeptO s (Machine.execWaitl a0 t) := by
  unfold Machine.execWaitl; exact (.issue h (fun _ _ h5 => (.ite h5 (.ite (.waitDone h5) (.park h5)))))

theorem execWaitlDone {a0} (h : Kept s t) : KeptO s (Machine.execWaitlDone a0 t) := by
  unfold Machine.execWaitlDone; (try dsimp only); split; exacts [(.next (.waitDone h)), (.next h)]

theorem execWaitc {a0} (h : Kept s t) : KeptO s (Machine.execWaitc a0 t) := by
  unfold Machine.execWaitc; exact (.issue h (fun _ _ h5 => (.ite (.waitDone h5) (.park h5))))

theorem execWaitcDone {a0} (h : Kept s t) : KeptO s (Machine.execWaitcDone a0 t) := by
  unfold Machine.execWaitcDone; (try dsimp only); split; exacts [(by (try dsimp only); split; exacts [(.next (.waitDone h)), (.iteO (.next (.waitDone h)) (.next h))]), (.next h)]

theorem execWaite {a0} (h : Kept s t) : KeptO s (Machine.execWaite a0 t) := by
  unfold Machine.execWaite; exact (.issue h (fun _ _ h5 => (.ite (.waitDone (.putBit h5)) (.park h5))))

theorem waitExpire {a1 a2 a3 a4} (h : Kept s t) : Kept s (State.waitExpire t a1 a2 a3 a4) := by
  unfold State.waitExpire; exact (.setCore (.waitDone h))

theorem execWaiteDone {a0} (h : Kept s t) : KeptO s (Machine.execWaiteDone a0 t) := by
  unfold Machine.execWaiteDone; (try dsimp only); split; exacts [(by (try dsimp only); split; exacts [(.next (.waitDone h)), (.iteO (.next (.waitExpire h)) (.next h)), (.next h)]), (.next h)]

theorem waittRun {a0 a1} (h : Kept s t) : Kept s (Machine.waittRun a0 a1 t) := by
  unfold Machine.waittRun; exact (.ite (.waitDone (by (try dsimp only); split; exacts [(.snd h), (.snd (.lineStart (a1 := t.coreGroup a0) h)), (.snd h)])) (.park (by (try dsimp only); split; exacts [(.snd h), (.snd (.lineStart (a1 := t.coreGroup a0) h)), (.snd h)])))

theorem execWaitt {a0} (h : Kept s t) : KeptO s (Machine.execWaitt a0 t) := by
  unfold Machine.execWaitt; exact (.issue h (fun _ _ h5 => (.waittRun h5)))

theorem execWaittDone {a0} (h : Kept s t) : KeptO s (Machine.execWaittDone a0 t) := by
  unfold Machine.execWaittDone; (try dsimp only); split; exacts [(.iteO (.next (.waitDone h)) (.next h)), (.next h)]

theorem fenceEnd {a1} (h : Kept s t) : Kept s (State.fenceEnd t a1) := by
  unfold State.fenceEnd; exact (.retire (.setCoreSt h))

theorem execFence {a0} (h : Kept s t) : KeptO s (Machine.execFence a0 t) := by
  unfold Machine.execFence; exact (.issue h (fun _ _ h5 => (.ite (.retire h5) (.park h5))))

theorem execFenceDone {a0} (h : Kept s t) : KeptO s (Machine.execFenceDone a0 t) := by
  unfold Machine.execFenceDone; (try dsimp only); split; exacts [(.iteO (.next (.fenceEnd h)) (.next h)), (.next h)]

theorem execLForm {a0} (h : Kept s t) : KeptO s (Machine.execLForm a0 t) := by
  unfold Machine.execLForm; exact (.issue h (fun _ _ h5 => (by (try dsimp only); split; exacts [(.aluRun h5), (.aluRun h5), (.aluRun h5), (.aluRun h5), (.aluRun h5), (.aluRun h5), (.aluRun h5), (.cmpRun h5), (.ldxRun h5), (.stxRun h5), (.waittRun h5)])))

/-! ## ThoeneEmit -/

theorem emitRun {a0 a1 a2} (h : Kept s t) : Kept s (Machine.emitRun a0 a1 a2 t) := by
  unfold Machine.emitRun; (try dsimp only); split; exacts [(.coreFault h), (.ite (.coreFault h) (.ite (.retire (.setFlag h)) (by (try dsimp only); split; exacts [(by rename_i h100005; exact (.retire (.setFlag (ofEq h100005 (.enqueue (a1 := Sys2Proof.Machine.bitsOf (BitVec.toNat (t.gw a0 a2.b)) 11 4) (a2 := BitVec.toNat (t.gw a0 a2.b) % 16) (.ite (.partnerReset h) h)))))), (by rename_i h100006; exact (.retire (.setFlag (ofEq h100006 (.enqueue (a1 := Sys2Proof.Machine.bitsOf (BitVec.toNat (t.gw a0 a2.b)) 11 4) (a2 := BitVec.toNat (t.gw a0 a2.b) % 16) (.ite (.partnerReset h) h))))))])))]

theorem execEmit {a0 a1} (h : Kept s t) : KeptO s (Machine.execEmit a0 a1 t) := by
  unfold Machine.execEmit; exact (.issue h (fun _ _ h5 => (.emitRun h5)))

theorem gateRun {a0 a1 a2 a3} (h : Kept s t) : Kept s (Machine.gateRun a0 a1 a2 a3 t) := by
  unfold Machine.gateRun; exact (.ite (.coreFault h) (.ite h (.ite h (.retire (.foldl (fun _ _ h100005 => (.schedule h100005)) (.ite2 (.snd h) (.lineStart (a1 := t.coreGroup a0) h)))))))

theorem execGset {a0} (h : Kept s t) : KeptO s (Machine.execGset a0 t) := by
  unfold Machine.execGset; exact (.issue h (fun _ _ h5 => (.gateRun h5)))

theorem execGclr {a0} (h : Kept s t) : KeptO s (Machine.execGclr a0 t) := by
  unfold Machine.execGclr; exact (.issue h (fun _ _ h5 => (.gateRun h5)))

theorem execGpulse {a0} (h : Kept s t) : KeptO s (Machine.execGpulse a0 t) := by
  unfold Machine.execGpulse; exact (.issue h (fun _ _ h5 => (.gateRun h5)))

theorem execEvent {a0} (h : Kept s t) : KeptO s (Machine.execEvent a0 t) := by
  unfold Machine.execEvent; exact (.issue h (fun _ _ h5 => (.ite h5 (.retire (.raise h5)))))

/-! ## ThoeneTxn -/

theorem commitFrom {a1 a2} (h : Kept s t) : Kept s (State.commitFrom t a1 a2) := by
  unfold State.commitFrom; exact (.ite (.arriveCommit h) (by (try dsimp only); split; exacts [(.setEntry (.upd h)), (.upd h)]))

theorem lockRound {a1 a2} (h : Kept s t) : Kept s (State.lockRound t a1 a2).2 := by
  unfold State.lockRound
  split
  rename_i e
  exact .ite2 (.snd (ofEq e (.arbRound h))) (.snd h)

theorem lockRun {a0 a1 a2 a3} (h : Kept s t) : Kept s (Machine.lockRun a0 a1 a2 a3 t) := by
  unfold Machine.lockRun; (try dsimp only); split; exacts [(by rename_i h5; exact (ofEq h5 (.ite2 (.lockRound h) (.snd h)))), (by rename_i h6; exact (.retire (.setFlag (.setG (.lockTake (a1 := t.owner a0) (a2 := a3) (ofEq h6 (.ite2 (.lockRound h) (.snd h))))))))]

theorem txnRun {a0 a1 a2 a3 a4} (h : Kept s t) : Kept s (Machine.txnRun a0 a1 a2 a3 a4 t) := by
  unfold Machine.txnRun; (try dsimp only); split; exacts [(.retire (.setFlag (.txnBegin (a1 := t.owner a0) h))), (.ite h (by (try dsimp only); split; exacts [(by rename_i h5; exact (.retire (.setFlag (.setG (ofEq h5 (.txnCommit h)))))), (by rename_i h6; exact (.seq (.ite (.retire .refl) .refl) (.setFlag (.setG (.commitFrom (ofEq h6 (.txnCommit h)))))))])), (.retire (.txnAbort h)), (.lockRun h), (.retire (.setFlag (.lockFree (a1 := t.owner a0) (a2 := a3 % 1024) h)))]

theorem txnIssue {a0 a1} (h : Kept s t) : Kept s (Machine.txnIssue a0 a1 t) := by
  unfold Machine.txnIssue; exact (.ite (.coreFault h) (.ite (.setCore h) (.txnRun h)))

theorem execTbegin {a0} (h : Kept s t) : KeptO s (Machine.execTbegin a0 t) := by
  unfold Machine.execTbegin; exact (.issue h (fun _ _ h5 => (.txnIssue h5)))

theorem execCommit {a0} (h : Kept s t) : KeptO s (Machine.execCommit a0 t) := by
  unfold Machine.execCommit; exact (.issue h (fun _ _ h5 => (.txnIssue h5)))

theorem execAbort {a0} (h : Kept s t) : KeptO s (Machine.execAbort a0 t) := by
  unfold Machine.execAbort; exact (.issue h (fun _ _ h5 => (.txnIssue h5)))

theorem execLock {a0} (h : Kept s t) : KeptO s (Machine.execLock a0 t) := by
  unfold Machine.execLock; exact (.issue h (fun _ _ h5 => (.txnIssue h5)))

theorem execUnlock {a0} (h : Kept s t) : KeptO s (Machine.execUnlock a0 t) := by
  unfold Machine.execUnlock; exact (.issue h (fun _ _ h5 => (.txnIssue h5)))

theorem execLockTxnReply {a0} (h : Kept s t) : KeptO s (Machine.execLockTxnReply a0 t) := by
  unfold Machine.execLockTxnReply; (try dsimp only); split; exacts [(.next (.txnRun h)), (.next h)]

/-! ## Tick -/

theorem dogCycle {a1} (h : Kept s t) : Kept s (State.dogCycle t a1) := by
  unfold State.dogCycle; exact (.ite (.setCore h) h)

theorem tick  (h : Kept s t) : Kept s (State.tick t) := by
  unfold State.tick; exact (.ite h (.foldl (fun _ _ h5 => (.ite h5 (.dogCycle h5))) (.setOn (.upd h))))

end Sys2Proof.Machine.Kept
end

