-- ==== Sys2Proof/Laws/KeptExec.lean ====
section
/-!
SUPPORT. No command touches the queue or breaks a canonical form.
-/
set_option Elab.async false
namespace Sys2Proof.Machine.Kept

/-- Whatever a command does, the queue stands as exec found it and the canonical forms are kept. -/
theorem exec (c : Instr) (s : State) : KeptO s (Machine.exec c s) := by
  cases c
  case regWrite => rw [exec_regWrite]; exact .execRegWrite .refl
  case porstAssert => rw [exec_porstAssert]; exact .execPorstAssert .refl
  case porstDeassert => rw [exec_porstDeassert]; exact .execPorstDeassert .refl
  case stageComplete => rw [exec_stageComplete]; exact .execStageComplete .refl
  case stageTimeout => rw [exec_stageTimeout]; exact .execStageTimeout .refl
  case pllRetry => rw [exec_pllRetry]; exact .execPllRetry .refl
  case flitReceive => rw [exec_flitReceive]; exact .execFlitReceive .refl
  case flitSlot => rw [exec_flitSlot]; exact .execFlitSlot .refl
  case replayTimeout => rw [exec_replayTimeout]; exact .execReplayTimeout .refl
  case laneGroupRetrain => rw [exec_laneGroupRetrain]; exact .execLaneGroupRetrain .refl
  case retrainDone => rw [exec_retrainDone]; exact .execRetrainDone .refl
  case linkMgmtFlit => rw [exec_linkMgmtFlit]; exact .execLinkMgmtFlit .refl
  case clockSourceLoss => rw [exec_clockSourceLoss]; exact .execClockSourceLoss .refl
  case clockSourceReturn => rw [exec_clockSourceReturn]; exact .execClockSourceReturn .refl
  case tsyncSend => rw [exec_tsyncSend]; exact .execTsyncSend .refl
  case tsyncSample => rw [exec_tsyncSample]; exact .execTsyncSample .refl
  case tsyncHoldover => rw [exec_tsyncHoldover]; exact .execTsyncHoldover .refl
  case evtTimeLoRead => rw [exec_evtTimeLoRead]; exact .execEvtTimeLoRead .refl
  case eventMergeArrival => rw [exec_eventMergeArrival]; exact .execEventMergeArrival .refl
  case eventRelease => rw [exec_eventRelease]; exact .execEventRelease .refl
  case groupRun => rw [exec_groupRun]; exact .execGroupRun .refl
  case groupStop => rw [exec_groupStop]; exact .execGroupStop .refl
  case groupResume => rw [exec_groupResume]; exact .execGroupResume .refl
  case groupEnterStopped => rw [exec_groupEnterStopped]; exact .execGroupEnterStopped .refl
  case lineStart => rw [exec_lineStart]; exact .execLineStart .refl
  case syncoutPulseEnd => rw [exec_syncoutPulseEnd]; exact .execSyncoutPulseEnd .refl
  case cutoff => rw [exec_cutoff]; exact .execCutoff .refl
  case latch => rw [exec_latch]; exact .execLatch .refl
  case commitArrival => rw [exec_commitArrival]; exact .execCommitArrival .refl
  case syncinEdge => rw [exec_syncinEdge]; exact .execSyncinEdge .refl
  case teEdge => rw [exec_teEdge]; exact .execTeEdge .refl
  case teWaitBegin => rw [exec_teWaitBegin]; exact .execTeWaitBegin .refl
  case teTimeout => rw [exec_teTimeout]; exact .execTeTimeout .refl
  case slotStart => rw [exec_slotStart]; exact .execSlotStart .refl
  case tmgFrameLoRead => rw [exec_tmgFrameLoRead]; exact .execTmgFrameLoRead .refl
  case tmgLatchLoRead => rw [exec_tmgLatchLoRead]; exact .execTmgLatchLoRead .refl
  case srSleepSet => rw [exec_srSleepSet]; exact .execSrSleepSet .refl
  case srSleepClear => rw [exec_srSleepClear]; exact .execSrSleepClear .refl
  case pipeSpan => rw [exec_pipeSpan]; exact .execPipeSpan .refl
  case tableLoad => rw [exec_tableLoad]; exact .execTableLoad .refl
  case tableReadback => rw [exec_tableReadback]; exact .execTableReadback .refl
  case tldDone => rw [exec_tldDone]; exact .execTldDone .refl
  case fstReadDone => rw [exec_fstReadDone]; exact .execFstReadDone .refl
  case scrubRead => rw [exec_scrubRead]; exact .execScrubRead .refl
  case refreshInterval => rw [exec_refreshInterval]; exact .execRefreshInterval .refl
  case stackIdle => rw [exec_stackIdle]; exact .execStackIdle .refl
  case stackExitDone => rw [exec_stackExitDone]; exact .execStackExitDone .refl
  case strudelConfigWrite => rw [exec_strudelConfigWrite]; exact .execStrudelConfigWrite .refl
  case codecSubmit => rw [exec_codecSubmit]; exact .execCodecSubmit .refl
  case codecEncode => rw [exec_codecEncode]; exact .execCodecEncode .refl
  case codecRelease => rw [exec_codecRelease]; exact .execCodecRelease .refl
  case codecBlockDone => rw [exec_codecBlockDone]; exact .execCodecBlockDone .refl
  case cellRelease => rw [exec_cellRelease]; exact .execCellRelease .refl
  case encoderRelease => rw [exec_encoderRelease]; exact .execEncoderRelease .refl
  case blockFetchDone => rw [exec_blockFetchDone]; exact .execBlockFetchDone .refl
  case tileFetchTimeout => rw [exec_tileFetchTimeout]; exact .execTileFetchTimeout .refl
  case blockDecodeDone => rw [exec_blockDecodeDone]; exact .execBlockDecodeDone .refl
  case nop => rw [exec_nop]; exact .execNop .refl
  case add => rw [exec_add]; exact .execAdd .refl
  case sub => rw [exec_sub]; exact .execSub .refl
  case and => rw [exec_and]; exact .execAnd .refl
  case or => rw [exec_or]; exact .execOr .refl
  case xor => rw [exec_xor]; exact .execXor .refl
  case shl => rw [exec_shl]; exact .execShl .refl
  case shr => rw [exec_shr]; exact .execShr .refl
  case sra => rw [exec_sra]; exact .execSra .refl
  case min => rw [exec_min]; exact .execMin .refl
  case max => rw [exec_max]; exact .execMax .refl
  case mul16 => rw [exec_mul16]; exact .execMul16 .refl
  case cmp => rw [exec_cmp]; exact .execCmp .refl
  case ldi => rw [exec_ldi]; exact .execLdi .refl
  case lui => rw [exec_lui]; exact .execLui .refl
  case lForm => rw [exec_lForm]; exact .execLForm .refl
  case beq => rw [exec_beq]; exact .execBeq .refl
  case bne => rw [exec_bne]; exact .execBne .refl
  case blt => rw [exec_blt]; exact .execBlt .refl
  case bge => rw [exec_bge]; exact .execBge .refl
  case j => rw [exec_j]; exact .execJ .refl
  case call => rw [exec_call]; exact .execCall .refl
  case ret => rw [exec_ret]; exact .execRet .refl
  case ld => rw [exec_ld]; exact .execLd .refl
  case st => rw [exec_st]; exact .execSt .refl
  case ldx => rw [exec_ldx]; exact .execLdx .refl
  case ldxDone => rw [exec_ldxDone]; exact .execLdxDone .refl
  case stx => rw [exec_stx]; exact .execStx .refl
  case waitl => rw [exec_waitl]; exact .execWaitl .refl
  case waitlDone => rw [exec_waitlDone]; exact .execWaitlDone .refl
  case waitc => rw [exec_waitc]; exact .execWaitc .refl
  case waitcDone => rw [exec_waitcDone]; exact .execWaitcDone .refl
  case waite => rw [exec_waite]; exact .execWaite .refl
  case waiteDone => rw [exec_waiteDone]; exact .execWaiteDone .refl
  case waitt => rw [exec_waitt]; exact .execWaitt .refl
  case waittDone => rw [exec_waittDone]; exact .execWaittDone .refl
  case fence => rw [exec_fence]; exact .execFence .refl
  case fenceDone => rw [exec_fenceDone]; exact .execFenceDone .refl
  case emit => rw [exec_emit]; exact .execEmit .refl
  case gset => rw [exec_gset]; exact .execGset .refl
  case gclr => rw [exec_gclr]; exact .execGclr .refl
  case gpulse => rw [exec_gpulse]; exact .execGpulse .refl
  case gtoEdgePlace => rw [exec_gtoEdgePlace]; exact .execGtoEdgePlace .refl
  case tbegin => rw [exec_tbegin]; exact .execTbegin .refl
  case commit => rw [exec_commit]; exact .execCommit .refl
  case abort => rw [exec_abort]; exact .execAbort .refl
  case lock => rw [exec_lock]; exact .execLock .refl
  case unlock => rw [exec_unlock]; exact .execUnlock .refl
  case event => rw [exec_event]; exact .execEvent .refl
  case halt => rw [exec_halt]; exact .execHalt .refl
  case watchdogExpiry => rw [exec_watchdogExpiry]; exact .execWatchdogExpiry .refl
  case pfVector => rw [exec_pfVector]; exact .execPfVector .refl
  case coreRun => rw [exec_coreRun]; exact .execCoreRun .refl
  case coreStop => rw [exec_coreStop]; exact .execCoreStop .refl
  case mboxWrite => rw [exec_mboxWrite]; exact .execMboxWrite .refl
  case coreMemWindowWrite => rw [exec_coreMemWindowWrite]; exact .execCoreMemWindowWrite .refl
  case doorbell => rw [exec_doorbell]; exact .execDoorbell .refl
  case entryTake => rw [exec_entryTake]; exact .execEntryTake .refl
  case entryFetchDone => rw [exec_entryFetchDone]; exact .execEntryFetchDone .refl
  case trailerCheckDone => rw [exec_trailerCheckDone]; exact .execTrailerCheckDone .refl
  case entryRelease => rw [exec_entryRelease]; exact .execEntryRelease .refl
  case queueRun => rw [exec_queueRun]; exact .execQueueRun .refl
  case queueStop => rw [exec_queueStop]; exact .execQueueStop .refl
  case cxlQReset => rw [exec_cxlQReset]; exact .execCxlQReset .refl
  case commitResultReport => rw [exec_commitResultReport]; exact .execCommitResultReport .refl
  case mpTbegin => rw [exec_mpTbegin]; exact .execMpTbegin .refl
  case mpCommit => rw [exec_mpCommit]; exact .execMpCommit .refl
  case mpAbort => rw [exec_mpAbort]; exact .execMpAbort .refl
  case mpLock => rw [exec_mpLock]; exact .execMpLock .refl
  case mpUnlock => rw [exec_mpUnlock]; exact .execMpUnlock .refl
  case mpTargetReset => rw [exec_mpTargetReset]; exact .execMpTargetReset .refl
  case lockBreak => rw [exec_lockBreak]; exact .execLockBreak .refl
  case laneEnable => rw [exec_laneEnable]; exact .execLaneEnable .refl
  case blockLockGained => rw [exec_blockLockGained]; exact .execBlockLockGained .refl
  case blockLockLost => rw [exec_blockLockLost]; exact .execBlockLockLost .refl
  case invalidBlock => rw [exec_invalidBlock]; exact .execInvalidBlock .refl
  case alignSend => rw [exec_alignSend]; exact .execAlignSend .refl
  case alignReturn => rw [exec_alignReturn]; exact .execAlignReturn .refl
  case enumSend => rw [exec_enumSend]; exact .execEnumSend .refl
  case enumReturn => rw [exec_enumReturn]; exact .execEnumReturn .refl
  case ackReceive => rw [exec_ackReceive]; exact .execAckReceive .refl
  case nakReceive => rw [exec_nakReceive]; exact .execNakReceive .refl
  case rdrReceive => rw [exec_rdrReceive]; exact .execRdrReceive .refl
  case snsReceive => rw [exec_snsReceive]; exact .execSnsReceive .refl
  case retryTimeout => rw [exec_retryTimeout]; exact .execRetryTimeout .refl
  case freeSlot => rw [exec_freeSlot]; exact .execFreeSlot .refl
  case reenumerate => rw [exec_reenumerate]; exact .execReenumerate .refl
  case queueFlush => rw [exec_queueFlush]; exact .execQueueFlush .refl
  case txSleep => rw [exec_txSleep]; exact .execTxSleep .refl
  case txWake => rw [exec_txWake]; exact .execTxWake .refl
  case txWakeDone => rw [exec_txWakeDone]; exact .execTxWakeDone .refl
  case rxSleep => rw [exec_rxSleep]; exact .execRxSleep .refl
  case rxWake => rw [exec_rxWake]; exact .execRxWake .refl
  case spareAutoSwitch => rw [exec_spareAutoSwitch]; exact .execSpareAutoSwitch .refl
  case txDriverFault => rw [exec_txDriverFault]; exact .execTxDriverFault .refl
  case spareForce => rw [exec_spareForce]; exact .execSpareForce .refl
  case spareRelease => rw [exec_spareRelease]; exact .execSpareRelease .refl
  case spareSwitchTimeout => rw [exec_spareSwitchTimeout]; exact .execSpareSwitchTimeout .refl
  case failedRetry => rw [exec_failedRetry]; exact .execFailedRetry .refl
  case inject => rw [exec_inject]; exact .execInject .refl
  case injectRepeat => rw [exec_injectRepeat]; exact .execInjectRepeat .refl
  case upqDataRead => rw [exec_upqDataRead]; exact .execUpqDataRead .refl
  case upqPop => rw [exec_upqPop]; exact .execUpqPop .refl
  case railPowerUp => rw [exec_railPowerUp]; exact .execRailPowerUp .refl
  case railPowerDown => rw [exec_railPowerDown]; exact .execRailPowerDown .refl
  case railOnDelay => rw [exec_railOnDelay]; exact .execRailOnDelay .refl
  case railOffDelay => rw [exec_railOffDelay]; exact .execRailOffDelay .refl
  case railgoodEdge => rw [exec_railgoodEdge]; exact .execRailgoodEdge .refl
  case railTimeout => rw [exec_railTimeout]; exact .execRailTimeout .refl
  case railForceOn => rw [exec_railForceOn]; exact .execRailForceOn .refl
  case railForceOff => rw [exec_railForceOff]; exact .execRailForceOff .refl
  case railForceRelease => rw [exec_railForceRelease]; exact .execRailForceRelease .refl
  case pfTrip => rw [exec_pfTrip]; exact .execPfTrip .refl
  case pfDischarge => rw [exec_pfDischarge]; exact .execPfDischarge .refl
  case trippedClear => rw [exec_trippedClear]; exact .execTrippedClear .refl
  case panelTempPoll => rw [exec_panelTempPoll]; exact .execPanelTempPoll .refl
  case panelTempReadDone => rw [exec_panelTempReadDone]; exact .execPanelTempReadDone .refl
  case bisRequest => rw [exec_bisRequest]; exact .execBisRequest .refl
  case bisBlockFetchDone => rw [exec_bisBlockFetchDone]; exact .execBisBlockFetchDone .refl
  case journalScan => rw [exec_journalScan]; exact .execJournalScan .refl
  case bonbonEnter => rw [exec_bonbonEnter]; exact .execBonbonEnter .refl
  case bonbonSend => rw [exec_bonbonSend]; exact .execBonbonSend .refl
  case bonbonExit => rw [exec_bonbonExit]; exact .execBonbonExit .refl
  case calPeriod => rw [exec_calPeriod]; exact .execCalPeriod .refl
  case calGo => rw [exec_calGo]; exact .execCalGo .refl
  case calApply => rw [exec_calApply]; exact .execCalApply .refl
  case calRunTimeout => rw [exec_calRunTimeout]; exact .execCalRunTimeout .refl
  case calValWrite => rw [exec_calValWrite]; exact .execCalValWrite .refl
  case calSave => rw [exec_calSave]; exact .execCalSave .refl
  case calLoad => rw [exec_calLoad]; exact .execCalLoad .refl
  case calTsLoRead => rw [exec_calTsLoRead]; exact .execCalTsLoRead .refl
  case tempSensorUpdate => rw [exec_tempSensorUpdate]; exact .execTempSensorUpdate .refl
  case railMonitorUpdate => rw [exec_railMonitorUpdate]; exact .execRailMonitorUpdate .refl
  case foldEnable => rw [exec_foldEnable]; exact .execFoldEnable .refl
  case foldDisable => rw [exec_foldDisable]; exact .execFoldDisable .refl
  case foldWritesDone => rw [exec_foldWritesDone]; exact .execFoldWritesDone .refl
  case foldReplayDone => rw [exec_foldReplayDone]; exact .execFoldReplayDone .refl
  case foldRetry => rw [exec_foldRetry]; exact .execFoldRetry .refl
  case hostHotReset => rw [exec_hostHotReset]; exact .execHostHotReset .refl
  case perstAssert => rw [exec_perstAssert]; exact .execPerstAssert .refl
  case linkLoss => rw [exec_linkLoss]; exact .execLinkLoss .refl
  case linkUp => rw [exec_linkUp]; exact .execLinkUp .refl
  case flr => rw [exec_flr]; exact .execFlr .refl
  case cxlReset => rw [exec_cxlReset]; exact .execCxlReset .refl
  case cxlCacheAvailable => rw [exec_cxlCacheAvailable]; exact .execCxlCacheAvailable .refl
  case cxlCacheUnavailable => rw [exec_cxlCacheUnavailable]; exact .execCxlCacheUnavailable .refl
  case hdmCommit => rw [exec_hdmCommit]; exact .execHdmCommit .refl
  case cxlmemRead => rw [exec_cxlmemRead]; exact .execCxlmemRead .refl
  case cxlmemWrite => rw [exec_cxlmemWrite]; exact .execCxlmemWrite .refl
  case biResponse => rw [exec_biResponse]; exact .execBiResponse .refl
  case biTimeout => rw [exec_biTimeout]; exact .execBiTimeout .refl
  case cacheReadDone => rw [exec_cacheReadDone]; exact .execCacheReadDone .refl
  case cacheReadTimeout => rw [exec_cacheReadTimeout]; exact .execCacheReadTimeout .refl
  case cdatRead => rw [exec_cdatRead]; exact .execCdatRead .refl
  case identifyMemoryDevice => rw [exec_identifyMemoryDevice]; exact .execIdentifyMemoryDevice .refl
  case getSupportedLogs => rw [exec_getSupportedLogs]; exact .execGetSupportedLogs .refl
  case getLog => rw [exec_getLog]; exact .execGetLog .refl
  case getEventRecords => rw [exec_getEventRecords]; exact .execGetEventRecords .refl
  case clearEventRecords => rw [exec_clearEventRecords]; exact .execClearEventRecords .refl
  case getEventInterruptPolicy => rw [exec_getEventInterruptPolicy]; exact .execGetEventInterruptPolicy .refl
  case setEventInterruptPolicy => rw [exec_setEventInterruptPolicy]; exact .execSetEventInterruptPolicy .refl
  case getHealthInfo => rw [exec_getHealthInfo]; exact .execGetHealthInfo .refl
  case getPoisonList => rw [exec_getPoisonList]; exact .execGetPoisonList .refl
  case mailboxUnsupported => rw [exec_mailboxUnsupported]; exact .execMailboxUnsupported .refl
  case getVersion => rw [exec_getVersion]; exact .execGetVersion .refl
  case getCapabilities => rw [exec_getCapabilities]; exact .execGetCapabilities .refl
  case negotiateAlgorithms => rw [exec_negotiateAlgorithms]; exact .execNegotiateAlgorithms .refl
  case getDigests => rw [exec_getDigests]; exact .execGetDigests .refl
  case getCertificate => rw [exec_getCertificate]; exact .execGetCertificate .refl
  case challenge => rw [exec_challenge]; exact .execChallenge .refl
  case getMeasurements => rw [exec_getMeasurements]; exact .execGetMeasurements .refl
  case keyExchange => rw [exec_keyExchange]; exact .execKeyExchange .refl
  case heartbeat => rw [exec_heartbeat]; exact .execHeartbeat .refl
  case vendorDefinedRequest => rw [exec_vendorDefinedRequest]; exact .execVendorDefinedRequest .refl
  case evrHeadWrite => rw [exec_evrHeadWrite]; exact .execEvrHeadWrite .refl
  case evrEnable => rw [exec_evrEnable]; exact .execEvrEnable .refl
  case msixTimer => rw [exec_msixTimer]; exact .execMsixTimer .refl
  case msixUnmask => rw [exec_msixUnmask]; exact .execMsixUnmask .refl
  case keyLoadBlob => rw [exec_keyLoadBlob]; exact .execKeyLoadBlob .refl
  case lcRequest => rw [exec_lcRequest]; exact .execLcRequest .refl
  case debugUnlock => rw [exec_debugUnlock]; exact .execDebugUnlock .refl
  case tamper => rw [exec_tamper]; exact .execTamper .refl
  case secSlotCtrLoRead => rw [exec_secSlotCtrLoRead]; exact .execSecSlotCtrLoRead .refl
  case recordWindowWrite => rw [exec_recordWindowWrite]; exact .execRecordWindowWrite .refl
  case recordJob => rw [exec_recordJob]; exact .execRecordJob .refl
  case recordAccept => rw [exec_recordAccept]; exact .execRecordAccept .refl
  case flushProgramDone => rw [exec_flushProgramDone]; exact .execFlushProgramDone .refl
  case sectorEraseDone => rw [exec_sectorEraseDone]; exact .execSectorEraseDone .refl
  case dumpCopyDone => rw [exec_dumpCopyDone]; exact .execDumpCopyDone .refl
  case counterIncrement => rw [exec_counterIncrement]; exact .execCounterIncrement .refl
  case nvsCntLoRead => rw [exec_nvsCntLoRead]; exact .execNvsCntLoRead .refl
  case nvsErase => rw [exec_nvsErase]; exact .execNvsErase .refl
  case nvsProgram => rw [exec_nvsProgram]; exact .execNvsProgram .refl
  case nvsReadSlot => rw [exec_nvsReadSlot]; exact .execNvsReadSlot .refl
  case nvsReadLog => rw [exec_nvsReadLog]; exact .execNvsReadLog .refl
  case xferUnitDone => rw [exec_xferUnitDone]; exact .execXferUnitDone .refl
  case imageActivate => rw [exec_imageActivate]; exact .execImageActivate .refl
  case cpQuiescent => rw [exec_cpQuiescent]; exact .execCpQuiescent .refl
  case cpSwap => rw [exec_cpSwap]; exact .execCpSwap .refl
  case activationTimeout => rw [exec_activationTimeout]; exact .execActivationTimeout .refl
  case bankPowerRequest => rw [exec_bankPowerRequest]; exact .execBankPowerRequest .refl
  case bankRetentionIdle => rw [exec_bankRetentionIdle]; exact .execBankRetentionIdle .refl
  case bankInitDone => rw [exec_bankInitDone]; exact .execBankInitDone .refl
  case sramRead => rw [exec_sramRead]; exact .execSramRead .refl
  case marchStart => rw [exec_marchStart]; exact .execMarchStart .refl
  case marchAbort => rw [exec_marchAbort]; exact .execMarchAbort .refl
  case marchDone => rw [exec_marchDone]; exact .execMarchDone .refl
  case arbRound => rw [exec_arbRound]; exact .execArbRound .refl
  case arbApply => rw [exec_arbApply]; exact .execArbApply .refl
  case arbApplyRaster => rw [exec_arbApplyRaster]; exact .execArbApplyRaster .refl
  case requesterMask => rw [exec_requesterMask]; exact .execRequesterMask .refl
  case copyStart => rw [exec_copyStart]; exact .execCopyStart .refl
  case copyDone => rw [exec_copyDone]; exact .execCopyDone .refl
  case h2dSnoop => rw [exec_h2dSnoop]; exact .execH2dSnoop .refl
  case perstDeassert => rw [exec_perstDeassert]; exact .execPerstDeassert .refl
  case unclaimedPacket => rw [exec_unclaimedPacket]; exact .execUnclaimedPacket .refl
  case upstreamBadCrc => rw [exec_upstreamBadCrc]; exact .execUpstreamBadCrc .refl
  case reservedOpcode => rw [exec_reservedOpcode]; exact .execReservedOpcode .refl
  case lockTxnReply => rw [exec_lockTxnReply]; exact .execLockTxnReply .refl
  case requesterUnmask => rw [exec_requesterUnmask]; exact .execRequesterUnmask .refl
  case l1Entry => rw [exec_l1Entry]; exact .execL1Entry .refl
  case l1Exit => rw [exec_l1Exit]; exact .execL1Exit .refl
  case ideKm => rw [exec_ideKm]; exact .execIdeKm .refl
  case d3hot => rw [exec_d3hot]; exact .execD3hot .refl

end Sys2Proof.Machine.Kept
end

