-- ==== Sys2Proof/Laws/Position.lean ====
section
/-!
SUPPORT. What moves a raster: most of what a line start does leaves the place of every group's raster alone (line, its tick, k,
frame, epoch, the timing in use, the latch taken).
-/
set_option Elab.async false
namespace Sys2Proof.Machine

/-- From `s` to `t` no group's raster moves. -/
def Still (s t : State) : Prop := ∀ g, (t.grp g).pos = (s.grp g).pos

namespace Still
variable {s t u : State}

theorem refl : Still s s := fun _ => rfl
theorem trans (h : Still s t) (k : Still t u) : Still s u := fun g => (k g).trans (h g)
theorem of_groups (h : t.groups = s.groups) : Still s t := fun g => by simp only [State.grp, h]
theorem of_touch {m : Nat} (h : Touch m s t) (e : (Part.groups.bit &&& m == Part.groups.bit) = false) : Still s t :=
  of_groups (touch_same h .groups e)
theorem setGrp {g : Nat} {x : Grp} (h : x.pos = (s.grp g).pos) : Still s (s.setGrp g x) := fun g' => by
  rw [grp_setGrp]; split
  · subst g'; exact h
  · rfl
theorem setGrp' {g : Nat} {x : Grp} (h : x.pos = (t.grp g).pos) (k : Still s t) : Still s (t.setGrp g x) :=
  k.trans (setGrp h)

theorem grp (h : Still s t) (g : Nat) : (t.grp g).pos = (s.grp g).pos := h g
theorem line (h : Still s t) (g : Nat) : (t.grp g).line = (s.grp g).line := by
  have := h g; simp only [Grp.pos, Prod.mk.injEq, List.cons.injEq] at this; exact this.1.1
theorem lineTick (h : Still s t) (g : Nat) : (t.grp g).lineTick = (s.grp g).lineTick := by
  have := h g; simp only [Grp.pos, Prod.mk.injEq, List.cons.injEq] at this; exact this.1.2.1
theorem k (h : Still s t) (g : Nat) : (t.grp g).k = (s.grp g).k := by
  have := h g; simp only [Grp.pos, Prod.mk.injEq, List.cons.injEq] at this; exact this.1.2.2.1
theorem k0 (h : Still s t) (g : Nat) : (t.grp g).k0 = (s.grp g).k0 := by
  have := h g; simp only [Grp.pos, Prod.mk.injEq, List.cons.injEq] at this; exact this.1.2.2.2.1
theorem frame (h : Still s t) (g : Nat) : (t.grp g).frame = (s.grp g).frame := by
  have := h g; simp only [Grp.pos, Prod.mk.injEq, List.cons.injEq] at this; exact this.1.2.2.2.2.1
theorem epoch (h : Still s t) (g : Nat) : (t.grp g).epoch = (s.grp g).epoch := by
  have := h g; simp only [Grp.pos, Prod.mk.injEq, List.cons.injEq] at this; exact this.1.2.2.2.2.2.1
theorem latchTick (h : Still s t) (g : Nat) : (t.grp g).latchTick = (s.grp g).latchTick := by
  have := h g; simp only [Grp.pos, Prod.mk.injEq, List.cons.injEq] at this; exact this.1.2.2.2.2.2.2.1
theorem live (h : Still s t) (g : Nat) : (t.grp g).live = (s.grp g).live := by
  have := h g; simp only [Grp.pos, Prod.mk.injEq] at this; exact this.2.1
theorem latched (h : Still s t) (g : Nat) : (t.grp g).latched = (s.grp g).latched := by
  have := h g; simp only [Grp.pos, Prod.mk.injEq] at this; exact this.2.2.1
theorem cur (h : Still s t) (g : Nat) : (t.grp g).cur = (s.grp g).cur := by
  have := h g; simp only [Grp.pos, Prod.mk.injEq] at this; exact this.2.2.2

theorem freeRun (s : State) (g r : Nat) : Still s (s.freeRun g r) := by
  unfold State.freeRun
  dsimp only
  exact (setGrp (by split <;> rfl)).trans (of_groups rfl)

theorem acquire (s : State) (g : Nat) : Still s (s.acquire g) := by
  unfold State.acquire
  exact (setGrp (x := { s.grp g with gl := { (s.grp g).gl with hist := [], broken := 0 } }) rfl).trans (of_groups rfl)

theorem glMove (s : State) (g : Nat) (r : Int) : Still s (s.glMove g r) := by
  unfold State.glMove
  dsimp only
  split
  · split
    · exact (setGrp (x := { s.grp g with gl := { (s.grp g).gl with hist := [], broken := 0 } }) rfl).trans (of_groups rfl)
    · split
      · split
        · exact freeRun _ _ _
        · exact setGrp rfl
      · exact setGrp rfl
  · split
    · exact setGrp rfl
    · split
      · exact freeRun _ _ _
      · exact setGrp rfl
  · exact refl

theorem glDecide (s : State) (g t : Nat) : Still s (s.glDecide g t) := by
  unfold State.glDecide
  split
  · exact refl
  · dsimp only
    have a : ∀ (c : Prop) [Decidable c] (u v : State), Still s u → Still u v → Still s (if c then v else u) := by
      intro c _ u v h1 h2; split
      · exact h1.trans h2
      · exact h1
    have h1 := a (s.f (fTMG_STATUS_GL_STATE g) = 3) s (s.setGrp g { s.grp g with gl := { (s.grp g).gl with freeFrames := (s.grp g).gl.freeFrames + 1 } })
      refl (setGrp rfl)
    generalize (if s.f (fTMG_STATUS_GL_STATE g) = 3 then
      s.setGrp g { s.grp g with gl := { (s.grp g).gl with freeFrames := (s.grp g).gl.freeFrames + 1 } } else s) = s1 at *
    have h2 := a (s.f (fTMG_STATUS_GL_STATE g) = 3 ∧ s1.on (fTMG_GENLOCK_AUTO_REACQ g) = true ∧ 64 ≤ (s.grp g).gl.freeFrames + 1 ∧
      s1.edgesPresent g (65536 * t) = true) s1 (s1.acquire g) h1 (acquire _ _)
    generalize (if s.f (fTMG_STATUS_GL_STATE g) = 3 ∧ s1.on (fTMG_GENLOCK_AUTO_REACQ g) = true ∧ 64 ≤ (s.grp g).gl.freeFrames + 1 ∧
      s1.edgesPresent g (65536 * t) = true then s1.acquire g else s1) = s2 at *
    split
    · split
      · exact h2.trans (freeRun _ _ _)
      · exact h2
    · rename_i e _
      generalize (if s2.f (fTMG_STATUS_GL_STATE g) = 3 then 0 else s2.glPull g e) = pull
      have h3 : Still s (s2.setGrp g { s2.grp g with
          gl := { (s2.grp g).gl with pull := pull }, porch := (((s2.grp g).cur.vfp : Int) + pull).toNat }) := setGrp' rfl h2
      split
      · exact (h3.trans (of_groups rfl)).trans (freeRun _ _ _)
      · exact (h3.trans (of_groups rfl)).trans (glMove _ _ _)

theorem everyLine (s : State) (g : Nat) : Still s (s.everyLine g) := by
  unfold State.everyLine
  dsimp only
  generalize h0 : s.setGrp g _ = s0
  have h0 : Still s s0 := h0 ▸ setGrp rfl
  refine h0.trans ?_
  clear h0
  refine Still.trans (t := if (s0.grp g).line < (s0.grp g).cur.vact ∧ s0.lineUnsent g = true then
    s0.markUnsent g [(s0.grp g).line] else s0) ?_ ?_
  · split
    · exact of_groups rfl
    · exact refl
  generalize (if (s0.grp g).line < (s0.grp g).cur.vact ∧ s0.lineUnsent g = true then s0.markUnsent g [(s0.grp g).line] else s0) = s1
  have h1 : Still s1 (s1.laneLine g) := of_touch (Touch.laneLine (m := 1048658) .refl .refl) (by decide)
  generalize s1.laneLine g = s2 at *
  refine h1.trans (Still.trans (t := if (s2.grp g).line = (s2.grp g).cur.vact then s2.glDecide g (s2.grp g).lineTick else s2) ?_ ?_)
  · split
    · exact glDecide _ _ _
    · exact refl
  · generalize (if (s2.grp g).line = (s2.grp g).cur.vact then s2.glDecide g (s2.grp g).lineTick else s2) = s3
    have h3 : Still s3 (s3.autoSleep g) := of_touch (Touch.autoSleep (m := 1048594) .refl .refl) (by decide)
    generalize s3.autoSleep g = s4 at *
    have h4 : Still s4 s4.panTol := of_touch (Touch.panTol (m := 2) .refl .refl) (by decide)
    generalize s4.panTol = s5 at *
    exact (h3.trans h4).trans (of_touch (Touch.checkTol (m := 28674) .refl .refl) (by decide))

theorem foldl {α : Type} (l : List α) (F : State → α → State) (h : ∀ s a, Still s (F s a)) : ∀ s, Still s (l.foldl F s) := by
  induction l with
  | nil => exact fun _ => refl
  | cons a l ih => exact fun s => (h s a).trans (ih _)

theorem endFrame (s : State) (g : Nat) : Still s (s.endFrame g) := by
  unfold State.endFrame
  dsimp only
  split
  · exact refl
  · have h1 : Still s ((((s.bookDcb g (s.grp g).tech (s.grp g).ncm1 (s.grp g).frame ((s.grp g).k + 1 - (s.grp g).k0)).captureFrameEnd g).histFrameEnd g).dropLine g (s.grp g).line) :=
      of_touch (m := 2228226) (Touch.dropLine (Has.refl.s rfl) (Touch.histFrameEnd (Has.refl.s rfl) (Touch.captureFrameEnd (Has.refl.s rfl) (Touch.bookDcb (Has.refl.s rfl) .refl)))) (by decide)
    exact h1.trans (setGrp ((show Grp.pos _ = (s.grp g).pos from rfl).trans (h1 g).symm))

theorem takeFrame (s : State) (g : Nat) : Still s (s.takeFrame g) := by
  unfold State.takeFrame
  dsimp only
  exact setGrp' rfl (of_groups rfl)

theorem syncStart (s : State) (g : Nat) : Still s (s.syncStart g) := by
  unfold State.syncStart
  dsimp only
  split
  · exact refl
  · exact setGrp rfl

theorem raiseApplied (s : State) (g : Nat) : Still s (s.raiseApplied g) := by
  unfold State.raiseApplied
  dsimp only
  refine Still.trans (t := (s.grp g).applied.foldl _ s) (foldl _ _ (fun s a => ?_) s) (setGrp rfl)
  refine Still.trans (foldl a.panes (fun s p => s.setF (fPANE_CHG_FRAME p) _) (fun s p => of_groups rfl) s) (of_groups rfl)

/-! ## A write to the frame store marks the groups that watch the range, and moves no raster (R115) -/

theorem noteWrite (s : State) (a n : Nat) : Still s (s.noteWrite a n) := by
  unfold State.noteWrite
  refine foldl _ _ (fun s p => ?_) s
  dsimp only
  split
  · exact setGrp rfl
  · exact refl

theorem fsWrite (s : State) (a : Nat) (bs : List Byte) : Still s (s.fsWrite a bs) :=
  (of_groups rfl : Still s (s.fsPut a bs)).trans (noteWrite _ _ _)

theorem devWriteLine (s : State) (tag a : Nat) (bs : List Byte) : Still s (s.devWriteLine tag a bs) := by
  unfold State.devWriteLine
  dsimp only
  have h : Still s (s.touchRange a bs.length) := of_touch (Touch.touchRange (m := 28674) .refl .refl) (by decide)
  generalize s.touchRange a bs.length = t at *
  split
  · exact h.trans ((of_groups rfl : Still t { t with fs := { t.fs with wq := t.fs.wq ++ [⟨tag, a, bs⟩] } }).trans (of_touch (Touch.askWrite (m := 2064) .refl .refl) (by decide)))
  · exact h.trans (fsWrite _ _ _)

theorem devWriteGo (tag n : Nat) : ∀ (s : State) (a : Nat) (bs : List Byte), Still s (Machine.devWriteGo tag n s a bs) := by
  induction n with
  | zero => exact fun _ _ _ => refl
  | succ n ih =>
    intro s a bs
    unfold Machine.devWriteGo
    dsimp only
    split
    · exact refl
    · exact (devWriteLine _ _ _ _).trans (ih _ _ _)

theorem devWrite (s : State) (tag a : Nat) (bs : List Byte) : Still s (s.devWrite tag a bs) := devWriteGo _ _ _ _ _

theorem lvlTake (s : State) (g : Nat) (r : BisReq) : Still s (s.lvlTake g r) := by
  unfold State.lvlTake
  refine foldl _ _ (fun s j => foldl _ _ (fun s i => ?_) s) s
  dsimp only
  split
  · exact refl
  · exact devWrite _ _ _ _

theorem bisTarget (s : State) (g y f : Nat) (u : BisUpd) : Still s (s.bisTarget g y f u) := by
  unfold State.bisTarget
  split
  · exact refl
  · refine foldl _ _ (fun s i => ?_) s
    dsimp only
    split
    · exact refl
    · exact devWrite _ _ _ _

theorem bisLine (s : State) (g y : Nat) : Still s (s.bisLine g y) := by
  unfold State.bisLine; exact foldl _ _ (fun s u => bisTarget _ _ _ _ _) s

theorem bisLate (s : State) (g : Nat) : Still s (s.bisLate g) := by
  unfold State.bisLate
  split
  · exact refl
  · exact foldl _ _ (fun s y => bisLine _ _ _) s

theorem histBlock (s : State) (g y x : Nat) : Still s (s.histBlock g y x) := by
  unfold State.histBlock
  dsimp only
  split
  · split
    · exact of_groups rfl
    · exact (of_groups rfl).trans (devWrite _ _ _ _)
  · exact refl

theorem histLine (s : State) (g y : Nat) : Still s (s.histLine g y) := by
  unfold State.histLine
  split
  · exact foldl _ _ (fun s x => histBlock _ _ _ _) s
  · exact refl

theorem setBis (s : State) (g : Nat) (x : BisSt) : Still s (s.setBis g x) := of_groups rfl

theorem bisDone (s : State) (g : Nat) (r : BisReq) (a b c d e : Nat) : Still s (s.bisDone g r a b c d e) :=
  of_touch (Touch.bisDone .refl .refl) (by decide)

theorem journal (s : State) (g : Nat) (b : Bool) (r : BisReq) (c d e : Nat) : Still s (s.journal g b r c d e).2 :=
  of_touch (Touch.journal .refl .refl) (by decide)

theorem bisEnd (s : State) (g f : Nat) (u : BisUpd) : Still s (s.bisEnd g f u).2 := by
  unfold State.bisEnd
  split
  · exact refl
  · dsimp only
    split
    · exact ((lvlTake _ _ _).trans (bisDone _ _ _ _ _ _ _ _)).trans (journal _ _ _ _ _ _ _)
    · exact ((lvlTake _ _ _).trans (bisDone _ _ _ _ _ _ _ _)).trans (journal _ _ _ _ _ _ _)

theorem bisEndAll (g f : Nat) (us : List BisUpd) : ∀ (done : List BisUpd) (s : State), Still s (Machine.bisEndAll g f us done s) := by
  induction us with
  | nil => exact fun _ _ => setBis _ _ _
  | cons u us ih =>
    intro done s
    unfold Machine.bisEndAll
    dsimp only
    split
    · exact (bisEnd s g f u).trans (ih _ _)
    · refine Still.trans ?_ (ih _ _)
      split
      · exact (bisEnd s g f u).trans (setBis _ _ _)
      · exact bisEnd s g f u

theorem bisLine0 (s : State) (g f : Nat) : Still s (s.bisLine0 g f) := by
  unfold State.bisLine0
  split
  · exact refl
  · dsimp only
    generalize h2 : (s.setF (fBIS_STATUS_BAND g) (s.bis g).band).setBis g _ = s2
    have h : Still s s2 := h2 ▸ (of_groups rfl : Still s (s.setF _ _)).trans (setBis _ _ _)
    have h1 : Still s (Machine.bisEndAll g f (s2.bis g).flight [] s2) := h.trans (bisEndAll _ _ _ _ _)
    generalize Machine.bisEndAll g f (s2.bis g).flight [] s2 = s3 at *
    split
    · exact h1.trans (setBis _ _ _)
    · exact (h1.trans (setBis _ _ _)).trans (of_touch (m := 524290) (Touch.occurGroup .refl .refl) (by decide))

theorem coreLine (s : State) (g : Nat) (o : Option Nat) : Still s (s.coreLine g o) :=
  of_touch (m := 524288) (Touch.coreLine .refl .refl) (by decide)

/-- The line in progress is over. -/
theorem leaveLine (s : State) (g : Nat) (b : Bool) : Still s (s.leaveLine g b) := by
  unfold State.leaveLine
  dsimp only
  have h := (bisLine s g (s.grp g).line).trans (histLine _ g (s.grp g).line)
  generalize (s.bisLine g (s.grp g).line).histLine g (s.grp g).line = s1 at *
  refine h.trans ?_
  split
  · exact (bisLate _ _).trans (of_groups rfl)
  · exact of_groups rfl

theorem dropLine (s : State) (g y : Nat) : Still s (s.dropLine g y) :=
  of_touch (m := 131072) (Touch.dropLine .refl .refl) (by decide)

theorem dropLines (s : State) (g : Nat) : Still s (s.dropLines g) :=
  of_touch (m := 131072) (Touch.dropLines .refl .refl) (by decide)

/-! ## What a latch does once it is taken -/

theorem setF' {x : Fld} {v : Nat} (h : Still s t) : Still s (t.setF x v) := h.trans (of_groups rfl)
theorem raiseG' {c g : Nat} {a : List (Nat × Nat)} (h : Still s t) : Still s (t.raiseG c g a) := h.trans (of_groups rfl)

theorem genlockConfig (s : State) (g : Nat) (b : Bool) : Still s (s.genlockConfig g b) := by
  unfold State.genlockConfig
  dsimp only
  split
  · split
    · exact setF' (setF' (setGrp rfl))
    · exact refl
  · split
    · exact setF' (setGrp rfl)
    · split
      · exact setGrp rfl
      · exact refl

/-- A commit that takes effect at a latch. -/
theorem applyCommit (s : State) (c : Commit) (tick : Nat) : Still s (s.applyCommit c tick false) := by
  unfold State.applyCommit
  dsimp only
  have tail : ∀ t : State, Still t ((t.occurApplied c.issuer c.cseq).commitDone c false) := fun t =>
    of_touch (m := 524290) (.commitDone .refl (.occurApplied .refl .refl)) (by decide)
  refine Still.trans ?_ (tail _)
  have h1 : Still s ((if (s.on (fCAL_SNS_CFG_FOLD c.group) && s.foldEnds c.group c.ws) = true then s.foldAbandon c.group 1 else s).applyWs c.ws) := by
    refine Still.trans (t := if (s.on (fCAL_SNS_CFG_FOLD c.group) && s.foldEnds c.group c.ws) = true then s.foldAbandon c.group 1 else s) ?_ (of_touch (m := 2) (.applyWs .refl .refl) (by decide))
    split
    · exact of_touch (m := 4194370) (.foldAbandon .refl .refl) (by decide)
    · exact refl
  generalize (if (s.on (fCAL_SNS_CFG_FOLD c.group) && s.foldEnds c.group c.ws) = true then s.foldAbandon c.group 1 else s).applyWs c.ws = s1 at *
  generalize h2 : State.setGrp s1 c.group _ = s2
  have h2 : Still s s2 := h2 ▸ h1.trans (setGrp rfl)
  have h3 := h2.trans (genlockConfig s2 c.group (s.on (fTMG_GENLOCK_GL_EN c.group)))
  generalize s2.genlockConfig c.group (s.on (fTMG_GENLOCK_GL_EN c.group)) = s3 at *
  generalize h4 : (if histClears s s3 c.group = true then s3.histClear c.group else s3) = s4
  have h4 : Still s s4 := h4 ▸ h3.trans (by split; exact of_touch (m := 131074) (.histClear .refl .refl) (by decide); exact refl)
  have h5 := h4.trans (of_touch (m := 66) (.checkPlanes (a1 := c.group) (a2 := wsPlanes c.group c.ws) .refl .refl) (by decide))
  generalize s4.checkPlanes c.group (wsPlanes c.group c.ws) = s5 at *
  have h6 := h5.trans (of_touch (m := 2097154) (.takeHdr (a1 := c) .refl .refl) (by decide))
  generalize s5.takeHdr c = s6 at *
  generalize h7 : State.commitPanes s6 _ _ _ = s7
  have h7 : Still s s7 := h7 ▸ h6.trans (of_touch (m := 2228290) (.commitPanes .refl .refl) (by decide))
  generalize h8 : List.foldl _ s7 _ = s8
  have h8 : Still s s8 := h8 ▸ h7.trans (foldl _ _ (fun s ch => of_touch (m := 1048642) (.tableEpoch .refl .refl) (by decide)) _)
  refine h8.trans ?_
  split
  · exact refl
  · exact setGrp rfl

theorem latchCommit (s : State) (c : Commit) (tick : Nat) : Still s (s.latchCommit c tick false) := by
  unfold State.latchCommit
  split
  · exact of_touch (m := 2621506) (.refuseCommit .refl .refl) (by decide)
  · exact applyCommit _ _ _

theorem showPend (s : State) (g : Nat) : Still s (s.showPend g) := of_groups rfl

theorem latchSr (s : State) (g : Nat) : Still s (s.latchSr g) := by
  unfold State.latchSr
  dsimp only
  have h : Still s (s.setGrp g { s.grp g with srAtLatch := 0 }) := setGrp rfl
  have k : ∀ t g b f, Still t (State.setSr t g b f) := fun t g b f => of_touch (m := 131138) (.setSr .refl .refl) (by decide)
  split
  · split
    · exact h
    · exact h.trans (k _ _ _ _)
  · split
    · exact h.trans (k _ _ _ _)
    · exact h
  · exact h

theorem trimFrame (s : State) (g : Nat) : Still s (s.trimFrame g) := by
  unfold State.trimFrame
  split
  · exact refl
  · dsimp only
    split
    · exact setGrp rfl
    · exact raiseG' (setGrp rfl)

theorem setPorch (s : State) (g : Nat) (b : Bool) : Still s (s.setPorch g b) := by
  unfold State.setPorch
  dsimp only
  generalize hr : ladderStep _ _ _ _ _ _ _ _ = r
  generalize h1 : State.setGrp s g _ = s1
  have h1 : Still s s1 := h1 ▸ setGrp rfl
  have h2 : ∀ t : State, Still t ((((((t.setF (fTMG_LAD_STATUS_STEP g) r.1.step).setF (fTMG_LAD_STATUS_LIMIT g) (s.ladLimit g)).setOn
      (fTMG_LAD_STATUS_HELD g) (s.ladHeld g))).setF (fTMG_LAD_STATUS_STATIC g) r.1.stat).trimFrame g) := fun t => (of_groups rfl).trans (trimFrame _ g)
  refine setF' (setGrp' rfl ?_)
  split
  · exact (raiseG' h1).trans (h2 _)
  · exact h1.trans (h2 _)

end Still
end Sys2Proof.Machine
end

