-- ==== Sys2Proof/Laws/Thoene.lean ====
section
/-!
SUPPORT. What every Thoene instruction shares: issue runs the instruction at the PC, and going on writes the core's own record
and nothing else, except at the end of a queue entry.
-/
set_option Elab.async false
namespace Sys2Proof.Machine
variable {s t : State} {o : Nat} {i : Ins}

/-- A core that issues runs the instruction, its length noted. -/
theorem issue_runs {op : Nat} (h : s.issues o op i) {mine : Nat → Bool} (hm : mine op = true) (run : Ins → State → State) :
    s.issue o mine run = .next (run i (s.setCore o { s.core o with len := i.len })) := by
  obtain ⟨h1, h2, h3, h4, h5, h6, h7⟩ := h
  unfold State.issue
  rw [if_neg (by rw [h1, h2, h3, hm]; simp), if_neg (by rintro ⟨e, l⟩; have := h4 (h3.symm.trans e); omega)]
  dsimp only
  rw [h5, if_neg (by simp [h6]), if_neg (by simp [h7])]

theorem issue_tr {op : Nat} (h : s.issues o op i) : isTR o = true ∨ isTC o = true := by
  have := h.1
  simp only [State.mayIssue, Bool.and_eq_true, Bool.or_eq_true] at this
  exact this.1.1.1.1.1.1

/-! ## Registers -/

@[simp] theorem gw_zero : s.gw o 0 = 0#32 := rfl

theorem gw_of_g (h : (t.core o).g = (s.core o).g) (k : Nat) : t.gw o k = s.gw o k := by
  unfold State.gw; rw [h]

theorem core_setG (n : Nat) (v : Word) : (s.setG o n v).core o =
    if n = 0 then s.core o else { s.core o with g := smSet (fun _ => 0) (s.core o).g n v.toNat } := by
  unfold State.setG
  split
  · rfl
  · rw [core_setCore, if_pos rfl]

theorem gw_setG (n : Nat) (v : Word) (k : Nat) : (s.setG o n v).gw o k = if k = n ∧ k ≠ 0 then v else s.gw o k := by
  unfold State.gw
  rw [core_setG]
  by_cases hk : k = 0
  · simp [hk]
  · by_cases hn : n = 0
    · have : k ≠ n := by omega
      simp [hk, hn]
    · simp only [hk, hn, if_false, smGet_smSet, ne_eq, not_false_eq_true, and_true]
      split
      · rw [BitVec.ofNat_toNat, BitVec.setWidth_eq]
      · rfl

/-! ## Cores through the end of an entry -/

theorem txnClose_cores (n : Nat) : (s.txnClose n).th.cores = s.th.cores := by
  unfold State.txnClose State.qOpen State.setTxnWs
  dsimp only
  split <;> rfl

theorem lockBroken_cores (n a b c : Nat) : (s.lockBroken n a b c).th.cores = s.th.cores := by
  unfold State.lockBroken
  dsimp only
  split <;> split <;> first | rfl | (rw [fault_th]; rfl)

theorem lockFail_cores (n c : Nat) : (s.lockFail n c).th.cores = s.th.cores := by
  unfold State.lockFail
  dsimp only
  split
  · rw [lockBroken_cores]; rfl
  · split
    · rw [lockBroken_cores]; rfl
    · rfl

theorem foldl_cores {β : Type} (f : State → β → State) (h : ∀ s b, (f s b).th.cores = s.th.cores) (l : List β) (s : State) :
    (l.foldl f s).th.cores = s.th.cores := by
  induction l generalizing s with
  | nil => rfl
  | cons b l ih => rw [List.foldl_cons, ih, h]

theorem ownerFail_cores (w how : Nat) : (s.ownerFail w how).th.cores = s.th.cores := by
  unfold State.ownerFail
  dsimp only
  rw [foldl_cores _ (fun s n => lockFail_cores n how)]
  have h : (if how = 0 then s.maskLocks w else s).th.cores = s.th.cores := by split <;> rfl
  split
  · exact h
  · exact (txnClose_cores _).trans h

theorem setQState_cores (q a b : Nat) : (s.setQState q a b).th.cores = s.th.cores := by
  unfold State.setQState
  dsimp only
  split <;> split <;> rfl

theorem dropCtr_cores (q n : Nat) : (s.dropCtr q n).th.cores = s.th.cores := by
  unfold State.dropCtr State.setLastCtr
  rfl

theorem ite_cores {p : Prop} [Decidable p] {a b : State} {x : SMap Core} (ha : a.th.cores = x) (hb : b.th.cores = x) :
    (if p then a else b).th.cores = x := by
  split
  · exact ha
  · exact hb

theorem entryEnd_cores (cp a b c : Nat) : (s.entryEnd cp a b c).th.cores = s.th.cores := by
  have k1 : ∀ (s : State) x v, (s.setF x v).th.cores = s.th.cores := fun _ _ _ => rfl
  have k2 : ∀ (s : State) x o l as, (s.raise x o l as).th.cores = s.th.cores := fun _ _ _ _ _ => rfl
  have k3 : ∀ (s : State) q b, (s.setStopReq q b).th.cores = s.th.cores := fun _ _ _ => rfl
  have k4 : ∀ (s : State) q e, (s.setEntry q e).th.cores = s.th.cores := fun _ _ _ => rfl
  have k5 : ∀ (s : State) (l : List Nat), ({ s with th := { s.th with checks := l } } : State).th.cores = s.th.cores :=
    fun _ _ => rfl
  unfold State.entryEnd
  split
  · rfl
  · rename_i e _
    have m : ∀ A : State, A.th.cores = s.th.cores →
        (if e.slot = 64 then A else A.setF (fCXL_Q_PTR_HEAD e.q) ((e.idx + 1) % A.qSize e.q)).th.cores = s.th.cores :=
      fun A h => ite_cores h ((k1 _ _ _).trans h)
    have m := fun (A : State) (h : A.th.cores = s.th.cores) => m _ ((k5 (A.setEntry cp none)
      ((A.setEntry cp none).th.checks.filter fun x => x != e.q)).trans ((k4 A cp none).trans h))
    have m := m (if e.stage = 2 then s.dropCtr e.q e.slot else s) (ite_cores (dropCtr_cores e.q e.slot) rfl)
    have m := (k1 _ (fCXL_Q_STATUS_LAST_TAG e.q) e.tag).trans ((k1 _ (fCXL_Q_STATUS_DETAIL e.q) b).trans
      ((k1 _ (fCXL_Q_STATUS_LAST_ST e.q) a).trans m))
    have m := ite_cores (p := e.notify = true ∨ a ≠ 0) ((k2 _ 0x150 e.q 0 [(16, e.tag), (8, a), (8, b), (16, e.idx), (16, 0), (32, if a = 1 then c else 0)]).trans m) m
    exact ite_cores ((setQState_cores _ _ _).trans ((k3 _ _ _).trans ((ownerFail_cores _ _).trans m)))
      (ite_cores ((setQState_cores _ _ _).trans ((k3 _ _ _).trans (ite_cores ((ownerFail_cores _ _).trans m) m)))
        (ite_cores ((ownerFail_cores _ _).trans m) m))

theorem setCoreSt_th (a b : Nat) : (s.setCoreSt a b).th = s.th := by
  unfold State.setCoreSt
  dsimp only
  split <;> rfl

theorem core_of_cores (h : t.th.cores = s.th.cores) (p : Nat) : t.core p = s.core p := by unfold State.core; rw [h]

/-! ## Going on -/

theorem atEnd_stays (h : s.inEntry o = none ∨ (s.core o).pc ≠ 0x1FFF8) : s.atEnd o = s := by
  unfold State.atEnd
  split
  · rfl
  · rename_i e he
    rcases h with h | h
    · rw [h] at he; cases he
    · rw [if_pos h]

/-- The end of an entry leaves a core its registers, flags, stack and PC. -/
theorem atEnd_core : ((s.atEnd o).core o).g = (s.core o).g ∧ ((s.atEnd o).core o).flags = (s.core o).flags ∧
    ((s.atEnd o).core o).stack = (s.core o).stack ∧ ((s.atEnd o).core o).pc = (s.core o).pc := by
  unfold State.atEnd
  split
  · exact ⟨rfl, rfl, rfl, rfl⟩
  · split
    · exact ⟨rfl, rfl, rfl, rfl⟩
    · dsimp only
      rw [core_of_cores (entryEnd_cores ..), core_of_cores (congrArg _ (setCoreSt_th _ _)), core_setCore, if_pos rfl]
      exact ⟨rfl, rfl, rfl, rfl⟩

theorem inEntry_setCore (c : Core) : (s.setCore o c).inEntry o = s.inEntry o := rfl

/-- Going on from a state that differs from `s` in the core's record only. -/
theorem goOn_went {u : State} {pc n fl : Nat} {g : Nat → Word} (hu : s.onlyCore u o) (hg : ∀ k, u.gw o k = if k = 0 then 0#32 else g k)
    (hf : (u.core o).flags = fl) (hs : (u.core o).stack = (s.core o).stack) : s.wentOn (u.goOn o pc n) o g fl pc n := by
  have hc : (u.setCore o { (u.core o).idle with pc := pc, next := cycleAfter o (u.clock o) n }).core o =
      { (u.core o).idle with pc := pc, next := cycleAfter o (u.clock o) n } := by rw [core_setCore, if_pos rfl]
  have hk : u.clock o = s.clock o := by rw [hu.1]; rfl
  have he : u.inEntry o = s.inEntry o := by rw [hu.1]; rfl
  have ha := atEnd_core (s := u.setCore o { (u.core o).idle with pc := pc, next := cycleAfter o (u.clock o) n }) (o := o)
  rw [hc] at ha
  unfold State.goOn
  refine ⟨fun k => ?_, ha.2.1.trans hf, ha.2.2.1.trans hs, ha.2.2.2, fun h => ?_⟩
  · rw [gw_of_g (s := u) (ha.1.trans rfl)]; exact hg k
  · rw [atEnd_stays (by rw [inEntry_setCore, he, hc]; exact h), hc]
    refine ⟨by rw [← hk], ?_, fun p hp => ?_⟩
    · rw [hu.1]; rfl
    · rw [core_setCore, if_neg hp]; exact hu.2 p hp

theorem onlyCore_refl : s.onlyCore s o := ⟨rfl, fun _ _ => rfl⟩

theorem onlyCore_setCore {u : State} (h : s.onlyCore u o) (c : Core) : s.onlyCore (u.setCore o c) o :=
  ⟨by rw [h.1]; rfl, fun p hp => by rw [core_setCore, if_neg hp]; exact h.2 p hp⟩

theorem onlyCore_setG {u : State} (h : s.onlyCore u o) (n : Nat) (v : Word) : s.onlyCore (u.setG o n v) o := by
  unfold State.setG
  split
  · exact h
  · exact onlyCore_setCore h _

theorem onlyCore_setFlag {u : State} (h : s.onlyCore u o) (n : Nat) (b : Bool) : s.onlyCore (u.setFlag o n b) o :=
  onlyCore_setCore h _


/-- What issue hands to the instruction: the core with its length noted. -/
theorem issued_core (n : Nat) : (s.setCore o { s.core o with len := n }).core o = { s.core o with len := n } := by
  rw [core_setCore, if_pos rfl]

theorem issued_gw (n k : Nat) : (s.setCore o { s.core o with len := n }).gw o k = s.gw o k := by
  unfold State.gw; rw [issued_core]

theorem issued_flag (n k : Nat) : (s.setCore o { s.core o with len := n }).flag o k = s.flag o k := by
  unfold State.flag; rw [issued_core]

theorem issued_opB (n : Nat) (i : Ins) (b : Bool) : (s.setCore o { s.core o with len := n }).opB o i b = s.opB o i b := by
  unfold State.opB; rw [issued_gw]

theorem issued_only (n : Nat) : s.onlyCore (s.setCore o { s.core o with len := n }) o := onlyCore_setCore onlyCore_refl _

theorem issued_target (n : Nat) (i : Ins) (b : Bool) :
    (s.setCore o { s.core o with len := n }).target o i b = s.target o i b := by
  unfold State.target; rw [issued_gw, issued_core]

theorem gw_ite (k : Nat) : s.gw o k = if k = 0 then 0#32 else s.gw o k := by
  split
  · next h => rw [h]; rfl
  · rfl

/-- Retiring from a state that differs from `s` in the core's record only. -/
theorem retire_went {u : State} {n fl m : Nat} {g : Nat → Word} (hu : s.onlyCore u o) (hg : ∀ k, u.gw o k = if k = 0 then 0#32 else g k)
    (hf : (u.core o).flags = fl) (hs : (u.core o).stack = (s.core o).stack) (hp : (u.core o).pc = (s.core o).pc)
    (hl : (u.core o).len = m) : s.wentOn (u.retire o n) o g fl ((s.core o).pc + m) (n + (m / 4 - 1)) := by
  unfold State.retire
  rw [hp, hl]
  exact goOn_went hu hg hf hs

/-- An arithmetic or logic instruction (R260). -/
theorem alu_went (signed : Bool) (f : Word → Word → Word) (i : Ins) :
    s.wentOn (aluRun o signed f i (s.setCore o { s.core o with len := i.len })) o
      (fun k => if k = i.d then f (s.gw o i.a) (s.opB o i signed) else s.gw o k) (s.core o).flags ((s.core o).pc + i.len)
      (1 + (i.len / 4 - 1)) := by
  unfold aluRun
  have hc := core_setG (s := s.setCore o { s.core o with len := i.len }) (o := o) i.d
    (f ((s.setCore o { s.core o with len := i.len }).gw o i.a) ((s.setCore o { s.core o with len := i.len }).opB o i signed))
  refine retire_went (onlyCore_setG (issued_only _) _ _) (fun k => ?_) ?_ ?_ ?_ ?_
  · rw [gw_setG, issued_gw, issued_gw, issued_opB]
    by_cases h : k = 0
    · simp [h]
    · simp [h]
  all_goals rw [hc, issued_core]; split <;> rfl

/-- A result readable one cycle later. -/
theorem retireHot_went {u : State} {d fl m : Nat} {g : Nat → Word} (hu : s.onlyCore u o) (hg : ∀ k, u.gw o k = if k = 0 then 0#32 else g k)
    (hf : (u.core o).flags = fl) (hs : (u.core o).stack = (s.core o).stack) (hp : (u.core o).pc = (s.core o).pc)
    (hl : (u.core o).len = m) : s.wentOn (u.retireHot o d) o g fl ((s.core o).pc + m) (1 + (m / 4 - 1)) ∧
      ((u.retireHot o d).core o).hot = d ∧ ((u.retireHot o d).core o).hotAt = cycleAfter o (s.clock o) 2 := by
  have w := retire_went (n := 1) hu hg hf hs hp hl
  have hk : u.clock o = s.clock o := by rw [hu.1]; rfl
  unfold State.retireHot
  dsimp only
  rw [hk]
  generalize u.retire o 1 = t at *
  refine ⟨⟨fun k => ?_, ?_, ?_, ?_, fun h => ⟨?_, onlyCore_setCore (w.2.2.2.2 h).2 _⟩⟩, ?_, ?_⟩
  · rw [← w.1 k]
    unfold State.gw
    rw [core_setCore, if_pos rfl]
  all_goals rw [core_setCore, if_pos rfl]
  · exact w.2.1
  · exact w.2.2.1
  · exact w.2.2.2.1
  · exact (w.2.2.2.2 h).1

/-- An instruction that writes one flag. -/
theorem flag_went {u : State} {n k : Nat} (b : Bool) (hl : (s.setCore o { s.core o with len := n }) = u) (c : Nat) :
    s.wentOn ((u.setFlag o k b).retire o c) o (s.gw o) (putBit (s.core o).flags k b) ((s.core o).pc + n) (c + (n / 4 - 1)) := by
  subst hl
  have hc : ((s.setCore o { s.core o with len := n }).setFlag o k b).core o =
      { s.core o with len := n, flags := putBit (s.core o).flags k b } := by
    unfold State.setFlag
    rw [issued_core, core_setCore, if_pos rfl]
  refine retire_went (onlyCore_setFlag (issued_only _) _ _) (fun k => ?_) ?_ ?_ ?_ ?_
  · refine Eq.trans ?_ (gw_ite k)
    unfold State.gw
    rw [hc]
  all_goals rw [hc]

end Sys2Proof.Machine
end

