-- ==== Sys2Proof/Laws/TouchExec.lean ====
section
/-!
SUPPORT. That a command changes only the parts of the state that `mayTouch` lists for it.
-/
set_option Elab.async false
set_option linter.all false

namespace Sys2Proof.Machine

/-- The set of the parts of a list. -/
def maskOf : List Part → Nat
  | [] => 0
  | p :: l => p.bit ||| maskOf l

theorem Part.bit_inj {p q : Part} (h : p.bit &&& q.bit ≠ 0) : p = q := by
  cases p <;> cases q <;> first | rfl | exact absurd rfl h

theorem mem_of_has {p : Part} {l : List Part} (h : Has (maskOf l) p.bit) : p ∈ l := by
  have hne : p.bit &&& maskOf l ≠ 0 := by
    rw [h]; cases p <;> decide
  clear h
  induction l with
  | nil => simp [maskOf] at hne
  | cons q l ih =>
    simp only [maskOf, Nat.and_or_distrib_left] at hne
    by_cases e : p.bit &&& q.bit = 0
    · rw [e, Nat.zero_or] at hne
      exact List.mem_cons_of_mem _ (ih hne)
    · rw [Part.bit_inj e]; simp

theorem Touch.exec (c : Instr) (s : State) : TouchO (maskOf (mayTouch c)) s (Machine.exec c s) := by
  cases c
  case regWrite => rw [exec_regWrite]; exact .execRegWrite (m := 67108862) .refl .refl
  case porstAssert => rw [exec_porstAssert]; exact .execPorstAssert (m := 67108838) .refl .refl
  case porstDeassert => rw [exec_porstDeassert]; exact .execPorstDeassert (m := 65536) .refl .refl
  case stageComplete => rw [exec_stageComplete]; exact .execStageComplete (m := 58309618) .refl .refl
  case stageTimeout => rw [exec_stageTimeout]; exact .execStageTimeout (m := 2687682) .refl .refl
  case pllRetry => rw [exec_pllRetry]; exact .execPllRetry (m := 16844866) .refl .refl
  case flitReceive => rw [exec_flitReceive]; exact .execFlitReceive (m := 962) .refl .refl
  case flitSlot => rw [exec_flitSlot]; exact .execFlitSlot (m := 8388914) .refl .refl
  case replayTimeout => rw [exec_replayTimeout]; exact .execReplayTimeout (m := 256) .refl .refl
  case laneGroupRetrain => rw [exec_laneGroupRetrain]; exact .execLaneGroupRetrain (m := 322) .refl .refl
  case retrainDone => rw [exec_retrainDone]; exact .execRetrainDone (m := 3026) .refl .refl
  case linkMgmtFlit => rw [exec_linkMgmtFlit]; exact .execLinkMgmtFlit (m := 256) .refl .refl
  case clockSourceLoss => rw [exec_clockSourceLoss]; exact .execClockSourceLoss (m := 26147546) .refl .refl
  case clockSourceReturn => rw [exec_clockSourceReturn]; exact .execClockSourceReturn (m := 2) .refl .refl
  case tsyncSend => rw [exec_tsyncSend]; exact .execTsyncSend (m := 288) .refl .refl
  case tsyncSample => rw [exec_tsyncSample]; exact .execTsyncSample (m := 354) .refl .refl
  case tsyncHoldover => rw [exec_tsyncHoldover]; exact .execTsyncHoldover (m := 66) .refl .refl
  case evtTimeLoRead => rw [exec_evtTimeLoRead]; exact .execEvtTimeLoRead (m := 20) .refl .refl
  case eventMergeArrival => rw [exec_eventMergeArrival]; exact .execEventMergeArrival (m := 64082) .refl .refl
  case eventRelease => rw [exec_eventRelease]; exact .execEventRelease (m := 64082) .refl .refl
  case groupRun => rw [exec_groupRun]; exact .execGroupRun (m := 33524434) .refl .refl
  case groupStop => rw [exec_groupStop]; exact .execGroupStop (m := 33524434) .refl .refl
  case groupResume => rw [exec_groupResume]; exact .execGroupResume (m := 33524434) .refl .refl
  case groupEnterStopped => rw [exec_groupEnterStopped]; exact .execGroupEnterStopped (m := 33260242) .refl .refl
  case lineStart => rw [exec_lineStart]; exact .execLineStart (m := 29096658) .refl .refl
  case syncoutPulseEnd => rw [exec_syncoutPulseEnd]; exact .execSyncoutPulseEnd (m := 512) .refl .refl
  case cutoff => rw [exec_cutoff]; exact .execCutoff (m := 6324802) .refl .refl
  case latch => rw [exec_latch]; exact .execLatch (m := 33553106) .refl .refl
  case commitArrival => rw [exec_commitArrival]; exact .execCommitArrival (m := 33261250) .refl .refl
  case syncinEdge => rw [exec_syncinEdge]; exact .execSyncinEdge (m := 524802) .refl .refl
  case teEdge => rw [exec_teEdge]; exact .execTeEdge (m := 524866) .refl .refl
  case teWaitBegin => rw [exec_teWaitBegin]; exact .execTeWaitBegin (m := 514) .refl .refl
  case teTimeout => rw [exec_teTimeout]; exact .execTeTimeout (m := 29096658) .refl .refl
  case slotStart => rw [exec_slotStart]; exact .execSlotStart (m := 11666010) .refl .refl
  case tmgFrameLoRead => rw [exec_tmgFrameLoRead]; exact .execTmgFrameLoRead (m := 20) .refl .refl
  case tmgLatchLoRead => rw [exec_tmgLatchLoRead]; exact .execTmgLatchLoRead (m := 20) .refl .refl
  case srSleepSet => rw [exec_srSleepSet]; exact .execSrSleepSet (m := 514) .refl .refl
  case srSleepClear => rw [exec_srSleepClear]; exact .execSrSleepClear (m := 514) .refl .refl
  case pipeSpan => rw [exec_pipeSpan]; exact .execPipeSpan (m := 162386) .refl .refl
  case tableLoad => rw [exec_tableLoad]; exact .execTableLoad (m := 131138) .refl .refl
  case tableReadback => rw [exec_tableReadback]; exact .execTableReadback (m := 131138) .refl .refl
  case tldDone => rw [exec_tldDone]; exact .execTldDone (m := 162386) .refl .refl
  case fstReadDone => rw [exec_fstReadDone]; exact .execFstReadDone (m := 31442) .refl .refl
  case scrubRead => rw [exec_scrubRead]; exact .execScrubRead (m := 31442) .refl .refl
  case refreshInterval => rw [exec_refreshInterval]; exact .execRefreshInterval (m := 16384) .refl .refl
  case stackIdle => rw [exec_stackIdle]; exact .execStackIdle (m := 2) .refl .refl
  case stackExitDone => rw [exec_stackExitDone]; exact .execStackExitDone (m := 17103450) .refl .refl
  case strudelConfigWrite => rw [exec_strudelConfigWrite]; exact .execStrudelConfigWrite (m := 278594) .refl .refl
  case codecSubmit => rw [exec_codecSubmit]; exact .execCodecSubmit (m := 262146) .refl .refl
  case codecEncode => rw [exec_codecEncode]; exact .execCodecEncode (m := 292946) .refl .refl
  case codecRelease => rw [exec_codecRelease]; exact .execCodecRelease (m := 293458) .refl .refl
  case codecBlockDone => rw [exec_codecBlockDone]; exact .execCodecBlockDone (m := 293586) .refl .refl
  case cellRelease => rw [exec_cellRelease]; exact .execCellRelease (m := 278594) .refl .refl
  case encoderRelease => rw [exec_encoderRelease]; exact .execEncoderRelease (m := 262210) .refl .refl
  case blockFetchDone => rw [exec_blockFetchDone]; exact .execBlockFetchDone (m := 292882) .refl .refl
  case tileFetchTimeout => rw [exec_tileFetchTimeout]; exact .execTileFetchTimeout (m := 262850) .refl .refl
  case blockDecodeDone => rw [exec_blockDecodeDone]; exact .execBlockDecodeDone (m := 262850) .refl .refl
  case nop => rw [exec_nop]; exact .execNop (m := 8946370) .refl .refl
  case add => rw [exec_add]; exact .execAdd (m := 8946370) .refl .refl
  case sub => rw [exec_sub]; exact .execSub (m := 8946370) .refl .refl
  case and => rw [exec_and]; exact .execAnd (m := 8946370) .refl .refl
  case or => rw [exec_or]; exact .execOr (m := 8946370) .refl .refl
  case xor => rw [exec_xor]; exact .execXor (m := 8946370) .refl .refl
  case shl => rw [exec_shl]; exact .execShl (m := 8946370) .refl .refl
  case shr => rw [exec_shr]; exact .execShr (m := 8946370) .refl .refl
  case sra => rw [exec_sra]; exact .execSra (m := 8946370) .refl .refl
  case min => rw [exec_min]; exact .execMin (m := 8946370) .refl .refl
  case max => rw [exec_max]; exact .execMax (m := 8946370) .refl .refl
  case mul16 => rw [exec_mul16]; exact .execMul16 (m := 8946370) .refl .refl
  case cmp => rw [exec_cmp]; exact .execCmp (m := 8946370) .refl .refl
  case ldi => rw [exec_ldi]; exact .execLdi (m := 8946370) .refl .refl
  case lui => rw [exec_lui]; exact .execLui (m := 8946370) .refl .refl
  case lForm => rw [exec_lForm]; exact .execLForm (m := 67108862) .refl .refl
  case beq => rw [exec_beq]; exact .execBeq (m := 8946370) .refl .refl
  case bne => rw [exec_bne]; exact .execBne (m := 8946370) .refl .refl
  case blt => rw [exec_blt]; exact .execBlt (m := 8946370) .refl .refl
  case bge => rw [exec_bge]; exact .execBge (m := 8946370) .refl .refl
  case j => rw [exec_j]; exact .execJ (m := 8946370) .refl .refl
  case call => rw [exec_call]; exact .execCall (m := 8946370) .refl .refl
  case ret => rw [exec_ret]; exact .execRet (m := 8946370) .refl .refl
  case ld => rw [exec_ld]; exact .execLd (m := 8946370) .refl .refl
  case st => rw [exec_st]; exact .execSt (m := 8946370) .refl .refl
  case ldx => rw [exec_ldx]; exact .execLdx (m := 9994950) .refl .refl
  case ldxDone => rw [exec_ldxDone]; exact .execLdxDone (m := 9994950) .refl .refl
  case stx => rw [exec_stx]; exact .execStx (m := 67108862) .refl .refl
  case waitl => rw [exec_waitl]; exact .execWaitl (m := 8946370) .refl .refl
  case waitlDone => rw [exec_waitlDone]; exact .execWaitlDone (m := 8946370) .refl .refl
  case waitc => rw [exec_waitc]; exact .execWaitc (m := 8946370) .refl .refl
  case waitcDone => rw [exec_waitcDone]; exact .execWaitcDone (m := 8946370) .refl .refl
  case waite => rw [exec_waite]; exact .execWaite (m := 8946370) .refl .refl
  case waiteDone => rw [exec_waiteDone]; exact .execWaiteDone (m := 8946370) .refl .refl
  case waitt => rw [exec_waitt]; exact .execWaitt (m := 8946378) .refl .refl
  case waittDone => rw [exec_waittDone]; exact .execWaittDone (m := 8946370) .refl .refl
  case fence => rw [exec_fence]; exact .execFence (m := 8946370) .refl .refl
  case fenceDone => rw [exec_fenceDone]; exact .execFenceDone (m := 8946370) .refl .refl
  case emit => rw [exec_emit]; exact .execEmit (m := 9994946) .refl .refl
  case gset => rw [exec_gset]; exact .execGset (m := 8946378) .refl .refl
  case gclr => rw [exec_gclr]; exact .execGclr (m := 8946378) .refl .refl
  case gpulse => rw [exec_gpulse]; exact .execGpulse (m := 8946378) .refl .refl
  case gtoEdgePlace => rw [exec_gtoEdgePlace]; exact .execGtoEdgePlace (m := 4718592) .refl .refl
  case tbegin => rw [exec_tbegin]; exact .execTbegin (m := 33261250) .refl .refl
  case commit => rw [exec_commit]; exact .execCommit (m := 33261250) .refl .refl
  case abort => rw [exec_abort]; exact .execAbort (m := 33261250) .refl .refl
  case lock => rw [exec_lock]; exact .execLock (m := 33261250) .refl .refl
  case unlock => rw [exec_unlock]; exact .execUnlock (m := 33261250) .refl .refl
  case event => rw [exec_event]; exact .execEvent (m := 8946370) .refl .refl
  case halt => rw [exec_halt]; exact .execHalt (m := 8946370) .refl .refl
  case watchdogExpiry => rw [exec_watchdogExpiry]; exact .execWatchdogExpiry (m := 8946370) .refl .refl
  case pfVector => rw [exec_pfVector]; exact .execPfVector (m := 28836546) .refl .refl
  case coreRun => rw [exec_coreRun]; exact .execCoreRun (m := 25723586) .refl .refl
  case coreStop => rw [exec_coreStop]; exact .execCoreStop (m := 25723586) .refl .refl
  case mboxWrite => rw [exec_mboxWrite]; exact .execMboxWrite (m := 524290) .refl .refl
  case coreMemWindowWrite => rw [exec_coreMemWindowWrite]; exact .execCoreMemWindowWrite (m := 524290) .refl .refl
  case doorbell => rw [exec_doorbell]; exact .execDoorbell (m := 524290) .refl .refl
  case entryTake => rw [exec_entryTake]; exact .execEntryTake (m := 11075666) .refl .refl
  case entryFetchDone => rw [exec_entryFetchDone]; exact .execEntryFetchDone (m := 11074258) .refl .refl
  case trailerCheckDone => rw [exec_trailerCheckDone]; exact .execTrailerCheckDone (m := 8946370) .refl .refl
  case entryRelease => rw [exec_entryRelease]; exact .execEntryRelease (m := 11043522) .refl .refl
  case queueRun => rw [exec_queueRun]; exact .execQueueRun (m := 8946370) .refl .refl
  case queueStop => rw [exec_queueStop]; exact .execQueueStop (m := 8946370) .refl .refl
  case cxlQReset => rw [exec_cxlQReset]; exact .execCxlQReset (m := 8946370) .refl .refl
  case commitResultReport => rw [exec_commitResultReport]; exact .execCommitResultReport (m := 524994) .refl .refl
  case mpTbegin => rw [exec_mpTbegin]; exact .execMpTbegin (m := 525314) .refl .refl
  case mpCommit => rw [exec_mpCommit]; exact .execMpCommit (m := 525314) .refl .refl
  case mpAbort => rw [exec_mpAbort]; exact .execMpAbort (m := 525314) .refl .refl
  case mpLock => rw [exec_mpLock]; exact .execMpLock (m := 525314) .refl .refl
  case mpUnlock => rw [exec_mpUnlock]; exact .execMpUnlock (m := 525314) .refl .refl
  case mpTargetReset => rw [exec_mpTargetReset]; exact .execMpTargetReset (m := 8913602) .refl .refl
  case lockBreak => rw [exec_lockBreak]; exact .execLockBreak (m := 524994) .refl .refl
  case laneEnable => rw [exec_laneEnable]; exact .execLaneEnable (m := 1048658) .refl .refl
  case blockLockGained => rw [exec_blockLockGained]; exact .execBlockLockGained (m := 1048642) .refl .refl
  case blockLockLost => rw [exec_blockLockLost]; exact .execBlockLockLost (m := 1049282) .refl .refl
  case invalidBlock => rw [exec_invalidBlock]; exact .execInvalidBlock (m := 2) .refl .refl
  case alignSend => rw [exec_alignSend]; exact .execAlignSend (m := 1049298) .refl .refl
  case alignReturn => rw [exec_alignReturn]; exact .execAlignReturn (m := 2) .refl .refl
  case enumSend => rw [exec_enumSend]; exact .execEnumSend (m := 1048592) .refl .refl
  case enumReturn => rw [exec_enumReturn]; exact .execEnumReturn (m := 1048642) .refl .refl
  case ackReceive => rw [exec_ackReceive]; exact .execAckReceive (m := 1048578) .refl .refl
  case nakReceive => rw [exec_nakReceive]; exact .execNakReceive (m := 1048642) .refl .refl
  case rdrReceive => rw [exec_rdrReceive]; exact .execRdrReceive (m := 1573570) .refl .refl
  case snsReceive => rw [exec_snsReceive]; exact .execSnsReceive (m := 5767882) .refl .refl
  case retryTimeout => rw [exec_retryTimeout]; exact .execRetryTimeout (m := 1048642) .refl .refl
  case freeSlot => rw [exec_freeSlot]; exact .execFreeSlot (m := 9437274) .refl .refl
  case reenumerate => rw [exec_reenumerate]; exact .execReenumerate (m := 1048642) .refl .refl
  case queueFlush => rw [exec_queueFlush]; exact .execQueueFlush (m := 1048642) .refl .refl
  case txSleep => rw [exec_txSleep]; exact .execTxSleep (m := 1048594) .refl .refl
  case txWake => rw [exec_txWake]; exact .execTxWake (m := 1048578) .refl .refl
  case txWakeDone => rw [exec_txWakeDone]; exact .execTxWakeDone (m := 1048576) .refl .refl
  case rxSleep => rw [exec_rxSleep]; exact .execRxSleep (m := 2) .refl .refl
  case rxWake => rw [exec_rxWake]; exact .execRxWake (m := 1048578) .refl .refl
  case spareAutoSwitch => rw [exec_spareAutoSwitch]; exact .execSpareAutoSwitch (m := 1048642) .refl .refl
  case txDriverFault => rw [exec_txDriverFault]; exact .execTxDriverFault (m := 1048642) .refl .refl
  case spareForce => rw [exec_spareForce]; exact .execSpareForce (m := 1048642) .refl .refl
  case spareRelease => rw [exec_spareRelease]; exact .execSpareRelease (m := 1048642) .refl .refl
  case spareSwitchTimeout => rw [exec_spareSwitchTimeout]; exact .execSpareSwitchTimeout (m := 1049282) .refl .refl
  case failedRetry => rw [exec_failedRetry]; exact .execFailedRetry (m := 1048642) .refl .refl
  case inject => rw [exec_inject]; exact .execInject (m := 1048594) .refl .refl
  case injectRepeat => rw [exec_injectRepeat]; exact .execInjectRepeat (m := 1048594) .refl .refl
  case upqDataRead => rw [exec_upqDataRead]; exact .execUpqDataRead (m := 1048594) .refl .refl
  case upqPop => rw [exec_upqPop]; exact .execUpqPop (m := 1049298) .refl .refl
  case railPowerUp => rw [exec_railPowerUp]; exact .execRailPowerUp (m := 2097218) .refl .refl
  case railPowerDown => rw [exec_railPowerDown]; exact .execRailPowerDown (m := 2097218) .refl .refl
  case railOnDelay => rw [exec_railOnDelay]; exact .execRailOnDelay (m := 2097218) .refl .refl
  case railOffDelay => rw [exec_railOffDelay]; exact .execRailOffDelay (m := 2097218) .refl .refl
  case railgoodEdge => rw [exec_railgoodEdge]; exact .execRailgoodEdge (m := 2097858) .refl .refl
  case railTimeout => rw [exec_railTimeout]; exact .execRailTimeout (m := 2097858) .refl .refl
  case railForceOn => rw [exec_railForceOn]; exact .execRailForceOn (m := 2621442) .refl .refl
  case railForceOff => rw [exec_railForceOff]; exact .execRailForceOff (m := 2621442) .refl .refl
  case railForceRelease => rw [exec_railForceRelease]; exact .execRailForceRelease (m := 2621442) .refl .refl
  case pfTrip => rw [exec_pfTrip]; exact .execPfTrip (m := 2720322) .refl .refl
  case pfDischarge => rw [exec_pfDischarge]; exact .execPfDischarge (m := 2129922) .refl .refl
  case trippedClear => rw [exec_trippedClear]; exact .execTrippedClear (m := 2097154) .refl .refl
  case panelTempPoll => rw [exec_panelTempPoll]; exact .execPanelTempPoll (m := 2097168) .refl .refl
  case panelTempReadDone => rw [exec_panelTempReadDone]; exact .execPanelTempReadDone (m := 2097218) .refl .refl
  case bisRequest => rw [exec_bisRequest]; exact .execBisRequest (m := 2097154) .refl .refl
  case bisBlockFetchDone => rw [exec_bisBlockFetchDone]; exact .execBisBlockFetchDone (m := 2129994) .refl .refl
  case journalScan => rw [exec_journalScan]; exact .execJournalScan (m := 2097218) .refl .refl
  case bonbonEnter => rw [exec_bonbonEnter]; exact .execBonbonEnter (m := 67108862) .refl .refl
  case bonbonSend => rw [exec_bonbonSend]; exact .execBonbonSend (m := 67108862) .refl .refl
  case bonbonExit => rw [exec_bonbonExit]; exact .execBonbonExit (m := 67108862) .refl .refl
  case calPeriod => rw [exec_calPeriod]; exact .execCalPeriod (m := 4194304) .refl .refl
  case calGo => rw [exec_calGo]; exact .execCalGo (m := 4227138) .refl .refl
  case calApply => rw [exec_calApply]; exact .execCalApply (m := 5242962) .refl .refl
  case calRunTimeout => rw [exec_calRunTimeout]; exact .execCalRunTimeout (m := 4194368) .refl .refl
  case calValWrite => rw [exec_calValWrite]; exact .execCalValWrite (m := 4194306) .refl .refl
  case calSave => rw [exec_calSave]; exact .execCalSave (m := 4227138) .refl .refl
  case calLoad => rw [exec_calLoad]; exact .execCalLoad (m := 4227138) .refl .refl
  case calTsLoRead => rw [exec_calTsLoRead]; exact .execCalTsLoRead (m := 20) .refl .refl
  case tempSensorUpdate => rw [exec_tempSensorUpdate]; exact .execTempSensorUpdate (m := 10) .refl .refl
  case railMonitorUpdate => rw [exec_railMonitorUpdate]; exact .execRailMonitorUpdate (m := 10) .refl .refl
  case foldEnable => rw [exec_foldEnable]; exact .execFoldEnable (m := 4718658) .refl .refl
  case foldDisable => rw [exec_foldDisable]; exact .execFoldDisable (m := 4718658) .refl .refl
  case foldWritesDone => rw [exec_foldWritesDone]; exact .execFoldWritesDone (m := 4225618) .refl .refl
  case foldReplayDone => rw [exec_foldReplayDone]; exact .execFoldReplayDone (m := 4225554) .refl .refl
  case foldRetry => rw [exec_foldRetry]; exact .execFoldRetry (m := 4194304) .refl .refl
  case hostHotReset => rw [exec_hostHotReset]; exact .execHostHotReset (m := 26147546) .refl .refl
  case perstAssert => rw [exec_perstAssert]; exact .execPerstAssert (m := 26147546) .refl .refl
  case linkLoss => rw [exec_linkLoss]; exact .execLinkLoss (m := 26147546) .refl .refl
  case linkUp => rw [exec_linkUp]; exact .execLinkUp (m := 2114) .refl .refl
  case flr => rw [exec_flr]; exact .execFlr (m := 2114) .refl .refl
  case cxlReset => rw [exec_cxlReset]; exact .execCxlReset (m := 17234522) .refl .refl
  case cxlCacheAvailable => rw [exec_cxlCacheAvailable]; exact .execCxlCacheAvailable (m := 2114) .refl .refl
  case cxlCacheUnavailable => rw [exec_cxlCacheUnavailable]; exact .execCxlCacheUnavailable (m := 133698) .refl .refl
  case hdmCommit => rw [exec_hdmCommit]; exact .execHdmCommit (m := 2066) .refl .refl
  case cxlmemRead => rw [exec_cxlmemRead]; exact .execCxlmemRead (m := 31250) .refl .refl
  case cxlmemWrite => rw [exec_cxlmemWrite]; exact .execCxlmemWrite (m := 31250) .refl .refl
  case biResponse => rw [exec_biResponse]; exact .execBiResponse (m := 17103450) .refl .refl
  case biTimeout => rw [exec_biTimeout]; exact .execBiTimeout (m := 2050) .refl .refl
  case cacheReadDone => rw [exec_cacheReadDone]; exact .execCacheReadDone (m := 162322) .refl .refl
  case cacheReadTimeout => rw [exec_cacheReadTimeout]; exact .execCacheReadTimeout (m := 2048) .refl .refl
  case cdatRead => rw [exec_cdatRead]; exact .execCdatRead (m := 16) .refl .refl
  case identifyMemoryDevice => rw [exec_identifyMemoryDevice]; exact .execIdentifyMemoryDevice (m := 16) .refl .refl
  case getSupportedLogs => rw [exec_getSupportedLogs]; exact .execGetSupportedLogs (m := 16) .refl .refl
  case getLog => rw [exec_getLog]; exact .execGetLog (m := 24) .refl .refl
  case getEventRecords => rw [exec_getEventRecords]; exact .execGetEventRecords (m := 16) .refl .refl
  case clearEventRecords => rw [exec_clearEventRecords]; exact .execClearEventRecords (m := 2064) .refl .refl
  case getEventInterruptPolicy => rw [exec_getEventInterruptPolicy]; exact .execGetEventInterruptPolicy (m := 16) .refl .refl
  case setEventInterruptPolicy => rw [exec_setEventInterruptPolicy]; exact .execSetEventInterruptPolicy (m := 2064) .refl .refl
  case getHealthInfo => rw [exec_getHealthInfo]; exact .execGetHealthInfo (m := 24) .refl .refl
  case getPoisonList => rw [exec_getPoisonList]; exact .execGetPoisonList (m := 16) .refl .refl
  case mailboxUnsupported => rw [exec_mailboxUnsupported]; exact .execMailboxUnsupported (m := 16) .refl .refl
  case getVersion => rw [exec_getVersion]; exact .execGetVersion (m := 16) .refl .refl
  case getCapabilities => rw [exec_getCapabilities]; exact .execGetCapabilities (m := 16) .refl .refl
  case negotiateAlgorithms => rw [exec_negotiateAlgorithms]; exact .execNegotiateAlgorithms (m := 16) .refl .refl
  case getDigests => rw [exec_getDigests]; exact .execGetDigests (m := 16) .refl .refl
  case getCertificate => rw [exec_getCertificate]; exact .execGetCertificate (m := 16) .refl .refl
  case challenge => rw [exec_challenge]; exact .execChallenge (m := 16) .refl .refl
  case getMeasurements => rw [exec_getMeasurements]; exact .execGetMeasurements (m := 16) .refl .refl
  case keyExchange => rw [exec_keyExchange]; exact .execKeyExchange (m := 16777232) .refl .refl
  case heartbeat => rw [exec_heartbeat]; exact .execHeartbeat (m := 16) .refl .refl
  case vendorDefinedRequest => rw [exec_vendorDefinedRequest]; exact .execVendorDefinedRequest (m := 16810074) .refl .refl
  case evrHeadWrite => rw [exec_evrHeadWrite]; exact .execEvrHeadWrite (m := 31314) .refl .refl
  case evrEnable => rw [exec_evrEnable]; exact .execEvrEnable (m := 31314) .refl .refl
  case msixTimer => rw [exec_msixTimer]; exact .execMsixTimer (m := 31314) .refl .refl
  case msixUnmask => rw [exec_msixUnmask]; exact .execMsixUnmask (m := 2064) .refl .refl
  case keyLoadBlob => rw [exec_keyLoadBlob]; exact .execKeyLoadBlob (m := 16840794) .refl .refl
  case lcRequest => rw [exec_lcRequest]; exact .execLcRequest (m := 17365082) .refl .refl
  case debugUnlock => rw [exec_debugUnlock]; exact .execDebugUnlock (m := 17301570) .refl .refl
  case tamper => rw [exec_tamper]; exact .execTamper (m := 16810050) .refl .refl
  case secSlotCtrLoRead => rw [exec_secSlotCtrLoRead]; exact .execSecSlotCtrLoRead (m := 20) .refl .refl
  case recordWindowWrite => rw [exec_recordWindowWrite]; exact .execRecordWindowWrite (m := 557058) .refl .refl
  case recordJob => rw [exec_recordJob]; exact .execRecordJob (m := 557130) .refl .refl
  case recordAccept => rw [exec_recordAccept]; exact .execRecordAccept (m := 23723098) .refl .refl
  case flushProgramDone => rw [exec_flushProgramDone]; exact .execFlushProgramDone (m := 32834) .refl .refl
  case sectorEraseDone => rw [exec_sectorEraseDone]; exact .execSectorEraseDone (m := 32834) .refl .refl
  case dumpCopyDone => rw [exec_dumpCopyDone]; exact .execDumpCopyDone (m := 32768) .refl .refl
  case counterIncrement => rw [exec_counterIncrement]; exact .execCounterIncrement (m := 32770) .refl .refl
  case nvsCntLoRead => rw [exec_nvsCntLoRead]; exact .execNvsCntLoRead (m := 20) .refl .refl
  case nvsErase => rw [exec_nvsErase]; exact .execNvsErase (m := 557122) .refl .refl
  case nvsProgram => rw [exec_nvsProgram]; exact .execNvsProgram (m := 557122) .refl .refl
  case nvsReadSlot => rw [exec_nvsReadSlot]; exact .execNvsReadSlot (m := 557122) .refl .refl
  case nvsReadLog => rw [exec_nvsReadLog]; exact .execNvsReadLog (m := 557122) .refl .refl
  case xferUnitDone => rw [exec_xferUnitDone]; exact .execXferUnitDone (m := 64082) .refl .refl
  case imageActivate => rw [exec_imageActivate]; exact .execImageActivate (m := 622658) .refl .refl
  case cpQuiescent => rw [exec_cpQuiescent]; exact .execCpQuiescent (m := 17367106) .refl .refl
  case cpSwap => rw [exec_cpSwap]; exact .execCpSwap (m := 19464258) .refl .refl
  case activationTimeout => rw [exec_activationTimeout]; exact .execActivationTimeout (m := 65602) .refl .refl
  case bankPowerRequest => rw [exec_bankPowerRequest]; exact .execBankPowerRequest (m := 2621442) .refl .refl
  case bankRetentionIdle => rw [exec_bankRetentionIdle]; exact .execBankRetentionIdle (m := 2) .refl .refl
  case bankInitDone => rw [exec_bankInitDone]; exact .execBankInitDone (m := 2) .refl .refl
  case sramRead => rw [exec_sramRead]; exact .execSramRead (m := 49989314) .refl .refl
  case marchStart => rw [exec_marchStart]; exact .execMarchStart (m := 36175938) .refl .refl
  case marchAbort => rw [exec_marchAbort]; exact .execMarchAbort (m := 36175938) .refl .refl
  case marchDone => rw [exec_marchDone]; exact .execMarchDone (m := 33555138) .refl .refl
  case arbRound => rw [exec_arbRound]; exact .execArbRound (m := 8538450) .refl .refl
  case arbApply => rw [exec_arbApply]; exact .execArbApply (m := 8388610) .refl .refl
  case arbApplyRaster => rw [exec_arbApplyRaster]; exact .execArbApplyRaster (m := 8388610) .refl .refl
  case requesterMask => rw [exec_requesterMask]; exact .execRequesterMask (m := 8388610) .refl .refl
  case copyStart => rw [exec_copyStart]; exact .execCopyStart (m := 33554498) .refl .refl
  case copyDone => rw [exec_copyDone]; exact .execCopyDone (m := 67108862) .refl .refl
  case h2dSnoop => rw [exec_h2dSnoop]; exact .execH2dSnoop (m := 16) .refl .refl
  case perstDeassert => rw [exec_perstDeassert]; exact .execPerstDeassert (m := 2048) .refl .refl
  case unclaimedPacket => rw [exec_unclaimedPacket]; exact .execUnclaimedPacket (m := 2) .refl .refl
  case upstreamBadCrc => rw [exec_upstreamBadCrc]; exact .execUpstreamBadCrc (m := 2) .refl .refl
  case reservedOpcode => rw [exec_reservedOpcode]; exact .execReservedOpcode (m := 8946370) .refl .refl
  case lockTxnReply => rw [exec_lockTxnReply]; exact .execLockTxnReply (m := 33261250) .refl .refl
  case requesterUnmask => rw [exec_requesterUnmask]; exact .execRequesterUnmask (m := 8388608) .refl .refl
  case l1Entry => rw [exec_l1Entry]; exact .execL1Entry (m := 2) .refl .refl
  case l1Exit => rw [exec_l1Exit]; exact .execL1Exit (m := 2) .refl .refl
  case ideKm => rw [exec_ideKm]; exact .execIdeKm (m := 2050) .refl .refl
  case d3hot => rw [exec_d3hot]; exact .execD3hot (m := 2048) .refl .refl

/-- What a command may not touch stands. -/
theorem exec_same {c : Instr} {s t : State} (h : exec c s = .next t) {p : Part} (hp : p ∉ mayTouch c) : s.same t p :=
  (Touch.exec c s t h).same p fun e => hp (mem_of_has e)

end Sys2Proof.Machine
end

