-- ==== Sys2Proof/WellFormed.lean ====
section
/-!
DEFINITION. Well-formed commands: every operand names something the block has. Step carries out a command as it stands; the
meanings leave the state alone where an operand names nothing.
-/
namespace Sys2Proof

/-- Origin ID of a Thoene core (R249). -/
def okCore (o : Nat) : Bool := decide ((0x300 ≤ o ∧ o ≤ 0x307) ∨ (0x400 ≤ o ∧ o ≤ 0x440))

/-- A requester of R721. -/
def okReq : Req → Bool
  | .core o => okCore o
  | _ => true

/-- Panel groups, command queues, command processors (R46, R306, R249). -/
def okGroup (g : Nat) : Bool := decide (g < 16)
def okQueue (q : Nat) : Bool := decide (q < 512)
def okCp (c : Nat) : Bool := decide (c < 8)

/-- Lane pairs with the spares, chains, slots of a table, spares and bundles (R351, R352, R400). -/
def okLane (l : Nat) : Bool := decide (l < 272)
def okChain (c : Nat) : Bool := decide (c < 256)
def okSlot (n : Nat) : Bool := decide (n < 64)
def okSpare (k : Nat) : Bool := decide (k < 16)

/-- A direction and a lane group of the link (R13). -/
def okLink (dir lg : Nat) : Bool := decide (dir < 2 ∧ lg < 10)

/-- Start-up stages (R676). -/
def okStage (n : Nat) : Bool := decide (1 ≤ n ∧ n ≤ 8)

/-- An aligned BAR0 offset, or a BAR2 doorbell page (R3, R341). -/
def okAddr (a : Nat) : Bool := a % 4 == 0 && decide (a < 0x04000000 ∨ (0x10000000 ≤ a ∧ a < 0x10100000))

/-- A byte of the frame store, a pseudo-channel, a stack (R190, R191). -/
def okStore (a : Nat) : Bool := decide (a < 0xC00000000)
def okPc (k : Nat) : Bool := decide (k < 64)
def okStack (k : Nat) : Bool := decide (k < 2)

/-- What a memory read found: 0 nothing, 1 a corrected error, 2 an uncorrectable one. -/
def okErr (n : Nat) : Bool := decide (n ≤ 2)

/-- Panes, encoders, SYNCIN pins, output pins and rails, event rings (R101, R213, R69, R276, R440, R535). -/
def okPane (p : Nat) : Bool := decide (p < 10240)
def okEncoder (e : Nat) : Bool := decide (e < 16)
def okSync (p : Nat) : Bool := decide (p < 4)
def okPin (p : Nat) : Bool := decide (p < 64)
def okRing (k : Nat) : Bool := decide (k < 8)

/-- Calibration items with a value, items with a stamp, classes of items (R486, R488, R506). -/
def okItem (i : Nat) : Bool := decide (i < 344)
def okStampItem (i : Nat) : Bool := decide (i < 360)
def okCalClass (k : Nat) : Bool := decide (k < 4)

/-- SRAM banks, requesters of R656, issuer slots, counters, sensors, ADC channels, record-store sectors (256 stands for the oldest of the log ring). -/
def okBank (b : Nat) : Bool := decide (b < 260)
def okRequester (n : Nat) : Bool := decide (n < 16)
def okIssuer (n : Nat) : Bool := decide (n < 64)
def okCounter (n : Nat) : Bool := decide (n < 256)
def okSensor (n : Nat) : Bool := decide (n < 32)
def okAdc (n : Nat) : Bool := decide (n < 16)
def okSector (n : Nat) : Bool := decide (n < 257)

/-- A payload of a flit that carries one (R14): 1 to 240 valid bytes, not idle, zeros after the valid bytes. -/
def okPayload (p : Payload) : Bool :=
  decide (1 ≤ p.plen ∧ p.plen ≤ 240 ∧ p.kind < 4 ∧ p.kind ≠ 1 ∧ p.data.toNat % 256 ^ (240 - p.plen) = 0)

/-- Functions, CXL event logs, a 64-byte line, an offset of the record-store window, reasons of R655. -/
def okFunc (f : Nat) : Bool := decide (f < 2)
def okLog (n : Nat) : Bool := decide (n < 4)
def okLine (bs : List Byte) : Bool := bs.length == 64
def okRecord (a : Nat) : Bool := decide (a < 0x100000) && a % 4 == 0
def okReason (n : Nat) : Bool := decide (n ≤ 3)

/-- A well-formed command. -/
def Instr.wf (i : Instr) : Bool :=
  match i with
  | .regWrite req addr _ => okReq req && okAddr addr
  | .porstAssert => true
  | .porstDeassert => true
  | .stageComplete stage _ => okStage stage
  | .stageTimeout stage => okStage stage
  | .pllRetry _ => true
  | .flitReceive dir lg _ => okLink dir lg
  | .flitSlot dir lg tc0 tc1 tc2 tc3 cred crtc =>
    okLink dir lg && tc0.all okPayload && tc1.all okPayload && (tc2.all fun o => okPayload o.2) && tc3.all okPayload &&
      decide (cred < 256 ∧ crtc < 4)
  | .replayTimeout dir lg => okLink dir lg
  | .laneGroupRetrain dir lg => okLink dir lg
  | .retrainDone dir lg _ => okLink dir lg
  | .linkMgmtFlit dir lg _ => okLink dir lg
  | .clockSourceLoss _ => true
  | .clockSourceReturn _ => true
  | .tsyncSend => true
  | .tsyncSample _ _ _ => true
  | .tsyncHoldover => true
  | .evtTimeLoRead req => okReq req
  | .eventMergeArrival _ => true
  | .eventRelease => true
  | .groupRun req g _ => okReq req && okGroup g
  | .groupStop req g _ => okReq req && okGroup g
  | .groupResume req g _ => okReq req && okGroup g
  | .groupEnterStopped g => okGroup g
  | .lineStart g => okGroup g
  | .syncoutPulseEnd g => okGroup g
  | .cutoff g => okGroup g
  | .latch g => okGroup g
  | .commitArrival => true
  | .syncinEdge pin _ _ => okSync pin
  | .teEdge g _ _ => okGroup g
  | .teWaitBegin g => okGroup g
  | .teTimeout g => okGroup g
  | .slotStart c slot => okChain c && okSlot slot
  | .tmgFrameLoRead req g => okReq req && okGroup g
  | .tmgLatchLoRead req g => okReq req && okGroup g
  | .srSleepSet req _ => okReq req
  | .srSleepClear req _ => okReq req
  | .pipeSpan g _ _ => okGroup g
  | .tableLoad req _ => okReq req
  | .tableReadback req _ => okReq req
  | .tldDone _ => true
  | .fstReadDone addr err _ => okStore addr && okErr err
  | .scrubRead _ err => okErr err
  | .refreshInterval pc _ => okPc pc
  | .stackIdle stack => okStack stack
  | .stackExitDone stack => okStack stack
  | .strudelConfigWrite req addr _ => okReq req && okAddr addr
  | .codecSubmit req _ => okReq req
  | .codecEncode => true
  | .codecRelease => true
  | .codecBlockDone e _ _ => okEncoder e
  | .cellRelease => true
  | .encoderRelease req _ => okReq req
  | .blockFetchDone p _ _ => okPane p
  | .tileFetchTimeout p _ _ _ => okPane p
  | .blockDecodeDone p _ _ _ => okPane p
  | .nop core => okCore core
  | .add core => okCore core
  | .sub core => okCore core
  | .and core => okCore core
  | .or core => okCore core
  | .xor core => okCore core
  | .shl core => okCore core
  | .shr core => okCore core
  | .sra core => okCore core
  | .min core => okCore core
  | .max core => okCore core
  | .mul16 core => okCore core
  | .cmp core => okCore core
  | .ldi core => okCore core
  | .lui core => okCore core
  | .lForm core => okCore core
  | .beq core => okCore core
  | .bne core => okCore core
  | .blt core => okCore core
  | .bge core => okCore core
  | .j core => okCore core
  | .call core => okCore core
  | .ret core => okCore core
  | .ld core => okCore core
  | .st core => okCore core
  | .ldx core => okCore core
  | .ldxDone core => okCore core
  | .stx core => okCore core
  | .waitl core => okCore core
  | .waitlDone core => okCore core
  | .waitc core => okCore core
  | .waitcDone core => okCore core
  | .waite core => okCore core
  | .waiteDone core => okCore core
  | .waitt core => okCore core
  | .waittDone core => okCore core
  | .fence core => okCore core
  | .fenceDone core => okCore core
  | .emit core _ => okCore core
  | .gset core => okCore core
  | .gclr core => okCore core
  | .gpulse core => okCore core
  | .gtoEdgePlace p => okPin p
  | .tbegin core => okCore core
  | .commit core => okCore core
  | .abort core => okCore core
  | .lock core => okCore core
  | .unlock core => okCore core
  | .event core => okCore core
  | .halt core => okCore core
  | .watchdogExpiry core => okCore core
  | .pfVector => true
  | .coreRun req core _ => okReq req && okCore core
  | .coreStop req core _ => okReq req && okCore core
  | .mboxWrite req core _ => okReq req && okCore core
  | .coreMemWindowWrite req addr _ => okReq req && okAddr addr
  | .doorbell req q _ _ => okReq req && okQueue q
  | .entryTake cp => okCp cp
  | .entryFetchDone cp _ => okCp cp
  | .trailerCheckDone => true
  | .entryRelease q => okQueue q
  | .queueRun req q _ => okReq req && okQueue q
  | .queueStop req q _ => okReq req && okQueue q
  | .cxlQReset req q _ => okReq req && okQueue q
  | .commitResultReport => true
  | .mpTbegin _ => true
  | .mpCommit _ => true
  | .mpAbort _ => true
  | .mpLock _ => true
  | .mpUnlock _ => true
  | .mpTargetReset => true
  | .lockBreak req _ => okReq req
  | .laneEnable req l _ => okReq req && okLane l
  | .blockLockGained l => okLane l
  | .blockLockLost l => okLane l
  | .invalidBlock l => okLane l
  | .alignSend bundle => okSpare bundle
  | .alignReturn c _ _ => okChain c
  | .enumSend c => okChain c
  | .enumReturn c _ _ => okChain c
  | .ackReceive c _ _ => okChain c
  | .nakReceive c _ _ _ _ => okChain c
  | .rdrReceive c _ _ _ _ => okChain c
  | .snsReceive c _ _ _ _ => okChain c
  | .retryTimeout c _ _ => okChain c
  | .freeSlot c => okChain c
  | .reenumerate req l _ => okReq req && okLane l
  | .queueFlush req l _ => okReq req && okLane l
  | .txSleep l => okLane l
  | .txWake l => okLane l
  | .txWakeDone l => okLane l
  | .rxSleep l => okLane l
  | .rxWake l => okLane l
  | .spareAutoSwitch c => okChain c
  | .txDriverFault l _ => okLane l
  | .spareForce req k _ => okReq req && okSpare k
  | .spareRelease req k _ => okReq req && okSpare k
  | .spareSwitchTimeout k => okSpare k
  | .failedRetry c => okChain c
  | .inject req l _ => okReq req && okLane l
  | .injectRepeat l => okLane l
  | .upqDataRead req g => okReq req && okGroup g
  | .upqPop req g _ _ => okReq req && okGroup g
  | .railPowerUp req g _ => okReq req && okGroup g
  | .railPowerDown req g _ => okReq req && okGroup g
  | .railOnDelay g => okGroup g
  | .railOffDelay g => okGroup g
  | .railgoodEdge r _ => okPin r
  | .railTimeout r => okPin r
  | .railForceOn req _ => okReq req
  | .railForceOff req _ => okReq req
  | .railForceRelease req _ => okReq req
  | .pfTrip _ _ => true
  | .pfDischarge => true
  | .trippedClear req _ _ _ => okReq req
  | .panelTempPoll g => okGroup g
  | .panelTempReadDone g _ _ => okGroup g
  | .bisRequest req g _ => okReq req && okGroup g
  | .bisBlockFetchDone g _ _ _ => okGroup g
  | .journalScan req _ => okReq req
  | .bonbonEnter req _ => okReq req
  | .bonbonSend req _ => okReq req
  | .bonbonExit req _ => okReq req
  | .calPeriod cls => okCalClass cls
  | .calGo req _ => okReq req
  | .calApply item _ _ _ => okItem item
  | .calRunTimeout item => okItem item
  | .calValWrite req item _ => okReq req && okItem item
  | .calSave req _ => okReq req
  | .calLoad req _ => okReq req
  | .calTsLoRead req item => okReq req && okStampItem item
  | .tempSensorUpdate n _ => okSensor n
  | .railMonitorUpdate n _ => okAdc n
  | .foldEnable req g _ => okReq req && okGroup g
  | .foldDisable req g _ => okReq req && okGroup g
  | .foldWritesDone g => okGroup g
  | .foldReplayDone g => okGroup g
  | .foldRetry g => okGroup g
  | .hostHotReset => true
  | .perstAssert => true
  | .linkLoss => true
  | .linkUp _ _ _ _ => true
  | .flr func => okFunc func
  | .cxlReset => true
  | .cxlCacheAvailable => true
  | .cxlCacheUnavailable => true
  | .hdmCommit _ _ _ => true
  | .cxlmemRead _ _ => true
  | .cxlmemWrite _ bytes _ _ => okLine bytes
  | .biResponse _ => true
  | .biTimeout _ => true
  | .cacheReadDone _ _ _ _ => true
  | .cacheReadTimeout _ => true
  | .cdatRead => true
  | .identifyMemoryDevice => true
  | .getSupportedLogs => true
  | .getLog _ _ => true
  | .getEventRecords log => okLog log
  | .clearEventRecords log _ => okLog log
  | .getEventInterruptPolicy => true
  | .setEventInterruptPolicy _ => true
  | .getHealthInfo => true
  | .getPoisonList => true
  | .mailboxUnsupported _ => true
  | .getVersion => true
  | .getCapabilities => true
  | .negotiateAlgorithms _ => true
  | .getDigests => true
  | .getCertificate _ _ _ => true
  | .challenge _ => true
  | .getMeasurements _ _ => true
  | .keyExchange _ _ => true
  | .heartbeat _ => true
  | .vendorDefinedRequest _ _ => true
  | .evrHeadWrite req k _ => okReq req && okRing k
  | .evrEnable req k _ => okReq req && okRing k
  | .msixTimer k => okRing k
  | .msixUnmask func _ => okFunc func
  | .keyLoadBlob req _ => okReq req
  | .lcRequest req _ => okReq req
  | .debugUnlock req _ => okReq req
  | .tamper => true
  | .secSlotCtrLoRead req n => okReq req && okIssuer n
  | .recordWindowWrite req ofs _ => okReq req && okRecord ofs
  | .recordJob req _ => okReq req
  | .recordAccept => true
  | .flushProgramDone => true
  | .sectorEraseDone sec => okSector sec
  | .dumpCopyDone => true
  | .counterIncrement req _ => okReq req
  | .nvsCntLoRead req n => okReq req && okCounter n
  | .nvsErase req _ => okReq req
  | .nvsProgram req _ => okReq req
  | .nvsReadSlot req _ => okReq req
  | .nvsReadLog req _ => okReq req
  | .xferUnitDone _ _ => true
  | .imageActivate req _ => okReq req
  | .cpQuiescent cp => okCp cp
  | .cpSwap cp => okCp cp
  | .activationTimeout => true
  | .bankPowerRequest req b _ => okReq req && okBank b
  | .bankRetentionIdle b => okBank b
  | .bankInitDone b => okBank b
  | .sramRead b _ err _ => okBank b && okErr err
  | .marchStart req _ => okReq req
  | .marchAbort req _ => okReq req
  | .marchDone _ => true
  | .arbRound _ _ _ => true
  | .arbApply req _ => okReq req
  | .arbApplyRaster => true
  | .requesterMask n _ => okRequester n
  | .copyStart req _ => okReq req
  | .copyDone _ reason _ => okReason reason
  | .h2dSnoop _ => true
  | .perstDeassert => true
  | .unclaimedPacket c _ => okChain c
  | .upstreamBadCrc c => okChain c
  | .reservedOpcode core => okCore core
  | .lockTxnReply core => okCore core
  | .requesterUnmask n => okRequester n
  | .l1Entry => true
  | .l1Exit => true
  | .ideKm _ _ _ => true
  | .d3hot func _ => okFunc func

end Sys2Proof
end

