-- ==== Sys2Proof/Tests/Slice0.lean ====
section
/-!
SUPPORT. Tests: ill-formed commands that each check of WellFormed refuses; instruction words written out from R256 and R257; one step
of a few commands on a small state; and, for the statements of Certificates/Slice0, states that meet their hypotheses.
-/
set_option Elab.async false
namespace Sys2Proof.Tests
open Sys2Proof Sys2Proof.Machine

/-! ## WellFormed refuses -/

theorem test_wf_requester : Instr.wf (.evtTimeLoRead (.core 0x308)) = false := by decide
theorem test_wf_core : Instr.wf (.nop 0x441) = false := by decide
theorem test_wf_group : Instr.wf (.latch 16) = false := by decide
theorem test_wf_queue : Instr.wf (.entryRelease 512) = false := by decide
theorem test_wf_cp : Instr.wf (.entryTake 8) = false := by decide
theorem test_wf_lane : Instr.wf (.txSleep 272) = false := by decide
theorem test_wf_chain : Instr.wf (.freeSlot 256) = false := by decide
theorem test_wf_slot : Instr.wf (.slotStart 0 64) = false := by decide
theorem test_wf_spare : Instr.wf (.alignSend 16) = false := by decide
theorem test_wf_link_direction : Instr.wf (.replayTimeout 2 0) = false := by decide
theorem test_wf_link_lane_group : Instr.wf (.replayTimeout 0 10) = false := by decide
theorem test_wf_stage : Instr.wf (.stageTimeout 9) = false ∧ Instr.wf (.stageTimeout 0) = false := by decide
theorem test_wf_address_alignment : Instr.wf (.regWrite .pf0 0x02 0) = false := by decide
theorem test_wf_address_range : Instr.wf (.regWrite .pf0 0x04000000 0) = false := by decide
theorem test_wf_store : Instr.wf (.fstReadDone 0xC00000000 0 0) = false := by decide
theorem test_wf_pseudo_channel : Instr.wf (.refreshInterval 64 0) = false := by decide
theorem test_wf_stack : Instr.wf (.stackIdle 2) = false := by decide
theorem test_wf_error : Instr.wf (.scrubRead 0 3) = false := by decide
theorem test_wf_pane : Instr.wf (.tileFetchTimeout 10240 0 0 0) = false := by decide
theorem test_wf_encoder : Instr.wf (.codecBlockDone 16 0 0) = false := by decide
theorem test_wf_sync_pin : Instr.wf (.syncinEdge 4 0 0) = false := by decide
theorem test_wf_pin : Instr.wf (.railTimeout 64) = false := by decide
theorem test_wf_ring : Instr.wf (.msixTimer 8) = false := by decide
theorem test_wf_item : Instr.wf (.calRunTimeout 344) = false := by decide
theorem test_wf_stamp_item : Instr.wf (.calTsLoRead .pf0 360) = false := by decide
theorem test_wf_cal_class : Instr.wf (.calPeriod 4) = false := by decide
theorem test_wf_bank : Instr.wf (.bankInitDone 260) = false := by decide
theorem test_wf_requester_number : Instr.wf (.requesterUnmask 16) = false := by decide
theorem test_wf_issuer : Instr.wf (.secSlotCtrLoRead .mp 64) = false := by decide
theorem test_wf_counter : Instr.wf (.nvsCntLoRead .pf0 256) = false := by decide
theorem test_wf_sensor : Instr.wf (.tempSensorUpdate 32 0) = false := by decide
theorem test_wf_adc : Instr.wf (.railMonitorUpdate 16 0) = false := by decide
theorem test_wf_sector : Instr.wf (.sectorEraseDone 257) = false := by decide
theorem test_wf_function : Instr.wf (.flr 2) = false := by decide
theorem test_wf_log : Instr.wf (.getEventRecords 4) = false := by decide
theorem test_wf_line : Instr.wf (.cxlmemWrite 0 [] 0 false) = false := by decide
/-- A payload of `n` bytes of `0xAB…`, one byte longer if `n` says fewer than it holds. -/
def pay (kind n : Nat) : Payload := ⟨kind, n, BitVec.ofNat 1920 (0xAB * 256 ^ 238)⟩

theorem test_wf_flit : Instr.wf (.flitSlot 0 9 (some (pay 1 2)) none [] none 0 0) = false ∧
  Instr.wf (.flitSlot 0 9 none (some (pay 0 0)) [] none 0 0) = false ∧
  Instr.wf (.flitSlot 0 9 none none [(3, pay 0 1)] none 0 0) = false ∧
  Instr.wf (.flitSlot 0 9 none none [] (some (pay 0 241)) 0 0) = false ∧
  Instr.wf (.flitSlot 0 9 none none [] none 256 0) = false ∧ Instr.wf (.flitSlot 0 9 none none [] none 0 4) = false ∧
  Instr.wf (.flitSlot 0 9 none none [(3, pay 0 2)] none 255 3) = true := by decide +kernel
theorem test_wf_record : Instr.wf (.recordWindowWrite .pf0 0x100000 0) = false ∧ Instr.wf (.recordWindowWrite .pf0 2 0) = false := by decide
theorem test_wf_reason : Instr.wf (.copyDone 0 4 0) = false := by decide
theorem test_wf_accepts : Instr.wf (.regWrite .pf0 0x40 0) = true ∧ Instr.wf (.slotStart 255 63) = true ∧
  Instr.wf (.nop 0x440) = true ∧ Instr.wf (.nop 0x307) = true := by decide

/-! ## Small states -/

/-- Out of reset, every block reachable. -/
def up : State := { State.reset with boot := { State.reset.boot with porst := false } }.setF fGEN_BLKRDY_RDY 0xFFFFFF

/-- `s` with several fields set. -/
def sets (s : State) (l : List (Fld × Nat)) : State := l.foldl (fun s x => s.setF x.1 x.2) s

/-- `s` at tick `m` of the master and `r` of the raster die. -/
def clk (s : State) (m r : Nat) : State := { s with time := { s.time with master := m, raster := r } }

theorem test_no_word_decodes : decodeTableWord 32 0x44210001 = none := by decide
theorem test_word_placed_changes_nothing (s : State) (n w : Nat) : s.withFetchWord n w = s := rfl

/-! ## States that meet the hypotheses of the statements -/

/-- A flit held for replay. -/
def held (q : Nat) : HeldFlit := ⟨q, 2, 0, 8, 0, 3⟩

/-- Lane group 9 of both directions operating; the transmitter from raster to host holds the flits 5 and 6. -/
def link : State :=
  (((sets up [(fLgState 0 9, 2), (fLgState 1 9, 2)]).setLane 1 9 { LaneGrp.init with replay := [held 5, held 6] }).setLane 0 9
    { LaneGrp.init with exp := 4095 })

theorem flitOk_mkFlit (h : FlitHdr) (data : BitVec 1920) : flitOk (mkFlit h data) = true := by
  unfold flitOk mkFlit
  dsimp only
  rw [decide_eq_true_eq, BitVec.extractLsb'_append_eq_left, BitVec.extractLsb'_append_eq_right]

theorem mkFlit_header (h : FlitHdr) (data : BitVec 1920) : (mkFlit h data).extractLsb' 1984 64 =
    BitVec.ofNat 64 (packBits [(12, 0), (4, h.lgrp), (8, h.plen), (8, h.cred), (2, h.crtc), (2, h.ackk), (12, h.ackSeq),
      (12, h.seq), (2, h.kind), (2, h.tc)]) := by
  unfold mkFlit
  dsimp only
  generalize BitVec.ofNat 64 (packBits _) = w
  generalize crc64 _ = c
  apply BitVec.eq_of_getElem_eq
  intro i hi
  rw [BitVec.getElem_extractLsb', BitVec.getLsbD_append, BitVec.getLsbD_append, if_neg (by omega), if_neg (by omega)]
  rw [show 1984 + i - 64 - 1920 = i by omega]
  exact BitVec.getLsbD_eq_getElem hi

def flitOf (ackk : Nat) : Flit := mkFlit ⟨2, 0, 4095, 5, ackk, 0, 3, 8, 9⟩ 0

theorem witness_LinkReceiverKeepsSequence :
    link.lgUp 0 9 = true ∧
    (∀ k, flitOk (flitOf k) = true) ∧
    (∀ k, k < 3 → (flitHdr (flitOf k)).seq = (link.lane 0 9).exp ∧ (flitHdr (flitOf k)).ackk = k) ∧
    (link.lane 1 9).replay = [] ++ held 5 :: [held 6] ∧ (held 5).seq = (flitHdr (flitOf 1)).ackSeq ∧
    (held 5).seq = (flitHdr (flitOf 2)).ackSeq ∧
    (link.lane 0 9).drop = false ∧ (flitHdr 0).seq ≠ (link.lane 0 9).exp ∧
    (let s := link.setLane 0 9 { LaneGrp.init with drop := true, exp := 1 }
     (s.lane 0 9).drop = true ∧ (flitHdr 0).seq ≠ (s.lane 0 9).exp ∧ s.lgUp 0 9 = true) := by
  refine ⟨by decide +kernel, fun k => flitOk_mkFlit _ _, ?_, ?_⟩
  · intro k hk
    unfold flitHdr flitOf
    rw [mkFlit_header]
    revert k
    decide +kernel
  · unfold flitHdr flitOf
    rw [mkFlit_header, mkFlit_header]
    decide +kernel

/-- The winner of a round, and that it is one. -/
def roundWinner (s : State) (dir lg : Nat) (reqs : List Nat) : Option Nat := (s.classRound (arbLg (lgKey dir lg)) false reqs).1

theorem witness_LinkTransmitterFillsSlots :
    (let s := link.setLane 1 9 { LaneGrp.init with replay := [held 5, held 6], resend := 2 }
     s.lgUp 1 9 = true ∧ 0 < (s.lane 1 9).resend ∧ (s.lane 1 9).replay[2 - 2]? = some (held 5)) ∧
    (let s := link.setLane 1 9 { LaneGrp.init with replay := List.replicate 128 (held 5) }
     s.lgUp 1 9 = true ∧ (s.lane 1 9).resend = 0 ∧ 128 ≤ (s.lane 1 9).replay.length) ∧
    ((link.lane 0 9).resend = 0 ∧ (link.lane 0 9).replay.length < 128 ∧ link.moved 0 = [] ∧ link.ownFlits 0 = [] ∧
      payloadOk (pay 0 2) = true ∧ link.ctrlReady 0 9 = true ∧ link.tc3Open 0 9 = true) ∧
    (let s := { link with link := { link.link with moved := [(0, [{ held 5 with tc := 0 }, held 6])] } }
     s.moved 0 = { held 5 with tc := 0 } :: [held 6]) ∧
    (link.setOwn 0 [.sync, .report 9 7]).ownFlits 0 = .sync :: [.report 9 7] ∧
    (let s := sets link [(fLgState 0 8, 2)]
     s.lgUp 0 9 = true ∧ s.ctrlReady 0 9 = false ∧ s.tc3Open 0 9 = false) ∧
    (let o2 := [(15, pay 0 2), (3, pay 3 240)]
     (∀ o ∈ o2, o.1 < 16 ∧ payloadOk o.2 = true ∧ smGet (fun _ => false) link.arb.masked o.1 = false) ∧
     (link.lane 0 9).grant = none ∧ roundWinner link 0 9 [3, 15] = some 3 ∧
     (List.range 16).filter (fun k => o2.any fun o => o.1 == k) = [3, 15] ∧ o2.find? (fun o => o.1 == 3) = some (3, pay 3 240) ∧
     ((link.setLane 0 9 { LaneGrp.init with grant := some 15 }).lane 0 9).grant = some 15 ∧
     o2.find? (fun o => o.1 == 15) = some (15, pay 0 2)) ∧
    smGet (fun _ => false) link.arb.masked 15 = false := by decide +kernel

theorem witness_LinkReplaysRetrainsAndRetires :
    (let s := { link with time := { link.time with raster := 256 } }
     s.lgUp 1 9 = true ∧ (s.lane 1 9).replay ≠ [] ∧ (s.lane 1 9).heldSince + 256 ≤ s.clock (dirOrigin 1)) ∧
    (let s := link.setLane 1 9 { LaneGrp.init with same := 4 }
     s.lgUp 1 9 = true ∧ 4 ≤ (s.lane 1 9).same) ∧
    (let s := sets up [(fLgState 0 9, 1), (fDMH_TC_CFG_HALF_EN, 1)]
     s.f (fLgState 0 9) = 1 ∧ (s.lane 0 9).half = 0 ∧ s.on fDMH_TC_CFG_HALF_EN = true) ∧
    (let s := sets up [(fLgState 0 9, 1), (fDMH_TC_CFG_HALF_EN, 0)]
     s.f (fLgState 0 9) = 1 ∧ s.on fDMH_TC_CFG_HALF_EN = false) ∧
    (let s := link.setLane 1 9 { LaneGrp.init with replay := [held 5], awaitMgmt := true }
     (s.lane 1 9).awaitMgmt = true ∧ OwnFlit.report 9 (s.lane 1 9).lastSeq ∉ s.ownFlits 0) ∧
    (∃ failed : Nat, failed % 256 ≠ 0 ∧ failed / 256 % 256 ≠ 0) ∧ (256 : Nat) % 256 = 0 ∧ 256 / 256 % 256 ≠ 0 ∧ 65535 % 65536 ≠ 0 :=
  ⟨by decide +kernel, by decide +kernel, by decide +kernel, by decide +kernel, by decide +kernel, ⟨257, by decide, by decide⟩,
    by decide, by decide, by decide⟩

theorem witness_ClockSourceLossAndReturn :
    (let s := sets up [(fCLK_LOCK_LOCK, 0x1FFF)]
     ∀ i, i < 13 → bit (s.f fCLK_LOCK_LOCK) i = 1) ∧
    (let s := sets up [(fCLK_LOCK_LOCK, 0x0008), (fLNK_STATUS_STATE 271, 5)]
     bit (s.f fCLK_LOCK_LOCK) 3 = 1 ∧ bit (s.f fCLK_LOCK_LOCK) (7 - 3) = 0 ∧ s.lnSt 271 ≠ 0 ∧ s.lnSt 271 ≠ 6) := by decide +kernel

theorem witness_TimeSynchronisationSamples :
    ((sets up [(fLgState 0 9, 2)]).ctrlLg 0 ≠ none ∧ up.ctrlLg 0 = none ∧ up.time.syncDue ≤ up.time.master ∧
      (let s := { up with time := { up.time with syncDue := 65536 } }
       s.time.master < s.time.syncDue)) ∧
    (let s := { up with time := { up.time with raster := 1048576, syncSent := some 100, minRtt := some 10 } }
     s.time.syncSent = some 100 ∧ (∀ m, s.time.minRtt = some m → 16 ≤ m + 6) ∧ ¬ (∀ m, s.time.minRtt = some m → 17 ≤ m + 6) ∧
     s.f fEVT_TSYNC_STATUS_SAMPLES = 0 ∧ s.on fEVT_TSYNC_STATUS_TIME_VALID = false ∧ ((108 : Nat) : Int) - 100 - ((16 / 2 : Nat) : Int) ≤ 0 ∧
     s.time.lastSample + 1048576 ≤ s.time.raster ∧ s.on fEVT_TSYNC_STATUS_HOLDOVER = false) ∧
    (let s := sets up [(fEVT_TSYNC_STATUS_SAMPLES, 7), (fEVT_TSYNC_STATUS_HOLDOVER, 1)]
     s.f fEVT_TSYNC_STATUS_SAMPLES ≠ 0 ∧ s.on fEVT_TSYNC_STATUS_HOLDOVER = true) := by
  refine ⟨by decide +kernel, ⟨rfl, ?_, ?_, by decide +kernel⟩, by decide +kernel⟩
  · intro m h; cases h; omega
  · intro h; exact absurd (h 10 rfl) (by omega)

theorem witness_LatchedReadsReturnOneMoment :
    (up.barOk .mp = true ∧ ∀ a ∈ [0x03400000, (fTMG_FRAME_LO_FRAME_LO 15).addr, (fTMG_LATCH_LO_LATCH_LO 15).addr,
      (fSEC_SLOT_CTR_LO_CTR_LO 63).addr, (fNVS_CNT_LO_VAL_LO 255).addr, (fCAL_TS_LO_TS_LO 359).addr], up.reach a = true) ∧
    up.f (fCAL_TS_LO_TS_LO 359) < 2 ^ 32 ∧ ({ up with host := { up.host with d3pf0 := true } } : State).barOk .pf0 = false ∧
    (let s := sets up [(fGEN_BLKRDY_RDY, 0)]; s.barOk .mp = true ∧ s.reach 0x03400000 = false) := by decide +kernel

def ev0 (stamp origin : Nat) : Ev := ⟨stamp, 0x106, false, origin, 0, 0⟩

theorem witness_EventMergeReleasesInStampOrder :
    (let s := { up with ev := ⟨[ev0 0 0xB01, ev0 5 0xB00], [], []⟩, time := (clk up up.settle 0).time }
     s.ev.enRoute[1]? = some (ev0 5 0xB00) ∧ (∀ x ∈ s.ev.enRoute.take 1, x.origin ≠ 0xB00) ∧
       s.ev.enRoute[0]? = some (ev0 0 0xB01) ∧ s.time.master = 0 + s.settle ∧ s.ev.merge = []) ∧
    (let s := { up with ev := ⟨[ev0 0 0xB01], [], []⟩, time := (clk up (up.settle + 1) 0).time }
     s.ev.enRoute[0]? = some (ev0 0 0xB01) ∧ 0 + s.settle < s.time.master) ∧
    (let s := { up with ev := ⟨[], [ev0 7 0xB01, ev0 7 0xB00], []⟩, time := (clk up (7 + up.settle) 0).time }
     s.ev.merge[1]? = some (ev0 7 0xB00) ∧ 7 + s.settle ≤ s.time.master) ∧
    (let s := { up with ev := ⟨[], [ev0 7 0xB00], []⟩, time := (clk up (6 + up.settle) 0).time }
     s.ev.merge[0]? = some (ev0 7 0xB00) ∧ s.time.master < 7 + s.settle) ∧
    (up.logged (ev0 7 0xB00) = false ∧ up.on (fEVR_CFG_EN (up.f (fEVT_ROUTE_RING (0xB00 / 256 % 16)))) = false) := by decide +kernel

/-- Class 11 routed to ring 7, enabled, in host memory. -/
def ring7 : State := sets up [(fEVT_ROUTE_EN 11, 1), (fEVT_ROUTE_RING 11, 7), (fEVR_CFG_EN 7, 1), (fEVR_CFG_SPACE 7, 1), (fEVR_MOD_CNT 7, 2)]

theorem witness_EventRingsWriteRecordTailMessage :
    ((ring7.ring 7).acts = [] ∧ ring7.logged (ev0 7 0xB00) = false ∧ ring7.on (fEVT_ROUTE_EN (0xB00 / 256 % 16)) = true ∧
      ring7.f (fEVT_ROUTE_RING (0xB00 / 256 % 16)) = 7 ∧ ring7.on (fEVR_CFG_EN 7) = true ∧ ring7.on (fEVR_CFG_SPACE 7) = true ∧
      (ring7.ring 7).held = [] ∧ ring7.ringFull 7 = false ∧ ring7.ownVec (ev0 7 0xB00) = false ∧
      ring7.on (fEVT_ROUTE_URGENT (0xB00 / 256 % 16)) = false ∧ (ring7.ring 7).p + 1 < max 1 (ring7.f (fEVR_MOD_CNT 7))) ∧
    ((up.ring 7).acts = [] ∧ (up.ring 7).held = [] ∧ (0x80000000#32).getLsbD 31 = true ∧ up.on (fEVR_CFG_EN 7) = false ∧
      up.takesWrite .pf0 (fEVR_CFG_EN 7).addr = true) ∧
    (ring7.takesWrite .pf0 (fEVR_PTR_HEAD 7).addr = true) ∧
    (let s := (sets (clk ring7 64 0) [(fEVR_MOD_TIME 7, 1)]).setRing 7 { ring7.ring 7 with p := 1, pFirst := 0 }
     (s.ring 7).acts = [] ∧ s.f (fEVR_MOD_TIME 7) ≠ 0 ∧ (s.ring 7).p ≠ 0 ∧ (s.ring 7).pFirst + 64 * s.f (fEVR_MOD_TIME 7) ≤ s.time.master) ∧
    0 < msixCount 1 := by decide +kernel

/-- A timing of 1,000 lines of 8,000 ticks, and group 15 set up for it, its rails on, an unused chain range. -/
def timing15 : State := sets up [(fTMG_HACT_VALUE 15, 64), (fTMG_HFP_VALUE 15, 2), (fTMG_HSYNC_VALUE 15, 2), (fTMG_HBP_VALUE 15, 2),
  (fTMG_VACT_VALUE 15, 900), (fTMG_VFP_VALUE 15, 50), (fTMG_VSYNC_VALUE 15, 2), (fTMG_VBP_VALUE 15, 48), (fTMG_LPER_INT_LPER_INT 15, 8000),
  (fPIX_LB_COUNT 15, 1), (fDRV_MODE_TECH 15, 1), (fDRV_STATUS_RSTATE 15, 2)]

/-- Group 15 in a frame: its line `n` in progress since tick 0, nothing else noted, at tick `now`. -/
def frame15 (n now : Nat) (f : Grp → Grp) : State :=
  clk ((timing15.setF (fTMG_STATUS_STATE 15) 2).setGrp 15 (f { Grp.init with
    cur := timing15.timing 15, epoch := 0, line := n, k := 0, live := true, porch := 50, frame := 41, latched := decide (900 ≤ n) })) 0 now

theorem witness_RasterLinesFollowTheGrid :
    (let s := frame15 0 8000 id
     (s.grp 15).latchDue = false ∧ s.nextEv 15 = .line 8000 ∧ 8000 ≤ s.time.raster ∧ (s.grp 15).urAbort = none) ∧
    (let s := frame15 0 8000 fun x => { x with urAbort := some 1000 }
     (s.grp 15).latchDue = false ∧ s.nextEv 15 = .line 8000 ∧ 1000 + s.cutoff 15 ≤ 8000 ∧ (s.grp 15).line + 1 < (s.grp 15).cur.vact) ∧
    (let s := frame15 999 8000 id
     (s.grp 15).latchDue = false ∧ s.nextEv 15 = .zero 8000 ∧ (s.grp 15).swaps = [] ∧ (s.grp 15).live = true ∧
       (s.grp 15).newTiming = false ∧ (s.grp 15).teWait = none) ∧
    (let s := frame15 999 7999 fun x => { x with newTiming := true }
     (s.grp 15).latchDue = false ∧ s.nextEv 15 = .zero 8000 ∧ s.time.raster < 8000 ∧ (s.grp 15).newTiming = true) ∧
    (let s := sets (frame15 999 8000 id) [(fTMG_TE_CFG_TE_EN 15, 1), (fDRV_MODE_TECH 15, 4)]
     (s.grp 15).latchDue = false ∧ s.nextEv 15 = .wait 8000) ∧
    ((frame15 900 8000 fun x => { x with latched := false }).grp 15).latchDue = true ∧
    (let s := frame15 0 99 fun x => { x with syncEnd := some 99 }
     (s.grp 15).syncEnd = some 99 ∧ 99 ≤ s.time.raster) ∧
    (let s := sets (frame15 999 8000 fun x => { x with teWait := some 0 }) [(fTMG_TE_CFG_TIMEOUT 15, 1), (fTMG_TE_CFG_FALLBACK 15, 0)]
     (s.grp 15).teE = none ∧ s.f (fTMG_TE_CFG_TIMEOUT 15) ≠ 0 ∧ s.on (fTMG_TE_CFG_FALLBACK 15) = false ∧
       ceilTick (65536 * 0 + ((s.grp 15).teOuts + 1) * s.f (fTMG_TE_CFG_TIMEOUT 15) * s.lper 15) = s.time.raster) ∧
    (let s := sets (frame15 999 8000 fun x => { x with teWait := some 0 }) [(fTMG_TE_CFG_TIMEOUT 15, 1), (fTMG_TE_CFG_FALLBACK 15, 1)]
     (s.grp 15).teE = none ∧ s.f (fTMG_TE_CFG_TIMEOUT 15) ≠ 0 ∧ s.on (fTMG_TE_CFG_FALLBACK 15) = true ∧ (s.grp 15).swaps = [] ∧
       ceilTick (65536 * 0 + ((s.grp 15).teOuts + 1) * s.f (fTMG_TE_CFG_TIMEOUT 15) * s.lper 15) = s.time.raster) := by decide +kernel

theorem witness_GroupsStartStopAndResume :
    (let s := timing15
     let w := s.putFields (fTMG_CTRL_RUN 15).addr 1 regTMG_CTRL.fields (s.gState 15 == 0) (atBits [0])
     s.takesWrite .pf0 (fTMG_CTRL_RUN 15).addr = true ∧ s.gState 15 = 0 ∧ s.on fDRV_PF_TRIPPED = false ∧
       w.on fFLT_STATUS_TERMINAL = false ∧ w.startCode 15 = 0) ∧
    (let s := sets timing15 [(fTMG_HACT_VALUE 15, 0)]
     let w := s.putFields (fTMG_CTRL_RUN 15).addr 1 regTMG_CTRL.fields (s.gState 15 == 0) (atBits [0])
     s.takesWrite .pf0 (fTMG_CTRL_RUN 15).addr = true ∧ s.gState 15 = 0 ∧ w.startCode 15 = 1) ∧
    (let s := sets timing15 [(fDRV_STATUS_RSTATE 15, 0)]
     let w := s.putFields (fTMG_CTRL_RUN 15).addr 1 regTMG_CTRL.fields (s.gState 15 == 0) (atBits [0])
     s.takesWrite .pf0 (fTMG_CTRL_RUN 15).addr = true ∧ s.gState 15 = 0 ∧ w.startCode 15 = 16) ∧
    (let s := frame15 0 0 id
     s.takesWrite .pf0 (fTMG_CTRL_RUN 15).addr = true ∧ s.gState 15 = 2 ∧ (s.grp 15).teWait = none) ∧
    (let s := sets (frame15 0 0 id) [(fTMG_STATUS_STATE 15, 3)]
     let w := s.putFields (fTMG_CTRL_RUN 15).addr 1 regTMG_CTRL.fields (s.gState 15 == 0) (atBits [0])
     s.takesWrite .pf0 (fTMG_CTRL_RUN 15).addr = true ∧ s.gState 15 = 3 ∧ s.on fDRV_PF_TRIPPED = false ∧
       w.on fFLT_STATUS_TERMINAL = false) ∧
    (let s := sets (frame15 999 8000 id) [(fTMG_STATUS_STATE 15, 3)]
     (s.grp 15).latchDue = false ∧ (s.grp 15).swaps = [] ∧ (s.grp 15).attr = [] ∧ (s.grp 15).held = [] ∧ (s.grp 15).later = [] ∧
       s.nextEv 15 = .stop 8000 ∧ 8000 ≤ s.time.raster) ∧
    (let s := sets (frame15 999 0 fun x => { x with teWait := some 0 }) [(fTMG_STATUS_STATE 15, 3)]
     (s.grp 15).latchDue = false ∧ s.gState 15 = 3 ∧ (s.grp 15).teWait.isSome = true) := by decide +kernel

def commit15 (doom : Nat) : Commit := ⟨0x440, 7, 15, [], doom, 0, false⟩

theorem witness_CutoffsLatchesCommitsAndEdges :
    (let s := frame15 0 7200000 id
     s.nextCut 15 = some 7199744 ∧ 7199744 ≤ s.time.raster ∧ (s.grp 15).cutPassed = false) ∧
    (let s := frame15 900 7200000 fun x => { x with latched := false, cutPassed := true }
     (s.grp 15).latchDue = true ∧ (s.grp 15).cutPassed = true) ∧
    ((frame15 0 0 id).grp 15).latchDue = false ∧
    (let s := { frame15 0 0 id with transit := [commit15 20] }
     s.transit = [commit15 20] ∧ ({ s with transit := [] } : State).commitCode { commit15 20 with arrival := s.time.raster } ≠ 0) ∧
    (let s := { frame15 0 0 id with transit := [commit15 0] }
     ({ s with transit := [] } : State).commitCode { commit15 0 with arrival := s.time.raster } = 0 ∧ s.gState 15 ≠ 0 ∧
       ({ s with transit := [] } : State).pastCut 15 = false) ∧
    (let s := { frame15 0 7200000 id with transit := [commit15 0] }
     ({ s with transit := [] } : State).commitCode { commit15 0 with arrival := s.time.raster } = 0 ∧ s.gState 15 ≠ 0 ∧
       ({ s with transit := [] } : State).pastCut 15 = true) ∧
    (let s := sets (clk up 0 9) [(fTMG_GENLOCK_GL_EN 15, 1), (fTMG_GENLOCK_SRC 15, 3), (fTMG_GENLOCK_POL 15, 0)]
     9 ≤ s.time.raster ∧ s.on (fTMG_GENLOCK_GL_EN 15) = true ∧ s.f (fTMG_GENLOCK_SRC 15) = 3 ∧
       s.on (fTMG_GENLOCK_POL 15) = !true ∧ (s.grp 15).gl.tsync = none ∧ s.on (fTMG_GENLOCK_GL_EN 14) = false) ∧
    (let s := sets (frame15 900 9 id) [(fTMG_TE_CFG_POL 15, 0)]
     9 ≤ s.time.raster ∧ true ≠ s.on (fTMG_TE_CFG_POL 15) ∧ s.gState 15 ≠ 0 ∧
       (s.grp 15).cur.vact ≤ (s.grp 15).line ∧ (s.grp 15).vactTick < 9 ∧ (s.grp 15).teE = none) := by decide +kernel

/-- Groups 14 and 15 of one column and one line, started, their first line due. -/
def twoGroups : State := clk (sets up [(fTMG_STATUS_STATE 15, 2), (fTMG_HACT_VALUE 15, 1), (fTMG_VACT_VALUE 15, 1),
  (fTMG_STATUS_STATE 14, 2), (fTMG_HACT_VALUE 14, 1), (fTMG_VACT_VALUE 14, 1)]) 0 10

theorem witness_SelfRefreshTablesAndSpans :
    (up.takesWrite .pf0 fPAN_SR_CTRL_SLEEP.addr = true ∧ up.takesWrite .pf0 fPIX_TLD_CTRL_GO.addr = true ∧
      (1#32).getLsbD 0 = true ∧ (0#32).getLsbD 0 = false) ∧
    (let data := 0x8F200000#32
     data.getLsbD 31 = true ∧ data.getLsbD 30 = false ∧ bitsOf data.toNat 27 24 = 15 ∧ bitsOf data.toNat 21 20 = 2 ∧
       up.on fPIX_TLD_STATUS_BUSY = false ∧
       (let w := (((up.setF fPIX_TLD_CTRL_DIR 0).setF fPIX_TLD_CTRL_GROUP 15).setF fPIX_TLD_CTRL_KIND 2).setF fPIX_TLD_CTRL_BANK 0
        (w.putBit (fLoaded 15 2) 0 false).bankInUse 15 2 0 = false) ∧ 256 * up.f fPIX_TLD_SRC_GRAN + 2 * tblEntries 2 ≤ fsEnd) ∧
    (let s := sets up [(fTMG_STATUS_STATE 15, 2)]
     let w := (((s.setF fPIX_TLD_CTRL_DIR 0).setF fPIX_TLD_CTRL_GROUP 15).setF fPIX_TLD_CTRL_KIND 2).setF fPIX_TLD_CTRL_BANK 0
     s.takesWrite .pf0 fPIX_TLD_CTRL_GO.addr = true ∧ (w.putBit (fLoaded 15 2) 0 false).bankInUse 15 2 0 = true) ∧
    ((0xCF200000#32).getLsbD 31 = true ∧ (0xCF200000#32).getLsbD 30 = true ∧ bitsOf (0xCF200000#32).toNat 21 20 ≠ 3) ∧
    (let s := sets up [(fPIX_TLD_STATUS_BUSY, 1)]
     s.takesWrite .pf0 fPIX_TLD_CTRL_GO.addr = true ∧ s.on fPIX_TLD_STATUS_BUSY = true) ∧
    (let s := { up with pix := { up.pix with tld := some ⟨15, 2, 0, 0, 0, 0, 0⟩ } }
     s.pix.tld = some ⟨15, 2, 0, 0, 0, 0, 0⟩ ∧ s.asleep 0 (2 * tblEntries 2) = false ∧ s.readBlocked 0 (2 * tblEntries 2) = [] ∧ s.poisonedIn 0 (2 * tblEntries 2) = false) ∧
    (let s := { up with pix := { up.pix with tld := some ⟨15, 2, 0, 0, 0, 0, 0⟩ }, fs := { up.fs with poison := [(0, true)] } }
     s.asleep 0 (2 * tblEntries 2) = false ∧ s.readBlocked 0 (2 * tblEntries 2) = [] ∧ s.poisonedIn 0 (2 * tblEntries 2) = true) ∧
    (let s := twoGroups
     s.nextSpan 15 = (0, 0) ∧ s.spanDue 15 = true ∧ (s.spanPx 15 0 0).isSome = true ∧ s.spanLater 15 0 = true ∧
       s.nextSpan 14 = (0, 0) ∧ s.spanDue 14 = true ∧ (s.spanPx 14 0 0).isSome = true ∧ s.spanLater 14 0 = false ∧
       s.lineOver 14 0 = false ∧ s.tech 14 ≠ 3 ∧ s.lineOver 14 (min (0 / 2 * 2 + 1) (s.vact 14 - 1)) = false) ∧
    (let s := { sets twoGroups [(fPANE_EN 10239, 1), (fPANE_GROUP 10239, 14), (fPANE_SURF_EN 10239, 1)] with
       host := { up.host with sf := [0] } }
     s.nextSpan 14 = (0, 0) ∧ s.spanDue 14 = true ∧ (s.spanPx 14 0 0).isNone = true) := by
  decide +kernel

theorem witness_FrameStoreReadsRefreshAndPower :
    (up.stackReady (stackOf (fsEnd - 1)) = true ∧ up.poisoned (fsEnd - 1) = false ∧ fsEnd - 1 < fsEnd ∧
      up.f (fStack (63 / 32)) ≠ 2 ∧ smGet (fun _ => 0) up.fs.postponed 63 < 7 ∧ up.exitAt 1 = none) ∧
    (let s := { up with fs := { up.fs with poison := [(0, true)] } }
     s.poisoned 0 = true ∧ s.stackReady (stackOf 0) = true) ∧
    (let s := sets up [(fStack 0, 1)]
     s.f (fStack (stackOf 0)) ≠ 0) ∧
    (let s := sets up [(fFST_SCRUB_CFG_SCRUB_EN, 1)]
     s.on fFST_SCRUB_CFG_SCRUB_EN = true ∧ s.asleep (256 * s.fs.scrub) 256 = false ∧
       ∀ i, i < 8 → 0 / 4 ^ i % 4 = 0 ∧ s.poisoned (256 * s.fs.scrub + 32 * i) = false) ∧
    (let s := sets up [(fFST_SCRUB_CFG_SCRUB_EN, 1), (fStack 0, 1)]
     s.on fFST_SCRUB_CFG_SCRUB_EN = true ∧ s.asleep (256 * s.fs.scrub) 256 = true) ∧
    (sets up [(fFST_SCRUB_CFG_SCRUB_EN, 0)]).on fFST_SCRUB_CFG_SCRUB_EN = false ∧
    (let s := { up with fs := { up.fs with postponed := [(63, 7)] } }
     s.f (fStack (63 / 32)) ≠ 2 ∧ 7 ≤ smGet (fun _ => 0) s.fs.postponed 63) ∧
    (let s := sets up [(fStack 1, 2)]
     s.f (fStack (63 / 32)) = 2) ∧
    (let s := sets (clk up 1024 0) [(fFST_PWR_CFG_SR_EN, 1), (fPAN_TOL_TOL, 0xFFFFFFF), (fFST_PWR_CFG_MARGIN, 0)]
     smGet (fun _ => 0) s.fs.lastReq 1 + 1024 ≤ s.time.master ∧ s.exitAt 1 = none ∧ s.stackPending 1 = false ∧ s.on fFST_PWR_CFG_SR_EN = true ∧
       s.exitLat 2 + s.f fFST_PWR_CFG_MARGIN ≤ s.f fPAN_TOL_TOL) ∧
    (let s := sets (clk up 1024 0) [(fFST_PWR_CFG_SR_EN, 0), (fFST_PWR_CFG_PD_EN, 1), (fPAN_TOL_TOL, 0xFFFFFFF), (fFST_PWR_CFG_MARGIN, 0)]
     smGet (fun _ => 0) s.fs.lastReq 1 + 1024 ≤ s.time.master ∧ s.exitAt 1 = none ∧ s.stackPending 1 = false ∧ s.on fFST_PWR_CFG_SR_EN = false ∧
       s.on fFST_PWR_CFG_PD_EN = true ∧ s.exitLat 1 + s.f fFST_PWR_CFG_MARGIN ≤ s.f fPAN_TOL_TOL ∧ s.f (fStack 1) = 0) ∧
    (let s := { clk up 5 0 with fs := { up.fs with exitAt := [(1, some 5)] } }
     s.exitAt 1 = some 5 ∧ 5 ≤ s.time.master) ∧
    (up.takesWrite .pf0 fFST_STRUDEL_CELLS_CELLS.addr = true ∧ up.takesWrite .pf0 fFST_STRUDEL_DEV_DEV_FIRST.addr = true ∧
      up.strudelStopped = true ∧ (up.setF fFST_STRUDEL_DEV_LOW 3).strudelStopped = true) ∧
    (let s := sets up [(fCDC_RING_PTR_TAIL, 1)]
     s.takesWrite .pf0 fFST_STRUDEL_CELLS_CELLS.addr = true ∧ s.strudelStopped = false ∧
       bitsOf (1#32).toNat 23 0 ≠ s.f fFST_STRUDEL_CELLS_CELLS) := by decide +kernel

/-- A job of one block, at the base of the ring, its words in the frame store. -/
def job1 (op : Nat) (w : Nat) : State :=
  let m := putBytes (fun _ => 0) [] 0 (([op * 2 ^ 24, 0, 0, 0x100, 0x1000, 0, 0x100, 0x100, w, 4] : List Nat).flatMap (leBytes 4))
  { up with fs := { up.fs with mem := m }, codec := { up.codec with jobs := [⟨0, [], false, 0, [], 0, 0, 0, false, 0, false, none, 0⟩] } }

def theJob (s : State) : Job := ⟨0, (List.range 16).map fun w => leNat (((s.fsBytes 0 64).drop (4 * w)).take 4), false, 0, [], 0, 0, 0, false, 0, false, none, 0⟩

/-- The job of `job1` under way in encoder 15. -/
def jobBusy (w : Nat) (noise : List (Nat × Byte)) : State :=
  let s := job1 1 w
  { s with
    fs := { s.fs with mem := s.fs.mem ++ noise }
    codec := { s.codec with jobs := [{ theJob s with started := true, busy := 1 }], encs := [(15, ⟨some (0, 0, 0), 0⟩)] } }

theorem witness_CodecJobsCellsAndTiles :
    (up.takesWrite .pf0 fCDC_RING_PTR_TAIL.addr = true ∧ up.takesWrite .pf0 fCDC_STATUS_QUAR.addr = true ∧
      65536 ≤ (0x80000000#32).toNat ∧ up.codec.jobs = [] ∧ up.w1cNow fCDC_STATUS_QUAR = 0 ∧ (0x80000000#32).getLsbD (16 + 15) = true) ∧
    (let s := sets up [(fCDC_RING_PTR_TAIL, 1)]
     let n := 2 ^ s.cdcLog2
     let room := fun d : Nat => decide ((1 + n - 0 % n) % n + (d % n + n - 1) % n < n)
     1 < n ∧ room (n - 1) = true ∧ room 0 = false) ∧
    (∀ op, op < 4 → let s := job1 op 0
     s.nextJob.1 = some (theJob s) ∧ jobF (theJob s) 0 31 24 = op ∧
       jobRefusal (theJob s) (s.on fCXL_LINK_STATUS_CACHE) = (if op = 1 ∨ op = 2 then 0 else 1) ∧
       (s.codec.jobs.any fun i => i.started && (!i.todo.isEmpty || i.busy != 0)) = false ∧
       (s.readGate false ((jobBlocks (theJob s)).flatMap fun b => s.chainReads (surfDesc (jobSurf (theJob s)) b.1 b.2))).1 = true) ∧
    (let s := job1 2 0xFFFFFFFF
     s.nextJob.1 = some (theJob s) ∧ jobF (theJob s) 0 31 24 = 2 ∧ jobRefusal (theJob s) false ≠ 0) ∧
    (let s := { up with codec := { up.codec with jobs := [{ theJob (job1 1 0) with started := true }] } }
     s.codec.jobs = [{ theJob (job1 1 0) with started := true }] ∧ jobStatus { theJob (job1 1 0) with started := true } ≠ 1) ∧
    (let s := jobBusy 0 []
     let j := { theJob (job1 1 0) with started := true, busy := 1 }
     (s.enc 15).block = some (0, 0, 0) ∧ (s.codec.jobs.find? fun j => j.idx == 0) = some j ∧
       s.writesWait tagCodec = false ∧ s.encClash j 0 0 = false ∧ (s.encodeGate j 0 0 (surfWb (jobSurf j) 0) 1).1 = true ∧
       s.srcRows j 0 0 (surfWb (jobSurf j) 0) 1 0 = some [0] ∧
       cellsNeeded (encodeBlock (jobSurf j).fmt 0 0 (surfWb (jobSurf j) 0) 1 false false [0]).length (jobSurf j).slot = 0) ∧
    (let s := { jobBusy 0 [] with fs := { up.fs with poison := [(0x1000 / 32, true)] } }
     let j := { theJob (job1 1 0) with started := true, busy := 1 }
     (s.enc 15).block = some (0, 0, 0) ∧ (s.codec.jobs.find? fun j => j.idx == 0) = some j ∧
       s.writesWait tagCodec = false ∧ s.encClash j 0 0 = false ∧ (s.encodeGate j 0 0 (surfWb (jobSurf j) 0) 1).1 = true ∧
       s.srcRows j 0 0 (surfWb (jobSurf j) 0) 1 0 = none) ∧
    (let s := jobBusy 31 ((List.range 64).map fun i => (0x1000 + i, BitVec.ofNat 8 (i * i * 37 + 11 * i + 5)))
     let j := { theJob s with started := true, busy := 1 }
     (s.enc 15).block = some (0, 0, 0) ∧ j.waited = false ∧
       s.writesWait tagCodec = false ∧ s.encClash j 0 0 = false ∧ (s.encodeGate j 0 0 (surfWb (jobSurf j) 0) 1).1 = true ∧
       (match s.srcRows j 0 0 (surfWb (jobSurf j) 0) 1 0 with
        | some px => decide ((findCells s (s.devEnd - s.devFirst) 1 s.devFirst).length < cellsNeeded
            (encodeBlock (jobSurf j).fmt 0 0 (surfWb (jobSurf j) 0) 1 false false px).length (jobSurf j).slot)
        | none => false) = true) ∧
    (let s := { clk up 9 0 with codec := { up.codec with releasing := [(9, [3])] } }
     s.codec.releasing = [(9, [3])] ∧ 9 ≤ s.time.master) ∧
    (let s := sets up [(fPANE_EN 10239, 1), (fPANE_SURF_EN 10239, 1), (fPANE_COMP 10239, 1)]
     s.isTiled 10239 = true ∧ 0 < surfBW (s.paneSurf 10239) ∧ 0 < surfBH (s.paneSurf 10239) ∧ s.tile 10239 0 0 = none ∧
       (s.readGate true (s.blockReads (s.paneSurf 10239) 0 0)).1 = true) ∧
    up.tilesBefore 10239 0 < 64 ∧
    ((up.setTile 10239 0 0 (some .empty)).tile 10239 0 0 = some .empty ∧
      (up.setTile 10239 0 0 (some (.failed 5))).tile 10239 0 0 = some (.failed 5)) ∧
    (let bytes := encodeBlock 0 0 0 1 1 false false [0]
     let s := (sets up [(fPANE_SLOT 10239, 4)]).setTile 10239 0 0 (some (.stream bytes.length 0 bytes))
     s.tile 10239 0 0 = some (.stream bytes.length 0 bytes) ∧
       decodeBlock (s.paneSurf 10239).fmt 0 0 (surfWb (s.paneSurf 10239) 0) (surfHb (s.paneSurf 10239) 0) bytes.length 0 (s.paneSurf 10239).slot bytes = .ok 1 [0]) := by
  refine ⟨?_, ?_, ?_, ?_, ?_, ?_, ?_, ?_, ?_, ?_⟩ <;> decide +kernel

/-! ## Instruction words, from R256, R257 and the encoded example after R259 -/

theorem test_word_add : insOf 0x44210001 0 = ⟨0x11, 0x00210001, none⟩ ∧ wordI 0x11 1 1 1 = 0x44210001 ∧
  (insOf 0x44210001 0).legal 0x414 0x44210001 = true := by decide +kernel
theorem test_word_gpulse : let i := insOf 0xDD558190 0
  i.op = 0x37 ∧ i.pin = 21 ∧ i.ga = 11 ∧ i.gmode = 0 ∧ i.goff = 400 ∧ wordG 0x37 21 11 0 400 = 0xDD558190 := by decide +kernel
theorem test_word_ldi_long : let i := insOf 0x39040000 0x02625A00
  i.op = 0x10 ∧ i.d = 8 ∧ i.a = 0 ∧ i.long = some 40000000 ∧ wordL 0x10 8 0 = 0x39040000 := by decide +kernel
/-- Assembled by hand from the program of SQ20 (after R287): WAITL C0, G0, #0; BNE C0 by one word; WAITT.I C2, G0, #48000; HALT. -/
theorem test_words_of_sq20 : wordW 0x30 0 0 0 0 = 0xC0000000 ∧ wordF 0x2D 0 1 = 0xB4000001 ∧ wordW 0x33 0 2 2 48000 = 0xCC0ABB80 ∧
  wordT 0x3F 0 0 0 0 = 0xFC000000 := by decide

/-! ## Cores -/

/-- Core `o` RUNNING at word 0 with two words there. -/
def prog (o w0 w1 : Nat) (c : Core) : State := (((sets up [(fcState o, 1)]).setImem o 0 w0).setImem o 1 w1).setCore o c

/-- `issues`, as a test. -/
def runs (s : State) (o op : Nat) : Bool :=
  s.mayIssue o && s.pcOk o && s.word0 o / 2 ^ 26 == op && (op != 0x0E || decide ((s.core o).pc / 4 + 1 < imemWords o)) &&
    (insOf (s.word0 o) (s.word1 o)).legal o (s.word0 o) && !s.hotRead o (insOf (s.word0 o) (s.word1 o))

theorem issues_of_runs {s : State} {o op : Nat} (h : runs s o op = true) : s.issues o op (insOf (s.word0 o) (s.word1 o)) := by
  unfold runs at h
  simp only [Bool.and_eq_true, Bool.not_eq_true', beq_iff_eq, Bool.or_eq_true, bne_iff_ne, decide_eq_true_eq] at h
  obtain ⟨⟨⟨⟨⟨h1, h2⟩, h3⟩, h4⟩, h5⟩, h6⟩ := h
  exact ⟨h1, h2, h3, fun e => h4.resolve_left (fun k => k e), rfl, h5, h6⟩

theorem test_add_wraps : let s := prog 0x440 (wordI 0x11 1 1 1) 0 { Core.init with g := [(1, 0xFFFFFFFF)] }
  ∃ t, exec (.add 0x440) s = .next t ∧ t.gw 0x440 1 = 0 ∧ (t.core 0x440).pc = 4 := ⟨_, rfl, by decide +kernel⟩
theorem test_sra_keeps_the_sign : let s := prog 0x300 (wordI 0x18 2 1 4) 0 { Core.init with g := [(1, 0x80000000)] }
  ∃ t, exec (.sra 0x300) s = .next t ∧ t.gw 0x300 2 = 0xF8000000 := ⟨_, rfl, by decide +kernel⟩
theorem test_cmp_unsigned : let s := prog 0x300 (wordT 0x0C 0 1 2 (7 + 8 * 2 + 32)) 0 { Core.init with g := [(1, 1), (2, 0xFFFFFFFF)] }
  ∃ t, exec (.cmp 0x300) s = .next t ∧ (t.core 0x300).flags = 0x80 := ⟨_, rfl, by decide +kernel⟩
theorem test_beq_goes_back : let s := (prog 0x300 0 0 { Core.init with pc := 8 }).setImem 0x300 2 (wordI 0x20 1 2 0xFFFF)
  ∃ t, exec (.beq 0x300) s = .next t ∧ (t.core 0x300).pc = 4 := ⟨_, rfl, by decide +kernel⟩
theorem test_ld_self : let s := prog 0x307 (wordI 0x28 1 0 0xF018) 0 Core.init
  ∃ t, exec (.ld 0x307) s = .next t ∧ t.gw 0x307 1 = 0x307 := ⟨_, rfl, by decide +kernel⟩

theorem witness_ArithmeticWritesItsDestination :
    (∀ op ∈ [0, 1, 2, 3, 4, 5, 6, 7, 8, 9, 10, 11], runs (prog 0x440 (wordT op (if op = 0 then 0 else 31) (if op = 0 then 0 else 31)
      (if op = 0 then 0 else 31) 0) 0 Core.init) 0x440 op = true) ∧
    (∀ op ∈ [0x11, 0x13, 0x14, 0x15, 0x16, 0x17, 0x18, 0x19, 0x1A, 0x1B], runs (prog 0x307 (wordI op 31 31 31) 0 Core.init) 0x307 op = true) ∧
    runs (prog 0x307 (wordI 0x10 31 0 0xFFFF) 0 Core.init) 0x307 0x10 = true ∧
    runs (prog 0x307 (wordI 0x1D 31 0 0xFFFF) 0 Core.init) 0x307 0x1D = true ∧
    (∀ op ∈ [0x10, 0x11, 0x13, 0x14, 0x15, 0x19, 0x1A], runs (prog 0x307 (wordL op 31 (if op = 0x10 then 0 else 31)) 0xFFFFFFFF Core.init)
      0x307 0x0E = true ∧ (insOf (wordL op 31 (if op = 0x10 then 0 else 31)) 0xFFFFFFFF).op = op) := by decide +kernel

theorem witness_CompareSetsItsFlag :
    runs (prog 0x440 (wordT 0x0C 0 31 31 63) 0 Core.init) 0x440 0x0C = true ∧
    runs (prog 0x440 (wordI 0x1C 31 31 0xFFFF) 0 Core.init) 0x440 0x1C = true ∧
    runs (prog 0x440 (wordL 0x1C 31 31) 0xFFFFFFFF Core.init) 0x440 0x0E = true ∧
    (insOf (wordL 0x1C 31 31) 0xFFFFFFFF).op = 0x1C := by decide +kernel

/-- LD or ST at G1 + 0. -/
def atAddr (op a : Nat) (c : Core) : State := prog 0x440 (wordI op 2 1 0) 0 { c with g := [(1, a)] }

theorem witness_BranchesCallsAndLocalMemory :
    (∀ op ∈ [0x20, 0x21, 0x22, 0x23], runs (prog 0x440 (wordI op 1 2 1) 0 { Core.init with g := [(1, 0xFFFFFFFF)] }) 0x440 op = true ∧
      runs (prog 0x440 (wordI op 1 2 1) 0 { Core.init with g := [(2, 0xFFFFFFFF)] }) 0x440 op = true) ∧
    (∀ op ∈ [0x2C, 0x2D], runs (prog 0x440 (wordF op 7 1) 0 Core.init) 0x440 op = true ∧
      runs (prog 0x440 (wordF op 7 1) 0 { Core.init with flags := 0x80 }) 0x440 op = true) ∧
    (∀ a, a < 2 → runs (prog 0x440 (wordI 0x24 0 a 1) 0 Core.init) 0x440 0x24 = true) ∧
    runs (prog 0x440 (wordI 0x25 0 0 1) 0 { Core.init with stack := [0, 4, 8, 12, 16, 20, 24] }) 0x440 0x25 = true ∧
    runs (prog 0x440 (wordI 0x25 0 0 1) 0 { Core.init with stack := [0, 4, 8, 12, 16, 20, 24, 28] }) 0x440 0x25 = true ∧
    runs (prog 0x440 (wordT 0x26 0 0 0 0) 0 { Core.init with stack := [8] }) 0x440 0x26 = true ∧
    runs (prog 0x440 (wordT 0x26 0 0 0 0) 0 Core.init) 0x440 0x26 = true ∧
    (∀ a ∈ [0x3FFC, 0xFFFFF000, 0xFFFFF004, 0xFFFFF008, 0xFFFFF00C, 0xFFFFF010, 0xFFFFF014, 0xFFFFF018, 0xFFFFF01C, 0xFFFFF020,
        0x3FFD, 0x4000, 0xFFFFF024], runs (atAddr 0x28 a Core.init) 0x440 0x28 = true ∧ runs (atAddr 0x29 a Core.init) 0x440 0x29 = true ∧
        (((atAddr 0x28 a Core.init).gw 0x440 1) + BitVec.ofInt 32 (sInt 16 0)).toNat = a) ∧ 0x3FFC / 4 < dmemWords 0x440 := by decide +kernel

theorem witness_CoreFaultsHaltsAndVectors :
    isTR 0x440 = true ∧ isTC 0x307 = true ∧ up.inEntry 0x307 = none ∧
    (let s := sets up [(fcRestart 0x440, 1)]
     s.on (fcRestart 0x440) = true ∧ s.on fDRV_PF_TRIPPED = false) ∧ up.on (fcRestart 0x440) = false ∧
    (let s := prog 0x440 0 0 { Core.init with pc := 2 }
     s.mayIssue 0x440 = true ∧ s.pcOk 0x440 = false) ∧
    (let s := prog 0x440 (0x2F * 2 ^ 26) 0 Core.init
     s.mayIssue 0x440 = true ∧ s.pcOk 0x440 = true ∧ s.word0 0x440 / 2 ^ 26 = 0x2F) ∧
    (let s := prog 0x440 (wordT 2 1 1 1 1) 0 Core.init
     s.mayIssue 0x440 = true ∧ s.pcOk 0x440 = true ∧ s.word0 0x440 / 2 ^ 26 = 2 ∧ s.word0 0x440 % 2 ^ 11 ≠ 0) ∧
    (let s := prog 0x307 (wordW 0x30 0 0 0 0) 0 Core.init
     s.mayIssue 0x307 = true ∧ s.pcOk 0x307 = true ∧ s.word0 0x307 / 2 ^ 26 = 0x30) ∧
    (let s := prog 0x440 (wordL 0x10 1 0 + 1) 0 Core.init
     s.mayIssue 0x440 = true ∧ s.pcOk 0x440 = true ∧ s.word0 0x440 / 2 ^ 26 = 0x0E ∧ s.word0 0x440 % 1024 ≠ 0 ∧
       (s.core 0x440).pc / 4 + 1 < imemWords 0x440) ∧
    (let s := (prog 0x440 0 0 { Core.init with pc := 4 * 16383 }).setImem 0x440 16383 (wordL 0x10 1 0)
     s.mayIssue 0x440 = true ∧ s.pcOk 0x440 = true ∧ s.word0 0x440 / 2 ^ 26 = 0x0E ∧ (s.core 0x440).pc / 4 + 1 = imemWords 0x440) ∧
    runs (prog 0x440 (wordT 0x3F 0 0 0 0) 0 Core.init) 0x440 0x3F = true ∧
    (let s := sets (prog 0x440 0 0 { Core.init with wdog := 1024 }) [(fcLimit 0x440, 1)]
     s.f (fcState 0x440) = 1 ∧ s.f (fcLimit 0x440) ≠ 0 ∧ 1024 * s.f (fcLimit 0x440) ≤ (s.core 0x440).wdog) ∧
    (let s := sets up [(fDRV_PF_TRIPPED, 1)]
     s.on fDRV_PF_TRIPPED = true) ∧
    (let s := sets up [(fcState 0x440, 1), (fSQR_CFG_PF_EN 64, 1)]
     s.f (fcState 0x440) ≠ 0 ∧ s.f (fcPfv 0x440) = 0 ∧ s.on (fSQR_CFG_PF_EN (0x440 - 0x400)) = true ∧
       (s.core 0x440).faultAt ≠ some (s.clock 0x440)) ∧
    (let s := (sets up [(fcState 0x440, 4), (fSQR_CFG_PF_EN 64, 1)]).setCore 0x440 { Core.init with faultAt := some 0 }
     s.f (fcState 0x440) ≠ 0 ∧ s.f (fcPfv 0x440) = 0 ∧ (s.core 0x440).faultAt = some (s.clock 0x440)) := by decide +kernel

/-- Core 0x400 of group 15, the group in line 5 of a frame. -/
def waits (w0 w1 : Nat) (c : Core) : State :=
  (((sets (frame15 5 100 id) [(fcState 0x400, 1), (fSQR_CFG_GROUP 0, 15)]).setImem 0x400 0 w0).setImem 0x400 1 w1).setCore 0x400 c

theorem witness_WaitsAndFencesCompleteWithTheirFlag :
    (∀ m, m < 4 → runs (waits (wordW 0x30 0 7 m 5) 0 Core.init) 0x400 0x30 = true) ∧ (waits 0 0 Core.init).lineOwed 15 = false ∧
    (let s := waits 0 0 Core.init
     let x := s.grp (s.coreGroup 0x400)
     x.live = true ∧ s.f (fTMG_STATUS_STATE (s.coreGroup 0x400)) ≠ 0 ∧ x.waitTarget false 5 ≤ x.line ∧ ¬ x.waitTarget false 6 ≤ x.line) ∧
    runs (waits (wordW 0x31 0 7 0 5) 0 Core.init) 0x400 0x31 = true ∧
    runs (waits (wordW 0x32 0 7 0 7) 0 Core.init) 0x400 0x32 = true ∧
    bit ((waits 0 0 Core.init).f (fcPend 0x400)) 7 = 0 ∧ bit ((sets up [(fcPend 0x400, 0x80)]).f (fcPend 0x400)) 7 = 1 ∧
    (∀ m, m < 3 → runs (waits (wordW 0x33 0 7 m 5) 0 Core.init) 0x400 0x33 = true) ∧
    runs (waits (wordL 0x33 0 28) 0xFFFFFFFF Core.init) 0x400 0x0E = true ∧ (insOf (wordL 0x33 0 28) 0xFFFFFFFF).op = 0x33 ∧
    runs (waits (wordI 0x3D 0 0 31) 0 Core.init) 0x400 0x3D = true ∧
    (let s := waits 0 0 { Core.init with act := .waitCol 7 0 }
     (s.core 0x400).act = .waitCol 7 0 ∧ (s.core 0x400).ready = none ∧ s.colReached (s.coreGroup 0x400) 0 = true) ∧
    (let s := waits 0 0 { Core.init with act := .waitLine 7 5 false true none, ready := some false }
     (s.core 0x400).act = .waitLine 7 5 false true none ∧ (s.core 0x400).ready = some false) ∧
    (let s := waits 0 0 { Core.init with act := .waitEvent 7 8 (some 100) }
     (s.core 0x400).act = .waitEvent 7 8 (some 100) ∧ (s.core 0x400).ready = none ∧ 100 ≤ s.clock 0x400) ∧
    (let s := waits 0 0 { Core.init with expired := some (100, 7, 8) }
     srcOk 0x400 8 = true ∧ (s.core 0x400).act = .run ∧ (s.core 0x400).expired = some (s.clock 0x400, 7, 8)) ∧
    (let s := waits 0 0 { Core.init with act := .waitTime 7 100 false }
     (s.core 0x400).act = .waitTime 7 100 false ∧ s.timeReached 0x400 100 false = true) ∧
    (let s := waits 0 0 { Core.init with act := .fence 31 }
     (s.core 0x400).act = .fence 31 ∧ s.fenceClear 0x400 31 = true) ∧
    (sets up [(fcState 0x400, 2)]).f (fcState 0x400) = 2 := by decide +kernel

/-- An instruction of any core, group 15 in line 5 of a frame. -/
def waitsAt (o w0 : Nat) : State :=
  ((sets (frame15 5 100 id) [(fcState o, 1), (fSQR_CFG_GROUP 0, 15)]).setImem o 0 w0).setCore o Core.init

/-- EMIT to the partner at position 14 of chain 255, which belongs to group 15. -/
def emits (q : Nat) (n : Nat) : State :=
  (sets ((waits (wordT 0x34 0 1 2 7) 0 { Core.init with g := [(1, 0x3000), (2, 0xFFE)] }).setDmem 0x400 0xC00 n)
    [(fLNK_GRP_FIRST 15, 255), (fLNK_GRP_COUNT 15, 1), (fLNK_CFG_QDEPTH 255, q), (fMEM_NOUGAT_FREE, 65536)])

/-- A gate instruction on pin 63, which is assigned to group 15. -/
def gates (op m : Nat) : State :=
  sets (waits (wordG op 63 1 m 9) 0 { Core.init with g := [(1, 0x10005)] }) [(fDRV_GTO_EN 63, 1), (fDRV_GTO_GROUP 63, 15)]

theorem witness_EmitGatesAndEvents :
    (let s := emits 4 2
     runs s 0x400 0x34 = true ∧ s.chainOwner ((s.gw 0x400 2).toNat / 16 % 256) = some (s.coreGroup 0x400) ∧
       (s.gw 0x400 2).toNat / 16 % 256 = 255 ∧ (s.gw 0x400 2).toNat % 16 = 14 ∧
       s.emitBuffer 0x400 (s.gw 0x400 1).toNat = some (2, [0, 0]) ∧ (s.pq 255 14).length ≤ s.f (fLNK_CFG_QDEPTH 255) ∧
       s.poolHas (cellsOf 2) = true) ∧
    (let s := sets (emits 4 2) [(fMEM_NOUGAT_FREE, 1024)]
     runs s 0x400 0x34 = true ∧ s.chainOwner 255 = some (s.coreGroup 0x400) ∧ s.poolHas (cellsOf 2) = false) ∧
    (let s := emits 4 0
     runs s 0x400 0x34 = true ∧ s.emitBuffer 0x400 (s.gw 0x400 1).toNat = some (0, [])) ∧
    (let s := waits (wordT 0x34 0 1 2 7) 0 { Core.init with g := [(1, 1)] }
     runs s 0x400 0x34 = true ∧ s.emitBuffer 0x400 (s.gw 0x400 1).toNat = none ∧
       (emits 4 0).chainOwner 0 ≠ some ((emits 4 0).coreGroup 0x400)) ∧
    (∀ op ∈ [0x35, 0x36, 0x37], ∀ m, m < 2 → runs (gates op m) 0x400 op = true) ∧
    (∀ op ∈ [0x35, 0x36, 0x37], ∀ m, m < 2 → (gates op m).pinOf 63 ((gates op m).coreGroup 0x400) = true ∧
      ((gates op m).pin 63).edges.length + 2 ≤ 8 ∧ (gates op m).lineLive ((gates op m).coreGroup 0x400) = true ∧
      (gates op m).edgesOff 63 = false ∧ (let j := insOf ((gates op m).word0 0x400) 0
       ((gates op m).lowerIssues 0x400 fun _ k => k.pin == j.pin) = false)) ∧
    (let s := ((sets (gates 0x35 0) [(fcState 0x401, 1), (fSQR_CFG_GROUP 1, 15)]).setImem 0x401 0 (wordG 0x36 63 1 0 9)).setCore 0x401
       { Core.init with g := [(1, 5)] }
     runs s 0x401 0x36 = true ∧ s.pinOf 63 (s.coreGroup 0x401) = true ∧
       (s.lowerIssues 0x401 fun c j => decide (0x35 ≤ j.op ∧ j.op ≤ 0x37) && j.pin == 63 && s.pinOf j.pin (s.coreGroup c) &&
        decide ((s.pin j.pin).edges.length + s.gateEdges c j ≤ 8)) = true) ∧
    (waits 0 0 Core.init).pinOf 63 15 = false ∧
    (let s := (gates 0x37 0).setPin 63 { (gates 0x37 0).pin 63 with edges := List.replicate 7 ⟨100, true, 0x400⟩ }
     runs s 0x400 0x37 = true ∧ s.pinOf 63 (s.coreGroup 0x400) = true ∧ 8 < (s.pin 63).edges.length + 2 ∧
       firstDue (s.pin 63).edges s.time.raster = some ⟨100, true, 0x400⟩) ∧
    (let s := waits (wordI 0x3E 1 2 0x3FFF) 0 Core.init
     runs s 0x400 0x3E = true ∧ s.ownEvents 0x400 < 16) ∧
    (let s := waits (wordI 0x3E 1 2 0x3FFF) 0 Core.init
     let s := { s with ev := { s.ev with enRoute := List.replicate 16 (ev0 0 0x400) } }
     runs s 0x400 0x3E = true ∧ 16 ≤ s.ownEvents 0x400) := by decide +kernel

theorem witness_TransactionsAndLocksOfAnOwner :
    (up.txnSlot 0x440 = none ∧ ((List.range 256).find? fun t => up.f (fCPR_TXN_OWN_STATE t) == 0) = some 0) ∧
    (let s := sets up [(fCPR_TXN_OWN_STATE 255, 1), (fCPR_TXN_OWN_OWNER 255, 0x440)]
     s.txnSlot 0x440 = some 255) ∧
    (let s := sets up [(fCPR_LOCK_STATUS 1023, 3), (fCPR_LOCK_OWNER 1023, 0x440)]
     s.f (fCPR_LOCK_STATUS 1023) = 3 ∧ s.f (fCPR_LOCK_OWNER 1023) = 0x440 ∧ s.on (fCPR_LOCK_ORPHAN 1023) = false) ∧
    up.f (fCPR_LOCK_STATUS 1023) ≠ 3 ∧
    (up.takesWrite .mp fCPR_MP_OP_OP.addr = true ∧ (∀ k, k < 6 → (BitVec.ofNat 32 (k * 2 ^ 28)).toNat / 2 ^ 28 = k) ∧
      (up.txnCommit 512 0).1 = none) ∧
    (let s := sets up [(fCPR_TXN_OWN_STATE 0, 1), (fCPR_TXN_OWN_OWNER 0, 512)]
     (s.txnCommit 512 15).1.isSome = true) ∧
    ((up.lk 1023).point = none) ∧
    (let s := { up with th := { up.th with locks := [(1023, ⟨some 7, none, 0⟩)], reports := [⟨0x440, 7, true⟩] } }
     (s.lk 1023).point = some 7 ∧ (s.lk 1023).result = none ∧ s.th.reports = [⟨0x440, 7, true⟩]) ∧
    (let s := { up with th := { up.th with locks := [(1023, ⟨some 7, some true, 0⟩)] } }
     (s.lk 1023).point = some 7 ∧ (s.lk 1023).result = some true) ∧
    (up.takesWrite .mp fCPR_LOCK_BREAK_LOCK.addr = true ∧ up.f fSEC_LC_STATE = 0) := by decide +kernel

/-- In MANUFACTURE the management port may break a lock. -/
theorem witness_lock_break_granted : up.granted .mp fCPR_LOCK_BREAK_LOCK.addr 1023 := by
  have h : up.critBit fCPR_LOCK_BREAK_LOCK.addr 1023 = some 3 := by decide +kernel
  unfold State.granted
  rw [h]
  show (up.judge .mp fCPR_LOCK_BREAK_LOCK.addr 3).1 = true
  decide +kernel

/-- Command processors 6 and 7 at the same instruction. -/
def pair67 (w0 g1 : Nat) : State :=
  ((((sets up [(fcState 0x306, 1), (fcState 0x307, 1)]).setImem 0x306 0 w0).setImem 0x307 0 w0).setCore 0x306 { Core.init with g := [(1, g1)] }).setCore
    0x307 { Core.init with g := [(1, g1)] }

/-- Command processor 7 at a COMMIT of the entry of queue 5 that it executes, its transaction open, a write of a copy of it waiting. -/
def queued5 (wq : List FsWait) : State :=
  let s := (sets (pair67 (wordT 0x39 31 1 0 7) 15) [(fCPR_TXN_OWN_STATE 255, 1), (fCPR_TXN_OWN_OWNER 255, 5)]).setEntry 7
    (some ⟨5, 0, 3, 9, true, [], 0, false, 0, []⟩)
  { s with fs := { s.fs with wq := wq } }

theorem witness_TransactionInstructionsDeviceAccessAndCoreControl :
    ((∀ wq ∈ [[], [⟨4096 * 3 + 5, 0, []⟩]], let s := queued5 wq
       runs s 0x307 0x39 = true ∧ s.owner 0x307 = 5 ∧ (s.txnSlot 5).isSome = true ∧ s.copiesOf 5 = !wq.isEmpty)) ∧
    (let s := pair67 (wordT 0x3B 31 1 0 7) 1023
     runs s 0x307 0x3B = true ∧ s.f (fCPR_LOCK_STATUS 1023) ≠ 3 ∧ (s.lockRound (s.owner 0x307) 1023).1 = false ∧
       runs s 0x306 0x3B = true ∧ (s.lockRound (s.owner 0x306) 1023).1 = true ∧ (sets s [(fCPR_LOCK_STATUS 1023, 3)]).f (fCPR_LOCK_STATUS 1023) = 3) ∧
    (let s := pair67 (wordI 0x2B 2 1 0) 0x01E00000
     let p := fun c (j : Ins) => j.op == 0x2B && s.address c j == 0x01E00000 && !xaddrBad c 0x01E00000
     runs s 0x307 0x2B = true ∧ s.lowerIssues 0x307 p = true ∧ runs s 0x306 0x2B = true ∧ s.lowerIssues 0x306 p = false) ∧
    (∀ o ∈ [0x307, 0x400], ∀ op ∈ [0x38, 0x39, 0x3B, 0x3C], runs (waitsAt o (wordT op (if op = 0x39 ∨ op = 0x3B then 31 else 0)
      (if op = 0x38 then 0 else 1) 0 7)) o op = true) ∧
    (∀ o ∈ [0x307, 0x400], runs (waitsAt o (wordT 0x3A 0 0 0 0)) o 0x3A = true) ∧
    (let s := waitsAt 0x400 (wordT 0x39 31 1 0 7)
     ((s.gw 0x400 1).toNat % 16 ≠ s.coreGroup 0x400) ∧
       (let s := s.setCore 0x400 { Core.init with g := [(1, 15)] }
        (s.gw 0x400 1).toNat % 16 = s.coreGroup 0x400)) ∧
    (∀ a ∈ [0x1, 0x04000000, 0x01E00000, 0x0, 0x03400000], runs (atAddr 0x2A a Core.init) 0x440 0x2A = true ∧
      runs (atAddr 0x2B a Core.init) 0x440 0x2B = true) ∧
    runs (waitsAt 0x307 (wordI 0x2A 1 0 4)) 0x307 0x2A = true ∧ runs (prog 0x307 (wordL 0x2A 1 0) 0x01E00000 Core.init) 0x307 0x0E = true ∧
    (insOf (wordL 0x2A 1 0) 0x01E00000).op = 0x2A ∧ runs (prog 0x307 (wordL 0x2B 1 0) 0x033FFFFC Core.init) 0x307 0x0E = true ∧
    (insOf (wordL 0x2B 1 0) 0x033FFFFC).op = 0x2B ∧
    ((up.setCore 0x400 { Core.init with act := .trip 0x3B 31 5 7 }).core 0x400).act = .trip 0x3B 31 5 7 ∧
    ((up.setCore 0x307 { Core.init with act := .load 31 0x01E00000 }).core 0x307).act = .load 31 0x01E00000 ∧
    (up.takesWrite .pf0 (fSQR_CTRL_RUN 64).addr = true ∧ up.takesWrite .pf0 (fCPR_CTRL_RUN 7).addr = true ∧
      up.takesWrite .pf0 (fcMbox 0x440).addr = true ∧ (1#32).getLsbD 0 = true ∧ (1#32).getLsbD 1 = false ∧ (3#32).getLsbD 1 = true) ∧
    (up.coreStopped 0x440 = true ∧ up.on fDRV_PF_TRIPPED = false ∧ up.on fFLT_STATUS_TERMINAL = false) ∧
    (sets up [(fcState 0x440, 1)]).coreStopped 0x440 = false ∧
    (up.window .pf0 0x02913FFC = some (true, 0x400, 4095) ∧ 0x02913FFC % 4 = 0 ∧ up.takesWrite .pf0 0x02913FFC = true ∧
      up.coreStopped 0x400 = true ∧ up.bankSt (memBank true (memKey 0x400 4095)) ≠ 2) ∧
    (let s := sets up [(fcState 0x400, 1)]
     s.window .pf0 0x02900000 = some (false, 0x400, 0) ∧ s.takesWrite .pf0 0x02900000 = true ∧ s.coreStopped 0x400 = false) := by
  decide +kernel

/-- An entry of queue 511. -/
def entry511 (stage : Nat) (crit : Bool) (w0 w1 : Nat) (rest : List Byte) : Entry :=
  ⟨511, 0, stage, 9, true, leBytes 4 w0 ++ leBytes 4 w1 ++ rest, w0 / 2 ^ 16 % 64, crit, 0, []⟩

/-- Command processor 7 holds it. -/
def at7 (e : Entry) : State := up.setEntry 7 (some e)

theorem witness_QueuesTakeCheckStartAndEndEntries :
    (up.takesWrite .pf0 (fCXL_Q_PTR_TAIL 511).addr = true ∧
      up.barOk .pf1 = true ∧ up.reach 0x00300000 = true) ∧
    (up.cpIdle 7 = true ∧ up.cpIdle 0 = true ∧ up.autoDue0 = false) ∧
    (let s := sets { up with boot := { up.boot with autostart := true } } [(fCLK_BOOT_DONE, 1)]
     s.cpIdle 0 = true ∧ s.autoDue0 = true) ∧
    (let s := sets up [(fCXL_Q_CFG_CP 511, 7), (fCXL_Q_STATUS_STATE 511, 1), (fCXL_Q_PTR_TAIL 511, 1), (fCXL_Q_CFG_SPACE 511, 1),
       (fCLK_BOOT_STAGES, 0x40)]
     s.cpIdle 7 = true ∧ (s.arbRound (arbCp 7) (fun _ => 0) (s.cpReady 7) (s.cpReady 7)).1 = some 511 ∧ s.on (fCXL_Q_CFG_SPACE 511) = true) ∧
    (let s := sets (at7 (entry511 0 false 0 0 [])) [(fCXL_Q_CFG_SPACE 511, 1), (fCXL_LINK_STATUS_CACHE, 1)]
     s.entry 7 = some (entry511 0 false 0 0 []) ∧ s.on (fCXL_Q_CFG_SPACE 511) = true ∧ s.on fCXL_LINK_STATUS_CACHE = true) ∧
    (let s := at7 (entry511 0 false 0 0 [])
     s.entry 7 = some (entry511 0 false 0 0 []) ∧ s.on (fCXL_Q_CFG_SPACE 511) = false ∧ s.readBlocked (s.qAddr 511 0) 64 = [] ∧
       s.qAddr 511 0 + 64 ≤ fsEnd ∧ s.asleep (s.qAddr 511 0) 64 = false) ∧
    (let s := (at7 (entry511 0 false 0 0 [])).setF (fCXL_Q_BASE_HI_BASE_HI 511) 0xFFFFFFFF
     s.entry 7 = some (entry511 0 false 0 0 []) ∧ s.on (fCXL_Q_CFG_SPACE 511) = false ∧ fsEnd < s.qAddr 511 0 + 64) ∧
    ((entry511 0 false 0x30000000 0 []).bad ≠ 0 ∧ (entry511 0 true 0x0BFF0000 0 []).bad = 2 ∧ (entry511 0 true 0x083F0000 0 []).bad = 0 ∧
      (entry511 0 false 0 0 []).bad = 0) ∧
    ((entry511 0 false 0 0 []).kind = 0 ∧ (entry511 0 false 0x13800000 0 []).kind = 1 ∧ (entry511 0 false 0x13800000 0 []).nwords = 14 ∧
      (entry511 0 false 0x20000000 1023 []).kind = 2 ∧ (entry511 0 false 0x20000000 1023 []).prog = 1023 ∧ (up.program 7 1023).1 = false) ∧
    (let s := up.setDmem 0x307 1023 0xC0000000
     (s.program 7 1023).1 = true ∧ (s.program 7 1023).2.1 = true) ∧
    (let s := up.setDmem 0x307 1023 0x80000000
     (s.program 7 1023).1 = true ∧ (s.program 7 1023).2.1 = false) ∧
    (let s := { at7 (entry511 1 true 0 0 []) with th := { (at7 (entry511 1 true 0 0 [])).th with checks := [511] } }
     s.th.checks = [511] ∧ s.qEntry 511 = some (7, entry511 1 true 0 0 []) ∧
       ({ s with th := { s.th with checks := [] } } : State).trailerCode (entry511 1 true 0 0 []) = 1) ∧
    (let s := at7 (entry511 4 true 0 0 [])
     s.qEntry 511 = some (7, entry511 4 true 0 0 [])) ∧
    (let s := at7 (entry511 3 false 0 0 [])
     s.entry 7 = some (entry511 3 false 0 0 []) ∧ s.stopReq 511 = false ∧ (entry511 3 false 0 0 []).slot ≠ 64) ∧
    (up.takesWrite .pf0 (fCXL_Q_CTRL_RUN 511).addr = true ∧ up.f (fCXL_Q_STATUS_STATE 511) = 0 ∧ up.qEntry 511 = none) := by decide +kernel

/-- A trailer that passes, whatever the uninterpreted MAC is. -/
def goodEntry : Entry :=
  let b : List Byte := leBytes 4 0x083F0000 ++ List.replicate 36 0 ++ leBytes 8 1
  ⟨511, 0, 1, 9, true, b ++ (Config.hmac384 [1#8] (leBytes 8 0 ++ b)).take 16, 63, true, 0, []⟩

theorem witness_trailer_passes : ({ up with sec := { up.sec with keys := [(63, [1#8])] } } : State).trailerCode goodEntry = 0 := by
  have h1 : goodEntry.data.take 48 = leBytes 4 0x083F0000 ++ List.replicate 36 0 ++ leBytes 8 1 := rfl
  have h2 : goodEntry.tagBytes = (Config.hmac384 [1#8] (leBytes 8 0 ++ goodEntry.data.take 48)).take 16 := by
    rw [h1]
    show ((Config.hmac384 [1#8] _).take 16).take 16 = _
    rw [List.take_take]; rfl
  have h3 : goodEntry.ctr = 1 := by rfl
  unfold State.trailerCode
  rw [if_neg (by decide +kernel)]
  dsimp only
  rw [if_neg (by decide +kernel), if_neg, if_neg]
  · rw [h3]; decide +kernel
  · rw [h2]; intro h; exact h rfl

/-! ## Chains and rails -/

/-- A packet of TYPE `typ` with SEQ 200, outstanding. -/
def pkt (typ tries timer : Nat) : Pkt := ⟨typ, 1, [5], 0, 0, 1, some 200, true, tries, timer, 0, false⟩

/-- Chain 255 of group 15, UP and with block lock; packet queue of position 14. -/
def chain (l : List Pkt) : State :=
  (sets (frame15 5 40005 id) [(fLNK_GRP_FIRST 15, 255), (fLNK_GRP_COUNT 15, 1), (fLNK_STATUS_STATE 255, 3), (fLNK_STATUS_BLOCK_LOCK 255, 1),
    (fMEM_NOUGAT_FREE, 65536)]).setPq 255 14 l

theorem witness_LanePairsComeUpEnumerateAndSend :
    up.lnSt 271 ≠ 7 ∧ (up.takesWrite .pf0 (fLNK_CFG_EN 271).addr = true ∧ (0x80000000#32).getLsbD 31 = true ∧ up.f (fLNK_CFG_EN 271) = 0) ∧
    (let s := sets up [(fLNK_STATUS_STATE 255, 1)]
     s.f (fLNK_STATUS_BLOCK_LOCK 255) = 0 ∧ s.f (fLNK_STATUS_RX_ASLEEP 255) = 0 ∧ s.lnSt 255 = 1) ∧
    ((chain []).f (fLNK_STATUS_BLOCK_LOCK 255) = 1 ∧ (chain []).lnSt 255 = 3 ∧ (chain []).canSwitch 255 = false ∧ ((chain []).ln (256 + spareOf 255)).sw = 0) ∧
    (let s := sets (chain []) [(fLNK_CFG_AUTO_SPARE 255, 1), (fLNK_SPARE_PROT 15, 0x8000)]
     s.f (fLNK_STATUS_BLOCK_LOCK 255) = 1 ∧ s.lnSt 255 = 3 ∧ s.canSwitch 255 = true) ∧
    (let s := (chain []).setLn 271 { LaneSt.init with sw := 3, swChain := 15 }
     (s.ln (256 + spareOf 255)).sw ≠ 0 ∧ s.spareChain (spareOf 255) = 255) ∧
    (let s := sets up [(fLNK_STATUS_STATE 255, 2)]
     s.lnSt 255 = 2 ∧ (s.ln 255).enumCount ≠ some 31 ∧ s.f (fLNK_STATUS_TX_ASLEEP 255) = 0 ∧ (s.ln 255).wakeAt = none ∧ (s.ln 255).txEnd = none) ∧
    (let s := (sets up [(fLNK_STATUS_STATE 255, 2)]).setLn 255 { LaneSt.init with enumCount := some 31 }
     s.lnSt 255 = 2 ∧ (s.ln 255).enumCount = some 31) ∧
    ((chain []).lnSt (16 * 15 + 15) ≠ 0 ∧ ((chain []).ln (256 + 15)).sw = 0 ∧ ((chain []).ln (256 + 15)).release = false ∧
      (chain []).txOn (16 * 15 + 15) = true ∧ ((chain []).ln (16 * 15 + 15)).txEnd = none) ∧
    (let s := (sets (chain []) [(fSLT_ACT_NSLOT 255, 1)]).setLn 255 { LaneSt.init with lineOn := true }
     s.chainOwner 255 = some 15 ∧ 2 ≤ s.gState 15 ∧ (s.grp 15).live = true ∧ s.chainUp 255 = true ∧ ((s.lanesOf 255).any fun l => (s.ln l).lineOn) = true ∧
       (s.ln 255).slot = 0 ∧ 0 < s.f (fSLT_ACT_NSLOT 255) ∧ s.slotTick 255 0 (s.grp 15).lineTick ≤ s.time.raster) ∧
    (let s := sets (chain [{ pkt 2 0 0 with seq := none, sent := 0, out := false }]) [(fTMG_STATUS_STATE 15, 0)]
     s.chainOwner 255 = some 15 ∧ s.gState 15 = 0 ∧ s.chainUp 255 = true ∧ ((s.lanesOf 255).any fun l => s.txOn l) = true ∧
       (s.freePkt 255).1 = some (14, 0) ∧ ((s.freePkt 255).2.pq 255 14)[0]?.isSome = true) ∧
    (up.takesWrite .pf0 (fLNK_CMD_ENUM 271).addr = true ∧ (0x80000000#32).getLsbD 31 = true ∧ (0x0000FFFF#32).toNat % 65536 ≠ 0) ∧
    (let s := (chain [pkt 2 0 0]).setLn 255 { LaneSt.init with flush := 0x4000, enumReq := true }
     (∀ q, q < 16 → s.midPacket 255 q = false) ∧ bit (s.ln 255).flush 14 = 1 ∧ (s.ln 255).enumReq = true ∧ s.lnSt 255 = 3) ∧
    (chain [{ pkt 2 0 0 with words := List.replicate 200 5, sent := 64, out := false }]).midPacket 255 14 = true := by
  decide +kernel

theorem witness_UpstreamAnswersEndWaitsAndFillTheQueue :
    (let s := chain [pkt 2 0 2]
     s.hears 255 0xFFE = true ∧ s.answers 255 (0xFFE % 16) [2, 8] 200 = some 0 ∧ s.answers 255 (0xFFE % 16) [2, 8] 201 = none ∧
       s.waitingIn 255 (0xFFE % 16) 0 = some 0 ∧ (s.pq 255 14)[0]? = some (pkt 2 0 2) ∧ (pkt 2 0 2).flushed = false ∧ bit (s.ln 255).flush 14 = 0 ∧ (s.ln 255).enumReq = false ∧ (s.ln 255).sw = 0 ∧
       ((s.pq 255 14).findIdx? fun k => space k == 0 && k.out && decide (2 ≤ k.timer)) = some 0) ∧
    ((chain []).hears 255 0xFF0 = true ∧ (chain []).chainOwner 255 = some 15 ∧ ((chain []).ln 255).nakFrame ≠ some ((chain []).grp 15).frame) ∧
    (let s := (chain []).setLn 255 { LaneSt.init with nakFrame := some 41 }
     s.hears 255 0xFF0 = true ∧ (s.ln 255).nakFrame = some (s.grp 15).frame) ∧
    ((pkt 2 3 0).tries = 3 ∧ (pkt 2 2 0).tries < 3 ∧ 0 < { pkt 2 2 0 with sent := 0 }.tries ∧ { pkt 2 2 0 with sent := 0 }.sent = 0) ∧ 0xFFF % 16 = 15 ∧
    (((chain []).senseOccurs 255).upstreamPush 15 ⟨4, 0xFFE, 200, [1]⟩ false).1 = true ∧
    (let s := sets (chain []) [(fMEM_NOUGAT_FREE, 0)]
     s.hears 255 0xFFE = true ∧ ((s.senseOccurs 255).upstreamPush 15 ⟨4, 0xFFE, 200, [1]⟩ false).1 = false ∧
       s.poolHas (cellsOf 1) = false) ∧
    (let u := (chain [pkt 5 0 0]).senseOccurs 255
     (u.answered 255 14 (u.answers 255 14 [5] 200)).chainOwner 255 = some 15) ∧
    (up.barOk .pf0 = true ∧ up.reach (fLNK_UPQ_DATA_DATA 15).addr = true ∧ (up.uq 15).pkts = [] ∧
      up.takesWrite .pf0 (fLNK_UPQ_CTRL_POP 15).addr = true) ∧
    (let s := up.setUq 15 ⟨[⟨4, 0xFFE, 200, [1]⟩], 0, 0⟩
     s.barOk .pf0 = true ∧ s.reach (fLNK_UPQ_DATA_DATA 15).addr = true ∧ (s.uq 15).pkts = [⟨4, 0xFFE, 200, [1]⟩] ∧ [1][(s.uq 15).rd]? = some 1) := by
  decide +kernel

theorem witness_LanePairsSleepSwitchAndInject :
    (let s := sets (chain []) [(fLNK_CFG_TXSLEEP 255, 1), (fLNK_CFG_RXSLEEP 255, 1)]
     s.laneChain 255 = some 255 ∧ s.lnSt 255 ≠ 0 ∧ (s.ln 255).txEnd = none ∧ s.chainUp 255 = true ∧ s.f (fLNK_CFG_TXSLEEP 255) = 1 ∧ s.f (fLNK_STATUS_TX_ASLEEP 255) = 0 ∧ (s.ln 255).wakeAt = none ∧
       s.anyQueued 255 = false ∧ s.f (fLNK_CFG_RXSLEEP 255) = 1 ∧ s.f (fLNK_STATUS_RX_ASLEEP 255) = 0 ∧ s.anyExpecting 255 = false) ∧
    (let s := sets (chain [pkt 2 0 0]) [(fLNK_STATUS_TX_ASLEEP 255, 1), (fLNK_STATUS_RX_ASLEEP 255, 1)]
     s.f (fLNK_STATUS_TX_ASLEEP 255) = 1 ∧ (s.ln 255).autoSlept = false ∧ (s.ln 255).rxAuto = false ∧ s.anyQueued 255 = true ∧ s.anyExpecting 255 = true ∧
       s.f (fLNK_STATUS_RX_ASLEEP 255) = 1) ∧
    (let s := (sets up [(fLNK_STATUS_TX_ASLEEP 255, 1)]).setLn 255 { LaneSt.init with autoSlept := true, rxAuto := true }
     s.f (fLNK_STATUS_TX_ASLEEP 255) = 1 ∧ (s.ln 255).autoSlept = true ∧ (s.ln 255).rxAuto = true ∧ s.autoDue 255 = true) ∧
    (let s := (sets up [(fLNK_SPARE_ACTIVE 15, 1)]).setLn 271 { LaneSt.init with sw := 3, swChain := 15 }
     s.laneChain 271 = some 255) ∧
    ((clk up 0 7).setLn 255 { LaneSt.init with wakeAt := some 7 }).ln 255 = { LaneSt.init with wakeAt := some 7 } ∧
    (let s := sets (chain []) [(fLNK_CFG_AUTO_SPARE 255, 1), (fLNK_SPARE_PROT 15, 0x8000), (fLNK_STATUS_BLOCK_LOCK 255, 0)]
     s.canSwitch 255 = true ∧ s.lnSt 255 = 3 ∧ s.f (fLNK_STATUS_BLOCK_LOCK 255) = 0 ∧ s.f (fLNK_STATUS_RX_ASLEEP 255) = 0) ∧
    (let s := up.setLn 271 { LaneSt.init with sw := 1, swChain := 15 }
     (s.ln (256 + 15)).sw = 1 ∧ (s.ln (256 + 15)).release = false ∧ (s.ln (256 + 15)).swChain < 16) ∧
    (let s := up.setLn 271 { LaneSt.init with sw := 2, swAligns := 2, swChain := 15 }
     (s.ln (256 + 15)).sw = 2 ∧ 2 ≤ (s.ln (256 + 15)).swAligns ∧ (s.ln (256 + 15)).swChain < 16) ∧
    (let s := sets up [(fLNK_STATUS_STATE 255, 6), (fLNK_STATUS_BLOCK_LOCK 255, 1)]
     s.lnSt 255 = 6 ∧ s.f (fLNK_STATUS_BLOCK_LOCK 255) = 1) ∧
    (up.takesWrite .pf0 (fLNK_SPARE_FORCE 15).addr = true ∧ up.takesWrite .pf0 (fLNK_INJ_GO 271).addr = true) ∧
    (let s := sets (chain []) [(fLNK_SPARE_PROT 15, 0x8000)]
     s.spareFree 15 = true ∧ bit (s.f (fLNK_SPARE_PROT 15)) 15 = 1 ∧ (s.relockBundle 15).lnSt (16 * 15 + 15) ≠ 0) ∧
    (sets up [(fLNK_SPARE_ACTIVE 15, 1)]).on (fLNK_SPARE_ACTIVE 15) = true ∧
    (∀ kind, kind < 4 → let s := sets up [(fLNK_INJ_PERIOD 271, 1), (fLNK_INJ_KIND 271, kind), (fLNK_INJ_BURST 271, 31)]
     s.f (fLNK_INJ_KIND 271) = kind ∧ s.lnSt 271 ≠ 4 ∧ s.f (fLNK_INJ_BURST 271) + 1 ≤ 32) ∧
    (sets up [(fLNK_STATUS_STATE 271, 4)]).lnSt 271 = 4 ∧ (0x80000000#32).getLsbD 31 = true ∧
    (let s := (sets up [(fLNK_STATUS_STATE 271, 1)]).setLn 271 { LaneSt.init with injArmed := true }
     (s.ln 271).injArmed = true ∧ s.txOn 271 = true) ∧
    (let s := up.setLn 271 { LaneSt.init with injOn := true }
     (s.ln 271).injOn = true ∧ (s.ln 271).injArmed = false ∧ (s.ln 271).injNext ≤ s.txNow 271 ∧ s.lnSt 271 ≠ 4) := by decide +kernel

/-- Rail 47 of group 15 at order 7. -/
def rail47 (st : Nat) (r : RailSt) (p : PwrSt) (now : Nat) : State :=
  ((sets (clk up 0 now) [(fDRV_RAIL_EN 47, 1), (fDRV_RAIL_GROUP 47, 15), (fDRV_RAIL_ORDER 47, 7), (fDRV_RAIL_ON_DLY 47, 1),
    (fDRV_RAIL_OFF_DLY 47, 1), (fDRV_RAIL_TMO 47, 1), (fDRV_STATUS_RSTATE 15, st)]).setRail 47 r).setPwr 15 p

theorem witness_RailsRampFaultAndFollowTheirOrder :
    (up.takesWrite .pf0 (fDRV_CTRL_PWR 15).addr = true ∧ up.rState 15 = 0 ∧ up.gState 15 = 0 ∧ (sets up [(fDRV_STATUS_RSTATE 15, 2)]).rState 15 = 2 ∧
      (frame15 0 0 id).gState 15 ≠ 0 ∧ (∀ j, j < 8 → up.railsAt 15 j = [])) ∧
    (let s := rail47 1 ⟨true, 0, some 0, 0⟩ ⟨7, 0, false, false⟩ 160000
     s.railsAt 15 7 = [47] ∧ (∀ i, i < 7 → s.railsAt 15 i = []) ∧ s.rState 15 = 1 ∧ (s.pwr 15).order = 7 ∧ (s.rail 47).goodTick = some 0 ∧
       0 + 160000 * s.f (fDRV_RAIL_ON_DLY 47) ≤ s.time.raster) ∧
    (let s := rail47 3 ⟨true, 0, some 0, 0⟩ ⟨8, 0, true, false⟩ 160000
     (s.pwr 15).down = true ∧ s.rState 15 = 3 ∧ ((s.railsAt 15 7).filter fun r => (s.rail r).seqOn) = [47] ∧ 7 < 8) ∧
    (let s := rail47 3 ⟨false, 0, none, 0⟩ ⟨7, 0, true, false⟩ 160000
     (s.pwr 15).down = true ∧ (s.pwr 15).offTick + 160000 * ((s.railsAt 15 (s.pwr 15).order).map fun r => s.f (fDRV_RAIL_OFF_DLY r)).foldl max 0 ≤
       s.time.raster ∧ (∀ j, j < 8 → ((s.railsAt 15 j).filter fun r => (s.rail r).seqOn) = [])) ∧
    (up.f (fDRV_RAIL_GOOD 47) = b2n (!true)) ∧
    (let s := sets (rail47 2 ⟨true, 0, some 0, 0⟩ ⟨8, 0, false, false⟩ 0) [(fDRV_RAIL_GOOD 47, 1)]
     s.f (fDRV_RAIL_GOOD 47) = b2n (!false) ∧ s.f (fDRV_RAIL_EN 47) = 1 ∧ s.rState 15 = 2 ∧ (s.rail 47).seqOn = true ∧ (s.rail 47).force = 0 ∧
       s.f (fDRV_RAIL_GROUP 47) = 15) ∧
    (let s := sets (rail47 2 ⟨true, 0, some 0, 2⟩ ⟨8, 0, false, false⟩ 0) [(fDRV_RAIL_GOOD 47, 1)]
     s.f (fDRV_RAIL_GOOD 47) = b2n (!false) ∧ (s.rail 47).force ≠ 0) ∧
    (let s := rail47 1 ⟨true, 0, none, 0⟩ ⟨7, 0, false, false⟩ 1600000
     s.f (fDRV_RAIL_EN 47) = 1 ∧ s.rState (s.f (fDRV_RAIL_GROUP 47)) = 1 ∧ (s.rail 47).seqOn = true ∧ (s.rail 47).force = 0 ∧
       (s.rail 47).goodTick = none ∧ s.f (fDRV_RAIL_ORDER 47) = (s.pwr (s.f (fDRV_RAIL_GROUP 47))).order ∧
       (s.rail 47).onTick + 1600000 * max 1 (s.f (fDRV_RAIL_TMO 47)) ≤ s.time.raster) ∧
    (up.takesWrite .mp fDRV_RAIL_OVR_ACT.addr = true ∧ up.critBit fDRV_RAIL_OVR_ACT.addr 0x22F = some 4 ∧
      (up.judge .mp fDRV_RAIL_OVR_ACT.addr 4).1 = true ∧ bitsOf 0x22F 9 8 = 2 ∧ 0x22F % 64 = 47) ∧
    (sets up [(fDRV_TEMP_EN 15, 1)]).f (fDRV_TEMP_EN 15) = 1 ∧
    (let s := up.setTemp 15 2 true
     smGet (fun _ => false) s.drv.tempBusy 15 = true ∧ 2 ≤ s.tempFails 15) ∧
    (let s := up.setTemp 15 1 true
     smGet (fun _ => false) s.drv.tempBusy 15 = true ∧ s.tempFails 15 < 2) := by decide +kernel

theorem witness_PowerFailTripsAndTheBonbonWindow :
    (let s := sets (frame15 0 0 id) [(fDRV_PF_PIN_EN, 1), (fDRV_PF_VIN_EN, 1)]
     s.boot.act = none ∧ ({ s with drv := { s.drv with pfailLow := true, vinLow := true } } : State).pfCause = 3 ∧ s.f fDRV_PF_TRIPPED = 0 ∧
       s.gState 15 = 2 ∧ ({ s with drv := { s.drv with pfailLow := false, vinLow := false } } : State).pfCause = 0) ∧
    (let s := sets { clk up 320 0 with drv := { up.drv with tripTick := some 0 } } [(fNVS_STATUS_READY, 1)]
     s.drv.tripTick = some 0 ∧ 0 + 320 ≤ s.time.master ∧ s.drv.discharged = false ∧ s.f fNVS_STATUS_READY = 1) ∧
    (up.takesWrite .mp fDRV_PF_TRIPPED.addr = true ∧ up.takesWrite .mp fDRV_BON_CTRL_ENTER.addr = true ∧ (0xE0000000#32).getLsbD 31 = true ∧
      (0xE0000000#32).getLsbD 30 = true ∧ (0xE0000000#32).getLsbD 29 = true) ∧
    ((sets up [(fDRV_PF_TRIPPED, 1)]).f fDRV_PF_TRIPPED = 1 ∧ (sets up [(fDRV_PF_TRIPPED, 1)]).w1cNow fDRV_PF_TRIPPED = 0 ∧ (sets up [(fDRV_PF_TRIPPED, 1)]).pfCause = 0) ∧
    (up.f fDRV_BON_CTRL_ACTIVE = 0 ∧ (frame15 0 0 id).gState 15 ≠ 0 ∧ (∀ g, g < 16 → up.gState g = 0) ∧ up.boot.bonbonExit = false) ∧
    (∃ c, (sets up [(fDRV_BON_CFG_HM1, c)]).bonOk = false) ∧ (sets up [(fDRV_BON_CFG_WM1, 7)]).bonOk = true ∧
    (let s := { sets up [(fDRV_BON_CTRL_ACTIVE, 1)] with drv := { up.drv with bonUntil := 1 } }
     s.f fDRV_BON_CTRL_ACTIVE = 1 ∧ s.time.raster < s.drv.bonUntil) := by
  refine ⟨?_, ?_, ?_, ?_, ?_, ⟨65535, ?_⟩, ?_, ?_⟩ <;> decide +kernel

/-- Group 15 RUNNING in bistable mode with a table of one mode. -/
def bis15 (x : BisSt) : State := (sets (frame15 0 0 id) [(fDRV_MODE_TECH 15, 3)]).setBis 15 { x with hdr := [1, 0, 1, 0] }

theorem witness_BistableRequestsBlocksAndJournal :
    (up.takesWrite .pf0 (fBIS_REQ2_GO 15).addr = true ∧ up.takesWrite .pf0 fBIS_JBASE_JPAGE.addr = true ∧ up.bisStopped = true ∧
      (0x80000000#32).getLsbD 31 = true) ∧
    ((bis15 BisSt.init).bisRes 15 (bisReqOf 0 0 63 899 0 0) = 0 ∧ (bis15 BisSt.init).bisRes 15 (bisReqOf 0 0 64 899 0 0) = 2 ∧
      (bis15 BisSt.init).bisRes 15 (bisReqOf 0 0 0 0 1 0) = 4) ∧
    (let s := bis15 { BisSt.init with cache := [⟨15, 14, 0, []⟩] }
     ⟨15, 14, 0, []⟩ ∈ (s.bis 15).cache ∧ s.poisonedIn (s.wfBase 15 + 256 + 65536 * (16 * 15 + 14)) 65536 = false) := by decide +kernel

theorem witness_CalibrationItemsRunSaveAndRead :
    (let s := sets up [(fCAL_CFG_DCC_PER, 1), (fCLK_BOOT_DONE, 1)]
     s.calPeriod 3 ≠ 0 ∧ s.f fCLK_BOOT_DONE = 1 ∧ smGet (fun _ => 0) s.cal.lastRun 3 = 0) ∧
    up.takesWrite .pf0 fCAL_CMD_GO.addr = true ∧ up.calRun 343 = none ∧
    (let s := (clk up (2 ^ 30) (2 ^ 30)).setCalRun 343 (some 0)
     s.calRun 343 = some 0 ∧ 0 + 2 ^ 30 ≤ s.calClock 343 ∧
       ({ s with ch := { s.ch with aligned := [(15, some (2 ^ 30))] } } : State).calGap 343 = true) ∧
    (let s := ((clk up 0 40000).setCalRun 48 (some 0)).setCalRun 319 (some 0)
     let s := (s.setF (fLNK_STATUS_STATE 0) 1).setF (fLNK_STATUS_STATE 271) 1
     (s.idleTo 271 (s.txNow 271)).calGap 319 = true ∧ (s.idleTo 0 (s.txNow 0)).calGap 48 = true) ∧
    (up.setCalRun 326 (some 0)).calGap 326 = true ∧
    ((sets up [(fCAL_CMD_BUSY, 1)]).f fCAL_CMD_BUSY = 1 ∧ up.f fCAL_CMD_BUSY = 0 ∧ up.f fCAL_NV_CPAGE ≤ 4090 ∧
      up.calSetOk (256 * up.f fCAL_NV_CPAGE) = false) ∧ (sets up [(fCAL_NV_CPAGE, 4091)]).f fCAL_NV_CPAGE = 4091 ∧
    up.takesWrite .pf0 (0x03200000 + 16 * 343) = true ∧ up.calRun 31 = none ∧ up.calRun (32 + 15) = none ∧
    (sInt 16 (32767 % 65536) + sInt 16 (up.f (fCAL_VAL_TS_OFS 31)) = 32767) ∧
    (32767 < sInt 16 (32767 % 65536) + sInt 16 ((sets up [(fCAL_VAL_TS_OFS 31, 1)]).f (fCAL_VAL_TS_OFS 31))) ∧
    up.f (fCAL_VAL_ADC_OFS 15) = 0 ∧ up.f (fCAL_VAL_ADC_GAIN 15) = 0 ∧ (sets up [(fCAL_VAL_ADC_GAIN 15, 1)]).f (fCAL_VAL_ADC_GAIN 15) ≠ 0 ∧
    sInt 16 ((sets up [(fCAL_VAL_ADC_OFS 15, 65526)]).f (fCAL_VAL_ADC_OFS 15)) = -10 := by
  decide +kernel

theorem witness_TheSenseFoldCyclesThroughItsPhases :
    up.takesWrite .pf0 (fCAL_SNS_CFG_FOLD 15).addr = true ∧ (up.f (fCAL_SNS_CFG_FOLD 15) = 0 ∧ up.foldCheck 15 = 1) ∧
    (let s := sets timing15 [(fCAL_PLANE_B_GRAN 15, 16), (fPIX_CFG_AGE_EN 15, 1), (fPIX_AGE_GEOM_PITCH 15, 0x1000)]
     s.f (fCAL_SNS_CFG_FOLD 15) = 0 ∧ s.foldCheck 15 = 0) ∧
    (let s := (sets up [(fCAL_SNS_CFG_FOLD 15, 1), (fCAL_SNS_STATUS_PHASE 15, 1)]).setFold 15 { FoldSt.init with todo := [(0, 5)] }
     s.f (fCAL_SNS_STATUS_PHASE 15) = 1 ∧ (s.fold 15).todo = [(0, 5)] ∧
       s.asleep (256 * s.foldSide 15 (s.on (fCAL_SNS_STATUS_INEFF 15)) + 0) 2 = false ∧
       s.readBlocked (256 * s.foldSide 15 (s.on (fCAL_SNS_STATUS_INEFF 15)) + 0) 2 = []) ∧
    (let s := sets up [(fCAL_SNS_CFG_FOLD 15, 1), (fCAL_SNS_STATUS_PHASE 15, 1)]
     s.f (fCAL_SNS_CFG_FOLD 15) = 1 ∧ s.f (fCAL_SNS_STATUS_PHASE 15) = 1 ∧ (s.fold 15).todo = []) ∧
    (let s := sets up [(fCAL_SNS_CFG_FOLD 15, 1), (fCAL_SNS_STATUS_PHASE 15, 3)]
     s.f (fCAL_SNS_CFG_FOLD 15) = 1 ∧ s.f (fCAL_SNS_STATUS_PHASE 15) = 3) := by decide +kernel

/-! ## Host, security -/

/-- Host memory mapped at 0, the link up with CXL. -/
def mapped (f : HostSt → HostSt) : State :=
  let s := sets up [(fCXL_LINK_STATUS_UP, 1), (fCXL_LINK_STATUS_CXL, 1)]
  { s with host := f { s.host with hdm := some 0, memEn := true, inReset := false } }

theorem witness_HostResetsAndTheHostLink :
    up.boot.porst = false ∧ up.host.perst = false ∧ (mapped id).on fCXL_LINK_STATUS_UP = true ∧ up.on fCXL_LINK_STATUS_UP = false ∧
    bit (up.f fGEN_BLKRDY_RDY) 2 = 1 ∧
    (let s := mapped id
     let u := { s with sec := { s.sec with sessions := [(3, 0, 1)] } }
     (u.sec.sessions.any fun x => x.1 == 3) = true ∧ u.on fCXL_LINK_STATUS_UP = true) := by decide +kernel

theorem witness_CxlCacheAndMemoryRequests :
    ((mapped id).host.inReset = false ∧ (mapped id).on fCXL_LINK_STATUS_CACHE = false) ∧
    (sets up [(fCXL_LINK_STATUS_CACHE, 1)]).on fCXL_LINK_STATUS_CACHE = true ∧ up.host.hdm = none ∧
    (let s := clk (mapped fun h => { h with asked := [(5, some 0)] }) 16384 0
     s.askedAt 5 = some 0 ∧ 0 + 16384 ≤ s.time.master ∧ ¬ 0 + 16384 < s.time.master ∧ s.askedAt 6 = none) ∧
    (∀ hpa ∈ [0, 48 * 2 ^ 30 - 1], let s := mapped id
     let line := (hpa - 0) / 64
     s.host.hdm = some 0 ∧ s.host.memEn = true ∧ s.on fCXL_LINK_STATUS_UP = true ∧ s.on fCXL_LINK_STATUS_CXL = true ∧ hpa < 0 + 48 * 2 ^ 30 ∧
       s.stackReady (stackOf (64 * line)) = true ∧ s.host.sf.contains line = false ∧ s.host.sf.length < 32768) ∧
    (mapped fun h => { h with sf := [5] }).host.sf.contains 5 = true ∧ (List.replicate 64 0#8).length = 64 ∧
    (let s := mapped fun h => { h with sf := [5], bi := [⟨5, 0, false, false⟩], sfWait := [6] }
     let u := s.lineFreed 5
     (s.host.bi.any fun b => b.line == 5) = true ∧ u.host.sfWait = [6] ∧ u.host.sf.length < 32768) ∧
    (let s := mapped fun h => { h with bi := [⟨5, 0, false, false⟩] }
     (s.host.bi.any fun b => b.line == 5) = true ∧ (s.lineFreed 5).host.sfWait = []) ∧
    (let s := clk (mapped fun h => { h with bi := [⟨5, 0, true, false⟩] }) 1600 0
     (s.host.bi.any fun b => b.line == 5 && b.realtime && !b.late &&
        decide (b.since + s.f fCXL_BI_RT_TMO ≤ s.time.master)) = true) := by decide +kernel

/-- A snoop filter that lists line 1 `n` times. -/
def listed (n : Nat) : State := mapped fun h => { h with sf := List.replicate n 1 }

theorem listed_full (n : Nat) : (listed (n + 1)).host.sf.contains 0 = false ∧ (listed (n + 1)).host.sf = 1 :: List.replicate n 1 ∧
    (listed (n + 1)).host.sf.length = n + 1 ∧ (listed (n + 1)).host.hdm = some 0 ∧ (listed (n + 1)).host.memEn = true ∧
    ((listed (n + 1)).host.bi.any fun b => b.line == 1) = false := by
  have h : (listed (n + 1)).host.sf = List.replicate (n + 1) 1 := rfl
  rw [h]
  refine ⟨by simp, rfl, by simp, rfl, rfl, rfl⟩

theorem witness_CxlCacheAndMemoryRequests_full : (listed (32767 + 1)).host.sf.contains 0 = false ∧ 32768 ≤ (listed (32767 + 1)).host.sf.length ∧
    (listed (32767 + 1)).host.sf = 1 :: List.replicate 32767 1 :=
  ⟨(listed_full 32767).1, (listed_full 32767).2.2.1.ge, (listed_full 32767).2.1⟩

theorem witness_MailboxRepliesOfTheManagementFunction :
    (sets up [(fCAL_TEMP_VALID 31, 1)]).on (fCAL_TEMP_VALID 31) = true ∧
    ((List.replicate 63 (0, 0)).length < 64 ∧ ¬ (List.replicate 64 (0, 0)).length < 64) := by decide +kernel

/-- A mirror that holds a certificate chain of `n` bytes (only its length is written), and a session of the vendor's. -/
def spdm (n : Nat) (f : SecSt → SecSt) : State :=
  let s := { up with nv := { up.nv with mirror := putBytes (fun _ => 0#8) [] 0x2400 (leBytes 4 n) } }
  { s with sec := f { s.sec with idOn := true, sessions := [(3, 0, 1)] } }

/-- A key blob: version 1, slot 63, PERM 0xFF, GEN `gen`, operation `op`; all else zero. -/
def blobOf (gen op : Nat) : List Byte := [1#8, 0#8, 63#8, 255#8] ++ leBytes 2 gen ++ [BitVec.ofNat 8 op, 0#8] ++ List.replicate 280 0#8

theorem witness_SpdmRequestsAndTheIdentityKey :
    (∀ n ∈ [1, 7164], leNat ((spdm n id).nvBytes 0x2400 4) = n) ∧ leNat (up.nvBytes 0x2400 4) = 0 ∧
    ((sets up [(fSEC_LC_DBG_OPEN, 0)]).on fSEC_LC_DBG_OPEN = false ∧ up.on fSEC_LC_TAMPERED = false ∧ (spdm 1 id).sec.idOn = true ∧ up.sec.idOn = false) ∧
    ((sets up [(fSEC_LC_DBG_OPEN, 1)]).on fSEC_LC_DBG_OPEN = true ∧ (sets up [(fSEC_LC_TAMPERED, 1)]).on fSEC_LC_TAMPERED = true) ∧
    (spdm 1 fun x => { x with sessions := [(1, 0, 0), (2, 0, 0), (3, 0, 0), (4, 0, 0)] }).sec.sessions.length = 4 ∧
    (spdm 1 id).sec.sessions.length < 4 ∧ ((spdm 1 id).sec.sessions.any fun x => x.1 == 3) = true ∧
    ((spdm 1 id).sec.sessions.any fun x => x.1 == 4) = false ∧
    (let s := spdm 1 id
     (s.sec.sessions.find? fun x => x.1 == 3) = some (3, 0, 1) ∧ 1 = (if s.f fSEC_LC_STATE = 2 then 2 else 1) ∧ s.f fSEC_LC_STATE ≠ 4 ∧
       (blobOf 1 1).length = 288 ∧ s.sec.load = none) ∧
    (spdm 1 fun x => { x with load := some ⟨63, 1, [], 0, 1, 0, 0⟩ }).sec.load ≠ none ∧
    (sets (spdm 1 id) [(fSEC_LC_STATE, 4)]).f fSEC_LC_STATE = 4 ∧
    (leNat ((blobOf 1 1).take 2) = 1 ∧ leNat (((blobOf 1 1).drop 7).take 1) = 0 ∧ leNat (((blobOf 1 1).drop 6).take 1) = 1) := by decide +kernel

/-- The owner root of the state for TARGET 2 is a point or not as the uninterpreted `Config.pointOk` says (log entry 9): of the two clauses
one holds of it. -/
theorem witness_KeysLifeCycleDebugAndTamper :
    (up.takesWrite .mp fSEC_KL_CTRL_GO.addr = true ∧ (0x80000000#32).getLsbD 31 = true ∧ up.sec.load = none ∧
      0xC00000000 < 256 * (sets up [(fSEC_BLOB_SRC_GRAN, 0xBFFFFFF)]).f fSEC_BLOB_SRC_GRAN + 288 ∧
      256 * up.f fSEC_BLOB_SRC_GRAN + 288 ≤ 0xC00000000 ∧ up.poisonedIn 0 288 = false ∧ up.readBlocked 0 288 = [] ∧ up.sec.goWait = none ∧
      up.asleep 0 288 = false ∧ (sets up [(fStack 0, 1)]).asleep 0 288 = true) ∧
    (({ up with sec := { up.sec with goWait := some (1, 0, 0, 0) } } : State).sec.goWait ≠ none) ∧
    (∀ op ∈ [1, 2], let at_ := fun (o n : Nat) => leNat (((blobOf 1 op).drop o).take n)
      at_ 0 2 = 1 ∧ at_ 7 1 = 0 ∧ at_ 6 1 = op ∧ at_ 2 1 = 63 ∧ at_ 4 2 = 1 ∧ (sets up [(fSEC_LC_STATE, 4)]).blobSig (blobOf 1 op) = false ∧
        1 ≤ (sets up [(fSEC_SLOT_CFG_GEN 63, 1)]).f (fSEC_SLOT_CFG_GEN 63) ∧ up.f (fSEC_SLOT_CFG_GEN 63) < 1 ∧ up.slotOpen 63 = true ∧
        (sets up [(fSEC_LC_STATE, 4)]).slotOpen 63 = false) ∧
    (let s := { up with sec := { up.sec with load := some ⟨63, 1, [1#8], 255, 65535, 2 ^ 64 - 1, 1⟩ } }
     s.sec.load = some ⟨63, 1, [1#8], 255, 65535, 2 ^ 64 - 1, 1⟩ ∧ ([1#8] : List Byte) ≠ []) ∧
    (up.takesWrite .mp fSEC_LC_REQ_GO.addr = true ∧ (up.judge .mp fSEC_LC_REQ_GO.addr 2).1 = true ∧
      up.takesWrite .mp fSEC_DBG_UNLOCK.addr = true ∧ up.critBit fSEC_LC_REQ_GO.addr 0x80000000 = some 2) ∧
    (let s := sets up [(fSEC_LC_REQ_TARGET, 2)]
     s.sec.load = none ∧ (s.nv.waiting.any fun w => w.writer == 3) = false ∧ s.f fSEC_LC_STATE = 0) ∧
    (let s := sets up [(fSEC_LC_STATE, 3), (fSEC_LC_REQ_TARGET, 1)]
     ({ s with sec := { s.sec with fuseRedeploy := 3 } } : State).sec.fuseRedeploy = 3 ∧ s.f fSEC_LC_STATE = 3 ∧ s.f fSEC_LC_REQ_TARGET = 1) ∧
    (let s := sets { up with fs := { up.fs with mem := [(0, 4#8)] } } [(fSEC_LC_STATE, 1), (fSEC_LC_REQ_TARGET, 2)]
     s.sec.load = none ∧ s.sec.goWait = none ∧ (s.nv.waiting.any fun w => w.writer == 3) = false ∧ s.f fSEC_LC_STATE = 1 ∧
       s.f fSEC_LC_REQ_TARGET = 2 ∧ 256 * s.f fSEC_BLOB_SRC_GRAN + 97 ≤ 0xC00000000 ∧ s.poisonedIn 0 97 = false ∧ s.asleep 0 97 = false ∧
       s.readBlocked 0 97 = [] ∧ (s.fsBytes 0 97).take 1 = [4#8] ∧ (up.fsBytes 0 97).take 1 ≠ [4#8]) ∧
    (let s := sets up [(fSEC_LC_STATE, 1), (fSEC_LC_REQ_TARGET, 2), (fSEC_BLOB_SRC_GRAN, 0xBFFFFFF + 1)]
     0xC00000000 < 256 * s.f fSEC_BLOB_SRC_GRAN + 97) ∧
    (let s := sets up [(fSEC_LC_STATE, 2), (fSEC_LC_REQ_TARGET, 3)]
     s.f fSEC_LC_STATE = 2 ∧ s.f fSEC_LC_REQ_TARGET = 3) ∧
    (sets up [(fSEC_TAMPER_TAMPER_EN, 0)]).on fSEC_TAMPER_TAMPER_EN = false ∧ (sets up [(fSEC_TAMPER_TAMPER_EN, 1)]).on fSEC_TAMPER_TAMPER_EN = true := by decide +kernel

/-! ## Non-volatile store, start-up, memory -/

/-- The record store ready, with other changes to the non-volatile store. -/
def ready (f : NvSt → NvSt) : State :=
  let s := sets up [(fNVS_STATUS_READY, 1)]
  { s with nv := f s.nv }

theorem witness_RecordsAreAcceptedFlushedAndDumped :
    (0xFFFFC < 0x100000 ∧ 0xFFFFC % 4 = 0 ∧ up.takesWrite .mp (0x00900000 + 0xFFFFC) = true ∧ up.critBit (0x00900000 + 0xFFFFC) 0 = none ∧
      up.critBit (0x00900000 + 64 * 256 - 4) 0 = some 0 ∧ (up.judge .mp (0x00900000 + 64 * 256 - 4) 0).1 = true) ∧
    up.on fNVS_STATUS_READY = false ∧ (ready id).on fNVS_STATUS_READY = true ∧ (ready id).on fNVS_STATUS_BUSY = false ∧
    (ready id).nvUsed + 32 ≤ 65536 ∧ (sets (ready id) [(fNVS_STATUS_BUSY, 1)]).on fNVS_STATUS_BUSY = true ∧
    (up.takesWrite .mp fNVS_REC_CTRL_GO.addr = true ∧ up.critBit fNVS_REC_CTRL_GO.addr 0x80000000 = some 0 ∧
      (up.judge .mp fNVS_REC_CTRL_GO.addr 0).1 = true ∧ (0x80000000#32).getLsbD 31 = true) ∧
    (∀ len ∈ [4, 4096], let s := sets up [(fNVS_REC_CTRL_LEN, len), (fNVS_REC_DST_ADDR, (0x100000 - len) / 4)]
     s.on fNVS_REC_CTRL_BUSY = false ∧ s.f fNVS_REC_CTRL_LEN = len ∧ 4 * s.f fNVS_REC_DST_ADDR + len = 0x100000 ∧ 36 * 256 ≤ 4 * s.f fNVS_REC_DST_ADDR ∧
       256 * s.f fNVS_REC_SRC_GRAN + len ≤ 0xC00000000) ∧
    (let s := sets up [(fNVS_REC_CTRL_LEN, 4), (fNVS_REC_DST_ADDR, 36 * 64 - 1)]
     4 * s.f fNVS_REC_DST_ADDR < 36 * 256 ∧ s.f fNVS_REC_CTRL_LEN = 4) ∧
    (let s := sets up [(fNVS_REC_CTRL_LEN, 4096), (fNVS_REC_DST_ADDR, 36 * 64), (fNVS_REC_SRC_GRAN, 0xC000000 - 15)]
     0xC00000000 < 256 * s.f fNVS_REC_SRC_GRAN + 4096 ∧ s.f fNVS_REC_CTRL_LEN = 4096 ∧ 4 * s.f fNVS_REC_DST_ADDR = 36 * 256) ∧
    (let s := sets up [(fNVS_REC_CTRL_LEN, 3)]
     ¬ s.f fNVS_REC_CTRL_LEN % 4 = 0) ∧
    up.nvHead = none ∧
    (∀ w ∈ [1, 3, 4, 5, 0, 6], let s := ready fun n => { n with waiting := [⟨w, 0, 0x4000, [1#8]⟩] }
     s.on fNVS_STATUS_READY = true ∧ s.on fNVS_STATUS_BUSY = false ∧ s.nvHead = some ⟨w, 0, 0x4000, [1#8]⟩ ∧
       s.poisonedIn 0 1 = false ∧ s.asleep 0 1 = false ∧ s.readBlocked 0 1 = [] ∧
       ({ s with fs := { s.fs with poison := [(0, true)] } } : State).poisonedIn 0 1 = true) ∧
    up.takesWrite .pf0 fNVS_CNT_INC_CNT.addr = true ∧
    (let s := ready fun n => { n with cache := [⟨3, 1, 0, []⟩] }
     s.on fNVS_STATUS_READY = true ∧ s.nv.dumpPhase = 0 ∧ s.nv.cache = [⟨3, 1, 0, []⟩]) ∧
    (let s := ready fun n => { n with cache := [⟨1, 1, 0, []⟩] }
     s.on fNVS_STATUS_READY = true ∧ s.nv.dumpPhase = 0 ∧ s.nv.cache = [⟨1, 1, 0, []⟩] ∧ s.nv.copyADone = false) ∧
    (let s := ready fun n => { n with cache := [⟨1, 1, 0, []⟩], copyADone := true }
     s.nv.cache = [⟨1, 1, 0, []⟩] ∧ s.nv.copyADone = true ∧ (s.progCopy 2 ⟨1, 1, 0, []⟩).isSome = true) ∧
    (let s := up.setSec 255 ⟨0, [], false, true, 0⟩
     (s.sec_ 255).erasing = true ∧ s.nv.dumpPhase = 0) ∧
    (∀ p ∈ [1, 2, 3], (ready fun n => { n with dumpPhase := p }).nv.dumpPhase = p) := by decide +kernel

theorem witness_record_go_granted : up.granted .mp fNVS_REC_CTRL_GO.addr 0x80000000 := by
  have h : up.critBit fNVS_REC_CTRL_GO.addr 0x80000000 = some 0 := by decide +kernel
  unfold State.granted
  rw [h]
  show (up.judge .mp fNVS_REC_CTRL_GO.addr 0).1 = true
  decide +kernel

/-- A transfer in progress. -/
def xfer (op units done : Nat) : State := ready fun n => { n with xfer := some ⟨op, 1, 0, 0, units, done, false, 2⟩ }

theorem witness_TransfersOfTheImageSlots :
    (up.takesWrite .mp fNVS_XFER_CTRL_GO.addr = true ∧
      (∀ op ∈ [1, 2, 3, 4], (BitVec.ofNat 32 (2 ^ 31 + op * 2 ^ 24)).getLsbD 31 = true ∧
        bitsOf (BitVec.ofNat 32 (2 ^ 31 + op * 2 ^ 24)).toNat 26 24 = op) ∧
      up.critBit fNVS_XFER_CTRL_GO.addr 0x83000000 = none) ∧
    (let s := sets up [(fNVS_XFER_CTRL_BUSY, 1), (fNVS_XFER_CTRL_OP, 1)]
     s.on fNVS_XFER_CTRL_BUSY = true ∧ 1 ≤ s.f fNVS_XFER_CTRL_OP) ∧
    (∀ op ∈ [1, 2], let s := sets up [(fNVS_XFER_CTRL_OP, op), (fNVS_XFER_CTRL_SLOT, 0)]
     s.f fNVS_XFER_CTRL_OP = op ∧ s.f fNVS_XFER_CTRL_SLOT = s.f fNVS_ACT_ACTIVE ∧ s.on fNVS_XFER_CTRL_BUSY = false) ∧
    (∀ ofs ∈ [256, 0xFF0000], let s := sets up [(fNVS_XFER_CTRL_OP, 1), (fNVS_XFER_CTRL_SLOT, 1), (fNVS_XFER_CTRL_COUNTM1, 255), (fNVS_XFER_OFS_OFS, ofs)]
     s.f fNVS_XFER_CTRL_SLOT ≠ s.f fNVS_ACT_ACTIVE ∧ (s.f fNVS_XFER_OFS_OFS % 65536 ≠ 0 ∨
       0x1000000 < s.f fNVS_XFER_OFS_OFS + (s.f fNVS_XFER_CTRL_COUNTM1 + 1) * 65536)) ∧
    (let s := sets up [(fNVS_XFER_CTRL_OP, 1), (fNVS_XFER_CTRL_SLOT, 1), (fNVS_XFER_CTRL_COUNTM1, 255)]
     s.f fNVS_XFER_OFS_OFS % 65536 = 0 ∧ s.f fNVS_XFER_OFS_OFS + (s.f fNVS_XFER_CTRL_COUNTM1 + 1) * 65536 ≤ 0x1000000) ∧
    (∀ op ∈ [2, 3], let s := sets up [(fNVS_XFER_CTRL_OP, op), (fNVS_XFER_CTRL_SLOT, 1), (fNVS_XFER_OFS_OFS, 0xFFFF00), (fNVS_XFER_GRAN_GRAN, 0xBFFFFFF)]
     s.f fNVS_XFER_OFS_OFS % 256 = 0 ∧ s.f fNVS_XFER_OFS_OFS + (s.f fNVS_XFER_CTRL_COUNTM1 + 1) * 256 ≤ 0x1000000 ∧
       256 * s.f fNVS_XFER_GRAN_GRAN + 256 * (s.f fNVS_XFER_CTRL_COUNTM1 + 1) ≤ 0xC00000000) ∧
    (∀ op ∈ [2, 3], let s := sets up [(fNVS_XFER_CTRL_OP, op), (fNVS_XFER_CTRL_SLOT, 1), (fNVS_XFER_OFS_OFS, 128)]
     s.f fNVS_XFER_OFS_OFS % 256 ≠ 0 ∧ s.f fNVS_XFER_CTRL_OP = op) ∧
    (let s := sets up [(fNVS_XFER_CTRL_OP, 4), (fNVS_XFER_GRAN_GRAN, 0xBFFFFFF)]
     256 * s.f fNVS_XFER_GRAN_GRAN + 64 * (s.f fNVS_XFER_CTRL_COUNTM1 + 1) ≤ 0xC00000000) ∧
    up.nv.xfer = none ∧
    (∀ op ∈ [1, 2, 3, 4], (xfer op 2 0).nv.xfer = some ⟨op, 1, 0, 0, 2, 0, false, 2⟩ ∧ (xfer op 2 0).poisonedIn 0 256 = false ∧
      (xfer op 2 0).asleep 0 256 = false ∧ (xfer op 2 0).readBlocked 0 256 = []) ∧ (xfer 4 1 0).nv.xfer.isSome = true ∧
    (∀ i, i < 256 → smGet (fun _ => 0xFF#8) (xfer 2 2 0).nv.nor (1 * 0x1000000 + 0 + 256 * 0 + i) = 0xFF#8) ∧
    (let s := { xfer 2 2 0 with fs := { (xfer 2 2 0).fs with poison := [(7, true)] } }
     s.poisonedIn 0 256 = true ∧ s.nv.xfer.isSome = true) := by decide +kernel

theorem witness_xfer_granted : ∀ v ∈ [0x81800000, 0x82800000, 0x83800000, 0x84800000], up.granted .mp fNVS_XFER_CTRL_GO.addr v := by
  intro v hv
  simp only [List.mem_cons, List.not_mem_nil, or_false] at hv
  rcases hv with rfl | rfl | rfl | rfl
  · have h : up.critBit fNVS_XFER_CTRL_GO.addr 0x81800000 = some 0 := by decide +kernel
    unfold State.granted; rw [h]
    show (up.judge .mp fNVS_XFER_CTRL_GO.addr 0).1 = true
    decide +kernel
  · have h : up.critBit fNVS_XFER_CTRL_GO.addr 0x82800000 = some 0 := by decide +kernel
    unfold State.granted; rw [h]
    show (up.judge .mp fNVS_XFER_CTRL_GO.addr 0).1 = true
    decide +kernel
  · have h : up.critBit fNVS_XFER_CTRL_GO.addr 0x83800000 = none := by decide +kernel
    unfold State.granted; rw [h]; trivial
  · have h : up.critBit fNVS_XFER_CTRL_GO.addr 0x84800000 = none := by decide +kernel
    unfold State.granted; rw [h]; trivial

theorem witness_TransferOperationsBeginAndTheirUnitsComplete :
    up.takesWrite .mp fNVS_XFER_CTRL_GO.addr = true ∧ up.on fNVS_XFER_CTRL_BUSY = false ∧
    (∀ op ∈ [1, 2, 3, 4], let data := BitVec.ofNat 32 (0x80800000 + op * 2 ^ 24)
     data.getLsbD 31 = true ∧ bitsOf data.toNat 26 24 = op ∧ bitsOf data.toNat 23 23 ≠ up.f fNVS_ACT_ACTIVE ∧ data.toNat % 2 ^ 16 + 1 = 1 ∧
       up.f fNVS_XFER_OFS_OFS % 65536 = 0 ∧ up.f fNVS_XFER_OFS_OFS + 65536 ≤ 0x1000000 ∧ 256 * up.f fNVS_XFER_GRAN_GRAN + 256 ≤ 0xC00000000) ∧
    (∀ op ∈ [1, 2, 3, 4], ∀ units ∈ [1, 2], (xfer op units 0).nv.xfer = some ⟨op, 1, 0, 0, units, 0, false, 2⟩) ∧
    (let s := xfer 2 2 0
     s.poisonedIn 0 256 = false ∧ s.asleep 0 256 = false ∧ s.readBlocked 0 256 = [] ∧
       ∀ i, i < 256 → smGet (fun _ => 0xFF#8) s.nv.nor (1 * 0x1000000 + 0 + 256 * 0 + i) = 0xFF#8) := by decide +kernel

/-- An activation in progress since tick 0. -/
def acting (f : ActSt → ActSt) (now : Nat) : State :=
  let s := clk up now now
  { s with boot := { s.boot with act := some (f ⟨1, 0, true, [7], [], []⟩) } }

theorem witness_ImageActivationAndLiveSwaps :
    (up.takesWrite .mp fNVS_ACT_GO.addr = true ∧ up.critBit fNVS_ACT_GO.addr 0x80000000 = some 1 ∧ (up.judge .mp fNVS_ACT_GO.addr 1).1 = true ∧
      (0x80000000#32).getLsbD 31 = true) ∧
    (acting id 0).boot.act ≠ none ∧ up.boot.act = none ∧ up.on fNVS_XFER_CTRL_BUSY = false ∧ up.firstOk (1 - up.f fNVS_ACT_ACTIVE) = false ∧
    (let s := acting id 0
     s.boot.act = some ⟨1, 0, true, [7], [], []⟩ ∧ ([7] : List Nat).contains 7 = true ∧ s.entry 7 = none ∧ s.txnSlot 0x307 = none ∧
       s.heldLocks 0x307 = [] ∧ s.on fDRV_PF_TRIPPED = false ∧ s.cpHalted 7 = false ∧ (s.setNoServe 7 true).cpHalted 7 = true) ∧
    (let s := acting (fun a => { a with cps := [], copying := [(7, 5)] }) 9
     s.boot.act = some ⟨1, 0, true, [], [(7, 5)], []⟩ ∧ [(7, 5)].find? (fun x => x.1 == 7) = some (7, 5)) ∧
    (let s := acting id (2 ^ 31)
     0 + 2 ^ 31 ≤ s.time.master ∧ ([7] : List Nat) ≠ []) ∧ (acting id (2 ^ 31 - 1)).time.master < 0 + 2 ^ 31 := by decide +kernel

/-- A directory written out from R681: one entry, KIND 3, TARGET 7, at 0x2000, 256 bytes; first stage 4,096 bytes. -/
def directory : List Byte :=
  leBytes 4 0x9840 ++ leBytes 4 1 ++ [1#8, 0#8] ++ List.replicate 6 0#8 ++ leBytes 4 4096 ++ List.replicate 44 0#8 ++
    [3#8, 7#8, 0#8, 0#8] ++ leBytes 4 0x2000 ++ leBytes 4 256 ++ List.replicate 4 0#8

theorem test_directory_of_one_image :
    (ready fun n => { n with nor := putBytes (fun _ => 0xFF#8) [] 0x1000000 directory }).dirValid 1 = true ∧ (ready id).dirValid 1 = false := by
  decide +kernel

/-- Stages running. -/
def booting (l : List Nat) (retry : Bool) : State := { up with boot := { up.boot with running := l, pllRetry := retry } }

theorem witness_StartUpStagesRunInOrder :
    State.reset.boot.porst = true ∧ up.boot.running.contains 8 = false ∧
    (∀ k, k < 9 → (booting [k] false).boot.running.contains k = true ∧ (booting [k] false).boot.pllRetry = false ∧
      (booting [k] false).boot.otherTried = false ∧ (booting [k] false).boot.bonbonExit = false) ∧
    (booting [8] false).on fNVS_STATUS_BT_VALID = false ∧
    (let s := sets (booting [8] false) [(fNVS_STATUS_BT_VALID, 1)]
     s.on fNVS_STATUS_BT_VALID = true ∧ ∀ l, l < 256 → s.on (fLNK_CFG_EN l) = true → s.lnSt l = 3 ∨ s.lnSt l = 5 ∨ s.lnSt l = 6) ∧
    (let s := sets (booting [8] false) [(fNVS_STATUS_BT_VALID, 1), (fLNK_CFG_EN 255, 1)]
     s.on fNVS_STATUS_BT_VALID = true ∧ s.lanesDone = false) ∧
    (booting [1] true).boot.pllRetry = true := by decide +kernel

theorem witness_BanksErrorsAndMarches :
    up.takesWrite .mp (fMEM_BANK_REQ 259).addr = true ∧ up.bankFree 259 = false ∧ up.bankFree 5 = true ∧ up.bankFree 238 = true ∧
    (sets up [(fcState 0x300, 1)]).bankFree 5 = false ∧
    (sets up [(fMEM_BANK_STATE 259, 2)]).f (fMEM_BANK_STATE 259) = 2 ∧
    (let s := sets up [(fMEM_BANK_REQ 259, 1), (fMEM_BANK_STATE 259, 0), (fMEM_BANK_INIT 259, 0)]
     s.f (fMEM_BANK_REQ 259) = 1 ∧ s.f (fMEM_BANK_STATE 259) = 0 ∧ s.on (fMEM_BANK_INIT 259) = false) ∧
    (sets up [(fMEM_BANK_STATE 259, 0)]).f (fMEM_BANK_STATE 259) ≠ 2 ∧
    up.takesWrite .mp fMEM_MARCH_CTRL_GO.addr = true ∧ (0x80000000#32).getLsbD 31 = true ∧ (0x80000000#32).getLsbD 30 = false ∧
    (0x40000000#32).getLsbD 30 = true ∧ (0x40000000#32).getLsbD 31 = false ∧
    (sets up [(fMEM_MARCH_STATUS_BUSY, 1)]).on fMEM_MARCH_STATUS_BUSY = true ∧ up.on fMEM_MARCH_STATUS_BUSY = false ∧
    (let s := { up with mem := { up.mem with march := some ⟨1, true, [0, 259], true⟩ } }
     s.mem.march = some ⟨1, true, [0, 259], true⟩ ∧ ∀ e ∈ [((258 : Nat), (0 : Nat))], e.1 ∉ ([0, 259] : List Nat)) := by decide +kernel

theorem witness_ArbitersCopiesAndRegisterWrites :
    up.takesWrite .pf0 fARB_APPLY_APPLY.addr = true ∧ (0x80000000#32).getLsbD 31 = true ∧
    (sets up [(fARB_APPLY_PENDING, 1)]).on fARB_APPLY_PENDING = true ∧ up.takesWrite .pf1 fMEM_COPY_CTRL_GO.addr = up.on fGEN_CTRL_PF1_WEN ∧
    up.takesWrite .pf0 fMEM_COPY_CTRL_GO.addr = true ∧ (sets up [(fMEM_COPY_STATUS_BUSY, 1)]).on fMEM_COPY_STATUS_BUSY = true ∧
    (let s := sets up [(fMEM_COPY_SRC_SPACE, 1), (fMEM_COPY_DST_SPACE, 1)]
     s.on fMEM_COPY_STATUS_BUSY = false ∧ s.f fMEM_COPY_SRC_SPACE = 1 ∧ s.f fMEM_COPY_DST_SPACE = 1) ∧
    (let s := sets up [(fMEM_COPY_SRC_LOC, 0xBFFFFFF), (fMEM_COPY_DST_LOC, 0)]
     s.on fMEM_COPY_STATUS_BUSY = false ∧ s.f fMEM_COPY_SRC_SPACE = 0 ∧ s.f fMEM_COPY_DST_SPACE = 0 ∧
       256 * s.f fMEM_COPY_SRC_LOC + 256 * (s.f fMEM_COPY_CTRL_LEN256M1 + 1) ≤ 0xC00000000 ∧
       256 * s.f fMEM_COPY_DST_LOC + 256 * (s.f fMEM_COPY_CTRL_LEN256M1 + 1) ≤ 0xC00000000) ∧
    (let s := { up with mem := { up.mem with copy := some ⟨0, 0, 0, 16, 1, 2, 0x440⟩ } }
     s.mem.copy = some ⟨0, 0, 0, 16, 1, 2, 0x440⟩ ∧ s.asleep 0 (32 * 8) = false ∧ s.readBlocked 0 (32 * 8) = [] ∧ s.readBlocked 0 (32 * min (64 / 32) 8) = []) ∧
    ({ up with host := { up.host with d3pf0 := true } } : State).barOk .pf0 = false ∧ State.reset.reach 0 = false ∧
    (up.barOk .pf1 = true ∧ up.reach 0x0FFFFFFC = false ∧ up.reach 0x00800000 = true ∧ (sets up [(fGEN_CTRL_PF1_WEN, 0)]).on fGEN_CTRL_PF1_WEN = false) := by decide +kernel

/-! ## The whole block -/

theorem witness_AnEmptyQueuePassesOneCycle :
    up.pending = [] ∧ State.reset.boot.porst = true ∧ up.boot.porst = false ∧ up.on fDRV_BON_CTRL_ACTIVE = false ∧ up.time.corr = 0 ∧
    (sets up [(fDRV_BON_CTRL_ACTIVE, 1)]).on fDRV_BON_CTRL_ACTIVE = true ∧ 0x307 ∈ allCores ∧ 0x307 ≠ 0x440 := by decide +kernel

theorem witness_StepRunsTheFrontCommand : ({ up with pending := [.l1Exit, .perstDeassert] } : State).pending = .l1Exit :: [.perstDeassert] := rfl

theorem witness_EveryStepKeepsTheCanonicalForm : Memory.wf up = true ∧ Regs.wf up = true := by decide +kernel

theorem witness_EveryStepKeepsTheCanonicalForm_step : (∃ t, step { up with pending := [.perstDeassert] } = .next t) ∧ ∃ t, step up = .next t :=
  ⟨⟨_, rfl⟩, ⟨_, rfl⟩⟩

theorem witness_CommandsTouchOnlyTheirParts : (∃ t, exec .perstDeassert up = .next t) ∧ Part.nv ∉ mayTouch .perstDeassert :=
  ⟨⟨_, rfl⟩, by decide +kernel⟩

theorem witness_OnlyMisalignedWritesStop : (∀ a ∈ [0, 0x03FFFFFC], a % 4 = 0) ∧
    ({ up with pending := [.regWrite .pf0 4 0] } : State).pending.head? = some (.regWrite .pf0 4 0) ∧
    exec (.regWrite .pf0 2 0) up = .fault .unalignedAccess := ⟨by decide, rfl, rfl⟩

theorem witness_InstructionWordsComeApartAsEncoded :
    63 < 64 ∧ 63 ≠ 0x0E ∧ (insOf (wordT 63 31 31 31 2047) 0).x = 2047 ∧ (insOf (wordI 63 31 31 65535) 0).imm = 65535 ∧
    (insOf (wordW 63 31 7 3 65535) 0).mode = 3 ∧ (insOf (wordF 63 7 65535) 0).bn = 7 ∧ (insOf (wordG 63 63 31 1 16383) 0).goff = 16383 ∧
    (insOf (wordL 63 31 31) 0xFFFFFFFF).long = some 0xFFFFFFFF := by decide +kernel

theorem witness_ProtectedPagesOfTheRecordStore :
    bit 0x80000000 31 = 1 ∧ 4 * up.f fNVS_REC_DST_ADDR < 64 * 256 ∧ (ready id).on fNVS_STATUS_READY = true ∧
    (let s := sets up [(fNVS_REC_CTRL_LEN, 4096), (fNVS_REC_DST_ADDR, 36 * 64 - 1)]
     s.on fNVS_REC_CTRL_BUSY = false ∧ s.f fNVS_REC_CTRL_LEN % 4 = 0 ∧ s.f fNVS_REC_CTRL_LEN = 4096 ∧ 4 * s.f fNVS_REC_DST_ADDR < 36 * 256) ∧
    (∀ w ∈ [1, 2, 3], let s := ready fun n => { n with waiting := [⟨w, 0, 0, [1#8]⟩] }
     s.on fNVS_STATUS_BUSY = false ∧ s.nvHead = some ⟨w, 0, 0, [1#8]⟩) := by decide +kernel

theorem witness_CriticalWritesNeedTheirPermission :
    (up.takesWrite (.core 0x307) (0x00900000 + 0x3FFC) = true ∧ up.critBit (0x00900000 + 0x3FFC) 0 = some 0 ∧
      up.takesWrite .pf0 (fDRV_MODE_TECH 15).addr = true ∧ up.critBit (fDRV_MODE_TECH 15).addr 0xE0000000 = some 6) ∧
    (at7 (entry511 3 false 0 0 [])).inEntry 0x307 = some (entry511 3 false 0 0 []) ∧
    (entry511 3 false 0 0 []).crit = false ∧
    (at7 (entry511 3 true 0x003F0000 0 [])).inEntry 0x307 = some (entry511 3 true 0x003F0000 0 []) ∧ (entry511 3 true 0x003F0000 0 []).slot = 63 ∧
    bit (up.f (fSEC_SLOT_CFG_PERM 63)) 0 = 0 ∧ bit ((sets up [(fSEC_SLOT_CFG_PERM 63, 1)]).f (fSEC_SLOT_CFG_PERM 63)) 0 = 1 ∧
    up.inEntry 0x307 = none ∧ up.inEntry 0x400 = none ∧ (sets up [(fSEC_LC_STATE, 1)]).f fSEC_LC_STATE ≠ 0 ∧ up.f fSEC_LC_STATE = 0 := by decide +kernel

theorem witness_CodecResidueInverts : (0 < 1 ∧ 0 < 12) ∧ 4095 < 2 ^ 12 ∧ mapResidue 12 0 4095 = 2 ∧ mapResidue 12 4095 0 = 1 ∧
    unmapResidue 12 1 0 = 4095 ∧ mapResidue 1 1 0 = 1 ∧ unmapResidue 1 1 0 = 1 := by decide

/-- Pseudo-channel 63 with a refresh due, group 15 scanning below its watermark. -/
def rounds63 : State :=
  let s := sets (frame15 0 0 id) [(fARB_SCAN_WM_LWM 15, 1)]
  { s with fs := { s.fs with postponed := [(63, 8)] } }

theorem witness_ARoundGrantsTheGreatestRankOfTheHighestClass :
    (isLinkArb 64 = true ∧ isLinkArb 95 = true ∧ isPcArb 128 = true ∧ isPcArb 191 = true ∧ isBankArb 512 = true ∧ isBankArb 771 = true) ∧
    (rounds63.refreshDue 191 = true ∧ rounds63.refreshDue 190 = false ∧ smGet (fun _ => false) rounds63.arb.masked 14 = false ∧
      (∀ j ∈ [0, 5], rounds63.standing 191 false j < rounds63.standing 191 false 14)) ∧
    (∀ arb ∈ [79, 190, 512], up.standing arb false 16 = up.standing arb false 17 ∧
      up.arbCfg arb 16 % 16 + up.age arb 16 = up.arbCfg arb 17 % 16 + up.age arb 17 ∧
      ∀ n ∈ [3, 16], n < 4096 ∧ smGet (fun _ => false) up.arb.masked n = false) ∧
    (let s := clk up 0 0
     ¬ (11 ≤ 12 ∧ 12 ≤ 13 ∧ 0 + 1024 * max 1 (s.arbCfg 128 12 / 16) ≤ s.time.master)) ∧
    (link.tc3Open 0 9 = true ∧ (73 - 64) / 16 = 0 ∧ (73 - 64) % 16 = 9) := by decide +kernel

theorem witness_AWideWriteIsTwoWritesLowerAddressFirst : up.pending = [] ∧ 0x03FFFFF8 % 8 = 0 := by decide +kernel

end Sys2Proof.Tests
end

section
/-!
The steps of the block: a step takes the front of the queue and leaves the rest, every step keeps the canonical form, and every command
leaves the parts alone that it may not touch.
-/
open Sys2Proof Sys2Proof.Machine

namespace Sys2Proof.Machine

variable {s t : State}

theorem step_nil (h : s.pending = []) : step s = .next s.tick := by
  unfold step
  rw [h]

theorem step_cons {c : Instr} {cs : List Instr} (h : s.pending = c :: cs) :
    step s = exec c { s with pending := cs } := by
  unfold step
  rw [h]

/-- A register write at an aligned offset is carried out (R3). -/
theorem execRegWrite_aligned {req : Req} {a : Nat} {w : Word} (h : a % 4 = 0) :
    execRegWrite req a w s = .next (s.busWrite req a w.toNat) := by
  unfold execRegWrite
  exact if_neg (not_not_intro h)

theorem execRegWrite_misaligned {req : Req} {a : Nat} {w : Word} (h : a % 4 ≠ 0) :
    execRegWrite req a w s = .fault .unalignedAccess := by
  unfold execRegWrite
  exact if_pos h

/-- A step is the cycle of an empty queue or a command on the rest of its queue, and keeps what every operation keeps. -/
theorem Kept.step (h : Machine.step s = .next t) : Kept { s with pending := s.pending.tail } t := by
  cases hp : s.pending with
  | nil =>
    rw [step_nil hp] at h
    cases h
    have e : { s with pending := [] } = s := by rw [← hp]
    simpa only [List.tail_nil, e] using Kept.tick .refl
  | cons c cs =>
    rw [step_cons hp] at h
    exact Kept.exec c _ t h

end Sys2Proof.Machine

/-- Settles O45: each step keeps the canonical forms, by the law that every command and the cycle of an empty queue keep them. -/
theorem everyStepKeepsTheCanonicalForm : Obligations.EveryStepKeepsTheCanonicalForm := by
  intro s t ⟨hmem, hregs⟩ hst
  have k := Kept.step hst
  exact ⟨k.mem hmem, k.regs hregs⟩

/-- Settles O47, by the law of what each command may touch. -/
theorem commandsTouchOnlyTheirParts : Obligations.CommandsTouchOnlyTheirParts :=
  fun _ _ _ h _ hp => exec_same h hp

/-- Settles O48: the queue after a step is the one its command was run on. -/
theorem everyStepTakesTheFrontAndLeavesTheRest : Obligations.EveryStepTakesTheFrontAndLeavesTheRest :=
  fun _ _ h => (Kept.step h).pending

/-- Settles O42, by the step's case of a queue with a front. -/
theorem stepRunsTheFrontCommand : Obligations.StepRunsTheFrontCommand :=
  ⟨fun _ _ => rfl, fun _ _ _ h => step_cons h⟩

/-- Settles O46: nothing is listed in any map after reset. -/
theorem resetHasTheCanonicalForm : Obligations.ResetHasTheCanonicalForm := ⟨rfl, rfl⟩

/-- Settles O44: a register field of the state after reset reads its reset value, and nothing is listed in any memory. -/
theorem resetLeavesTheStatedValues : Obligations.ResetLeavesTheStatedValues := by
  have groups : ∀ g, g < 16 → State.reset.gState g = 0 := by decide
  have cores : ∀ o ∈ allCores, State.reset.coreSt o = 0 := by decide
  have rings : ∀ k, k < 8 → State.reset.f (fEVR_CFG_LOG2N k) = 8 ∧ State.reset.f (fEVR_CFG_FUNC k) = 1 ∧
      State.reset.f (fEVR_MOD_CNT k) = 1 := by decide
  have timeout : State.reset.f fCXL_BI_RT_TMO = 0x640 := by decide
  have blocks : State.reset.f fGEN_BLKRDY_RDY = 0 := by decide
  have stages : State.reset.f fCLK_BOOT_STAGES = 0 := by decide
  have link : State.reset.f fCXL_LINK_STATUS_UP = 0 := by decide
  exact ⟨rfl, rfl, groups, cores, timeout, rings, blocks, stages, link, rfl, rfl, rfl, rfl, rfl⟩
end

section
/-!
Which commands answer a next state: all but a register write at a misaligned offset (R3).
-/
open Sys2Proof Sys2Proof.Machine
namespace Sys2Proof.Machine

/-- The outcome is a next state: neither a fault nor a refusal. -/
def Answers (o : Host.Outcome State Fault Refusal) : Prop := ∃ t, o = .next t

namespace Answers

variable {s t : State}

theorem next : Answers (.next t) := ⟨t, rfl⟩

theorem ite {c : Prop} {_ : Decidable c} {o p : Host.Outcome State Fault Refusal} (h : Answers o) (k : Answers p) :
    Answers (if c then o else p) := by
  split
  · exact h
  · exact k

/-! ## What the commands share: a write or a read of one register, the issue of an instruction -/

theorem rowWrite {ok req x w} : Answers (s.rowWrite ok req x w) := by
  unfold State.rowWrite
  exact .ite .next .next

theorem rowRead {ok req a} : Answers (s.rowRead ok req a) := by
  unfold State.rowRead
  exact .ite .next .next

theorem issue {o mine run} : Answers (s.issue o mine run) := by
  unfold State.issue
  exact .ite .next (.ite .next (.ite .next (.ite .next .next)))

/-- The one command that may stop (R3) does not where the offset is a multiple of 4. -/
theorem execRegWrite {req a data} (h : a % 4 = 0) : Answers (Machine.execRegWrite req a data s) := by
  rw [execRegWrite_aligned h]
  exact .next

/-! ## Commands whose meaning goes by cases -/

theorem execLinkLoss : Answers (Machine.execLinkLoss s) := by
  unfold Machine.execLinkLoss
  exact .ite .next .next

theorem execClockSourceLoss {src} : Answers (Machine.execClockSourceLoss src s) := by
  unfold Machine.execClockSourceLoss
  exact .ite .next (.ite .next (.ite .next (.ite execLinkLoss (.ite .next .next))))

theorem execEntryTake {cp} : Answers (Machine.execEntryTake cp s) := by
  unfold Machine.execEntryTake
  refine .ite .next (.ite .next ?_)
  dsimp only
  split <;> exact .next

theorem execBiResponse {line} : Answers (Machine.execBiResponse line s) := by
  unfold Machine.execBiResponse
  refine .ite .next ?_
  dsimp only
  split
  · exact .next
  · exact .ite .next .next

theorem execStageComplete {stage rep} : Answers (Machine.execStageComplete stage rep s) := by
  unfold Machine.execStageComplete
  refine .ite .next ?_
  split
  -- Stage 8 ends by one of two conditions or goes on; each other stage has one outcome.
  case h_8 => exact .ite .next (.ite .next .next)
  all_goals exact .next

theorem execFlitReceive {dir lg flit} : Answers (Machine.execFlitReceive dir lg flit s) := by
  unfold Machine.execFlitReceive
  refine .ite .next (.ite .next ?_)
  dsimp only
  split <;> exact .next

theorem execFlitSlot {dir lg tc0 tc1 tc2 tc3 cred crtc} : Answers (Machine.execFlitSlot dir lg tc0 tc1 tc2 tc3 cred crtc s) := by
  unfold Machine.execFlitSlot
  refine .ite .next (.ite ?_ (.ite .next .next))
  split <;> exact .next

theorem execTsyncSample {arrival rtt replayed} : Answers (Machine.execTsyncSample arrival rtt replayed s) := by
  unfold Machine.execTsyncSample
  split
  · exact .next
  · exact .ite .next (.ite .next .next)

theorem execEventMergeArrival {k} : Answers (Machine.execEventMergeArrival k s) := by
  unfold Machine.execEventMergeArrival
  split
  · exact .next
  · exact .ite .next (.ite .next .next)

theorem execEventRelease : Answers (Machine.execEventRelease s) := by
  unfold Machine.execEventRelease
  split
  · exact .next
  · exact .ite .next .next

theorem execGroupEnterStopped {g} : Answers (Machine.execGroupEnterStopped g s) := by
  unfold Machine.execGroupEnterStopped
  refine .ite .next (.ite .next ?_)
  split <;> exact .next

theorem execLineStart {g} : Answers (Machine.execLineStart g s) := by
  unfold Machine.execLineStart
  refine .ite .next ?_
  split <;> exact .next

theorem execSyncoutPulseEnd {g} : Answers (Machine.execSyncoutPulseEnd g s) := by
  unfold Machine.execSyncoutPulseEnd
  dsimp only
  split <;> exact .next

theorem execCutoff {g} : Answers (Machine.execCutoff g s) := by
  unfold Machine.execCutoff
  dsimp only
  split
  · exact .next
  · exact .ite .next .next

theorem execCommitArrival : Answers (Machine.execCommitArrival s) := by
  unfold Machine.execCommitArrival
  split <;> exact .next

theorem execTeWaitBegin {g} : Answers (Machine.execTeWaitBegin g s) := by
  unfold Machine.execTeWaitBegin
  refine .ite .next ?_
  split
  · exact .ite .next .next
  · exact .next

theorem execTeTimeout {g} : Answers (Machine.execTeTimeout g s) := by
  unfold Machine.execTeTimeout
  dsimp only
  split
  · exact .next
  · exact .ite .next .next

theorem execSlotStart {c slot} : Answers (Machine.execSlotStart c slot s) := by
  unfold Machine.execSlotStart
  split
  · exact .next
  · exact .ite .next .next

theorem execPipeSpan {g line span} : Answers (Machine.execPipeSpan g line span s) := by
  unfold Machine.execPipeSpan
  refine .ite .next ?_
  split
  · exact .next
  · exact .ite .next .next

theorem execTldDone {rounds} : Answers (Machine.execTldDone rounds s) := by
  unfold Machine.execTldDone
  split
  · exact .next
  · refine .ite .next ?_
    split
    · exact .next
    · exact .ite .next .next

theorem execStackExitDone {stack} : Answers (Machine.execStackExitDone stack s) := by
  unfold Machine.execStackExitDone
  split
  · exact .next
  · exact .ite .next .next

theorem execCodecEncode : Answers (Machine.execCodecEncode s) := by
  unfold Machine.execCodecEncode
  split
  · exact .next
  · exact .ite .next (.ite .next .next)

theorem execCodecRelease : Answers (Machine.execCodecRelease s) := by
  unfold Machine.execCodecRelease
  split
  · exact .next
  · refine .ite .next (.ite .next (.ite .next ?_))
    split <;> exact .next

theorem execCodecBlockDone {e mismatch rounds} : Answers (Machine.execCodecBlockDone e mismatch rounds s) := by
  unfold Machine.execCodecBlockDone
  dsimp only
  split
  · exact .next
  · split
    · exact .next
    · refine .ite .next ?_
      split
      · exact .next
      · split
        · exact .next
        · exact .ite .next (.ite .next .next)

theorem execCellRelease : Answers (Machine.execCellRelease s) := by
  unfold Machine.execCellRelease
  split
  · exact .next
  · exact .ite .next .next

theorem execBlockFetchDone {p bx by_} : Answers (Machine.execBlockFetchDone p bx by_ s) := by
  unfold Machine.execBlockFetchDone
  refine .ite ?_ .next
  split <;> exact .next

theorem execBlockDecodeDone {p bx by_ dec} : Answers (Machine.execBlockDecodeDone p bx by_ dec s) := by
  unfold Machine.execBlockDecodeDone
  refine .ite .next ?_
  split
  · exact .next
  · exact .next
  · dsimp only
    split <;> exact .next
  · exact .next

theorem execLdxDone {core} : Answers (Machine.execLdxDone core s) := by
  unfold Machine.execLdxDone
  split <;> exact .next

theorem execWaitlDone {core} : Answers (Machine.execWaitlDone core s) := by
  unfold Machine.execWaitlDone
  split <;> exact .next

theorem execWaitcDone {core} : Answers (Machine.execWaitcDone core s) := by
  unfold Machine.execWaitcDone
  split
  · split
    · exact .next
    · exact .ite .next .next
  · exact .next

theorem execWaiteDone {core} : Answers (Machine.execWaiteDone core s) := by
  unfold Machine.execWaiteDone
  split
  · split
    · exact .next
    · exact .ite .next .next
    · exact .next
  · exact .next

theorem execWaittDone {core} : Answers (Machine.execWaittDone core s) := by
  unfold Machine.execWaittDone
  split
  · exact .ite .next .next
  · exact .next

theorem execFenceDone {core} : Answers (Machine.execFenceDone core s) := by
  unfold Machine.execFenceDone
  split
  · exact .ite .next .next
  · exact .next

theorem execGtoEdgePlace {p} : Answers (Machine.execGtoEdgePlace p s) := by
  unfold Machine.execGtoEdgePlace
  dsimp only
  split <;> exact .next

theorem execEntryFetchDone {cp host} : Answers (Machine.execEntryFetchDone cp host s) := by
  unfold Machine.execEntryFetchDone
  split
  · exact .next
  · refine .ite .next (.ite .next (.ite .next ?_))
    dsimp only
    split
    · exact .next
    · exact .ite .next (.ite .next .next)

theorem execTrailerCheckDone : Answers (Machine.execTrailerCheckDone s) := by
  unfold Machine.execTrailerCheckDone
  split
  · exact .next
  · dsimp only
    split
    · exact .next
    · exact .ite .next .next

theorem execEntryRelease {q} : Answers (Machine.execEntryRelease q s) := by
  unfold Machine.execEntryRelease
  split
  · exact .next
  · exact .ite .next .next

theorem execCommitResultReport : Answers (Machine.execCommitResultReport s) := by
  unfold Machine.execCommitResultReport
  split <;> exact .next

theorem execNakReceive {c pid seq reason kind} : Answers (Machine.execNakReceive c pid seq reason kind s) := by
  unfold Machine.execNakReceive
  refine .ite .next (.ite ?_ ?_)
  · dsimp only
    split
    · exact .next
    · exact .ite .next .next
  · dsimp only
    split
    · exact .next
    · split
      · exact .next
      · exact .ite .next (.ite .next .next)

theorem execRdrReceive {c pid seq words mism} : Answers (Machine.execRdrReceive c pid seq words mism s) := by
  unfold Machine.execRdrReceive
  refine .ite .next ?_
  dsimp only
  split <;> exact .next

theorem execSnsReceive {c pid seq words mism} : Answers (Machine.execSnsReceive c pid seq words mism s) := by
  unfold Machine.execSnsReceive
  refine .ite .next ?_
  dsimp only
  split <;> exact .next

theorem execRetryTimeout {c pos sp} : Answers (Machine.execRetryTimeout c pos sp s) := by
  unfold Machine.execRetryTimeout
  refine .ite .next ?_
  split <;> exact .next

theorem execFreeSlot {c} : Answers (Machine.execFreeSlot c s) := by
  unfold Machine.execFreeSlot
  split
  · exact .next
  · refine .ite .next ?_
    split
    · exact .next
    · split <;> exact .next

theorem execTxSleep {l} : Answers (Machine.execTxSleep l s) := by
  unfold Machine.execTxSleep
  split <;> exact .next

theorem execTxWakeDone {l} : Answers (Machine.execTxWakeDone l s) := by
  unfold Machine.execTxWakeDone
  split <;> exact .next

theorem execRxSleep {l} : Answers (Machine.execRxSleep l s) := by
  unfold Machine.execRxSleep
  split <;> exact .next

theorem execPfTrip {pinLow vinLow} : Answers (Machine.execPfTrip pinLow vinLow s) := by
  unfold Machine.execPfTrip
  dsimp only
  split
  · exact .next
  · exact .ite .next .next

theorem execPfDischarge : Answers (Machine.execPfDischarge s) := by
  unfold Machine.execPfDischarge
  split
  · exact .next
  · exact .ite .next .next

theorem execCalRunTimeout {i} : Answers (Machine.execCalRunTimeout i s) := by
  unfold Machine.execCalRunTimeout
  split <;> exact .next

theorem execCxlmemRead {hpa cache} : Answers (Machine.execCxlmemRead hpa cache s) := by
  unfold Machine.execCxlmemRead
  split <;> exact .next

theorem execCxlmemWrite {hpa bytes mask wb} : Answers (Machine.execCxlmemWrite hpa bytes mask wb s) := by
  unfold Machine.execCxlmemWrite
  split <;> exact .next

theorem execCacheReadDone {line bytes failed p} : Answers (Machine.execCacheReadDone line bytes failed p s) := by
  unfold Machine.execCacheReadDone
  refine .ite .next ?_
  dsimp only
  split
  · exact .next
  · exact .ite .next .next

theorem execCacheReadTimeout {line} : Answers (Machine.execCacheReadTimeout line s) := by
  unfold Machine.execCacheReadTimeout
  split <;> exact .next

theorem execGetHealthInfo : Answers (Machine.execGetHealthInfo s) := by
  unfold Machine.execGetHealthInfo
  dsimp only
  split <;> exact .next

theorem execGetDigests : Answers (Machine.execGetDigests s) := by
  unfold Machine.execGetDigests
  split <;> exact .next

theorem execGetCertificate {slot ofs n} : Answers (Machine.execGetCertificate slot ofs n s) := by
  unfold Machine.execGetCertificate
  split
  · exact .next
  · exact .ite .next .next

theorem execVendorDefinedRequest {session blob} : Answers (Machine.execVendorDefinedRequest session blob s) := by
  unfold Machine.execVendorDefinedRequest
  dsimp only
  split
  · exact .next
  · exact .ite .next (.ite .next .next)

theorem execFlushProgramDone : Answers (Machine.execFlushProgramDone s) := by
  unfold Machine.execFlushProgramDone
  split
  · exact .next
  · exact .ite .next (.ite .next .next)

theorem execDumpCopyDone : Answers (Machine.execDumpCopyDone s) := by
  unfold Machine.execDumpCopyDone
  split <;> exact .next

theorem execXferUnitDone {deferred misread} : Answers (Machine.execXferUnitDone deferred misread s) := by
  unfold Machine.execXferUnitDone
  split
  · exact .next
  · dsimp only
    split
    · exact .next
    · refine .ite .next ?_
      split
      · exact .next
      · exact .ite .next .next
    · exact .next
    · exact .next

theorem execCpQuiescent {cp} : Answers (Machine.execCpQuiescent cp s) := by
  unfold Machine.execCpQuiescent
  split
  · exact .next
  · exact .ite .next (.ite .next .next)

theorem execCpSwap {cp} : Answers (Machine.execCpSwap cp s) := by
  unfold Machine.execCpSwap
  split
  · exact .next
  · split <;> exact .next

theorem execActivationTimeout : Answers (Machine.execActivationTimeout s) := by
  unfold Machine.execActivationTimeout
  split
  · exact .next
  · exact .ite .next .next

theorem execMarchDone {bad} : Answers (Machine.execMarchDone bad s) := by
  unfold Machine.execMarchDone
  split <;> exact .next

theorem execArbRound {arb reqs scan} : Answers (Machine.execArbRound arb reqs scan s) := by
  unfold Machine.execArbRound
  refine .ite .next ?_
  dsimp only
  split <;> exact .next

theorem execCopyDone {rounds reason bytes} : Answers (Machine.execCopyDone rounds reason bytes s) := by
  unfold Machine.execCopyDone
  split
  · exact .next
  · exact .ite .next (.ite .next .next)

theorem execLockTxnReply {core} : Answers (Machine.execLockTxnReply core s) := by
  unfold Machine.execLockTxnReply
  split <;> exact .next

theorem execD3hot {func on} : Answers (Machine.execD3hot func on s) := by
  unfold Machine.execD3hot
  split <;> exact .next


end Answers

/-- Every command answers a next state, a register write where its offset is aligned (R3; log entries 2 and 6). -/
theorem exec_answers (c : Instr) (s : State) (h : ∀ req a data, c = .regWrite req a data → a % 4 = 0) :
    Answers (exec c s) := by
  cases c <;> dsimp only [exec]
  case regWrite req a data => exact .execRegWrite (h req a data rfl)
  case clockSourceLoss => exact .execClockSourceLoss
  case stageComplete => exact .execStageComplete
  case flitReceive => exact .execFlitReceive
  case flitSlot => exact .execFlitSlot
  case tsyncSample => exact .execTsyncSample
  case eventMergeArrival => exact .execEventMergeArrival
  case eventRelease => exact .execEventRelease
  case groupEnterStopped => exact .execGroupEnterStopped
  case lineStart => exact .execLineStart
  case syncoutPulseEnd => exact .execSyncoutPulseEnd
  case cutoff => exact .execCutoff
  case commitArrival => exact .execCommitArrival
  case teWaitBegin => exact .execTeWaitBegin
  case teTimeout => exact .execTeTimeout
  case slotStart => exact .execSlotStart
  case pipeSpan => exact .execPipeSpan
  case tldDone => exact .execTldDone
  case stackExitDone => exact .execStackExitDone
  case codecEncode => exact .execCodecEncode
  case codecRelease => exact .execCodecRelease
  case codecBlockDone => exact .execCodecBlockDone
  case cellRelease => exact .execCellRelease
  case blockFetchDone => exact .execBlockFetchDone
  case blockDecodeDone => exact .execBlockDecodeDone
  case ldxDone => exact .execLdxDone
  case waitlDone => exact .execWaitlDone
  case waitcDone => exact .execWaitcDone
  case waiteDone => exact .execWaiteDone
  case waittDone => exact .execWaittDone
  case fenceDone => exact .execFenceDone
  case gtoEdgePlace => exact .execGtoEdgePlace
  case entryTake => exact .execEntryTake
  case entryFetchDone => exact .execEntryFetchDone
  case trailerCheckDone => exact .execTrailerCheckDone
  case entryRelease => exact .execEntryRelease
  case commitResultReport => exact .execCommitResultReport
  case nakReceive => exact .execNakReceive
  case rdrReceive => exact .execRdrReceive
  case snsReceive => exact .execSnsReceive
  case retryTimeout => exact .execRetryTimeout
  case freeSlot => exact .execFreeSlot
  case txSleep => exact .execTxSleep
  case txWakeDone => exact .execTxWakeDone
  case rxSleep => exact .execRxSleep
  case pfTrip => exact .execPfTrip
  case pfDischarge => exact .execPfDischarge
  case calRunTimeout => exact .execCalRunTimeout
  case cxlmemRead => exact .execCxlmemRead
  case cxlmemWrite => exact .execCxlmemWrite
  case cacheReadDone => exact .execCacheReadDone
  case cacheReadTimeout => exact .execCacheReadTimeout
  case getHealthInfo => exact .execGetHealthInfo
  case getDigests => exact .execGetDigests
  case getCertificate => exact .execGetCertificate
  case vendorDefinedRequest => exact .execVendorDefinedRequest
  case flushProgramDone => exact .execFlushProgramDone
  case dumpCopyDone => exact .execDumpCopyDone
  case xferUnitDone => exact .execXferUnitDone
  case cpQuiescent => exact .execCpQuiescent
  case cpSwap => exact .execCpSwap
  case activationTimeout => exact .execActivationTimeout
  case marchDone => exact .execMarchDone
  case arbRound => exact .execArbRound
  case copyDone => exact .execCopyDone
  case lockTxnReply => exact .execLockTxnReply
  case d3hot => exact .execD3hot
  case biResponse => exact .execBiResponse
  -- A write or a read of one register, an instruction of a core.
  case groupRun | groupStop | groupResume | srSleepSet | srSleepClear | tableLoad | tableReadback | strudelConfigWrite |
    codecSubmit | encoderRelease | coreRun | coreStop | mboxWrite | coreMemWindowWrite | doorbell | queueRun | queueStop |
    cxlQReset | mpTbegin | mpCommit | mpAbort | mpLock | mpUnlock | lockBreak | laneEnable | reenumerate | queueFlush |
    spareForce | spareRelease | inject | railPowerUp | railPowerDown | railForceOn | railForceOff | railForceRelease |
    bisRequest | journalScan | bonbonEnter | bonbonSend | bonbonExit | calGo | calValWrite | calSave | calLoad | foldEnable |
    foldDisable | evrHeadWrite | evrEnable | keyLoadBlob | lcRequest | debugUnlock | recordWindowWrite | recordJob |
    counterIncrement | nvsErase | nvsProgram | nvsReadSlot | nvsReadLog | imageActivate | bankPowerRequest | marchStart |
    marchAbort | arbApply | copyStart | trippedClear => exact .rowWrite
  case evtTimeLoRead | tmgFrameLoRead | tmgLatchLoRead | upqDataRead | calTsLoRead | secSlotCtrLoRead | nvsCntLoRead => exact .rowRead
  case nop | add | sub | and | or | xor | shl | shr | sra | min | max | mul16 | cmp | ldi | lui | lForm | beq | bne | blt | bge
    | j | call | ret | ld | st | ldx | stx | waitl | waitc | waite | waitt | fence | emit | gset | gclr | gpulse | tbegin |
    commit | abort | lock | unlock | event | halt => exact .issue
  -- The others by the conditions at the head of their meanings.
  case porstDeassert | replayTimeout | laneGroupRetrain | linkMgmtFlit | tsyncSend | tsyncHoldover | syncinEdge | teEdge |
    tileFetchTimeout | watchdogExpiry | pfVector | alignSend | ackReceive | txDriverFault | railOnDelay | railOffDelay |
    railTimeout | panelTempPoll | calPeriod | tempSensorUpdate | railMonitorUpdate | foldReplayDone | hostHotReset | perstAssert
    | linkLoss | linkUp | flr | cxlCacheAvailable | cxlCacheUnavailable | biTimeout | getLog | negotiateAlgorithms | challenge |
    keyExchange | heartbeat | msixTimer | msixUnmask | tamper | requesterUnmask | l1Entry | ideKm => exact .ite .next .next
  case stageTimeout | scrubRead | refreshInterval | stackIdle | blockLockLost | enumReturn | sramRead | reservedOpcode =>
    exact .ite .next (.ite .next (.ite .next .next))
  case pllRetry | retrainDone | fstReadDone | blockLockGained | upqPop | railgoodEdge | panelTempReadDone | bisBlockFetchDone |
    foldWritesDone | getMeasurements | requesterMask => exact .ite .next (.ite .next .next)
  case calApply => exact .ite .next (.ite .next (.ite .next (.ite .next .next)))
  case sectorEraseDone => exact .ite (.ite .next .next) (.ite .next .next)
  case porstAssert | clockSourceReturn | latch | mpTargetReset | invalidBlock | alignReturn | enumSend | txWake | rxWake |
    spareAutoSwitch | spareSwitchTimeout | failedRetry | injectRepeat | foldRetry | cxlReset | hdmCommit | cdatRead |
    identifyMemoryDevice | getSupportedLogs | getEventRecords | clearEventRecords | getEventInterruptPolicy |
    setEventInterruptPolicy | getPoisonList | mailboxUnsupported | getVersion | getCapabilities | recordAccept |
    bankRetentionIdle | bankInitDone | arbApplyRaster | h2dSnoop | perstDeassert | unclaimedPacket | upstreamBadCrc | l1Exit => exact .next

/-- So does every step; an empty queue passes a cycle (log entry 32). -/
theorem step_answers {s : State} (h : ∀ c ∈ s.pending.head?, ∀ req a data, c = .regWrite req a data → a % 4 = 0) :
    Answers (step s) := by
  cases hp : s.pending with
  | nil => exact ⟨_, step_nil hp⟩
  | cons c cs =>
    rw [step_cons hp]
    exact exec_answers c _ (h c (by rw [hp]; rfl))

end Sys2Proof.Machine

/-- Settles O49, by cases on the command: the branches of every meaning but the register write's end in a next state. -/
theorem onlyMisalignedWritesStop : Obligations.OnlyMisalignedWritesStop :=
  ⟨exec_answers, fun _ => step_answers⟩
end

section
/-!
The two words of a 64-bit write of an aligned pair (R3).
-/
open Sys2Proof Sys2Proof.Machine
namespace Sys2Proof.Machine

variable {s : State} {req : Req} {a : Nat}

/-- A register write at an aligned offset that is alone in front of the queue's rest (R3). -/
theorem step_regWrite {w : Word} {cs : List Instr} (h : s.pending = .regWrite req a w :: cs) (ha : a % 4 = 0) :
    step s = .next (({ s with pending := cs } : State).busWrite req a w.toNat) := by
  rw [step_cons h, exec_regWrite, execRegWrite_aligned ha]

theorem lowerWord_toNat (data : BitVec 64) : (data.extractLsb' 0 32).toNat = data.toNat % 2 ^ 32 := by
  rw [BitVec.extractLsb'_toNat, Nat.shiftRight_zero]

theorem upperWord_eq (data : BitVec 64) : data.extractLsb' 32 32 = BitVec.ofNat 32 (data.toNat / 2 ^ 32) := by
  apply BitVec.eq_of_toNat_eq
  rw [BitVec.extractLsb'_toNat, Nat.shiftRight_eq_div_pow, BitVec.toNat_ofNat]

theorem upperWord_toNat (data : BitVec 64) : (BitVec.ofNat 32 (data.toNat / 2 ^ 32)).toNat = data.toNat / 2 ^ 32 := by
  rw [BitVec.toNat_ofNat]
  exact Nat.mod_eq_of_lt (Nat.div_lt_of_lt_mul data.isLt)

end Sys2Proof.Machine

/-- Settles O57: two steps on the queue that the wide write leaves, the write of the lower word keeping the other in the queue. -/
theorem aWideWriteIsTwoWritesLowerAddressFirst : Obligations.AWideWriteIsTwoWritesLowerAddressFirst := by
  intro s req a data hs ha second
  have hq : (s.write64 req a data).pending = .regWrite req a (data.extractLsb' 0 32) :: [second] := by
    simp only [State.write64, hs, upperWord_eq, List.nil_append, second]
  have first : step (s.write64 req a data) = .next (({ s with pending := [second] } : State).busWrite req a (data.toNat % 2 ^ 32)) := by
    rw [← lowerWord_toNat]
    exact step_regWrite hq (by omega)
  have kept := (Kept.busWrite (a1 := req) (a2 := a) (a3 := data.toNat % 2 ^ 32)
    (.refl (s := { s with pending := [second] }))).pending
  refine ⟨_, first, rfl, kept, ?_⟩
  rw [← upperWord_toNat]
  exact step_regWrite kept (by omega)
end

section
/-!
Arbiter values, requester masks, copies and register writes (R651, R652, R655, R657, R3).
-/
open Sys2Proof Sys2Proof.Machine
namespace Sys2Proof.Machine

variable {s t : State} {fs : List Fld} {ps : List Part}

/-! ## Frames -/

theorem same_refl (p : Part) : s.same s p := by
  cases p <;> simp only [State.same, and_self]

namespace Only

theorem refl : Only fs ps s s := ⟨fun _ _ => rfl, fun _ _ => rfl, fun p _ _ => same_refl p⟩

theorem setF {x : Fld} {v : Nat} (hx : x ∈ fs) (h : Only fs ps s t) : Only fs ps s (t.setF x v) := by
  obtain ⟨hreg, hw1c, hpart⟩ := h
  refine ⟨fun k hk => ?_, hw1c, fun p hp hps => ?_⟩
  · have hkey : k ≠ fldKey x := fun e => hk (by rw [e]; exact List.mem_map_of_mem hx)
    rw [reg_setF, if_neg hkey]
    exact hreg k hk
  · have h := hpart p hp hps
    cases p
    case regs => exact absurd rfl hp
    all_goals exact h

theorem setArb {x : ArbSt} (ha : Part.arb ∈ ps) (h : Only fs ps s t) : Only fs ps s { t with arb := x } := by
  obtain ⟨hreg, hw1c, hpart⟩ := h
  refine ⟨hreg, hw1c, fun p hp hps => ?_⟩
  have h := hpart p hp hps
  cases p
  case arb => exact absurd ha hps
  all_goals exact h

/-- The block sets a bit of a W1C field: of the books of when bits were set only the field's own change. -/
theorem setW1c {x : Fld} {i : Nat} (hi : i < 32) (hx : x ∈ fs) (h : Only fs ps s t) : Only fs ps s (t.setW1c x i) := by
  obtain ⟨hreg, hw1c, hpart⟩ := setF (v := Machine.putBit (t.f x) i true) hx h
  refine ⟨hreg, fun k hk => ?_, fun p hp hps => ?_⟩
  · have hkey : k ≠ w1cKey x i := fun e => hk (by
      have hdiv : k / 32 = fldKey x := by rw [e, w1cKey]; omega
      rw [hdiv]
      exact List.mem_map_of_mem hx)
    exact (smGet_smSet _ _ _ k (t.time.master + 1)).trans ((if_neg hkey).trans (hw1c k hk))
  · have h := hpart p hp hps
    cases p
    case regs => exact absurd rfl hp
    all_goals exact h

end Only

/-! ## Arbiter values (R651) -/

/-- The staged values of requester `n` take effect on the host die and set out for the raster die: one round of `State.arbApply`. -/
def State.arbTake (s : State) (n : Nat) : State :=
  let u := (s.setF (fARB_REQ_EFF_PRIO n) (s.f (fARB_REQ_CFG_PRIO n))).setF (fARB_REQ_EFF_DEADLINE n) (s.f (fARB_REQ_CFG_DEADLINE n))
  { u with arb := { u.arb with
    sent := smSet (fun _ => 1024) u.arb.sent n (s.f (fARB_REQ_CFG_PRIO n) + 16 * s.f (fARB_REQ_CFG_DEADLINE n)) } }

theorem arbApply_eq : s.arbApply = ((List.range 16).foldl State.arbTake s).setF fARB_APPLY_PENDING 1 := rfl

theorem f_arbTake (n : Nat) (y : Fld) : (s.arbTake n).f y =
    if fldKey y = fldKey (fARB_REQ_EFF_DEADLINE n) then s.f (fARB_REQ_CFG_DEADLINE n) % 2 ^ 16
    else if fldKey y = fldKey (fARB_REQ_EFF_PRIO n) then s.f (fARB_REQ_CFG_PRIO n) % 2 ^ 4 else s.f y := by
  change ((s.setF (fARB_REQ_EFF_PRIO n) _).setF (fARB_REQ_EFF_DEADLINE n) _).f y = _
  rw [f_setF, f_setF]
  rfl

variable {n k : Nat}

@[simp] theorem arbTake_cfgPrio : (s.arbTake k).f (fARB_REQ_CFG_PRIO n) = s.f (fARB_REQ_CFG_PRIO n) := by
  rw [f_arbTake, if_neg, if_neg] <;> simp only [fldKey, fARB_REQ_CFG_PRIO, fARB_REQ_EFF_PRIO, fARB_REQ_EFF_DEADLINE] <;> omega

@[simp] theorem arbTake_cfgDeadline : (s.arbTake k).f (fARB_REQ_CFG_DEADLINE n) = s.f (fARB_REQ_CFG_DEADLINE n) := by
  rw [f_arbTake, if_neg, if_neg] <;> simp only [fldKey, fARB_REQ_CFG_DEADLINE, fARB_REQ_EFF_PRIO, fARB_REQ_EFF_DEADLINE] <;> omega

theorem arbTake_effPrio : (s.arbTake k).f (fARB_REQ_EFF_PRIO n) =
    if n = k then s.f (fARB_REQ_CFG_PRIO n) % 2 ^ 4 else s.f (fARB_REQ_EFF_PRIO n) := by
  have hd : fldKey (fARB_REQ_EFF_PRIO n) ≠ fldKey (fARB_REQ_EFF_DEADLINE k) := by
    simp only [fldKey, fARB_REQ_EFF_PRIO, fARB_REQ_EFF_DEADLINE]; omega
  have hp : fldKey (fARB_REQ_EFF_PRIO n) = fldKey (fARB_REQ_EFF_PRIO k) ↔ n = k := by
    simp only [fldKey, fARB_REQ_EFF_PRIO]; omega
  rw [f_arbTake, if_neg hd]
  by_cases e : n = k
  · rw [if_pos e, if_pos (hp.2 e), e]
  · rw [if_neg e, if_neg (mt hp.1 e)]

theorem arbTake_effDeadline : (s.arbTake k).f (fARB_REQ_EFF_DEADLINE n) =
    if n = k then s.f (fARB_REQ_CFG_DEADLINE n) % 2 ^ 16 else s.f (fARB_REQ_EFF_DEADLINE n) := by
  have hp : fldKey (fARB_REQ_EFF_DEADLINE n) ≠ fldKey (fARB_REQ_EFF_PRIO k) := by
    simp only [fldKey, fARB_REQ_EFF_PRIO, fARB_REQ_EFF_DEADLINE]; omega
  have hd : fldKey (fARB_REQ_EFF_DEADLINE n) = fldKey (fARB_REQ_EFF_DEADLINE k) ↔ n = k := by
    simp only [fldKey, fARB_REQ_EFF_DEADLINE]; omega
  rw [f_arbTake, if_neg hp]
  by_cases e : n = k
  · rw [if_pos e, if_pos (hd.2 e), e]
  · rw [if_neg e, if_neg (mt hd.1 e)]

theorem arbTake_sent : smGet (fun _ => 1024) (s.arbTake k).arb.sent n =
    if n = k then s.f (fARB_REQ_CFG_PRIO n) + 16 * s.f (fARB_REQ_CFG_DEADLINE n) else smGet (fun _ => 1024) s.arb.sent n := by
  refine (smGet_smSet ..).trans ?_
  by_cases e : n = k
  · rw [if_pos e, if_pos e, e]
  · rw [if_neg e, if_neg e]
    rfl

/-- From `s` to `t` the staged values of the requesters in `l` were taken and those of no other. -/
structure ArbTaken (l : List Nat) (s t : State) : Prop where
  prio : ∀ n, t.f (fARB_REQ_EFF_PRIO n) = if n ∈ l then s.f (fARB_REQ_CFG_PRIO n) % 2 ^ 4 else s.f (fARB_REQ_EFF_PRIO n)
  deadline : ∀ n, t.f (fARB_REQ_EFF_DEADLINE n) =
    if n ∈ l then s.f (fARB_REQ_CFG_DEADLINE n) % 2 ^ 16 else s.f (fARB_REQ_EFF_DEADLINE n)
  sent : ∀ n, smGet (fun _ => 1024) t.arb.sent n =
    if n ∈ l then s.f (fARB_REQ_CFG_PRIO n) + 16 * s.f (fARB_REQ_CFG_DEADLINE n) else smGet (fun _ => 1024) s.arb.sent n
  effR : t.arb.effR = s.arb.effR

/-- A value that the tail of a list decides, and its head where the tail does not, is decided by the list. -/
theorem ite_mem_cons {α : Type} {l : List Nat} {x y : α} :
    (if n ∈ l then x else if n = k then x else y) = if n ∈ k :: l then x else y := by
  by_cases h : n ∈ l
  · rw [if_pos h, if_pos (List.mem_cons_of_mem _ h)]
  · simp only [List.mem_cons, h, or_false, if_false]

theorem arbTaken_foldl (l : List Nat) : ∀ s : State, ArbTaken l s (l.foldl State.arbTake s) := by
  induction l with
  | nil => exact fun s => ⟨fun _ => rfl, fun _ => rfl, fun _ => rfl, rfl⟩
  | cons k l ih =>
    intro s
    obtain ⟨prio, deadline, sent, effR⟩ := ih (s.arbTake k)
    refine ⟨fun n => ?_, fun n => ?_, fun n => ?_, effR⟩
    · rw [List.foldl_cons, prio, arbTake_cfgPrio, arbTake_effPrio, ite_mem_cons]
    · rw [List.foldl_cons, deadline, arbTake_cfgDeadline, arbTake_effDeadline, ite_mem_cons]
    · rw [List.foldl_cons, sent, arbTake_cfgPrio, arbTake_cfgDeadline, arbTake_sent, ite_mem_cons]

theorem arbApply_values (h : n < 16) :
    s.arbApply.f (fARB_REQ_EFF_PRIO n) = s.f (fARB_REQ_CFG_PRIO n) % 2 ^ (fARB_REQ_EFF_PRIO n).w ∧
      s.arbApply.f (fARB_REQ_EFF_DEADLINE n) = s.f (fARB_REQ_CFG_DEADLINE n) % 2 ^ (fARB_REQ_EFF_DEADLINE n).w ∧
      smGet (fun _ => 1024) s.arbApply.arb.sent n = s.f (fARB_REQ_CFG_PRIO n) + 16 * s.f (fARB_REQ_CFG_DEADLINE n) ∧
      s.arbApply.f fARB_APPLY_PENDING = 1 ∧ s.arbApply.arb.effR = s.arb.effR := by
  obtain ⟨prio, deadline, sent, effR⟩ := arbTaken_foldl (List.range 16) s
  have hn := List.mem_range.2 h
  have hp : fldKey (fARB_REQ_EFF_PRIO n) ≠ fldKey fARB_APPLY_PENDING := by
    simp only [fldKey, fARB_REQ_EFF_PRIO, fARB_APPLY_PENDING]; omega
  have hd : fldKey (fARB_REQ_EFF_DEADLINE n) ≠ fldKey fARB_APPLY_PENDING := by
    simp only [fldKey, fARB_REQ_EFF_DEADLINE, fARB_APPLY_PENDING]; omega
  rw [arbApply_eq]
  refine ⟨?_, ?_, ?_, ?_, effR⟩
  · rw [f_setF, if_neg hp, prio, if_pos hn]
    rfl
  · rw [f_setF, if_neg hd, deadline, if_pos hn]
    rfl
  · rw [setF_arb, sent, if_pos hn]
  · rw [f_setF, if_pos rfl]
    rfl

theorem bit_of_getLsbD {w : Word} {i : Nat} (h : w.getLsbD i = true) : bit w.toNat i = 1 := by
  rw [bit_eq, BitVec.testBit_toNat, h]
  rfl

/-- A write of APPLY (R651). -/
theorem execArbApply_taken {req : Req} {w : Word} (ht : s.takesWrite req fARB_APPLY_APPLY.addr = true) (h : w.getLsbD 31 = true) :
    execArbApply req w s = .next s.arbApply.wakeBanks := by
  unfold execArbApply
  rw [rowWrite_of s (ok := wbit w 31) h, write_ARB_APPLY ht w.isLt, writeHost_ARB_APPLY, if_pos (bit_of_getLsbD h)]

theorem execArbApplyRaster_pending (h : s.on fARB_APPLY_PENDING = true) :
    execArbApplyRaster s = .next (({ s with arb := { s.arb with effR := s.arb.sent } } : State).setF fARB_APPLY_PENDING 0) := by
  unfold execArbApplyRaster
  rw [if_pos h]

/-! ## Masks (R652) -/

theorem execRequesterMask_none (h : n < 16) : execRequesterMask n 0 s =
    .next { s with arb := { s.arb with masked := smSet (fun _ => false) s.arb.masked n true } } := by
  unfold execRequesterMask
  rw [if_neg (by omega)]
  exact if_pos (.inl rfl)

theorem execRequesterMask_withdrawn (h : n < 16) (hk : 1 ≤ k) (hn : n ≠ 12) : execRequesterMask n k s =
    .next ((({ s with arb := { s.arb with masked := smSet (fun _ => false) s.arb.masked n true } } : State).count
      (fARB_REQ_REF_REFUSALS n) k).setF (fARB_REQ_REF_REASON n) 2) := by
  unfold execRequesterMask
  rw [if_neg (by omega)]
  exact if_neg (by omega)

/-- An unlisted key of what a filter leaves: the filter takes away every entry of the key. -/
theorem smGet_filter_none {α : Type} {d : Nat → α} {j : Nat} {q : Nat × α → Bool} (h : ∀ v, q (j, v) = false) (m : SMap α) :
    smGet d (m.filter q) j = d j := by
  induction m with
  | nil => rfl
  | cons p m ih =>
    obtain ⟨a, v⟩ := p
    by_cases e : a = j
    · rw [e, List.filter_cons_of_neg (by rw [h v]; decide), ih]
    · by_cases hq : q (a, v) = true
      · rw [List.filter_cons_of_pos hq, smGet, if_neg e, ih]
      · rw [List.filter_cons_of_neg hq, ih]

/-- What is left of the ages when a requester is unmasked: those of the other requesters. -/
def otherAge (n : Nat) (e : Nat × Nat) : Bool :=
  !(e.1 % 4096 == n && (isLinkArb (e.1 / 4096) || isPcArb (e.1 / 4096) || isBankArb (e.1 / 4096)))

theorem execRequesterUnmask_eq (h : n < 16) : execRequesterUnmask n s = .next { s with arb := { s.arb with
    masked := smSet (fun _ => false) s.arb.masked n false
    ages := s.arb.ages.filter (otherAge n) } } := by
  unfold execRequesterUnmask
  rw [if_neg (by omega)]
  rfl

theorem otherAge_pcArb (hn : n < 16) (hk : k < 64) (v : Nat) : otherAge n ((128 + k) * 4096 + n, v) = false := by
  have hmod : ((128 + k) * 4096 + n) % 4096 = n := by omega
  have hdiv : ((128 + k) * 4096 + n) / 4096 = 128 + k := by omega
  have hpc : isPcArb (128 + k) = true := by simp only [isPcArb, decide_eq_true_eq]; omega
  simp only [otherAge, hmod, hdiv, hpc, beq_self_eq_true, Bool.or_true, Bool.true_or, Bool.true_and, Bool.not_true]

/-! ## Copies (R655, R657) -/

variable {req : Req}

theorem execCopyStart_taken {w : Word} (ht : s.takesWrite req fMEM_COPY_CTRL_GO.addr = true) (h : w.getLsbD 31 = true) :
    execCopyStart req w s =
      .next ((s.putFields fMEM_COPY_CTRL_GO.addr w.toNat regMEM_COPY_CTRL.fields true (atBits [])).copyGo req).wakeBanks := by
  unfold execCopyStart
  rw [rowWrite_of s (ok := wbit w 31) h, write_MEM_COPY_CTRL ht w.isLt, writeHost_MEM_COPY_CTRL]
  dsimp only
  rw [if_pos (bit_of_getLsbD h)]

theorem copyGo_busy (h : s.on fMEM_COPY_STATUS_BUSY = true) : s.copyGo req = s := by
  unfold State.copyGo
  exact if_pos h

theorem copyGo_within_registers (hb : s.on fMEM_COPY_STATUS_BUSY = false) (hs : s.f fMEM_COPY_SRC_SPACE = 1)
    (hd : s.f fMEM_COPY_DST_SPACE = 1) : s.copyGo req =
      ((((s.setF fMEM_COPY_STATUS_STATUS 3).setF fMEM_COPY_STATUS_REASON 0).setF fMEM_COPY_STATUS_ROUNDS 0).setF
        fMEM_COPY_DONE_BYTES 0).raise 0x1C4 0xE00 0 [(8, 3), (8, 0), (16, 0), (32, 0)] := by
  unfold State.copyGo
  exact (if_neg (by rw [hb]; decide)).trans (if_pos (.inl ⟨hs, hd⟩))

theorem copyGo_within_frame_store (hb : s.on fMEM_COPY_STATUS_BUSY = false) (hs : s.f fMEM_COPY_SRC_SPACE = 0)
    (hd : s.f fMEM_COPY_DST_SPACE = 0) (n : Nat) (hn : n = s.f fMEM_COPY_CTRL_LEN256M1 + 1)
    (hsrc : 256 * s.f fMEM_COPY_SRC_LOC + 256 * n ≤ 0xC00000000) (hdst : 256 * s.f fMEM_COPY_DST_LOC + 256 * n ≤ 0xC00000000) :
    s.copyGo req = ({ s with mem := { s.mem with copy := some ⟨0, s.f fMEM_COPY_SRC_LOC, 0, s.f fMEM_COPY_DST_LOC, n, reqNum req,
      (s.reqOwner req).getD noOwner⟩ } } : State).setF fMEM_COPY_STATUS_BUSY 1 := by
  subst hn
  unfold State.copyGo
  simp only [hs, hd, hb]
  rw [if_neg (by decide), if_neg]
  simp only [↓reduceIte]
  rintro (⟨h, -⟩ | h | h)
  · exact absurd h (by decide)
  · exact absurd (of_decide_eq_true h) (by unfold fsEnd; omega)
  · exact absurd (of_decide_eq_true h) (by unfold fsEnd; omega)

theorem readGate_nil (b : Bool) : s.readGate b [] = (true, s) := rfl

theorem touchRange_touch (a n : Nat) : Touch 28674 s (s.touchRange a n) := .touchRange (m := 28674) .refl .refl

/-- Which lines a read would wait for is not changed by waking the stacks. -/
theorem readBlocked_touchRange (a n : Nat) : (s.touchRange a n).readBlocked a n = s.readBlocked a n := by
  have host : (s.touchRange a n).host = s.host := touch_same (touchRange_touch a n) .host (by decide)
  unfold State.readBlocked State.sfHits
  rw [host]

theorem readGate_clear {a : Nat} (b : Bool) (ha : s.asleep a n = false) (hb : s.readBlocked a n = []) :
    s.readGate b [(a, n)] = (true, s.touchRange a n) := by
  unfold State.readGate
  simp only [List.all_cons, List.all_nil, ha, hb, List.foldl_cons, List.foldl_nil, List.flatMap_cons, List.flatMap_nil,
    readBlocked_touchRange]
  rfl

/-- The end of a copy that lost `rounds` rounds and moved `n` bytes, refused for `reason` unless that is 0: the tail of
`execCopyDone`. -/
def State.copyReport (s : State) (rounds reason n : Nat) : State :=
  let st := if reason ≠ 0 then 2 else if 0 < rounds then 1 else 0
  let rounds := min rounds 65535
  let s := if st = 2 then s.refused 12 reason else if st = 1 then s.deferred 12 else s
  let s := ((s.setF fMEM_COPY_STATUS_BUSY 0).setF fMEM_COPY_STATUS_STATUS st).setF fMEM_COPY_STATUS_REASON reason
  let s := (s.setF fMEM_COPY_STATUS_ROUNDS rounds).setF fMEM_COPY_DONE_BYTES n
  s.raise 0x1C4 0xE00 0 [(8, st), (8, reason), (16, rounds), (32, n)]

variable {rounds reason bytes : Nat}

theorem copyReport_fs : (s.copyReport rounds reason n).fs = s.fs := by
  have h : ∀ (p q : Prop) [Decidable p] [Decidable q],
      (if p then s.refused 12 reason else if q then s.deferred 12 else s).fs = s.fs := by
    intro p q _ _
    split
    · rfl
    · split <;> rfl
  exact h _ _

theorem copyReport_fields (hr : reason ≤ 3) :
    (s.copyReport rounds reason n).f fMEM_COPY_STATUS_BUSY = 0 ∧
      (s.copyReport rounds reason n).f fMEM_COPY_STATUS_STATUS = (if reason ≠ 0 then 2 else if 0 < rounds then 1 else 0) ∧
      (s.copyReport rounds reason n).f fMEM_COPY_STATUS_REASON = reason ∧
      (s.copyReport rounds reason n).f fMEM_COPY_STATUS_ROUNDS = min rounds 65535 ∧
      (s.copyReport rounds reason n).f fMEM_COPY_DONE_BYTES = n % 2 ^ fMEM_COPY_DONE_BYTES.w := by
  have hst : (if reason ≠ 0 then 2 else if 0 < rounds then 1 else 0) < 2 ^ 2 := by
    split
    · decide
    · split <;> decide
  unfold State.copyReport
  simp only [f_raise, f_setF]
  refine ⟨rfl, Nat.mod_eq_of_lt hst, ?_, ?_, rfl⟩
  · exact Nat.mod_eq_of_lt (show reason < 8 by omega)
  · exact Nat.mod_eq_of_lt (show min rounds 65535 < 65536 by omega)

/-- The 32-byte pieces that a copy of `c` moved when it ended (R655; log entry 56). -/
def Copy.pieces (c : Copy) (reason bytes : Nat) : Nat := if reason = 0 then 8 * c.units else min (bytes / 32) (8 * c.units)

/-- The state in which the pieces of the copy are moved: the source's stacks have seen the read, and no copy is under way. -/
def State.copyFrom (s : State) (c : Copy) (pieces : Nat) : State :=
  { (if c.sSpace = 0 then s.touchRange (256 * c.sLoc) (32 * pieces) else s) with mem := { s.mem with copy := none } }

theorem execCopyDone_gate {c : Copy} (hc : s.mem.copy = some c) (hr : reason ≤ 3) : execCopyDone rounds reason bytes s =
    let r := s.readGate false (if c.sSpace = 0 then [(256 * c.sLoc, 32 * c.pieces reason bytes)] else [])
    if ¬ r.1 then .next r.2
    else .next (((List.range (c.pieces reason bytes)).foldl (fun (s : State) k => s.copyPiece c k)
      { r.2 with mem := { r.2.mem with copy := none } }).copyReport rounds reason (32 * c.pieces reason bytes)) := by
  unfold execCopyDone
  rw [hc]
  exact if_neg (by omega)

/-- Where the source may be read now, the pieces are moved and the copy is reported. -/
theorem execCopyDone_eq {c : Copy} (hc : s.mem.copy = some c) (hr : reason ≤ 3)
    (hg : c.sSpace = 0 → s.asleep (256 * c.sLoc) (32 * c.pieces reason bytes) = false ∧
      s.readBlocked (256 * c.sLoc) (32 * c.pieces reason bytes) = []) :
    execCopyDone rounds reason bytes s = .next (((List.range (c.pieces reason bytes)).foldl (fun s k => s.copyPiece c k)
      (s.copyFrom c (c.pieces reason bytes))).copyReport rounds reason (32 * c.pieces reason bytes)) := by
  rw [execCopyDone_gate hc hr]
  unfold State.copyFrom
  by_cases h : c.sSpace = 0
  · have mem : (s.touchRange (256 * c.sLoc) (32 * c.pieces reason bytes)).mem = s.mem :=
      touch_same (touchRange_touch _ _) .mem (by decide)
    obtain ⟨awake, clear⟩ := hg h
    simp only [if_pos h, readGate_clear false awake clear, mem, not_true_eq_false, if_false]
  · simp only [if_neg h, readGate_nil, not_true_eq_false, if_false]

/-! ## Register writes (R3, R526, R733) -/

variable {a v : Nat}

theorem busWrite_unreached (ha : a < 0x10000000) (h : s.barOk req = false ∨ s.reach a = false) : s.busWrite req a v = s := by
  unfold State.busWrite
  dsimp only
  by_cases hb : s.barOk req = true
  · have hr : s.reach a = false := h.resolve_left (by rw [hb]; decide)
    rw [if_neg (not_not_intro hb), if_neg (by omega), if_pos (by rw [hr]; decide)]
  · rw [if_pos hb]

theorem busWrite_denied (ha : a < 0x10000000) (hb : s.barOk .pf1 = true) (hr : s.reach a = true)
    (hw : s.on fGEN_CTRL_PF1_WEN = false) : s.busWrite .pf1 a v = s.setW1c fGEN_STATUS_DENIED 0 := by
  unfold State.busWrite
  dsimp only
  rw [if_neg (not_not_intro hb), if_neg (by omega), if_neg (not_not_intro hr), if_pos ⟨rfl, .inl (by rw [hw]; decide)⟩]

theorem setW1c_denied : (s.setW1c fGEN_STATUS_DENIED 0).f fGEN_STATUS_DENIED = 1 := by
  have h : (s.putBit fGEN_STATUS_DENIED 0 true).f fGEN_STATUS_DENIED = 1 := by
    rw [f_putBit, if_pos rfl]
    simp only [putBit, bit, fGEN_STATUS_DENIED, if_true]
    omega
  exact h

end Sys2Proof.Machine

/-- Settles O41, clause by clause from the laws of the arbiters' values, the masks, the copies and the register writes. -/
theorem arbitersCopiesAndRegisterWrites : Obligations.ArbitersCopiesAndRegisterWrites := by
  intro s
  refine ⟨fun req w ht h => execArbApply_taken ht h, fun n hn => arbApply_values hn, fun h => ?raster,
    fun n hn => ⟨?mask, fun k hk h12 => ?withdrawn, ?unmask⟩, fun req w ht h => execCopyStart_taken ht h,
    fun u req => ⟨copyGo_busy, fun hb hs hd => ?invalid, fun hb hs hd hsrc hdst => ?starts⟩,
    fun c rounds reason bytes hc hr hg => ?done, fun req a w h => execRegWrite_aligned h,
    fun req a w h => execRegWrite_misaligned h, fun req a v ha => ⟨busWrite_unreached ha, fun hb hr hw => ?denied⟩⟩
  case raster =>
    exact ⟨_, execArbApplyRaster_pending h, rfl, by rw [f_setF, if_pos rfl]; rfl,
      .setF (by decide) (.setArb (by decide) .refl)⟩
  case mask =>
    exact ⟨_, execRequesterMask_none hn, by rw [smGet_smSet, if_pos rfl], .setArb (by decide) .refl⟩
  case withdrawn =>
    refine ⟨_, execRequesterMask_withdrawn hn hk h12, ?_, ?_, ?_, ?_⟩
    · exact (smGet_smSet _ s.arb.masked n n true).trans (if_pos rfl)
    · rw [f_setF, if_neg (by simp only [fldKey, fARB_REQ_REF_REFUSALS, fARB_REQ_REF_REASON]; omega), f_count, if_pos rfl, satAdd_mod]
      rfl
    · rw [f_setF, if_pos rfl]
      rfl
    · exact .setF (by simp) (.setF (by simp) (.setArb (by decide) .refl))
  case unmask =>
    exact ⟨_, execRequesterUnmask_eq hn, fun k => smGet_smSet _ s.arb.masked n k false,
      fun k hk => smGet_filter_none (otherAge_pcArb hn hk) _,
      .setArb (by decide) .refl⟩
  case invalid =>
    rw [copyGo_within_registers hb hs hd]
    refine ⟨?_, ?_, rfl, rfl, rfl⟩
    · simp only [f_raise, f_setF]
      rfl
    · simp only [f_raise, f_setF]
      rfl
  case starts =>
    rw [copyGo_within_frame_store hb hs hd _ rfl hsrc hdst]
    exact ⟨by rw [f_setF, if_pos rfl]; rfl, rfl⟩
  case done =>
    obtain ⟨hbusy, hstatus, hreason, hrounds, hbytes⟩ := copyReport_fields hr
    exact ⟨_, _, execCopyDone_eq hc hr hg, hbusy, hstatus, hreason, hrounds, copyReport_fs, hbytes, rfl⟩
  case denied =>
    rw [busWrite_denied ha hb hr hw]
    exact ⟨setW1c_denied, .setW1c (by decide) (by decide) .refl⟩
end

section
/-!
What one update may change: frames built from single updates; a counter after it counted, an event after it was raised.
-/
open Sys2Proof Sys2Proof.Machine
namespace Sys2Proof.Machine

variable {s t u : State} {fs : List Fld} {ps : List Part}

theorem same_trans {p : Part} (h : s.same t p) (k : t.same u p) : s.same u p := by
  cases p <;> simp_all only [State.same, and_self]

namespace Only

/-- An update that touches only the parts of `l`, no register among them. -/
theorem touch (l : List Part) (hr : Part.regs ∉ l) (hl : ∀ p ∈ l, p ∈ ps) (k : Touch (maskOf l) t u) (h : Only fs ps s t) :
    Only fs ps s u := by
  have kept : ∀ p, p ∉ l → t.same u p := fun p hp => k.same p (fun e => hp (mem_of_has e))
  obtain ⟨hreg, hw1c, hpart⟩ := h
  obtain ⟨regs, w1cAt⟩ := kept .regs hr
  exact ⟨fun k hk => by rw [regs, hreg k hk], fun k hk => by rw [w1cAt, hw1c k hk],
    fun p hp hps => same_trans (hpart p hp hps) (kept p (fun e => hps (hl p e)))⟩

theorem out {o : Out} (hp : Part.outs ∈ ps) (h : Only fs ps s t) : Only fs ps s (t.out o) :=
  h.touch [.outs] (by decide) (List.forall_mem_singleton.2 hp) (.out (m := 16) .refl .refl)

theorem setLane {d l : Nat} {x : LaneGrp} (hp : Part.link ∈ ps) (h : Only fs ps s t) : Only fs ps s (t.setLane d l x) :=
  h.touch [.link] (by decide) (List.forall_mem_singleton.2 hp) (.setLane (m := 256) .refl .refl)

theorem setMoved {d : Nat} {l : List HeldFlit} (hp : Part.link ∈ ps) (h : Only fs ps s t) : Only fs ps s (t.setMoved d l) :=
  h.touch [.link] (by decide) (List.forall_mem_singleton.2 hp) (.setMoved (m := 256) .refl .refl)

theorem setOwn {d : Nat} {l : List OwnFlit} (hp : Part.link ∈ ps) (h : Only fs ps s t) : Only fs ps s (t.setOwn d l) :=
  h.touch [.link] (by decide) (List.forall_mem_singleton.2 hp) (.setOwn (m := 256) .refl .refl)

theorem setTime {x : TimeSt} (hp : Part.time ∈ ps) (h : Only fs ps s t) : Only fs ps s { t with time := x } :=
  h.touch [.time] (by decide) (List.forall_mem_singleton.2 hp) (.upd_5 (m := 32) .refl .refl)

theorem setEv {x : EvSt} (hp : Part.ev ∈ ps) (h : Only fs ps s t) : Only fs ps s { t with ev := x } :=
  h.touch [.ev] (by decide) (List.forall_mem_singleton.2 hp) (.upd_6 (m := 64) .refl .refl)

theorem raise {c o l : Nat} {as : List (Nat × Nat)} (hp : Part.ev ∈ ps) (h : Only fs ps s t) : Only fs ps s (t.raise c o l as) :=
  h.touch [.ev] (by decide) (List.forall_mem_singleton.2 hp) (.raise (m := 64) .refl .refl)

theorem ite {c : Prop} {_ : Decidable c} (h : Only fs ps s t) (k : Only fs ps s u) :
    Only fs ps s (if c then t else u) := by
  split
  · exact h
  · exact k

end Only

/-- A saturating counter after `n` more. -/
theorem count_self (x : Fld) (n : Nat) : (s.count x n).f x = satAdd (s.f x) n (2 ^ x.w - 1) := by
  rw [f_count, if_pos rfl, satAdd_mod]

/-- An event raised on a state that has the events and the time of `s` is raised from `s`. -/
theorem raised_raise (ev : u.ev = s.ev) (time : u.time = s.time) (c o l : Nat) (as : List (Nat × Nat)) :
    Raised s (u.raise c o l as) c o l as := by
  have clock : u.clock o = s.clock o := by
    unfold State.clock
    rw [time]
  unfold Raised
  rw [raise_ev, clock, ev]
  exact ⟨rfl, rfl, rfl⟩

end Sys2Proof.Machine
end

section
/-!
The receiver of a lane group (R14, R16): flits accepted, discarded and acknowledged.
-/
open Sys2Proof Sys2Proof.Machine
namespace Sys2Proof.Machine

variable {s : State} {dir lg now : Nat} {flit : Flit} {x : LaneGrp} {h : FlitHdr}

/-! ## Lane groups -/

theorem lane_of_link {t : State} (h : t.link = s.link) (d l : Nat) : t.lane d l = s.lane d l := by
  unfold State.lane
  rw [h]

/-- The two directions of a lane group are two lanes. -/
theorem lgKey_opposite (h : dir < 2) : lgKey (1 - dir) lg ≠ lgKey dir lg := by
  unfold lgKey
  omega

theorem lgKey_other {d l : Nat} (hl : l < 10) (hlg : lg < 10) (h : l ≠ lg) : lgKey d l ≠ lgKey dir lg := by
  unfold lgKey
  omega

theorem dir_of_lgUp (h : s.lgUp dir lg = true) : dir < 2 ∧ lg < 10 := by
  unfold State.lgUp at h
  exact of_decide_eq_true (Bool.and_eq_true_iff.1 h).1

/-! ## Acknowledgement and replay (R14, R16, R17) -/

theorem ackUpTo_cred (seq : Nat) : (ackUpTo x seq now).cred = x.cred := by
  unfold ackUpTo
  split <;> rfl

theorem beginReplay_cred : (beginReplay x now).cred = x.cred := by
  unfold beginReplay
  split <;> rfl

theorem beginReplay_replay : (beginReplay x now).replay = x.replay := by
  unfold beginReplay
  split <;> rfl

theorem beginReplay_resend : (beginReplay x now).resend = x.replay.length := by
  unfold beginReplay
  split
  next h => rw [h]; rfl
  next => rfl

/-- What is held after an acknowledgement of the held flit `f`: the flits after it. -/
theorem ackUpTo_replay {seq : Nat} {a b : List HeldFlit} {f : HeldFlit} (hx : x.replay = a ++ f :: b)
    (ha : ∀ y ∈ a, y.seq ≠ seq) (hf : f.seq = seq) : (ackUpTo x seq now).replay = b := by
  have found : x.replay.findIdx? (fun y => y.seq == seq) = some a.length := by
    rw [hx, List.findIdx?_append, List.findIdx?_eq_none_iff.2 (fun y hy => beq_false_of_ne (ha y hy)), List.findIdx?_cons,
      if_pos (beq_iff_eq.2 hf)]
    simp
  have rest : x.replay.drop (a.length + 1) = b := by
    rw [hx, List.drop_add_one_eq_tail_drop, List.drop_left, List.tail_cons]
  unfold ackUpTo
  rw [found]
  exact rest

/-! ## A received flit -/

/-- The credits that an accepted flit's header returns to the transmitter (R14). -/
def LaneGrp.credited (x : LaneGrp) (h : FlitHdr) : LaneGrp :=
  { x with cred := smSet (fun _ => 0) x.cred h.crtc (smGet (fun _ => 0) x.cred h.crtc + h.cred) }

/-- The transmitter that an accepted flit's header reports to: its credits are returned, and ACKK acknowledges or asks for a
replay (R14, R16). -/
def LaneGrp.told (x : LaneGrp) (h : FlitHdr) (now : Nat) : LaneGrp :=
  if h.ackk = 1 then ackUpTo (x.credited h) h.ackSeq now
  else if h.ackk = 2 then beginReplay (ackUpTo (x.credited h) h.ackSeq now) now
  else x.credited h

theorem told_ack (h1 : h.ackk = 1) : x.told h now = ackUpTo (x.credited h) h.ackSeq now := if_pos h1

theorem told_nak (h2 : h.ackk = 2) : x.told h now = beginReplay (ackUpTo (x.credited h) h.ackSeq now) now :=
  (if_neg (by omega)).trans (if_pos h2)

theorem told_none (h1 : h.ackk ≠ 1) (h2 : h.ackk ≠ 2) : x.told h now = x.credited h := (if_neg h1).trans (if_neg h2)

theorem told_cred : (x.told h now).cred = (x.credited h).cred := by
  by_cases h1 : h.ackk = 1
  · rw [told_ack h1, ackUpTo_cred]
  · by_cases h2 : h.ackk = 2
    · rw [told_nak h2, beginReplay_cred, ackUpTo_cred]
    · rw [told_none h1 h2]

/-- The two directions of a lane group after an accepted flit with header `h`. -/
def State.accepted (s : State) (dir lg : Nat) (h : FlitHdr) : State :=
  (s.setLane dir lg { s.lane dir lg with drop := false, exp := ((s.lane dir lg).exp + 1) % 4096, ack := 1 }).setLane (1 - dir) lg
    ((s.lane (1 - dir) lg).told h (s.clock (dirOrigin (1 - dir))))

/-- The state after an accepted flit: a NAK is also a contained fault (R706). -/
def State.afterFlit (s : State) (dir lg : Nat) (h : FlitHdr) : State :=
  if h.ackk = 2 then (s.accepted dir lg h).fault 0x01 (dirOrigin (1 - dir)) (lgUnit (1 - dir) lg)
    ((s.lane (1 - dir) lg).told h (s.clock (dirOrigin (1 - dir)))).resend
  else s.accepted dir lg h

theorem afterFlit_lane (d l : Nat) : (s.afterFlit dir lg h).lane d l = (s.accepted dir lg h).lane d l := by
  unfold State.afterFlit
  split
  · exact lane_of_link (fault_link ..) d l
  · rfl

theorem accepted_lane_receiver (hdir : dir < 2) : (s.accepted dir lg h).lane dir lg =
    { s.lane dir lg with drop := false, exp := ((s.lane dir lg).exp + 1) % 4096, ack := 1 } := by
  unfold State.accepted
  rw [lane_setLane, if_neg (lgKey_opposite hdir).symm, lane_setLane, if_pos rfl]

theorem accepted_lane_transmitter : (s.accepted dir lg h).lane (1 - dir) lg =
    (s.lane (1 - dir) lg).told h (s.clock (dirOrigin (1 - dir))) := by
  unfold State.accepted
  rw [lane_setLane, if_pos rfl]

theorem accepted_lane_other {d l : Nat} (hl : l < 10) (hlg : lg < 10) (hne : l ≠ lg) :
    (s.accepted dir lg h).lane d l = s.lane d l := by
  unfold State.accepted
  rw [lane_setLane, if_neg (lgKey_other hl hlg hne), lane_setLane, if_neg (lgKey_other hl hlg hne)]

theorem accepted_only : Only [] [.link] s (s.accepted dir lg h) :=
  .setLane (by decide) (.setLane (by decide) .refl)

theorem flitHdr_seq_lt (flit : Flit) : (flitHdr flit).seq < 4096 := by
  exact Nat.mod_lt _ (by decide)

theorem execFlitReceive_discard (hup : s.lgUp dir lg = true) (h : flitOk flit = false ∨ (flitHdr flit).seq ≠ (s.lane dir lg).exp) :
    execFlitReceive dir lg flit s =
      .next (if (s.lane dir lg).drop then s else s.setLane dir lg { s.lane dir lg with drop := true, ack := 2 }) := by
  unfold execFlitReceive
  rw [if_neg (not_not_intro hup)]
  exact if_pos (h.imp (fun e => by rw [e]; decide) id)

theorem execFlitReceive_accept (hdir : dir < 2) (hup : s.lgUp dir lg = true) (hok : flitOk flit = true)
    (hseq : (flitHdr flit).seq = (s.lane dir lg).exp) :
    execFlitReceive dir lg flit s = .next (s.afterFlit dir lg (flitHdr flit)) := by
  unfold execFlitReceive
  rw [if_neg (not_not_intro hup)]
  refine (if_neg (not_or.2 ⟨not_not_intro hok, not_not_intro hseq⟩)).trans ?_
  simp only [lane_setLane, if_neg (lgKey_opposite (lg := lg) hdir)]
  unfold State.afterFlit State.accepted
  split
  next h => rw [told_ack h, if_neg (by omega)]; rfl
  next h => rw [told_nak h, if_pos h]; rfl
  next h1 h2 => rw [told_none h1 h2, if_neg h2]; rfl

end Sys2Proof.Machine

/-- Settles O1: an accepted flit is the receiver's step and what the header tells the transmitter of the opposite direction; a
flit that is not taken starts a discard or falls into one. -/
theorem linkReceiverKeepsSequence : Obligations.LinkReceiverKeepsSequence := by
  intro s dir lg flit hup hdir
  obtain ⟨-, hlg⟩ := dir_of_lgUp hup
  refine ⟨fun hok hseq => ?accept, fun hbad hdrop => ?discard, fun hbad hdrop => ?discarding⟩
  case accept =>
    have run : exec (.flitReceive dir lg flit) s = .next (s.afterFlit dir lg (flitHdr flit)) :=
      execFlitReceive_accept hdir hup hok hseq
    have rx := (afterFlit_lane (h := flitHdr flit) dir lg).trans (accepted_lane_receiver (s := s) (lg := lg) hdir)
    have tx := (afterFlit_lane (h := flitHdr flit) (1 - dir) lg).trans (accepted_lane_transmitter (s := s) (dir := dir) (lg := lg))
    have plain : (flitHdr flit).ackk ≠ 2 → Only [] [.link] s (s.afterFlit dir lg (flitHdr flit)) := fun h2 => by
      unfold State.afterFlit
      rw [if_neg h2]
      exact accepted_only
    have seqLt := flitHdr_seq_lt flit
    refine ⟨_, run, by rw [rx], by rw [rx], ?_, by rw [rx], by rw [rx], ?_, fun h1 h2 => ⟨?_, plain h2⟩,
      fun h1 a b f hf ha hs => ⟨?_, plain (by omega)⟩, fun h2 a b f hf ha hs => ⟨?_, ?_⟩, fun d l hl _ hne => ?_,
      fun p hp => exec_same run hp⟩
    · rw [rx, LaneGrp.lastSeq]
      dsimp only
      omega
    · rw [tx, told_cred, LaneGrp.credited, smGet_smSet, if_pos rfl]
    · rw [tx, told_none h1 h2]
      rfl
    · rw [tx, told_ack h1]
      exact ackUpTo_replay hf ha hs
    · rw [tx, told_nak h2, beginReplay_replay]
      exact ackUpTo_replay hf ha hs
    · rw [tx, told_nak h2, beginReplay_resend]
      exact congrArg List.length (ackUpTo_replay hf ha hs)
    · rw [afterFlit_lane, accepted_lane_other hl hlg hne]
  case discard =>
    have run := execFlitReceive_discard hup hbad
    rw [hdrop, if_neg (by decide)] at run
    have rx := (lane_setLane s dir lg dir lg { s.lane dir lg with drop := true, ack := 2 }).trans (if_pos rfl)
    exact ⟨_, run, by rw [rx], by rw [rx], by rw [rx], fun d l h => by rw [lane_setLane, if_neg h], .setLane (by decide) .refl⟩
  case discarding =>
    have run := execFlitReceive_discard hup hbad
    rwa [if_pos hdrop] at run
end

section
/-!
The transmitter of a lane group (R16, R18, R21, R33): what it puts into a flit slot.
-/
open Sys2Proof Sys2Proof.Machine
namespace Sys2Proof.Machine

variable {s u : State} {dir lg cred crtc : Nat} {f h : HeldFlit} {e : Nat × HeldFlit} {l : List (Nat × HeldFlit)}

/-! ## A flit leaves -/

/-- The header of flit `f` in a slot: the acknowledgement of the lane group's other direction goes with it (R14). -/
def State.slotHdr (s : State) (dir lg cred crtc : Nat) (f : HeldFlit) : FlitHdr :=
  ⟨f.tc, f.kind, f.seq, (s.lane (1 - dir) lg).lastSeq, (s.lane (1 - dir) lg).ack, crtc % 4, cred % 256, f.plen, lg⟩

/-- Flit `f` leaves with the acknowledgement that the receiver of the other direction owes. -/
def State.emits (s : State) (dir lg : Nat) (h : FlitHdr) (f : HeldFlit) : State :=
  (s.setLane (1 - dir) lg { s.lane (1 - dir) lg with ack := 0 }).out (.flit dir lg (mkFlit h f.data))

/-- The transmitter after a new flit `f` of class `tc` at tick `now` (R16, R21). -/
def LaneGrp.sent (x : LaneGrp) (tc : Nat) (f : HeldFlit) (now : Nat) : LaneGrp :=
  { x with
    seq := (x.seq + 1) % 4096
    replay := x.replay ++ [f]
    heldSince := if x.replay.isEmpty then now else x.heldSince
    hist := (tc :: x.hist).take 64
    grant := none }

/-- The state after the new flit `n.2.1` of class `n.1` left, chosen and taken from its place in `n.2.2`. -/
def State.slotSent (s : State) (dir lg cred crtc : Nat) (n : Nat × HeldFlit × State) : State :=
  let f := { n.2.1 with seq := (s.lane dir lg).seq }
  (n.2.2.setLane dir lg ((s.lane dir lg).sent n.1 f (n.2.2.clock (dirOrigin dir)))).emits dir lg (s.slotHdr dir lg cred crtc f) f

/-- The state after the flit `f` was resent (R16, R26). -/
def State.slotResent (s : State) (dir lg cred crtc : Nat) (f : HeldFlit) : State :=
  ((s.setLane dir lg { s.lane dir lg with resend := (s.lane dir lg).resend - 1 }).count (fLgReplays dir lg) 1).emits dir lg
    (s.slotHdr dir lg cred crtc f) f

/-- The flits that a FLIT_SLOT offers, by class: of TC2 with their requesters, TC3 being the debug port's (R656). -/
def slotOffers (o0 o1 : Option Payload) (o2 : List (Nat × Payload)) (o3 : Option Payload) : Nat → List (Nat × Payload)
  | 0 => o0.toList.map fun p => (0, p)
  | 1 => o1.toList.map fun p => (0, p)
  | 2 => o2.filter fun o => decide (o.1 < 16)
  | _ => o3.toList.map fun p => (15, p)

variable {o0 o1 o3 : Option Payload} {o2 : List (Nat × Payload)} {p : Payload}

theorem execFlitSlot_resend (hup : s.lgUp dir lg = true) (hr : 0 < (s.lane dir lg).resend)
    (hf : (s.lane dir lg).replay[(s.lane dir lg).replay.length - (s.lane dir lg).resend]? = some f) :
    execFlitSlot dir lg o0 o1 o2 o3 cred crtc s =
      .next (s.slotResent dir lg cred crtc f) := by
  unfold execFlitSlot
  rw [if_neg (not_not_intro hup)]
  refine (if_pos hr).trans ?_
  rw [hf]
  rfl

theorem execFlitSlot_full (hup : s.lgUp dir lg = true) (hr : (s.lane dir lg).resend = 0)
    (hl : 128 ≤ (s.lane dir lg).replay.length) : execFlitSlot dir lg o0 o1 o2 o3 cred crtc s = .next s := by
  unfold execFlitSlot
  rw [if_neg (not_not_intro hup)]
  exact (if_neg (by omega)).trans (if_pos hl)

theorem execFlitSlot_new (hup : s.lgUp dir lg = true) (hr : (s.lane dir lg).resend = 0)
    (hl : (s.lane dir lg).replay.length < 128) : execFlitSlot dir lg o0 o1 o2 o3 cred crtc s =
      .next (s.slotSent dir lg cred crtc (s.newFlit dir lg (slotOffers o0 o1 o2 o3))) := by
  unfold execFlitSlot
  rw [if_neg (not_not_intro hup)]
  exact (if_neg (by omega)).trans (if_neg (by omega))

/-! ## What a new flit changes -/

theorem emits_lane (hdir : dir < 2) (hd : FlitHdr) : (s.emits dir lg hd f).lane dir lg = s.lane dir lg := by
  unfold State.emits
  rw [lane_of_link (out_link ..), lane_setLane, if_neg (lgKey_opposite hdir).symm]

theorem emits_ack (hd : FlitHdr) : ((s.emits dir lg hd f).lane (1 - dir) lg).ack = 0 := by
  unfold State.emits
  rw [lane_of_link (out_link ..), lane_setLane, if_pos rfl]

@[simp] theorem f_emits (hd : FlitHdr) (y : Fld) : (s.emits dir lg hd f).f y = s.f y := rfl

theorem emits_only {fs : List Fld} {ps : List Part} (ho : Part.outs ∈ ps) (hl : Part.link ∈ ps) (hd : FlitHdr)
    (h : Only fs ps s u) : Only fs ps s (u.emits dir lg hd f) := .out ho (.setLane hl h)

theorem slotResent_lane (hdir : dir < 2) : (s.slotResent dir lg cred crtc f).lane dir lg =
    { s.lane dir lg with resend := (s.lane dir lg).resend - 1 } := by
  unfold State.slotResent
  rw [emits_lane hdir, lane_of_link (count_link ..), lane_setLane, if_pos rfl]

/-- What FLIT_SLOT shows and keeps of a new flit `f` of class `tc`. -/
def State.Sends (s t : State) (dir lg cred crtc tc : Nat) (f : HeldFlit) : Prop :=
  t.outs = .flit dir lg (mkFlit (s.slotHdr dir lg cred crtc f) f.data) :: s.outs ∧
    (t.lane dir lg).seq = ((s.lane dir lg).seq + 1) % 4096 ∧ (t.lane dir lg).replay = (s.lane dir lg).replay ++ [f] ∧
    (t.lane dir lg).hist = (tc :: (s.lane dir lg).hist).take 64 ∧ (t.lane dir lg).grant = none ∧ (t.lane (1 - dir) lg).ack = 0

theorem slotSent_sends (hdir : dir < 2) (ho : u.outs = s.outs) (tc : Nat) :
    s.Sends (s.slotSent dir lg cred crtc (tc, f, u)) dir lg cred crtc tc { f with seq := (s.lane dir lg).seq } := by
  have x : (s.slotSent dir lg cred crtc (tc, f, u)).lane dir lg =
      (s.lane dir lg).sent tc { f with seq := (s.lane dir lg).seq } (u.clock (dirOrigin dir)) := by
    refine (emits_lane hdir _).trans ?_
    rw [lane_setLane, if_pos rfl]
  exact ⟨congrArg _ ho, by rw [x]; rfl, by rw [x]; rfl, by rw [x]; rfl, by rw [x]; rfl, emits_ack _⟩

@[simp] theorem f_slotSent (n : Nat × HeldFlit × State) (y : Fld) : (s.slotSent dir lg cred crtc n).f y = n.2.2.f y := rfl

theorem slotSent_only {fs : List Fld} {ps : List Part} (ho : Part.outs ∈ ps) (hl : Part.link ∈ ps) (tc : Nat)
    (h : Only fs ps s u) : Only fs ps s (s.slotSent dir lg cred crtc (tc, f, u)) := emits_only ho hl _ (.setLane hl h)

/-! ## The choice of R21 -/

theorem slotStep_tc1 (p4 : Bool) (n : Nat) (l : List Nat) : slotStep false true p4 n l = 2 ∨ slotStep false true p4 n l = 3 := by
  by_cases h : tcCount 1 l < min n 16
  · exact .inl (by simp [slotStep, h])
  · exact .inr (by simp [slotStep, h])

variable {offers : Nat → List (Nat × Payload)}

theorem newFlit_tc0 (h0 : s.classFlits dir 0 (offers 0) = e :: l) : s.newFlit dir lg offers = (e.2.tc, e.2, s.flitTaken dir lg e) := by
  unfold State.newFlit
  simp only [h0]
  rfl

theorem newFlit_tc1 (h0 : s.classFlits dir 0 (offers 0) = []) (hc : s.ctrlReady dir lg = true)
    (h1 : s.classFlits dir 1 (offers 1) = e :: l) : s.newFlit dir lg offers = (e.2.tc, e.2, s.flitTaken dir lg e) := by
  have pending : (e :: l != []) = true := rfl
  unfold State.newFlit
  simp only [h0, h1, hc, if_true, bne_self_eq_false, pending]
  rcases slotStep_tc1 (s.stepFour dir lg offers != []) (s.f (fTc1Min dir)) ((s.lane dir lg).hist.take 64) with h | h
  · rw [h]
    rfl
  · rw [h]
    rfl

/-- No TC0 flit is pending, and no TC1 flit that this lane group may carry. -/
def State.NoControl (s : State) (dir lg : Nat) (offers : Nat → List (Nat × Payload)) : Prop :=
  s.classFlits dir 0 (offers 0) = [] ∧ (if s.ctrlReady dir lg then s.classFlits dir 1 (offers 1) else []) = []

theorem newFlit_four (h : s.NoControl dir lg offers) (h4 : s.stepFour dir lg offers = e :: l) : s.newFlit dir lg offers =
    (s.linkGrant dir lg (fourReqs (e :: l))).2.sendFlit dir lg
      ((e :: l).find? fun e' => some e'.2.req == (s.linkGrant dir lg (fourReqs (e :: l))).1) := by
  obtain ⟨h0, h1⟩ := h
  unfold State.newFlit
  simp only [h0, h1, h4]
  rfl

theorem newFlit_idle (h : s.NoControl dir lg offers) (h4 : s.stepFour dir lg offers = []) :
    s.newFlit dir lg offers = (4, ⟨0, 0, 1, 0, 0, 0⟩, s) := by
  obtain ⟨h0, h1⟩ := h
  unfold State.newFlit
  simp only [h0, h1, h4]
  rfl

/-- An offered payload as a flit of its class, not yet numbered. -/
def offeredFlit (tc : Nat) (o : Nat × Payload) : Nat × HeldFlit := (2, ⟨0, tc, o.2.kind, o.2.plen, cutPayload o.2, o.1⟩)

theorem classFlits_moved {rest : List HeldFlit} {tc : Nat} {os : List (Nat × Payload)} (hm : s.moved dir = h :: rest) (ht : h.tc = tc) :
    ∃ l, s.classFlits dir tc os = (0, h) :: l := by
  unfold State.classFlits
  rw [hm, List.filter_cons, if_pos (beq_iff_eq.2 ht)]
  exact ⟨_, rfl⟩

theorem classFlits_own {tc : Nat} {os : List (Nat × Payload)} (hm : s.moved dir = []) (hos : ∀ o ∈ os, payloadOk o.2 = true) :
    s.classFlits dir tc os = (if tc = 1 then (s.ownFlits dir).map fun o => (1, s.ownFlit dir o) else []) ++ os.map (offeredFlit tc) := by
  unfold State.classFlits
  rw [hm, List.filter_eq_self.2 hos]
  rfl

/-! ## TC2 and TC3: step 4 of R21 -/

theorem stepFour_tc2 (hm : s.moved dir = [])
    (h2 : ∀ o ∈ o2, o.1 < 16 ∧ payloadOk o.2 = true ∧ smGet (fun _ => false) s.arb.masked o.1 = false)
    (h3 : s.tc3Open dir lg = false ∨ o3 = none) :
    s.stepFour dir lg (slotOffers o0 o1 o2 o3) = o2.map (offeredFlit 2) := by
  have below : slotOffers o0 o1 o2 o3 2 = o2 := List.filter_eq_self.2 fun o ho => decide_eq_true (h2 o ho).1
  have tc2 : s.classFlits dir 2 (slotOffers o0 o1 o2 o3 2) = o2.map (offeredFlit 2) := by
    rw [below, classFlits_own hm fun o ho => (h2 o ho).2.1]
    rfl
  have tc3 : (if s.tc3Open dir lg then s.classFlits dir 3 (slotOffers o0 o1 o2 o3 3) else []) = [] := by
    rcases h3 with h | h
    · rw [h, if_neg (by decide)]
    · rw [h, classFlits_own hm (by simp [slotOffers])]
      simp [slotOffers]
  unfold State.stepFour
  rw [tc2, tc3, List.append_nil, List.filter_eq_self]
  intro x hx
  obtain ⟨o, ho, rfl⟩ := List.mem_map.1 hx
  rw [show (offeredFlit 2 o).2.req = o.1 from rfl, (h2 o ho).2.2]
  rfl

theorem stepFour_tc3 (hm : s.moved dir = []) (ho : s.tc3Open dir lg = true) (hp : payloadOk p = true)
    (hmask : smGet (fun _ => false) s.arb.masked 15 = false) :
    s.stepFour dir lg (slotOffers o0 o1 [] (some p)) = [(15, p)].map (offeredFlit 3) := by
  unfold State.stepFour
  rw [if_pos ho, classFlits_own hm (by simp [slotOffers]), classFlits_own hm (by simp [slotOffers, hp])]
  simp [slotOffers, offeredFlit, hmask]

theorem fourReqs_offered (tc : Nat) (os : List (Nat × Payload)) :
    fourReqs (os.map (offeredFlit tc)) = (List.range 16).filter fun k => os.any fun o => o.1 == k := by
  unfold fourReqs
  simp only [List.any_map]
  rfl

theorem find_offered (tc n : Nat) (os : List (Nat × Payload)) :
    (os.map (offeredFlit tc)).find? (fun e => some e.2.req == some n) = (os.find? fun o => o.1 == n).map (offeredFlit tc) := by
  rw [List.find?_map]
  congr 1

theorem linkGrant_held {n : Nat} {reqs : List Nat} (hg : (s.lane dir lg).grant = some n) (hn : n ∈ reqs) :
    s.linkGrant dir lg reqs = (some n, s) := by
  unfold State.linkGrant
  rw [hg]
  exact if_pos (List.contains_iff_mem.2 hn)

theorem linkGrant_round {reqs : List Nat} (hg : (s.lane dir lg).grant = none) :
    s.linkGrant dir lg reqs = s.classRound (arbLg (lgKey dir lg)) false reqs := by
  unfold State.linkGrant
  rw [hg]

theorem linkGrant_serves {n : Nat} {reqs : List Nat} (hn : n ∈ reqs)
    (hg : (s.lane dir lg).grant = some n ∨
      ((s.lane dir lg).grant = none ∧ (s.classRound (arbLg (lgKey dir lg)) false reqs).1 = some n)) :
    (s.linkGrant dir lg reqs).1 = some n := by
  rcases hg with hg | ⟨hg, hr⟩
  · rw [linkGrant_held hg hn]
  · rw [linkGrant_round hg, hr]

/-- A round among one requester is won by it. -/
theorem classRound_single (arb n : Nat) (scan : Bool) : (s.classRound arb scan [n]).1 = some n := by
  have best : [n].filter (fun k => s.standing arb scan k == [n].foldl (fun m k => max m (s.standing arb scan k)) 0) = [n] := by
    simp
  unfold State.classRound State.arbRound
  simp only [best]
  rfl

theorem linkGrant_single (n : Nat) : (s.linkGrant dir lg [n]).1 = some n := by
  unfold State.linkGrant
  split
  next m _ =>
    split
    next h => rw [List.mem_singleton.1 (List.contains_iff_mem.1 h)]
    next => exact classRound_single ..
  next => exact classRound_single ..

theorem linkGrant_only {fs : List Fld} {ps : List Part} (ha : Part.arb ∈ ps) (reqs : List Nat) :
    Only fs ps s (s.linkGrant dir lg reqs).2 :=
  Only.refl.touch [.arb] (by decide) (List.forall_mem_singleton.2 ha) (.linkGrant (m := 8388608) .refl .refl)

theorem linkGrant_outs (reqs : List Nat) : (s.linkGrant dir lg reqs).2.outs = s.outs :=
  touch_same (m := 8388608) (.linkGrant .refl .refl) .outs (by decide)

/-- Where step 4 serves requester `n` among those that offer flits of a class, the first flit of `n` leaves. -/
theorem newFlit_offered {tc n : Nat} {os : List (Nat × Payload)} (h : s.NoControl dir lg offers)
    (h4 : s.stepFour dir lg offers = os.map (offeredFlit tc)) (hf : os.find? (fun o => o.1 == n) = some (n, p))
    (hg : (s.linkGrant dir lg (fourReqs (os.map (offeredFlit tc)))).1 = some n) :
    s.newFlit dir lg offers = (tc, ⟨0, tc, p.kind, p.plen, cutPayload p, n⟩,
      (s.linkGrant dir lg (fourReqs (os.map (offeredFlit tc)))).2) := by
  cases os with
  | nil => cases hf
  | cons o os =>
    rw [newFlit_four h h4, ← List.map_cons, hg, find_offered, hf]
    rfl

/-! ## Control flits: TC0 and TC1 -/

theorem noTc0 (hm : s.moved dir = []) (h0 : o0 = none) : s.classFlits dir 0 (slotOffers o0 o1 o2 o3 0) = [] := by
  rw [h0, classFlits_own hm (by simp [slotOffers])]
  rfl

theorem noControl_of (hm : s.moved dir = []) (h0 : o0 = none)
    (h1 : s.ctrlReady dir lg = false ∨ (s.ownFlits dir = [] ∧ o1 = none)) :
    s.NoControl dir lg (slotOffers o0 o1 o2 o3) := by
  refine ⟨noTc0 hm h0, ?_⟩
  rcases h1 with h | ⟨hown, h⟩
  · rw [h, if_neg (by decide)]
  · rw [h, classFlits_own hm (by simp [slotOffers]), hown]
    exact ite_self _

theorem classFlits_own_first {o : OwnFlit} {rest : List OwnFlit} {os : List (Nat × Payload)} (hm : s.moved dir = [])
    (ho : s.ownFlits dir = o :: rest) : ∃ l, s.classFlits dir 1 os = (1, s.ownFlit dir o) :: l := by
  unfold State.classFlits
  rw [hm, ho]
  exact ⟨_, rfl⟩

theorem flitTaken_moved {rest : List HeldFlit} (hm : s.moved dir = h :: rest) :
    s.flitTaken dir lg (0, h) = (s.setMoved dir rest).count (fLgReplays dir lg) 1 := by
  unfold State.flitTaken
  rw [hm, List.erase_cons_head]
  rfl

theorem flitTaken_offered (tc : Nat) (o : Nat × Payload) : s.flitTaken dir lg (offeredFlit tc o) = s := rfl

theorem flitTaken_own : s.flitTaken dir lg (1, f) =
    { s.setOwn dir ((s.ownFlits dir).drop 1) with
      time := if dir = 0 ∧ f.kind = 2 then { s.time with syncSent := some s.time.master } else s.time } := by
  by_cases h : dir = 0 ∧ f.kind = 2
  · rw [if_pos h]
    exact if_pos h
  · rw [if_neg h]
    exact if_neg h

end Sys2Proof.Machine

/-- Settles O2: the branch of the slot, then the choice of R21, each with what a new flit shows and keeps. -/
theorem linkTransmitterFillsSlots : Obligations.LinkTransmitterFillsSlots := by
  intro s dir lg cred crtc o0 o1 o2 o3 hup x c flitOf sends
  obtain ⟨hdir, hlg⟩ := dir_of_lgUp hup
  refine ⟨fun f hr hf => ?resend, fun hr hl => execFlitSlot_full hup hr hl, fun hr hl => ?new⟩
  case resend =>
    have lane := slotResent_lane (s := s) (lg := lg) (cred := cred) (crtc := crtc) (f := f) hdir
    refine ⟨_, execFlitSlot_resend hup hr hf, rfl, by rw [lane], by rw [lane], by rw [lane], ?_, ?_⟩
    · rw [State.slotResent, f_emits, count_self, f_setLane]
    · exact emits_only (by decide) (by decide) _ (.setF (List.mem_singleton_self _) (.setLane (by decide) .refl))
  case new =>
    have run : ∀ n, s.newFlit dir lg (slotOffers o0 o1 o2 o3) = n → exec c s = .next (s.slotSent dir lg cred crtc n) :=
      fun n e => e ▸ execFlitSlot_new hup hr hl
    refine ⟨fun h rest hm ht => ?moved,
      fun hm => ⟨fun p h0 hp => ?tc0, fun h0 hc => ⟨fun rest hown => ?sync, fun p hown h1 hp => ?tc1⟩,
      fun h0 hc => ⟨fun n p h2 h3 hf hg => ?tc2, fun p h2 ho h3 hp hmask => ?tc3, fun h2 h3 => ?idle⟩⟩⟩
    case moved =>
      obtain ⟨l, pending⟩ := classFlits_moved (os := slotOffers o0 o1 o2 o3 0) hm ht
      have chosen := newFlit_tc0 (lg := lg) pending
      rw [ht, flitTaken_moved hm] at chosen
      refine ⟨_, run _ chosen, slotSent_sends hdir rfl 0, ?_, ?_, ?_⟩
      · exact (moved_setMoved ..).trans (if_pos rfl)
      · rw [f_slotSent, count_self, f_setMoved]
      · exact slotSent_only (by decide) (by decide) 0 (.setF (List.mem_singleton_self _) (.setMoved (by decide) .refl))
    case tc0 =>
      have pending : s.classFlits dir 0 (slotOffers o0 o1 o2 o3 0) = [offeredFlit 0 (0, p)] := by
        rw [h0, classFlits_own hm (by simp [slotOffers, hp])]
        rfl
      have chosen := newFlit_tc0 (lg := lg) pending
      rw [flitTaken_offered] at chosen
      exact ⟨_, run _ chosen, slotSent_sends hdir rfl 0, slotSent_only (by decide) (by decide) 0 .refl⟩
    case sync =>
      obtain ⟨l, pending⟩ := classFlits_own_first (os := slotOffers o0 o1 o2 o3 1) hm hown
      have chosen := newFlit_tc1 (noTc0 hm h0) hc pending
      rw [flitTaken_own, hown] at chosen
      refine ⟨_, run _ chosen, slotSent_sends hdir rfl 1, ?_, fun hd => ?_, ?_⟩
      · exact (ownFlits_setOwn ..).trans (if_pos rfl)
      · exact congrArg TimeSt.syncSent (if_pos ⟨hd, rfl⟩)
      · exact slotSent_only (by decide) (by decide) 1 (.setTime (by decide) (.setOwn (by decide) .refl))
    case tc1 =>
      have pending : s.classFlits dir 1 (slotOffers o0 o1 o2 o3 1) = [offeredFlit 1 (0, p)] := by
        rw [h1, classFlits_own hm (by simp [slotOffers, hp]), hown]
        rfl
      have chosen := newFlit_tc1 (noTc0 hm h0) hc pending
      rw [flitTaken_offered] at chosen
      exact ⟨_, run _ chosen, slotSent_sends hdir rfl 1, slotSent_only (by decide) (by decide) 1 .refl⟩
    case tc2 =>
      have pending := stepFour_tc2 (o0 := o0) (o1 := o1) hm h2 h3
      have reqs := fourReqs_offered 2 o2
      have mem := List.mem_of_find?_eq_some hf
      have among : n ∈ fourReqs (o2.map (offeredFlit 2)) := by
        rw [reqs]
        exact List.mem_filter.2 ⟨List.mem_range.2 (h2 _ mem).1, List.any_eq_true.2 ⟨_, mem, beq_self_eq_true n⟩⟩
      have won := linkGrant_serves among (by rw [reqs]; exact hg)
      refine ⟨_, run _ (newFlit_offered (noControl_of hm h0 hc) pending hf won), slotSent_sends hdir (linkGrant_outs _) 2,
        fun e => ?_, slotSent_only (by decide) (by decide) 2 (linkGrant_only (by decide) _)⟩
      rw [← reqs, ← linkGrant_round e]
      rfl
    case tc3 =>
      subst h2 h3
      have pending := stepFour_tc3 (o0 := o0) (o1 := o1) hm ho hp hmask
      have alone : fourReqs ([(15, p)].map (offeredFlit 3)) = [15] := fourReqs_offered 3 _
      have won : (s.linkGrant dir lg (fourReqs ([(15, p)].map (offeredFlit 3)))).1 = some 15 := by
        rw [alone]
        exact linkGrant_single 15
      exact ⟨_, run _ (newFlit_offered (noControl_of hm h0 hc) pending rfl won), slotSent_sends hdir (linkGrant_outs _) 3,
        slotSent_only (by decide) (by decide) 3 (linkGrant_only (by decide) _)⟩
    case idle =>
      subst h2
      have none4 := stepFour_tc2 (lg := lg) (o0 := o0) (o1 := o1) hm (List.forall_mem_nil _) (.inr h3)
      exact ⟨_, run _ (newFlit_idle (noControl_of hm h0 hc) none4), slotSent_sends hdir rfl 4,
        slotSent_only (by decide) (by decide) 4 .refl⟩
end

section
/-!
Replays, retraining, half width and retirement of a lane group (R16 to R18, R25, R27).
-/
open Sys2Proof Sys2Proof.Machine
namespace Sys2Proof.Machine

variable {s t u : State} {dir lg now failed st : Nat} {x : LaneGrp} {y : Fld}

/-! ## Flits of the block's own -/

theorem ownFlits_of_link (h : u.link = s.link) (d : Nat) : u.ownFlits d = s.ownFlits d := by
  unfold State.ownFlits
  rw [h]

/-! ## The fields of a lane group (R25) -/

/-- The word LGRP_STATUS of a lane group. -/
def lgStatus (dir lg : Nat) : Nat := (if dir = 0 then 0x00E00100 else 0x01E00100) + 4 * lg

theorem fLgState_eq : fLgState dir lg = ⟨lgStatus dir lg, 0, 3⟩ := by
  unfold fLgState lgStatus
  split <;> rfl

theorem fLgFaultSeen_eq : fLgFaultSeen dir lg = ⟨lgStatus dir lg, 11, 1⟩ := by
  unfold fLgFaultSeen lgStatus
  split <;> rfl

theorem fLgFaultLane_eq : fLgFaultLane dir lg = ⟨lgStatus dir lg, 12, 4⟩ := by
  unfold fLgFaultLane lgStatus
  split <;> rfl

theorem fLgCtrl_eq : fLgCtrl dir lg = ⟨lgStatus dir lg, 16, 1⟩ := by
  unfold fLgCtrl lgStatus
  split <;> rfl

theorem fLgRetrains_eq : fLgRetrains dir lg = ⟨lgStatus dir lg, 24, 8⟩ := by
  unfold fLgRetrains lgStatus
  split <;> rfl

/-- No fault touches a field of LGRP_STATUS. -/
theorem apart_lgStatus (hlg : lg < 10) {lo w : Nat} (h : lo < 32) : apart ⟨lgStatus dir lg, lo, w⟩ = true := by
  have below : lgStatus dir lg < 0x02000000 := by
    unfold lgStatus
    split <;> omega
  unfold apart
  rw [Bool.and_eq_true, decide_eq_true_eq, decide_eq_true_eq]
  exact ⟨⟨.inl (by dsimp only; omega), h⟩, .inl below⟩

/-- Two fields of one word that begin at different bits are two fields. -/
theorem fldKey_ne_lo {a b lo lo' w w' : Nat} (h : lo < 32) (h' : lo' < 32) (hne : lo ≠ lo') :
    fldKey ⟨a, lo, w⟩ ≠ fldKey ⟨b, lo', w'⟩ := by
  simp only [fldKey]
  omega

theorem f_markCtrl (h : fldKey y % 32 ≠ 16) : (s.markCtrl dir).f y = s.f y := by
  have other : ∀ lg, fldKey y ≠ fldKey (fLgCtrl dir lg) := fun lg e => h (by
    rw [e, fLgCtrl_eq, fldKey]
    dsimp only
    omega)
  have fold : ∀ (l : List Nat) (t : State),
      (l.foldl (fun s lg => s.setOn (fLgCtrl dir lg) (s.ctrlLg dir == some lg)) t).f y = t.f y := by
    intro l
    induction l with
    | nil => exact fun _ => rfl
    | cons k l ih =>
      intro t
      rw [List.foldl_cons, ih, f_setOn, if_neg (other k)]
  exact fold ..

/-! ## Replays (R16) and retraining (R17) -/

theorem beginReplay_heldSince (h : x.replay ≠ []) : (beginReplay x now).heldSince = now := by
  unfold beginReplay
  split
  next e => exact absurd e h
  next => rfl

theorem execReplayTimeout_due (hup : s.lgUp dir lg = true) (hx : (s.lane dir lg).replay ≠ [])
    (hd : (s.lane dir lg).heldSince + 256 ≤ s.clock (dirOrigin dir)) :
    execReplayTimeout dir lg s = .next (s.setLane dir lg (beginReplay (s.lane dir lg) (s.clock (dirOrigin dir)))) := by
  unfold execReplayTimeout
  exact if_pos ⟨hup, hx, hd⟩

/-- The width that a lane group had before its training: 0 full, or its STATE. -/
def State.width (s : State) (dir lg : Nat) : Nat := if s.f (fLgState dir lg) = 2 then 0 else s.f (fLgState dir lg)

/-- A lane group leaves service to be trained again. -/
def State.untrained (s : State) (dir lg : Nat) : State :=
  ((((s.setLane dir lg { s.lane dir lg with same := 0, half := s.width dir lg }).setF (fLgState dir lg) 1).count
    (fLgRetrains dir lg) 1).markCtrl dir).degraded

theorem execLaneGroupRetrain_due (hup : s.lgUp dir lg = true) (hx : 4 ≤ (s.lane dir lg).same) :
    execLaneGroupRetrain dir lg s = .next ((s.untrained dir lg).raise 0x12 (dirOrigin dir) 0 [(8, lg), (8, 1)]) := by
  unfold execLaneGroupRetrain
  exact if_pos ⟨hup, hx⟩

theorem untrained_touch : Touch 258 s (s.untrained dir lg) :=
  .degraded rfl (.markCtrl rfl (.count rfl (.setF rfl (.setLane rfl .refl))))

theorem untrained_lane : (s.untrained dir lg).lane dir lg = { s.lane dir lg with same := 0, half := s.width dir lg } := by
  have regs : Touch 2 (s.setLane dir lg { s.lane dir lg with same := 0, half := s.width dir lg }) (s.untrained dir lg) :=
    .degraded rfl (.markCtrl rfl (.count rfl (.setF rfl .refl)))
  rw [lane_of_link (touch_same regs .link (by decide)), lane_setLane, if_pos rfl]

theorem untrained_state (hlg : lg < 10) : (s.untrained dir lg).f (fLgState dir lg) = 1 := by
  unfold State.untrained
  rw [fLgState_eq, fLgRetrains_eq, f_degraded _ (apart_lgStatus hlg (by decide)), f_markCtrl (by simp only [fldKey]; omega), f_count,
    if_neg (fldKey_ne_lo (by decide) (by decide) (by decide)), f_setF, if_pos rfl]
  rfl

theorem untrained_retrains (hlg : lg < 10) :
    (s.untrained dir lg).f (fLgRetrains dir lg) = satAdd (s.f (fLgRetrains dir lg)) 1 255 := by
  unfold State.untrained
  rw [fLgState_eq, fLgRetrains_eq, f_degraded _ (apart_lgStatus hlg (by decide)), f_markCtrl (by simp only [fldKey]; omega), count_self,
    f_setF, if_neg (fldKey_ne_lo (by decide) (by decide) (by decide)), f_setLane]
  rfl

/-! ## The end of a training (R17, R25) -/

theorem trainedState_lt (b : Bool) (half : Nat) : trainedState b half failed < 2 ^ 3 := by
  unfold trainedState
  dsimp only
  split
  · decide
  · split
    · split <;> decide
    · decide

theorem trainedState_full (b : Bool) (h0 : failed % 256 = 0) (h1 : failed / 256 % 256 = 0) : trainedState b 0 failed = 2 := by
  simp [trainedState, h0, h1]

theorem trainedState_half_lo (h0 : failed % 256 = 0) (h1 : failed / 256 % 256 ≠ 0) : trainedState true 0 failed = 3 := by
  simp [trainedState, h0, h1]

theorem trainedState_half_hi (h0 : failed % 256 ≠ 0) (h1 : failed / 256 % 256 = 0) : trainedState true 0 failed = 4 := by
  simp [trainedState, h0, h1]

theorem trainedState_both (b : Bool) (half : Nat) (h0 : failed % 256 ≠ 0) (h1 : failed / 256 % 256 ≠ 0) :
    trainedState b half failed = 5 := by
  simp [trainedState, h0, h1]

theorem trainedState_no_half (half : Nat) (h : failed % 65536 ≠ 0) : trainedState false half failed = 5 := by
  have bad : failed % 256 ≠ 0 ∨ failed / 256 % 256 ≠ 0 := by omega
  rcases bad with bad | bad
  · simp [trainedState, bad]
  · simp [trainedState, bad]

/-- The failed lanes of a training as LGRP_STATUS keeps them. -/
def State.lanesNoted (s : State) (dir lg failed : Nat) : State :=
  if failed = 0 then s else (s.setF (fLgFaultLane dir lg) (lowestLane failed)).setW1c (fLgFaultSeen dir lg) 0

/-- The registers of a direction after a lane group's training ended in STATE `st`. -/
def State.trainedRegs (s : State) (dir lg failed st : Nat) : State :=
  ((s.lanesNoted dir lg failed).setF (fLgState dir lg) st).markCtrl dir

/-- A lane group in its STATE `st` after a training, with the report of a retired one's receiver to be sent (R18). -/
def State.trained (s : State) (dir lg failed st : Nat) : State :=
  let x := s.lane dir lg
  let u := (s.trainedRegs dir lg failed st).setLane dir lg { x with awaitMgmt := st == 5, half := if st = 3 ∨ st = 4 then st else 0 }
  if st = 5 then u.setOwn (1 - dir) (u.ownFlits (1 - dir) ++ [.report lg x.lastSeq]) else u

/-- What is raised and recorded of a training that ended with STATE `st`, the lane `lane` named. -/
def State.trainingTold (s : State) (dir lg st lane : Nat) : State :=
  if st = 2 then s.degraded.raise 0x12 (dirOrigin dir) 0 [(8, lg), (8, 2)]
  else ((s.raise 0x13 (dirOrigin dir) 0 [(8, lg), (8, st), (8, lane)]).fault (if st = 5 then 0x03 else 0x02) (dirOrigin dir)
    (lgUnit dir lg) lane).cxlLog 1 1 (lgUnit dir lg)

/-- The STATE that a training with the lanes in `failed` unusable ends in. -/
def State.nextState (s : State) (dir lg failed : Nat) : Nat :=
  trainedState (s.on fDMH_TC_CFG_HALF_EN) (s.lane dir lg).half failed

theorem execRetrainDone_eq (hdir : dir < 2) (hlg : lg < 10) (hst : s.f (fLgState dir lg) = 1) :
    execRetrainDone dir lg failed s = .next ((s.trained dir lg failed (s.nextState dir lg failed)).trainingTold dir lg
      (s.nextState dir lg failed) ((s.lanesNoted dir lg failed).f (fLgFaultLane dir lg))) := by
  unfold execRetrainDone
  rw [if_neg (by omega)]
  exact (apply_ite Host.Outcome.next _ _ _).symm

theorem f_trainingTold (h : apart y = true) (st lane : Nat) : (s.trainingTold dir lg st lane).f y = s.f y := by
  unfold State.trainingTold
  split
  · rw [f_raise, f_degraded _ h]
  · rw [f_cxlLog, f_fault _ h, f_raise]

theorem trainingTold_link (st lane : Nat) : (s.trainingTold dir lg st lane).link = s.link := by
  have told : Touch 2770 s (s.trainingTold dir lg st lane) := by
    unfold State.trainingTold
    exact .ite (.raise rfl (.degraded rfl .refl)) (.cxlLog rfl (.fault rfl (.raise rfl .refl)))
  exact touch_same told .link (by decide)

theorem f_trained (h : fldKey y % 32 ≠ 16) (st : Nat) : (s.trained dir lg failed st).f y =
    if fldKey y = fldKey (fLgState dir lg) then st % 2 ^ 3 else (s.lanesNoted dir lg failed).f y := by
  have regs : (s.trained dir lg failed st).f y = (s.trainedRegs dir lg failed st).f y := by
    unfold State.trained
    dsimp only
    split
    · exact (f_setOwn ..).trans (f_setLane ..)
    · exact f_setLane ..
  rw [regs, State.trainedRegs, f_markCtrl h, f_setF, fLgState_eq]

theorem trained_state (h : st < 2 ^ 3) : (s.trained dir lg failed st).f (fLgState dir lg) = st := by
  rw [f_trained (by rw [fLgState_eq, fldKey]; dsimp only; omega), if_pos rfl, Nat.mod_eq_of_lt h]

theorem trained_faultSeen (h : failed ≠ 0) : (s.trained dir lg failed st).f (fLgFaultSeen dir lg) = 1 := by
  rw [fLgFaultSeen_eq, f_trained (by simp only [fldKey]; omega), fLgState_eq, if_neg (fldKey_ne_lo (by decide) (by decide) (by decide))]
  unfold State.lanesNoted
  rw [if_neg h, f_setW1c, fLgFaultSeen_eq, if_pos rfl]
  simp only [putBit, bit, if_true]
  omega

theorem trained_faultLane (h : failed ≠ 0) :
    (s.trained dir lg failed st).f (fLgFaultLane dir lg) = lowestLane failed % 16 := by
  rw [fLgFaultLane_eq, f_trained (by simp only [fldKey]; omega), fLgState_eq, if_neg (fldKey_ne_lo (by decide) (by decide) (by decide))]
  unfold State.lanesNoted
  rw [if_neg h, f_setW1c, fLgFaultSeen_eq, fLgFaultLane_eq, if_neg (fldKey_ne_lo (by decide) (by decide) (by decide)), f_setF, if_pos rfl]
  rfl

theorem trained_lane : (s.trained dir lg failed st).lane dir lg =
    { s.lane dir lg with awaitMgmt := st == 5, half := if st = 3 ∨ st = 4 then st else 0 } := by
  unfold State.trained
  dsimp only
  split
  · exact (lane_setLane ..).trans (if_pos rfl)
  · exact (lane_setLane ..).trans (if_pos rfl)

/-- The receiver of a retired lane group has its report to send (R18). -/
theorem trained_report : (s.trained dir lg failed 5).ownFlits (1 - dir) =
    s.ownFlits (1 - dir) ++ [.report lg (s.lane dir lg).lastSeq] := by
  have regs : Touch 2 s (s.trainedRegs dir lg failed 5) :=
    .markCtrl rfl (.setF rfl (by unfold State.lanesNoted; exact .ite .refl (.setW1c rfl (.setF rfl .refl))))
  have own : (s.trainedRegs dir lg failed 5).ownFlits (1 - dir) = s.ownFlits (1 - dir) :=
    ownFlits_of_link (touch_same regs .link (by decide)) _
  unfold State.trained
  rw [if_pos rfl]
  refine ((ownFlits_setOwn ..).trans (if_pos rfl)).trans ?_
  rw [← own]
  rfl

/-- The outcome of RETRAIN_DONE on a lane group in training. -/
def State.retrained (s : State) (dir lg failed : Nat) : State :=
  (s.trained dir lg failed (s.nextState dir lg failed)).trainingTold dir lg (s.nextState dir lg failed)
    ((s.lanesNoted dir lg failed).f (fLgFaultLane dir lg))

theorem retrained_state (hlg : lg < 10) : (s.retrained dir lg failed).f (fLgState dir lg) = s.nextState dir lg failed :=
  (f_trainingTold (by rw [fLgState_eq]; exact apart_lgStatus hlg (by decide)) ..).trans (trained_state (trainedState_lt ..))

theorem retrained_link : (s.retrained dir lg failed).link = (s.trained dir lg failed (s.nextState dir lg failed)).link :=
  trainingTold_link ..

theorem retrained_retired (hlg : lg < 10) (h : s.nextState dir lg failed = 5) :
    (s.retrained dir lg failed).f (fLgState dir lg) = 5 ∧ ((s.retrained dir lg failed).lane dir lg).awaitMgmt = true := by
  refine ⟨(retrained_state hlg).trans h, ?_⟩
  rw [lane_of_link retrained_link, trained_lane, h]
  rfl

/-- The report of a retired lane group's receiver arrives (R18). -/
theorem execLinkMgmtFlit_report (hx : (s.lane dir lg).awaitMgmt = true)
    (hr : OwnFlit.report lg (s.lane dir lg).lastSeq ∉ s.ownFlits (1 - dir)) :
    execLinkMgmtFlit dir lg (s.lane dir lg).lastSeq s =
      .next ((s.setMoved dir (s.moved dir ++ (ackUpTo (s.lane dir lg) (s.lane dir lg).lastSeq
        (s.clock (dirOrigin dir))).replay.filter fun h => h.kind != 1)).setLane dir lg
        { ackUpTo (s.lane dir lg) (s.lane dir lg).lastSeq (s.clock (dirOrigin dir)) with
          replay := [], resend := 0, awaitMgmt := false }) := by
  unfold execLinkMgmtFlit
  refine if_neg ?_
  rintro (h | h | h)
  · exact h hx
  · exact h rfl
  · exact hr h

end Sys2Proof.Machine

/-- Settles O3: the replay and the retraining by their own equations; the end of a training by what the lane group then is and by
what it tells; the report by the flits it leaves to be moved. -/
theorem linkReplaysRetrainsAndRetires : Obligations.LinkReplaysRetrainsAndRetires := by
  intro s dir lg hdir hlg x
  refine ⟨fun hup hx hd => ?replay, fun hup hx => ?retrain, fun failed hst => ?trained, fun hx hr => ?moved⟩
  case replay =>
    have lane := (lane_setLane s dir lg dir lg (beginReplay x (s.clock (dirOrigin dir)))).trans (if_pos rfl)
    exact ⟨_, execReplayTimeout_due hup hx hd, by rw [lane, beginReplay_resend], by rw [lane, beginReplay_replay],
      by rw [lane, beginReplay_heldSince hx], .setLane (by decide) .refl⟩
  case retrain =>
    have run : exec (.laneGroupRetrain dir lg) s = _ := execLaneGroupRetrain_due hup hx
    have lane : ∀ c o l as, ((s.untrained dir lg).raise c o l as).lane dir lg = _ :=
      fun c o l as => (lane_of_link (raise_link ..) dir lg).trans untrained_lane
    refine ⟨_, run, ?_, ?_, by rw [lane], by rw [lane], ?_, fun p hp => exec_same run hp⟩
    · rw [f_raise, untrained_state hlg]
    · rw [f_raise, untrained_retrains hlg]
    · exact raised_raise (touch_same untrained_touch .ev (by decide)) (touch_same untrained_touch .time (by decide)) ..
  case trained =>
    have run : exec (.retrainDone dir lg failed) s = .next (s.retrained dir lg failed) := execRetrainDone_eq hdir hlg hst
    have state := retrained_state (s := s) (dir := dir) (failed := failed) hlg
    have full : x.half = 0 → s.nextState dir lg failed = trainedState (s.on fDMH_TC_CFG_HALF_EN) 0 failed :=
      fun h => congrArg (trainedState _ · failed) h
    refine ⟨_, run, fun h h0 h1 => ?full, fun he h h0 h1 => ?lo, fun he h h0 h1 => ?hi,
      fun h0 h1 => retrained_retired hlg (trainedState_both _ _ h0 h1), fun he hf => retrained_retired hlg ?none, fun h5 => ?report,
      fun hf => ⟨?seen, ?lane⟩, fun p hp => exec_same run hp⟩
    case full => rw [state, full h, trainedState_full _ h0 h1]
    case lo => rw [state, full h, he, trainedState_half_lo h0 h1]
    case hi => rw [state, full h, he, trainedState_half_hi h0 h1]
    case none =>
      unfold State.nextState
      rw [he, trainedState_no_half _ hf]
    case report =>
      rw [ownFlits_of_link retrained_link, state.symm.trans h5]
      exact trained_report
    case seen =>
      exact (f_trainingTold (by rw [fLgFaultSeen_eq]; exact apart_lgStatus hlg (by decide)) ..).trans (trained_faultSeen hf)
    case lane =>
      exact (f_trainingTold (by rw [fLgFaultLane_eq]; exact apart_lgStatus hlg (by decide)) ..).trans (trained_faultLane hf)
  case moved =>
    have lane := (lane_setLane (s.setMoved dir (s.moved dir ++ (ackUpTo x x.lastSeq
      (s.clock (dirOrigin dir))).replay.filter fun h => h.kind != 1)) dir lg dir lg
      { ackUpTo x x.lastSeq (s.clock (dirOrigin dir)) with replay := [], resend := 0, awaitMgmt := false }).trans (if_pos rfl)
    exact ⟨_, execLinkMgmtFlit_report hx hr, (moved_setMoved ..).trans (if_pos rfl), by rw [lane], by rw [lane],
      .setLane (by decide) (.setMoved (by decide) .refl)⟩
end

section
/-!
Loss and return of a clock source (R30, R31, R706, R747).
-/
open Sys2Proof Sys2Proof.Machine
namespace Sys2Proof.Machine

variable {s t : State} {src i l k : Nat} {y : Fld}

/-! ## The bits of CLK_LOCK -/

/-- What the loss of source `src` does whatever the source. -/
def State.sourceLost (s : State) (src : Nat) : State :=
  ((s.putBit fCLK_LOCK_LOCK src false).setW1c fCLK_LOCK_LOSS src).raise 0x10 0xD02 0 [(16, src)]

theorem sourceLost_lock (hi : i < 13) :
    bit ((s.sourceLost src).f fCLK_LOCK_LOCK) i = if i = src then 0 else bit (s.f fCLK_LOCK_LOCK) i := by
  unfold State.sourceLost
  rw [f_raise, f_setW1c, if_neg (by decide), f_putBit, if_pos rfl]
  exact bit_putBit _ _ _ 13 _ hi

theorem sourceLost_loss (hi : i < 13) :
    bit ((s.sourceLost src).f fCLK_LOCK_LOSS) i = if i = src then 1 else bit (s.f fCLK_LOCK_LOSS) i := by
  unfold State.sourceLost
  rw [f_raise, f_setW1c, if_pos rfl, f_putBit, if_neg (by decide)]
  exact bit_putBit _ _ _ 13 _ hi

theorem f_sourceLost (h : y.addr ≠ 0x00100010 ∧ y.lo < 32) : (s.sourceLost src).f y = s.f y := by
  have lock : fldKey y ≠ fldKey fCLK_LOCK_LOCK := by
    simp only [fldKey, fCLK_LOCK_LOCK]
    omega
  have loss : fldKey y ≠ fldKey fCLK_LOCK_LOSS := by
    simp only [fldKey, fCLK_LOCK_LOSS]
    omega
  unfold State.sourceLost
  rw [f_raise, f_setW1c, if_neg loss, f_putBit, if_neg lock]

theorem sourceLost_only (h : src < 13) : Only [fCLK_LOCK_LOCK, fCLK_LOCK_LOSS] [.ev] s (s.sourceLost src) :=
  .raise (by decide) (.setW1c (by omega) (by decide) (.setF (by decide) .refl))

/-! ## The consequences, source by source -/

/-- A lane pair whose reference is lost (R31): it is trained again. -/
def State.laneLost (s : State) (l : Nat) : State :=
  if s.lnSt l = 0 ∨ s.lnSt l = 6 then s else (s.setF (fLNK_STATUS_BLOCK_LOCK l) 0).setLnSt l 1 1

/-- The lane pairs of lane reference `src`. -/
def referenceLanes (src : Nat) : List Nat := ((List.range 4).map fun i => 4 * (src - 8) + i).flatMap bundleLanes

theorem execClockSourceLoss_lost (hs : src < 13) (hb : bit (s.f fCLK_LOCK_LOCK) src = 1) : execClockSourceLoss src s =
    if src ≤ 1 then .next ((s.sourceLost src).fault 0x17 0xE00 src 0)
    else if src = 3 ∨ src = 4 then
      .next ((s.sourceLost src).fault (if bit ((s.sourceLost src).f fCLK_LOCK_LOCK) 3 == 0 &&
        bit ((s.sourceLost src).f fCLK_LOCK_LOCK) 4 == 0 then 0x05 else 0x04) 0xE00 src 0)
    else if src = 7 then execLinkLoss (s.sourceLost src)
    else if 8 ≤ src ∧ src ≤ 11 then .next ((referenceLanes src).foldl State.laneLost (s.sourceLost src))
    else .next (s.sourceLost src) := by
  unfold execClockSourceLoss
  rw [if_neg (by omega)]
  rfl

theorem mem_referenceLanes (h8 : 8 ≤ src)
    (h : (l < 256 ∧ l / 64 = src - 8) ∨ (256 ≤ l ∧ l < 272 ∧ (l - 256) / 4 = src - 8)) : l ∈ referenceLanes src := by
  have bundle : ∀ b, b / 4 = src - 8 → l ∈ bundleLanes b → l ∈ referenceLanes src := fun b hb hl =>
    List.mem_flatMap.2 ⟨b, List.mem_map.2 ⟨b % 4, List.mem_range.2 (by omega), by omega⟩, hl⟩
  rcases h with ⟨-, h⟩ | ⟨hl, -, h⟩
  · exact bundle (l / 16) (by omega)
      (List.mem_append_left _ (List.mem_map.2 ⟨l % 16, List.mem_range.2 (by omega), by omega⟩))
  · exact bundle (l - 256) h (List.mem_append_right _ (List.mem_singleton.2 (by omega)))

/-! ## Lane pairs that lose their reference -/

/-- Lane pair `l` is trained again, without block lock. -/
def State.Retrains (s : State) (l : Nat) : Prop := s.lnSt l = 1 ∧ s.f (fLNK_STATUS_BLOCK_LOCK l) = 0

/-- No fault touches a field of a lane pair's LNK_STATUS. -/
theorem apart_laneStatus (h : l < 272) {lo w : Nat} (hlo : lo < 32) : apart ⟨0x02A00008 + 0x40 * l, lo, w⟩ = true := by
  unfold apart
  rw [Bool.and_eq_true, decide_eq_true_eq, decide_eq_true_eq]
  dsimp only
  omega

theorem f_setLnSt (h : apart y = true) (hne : fldKey y ≠ fldKey (fLNK_STATUS_STATE k)) (st c : Nat) :
    (s.setLnSt k st c).f y = s.f y := by
  unfold State.setLnSt
  dsimp only
  split
  · rfl
  · rw [f_degraded _ h, State.raiseLane, f_raise, f_setF, if_neg hne]

theorem lnSt_setLnSt (hl : l < 272) {st : Nat} (hst : st < 2 ^ 3) (c : Nat) : (s.setLnSt l st c).lnSt l = st := by
  unfold State.setLnSt
  dsimp only
  split
  next h => exact h
  next =>
    unfold State.lnSt fLNK_STATUS_STATE
    rw [f_degraded _ (apart_laneStatus hl (by decide)), State.raiseLane, f_raise, f_setF, if_pos rfl]
    exact Nat.mod_eq_of_lt hst

theorem laneLost_self (hl : l < 272) (h0 : s.lnSt l ≠ 0) (h6 : s.lnSt l ≠ 6) : (s.laneLost l).Retrains l := by
  unfold State.laneLost
  rw [if_neg (not_or.2 ⟨h0, h6⟩)]
  refine ⟨lnSt_setLnSt hl (by decide) 1, ?_⟩
  unfold fLNK_STATUS_BLOCK_LOCK
  rw [f_setLnSt (apart_laneStatus hl (by decide)) (fldKey_ne_lo (by decide) (by decide) (by decide)), f_setF, if_pos rfl]
  rfl

theorem f_laneLost_other (hl : l < 272) (hk : k ≠ l) {lo w : Nat} (hlo : lo < 32) :
    (s.laneLost k).f ⟨0x02A00008 + 0x40 * l, lo, w⟩ = s.f ⟨0x02A00008 + 0x40 * l, lo, w⟩ := by
  have key : ∀ lo' w', lo' < 32 →
      fldKey ⟨0x02A00008 + 0x40 * l, lo, w⟩ ≠ fldKey ⟨0x02A00008 + 0x40 * k, lo', w'⟩ := fun lo' w' h => by
    simp only [fldKey]
    omega
  unfold State.laneLost
  split
  · rfl
  · rw [f_setLnSt (apart_laneStatus hl hlo) (key 29 3 (by decide)), f_setF]
    exact if_neg (key 28 1 (by decide))

/-- A lane pair in service that is among those lost is trained again. -/
theorem retrains_foldl (hl : l < 272) (ls : List Nat) : ∀ t : State, t.lnSt l ≠ 0 → t.lnSt l ≠ 6 → (l ∈ ls ∨ t.Retrains l) →
    (ls.foldl State.laneLost t).Retrains l := by
  induction ls with
  | nil => exact fun t _ _ h => h.resolve_left List.not_mem_nil
  | cons k ls ih =>
    intro t h0 h6 h
    rw [List.foldl_cons]
    by_cases hk : k = l
    · subst hk
      have lost := laneLost_self hl h0 h6
      exact ih _ (by rw [lost.1]; decide) (by rw [lost.1]; decide) (.inr lost)
    · have state : (t.laneLost k).lnSt l = t.lnSt l := f_laneLost_other hl hk (by decide)
      have lock : (t.laneLost k).f (fLNK_STATUS_BLOCK_LOCK l) = t.f (fLNK_STATUS_BLOCK_LOCK l) := f_laneLost_other hl hk (by decide)
      refine ih _ (by rwa [state]) (by rwa [state]) (h.imp (fun m => (List.mem_cons.1 m).resolve_left (Ne.symm hk)) fun r => ?_)
      exact ⟨state.trans r.1, lock.trans r.2⟩

end Sys2Proof.Machine

/-- Settles O4: the loss of a source by its branches, with the bits of CLK_LOCK for the two references; the return by the bit it
sets. -/
theorem clockSourceLossAndReturn : Obligations.ClockSourceLossAndReturn := by
  refine ⟨fun s src hs hb => ?loss, fun s src hs => ?back⟩
  case loss =>
    have run : exec (.clockSourceLoss src) s = _ := execClockSourceLoss_lost hs hb
    have both : src = 3 ∨ src = 4 → (bit ((s.sourceLost src).f fCLK_LOCK_LOCK) 3 == 0 &&
        bit ((s.sourceLost src).f fCLK_LOCK_LOCK) 4 == 0) = (bit (s.f fCLK_LOCK_LOCK) (7 - src) == 0) := by
      rintro (rfl | rfl)
      · rw [sourceLost_lock (by decide), sourceLost_lock (by decide)]
        rfl
      · rw [sourceLost_lock (by decide), sourceLost_lock (by decide)]
        exact Bool.and_true _
    refine ⟨s.sourceLost src, fun i hi => sourceLost_lock hi, fun i hi => sourceLost_loss hi, raised_raise rfl rfl .., sourceLost_only hs,
      fun h => ?root, fun h h7 => ?contained, fun h h7 => ?terminal, fun h => ?cxl, fun h => ?lanes, fun h => ?other⟩
    case root => rw [run, if_pos h]
    case contained => rw [run, if_neg (by omega), if_pos h, both h, h7]; rfl
    case terminal => rw [run, if_neg (by omega), if_pos h, both h, h7]; rfl
    case cxl => rw [run, if_neg (by omega), if_neg (by omega), if_pos h]; rfl
    case lanes =>
      rw [if_neg (by omega), if_neg (by omega), if_neg (by omega), if_pos h] at run
      refine ⟨_, run, fun l hl h0 h6 => ?_⟩
      have lt : l < 272 := by omega
      have kept : (s.sourceLost src).lnSt l = s.lnSt l := f_sourceLost ⟨by simp only [fLNK_STATUS_STATE]; omega, (by decide : 29 < 32)⟩
      exact retrains_foldl lt _ _ (by rwa [kept]) (by rwa [kept]) (.inl (mem_referenceLanes (by omega) hl))
    case other => rw [run, if_neg (by omega), if_neg (by omega), if_neg (by omega), if_neg (by omega)]
  case back =>
    have run : exec (.clockSourceReturn src) s = .next (s.putBit fCLK_LOCK_LOCK src true) :=
      congrArg Host.Outcome.next (if_neg (by omega))
    refine ⟨_, run, fun i hi => ?_, .setF (by decide) .refl⟩
    rw [f_putBit, if_pos rfl]
    exact bit_putBit _ _ _ 13 _ hi
end

section
/-!
Device time: synchronisation flits, samples and holdover (R33 to R36, R39).
-/
open Sys2Proof Sys2Proof.Machine
namespace Sys2Proof.Machine

variable {s t : State} {tm : TimeSt} {sent arrival rtt : Nat} {replayed : Bool} {off : Int}

/-! ## Synchronisation flits (R33) -/

/-- The next synchronisation flit is due 65,536 ticks later. -/
def State.syncScheduled (s : State) : State := { s with time := { s.time with syncDue := s.time.master + 65536 } }

theorem execTsyncSend_due (h : s.time.syncDue ≤ s.time.master) (hc : s.ctrlLg 0 ≠ none) : execTsyncSend s =
    .next (if s.ownFlits 0 |>.contains .sync then s.syncScheduled else s.syncScheduled.setOwn 0 (s.ownFlits 0 ++ [.sync])) := by
  unfold execTsyncSend
  rw [if_neg (not_or.2 ⟨by omega, hc⟩)]
  rfl

theorem execTsyncSend_idle (h : s.time.master < s.time.syncDue ∨ s.ctrlLg 0 = none) : execTsyncSend s = .next s := by
  unfold execTsyncSend
  exact if_pos h

/-! ## Samples (R33, R34) -/

theorem sampleOk_iff (minRtt : Option Nat) :
    sampleOk minRtt rtt replayed = true ↔ replayed = false ∧ ∀ m, minRtt = some m → rtt ≤ m + 6 := by
  unfold sampleOk
  rw [Bool.and_eq_true, Bool.not_eq_true']
  cases minRtt with
  | none => simp
  | some m => simp

/-- The time after a flit of round trip `rtt` was answered. -/
def TimeSt.answered (tm : TimeSt) (rtt : Nat) : TimeSt :=
  { tm with syncSent := none, minRtt := some (match tm.minRtt with
      | none => rtt
      | some m => min m rtt) }

/-- The first accepted sample of a start-up, one that does not move the copy back (R34; log entry 104). -/
def State.firstSample (s : State) (off : Int) : Bool :=
  s.f fEVT_TSYNC_STATUS_SAMPLES == 0 && !s.on fEVT_TSYNC_STATUS_TIME_VALID && decide (off ≤ 0)

/-- The time after an accepted sample of offset `off`: stepped to the first one, slewed to another. -/
def TimeSt.corrected (tm : TimeSt) (first : Bool) (off : Int) : TimeSt :=
  let u := if first then { tm with raster := tm.raster + off.natAbs, corr := 0 } else { tm with corr := -off }
  { u with lastSample := u.raster }

/-- An accepted sample of offset `off` is counted and shown. -/
def State.sampleShown (s : State) (tm : TimeSt) (off : Int) : State :=
  let u := ((({ s with time := tm } : State).setF fEVT_TSYNC_STATUS_SAMPLES (s.f fEVT_TSYNC_STATUS_SAMPLES + 1)).setOn
    fEVT_TSYNC_STATUS_SLEWING (tm.corr != 0)).setF fEVT_TSYNC_STATUS_OFFSET (toField 8 (max (-127) (min 127 off)))
  if s.f fEVT_TSYNC_STATUS_SAMPLES + 1 ≥ 8 then u.setF fEVT_TSYNC_STATUS_TIME_VALID 1 else u

/-- Holdover ends with an accepted sample (R36). -/
def State.holdoverEnded (s : State) : State :=
  if s.on fEVT_TSYNC_STATUS_HOLDOVER then (s.setF fEVT_TSYNC_STATUS_HOLDOVER 0).raise 0x11 0xD01 0 [(8, 0)] else s

/-- The flit that answers a synchronisation flit is to be sent (R33). -/
def State.syncAnswered (s : State) : State := s.setOwn 1 (s.ownFlits 1 ++ [.sync])

/-- The offset that a sample shows: half the round trip is the flit's way (R33). -/
def sampleOff (sent arrival rtt : Nat) : Int := (arrival : Int) - sent - ((rtt / 2 : Nat) : Int)

theorem execTsyncSample_rejected (hs : s.time.syncSent = some sent) (h : sampleOk s.time.minRtt rtt replayed = false) :
    execTsyncSample arrival rtt replayed s = .next { s.syncAnswered with time := s.time.answered rtt } := by
  unfold execTsyncSample
  rw [hs]
  exact if_pos (by rw [setOwn_time, h]; decide)

theorem execTsyncSample_accepted (hs : s.time.syncSent = some sent) (h : sampleOk s.time.minRtt rtt replayed = true) :
    execTsyncSample arrival rtt replayed s = .next ((s.syncAnswered.sampleShown ((s.time.answered rtt).corrected
      (s.firstSample (sampleOff sent arrival rtt)) (sampleOff sent arrival rtt)) (sampleOff sent arrival rtt)).holdoverEnded) := by
  unfold execTsyncSample
  rw [hs]
  refine (if_neg (by rw [setOwn_time, h]; decide)).trans ?_
  exact (apply_ite Host.Outcome.next _ _ _).symm

/-! ## What an accepted sample shows -/

theorem f_sampleShown (y : Fld) : (s.sampleShown tm off).f y =
    if fldKey y = fldKey fEVT_TSYNC_STATUS_TIME_VALID ∧ 7 ≤ s.f fEVT_TSYNC_STATUS_SAMPLES then 1
    else if fldKey y = fldKey fEVT_TSYNC_STATUS_OFFSET then toField 8 (max (-127) (min 127 off)) % 2 ^ 8
    else if fldKey y = fldKey fEVT_TSYNC_STATUS_SLEWING then b2n (tm.corr != 0) % 2 ^ 1
    else if fldKey y = fldKey fEVT_TSYNC_STATUS_SAMPLES then (s.f fEVT_TSYNC_STATUS_SAMPLES + 1) % 2 ^ 16
    else s.f y := by
  unfold State.sampleShown
  dsimp only
  by_cases h : 7 ≤ s.f fEVT_TSYNC_STATUS_SAMPLES
  · rw [if_pos (by omega), f_setF, f_setF, f_setOn, f_setF]
    simp only [h, and_true]
    rfl
  · rw [if_neg (by omega), f_setF, f_setOn, f_setF]
    simp only [h, and_false, if_false]
    rfl

theorem sampleShown_valid : (s.sampleShown tm off).f fEVT_TSYNC_STATUS_TIME_VALID =
    if 7 ≤ s.f fEVT_TSYNC_STATUS_SAMPLES then 1 else s.f fEVT_TSYNC_STATUS_TIME_VALID := by
  rw [f_sampleShown]
  by_cases h : 7 ≤ s.f fEVT_TSYNC_STATUS_SAMPLES
  · rw [if_pos ⟨rfl, h⟩, if_pos h]
  · rw [if_neg (fun e => h e.2), if_neg h, if_neg (by decide), if_neg (by decide), if_neg (by decide)]

theorem sampleShown_touch : Touch 34 s (s.sampleShown tm off) := by
  unfold State.sampleShown
  have shown : Touch 34 s ((({ s with time := tm } : State).setF fEVT_TSYNC_STATUS_SAMPLES
      (s.f fEVT_TSYNC_STATUS_SAMPLES + 1)).setOn fEVT_TSYNC_STATUS_SLEWING (tm.corr != 0)) :=
    .setOn rfl (.setF rfl (.upd_5 rfl .refl))
  exact .ite (.setF rfl (.setF rfl shown)) (.setF rfl shown)

theorem sampleShown_time : (s.sampleShown tm off).time = tm := by
  unfold State.sampleShown
  dsimp only
  split <;> rfl

theorem sampleShown_only {fs : List Fld} {ps : List Part} (hf : ∀ x ∈ [fEVT_TSYNC_STATUS_SAMPLES, fEVT_TSYNC_STATUS_SLEWING,
      fEVT_TSYNC_STATUS_OFFSET, fEVT_TSYNC_STATUS_TIME_VALID], x ∈ fs) (hp : Part.time ∈ ps) (h : Only fs ps s t) :
    Only fs ps s (t.sampleShown tm off) := by
  have shown : Only fs ps s ((({ t with time := tm } : State).setF fEVT_TSYNC_STATUS_SAMPLES
      (t.f fEVT_TSYNC_STATUS_SAMPLES + 1)).setOn fEVT_TSYNC_STATUS_SLEWING (tm.corr != 0)) :=
    .setF (hf _ (by decide)) (.setF (hf _ (by decide)) (.setTime hp h))
  unfold State.sampleShown
  exact .ite (.setF (hf _ (by decide)) (.setF (hf _ (by decide)) shown)) (.setF (hf _ (by decide)) shown)

theorem f_holdoverEnded (y : Fld) : s.holdoverEnded.f y = if fldKey y = fldKey fEVT_TSYNC_STATUS_HOLDOVER then 0 else s.f y := by
  unfold State.holdoverEnded
  split
  · rw [f_raise, f_setF]
    rfl
  next h =>
    split
    next e =>
      have zero : s.f fEVT_TSYNC_STATUS_HOLDOVER = 0 := by
        simpa only [State.on, bne_iff_ne, ne_eq, not_not] using h
      refine Eq.trans ?_ zero
      unfold State.f regGet
      rw [e]
    next => rfl

theorem holdoverEnded_touch : Touch 66 s s.holdoverEnded := by
  unfold State.holdoverEnded
  exact .ite (.raise rfl (.setF rfl .refl)) .refl

theorem holdoverEnded_ev_of_off (h : s.on fEVT_TSYNC_STATUS_HOLDOVER = false) : s.holdoverEnded.ev = s.ev := by
  unfold State.holdoverEnded
  rw [h, if_neg (by decide)]

theorem holdoverEnded_ev_of_on (h : s.on fEVT_TSYNC_STATUS_HOLDOVER = true) :
    s.holdoverEnded.ev.enRoute.length = s.ev.enRoute.length + 1 := by
  unfold State.holdoverEnded
  rw [if_pos h, raise_ev]
  exact List.length_append

theorem toField_mod (w : Nat) (x : Int) : toField w x % 2 ^ w = (x % (2 ^ w : Int)).toNat := by
  unfold toField
  apply Nat.mod_eq_of_lt
  have nonneg := Int.emod_nonneg x (show (2 ^ w : Int) ≠ 0 by positivity)
  have lt := Int.emod_lt_of_pos x (show (0 : Int) < 2 ^ w by positivity)
  zify
  rwa [Int.toNat_of_nonneg nonneg]

/-- The state after an accepted sample. -/
def State.sampleTaken (s : State) (sent arrival rtt : Nat) : State :=
  let off := sampleOff sent arrival rtt
  (s.syncAnswered.sampleShown ((s.time.answered rtt).corrected (s.firstSample off) off) off).holdoverEnded

theorem sampleTaken_time : (s.sampleTaken sent arrival rtt).time =
    (s.time.answered rtt).corrected (s.firstSample (sampleOff sent arrival rtt)) (sampleOff sent arrival rtt) :=
  (touch_same holdoverEnded_touch .time (by decide)).trans sampleShown_time

theorem sampleTaken_link : (s.sampleTaken sent arrival rtt).link = s.syncAnswered.link :=
  (touch_same holdoverEnded_touch .link (by decide)).trans (touch_same sampleShown_touch .link (by decide))

theorem f_sampleTaken {y : Fld} (h : fldKey y ≠ fldKey fEVT_TSYNC_STATUS_HOLDOVER) : (s.sampleTaken sent arrival rtt).f y =
    (s.syncAnswered.sampleShown ((s.time.answered rtt).corrected (s.firstSample (sampleOff sent arrival rtt))
      (sampleOff sent arrival rtt)) (sampleOff sent arrival rtt)).f y :=
  (f_holdoverEnded y).trans (if_neg h)

theorem sampleShown_holdover : (s.syncAnswered.sampleShown tm off).on fEVT_TSYNC_STATUS_HOLDOVER = s.on fEVT_TSYNC_STATUS_HOLDOVER := by
  have kept : (s.syncAnswered.sampleShown tm off).f fEVT_TSYNC_STATUS_HOLDOVER = s.f fEVT_TSYNC_STATUS_HOLDOVER := by
    rw [f_sampleShown, if_neg (fun h => absurd h.1 (by decide)), if_neg (by decide), if_neg (by decide), if_neg (by decide)]
    rfl
  unfold State.on
  rw [kept]

theorem sampleTaken_only : Only [fEVT_TSYNC_STATUS_SAMPLES, fEVT_TSYNC_STATUS_SLEWING, fEVT_TSYNC_STATUS_OFFSET,
    fEVT_TSYNC_STATUS_TIME_VALID, fEVT_TSYNC_STATUS_HOLDOVER] [.time, .ev, .link] s (s.sampleTaken sent arrival rtt) := by
  have shown := sampleShown_only (s := s) (tm := (s.time.answered rtt).corrected (s.firstSample (sampleOff sent arrival rtt))
    (sampleOff sent arrival rtt)) (off := sampleOff sent arrival rtt) (fs := [fEVT_TSYNC_STATUS_SAMPLES, fEVT_TSYNC_STATUS_SLEWING,
    fEVT_TSYNC_STATUS_OFFSET, fEVT_TSYNC_STATUS_TIME_VALID, fEVT_TSYNC_STATUS_HOLDOVER]) (ps := [.time, .ev, .link]) (by decide)
    (by decide) (.setOwn (d := 1) (l := s.ownFlits 1 ++ [.sync]) (by decide) .refl)
  unfold State.sampleTaken State.holdoverEnded
  exact .ite (.raise (by decide) (.setF (by decide) shown)) shown

theorem corrected_syncSent (first : Bool) : (tm.corrected first off).syncSent = tm.syncSent := by
  cases first <;> rfl

theorem corrected_minRtt (first : Bool) : (tm.corrected first off).minRtt = tm.minRtt := by
  cases first <;> rfl

theorem firstSample_of_start (hn : s.f fEVT_TSYNC_STATUS_SAMPLES = 0) (hv : s.on fEVT_TSYNC_STATUS_TIME_VALID = false)
    (ho : off ≤ 0) : s.firstSample off = true := by
  unfold State.firstSample
  rw [hn, hv, decide_eq_true ho]
  rfl

theorem firstSample_of_later (h : s.f fEVT_TSYNC_STATUS_SAMPLES ≠ 0 ∨ s.on fEVT_TSYNC_STATUS_TIME_VALID = true) :
    s.firstSample off = false := by
  unfold State.firstSample
  rcases h with h | h
  · rw [beq_false_of_ne h]
    rfl
  · rw [h]
    simp

/-! ## Holdover (R36) -/

theorem execTsyncHoldover_due (h : s.time.lastSample + 1048576 ≤ s.time.raster) (ho : s.on fEVT_TSYNC_STATUS_HOLDOVER = false) :
    execTsyncHoldover s = .next ((s.setF fEVT_TSYNC_STATUS_HOLDOVER 1).raise 0x11 0xD01 0 [(8, 1)]) := by
  unfold execTsyncHoldover
  exact if_pos ⟨h, by rw [ho]; decide⟩

end Sys2Proof.Machine

/-- Settles O5: the scheduling of synchronisation flits; a sample rejected or taken, by the field it is shown in; holdover. -/
theorem timeSynchronisationSamples : Obligations.TimeSynchronisationSamples := by
  intro s
  refine ⟨fun hd hc => ?send, fun h => execTsyncSend_idle h, fun sent arrival rtt replayed hs => ⟨fun h => ?rejected,
    fun h => ?accepted⟩, fun hd ho => ?holdover⟩
  case send =>
    have run : exec .tsyncSend s = _ := execTsyncSend_due hd hc
    by_cases h : OwnFlit.sync ∈ s.ownFlits 0
    · rw [if_pos (List.contains_iff_mem.2 h)] at run
      exact ⟨_, run, rfl, by rw [if_pos h]; rfl, .setTime (by decide) .refl⟩
    · rw [if_neg (mt List.contains_iff_mem.1 h)] at run
      exact ⟨_, run, rfl, by rw [if_neg h, ownFlits_setOwn, if_pos rfl], .setOwn (by decide) (.setTime (by decide) .refl)⟩
  case rejected =>
    have bad := Bool.eq_false_iff.2 (mt (sampleOk_iff s.time.minRtt).1 h)
    exact ⟨_, execTsyncSample_rejected hs bad, rfl, rfl, rfl, rfl, (ownFlits_setOwn ..).trans (if_pos rfl),
      .setTime (by decide) (.setOwn (by decide) .refl)⟩
  case accepted =>
    have run : exec (.tsyncSample arrival rtt replayed) s = .next (s.sampleTaken sent arrival rtt) :=
      execTsyncSample_accepted hs ((sampleOk_iff s.time.minRtt).2 h)
    have time := sampleTaken_time (s := s) (sent := sent) (arrival := arrival) (rtt := rtt)
    refine ⟨_, run, ?sent, ?own, ?rtt, ?samples, ?offset, ?cleared, ?last, fun hn hv ho => ?first, fun hl => ?later, ?valid,
      fun ho => ?quiet, fun ho => ?ended, sampleTaken_only⟩
    case sent => rw [time, corrected_syncSent]; rfl
    case own => rw [ownFlits_of_link sampleTaken_link]; exact (ownFlits_setOwn ..).trans (if_pos rfl)
    case rtt => rw [time, corrected_minRtt]; rfl
    case samples =>
      rw [f_sampleTaken (by decide), f_sampleShown, if_neg (fun h => absurd h.1 (by decide)), if_neg (by decide), if_neg (by decide),
        if_pos rfl]
      rfl
    case offset =>
      rw [f_sampleTaken (by decide), f_sampleShown, if_neg (fun h => absurd h.1 (by decide)), if_pos rfl, toField_mod]
      rfl
    case cleared => exact (f_holdoverEnded _).trans (if_pos rfl)
    case last => rw [time]; rfl
    case first =>
      have neg : sampleOff sent arrival rtt ≤ 0 := ho
      rw [time, firstSample_of_start hn hv neg]
      refine ⟨?_, rfl⟩
      change ((s.time.raster + (sampleOff sent arrival rtt).natAbs : Nat) : Int) = s.time.raster - sampleOff sent arrival rtt
      omega
    case later => rw [time, firstSample_of_later hl]; exact ⟨rfl, rfl⟩
    case valid => exact (f_sampleTaken (by decide)).trans sampleShown_valid
    case quiet =>
      exact (holdoverEnded_ev_of_off (sampleShown_holdover.trans ho)).trans (touch_same sampleShown_touch .ev (by decide))
    case ended =>
      refine (holdoverEnded_ev_of_on (sampleShown_holdover.trans ho)).trans ?_
      rw [touch_same sampleShown_touch .ev (by decide)]
      rfl
  case holdover =>
    refine ⟨_, execTsyncHoldover_due hd ho, ?_, raised_raise rfl rfl .., .raise (by decide) (.setF (by decide) .refl)⟩
    rw [f_raise, f_setF, if_pos rfl]
    rfl
end

section
/-!
Reads of an LO register: both words of one moment (R37, R89, R92, R506, R591, R629, R721).
-/
open Sys2Proof Sys2Proof.Machine
namespace Sys2Proof.Machine

variable {s : State} {req : Req} {a v : Nat} {c : Instr} {r : RegRow}

/-- The word at `a` is the register `r` of the map, and is read as that register: it lies in no window, no view of shadows, no
log and no identification block. -/
structure ReadAs (a : Nat) (r : RegRow) : Prop where
  row : regRowAt a = some r
  plain : plainOfs a = true
  ident : ¬ (0x00600800 ≤ a ∧ a < 0x00600860)
  log : ¬ (0x03601000 ≤ a ∧ a < 0x03603000)
  view : ¬ (0x02310000 ≤ a ∧ a < 0x023B0000)
  dcb : ¬ (0x02E00000 ≤ a ∧ a < 0x02E01100)
  slots : ¬ (r.base = regSLTS0.base ∨ r.base = regSLTS1.base)

theorem placeRead_reg (h : ReadAs a r) : s.placeRead req a = s.regRead req a r := by
  obtain ⟨row, plain, ident, log, view, dcb, slots⟩ := h
  have window := plain
  simp only [plainOfs, decide_eq_true_eq] at window
  have noCounter : ¬ ((List.range 16).any fun g => 0x02E00080 + 0x100 * g ≤ a && a < 0x02E00100 + 0x100 * g) = true := by
    rw [List.any_eq_true]
    rintro ⟨g, hg, e⟩
    rw [List.mem_range] at hg
    simp only [Bool.and_eq_true, decide_eq_true_eq] at e
    omega
  unfold State.placeRead
  rw [if_neg (by omega), if_neg log, if_neg (by omega), if_neg ident, if_neg view, if_neg noCounter, window_none plain]
  simp only [row]
  rw [if_neg slots]

theorem busRead_reg (hb : s.barOk req = true) (hr : s.reach a = true) (h : ReadAs a r) : s.busRead req a = s.regRead req a r := by
  unfold State.busRead
  rw [if_neg (not_or.2 ⟨not_not_intro hb, not_not_intro hr⟩), placeRead_reg h]

/-- The command `c` reads the LO register at `a` of the value `v` (R37, R721). -/
def State.ReadsLo (s : State) (req : Req) (c : Instr) (a v : Nat) : Prop :=
  (s.barOk req = true → s.reach a = true →
    ∃ t, exec c s = .next t ∧ t.outs = .regData req a (BitVec.ofNat 32 v) :: s.outs ∧ t.latched req (a + 4) = v / 2 ^ 32 ∧
      (∀ q b, latchKey q b ≠ latchKey req (a + 4) → t.latched q b = s.latched q b) ∧ Only [] [.latches, .outs] s t) ∧
  (s.barOk req = true → s.reach a = false →
    ∃ t, exec c s = .next t ∧ t.outs = .regData req a 0 :: s.outs ∧ Only [] [.outs] s t) ∧
  (s.barOk req = false → exec c s = .next s)

theorem Only.latchHi {fs : List Fld} {ps : List Part} {t : State} (hp : Part.latches ∈ ps) (h : Only fs ps s t) :
    Only fs ps s (t.latchHi req a v) :=
  h.touch [.latches] (by decide) (List.forall_mem_singleton.2 hp) (.latchHi (m := 4) .refl .refl)

theorem readsLo_of {ok : Bool} (hok : ok = true) (hc : exec c s = s.rowRead ok req a) (h : ReadAs a r)
    (hv : s.regRead req a r = s.readLo req a v) : s.ReadsLo req c a v := by
  have read : s.barOk req = true → exec c s =
      .next ((s.busRead req a).2.out (.regData req a (BitVec.ofNat 32 (s.busRead req a).1))) := fun hb => by
    rw [hc, State.rowRead, if_pos ⟨hok, hb⟩]
  refine ⟨fun hb hr => ?reached, fun hb hr => ?unreached, fun hb => ?closed⟩
  case reached =>
    have run := read hb
    rw [busRead_reg hb hr h, hv] at run
    have word : BitVec.ofNat 32 (v % 2 ^ 32) = BitVec.ofNat 32 v := BitVec.eq_of_toNat_eq (by simp)
    refine ⟨_, run, ?_, ?_, fun q b hk => ?_, .out (by decide) (.latchHi (by decide) .refl)⟩
    · rw [out_outs, State.readLo, word]
      rfl
    · exact (latched_latchHi ..).trans (if_pos rfl)
    · exact (latched_latchHi ..).trans (if_neg hk)
  case unreached =>
    have run := read hb
    have none : s.busRead req a = (0, s) := if_pos (.inr (by rw [hr]; decide))
    rw [none] at run
    exact ⟨_, run, rfl, .out (by decide) .refl⟩
  case closed =>
    rw [hc, State.rowRead, if_neg (by rw [hb]; simp)]

/-! ## The LO registers -/

theorem readAs_TIME_LO : ReadAs 0x03400000 regEVT_TIME_LO := by
  obtain ⟨row, plain⟩ := Touch.row_EVT_TIME_LO
  exact ⟨row, plain, by decide, by decide, by decide, by decide, by decide⟩

theorem readAs_FRAME_LO {g : Nat} (h : g < 16) : ReadAs (fTMG_FRAME_LO_FRAME_LO g).addr regTMG_FRAME_LO := by
  obtain ⟨row, plain, -⟩ := Touch.row_TMG_FRAME_LO g h
  simp only [fTMG_FRAME_LO_FRAME_LO] at *
  exact ⟨row, plain, by omega, by omega, by omega, by omega, by decide⟩

theorem readAs_LATCH_LO {g : Nat} (h : g < 16) : ReadAs (fTMG_LATCH_LO_LATCH_LO g).addr regTMG_LATCH_LO := by
  obtain ⟨row, plain, -⟩ := Touch.row_TMG_LATCH_LO g h
  simp only [fTMG_LATCH_LO_LATCH_LO] at *
  exact ⟨row, plain, by omega, by omega, by omega, by omega, by decide⟩

theorem readAs_CTR_LO {n : Nat} (h : n < 64) : ReadAs (fSEC_SLOT_CTR_LO_CTR_LO n).addr regSEC_SLOT_CTR_LO := by
  obtain ⟨row, plain, -⟩ := Touch.row_SEC_SLOT_CTR_LO n h
  simp only [fSEC_SLOT_CTR_LO_CTR_LO] at *
  exact ⟨row, plain, by omega, by omega, by omega, by omega, by decide⟩

theorem readAs_CNT_LO {n : Nat} (h : n < 256) : ReadAs (fNVS_CNT_LO_VAL_LO n).addr regNVS_CNT_LO := by
  obtain ⟨row, plain, -⟩ := Touch.row_NVS_CNT_LO n h
  simp only [fNVS_CNT_LO_VAL_LO] at *
  exact ⟨row, plain, by omega, by omega, by omega, by omega, by decide⟩

theorem readAs_TS_LO {i : Nat} (h : i < 360) : ReadAs (fCAL_TS_LO_TS_LO i).addr regCAL_TS_LO := by
  obtain ⟨row, plain, -⟩ := Touch.row_CAL_TS_LO i h
  simp only [fCAL_TS_LO_TS_LO] at *
  exact ⟨row, plain, by omega, by omega, by omega, by omega, by decide⟩

theorem regRead_FRAME_LO : s.regRead req a regTMG_FRAME_LO =
    s.readLo req a ((s.grp (rowIndex regTMG_FRAME_LO a)).frame % 2 ^ 48) := rfl

theorem regRead_LATCH_LO : s.regRead req a regTMG_LATCH_LO =
    s.readLo req a ((s.grp (rowIndex regTMG_LATCH_LO a)).latchTick % 2 ^ 64) := rfl

theorem regRead_CTR_LO : s.regRead req a regSEC_SLOT_CTR_LO = s.readLo req a (s.lastCtr (rowIndex regSEC_SLOT_CTR_LO a)) := rfl

theorem regRead_CNT_LO : s.regRead req a regNVS_CNT_LO = s.readLo req a (s.nvCnt (rowIndex regNVS_CNT_LO a) % 2 ^ 64) := rfl

theorem regRead_TS_LO : s.regRead req a regCAL_TS_LO =
    s.readLo req a (s.plainRead a regCAL_TS_LO + 2 ^ 32 * s.f (fCAL_TS_HI_TS_HI (rowIndex regCAL_TS_LO a))) := rfl

/-- The lower word of a calibration stamp is its register's one field. -/
theorem plainRead_TS_LO (i : Nat) : s.plainRead (fCAL_TS_LO_TS_LO i).addr regCAL_TS_LO = s.f (fCAL_TS_LO_TS_LO i) := by
  change s.f (fCAL_TS_LO_TS_LO i) * 2 ^ 0 + 0 = _
  rw [Nat.add_zero, pow_zero, Nat.mul_one]

end Sys2Proof.Machine

/-- Settles O6: each command is the read of its LO register, whose value is the one of that moment. -/
theorem latchedReadsReturnOneMoment : Obligations.LatchedReadsReturnOneMoment := by
  intro s req reads
  refine ⟨?time, fun g hg => ?frame, fun g hg => ?latch, fun n hn => ?slot, fun n hn => ?counter, fun i hi _ => ?stamp⟩
  case time => exact readsLo_of rfl rfl readAs_TIME_LO rfl
  case frame =>
    obtain ⟨-, -, index⟩ := Touch.row_TMG_FRAME_LO g hg
    exact readsLo_of (decide_eq_true hg) rfl (readAs_FRAME_LO hg) (by rw [regRead_FRAME_LO, index])
  case latch =>
    obtain ⟨-, -, index⟩ := Touch.row_TMG_LATCH_LO g hg
    exact readsLo_of (decide_eq_true hg) rfl (readAs_LATCH_LO hg) (by rw [regRead_LATCH_LO, index])
  case slot =>
    obtain ⟨-, -, index⟩ := Touch.row_SEC_SLOT_CTR_LO n hn
    exact readsLo_of (decide_eq_true hn) rfl (readAs_CTR_LO hn) (by rw [regRead_CTR_LO, index])
  case counter =>
    obtain ⟨-, -, index⟩ := Touch.row_NVS_CNT_LO n hn
    exact readsLo_of (decide_eq_true hn) rfl (readAs_CNT_LO hn) (by rw [regRead_CNT_LO, index])
  case stamp =>
    obtain ⟨-, -, index⟩ := Touch.row_CAL_TS_LO i hi
    exact readsLo_of (decide_eq_true hi) rfl (readAs_TS_LO hi) (by rw [regRead_TS_LO, index, plainRead_TS_LO])
end

section
/-!
The event merge (R44, R45): arrivals, releases in the order of stamps and origins, and records that go nowhere (R536).
-/
open Sys2Proof Sys2Proof.Machine
namespace Sys2Proof.Machine

variable {s : State} {e b : Ev} {k i : Nat}

/-! ## The first event of the merge (R42, R44) -/

/-- Event `e` is released before `b`: by stamp, then by origin. -/
def Ev.Before (e b : Ev) : Prop := e.stamp < b.stamp ∨ (e.stamp = b.stamp ∧ e.origin < b.origin)

/-- What is first of the events up to `x`, the one at `n`, where `best` is first of those in front of it. -/
def nextFirst (n : Nat) (x : Ev) : Option (Nat × Ev) → Option (Nat × Ev)
  | none => some (n, x)
  | some (j, b) => if x.stamp < b.stamp ∨ (x.stamp = b.stamp ∧ x.origin < b.origin) then some (n, x) else some (j, b)

theorem firstEv_cons (x : Ev) (es : List Ev) (n : Nat) (best : Option (Nat × Ev)) :
    firstEv (x :: es) n best = firstEv es (n + 1) (nextFirst n x best) := by
  cases best with
  | none => rfl
  | some p => rfl

theorem nextFirst_taken {n : Nat} {best : Option (Nat × Ev)} (h : ∀ p ∈ best, e.Before p.2) : nextFirst n e best = some (n, e) := by
  cases best with
  | none => rfl
  | some p => exact if_pos (h p rfl)

theorem nextFirst_kept {n : Nat} (h : ¬ e.Before b) : nextFirst n e (some (k, b)) = some (k, b) := if_neg h

/-- An event before all that was met and before `x` is before what is then first. -/
theorem before_nextFirst {n : Nat} {x : Ev} {best : Option (Nat × Ev)} (h : ∀ p ∈ best, e.Before p.2) (hx : e.Before x) :
    ∀ p ∈ nextFirst n x best, e.Before p.2 := by
  intro p hp
  cases best with
  | none =>
    cases hp
    exact hx
  | some q =>
    unfold nextFirst at hp
    dsimp only at hp
    split at hp
    · cases hp
      exact hx
    · cases hp
      exact h _ rfl

theorem firstEv_keeps {es : List Ev} : ∀ {n : Nat}, (∀ x ∈ es, ¬ x.Before b) → firstEv es n (some (k, b)) = some (k, b) := by
  induction es with
  | nil => exact fun _ => rfl
  | cons x es ih =>
    intro n h
    rw [firstEv_cons, nextFirst_kept (h x List.mem_cons_self)]
    exact ih fun y hy => h y (List.mem_cons_of_mem _ hy)

/-- The first event of a list is the one at `i` that is before those in front of it and that none behind it is before, where it is
before what was found until then. -/
theorem firstEv_eq {es : List Ev} : ∀ {n i : Nat} {best : Option (Nat × Ev)}, es[i]? = some e → (∀ p ∈ best, e.Before p.2) →
    (∀ (j : Nat) (x : Ev), es[j]? = some x → if j < i then e.Before x else ¬ x.Before e) → firstEv es n best = some (n + i, e) := by
  induction es with
  | nil => exact fun h => by cases h
  | cons x es ih =>
    intro n i best hi hbest hall
    rw [firstEv_cons]
    cases i with
    | zero =>
      cases hi
      rw [nextFirst_taken hbest]
      refine firstEv_keeps fun y hy => ?_
      obtain ⟨j, hj⟩ := List.getElem?_of_mem hy
      exact hall (j + 1) y hj
    | succ i =>
      have first : e.Before x := hall 0 x rfl
      rw [ih hi (before_nextFirst hbest first) fun j y hj => ?_, Nat.add_assoc, Nat.add_comm 1]
      have behind := hall (j + 1) y hj
      simpa only [Nat.add_lt_add_iff_right] using behind

/-- The event at `i` is released first: of least stamp, then of lowest origin, then first come. -/
theorem firstEv_least {es : List Ev} (hi : es[i]? = some e)
    (h : ∀ (j : Nat) (x : Ev), es[j]? = some x →
      e.stamp < x.stamp ∨ (e.stamp = x.stamp ∧ (e.origin < x.origin ∨ (e.origin = x.origin ∧ i ≤ j)))) :
    firstEv es 0 none = some (i, e) := by
  rw [firstEv_eq hi (fun _ hp => by cases hp) fun j x hj => ?_, Nat.zero_add]
  have order := h j x hj
  unfold Ev.Before
  split <;> omega

/-! ## Arrivals and releases (R44, R45) -/

/-- The `k`-th event under way is under way no more. -/
def State.arrived (s : State) (k : Nat) : State := { s with ev := { s.ev with enRoute := s.ev.enRoute.eraseIdx k } }

/-- The event at `i` leaves the merge. -/
def State.left (s : State) (i : Nat) : State := { s with ev := { s.ev with merge := s.ev.merge.eraseIdx i } }

theorem execEventMergeArrival_first (hk : s.ev.enRoute[k]? = some e) (ho : ∀ x ∈ s.ev.enRoute.take k, x.origin ≠ e.origin) :
    execEventMergeArrival k s =
      if e.stamp + s.settle < s.time.master then .next ((s.arrived k).release { e with late := true })
      else .next { s.arrived k with ev := { (s.arrived k).ev with merge := s.ev.merge ++ [e] } } := by
  have first : ((s.ev.enRoute.take k).any fun x => x.origin == e.origin) = false := by
    rw [List.any_eq_false]
    exact fun x hx => by rw [beq_iff_eq]; exact ho x hx
  unfold execEventMergeArrival
  rw [hk]
  exact if_neg (by rw [first]; decide)

theorem execEventRelease_first (h : firstEv s.ev.merge 0 none = some (i, e)) :
    execEventRelease s = if e.stamp + s.settle ≤ s.time.master then .next ((s.left i).release e) else .next s := by
  unfold execEventRelease
  rw [h]
  rfl

theorem execEventRelease_empty (h : s.ev.merge = []) : execEventRelease s = .next s := by
  unfold execEventRelease
  rw [h]
  rfl

/-- A record that is not kept in the log and whose class goes to no enabled ring is discarded (R536). -/
theorem release_discarded (hl : s.logged e = false) (hr : s.on (fEVT_ROUTE_EN (e.origin / 256 % 16)) = false ∨
    s.on (fEVR_CFG_EN (s.f (fEVT_ROUTE_RING (e.origin / 256 % 16)))) = false) : s.release e = s := by
  have log : s.nvLog e = s := if_pos (.inl (by rw [hl]; decide))
  unfold State.release
  rw [log]
  refine if_neg ?_
  rintro ⟨route, ring⟩
  rcases hr with h | h
  · rw [h] at route
    cases route
  · rw [h] at ring
    cases ring

end Sys2Proof.Machine

/-- Settles O7: an arrival by whether its release time has passed, a release by the first event of the merge. -/
theorem eventMergeReleasesInStampOrder : Obligations.EventMergeReleasesInStampOrder := by
  intro s
  refine ⟨fun k e hk ho => ⟨fun h => ?arrives, fun h => ?late⟩, fun i e hi hall => ⟨fun h => ?due, fun h => ?early⟩,
    execEventRelease_empty, fun e => release_discarded⟩
  case arrives =>
    exact ⟨_, (execEventMergeArrival_first hk ho).trans (if_neg (by omega)), rfl, rfl, rfl,
      .setEv (by decide) (.setEv (by decide) .refl)⟩
  case late =>
    exact ⟨s.arrived k, rfl, rfl, rfl, .setEv (by decide) .refl, (execEventMergeArrival_first hk ho).trans (if_pos h)⟩
  case due =>
    exact ⟨s.left i, rfl, rfl, rfl, .setEv (by decide) .refl, (execEventRelease_first (firstEv_least hi hall)).trans (if_pos h)⟩
  case early =>
    exact (execEventRelease_first (firstEv_least hi hall)).trans (if_neg (by omega))
end

section
/-!
One HCORE cycle on an empty queue (R34, R285; log entry 32).
-/
open Sys2Proof Sys2Proof.Machine
namespace Sys2Proof.Machine

variable {s t : State} {tm : TimeSt} {o : Nat}

/-! ## The clocks (R32, R34) -/

/-- In bonbon mode both clocks advance by 16 (R34, R685). -/
theorem tickTime_bonbon : (tickTime tm true).master = tm.master + 16 ∧ (tickTime tm true).raster = tm.raster + 16 := ⟨rfl, rfl⟩

theorem tickTime_master : (tickTime tm false).master = tm.master + 1 := by
  unfold tickTime
  rw [if_neg (by decide)]
  split
  · split <;> rfl
  · rfl

/-- The copy does not go back, and gains at most one tick. -/
theorem tickTime_raster : tm.raster ≤ (tickTime tm false).raster ∧ (tickTime tm false).raster ≤ tm.raster + 2 := by
  unfold tickTime
  rw [if_neg (by decide)]
  split
  · split
    · exact ⟨Nat.le_add_right .., le_rfl⟩
    · exact ⟨le_rfl, Nat.le_add_right ..⟩
  · exact ⟨Nat.le_add_right .., Nat.le_succ _⟩

theorem tickTime_raster_settled (h : tm.corr = 0) : (tickTime tm false).raster = tm.raster + 1 := by
  unfold tickTime
  rw [if_neg (by decide), if_neg (fun e => e.1 h)]

/-! ## The watchdogs (R285) -/

theorem dogCycle_touch : Touch 524288 s (s.dogCycle o) := .dogCycle .refl .refl

theorem coreSt_dogCycle (k : Nat) : (s.dogCycle k).coreSt o = s.coreSt o := by
  unfold State.coreSt State.f
  rw [(touch_same dogCycle_touch .regs (by decide)).1]

theorem wdog_dogCycle_self : ((s.dogCycle o).core o).wdog = (s.core o).wdog + b2n (s.coreSt o == 1) := by
  unfold State.dogCycle
  split
  next h => rw [core_setCore, if_pos rfl, h]; rfl
  next h => rw [beq_false_of_ne h]; rfl

theorem core_dogCycle_other {k : Nat} (h : o ≠ k) : (s.dogCycle k).core o = s.core o := by
  unfold State.dogCycle
  split
  · rw [core_setCore, if_neg h]
  · rfl

/-- A core's turn in a cycle; SQA's cycle ends in some only (R251). -/
def State.dogTurn (sqa : Bool) (s : State) (o : Nat) : State := if o = 0x440 ∧ ¬ sqa then s else s.dogCycle o

theorem dogTurns_touch (sqa : Bool) (l : List Nat) : Touch 524288 s (l.foldl (State.dogTurn sqa) s) :=
  .foldl (fun _ _ h => .ite h (.dogCycle .refl h)) .refl

theorem core_dogTurns_other {sqa : Bool} {l : List Nat} : ∀ {s : State}, o ∉ l →
    (l.foldl (State.dogTurn sqa) s).core o = s.core o := by
  induction l with
  | nil => exact fun _ => rfl
  | cons k l ih =>
    intro s h
    obtain ⟨hk, hl⟩ := List.ne_and_not_mem_of_not_mem_cons h
    rw [List.foldl_cons, ih hl]
    unfold State.dogTurn
    split
    · rfl
    · exact core_dogCycle_other hk

/-- Each core other than SQA has one turn. -/
theorem wdog_dogTurns {sqa : Bool} (hs : o ≠ 0x440) {l : List Nat} : ∀ {s : State}, l.Nodup → o ∈ l →
    ((l.foldl (State.dogTurn sqa) s).core o).wdog = (s.core o).wdog + b2n (s.coreSt o == 1) := by
  induction l with
  | nil => exact fun _ h => absurd h List.not_mem_nil
  | cons k l ih =>
    intro s hn h
    obtain ⟨hk, hn⟩ := List.nodup_cons.1 hn
    rw [List.foldl_cons]
    by_cases e : o = k
    · subst e
      rw [core_dogTurns_other hk, State.dogTurn, if_neg (fun e => hs e.1), wdog_dogCycle_self]
    · rw [ih hn ((List.mem_cons.1 h).resolve_left e)]
      unfold State.dogTurn
      split
      · rfl
      · rw [core_dogCycle_other e, coreSt_dogCycle]

/-! ## The cycle -/

/-- The clocks after the cycle, and SLEWING as it then reads. -/
def State.timePassed (s : State) : State :=
  let u := { s with time := tickTime s.time (s.on fDRV_BON_CTRL_ACTIVE) }
  u.setOn fEVT_TSYNC_STATUS_SLEWING (u.time.corr != 0)

theorem coreSt_timePassed : s.timePassed.coreSt o = s.coreSt o := by
  have key : fldKey (fcState o) ≠ fldKey fEVT_TSYNC_STATUS_SLEWING := by
    unfold fcState
    split
    · simp only [fldKey, fSQR_STATUS_STATE, fEVT_TSYNC_STATUS_SLEWING]
      omega
    · simp only [fldKey, fCPR_STATUS_STATE, fEVT_TSYNC_STATUS_SLEWING]
      omega
  exact (f_setOn ..).trans (if_neg key)

theorem tick_asserted (h : s.boot.porst = true) : s.tick = s := by
  unfold State.tick
  exact if_pos h

theorem tick_eq (h : s.boot.porst = false) : s.tick = allCores.foldl (State.dogTurn
    ((tickTime s.time (s.on fDRV_BON_CTRL_ACTIVE)).raster / 16 != s.time.raster / 16)) s.timePassed := by
  unfold State.tick
  exact if_neg (by rw [h]; decide)

theorem tick_only (h : s.boot.porst = false) : Only [fEVT_TSYNC_STATUS_SLEWING] [.regs, .time, .th] s s.tick := by
  rw [tick_eq h]
  exact Only.touch [.th] (by decide) (by decide) (dogTurns_touch _ _) (.setF (by decide) (.setTime (by decide) .refl))

theorem tick_time (h : s.boot.porst = false) : s.tick.time = tickTime s.time (s.on fDRV_BON_CTRL_ACTIVE) := by
  rw [tick_eq h]
  exact touch_same (dogTurns_touch _ _) .time (by decide)

theorem tick_wdog (h : s.boot.porst = false) (ho : o ∈ allCores) (hs : o ≠ 0x440) :
    (s.tick.core o).wdog = (s.core o).wdog + b2n (s.coreSt o == 1) := by
  rw [tick_eq h, wdog_dogTurns hs (by decide) ho, coreSt_timePassed]
  rfl

end Sys2Proof.Machine

/-- Settles O43: a step on an empty queue is the cycle; its clocks by the mode, its watchdogs core by core. -/
theorem anEmptyQueuePassesOneCycle : Obligations.AnEmptyQueuePassesOneCycle := by
  intro s hq
  refine ⟨fun h => (step_nil hq).trans (congrArg _ (tick_asserted h)), fun h => ⟨_, step_nil hq, tick_only h, ?_⟩⟩
  rw [tick_time h]
  obtain ⟨back, ahead⟩ := tickTime_raster (tm := s.time)
  refine ⟨?master, ?raster, fun hb => ?plain, fun hb => ?bonbon, fun o ho hs => tick_wdog h ho hs⟩
  case plain =>
    rw [hb]
    exact ⟨tickTime_master, ahead, tickTime_raster_settled⟩
  case bonbon =>
    rw [hb]
    exact tickTime_bonbon
  case master =>
    cases s.on fDRV_BON_CTRL_ACTIVE with
    | true => exact Nat.lt_add_of_pos_right (by decide)
    | false => exact tickTime_master.symm ▸ Nat.lt_succ_self _
  case raster =>
    cases s.on fDRV_BON_CTRL_ACTIVE with
    | true => exact Nat.le_add_right ..
    | false => exact back
end

section
/-!
Line starts, line 0, TE waits and SYNCOUT pulses of a raster group (R48, R49, R73 to R75).
-/
open Sys2Proof Sys2Proof.Machine
namespace Sys2Proof.Machine

variable {s u v : State} {g t : Nat}

/-! ## Rasters -/

theorem grp_of_groups (h : u.groups = s.groups) (g : Nat) : u.grp g = s.grp g := by
  unfold State.grp
  rw [h]

theorem grp_setGrp_self (x : Grp) : (s.setGrp g x).grp g = x := (grp_setGrp ..).trans (if_pos rfl)

theorem grp_setGrp_other {h : Nat} (x : Grp) (hne : h ≠ g) : (s.setGrp g x).grp h = s.grp h :=
  (grp_setGrp ..).trans (if_neg hne)

theorem pos_eq_iff {x y : Grp} : x.pos = y.pos ↔ x.line = y.line ∧ x.lineTick = y.lineTick ∧ x.k = y.k ∧ x.k0 = y.k0 ∧
    x.frame = y.frame ∧ x.epoch = y.epoch ∧ x.latchTick = y.latchTick ∧ x.live = y.live ∧ x.latched = y.latched ∧
    x.cur = y.cur := by
  simp only [Grp.pos, Prod.mk.injEq, List.cons.injEq, and_true, and_assoc]

theorem Only.setGrp {fs : List Fld} {ps : List Part} {x : Grp} (hp : Part.groups ∈ ps) (h : Only fs ps s u) :
    Only fs ps s (u.setGrp g x) :=
  h.touch [.groups] (by decide) (List.forall_mem_singleton.2 hp) (.setGrp (m := 512) .refl .refl)

/-! ## Lines after line 0 (R48, R78) -/

/-- The line that starts at tick `t` is made line VACT by an underrun (R78). -/
def State.aborts (s : State) (g t : Nat) : Bool :=
  match (s.grp g).urAbort with
  | some u => decide (u + s.cutoff g ≤ t ∧ (s.grp g).line + 1 < (s.grp g).cur.vact)
  | none => false

/-- The number of the line that starts at tick `t`. -/
def State.nextLineNo (s : State) (g t : Nat) : Nat := if s.aborts g t then (s.grp g).cur.vact else (s.grp g).line + 1

/-- The raster at the line that starts at tick `t`. -/
def State.lineBegun (s : State) (g t : Nat) : Grp :=
  let x := s.grp g
  let y := s.nextLineNo g t
  { x with
    k := x.k + 1
    line := y
    lineTick := t
    porch := if x.cur.vact ≤ y ∧ s.porchEnds g (y - x.cur.vact) t then y - x.cur.vact else x.porch
    urAbort := if x.cur.vact ≤ y then none else x.urAbort
    vactTick := if y = x.cur.vact then t else x.vactTick
    teE := if y = x.cur.vact then none else x.teE }

theorem nextLine_eq : s.nextLine g t =
    (((((s.leaveLine g (s.aborts g t)).setGrp g (s.lineBegun g t)).setF (fTMG_LAD_STATUS_FPORCH g) (s.lineBegun g t).porch).coreLine g
      (some (s.grp g).cur.htotal)).everyLine g) := rfl

theorem nextLineNo_of_none (h : (s.grp g).urAbort = none) : s.nextLineNo g t = (s.grp g).line + 1 := by
  simp [State.nextLineNo, State.aborts, h]

theorem nextLineNo_of_abort {a : Nat} (h : (s.grp g).urAbort = some a) (ha : a + s.cutoff g ≤ t)
    (hl : (s.grp g).line + 1 < (s.grp g).cur.vact) : s.nextLineNo g t = (s.grp g).cur.vact := by
  simp [State.nextLineNo, State.aborts, h, ha, hl]


/-- After the line's own update of the raster nothing moves it. -/
theorem nextLine_still : Still ((s.leaveLine g (s.aborts g t)).setGrp g (s.lineBegun g t)) (s.nextLine g t) := by
  rw [nextLine_eq]
  exact ((Still.setF' .refl).trans (Still.coreLine _ _ _)).trans (Still.everyLine _ _)

theorem nextLine_pos_other {h : Nat} (hne : h ≠ g) : ((s.nextLine g t).grp h).pos = (s.grp h).pos := by
  rw [nextLine_still.grp, grp_setGrp_other _ hne, Still.leaveLine]

theorem nextLine_pos : ((s.nextLine g t).grp g).pos = (s.lineBegun g t).pos := by
  rw [nextLine_still.grp, grp_setGrp_self]

/-! ## Line 0 (R48, R49, R54, R63) -/

/-- A fresh group: its line 0 takes a new epoch (R54, R63, R74). -/
def Grp.fresh (x : Grp) : Bool := !x.live || x.newTiming || x.teWait.isSome

theorem fresh_iff {x : Grp} : x.fresh = true ↔ x.live = false ∨ x.newTiming = true ∨ x.teWait.isSome = true := by
  simp only [Grp.fresh, Bool.or_eq_true, Bool.not_eq_true', or_assoc]

theorem not_fresh {x : Grp} (hl : x.live = true) (ht : x.newTiming = false) (hw : x.teWait = none) : x.fresh = false := by
  simp only [Grp.fresh, hl, ht, hw, Option.isSome_none, Bool.not_true, Bool.or_self]

/-- The raster at line 0 of the frame that opens at tick `t`, the frame before it having ended. -/
def State.frameBegun (s : State) (g t : Nat) : Grp :=
  let x := s.grp g
  let k := if x.fresh then 0 else x.k + 1
  { x with
    epoch := if x.fresh then 65536 * t else x.epoch
    k := k
    k0 := k
    line := 0
    lineTick := t
    live := true
    frame := (x.frame + 1) % 2 ^ 48
    cur := s.timing g
    porch := (s.timing g).vfp
    latched := false
    newTiming := false
    biscuitNext := false
    teWait := none
    teOuts := 0
    applied := if x.biscuitNext then x.applied.map fun a => { a with biscuit := true } else x.applied }

theorem frameBegun_fresh (h : (s.grp g).fresh = true) : (s.frameBegun g t).epoch = 65536 * t ∧ (s.frameBegun g t).k = 0 :=
  ⟨if_pos h, if_pos h⟩

theorem frameBegun_going (h : (s.grp g).fresh = false) :
    (s.frameBegun g t).epoch = (s.grp g).epoch ∧ (s.frameBegun g t).k = (s.grp g).k + 1 := by
  unfold State.frameBegun
  simp only [h, Bool.false_eq_true, if_false, and_self]

/-- The registers that show the frame. -/
def State.frameShown (s : State) (g : Nat) (biscuit : Bool) (porch : Nat) : State :=
  ((s.setOn (fTMG_STATUS_BISCUIT g) biscuit).setF (fTMG_STATUS_TE_WAIT g) 0).setF (fTMG_LAD_STATUS_FPORCH g) porch

/-- A STARTING group is RUNNING from its first frame on (R54). -/
def State.runsFrom (s : State) (g frame : Nat) : State :=
  if s.gState g ≠ 1 then s
  else
    let s := s.groupState g 2 0
    if s.on fPAN_SR_CTRL_SLEEP then s.setSr g true frame else s

/-- The events of the frame. -/
def State.frameTold (s : State) (g frame : Nat) (biscuit : Bool) : State :=
  let s := if biscuit then s else s.raiseApplied g
  if s.on (fTMG_CTRL_FRAME_EVT g) then s.raiseG 0x103 g [(48, frame), (8, b2n biscuit)] else s

/-- Line 0 as the cores see it, the waiting swaps still to be made. -/
def State.frameOpened (s : State) (g t : Nat) (was : Option Nat) : State :=
  let x := s.grp g
  let frame := (x.frame + 1) % 2 ^ 48
  let u := ((s.setGrp g (s.frameBegun g t)).frameShown g x.biscuitNext (s.timing g).vfp).runsFrom g frame
  ((((u.takeFrame g).syncStart g).frameTold g frame x.biscuitNext).occurGroup g 5).coreLine g was

/-- The swaps that waited for line 0 are made (R687). -/
def State.swapsMade (s : State) (g : Nat) : State :=
  let u := (s.grp g).swaps.foldl (fun s e => s.doSwap g e.1 e.2 false) s
  u.setGrp g { u.grp g with swaps := [] }

theorem lineZero_eq : s.lineZero g t =
    ((((s.endFrame g).frameOpened g t (if (s.grp g).live then some (s.grp g).cur.htotal else none)).swapsMade g).bisLine0 g
      ((((s.endFrame g).grp g).frame + 1) % 2 ^ 48)).everyLine g := rfl

/-! ## What line 0 does beside the place of the raster -/

/-- No raster moves and no swap that waits for a line 0 is dropped. -/
def Waits (s u : State) : Prop := Still s u ∧ ∀ g, (u.grp g).swaps = (s.grp g).swaps

namespace Waits

theorem of_groups (h : u.groups = s.groups) : Waits s u := ⟨.of_groups h, fun g => by rw [grp_of_groups h]⟩

theorem refl : Waits s s := of_groups rfl

theorem trans (h : Waits s u) (k : Waits u v) : Waits s v := ⟨h.1.trans k.1, fun g => (k.2 g).trans (h.2 g)⟩

theorem setGrp {x : Grp} (h : x.pos = (s.grp g).pos) (k : x.swaps = (s.grp g).swaps) : Waits s (s.setGrp g x) := by
  refine ⟨.setGrp h, fun g' => ?_⟩
  by_cases e : g' = g
  · rw [e, grp_setGrp_self, k]
  · rw [grp_setGrp_other x e]

theorem of_touch {m : Nat} (h : Touch m s u) (e : (Part.groups.bit &&& m == Part.groups.bit) = false) : Waits s u :=
  of_groups (touch_same h .groups e)

theorem ite {c : Prop} {_ : Decidable c} (h : Waits s u) (k : Waits s v) : Waits s (if c then u else v) := by
  split
  · exact h
  · exact k

theorem foldl {α : Type} {l : List α} {F : State → α → State} (h : ∀ s a, Waits s (F s a)) : Waits s (l.foldl F s) := by
  induction l generalizing s with
  | nil => exact refl
  | cons a l ih => exact (h s a).trans ih

theorem frameShown {b : Bool} {porch : Nat} : Waits s (s.frameShown g b porch) := of_groups rfl

theorem runsFrom {frame : Nat} : Waits s (s.runsFrom g frame) := by
  have running : Waits s (s.groupState g 2 0) := of_groups rfl
  exact ite refl (ite (running.trans (of_touch (m := 131138) (.setSr .refl .refl) (by decide))) running)

theorem takeFrame : Waits s (s.takeFrame g) := by
  unfold State.takeFrame
  exact Waits.trans (of_groups rfl) (setGrp rfl rfl)

theorem syncStart : Waits s (s.syncStart g) := ite refl (setGrp rfl rfl)

theorem raiseApplied : Waits s (s.raiseApplied g) := by
  unfold State.raiseApplied
  refine trans (foldl fun s a => ?_) (setGrp rfl rfl)
  exact trans (foldl (l := a.panes) (F := fun s p => s.setF (fPANE_CHG_FRAME p) _) fun _ _ => of_groups rfl) (of_groups rfl)

theorem frameTold {frame : Nat} {b : Bool} : Waits s (s.frameTold g frame b) :=
  trans (ite refl raiseApplied) (ite (of_groups rfl) refl)

theorem frameOpened {was : Option Nat} : Waits (s.setGrp g (s.frameBegun g t)) (s.frameOpened g t was) := by
  unfold State.frameOpened
  dsimp only
  exact frameShown.trans <| runsFrom.trans <| takeFrame.trans <| syncStart.trans <| frameTold.trans <|
    of_touch (m := 524290) (.coreLine (Has.refl.s rfl) (.occurGroup .refl .refl)) (by decide)

end Waits

theorem swapsMade_still (h : (s.grp g).swaps = []) : Still s (s.swapsMade g) := by
  unfold State.swapsMade
  rw [h]
  exact .setGrp rfl

/-- The end of a frame changes of its group's raster only the ladder. -/
theorem endFrame_grp : ∃ l, (s.endFrame g).grp g = { s.grp g with lad := l } := by
  unfold State.endFrame
  dsimp only
  split
  · exact ⟨_, rfl⟩
  · exact ⟨_, grp_setGrp_self _⟩

theorem endFrame_pos (h : Nat) : ((s.endFrame g).grp h).pos = (s.grp h).pos := Still.endFrame s g h

theorem endFrame_fresh : ((s.endFrame g).grp g).fresh = (s.grp g).fresh := by
  obtain ⟨l, hl⟩ := endFrame_grp (s := s) (g := g)
  rw [hl]
  rfl

/-- With no swap waiting, line 0 places the raster as the frame begins it. -/
theorem lineZero_still (h : (s.grp g).swaps = []) :
    Still ((s.endFrame g).setGrp g ((s.endFrame g).frameBegun g t)) (s.lineZero g t) := by
  have ended : ((s.endFrame g).grp g).swaps = [] := by
    obtain ⟨l, hl⟩ := endFrame_grp (s := s) (g := g)
    rw [hl, h]
  have opened := Waits.frameOpened (s := s.endFrame g) (g := g) (t := t)
    (was := if (s.grp g).live then some (s.grp g).cur.htotal else none)
  have none : (((s.endFrame g).frameOpened g t
      (if (s.grp g).live then some (s.grp g).cur.htotal else none)).grp g).swaps = [] := by
    rw [opened.2, grp_setGrp_self]
    exact ended
  rw [lineZero_eq]
  exact ((opened.1.trans (swapsMade_still none)).trans (Still.bisLine0 _ _ _)).trans (Still.everyLine _ _)

theorem lineZero_pos (h : (s.grp g).swaps = []) : ((s.lineZero g t).grp g).pos = ((s.endFrame g).frameBegun g t).pos := by
  rw [(lineZero_still h).grp, grp_setGrp_self]

theorem lineZero_pos_other {h : Nat} (hs : (s.grp g).swaps = []) (hne : h ≠ g) : ((s.lineZero g t).grp h).pos = (s.grp h).pos := by
  rw [(lineZero_still hs).grp, grp_setGrp_other _ hne, endFrame_pos]

/-! ## The commands -/

section lineStart
variable (hg : g < 16) (hd : (s.grp g).latchDue = false)
include hg hd

theorem not_held_back : ¬ (16 ≤ g ∨ (s.grp g).latchDue = true) := by
  exact fun h => h.elim (by omega) (by rw [hd]; decide)

theorem execLineStart_line (hn : s.nextEv g = .line t) (ht : t ≤ s.time.raster) : execLineStart g s = .next (s.nextLine g t) := by
  unfold execLineStart
  rw [if_neg (not_held_back hg hd), hn]
  exact congrArg Host.Outcome.next (if_pos ht)

theorem execLineStart_zero (hn : s.nextEv g = .zero t) (ht : t ≤ s.time.raster) : execLineStart g s = .next (s.lineZero g t) := by
  unfold execLineStart
  rw [if_neg (not_held_back hg hd), hn]
  exact congrArg Host.Outcome.next (if_pos ht)

theorem execLineStart_early (hn : s.nextEv g = .line t ∨ s.nextEv g = .zero t) (ht : s.time.raster < t) :
    execLineStart g s = .next s := by
  unfold execLineStart
  rw [if_neg (not_held_back hg hd)]
  rcases hn with hn | hn
  all_goals
    rw [hn]
    exact congrArg Host.Outcome.next (if_neg (Nat.not_le.2 ht))

theorem execTeWaitBegin_due (hn : s.nextEv g = .wait t) (ht : t ≤ s.time.raster) : execTeWaitBegin g s =
    .next ((s.setGrp g { s.grp g with teWait := some t, teOuts := 0 }).setF (fTMG_STATUS_TE_WAIT g) 1) := by
  unfold execTeWaitBegin
  rw [if_neg (not_held_back hg hd), hn]
  exact if_neg (Nat.not_lt.2 ht)

end lineStart

theorem execLineStart_latchDue (h : (s.grp g).latchDue = true) : execLineStart g s = .next s := if_pos (.inr h)

theorem execSyncoutPulseEnd_due (h : (s.grp g).syncEnd = some t) (ht : t ≤ s.time.raster) :
    execSyncoutPulseEnd g s = .next (s.setGrp g { s.grp g with syncEnd := none }) := by
  unfold execSyncoutPulseEnd
  simp only [h, if_pos ht]

/-- The tick at which the TE wait that began at tick `w` times out (R75; log entry 121). -/
def State.teLimit (s : State) (g w : Nat) : Nat :=
  ceilTick (65536 * w + ((s.grp g).teOuts + 1) * s.f (fTMG_TE_CFG_TIMEOUT g) * s.lper g)

/-- TE_TIMEOUT is raised. -/
def State.teMissed (s : State) (g : Nat) : State :=
  s.raiseG 0x107 g [(48, (s.grp g).frame + 1), (8, b2n (s.on (fTMG_TE_CFG_FALLBACK g)))]

theorem execTeTimeout_due {w : Nat} (hg : g < 16) (hw : (s.grp g).teWait = some w) (he : (s.grp g).teE = none)
    (hn : s.f (fTMG_TE_CFG_TIMEOUT g) ≠ 0) (ht : s.teLimit g w ≤ s.time.raster) : execTeTimeout g s =
    .next (if s.on (fTMG_TE_CFG_FALLBACK g) then (s.teMissed g).lineZero g (s.teLimit g w)
      else (s.teMissed g).setGrp g { s.grp g with teOuts := (s.grp g).teOuts + 1 }) := by
  have due : ¬ (16 ≤ g ∨ s.f (fTMG_TE_CFG_TIMEOUT g) = 0 ∨ (s.grp g).teE.isSome = true ∨ s.time.raster < s.teLimit g w) := by
    rw [he, Option.isSome_none]
    simp only [Bool.false_eq_true, false_or]
    omega
  unfold execTeTimeout
  dsimp only
  split
  case h_1 none => exact absurd (hw.symm.trans none) (by simp)
  case h_2 w' some =>
    obtain rfl : w = w' := Option.some.inj (hw.symm.trans some)
    exact if_neg due

theorem execTeTimeout_counted {w : Nat} (hg : g < 16) (hw : (s.grp g).teWait = some w) (he : (s.grp g).teE = none)
    (hn : s.f (fTMG_TE_CFG_TIMEOUT g) ≠ 0) (ht : s.teLimit g w ≤ s.time.raster) (hf : s.on (fTMG_TE_CFG_FALLBACK g) = false) :
    execTeTimeout g s = .next ((s.raiseG 0x107 g [(48, (s.grp g).frame + 1), (8, 0)]).setGrp g
      { s.grp g with teOuts := (s.grp g).teOuts + 1 }) := by
  rw [execTeTimeout_due hg hw he hn ht]
  unfold State.teMissed
  rw [hf]
  rfl

end Sys2Proof.Machine

/-- Settles O9: each command by what it runs; a line start and a line 0 by the raster they begin, which nothing after it moves. -/
theorem rasterLinesFollowTheGrid : Obligations.RasterLinesFollowTheGrid := by
  intro s g hg x
  refine ⟨fun hd => ⟨fun t hn ht => ?line, fun t hn ht hs => ?zero, fun t hn ht => execLineStart_early hg hd hn ht, fun t hn ht => ?wait⟩,
    execLineStart_latchDue, fun t he ht => ?pulse, fun w hw he hn hf ht => ?timeout, fun w hw he hn hf hs ht => ?fallback⟩
  case line =>
    obtain ⟨line, tick, k, -, frame, epoch, -, live, -, cur⟩ := pos_eq_iff.1 (nextLine_pos (s := s) (g := g) (t := t))
    exact ⟨_, execLineStart_line hg hd hn ht, k, tick, frame, epoch, cur, live, fun h => line.trans (nextLineNo_of_none h),
      fun a h ha hl => line.trans (nextLineNo_of_abort h ha hl), fun h hne => nextLine_pos_other hne⟩
  case zero =>
    obtain ⟨line, tick, k, -, frame, epoch, -, live, latched, cur⟩ := pos_eq_iff.1 (lineZero_pos (t := t) hs)
    obtain ⟨-, -, ek, -, eframe, eepoch, -⟩ := pos_eq_iff.1 (endFrame_pos (s := s) (g := g) g)
    refine ⟨_, execLineStart_zero hg hd hn ht, line, tick, live, ?_, latched, cur, fun fresh => ?_, fun hl ht hw => ?_, fun h hne =>
      lineZero_pos_other hs hne⟩
    · rw [frame, ← eframe]; rfl
    · obtain ⟨fepoch, fk⟩ := frameBegun_fresh (s := s.endFrame g) (t := t) (endFrame_fresh.trans (fresh_iff.2 fresh))
      exact ⟨epoch.trans fepoch, k.trans fk⟩
    · obtain ⟨gepoch, gk⟩ := frameBegun_going (s := s.endFrame g) (t := t) (endFrame_fresh.trans (not_fresh hl ht hw))
      exact ⟨epoch.trans (gepoch.trans eepoch), k.trans (gk.trans (congrArg (· + 1) ek))⟩
  case wait =>
    refine ⟨_, execTeWaitBegin_due hg hd hn ht, ?_, ?_, fun h hne => grp_setGrp_other _ hne, .setF List.mem_cons_self (.setGrp (by decide) .refl)⟩
    · rw [grp_setF, grp_setGrp_self]
    · rw [f_setF, if_pos rfl]; rfl
  case pulse =>
    exact ⟨_, execSyncoutPulseEnd_due he ht, by rw [grp_setGrp_self], fun h hne => grp_setGrp_other _ hne, .setGrp (by decide) .refl⟩
  case timeout =>
    refine ⟨_, execTeTimeout_counted hg hw he hn ht hf, by rw [grp_setGrp_self], by rw [grp_setGrp_self, hw],
      raised_raise rfl rfl _ _ _ _, .setGrp (by decide) (.raise (by decide) .refl)⟩
  case fallback =>
    obtain ⟨line, tick, -, -, frame, -⟩ := pos_eq_iff.1 (lineZero_pos (s := s.teMissed g) (t := s.teLimit g w) hs)
    obtain ⟨-, -, -, -, eframe, -⟩ := pos_eq_iff.1 (endFrame_pos (s := s.teMissed g) (g := g) g)
    refine ⟨_, (execTeTimeout_due hg hw he hn ht).trans (by rw [if_pos hf]), line, ?_, tick⟩
    rw [frame]
    exact congrArg (fun n => (n + 1) % 2 ^ 48) eframe
end

section
/-!
Cut-offs, latches, commits that reach the raster die, and edges of the SYNCIN and TE pins (R56, R57, R59, R60, R69, R74, R76, R325).
-/
open Sys2Proof Sys2Proof.Machine
namespace Sys2Proof.Machine

variable {s u : State} {g t : Nat} {c : Commit}

/-! ## The cut-off (R56, R67) -/

/-- The raster once the cut-off of its coming latch has passed. -/
def State.cutTaken (s : State) (g : Nat) : Grp :=
  let x := s.grp g
  let r := splitHeld (s.heldNow g) (x.held ++ x.attr)
  { x with
    cutPassed := true
    attr := r.1
    held := r.2.map fun c => { c with waited := true }
    srAtLatch := if x.srEnterAtLatch then 1 else if x.srExitAtLatch then 2 else 0
    srEnterAtLatch := false
    srExitAtLatch := false
    lad := { x.lad with watchedCut := x.lad.watched, watched := false } }

/-- Of the rasters a cut-off changes only its group's. -/
theorem passCutoff_groups : (s.passCutoff g).groups = (s.setGrp g (s.cutTaken g)).groups :=
  touch_same (s := s.setGrp g (s.cutTaken g)) (m := 6324290) (.foldCutoff (Has.refl.s rfl)
    (.bisCutoff (Has.refl.s rfl) (.showPend (Has.refl.s rfl) .refl))) .groups (by decide)

theorem execCutoff_due (hg : g < 16) (hn : s.nextCut g = some t) (ht : t ≤ s.time.raster) (hp : (s.grp g).cutPassed = false) :
    execCutoff g s = .next (s.passCutoff g) := by
  have due : ¬ (16 ≤ g ∨ (s.grp g).cutPassed = true ∨ s.time.raster < t) := by
    rw [hp]
    simp only [Bool.false_eq_true, false_or]
    omega
  unfold execCutoff
  rw [hn]
  exact if_neg due

/-! ## The latch (R57) -/

/-- The raster once its latch is taken at tick `t`. -/
def Grp.latchTaken (x : Grp) (later : List Commit) (t : Nat) : Grp :=
  { x with attr := later, later := [], latched := true, cutPassed := false, latchTick := t }

namespace Still

theorem ite {v : State} {c : Prop} {_ : Decidable c} (h : Still s u) (k : Still s v) : Still s (if c then u else v) := by
  split
  · exact h
  · exact k

theorem setLad {l : Ladder} : Still s (s.setGrp g { s.grp g with lad := l }) := setGrp rfl

theorem pipeDone : Still s (s.pipeDone g) := by
  unfold State.pipeDone
  have captured : Still s (s.captureLatch g) := of_touch (m := 131072) (.captureLatch .refl .refl) (by decide)
  exact ((captured.trans (bisLate _ g)).trans (dropLines _ g)).trans
    (of_touch (m := 264192) (.dropHostPanes (Has.refl.s rfl) (.dropTiles (Has.refl.s rfl) .refl)) (by decide))

theorem pipeNext : Still s (s.pipeNext g) := by
  unfold State.pipeNext
  exact setGrp' rfl (of_touch (m := 133120) (.dropHostPanes (Has.refl.s rfl) (.pixTurn (Has.refl.s rfl) .refl)) (by decide))

end Still

/-- No raster moves before the latch's own update of its group's, nor after it. -/
theorem takeLatch_still : ∃ u, Still s u ∧
    Still (u.setGrp g ((u.grp g).latchTaken (s.grp g).later (s.grp g).lineTick)) (s.takeLatch g) := by
  unfold State.takeLatch
  extract_lets x t exit some_ ends settled folded y taken applied turned changed z ladder cleared porched decided
  have before : Still s folded := .ite .pipeDone (Still.pipeDone.trans (.of_touch (m := 4194370) (.foldLatch .refl .refl) (by decide)))
  have commits : Still taken applied := .foldl _ _ (fun s c => .latchCommit s c t) _
  have turns : Still taken turned := ((commits.trans (.showPend _ g)).trans (.latchSr _ g)).trans .pipeNext
  have clears : Still turned cleared := .setLad
  have ladders : Still taken porched := (turns.trans clears).trans (.setPorch cleared g changed)
  have decides : Still porched decided := .ite (.of_touch (m := 2097218) (.decideBis .refl .refl) (by decide))
    (.of_touch (m := 66) (.decideBand .refl .refl) (by decide))
  exact ⟨folded, before, (ladders.trans decides).trans (.of_touch (m := 524290) (.occurGroup .refl .refl) (by decide))⟩

theorem execLatch_due (hg : g < 16) (hd : (s.grp g).latchDue = true) (hp : (s.grp g).cutPassed = true) :
    execLatch g s = .next (s.takeLatch g) := congrArg Host.Outcome.next (if_pos ⟨hg, hd, hp⟩)

theorem execLatch_early (hd : (s.grp g).latchDue = false) : execLatch g s = .next s :=
  congrArg Host.Outcome.next (if_neg fun h => by simp [h.2.1] at hd)

theorem takeLatch_pos : ((s.takeLatch g).grp g).pos = ((s.grp g).latchTaken [] (s.grp g).lineTick).pos := by
  obtain ⟨u, before, after⟩ := takeLatch_still (s := s) (g := g)
  obtain ⟨line, tick, k, k0, frame, epoch, -, live, -, cur⟩ := pos_eq_iff.1 (before g)
  rw [after, grp_setGrp_self]
  exact pos_eq_iff.2 ⟨line, tick, k, k0, frame, epoch, rfl, live, rfl, cur⟩

theorem takeLatch_pos_other {h : Nat} (hne : h ≠ g) : ((s.takeLatch g).grp h).pos = (s.grp h).pos := by
  obtain ⟨u, before, after⟩ := takeLatch_still (s := s) (g := g)
  rw [after, grp_setGrp_other _ hne, before]

/-! ## A commit that is refused (R60) -/

theorem execCommitArrival_cons {cs : List Commit} (h : s.transit = c :: cs) :
    execCommitArrival s = .next (({ s with transit := cs } : State).arriveCommit c) := by
  unfold execCommitArrival
  rw [h]

theorem arriveCommit_transit : (s.arriveCommit c).transit = s.transit :=
  touch_same (m := 33260226) (.arriveCommit .refl .refl) .transit (by decide)

theorem arriveCommit_refused (h : s.commitCode { c with arrival := s.time.raster } ≠ 0) : s.arriveCommit c =
    s.refuseCommit { c with arrival := s.time.raster } (s.commitCode { c with arrival := s.time.raster }) := by
  unfold State.arriveCommit
  exact if_pos h

theorem refuseCommit_touch {code : Nat} : Touch 2621506 s (s.refuseCommit c code) := .refuseCommit .refl .refl

theorem refuseCommit_enRoute {code : Nat} : (s.refuseCommit c code).ev.enRoute = s.ev.enRoute ++
    [⟨s.clock c.issuer, 0x101, false, c.issuer, locusGroup c.group, packBits [(16, c.cseq), (8, code)]⟩] := by
  unfold State.refuseCommit
  dsimp only
  split <;> rfl

theorem refuseCommit_reports {code : Nat} :
    (s.refuseCommit c code).th.reports = s.th.reports ++ [⟨c.issuer, c.cseq, true⟩] := by
  unfold State.refuseCommit
  dsimp only
  split <;> rfl

/-! ## A commit that waits for a latch (R56, R59, R120) -/

/-- What the raster die reads of the waveform table for a commit it accepts. -/
def State.tableRead (s : State) (c : Commit) : State :=
  let s' := s.withPending.applyWs c.ws
  let s := if wsHas c.ws (fBIS_WF_GRAN c.group).addr then
      s.setBis c.group { s.bis c.group with hdrNew := (s.bis c.group).hdrNew ++ [(c.issuer, c.cseq, s'.readHdr c.group)] } else s
  if driveChecks c.group c.ws ∧ s'.tech c.group = 3 then s.measTable s' c.group else s

/-- The raster with a commit that waits for the coming latch, or past its cut-off for the one after it. -/
def State.commitNoted (s : State) (g : Nat) (c : Commit) : Grp :=
  let x := s.grp g
  let late := s.pastCut g
  let wake := if late ∨ x.latched then (match x.lad.wake with
    | none => some c.arrival
    | some t => some t) else x.lad.wake
  let x := { x with lad := { x.lad with wake := wake } }
  if late then { x with later := insertCommit c x.later } else { x with attr := insertCommit c x.attr }

theorem arriveCommit_accepted (h : s.commitCode { c with arrival := s.time.raster } = 0) : s.arriveCommit c =
    (let u := s.tableRead { c with arrival := s.time.raster }
    if u.gState c.group = 0 then u.applyCommit { c with arrival := s.time.raster } s.time.raster true
    else (u.setGrp c.group (u.commitNoted c.group { c with arrival := s.time.raster })).showPend c.group) := by
  unfold State.arriveCommit
  exact if_neg (not_not.2 h)

theorem commitNoted_attr : (s.commitNoted g c).attr =
    if s.pastCut g = true then (s.grp g).attr else insertCommit c (s.grp g).attr := by
  unfold State.commitNoted
  dsimp only
  split <;> rfl

theorem commitNoted_later : (s.commitNoted g c).later =
    if s.pastCut g = true then insertCommit c (s.grp g).later else (s.grp g).later := by
  unfold State.commitNoted
  dsimp only
  split <;> rfl

theorem tableRead_touch : Touch 18874434 s (s.tableRead c) := by
  unfold State.tableRead
  extract_lets s' x read
  have first : Touch 18874434 s read := .ite (.setBis (Has.refl.s rfl) .refl) .refl
  exact .ite (.measure (Has.refl.s rfl) first) first

theorem f_tableRead (hg : c.group < 16) {y : Fld} (h : outside y 0x03000000 0x03002000) : (s.tableRead c).f y = s.f y := by
  have calm : Calm y s (s.tableRead c) := by
    unfold State.tableRead
    exact Calm.trans (.ite (.setBis' .refl hg h) .refl) (.ite (.measure _ _) .refl)
  exact calm.1

/-! ## When the coming cut-off passes (R56) -/

section congr
variable (hf : ∀ y, outside y 0x03000000 0x03002000 → u.f y = s.f y) (hg : g < 16)
include hf hg

theorem gState_congr : u.gState g = s.gState g :=
  hf _ (by simp only [outside, fTMG_STATUS_STATE]; omega)

theorem gated_congr : u.gated g = s.gated g := by
  unfold State.gated State.on
  rw [hf (fTMG_TE_CFG_TE_EN g) (by simp only [outside, fTMG_TE_CFG_TE_EN]; omega),
    hf (fDRV_MODE_TECH g) (by simp only [outside, fDRV_MODE_TECH]; omega)]

theorem timing_congr : u.timing g = s.timing g := by
  unfold State.timing State.lper State.lead State.cutoff
  simp (disch := (simp only [outside, fTMG_HACT_VALUE, fTMG_HFP_VALUE, fTMG_HSYNC_VALUE, fTMG_HBP_VALUE, fTMG_VACT_VALUE, fTMG_VFP_VALUE,
    fTMG_VSYNC_VALUE, fTMG_VBP_VALUE, fTMG_LPER_INT_LPER_INT, fTMG_LPER_FRAC_LPER_FRAC, fTMG_VLATCH_LOFS, fTMG_VLATCH_LEAD,
    fTMG_CUTOFF_CUTOFF]; omega)) only [hf]

/-- The coming cut-off of a group is told by its raster, its timing and mode registers and the time. -/
theorem pastCut_congr (hx : u.grp g = s.grp g) (ht : u.time = s.time) : u.pastCut g = s.pastCut g := by
  have cutoff : u.cutoff g = s.cutoff g := congrArg Timing.cutoff (timing_congr hf hg)
  unfold State.pastCut State.nextCut State.nextLatch State.abortLine
  rw [hx, ht, cutoff, timing_congr hf hg, gState_congr hf hg, gated_congr hf hg]

end congr

theorem showPend_grp (h : Nat) : (s.showPend g).grp h = s.grp h := rfl

theorem tableRead_grp (h : Nat) : (s.tableRead c).grp h = s.grp h :=
  grp_of_groups (touch_same tableRead_touch .groups (by decide)) h

theorem tableRead_pastCut (hc : c.group < 16) (hg : g < 16) : (s.tableRead c).pastCut g = s.pastCut g :=
  pastCut_congr (fun _ h => f_tableRead hc h) hg (tableRead_grp _) (touch_same tableRead_touch .time (by decide))

/-- A commit that is accepted and waits for a latch. -/
theorem arriveCommit_waits (hg : c.group < 16) (h : s.commitCode { c with arrival := s.time.raster } = 0)
    (hs : s.gState c.group ≠ 0) : s.arriveCommit c = ((s.tableRead { c with arrival := s.time.raster }).setGrp c.group
      ((s.tableRead { c with arrival := s.time.raster }).commitNoted c.group { c with arrival := s.time.raster })).showPend c.group := by
  rw [arriveCommit_accepted h]
  exact if_neg (fun e => hs ((gState_congr (fun _ => f_tableRead hg) hg).symm.trans e))

section waits
variable (hg : c.group < 16) (h : s.commitCode { c with arrival := s.time.raster } = 0) (hs : s.gState c.group ≠ 0)
include hg h hs

theorem arriveCommit_waits_attr : ((s.arriveCommit c).grp c.group).attr = if s.pastCut c.group = true then (s.grp c.group).attr
    else insertCommit { c with arrival := s.time.raster } (s.grp c.group).attr := by
  rw [arriveCommit_waits hg h hs, showPend_grp, grp_setGrp_self, commitNoted_attr, tableRead_grp, tableRead_pastCut (c := { c with arrival := s.time.raster }) hg hg]

theorem arriveCommit_waits_later : ((s.arriveCommit c).grp c.group).later = if s.pastCut c.group = true then
    insertCommit { c with arrival := s.time.raster } (s.grp c.group).later else (s.grp c.group).later := by
  rw [arriveCommit_waits hg h hs, showPend_grp, grp_setGrp_self, commitNoted_later, tableRead_grp, tableRead_pastCut (c := { c with arrival := s.time.raster }) hg hg]

theorem arriveCommit_waits_other {k : Nat} (hne : k ≠ c.group) : (s.arriveCommit c).grp k = s.grp k := by
  rw [arriveCommit_waits hg h hs, showPend_grp, grp_setGrp_other _ hne, tableRead_grp]

end waits

/-! ## Arrival order (R325) -/

/-- A commit that is already there comes before `c`. -/
def precedes (c d : Commit) : Bool := decide (¬ (d.arrival = c.arrival ∧ c.issuer < d.issuer))

theorem insertCommit_eq (l : List Commit) : insertCommit c l = l.takeWhile (precedes c) ++ c :: l.dropWhile (precedes c) := by
  induction l with
  | nil => rfl
  | cons d l ih =>
    unfold insertCommit
    by_cases h : d.arrival = c.arrival ∧ c.issuer < d.issuer
    · have hp : ¬ precedes c d = true := by simp only [precedes, h, and_self, not_true, decide_false, Bool.false_eq_true, not_false_eq_true]
      rw [if_pos h, List.takeWhile_cons_of_neg hp, List.dropWhile_cons_of_neg hp]
      rfl
    · have hp : precedes c d = true := decide_eq_true h
      rw [if_neg h, List.takeWhile_cons_of_pos hp, List.dropWhile_cons_of_pos hp, ih]
      rfl

/-! ## Sources of WAITE leave the raster registers and the rasters alone (R271) -/

theorem Calm.occur {y : Fld} {o src : Nat} (ho : o ∈ trCores) (h : outside y 0x02800000 0x02810000) : Calm y s (s.occur o src) := by
  have ho' : 0x400 ≤ o ∧ o < 0x441 := by simp [trCores] at ho; omega
  have pend : fldKey y ≠ fldKey (fcPend o) :=
    key_ne h (by unfold fcPend; rw [if_pos (by simp [isTR]; omega)]; simp only [inside, fSQR_PEND_PEND]; omega)
  unfold State.occur
  dsimp only
  refine ite refl ?_
  split
  · exact ite (setCore' refl) (putBit pend)
  · split
    · exact ite (setCore' refl) (putBit pend)
    · exact putBit pend

theorem Calm.occurGroup {y : Fld} {src : Nat} (h : outside y 0x02800000 0x02810000) : Calm y s (s.occurGroup g src) :=
  foldl _ _ (fun _ _ ho => ite (occur ho h) refl) s

/-! ## SYNCIN edges (R69) -/

/-- A group takes an edge for genlock. -/
def State.takesSync (s : State) (pin : Nat) (level : Bool) (stamp g : Nat) : Bool :=
  let x := s.grp g
  s.on (fTMG_GENLOCK_GL_EN g) && s.f (fTMG_GENLOCK_SRC g) == pin && level != s.on (fTMG_GENLOCK_POL g) &&
    (match x.gl.tsync, x.gl.e1 with
    | some ts, some e => decide (7 * ts ≤ 8 * (65536 * stamp - e))
    | _, _ => true)

/-- The edge is the last of the raster, the one before it the last but one. -/
def Grp.synced (x : Grp) (stamp : Nat) : Grp := { x with gl := { x.gl with e1 := some (65536 * stamp), e2 := x.gl.e1 } }

/-- A group notes the edge where it takes it. -/
def State.noteSync (pin : Nat) (level : Bool) (stamp : Nat) (s : State) (g : Nat) : State :=
  if s.takesSync pin level stamp g then s.setGrp g ((s.grp g).synced stamp) else s

/-- A rising edge is a source of WAITE for the cores of the raster die. -/
def State.edgeSeen (s : State) (pin : Nat) (level : Bool) : State :=
  if level then trCores.foldl (fun s o => s.occur o (1 + pin)) s else s

theorem execSyncinEdge_eq {pin stamp : Nat} {level : Bool} (hp : pin < 4) (ht : stamp ≤ s.time.raster) :
    execSyncinEdge pin level stamp s = .next (allGroups.foldl (State.noteSync pin level stamp) (s.edgeSeen pin level)) := by
  unfold execSyncinEdge
  exact if_neg (by omega)

section sync
variable {pin stamp : Nat} {level : Bool}

theorem takesSync_congr (hg : g < 16) (hf : ∀ y, outside y 0x02800000 0x02810000 → u.f y = s.f y) (hx : u.grp g = s.grp g) :
    u.takesSync pin level stamp g = s.takesSync pin level stamp g := by
  unfold State.takesSync State.on
  rw [hx, hf (fTMG_GENLOCK_GL_EN g) (by simp only [outside, fTMG_GENLOCK_GL_EN]; omega),
    hf (fTMG_GENLOCK_SRC g) (by simp only [outside, fTMG_GENLOCK_SRC]; omega),
    hf (fTMG_GENLOCK_POL g) (by simp only [outside, fTMG_GENLOCK_POL]; omega)]

theorem takesSync_first (he : s.on (fTMG_GENLOCK_GL_EN g) = true) (hs : s.f (fTMG_GENLOCK_SRC g) = pin)
    (hp : s.on (fTMG_GENLOCK_POL g) = !level) (ht : (s.grp g).gl.tsync = none) : s.takesSync pin level stamp g = true := by
  unfold State.takesSync
  simp [he, hs, hp, ht]

theorem takesSync_other (h : s.on (fTMG_GENLOCK_GL_EN g) = false ∨ s.f (fTMG_GENLOCK_SRC g) ≠ pin ∨
    s.on (fTMG_GENLOCK_POL g) = level) : s.takesSync pin level stamp g = false := by
  unfold State.takesSync
  rcases h with h | h | h <;> simp [h]

theorem f_noteSync (y : Fld) : (s.noteSync pin level stamp g).f y = s.f y := by
  unfold State.noteSync
  split <;> rfl

theorem grp_noteSync_self : (s.noteSync pin level stamp g).grp g =
    if s.takesSync pin level stamp g = true then (s.grp g).synced stamp else s.grp g := by
  unfold State.noteSync
  split
  · exact grp_setGrp_self _
  · rfl

theorem grp_noteSync_other {h : Nat} (hne : g ≠ h) : (s.noteSync pin level stamp h).grp g = s.grp g := by
  unfold State.noteSync
  split
  · exact grp_setGrp_other _ hne
  · rfl

theorem grp_noteSyncs_other {l : List Nat} (h : g ∉ l) : (l.foldl (State.noteSync pin level stamp) s).grp g = s.grp g := by
  induction l generalizing s with
  | nil => rfl
  | cons k l ih =>
    obtain ⟨hk, hl⟩ := not_or.1 (mt List.mem_cons.2 h)
    exact (ih hl).trans (grp_noteSync_other hk)

/-- Each group notes the edge by what it is itself set to. -/
theorem grp_noteSyncs (hg : g < 16) {l : List Nat} (hn : l.Nodup) (h : g ∈ l) : (l.foldl (State.noteSync pin level stamp) s).grp g =
    if s.takesSync pin level stamp g = true then (s.grp g).synced stamp else s.grp g := by
  induction l generalizing s with
  | nil => exact absurd h List.not_mem_nil
  | cons k l ih =>
    obtain ⟨hk, hn⟩ := List.nodup_cons.1 hn
    rw [List.foldl_cons]
    by_cases e : g = k
    · rw [← e, grp_noteSyncs_other (e ▸ hk), grp_noteSync_self]
    · rw [ih hn ((List.mem_cons.1 h).resolve_left e), grp_noteSync_other e,
        takesSync_congr hg (fun y _ => f_noteSync y) (grp_noteSync_other e)]

theorem edgeSeen_grp : (s.edgeSeen pin level).grp g = s.grp g := by
  have touch : Touch 524290 s (s.edgeSeen pin level) := .ite (.foldl (fun _ _ h => .occur .refl h) .refl) .refl
  exact grp_of_groups (touch_same touch .groups (by decide)) g

theorem f_edgeSeen {y : Fld} (h : outside y 0x02800000 0x02810000) : (s.edgeSeen pin level).f y = s.f y := by
  have calm : Calm y s (s.edgeSeen pin level) := .ite (.foldl _ _ (fun _ _ ho => .occur ho h) s) .refl
  exact calm.1

theorem grp_syncinEdge (hg : g < 16) : (allGroups.foldl (State.noteSync pin level stamp) (s.edgeSeen pin level)).grp g =
    if s.takesSync pin level stamp g = true then (s.grp g).synced stamp else s.grp g := by
  rw [grp_noteSyncs (l := allGroups) hg List.nodup_range (List.mem_range.2 hg), takesSync_congr hg (fun _ h => f_edgeSeen h) edgeSeen_grp, edgeSeen_grp]

end sync

/-! ## TE edges (R74, R76) -/

/-- A TE edge is told to those that listen. -/
def State.teTold (s : State) (g : Nat) (level : Bool) (stamp : Nat) : State :=
  (if s.on (fTMG_TE_CFG_TE_EVT g) then s.raiseAt stamp 0x106 (0xB00 + g) (locusGroup g) [(8, b2n level)] else s).occurGroup g 0

/-- A TE edge is noted for the next frame: in the porch or before the first line, after line VACT, the first that comes. -/
def State.teNoted (s : State) (g stamp : Nat) : State :=
  let x := s.grp g
  let open_ := s.gState g != 0 && (!x.live || decide (x.cur.vact ≤ x.line)) && decide (x.vactTick < stamp)
  if open_ ∧ x.teE.isNone then s.setGrp g { x with teE := some stamp } else s

section te
variable {stamp : Nat} {level : Bool}

theorem execTeEdge_eq (hg : g < 16) (ht : stamp ≤ s.time.raster) (hl : level ≠ s.on (fTMG_TE_CFG_POL g)) :
    execTeEdge g level stamp s = .next ((s.teTold g level stamp).teNoted g stamp) := by
  have due : ¬ (16 ≤ g ∨ s.time.raster < stamp ∨ level = s.on (fTMG_TE_CFG_POL g)) := fun h =>
    h.elim (by omega) (fun h => h.elim (by omega) hl)
  unfold execTeEdge
  rw [if_neg due]
  unfold State.teNoted State.teTold
  rfl

theorem teTold_ev : (s.teTold g level stamp).ev.enRoute = s.ev.enRoute ++ (if s.on (fTMG_TE_CFG_TE_EVT g) = true then
    [⟨stamp, 0x106, false, 0xB00 + g, locusGroup g, packBits [(8, b2n level)]⟩] else []) := by
  have occur : ∀ v : State, (v.occurGroup g 0).ev = v.ev := fun v =>
    touch_same (m := 524290) (.occurGroup .refl .refl) .ev (by decide)
  unfold State.teTold
  rw [occur]
  split
  · rfl
  · exact (List.append_nil _).symm

theorem teTold_groups : (s.teTold g level stamp).groups = s.groups := by
  have occur : ∀ v : State, (v.occurGroup g 0).groups = v.groups := fun v =>
    touch_same (m := 524290) (.occurGroup .refl .refl) .groups (by decide)
  unfold State.teTold
  rw [occur]
  split <;> rfl

theorem teTold_gState (hg : g < 16) : (s.teTold g level stamp).gState g = s.gState g := by
  have told : ∀ y, (if s.on (fTMG_TE_CFG_TE_EVT g) then s.raiseAt stamp 0x106 (0xB00 + g) (locusGroup g) [(8, b2n level)] else s).f y =
      s.f y := fun y => by split <;> rfl
  exact (Calm.occurGroup (by simp only [outside, fTMG_STATUS_STATE]; omega)).1.trans (told _)

theorem teNoted_ev : (s.teNoted g stamp).ev = s.ev := by
  unfold State.teNoted
  dsimp only
  split <;> rfl

theorem teNoted_groups (h : (s.grp g).teE.isSome = true) : (s.teNoted g stamp).groups = s.groups := by
  unfold State.teNoted
  rw [if_neg (by rw [Option.isNone_iff_eq_none]; exact fun e => by simp [e.2] at h)]

theorem teNoted_first (hs : s.gState g ≠ 0) (hl : (s.grp g).live = false ∨ (s.grp g).cur.vact ≤ (s.grp g).line)
    (hv : (s.grp g).vactTick < stamp) (he : (s.grp g).teE = none) : ((s.teNoted g stamp).grp g).teE = some stamp := by
  unfold State.teNoted
  dsimp only
  rw [if_pos, grp_setGrp_self]
  rcases hl with hl | hl <;> simp [hs, hl, hv, he]

theorem teNoted_other {h : Nat} (hne : h ≠ g) : (s.teNoted g stamp).grp h = s.grp h := by
  unfold State.teNoted
  dsimp only
  split
  · exact grp_setGrp_other _ hne
  · rfl

end te

end Sys2Proof.Machine

/-- Settles O11: the cut-off and the latch by what they make of their group's raster, an arrival by its code and by the cut-off, an
edge by what the group is set to. -/
theorem cutoffsLatchesCommitsAndEdges : Obligations.CutoffsLatchesCommitsAndEdges := by
  intro s
  refine ⟨fun g t hg hn ht hp => ?cutoff, fun g hg hd hp => ?latch, fun g hg hd => ?noLatch, fun c cs hc hg => ⟨fun h => ?refused, fun h hs => ?waits⟩,
    fun c l => insertCommit_eq l, fun pin level stamp hp ht => ⟨_, execSyncinEdge_eq hp ht, fun g hg he hs hpol hts => ?taken, fun g hg h => ?passed⟩,
    fun g level stamp hg ht hl => ?te⟩
  case cutoff =>
    have grp := grp_of_groups (passCutoff_groups (s := s) (g := g))
    refine ⟨_, execCutoff_due hg hn ht hp, ?_, ?_, ?_, ?_, fun h hne => (grp h).trans (grp_setGrp_other _ hne)⟩
    all_goals
      rw [grp, grp_setGrp_self]
      rfl
  case latch =>
    obtain ⟨line, tick, -, -, frame, epoch, latchTick, -, latched, cur⟩ := pos_eq_iff.1 (takeLatch_pos (s := s) (g := g))
    exact ⟨_, execLatch_due hg hd hp, latched, latchTick, line, tick, frame, epoch, cur, fun h hne => takeLatch_pos_other hne⟩
  case noLatch => exact execLatch_early hd
  case refused =>
    exact ⟨_, (execCommitArrival_cons hc).trans (congrArg _ (arriveCommit_refused h)),
      touch_same refuseCommit_touch .transit (by decide), touch_same refuseCommit_touch .groups (by decide),
      refuseCommit_enRoute, refuseCommit_reports⟩
  case waits =>
    exact ⟨_, execCommitArrival_cons hc, arriveCommit_transit, arriveCommit_waits_attr hg h hs,
      arriveCommit_waits_later hg h hs, fun k => arriveCommit_waits_other hg h hs⟩
  case taken =>
    rw [grp_syncinEdge hg, if_pos (takesSync_first he hs hpol hts)]
    exact ⟨rfl, rfl⟩
  case passed =>
    rw [grp_syncinEdge hg, if_neg (by simp [takesSync_other h])]
  case te =>
    have told := grp_of_groups (teTold_groups (s := s) (g := g) (level := level) (stamp := stamp))
    refine ⟨_, execTeEdge_eq hg ht hl, ?_, fun hs hlive hv he => ?_, fun he => ?_, fun h hne => (teNoted_other hne).trans (told h)⟩
    · rw [teNoted_ev, teTold_ev]
    · exact teNoted_first (by rwa [teTold_gState hg]) (by rwa [told]) (by rwa [told]) (by rwa [told])
    · exact (teNoted_groups (by rwa [told])).trans teTold_groups
end

section
/-!
RUN written in each STATE of a raster group, and the entry into STOPPED (R53 to R55, R59, R80).
-/
open Sys2Proof Sys2Proof.Machine
namespace Sys2Proof.Machine

variable {s u : State} {g : Nat} {y : Fld} {req : Req} {data : Word} {ok : Bool}

/-! ## A write of RUN (R54, R55) -/

/-- The state in which a write of TMG_CTRL finds its group: the fields of the word but RUN are written. -/
def State.ctrlWritten (s : State) (g : Nat) (data : Word) : State :=
  s.putFields (fTMG_CTRL_RUN g).addr data.toNat regTMG_CTRL.fields (s.gState g == 0) (atBits [0])

theorem bit_zero_toNat (w : Word) : (bit w.toNat 0 == 1) = w.getLsbD 0 := by
  rw [bit_eq, ← BitVec.testBit_toNat]
  cases w.toNat.testBit 0 <;> rfl

theorem ctrlRow_taken (hok : ok = true) (hg : g < 16) (ht : s.takesWrite req (fTMG_CTRL_RUN g).addr = true) :
    s.rowWrite ok req (fTMG_CTRL_RUN g) data = .next (((s.ctrlWritten g data).writeRun g (data.getLsbD 0)).wakeBanks) := by
  rw [rowWrite_of s hok, write_TMG_CTRL hg ht data.isLt, writeRaster_TMG_CTRL, bit_zero_toNat]
  rfl

theorem f_ctrlWritten (h : noFlt y = true) (k : y.addr ≠ (fTMG_CTRL_RUN g).addr) : (s.ctrlWritten g data).f y = s.f y := by
  refine f_putFields_ne _ h (fun f hf => ?_) s
  have lo : f.lo < 32 := by
    revert f
    decide
  simp only [noFlt, decide_eq_true_eq] at h
  simp only [fldKey, fldAt]
  omega

theorem ctrlWritten_gState (hg : g < 16) : (s.ctrlWritten g data).gState g = s.gState g :=
  f_ctrlWritten (decide_eq_true (by simp only [fTMG_STATUS_STATE]; omega))
    (by simp only [fTMG_STATUS_STATE, fTMG_CTRL_RUN]; omega)

theorem ctrlWritten_tripped : (s.ctrlWritten g data).on fDRV_PF_TRIPPED = s.on fDRV_PF_TRIPPED := by
  unfold State.on
  rw [f_ctrlWritten (by decide) (by simp only [fDRV_PF_TRIPPED, fTMG_CTRL_RUN]; omega)]

theorem ctrlWritten_groups : (s.ctrlWritten g data).groups = s.groups := putFields_groups ..
theorem ctrlWritten_ev : (s.ctrlWritten g data).ev = s.ev := putFields_ev ..
theorem ctrlWritten_time : (s.ctrlWritten g data).time = s.time := putFields_time ..

/-! ## The fields of a group -/

/-- Fields of one group at different bits or offsets are different fields. -/
theorem tmgKey_ne {a b l m v w : Nat} (h : l < 32 ∧ m < 32 ∧ (a ≠ b ∨ l ≠ m)) :
    fldKey ⟨a + 0x10000 * g, l, v⟩ ≠ fldKey ⟨b + 0x10000 * g, m, w⟩ := by
  simp only [fldKey]
  omega

@[simp] theorem state_w : (fTMG_STATUS_STATE g).w = 3 := rfl
@[simp] theorem run_w : (fTMG_CTRL_RUN g).w = 1 := rfl
@[simp] theorem cfgErr_w : (fTMG_STATUS_CFG_ERR g).w = 4 := rfl
@[simp] theorem chk_w : (fDRV_STATUS_CHK g).w = 8 := rfl
@[simp] theorem run_ne_state : fldKey (fTMG_CTRL_RUN g) ≠ fldKey (fTMG_STATUS_STATE g) := tmgKey_ne (by decide)
@[simp] theorem state_ne_run : fldKey (fTMG_STATUS_STATE g) ≠ fldKey (fTMG_CTRL_RUN g) := run_ne_state.symm
@[simp] theorem cfgErr_ne_run : fldKey (fTMG_STATUS_CFG_ERR g) ≠ fldKey (fTMG_CTRL_RUN g) := tmgKey_ne (by decide)
@[simp] theorem state_ne_cfgErr : fldKey (fTMG_STATUS_STATE g) ≠ fldKey (fTMG_STATUS_CFG_ERR g) := tmgKey_ne (by decide)
@[simp] theorem step_ne_state : fldKey (fTMG_LAD_STATUS_STEP g) ≠ fldKey (fTMG_STATUS_STATE g) := tmgKey_ne (by decide)
@[simp] theorem static_ne_state : fldKey (fTMG_LAD_STATUS_STATIC g) ≠ fldKey (fTMG_STATUS_STATE g) := tmgKey_ne (by decide)
@[simp] theorem run_ne_step : fldKey (fTMG_CTRL_RUN g) ≠ fldKey (fTMG_LAD_STATUS_STEP g) := tmgKey_ne (by decide)
@[simp] theorem run_ne_static : fldKey (fTMG_CTRL_RUN g) ≠ fldKey (fTMG_LAD_STATUS_STATIC g) := tmgKey_ne (by decide)
@[simp] theorem step_ne_static : fldKey (fTMG_LAD_STATUS_STEP g) ≠ fldKey (fTMG_LAD_STATUS_STATIC g) := tmgKey_ne (by decide)

/-! A field of a group in the raster block is none of the blocks behind it. -/

theorem state_inside (hg : g < 16) : inside (fTMG_STATUS_STATE g) 0x02000000 0x02100000 := by
  simp only [inside, fTMG_STATUS_STATE]
  omega

theorem run_inside (hg : g < 16) : inside (fTMG_CTRL_RUN g) 0x02000000 0x02100000 := by
  simp only [inside, fTMG_CTRL_RUN]
  omega

theorem cfgErr_inside (hg : g < 16) : inside (fTMG_STATUS_CFG_ERR g) 0x02000000 0x02100000 := by
  simp only [inside, fTMG_STATUS_CFG_ERR]
  omega

theorem step_inside (hg : g < 16) : inside (fTMG_LAD_STATUS_STEP g) 0x02000000 0x02100000 := by
  simp only [inside, fTMG_LAD_STATUS_STEP]
  omega

theorem static_inside (hg : g < 16) : inside (fTMG_LAD_STATUS_STATIC g) 0x02000000 0x02100000 := by
  simp only [inside, fTMG_LAD_STATUS_STATIC]
  omega

theorem pair_inside (hg : g < 16) : inside (fTMG_LAD_STATUS_PAIR g) 0x02000000 0x02100000 := by
  simp only [inside, fTMG_LAD_STATUS_PAIR]
  omega

theorem chk_lo_addr : (fDRV_STATUS_CHK g).lo < 32 ∧ 0x02100000 ≤ (fDRV_STATUS_CHK g).addr := by
  simp only [fDRV_STATUS_CHK]
  omega

/-! ## A start that fails its checks (R54, R425) -/

/-- The event of a group that shows a STATE and a code (R80). -/
def State.stateEv (s : State) (g st code : Nat) : Ev :=
  ⟨s.clock (0x800 + g), 0x108, false, 0x800 + g, locusGroup g, packBits [(8, st), (8, code)]⟩

theorem stateEv_of_time (h : u.time = s.time) (st code : Nat) : u.stateEv g st code = s.stateEv g st code := by
  simp only [State.stateEv, State.clock, h]

theorem groupState_enRoute (st code : Nat) : (s.groupState g st code).ev.enRoute = s.ev.enRoute ++ [s.stateEv g st code] := rfl

/-- The code of a failed start is shown where it belongs. -/
def State.codeShown (s : State) (g code : Nat) : State :=
  if 16 ≤ code then (s.setF (fDRV_STATUS_CHK g) code).setF (fTMG_STATUS_CFG_ERR g) 0 else s.setF (fTMG_STATUS_CFG_ERR g) code

theorem startGroup_refused (hc : s.startCode g ≠ 0) : s.startGroup g =
    ((s.codeShown g (s.startCode g)).setF (fTMG_CTRL_RUN g) 0).raiseG 0x108 g [(8, 0), (8, s.startCode g)] := by
  unfold State.startGroup
  exact if_pos hc

theorem codeShown_touch {code : Nat} : Touch 2 s (s.codeShown g code) :=
  .ite (.setF .refl (.setF .refl .refl)) (.setF .refl .refl)

/-! ## A group starts (R54) -/

theorem pipeNext_grp : ((s.pipeNext g).grp g) = { s.grp g with dropRaised := false, skipRaised := false, srAtOnce := false } := by
  have kept : ((s.pixTurn g).dropHostPanes g).groups = s.groups :=
    touch_same (m := 133120) (.dropHostPanes (Has.refl.s rfl) (.pixTurn (Has.refl.s rfl) .refl)) .groups (by decide)
  unfold State.pipeNext
  rw [grp_setGrp_self, grp_of_groups kept]

/-- The registers that show a start. -/
def State.startShown (s : State) (g : Nat) : State :=
  ((s.setF (fTMG_CTRL_RUN g) 1).setF (fTMG_LAD_STATUS_STEP g) 0).setF (fTMG_LAD_STATUS_STATIC g) 0

/-- A start in three steps: the raster begins, with no event; RUN, the ladder and STATE are shown; and what follows leaves both alone. -/
theorem startGroup_starts (hg : g < 16) (hc : s.startCode g = 0) : ∃ u, Touch 2492930 s u ∧ (u.grp g).live = false ∧
    (u.grp g).due = ceilTick (65536 * s.time.raster + (s.lead g + 1) * s.lper g) ∧ (s.startGroup g).groups = u.groups ∧
    ∀ y, inside y 0x02000000 0x02100000 → Calm y ((u.startShown g).groupState g 1 0) (s.startGroup g) := by
  unfold State.startGroup
  extract_lets code refused x due begun cleared b ready shown checked next decided
  rw [if_neg (not_not.2 hc)]
  have kept : Touch 393218 begun ((cleared.dropLines g).dropTiles g) := .dropTiles (Has.refl.s rfl) (.dropLines (Has.refl.s rfl)
    (.histClear (Has.refl.s rfl) (.dropCaptures (Has.refl.s rfl) .refl)))
  have begins : Touch 2492930 s ready := .setBis (Has.refl.s rfl) (.pipeNext (Has.refl.s rfl) (.dropTiles (Has.refl.s rfl)
    (.dropLines (Has.refl.s rfl) (.histClear (Has.refl.s rfl) (.dropCaptures (Has.refl.s rfl) (.setGrp (Has.refl.s rfl) .refl))))))
  have shows : ready.groups = (((cleared.dropLines g).dropTiles g).pipeNext g).groups :=
    touch_same (m := 2097154) (.setBis .refl .refl) .groups (by decide)
  have live : (ready.grp g).live = (begun.grp g).live := by
    rw [grp_of_groups shows, pipeNext_grp, grp_of_groups (touch_same kept .groups (by decide))]
  have due' : (ready.grp g).due = (begun.grp g).due := by
    rw [grp_of_groups shows, pipeNext_grp, grp_of_groups (touch_same kept .groups (by decide))]
  have raster : begun.grp g = _ := grp_setGrp_self _
  have checks : Touch 19431490 ready checked := .checkPlanes (Has.refl.s rfl) (.groupState (Has.refl.s rfl)
    (.setF (Has.refl.s rfl) (.setF (Has.refl.s rfl) (.setF (Has.refl.s rfl) .refl))))
  have follows : Touch 19431490 ready (decided.armStart g) := .armStart (Has.refl.s rfl)
    (.ite (.bisStart (Has.refl.s rfl) (.measTable (t1 := checked) (Has.refl.s rfl) checks checks)) (.decideBand (Has.refl.s rfl) checks))
  refine ⟨ready, begins, live.trans (by rw [raster]), due'.trans (by rw [raster]), touch_same follows .groups (by decide), fun y h => ?_⟩
  have pix : outside y 0x02400000 0x02401000 := by simp only [inside, outside] at *; omega
  have bis : outside y 0x03000000 0x03002000 := by simp only [inside, outside] at *; omega
  have nvs : outside y 0x00800000 0x00801000 := by simp only [inside, outside] at *; omega
  have sqr : outside y 0x02800000 0x02810000 := by simp only [inside, outside] at *; omega
  have planes : Calm y ((ready.startShown g).groupState g 1 0) checked := .checkPlanes hg pix
  have decides : Calm y checked decided := .ite ((Calm.measure _ _).trans (.bisStart hg pix bis nvs)) (.decideBand hg pix)
  exact (planes.trans decides).trans (.armStart g sqr)



/-- STARTING, RUN and the first step of the ladder, as a start shows them. -/
theorem startShown_shows : ((u.startShown g).groupState g 1 0).f (fTMG_STATUS_STATE g) = 1 ∧
    ((u.startShown g).groupState g 1 0).f (fTMG_CTRL_RUN g) = 1 ∧
    ((u.startShown g).groupState g 1 0).f (fTMG_LAD_STATUS_STEP g) = 0 ∧
    ((u.startShown g).groupState g 1 0).f (fTMG_LAD_STATUS_STATIC g) = 0 := by
  simp [State.startShown]

/-- A group that started shows STARTING, RUN and its first ladder step, and its first event says so. -/
theorem startGroup_shows (hg : g < 16) (hc : s.startCode g = 0) : (s.startGroup g).gState g = 1 ∧
    (s.startGroup g).f (fTMG_CTRL_RUN g) = 1 ∧ ((s.startGroup g).grp g).live = false ∧
    (s.startGroup g).f (fTMG_LAD_STATUS_STEP g) = 0 ∧ (s.startGroup g).f (fTMG_LAD_STATUS_STATIC g) = 0 ∧
    ((s.startGroup g).grp g).due = ceilTick (65536 * s.time.raster + (s.lead g + 1) * s.lper g) ∧
    ∃ l, (s.startGroup g).ev.enRoute = s.ev.enRoute ++ s.stateEv g 1 0 :: l := by
  obtain ⟨u, begins, live, due, groups, calm⟩ := startGroup_starts hg hc
  obtain ⟨state, run, step, static⟩ := startShown_shows (u := u) (g := g)
  obtain ⟨stateKept, l, ev⟩ := calm _ (state_inside hg)
  have runKept := (calm _ (run_inside hg)).1
  have stepKept := (calm _ (step_inside hg)).1
  have staticKept := (calm _ (static_inside hg)).1
  have shows : Touch 2492930 s (u.startShown g) := .setF (Has.refl.s rfl) (.setF (Has.refl.s rfl) (.setF (Has.refl.s rfl) begins))
  have first : ((u.startShown g).groupState g 1 0).ev.enRoute = s.ev.enRoute ++ [s.stateEv g 1 0] := by
    rw [groupState_enRoute, stateEv_of_time (touch_same shows .time (by decide)), touch_same shows .ev (by decide)]
  have same : (s.startGroup g).grp g = u.grp g := grp_of_groups groups g
  exact ⟨stateKept.trans state, runKept.trans run, (congrArg Grp.live same).trans live, stepKept.trans step,
    staticKept.trans static, (congrArg Grp.due same).trans due, l, by rw [ev, first, List.append_assoc, List.singleton_append]⟩

/-! ## What a write of RUN does in each STATE (R54, R55) -/

theorem writeRun_starts (hs : s.gState g = 0) (ht : s.on fDRV_PF_TRIPPED = false) (hf : s.on fFLT_STATUS_TERMINAL = false) :
    s.writeRun g true = s.startGroup g := by
  simp [State.writeRun, hs, ht, hf]

theorem writeRun_resumes (hs : s.gState g = 3) (ht : s.on fDRV_PF_TRIPPED = false) (hf : s.on fFLT_STATUS_TERMINAL = false) :
    s.writeRun g true = s.resumeGroup g := by
  simp [State.writeRun, hs, ht, hf]

/-- A STOPPING group remembers the STATE it left. -/
def State.stopping (s : State) (g : Nat) : State :=
  ((s.setGrp g { s.grp g with left := s.gState g }).setF (fTMG_CTRL_RUN g) 0).groupState g 3 0

theorem stopping_grp : (s.stopping g).grp g = { s.grp g with left := s.gState g } := grp_setGrp_self _

theorem writeRun_stops (hs : s.gState g = 1 ∨ s.gState g = 2) (ht : (s.grp g).teWait = none) :
    s.writeRun g false = s.stopping g := by
  have stops : s.stopGroup g = s.stopping g := if_pos hs
  unfold State.writeRun
  rw [if_neg Bool.false_ne_true]
  extract_lets stopped
  refine (if_neg fun h => ?_).trans stops
  rw [show stopped = s.stopping g from stops, stopping_grp, ht] at h
  exact Bool.false_ne_true h.2

/-- STATE, RUN and the fields of the code after a refused start: a code of group timing is shown in CFG_ERR, a code of the drive
in CHK. -/
theorem codeShown_shows {code : Nat} (hg : g < 16) (hs : s.gState g = 0) : ((s.codeShown g code).setF (fTMG_CTRL_RUN g) 0).gState g = 0 ∧
    ((s.codeShown g code).setF (fTMG_CTRL_RUN g) 0).f (fTMG_CTRL_RUN g) = 0 ∧
    (code < 16 → ((s.codeShown g code).setF (fTMG_CTRL_RUN g) 0).f (fTMG_STATUS_CFG_ERR g) = code) ∧
    (16 ≤ code → ((s.codeShown g code).setF (fTMG_CTRL_RUN g) 0).f (fTMG_STATUS_CFG_ERR g) = 0 ∧
      ((s.codeShown g code).setF (fTMG_CTRL_RUN g) 0).f (fDRV_STATUS_CHK g) = code % 256) := by
  have state : fldKey (fTMG_STATUS_STATE g) ≠ fldKey (fDRV_STATUS_CHK g) := Calm.tmg_ne (state_inside hg) chk_lo_addr
  have cfg := Calm.tmg_ne (cfgErr_inside hg) (chk_lo_addr (g := g))
  have run := Calm.tmg_ne (run_inside hg) (chk_lo_addr (g := g))
  unfold State.gState State.codeShown at *
  split
  · next drive => simp [hs, state, cfg.symm, run.symm, Nat.not_lt.2 drive]
  · next timing => simp +contextual [hs, timing, Nat.mod_eq_of_lt]

/-- What is read after a refused start. -/
theorem refused_shows (hg : g < 16) (hs : s.gState g = 0) (hc : s.startCode g ≠ 0) : (s.startGroup g).gState g = 0 ∧
    (s.startGroup g).f (fTMG_CTRL_RUN g) = 0 ∧ (s.startCode g < 16 → (s.startGroup g).f (fTMG_STATUS_CFG_ERR g) = s.startCode g) ∧
    (16 ≤ s.startCode g → (s.startGroup g).f (fTMG_STATUS_CFG_ERR g) = 0 ∧ (s.startGroup g).f (fDRV_STATUS_CHK g) = s.startCode g % 256) := by
  have refused : (s.startGroup g).regs = ((s.codeShown g (s.startCode g)).setF (fTMG_CTRL_RUN g) 0).regs :=
    congrArg (·.regs) (startGroup_refused hc)
  have reads (y : Fld) : (s.startGroup g).f y = _ := congrArg (regGet · y) refused
  rw [State.gState, reads, reads, reads, reads]
  exact codeShown_shows hg hs

theorem stopping_shows : (s.stopping g).gState g = 3 ∧ (s.stopping g).f (fTMG_CTRL_RUN g) = 0 := by
  simp [State.gState, State.stopping]

/-! ## A STOPPING group resumes (R55, R122, R136) -/

theorem resumeGroup_touch : Touch 2 (((s.setF (fTMG_CTRL_RUN g) 1).groupState g (s.grp g).left 0)) (s.resumeGroup g) :=
  .ite .refl (.setOn .refl (.putBit .refl .refl))

/-- STATE and RUN of a group that resumes; in STARTING it is no longer in self-refresh. -/
theorem resumeGroup_shows (hg : g < 16) : (s.resumeGroup g).gState g = (s.grp g).left % 8 ∧ (s.resumeGroup g).f (fTMG_CTRL_RUN g) = 1 ∧
    ((s.resumeGroup g).gState g = 1 → bit ((s.resumeGroup g).f fPAN_SR_STATUS_GROUPS) g = 0) := by
  have block : fPAN_SR_STATUS_GROUPS.lo < 32 ∧ 0x02100000 ≤ fPAN_SR_STATUS_GROUPS.addr := by decide
  have block' : fPAN_SR_STATUS_ACTIVE.lo < 32 ∧ 0x02100000 ≤ fPAN_SR_STATUS_ACTIVE.addr := by decide
  have apart : fldKey fPAN_SR_STATUS_GROUPS ≠ fldKey fPAN_SR_STATUS_ACTIVE := by decide
  have bits (n : Nat) : bit (putBit n g false % 2 ^ fPAN_SR_STATUS_GROUPS.w) g = 0 :=
    (bit_putBit n g g 16 false hg).trans (if_pos rfl)
  have shown : ((s.setF (fTMG_CTRL_RUN g) 1).groupState g (s.grp g).left 0).gState g = (s.grp g).left % 8 := by
    simp [State.gState]
  unfold State.resumeGroup
  extract_lets resumed woken
  rw [show resumed.gState g = _ from shown]
  split
  · next h => exact ⟨shown, by simp [resumed], fun k => absurd (shown.symm.trans k) h⟩
  · refine ⟨?_, ?_, fun _ => ?_⟩
    · simp [State.gState, woken, resumed, Calm.tmg_ne (state_inside hg) block, Calm.tmg_ne (state_inside hg) block']
    · simp [woken, resumed, Calm.tmg_ne (run_inside hg) block, Calm.tmg_ne (run_inside hg) block']
    · rw [f_setOn, if_neg apart, f_putBit, if_pos rfl, bits]

/-! ## What is read once the banks are awake (R634) -/

theorem f_wakeBanks_inside (h : inside y 0x02000000 0x02100000) : s.wakeBanks.f y = s.f y := by
  refine f_wakeBanks _ (decide_eq_true ?_)
  simp only [inside] at h
  omega

theorem wake_gState (hg : g < 16) : s.wakeBanks.gState g = s.gState g := f_wakeBanks_inside (state_inside hg)

theorem wake_grp (h : Nat) : s.wakeBanks.grp h = s.grp h := grp_of_groups (wake_groups _) h

theorem f_wakeBanks_chk : s.wakeBanks.f (fDRV_STATUS_CHK g) = s.f (fDRV_STATUS_CHK g) := by
  refine f_wakeBanks _ (decide_eq_true ?_)
  simp only [fDRV_STATUS_CHK]
  omega

/-! ## The commands that write RUN -/

section
variable (hg : g < 16) (ht : s.takesWrite req (fTMG_CTRL_RUN g).addr = true)
include hg ht

theorem groupRun_starts (hb : data.getLsbD 0 = true) (hs : s.gState g = 0) (hp : s.on fDRV_PF_TRIPPED = false)
    (hf : (s.ctrlWritten g data).on fFLT_STATUS_TERMINAL = false) :
    exec (.groupRun req g data) s = .next ((s.ctrlWritten g data).startGroup g).wakeBanks := by
  rw [exec_groupRun]
  refine (ctrlRow_taken (by simp [hg, hs, show wbit data 0 = _ from hb]) hg ht).trans ?_
  rw [hb, writeRun_starts ((ctrlWritten_gState hg).trans hs) (ctrlWritten_tripped.trans hp) hf]

theorem groupResume_resumes (hb : data.getLsbD 0 = true) (hs : s.gState g = 3) (hp : s.on fDRV_PF_TRIPPED = false)
    (hf : (s.ctrlWritten g data).on fFLT_STATUS_TERMINAL = false) :
    exec (.groupResume req g data) s = .next ((s.ctrlWritten g data).resumeGroup g).wakeBanks := by
  rw [exec_groupResume]
  refine (ctrlRow_taken (by simp [hg, hs, show wbit data 0 = _ from hb]) hg ht).trans ?_
  rw [hb, writeRun_resumes ((ctrlWritten_gState hg).trans hs) (ctrlWritten_tripped.trans hp) hf]

theorem groupStop_stops (hb : data.getLsbD 0 = false) (hs : s.gState g = 1 ∨ s.gState g = 2) (hw : (s.grp g).teWait = none) :
    exec (.groupStop req g data) s = .next ((s.ctrlWritten g data).stopping g).wakeBanks := by
  rw [exec_groupStop]
  refine (ctrlRow_taken (by simp [hg, hs, show wbit data 0 = _ from hb]) hg ht).trans ?_
  rw [hb, writeRun_stops (by rwa [ctrlWritten_gState hg]) (by rwa [grp_of_groups ctrlWritten_groups])]

end

/-! ## The entry into STOPPED (R55) -/

/-- A chain of a group that stops: a table that waits takes over, its lines end, and HOLDs fill four blocks (R372, R402). -/
theorem Calm.stopChain (h : inside y 0x02000000 0x02100000) (c : Nat) (ls : State → List Nat) (n : State → Nat) (b : List Byte)
    (p q : State → Prop) [DecidablePred p] [DecidablePred q] :
    let active := if p s then s.activate c else s
    let dark := (ls active).foldl (fun s l => s.setLn l { s.ln l with lineOn := false }) active
    Calm y s (if q dark then dark else (List.range 4).foldl (fun s _ => s.sendCtl c b) (dark.idleChain c (n dark))) := by
  intro active dark
  have lit : Calm y s active := .ite (.activate h c) .refl
  have ends : Calm y s dark := lit.trans (.foldl _ _ (fun _ _ _ => setLn' .refl) _)
  have idle : Calm y dark (dark.idleChain c (n dark)) := .of_touch (m := 1048592) (.idleChain .refl .refl) (by decide) (by decide)
  exact .ite ends (ends.trans (idle.trans (.holds c _ _)))

/-- With no commit, swap or request that waits, the entry into STOPPED empties the group and shows STATE and PAIR; what follows
around the raster block leaves both alone. -/
theorem enterStopped_ends (hs : (s.grp g).swaps = []) (ha : (s.grp g).attr = []) (hh : (s.grp g).held = []) (hl : (s.grp g).later = []) :
    ∃ u : State, u.f (fTMG_STATUS_STATE g) = 0 ∧ u.f (fTMG_LAD_STATUS_PAIR g) = 0 ∧ (u.grp g).live = false ∧ (u.grp g).latched = false ∧
      (s.enterStopped g).groups = u.groups ∧ ∀ y, inside y 0x02000000 0x02100000 → Calm y (u.showPend g) (s.enterStopped g) := by
  unfold State.enterStopped
  extract_lets chains ended x tick emptied stopped swapped committed z shown cleared active slept
  obtain ⟨l, frame⟩ := endFrame_grp (s := s) (g := g)
  have swaps : x.swaps = [] := (congrArg Grp.swaps frame).trans hs
  have attr : x.attr = [] := (congrArg Grp.attr frame).trans ha
  have held : x.held = [] := (congrArg Grp.held frame).trans hh
  have later : x.later = [] := (congrArg Grp.later frame).trans hl
  have noSwap : swapped = stopped := by
    simp only [swapped, swaps, List.foldl_nil]
  have noCommit : committed = swapped := by
    simp only [committed, held, attr, later, List.append_nil, List.foldl_nil]
  have emptiedGrp : (stopped.grp g).live = false ∧ (stopped.grp g).latched = false := by
    rw [show stopped.grp g = emptied.grp g from rfl, show emptied.grp g = _ from grp_setGrp_self _]
    exact ⟨rfl, rfl⟩
  have apart : fldKey (fTMG_LAD_STATUS_PAIR g) ≠ fldKey (fTMG_STATUS_STATE g) := tmgKey_ne (by decide)
  have settles : Touch 3670098 shown (((slept.discardEdges g).railStopped g).panTol) :=
    .panTol (Has.refl.s rfl) (.railStopped (Has.refl.s rfl) (.discardEdges (Has.refl.s rfl) (.foldl (fun _ _ h =>
      .seq (.seq (.ite .refl (.foldl (fun _ _ h => .sendCtl (Has.refl.s rfl) h) (.idleChain (Has.refl.s rfl) .refl)))
        (.foldl (fun _ _ h => .setLn (Has.refl.s rfl) h) .refl)) (.ite (.activate (Has.refl.s rfl) h) h))
      (.setOn (Has.refl.s rfl) (.putBit (Has.refl.s rfl) .refl)))))
  refine ⟨committed.setGrp g { z with newTiming := false, biscuitNext := false }, ?_, ?_, ?_, ?_,
    touch_same settles .groups (by decide), fun y h => ?_⟩
  · rw [f_setGrp, noCommit, noSwap, f_groupState, if_pos rfl]
    rfl
  · rw [f_setGrp, noCommit, noSwap, f_groupState, if_neg apart, f_setF, if_pos rfl]
    rfl
  · rw [grp_setGrp_self]
    exact (congrArg (fun t : State => (t.grp g).live) (noCommit.trans noSwap)).trans emptiedGrp.1
  · rw [grp_setGrp_self]
    exact (congrArg (fun t : State => (t.grp g).latched) (noCommit.trans noSwap)).trans emptiedGrp.2
  · have asleep : Calm y shown active := (Calm.putBit (Calm.tmg_ne h (by decide))).setF' (Calm.tmg_ne h (by decide))
    have chainsStop : Calm y active slept := .foldl _ _ (fun t c _ =>
      .stopChain h c (·.pairsOf c) (·.txNow c) _ (fun t => (t.ln c).epoch.isSome) (fun t => t.lnSt c = 4)) _
    exact (((asleep.trans chainsStop).trans (.discardEdges h g)).trans (.railStopped h g)).trans (.panTol h)

/-- With nothing that waits, a stopped group is empty and shows it. -/
theorem enterStopped_rests (hg : g < 16) (hs : (s.grp g).swaps = []) (ha : (s.grp g).attr = []) (hh : (s.grp g).held = [])
    (hl : (s.grp g).later = []) : (s.enterStopped g).gState g = 0 ∧ (s.enterStopped g).f (fTMG_LAD_STATUS_PAIR g) = 0 ∧
      ((s.enterStopped g).grp g).live = false ∧ ((s.enterStopped g).grp g).latched = false := by
  obtain ⟨u, state, pair, live, latched, groups, calm⟩ := enterStopped_ends hs ha hh hl
  have same : (s.enterStopped g).grp g = u.grp g := grp_of_groups groups g
  have pends {y : Fld} (hp : fldKey y ≠ fldKey (fTMG_STATUS_PEND g)) (hd : fldKey y ≠ fldKey (fTMG_STATUS_DEFERRING g)) :
      (u.showPend g).f y = u.f y := (Calm.setF' (.setF hp) hd).1
  refine ⟨?_, ?_, (congrArg Grp.live same).trans live, (congrArg Grp.latched same).trans latched⟩
  · exact ((calm _ (state_inside hg)).1.trans (pends (tmgKey_ne (by decide)) (tmgKey_ne (by decide)))).trans state
  · exact ((calm _ (pair_inside hg)).1.trans (pends (tmgKey_ne (by decide)) (tmgKey_ne (by decide)))).trans pair

theorem groupEnterStopped_enters (hg : g < 16) (hd : (s.grp g).latchDue = false)
    (due : (∃ t, s.nextEv g = .stop t ∧ t ≤ s.time.raster) ∨ (s.gState g = 3 ∧ (s.grp g).teWait.isSome = true)) :
    exec (.groupEnterStopped g) s = .next (s.enterStopped g) := by
  rw [exec_groupEnterStopped]
  unfold execGroupEnterStopped
  rw [if_neg (by simp [hd, hg])]
  by_cases waits : s.gState g = 3 ∧ (s.grp g).teWait.isSome = true
  · exact if_pos waits
  · obtain ⟨t, ht, hle⟩ := due.resolve_right waits
    rw [if_neg waits, ht]
    exact congrArg Host.Outcome.next (if_pos hle)

/-! ## The events and groups after each write of RUN -/

theorem stateEv_ctrlWritten (st code : Nat) : (s.ctrlWritten g data).stateEv g st code = s.stateEv g st code :=
  stateEv_of_time ctrlWritten_time st code

/-- A start that fails its checks: one event with the code, and no group changes. -/
theorem refused_rest (hc : s.startCode g ≠ 0) :
    (s.startGroup g).ev.enRoute = s.ev.enRoute ++ [s.stateEv g 0 (s.startCode g)] ∧ (s.startGroup g).groups = s.groups := by
  have shown : Touch 2 s ((s.codeShown g (s.startCode g)).setF (fTMG_CTRL_RUN g) 0) := .setF .refl codeShown_touch
  rw [startGroup_refused hc, raiseG_groups, touch_same shown .groups (by decide), raiseG_ev, touch_same shown .ev (by decide)]
  exact ⟨congrArg (_ ++ [·]) (stateEv_of_time (touch_same shown .time (by decide)) _ _), rfl⟩

theorem stopping_rest : (s.stopping g).ev.enRoute = s.ev.enRoute ++ [s.stateEv g 3 0] ∧ ∀ h, h ≠ g → (s.stopping g).grp h = s.grp h :=
  ⟨rfl, fun _ hne => grp_setGrp_other _ hne⟩

theorem resumeGroup_rest : (s.resumeGroup g).ev.enRoute = s.ev.enRoute ++ [s.stateEv g (s.grp g).left 0] ∧
    (s.resumeGroup g).groups = s.groups := by
  rw [touch_same resumeGroup_touch .ev (by decide), touch_same resumeGroup_touch .groups (by decide)]
  exact ⟨rfl, rfl⟩

end Sys2Proof.Machine

/-- Settles O10: each write of RUN is its STATE's own operation, read once the banks are awake; the entry into STOPPED empties
the group. -/
theorem groupsStartStopAndResume : Obligations.GroupsStartStopAndResume := by
  unfold Obligations.GroupsStartStopAndResume
  intro s g hg
  refine ⟨fun req data ht => ?_, fun hd hs ha hh hl due => ⟨_, groupEnterStopped_enters hg hd due, enterStopped_rests hg hs ha hh hl⟩⟩
  intro w code st
  have event (n c : Nat) : w.stateEv g n c = st n c := stateEv_ctrlWritten n c
  have groups : w.groups = s.groups := ctrlWritten_groups
  have enRoute : w.ev.enRoute = s.ev.enRoute := congrArg (·.enRoute) ctrlWritten_ev
  have time : w.time = s.time := ctrlWritten_time
  have group (h : Nat) : w.grp h = s.grp h := grp_of_groups groups h
  have state : w.gState g = s.gState g := ctrlWritten_gState hg
  refine ⟨fun hb h0 hp hf => ?_, fun hb h12 hw => ?_, fun hb h3 hp hf => ?_⟩
  · have starts := groupRun_starts hg ht hb h0 hp hf
    have stopped := state.trans h0
    refine ⟨fun hc => ⟨(w.startGroup g).wakeBanks, starts, ?_⟩, fun hc lt => ⟨(w.startGroup g).wakeBanks, starts, ?_⟩,
      fun le => ⟨(w.startGroup g).wakeBanks, starts, ?_⟩⟩
    · obtain ⟨shown, run, live, step, static, due, l, ev⟩ := startGroup_shows hg hc
      rw [wake_gState hg, f_wakeBanks_inside (run_inside hg), f_wakeBanks_inside (step_inside hg),
        f_wakeBanks_inside (static_inside hg), wake_grp, wake_ev, ev, enRoute, event]
      exact ⟨shown, run, live, step, static, time ▸ due, l, rfl⟩
    · obtain ⟨ev, kept⟩ := refused_rest (s := w) hc
      obtain ⟨shown, run, cfg, -⟩ := refused_shows (s := w) hg stopped hc
      rw [wake_gState hg, f_wakeBanks_inside (run_inside hg), f_wakeBanks_inside (cfgErr_inside hg), wake_ev, wake_groups, ev, kept,
        enRoute, groups, event]
      exact ⟨shown, run, cfg lt, rfl, rfl⟩
    · have hc : code ≠ 0 := by omega
      obtain ⟨ev, kept⟩ := refused_rest (s := w) hc
      obtain ⟨shown, run, -, drive⟩ := refused_shows (s := w) hg stopped hc
      obtain ⟨cfg, chk⟩ := drive le
      rw [wake_gState hg, f_wakeBanks_inside (run_inside hg), f_wakeBanks_inside (cfgErr_inside hg), f_wakeBanks_chk, wake_ev,
        wake_groups, ev, kept, enRoute, groups, event]
      exact ⟨shown, run, cfg, chk, rfl, rfl⟩
  · obtain ⟨ev, kept⟩ := stopping_rest (s := w) (g := g)
    obtain ⟨shown, run⟩ := stopping_shows (s := w) (g := g)
    refine ⟨(w.stopping g).wakeBanks, groupStop_stops hg ht hb h12 hw, (wake_gState hg).trans shown,
      (f_wakeBanks_inside (run_inside hg)).trans run, ?_, ?_, fun h hne => ?_⟩
    · rw [wake_grp, stopping_grp]
      exact state
    · rw [wake_ev, ev, enRoute, event]
    · rw [wake_grp, kept h hne, group]
  · obtain ⟨ev, kept⟩ := resumeGroup_rest (s := w) (g := g)
    obtain ⟨shown, run, awake⟩ := resumeGroup_shows (s := w) hg
    refine ⟨(w.resumeGroup g).wakeBanks, groupResume_resumes hg ht hb h3 hp hf, (wake_gState hg).trans ?_,
      (f_wakeBanks_inside (run_inside hg)).trans run, ?_, ?_, ?_⟩
    · rw [shown, group]
    · rw [wake_ev, ev, enRoute, event, group]
    · rw [wake_groups, kept, groups]
    · rw [wake_gState hg, f_wakeBanks _ (by decide)]
      exact awake

end

section
/-!
Requests for self-refresh, the table-load engine and the spans of the pixel pipeline (R122, R126, R138, R140, R145 to R148).
-/
open Sys2Proof Sys2Proof.Machine
namespace Sys2Proof.Machine

variable {s t u : State} {g : Nat} {y : Fld} {req : Req} {data : Word}

/-! ## Writes of SLEEP (R122, R126) -/

/-- The raster of a running group that SLEEP = `v` binds to enter or to leave self-refresh at its next latch. -/
def State.srTold (s : State) (g : Nat) (v : Bool) : Grp :=
  if v then { s.grp g with srEnterAtLatch := !s.inSr g || (s.grp g).srAtLatch == 2, srExitAtLatch := false }
  else { s.grp g with srExitAtLatch := s.inSr g || (s.grp g).srAtLatch == 1, srEnterAtLatch := false }

/-- SLEEP = `v` reaches one group: the round of `State.writeSleep`. -/
def State.srTell (v : Bool) (s : State) (g : Nat) : State := if s.running g then s.setGrp g (s.srTold g v) else s

/-- The registers that a write of SLEEP shows. -/
def State.sleepShown (s : State) (v : Bool) : State := (if v then s.setF fPAN_SR_STATUS_CAUSE 1 else s).setOn fPAN_SR_CTRL_SLEEP v

theorem srTell_eq (v : Bool) : s.srTell v g = if ¬ s.running g then s
    else if v then s.setGrp g { s.grp g with srEnterAtLatch := !s.inSr g || (s.grp g).srAtLatch == 2, srExitAtLatch := false }
    else s.setGrp g { s.grp g with srExitAtLatch := s.inSr g || (s.grp g).srAtLatch == 1, srEnterAtLatch := false } := by
  unfold State.srTell State.srTold
  by_cases running : s.running g = true
  · rw [if_pos running, if_neg (not_not.2 running)]
    split <;> rfl
  · rw [if_neg running, if_pos running]

theorem writeSleep_eq (v : Bool) : s.writeSleep v = allGroups.foldl (State.srTell v) (s.sleepShown v) := by
  rw [show State.srTell v = fun s g => s.srTell v g from rfl]
  simp only [srTell_eq]
  rfl

variable {v : Bool} {h : Nat}

theorem srTell_regs : (s.srTell v h).regs = s.regs := by
  unfold State.srTell
  split <;> rfl

theorem srTell_ev : (s.srTell v h).ev = s.ev := by
  unfold State.srTell
  split <;> rfl

theorem srTell_grp_self : (s.srTell v g).grp g = if s.running g = true then s.srTold g v else s.grp g := by
  unfold State.srTell
  split
  · exact grp_setGrp_self _
  · rfl

theorem srTell_grp_other (hne : g ≠ h) : (s.srTell v h).grp g = s.grp g := by
  unfold State.srTell
  split
  · exact grp_setGrp_other _ hne
  · rfl

theorem running_of_regs (hr : u.regs = s.regs) : u.running g = s.running g :=
  congrArg (fun r => decide (2 ≤ regGet r (fTMG_STATUS_STATE g))) hr

theorem srTold_congr (hr : u.inSr g = s.inSr g) (hx : u.grp g = s.grp g) : u.srTold g v = s.srTold g v := by
  unfold State.srTold
  rw [hr, hx]

theorem inSr_of_regs (hr : u.regs = s.regs) : u.inSr g = s.inSr g :=
  congrArg (fun r => bit (regGet r fPAN_SR_STATUS_GROUPS) g == 1) hr

/-- Of the groups that SLEEP reaches in turn, each running one is bound and no other raster changes. -/
theorem foldl_srTell (l : List Nat) (hl : l.Nodup) : ∀ s : State, (l.foldl (State.srTell v) s).regs = s.regs ∧
    (l.foldl (State.srTell v) s).ev = s.ev ∧
    (l.foldl (State.srTell v) s).grp g = if g ∈ l ∧ s.running g = true then s.srTold g v else s.grp g := by
  induction l with
  | nil => exact fun s => ⟨rfl, rfl, rfl⟩
  | cons h l ih =>
    intro s
    obtain ⟨fresh, distinct⟩ := List.nodup_cons.1 hl
    obtain ⟨regs, ev, grp⟩ := ih distinct (s.srTell v h)
    refine ⟨regs.trans srTell_regs, ev.trans srTell_ev, grp.trans ?_⟩
    by_cases e : g = h
    · subst e
      simp only [fresh, false_and, if_false, srTell_grp_self, List.mem_cons_self, true_and]
    · simp only [running_of_regs srTell_regs, srTold_congr (inSr_of_regs srTell_regs) (srTell_grp_other e), srTell_grp_other e,
        List.mem_cons, e, false_or]

theorem f_sleepShown (hs : fldKey y ≠ fldKey fPAN_SR_CTRL_SLEEP) (hc : fldKey y ≠ fldKey fPAN_SR_STATUS_CAUSE) :
    (s.sleepShown v).f y = s.f y := by
  cases v <;> simp [State.sleepShown, hs, hc]

theorem sleepShown_groups : (s.sleepShown v).groups = s.groups := by
  cases v <;> rfl

theorem sleepShown_ev : (s.sleepShown v).ev = s.ev := by
  cases v <;> rfl

theorem sleepShown_shows : (s.sleepShown v).f fPAN_SR_CTRL_SLEEP = b2n v ∧
    (s.sleepShown v).f fPAN_SR_STATUS_CAUSE = if v then 1 else s.f fPAN_SR_STATUS_CAUSE := by
  have apart : fldKey fPAN_SR_STATUS_CAUSE ≠ fldKey fPAN_SR_CTRL_SLEEP := by decide
  cases v
  · exact ⟨(f_setOn ..).trans (if_pos rfl), (f_setOn ..).trans (if_neg apart)⟩
  · exact ⟨(f_setOn ..).trans (if_pos rfl), ((f_setOn ..).trans (if_neg apart)).trans ((f_setF ..).trans (if_pos rfl))⟩

theorem sleepShown_running (hg : g < 16) : (s.sleepShown v).running g = s.running g := by
  unfold State.running State.gState
  rw [f_sleepShown] <;> simp only [fldKey, fTMG_STATUS_STATE, fPAN_SR_CTRL_SLEEP, fPAN_SR_STATUS_CAUSE] <;> omega

theorem sleepShown_inSr : (s.sleepShown v).inSr g = s.inSr g := by
  unfold State.inSr
  rw [f_sleepShown (by decide) (by decide)]

/-- After a write of SLEEP: what it shows, and each running group bound (R122, R126). -/
theorem writeSleep_binds : (s.writeSleep v).f fPAN_SR_CTRL_SLEEP = b2n v ∧
    (s.writeSleep v).f fPAN_SR_STATUS_CAUSE = (if v then 1 else s.f fPAN_SR_STATUS_CAUSE) ∧ (s.writeSleep v).ev = s.ev ∧
    ∀ g, g < 16 → (s.writeSleep v).grp g = if s.running g = true then s.srTold g v else s.grp g := by
  rw [writeSleep_eq]
  have each (g : Nat) := foldl_srTell (v := v) (g := g) allGroups List.nodup_range (s.sleepShown v)
  obtain ⟨regs, ev, -⟩ := each 0
  have reads (y : Fld) : (allGroups.foldl (State.srTell v) (s.sleepShown v)).f y = (s.sleepShown v).f y := congrArg (regGet · y) regs
  obtain ⟨sleep, cause⟩ := sleepShown_shows (s := s) (v := v)
  refine ⟨(reads _).trans sleep, (reads _).trans cause, ev.trans sleepShown_ev, fun g hg => ?_⟩
  obtain ⟨-, -, grp⟩ := each g
  have same : (s.sleepShown v).grp g = s.grp g := grp_of_groups sleepShown_groups g
  have mem : g ∈ allGroups := List.mem_range.2 hg
  rw [grp, srTold_congr sleepShown_inSr same, same, sleepShown_running hg]
  simp only [mem, true_and]

theorem sleepRow_taken {ok : Bool} (hok : ok = true) (ht : s.takesWrite req fPAN_SR_CTRL_SLEEP.addr = true) :
    s.rowWrite ok req fPAN_SR_CTRL_SLEEP data = .next (s.writeSleep (data.getLsbD 0)).wakeBanks := by
  rw [rowWrite_of s hok, write_PAN_SR_CTRL ht data.isLt, writeRaster_PAN_SR_CTRL, bit_zero_toNat]

theorem srSleepSet_binds (ht : s.takesWrite req fPAN_SR_CTRL_SLEEP.addr = true) (hb : data.getLsbD 0 = true) :
    exec (.srSleepSet req data) s = .next (s.writeSleep true).wakeBanks := by
  rw [exec_srSleepSet]
  refine (sleepRow_taken (show wbit data 0 = true from hb) ht).trans ?_
  rw [hb]

theorem srSleepClear_binds (ht : s.takesWrite req fPAN_SR_CTRL_SLEEP.addr = true) (hb : data.getLsbD 0 = false) :
    exec (.srSleepClear req data) s = .next (s.writeSleep false).wakeBanks := by
  rw [exec_srSleepClear]
  refine (sleepRow_taken (by rw [show wbit data 0 = false from hb]; rfl) ht).trans ?_
  rw [hb]

/-! ## A write of PIX_TLD_CTRL (R145 to R147) -/

/-- The fields of a write of PIX_TLD_CTRL are shown. -/
def State.tldShown (s : State) (v : Nat) : State :=
  (((s.setF fPIX_TLD_CTRL_DIR (bit v 30)).setF fPIX_TLD_CTRL_GROUP (bitsOf v 27 24)).setF fPIX_TLD_CTRL_KIND (bitsOf v 21 20)).setF
    fPIX_TLD_CTRL_BANK (bit v 16)

/-- The transfer that a write of PIX_TLD_CTRL asks for. -/
def State.tldAsked (s : State) (by_ v : Nat) : Tld :=
  ⟨bitsOf v 27 24, bitsOf v 21 20, bit v 16, bit v 30, s.f fPIX_TLD_SRC_GRAN, 0, by_⟩

/-- A load clears LOADED of its bank first, whatever its outcome (R146). -/
def State.unloaded (s : State) (t : Tld) : State :=
  if t.dir = 0 then s.putBit (fLoaded t.group t.kind) t.bank false else s

/-- The transfer is under way. -/
def State.tldStarted (s : State) (t : Tld) : State := ({ s with pix := { s.pix with tld := some t } }).setF fPIX_TLD_STATUS_BUSY 1

theorem f_tldShown (hy : outside y 0x02401000 0x02401004) (v : Nat) : (s.tldShown v).f y = s.f y := by
  have apart {x : Fld} (hx : inside x 0x02401000 0x02401004) : fldKey y ≠ fldKey x := Calm.key_ne hy hx
  simp only [State.tldShown, f_setF, apart (x := fPIX_TLD_CTRL_DIR) (by simp only [inside]; decide),
    apart (x := fPIX_TLD_CTRL_GROUP) (by simp only [inside]; decide), apart (x := fPIX_TLD_CTRL_KIND) (by simp only [inside]; decide),
    apart (x := fPIX_TLD_CTRL_BANK) (by simp only [inside]; decide), if_false]

theorem tldShown_on_busy (v : Nat) : (s.tldShown v).on fPIX_TLD_STATUS_BUSY = s.on fPIX_TLD_STATUS_BUSY := by
  unfold State.on
  rw [f_tldShown (by simp only [outside]; decide)]

theorem writeTldCtrl_busy {n v : Nat} (hgo : bit v 31 = 1) (hb : s.on fPIX_TLD_STATUS_BUSY = true) :
    s.writeTldCtrl n v = (s.tldShown v).setW1c fPIX_TLD_STATUS_REJECT 0 := by
  have busy : (s.tldShown v).on fPIX_TLD_STATUS_BUSY = true := (tldShown_on_busy v).trans hb
  unfold State.writeTldCtrl
  extract_lets dir shown
  rw [if_neg (by rw [hgo]; decide)]
  exact if_pos busy

/-- The checks of a transfer, in the order of R146, once LOADED is cleared. -/
def State.tldJudged (s : State) (t : Tld) : State :=
  if t.dir = 0 ∧ s.bankInUse t.group t.kind t.bank then (s.err 1 fPIX_TLD_CTRL_GO.addr).endTld t 2
  else if fsEnd < 256 * t.gran + 2 * tblEntries t.kind then s.endTld t 3
  else s.tldStarted t

/-- GO with a valid KIND while the engine is idle (R146). -/
theorem writeTldCtrl_idle {n v : Nat} (hgo : bit v 31 = 1) (hb : s.on fPIX_TLD_STATUS_BUSY = false) (hk : bitsOf v 21 20 ≠ 3) :
    s.writeTldCtrl n v = ((s.tldShown v).unloaded (s.tldAsked n v)).tldJudged (s.tldAsked n v) := by
  have idle : ¬ (s.tldShown v).on fPIX_TLD_STATUS_BUSY = true := by
    rw [tldShown_on_busy, hb]
    decide
  have asked : s.tldAsked n v = (s.tldShown v).tldAsked n v := by
    unfold State.tldAsked
    rw [f_tldShown (by simp only [outside]; decide)]
  rw [asked]
  unfold State.writeTldCtrl
  refine (if_neg (by rw [hgo]; decide)).trans ((if_neg idle).trans ((if_neg hk).trans ?_))
  exact congrArg (State.tldJudged · ((s.tldShown v).tldAsked n v)) (if_congr (and_iff_left hk) rfl rfl)

/-! ## What a started and an ended transfer show (R145, R146, R148) -/

/-- A field of PIX_STATUS. -/
theorem fLoaded_inside {kind : Nat} (hg : g < 16) : inside (fLoaded g kind) 0x02400000 0x02401000 := by
  unfold fLoaded
  split <;> simp only [inside, fPIX_STATUS_GAM_LD, fPIX_STATUS_OD_LD, fPIX_STATUS_NOISE_LD] <;> omega

theorem fLoaded_w {kind : Nat} : (fLoaded g kind).w = 2 := by
  unfold fLoaded
  split <;> rfl

theorem fLoaded_outside {kind lo hi : Nat} (hg : g < 16) (h : 0x02401000 ≤ lo ∨ hi ≤ 0x02400000) : outside (fLoaded g kind) lo hi := by
  have := fLoaded_inside (kind := kind) hg
  simp only [inside, outside] at *
  omega

theorem noFlt_of_outside (h : outside y 0x03600000 0x03600100) : noFlt y = true := decide_eq_true ⟨h.2, h.1⟩
theorem noBank_of_outside (h : outside y 0x01200000 0x01200410) : noBank y = true := decide_eq_true ⟨h.2, h.1⟩

/-- The engine's own registers. -/
theorem tldStatus_inside : inside fPIX_TLD_STATUS_BUSY 0x02401008 0x0240100C ∧ inside fPIX_TLD_STATUS_RESULT 0x02401008 0x0240100C ∧
    inside fPIX_TLD_STATUS_ROUNDS 0x02401008 0x0240100C := by
  simp only [inside]
  decide

variable {x : Tld} {r : Nat}

theorem unloaded_of_load (hd : x.dir = 0) : s.unloaded x = s.putBit (fLoaded x.group x.kind) x.bank false := if_pos hd
theorem unloaded_of_readback (hd : x.dir = 1) : s.unloaded x = s := if_neg (by rw [hd]; decide)

/-- LOADED of a bank after it was written. -/
theorem bit_putBit_loaded {b : Nat} {kind : Nat} {on : Bool} (hb : b < 2) :
    bit ((s.putBit (fLoaded g kind) b on).f (fLoaded g kind)) b = b2n on := by
  rw [f_putBit, if_pos rfl, fLoaded_w, bit_putBit _ _ _ _ _ hb, if_pos rfl]

theorem tldStarted_busy : (s.tldStarted x).f fPIX_TLD_STATUS_BUSY = 1 := (f_setF ..).trans (if_pos rfl)

theorem f_tldStarted (hy : outside y 0x02401008 0x0240100C) : (s.tldStarted x).f y = s.f y :=
  (f_setF ..).trans (if_neg (Calm.key_ne hy tldStatus_inside.1))

/-- The registers that show the end of a transfer. -/
def State.tldEnded (s : State) (x : Tld) (r : Nat) : State :=
  let s := (((s.setF fPIX_TLD_STATUS_BUSY 0).setF fPIX_TLD_STATUS_RESULT r).setF fPIX_TLD_STATUS_ROUNDS (min x.rounds 65535))
  if r = 1 then s.deferred 8 else s

/-- TLD_DONE of a transfer that ends in the state `s` (R148, R173). -/
def State.tldEv (s : State) (x : Tld) (r : Nat) : Ev :=
  ⟨s.clock (0x800 + x.group), 0x123, false, 0x800 + x.group, locusGroup x.group,
    packBits [(8, r), (8, x.kind), (8, x.bank), (8, x.dir), (16, min x.rounds 65535)]⟩

theorem endTld_regs : (s.endTld x r).regs = (s.tldEnded x r).regs := by
  unfold State.endTld State.tldEnded
  dsimp only
  split <;> rfl

theorem endTld_pix : (s.endTld x r).pix = { s.pix with tld := none } := by
  unfold State.endTld
  dsimp only
  split <;> rfl

theorem endTld_fs : (s.endTld x r).fs = s.fs := by
  unfold State.endTld
  dsimp only
  split <;> rfl

theorem endTld_enRoute : (s.endTld x r).ev.enRoute = s.ev.enRoute ++ [s.tldEv x r] := by
  unfold State.endTld
  dsimp only
  split <;> rfl

theorem f_endTld : (s.endTld x r).f y = (s.tldEnded x r).f y := congrArg (regGet · y) endTld_regs

theorem endTld_shows (hr : r < 8) : (s.endTld x r).f fPIX_TLD_STATUS_BUSY = 0 ∧ (s.endTld x r).f fPIX_TLD_STATUS_RESULT = r := by
  have width : r % 2 ^ fPIX_TLD_STATUS_RESULT.w = r := Nat.mod_eq_of_lt hr
  rw [f_endTld, f_endTld]
  unfold State.tldEnded State.deferred
  split
  · simp only [f_count, f_setF, width]
    exact ⟨rfl, rfl⟩
  · simp only [f_setF, width]
    exact ⟨rfl, rfl⟩

theorem f_endTld_other (hy : outside y 0x02401008 0x0240100C) (ha : outside y 0x01000000 0x01000100) :
    (s.endTld x r).f y = s.f y := by
  obtain ⟨busy, result, rounds⟩ := tldStatus_inside
  have deferrals : fldKey y ≠ fldKey (fARB_REQ_DEF_DEFERRALS 8) := Calm.key_ne ha (by simp only [inside]; decide)
  rw [f_endTld]
  unfold State.tldEnded State.deferred
  split <;> simp only [f_count, f_setF, deferrals, Calm.key_ne hy busy, Calm.key_ne hy result, Calm.key_ne hy rounds, if_false]

/-- A W1C field of one bit, once the block has set it. -/
theorem f_setW1c_one (hy : y.w = 1) : (s.setW1c y 0).f y = 1 := by
  rw [f_setW1c, if_pos rfl, hy]
  simp only [putBit, bit, if_true]
  omega

theorem err_cfgLive {a : Nat} : (s.err 1 a).f fFLT_STATUS_ERR_CFG_LIVE = 1 := f_setW1c_one rfl

theorem err_pix {k a : Nat} : (s.err k a).pix = s.pix := by
  unfold State.err
  dsimp only
  split <;> rfl

/-! ## GO as the commands write it (R145 to R147) -/

theorem bit_toNat (w : Word) (i : Nat) : bit w.toNat i = b2n (w.getLsbD i) := by
  rw [bit_eq, BitVec.testBit_toNat]

theorem tldRow_taken {ok : Bool} (hok : ok = true) (ht : s.takesWrite req fPIX_TLD_CTRL_GO.addr = true) :
    s.rowWrite ok req fPIX_TLD_CTRL_GO data = .next (s.writeTldCtrl (reqNum req) data.toNat).wakeBanks := by
  rw [rowWrite_of s hok, write_PIX_TLD_CTRL ht data.isLt, writeRaster_PIX_TLD_CTRL]

theorem tableLoad_go (ht : s.takesWrite req fPIX_TLD_CTRL_GO.addr = true) (hgo : data.getLsbD 31 = true) (hd : data.getLsbD 30 = false) :
    exec (.tableLoad req data) s = .next (s.writeTldCtrl (reqNum req) data.toNat).wakeBanks := by
  rw [exec_tableLoad]
  exact tldRow_taken (by simp only [wbit, hgo, hd, Bool.not_false, Bool.and_self]) ht

theorem tableReadback_go (ht : s.takesWrite req fPIX_TLD_CTRL_GO.addr = true) (hgo : data.getLsbD 31 = true)
    (hd : data.getLsbD 30 = true) :
    exec (.tableReadback req data) s = .next (s.writeTldCtrl (reqNum req) data.toNat).wakeBanks := by
  rw [exec_tableReadback]
  exact tldRow_taken (by simp only [wbit, hgo, hd, Bool.and_self]) ht

/-- Whether a transfer is asked to or from the frame store, a GO is the write of PIX_TLD_CTRL. -/
theorem tableGo (ht : s.takesWrite req fPIX_TLD_CTRL_GO.addr = true) (hgo : data.getLsbD 31 = true) :
    exec (if data.getLsbD 30 then .tableReadback req data else .tableLoad req data) s =
      .next (s.writeTldCtrl (reqNum req) data.toNat).wakeBanks := by
  by_cases hd : data.getLsbD 30 = true
  · rw [if_pos hd, tableReadback_go ht hgo hd]
  · rw [if_neg hd, tableLoad_go ht hgo (Bool.not_eq_true _ ▸ hd)]

theorem tldJudged_inUse (hd : x.dir = 0) (hu : s.bankInUse x.group x.kind x.bank = true) :
    s.tldJudged x = (s.err 1 fPIX_TLD_CTRL_GO.addr).endTld x 2 := if_pos ⟨hd, hu⟩

theorem tldJudged_starts (hu : x.dir = 0 → s.bankInUse x.group x.kind x.bank = false)
    (hs : 256 * x.gran + 2 * tblEntries x.kind ≤ fsEnd) : s.tldJudged x = s.tldStarted x := by
  unfold State.tldJudged
  rw [if_neg fun h => by simp [hu h.1] at h, if_neg (Nat.not_lt.2 hs)]

theorem tldAsked_eq {d : Bool} (hd : data.getLsbD 30 = d) (n : Nat) : s.tldAsked n data.toNat =
    ⟨bitsOf data.toNat 27 24, bitsOf data.toNat 21 20, bit data.toNat 16, b2n d, s.f fPIX_TLD_SRC_GRAN, 0, n⟩ := by
  rw [← hd, ← bit_toNat]
  rfl

/-- What is read once a transfer is under way: BUSY, and LOADED, tables and events as they were. -/
theorem tldStarted_shows (hg : x.group < 16) : (s.tldStarted x).wakeBanks.pix = { s.pix with tld := some x } ∧
    (s.tldStarted x).wakeBanks.f fPIX_TLD_STATUS_BUSY = 1 ∧
    (s.tldStarted x).wakeBanks.f (fLoaded x.group x.kind) = s.f (fLoaded x.group x.kind) ∧ (s.tldStarted x).wakeBanks.ev = s.ev := by
  rw [wake_pix, wake_ev, f_wakeBanks _ (by decide), f_wakeBanks _ (noBank_of_outside (fLoaded_outside hg (by decide))),
    f_tldStarted (fLoaded_outside hg (by decide))]
  exact ⟨rfl, tldStarted_busy, rfl, rfl⟩

/-- What is read once a load into a bank in use was refused (R146). -/
theorem tldRefused_shows {a : Nat} (hg : x.group < 16) : ((s.err 1 a).endTld x 2).wakeBanks.pix = { s.pix with tld := none } ∧
    ((s.err 1 a).endTld x 2).wakeBanks.f fPIX_TLD_STATUS_BUSY = 0 ∧ ((s.err 1 a).endTld x 2).wakeBanks.f fPIX_TLD_STATUS_RESULT = 2 ∧
    ((s.err 1 a).endTld x 2).wakeBanks.f (fLoaded x.group x.kind) = s.f (fLoaded x.group x.kind) ∧
    ((s.err 1 a).endTld x 2).wakeBanks.f fFLT_STATUS_ERR_CFG_LIVE = 1 := by
  obtain ⟨busy, result⟩ := endTld_shows (s := s.err 1 a) (x := x) (r := 2) (by decide)
  have loaded : ((s.err 1 a).endTld x 2).f (fLoaded x.group x.kind) = s.f (fLoaded x.group x.kind) :=
    (f_endTld_other (fLoaded_outside hg (by decide)) (fLoaded_outside hg (by decide))).trans
      (f_err _ (noFlt_of_outside (fLoaded_outside hg (by decide))) ..)
  have live : ((s.err 1 a).endTld x 2).f fFLT_STATUS_ERR_CFG_LIVE = 1 :=
    (f_endTld_other (by simp only [outside]; decide) (by simp only [outside]; decide)).trans err_cfgLive
  refine ⟨?_, (f_wakeBanks _ (by decide)).trans busy, (f_wakeBanks _ (by decide)).trans result,
    (f_wakeBanks _ (noBank_of_outside (fLoaded_outside hg (by decide)))).trans loaded, (f_wakeBanks _ (by decide)).trans live⟩
  rw [wake_pix, endTld_pix, err_pix]

section
variable (ht : s.takesWrite req fPIX_TLD_CTRL_GO.addr = true) (hgo : data.getLsbD 31 = true)
  (hb : s.on fPIX_TLD_STATUS_BUSY = false) (hk : bitsOf data.toNat 21 20 ≠ 3) (hx : s.tldAsked (reqNum req) data.toNat = x)
include ht hgo hb hk hx

theorem tableLoad_judged (hd : data.getLsbD 30 = false) : exec (.tableLoad req data) s =
    .next (((s.tldShown data.toNat).putBit (fLoaded x.group x.kind) x.bank false).tldJudged x).wakeBanks := by
  have load : x.dir = 0 := by
    rw [← hx, tldAsked_eq hd]
    rfl
  rw [tableLoad_go ht hgo hd, writeTldCtrl_idle (bit_of_getLsbD hgo) hb hk, hx, unloaded_of_load load]

theorem tableReadback_judged (hd : data.getLsbD 30 = true) : exec (.tableReadback req data) s =
    .next ((s.tldShown data.toNat).tldJudged x).wakeBanks := by
  have readback : x.dir = 1 := by
    rw [← hx, tldAsked_eq hd]
    rfl
  rw [tableReadback_go ht hgo hd, writeTldCtrl_idle (bit_of_getLsbD hgo) hb hk, hx, unloaded_of_readback readback]

/-- A load that passes the checks of R146 is under way. -/
theorem tableLoad_starts (hd : data.getLsbD 30 = false) (hg : x.group < 16) (hbank : x.bank < 2)
    (hu : ((s.tldShown data.toNat).putBit (fLoaded x.group x.kind) x.bank false).bankInUse x.group x.kind x.bank = false)
    (hs : 256 * x.gran + 2 * tblEntries x.kind ≤ fsEnd) : ∃ t, exec (.tableLoad req data) s = .next t ∧ t.pix.tld = some x ∧
      t.f fPIX_TLD_STATUS_BUSY = 1 ∧ bit (t.f (fLoaded x.group x.kind)) x.bank = 0 ∧ t.pix.tables = s.pix.tables ∧ t.ev = s.ev := by
  obtain ⟨pix, busy, loaded, ev⟩ := tldStarted_shows (s := (s.tldShown data.toNat).putBit (fLoaded x.group x.kind) x.bank false) hg
  refine ⟨_, tableLoad_judged ht hgo hb hk hx hd, ?_⟩
  rw [tldJudged_starts (fun _ => hu) hs, pix, loaded, bit_putBit_loaded hbank]
  exact ⟨rfl, busy, rfl, rfl, ev⟩

/-- A load into a bank in use is refused (R146). -/
theorem tableLoad_inUse (hd : data.getLsbD 30 = false) (hg : x.group < 16) (hbank : x.bank < 2) (hdir : x.dir = 0)
    (hu : ((s.tldShown data.toNat).putBit (fLoaded x.group x.kind) x.bank false).bankInUse x.group x.kind x.bank = true) :
    ∃ t, exec (.tableLoad req data) s = .next t ∧ t.pix.tld = none ∧ t.f fPIX_TLD_STATUS_BUSY = 0 ∧
      t.f fPIX_TLD_STATUS_RESULT = 2 ∧ bit (t.f (fLoaded x.group x.kind)) x.bank = 0 ∧ t.on fFLT_STATUS_ERR_CFG_LIVE = true ∧
      t.pix.tables = s.pix.tables := by
  obtain ⟨pix, busy, result, loaded, live⟩ := tldRefused_shows
    (s := (s.tldShown data.toNat).putBit (fLoaded x.group x.kind) x.bank false) (a := fPIX_TLD_CTRL_GO.addr) hg
  refine ⟨_, tableLoad_judged ht hgo hb hk hx hd, ?_⟩
  rw [tldJudged_inUse hdir hu, pix, loaded, bit_putBit_loaded hbank, State.on, live]
  exact ⟨rfl, busy, result, rfl, rfl, rfl⟩

/-- A readback within the frame store is under way, and its bank stays LOADED as it was (R145). -/
theorem tableReadback_starts (hd : data.getLsbD 30 = true) (hg : x.group < 16) (hdir : x.dir = 1)
    (hs : 256 * x.gran + 2 * tblEntries x.kind ≤ fsEnd) : ∃ t, exec (.tableReadback req data) s = .next t ∧ t.pix.tld = some x ∧
      t.f fPIX_TLD_STATUS_BUSY = 1 ∧ t.f (fLoaded x.group x.kind) = s.f (fLoaded x.group x.kind) ∧ t.ev = s.ev := by
  obtain ⟨pix, busy, loaded, ev⟩ := tldStarted_shows (s := s.tldShown data.toNat) hg
  refine ⟨_, tableReadback_judged ht hgo hb hk hx hd, ?_⟩
  rw [tldJudged_starts (fun load => absurd (hdir.symm.trans load) (by decide)) hs, pix, loaded,
    f_tldShown (fLoaded_outside hg (by decide))]
  exact ⟨rfl, busy, rfl, ev⟩

end

theorem tableGo_busy (ht : s.takesWrite req fPIX_TLD_CTRL_GO.addr = true) (hgo : data.getLsbD 31 = true)
    (hb : s.on fPIX_TLD_STATUS_BUSY = true) : exec (if data.getLsbD 30 then .tableReadback req data else .tableLoad req data) s =
      .next ((s.tldShown data.toNat).setW1c fPIX_TLD_STATUS_REJECT 0).wakeBanks := by
  rw [tableGo ht hgo, writeTldCtrl_busy (bit_of_getLsbD hgo) hb]

/-! ## The end of a transfer (R148) -/

/-- A read of the frame store changes none of its bytes and poisons nothing. -/
theorem touchRange_bytes (a n : Nat) : (s.touchRange a n).fs.mem = s.fs.mem ∧ (s.touchRange a n).fs.poison = s.fs.poison := by
  unfold State.touchRange
  refine List.foldlRecOn (motive := fun w : State => w.fs.mem = s.fs.mem ∧ w.fs.poison = s.fs.poison) _ _ ⟨rfl, rfl⟩ fun w h k _ => ?_
  unfold State.touchStack State.leaveLowPower
  dsimp only
  split <;> exact h

/-- A read that need not wait. -/
theorem devRead_clear {a n : Nat} (ha : s.asleep a n = false) (hb : s.readBlocked a n = []) :
    s.devRead a n = (some (s.fsBytes a n), s.touchRange a n) := by
  unfold State.devRead
  rw [readGate_clear false ha hb]
  simp only [State.fsBytes, State.fsByte, touchRange_bytes, if_true]

theorem poisonedIn_touchRange (a n b k : Nat) : (s.touchRange a n).poisonedIn b k = s.poisonedIn b k := by
  simp only [State.poisonedIn, State.poisoned, touchRange_bytes]

variable {rounds : Nat}

/-- A readback ends: the bank's entries are written. -/
theorem tldDone_stores (ht : s.pix.tld = some x) (hd : x.dir = 1) : exec (.tldDone rounds) s =
    .next ((s.devWrite (tagCopy x.by_ noOwner) (256 * x.gran) ((List.range (tblEntries x.kind)).flatMap fun i =>
      leBytes 2 (smGet (fun _ => 0) s.pix.tables (tblKey x.group x.kind x.bank i)))).endTld { x with rounds := rounds }
        (if rounds = 0 then 0 else 1)) := by
  rw [exec_tldDone]
  unfold execTldDone
  rw [ht]
  exact if_pos hd

/-- The entries of a load are in their bank, which is then LOADED (R143, R148). -/
def State.tldLoaded (s : State) (x : Tld) (bs : List Byte) : State :=
  let tables := loadEntries x.group x.kind x.bank (tblEntries x.kind) bs s.pix.tables 0
  ({ s with pix := { s.pix with tables := tables } } : State).putBit (fLoaded x.group x.kind) x.bank true

theorem tldLoaded_pix {bs : List Byte} : (s.tldLoaded x bs).pix =
    { s.pix with tables := loadEntries x.group x.kind x.bank (tblEntries x.kind) bs s.pix.tables 0 } := rfl

/-- A load whose bytes may be read now: refused where one is poisoned, else its entries are put (R148, R194). -/
theorem tldDone_reads (ht : s.pix.tld = some x) (hd : x.dir ≠ 1) (ha : s.asleep (256 * x.gran) (2 * tblEntries x.kind) = false)
    (hb : s.readBlocked (256 * x.gran) (2 * tblEntries x.kind) = []) : exec (.tldDone rounds) s =
    let w := s.touchRange (256 * x.gran) (2 * tblEntries x.kind)
    if s.poisonedIn (256 * x.gran) (2 * tblEntries x.kind) then .next (w.endTld { x with rounds := rounds } 4)
    else .next ((w.tldLoaded x (s.fsBytes (256 * x.gran) (2 * tblEntries x.kind))).endTld { x with rounds := rounds }
      (if rounds = 0 then 0 else 1)) := by
  rw [exec_tldDone]
  unfold execTldDone
  rw [ht]
  dsimp only
  rw [if_neg hd, devRead_clear ha hb]
  dsimp only
  rw [poisonedIn_touchRange]
  rfl

theorem touchRange_pix (a n : Nat) : (s.touchRange a n).pix = s.pix := touch_same (touchRange_touch a n) .pix (by decide)

/-- A transfer that ends after its read tells so at the time and behind the events that stood before the read. -/
theorem endTld_tells {m : Nat} (h : Touch m s u) (ht : (Part.time.bit &&& m == Part.time.bit) = false)
    (he : (Part.ev.bit &&& m == Part.ev.bit) = false) : (u.endTld x r).ev.enRoute = s.ev.enRoute ++ [s.tldEv x r] := by
  have clock (o : Nat) : u.clock o = s.clock o := by
    unfold State.clock
    rw [touch_same h .time ht]
  rw [endTld_enRoute, touch_same h .ev he]
  unfold State.tldEv
  rw [clock]

/-- A readback that ends has written its bank's entries (R145, R148). -/
theorem tldDone_readback (ht : s.pix.tld = some x) (hd : x.dir = 1) : ∃ u, exec (.tldDone rounds) s = .next u ∧ u.pix.tld = none ∧
    u.f fPIX_TLD_STATUS_BUSY = 0 ∧ u.f fPIX_TLD_STATUS_RESULT = (if rounds = 0 then 0 else 1) ∧
    u.fs.mem = (s.devWrite (tagCopy x.by_ noOwner) (256 * x.gran) ((List.range (tblEntries x.kind)).flatMap fun i =>
      leBytes 2 (smGet (fun _ => 0) s.pix.tables (tblKey x.group x.kind x.bank i)))).fs.mem := by
  refine ⟨_, tldDone_stores ht hd, ?_⟩
  rw [endTld_pix, endTld_fs]
  obtain ⟨busy, result⟩ := endTld_shows (r := if rounds = 0 then 0 else 1) (by split <;> decide)
  exact ⟨rfl, busy, result, rfl⟩

section
variable (ht : s.pix.tld = some x) (hd : x.dir ≠ 1) (ha : s.asleep (256 * x.gran) (2 * tblEntries x.kind) = false)
  (hb : s.readBlocked (256 * x.gran) (2 * tblEntries x.kind) = [])
include ht hd ha hb

/-- A load of poisoned bytes ends with RESULT 4 and changes no table (R148, R194). -/
theorem tldDone_poisoned (hp : s.poisonedIn (256 * x.gran) (2 * tblEntries x.kind) = true) : ∃ u, exec (.tldDone rounds) s = .next u ∧
    u.pix.tld = none ∧ u.f fPIX_TLD_STATUS_BUSY = 0 ∧ u.f fPIX_TLD_STATUS_RESULT = 4 ∧ u.pix.tables = s.pix.tables ∧
    u.ev.enRoute = s.ev.enRoute ++ [s.tldEv { x with rounds := rounds } 4] := by
  refine ⟨_, (tldDone_reads ht hd ha hb).trans (if_pos hp), ?_⟩
  rw [endTld_pix, touchRange_pix, endTld_tells (touchRange_touch _ _) (by decide) (by decide)]
  obtain ⟨busy, result⟩ := endTld_shows (r := 4) (by decide)
  exact ⟨rfl, busy, result, rfl, rfl⟩

/-- A load that ends has put the entries it read (R143, R148). -/
theorem tldDone_loads (hp : s.poisonedIn (256 * x.gran) (2 * tblEntries x.kind) = false) : ∃ u, exec (.tldDone rounds) s = .next u ∧
    u.pix.tld = none ∧ u.f fPIX_TLD_STATUS_BUSY = 0 ∧ u.f fPIX_TLD_STATUS_RESULT = (if rounds = 0 then 0 else 1) ∧
    u.pix.tables = loadEntries x.group x.kind x.bank (tblEntries x.kind)
      (s.fsBytes (256 * x.gran) (2 * tblEntries x.kind)) s.pix.tables 0 ∧
    u.ev.enRoute = s.ev.enRoute ++ [s.tldEv { x with rounds := rounds } (if rounds = 0 then 0 else 1)] := by
  have touch : Touch 159746 s ((s.touchRange (256 * x.gran) (2 * tblEntries x.kind)).tldLoaded x
      (s.fsBytes (256 * x.gran) (2 * tblEntries x.kind))) :=
    .putBit (Has.refl.s rfl) (.upd_17 (Has.refl.s rfl) (.touchRange (Has.refl.s rfl) .refl))
  refine ⟨_, (tldDone_reads ht hd ha hb).trans (if_neg (by rw [hp]; decide)), ?_⟩
  rw [endTld_pix, tldLoaded_pix, touchRange_pix, endTld_tells touch (by decide) (by decide)]
  obtain ⟨busy, result⟩ := endTld_shows (r := if rounds = 0 then 0 else 1) (by split <;> decide)
  exact ⟨rfl, busy, result, rfl, rfl⟩

end

/-! ## What the stages of a span leave alone (R138, R140) -/

/-- `y` is no STATE of a stack, no count of dropped panes and none of skipped defects. -/
def offPath (y : Fld) : Prop :=
  outside y 0x00A00000 0x00A00100 ∧ outside y 0x02200040 0x02200080 ∧ outside y 0x02600040 0x02600080

/-- From `s` to `t` a span passed stages before its store: no field off its path changed, no raster moved, and the finished pixels
and the values that entered overdrive stand as they did. -/
structure Passes (s t : State) : Prop where
  f : ∀ y, offPath y → t.f y = s.f y
  still : Still s t
  lb : t.pix.lb = s.pix.lb
  odv : t.pix.odv = s.pix.odv

namespace Passes

theorem refl : Passes s s := ⟨fun _ _ => rfl, .refl, rfl, rfl⟩

theorem trans (h : Passes s t) (k : Passes t u) : Passes s u :=
  ⟨fun y hy => (k.f y hy).trans (h.f y hy), h.still.trans k.still, k.lb.trans h.lb, k.odv.trans h.odv⟩

theorem ite {c : Prop} {_ : Decidable c} (h : Passes s t) (k : Passes s u) : Passes s (if c then t else u) := by
  split
  · exact h
  · exact k

theorem foldl {α : Type} (l : List α) (F : State → α → State) (h : ∀ s a, Passes s (F s a)) (s : State) : Passes s (l.foldl F s) :=
  List.foldlRecOn (motive := Passes s) l F refl fun w k a _ => k.trans (h w a)

/-- Parts that a span does not read. -/
theorem of_touch {m : Nat} (h : Touch m s t) (hr : (Part.regs.bit &&& m == Part.regs.bit) = false)
    (hg : (Part.groups.bit &&& m == Part.groups.bit) = false) (hp : (Part.pix.bit &&& m == Part.pix.bit) = false) : Passes s t := by
  have pix : t.pix = s.pix := touch_same h .pix hp
  exact ⟨fun y _ => congrArg (regGet · y) (touch_same h .regs hr).1, .of_touch h hg, congrArg PixSt.lb pix, congrArg PixSt.odv pix⟩

theorem setF {x : Fld} {n : Nat} (hx : ∀ y, offPath y → fldKey y ≠ fldKey x) : Passes s (s.setF x n) :=
  ⟨fun y hy => (f_setF ..).trans (if_neg (hx y hy)), .of_groups rfl, rfl, rfl⟩

theorem setGrp {x : Grp} (h : Passes s t) (hx : x.pos = (t.grp g).pos) : Passes s (t.setGrp g x) :=
  h.trans ⟨fun _ _ => rfl, .setGrp hx, rfl, rfl⟩

theorem raiseG {c : Nat} {as : List (Nat × Nat)} (h : Passes s t) : Passes s (t.raiseG c g as) :=
  h.trans ⟨fun _ _ => rfl, .of_groups rfl, rfl, rfl⟩

/-- Only parts beside registers, rasters and what the stages pass on. -/
theorem beside (h : Passes s t) (hr : u.regs = t.regs) (hg : u.groups = t.groups) (hl : u.pix.lb = t.pix.lb)
    (ho : u.pix.odv = t.pix.odv) : Passes s u :=
  h.trans ⟨fun _ _ => congrArg (regGet · _) hr, .of_groups hg, hl, ho⟩

theorem touchRange (a n : Nat) : Passes s (s.touchRange a n) := by
  have stack (k : Nat) : inside (fStack k) 0x00A00000 0x00A00100 := by
    unfold fStack
    split <;> simp only [inside] <;> decide
  refine foldl _ _ (fun w k => ?_) s
  have awake : Passes w (w.setF (fStack k) 0) := setF fun y hy => Calm.key_ne hy.1 (stack k)
  have leaves : Passes w (w.leaveLowPower k) := ite refl (awake.beside rfl rfl rfl rfl)
  exact leaves.beside rfl rfl rfl rfl

theorem readGate (b : Bool) (rs : List (Nat × Nat)) : Passes s (s.readGate b rs).2 := by
  unfold State.readGate
  extract_lets ok asked
  have reads : Passes s asked := foldl rs _ (fun _ r => touchRange r.1 r.2) s
  exact reads.trans (of_touch (m := 2064) (.sendBi .refl .refl) (by decide) (by decide) (by decide))

theorem spanGate (l i : Nat) : Passes s (s.spanGate g l i).2 := by
  unfold State.spanGate
  extract_lets a b
  have store : Passes s a.2 := readGate true _
  exact store.trans (of_touch (m := 2064) (.hostGate .refl .refl) (by decide) (by decide) (by decide))

theorem devWriteLine (tag a : Nat) (bs : List Byte) : Passes s (s.devWriteLine tag a bs) := by
  unfold State.devWriteLine
  extract_lets w wait touched
  have touch : Touch 12800 touched (touched.fsWrite a bs) := .fsWrite .refl .refl
  have pix : (touched.fsWrite a bs).pix = touched.pix := touch_same touch .pix (by decide)
  have writes : Passes touched (touched.fsWrite a bs) := ⟨fun y _ => congrArg (regGet · y) (touch_same touch .regs (by decide)).1,
    .fsWrite _ _ _, congrArg PixSt.lb pix, congrArg PixSt.odv pix⟩
  have waits : Passes touched { touched with fs := { touched.fs with wq := touched.fs.wq ++ [w] } } := refl.beside rfl rfl rfl rfl
  exact (touchRange a bs.length).trans (ite
    (waits.trans (of_touch (m := 2064) (.askWrite .refl .refl) (by decide) (by decide) (by decide))) writes)

theorem devWriteGo (tag n : Nat) : ∀ (s : State) (a : Nat) (bs : List Byte), Passes s (Machine.devWriteGo tag n s a bs) := by
  induction n with
  | zero => exact fun _ _ _ => refl
  | succ n ih => exact fun s a bs => ite refl ((devWriteLine _ _ _).trans (ih _ _ _))

theorem noteDrops (hg : g < 16) (l : Nat) : Passes s (s.noteDrops g l) := by
  unfold State.noteDrops
  extract_lets d counted noted
  have counts : Passes s counted := setF fun y hy => Calm.key_ne hy.2.1 (by simp only [inside, fPAN_DROP_CNT_LINES]; omega)
  exact ite refl (ite counts (raiseG (setGrp counts rfl)))

theorem noteSkips (hg : g < 16) (l : Nat) : Passes s (s.noteSkips g l) := by
  have counts (n : Nat) : Passes s (s.count (fDEF_SKIP_CNT_SKIPS g) n) :=
    setF fun y hy => Calm.key_ne hy.2.2 (by simp only [inside, fDEF_SKIP_CNT_SKIPS]; omega)
  unfold State.noteSkips
  refine ite refl ?_
  dsimp only
  split
  · exact refl
  · have skips := fun (n : Nat) (p : PixSt) => (counts n).beside (u := { s.count (fDEF_SKIP_CNT_SKIPS g) n with pix := p }) rfl rfl
    exact ite (skips _ _ rfl rfl) (raiseG (setGrp (skips _ _ rfl rfl) rfl))

theorem notePlaneEcc (l : Nat) (xs : List Nat) : Passes s (s.notePlaneEcc g l xs) := by
  unfold State.notePlaneEcc
  refine Passes.trans (ite (raiseG refl) refl) (foldl _ _ (fun w k => ?_) _)
  extract_lets bad
  have found := fun p : PixSt => (refl (s := w)).beside (u := { w with pix := p }) rfl rfl
  exact ite refl (raiseG (found _ rfl rfl))

end Passes

/-! ## A span passes the pipeline (R138, R140, R163) -/

variable {line span : Nat} {px : List (Nat × Nat × Nat)}

/-- The state in which the pixels of a span are stored: its reads are asked, and what it met is noted. -/
def State.spanNoted (s : State) (g line span : Nat) : State :=
  let s := (s.spanGate g line span).2
  let s := if span = 0 then (s.noteDrops g line).noteSkips g line else s
  s.notePlaneEcc g line (s.spanCols g span)

theorem spanNoted_passes (hg : g < 16) : Passes s (s.spanNoted g line span) := by
  unfold State.spanNoted
  extract_lets asked noted
  have notes : Passes asked noted := .ite ((Passes.noteDrops hg line).trans (.noteSkips hg line)) .refl
  exact ((Passes.spanGate line span).trans notes).trans (.notePlaneEcc line _)

section
variable (hg : g < 16) (hn : s.nextSpan g = (line, span)) (hd : s.spanDue g = true)
include hg hn hd

theorem span_goes : ¬ (16 ≤ g ∨ s.nextSpan g ≠ (line, span) ∨ ¬ s.spanDue g = true) := by
  simp only [hn, hd, ne_eq, not_true_eq_false, or_false]
  omega

theorem pipeSpan_waits (hp : s.spanPx g line span = none) :
    exec (.pipeSpan g line span) s = .next (s.spanGate g line span).2 := by
  rw [exec_pipeSpan]
  unfold execPipeSpan
  rw [if_neg (span_goes hg hn hd), hp]

theorem pipeSpan_later (hp : s.spanPx g line span = some px) (hl : s.spanLater g line = true) :
    exec (.pipeSpan g line span) s = .next s := by
  rw [exec_pipeSpan]
  unfold execPipeSpan
  rw [if_neg (span_goes hg hn hd), hp]
  exact if_pos hl

theorem pipeSpan_stores (hp : s.spanPx g line span = some px) (hl : s.spanLater g line = false) :
    exec (.pipeSpan g line span) s = .next (((s.spanNoted g line span).storeSpan g line span px).spanDone g line span) := by
  rw [exec_pipeSpan]
  unfold execPipeSpan
  rw [if_neg (span_goes hg hn hd), hp]
  exact if_neg (by rw [hl]; decide)

end

/-- The line buffers with the finished pixels of a span. -/
def lbPut (m : SMap Nat) (g line : Nat) (px : List (Nat × Nat × Nat)) : SMap Nat :=
  px.foldl (fun m e => smSet (fun _ => 0) m (lbKey g line e.1) (e.2.2 + 2 ^ 63)) m

/-- The values that entered overdrive with those of a span. -/
def odvPut (m : SMap Nat) (g line : Nat) (px : List (Nat × Nat × Nat)) : SMap Nat :=
  px.foldl (fun m e => smSet (fun _ => 0) m (odvKey g line e.1) (e.2.1 + 2 ^ 42)) m

/-- The pixels of a span are stored, the history blocks still to be written. -/
def State.spanPut (s : State) (g line : Nat) (px : List (Nat × Nat × Nat)) : State :=
  { s with pix := { s.pix with
    odv := if s.histOn g then odvPut s.pix.odv g line px else s.pix.odv
    lb := if s.lineOver g line ∧ s.tech g ≠ 3 then s.pix.lb else lbPut s.pix.lb g line px } }

/-- A history block changes no register off the path of the pixels and none of their levels. -/
theorem histBlock_keeps (b x : Nat) : (∀ y, offPath y → (s.histBlock g b x).f y = s.f y) ∧ (s.histBlock g b x).pix.lb = s.pix.lb := by
  unfold State.histBlock
  dsimp only
  split
  · split
    · exact ⟨fun _ _ => rfl, rfl⟩
    · exact ⟨fun y hy => (Passes.devWriteGo _ _ _ _ _).f y hy, (Passes.devWriteGo _ _ _ _ _).lb⟩
  · exact ⟨fun _ _ => rfl, rfl⟩

/-- A span is stored, and where its pair of lines is over the history blocks it completes are written (R163). -/
theorem storeSpan_eq : s.storeSpan g line span px =
    if s.lineOver g (min (line / 2 * 2 + 1) (s.vact g - 1)) then (List.range 32).foldl (fun s k =>
      if 64 * span + 2 * k < s.hact g then s.histBlock g (line / 2) (32 * span + k) else s) (s.spanPut g line px)
    else s.spanPut g line px := rfl

theorem storeSpan_of_open (ho : s.lineOver g (min (line / 2 * 2 + 1) (s.vact g - 1)) = false) :
    s.storeSpan g line span px = s.spanPut g line px := by
  rw [storeSpan_eq, if_neg (by rw [ho]; decide)]

theorem storeSpan_keeps : (∀ y, offPath y → (s.storeSpan g line span px).f y = s.f y) ∧
    (s.storeSpan g line span px).pix.lb = (s.spanPut g line px).pix.lb := by
  rw [storeSpan_eq]
  split
  · refine List.foldlRecOn (motive := fun w : State => (∀ y, offPath y → w.f y = s.f y) ∧ w.pix.lb = (s.spanPut g line px).pix.lb)
      _ _ ⟨fun _ _ => rfl, rfl⟩ fun w h k _ => ?_
    obtain ⟨fields, levels⟩ := h
    obtain ⟨fieldsKept, levelsKept⟩ := histBlock_keeps (s := w) (g := g) (line / 2) (32 * span + k)
    split
    · exact ⟨fun y hy => (fieldsKept y hy).trans (fields y hy), levelsKept.trans levels⟩
    · exact ⟨fields, levels⟩
  · exact ⟨fun _ _ => rfl, rfl⟩

theorem spanDone_nextSpan : (s.spanDone g line span).nextSpan g =
    (let c := if 64 * (span + 1) < s.hact g then 1024 * line + span + 1 else 1024 * (line + 1); (c / 1024, c % 1024)) := by
  unfold State.nextSpan State.spanDone
  dsimp only
  rw [smGet_smSet, if_pos rfl]

namespace Passes

theorem hact (h : Passes s t) (hg : g < 16) : t.hact g = s.hact g :=
  h.f _ (by simp only [offPath, outside, fTMG_HACT_VALUE]; omega)

theorem vact (h : Passes s t) (hg : g < 16) : t.vact g = s.vact g :=
  h.f _ (by simp only [offPath, outside, fTMG_VACT_VALUE]; omega)

theorem tech (h : Passes s t) (hg : g < 16) : t.tech g = s.tech g :=
  h.f _ (by simp only [offPath, outside, fDRV_MODE_TECH]; omega)

theorem histOn (h : Passes s t) (hg : g < 16) : t.histOn g = s.histOn g := by
  unfold State.histOn State.on
  rw [h.f (fPIX_CFG_OD_EN g) (by simp only [offPath, outside, fPIX_CFG_OD_EN]; omega),
    h.f (fPIX_STATUS_INV g) (by simp only [offPath, outside, fPIX_STATUS_INV]; omega)]

theorem lineOver (h : Passes s t) (l : Nat) : t.lineOver g l = s.lineOver g l := by
  unfold State.lineOver
  rw [h.still.live, h.still.latched, h.still.line]

end Passes

/-- What stands after a span is stored, told by the state before it. -/
theorem spanStored (hg : g < 16) {w : State} (hw : w = ((s.spanNoted g line span).storeSpan g line span px).spanDone g line span) :
    w.nextSpan g = (let c := if 64 * (span + 1) < s.hact g then 1024 * line + span + 1 else 1024 * (line + 1); (c / 1024, c % 1024)) ∧
      w.pix.lb = (if s.lineOver g line = true ∧ s.tech g ≠ 3 then s.pix.lb else lbPut s.pix.lb g line px) ∧
      (s.lineOver g (min (line / 2 * 2 + 1) (s.vact g - 1)) = false →
        w.pix.odv = if s.histOn g = true then odvPut s.pix.odv g line px else s.pix.odv) := by
  have passes : Passes s (s.spanNoted g line span) := spanNoted_passes hg
  generalize s.spanNoted g line span = v at *
  obtain ⟨fields, levels⟩ := storeSpan_keeps (s := v) (g := g) (line := line) (span := span) (px := px)
  have wide : (v.storeSpan g line span px).hact g = s.hact g :=
    (fields _ (by simp only [offPath, outside, fTMG_HACT_VALUE]; omega)).trans (passes.hact hg)
  subst hw
  refine ⟨?_, ?_, fun ho => ?_⟩
  · rw [spanDone_nextSpan, wide]
  · refine levels.trans ?_
    unfold State.spanPut
    rw [passes.lineOver, passes.tech hg, passes.lb]
  · rw [← passes.lineOver, ← passes.vact hg] at ho
    rw [storeSpan_of_open ho]
    change (if v.histOn g then odvPut v.pix.odv g line px else v.pix.odv) = _
    rw [passes.histOn hg, passes.odv]

end Sys2Proof.Machine

/-- Settles O12, command by command: a write of SLEEP binds its groups in turn; a GO is judged once LOADED is cleared, and a transfer
ends by its direction and what it reads; a span passes stages that leave alone what its store reads. -/
theorem selfRefreshTablesAndSpans : Obligations.SelfRefreshTablesAndSpans := by
  intro s
  refine ⟨fun req data ht => ⟨fun hb => ?enter, fun hb => ?leave⟩, fun req data ht hgo => ?go,
    fun rounds x hx => ⟨fun hd => tldDone_readback hx hd, fun hd ha hb => ⟨tldDone_poisoned hx hd ha hb, tldDone_loads hx hd ha hb⟩⟩,
    fun g line span px hg hn hd hp => ⟨pipeSpan_later hg hn hd hp, fun hl => ?span⟩,
    fun g line span hg hn hd hp => pipeSpan_waits hg hn hd hp⟩
  case enter =>
    obtain ⟨sleep, cause, ev, grp⟩ := writeSleep_binds (s := s) (v := true)
    exact ⟨_, srSleepSet_binds ht hb, (f_wakeBanks _ (by decide)).trans sleep, (f_wakeBanks _ (by decide)).trans cause,
      (wake_ev _).trans ev, fun g hg => (wake_grp g).trans (grp g hg)⟩
  case leave =>
    obtain ⟨sleep, cause, ev, grp⟩ := writeSleep_binds (s := s) (v := false)
    exact ⟨_, srSleepClear_binds ht hb, (f_wakeBanks _ (by decide)).trans sleep, (f_wakeBanks _ (by decide)).trans cause,
      (wake_ev _).trans ev, fun g hg => (wake_grp g).trans (grp g hg)⟩
  case go =>
    intro g kind bank w ld
    have hg : g < 16 := Nat.mod_lt _ (by decide)
    have hbank : bank < 2 := Nat.mod_lt _ (by decide)
    exact ⟨fun hd hb hk hu hs => tableLoad_starts ht hgo hb hk (tldAsked_eq hd _) hd hg hbank hu hs,
      fun hd hb hk hu => tableLoad_inUse ht hgo hb hk (tldAsked_eq hd _) hd hg hbank rfl hu,
      fun hd hb hk hs => tableReadback_starts ht hgo hb hk (tldAsked_eq hd _) hd hg rfl hs,
      fun hb => ⟨_, tableGo_busy ht hgo hb, (f_wakeBanks _ (by decide)).trans (f_setW1c_one rfl), wake_pix _, wake_ev _⟩⟩
  case span =>
    obtain ⟨next, lb, odv⟩ := spanStored (px := px) (span := span) hg rfl
    exact ⟨_, pipeSpan_stores hg hn hd hp hl, next, lb, odv⟩
end

section
/-!
The residue of the codec and its inverse (R213).
-/
open Sys2Proof Sys2Proof.Machine
namespace Sys2Proof.Machine

variable {d v p : Nat}

/-- The residue of R213: the difference of value and prediction at depth `d`, the upper half of it negative. -/
def signedResidue (d v p : Nat) : Int :=
  let e₀ : Int := ((v : Int) - p) % 2 ^ d
  if 2 ^ (d - 1) ≤ e₀ then e₀ - 2 ^ d else e₀

/-- The number R213 maps a residue to: the even numbers for those that are not negative, the odd ones for the others. -/
def zigzag (e : Int) : Int := if 0 ≤ e then 2 * e else -2 * e - 1

theorem two_pow_halves (hd : 0 < d) : (2 : Int) ^ d = 2 * 2 ^ (d - 1) ∧ (0 : Int) < 2 ^ (d - 1) := by
  refine ⟨?_, by positivity⟩
  rw [← pow_succ', Nat.sub_add_cancel hd]

/-- The difference that the model forms in natural numbers is that of R213. -/
theorem difference_cast (hp : p < 2 ^ d) : (((v + 2 ^ d - p) % 2 ^ d : Nat) : Int) = ((v : Int) - p) % 2 ^ d := by
  have bound : p ≤ v + 2 ^ d := by omega
  push_cast [bound]
  rw [show (v : Int) + 2 ^ d - p = v - p + 2 ^ d by ring, Int.add_emod_right]

theorem mapResidue_eq_zigzag (hd : 0 < d) (hp : p < 2 ^ d) : (mapResidue d v p : Int) = zigzag (signedResidue d v p) := by
  obtain ⟨halves, half_pos⟩ := two_pow_halves hd
  have below : ((v : Int) - p) % 2 ^ d < 2 ^ d := Int.emod_lt_of_pos _ (by omega)
  unfold mapResidue signedResidue zigzag
  have cast := difference_cast (v := v) hp
  dsimp only
  rw [← cast] at below ⊢
  generalize (v + 2 ^ d - p) % 2 ^ d = n at below ⊢
  have natHalf : ((2 ^ (d - 1) : Nat) : Int) = 2 ^ (d - 1) := by push_cast; rfl
  by_cases h : n < 2 ^ (d - 1)
  · have low : ¬ (2 : Int) ^ (d - 1) ≤ n := by omega
    rw [if_pos h, if_neg low, if_pos (Int.natCast_nonneg n)]
    push_cast
    rfl
  · have high : (2 : Int) ^ (d - 1) ≤ n := by omega
    have whole : n < 2 ^ d := by exact_mod_cast below
    rw [if_neg h, if_pos high, if_neg (show ¬ 0 ≤ (n : Int) - 2 ^ d by omega), Nat.cast_sub (by omega)]
    push_cast [whole.le]
    ring

theorem signedResidue_range (hd : 0 < d) : -2 ^ (d - 1) ≤ signedResidue d v p ∧ signedResidue d v p < 2 ^ (d - 1) := by
  obtain ⟨halves, half_pos⟩ := two_pow_halves hd
  have nonneg : 0 ≤ ((v : Int) - p) % 2 ^ d := Int.emod_nonneg _ (by omega)
  have below : ((v : Int) - p) % 2 ^ d < 2 ^ d := Int.emod_lt_of_pos _ (by omega)
  unfold signedResidue
  dsimp only
  split <;> omega

/-- Prediction and residue give the value back. -/
theorem add_signedResidue (hv : v < 2 ^ d) : ((p : Int) + signedResidue d v p) % 2 ^ d = v := by
  have wraps : ((p : Int) + ((v : Int) - p) % 2 ^ d) % 2 ^ d = v := by
    rw [Int.add_emod_emod, show (p : Int) + (v - p) = v by ring]
    exact Int.emod_eq_of_lt (by omega) (by exact_mod_cast hv)
  unfold signedResidue
  dsimp only
  split
  · rw [← add_sub_assoc, Int.sub_emod_right, wraps]
  · exact wraps

theorem zigzag_range {e : Int} (hd : 0 < d) (lo : -2 ^ (d - 1) ≤ e) (hi : e < 2 ^ (d - 1)) : 0 ≤ zigzag e ∧ zigzag e < 2 ^ d := by
  obtain ⟨halves, -⟩ := two_pow_halves hd
  unfold zigzag
  split <;> omega

/-- The decoder adds the residue that a number stands for to the prediction. -/
theorem unmapResidue_zigzag {e : Int} (hd : 0 < d) (lo : -2 ^ (d - 1) ≤ e) :
    (unmapResidue d (zigzag e).toNat p : Int) = (p + e) % 2 ^ d := by
  obtain ⟨halves, half_pos⟩ := two_pow_halves hd
  have natWhole : ((2 ^ d : Nat) : Int) = 2 ^ d := by push_cast; rfl
  unfold unmapResidue zigzag
  by_cases h : 0 ≤ e
  · rw [if_pos h, if_pos (by omega), show (2 * e).toNat / 2 = e.toNat by omega]
    push_cast
    rw [Int.toNat_of_nonneg h]
  · have magnitude : ((-2 * e - 1).toNat + 1) / 2 = (-e).toNat := by omega
    have small : (-e).toNat % 2 ^ d = (-e).toNat := Nat.mod_eq_of_lt (by omega)
    rw [if_neg h, if_neg (by omega), magnitude, small, Int.natCast_emod,
      show ((p + 2 ^ d - (-e).toNat : Nat) : Int) = p + e + 2 ^ d by omega, natWhole, Int.add_emod_right]

end Sys2Proof.Machine

/-- Settles O53: the model's residue is the zigzag of the signed residue, which the decoder adds to the prediction. -/
theorem codecResidueInverts : Obligations.CodecResidueInverts := by
  intro d v p hd hv hp
  have mapped : (mapResidue d v p : Int) = zigzag (signedResidue d v p) := mapResidue_eq_zigzag hd hp
  obtain ⟨lo, hi⟩ := signedResidue_range (v := v) (p := p) hd
  obtain ⟨-, below⟩ := zigzag_range hd lo hi
  have inverse : (unmapResidue d (mapResidue d v p) p : Int) = v := by
    rw [← add_signedResidue (p := p) hv, ← unmapResidue_zigzag hd lo, ← mapped, Int.toNat_natCast]
  exact ⟨mapped, by rw [← mapped] at below; exact_mod_cast below, by exact_mod_cast inverse,
    fun e lo _ => unmapResidue_zigzag hd lo⟩
end

section
/-!
A round of an arbiter (R647, R648, R196): who is pending, who is granted, and the ages after it.
-/
open Sys2Proof Sys2Proof.Machine
namespace Sys2Proof.Machine

variable {s t u : State} {arb w : Nat} {reqs : List (Nat × Nat × Bool)} {scan : List Nat}

/-! ## The greatest rank (R647) -/

section
variable {rank : Nat → Nat}

theorem bestRank_mem {j : Nat} : ∀ {l : List Nat}, bestRank rank l = some j → j ∈ l
  | [], h => by cases h
  | i :: is, h => by
    unfold bestRank at h
    split at h
    · cases h
      exact List.mem_cons_self
    next k hk =>
      split at h
      · cases h
        exact List.mem_cons_self
      · cases h
        exact List.mem_cons_of_mem _ (bestRank_mem hk)

/-- The one whose rank is above every other's, ties going to the lower index, is the best. -/
theorem bestRank_eq_some : ∀ {l : List Nat}, w ∈ l → (∀ j ∈ l, j ≠ w → rank j < rank w ∨ rank j = rank w ∧ w < j) →
    bestRank rank l = some w
  | [], hw, _ => by cases hw
  | i :: is, hw, above => by
    unfold bestRank
    have tail : w ∈ is → bestRank rank is = some w := fun h =>
      bestRank_eq_some h fun j hj => above j (List.mem_cons_of_mem _ hj)
    by_cases hi : i = w
    · subst hi
      split
      · rfl
      next j hj =>
        refine if_pos ?_
        by_cases hji : j = i
        · exact .inr ⟨by rw [hji], hji.ge⟩
        · rcases above j (List.mem_cons_of_mem _ (bestRank_mem hj)) hji with h | ⟨h, k⟩
          · exact .inl h
          · exact .inr ⟨h, k.le⟩
    · rw [tail ((List.mem_cons.1 hw).resolve_left (Ne.symm hi))]
      refine if_neg ?_
      have := above i List.mem_cons_self hi
      omega

end

/-! ## Ages -/

theorem nodup_eraseDups : ∀ l : List Nat, l.eraseDups.Nodup
  | [] => List.nodup_nil
  | a :: l => by
    rw [List.eraseDups_cons, List.nodup_cons]
    exact ⟨by simp [List.mem_eraseDups], nodup_eraseDups _⟩
  termination_by l => l.length
  decreasing_by exact Nat.lt_succ_of_le (List.length_filter_le ..)

theorem age_of_arb (h : u.arb = s.arb) (a j : Nat) : u.age a j = s.age a j := by
  unfold State.age
  rw [h]

theorem age_setAge_at {a i j v : Nat} (hi : i < 4096) (hj : j < 4096) : (s.setAge arb i v).age a j =
    if a = arb ∧ j = i then v else s.age a j := by
  rw [age_setAge]
  exact if_congr (by omega) rfl rfl

/-- The age of a requester that lost a round rises (R647). -/
def State.ageRises (arb : Nat) (s : State) (j : Nat) : State := s.setAge arb j (min 4095 (s.age arb j + 1))

/-- Requester `w` has won a round at the arbiter among `all` (R647). -/
def State.roundWon (s : State) (arb w : Nat) (all : List Nat) : State :=
  (all.filter fun j => j != w).foldl (State.ageRises arb) (s.setAge arb w 0)

theorem age_foldl_rises {a j : Nat} (hj : j < 4096) : ∀ {l : List Nat} {s : State}, l.Nodup → (∀ i ∈ l, i < 4096) →
    (l.foldl (State.ageRises arb) s).age a j = if a = arb ∧ j ∈ l then min 4095 (s.age arb j + 1) else s.age a j
  | [], s, _, _ => by simp
  | i :: l, s, hn, hl => by
    obtain ⟨fresh, hn⟩ := List.nodup_cons.1 hn
    rw [List.foldl_cons, age_foldl_rises hj hn fun k hk => hl k (List.mem_cons_of_mem _ hk)]
    unfold State.ageRises
    simp only [age_setAge_at (hl i List.mem_cons_self) hj, List.mem_cons]
    by_cases ha : a = arb
    · by_cases hji : j = i
      · subst ha hji
        simp [fresh]
      · simp [ha, hji]
    · simp [ha]

/-- After a round the winner's age is 0, the age of each other pending requester is one more, every other age what it was. -/
theorem age_roundWon {all : List Nat} {a j : Nat} (hn : all.Nodup) (hl : ∀ i ∈ all, i < 4096) (hw : w ∈ all) (hj : j < 4096) :
    (s.roundWon arb w all).age a j = if a = arb ∧ j = w then 0 else if a = arb ∧ j ∈ all then min 4095 (s.age arb j + 1)
      else s.age a j := by
  unfold State.roundWon
  rw [age_foldl_rises hj (hn.filter _) fun i hi => hl i (List.mem_filter.1 hi).1]
  simp only [age_setAge_at (hl w hw) hj, List.mem_filter, bne_iff_ne]
  by_cases ha : a = arb
  · by_cases hjw : j = w
    · simp [ha, hjw]
    · simp [ha, hjw]
  · simp [ha]

/-! ## The highest class (R648) -/

/-- A requester that stands as high as any gives the greatest standing. -/
theorem foldl_max_eq (f : Nat → Nat) : ∀ (l : List Nat) (m : Nat), w ∈ l ∨ m = f w → m ≤ f w → (∀ j ∈ l, f j ≤ f w) →
    l.foldl (fun m n => max m (f n)) m = f w
  | [], _, h, _, _ => h.resolve_left List.not_mem_nil
  | i :: l, m, h, hm, hl => by
    have hi := hl i List.mem_cons_self
    have reached : w ∈ l ∨ max m (f i) = f w := by
      rcases h with h | h
      · rcases List.mem_cons.1 h with rfl | h
        · exact .inr (max_eq_right hm)
        · exact .inl h
      · exact .inr (by rw [h, max_eq_left hi])
    exact foldl_max_eq f l _ reached (max_le hm hi) fun j hj => hl j (List.mem_cons_of_mem _ hj)

/-- A round is void or won by one of the pending requesters. -/
theorem classRound_cases (b : Bool) (all : List Nat) : s.classRound arb b all = (none, s) ∨
    ∃ w ∈ all, s.classRound arb b all = (some w, s.roundWon arb w all) := by
  unfold State.classRound State.arbRound
  dsimp only
  split
  · exact .inl rfl
  next w hw => exact .inr ⟨w, (List.mem_filter.1 (bestRank_mem hw)).1, rfl⟩

/-- Among the pending requesters `j` stands lower than `w`, or as high with a lower rank or with the same rank and a higher index. -/
def State.beats (s : State) (arb : Nat) (b : Bool) (w j : Nat) : Prop :=
  s.standing arb b j < s.standing arb b w ∨ s.standing arb b j = s.standing arb b w ∧
    (s.arbCfg arb j % 16 + s.age arb j < s.arbCfg arb w % 16 + s.age arb w ∨
      s.arbCfg arb j % 16 + s.age arb j = s.arbCfg arb w % 16 + s.age arb w ∧ w < j)

theorem classRound_won {b : Bool} {all : List Nat} (hw : w ∈ all) (above : ∀ j ∈ all, j ≠ w → s.beats arb b w j) :
    s.classRound arb b all = (some w, s.roundWon arb w all) := by
  have highest : ∀ j ∈ all, s.standing arb b j ≤ s.standing arb b w := fun j hj => by
    by_cases hjw : j = w
    · rw [hjw]
    · rcases above j hj hjw with h | ⟨h, -⟩
      · exact h.le
      · exact h.le
  have top : all.foldl (fun m n => max m (s.standing arb b n)) 0 = s.standing arb b w :=
    foldl_max_eq _ _ _ (.inl hw) (Nat.zero_le _) highest
  have best : bestRank (fun i => s.arbCfg arb i % 16 + s.age arb i)
      (all.filter fun n => s.standing arb b n == s.standing arb b w) = some w := by
    refine bestRank_eq_some (List.mem_filter.2 ⟨hw, beq_self_eq_true _⟩) fun j hj hjw => ?_
    obtain ⟨hj, same⟩ := List.mem_filter.1 hj
    have same : s.standing arb b j = s.standing arb b w := eq_of_beq same
    rcases above j hj hjw with h | ⟨-, h⟩
    · exact absurd same h.ne
    · exact h
  unfold State.classRound State.arbRound
  dsimp only
  rw [top, best]
  rfl

/-! ## Who takes part in a round (R196, R647, R652) -/

/-- The clock that a round reads. -/
def State.arbClock (s : State) (arb : Nat) : Nat := if rasterArb arb then s.time.raster else s.time.master

/-- The requests of a round, a refresh that is due among them. -/
def State.named (s : State) (arb : Nat) (reqs : List (Nat × Nat × Bool)) : List (Nat × Nat × Bool) :=
  if s.refreshDue arb ∧ ¬ reqs.any (fun r => r.1 == 14) then reqs ++ [(14, 0, false)] else reqs

/-- Those of a requester that is not masked, TC3 only within TC3_MAX. -/
def State.live (s : State) (arb : Nat) (reqs : List (Nat × Nat × Bool)) : List (Nat × Nat × Bool) :=
  (s.named arb reqs).filter fun r => !(r.1 < 16 && smGet (fun _ => false) s.arb.masked r.1) &&
    (r.1 != 15 || (!isLinkArb arb || s.tc3Open ((arb - 64) / 16) ((arb - 64) % 16)))

/-- A BEST-EFFORT request that has waited its DEADLINE (R655). -/
def State.overdue (s : State) (arb : Nat) (r : Nat × Nat × Bool) : Bool :=
  decide (11 ≤ r.1 ∧ r.1 ≤ 13 ∧ r.2.1 + 1024 * max 1 (s.arbCfg arb r.1 / 16) ≤ s.arbClock arb)

/-- The requesters that take part. -/
def State.contenders (s : State) (arb : Nat) (reqs : List (Nat × Nat × Bool)) : List Nat :=
  (((s.live arb reqs).filter fun r => !s.overdue arb r).map fun r => r.1).eraseDups

/-- A request may take part in a round of the arbiter. -/
def State.takesPart (s : State) (arb : Nat) (r : Nat × Nat × Bool) : Prop :=
  (r.1 < 16 → smGet (fun _ => false) s.arb.masked r.1 = false) ∧
    (r.1 = 15 → isLinkArb arb = true → s.tc3Open ((arb - 64) / 16) ((arb - 64) % 16) = true) ∧
    ¬ (11 ≤ r.1 ∧ r.1 ≤ 13 ∧ r.2.1 + 1024 * max 1 (s.arbCfg arb r.1 / 16) ≤ s.arbClock arb)

/-- Requester `n` is pending in a round: a request of it takes part, or it is the refresh, due, not masked and not named. -/
def State.pends (s : State) (arb : Nat) (reqs : List (Nat × Nat × Bool)) (n : Nat) : Prop :=
  (∃ r ∈ reqs, r.1 = n ∧ s.takesPart arb r) ∨
    (n = 14 ∧ s.refreshDue arb = true ∧ smGet (fun _ => false) s.arb.masked 14 = false ∧ ∀ r ∈ reqs, r.1 ≠ 14)

theorem mem_named {r : Nat × Nat × Bool} : r ∈ s.named arb reqs ↔
    r ∈ reqs ∨ (r = (14, 0, false) ∧ s.refreshDue arb = true ∧ ∀ q ∈ reqs, q.1 ≠ 14) := by
  have unnamed : ¬ (reqs.any fun q => q.1 == 14) = true ↔ ∀ q ∈ reqs, q.1 ≠ 14 := by
    simp only [List.any_eq_true, beq_iff_eq, not_exists, not_and, ne_eq]
  unfold State.named
  simp only [unnamed]
  split
  next h =>
    rw [List.mem_append, List.mem_singleton]
    exact or_congr_right ⟨fun k => ⟨k, h⟩, And.left⟩
  next h => exact ⟨.inl, fun k => k.resolve_right fun ⟨_, hd, hq⟩ => h ⟨hd, hq⟩⟩

theorem mem_contending {r : Nat × Nat × Bool} : r ∈ (s.live arb reqs).filter (fun r => !s.overdue arb r) ↔
    r ∈ s.named arb reqs ∧ s.takesPart arb r := by
  unfold State.live State.takesPart State.overdue
  simp only [List.mem_filter, Bool.and_eq_true, Bool.or_eq_true, Bool.not_eq_true', Bool.and_eq_false_iff, decide_eq_false_iff_not,
    bne_iff_ne, and_assoc]
  refine and_congr_right fun _ => and_congr ?_ (and_congr_left fun _ => ?_)
  · exact ⟨fun h k => h.resolve_left (not_not_intro k), fun h => (em (r.1 < 16)).symm.imp_right h⟩
  · refine ⟨fun h k l => (h.resolve_left (not_not_intro k)).resolve_left (by rw [l]; decide), fun h => ?_⟩
    by_cases k : r.1 = 15
    · exact .inr ((Bool.eq_false_or_eq_true (isLinkArb arb)).symm.imp_right (h k))
    · exact .inl k

theorem mem_contenders {n : Nat} : n ∈ s.contenders arb reqs ↔ s.pends arb reqs n := by
  unfold State.contenders State.pends
  simp only [List.mem_eraseDups, List.mem_map, mem_contending, mem_named]
  constructor
  · rintro ⟨r, ⟨hr | ⟨rfl, hd, hq⟩, part⟩, rfl⟩
    · exact .inl ⟨r, hr, rfl, part⟩
    · exact .inr ⟨rfl, hd, part.1 (by decide), hq⟩
  · rintro (⟨r, hr, rfl, part⟩ | ⟨rfl, hd, hm, hq⟩)
    · exact ⟨r, ⟨.inl hr, part⟩, rfl⟩
    · exact ⟨_, ⟨.inr ⟨rfl, hd, hq⟩, fun _ => hm, fun h => absurd h (by decide), fun h => absurd h.2.1 (by decide)⟩, rfl⟩

theorem pends_lt {n : Nat} (hr : ∀ r ∈ reqs, r.1 < 4096) (h : s.pends arb reqs n) : n < 4096 := by
  rcases h with ⟨r, hm, rfl, -⟩ | ⟨rfl, -⟩
  · exact hr r hm
  · decide

/-! ## The state in which a round is decided -/

/-- Is a scan emergency pending at the arbiter (R650)? -/
def State.scanPending (s : State) (arb : Nat) (scan : List Nat) : Bool :=
  isPcArb arb && scan.any fun g => decide (g < 16) && s.scanEmerg g

/-- The groups whose tile fetchers make it. -/
def State.emergGroups (s : State) (arb : Nat) (scan : List Nat) : List Nat :=
  if isPcArb arb then scan.filter fun g => decide (g < 16) && s.scanEmerg g else []

theorem emergGroups_isEmpty : (!(s.emergGroups arb scan).isEmpty) = s.scanPending arb scan := by
  unfold State.emergGroups State.scanPending
  cases isPcArb arb
  · rfl
  · rw [if_pos rfl, Bool.true_and, Bool.eq_iff_iff]
    simp

/-- Overdue requests are refused; a copy's is refused with the copy (R655). -/
def State.refuseAll (s : State) (l : List (Nat × Nat × Bool)) : State :=
  l.foldl (fun s r => if r.1 = 12 then s else s.refused r.1 1) s

theorem noteEmerg_eq (g : Nat) : ∃ e p, s.noteEmerg g = { s with ev := e, pix := p } := by
  unfold State.noteEmerg
  split
  · exact ⟨s.ev, s.pix, rfl⟩
  · exact ⟨_, _, rfl⟩

theorem noteEmergs_eq (l : List Nat) : ∃ e p, l.foldl (fun s g => s.noteEmerg g) s = { s with ev := e, pix := p } :=
  List.foldlRecOn (motive := fun t => ∃ e p, t = { s with ev := e, pix := p }) _ _ ⟨s.ev, s.pix, rfl⟩ fun t ⟨e, p, h⟩ g _ => by
    subst h
    obtain ⟨e', p', h'⟩ := noteEmerg_eq (s := { s with ev := e, pix := p }) g
    exact ⟨e', p', h'⟩

/-- `y` is no field of an ARB_REQ_REF word. -/
def offRefusals (y : Fld) : Prop := y.lo < 32 ∧ (y.addr < 0x01000000 ∨ 0x01000100 ≤ y.addr ∨ y.addr % 16 ≠ 12)

/-- From `s` to `u` nothing changed that decides a round. -/
structure SameRound (s u : State) : Prop where
  arb : u.arb = s.arb
  fs : u.fs = s.fs
  f : ∀ y, offRefusals y → u.f y = s.f y

theorem refused_same {n : Nat} (hn : n < 16) (k : Nat) : SameRound s (s.refused n k) :=
  ⟨rfl, rfl, fun y hy => by
    unfold State.refused
    rw [f_setF, if_neg, f_count, if_neg]
    · simp only [offRefusals, fldKey, fARB_REQ_REF_REFUSALS] at *
      omega
    · simp only [offRefusals, fldKey, fARB_REQ_REF_REASON] at *
      omega⟩

theorem refuseAll_same {l : List (Nat × Nat × Bool)} (hl : ∀ r ∈ l, r.1 < 16) : SameRound s (s.refuseAll l) :=
  List.foldlRecOn (motive := SameRound s) l _ ⟨rfl, rfl, fun _ _ => rfl⟩ fun t h r hr => by
    obtain ⟨arb, fs, f⟩ := h
    split
    · exact ⟨arb, fs, f⟩
    · obtain ⟨arb', fs', f'⟩ := refused_same (s := t) (hl r hr) 1
      exact ⟨arb'.trans arb, fs'.trans fs, fun y hy => (f' y hy).trans (f y hy)⟩

namespace SameRound

theorem arbCfg (h : SameRound s u) (n : Nat) : u.arbCfg arb n = s.arbCfg arb n := by
  unfold State.arbCfg
  rw [h.arb, h.f (fARB_REQ_EFF_PRIO n) (by simp only [offRefusals, fARB_REQ_EFF_PRIO]; omega),
    h.f (fARB_REQ_EFF_DEADLINE n) (by simp only [offRefusals, fARB_REQ_EFF_DEADLINE]; omega)]

theorem standing (h : SameRound s u) (b : Bool) (n : Nat) : u.standing arb b n = s.standing arb b n := by
  unfold State.standing State.refreshDue State.on
  rw [h.fs, h.f fSEC_LC_DBG_OPEN (by simp only [offRefusals, fSEC_LC_DBG_OPEN]; omega)]

theorem beats (h : SameRound s u) {b : Bool} {j : Nat} (k : s.beats arb b w j) : u.beats arb b w j := by
  unfold State.beats
  simp only [h.standing, h.arbCfg, age_of_arb h.arb]
  exact k

end SameRound

/-! ## What a round does -/

/-- A winner that had been deferred counts, where it has no job (R656). -/
def State.noteDeferral (s : State) (n : Nat) (waited : Bool) : State :=
  if waited ∧ [4, 6, 7, 10, 11, 13].contains n then s.deferred n else s

/-- The winner of a round is served: the link's next slot is its, a due refresh is performed. -/
def State.served (s : State) (arb n : Nat) (due waited : Bool) : State :=
  (if isLinkArb arb then s.linkGranted (arb - 64) n else if n = 14 ∧ due then s.refreshGranted (arb - 128) else s).noteDeferral
    n waited

/-- The end of a round over the requests `live`. -/
def roundEnd (arb : Nat) (due : Bool) (live : List (Nat × Nat × Bool)) (r : Option Nat × State) : State :=
  match r.1 with
  | none => r.2
  | some n => r.2.served arb n due (live.any fun r => r.1 == n && r.2.2)

/-- What the command answers at the end of a round: the next state of `roundEnd`, as `execArbRound` writes it. -/
def roundAnswer (arb : Nat) (due : Bool) (live : List (Nat × Nat × Bool)) (r : Option Nat × State) :
    Host.Outcome State Fault Refusal :=
  match r.1 with
  | none => .next r.2
  | some n => .next (r.2.served arb n due (live.any fun r => r.1 == n && r.2.2))

theorem roundAnswer_eq (due : Bool) (live : List (Nat × Nat × Bool)) (r : Option Nat × State) :
    roundAnswer arb due live r = .next (roundEnd arb due live r) := by
  obtain ⟨_ | n, v⟩ := r
  · rfl
  · rfl

/-- The round of a state `v` in which the scan emergencies are noted. -/
theorem execArbRound_noted (h : isLinkArb arb = true ∨ isPcArb arb = true ∨ isBankArb arb = true)
    (hv : (s.emergGroups arb scan).foldl (fun s g => s.noteEmerg g) s = t) : execArbRound arb reqs scan s =
    roundAnswer arb (t.refreshDue arb) (t.live arb reqs) ((t.refuseAll ((t.live arb reqs).filter (t.overdue arb))).classRound arb
      (!(s.emergGroups arb scan).isEmpty) (t.contenders arb reqs)) := by
  subst hv
  exact if_neg (not_not_intro h)

/-- A round is decided among the contenders by what stood before it. -/
theorem execArbRound_eq (h : isLinkArb arb = true ∨ isPcArb arb = true ∨ isBankArb arb = true) : ∃ u, SameRound s u ∧
    execArbRound arb reqs scan s = .next (roundEnd arb (s.refreshDue arb) (s.live arb reqs)
      (u.classRound arb (s.scanPending arb scan) (s.contenders arb reqs))) := by
  obtain ⟨e, p, noted⟩ := noteEmergs_eq (s := s) (s.emergGroups arb scan)
  have refuses : SameRound { s with ev := e, pix := p }
      (({ s with ev := e, pix := p } : State).refuseAll ((s.live arb reqs).filter (s.overdue arb))) := by
    refine refuseAll_same fun r hr => ?_
    have late := of_decide_eq_true (List.mem_filter.1 hr).2
    omega
  obtain ⟨arbKept, fsKept, fKept⟩ := refuses
  refine ⟨_, ⟨arbKept, fsKept, fKept⟩, ?_⟩
  rw [execArbRound_noted h noted, roundAnswer_eq, emergGroups_isEmpty]
  rfl

/-! ## What stands after a round -/

variable {n : Nat} {due waited : Bool}

theorem noteDeferral_keeps : (s.noteDeferral n waited).link = s.link ∧ (s.noteDeferral n waited).fs = s.fs ∧
    (s.noteDeferral n waited).arb = s.arb := by
  unfold State.noteDeferral
  split
  · exact ⟨rfl, rfl, rfl⟩
  · exact ⟨rfl, rfl, rfl⟩

theorem served_arb : (s.served arb n due waited).arb = s.arb := by
  obtain ⟨-, -, kept⟩ := noteDeferral_keeps (s := if isLinkArb arb then s.linkGranted (arb - 64) n else
    if n = 14 ∧ due then s.refreshGranted (arb - 128) else s) (n := n) (waited := waited)
  have touch : Touch 18706 s (if isLinkArb arb then s.linkGranted (arb - 64) n else
      if n = 14 ∧ due then s.refreshGranted (arb - 128) else s) :=
    .ite (.linkGranted (Has.refl.s rfl) .refl) (.ite (.refreshGranted (Has.refl.s rfl) .refl) .refl)
  exact kept.trans (touch_same touch .arb (by decide))

/-- The link's next slot is the winner's (R21, R647). -/
theorem served_grant (h : isLinkArb arb = true) :
    ((s.served arb n due waited).lane ((arb - 64) / 16) ((arb - 64) % 16)).grant = some n := by
  unfold State.served
  obtain ⟨link, -, -⟩ := noteDeferral_keeps (s := s.linkGranted (arb - 64) n) (n := n) (waited := waited)
  rw [if_pos h, lane_of_link link]
  unfold State.linkGranted
  rw [lane_setLane, if_pos rfl]

theorem refreshGranted_postponed (pc : Nat) : smGet (fun _ => 0) (s.refreshGranted pc).fs.postponed pc = 0 := by
  unfold State.refreshGranted
  generalize hv : State.count _ fFST_PWR_STATUS_EMERG 1 = v
  have put : smGet (fun _ => 0) v.fs.postponed pc = 0 := by
    subst hv
    exact (smGet_smSet (fun _ => 0) s.fs.postponed pc pc 0).trans (if_pos rfl)
  obtain ⟨-, -, kept, -⟩ := touch_same (Touch.cxlLog (m := 2064) (s := v) (a1 := 1) (a2 := 1) (a3 := pc) .refl .refl) .fsRest (by decide)
  rw [kept, put]

theorem not_link_of_due (h : s.refreshDue arb = true) : isLinkArb arb = false := by
  simp only [State.refreshDue, isPcArb, isLinkArb, Bool.and_eq_true, decide_eq_true_eq, decide_eq_false_iff_not] at *
  omega

/-- A due refresh that wins is performed (R196). -/
theorem served_refresh (h : isLinkArb arb = false) : smGet (fun _ => 0) (s.served arb 14 true waited).fs.postponed (arb - 128) = 0 := by
  unfold State.served
  obtain ⟨-, fs, -⟩ := noteDeferral_keeps (s := s.refreshGranted (arb - 128)) (n := 14) (waited := waited)
  rw [h, if_neg (by decide), if_pos (by decide), fs, refreshGranted_postponed]

theorem roundEnd_arb (live : List (Nat × Nat × Bool)) (r : Option Nat × State) : (roundEnd arb due live r).arb = r.2.arb := by
  unfold roundEnd
  split
  · rfl
  · exact served_arb

/-- A round changes no age but those of the contenders at its arbiter. -/
theorem age_classRound {b : Bool} {all : List Nat} {a j : Nat} (hl : ∀ i ∈ all, i < 4096) (hj : j < 4096) (hn : all.Nodup)
    (h : a ≠ arb ∨ j ∉ all) : (s.classRound arb b all).2.age a j = s.age a j := by
  rcases classRound_cases (s := s) (arb := arb) b all with hr | ⟨w, hw, hr⟩
  · rw [hr]
  · rw [hr, age_roundWon hn hl hw hj, if_neg, if_neg]
    · exact fun k => h.elim (absurd k.1) (absurd k.2)
    · exact fun k => h.elim (absurd k.1) fun m => m (by rw [k.2]; exact hw)

end Sys2Proof.Machine

/-- Settles O56: what decides a round stands as before it, so the contenders are those pending, and the winner the one above all. -/
theorem aRoundGrantsTheGreatestRankOfTheHighestClass : Obligations.ARoundGrantsTheGreatestRankOfTheHighestClass := by
  intro s arb reqs scan ha hr
  obtain ⟨u, same, runs⟩ := execArbRound_eq (s := s) (reqs := reqs) (scan := scan) ha
  have small : ∀ i ∈ s.contenders arb reqs, i < 4096 := fun i hi => pends_lt hr (mem_contenders.1 hi)
  have distinct : (s.contenders arb reqs).Nodup := nodup_eraseDups _
  have touch : Touch 8538450 s _ := Touch.exec (.arbRound arb reqs scan) s _ runs
  have kept (a j : Nat) (hj : j < 4096) (h : a ≠ arb ∨ ¬ s.pends arb reqs j) : (roundEnd arb (s.refreshDue arb) (s.live arb reqs)
      (u.classRound arb (s.scanPending arb scan) (s.contenders arb reqs))).age a j = s.age a j :=
    (age_of_arb (roundEnd_arb (due := s.refreshDue arb) (s.live arb reqs) _) a j).trans
      ((age_classRound (s := u) (b := s.scanPending arb scan) small hj distinct (h.imp_right (mt mem_contenders.1))).trans
        (age_of_arb same.arb a j))
  refine ⟨_, runs, fun w hw above => ?won, fun j hj h => kept arb j hj (.inr h), fun a j h hj => kept a j hj (.inl h),
    touch_same touch .fsMem (by decide), touch_same touch .groups (by decide), touch_same touch .th (by decide),
    touch_same touch .ch (by decide), touch_same touch .drv (by decide), touch_same touch .codec (by decide),
    touch_same touch .nv (by decide)⟩
  case won =>
    have wins : u.classRound arb (s.scanPending arb scan) (s.contenders arb reqs) = (some w, u.roundWon arb w (s.contenders arb reqs)) :=
      classRound_won (mem_contenders.2 hw) fun j hj hne => same.beats (above j (mem_contenders.1 hj) hne)
    have ages (j : Nat) (hj : j < 4096) : (roundEnd arb (s.refreshDue arb) (s.live arb reqs)
        (some w, u.roundWon arb w (s.contenders arb reqs))).age arb j = _ :=
      (age_of_arb (roundEnd_arb (s.live arb reqs) _) arb j).trans (age_roundWon distinct small (mem_contenders.2 hw) hj)
    rw [wins]
    refine ⟨(ages w (pends_lt hr hw)).trans (if_pos ⟨rfl, rfl⟩), fun j hj hne => ?_, served_grant, fun h14 hd => ?_⟩
    · rw [ages j (pends_lt hr hj), if_neg fun h => hne h.2, if_pos ⟨rfl, mem_contenders.2 hj⟩, age_of_arb same.arb]
    · subst h14
      have due : s.refreshDue arb = true := hd
      unfold roundEnd
      dsimp only
      rw [due]
      exact served_refresh (not_link_of_due due)
end

section
/-!
Reads of the frame store, the scrubber, refresh, the low-power states of a stack, and the cell pool's configuration (05).
-/
open Sys2Proof Sys2Proof.Machine
namespace Sys2Proof.Machine

variable {s t u : State} {a k cls err : Nat} {y : Fld} {fs : List Fld} {ps : List Part}

/-! ## A request reaches a stack (R198, R199) -/

theorem stackReady_iff : s.stackReady k = true ↔ s.f (fStack k) = 0 ∧ s.exitAt k = none := by
  simp only [State.stackReady, Bool.and_eq_true, beq_iff_eq, Option.isNone_iff_eq_none]

theorem stackReady_of_low (h : s.f (fStack k) ≠ 0) : s.stackReady k = false :=
  Bool.eq_false_iff.2 fun r => h (stackReady_iff.1 r).1

theorem fStack_w : (fStack k).w = 2 := by
  unfold fStack
  split <;> rfl

/-- The time of a request to a stack is noted (R198). -/
def State.requested (s : State) (k : Nat) : State :=
  { s with fs := { s.fs with lastReq := smSet (fun _ => 0) s.fs.lastReq k s.time.master } }

theorem touchStack_awake (h : s.f (fStack k) = 0) : s.touchStack k = s.requested k := by
  unfold State.touchStack State.leaveLowPower
  dsimp only
  rw [if_pos h]
  rfl

/-- A stack leaves its low-power state, its exit to end at `due` (R199). -/
def State.exiting (s : State) (k due : Nat) : State :=
  { s.setF (fStack k) 0 with fs := { s.fs with exitAt := smSet (fun _ => none) s.fs.exitAt k (some due) } }

theorem exitAt_exiting (due : Nat) : (s.exiting k due).exitAt k = some due :=
  (smGet_smSet (fun _ => none) s.fs.exitAt k k (some due)).trans (if_pos rfl)

theorem touchStack_low (h : s.f (fStack k) ≠ 0) :
    s.touchStack k = (s.exiting k (s.time.master + s.exitLat (s.f (fStack k)))).requested k := by
  unfold State.touchStack State.leaveLowPower
  dsimp only
  rw [if_neg h]
  rfl

namespace Only

/-- Only the frame store's books change. -/
theorem books {c : Option Nat} {n : Nat} {p l : SMap Nat} {e : SMap (Option Nat)} (hp : Part.fsRest ∈ ps) (h : Only fs ps s t) :
    Only fs ps s { t with fs := { t.fs with lastCe := c, scrub := n, postponed := p, lastReq := l, exitAt := e } } :=
  h.touch [.fsRest] (by decide) (List.forall_mem_singleton.2 hp) (.upd_14 (m := 16384) .refl .refl)

theorem requested (hp : Part.fsRest ∈ ps) (h : Only fs ps s t) : Only fs ps s (t.requested k) := h.books hp

end Only

/-- A request starts the exit of a stack in a low-power state (R199). -/
theorem touchStack_exits (h : s.f (fStack k) ≠ 0) : (s.touchStack k).f (fStack k) = 0 ∧
    (s.touchStack k).exitAt k = some (s.time.master + s.exitLat (s.f (fStack k))) ∧
    Only [fStack k] [.fsRest] s (s.touchStack k) := by
  rw [touchStack_low h]
  refine ⟨?_, ?_, .requested (by decide) (.books (t := s.setF (fStack k) 0) (by decide) (.setF (by simp) .refl))⟩
  · exact (f_setF ..).trans ((if_pos rfl).trans (Nat.zero_mod _))
  · exact exitAt_exiting _

/-! ## The outcome of a read of one unit (R193) -/

/-- What the registers and the poison marks show of an uncorrectable read. -/
def State.ueShown (s : State) (a : Nat) : State :=
  (((s.fsPoison a).count fFST_ECC_CNT_UE 1).setW1c fFST_UE_ADDR_VALID 0).setF fFST_UE_ADDR_GRAN (a / 256)

/-- The event of an uncorrectable read. -/
def State.ueEv (s : State) (a cls : Nat) : Ev :=
  ⟨s.time.master, 0x135, false, 0xE00, 0, packBits [(8, 1), (8, stackOf a), (16, 0), (32, a / 256), (8, cls)]⟩

/-- The state in which an uncorrectable read is shown, told and entered in the CXL event log. -/
def State.ueLogged (s : State) (a cls : Nat) : State :=
  let w := s.ueShown a
  let pl := w.host.poisonList
  let w := { w with host := { w.host with
    poisonList := if pl.contains (a / 256) ∨ 256 ≤ pl.length then pl else pl ++ [a / 256] } }
  (w.raise 0x135 0xE00 0 [(8, 1), (8, stackOf a), (16, 0), (32, a / 256), (8, cls)]).cxlLog 2 0 (a / 256)

theorem fsUncorrectable_eq : s.fsUncorrectable a cls = (s.ueLogged a cls).fault 0x09 0xE00 (stackOf a) (a / 256) := rfl

theorem f_fsUncorrectable (h : apart y = true) : (s.fsUncorrectable a cls).f y = (s.ueShown a).f y := by
  rw [fsUncorrectable_eq, f_fault _ h]
  exact f_cxlLog ..

theorem fsUncorrectable_shows : (s.fsUncorrectable a cls).f fFST_ECC_CNT_UE = min (s.f fFST_ECC_CNT_UE + 1) 65535 % 65536 ∧
    (s.fsUncorrectable a cls).f fFST_UE_ADDR_VALID = 1 ∧ (s.fsUncorrectable a cls).f fFST_UE_ADDR_GRAN = a / 256 % 2 ^ 28 := by
  rw [f_fsUncorrectable (by decide), f_fsUncorrectable (by decide), f_fsUncorrectable (by decide)]
  unfold State.ueShown
  refine ⟨?_, ?_, (f_setF ..).trans (if_pos rfl)⟩
  · rw [f_setF, if_neg (by decide), f_setW1c, if_neg (by decide), f_count, if_pos rfl]
    rfl
  · rw [f_setF, if_neg (by decide), f_setW1c_one rfl]

theorem fsUncorrectable_tells : ∃ l, (s.fsUncorrectable a cls).ev.enRoute = s.ev.enRoute ++ s.ueEv a cls :: l := by
  obtain ⟨l, told⟩ := Calm.fault_ev (s.ueLogged a cls) 0x09 0xE00 (stackOf a) (a / 256)
  have logged : (s.ueLogged a cls).ev.enRoute = s.ev.enRoute ++ [s.ueEv a cls] :=
    congrArg EvSt.enRoute (touch_same (m := 2064) (.cxlLog .refl .refl) .ev (by decide))
  exact ⟨l, by rw [fsUncorrectable_eq, told, logged, List.append_assoc]; rfl⟩

theorem fsUncorrectable_touch : Touch 2770 (s.fsPoison a) (s.fsUncorrectable a cls) :=
  .fault (Has.refl.s rfl) (.cxlLog (Has.refl.s rfl) (.raise (Has.refl.s rfl) (.upd_11 (Has.refl.s rfl)
    (.setF (Has.refl.s rfl) (.setW1c (Has.refl.s rfl) (.count (Has.refl.s rfl) .refl))))))

theorem fsUncorrectable_fs : (s.fsUncorrectable a cls).fs.mem = s.fs.mem ∧
    (s.fsUncorrectable a cls).fs.poison = smSet (fun _ => false) s.fs.poison (a / 32) true ∧
    (s.fsUncorrectable a cls).fs.scrub = s.fs.scrub := by
  obtain ⟨-, scrub, -⟩ := touch_same (fsUncorrectable_touch (s := s) (a := a) (cls := cls)) .fsRest (by decide)
  exact ⟨touch_same fsUncorrectable_touch .fsMem (by decide), touch_same fsUncorrectable_touch .fsPoison (by decide), scrub⟩

/-- A unit of an uncorrectable read is poisoned, and the others stand as they did. -/
theorem poisoned_fsUncorrectable (b : Nat) : (s.fsUncorrectable a cls).poisoned b = if b / 32 = a / 32 then true else s.poisoned b := by
  obtain ⟨-, poison, -⟩ := fsUncorrectable_fs (s := s) (a := a) (cls := cls)
  unfold State.poisoned
  rw [poison, smGet_smSet]

/-- Was a corrected read told less than 1,048,576 ticks ago? -/
def State.ceQuiet (s : State) : Bool :=
  match s.fs.lastCe with
  | none => false
  | some t => decide (s.time.master < t + 1048576)

/-- The state in which a corrected read is counted, and told where the last was told long enough ago. -/
def State.ceTold (s : State) (a cls : Nat) : State :=
  if s.ceQuiet then s.count fFST_ECC_CNT_CE 1
  else ((({ s with fs := { s.fs with lastCe := some s.time.master } } : State).count fFST_ECC_CNT_CE 1).raise 0x135 0xE00 0
    [(8, 0), (8, stackOf a), (16, 0), (32, a / 256), (8, cls)]).cxlLog 0 0 (a / 256)

theorem fsCorrected_eq : s.fsCorrected a cls = (s.ceTold a cls).fault 0x08 0xE00 (stackOf a) (a / 256) := rfl

/-- An event and an entry of the CXL event log change no register and nothing of the frame store. -/
theorem logged_keeps {c l n : Nat} {as : List (Nat × Nat)} : ((s.raise c 0xE00 0 as).cxlLog l 0 n).f y = s.f y ∧
    ((s.raise c 0xE00 0 as).cxlLog l 0 n).fs.mem = s.fs.mem ∧ ((s.raise c 0xE00 0 as).cxlLog l 0 n).fs.poison = s.fs.poison ∧
    ((s.raise c 0xE00 0 as).cxlLog l 0 n).fs.scrub = s.fs.scrub := by
  have touch : Touch 2128 s ((s.raise c 0xE00 0 as).cxlLog l 0 n) := .cxlLog (Has.refl.s rfl) (.raise (Has.refl.s rfl) .refl)
  obtain ⟨-, scrub, -⟩ := touch_same touch .fsRest (by decide)
  exact ⟨f_cxlLog .., touch_same touch .fsMem (by decide), touch_same touch .fsPoison (by decide), scrub⟩

theorem ceTold_keeps : (s.ceTold a cls).f y = (s.count fFST_ECC_CNT_CE 1).f y ∧ (s.ceTold a cls).fs.mem = s.fs.mem ∧
    (s.ceTold a cls).fs.poison = s.fs.poison ∧ (s.ceTold a cls).fs.scrub = s.fs.scrub := by
  unfold State.ceTold
  split
  · exact ⟨rfl, rfl, rfl, rfl⟩
  · exact logged_keeps

theorem fsCorrected_keeps : (s.fsCorrected a cls).fs.mem = s.fs.mem ∧ (s.fsCorrected a cls).fs.poison = s.fs.poison ∧
    (s.fsCorrected a cls).fs.scrub = s.fs.scrub := by
  obtain ⟨-, mem, poison, scrub⟩ := ceTold_keeps (s := s) (a := a) (cls := cls) (y := fFST_ECC_CNT_CE)
  have touch := fault_touch (s.ceTold a cls) 0x08 0xE00 (stackOf a) (a / 256)
  obtain ⟨-, kept, -⟩ := touch_same touch .fsRest (by decide)
  rw [fsCorrected_eq]
  exact ⟨(touch_same touch .fsMem (by decide)).trans mem, (touch_same touch .fsPoison (by decide)).trans poison, kept.trans scrub⟩

theorem fsCorrected_counts : (s.fsCorrected a cls).f fFST_ECC_CNT_CE = min (s.f fFST_ECC_CNT_CE + 1) 65535 % 65536 := by
  obtain ⟨shown, -⟩ := ceTold_keeps (s := s) (a := a) (cls := cls) (y := fFST_ECC_CNT_CE)
  rw [fsCorrected_eq, f_fault _ (by decide), shown, f_count, if_pos rfl]
  rfl

/-- A read of a unit changes no byte, takes no poison away and leaves the scrubber's place. -/
theorem fsEcc_keeps : (s.fsEcc a err cls).fs.mem = s.fs.mem ∧ (s.fsEcc a err cls).fs.scrub = s.fs.scrub ∧
    ∀ b, s.poisoned b = true → (s.fsEcc a err cls).poisoned b = true := by
  unfold State.fsEcc
  split
  · obtain ⟨mem, -, scrub⟩ := fsUncorrectable_fs (s := s) (a := a) (cls := cls)
    exact ⟨mem, scrub, fun b hb => by rw [poisoned_fsUncorrectable, hb, ite_self]⟩
  · split
    · obtain ⟨mem, poison, scrub⟩ := fsCorrected_keeps (s := s) (a := a) (cls := cls)
      exact ⟨mem, scrub, fun b hb => by unfold State.poisoned; rw [poison]; exact hb⟩
    · exact ⟨rfl, rfl, fun _ hb => hb⟩

theorem fsEcc_uncorrectable (h : s.poisoned a = true ∨ err = 2) : s.fsEcc a err cls = s.fsUncorrectable a cls := if_pos h

theorem fsEcc_corrected (hp : s.poisoned a = false) (he : err = 1) : s.fsEcc a err cls = s.fsCorrected a cls := by
  unfold State.fsEcc
  rw [if_neg (by simp [hp, he]), if_pos he]

theorem fsEcc_clean (hp : s.poisoned a = false) (he : err = 0) : s.fsEcc a err cls = s := by
  unfold State.fsEcc
  rw [if_neg (by simp [hp, he]), if_neg (by omega)]

theorem fsEcc_poisons (he : err = 2) : (s.fsEcc a err cls).poisoned a = true := by
  rw [fsEcc_uncorrectable (.inr he), poisoned_fsUncorrectable, if_pos rfl]

/-! ## Reads (R193, R199) -/

theorem fstReadDone_ready (ha : a < fsEnd) (h : s.stackReady (stackOf a) = true) :
    exec (.fstReadDone a err cls) s = .next ((s.requested (stackOf a)).fsEcc a err cls) := by
  rw [exec_fstReadDone]
  unfold execFstReadDone
  rw [if_neg (by omega)]
  dsimp only
  rw [if_pos h, touchStack_awake (stackReady_iff.1 h).1]

theorem fstReadDone_low (ha : a < fsEnd) (h : s.f (fStack (stackOf a)) ≠ 0) :
    exec (.fstReadDone a err cls) s = .next (s.touchStack (stackOf a)) := by
  rw [exec_fstReadDone]
  unfold execFstReadDone
  rw [if_neg (by omega)]
  dsimp only
  rw [stackReady_of_low h, if_neg (by decide)]

/-! ## The scrubber (R195) -/

/-- The scrubber goes on to the next granule. -/
def State.scrubbed (s : State) : State := { s with fs := { s.fs with scrub := (s.fs.scrub + 1) % (fsEnd / 256) } }

/-- The units of `l` of the granule at `a` are read. -/
def State.unitsRead (s : State) (a err : Nat) (l : List Nat) : State :=
  l.foldl (fun s i => s.fsEcc (a + 32 * i) (err / 4 ^ i % 4) 3) s

theorem scrubRead_off {refused : Bool} (h : s.on fFST_SCRUB_CFG_SCRUB_EN = false) : exec (.scrubRead refused err) s = .next s :=
  if_pos (by rw [h]; decide)

section
variable (h : s.on fFST_SCRUB_CFG_SCRUB_EN = true)
include h

theorem scrubRead_refused : exec (.scrubRead true err) s = .next s.scrubbed :=
  (if_neg (not_not_intro h)).trans (if_pos rfl)

theorem scrubRead_asleep (ha : s.asleep (256 * s.fs.scrub) 256 = true) :
    exec (.scrubRead false err) s = .next (s.touchRange (256 * s.fs.scrub) 256) :=
  (if_neg (not_not_intro h)).trans ((if_neg (by decide)).trans (if_pos ha))

theorem scrubRead_reads (ha : s.asleep (256 * s.fs.scrub) 256 = false) : exec (.scrubRead false err) s =
    .next ((s.touchRange (256 * s.fs.scrub) 256).scrubbed.unitsRead (256 * s.fs.scrub) err (List.range 8)) :=
  (if_neg (not_not_intro h)).trans ((if_neg (by decide)).trans (if_neg (by rw [ha]; decide)))

end

/-- A range that is awake is read without a stack leaving a low-power state. -/
theorem touchRange_awake {n : Nat} (h : s.asleep a n = false) : Only [] [.fsRest] s (s.touchRange a n) ∧
    (s.touchRange a n).fs.scrub = s.fs.scrub := by
  have awake : ∀ k ∈ stacksOf a n, s.f (fStack k) = 0 := fun k hk => by
    have ready := (List.any_eq_false.1 h) k hk
    rw [Bool.not_eq_true', Bool.not_eq_false] at ready
    exact (stackReady_iff.1 ready).1
  have goes : Only [] [.fsRest] s (s.touchRange a n) ∧ (s.touchRange a n).fs.scrub = s.fs.scrub ∧
      (s.touchRange a n).regs = s.regs := by
    unfold State.touchRange
    refine List.foldlRecOn (motive := fun w : State => Only [] [.fsRest] s w ∧ w.fs.scrub = s.fs.scrub ∧ w.regs = s.regs) _ _
      ⟨.refl, rfl, rfl⟩ fun w ⟨only, scrub, regs⟩ k hk => ?_
    have zero : w.f (fStack k) = 0 := (congrArg (regGet · (fStack k)) regs).trans (awake k hk)
    rw [touchStack_awake zero]
    exact ⟨only.requested (by decide), scrub, regs⟩
  obtain ⟨only, scrub, -⟩ := goes
  exact ⟨only, scrub⟩

theorem unitsRead_clean {l : List Nat} (h : ∀ i ∈ l, err / 4 ^ i % 4 = 0 ∧ s.poisoned (a + 32 * i) = false) : s.unitsRead a err l = s := by
  unfold State.unitsRead
  refine List.foldlRecOn (motive := fun w => w = s) _ _ rfl fun w hw i hi => ?_
  obtain ⟨clean, whole⟩ := h i hi
  subst hw
  exact fsEcc_clean whole clean

/-- The reads of units change no byte, take no poison away and leave the scrubber's place. -/
theorem unitsRead_keeps (l : List Nat) : (s.unitsRead a err l).fs.mem = s.fs.mem ∧ (s.unitsRead a err l).fs.scrub = s.fs.scrub ∧
    ∀ b, s.poisoned b = true → (s.unitsRead a err l).poisoned b = true := by
  unfold State.unitsRead
  refine List.foldlRecOn (motive := fun w : State => w.fs.mem = s.fs.mem ∧ w.fs.scrub = s.fs.scrub ∧
    ∀ b, s.poisoned b = true → w.poisoned b = true) _ _ ⟨rfl, rfl, fun _ h => h⟩ fun w ⟨mem, scrub, poison⟩ i _ => ?_
  obtain ⟨mem', scrub', poison'⟩ := fsEcc_keeps (s := w) (a := a + 32 * i) (err := err / 4 ^ i % 4) (cls := 3)
  exact ⟨mem'.trans mem, scrub'.trans scrub, fun b h => poison' b (poison b h)⟩

/-- A unit read with an uncorrectable error stands poisoned after the reads. -/
theorem unitsRead_poisons {i : Nat} (he : err / 4 ^ i % 4 = 2) (l : List Nat) : ∀ s : State, i ∈ l →
    (s.unitsRead a err l).poisoned (a + 32 * i) = true := by
  induction l with
  | nil => exact fun _ hi => absurd hi (List.not_mem_nil)
  | cons j l ih =>
    intro s hi
    rcases List.mem_cons.1 hi with rfl | hi
    · obtain ⟨-, -, poison⟩ := unitsRead_keeps (s := s.fsEcc (a + 32 * i) (err / 4 ^ i % 4) 3) (a := a) (err := err) l
      exact poison _ (fsEcc_poisons he)
    · exact ih _ hi

/-! ## Refresh (R196) -/

/-- How many refresh intervals of a pseudo-channel are postponed. -/
def State.postpones (s : State) (pc n : Nat) : State :=
  { s with fs := { s.fs with postponed := smSet (fun _ => 0) s.fs.postponed pc n } }

theorem postpones_shows (pc n : Nat) : smGet (fun _ => 0) (s.postpones pc n).fs.postponed pc = n ∧ Only [] [.fsRest] s (s.postpones pc n) :=
  ⟨(smGet_smSet (fun _ => 0) s.fs.postponed pc pc n).trans (if_pos rfl), Only.refl.books (by decide)⟩

theorem refreshInterval_eq {pc : Nat} {busy : Bool} (hpc : pc < 64) (h : s.f (fStack (pc / 32)) ≠ 2) :
    exec (.refreshInterval pc busy) s = .next (s.postpones pc
      (if busy then min (smGet (fun _ => 0) s.fs.postponed pc + 1) 8 else 0)) := by
  rw [exec_refreshInterval]
  unfold execRefreshInterval
  rw [if_neg (by omega)]
  cases busy
  · rfl
  · dsimp only
    rw [if_neg (by decide), if_pos rfl]
    split
    next hn => rw [min_eq_left (by omega)]; rfl
    next hn => rw [min_eq_right (by omega)]; rfl

theorem refreshInterval_suspended {pc : Nat} {busy : Bool} (h : s.f (fStack (pc / 32)) = 2) :
    exec (.refreshInterval pc busy) s = .next s := if_pos (.inl h)

/-! ## Low-power states (R198) -/

section
variable {n : Nat} (hk : k < 2) (hr : smGet (fun _ => 0) s.fs.lastReq k + 1024 ≤ s.time.master) (he : s.exitAt k = none)
  (hp : s.stackPending k = false)
include hk hr he hp

theorem stackIdle_eq : exec (.stackIdle k) s = .next (
    if s.on fFST_PWR_CFG_SR_EN = true ∧ s.exitLat 2 + s.f fFST_PWR_CFG_MARGIN ≤ s.f fPAN_TOL_TOL then s.setF (fStack k) 2
    else if (s.on fFST_PWR_CFG_PD_EN = true ∧ s.exitLat 1 + s.f fFST_PWR_CFG_MARGIN ≤ s.f fPAN_TOL_TOL) ∧ s.f (fStack k) = 0 then
      s.setF (fStack k) 1
    else s) := by
  rw [exec_stackIdle]
  unfold execStackIdle
  dsimp only
  rw [if_neg (by simp [hr, he, hp]; omega)]
  simp only [Bool.and_eq_true, decide_eq_true_eq]
  split
  · rfl
  · split <;> rfl

end

theorem setF_stack {n : Nat} (h : n < 4) : (s.setF (fStack k) n).f (fStack k) = n ∧ Only [fStack k] [] s (s.setF (fStack k) n) :=
  ⟨(f_setF ..).trans ((if_pos rfl).trans (by rw [fStack_w]; exact Nat.mod_eq_of_lt h)), .setF (by simp) .refl⟩

theorem stackExitDone_due {due : Nat} (h : s.exitAt k = some due) (ht : due ≤ s.time.master) : exec (.stackExitDone k) s =
    .next { s with fs := { s.fs with exitAt := smSet (fun _ => none) s.fs.exitAt k none } }.stackServes := by
  rw [exec_stackExitDone]
  unfold execStackExitDone
  rw [h]
  exact if_pos ht

/-! ## The cell pool's registers (R206, R207) -/

theorem setFree_keeps {n : Nat} (h : fldKey y ≠ fldKey fFST_STRUDEL_FREE_FREE) : (s.setFree n).f y = s.f y ∧
    (s.setFree n).fs = s.fs ∧ (s.setFree n).codec = s.codec := by
  unfold State.setFree
  dsimp only
  split
  · exact ⟨(f_setF ..).trans (if_neg h), rfl, rfl⟩
  · exact ⟨(f_setF ..).trans (if_neg h), rfl, rfl⟩

/-- The books of the cell pool with every device cell free. -/
def State.cellsFreed (s : State) : State :=
  { s with
    fs := { s.fs with used := [], lostCells := [] }
    codec := { s.codec with releasing := [], freed := [] } }

theorem freeAllCells_keeps (h : fldKey y ≠ fldKey fFST_STRUDEL_FREE_FREE) : s.freeAllCells.f y = s.f y ∧
    s.freeAllCells.fs.used = [] ∧ s.freeAllCells.fs.mem = s.fs.mem ∧ s.freeAllCells.codec.releasing = [] := by
  obtain ⟨f, fs, codec⟩ := setFree_keeps (s := s.cellsFreed) (n := s.devEnd - s.devFirst) h
  exact ⟨f, (congrArg FsSt.used fs :), (congrArg FsSt.mem fs :), (congrArg CodecSt.releasing codec :)⟩

theorem strudelConfigWrite_row {req : Req} {x : Fld} {data : Word} (hx : x = fFST_STRUDEL_CELLS_CELLS ∨ x = fFST_STRUDEL_DEV_DEV_FIRST)
    (ht : s.takesWrite req x.addr = true) : exec (.strudelConfigWrite req x.addr data) s =
      .next (s.strudelWrite x.addr data).wakeBanks := by
  have word : BitVec.ofNat 32 data.toNat = data := by rw [BitVec.ofNat_toNat, BitVec.setWidth_eq]
  rw [exec_strudelConfigWrite]
  unfold execStrudelConfigWrite
  rcases hx with rfl | rfl
  · rw [rowWrite_of s (by decide), write_FST_STRUDEL_CELLS ht data.isLt, writeHost_FST_STRUDEL_CELLS, word]
  · rw [rowWrite_of s (by decide), write_FST_STRUDEL_DEV ht data.isLt, writeHost_FST_STRUDEL_DEV, word]

theorem cellsAddr_ne : fFST_STRUDEL_CELLS_CELLS.addr ≠ fFST_STRUDEL_DEV_LOW.addr := by decide

theorem strudelWrite_cells {data : Word} (h : s.strudelStopped = true) : s.strudelWrite fFST_STRUDEL_CELLS_CELLS.addr data =
    (s.setF fFST_STRUDEL_CELLS_CELLS (bitsOf data.toNat 23 0)).freeAllCells := by
  unfold State.strudelWrite
  dsimp only
  rw [if_neg cellsAddr_ne, if_neg (not_not_intro h), if_neg cellsAddr_ne, if_pos rfl]

theorem strudelWrite_live {data : Word} (h : s.strudelStopped = false) : s.strudelWrite fFST_STRUDEL_CELLS_CELLS.addr data =
    s.err 1 fFST_STRUDEL_CELLS_CELLS.addr := by
  unfold State.strudelWrite
  dsimp only
  rw [if_neg cellsAddr_ne, if_pos (by rw [h]; decide)]

theorem devAddr_eq : fFST_STRUDEL_DEV_DEV_FIRST.addr = fFST_STRUDEL_DEV_LOW.addr := rfl

theorem strudelWrite_dev {data : Word} (h : (s.setF fFST_STRUDEL_DEV_LOW (bitsOf data.toNat 31 24)).strudelStopped = true) :
    s.strudelWrite fFST_STRUDEL_DEV_DEV_FIRST.addr data = ((s.setF fFST_STRUDEL_DEV_LOW (bitsOf data.toNat 31 24)).setF
      fFST_STRUDEL_DEV_DEV_FIRST (bitsOf data.toNat 23 0)).freeAllCells := by
  unfold State.strudelWrite
  dsimp only
  rw [if_pos devAddr_eq, if_neg (not_not_intro h), if_pos devAddr_eq]

theorem err_fs {kind : Nat} : (s.err kind a).fs = s.fs := by
  unfold State.err
  dsimp only
  split <;> rfl

end Sys2Proof.Machine

/-- Settles O13, command by command: a read is judged once its stack is awake, the scrubber reads eight such units, and a write of the
cell pool's configuration frees every cell where the pool is stopped. -/
theorem frameStoreReadsRefreshAndPower : Obligations.FrameStoreReadsRefreshAndPower := by
  intro s
  refine ⟨fun addr err cls ha => ⟨fun hr => ⟨fun h => ?uncorrectable, fun hp he => ?corrected, fun hp he => ?clean⟩, fun hl => ?exits⟩,
    fun refused err => ⟨fun hs h => ?passes, fun hs hr h => ?poisons, fun hs hr h => ?waits, scrubRead_off⟩,
    fun pc busy hpc h => ⟨fun hn => ?postponed, fun hb hn => ?full⟩, fun pc busy _ h => refreshInterval_suspended h,
    fun stack hk hq he hp => ⟨fun hs hm => ?selfRefresh, fun hs hd hm hz => ?powerDown⟩,
    fun stack due h ht => stackExitDone_due h ht,
    fun req data ht => ⟨fun h => ?cells, fun h => ?live⟩, fun req data ht h => ?dev⟩
  case uncorrectable =>
    obtain ⟨ue, valid, gran⟩ := fsUncorrectable_shows (s := s.requested (stackOf addr)) (a := addr) (cls := cls)
    obtain ⟨mem, -⟩ := fsUncorrectable_fs (s := s.requested (stackOf addr)) (a := addr) (cls := cls)
    refine ⟨_, fstReadDone_ready ha hr, ?_⟩
    rw [fsEcc_uncorrectable (s := s.requested (stackOf addr)) h]
    exact ⟨(poisoned_fsUncorrectable _).trans (if_pos rfl), ue, valid, gran, mem, fsUncorrectable_tells⟩
  case corrected =>
    obtain ⟨mem, poison, -⟩ := fsCorrected_keeps (s := s.requested (stackOf addr)) (a := addr) (cls := cls)
    refine ⟨_, fstReadDone_ready ha hr, ?_⟩
    rw [fsEcc_corrected (s := s.requested (stackOf addr)) hp he]
    exact ⟨fsCorrected_counts, mem, poison⟩
  case clean =>
    refine ⟨_, fstReadDone_ready ha hr, ?_⟩
    rw [fsEcc_clean (s := s.requested (stackOf addr)) hp he]
    exact ⟨(smGet_smSet (fun _ => 0) s.fs.lastReq _ _ s.time.master).trans (if_pos rfl), .requested (by decide) .refl, rfl⟩
  case exits => exact ⟨_, fstReadDone_low ha hl, touchStack_exits hl⟩
  case passes =>
    cases refused
    · obtain ⟨awake, whole⟩ := h.resolve_left (by decide)
      obtain ⟨only, scrub⟩ := touchRange_awake awake
      obtain ⟨-, poison⟩ := touchRange_bytes (s := s) (256 * s.fs.scrub) 256
      refine ⟨_, scrubRead_reads hs awake, ?_⟩
      rw [unitsRead_clean fun i hi => ⟨(whole i (List.mem_range.1 hi)).1, by
        have stands := (whole i (List.mem_range.1 hi)).2
        unfold State.poisoned at stands ⊢
        exact (congrArg (smGet _ · _) poison).trans stands⟩]
      exact ⟨congrArg (fun n => (n + 1) % (fsEnd / 256)) scrub, only.books (by decide)⟩
    · exact ⟨_, scrubRead_refused hs, rfl, Only.refl.books (by decide)⟩
  case poisons =>
    subst hr
    obtain ⟨-, scrub⟩ := touchRange_awake h
    obtain ⟨mem, -⟩ := touchRange_bytes (s := s) (256 * s.fs.scrub) 256
    obtain ⟨mem', scrub', -⟩ := unitsRead_keeps (s := (s.touchRange (256 * s.fs.scrub) 256).scrubbed) (a := 256 * s.fs.scrub)
      (err := err) (List.range 8)
    exact ⟨_, scrubRead_reads hs h, scrub'.trans (congrArg (fun n => (n + 1) % (fsEnd / 256)) scrub), mem'.trans mem,
      fun i hi he => unitsRead_poisons he _ _ (List.mem_range.2 hi)⟩
  case waits =>
    subst hr
    exact scrubRead_asleep hs h
  case postponed =>
    refine ⟨_, refreshInterval_eq hpc h, ?_⟩
    cases busy
    · exact postpones_shows pc 0
    · have below : smGet (fun _ => 0) s.fs.postponed pc < 7 := hn.resolve_left (by decide)
      rw [if_pos rfl, min_eq_left (by omega)]
      exact postpones_shows pc _
  case full =>
    refine ⟨_, refreshInterval_eq hpc h, ?_⟩
    rw [if_pos hb, min_eq_right (by omega)]
    exact postpones_shows pc 8
  case selfRefresh =>
    exact ⟨_, (stackIdle_eq hk hq he hp).trans (congrArg _ (if_pos ⟨hs, hm⟩)), setF_stack (by decide)⟩
  case powerDown =>
    refine ⟨_, (stackIdle_eq hk hq he hp).trans (congrArg _ ((if_neg ?_).trans (if_pos ⟨⟨hd, hm⟩, hz⟩))), setF_stack (by decide)⟩
    rintro ⟨on, fits⟩
    rcases hs with off | tight
    · exact absurd on (by rw [off]; decide)
    · omega
  case cells =>
    obtain ⟨kept, used, mem, releasing⟩ := freeAllCells_keeps (s := s.setF fFST_STRUDEL_CELLS_CELLS (bitsOf data.toNat 23 0))
      (y := fFST_STRUDEL_CELLS_CELLS) (by decide)
    refine ⟨_, strudelConfigWrite_row (.inl rfl) ht, ?_⟩
    rw [strudelWrite_cells h, f_wakeBanks _ (by decide), wake_fs, wake_codec]
    exact ⟨kept.trans ((f_setF ..).trans ((if_pos rfl).trans (Nat.mod_mod ..))), used, releasing, mem⟩
  case live =>
    refine ⟨_, strudelConfigWrite_row (.inl rfl) ht, ?_⟩
    rw [strudelWrite_live h, f_wakeBanks _ (by decide), f_wakeBanks _ (by decide), wake_fs]
    exact ⟨f_err _ (by decide) _ _, err_cfgLive, err_fs⟩
  case dev =>
    generalize hw : (s.setF fFST_STRUDEL_DEV_LOW (bitsOf data.toNat 31 24)).setF fFST_STRUDEL_DEV_DEV_FIRST
      (bitsOf data.toNat 23 0) = w
    obtain ⟨first, used, mem, -⟩ := freeAllCells_keeps (s := w) (y := fFST_STRUDEL_DEV_DEV_FIRST) (by decide)
    obtain ⟨low, -⟩ := freeAllCells_keeps (s := w) (y := fFST_STRUDEL_DEV_LOW) (by decide)
    refine ⟨_, strudelConfigWrite_row (.inr rfl) ht, ?_⟩
    rw [strudelWrite_dev h, hw, f_wakeBanks _ (by decide), f_wakeBanks _ (by decide), wake_fs]
    subst hw
    refine ⟨first.trans ?_, low.trans ?_, used, mem⟩
    · exact (f_setF ..).trans ((if_pos rfl).trans (Nat.mod_mod ..))
    · rw [f_setF, if_neg (by decide), f_setF, if_pos rfl]
      exact Nat.mod_mod ..
end

section
/-!
Codec jobs from their submission to their release, freed cells, and the blocks of a tile fetch (05).
-/
open Sys2Proof Sys2Proof.Machine
namespace Sys2Proof.Machine

variable {s t u v w : State} {e p bx by_ dec idx rounds code : Nat} {j : Job} {y : Fld} {req : Req} {data : Word}

/-! ## Submission (R217) -/

theorem codecSubmit_row (ht : s.takesWrite req fCDC_RING_PTR_TAIL.addr = true) :
    exec (.codecSubmit req data) s = .next (s.submitJobs (reqNum req) (data.toNat % 65536)).wakeBanks := by
  rw [exec_codecSubmit]
  unfold execCodecSubmit
  rw [rowWrite_of s rfl, write_CDC_RING_PTR ht data.isLt, writeHost_CDC_RING_PTR]

/-- The jobs of the `count` records from `old` upwards. -/
def newJobs (old count n by_ : Nat) : List Job :=
  (List.range count).map fun i => ⟨(old + i) % n, [], false, 0, [], 0, 0, 0, false, 0, false, none, by_⟩

/-- Jobs join the ring. -/
def State.joined (s : State) (js : List Job) : State := { s with codec := { s.codec with jobs := s.codec.jobs ++ js } }

/-- How many records a write of TAIL names. -/
def State.submits (s : State) (tail : Nat) : Nat :=
  (tail % 2 ^ s.cdcLog2 + 2 ^ s.cdcLog2 - s.f fCDC_RING_PTR_TAIL % 2 ^ s.cdcLog2) % 2 ^ s.cdcLog2

/-- The ring has room for them; it holds one record fewer than its size (log 114). -/
def State.ringRoom (s : State) (tail : Nat) : Prop :=
  (s.f fCDC_RING_PTR_TAIL % 2 ^ s.cdcLog2 + 2 ^ s.cdcLog2 - s.f fCDC_RING_PTR_HEAD % 2 ^ s.cdcLog2) % 2 ^ s.cdcLog2 +
    s.submits tail < 2 ^ s.cdcLog2

theorem submitJobs_room {tail : Nat} (h : s.ringRoom tail) : s.submitJobs by_ tail =
    (s.joined (newJobs (s.f fCDC_RING_PTR_TAIL % 2 ^ s.cdcLog2) (s.submits tail) (2 ^ s.cdcLog2) by_)).setF fCDC_RING_PTR_TAIL
      (tail % 2 ^ s.cdcLog2) := if_neg (Nat.not_le_of_lt h)

theorem submitJobs_full {tail : Nat} (h : ¬ s.ringRoom tail) : s.submitJobs by_ tail = s := if_pos (Nat.le_of_not_lt h)

theorem submitJobs_keeps (by_ tail : Nat) : (s.submitJobs by_ tail).ev = s.ev ∧ (s.submitJobs by_ tail).fs = s.fs := by
  by_cases h : s.ringRoom tail
  · rw [submitJobs_room h]
    exact ⟨rfl, rfl⟩
  · rw [submitJobs_full h]
    exact ⟨rfl, rfl⟩

theorem newJobs_map (old count n by_ : Nat) : (newJobs old count n by_).map (fun j => (j.idx, j.started)) =
    (List.range count).map fun i => ((old + i) % n, false) := List.map_map ..

/-! ## The next job is checked and started (R219, R220, R221) -/

/-- Why the next job is refused, 0 where it is not. -/
def State.refusal (v : State) (j : Job) : Nat := jobRefusal j (v.on fCXL_LINK_STATUS_CACHE)

section
variable (h : s.nextJob = (some j, v))
include h

theorem codecEncode_refuses (hop : jobF j 0 31 24 ≠ 2) (hr : v.refusal j ≠ 0) :
    exec .codecEncode s = .next (v.refuseJob j (v.refusal j)) := by
  rw [exec_codecEncode]
  unfold execCodecEncode
  rw [h]
  exact (if_neg hop).trans (if_pos hr)

theorem codecEncode_starts (hop : jobF j 0 31 24 ≠ 2) (hr : v.refusal j = 0) : exec .codecEncode s = .next (v.setJob j.idx fun _ =>
    { j with started := true, todo := (jobBlocks j).filter fun b =>
      encodeRows (jobF j 9 31 16) b.2 (surfHb (jobSurf j) b.2) (jobF j 0 16 16 == 1) != 0 }).runJobs := by
  rw [exec_codecEncode]
  unfold execCodecEncode
  rw [h]
  exact (if_neg hop).trans (if_neg (not_not_intro hr))

theorem codecRelease_refuses (hop : jobF j 0 31 24 = 2) (hr : v.refusal j ≠ 0) :
    exec .codecRelease s = .next (v.refuseJob j (v.refusal j)) := by
  rw [exec_codecRelease]
  unfold execCodecRelease
  rw [h]
  exact (if_neg (not_not_intro hop)).trans (if_pos hr)

theorem codecRelease_releases (hop : jobF j 0 31 24 = 2) (hr : v.refusal j = 0)
    (idle : (v.codec.jobs.any fun i => i.started && (!i.todo.isEmpty || i.busy != 0)) = false)
    (hg : v.readGate false ((jobBlocks j).flatMap fun b => v.chainReads (surfDesc (jobSurf j) b.1 b.2)) = (true, w)) :
    exec .codecRelease s = .next ((((jobBlocks j).foldl (fun s b => s.releaseBlock (jobSurf j) b) w).setJob j.idx
      fun _ => { j with started := true }).runJobs) := by
  rw [exec_codecRelease]
  unfold execCodecRelease
  rw [h]
  dsimp only
  rw [if_neg (not_not_intro hop), if_neg (not_not_intro (show jobRefusal j (v.on fCXL_LINK_STATUS_CACHE) = 0 from hr)),
    if_neg (by rw [idle]; decide), hg]

end

/-! ## Completion (R225) -/

/-- HEAD advances past a complete job, and CODEC_JOB_DONE is raised. -/
def State.jobDone (s : State) (j : Job) : State :=
  (s.setF fCDC_RING_PTR_HEAD ((s.f fCDC_RING_PTR_HEAD + 1) % 2 ^ s.cdcLog2)).raise 0x133 (0xC00 + j.lastEnc.getD 0) 0
    [(16, jobF j 0 15 0), (8, jobStatus j), (8, j.reason), (32, j.written), (16, j.shorts), (16, min j.rounds 65535)]

/-- No job is in the ring. -/
def State.ringEmpty (s : State) : State := { s with codec := { s.codec with jobs := [] } }

theorem completeJobs_one (h : j.started = true ∧ j.todo = [] ∧ j.busy = 0) (hw : jobStatus j ≠ 1) :
    completeJobs [j] s = (s.jobDone j).ringEmpty := by
  unfold completeJobs
  rw [if_pos h]
  dsimp only
  rw [if_neg hw]
  rfl

theorem jobDone_head : (s.jobDone j).ringEmpty.f fCDC_RING_PTR_HEAD = (s.f fCDC_RING_PTR_HEAD + 1) % 2 ^ s.cdcLog2 % 65536 := by
  unfold State.jobDone
  exact (f_setF ..).trans (if_pos rfl)

theorem jobDone_raised : Raised s (s.jobDone j).ringEmpty 0x133 (0xC00 + j.lastEnc.getD 0) 0 [(16, jobF j 0 15 0),
    (8, jobStatus j), (8, j.reason), (32, j.written), (16, j.shorts), (16, min j.rounds 65535)] := raised_raise rfl rfl ..

/-! ## A block is encoded (R220 to R223) -/

/-- How many rows of a block its job encodes, and whether that cuts it short. -/
def jobRows (j : Job) (by_ : Nat) : Nat := encodeRows (jobF j 9 31 16) by_ (surfHb (jobSurf j) by_) (jobF j 0 16 16 == 1)

def jobShort (j : Job) (by_ : Nat) : Bool := decide (jobRows j by_ < surfHb (jobSurf j) by_)

/-- The stream of a block's pixels. -/
def jobBytes (j : Job) (bx by_ : Nat) (px : List Nat) : List Byte :=
  encodeBlock (jobSurf j).fmt bx by_ (surfWb (jobSurf j) bx) (jobRows j by_) (jobShort j by_) false px

/-- How many cells a stream needs, and the free cells found for it. -/
def jobNeed (j : Job) (bytes : List Byte) : Nat := cellsNeeded bytes.length (jobSurf j).slot

def State.cellsFor (u : State) (j : Job) (bytes : List Byte) : List Nat :=
  findCells u (u.devEnd - u.devFirst) (jobNeed j bytes) u.devFirst

/-- The encoder holds its block no longer, what it did entered in its job. -/
def State.blockEnds (s : State) (idx e : Nat) (f : Job → Job) : State :=
  ((s.setJob idx f).setEnc e { s.enc e with block := none }).runJobs

/-- A block is written, and counted where it was cut short. -/
def State.blockWritten (u : State) (j : Job) (bx by_ : Nat) (bytes : List Byte) : State :=
  if jobShort j by_ then (u.writeBlock j bx by_ bytes (u.cellsFor j bytes)).count fCDC_SHORT_CNT_SHORT 1
  else u.writeBlock j bx by_ bytes (u.cellsFor j bytes)

/-- A block waits for cells: its job is marked, and the first time STRUDEL_LOW is raised (R222). -/
def State.cellsWanting (v : State) (j : Job) (idx : Nat) : State :=
  if j.waited then v.setJob idx fun j => { j with waited := true }
  else (v.setJob idx fun j => { j with waited := true }).raise 0x134 0xE00 0 [(32, v.f fFST_STRUDEL_FREE_FREE)]

/-- What follows the reads of a block's source: `none`, a read that failed. -/
def State.blockEncoded (u v : State) (j : Job) (idx bx by_ e rounds : Nat) : Option (List Nat) → Host.Outcome State Fault Refusal
  | none => .next (u.blockEnds idx e fun j => { j with busy := j.busy - 1, srcFail := true, rounds := j.rounds + rounds })
  | some px =>
    if (u.cellsFor j (jobBytes j bx by_ px)).length < jobNeed j (jobBytes j bx by_ px) then .next (v.cellsWanting j idx)
    else .next ((u.blockWritten j bx by_ (jobBytes j bx by_ px)).blockEnds idx e fun i => { i with
      busy := i.busy - 1
      written := i.written + 1
      shorts := i.shorts + b2n (jobShort j by_)
      rounds := i.rounds + rounds
      lastEnc := some e })

theorem codecBlockDone_eq (hb : (s.enc e).block = some (idx, bx, by_)) (hj : (s.codec.jobs.find? fun j => j.idx == idx) = some j)
    (hw : s.writesWait tagCodec = false) (hc : s.encClash j bx by_ = false)
    (hg : s.encodeGate j bx by_ (surfWb (jobSurf j) bx) (jobRows j by_) = (true, v)) : exec (.codecBlockDone e 0 rounds) s =
      (v.dropSource j bx by_ (surfWb (jobSurf j) bx) (jobRows j by_)).blockEncoded v j idx bx by_ e rounds
        (v.srcRows j bx by_ (surfWb (jobSurf j) bx) (jobRows j by_) 0) := by
  unfold jobRows at hg ⊢
  rw [exec_codecBlockDone]
  unfold execCodecBlockDone
  dsimp only
  rw [hb]
  dsimp only
  rw [hj]
  dsimp only
  rw [if_neg (by simp [hw, hc]), hg]
  dsimp only
  cases v.srcRows j bx by_ (surfWb (jobSurf j) bx) _ 0 with
  | none => rfl
  | some px => rfl

/-- A block that waits for cells keeps its encoder, and nothing is written. -/
theorem cellsWanting_first (h : j.waited = false) : Raised v (v.cellsWanting j idx) 0x134 0xE00 0 [(32, v.f fFST_STRUDEL_FREE_FREE)] ∧
    (v.cellsWanting j idx).fs = v.fs ∧ (v.cellsWanting j idx).codec.encs = v.codec.encs := by
  unfold State.cellsWanting
  rw [if_neg (by rw [h]; decide)]
  exact ⟨raised_raise rfl rfl .., rfl, rfl⟩

/-! ## Freed cells (R221) -/

theorem used_markCell (c d : Nat) (b : Bool) : smGet (fun _ => false) (s.markCell c b).fs.used d =
    if d = c then b else smGet (fun _ => false) s.fs.used d := smGet_smSet ..

/-- The cells of `cs` become allocatable. -/
def State.cellsBack (s : State) (cs : List Nat) : State := cs.foldl (fun s c => s.markCell c false) s

theorem cellsBack_keeps (cs : List Nat) : (s.cellsBack cs).codec = s.codec ∧ (s.cellsBack cs).fs.mem = s.fs.mem := by
  unfold State.cellsBack
  exact List.foldlRecOn (motive := fun w : State => w.codec = s.codec ∧ w.fs.mem = s.fs.mem) _ _ ⟨rfl, rfl⟩ fun _ h _ _ => h

theorem cellsBack_used (cs : List Nat) (d : Nat) : ∀ s : State, smGet (fun _ => false) (s.cellsBack cs).fs.used d =
    if d ∈ cs then false else smGet (fun _ => false) s.fs.used d := by
  induction cs with
  | nil => exact fun s => (if_neg List.not_mem_nil).symm
  | cons c cs ih =>
    intro s
    refine (ih (s.markCell c false)).trans ?_
    rw [used_markCell]
    by_cases hd : d = c
    · simp [hd]
    · simp [hd]

/-- Only cells marked used are returned; the others are free already. -/
theorem cellsBack_filter (cs : List Nat) (d : Nat) :
    smGet (fun _ => false) (s.cellsBack (cs.filter fun c => smGet (fun _ => false) s.fs.used c)).fs.used d =
      if d ∈ cs then false else smGet (fun _ => false) s.fs.used d := by
  rw [cellsBack_used]
  cases hd : smGet (fun _ => false) s.fs.used d
  · simp
  · simp [List.mem_filter, hd]

theorem cellRelease_due {due : Nat} {cs : List Nat} {rest : List (Nat × List Nat)} (h : s.codec.releasing = (due, cs) :: rest)
    (ht : due ≤ s.time.master) : ∃ n, exec .cellRelease s =
      .next ((({ s with codec := { s.codec with releasing := rest } } : State).cellsBack
        (cs.filter fun c => smGet (fun _ => false) s.fs.used c)).setFree n) := by
  rw [exec_cellRelease]
  unfold execCellRelease
  rw [h]
  exact ⟨_, if_neg (Nat.not_lt.2 ht)⟩

/-! ## Encoders leave quarantine (R224) -/

/-- Bit `i` of the upper half of a written word. -/
theorem bit_upper {i : Nat} (h : data.getLsbD (16 + i) = true) : bit (data.toNat / 65536) i = 1 := by
  rw [bit_eq, show (65536 : Nat) = 2 ^ 16 from rfl, Nat.testBit_div_two_pow, BitVec.testBit_toNat, Nat.add_comm, h]
  rfl

theorem encoderRelease_row (ht : s.takesWrite req fCDC_STATUS_QUAR.addr = true) (hd : 65536 ≤ data.toNat) :
    exec (.encoderRelease req data) s = .next (s.releaseEncoders (data.toNat / 65536)).wakeBanks := by
  rw [exec_encoderRelease]
  unfold execEncoderRelease
  rw [rowWrite_of s (decide_eq_true hd), write_CDC_STATUS ht data.isLt, writeHost_CDC_STATUS]

/-- With no job in the ring the engines take no block and none completes. -/
theorem handOut_idle (h : s.codec.jobs = []) : s.handOut = s := by
  unfold State.handOut
  refine List.foldlRecOn (motive := fun w => w = s) _ _ rfl fun w hw e _ => ?_
  subst hw
  rw [h]
  exact ite_self _

theorem settleFreed_regs : s.settleFreed.regs = s.regs ∧ s.settleFreed.codec.jobs = s.codec.jobs := by
  unfold State.settleFreed
  split
  · exact ⟨rfl, rfl⟩
  · exact ⟨rfl, rfl⟩

theorem runJobs_idle (h : s.codec.jobs = []) : s.runJobs.regs = s.regs := by
  obtain ⟨regs, jobs⟩ := settleFreed_regs (s := s)
  unfold State.runJobs
  rw [handOut_idle h]
  dsimp only
  split
  · rw [jobs, h]
    exact regs
  · exact regs

/-- No bit of QUAR that the block set in this cycle stands: nothing holds a clear back (R7). -/
def State.quarSettled (s : State) : Prop :=
  ∀ i, i < 16 → smGet (fun _ => 0) s.w1cAt (w1cKey fCDC_STATUS_QUAR i) = s.time.master + 1 → bit (s.f fCDC_STATUS_QUAR) i = 0

theorem quarSettled_iff : s.quarSettled ↔ s.w1cNow fCDC_STATUS_QUAR = 0 := by
  unfold State.quarSettled State.w1cNow
  rw [List.sum_eq_zero_iff]
  constructor
  · intro h n hn
    obtain ⟨i, hi, rfl⟩ := List.mem_map.1 hn
    split
    next set => rw [h i (List.mem_range.1 hi) set, Nat.zero_mul]
    next => rfl
  · intro h i hi set
    have none := h _ (List.mem_map.2 ⟨i, List.mem_range.2 hi, rfl⟩)
    rw [if_pos set] at none
    exact (Nat.mul_eq_zero.1 none).resolve_right (by positivity)

/-- Encoder `e` is released: its count since release is zeroed and the release reported. -/
def State.released (s : State) (e : Nat) : State :=
  let s := (s.putBit fCDC_STATUS_QUAR e false).setEnc e { s.enc e with misses := 0 }
  s.raise 0x132 (0xC00 + e) 0 [(8, 0), (24, 0), (32, s.f (fCDC_ENC_MISMATCH_COUNT e))]

/-- What a write to QUAR does to encoder `e`. -/
def State.releaseOne (bits : Nat) (s : State) (e : Nat) : State :=
  if bit bits e = 1 ∧ bit (s.f fCDC_STATUS_QUAR) e = 1 ∧ bit (s.w1cNow fCDC_STATUS_QUAR) e = 0 then s.released e else s

theorem releaseEncoders_eq (bits : Nat) :
    s.releaseEncoders bits = ((List.range 16).foldl (State.releaseOne bits) s).degraded.runJobs := rfl

theorem f_setEnc {x : Enc} (h : fldKey y ≠ fldKey fCDC_STATUS_BUSY) : (s.setEnc e x).f y = s.f y := (f_putBit ..).trans (if_neg h)

theorem bit_released {i : Nat} (hi : i < 16) : bit ((s.released e).f fCDC_STATUS_QUAR) i =
    if i = e then 0 else bit (s.f fCDC_STATUS_QUAR) i := by
  have kept : (s.released e).f fCDC_STATUS_QUAR = putBit (s.f fCDC_STATUS_QUAR) e false % 2 ^ 16 := by
    unfold State.released
    dsimp only
    rw [f_raise, f_setEnc (by decide), f_putBit, if_pos rfl]
    rfl
  rw [kept, bit_putBit _ _ _ _ _ hi]
  rfl

theorem bit_zero_or_one (n i : Nat) : bit n i = 0 ∨ bit n i = 1 := Nat.mod_two_eq_zero_or_one _

/-- What stands after encoders of `l` were released: settled still, no job in the ring, the bits that were 0 and those of `l` named
by the write 0. -/
def State.releasedFrom (s : State) (bits : Nat) (l : List Nat) (t : State) : Prop :=
  t.quarSettled ∧ t.codec.jobs = s.codec.jobs ∧
    ∀ i, i < 16 → bit (s.f fCDC_STATUS_QUAR) i = 0 ∨ (i ∈ l ∧ bit bits i = 1) → bit (t.f fCDC_STATUS_QUAR) i = 0

theorem releaseOne_clears {bits : Nat} (h : s.quarSettled) : s.releasedFrom bits [e] (s.releaseOne bits e) := by
  unfold State.releaseOne
  split
  next =>
    refine ⟨fun i hi set => ?_, rfl, fun i hi zero => ?_⟩
    · rw [bit_released hi, h i hi set, ite_self]
    · rw [bit_released hi]
      split
      · rfl
      next ne => exact zero.resolve_right fun ⟨hm, _⟩ => ne (List.mem_singleton.1 hm)
  next stays =>
    refine ⟨h, rfl, fun i hi zero => zero.elim id fun ⟨hm, named⟩ => ?_⟩
    obtain rfl := List.mem_singleton.1 hm
    have free : bit (s.w1cNow fCDC_STATUS_QUAR) i = 0 := by rw [quarSettled_iff.1 h, bit_eq, Nat.zero_testBit]; rfl
    exact (bit_zero_or_one _ i).resolve_right fun one => stays ⟨named, one, free⟩

theorem releaseAll_clears {bits : Nat} (l : List Nat) : ∀ s : State, s.quarSettled →
    s.releasedFrom bits l (l.foldl (State.releaseOne bits) s) := by
  induction l with
  | nil => exact fun s h => ⟨h, rfl, fun i _ zero => zero.resolve_right fun ⟨hm, _⟩ => List.not_mem_nil hm⟩
  | cons e l ih =>
    intro s h
    obtain ⟨settled, jobs, zero⟩ := releaseOne_clears (e := e) (bits := bits) h
    obtain ⟨settled', jobs', zero'⟩ := ih _ settled
    refine ⟨settled', jobs'.trans jobs, fun i hi hz => zero' i hi ?_⟩
    rcases hz with hz | ⟨hm, named⟩
    · exact .inl (zero i hi (.inl hz))
    · rcases List.mem_cons.1 hm with rfl | hm
      · exact .inl (zero i hi (.inr ⟨List.mem_singleton_self i, named⟩))
      · exact .inr ⟨hm, named⟩

theorem releaseEncoders_clears {bits i : Nat} (hj : s.codec.jobs = []) (h : s.quarSettled) (hi : i < 16) (named : bit bits i = 1) :
    bit ((s.releaseEncoders bits).f fCDC_STATUS_QUAR) i = 0 := by
  obtain ⟨-, jobs, zero⟩ := releaseAll_clears (bits := bits) (List.range 16) s h
  have regs := runJobs_idle (s := ((List.range 16).foldl (State.releaseOne bits) s).degraded) (jobs.trans hj)
  rw [releaseEncoders_eq, show State.f _ _ = _ from congrArg (regGet · fCDC_STATUS_QUAR) regs]
  exact (congrArg (bit · i) (f_degraded _ (by decide))).trans (zero i hi (.inr ⟨List.mem_range.2 hi, named⟩))

/-! ## The blocks of a tile fetch (R226 to R228) -/

namespace Only

theorem setTile {fs : List Fld} {ps : List Part} (hp : Part.codec ∈ ps) (p bx by_ : Nat) (b : Option TileBlk) (h : Only fs ps s t) :
    Only fs ps s (t.setTile p bx by_ b) :=
  h.touch [.codec] (by decide) (List.forall_mem_singleton.2 hp) (.upd_18 (m := 262144) .refl .refl)

end Only

theorem setTile_shows (p bx by_ : Nat) (b : TileBlk) :
    (s.setTile p bx by_ (some b)).tile p bx by_ = some b ∧ Only [] [.codec] s (s.setTile p bx by_ (some b)) :=
  ⟨(tile_setTile ..).trans (if_pos rfl), Only.refl.setTile (by decide) ..⟩

/-- The event of a block that is rendered as background. -/
def State.badEv (s : State) (p bx by_ dec code : Nat) : Ev :=
  ⟨s.clock (0xC40 + dec), 0x130, false, 0xC40 + dec, locusPane (s.f (fPANE_GROUP p)) p,
    packBits [(8, code), (8, 0), (48, s.procFrame (s.f (fPANE_GROUP p))), (16, bx), (16, by_)]⟩

/-- The state in which a block is rendered as background, counted and told. -/
def State.badTold (s : State) (p bx by_ dec code : Nat) : State :=
  let g := s.f (fPANE_GROUP p)
  ((s.setTile p bx by_ (some .background)).count (fCDC_DEC_ERR_BLOCKS g) 1).raise 0x130 (0xC40 + dec) (locusPane g p)
    [(8, code), (8, 0), (48, s.procFrame g), (16, bx), (16, by_)]

theorem badBlock_eq : s.badBlock p bx by_ dec code =
    (s.badTold p bx by_ dec code).fault 0x0C (0xC40 + dec) dec (packBits [(8, code), (8, 0), (16, bx), (16, by_)]) := rfl

theorem badTold_ev : (s.badTold p bx by_ dec code).ev.enRoute = s.ev.enRoute ++ [s.badEv p bx by_ dec code] := by
  unfold State.badTold State.badEv
  dsimp only
  rw [raise_ev]
  rfl

theorem badBlock_shows : (s.badBlock p bx by_ dec code).tile p bx by_ = some .background ∧
    ∃ l, (s.badBlock p bx by_ dec code).ev.enRoute = s.ev.enRoute ++ s.badEv p bx by_ dec code :: l := by
  obtain ⟨l, told⟩ := Calm.fault_ev (s.badTold p bx by_ dec code) 0x0C (0xC40 + dec) dec
    (packBits [(8, code), (8, 0), (16, bx), (16, by_)])
  rw [badBlock_eq]
  constructor
  · unfold State.tile
    rw [fault_codec]
    exact (tile_setTile ..).trans (if_pos rfl)
  · exact ⟨l, by rw [told, badTold_ev, List.append_assoc]; rfl⟩

section
variable (h : s.toFetch p bx by_ = true)
include h

theorem blockFetchDone_read (hg : s.readGate true (s.blockReads (s.paneSurf p) bx by_) = (true, v)) :
    exec (.blockFetchDone p bx by_) s = .next (v.setTile p bx by_ (some (fetchBlock v (v.paneSurf p) bx by_))) := by
  rw [exec_blockFetchDone]
  unfold execBlockFetchDone
  rw [if_pos h, hg]

theorem tileFetchTimeout_fetching : exec (.tileFetchTimeout p bx by_ dec) s = .next (s.badBlock p bx by_ dec 8) := by
  rw [exec_tileFetchTimeout]
  exact if_pos h

end

theorem toFetch_of (ht : s.isTiled p = true) (hx : bx < surfBW (s.paneSurf p)) (hy : by_ < surfBH (s.paneSurf p))
    (hn : s.tile p bx by_ = none) : s.toFetch p bx by_ = true := by
  unfold State.toFetch
  rw [ht, hn, decide_eq_true ⟨hx, hy⟩]
  rfl

section
variable (hb : s.tilesBefore p by_ < 64)
include hb

theorem blockDecodeDone_empty (ht : s.tile p bx by_ = some .empty) :
    exec (.blockDecodeDone p bx by_ dec) s = .next (s.setTile p bx by_ (some .background)) := by
  rw [exec_blockDecodeDone]
  unfold execBlockDecodeDone
  rw [if_neg (Nat.not_le.2 hb), ht]

theorem blockDecodeDone_failed (ht : s.tile p bx by_ = some (.failed code)) :
    exec (.blockDecodeDone p bx by_ dec) s = .next (s.badBlock p bx by_ dec code) := by
  rw [exec_blockDecodeDone]
  unfold execBlockDecodeDone
  rw [if_neg (Nat.not_le.2 hb), ht]

theorem blockDecodeDone_decoded {len n rows : Nat} {bytes : List Byte} {px : List Nat}
    (ht : s.tile p bx by_ = some (.stream len n bytes))
    (hd : decodeBlock (s.paneSurf p).fmt bx by_ (surfWb (s.paneSurf p) bx) (surfHb (s.paneSurf p) by_) len n (s.paneSurf p).slot
      bytes = .ok rows px) : exec (.blockDecodeDone p bx by_ dec) s = .next (s.setTile p bx by_ (some (.shown rows px))) := by
  rw [exec_blockDecodeDone]
  unfold execBlockDecodeDone
  rw [if_neg (Nat.not_le.2 hb), ht]
  dsimp only
  rw [hd]

end

end Sys2Proof.Machine

/-- Settles O14, command by command: jobs enter the ring where it has room, leave it complete, and a block that is not shown is rendered
as background with its code. -/
theorem codecJobsCellsAndTiles : Obligations.CodecJobsCellsAndTiles := by
  intro s
  refine ⟨fun req data ht => ?submit, fun j v h => ⟨codecEncode_refuses h, codecEncode_starts h, codecRelease_refuses h,
    fun w => codecRelease_releases h⟩, fun j js hjs hs ht hb hw hnil => ?complete,
    fun e rounds idx bx by_ j v hb hj hw hc => ?encode, fun due cs rest h ht => ?cells, fun req data ht hd hj hq => ?release,
    fun p bx by_ hp hx hy hn => ⟨fun v hg => ?fetched, fun dec => ?abandoned⟩,
    fun p bx by_ dec hb => ⟨fun ht => ?empty, fun len n bytes rows px ht hd => ?decoded, fun code ht => ?failed⟩⟩
  case submit =>
    obtain ⟨ev, fs⟩ := submitJobs_keeps (s := s) (reqNum req) (data.toNat % 65536)
    refine ⟨_, codecSubmit_row ht, (wake_ev _).trans ev, (wake_fs _).trans fs, fun room => ?_, fun full => ?_⟩
    · rw [submitJobs_room room, f_wakeBanks _ (by decide), wake_codec]
      refine ⟨(f_setF ..).trans (if_pos rfl), ?_⟩
      exact (List.map_append ..).trans (congrArg _ (newJobs_map ..))
    · rw [submitJobs_full full, f_wakeBanks _ (by decide), wake_codec]
      exact ⟨rfl, rfl⟩
  case complete =>
    subst hnil
    rw [hjs, completeJobs_one ⟨hs, ht, hb⟩ hw]
    exact ⟨rfl, jobDone_head, jobDone_raised⟩
  case encode =>
    intro rows short hg u
    have goes := codecBlockDone_eq (rounds := rounds) hb hj hw hc hg
    refine ⟨fun hs => goes.trans (congrArg _ hs), fun px hs => ?_⟩
    have read := goes.trans (congrArg _ hs)
    exact ⟨fun few first => ⟨_, read.trans (if_pos few), cellsWanting_first first⟩,
      fun enough => read.trans (if_neg (Nat.not_lt.2 enough))⟩
  case cells =>
    obtain ⟨n, goes⟩ := cellRelease_due h ht
    obtain ⟨codec, mem⟩ := cellsBack_keeps (s := { s with codec := { s.codec with releasing := rest } })
      (cs.filter fun c => smGet (fun _ => false) s.fs.used c)
    obtain ⟨-, fs, codec'⟩ := setFree_keeps (n := n) (y := fFST_SCRUB_CFG_SCRUB_EN)
      (s := ({ s with codec := { s.codec with releasing := rest } } : State).cellsBack (cs.filter fun c => smGet (fun _ => false) s.fs.used c))
      (by decide)
    refine ⟨_, goes, ?_, ?_, fun c => ?_⟩
    · rw [codec', codec]
    · rw [fs, mem]
    · rw [fs]
      exact cellsBack_filter (s := { s with codec := { s.codec with releasing := rest } }) cs c
  case release =>
    refine ⟨_, encoderRelease_row ht hd, fun e he named => ?_⟩
    rw [f_wakeBanks _ (by decide)]
    exact releaseEncoders_clears hj (quarSettled_iff.2 hq) he (bit_upper named)
  case fetched => exact ⟨_, blockFetchDone_read (toFetch_of hp hx hy hn) hg, setTile_shows ..⟩
  case abandoned => exact ⟨_, tileFetchTimeout_fetching (toFetch_of hp hx hy hn), badBlock_shows⟩
  case empty => exact ⟨_, blockDecodeDone_empty hb ht, setTile_shows ..⟩
  case decoded => exact ⟨_, blockDecodeDone_decoded hb ht hd, setTile_shows ..⟩
  case failed => exact ⟨_, blockDecodeDone_failed hb ht, badBlock_shows⟩
end

section
/-!
The words of the Thoene cores: taken apart, an instruction gives back the fields it was encoded from (R256, R257).
-/
open Sys2Proof Sys2Proof.Machine
namespace Sys2Proof.Machine

variable {op f w1 : Nat}

/-- A word of another form than L: its opcode above the 26 bits of its form. -/
theorem insOf_short (ho : op ≠ 0x0E) (hf : f < 2 ^ 26) : insOf (op * 2 ^ 26 + f) w1 = ⟨op, f, none⟩ := by
  have hd : (op * 2 ^ 26 + f) / 2 ^ 26 = op := by omega
  have hm : (op * 2 ^ 26 + f) % 2 ^ 26 = f := by omega
  unfold insOf
  rw [hd, hm, if_neg ho]

/-- An L form: opcode and bits [25:16] of the embedded instruction above ten zeros. -/
theorem insOf_long (ho : op < 64) (hf : f < 2 ^ 10) :
    insOf (0x0E * 2 ^ 26 + op * 2 ^ 20 + f * 2 ^ 10) w1 = ⟨op, f * 65536, some w1⟩ := by
  have hd : (0x0E * 2 ^ 26 + op * 2 ^ 20 + f * 2 ^ 10) / 2 ^ 26 = 0x0E := by omega
  have hop : bitsOf (0x0E * 2 ^ 26 + op * 2 ^ 20 + f * 2 ^ 10) 25 20 = op := by simp only [bitsOf]; omega
  have hw : bitsOf (0x0E * 2 ^ 26 + op * 2 ^ 20 + f * 2 ^ 10) 19 10 = f := by simp only [bitsOf]; omega
  unfold insOf
  rw [if_pos hd, hop, hw]

end Sys2Proof.Machine

/-- Settles O50, form by form: the opcode stands above the fields of its form, and each field at its own place. -/
theorem instructionWordsComeApartAsEncoded : Obligations.InstructionWordsComeApartAsEncoded := by
  refine ⟨fun op d a b x w1 hop hne hd ha hb hx => ?t, fun op d a imm w1 hop hne hd ha hi => ?i,
    fun op a n mode imm w1 hop hne ha hn hm hi => ?w, fun op n off w1 hop hne hn hoff => ?f,
    fun op pin a mode off w1 hop hne hp ha hm hoff => ?g, fun op d a v hop hd ha hv => ?l⟩
  case t =>
    have word : wordT op d a b x = op * 2 ^ 26 + (d * 2 ^ 21 + a * 2 ^ 16 + b * 2 ^ 11 + x) := by unfold wordT; ring
    rw [word, insOf_short hne (by omega)]
    simp only [Ins.d, Ins.a, Ins.b, Ins.x, bitsOf, true_and, and_true]
    omega
  case i =>
    have word : wordI op d a imm = op * 2 ^ 26 + (d * 2 ^ 21 + a * 2 ^ 16 + imm) := by unfold wordI; ring
    rw [word, insOf_short hne (by omega)]
    simp only [Ins.d, Ins.a, Ins.imm, bitsOf, true_and, and_true]
    omega
  case w =>
    have word : wordW op a n mode imm = op * 2 ^ 26 + (a * 2 ^ 21 + n * 2 ^ 18 + mode * 2 ^ 16 + imm) := by unfold wordW; ring
    rw [word, insOf_short hne (by omega)]
    simp only [Ins.d, Ins.wn, Ins.mode, Ins.imm, bitsOf, true_and, and_true]
    omega
  case f =>
    have word : wordF op n off = op * 2 ^ 26 + (n * 2 ^ 21 + off) := by unfold wordF; ring
    rw [word, insOf_short hne (by omega)]
    simp only [Ins.a, Ins.bn, Ins.imm, bitsOf, true_and, and_true]
    omega
  case g =>
    have word : wordG op pin a mode off = op * 2 ^ 26 + (pin * 2 ^ 20 + a * 2 ^ 15 + mode * 2 ^ 14 + off) := by unfold wordG; ring
    rw [word, insOf_short hne (by omega)]
    simp only [Ins.pin, Ins.ga, Ins.gmode, Ins.goff, bitsOf, bit, true_and, and_true]
    omega
  case l =>
    have word : wordL op d a = 0x0E * 2 ^ 26 + op * 2 ^ 20 + (d * 2 ^ 5 + a) * 2 ^ 10 := by unfold wordL; ring
    rw [word, insOf_long hop (by omega)]
    simp only [Ins.d, Ins.a, bitsOf, true_and, and_true]
    omega
end

section
/-!
Arithmetic, logic and comparison (R257, R260, R261, R282): what an instruction that issues reads as operand B, and the one register or
flag it writes.
-/
open Sys2Proof Sys2Proof.Machine
namespace Sys2Proof.Machine

variable {s : State} {o op n : Nat} {i : Ins} {mine : Nat → Bool} {run : Ins → State → State} {signed : Bool}
  {f : Word → Word → Word} {v : Word}

/-! ## Length and operand B -/

theorem issues_len_short (h : s.issues o op i) (ho : op ≠ 0x0E) : i.len = 4 := by
  obtain ⟨-, -, h3, -, h5, -, -⟩ := h
  rw [← h5]
  unfold insOf
  rw [if_neg (h3 ▸ ho)]
  rfl

theorem issues_len_long (h : s.issues o op i) (ho : op = 0x0E) : i.len = 8 := by
  obtain ⟨-, -, h3, -, h5, -, -⟩ := h
  rw [← h5]
  unfold insOf
  rw [if_pos (h3.trans ho)]
  rfl

/-- An instruction of one word has the opcode of that word. -/
theorem issues_op_short (h : s.issues o op i) (ho : op ≠ 0x0E) : i.op = op := by
  obtain ⟨-, -, h3, -, h5, -, -⟩ := h
  rw [← h5]
  unfold insOf
  rw [if_neg (h3 ▸ ho)]
  exact h3

theorem issues_isSome_short (h : s.issues o op i) (ho : op ≠ 0x0E) : i.long.isSome = false := by
  obtain ⟨-, -, h3, -, h5, -, -⟩ := h
  rw [← h5]
  unfold insOf
  rw [if_neg (h3 ▸ ho)]
  rfl

theorem ofNat_toField (w : Nat) (x : Int) : BitVec.ofNat w (toField w x) = BitVec.ofInt w x := by
  apply BitVec.eq_of_toInt_eq
  unfold toField
  rw [← BitVec.ofInt_natCast, Int.toNat_of_nonneg (Int.emod_nonneg _ (by positivity)), BitVec.toInt_ofInt, BitVec.toInt_ofInt]
  have e : ((2 ^ w : Nat) : Int) = 2 ^ w := by push_cast; rfl
  rw [← e, Int.emod_bmod]

theorem opB_signed : s.opB o i true = if i.long.isSome then BitVec.ofNat 32 (i.long.getD 0) else if i.op < 0x10 then s.gw o i.b
    else BitVec.ofInt 32 (sInt 16 i.imm) := by
  unfold State.opB
  rw [← ofNat_toField]
  cases hl : i.long <;> rfl

theorem opB_unsigned : s.opB o i false = if i.long.isSome then BitVec.ofNat 32 (i.long.getD 0) else if i.op < 0x10 then s.gw o i.b
    else BitVec.ofNat 32 i.imm := by
  unfold State.opB
  cases hl : i.long <;> rfl

/-- The second word of an L form is there, and it is operand B whatever the extension. -/
theorem issues_isSome (h : s.issues o op i) (ho : op = 0x0E) : i.long.isSome = true := by
  obtain ⟨-, -, h3, -, h5, -, -⟩ := h
  rw [← h5]
  unfold insOf
  rw [if_pos (h3.trans ho)]
  rfl

theorem opB_long (hl : i.long.isSome = true) (sg : Bool) : s.opB o i sg = BitVec.ofNat 32 (i.long.getD 0) := by
  cases sg
  · rw [opB_unsigned, if_pos hl]
  · rw [opB_signed, if_pos hl]

/-- An instruction with a T and an I form. -/
theorem forms_beq {a b : Nat} (h : op = a ∨ op = b) : (op == a || op == b) = true := by
  simpa only [Bool.or_eq_true, beq_iff_eq] using h

/-! ## The register written -/

/-- An instruction of `n` words that computes as R260 says writes its value and goes on after its words. -/
theorem alu_gets {c : Instr} (hc : exec c s = s.issue o mine run) (h : s.issues o op i) (hm : mine op = true) (hn : 0 < n)
    (hl : i.len = 4 * n) (hr : run i = aluRun o signed f i) (hv : f (s.gw o i.a) (s.opB o i signed) = v) : ∃ t, exec c s = .next t ∧
      s.wentOn t o (fun k => if k = i.d then v else s.gw o k) (s.core o).flags ((s.core o).pc + 4 * n) n := by
  have w := alu_went (s := s) (o := o) signed f i
  have cycles : 1 + (i.len / 4 - 1) = n := by omega
  rw [hv, ← hr, cycles] at w
  exact ⟨_, hc.trans (issue_runs h hm run), hl ▸ w⟩

theorem execNop_goes (h : s.issues o op i) (ho : op = 0x00) :
    ∃ t, execNop o s = .next t ∧ s.wentOn t o (s.gw o) (s.core o).flags ((s.core o).pc + 4) 1 := by
  have hc := issued_core (s := s) (o := o) i.len
  refine ⟨_, issue_runs h (mine := fun op => op == 0x00) (beq_iff_eq.2 ho) _, ?_⟩
  refine retire_went (m := 4) (issued_only _) (fun k => (issued_gw ..).trans (gw_ite k)) ?_ ?_ ?_ ?_
  case refine_4 => rw [hc, ← issues_len_short h (by omega)]
  all_goals rw [hc]

/-- MUL16 writes the product, readable one cycle later. -/
theorem execMul16_goes (h : s.issues o op i) (ho : op = 0x0B ∨ op = 0x1B) (hv : mul16W (s.gw o i.a) (s.opB o i false) = v) :
    ∃ t, execMul16 o s = .next t ∧
      s.wentOn t o (fun k => if k = i.d then v else s.gw o k) (s.core o).flags ((s.core o).pc + 4) 1 ∧
      (t.core o).hot = i.d ∧ (t.core o).hotAt = cycleAfter o (s.clock o) 2 := by
  have hc := core_setG (s := s.setCore o { s.core o with len := i.len }) (o := o) i.d v
  rw [issued_core] at hc
  refine ⟨_, issue_runs h (forms_beq ho) _, ?_⟩
  rw [issued_gw, issued_opB, hv]
  refine retireHot_went (m := 4) (onlyCore_setG (issued_only _) _ _) (fun k => ?_) ?_ ?_ ?_ ?_
  case refine_1 =>
    rw [gw_setG, issued_gw]
    by_cases hk : k = 0 <;> simp [hk]
  case refine_5 => rw [hc, ← issues_len_short h (by omega)]; split <;> rfl
  all_goals rw [hc]; split <;> rfl

/-! ## The flag written -/

theorem cmpHolds_eq (cond : Nat) (u : Bool) (a b : Word) : cmpHolds cond u a b = (match cond with
    | 0 => decide (a = b)
    | 1 => decide (a ≠ b)
    | 2 => if u then decide (a.toNat < b.toNat) else decide (a.toInt < b.toInt)
    | _ => if u then decide (b.toNat ≤ a.toNat) else decide (b.toInt ≤ a.toInt)) := by
  unfold cmpHolds
  match cond with
  | 0 => rfl
  | 1 => exact (decide_not ..).symm
  | 2 => cases u <;> rfl
  | _ + 3 =>
    cases u
    · exact (decide_not ..).symm.trans (decide_eq_decide.2 Int.not_lt)
    · exact (decide_not ..).symm.trans (decide_eq_decide.2 Nat.not_lt)

/-- What a CMP that issues computes: flag `k` by condition `cond`. -/
theorem cmp_sets {c : Instr} {k cond : Nat} {u : Bool} (hc : exec c s = s.issue o mine run) (h : s.issues o op i) (hm : mine op = true)
    (hn : 0 < n) (hl : i.len = 4 * n)
    (hr : run i = fun s => (s.setFlag o k (cmpHolds cond u (s.gw o i.a) (s.opB o i true))).retire o 1) :
    ∃ t, exec c s = .next t ∧ s.wentOn t o (s.gw o) (putBit (s.core o).flags k (cmpHolds cond u (s.gw o i.a) (s.opB o i true)))
      ((s.core o).pc + 4 * n) n := by
  have w := flag_went (s := s) (o := o) (n := i.len) (k := k) (cmpHolds cond u (s.gw o i.a) (s.opB o i true)) rfl 1
  have cycles : 1 + (i.len / 4 - 1) = n := by omega
  rw [cycles] at w
  refine ⟨_, hc.trans (issue_runs h hm run), ?_⟩
  rw [hr]
  dsimp only
  rw [issued_gw, issued_opB]
  exact hl ▸ w

theorem cmpRun_t (ho : i.op = 0x0C) : cmpRun o i =
    fun s => (s.setFlag o i.xn (cmpHolds (bitsOf i.x 4 3) (bit i.x 5 == 1) (s.gw o i.a) (s.opB o i true))).retire o 1 := by
  unfold cmpRun
  rw [if_pos ho]

theorem cmpRun_i (ho : i.op ≠ 0x0C) : cmpRun o i =
    fun s => (s.setFlag o (i.d % 8) (cmpHolds (i.d / 8) false (s.gw o i.a) (s.opB o i true))).retire o 1 := by
  unfold cmpRun
  rw [if_neg ho]

end Sys2Proof.Machine

/-- Settles O15: each instruction is the issue of its function of R260, applied to Ga and the operand B that it extends. -/
theorem arithmeticWritesItsDestination : Obligations.ArithmeticWritesItsDestination := by
  intro s o op i h a b bz fl pc gets
  have signed : s.opB o i true = b := opB_signed
  have unsigned : s.opB o i false = bz := opB_unsigned
  have one (ho : op ≠ 0x0E) : i.len = 4 * 1 := issues_len_short h ho
  refine ⟨execNop_goes h, fun e => ?add, fun e => ?sub, fun e => ?and, fun e => ?or, fun e => ?xor, fun e => ?shl, fun e => ?shr, fun e => ?sra,
    fun e => ?min, fun e => ?max, fun e => ?mul, fun e => ?ldi, fun e => ?lui, fun e => ?long⟩
  case add => exact alu_gets (exec_add s) h (forms_beq e) Nat.one_pos (one (by omega)) rfl (congrArg _ signed)
  case sub => exact alu_gets (exec_sub s) h (beq_iff_eq.2 e) Nat.one_pos (one (by omega)) rfl (congrArg _ signed)
  case and => exact alu_gets (exec_and s) h (forms_beq e) Nat.one_pos (one (by omega)) rfl (congrArg _ unsigned)
  case or => exact alu_gets (exec_or s) h (forms_beq e) Nat.one_pos (one (by omega)) rfl (congrArg _ unsigned)
  case xor => exact alu_gets (exec_xor s) h (forms_beq e) Nat.one_pos (one (by omega)) rfl (congrArg _ unsigned)
  case shl => exact alu_gets (exec_shl s) h (forms_beq e) Nat.one_pos (one (by omega)) rfl (congrArg _ unsigned)
  case shr => exact alu_gets (exec_shr s) h (forms_beq e) Nat.one_pos (one (by omega)) rfl (congrArg _ unsigned)
  case sra => exact alu_gets (exec_sra s) h (forms_beq e) Nat.one_pos (one (by omega)) rfl (congrArg _ unsigned)
  case min => exact alu_gets (exec_min s) h (forms_beq e) Nat.one_pos (one (by omega)) rfl (congrArg _ signed)
  case max => exact alu_gets (exec_max s) h (forms_beq e) Nat.one_pos (one (by omega)) rfl (congrArg _ signed)
  case mul =>
    obtain ⟨t, goes, went, hot⟩ := execMul16_goes h e (congrArg _ unsigned)
    exact ⟨⟨t, goes, went⟩, t, goes, hot⟩
  case ldi => exact alu_gets (exec_ldi s) h (beq_iff_eq.2 e) Nat.one_pos (one (by omega)) rfl signed
  case lui => exact alu_gets (exec_lui s) h (beq_iff_eq.2 e) Nat.one_pos (one (by omega)) rfl (congrArg _ unsigned)
  case long =>
    have second (sg : Bool) : s.opB o i sg = b := (opB_long (issues_isSome h e) sg).trans (if_pos (issues_isSome h e)).symm
    have two : i.len = 4 * 2 := issues_len_long h e
    have embeds {v : Word} {run : Ins → State → State} (sg : Bool) (f : Word → Word → Word)
        (hc : exec (.lForm o) s = s.issue o (· == 0x0E) run) (hr : run i = aluRun o sg f i) (hv : f a b = v) : gets (.lForm o) v 2 :=
      alu_gets hc h (beq_iff_eq.2 e) Nat.two_pos two hr ((congrArg _ (second sg)).trans hv)
    refine ⟨fun g => embeds true (fun _ b => b) (exec_lForm s) ?_ rfl, fun g => embeds true (fun a b => a + b) (exec_lForm s) ?_ rfl,
      fun g => embeds false (fun a b => a &&& b) (exec_lForm s) ?_ rfl, fun g => embeds false (fun a b => a ||| b) (exec_lForm s) ?_ rfl,
      fun g => embeds false (fun a b => a ^^^ b) (exec_lForm s) ?_ rfl,
      fun g => embeds true minW (exec_lForm s) ?_ rfl, fun g => embeds true maxW (exec_lForm s) ?_ rfl⟩
    all_goals
      funext u
      simp only [g]

/-- Settles O54: CMP writes the flag of its form with the condition, which is the model's comparison written out. -/
theorem compareSetsItsFlag : Obligations.CompareSetsItsFlag := by
  intro s o op i h a b sets
  have signed : s.opB o i true = b := opB_signed
  have writes {c : Instr} {k cond n : Nat} {u : Bool} (w : ∃ t, exec c s = .next t ∧ s.wentOn t o (s.gw o)
      (putBit (s.core o).flags k (cmpHolds cond u a (s.opB o i true))) ((s.core o).pc + 4 * n) n) : sets c k cond u n := by
    rw [signed, cmpHolds_eq] at w
    exact w
  refine ⟨fun e => writes ?t, fun e => writes ?i, fun e g => writes ?l⟩
  case t =>
    exact cmp_sets (exec_cmp s) h (forms_beq (.inl e)) Nat.one_pos (issues_len_short h (by omega))
      (cmpRun_t ((issues_op_short h (by omega)).trans e))
  case i =>
    have op : i.op = 0x1C := (issues_op_short h (by omega)).trans e
    exact cmp_sets (exec_cmp s) h (forms_beq (.inr e)) Nat.one_pos (issues_len_short h (by omega)) (cmpRun_i (by omega))
  case l =>
    refine cmp_sets (exec_lForm s) h (beq_iff_eq.2 e) Nat.two_pos (issues_len_long h e) ?_
    simp only [g]
    exact cmpRun_i (by omega)
end

section
/-!
Branches, jumps, calls and the local space (R254, R255, R262 to R264, R282).
-/
open Sys2Proof Sys2Proof.Machine
namespace Sys2Proof.Machine

variable {s u w : State} {o op m n a : Nat} {i : Ins} {mine : Nat → Bool} {run : Ins → State → State} {v : Word}

/-! ## A core whose instruction has its length noted -/

/-- State `w` is `s` with core `o` about to go on after an instruction of `m` bytes: its registers, flags, stack and PC stand. -/
structure Issued (s w : State) (o m : Nat) : Prop where
  only : s.onlyCore w o
  gw : ∀ k, w.gw o k = s.gw o k
  flags : (w.core o).flags = (s.core o).flags
  stack : (w.core o).stack = (s.core o).stack
  pc : (w.core o).pc = (s.core o).pc
  len : (w.core o).len = m

theorem issued : Issued s (s.setCore o { s.core o with len := m }) o m := by
  have hc := issued_core (s := s) (o := o) m
  exact ⟨issued_only m, issued_gw m, by rw [hc], by rw [hc], by rw [hc], by rw [hc]⟩

/-- Two states that differ from a third in one core's record only differ from each other in it only. -/
theorem onlyCore_of_common (h : s.onlyCore u o) (k : s.onlyCore w o) : u.onlyCore w o := by
  obtain ⟨hu, hc⟩ := h
  obtain ⟨hw, kc⟩ := k
  exact ⟨by rw [hw, hu], fun p hp => (kc p hp).trans (hc p hp).symm⟩

/-- The same write of the core's record before and after its length was noted. -/
theorem issued_setCore (c : Core) :
    Issued (s.setCore o c) ((s.setCore o { s.core o with len := m }).setCore o { c with len := m }) o m := by
  have hu : (s.setCore o c).core o = c := by rw [core_setCore, if_pos rfl]
  have hw : ((s.setCore o { s.core o with len := m }).setCore o { c with len := m }).core o = { c with len := m } := by
    rw [core_setCore, if_pos rfl]
  exact ⟨onlyCore_of_common (onlyCore_setCore onlyCore_refl _) (onlyCore_setCore (issued_only _) _),
    gw_of_g (by rw [hu, hw]), by rw [hu, hw], by rw [hu, hw], by rw [hu, hw], by rw [hw]⟩

namespace Issued

theorem goOn (h : Issued s w o m) (pc n : Nat) : s.wentOn (w.goOn o pc n) o (s.gw o) (s.core o).flags pc n :=
  goOn_went h.only (fun k => (h.gw k).trans (gw_ite k)) h.flags h.stack

theorem retire (h : Issued s w o 4) (n : Nat) : s.wentOn (w.retire o n) o (s.gw o) (s.core o).flags ((s.core o).pc + 4) n :=
  retire_went h.only (fun k => (h.gw k).trans (gw_ite k)) h.flags h.stack h.pc h.len

theorem jump (h : Issued s w o m) (target : Nat) :
    s.wentOn (w.jump o target) o (s.gw o) (s.core o).flags (target % 2 ^ 32) 2 := h.goOn _ _

theorem setG (h : Issued s w o m) (d : Nat) (v : Word) : s.onlyCore (w.setG o d v) o ∧
    (∀ k, (w.setG o d v).gw o k = if k = 0 then 0#32 else if k = d then v else s.gw o k) ∧
    ((w.setG o d v).core o).flags = (s.core o).flags ∧ ((w.setG o d v).core o).stack = (s.core o).stack ∧
    ((w.setG o d v).core o).pc = (s.core o).pc ∧ ((w.setG o d v).core o).len = m := by
  have hc := core_setG (s := w) (o := o) d v
  refine ⟨onlyCore_setG h.only _ _, fun k => ?_, ?_, ?_, ?_, ?_⟩
  · rw [gw_setG, h.gw]
    by_cases hk : k = 0 <;> simp [hk]
  · rw [hc, ← h.flags]; split <;> rfl
  · rw [hc, ← h.stack]; split <;> rfl
  · rw [hc, ← h.pc]; split <;> rfl
  · rw [hc, ← h.len]; split <;> rfl

/-- A register written with a value that is readable one cycle later. -/
theorem loads (h : Issued s w o 4) (d : Nat) (v : Word) :
    s.wentOn ((w.setG o d v).retireHot o d) o (fun k => if k = d then v else s.gw o k) (s.core o).flags ((s.core o).pc + 4) 1 ∧
      (((w.setG o d v).retireHot o d).core o).hot = d ∧
      (((w.setG o d v).retireHot o d).core o).hotAt = cycleAfter o (s.clock o) 2 := by
  obtain ⟨only, gw, flags, stack, pc, len⟩ := h.setG d v
  exact retireHot_went only gw flags stack pc len

end Issued

/-! ## Branches and jumps -/

/-- Is the branch taken? -/
def State.takes (s : State) (o : Nat) (i : Ins) : Bool :=
  if i.op = 0x2C then !s.flag o i.bn else if i.op = 0x2D then s.flag o i.bn else branchHolds i.op (s.gw o i.d) (s.gw o i.a)

theorem issued_takes : (s.setCore o { s.core o with len := m }).takes o i = s.takes o i := by
  unfold State.takes
  rw [issued_flag, issued_gw, issued_gw]

theorem target_mod (b : Bool) : s.target o i b % 2 ^ 32 =
    ((((if b then (s.gw o i.a).toNat else (s.core o).pc : Nat) : Int) + 4 * sInt 16 i.imm) % 2 ^ 32).toNat := by
  unfold State.target
  exact toField_mod ..

section
variable {c : Instr} (hc : exec c s = s.issue o mine run) (h : s.issues o op i) (hm : mine op = true) (ho : op ≠ 0x0E)
include hc h hm ho

theorem runs_short : exec c s = .next (run i (s.setCore o { s.core o with len := 4 })) := by
  rw [hc, issue_runs h hm, issues_len_short h ho]

theorem branch_goes {take : Prop} (hr : run = branchRun o) (ht : s.takes o i = true ↔ take) :
    (take → ∃ t, exec c s = .next t ∧
      s.wentOn t o (s.gw o) (s.core o).flags (((s.core o).pc + 4 * sInt 16 i.imm) % 2 ^ 32).toNat 2) ∧
    (¬ take → ∃ t, exec c s = .next t ∧ s.wentOn t o (s.gw o) (s.core o).flags ((s.core o).pc + 4) 1) := by
  have goes := runs_short hc h hm ho
  have it : branchRun o i (s.setCore o { s.core o with len := 4 }) = if s.takes o i then
      (s.setCore o { s.core o with len := 4 }).jump o (s.target o i false) else
      (s.setCore o { s.core o with len := 4 }).retire o 1 := by
    rw [← issued_takes (m := 4), ← issued_target 4]
    rfl
  rw [hr, it] at goes
  constructor
  · intro taken
    rw [if_pos (ht.2 taken)] at goes
    exact ⟨_, goes, target_mod false ▸ issued.jump _⟩
  · intro missed
    rw [if_neg (fun taken => missed (ht.1 taken))] at goes
    exact ⟨_, goes, issued.retire 1⟩

end

theorem jump_stack (st : List Nat) (target : Nat) : (s.setCore o { s.core o with stack := st }).wentOn
    (((s.setCore o { s.core o with len := 4 }).setCore o { s.core o with stack := st, len := 4 }).jump o target) o (s.gw o)
    (s.core o).flags (target % 2 ^ 32) 2 := by
  have hs : (s.setCore o { s.core o with stack := st }).core o = { s.core o with stack := st } := by rw [core_setCore, if_pos rfl]
  have w := (issued_setCore (s := s) (o := o) (m := 4) { s.core o with stack := st }).jump target
  rw [hs, show (s.setCore o { s.core o with stack := st }).gw o = s.gw o from funext (gw_of_g (by rw [hs]))] at w
  exact w

theorem execCall_goes (h : s.issues o 0x25 i) : exec (.call o) s =
    if 8 ≤ (s.core o).stack.length then .next ((s.setCore o { s.core o with len := 4 }).coreFault o 5) else
      .next (((s.setCore o { s.core o with len := 4 }).setCore o { s.core o with stack := ((s.core o).pc + 4) :: (s.core o).stack, len := 4 }).jump
        o (s.target o i (i.a != 0))) := by
  have goes := runs_short (exec_call s) h rfl (by decide)
  rw [issued_core, issued_target] at goes
  exact goes.trans (apply_ite Host.Outcome.next _ _ _)

theorem execRet_empty (h : s.issues o 0x26 i) (hs : (s.core o).stack = []) :
    exec (.ret o) s = .next ((s.setCore o { s.core o with len := 4 }).coreFault o 5) := by
  rw [runs_short (exec_ret s) h rfl (by decide)]
  dsimp only
  rw [issued.stack.trans hs]

theorem execRet_pops {r : Nat} {st : List Nat} (h : s.issues o 0x26 i) (hs : (s.core o).stack = r :: st) : exec (.ret o) s =
    .next (((s.setCore o { s.core o with len := 4 }).setCore o { s.core o with stack := st, len := 4 }).jump o r) := by
  rw [runs_short (exec_ret s) h rfl (by decide)]
  dsimp only
  rw [issued.stack.trans hs, issued_core]

/-! ## The local space -/

theorem address_short (h : s.issues o op i) (ho : 0x10 ≤ op) (m : Nat) : (s.setCore o { s.core o with len := m }).address o i =
    (s.gw o i.a + BitVec.ofInt 32 (sInt 16 i.imm)).toNat := by
  have hop := issues_op_short h (by omega)
  unfold State.address
  rw [issued_gw, issued_opB, opB_signed, if_neg (by rw [issues_isSome_short h (by omega)]; decide),
    if_neg (by omega)]

theorem dmemWords_le (o : Nat) : dmemWords o ≤ 16384 := by
  unfold dmemWords
  split <;> decide

theorem localRead_dmem (h4 : a % 4 = 0) (ha : a / 4 < dmemWords o) :
    s.localRead o a = some (BitVec.ofNat 32 (s.dmem o (a / 4)), s) := by
  unfold State.localRead
  rw [if_neg (not_not_intro h4), if_pos ha]

/-- The registers of R255 in the local space. -/
theorem localRead_registers :
    s.localRead o 0xFFFFF000 = some (BitVec.ofNat 32 (if isTR o then (s.beam (s.coreGroup o) s.time.raster).1 else 0), s) ∧
    s.localRead o 0xFFFFF004 = some (BitVec.ofNat 32 (if isTR o then (s.beam (s.coreGroup o) s.time.raster).2 else 0), s) ∧
    s.localRead o 0xFFFFF008 = some (BitVec.ofNat 32 (if isTR o then (s.grp (s.coreGroup o)).frame else 0), s) ∧
    s.localRead o 0xFFFFF00C = some (BitVec.ofNat 32 (s.clock o),
      s.setCore o { s.core o with timeHi := s.clock o / 2 ^ 32 % 2 ^ 32 }) ∧
    s.localRead o 0xFFFFF010 = some (BitVec.ofNat 32 (s.core o).timeHi, s) ∧
    s.localRead o 0xFFFFF014 = some (BitVec.ofNat 32 (if isTR o then s.coreGroup o else 0xFFFFFFFF), s) ∧
    s.localRead o 0xFFFFF018 = some (BitVec.ofNat 32 o, s) ∧
    s.localRead o 0xFFFFF01C = some (BitVec.ofNat 32 (s.core o).flags, s) ∧
    s.localRead o 0xFFFFF020 = some (BitVec.ofNat 32 (s.f (fcPend o)), s) := by
  have d := dmemWords_le o
  unfold State.localRead
  refine ⟨?_, ?_, ?_, ?_, ?_, ?_, ?_, ?_, ?_⟩
  all_goals
    rw [if_neg (by decide), if_neg (by omega)]
    rfl

theorem localRead_none (h : a % 4 ≠ 0 ∨ (dmemWords o ≤ a / 4 ∧ a < 0xFFFFF000) ∨ 0xFFFFF020 < a) : s.localRead o a = none := by
  have d := dmemWords_le o
  unfold State.localRead
  by_cases h4 : a % 4 = 0
  · rw [if_neg (not_not_intro h4), if_neg (by omega)]
    dsimp only
    split
    case h_10 => rfl
    all_goals omega
  · exact if_pos h4

theorem localWrite_dmem (h4 : a % 4 = 0) (ha : a / 4 < dmemWords o) :
    s.localWrite o a v = some (s.setDmem o (a / 4) v.toNat) := by
  unfold State.localWrite
  rw [if_neg (not_not_intro h4), if_pos ha]

theorem localWrite_flags : s.localWrite o 0xFFFFF01C v = some (s.setCore o { s.core o with flags := v.toNat % 256 }) := by
  have d := dmemWords_le o
  unfold State.localWrite
  rw [if_neg (by decide), if_neg (by omega), if_pos rfl]

theorem localWrite_none (h : a % 4 ≠ 0 ∨ (dmemWords o ≤ a / 4 ∧ a ≠ 0xFFFFF01C)) : s.localWrite o a v = none := by
  unfold State.localWrite
  by_cases h4 : a % 4 = 0
  · rw [if_neg (not_not_intro h4), if_neg (by omega), if_neg (by omega)]
  · exact if_pos h4

section
variable (h : s.issues o 0x28 i)
include h

theorem ld_loads (hr : (s.setCore o { s.core o with len := 4 }).localRead o (s.gw o i.a + BitVec.ofInt 32 (sInt 16 i.imm)).toNat =
    some (v, w)) (hw : Issued u w o 4) : ∃ t, exec (.ld o) s = .next t ∧
    u.wentOn t o (fun k => if k = i.d then v else u.gw o k) (u.core o).flags ((u.core o).pc + 4) 1 ∧
    (t.core o).hot = i.d ∧ (t.core o).hotAt = cycleAfter o (u.clock o) 2 := by
  have goes := runs_short (exec_ld s) h rfl (by decide)
  rw [address_short h (by decide), hr] at goes
  exact ⟨_, goes, hw.loads _ _⟩

theorem ld_faults (hr : (s.setCore o { s.core o with len := 4 }).localRead o (s.gw o i.a + BitVec.ofInt 32 (sInt 16 i.imm)).toNat =
    none) : exec (.ld o) s = .next ((s.setCore o { s.core o with len := 4 }).coreFault o 3) := by
  have goes := runs_short (exec_ld s) h rfl (by decide)
  rw [address_short h (by decide), hr] at goes
  exact goes

end

section
variable (h : s.issues o 0x29 i)
include h

theorem st_stores {r : State} (hr : (s.setCore o { s.core o with len := 4 }).localWrite o
    (s.gw o i.a + BitVec.ofInt 32 (sInt 16 i.imm)).toNat (s.gw o i.d) = some r) : exec (.st o) s = .next (r.retire o 1) := by
  have goes := runs_short (exec_st s) h rfl (by decide)
  rw [address_short h (by decide), issued_gw, hr] at goes
  exact goes

theorem st_faults (hr : (s.setCore o { s.core o with len := 4 }).localWrite o
    (s.gw o i.a + BitVec.ofInt 32 (sInt 16 i.imm)).toNat (s.gw o i.d) = none) :
    exec (.st o) s = .next ((s.setCore o { s.core o with len := 4 }).coreFault o 3) := by
  have goes := runs_short (exec_st s) h rfl (by decide)
  rw [address_short h (by decide), issued_gw, hr] at goes
  exact goes

end

end Sys2Proof.Machine
/-- Settles O16, instruction by instruction: a branch by its condition, a call by the depth of the stack, a load or store by the word of the
local space at its address. -/
theorem branchesCallsAndLocalMemory : Obligations.BranchesCallsAndLocalMemory := by
  intro s o op i h c off rel tgt goes br x y flag a loads
  have target : s.target o i (i.a != 0) % 2 ^ 32 = tgt := by
    rw [target_mod]
    by_cases ha : i.a = 0
    · simp only [tgt, rel, off, c, ha, bne_self_eq_false, if_true, Bool.false_eq_true, if_false]
    · simp only [tgt, off, ha, bne_iff_ne, ne_eq, not_false_eq_true, if_true, if_false]
  have onRegs {take : Prop} {k : Nat} (e : op = k) (hk : k ≠ 0x0E ∧ k ≠ 0x2C ∧ k ≠ 0x2D) (ht : branchHolds k x y = true ↔ take) :
      s.takes o i = true ↔ take := by
    unfold State.takes
    rw [issues_op_short h (by omega), e, if_neg hk.2.1, if_neg hk.2.2]
    exact ht
  refine ⟨fun e => ?beq, fun e => ?bne, fun e => ?blt, fun e => ?bge, fun e => ?clear, fun e => ?set, fun e => ?j, fun e => ?call,
    fun e => ?ret, fun e => ?ld, fun e => ?st⟩
  case beq => exact branch_goes (exec_beq s) h (forms_beq (.inl e)) (by omega) rfl (onRegs e (by decide) beq_iff_eq)
  case bne => exact branch_goes (exec_bne s) h (forms_beq (.inl e)) (by omega) rfl (onRegs e (by decide) bne_iff_ne)
  case blt => exact branch_goes (exec_blt s) h (beq_iff_eq.2 e) (by omega) rfl (onRegs e (by decide) decide_eq_true_iff)
  case bge =>
    refine branch_goes (exec_bge s) h (beq_iff_eq.2 e) (by omega) rfl (onRegs e (by decide) ?_)
    rw [branchHolds, cmpHolds_eq]
    exact decide_eq_true_iff
  case clear =>
    refine branch_goes (exec_beq s) h (forms_beq (.inr e)) (by omega) rfl ?_
    have two := bit_zero_or_one c.flags i.bn
    unfold State.takes State.flag
    rw [issues_op_short h (by omega), if_pos e, Bool.not_eq_true', beq_eq_false_iff_ne]
    exact ⟨fun hn => two.resolve_right hn, fun (hz : bit c.flags i.bn = 0) (ho : bit c.flags i.bn = 1) => by omega⟩
  case set =>
    refine branch_goes (exec_bne s) h (forms_beq (.inr e)) (by omega) rfl ?_
    unfold State.takes State.flag
    rw [issues_op_short h (by omega), if_neg (by omega), if_pos e]
    exact beq_iff_eq
  case j =>
    have runs := runs_short (exec_j s) h (beq_iff_eq.2 e) (by omega)
    rw [issued_target] at runs
    exact ⟨_, runs, target ▸ issued.jump _⟩
  case call =>
    subst e
    have runs := execCall_goes h
    constructor
    · intro room
      rw [if_neg (Nat.not_le.2 room)] at runs
      exact ⟨_, runs, target ▸ jump_stack ..⟩
    · exact fun full => runs.trans (if_pos full)
  case ret =>
    subst e
    exact ⟨fun r st hst => ⟨_, execRet_pops h hst, jump_stack ..⟩, execRet_empty h⟩
  case ld =>
    subst e
    have kept := issued_core (s := s) (o := o) 4
    have fixed {v : Word} {k : Nat} (hr : (s.setCore o { s.core o with len := 4 }).localRead o k =
        some (v, s.setCore o { s.core o with len := 4 })) (hk : a = k) : loads v s := ld_loads h ((congrArg _ hk).trans hr) issued
    obtain ⟨vtotal, htotal, frame, timeLo, timeHi, group, self, flags, pend⟩ :=
      localRead_registers (s := s.setCore o { s.core o with len := 4 }) (o := o)
    rw [kept] at timeHi flags timeLo
    refine ⟨fun h4 ha => ld_loads h (localRead_dmem h4 ha) issued, fixed vtotal, fixed htotal, fixed frame, fun e => ?_, fixed timeHi,
      fixed group, fixed self, fixed flags, fixed pend, fun e => ld_faults h (localRead_none e)⟩
    have hs : (s.setCore o { c with timeHi := s.clock o / 2 ^ 32 % 2 ^ 32 }).core o =
        { c with timeHi := s.clock o / 2 ^ 32 % 2 ^ 32 } := by rw [core_setCore, if_pos rfl]
    have w := ld_loads h ((congrArg _ e).trans timeLo) (issued_setCore (m := 4) { c with timeHi := s.clock o / 2 ^ 32 % 2 ^ 32 })
    rw [hs, show (s.setCore o { c with timeHi := s.clock o / 2 ^ 32 % 2 ^ 32 }).gw o = s.gw o from funext (gw_of_g (by rw [hs]))] at w
    exact w
  case st =>
    subst e
    refine ⟨fun h4 ha => ?_, fun e => ?_, fun e => st_faults h (localWrite_none e)⟩
    · exact ⟨_, st_stores h (localWrite_dmem h4 ha), issued.retire 1⟩
    · have hw := issued_core (s := s) (o := o) 4
      refine ⟨_, st_stores h ((congrArg (State.localWrite _ o · _) e).trans localWrite_flags), ?_⟩
      rw [hw]
      refine retire_went (m := 4) (onlyCore_setCore (issued_only 4) _) (fun k => (gw_of_g ?_ k).trans (gw_ite k)) ?_ ?_ ?_ ?_
      all_goals rw [core_setCore, if_pos rfl]
end

section
/-!
Faults, HALT, the watchdog and the power-fail vector of a core (R253, R257 to R259, R281, R283 to R287).
-/
open Sys2Proof Sys2Proof.Machine
namespace Sys2Proof.Machine

variable {s t u : State} {o op cause insn ofs lo w ofs' lo' w' : Nat} {i : Ins} {mine : Nat → Bool} {run : Ins → State → State}
  {x y : Fld}

/-! ## The registers of a core (R249, R304): one block of words for each -/

/-- A core of either profile. -/
def isCore (o : Nat) : Prop := isTR o = true ∨ isTC o = true

/-- No core is a queue or the management port. -/
theorem isCore_ge (ho : isCore o) : 512 ≤ o := by
  simp only [isCore, isTR, isTC, decide_eq_true_eq] at ho
  omega

/-- A field of the block of core `o`. -/
def coreFld (o ofs lo w : Nat) : Fld :=
  ⟨if isTR o then 0x02800000 + ofs + 0x100 * (o - 0x400) else 0x00400000 + ofs + 0x100 * (o - 0x300), lo, w⟩

/-- A field that stands at one place in the blocks of both profiles. -/
theorem ite_coreFld (hx : x = ⟨0x02800000 + ofs + 0x100 * (o - 0x400), lo, w⟩)
    (hy : y = ⟨0x00400000 + ofs + 0x100 * (o - 0x300), lo, w⟩) : (if isTR o then x else y) = coreFld o ofs lo w := by
  unfold coreFld
  split
  · exact hx
  · exact hy

theorem fcState_eq (o : Nat) : fcState o = coreFld o 0x04 29 3 := ite_coreFld rfl rfl
theorem fcPfv_eq (o : Nat) : fcPfv o = coreFld o 0x04 28 1 := ite_coreFld rfl rfl
theorem fcCause_eq (o : Nat) : fcCause o = coreFld o 0x04 24 4 := ite_coreFld rfl rfl
theorem fcStartW_eq (o : Nat) : fcStartW o = coreFld o 0x00 16 16 := ite_coreFld rfl rfl
theorem fcRestart_eq (o : Nat) : fcRestart o = coreFld o 0x08 26 1 := ite_coreFld rfl rfl
theorem fcFaultW_eq (o : Nat) : fcFaultW o = coreFld o 0x0C 16 16 := ite_coreFld rfl rfl
theorem fcFValid_eq (o : Nat) : fcFValid o = coreFld o 0x14 31 1 := ite_coreFld rfl rfl
theorem fcFCause_eq (o : Nat) : fcFCause o = coreFld o 0x14 24 4 := ite_coreFld rfl rfl
theorem fcFPc_eq (o : Nat) : fcFPc o = coreFld o 0x14 0 16 := ite_coreFld rfl rfl
theorem fcFInsn_eq (o : Nat) : fcFInsn o = coreFld o 0x18 0 32 := ite_coreFld rfl rfl
theorem fcPend_eq (o : Nat) : fcPend o = coreFld o 0x24 0 12 := ite_coreFld rfl rfl

theorem fSQR_eq (h : isTR o = true) : (⟨0x02800000 + ofs + 0x100 * (o - 0x400), lo, w⟩ : Fld) = coreFld o ofs lo w := by
  unfold coreFld
  rw [if_pos h]

theorem fSQR_CFG_GROUP_eq (h : isTR o = true) : fSQR_CFG_GROUP (o - 0x400) = coreFld o 0x08 28 4 := fSQR_eq (ofs := 0x08) h
theorem fSQR_VEC_PF_W_eq (h : isTR o = true) : fSQR_VEC_PF_W (o - 0x400) = coreFld o 0x0C 0 16 := fSQR_eq (ofs := 0x0C) h

/-- Two fields of a core's block are one where their places in it are. -/
theorem coreFld_key : fldKey (coreFld o ofs lo w) = fldKey (coreFld o ofs' lo' w') ↔ 32 * ofs + lo = 32 * ofs' + lo' := by
  simp only [fldKey, coreFld]
  split <;> omega

theorem coreFld_ne (h : 32 * ofs + lo ≠ 32 * ofs' + lo') : fldKey (coreFld o ofs lo w) ≠ fldKey (coreFld o ofs' lo' w') :=
  fun e => h (coreFld_key.1 e)

/-- Where the block of a core lies. -/
theorem coreFld_addr (ho : isCore o) (hofs : ofs < 0x100) : (0x00400000 ≤ (coreFld o ofs lo w).addr ∧ (coreFld o ofs lo w).addr < 0x00400800) ∨
    (0x02800000 ≤ (coreFld o ofs lo w).addr ∧ (coreFld o ofs lo w).addr < 0x02804100) := by
  simp only [isCore, isTR, isTC, decide_eq_true_eq] at ho
  simp only [coreFld, isTR, decide_eq_true_eq]
  split <;> omega

section
variable (ho : isCore o) (hofs : ofs < 0x100) (hlo : lo < 32)
include ho hofs hlo

theorem coreFld_outside : outside (coreFld o ofs lo w) 0x00401000 0x00405000 := by
  have a := coreFld_addr (lo := lo) (w := w) ho hofs
  exact ⟨hlo, by omega⟩

theorem coreFld_apart : apart (coreFld o ofs lo w) = true := by
  have a := coreFld_addr (lo := lo) (w := w) ho hofs
  have b : (coreFld o ofs lo w).lo = lo := rfl
  simp only [apart, Bool.and_eq_true, decide_eq_true_eq]
  omega

/-- A field beyond both blocks is no field of a core. -/
theorem coreFld_ne_of_addr (hy : y.lo < 32)
    (h : (y.addr < 0x00400000 ∨ 0x00400800 ≤ y.addr) ∧ (y.addr < 0x02800000 ∨ 0x02804100 ≤ y.addr)) :
    fldKey y ≠ fldKey (coreFld o ofs lo w) := by
  have a := coreFld_addr (lo := lo) (w := w) ho hofs
  have b : (coreFld o ofs lo w).lo = lo := rfl
  simp only [fldKey]
  omega

end

/-! ## What a fault shows and tells (R283) -/

/-- The fault registers of a core written. -/
def State.faultShown (s : State) (o cause insn : Nat) : State :=
  ((((s.setW1c (fcFValid o) 0).setF (fcFCause o) cause).setF (fcFPc o) ((s.core o).pc / 4)).setF (fcFInsn o) insn).setF (fcCause o) cause

/-- Does the core go on at its fault vector (R284)? -/
def State.restarts (s : State) (o : Nat) : Bool := s.on (fcRestart o) && !s.on fDRV_PF_TRIPPED

/-- The event raised, the owner failed and the fault recorded. -/
def State.faultTold (s : State) (o cause insn : Nat) : State :=
  (((s.faultShown o cause insn).raise 0x140 o (s.coreLocus o) [(8, cause), (8, b2n (s.restarts o)), (16, 0), (32, (s.core o).pc),
    (32, insn)]).ownerFail o 1).fault 0x0E o o (cause + 256 * (s.core o).pc)

/-- The core at its fault vector, its stack empty, its watchdog zero, cause and PC in its registers G1 and G2. -/
def State.atFaultVector (s : State) (o cause : Nat) (c : Core) : State :=
  ((s.setCore o { c.idle with
      g := smSet (fun _ => 0) (smSet (fun _ => 0) c.g 1 cause) 2 c.pc
      stack := []
      wdog := 0
      pc := 4 * s.f (fcFaultW o)
      next := cycleAfter o (s.clock o) 1 }).setF (fcPend o) 0).setF (fcState o) 1

/-- The core in FAULTED. -/
def State.inFaulted (s : State) (o : Nat) (c : Core) : State :=
  ((s.setCore o c.idle).setF (fcState o) 4).setNoServe (o - 0x300) (isTC o)

/-- The core's record, the fault of this tick noted. -/
def State.noted (s : State) (o : Nat) : Core := { s.core o with faultAt := some (s.clock o) }

theorem faultShown_ev : (s.faultShown o cause insn).ev = s.ev := rfl

theorem faultShown_keeps (h1 : fldKey y ≠ fldKey (fcFValid o)) (h2 : fldKey y ≠ fldKey (fcFCause o)) (h3 : fldKey y ≠ fldKey (fcFPc o))
    (h4 : fldKey y ≠ fldKey (fcFInsn o)) (h5 : fldKey y ≠ fldKey (fcCause o)) : (s.faultShown o cause insn).f y = s.f y := by
  unfold State.faultShown
  simp only [f_setF, f_setW1c, h1, h2, h3, h4, h5, if_false]

/-- A field of the core's block that is none of the fault's. -/
theorem faultShown_core (h : 32 * ofs + lo ∉ [0x14 * 32 + 31, 0x14 * 32 + 24, 0x14 * 32, 0x18 * 32, 0x04 * 32 + 24]) :
    (s.faultShown o cause insn).f (coreFld o ofs lo w) = s.f (coreFld o ofs lo w) := by
  simp only [List.mem_cons, List.not_mem_nil, not_or, or_false] at h
  apply faultShown_keeps
  · rw [fcFValid_eq]; exact coreFld_ne (by omega)
  · rw [fcFCause_eq]; exact coreFld_ne (by omega)
  · rw [fcFPc_eq]; exact coreFld_ne (by omega)
  · rw [fcFInsn_eq]; exact coreFld_ne (by omega)
  · rw [fcCause_eq]; exact coreFld_ne (by omega)

theorem faultShown_values : (s.faultShown o cause insn).f (fcFValid o) = 1 ∧ (s.faultShown o cause insn).f (fcFCause o) = cause % 2 ^ 4 ∧
    (s.faultShown o cause insn).f (fcFPc o) = (s.core o).pc / 4 % 2 ^ 16 ∧
    (s.faultShown o cause insn).f (fcFInsn o) = insn % 2 ^ 32 := by
  have valid (n : Nat) : putBit n 0 true % 2 ^ 1 = 1 := by
    have b := bit_putBit n 0 0 1 true Nat.one_pos
    simpa [bit, b2n] using b
  unfold State.faultShown
  simp only [f_setF, f_setW1c, fcFValid_eq, fcFCause_eq, fcFPc_eq, fcFInsn_eq, fcCause_eq, coreFld_key]
  exact ⟨valid _, rfl, rfl, rfl⟩

section
variable (ho : isCore o)
include ho

theorem restarts_faultShown : (s.faultShown o cause insn).restarts o = s.restarts o := by
  have trip : (s.faultShown o cause insn).f fDRV_PF_TRIPPED = s.f fDRV_PF_TRIPPED := by
    apply faultShown_keeps
    · rw [fcFValid_eq]; exact coreFld_ne_of_addr ho (by decide) (by decide) (by decide) (by decide)
    · rw [fcFCause_eq]; exact coreFld_ne_of_addr ho (by decide) (by decide) (by decide) (by decide)
    · rw [fcFPc_eq]; exact coreFld_ne_of_addr ho (by decide) (by decide) (by decide) (by decide)
    · rw [fcFInsn_eq]; exact coreFld_ne_of_addr ho (by decide) (by decide) (by decide) (by decide)
    · rw [fcCause_eq]; exact coreFld_ne_of_addr ho (by decide) (by decide) (by decide) (by decide)
  unfold State.restarts State.on
  rw [trip, fcRestart_eq, faultShown_core (by decide)]

/-- A fault that restarts the core or not, and whose event names a locus. -/
def State.coreFaultAs (s : State) (o cause insn : Nat) (restart : Bool) (locus : Nat) : State :=
  let t := (s.faultShown o cause insn).raise 0x140 o locus [(8, cause), (8, b2n restart), (16, 0), (32, (s.core o).pc), (32, insn)]
  let u := ((if (t.inEntry o).isSome then t.entryEnd (o - 0x300) 1 cause (s.core o).pc else t).ownerFail o 1).fault 0x0E o o
    (cause + 256 * (s.core o).pc)
  if ¬ restart then u.inFaulted o (s.noted o)
  else if (t.inEntry o).isSome then
    ((u.setCore o { (s.noted o).idle with stack := [], wdog := 0 }).setF (fcPend o) 0).setF (fcState o) 0
  else u.atFaultVector o cause (s.noted o)

omit ho in
theorem coreLocus_faultShown : (s.faultShown o cause insn).coreLocus o = s.coreLocus o := by
  unfold State.coreLocus
  by_cases h : isTR o = true
  · have group : (s.faultShown o cause insn).coreGroup o = s.coreGroup o := by
      unfold State.coreGroup
      rw [fSQR_CFG_GROUP_eq h]
      exact faultShown_core (by decide)
    rw [group]
  · rw [if_neg h, if_neg h]

/-- A fault outside a queue entry. -/
theorem coreFaultWith_eq (he : s.inEntry o = none) : s.coreFaultWith o cause insn =
    if s.restarts o then (s.faultTold o cause insn).atFaultVector o cause (s.noted o)
    else (s.faultTold o cause insn).inFaulted o (s.noted o) := by
  have locus := coreLocus_faultShown (s := s) (o := o) (cause := cause) (insn := insn)
  have restarts := restarts_faultShown (s := s) (cause := cause) (insn := insn) ho
  have unfolded : s.coreFaultWith o cause insn = s.coreFaultAs o cause insn ((s.faultShown o cause insn).restarts o)
    ((s.faultShown o cause insn).coreLocus o) := rfl
  rw [unfolded, locus, restarts]
  have entry : ((s.faultShown o cause insn).raise 0x140 o (s.coreLocus o) [(8, cause), (8, b2n (s.restarts o)), (16, 0), (32, (s.core o).pc),
    (32, insn)]).inEntry o = none := he
  unfold State.coreFaultAs
  simp only [entry, Option.isSome_none, Bool.false_eq_true, if_false, ite_not]
  rfl

/-! ### What the failure of the owner and the record of the fault leave alone -/

/-- From what the fault showed to what it told, the registers of the core stand and events were only raised. -/
theorem faultTold_calm (hofs : ofs < 0x100) (hlo : lo < 32) : (s.faultTold o cause insn).f (coreFld o ofs lo w) =
    (s.faultShown o cause insn).f (coreFld o ofs lo w) ∧
    ∃ l, (s.faultTold o cause insn).ev.enRoute = s.ev.enRoute ++ ⟨s.clock o, 0x140, false, o, s.coreLocus o, packBits [(8, cause),
      (8, b2n (s.restarts o)), (16, 0), (32, (s.core o).pc), (32, insn)]⟩ :: l := by
  obtain ⟨same, l, raised⟩ := (Calm.ownerFail (w := o) (coreFld_outside (w := w) ho hofs hlo) (coreFld_apart (w := w) ho hofs hlo)
    (isCore_ge ho) 1 (s := (s.faultShown o cause insn).raise 0x140 o (s.coreLocus o) [(8, cause), (8, b2n (s.restarts o)), (16, 0),
      (32, (s.core o).pc), (32, insn)])).fault' (coreFld_apart ho hofs hlo) (c := 0x0E) (o := o) (u := o)
      (d := cause + 256 * (s.core o).pc)
  unfold State.faultTold
  refine ⟨same, l, ?_⟩
  rw [raised, raise_ev, faultShown_ev, List.append_assoc]
  rfl

omit ho in
theorem faultTold_core (p : Nat) : (s.faultTold o cause insn).core p = s.core p := by
  apply core_of_cores
  unfold State.faultTold
  rw [fault_th, ownerFail_cores]
  rfl

end

/-! ## The end of a fault (R284) -/

section
variable (hs : fldKey y ≠ fldKey (fcState o))
include hs

theorem inFaulted_f (c : Core) : (s.inFaulted o c).f y = s.f y := (f_setF ..).trans (if_neg hs)

theorem atFaultVector_f (hp : fldKey y ≠ fldKey (fcPend o)) (c : Core) : (s.atFaultVector o cause c).f y = s.f y :=
  (f_setF ..).trans ((if_neg hs).trans ((f_setF ..).trans (if_neg hp)))

end

theorem inFaulted_shows (c : Core) : (s.inFaulted o c).f (fcState o) = 4 ∧ (s.inFaulted o c).core o = c.idle := by
  constructor
  · exact (f_setF ..).trans ((if_pos rfl).trans (by rw [fcState_eq]; rfl))
  · exact (core_setCore ..).trans (if_pos rfl)

theorem atFaultVector_shows (c : Core) : (s.atFaultVector o cause c).f (fcState o) = 1 ∧ (s.atFaultVector o cause c).f (fcPend o) = 0 ∧
    (s.atFaultVector o cause c).core o = { c.idle with
      g := smSet (fun _ => 0) (smSet (fun _ => 0) c.g 1 cause) 2 c.pc
      stack := []
      wdog := 0
      pc := 4 * s.f (fcFaultW o)
      next := cycleAfter o (s.clock o) 1 } := by
  refine ⟨?_, ?_, (core_setCore ..).trans (if_pos rfl)⟩
  · exact (f_setF ..).trans ((if_pos rfl).trans (by rw [fcState_eq]; rfl))
  · refine (f_setF ..).trans ((if_neg ?_).trans ((f_setF ..).trans ((if_pos rfl).trans (Nat.zero_mod _))))
    rw [fcPend_eq, fcState_eq]
    exact coreFld_ne (by decide)

theorem inFaulted_ev (c : Core) : (s.inFaulted o c).ev = s.ev := rfl
theorem atFaultVector_ev (c : Core) : (s.atFaultVector o cause c).ev = s.ev := rfl

/-- The first word of the instruction that a fault reports (R283, R298). -/
def State.faultInsn (s : State) (o cause : Nat) : Nat := if cause = 2 then 0 else s.imem o ((s.core o).pc / 4)

section
variable (ho : isCore o) (he : s.inEntry o = none)
include ho he

theorem coreFault_eq : s.coreFault o cause = if s.restarts o then
    (s.faultTold o cause (s.faultInsn o cause)).atFaultVector o cause (s.noted o)
    else (s.faultTold o cause (s.faultInsn o cause)).inFaulted o (s.noted o) := coreFaultWith_eq ho he

/-- The fault registers and the event that every fault leaves. -/
theorem coreFault_shows (hc : cause < 9) : (s.coreFault o cause).f (fcFValid o) = 1 ∧ (s.coreFault o cause).f (fcFCause o) = cause ∧
    (s.coreFault o cause).f (fcFPc o) = (s.core o).pc / 4 % 2 ^ 16 ∧
    (s.coreFault o cause).f (fcFInsn o) = s.faultInsn o cause % 2 ^ 32 ∧
    ∃ l, (s.coreFault o cause).ev.enRoute = s.ev.enRoute ++ ⟨s.clock o, 0x140, false, o, s.coreLocus o, packBits [(8, cause),
      (8, b2n (s.restarts o)), (16, 0), (32, (s.core o).pc), (32, s.faultInsn o cause)]⟩ :: l := by
  obtain ⟨valid, cause', pc, insn⟩ := faultShown_values (s := s) (o := o) (cause := cause) (insn := s.faultInsn o cause)
  have kept {ofs lo w : Nat} (hofs : ofs < 0x100) (hlo : lo < 32) (hs : 32 * ofs + lo ≠ 0x04 * 32 + 29)
      (hp : 32 * ofs + lo ≠ 0x24 * 32) : (s.coreFault o cause).f (coreFld o ofs lo w) =
      (s.faultShown o cause (s.faultInsn o cause)).f (coreFld o ofs lo w) := by
    have hs : fldKey (coreFld o ofs lo w) ≠ fldKey (fcState o) := by rw [fcState_eq]; exact coreFld_ne (by omega)
    have hp : fldKey (coreFld o ofs lo w) ≠ fldKey (fcPend o) := by rw [fcPend_eq]; exact coreFld_ne (by omega)
    rw [coreFault_eq ho he]
    split
    · exact (atFaultVector_f hs hp _).trans (faultTold_calm ho hofs hlo).1
    · exact (inFaulted_f hs _).trans (faultTold_calm ho hofs hlo).1
  have same : (s.coreFault o cause).ev = (s.faultTold o cause (s.faultInsn o cause)).ev := by
    rw [coreFault_eq ho he]
    split
    · exact atFaultVector_ev _
    · exact inFaulted_ev _
  rw [fcFValid_eq, fcFCause_eq, fcFPc_eq, fcFInsn_eq] at *
  rw [kept (by decide) (by decide) (by decide) (by decide), kept (by decide) (by decide) (by decide) (by decide),
    kept (by decide) (by decide) (by decide) (by decide), kept (by decide) (by decide) (by decide) (by decide), same]
  exact ⟨valid, cause'.trans (Nat.mod_eq_of_lt (by omega)), pc, insn, (faultTold_calm (ofs := 0) (lo := 0) (w := 0) ho (by decide) (by decide)).2⟩

theorem coreFault_halts (hr : s.restarts o = false) : (s.coreFault o cause).f (fcState o) = 4 ∧
    (∀ k, (s.coreFault o cause).gw o k = s.gw o k) ∧ ((s.coreFault o cause).core o).pc = (s.core o).pc := by
  rw [coreFault_eq ho he, hr, if_neg Bool.false_ne_true]
  obtain ⟨state, core⟩ := inFaulted_shows (s := s.faultTold o cause (s.faultInsn o cause)) (o := o) (s.noted o)
  exact ⟨state, gw_of_g ((congrArg Core.g core).trans rfl), (congrArg Core.pc core).trans rfl⟩

theorem coreFault_restarts (hr : s.restarts o = true) : (s.coreFault o cause).f (fcState o) = 1 ∧ (s.coreFault o cause).f (fcPend o) = 0 ∧
    ((s.coreFault o cause).core o).pc = 4 * s.f (fcFaultW o) ∧ ((s.coreFault o cause).core o).stack = [] ∧
    ((s.coreFault o cause).core o).wdog = 0 ∧ ((s.coreFault o cause).core o).flags = (s.core o).flags ∧
    (s.coreFault o cause).gw o 1 = BitVec.ofNat 32 cause ∧ (s.coreFault o cause).gw o 2 = BitVec.ofNat 32 (s.core o).pc ∧
    ∀ k, k ≠ 1 → k ≠ 2 → (s.coreFault o cause).gw o k = s.gw o k := by
  have vector : (s.faultTold o cause (s.faultInsn o cause)).f (fcFaultW o) = s.f (fcFaultW o) := by
    rw [fcFaultW_eq, (faultTold_calm ho (by decide) (by decide)).1, faultShown_core (by decide)]
  rw [coreFault_eq ho he, hr, if_pos rfl]
  obtain ⟨state, pend, core⟩ := atFaultVector_shows (s := s.faultTold o cause (s.faultInsn o cause)) (o := o) (cause := cause) (s.noted o)
  rw [vector] at core
  have gw (k : Nat) : ((s.faultTold o cause (s.faultInsn o cause)).atFaultVector o cause (s.noted o)).gw o k =
      if k = 2 then BitVec.ofNat 32 (s.core o).pc else if k = 1 then BitVec.ofNat 32 cause else s.gw o k := by
    unfold State.gw
    rw [core]
    simp only [smGet_smSet]
    by_cases h2 : k = 2
    · subst h2; rfl
    · by_cases h1 : k = 1
      · subst h1; rfl
      · simp only [h1, h2, if_false]
        rfl
  refine ⟨state, pend, congrArg Core.pc core, congrArg Core.stack core, congrArg Core.wdog core, (congrArg Core.flags core).trans rfl, gw 1, gw 2,
    fun k h1 h2 => (gw k).trans ((if_neg h2).trans (if_neg h1))⟩

end

/-! ## What faults before it executes (R257, R258) -/

section
variable {c : Instr} (hx : exec c s = s.issue o mine run) (may : s.mayIssue o = true) (pc : s.pcOk o = true)
include hx may pc

theorem issue_illegal (hm : mine (s.word0 o / 2 ^ 26) = true)
    (fits : s.word0 o / 2 ^ 26 = 0x0E → (s.core o).pc / 4 + 1 < imemWords o)
    (bad : (insOf (s.word0 o) (s.word1 o)).legal o (s.word0 o) = false) : exec c s = .next (s.coreFault o 1) := by
  rw [hx]
  unfold State.issue
  rw [if_neg (by rw [may, pc, hm]; decide), if_neg (fun h => Nat.not_le.2 (fits h.1) h.2)]
  exact if_pos (by rw [bad]; decide)

/-- An L form whose second word lies beyond the memory. -/
theorem issue_beyond (hm : mine 0x0E = true) (he : s.word0 o / 2 ^ 26 = 0x0E) (beyond : imemWords o ≤ (s.core o).pc / 4 + 1) :
    exec c s = .next (s.coreFault o 2) := by
  rw [hx]
  unfold State.issue
  rw [if_neg (by rw [may, pc, he, hm]; decide)]
  exact if_pos ⟨he, beyond⟩

end

theorem legal_of_zeros (h : i.zeros = false) (w0 : Nat) : i.legal o w0 = false := by
  simp [Ins.legal, h]

theorem legal_of_trOnly (ho : isTR o = false) (h : trOnly i.op = true) (w0 : Nat) : i.legal o w0 = false := by
  simp [Ins.legal, ho, h]

theorem legal_of_long {w0 : Nat} (hl : i.long.isSome = true) (h : w0 % 1024 ≠ 0) : i.legal o w0 = false := by
  cases i with
  | mk op w long =>
    cases long with
    | none => cases hl
    | some v => simp [Ins.legal, h]

theorem insOf_of_ne {w0 w1 : Nat} (h : w0 / 2 ^ 26 ≠ 0x0E) : insOf w0 w1 = ⟨w0 / 2 ^ 26, w0 % 2 ^ 26, none⟩ := if_neg h

theorem isTR_false_of_isTC (h : isTC o = true) : isTR o = false := by
  simp only [isTC, isTR, decide_eq_true_eq, decide_eq_false_iff_not] at *
  omega

theorem reservedOpcode_outside (may : s.mayIssue o = true) (pc : s.pcOk o = false) :
    exec (.reservedOpcode o) s = .next (s.coreFault o 2) := by
  rw [exec_reservedOpcode]
  unfold execReservedOpcode
  rw [if_neg (not_not_intro may), if_pos (by rw [pc]; decide)]

theorem reservedOpcode_reserved (may : s.mayIssue o = true) (pc : s.pcOk o = true) (h : reservedOp (s.word0 o / 2 ^ 26) = true) :
    exec (.reservedOpcode o) s = .next (s.coreFault o 1) := by
  rw [exec_reservedOpcode]
  unfold execReservedOpcode
  rw [if_neg (not_not_intro may), if_neg (not_not_intro pc), if_pos h]

/-! ## HALT -/

/-- From `s` to `t` no more of the cores and queues changed than transactions and locks. -/
def SameButOwners (s t : State) : Prop := t.th = { s.th with txns := t.th.txns, locks := t.th.locks }

namespace SameButOwners

theorem refl : SameButOwners s s := rfl

theorem trans (h : SameButOwners s t) (k : SameButOwners t u) : SameButOwners s u := by
  unfold SameButOwners at *
  rw [k, h]

theorem of_th (h : t.th = s.th) : SameButOwners s t := by
  unfold SameButOwners
  rw [h]

theorem ite {c : Prop} {_ : Decidable c} (h : SameButOwners s t) (k : SameButOwners s u) : SameButOwners s (if c then t else u) := by
  split
  · exact h
  · exact k

theorem foldl {β : Type} {f : State → β → State} (h : ∀ s b, SameButOwners s (f s b)) (l : List β) :
    ∀ s, SameButOwners s (l.foldl f s) := by
  induction l with
  | nil => exact fun _ => refl
  | cons b l ih => exact fun s => (h s b).trans (ih _)

theorem setLk (n : Nat) (x : LockSt) : SameButOwners s (s.setLk n x) := rfl

theorem raise (c a l : Nat) (as : List (Nat × Nat)) : SameButOwners s (s.raise c a l as) := of_th rfl

theorem freeShadow (n : Nat) : SameButOwners s (s.freeShadow n) := of_th rfl

theorem fault (c a b d : Nat) : SameButOwners s (s.fault c a b d) := of_th (fault_th ..)

theorem lockBroken (n a b c : Nat) : SameButOwners s (s.lockBroken n a b c) := by
  have told (l : List (Nat × Nat)) : SameButOwners s (((if a = 2 then
      ((((s.setF (fCPR_LOCK_STATUS n) a).setF (fCPR_LOCK_ORPHAN n) 0).setLk n ⟨none, none, 0⟩).setF (fCPR_LOCK_REFUSED n) b).setF
        (fCPR_LOCK_CSEQ n) c else (((s.setF (fCPR_LOCK_STATUS n) a).setF (fCPR_LOCK_ORPHAN n) 0).setLk n ⟨none, none, 0⟩))).raise
      0x152 (s.f (fCPR_LOCK_OWNER n)) 0 l) := ite (c := a = 2) rfl rfl
  exact ite (told _) ((told _).trans (fault ..))

theorem lockFail (n how : Nat) : SameButOwners s (s.lockFail n how) := by
  unfold State.lockFail
  dsimp only
  split
  · exact (setLk ..).trans (lockBroken ..)
  · split
    · exact (setLk ..).trans (lockBroken ..)
    · exact setLk ..

theorem qOpen (w : Nat) (b : Bool) : SameButOwners s (s.qOpen w b) := ite rfl refl

theorem txnClose (n : Nat) : SameButOwners s (s.txnClose n) := by
  unfold State.txnClose
  exact trans (t := (((((s.setF (fCPR_TXN_OWN_STATE n) 0).setF (fCPR_TXN_OWN_DOOM n) 0).setF (fCPR_TXN_OWN_OWNER n) 0).setTxnWs n []).setF
    fCPR_TXN_STATUS_OPEN _)) rfl (qOpen ..)

theorem ownerFail (w how : Nat) : SameButOwners s (s.ownerFail w how) := by
  unfold State.ownerFail
  refine trans (t := if how = 0 then s.maskLocks w else s) (ite (of_th rfl) refl) ?_
  generalize (if how = 0 then s.maskLocks w else s) = s
  dsimp only
  split
  · exact foldl (fun _ n => lockFail n how) ..
  · exact ((txnClose _).trans ((freeShadow _).trans (raise ..))).trans (foldl (fun _ n => lockFail n how) ..)

end SameButOwners

theorem setCoreSt_state {st : Nat} (h : st < 8) : (s.setCoreSt o st).f (fcState o) = st := by
  unfold State.setCoreSt State.coreSt
  dsimp only
  split
  · next same => exact same
  · refine (f_setF ..).trans ((if_pos rfl).trans ?_)
    rw [fcState_eq]
    exact Nat.mod_eq_of_lt h

theorem setCoreSt_ch (st : Nat) : (s.setCoreSt o st).ch = s.ch := by
  unfold State.setCoreSt
  dsimp only
  split <;> rfl

theorem ownerFail_ch (w how : Nat) : (s.ownerFail w how).ch = s.ch :=
  touch_same (Touch.ownerFail (m := 8913602) .refl .refl) .ch (by decide)

/-- HALT outside a queue entry: the owner has failed and the core is HALTED behind the instruction. -/
theorem execHalt_goes (h : s.issues o 0x3F i) (he : s.inEntry o = none) : ∃ t, exec (.halt o) s = .next t ∧ t.f (fcState o) = 3 ∧
    (t.core o).pc = (s.core o).pc + 4 ∧ (∀ k, t.gw o k = s.gw o k) ∧ t.th.gto = s.th.gto ∧ t.ch = s.ch := by
  have goes := runs_short (exec_halt s) h rfl (by decide)
  rw [issued_core] at goes
  obtain ⟨u, hu⟩ : ∃ u, u = (s.setCore o { s.core o with len := 4 }).setCore o
    { ({ s.core o with len := 4 } : Core).idle with pc := (s.core o).pc + 4 } := ⟨_, rfl⟩
  have core : u.core o = { ({ s.core o with len := 4 } : Core).idle with pc := (s.core o).pc + 4 } := by
    rw [hu, core_setCore, if_pos rfl]
  have entry : u.inEntry o = none := by
    rw [hu]
    exact he
  dsimp only at goes
  rw [← hu, entry, Option.isSome_none, if_neg Bool.false_ne_true] at goes
  have kept : ((u.ownerFail o 1).setCoreSt o 3).core o = u.core o :=
    core_of_cores ((congrArg ThSt.cores (setCoreSt_th ..)).trans (ownerFail_cores ..)) o
  have gto : ((u.ownerFail o 1).setCoreSt o 3).th.gto = u.th.gto := by
    rw [setCoreSt_th, show (u.ownerFail o 1).th = _ from SameButOwners.ownerFail o 1]
  refine ⟨_, goes, setCoreSt_state (by decide), ?_, gw_of_g ?_, ?_, ?_⟩
  · rw [kept, core]
  · rw [kept, core]
    rfl
  · rw [gto, hu]
    rfl
  · rw [setCoreSt_ch, ownerFail_ch, hu]
    rfl

/-! ## The power-fail vector (R286) -/

/-- Edges and packets of the core discarded, its owner failed. -/
def State.pfCleared (s : State) (o : Nat) : State :=
  ((s.cancelEdges fun e => e.core == o && decide (s.time.raster < e.tick)).dropPackets o).ownerFail o 1

/-- The core at its power-fail vector. -/
def State.atPfVector (s : State) (o : Nat) (c : Core) : State :=
  (((s.setCore o { c.idle with stack := [], flags := 0, wdog := 0, pc := 4 * s.f (fSQR_VEC_PF_W (o - 0x400)) }).setF
    (fcPend o) 0).setF (fcPfv o) 1).setF (fcState o) 1

theorem atPfVector_shows (c : Core) : (s.atPfVector o c).f (fcState o) = 1 ∧ (s.atPfVector o c).f (fcPfv o) = 1 ∧
    (s.atPfVector o c).f (fcPend o) = 0 ∧
    (s.atPfVector o c).core o = { c.idle with stack := [], flags := 0, wdog := 0, pc := 4 * s.f (fSQR_VEC_PF_W (o - 0x400)) } := by
  unfold State.atPfVector
  simp only [f_setF, fcState_eq, fcPfv_eq, fcPend_eq, coreFld_key]
  exact ⟨rfl, rfl, rfl, (core_setCore ..).trans (if_pos rfl)⟩

theorem atPfVector_keeps (c : Core) (h : 32 * ofs + lo ∉ [0x04 * 32 + 29, 0x04 * 32 + 28, 0x24 * 32]) :
    (s.atPfVector o c).f (coreFld o ofs lo w) = s.f (coreFld o ofs lo w) := by
  simp only [List.mem_cons, List.not_mem_nil, not_or, or_false] at h
  unfold State.atPfVector
  simp only [f_setF, fcState_eq, fcPfv_eq, fcPend_eq, coreFld_key]
  rw [if_neg (by omega), if_neg (by omega), if_neg (by omega)]
  rfl

theorem atPfVector_frame (c : Core) : (s.atPfVector o c).ev = s.ev ∧ (s.atPfVector o c).time = s.time := ⟨rfl, rfl⟩

/-- A core that started from a stop is measured. -/
def State.measuredIf (s : State) (o : Nat) (stopped : Bool) : State := if stopped then s.measSeq (s.coreGroup o) else s

theorem pfVector_eq (ho : isTR o = true) (hs : s.f (fcState o) ≠ 0) (hv : s.f (fcPfv o) = 0)
    (en : s.on (fSQR_CFG_PF_EN (o - 0x400)) = true) (hf : (s.core o).faultAt ≠ some (s.clock o)) : ∃ stopped, s.pfVector o =
      (((s.pfCleared o).atPfVector o (s.core o)).measuredIf o stopped).raise 0x142 o
        ((((s.pfCleared o).atPfVector o (s.core o)).measuredIf o stopped).coreLocus o) [(32, 0), (32, (s.core o).pc)] := by
  have pfv : ¬ s.on (fcPfv o) = true := by simp [State.on, hv]
  have takes : ¬ (¬ isTR o = true ∨ s.coreSt o = 0 ∨ s.on (fcPfv o) = true ∨ ¬ s.on (fSQR_CFG_PF_EN (o - 0x400)) = true ∨
      (s.core o).faultAt = some (s.clock o)) := by
    rintro (h | h | h | h | h)
    · exact h ho
    · exact hs h
    · exact pfv h
    · exact h en
    · exact hf h
  exact ⟨_, if_neg takes⟩

theorem pfVector_faulted (hf : (s.core o).faultAt = some (s.clock o)) : s.pfVector o = s :=
  if_pos (.inr (.inr (.inr (.inr hf))))

theorem dropPackets_calm (hy : fldKey y ≠ fldKey fMEM_NOUGAT_FREE) : Calm y s (s.dropPackets o) :=
  Calm.foldl _ _ (fun s e _ => Calm.setF' (t := s.setPq (e.1 / 16) (e.1 % 16) _) (Calm.same rfl rfl) hy) s

theorem pfCleared_calm (ho : isCore o) (hofs : ofs < 0x100) (hlo : lo < 32) : Calm (coreFld o ofs lo w) s (s.pfCleared o) := by
  have pool : fldKey (coreFld o ofs lo w) ≠ fldKey fMEM_NOUGAT_FREE :=
    (coreFld_ne_of_addr ho hofs hlo (by decide) (by decide)).symm
  have edges : Calm (coreFld o ofs lo w) s (s.cancelEdges fun e => e.core == o && decide (s.time.raster < e.tick)) := Calm.same rfl rfl
  exact (edges.trans (dropPackets_calm pool)).trans
    (Calm.ownerFail (coreFld_outside ho hofs hlo) (coreFld_apart ho hofs hlo) (isCore_ge ho) 1)

theorem pfCleared_cores : (s.pfCleared o).th.cores = s.th.cores := by
  unfold State.pfCleared
  rw [ownerFail_cores, touch_same (Touch.dropPackets (m := 1048578) .refl .refl) .th (by decide)]
  rfl

theorem pfCleared_time : (s.pfCleared o).time = s.time :=
  touch_same (Touch.ownerFail (m := 9962178) rfl (.dropPackets rfl (.cancelEdges rfl .refl))) .time (by decide)

theorem measuredIf_keeps (b : Bool) : (s.measuredIf o b).f y = s.f y ∧ (s.measuredIf o b).time = s.time ∧
    (s.measuredIf o b).th = s.th ∧ ∃ l, (s.measuredIf o b).ev.enRoute = s.ev.enRoute ++ l := by
  cases b
  · exact ⟨rfl, rfl, rfl, [], (List.append_nil _).symm⟩
  · have touch : Touch 16777280 s (s.measuredIf o true) := Touch.measSeq .refl .refl
    obtain ⟨same, raised⟩ : Calm y s (s.measuredIf o true) := Calm.measure ..
    exact ⟨same, touch_same touch .time (by decide), touch_same touch .th (by decide), raised⟩

/-- What a core is at its power-fail vector, and the event that says so last. -/
theorem pfVector_shows (ho : isTR o = true) (hs : s.f (fcState o) ≠ 0) (hv : s.f (fcPfv o) = 0)
    (en : s.on (fSQR_CFG_PF_EN (o - 0x400)) = true) (hf : (s.core o).faultAt ≠ some (s.clock o)) :
    (s.pfVector o).f (fcState o) = 1 ∧ (s.pfVector o).f (fcPfv o) = 1 ∧ (s.pfVector o).f (fcPend o) = 0 ∧
    (s.pfVector o).core o = { (s.core o).idle with stack := [], flags := 0, wdog := 0, pc := 4 * s.f (fSQR_VEC_PF_W (o - 0x400)) } ∧
    ∃ l, (s.pfVector o).ev.enRoute = s.ev.enRoute ++ l ++ [⟨s.clock o, 0x142, false, o, s.coreLocus o,
      packBits [(32, 0), (32, (s.core o).pc)]⟩] := by
  obtain ⟨stopped, goes⟩ := pfVector_eq ho hs hv en hf
  have cleared {ofs lo w : Nat} (hofs : ofs < 0x100) (hlo : lo < 32) := (pfCleared_calm (w := w) (s := s) (.inl ho) hofs hlo).1
  have vector : (s.pfCleared o).f (fSQR_VEC_PF_W (o - 0x400)) = s.f (fSQR_VEC_PF_W (o - 0x400)) := by
    rw [fSQR_VEC_PF_W_eq ho]
    exact cleared (by decide) (by decide)
  have group : (s.pfCleared o).f (fSQR_CFG_GROUP (o - 0x400)) = s.f (fSQR_CFG_GROUP (o - 0x400)) := by
    rw [fSQR_CFG_GROUP_eq ho]
    exact cleared (by decide) (by decide)
  obtain ⟨state, pfv, pend, core⟩ := atPfVector_shows (s := s.pfCleared o) (o := o) (s.core o)
  obtain ⟨ev, time⟩ := atPfVector_frame (s := s.pfCleared o) (o := o) (s.core o)
  have group' : ((s.pfCleared o).atPfVector o (s.core o)).coreGroup o = s.coreGroup o := by
    unfold State.coreGroup
    rw [← group, fSQR_CFG_GROUP_eq ho]
    exact atPfVector_keeps _ (by decide)
  rw [vector] at core
  generalize (s.pfCleared o).atPfVector o (s.core o) = u at *
  have keeps (y : Fld) := measuredIf_keeps (s := u) (o := o) (y := y) stopped
  obtain ⟨-, time', th, l', raised'⟩ := keeps (fcState o)
  obtain ⟨-, l, raised⟩ := pfCleared_calm (ofs := 0) (lo := 0) (w := 0) (s := s) (.inl ho) (by decide) (by decide)
  have locus : (u.measuredIf o stopped).coreLocus o = s.coreLocus o := by
    unfold State.coreLocus State.coreGroup at *
    rw [(keeps _).1, group']
  have clock : (u.measuredIf o stopped).clock o = s.clock o := by
    unfold State.clock
    rw [time', time, pfCleared_time]
  rw [goes, locus]
  refine ⟨(keeps _).1.trans state, (keeps _).1.trans pfv, (keeps _).1.trans pend, (core_of_cores (congrArg ThSt.cores th) o).trans core,
    l ++ l', ?_⟩
  rw [raise_ev]
  dsimp only
  rw [clock, raised', ev, raised, ← List.append_assoc]

end Sys2Proof.Machine

/-- Settles O17: a fault by what it shows, tells and ends in; an instruction that is not taken by the first of its tests that fails. -/
theorem coreFaultsHaltsAndVectors : Obligations.CoreFaultsHaltsAndVectors := by
  intro s o ho he c
  refine ⟨fun cause hc => ?fault, fun may => ⟨reservedOpcode_outside may, fun pc h => reservedOpcode_reserved may pc ?reserved,
    fun pc h hx => ?sub, fun pc h hc => ?waitl, fun pc h h0 hl => ?zeros, fun pc h hl => ?beyond⟩,
    fun i h => execHalt_goes h he, fun h1 h2 h3 => ?watchdog, fun h => ?vector, fun tr hs hv en => ⟨pfVector_faulted, fun hf => ?pf⟩⟩
  case fault =>
    intro t insn goesOn
    obtain ⟨valid, cause', pc, insn', raised⟩ := coreFault_shows ho he hc
    have restarts : s.restarts o = decide goesOn := by
      simp only [State.restarts, goesOn, Bool.decide_and, Bool.decide_eq_true, Bool.decide_eq_false]
    rw [restarts] at raised
    refine ⟨valid, cause', pc, insn', raised, fun stays => ?_, fun goes => ?_⟩
    · exact coreFault_halts ho he (restarts.trans (decide_eq_false stays))
    · exact coreFault_restarts ho he (restarts.trans (decide_eq_true goes))
  case reserved => exact List.contains_iff_mem.2 h
  case sub =>
    refine issue_illegal (exec_sub s) may pc (beq_iff_eq.2 h) (by omega) (legal_of_zeros ?_ _)
    rw [insOf_of_ne (by omega), h]
    change (bitsOf _ 10 0 == 0) = false
    simp only [bitsOf, beq_eq_false_iff_ne]
    omega
  case waitl =>
    refine issue_illegal (exec_waitl s) may pc (beq_iff_eq.2 h) (by omega)
      (legal_of_trOnly (isTR_false_of_isTC hc) ?_ _)
    rw [insOf_of_ne (by omega), h]
    rfl
  case zeros =>
    refine issue_illegal (exec_lForm s) may pc (beq_iff_eq.2 h) (fun _ => hl) (legal_of_long ?_ h0)
    unfold insOf
    rw [if_pos h]
    rfl
  case beyond => exact issue_beyond (exec_lForm s) may pc rfl h (Nat.le_of_eq hl.symm)
  case watchdog => exact if_pos ⟨ho, h1, h2, h3⟩
  case vector => exact if_pos h
  case pf =>
    obtain ⟨state, pfv, pend, core, raised⟩ := pfVector_shows tr hs hv en hf
    intro t
    refine ⟨state, pfv, pend, ?_, ?_, ?_, ?_, gw_of_g ((congrArg Core.g core).trans rfl), raised⟩
    all_goals rw [core]
end

section
/-!
The waits of a core, FENCE, and their completions (R266 to R272, R279, R285, R290).
-/
open Sys2Proof Sys2Proof.Machine
namespace Sys2Proof.Machine

variable {s t u : State} {o op m n : Nat} {i : Ins} {mine : Nat → Bool} {run : Ins → State → State}

/-! ## Issue -/

theorem issues_len (h : s.issues o op i) : i.len = if op = 0x0E then 8 else 4 := by
  split
  · next ho => exact issues_len_long h ho
  · next ho => exact issues_len_short h ho

/-- The core with the length of its instruction noted. -/
def State.issuing (s : State) (o op : Nat) : State := s.setCore o { s.core o with len := if op = 0x0E then 8 else 4 }

theorem runs_issuing {c : Instr} (hc : exec c s = s.issue o mine run) (h : s.issues o op i) (hm : mine op = true) :
    exec c s = .next (run i (s.issuing o op)) := by
  rw [hc, issue_runs h hm, issues_len h]
  rfl

theorem issuing_waitSum : (s.issuing o op).waitSum o i = s.waitSum o i := by
  unfold State.waitSum State.issuing
  rw [issued_gw, issued_opB]

theorem waitSum_eq (h : s.issues o op i) (hop : 0x10 ≤ op ∨ op = 0x0E) : s.waitSum o i =
    (s.gw o i.d + if op = 0x0E then BitVec.ofNat 32 (i.long.getD 0) else BitVec.ofNat 32 i.imm).toNat := by
  have b : s.opB o i false = if op = 0x0E then BitVec.ofNat 32 (i.long.getD 0) else BitVec.ofNat 32 i.imm := by
    by_cases ho : op = 0x0E
    · rw [if_pos ho, opB_long (issues_isSome h ho)]
    · rw [if_neg ho, opB_unsigned, if_neg (by rw [issues_isSome_short h ho]; decide),
        if_neg (by rw [issues_op_short h ho]; omega)]
  unfold State.waitSum
  rw [b]

/-! ## Parking and completion (R266, R290) -/

theorem setCoreSt_raises {st old : Nat} (h : s.f (fcState o) = old) (hne : old ≠ st) :
    Raised s (s.setCoreSt o st) 0x141 o (s.coreLocus o) [(8, st), (8, old), (16, 0), (32, (s.core o).pc)] := by
  subst h
  unfold State.setCoreSt
  dsimp only
  rw [if_neg (show ¬ s.coreSt o = st from hne)]
  exact ⟨rfl, rfl, rfl⟩

theorem setCoreSt_core (st p : Nat) : (s.setCoreSt o st).core p = s.core p := core_of_cores (congrArg ThSt.cores (setCoreSt_th ..)) p

theorem park_shows (a : Act) : ((s.park o a).core o).act = a ∧ ((s.park o a).core o).ready = none ∧ (s.park o a).f (fcState o) = 2 ∧
    (s.f (fcState o) = 1 → Raised s (s.park o a) 0x141 o (s.coreLocus o) [(8, 2), (8, 1), (16, 0), (32, (s.core o).pc)]) := by
  have core : (s.setCore o { s.core o with act := a, ready := none }).core o = { s.core o with act := a, ready := none } :=
    (core_setCore ..).trans (if_pos rfl)
  unfold State.park
  refine ⟨by rw [setCoreSt_core, core], by rw [setCoreSt_core, core], setCoreSt_state (by decide), fun h => ?_⟩
  have told := setCoreSt_raises (s := s.setCore o { s.core o with act := a, ready := none }) (st := 2) h (by decide)
  rw [core] at told
  exact told

theorem atEnd_wdog : ((s.atEnd o).core o).wdog = (s.core o).wdog := by
  unfold State.atEnd
  split
  · rfl
  · split
    · rfl
    · dsimp only
      rw [core_of_cores (entryEnd_cores ..), setCoreSt_core, core_setCore, if_pos rfl]
      rfl

/-- A wait's completion sets its flag and the core RUNNING, and goes on with the watchdog zero. -/
theorem waitDone_shows (n : Nat) (b : Bool) : ((s.setFlag o n b).setCoreSt o 1).wentOn (s.waitDone o n b) o (s.gw o)
      (putBit (s.core o).flags n b) ((s.core o).pc + (s.core o).len) (1 + ((s.core o).len / 4 - 1)) ∧
    ((s.waitDone o n b).core o).wdog = 0 ∧ ((s.setFlag o n b).setCoreSt o 1).f (fcState o) = 1 ∧
    (s.f (fcState o) = 2 → Raised s ((s.setFlag o n b).setCoreSt o 1) 0x141 o (s.coreLocus o)
      [(8, 1), (8, 2), (16, 0), (32, (s.core o).pc)]) := by
  have flagged : (s.setFlag o n b).core o = { s.core o with flags := putBit (s.core o).flags n b } :=
    (core_setCore ..).trans (if_pos rfl)
  have core : ((s.setFlag o n b).setCoreSt o 1).core o = { s.core o with flags := putBit (s.core o).flags n b } :=
    (setCoreSt_core ..).trans flagged
  have goes : s.waitDone o n b = (((s.setFlag o n b).setCoreSt o 1).setCore o { ((s.setFlag o n b).setCoreSt o 1).core o with wdog := 0 }).retire
    o 1 := rfl
  generalize hu : (s.setFlag o n b).setCoreSt o 1 = u at *
  have zeroed : (u.setCore o { u.core o with wdog := 0 }).core o = { s.core o with flags := putBit (s.core o).flags n b, wdog := 0 } := by
    rw [core_setCore, if_pos rfl, core]
  refine ⟨?_, ?_, ?_, ?_⟩
  · have w := retire_went (s := u) (o := o) (n := 1) (onlyCore_setCore onlyCore_refl { u.core o with wdog := 0 })
      (fun k => (gw_of_g (s := s) (by rw [zeroed]) k).trans (gw_ite k)) (congrArg Core.flags zeroed) (by rw [zeroed, core])
      (by rw [zeroed, core]) (congrArg Core.len zeroed)
    rw [core] at w
    rw [goes, core]
    exact w
  · rw [goes]
    unfold State.retire State.goOn
    rw [atEnd_wdog, core_setCore, if_pos rfl, zeroed]
    rfl
  · rw [← hu]
    exact setCoreSt_state (by decide)
  · intro h
    have told := setCoreSt_raises (s := s.setFlag o n b) (st := 1) h (by decide)
    rw [flagged, hu] at told
    exact told

/-! ## The waits at issue -/

/-- Device time against a 32-bit target. -/
theorem timeReached_low (target : Nat) : s.timeReached o target true =
    decide (0 ≤ (BitVec.ofNat 32 (s.clock o) - BitVec.ofNat 32 target).toInt) := by
  have diff : (BitVec.ofNat 32 (s.clock o) - BitVec.ofNat 32 target).toInt = sInt 32 (toField 32 ((s.clock o : Int) - target)) := by
    rw [BitVec.toInt_sub, BitVec.toInt_ofNat', BitVec.toInt_ofNat', Int.sub_bmod_bmod, Int.bmod_sub_bmod, Int.bmod_def]
    simp only [sInt, toField]
    split_ifs <;> omega
  rw [diff]
  rfl

theorem lineLive_iff {g : Nat} : s.lineLive g = true ↔ (s.grp g).live = true ∧ s.f (fTMG_STATUS_STATE g) ≠ 0 := by
  unfold State.lineLive State.gState
  rw [Bool.and_eq_true, bne_iff_ne]

theorem mode_lt (i : Ins) : i.mode < 4 := Nat.mod_lt _ (by decide)

/-- WAITL where no line start is owed (R267, R268). -/
theorem execWaitl_goes (h : s.issues o op i) (ho : op = 0x30) (hl : s.lineOwed (s.coreGroup o) = false) {passed : Prop} [Decidable passed]
    (hp : passed ↔ s.lineLive (s.coreGroup o) = true ∧
      (s.grp (s.coreGroup o)).waitTarget (i.mode % 2 == 1) (s.waitSum o i) ≤ (s.grp (s.coreGroup o)).line) :
    exec (.waitl o) s = .next (if passed ∧ 2 ≤ i.mode then (s.issuing o op).waitDone o i.wn false else (s.issuing o op).park o
      (.waitLine i.wn (s.waitSum o i) (i.mode % 2 == 1) (!decide passed)
        (if s.lineLive (s.coreGroup o) then some (s.grp (s.coreGroup o)).line else none))) := by
  have m := mode_lt i
  have pass : (s.lineLive (s.coreGroup o) &&
      decide ((s.grp (s.coreGroup o)).waitTarget (i.mode % 2 == 1) (s.waitSum o i) ≤ (s.grp (s.coreGroup o)).line)) = decide passed := by
    rw [decide_eq_decide.2 hp, Bool.decide_and, Bool.decide_eq_true]
  have owed : ¬ (s.issuing o op).lineOwed ((s.issuing o op).coreGroup o) = true :=
    fun e => Bool.false_ne_true (hl.symm.trans e)
  have goes := runs_issuing (exec_waitl s) h (beq_iff_eq.2 ho)
  rw [issuing_waitSum] at goes
  dsimp only at goes
  rw [if_neg owed] at goes
  refine goes.trans (congrArg _ (if_congr ?_ rfl ?_))
  · refine and_congr (Iff.trans ?_ decide_eq_true_iff) (by omega)
    rw [← pass]
    rfl
  · rw [← pass]
    rfl

/-- WAITC (R269). -/
theorem execWaitc_goes (h : s.issues o op i) (ho : op = 0x31) : exec (.waitc o) s =
    .next (if s.colReached (s.coreGroup o) (s.waitSum o i) then (s.issuing o op).waitDone o i.wn false
      else (s.issuing o op).park o (.waitCol i.wn (s.waitSum o i))) := by
  have goes := runs_issuing (exec_waitc s) h (beq_iff_eq.2 ho)
  rw [issuing_waitSum] at goes
  exact goes

/-- WAITE (R271, R272). -/
theorem execWaite_goes (h : s.issues o op i) (ho : op = 0x32) : exec (.waite o) s =
    .next (if bit (s.f (fcPend o)) i.imm = 1 then ((s.issuing o op).putBit (fcPend o) i.imm false).waitDone o i.wn true
      else (s.issuing o op).park o (.waitEvent i.wn i.imm
        (if (s.gw o i.d).toNat = 0 then none else some (s.clock o + (s.gw o i.d).toNat)))) := by
  have goes := runs_issuing (exec_waite s) h (beq_iff_eq.2 ho)
  dsimp only at goes
  rw [show (s.issuing o op).gw o i.d = s.gw o i.d from issued_gw ..] at goes
  exact goes

/-- WAITT with its target (R270). -/
def State.awaits (s : State) (o n target : Nat) (low : Bool) : State :=
  if s.timeReached o target low then s.waitDone o n false else s.park o (.waitTime n target low)

theorem waittRun_mode0 (hm : i.mode = 0) : waittRun o i s = s.awaits o i.wn (s.waitSum o i) true := by
  unfold waittRun
  rw [hm]
  rfl

theorem waittRun_mode1 (hm : i.mode = 1) (hl : s.lineLive (s.coreGroup o) = true) :
    waittRun o i s = s.awaits o i.wn ((s.grp (s.coreGroup o)).lineTick + s.waitSum o i) false := by
  unfold waittRun State.lineStart
  rw [hm, if_pos hl]
  rfl

theorem waittRun_mode2 (hm : i.mode = 2) : waittRun o i s = s.awaits o i.wn (s.clock o + s.waitSum o i) false := by
  unfold waittRun
  rw [hm]
  rfl

theorem waitt_runs (h : s.issues o op i) (e : op = 0x33 ∨ (op = 0x0E ∧ i.op = 0x33)) :
    exec (if op = 0x33 then .waitt o else .lForm o) s = .next (waittRun o i (s.issuing o op)) := by
  rcases e with e | ⟨e, g⟩
  · rw [if_pos e]
    exact runs_issuing (exec_waitt s) h (beq_iff_eq.2 e)
  · rw [if_neg (by omega)]
    have goes := runs_issuing (exec_lForm s) h (beq_iff_eq.2 e)
    simp only [g] at goes
    exact goes

/-- FENCE (R279). -/
theorem execFence_goes (h : s.issues o op i) (ho : op = 0x3D) : exec (.fence o) s =
    .next (if s.fenceClear o i.imm then (s.issuing o op).retire o 1 else (s.issuing o op).park o (.fence i.imm)) :=
  runs_issuing (exec_fence s) h (beq_iff_eq.2 ho)

end Sys2Proof.Machine

/-- Settles O18, wait by wait: what it does at issue, what a parked core and a completed wait are, and which completion ends which wait. -/
theorem waitsAndFencesCompleteWithTheirFlag : Obligations.WaitsAndFencesCompleteWithTheirFlag := by
  intro s o ho c g x live pend
  refine ⟨?issue, fun a => park_shows a, fun n b => waitDone_shows n b, fun n l sy ar p b ha hr => ?waitl,
    fun n k ha => ?waitc, fun n k d ha => ?waite, fun n k hk ha he => ?occur, fun n t low ha ht => ?waitt, fun m ha hm => ?fence,
    fun l y p => ?flag⟩
  case issue =>
    intro op i h u sum n mode
    have target (hop : 0x10 ≤ op ∨ op = 0x0E) : s.waitSum o i = sum := waitSum_eq h hop
    have alive : s.lineLive g = true ↔ live := lineLive_iff
    refine ⟨fun e hl => ?line, fun e => ?col, fun e => ?event, fun e => ?time, fun e => execFence_goes h e⟩
    case line =>
      intro passed
      have sum := target (by omega)
      have goes := execWaitl_goes h e hl (passed := passed) (by rw [sum]; exact (and_congr_left' alive).symm)
      rw [sum] at goes
      refine ⟨fun hp => goes.trans (congrArg _ (if_pos hp)), fun hp => goes.trans (congrArg _ ((if_neg hp).trans ?_))⟩
      rw [if_congr alive rfl rfl]
      rfl
    case col =>
      have goes := execWaitc_goes h e
      rw [target (by omega)] at goes
      exact goes
    case event =>
      have goes := execWaite_goes h e
      refine ⟨fun hp => ?_, fun hp => ?_⟩
      · rw [if_pos hp] at goes
        exact goes
      · rw [if_neg (show ¬ bit (s.f (fcPend o)) i.imm = 1 by rw [show bit (s.f (fcPend o)) i.imm = 0 from hp]; decide)] at goes
        refine goes.trans ?_
        have zero : (s.gw o i.d).toNat = 0 ↔ s.gw o i.d = 0 := BitVec.toNat_inj (y := 0#32)
        rw [if_congr zero rfl rfl]
        rfl
    case time =>
      intro cmd done
      have goes := waitt_runs h e
      have target := target (by omega)
      rw [← issuing_waitSum] at target
      refine ⟨fun hm => ?_, fun hm hl => ?_, fun hm => ?_⟩
      · rw [waittRun_mode0 hm, target, State.awaits, timeReached_low] at goes
        exact goes
      · rw [waittRun_mode1 (s := s.issuing o op) hm (alive.2 hl), target] at goes
        exact goes
      · rw [waittRun_mode2 hm, target] at goes
        have reached : (sum == 0) = decide (s.clock o + sum ≤ s.clock o) := by
          rw [beq_eq_decide]
          exact decide_eq_decide.2 (by omega)
        exact goes.trans (by rw [reached]; rfl)
  case waitl =>
    rw [exec_waitlDone]
    unfold execWaitlDone
    rw [ha, hr]
  case waitc =>
    rw [exec_waitcDone]
    unfold execWaitcDone
    rw [ha]
    dsimp only
    refine ⟨fun b hr => ?_, fun hr hc => ?_⟩
    · rw [hr]
    · rw [hr]
      exact if_pos hc
  case waite =>
    rw [exec_waiteDone]
    unfold execWaiteDone
    rw [ha]
    dsimp only
    refine ⟨fun b hr => ?_, fun t hr hd ht => ?_⟩
    · rw [hr]
    · rw [hr, hd]
      exact if_pos ht
  case occur =>
    unfold State.occur
    dsimp only
    rw [if_neg (not_not_intro hk), ha, he]
    dsimp only
    rw [if_pos ⟨rfl, rfl⟩, core_setCore, if_pos rfl]
  case waitt =>
    rw [exec_waittDone]
    unfold execWaittDone
    rw [ha]
    exact if_pos ht
  case fence =>
    rw [exec_fenceDone]
    unfold execFenceDone
    rw [ha]
    exact if_pos hm
  case flag =>
    unfold waitLineFlag
    refine ⟨fun e => if_pos e, fun q hp hne hq => ?_⟩
    rw [if_neg hne, hp]
    dsimp only
    by_cases hy : y = 0
    · exact if_pos hy
    · rw [if_neg hy]
      exact if_pos (hq.resolve_left hy)
end
section
/-!
EMIT, gate edges and EVENT (R273 to R277, R280, R282, R385, R430).
-/
open Sys2Proof Sys2Proof.Machine
namespace Sys2Proof.Machine

variable {s t u : State} {o op m n : Nat} {i : Ins}

/-! ## EMIT -/

theorem emitKind_eq (k : Nat) : emitKind k = (if k = 0 then 2 else if k = 1 then 3 else if k = 2 ∨ k = 3 then 5 else 8,
    if k = 2 then 2 else if k = 3 then 3 else 1) := by
  match k with
  | 0 => rfl
  | 1 => rfl
  | 2 => rfl
  | 3 => rfl
  | k + 4 =>
    rw [if_neg (by omega), if_neg (by omega), if_neg (by omega), if_neg (by omega), if_neg (by omega)]
    rfl

theorem xn_eq (i : Ins) : i.xn = i.w % 8 := congrArg (· % 8) (Nat.div_one _)

theorem goff_eq (i : Ins) : i.goff = i.w % 2 ^ 14 := congrArg (· % 2 ^ 14) (Nat.div_one _)

theorem bitsOf_x (i : Ins) : bitsOf i.x 5 3 = bitsOf i.w 5 3 := by
  simp only [Ins.x, bitsOf]
  omega

/-- The packet of an EMIT: 64 ticks after the EMIT retires it may leave (R275). -/
def State.emitted (s : State) (o kind n : Nat) (ws : List Nat) : Pkt :=
  ⟨(emitKind kind).1, (emitKind kind).2, ws, o, s.clock o + (4 + (n + 3) / 4 - 1) * (if o = 0x440 then 16 else 1) + 64, 0, none, false, 0, 0,
    0, false⟩

theorem enqueue_refuses {c p : Nat} {k : Pkt} (h : s.f (fLNK_CFG_QDEPTH c) < (s.pq c p).length ∨ s.poolHas (cellsOf k.words.length) = false) :
    s.enqueue c p k = (false, s) := by
  unfold State.enqueue
  exact if_pos (h.imp id fun e => by rw [e]; decide)

theorem enqueue_takes {c p : Nat} {k : Pkt} (hq : (s.pq c p).length ≤ s.f (fLNK_CFG_QDEPTH c))
    (hp : s.poolHas (cellsOf k.words.length) = true) :
    s.enqueue c p k = (true, (s.setPq c p (insertPkt k (s.pq c p))).takeCells (cellsOf k.words.length)) := by
  unfold State.enqueue
  exact if_neg (by rintro (h | h); exacts [by omega, h hp])

section
variable {ga gb n : Nat} {ws : List Nat} (hga : (s.gw o i.a).toNat = ga) (hgb : (s.gw o i.b).toNat = gb)
include hga

theorem emitRun_none (hb : s.emitBuffer o ga = none) : emitRun o false i s = s.coreFault o 3 := by
  unfold emitRun
  rw [hga, hb]

variable (hb : s.emitBuffer o ga = some (n, ws))
include hb hgb

theorem emitRun_foreign (hc : s.chainOwner (bitsOf gb 11 4) ≠ some (s.coreGroup o)) : emitRun o false i s = s.coreFault o 6 := by
  unfold emitRun
  rw [hga, hb, hgb]
  exact if_pos hc

variable (hc : s.chainOwner (bitsOf gb 11 4) = some (s.coreGroup o))
include hc

theorem emitRun_empty (hw : ws = []) : emitRun o false i s = (s.setFlag o i.xn false).retire o 4 := by
  unfold emitRun
  rw [hga, hb, hgb]
  exact (if_neg (not_not_intro hc)).trans (if_pos hw)

theorem emitRun_full (hw : ws ≠ []) (hq : s.enqueue (bitsOf gb 11 4) (gb % 16) (s.emitted o (bitsOf i.x 5 3) n ws) = (false, u)) :
    emitRun o false i s = (u.setFlag o i.xn false).retire o 4 := by
  unfold emitRun
  rw [hga, hb, hgb]
  refine (if_neg (not_not_intro hc)).trans ((if_neg hw).trans ?_)
  dsimp only
  unfold State.emitted at hq
  rw [if_neg Bool.false_ne_true, hq]

theorem emitRun_queues (hw : ws ≠ []) (hq : s.enqueue (bitsOf gb 11 4) (gb % 16) (s.emitted o (bitsOf i.x 5 3) n ws) = (true, u)) :
    emitRun o false i s = (u.setFlag o i.xn true).retire o (4 + (n + 3) / 4) := by
  unfold emitRun
  rw [hga, hb, hgb]
  refine (if_neg (not_not_intro hc)).trans ((if_neg hw).trans ?_)
  dsimp only
  unfold State.emitted at hq
  rw [if_neg Bool.false_ne_true, hq]

end

/-- Packet `k` queues behind `j`: `j` has started, or `k` does not go first (R275). -/
def Pkt.follows (k j : Pkt) : Bool := j.started || decide (¬ (k.ready < j.ready ∨ (k.ready = j.ready ∧ k.core < j.core)))

theorem follows_iff (k j : Pkt) : k.follows j = true ↔ ¬ (¬ j.started ∧ (k.ready < j.ready ∨ (k.ready = j.ready ∧ k.core < j.core))) := by
  unfold Pkt.follows
  rw [Bool.or_eq_true, decide_eq_true_iff, not_and, Decidable.or_iff_not_imp_left]

theorem insertPkt_eq (k : Pkt) (l : List Pkt) : insertPkt k l = l.takeWhile k.follows ++ k :: l.dropWhile k.follows := by
  induction l with
  | nil => rfl
  | cons j l ih =>
    unfold insertPkt
    by_cases h : k.follows j = true
    · rw [if_neg ((follows_iff k j).1 h), List.takeWhile_cons_of_pos h, List.dropWhile_cons_of_pos h, ih]
      rfl
    · rw [if_pos (Decidable.not_not.1 (mt (follows_iff k j).2 h)), List.takeWhile_cons_of_neg h, List.dropWhile_cons_of_neg h]
      rfl

/-! ## Gates (R276, R277) -/

/-- The gate instruction stands in its pin's way of no lower core's. -/
def State.pinTaken (s : State) (o : Nat) (i : Ins) : Bool :=
  s.lowerIssues o fun c j => decide (0x35 ≤ j.op ∧ j.op ≤ 0x37) && j.pin == i.pin && s.pinOf j.pin (s.coreGroup c) &&
    decide ((s.pin j.pin).edges.length + s.gateEdges c j ≤ 8)

/-- Edges at offsets from `base`, in order. -/
def State.schedules (s : State) (p o : Nat) (base : Int) (edges : List (Nat × Bool)) : State :=
  edges.foldl (fun s e => s.schedule p o (base + e.1) e.2) s

section
variable {ofs : Int} {edges : List (Nat × Bool)}

theorem gateRun_foreign (hp : s.pinOf i.pin (s.coreGroup o) = false) : gateRun o i ofs edges s = s.coreFault o 6 :=
  if_pos (by rw [hp]; decide)

variable (hp : s.pinOf i.pin (s.coreGroup o) = true)
include hp

theorem gateRun_full (he : 8 < (s.pin i.pin).edges.length + edges.length) : gateRun o i ofs edges s = s :=
  (if_neg (not_not_intro hp)).trans (if_pos he)

variable (he : (s.pin i.pin).edges.length + edges.length ≤ 8)
include he

theorem gateRun_waits (hl : s.pinTaken o i = true) : gateRun o i ofs edges s = s :=
  (if_neg (not_not_intro hp)).trans ((if_neg (Nat.not_lt.2 he)).trans (if_pos hl))

theorem gateRun_schedules (hl : s.pinTaken o i = false) (hb : i.gmode = 1 ∨ s.lineLive (s.coreGroup o) = true) :
    gateRun o i ofs edges s = (s.schedules i.pin o (((if i.gmode = 1 then s.clock o else (s.grp (s.coreGroup o)).lineTick : Nat) : Int) +
      ofs + i.goff) edges).retire o 1 := by
  have base : (if i.gmode = 1 then (s.clock o, s) else s.lineStart (s.coreGroup o)) =
      (if i.gmode = 1 then s.clock o else (s.grp (s.coreGroup o)).lineTick, s) := by
    by_cases hm : i.gmode = 1
    · rw [if_pos hm, if_pos hm]
    · rw [if_neg hm, if_neg hm]
      exact if_pos (hb.resolve_left hm)
  refine (if_neg (not_not_intro hp)).trans ((if_neg (Nat.not_lt.2 he)).trans ((if_neg ?_).trans ?_))
  · rw [show s.lowerIssues _ _ = _ from hl]
    decide
  · rw [base]
    rfl

end

/-! ## Edges (R277, R430) -/

theorem late_ne {j p : Nat} {y : Fld} (h : y = fDRV_GTO_GROUP p ∨ y = fDRV_GTO_SLVL p ∨ y = fTMG_STATUS_STATE p) :
    fldKey y ≠ fldKey (fSQR_LATE_EDGES j) := by
  simp only [fldKey, fDRV_GTO_GROUP, fDRV_GTO_SLVL, fTMG_STATUS_STATE, fSQR_LATE_EDGES] at h ⊢
  rcases h with rfl | rfl | rfl <;> dsimp only <;> omega

theorem edgesOff_late (p j k : Nat) : (s.count (fSQR_LATE_EDGES j) k).edgesOff p = s.edgesOff p := by
  unfold State.edgesOff State.gState
  rw [f_count (y := fDRV_GTO_GROUP p), if_neg (late_ne (.inl rfl)), f_count, if_neg (late_ne (.inr (.inr rfl))), f_count,
    if_neg (late_ne (.inr (.inl rfl)))]

/-- One more edge on a pin. -/
def State.addEdge (s : State) (p : Nat) (e : Edge) : State := s.setPin p { s.pin p with edges := (s.pin p).edges ++ [e] }

theorem addEdge_edges (p : Nat) (e : Edge) : ((s.addEdge p e).pin p).edges = (s.pin p).edges ++ [e] := by
  unfold State.addEdge
  rw [pin_setPin, if_pos rfl]

theorem Only.setPin {fs : List Fld} {ps : List Part} {p : Nat} {x : GtoPin} (hp : Part.th ∈ ps) (h : Only fs ps s t) :
    Only fs ps s (t.setPin p x) :=
  h.touch [.th] (by decide) (List.forall_mem_singleton.2 hp) (.setPin (m := 524288) .refl .refl)

section
variable {p : Nat} {T : Int} {rise : Bool} (hoff : s.edgesOff p = false) (hbon : ¬ (o = 0x440 ∧ s.on fDRV_BON_CTRL_ACTIVE))
include hoff hbon

theorem schedule_ahead (h : (s.time.raster : Int) + 8 ≤ T) : s.schedule p o T rise = s.addEdge p ⟨T.toNat, rise, o⟩ := by
  unfold State.schedule
  dsimp only
  rw [decide_eq_false (Int.not_lt.2 h), if_neg hbon]
  exact if_neg (by rw [if_neg Bool.false_ne_true, hoff]; decide)

theorem schedule_late (h : T < (s.time.raster : Int) + 8) :
    s.schedule p o T rise = (s.count (fSQR_LATE_EDGES (o - 0x400)) 1).addEdge p ⟨s.time.raster + 8, rise, o⟩ := by
  unfold State.schedule
  dsimp only
  rw [decide_eq_true h, if_neg hbon]
  exact if_neg (by rw [if_pos rfl, edgesOff_late, hoff]; decide)

end

/-- The due edges of least tick placed on a pin (R277). -/
def State.placed (s : State) (p : Nat) (e : Edge) : State :=
  { s with cal := { s.cal with edgeAt := some s.time.raster } }.setPin p
    ⟨if s.edgesOff p then (s.pin p).level else e.rise, (s.pin p).edges.filter fun y => y.tick != e.tick⟩

theorem execGtoEdgePlace_places {p : Nat} {e : Edge} (h : firstDue (s.pin p).edges s.time.raster = some e) :
    exec (.gtoEdgePlace p) s = .next (s.placed p e) := by
  rw [exec_gtoEdgePlace]
  unfold execGtoEdgePlace
  dsimp only
  rw [h]
  rfl

theorem placed_pin (p : Nat) (e : Edge) : (s.placed p e).pin p =
    ⟨if s.edgesOff p then (s.pin p).level else e.rise, (s.pin p).edges.filter fun y => y.tick != e.tick⟩ := by
  unfold State.placed
  rw [pin_setPin, if_pos rfl]

theorem placed_only (p : Nat) (e : Edge) : Only [] [.th, .cal] s (s.placed p e) :=
  .setPin (by decide) (Only.refl.touch [.cal] (by decide) (by decide) (.upd_22 (m := 4194304) .refl .refl))

/-! ## The three gate instructions -/

/-- The offset of a gate instruction's first edge from its base (R276). -/
def gateOfs (op : Nat) (ga : Word) : Int := if op = 0x37 then ((ga.toNat % 65536 : Nat) : Int) else ga.toInt

/-- The edges of a gate instruction, from its first on (R276). -/
def gateList (op : Nat) (ga : Word) : List (Nat × Bool) :=
  if op = 0x35 then [(0, true)] else if op = 0x36 then [(0, false)] else
    if ga.toNat / 65536 = 0 then [] else [(0, true), (ga.toNat / 65536, false)]

theorem gateList_length (hop : op = 0x35 ∨ op = 0x36 ∨ op = 0x37) (ga : Word) :
    (gateList op ga).length = if op = 0x37 then (if ga.toNat / 65536 = 0 then 0 else 2) else 1 := by
  unfold gateList
  rcases hop with rfl | rfl | rfl
  · rfl
  · rfl
  · exact apply_ite List.length (ga.toNat / 65536 = 0) [] _

theorem schedules_gateList (p : Nat) (T : Int) (hop : op = 0x35 ∨ op = 0x36 ∨ op = 0x37) (ga : Word) : s.schedules p o T (gateList op ga) =
    if op = 0x35 then s.schedule p o T true else if op = 0x36 then s.schedule p o T false else
      if ga.toNat / 65536 = 0 then s else (s.schedule p o T true).schedule p o (T + (ga.toNat / 65536 : Nat)) false := by
  have first (rise : Bool) : s.schedule p o (T + (0 : Nat)) rise = s.schedule p o T rise := by rw [Int.natCast_zero, Int.add_zero]
  unfold gateList
  rcases hop with rfl | rfl | rfl
  · exact first true
  · exact first false
  · by_cases hw : ga.toNat / 65536 = 0
    · simp [hw, State.schedules]
    · simp only [hw, reduceIte, Nat.reduceEqDiff, State.schedules, List.foldl_cons, List.foldl_nil, first]

theorem gate_runs (h : s.issues o op i) (hop : op = 0x35 ∨ op = 0x36 ∨ op = 0x37) :
    exec (if op = 0x35 then .gset o else if op = 0x36 then .gclr o else .gpulse o) s =
      .next (gateRun o i (gateOfs op (s.gw o i.ga)) (gateList op (s.gw o i.ga)) (s.setCore o { s.core o with len := 4 })) := by
  rw [← issued_gw (s := s) 4]
  rcases hop with rfl | rfl | rfl
  · exact runs_short (exec_gset s) h rfl (by decide)
  · exact runs_short (exec_gclr s) h rfl (by decide)
  · exact runs_short (exec_gpulse s) h rfl (by decide)

/-! ## EVENT -/

theorem execEvent_goes (h : s.issues o 0x3E i) : exec (.event o) s =
    .next (if 16 ≤ s.ownEvents o then s.setCore o { s.core o with len := 4 } else
      ((s.raise (0x4000 + i.w % 2 ^ 14) o (s.coreLocus o) [(32, (s.gw o i.d).toNat), (32, (s.gw o i.a).toNat), (32, 0),
        (32, (s.core o).pc)]).setCore o { s.core o with len := 4 }).retire o 1) := by
  have goes := runs_short (exec_event s) h rfl (by decide)
  rw [issued_gw, issued_gw, issued_core, goff_eq] at goes
  exact goes

theorem raise_core (k a l : Nat) (as : List (Nat × Nat)) (p : Nat) : (s.raise k a l as).core p = s.core p := rfl

/-! ## What an EMIT makes -/

/-- An EMIT after its queue's answer `t`: it is issued, writes its flag and retires. -/
theorem emit_went (hc : t.core o = s.core o) (hg : t.gw o = s.gw o) (b : Bool) (n k : Nat) :
    t.wentOn (((t.setCore o { t.core o with len := 4 }).setFlag o k b).retire o n) o (s.gw o) (putBit (s.core o).flags k b)
      ((s.core o).pc + 4) n := by
  rw [← hc, ← hg]
  exact flag_went b rfl n

end Sys2Proof.Machine

/-- Settles O19: the packet, the edges and the record, each by what its instruction does at issue; edges by where they lie. -/
theorem emitGatesAndEvents : Obligations.EmitGatesAndEvents := by
  intro s o op i h c u went
  refine ⟨fun ho => ?emit, fun ho => ?gate, fun k l => insertPkt_eq k l, fun ho => ?event, fun p T rise hp ho hoff hbon => ?edge,
    fun p e he => ⟨_, execGtoEdgePlace_places he, ?edges, ?level, placed_only p e⟩⟩
  case emit =>
    subst ho
    intro ch pos cn kind
    have goes : exec (.emit o false) s = .next (emitRun o false i u) := runs_short (exec_emit s) h rfl (by decide)
    have hga : (u.gw o i.a).toNat = (s.gw o i.a).toNat := by rw [issued_gw]
    have hgb : (u.gw o i.b).toNat = (s.gw o i.b).toNat := by rw [issued_gw]
    have chain : bitsOf (s.gw o i.b).toNat 11 4 = ch := rfl
    refine ⟨fun hb => goes.trans (congrArg _ (emitRun_none hga hb)), fun n ws hb => ⟨fun hc => ?_, fun hc => ⟨fun hw => ?_, ?_, ?_⟩⟩⟩
    · exact goes.trans (congrArg _ (emitRun_foreign hga hgb hb hc))
    · rw [emitRun_empty hga hgb hb hc hw, xn_eq] at goes
      exact ⟨_, goes, emit_went rfl rfl false 4 cn⟩
    · intro hw hq
      rw [emitRun_full hga hgb hb hc hw (enqueue_refuses hq), xn_eq] at goes
      exact ⟨_, goes, emit_went rfl rfl false 4 cn⟩
    · intro hw hq hp
      rw [emitRun_queues hga hgb hb hc hw (enqueue_takes hq hp), xn_eq] at goes
      intro cycles at' ty sk
      refine ⟨_, goes, ?_⟩
      have pkt : u.emitted o (bitsOf i.x 5 3) n ws = ⟨ty, sk, ws, o, at' + 64, 0, none, false, 0, 0, 0, false⟩ := by
        unfold State.emitted
        rw [bitsOf_x, emitKind_eq]
        rfl
      rw [pkt]
      exact emit_went rfl rfl true cycles cn
  case gate =>
    intro p ga cmd wide need base T low
    have goes : exec cmd s = .next (gateRun o i (gateOfs op ga) (gateList op ga) u) := gate_runs h ho
    have len : (gateList op ga).length = need := gateList_length ho ga
    refine ⟨fun hp => ?_, fun hp he => ?_, fun hp he hl => ?_, fun hp he hl hb => ?_⟩
    · exact goes.trans (congrArg _ (gateRun_foreign hp))
    · exact goes.trans (congrArg _ (gateRun_full hp (by rw [len]; exact he)))
    · exact goes.trans (congrArg _ (gateRun_waits hp (by rw [len]; exact he) hl))
    · have run := gateRun_schedules (s := u) (ofs := gateOfs op ga) (edges := gateList op ga) hp (by rw [len]; exact he) hl hb
      rw [goff_eq] at run
      rw [goes, run]
      exact congrArg (fun x : State => Host.Outcome.next (x.retire o 1)) (schedules_gateList p T ho ga)
  case event =>
    subst ho
    have goes := execEvent_goes h
    refine ⟨fun full => goes.trans (congrArg _ (if_pos full)), fun room => ?_⟩
    rw [if_neg (Nat.not_le.2 room)] at goes
    exact ⟨_, goes, issued.retire 1⟩
  case edge =>
    intro t
    refine ⟨fun hT => ?_, fun hT => ?_⟩
    · rw [show t = _ from schedule_ahead hoff hbon hT]
      exact ⟨addEdge_edges .., .setPin (by decide) .refl⟩
    · rw [show t = _ from schedule_late hoff hbon hT]
      exact ⟨addEdge_edges .., count_self .., .setPin (by decide) (.setF (by simp) .refl)⟩
  case edges => rw [placed_pin]
  case level => rw [placed_pin]
end

section
/-!
Transactions and locks of every owner (R278, R319, R322, R326 to R330, R342, R343).
-/
open Sys2Proof Sys2Proof.Machine
namespace Sys2Proof.Machine

variable {s t u : State} {w n k cause v : Nat} {y : Fld} {r : Bool}

/-! ## Transactions -/

/-- The first free slot (R319). -/
def State.freeTxnSlot (s : State) : Option Nat := (List.range 256).find? fun t => s.f (fCPR_TXN_OWN_STATE t) == 0

/-- Slot `k` opened for owner `w` (R319). -/
def State.opened (s : State) (w k : Nat) : State :=
  (((((s.setF (fCPR_TXN_OWN_STATE k) 1).setF (fCPR_TXN_OWN_DOOM k) 0).setF (fCPR_TXN_OWN_OWNER k) w).setTxnWs k []).count
    fCPR_TXN_STATUS_OPEN 1).qOpen w true

theorem txnBegin_refused (h : s.txnSlot w ≠ none ∨ s.freeTxnSlot = none) : s.txnBegin w = (false, s) := by
  unfold State.txnBegin
  unfold State.freeTxnSlot at h
  rcases h with h | h
  · obtain ⟨j, hj⟩ := Option.ne_none_iff_exists'.1 h
    rw [hj]
  · rw [h]
    cases s.txnSlot w <;> rfl

theorem txnBegin_opens (h : s.txnSlot w = none) (hk : s.freeTxnSlot = some k) : s.txnBegin w = (true, s.opened w k) := by
  unfold State.txnBegin
  unfold State.freeTxnSlot at hk
  rw [h, hk]
  rfl

theorem f_qOpen (h : 0x00304000 ≤ y.addr) (hlo : y.lo < 32) (w : Nat) (b : Bool) : (s.qOpen w b).f y = s.f y := by
  unfold State.qOpen
  split
  · exact (f_setF ..).trans (if_neg (by simp only [fldKey, fCXL_Q_STATUS_TXN_OPEN]; omega))
  · rfl

theorem Only.qOpen {fs : List Fld} {ps : List Part} {b : Bool} (hx : fCXL_Q_STATUS_TXN_OPEN w ∈ fs) (h : Only fs ps s t) :
    Only fs ps s (t.qOpen w b) := .ite (.setF hx h) h

theorem Only.setTxnWs {fs : List Fld} {ps : List Part} {ws : List WsWord} (hp : Part.th ∈ ps) (hx : fCPR_TXN_CNT_WRITES k ∈ fs)
    (h : Only fs ps s t) : Only fs ps s (t.setTxnWs k ws) :=
  .setF hx (h.touch [.th] (by decide) (List.forall_mem_singleton.2 hp) (.upd_19 (m := 524288) .refl .refl))

theorem f_setTxnWs (ws : List WsWord) (h : fldKey y ≠ fldKey (fCPR_TXN_CNT_WRITES k)) : (s.setTxnWs k ws).f y = s.f y :=
  (f_setF ..).trans (if_neg h)

theorem txnWs_setTxnWs (ws : List WsWord) : (s.setTxnWs k ws).txnWs k = ws := (smGet_smSet ..).trans (if_pos rfl)

theorem qOpen_th (b : Bool) : (s.qOpen w b).th = s.th := by
  unfold State.qOpen
  split <;> rfl

/-- The fields of a slot are four. -/
theorem txn_keys (k : Nat) : fldKey (fCPR_TXN_OWN_STATE k) ≠ fldKey (fCPR_TXN_OWN_DOOM k) ∧
    fldKey (fCPR_TXN_OWN_STATE k) ≠ fldKey (fCPR_TXN_OWN_OWNER k) ∧ fldKey (fCPR_TXN_OWN_DOOM k) ≠ fldKey (fCPR_TXN_OWN_OWNER k) ∧
    fldKey (fCPR_TXN_OWN_STATE k) ≠ fldKey (fCPR_TXN_CNT_WRITES k) ∧ fldKey (fCPR_TXN_OWN_DOOM k) ≠ fldKey (fCPR_TXN_CNT_WRITES k) ∧
    fldKey (fCPR_TXN_OWN_OWNER k) ≠ fldKey (fCPR_TXN_CNT_WRITES k) := by
  simp only [fldKey, fCPR_TXN_OWN_STATE, fCPR_TXN_OWN_DOOM, fCPR_TXN_OWN_OWNER, fCPR_TXN_CNT_WRITES]
  omega

/-- A field beyond TXN_STATUS. -/
def pastTxnStatus (y : Fld) : Prop := 0x00402000 ≤ y.addr ∧ y.lo < 32

/-- The slots lie beyond TXN_STATUS. -/
theorem txn_places (k : Nat) : pastTxnStatus (fCPR_TXN_OWN_STATE k) ∧ pastTxnStatus (fCPR_TXN_OWN_DOOM k) ∧
    pastTxnStatus (fCPR_TXN_OWN_OWNER k) ∧ pastTxnStatus (fCPR_TXN_CNT_WRITES k) := by
  simp only [pastTxnStatus, fCPR_TXN_OWN_STATE, fCPR_TXN_OWN_DOOM, fCPR_TXN_OWN_OWNER, fCPR_TXN_CNT_WRITES]
  omega

theorem status_ne (h : pastTxnStatus y) : fldKey y ≠ fldKey fCPR_TXN_STATUS_OPEN ∧ fldKey y ≠ fldKey fCPR_TXN_STATUS_FREE := by
  unfold pastTxnStatus at h
  simp only [fldKey, fCPR_TXN_STATUS_OPEN, fCPR_TXN_STATUS_FREE]
  omega

theorem f_qOpen_past (h : pastTxnStatus y) (w : Nat) (b : Bool) : (s.qOpen w b).f y = s.f y :=
  f_qOpen (Nat.le_trans (by decide) h.1) h.2 w b

theorem opened_f (h : pastTxnStatus y) : (s.opened w k).f y =
    ((((s.setF (fCPR_TXN_OWN_STATE k) 1).setF (fCPR_TXN_OWN_DOOM k) 0).setF (fCPR_TXN_OWN_OWNER k) w).setTxnWs k []).f y := by
  unfold State.opened
  rw [f_qOpen_past h, f_count, if_neg (status_ne h).1]

theorem opened_shows (hw : w ≤ 0x440) : (s.opened w k).f (fCPR_TXN_OWN_STATE k) = 1 ∧ (s.opened w k).f (fCPR_TXN_OWN_OWNER k) = w ∧
    (s.opened w k).f (fCPR_TXN_OWN_DOOM k) = 0 ∧ (s.opened w k).f (fCPR_TXN_CNT_WRITES k) = 0 ∧ (s.opened w k).txnWs k = [] := by
  obtain ⟨sd, so, d, sw, dw, ow⟩ := txn_keys k
  obtain ⟨ps, pd, po, pw⟩ := txn_places k
  refine ⟨?_, ?_, ?_, ?_, ?_⟩
  · rw [opened_f ps, f_setTxnWs _ sw, f_setF, if_neg so, f_setF, if_neg sd, f_setF, if_pos rfl]
    rfl
  · rw [opened_f po, f_setTxnWs _ ow, f_setF, if_pos rfl]
    exact Nat.mod_eq_of_lt (show w < 2 ^ 11 by omega)
  · rw [opened_f pd, f_setTxnWs _ dw, f_setF, if_neg d, f_setF, if_pos rfl]
    rfl
  · rw [opened_f pw]
    exact (f_setF ..).trans (if_pos rfl)
  · unfold State.opened State.txnWs
    rw [qOpen_th]
    exact txnWs_setTxnWs []

theorem opened_only : Only [fCPR_TXN_OWN_STATE k, fCPR_TXN_OWN_OWNER k, fCPR_TXN_OWN_DOOM k, fCPR_TXN_CNT_WRITES k, fCPR_TXN_STATUS_OPEN,
    fCXL_Q_STATUS_TXN_OPEN w] [.th] s (s.opened w k) :=
  .qOpen (by simp) (.setF (by simp) (.setTxnWs (by simp) (by simp) (.setF (by simp) (.setF (by simp) (.setF (by simp) .refl)))))

theorem txnSlot_none (h : s.txnSlot w = none) : s.txnAbort w = s ∧ ∀ g, s.txnCommit w g = (none, s) := by
  refine ⟨?_, fun g => ?_⟩
  · unfold State.txnAbort
    rw [h]
  · unfold State.txnCommit
    rw [h]

theorem txnClose_state (k : Nat) : (s.txnClose k).f (fCPR_TXN_OWN_STATE k) = 0 := by
  obtain ⟨sd, so, _, sw, _, _⟩ := txn_keys k
  obtain ⟨ps, _, _, _⟩ := txn_places k
  unfold State.txnClose
  rw [f_qOpen_past ps, f_setF, if_neg (status_ne ps).1, f_setTxnWs _ sw, f_setF, if_neg so, f_setF, if_neg sd, f_setF, if_pos rfl]
  rfl

theorem txnClose_free (k : Nat) : (s.txnClose k).f fCPR_TXN_STATUS_FREE = s.f fCPR_TXN_STATUS_FREE := by
  obtain ⟨ps, pd, po, pw⟩ := txn_places k
  unfold State.txnClose
  rw [f_qOpen (by decide) (by decide), f_setF, if_neg (by decide), f_setTxnWs _ (status_ne pw).2.symm, f_setF, if_neg (status_ne po).2.symm,
    f_setF, if_neg (status_ne pd).2.symm, f_setF, if_neg (status_ne ps).2.symm]

theorem txnAbort_closes (h : s.txnSlot w = some k) : s.txnAbort w = (s.txnClose k).freeShadow (s.txnWs k).length := by
  unfold State.txnAbort
  rw [h]

theorem txnAbort_shows (h : s.txnSlot w = some k) : (s.txnAbort w).f (fCPR_TXN_OWN_STATE k) = 0 ∧
    (s.txnAbort w).f fCPR_TXN_STATUS_FREE = (s.f fCPR_TXN_STATUS_FREE + (s.txnWs k).length) % 2 ^ 19 := by
  rw [txnAbort_closes h]
  unfold State.freeShadow
  rw [f_setF, if_neg (status_ne (txn_places k).1).2, f_setF, if_pos rfl, txnClose_free]
  exact ⟨txnClose_state k, rfl⟩

/-- The result code of a commit whose transaction is doomed (R342). -/
def doomCode : Nat → Nat
  | 1 => 11
  | 2 => 12
  | _ => 0

/-- Owner `w`'s newest commit is `cs`, and the locks that wait for none stand at it (R328). -/
def State.standAt (s : State) (w cs : Nat) : State :=
  let u := { s with th := { s.th with cseq := smSet (fun _ => 0) s.th.cseq w cs } }
  (u.heldLocks w).foldl (fun s n => if (s.lk n).point.isNone then s.setLk n { s.lk n with point := some cs } else s) u

theorem txnCommit_gives (h : s.txnSlot w = some k) (g : Nat) : s.txnCommit w g =
    (some ⟨w, (smGet (fun _ => 0) s.th.cseq w + 1) % 4096, g, s.txnWs k, doomCode (s.f (fCPR_TXN_OWN_DOOM k)), 0, false⟩,
      (s.txnClose k).standAt w ((smGet (fun _ => 0) s.th.cseq w + 1) % 4096)) := by
  unfold State.txnCommit State.standAt
  rw [h]
  rfl

theorem f_standAt (w cs : Nat) : (s.standAt w cs).f y = s.f y := by
  have base : Calm y s { s with th := { s.th with cseq := smSet (fun _ => 0) s.th.cseq w cs } } := .same rfl rfl
  unfold State.standAt
  refine (base.trans (Calm.foldl _ _ (fun s n _ => ?_) _)).1
  exact Calm.ite (.same rfl rfl) .refl

/-! ## Locks -/

theorem holds_iff : s.holds w n = true ↔ s.f (fCPR_LOCK_STATUS n) = 3 ∧ s.f (fCPR_LOCK_OWNER n) = w ∧ s.on (fCPR_LOCK_ORPHAN n) = false := by
  unfold State.holds
  rw [Bool.and_eq_true, Bool.and_eq_true, beq_iff_eq, beq_iff_eq, Bool.not_eq_true', and_assoc]

theorem Only.setLk {fs : List Fld} {ps : List Part} {x : LockSt} (hp : Part.th ∈ ps) (h : Only fs ps s t) : Only fs ps s (t.setLk n x) :=
  h.touch [.th] (by decide) (List.forall_mem_singleton.2 hp) (.setLk (m := 524288) .refl .refl)

/-- The fields of a lock. -/
def lockFld (n lo w : Nat) : Fld := ⟨0x00404000 + 0x4 * n, lo, w⟩

theorem lockFld_ne {lo lo' w w' : Nat} (h : lo ≠ lo') : fldKey (lockFld n lo w) ≠ fldKey (lockFld n lo' w') := by
  simp only [fldKey, lockFld]
  omega

theorem lockFld_apart {lo : Nat} (hn : n < 1024) (hlo : lo < 32) : apart (lockFld n lo w) = true := by
  have a : (lockFld n lo w).addr = 0x00404000 + 0x4 * n := rfl
  have b : (lockFld n lo w).lo = lo := rfl
  simp only [apart, Bool.and_eq_true, decide_eq_true_eq]
  omega

/-- Lock `n` in the hand of `w` (R326). -/
def State.lockTaken (s : State) (w n : Nat) : State :=
  (((s.setF (fCPR_LOCK_STATUS n) 3).setF (fCPR_LOCK_OWNER n) w).setF (fCPR_LOCK_ORPHAN n) 0).setLk n ⟨none, none, 0⟩

theorem lockTake_held (h : s.f (fCPR_LOCK_STATUS n) = 3) :
    s.lockTake w n = if s.holds w n then (0, true, s) else (3, false, s) := if_pos h

theorem lockTake_takes (h : s.f (fCPR_LOCK_STATUS n) ≠ 3) : s.lockTake w n = (s.f (fCPR_LOCK_STATUS n), true, s.lockTaken w n) := if_neg h

theorem lockTaken_shows (hw : w ≤ 0x440) : (s.lockTaken w n).f (fCPR_LOCK_STATUS n) = 3 ∧ (s.lockTaken w n).f (fCPR_LOCK_OWNER n) = w ∧
    (s.lockTaken w n).f (fCPR_LOCK_ORPHAN n) = 0 := by
  have so : fldKey (fCPR_LOCK_STATUS n) ≠ fldKey (fCPR_LOCK_OWNER n) := lockFld_ne (by decide)
  have sp : fldKey (fCPR_LOCK_STATUS n) ≠ fldKey (fCPR_LOCK_ORPHAN n) := lockFld_ne (by decide)
  have op : fldKey (fCPR_LOCK_OWNER n) ≠ fldKey (fCPR_LOCK_ORPHAN n) := lockFld_ne (by decide)
  unfold State.lockTaken
  refine ⟨?_, ?_, ?_⟩
  · rw [f_setLk, f_setF, if_neg sp, f_setF, if_neg so, f_setF, if_pos rfl]
    rfl
  · rw [f_setLk, f_setF, if_neg op, f_setF, if_pos rfl]
    exact Nat.mod_eq_of_lt (show w < 2 ^ 11 by omega)
  · rw [f_setLk, f_setF, if_pos rfl]
    rfl

theorem lockTaken_only : Only [fCPR_LOCK_STATUS n, fCPR_LOCK_OWNER n, fCPR_LOCK_ORPHAN n] [.th] s (s.lockTaken w n) :=
  .setLk (by simp) (.setF (by simp) (.setF (by simp) (.setF (by simp) .refl)))

theorem lockFree_frees (h : s.holds w n = true) :
    s.lockFree w n = (true, (s.setF (fCPR_LOCK_STATUS n) 0).setLk n ⟨none, none, 0⟩) := if_pos h

theorem lockFree_other (h : ¬ s.holds w n = true) : s.lockFree w n = (false, s) := if_neg h

/-- A lock as its broken holder leaves it, before the event and the fault (R329). -/
def State.lockLeft (s : State) (n st refused cseq : Nat) : State :=
  if st = 2 then ((((s.setF (fCPR_LOCK_STATUS n) st).setF (fCPR_LOCK_ORPHAN n) 0).setLk n ⟨none, none, 0⟩).setF (fCPR_LOCK_REFUSED n)
    refused).setF (fCPR_LOCK_CSEQ n) cseq else ((s.setF (fCPR_LOCK_STATUS n) st).setF (fCPR_LOCK_ORPHAN n) 0).setLk n ⟨none, none, 0⟩

theorem lockBroken_f (h : apart y = true) (n st refused cseq : Nat) :
    (s.lockBroken n st refused cseq).f y = (s.lockLeft n st refused cseq).f y := by
  unfold State.lockBroken State.lockLeft
  dsimp only
  by_cases hc : (s.lk n).cause = 2
  · rw [if_pos hc]
    rfl
  · rw [if_neg hc, f_fault _ h]
    rfl

section
variable (hn : n < 1024)
include hn

theorem lockBroken_freed : (s.lockBroken n 1 0 0).f (fCPR_LOCK_STATUS n) = 1 ∧ (s.lockBroken n 1 0 0).f (fCPR_LOCK_ORPHAN n) = 0 := by
  have sp : fldKey (fCPR_LOCK_STATUS n) ≠ fldKey (fCPR_LOCK_ORPHAN n) := lockFld_ne (by decide)
  have as : apart (fCPR_LOCK_STATUS n) = true := lockFld_apart hn (by decide)
  have ap : apart (fCPR_LOCK_ORPHAN n) = true := lockFld_apart hn (by decide)
  rw [lockBroken_f as, lockBroken_f ap]
  unfold State.lockLeft
  rw [if_neg (by decide), f_setLk, f_setLk, f_setF, if_neg sp, f_setF, if_pos rfl, f_setF, if_pos rfl]
  exact ⟨rfl, rfl⟩

theorem lockBroken_known (cs : Nat) : (s.lockBroken n 2 (b2n r) cs).f (fCPR_LOCK_STATUS n) = 2 ∧
    (s.lockBroken n 2 (b2n r) cs).f (fCPR_LOCK_REFUSED n) = b2n r ∧ (s.lockBroken n 2 (b2n r) cs).f (fCPR_LOCK_CSEQ n) = cs % 2 ^ 12 := by
  have sp : fldKey (fCPR_LOCK_STATUS n) ≠ fldKey (fCPR_LOCK_ORPHAN n) := lockFld_ne (by decide)
  have sr : fldKey (fCPR_LOCK_STATUS n) ≠ fldKey (fCPR_LOCK_REFUSED n) := lockFld_ne (by decide)
  have sc : fldKey (fCPR_LOCK_STATUS n) ≠ fldKey (fCPR_LOCK_CSEQ n) := lockFld_ne (by decide)
  have rc : fldKey (fCPR_LOCK_REFUSED n) ≠ fldKey (fCPR_LOCK_CSEQ n) := lockFld_ne (by decide)
  have as : apart (fCPR_LOCK_STATUS n) = true := lockFld_apart hn (by decide)
  have ar : apart (fCPR_LOCK_REFUSED n) = true := lockFld_apart hn (by decide)
  have ac : apart (fCPR_LOCK_CSEQ n) = true := lockFld_apart hn (by decide)
  rw [lockBroken_f as, lockBroken_f ar, lockBroken_f ac]
  unfold State.lockLeft
  rw [if_pos rfl]
  refine ⟨?_, ?_, ?_⟩
  · rw [f_setF, if_neg sc, f_setF, if_neg sr, f_setLk, f_setF, if_neg sp, f_setF, if_pos rfl]
    rfl
  · rw [f_setF, if_neg rc, f_setF, if_pos rfl]
    cases r <;> rfl
  · rw [f_setF, if_pos rfl]
    rfl

theorem lockFail_free (hp : (s.lk n).point = none) (cause : Nat) :
    (s.lockFail n cause).f (fCPR_LOCK_STATUS n) = 1 ∧ (s.lockFail n cause).f (fCPR_LOCK_ORPHAN n) = 0 := by
  unfold State.lockFail
  dsimp only
  rw [hp]
  exact lockBroken_freed hn

theorem lockFail_known {cs : Nat} (hp : (s.lk n).point = some cs) (hr : (s.lk n).result = some r) (cause : Nat) :
    (s.lockFail n cause).f (fCPR_LOCK_STATUS n) = 2 ∧ (s.lockFail n cause).f (fCPR_LOCK_REFUSED n) = b2n r ∧
      (s.lockFail n cause).f (fCPR_LOCK_CSEQ n) = cs % 2 ^ 12 := by
  unfold State.lockFail
  dsimp only
  rw [hp]
  dsimp only
  rw [hr]
  exact lockBroken_known hn cs

end

theorem lockFail_waits {cs : Nat} (hp : (s.lk n).point = some cs) (hr : (s.lk n).result = none) (cause : Nat) :
    (s.lockFail n cause).f (fCPR_LOCK_STATUS n) = s.f (fCPR_LOCK_STATUS n) ∧ (s.lockFail n cause).f (fCPR_LOCK_ORPHAN n) = 1 := by
  have sp : fldKey (fCPR_LOCK_STATUS n) ≠ fldKey (fCPR_LOCK_ORPHAN n) := lockFld_ne (by decide)
  unfold State.lockFail
  dsimp only
  rw [hp]
  dsimp only
  rw [hr]
  dsimp only
  rw [f_setF, if_neg sp, f_setF, if_pos rfl]
  exact ⟨rfl, rfl⟩

theorem execLockBreak_goes {req : Req} {data : Word} (ht : s.takesWrite req fCPR_LOCK_BREAK_LOCK.addr = true)
    (hj : s.granted req fCPR_LOCK_BREAK_LOCK.addr data.toNat) :
    exec (.lockBreak req data) s = .next (s.lockBreak (data.toNat % 1024)).wakeBanks := by
  rw [exec_lockBreak]
  unfold execLockBreak
  rw [rowWrite_of s rfl, write_CPR_LOCK_BREAK ht data.isLt hj, writeHost_CPR_LOCK_BREAK]

/-! ## The management port -/

theorem mpResult_shows (flag : Bool) (value : Nat) : (s.mpResult flag value).wakeBanks.f fCPR_MP_RESULT_FLAG = b2n flag ∧
    (s.mpResult flag value).wakeBanks.f fCPR_MP_RESULT_VALUE = value % 2 ^ 12 := by
  rw [f_wakeBanks _ (by decide), f_wakeBanks _ (by decide)]
  unfold State.mpResult
  rw [f_setF, if_neg (by decide), f_setOn, if_pos rfl, f_setF, if_pos rfl]
  exact ⟨by cases flag <;> rfl, rfl⟩

theorem mp_writes {data : Word} {ok : Bool} (ht : s.takesWrite .mp fCPR_MP_OP_OP.addr = true) (h : ok = true) :
    s.rowWrite ok .mp fCPR_MP_OP_OP data = .next (s.mpOp data.toNat).wakeBanks := by
  rw [rowWrite_of s h, write_CPR_MP_OP ht data.isLt, writeHost_CPR_MP_OP, if_pos rfl]

/-- MP_OP with the group and the lock it names. -/
def State.mpNamed (s : State) (v : Nat) : State := (s.setF fCPR_MP_OP_GROUP (v / 2 ^ 10 % 16)).setF fCPR_MP_OP_LOCK (v % 2 ^ 10)

theorem mpOp_tbegin (h : v / 2 ^ 28 = 1) :
    s.mpOp v = ((s.mpNamed v).txnBegin 512).2.mpResult ((s.mpNamed v).txnBegin 512).1 0 := by
  unfold State.mpOp
  rw [h]
  rfl

theorem mpOp_commit {x : State} {r : Option Commit} (h : v / 2 ^ 28 = 2)
    (hc : (s.mpNamed v).txnCommit 512 (v / 2 ^ 10 % 16) = (r, x)) : s.mpOp v = match r with
      | none => x.mpResult false 0
      | some c => { x with transit := x.transit ++ [c] }.mpResult true c.cseq := by
  unfold State.mpNamed at hc
  unfold State.mpOp
  rw [h, show bitsOf v 13 10 = v / 2 ^ 10 % 16 from rfl]
  dsimp only
  rw [hc]
  cases r <;> rfl

theorem mpOp_abort (h : v / 2 ^ 28 = 3) : s.mpOp v = ((s.mpNamed v).txnAbort 512).mpResult false 0 := by
  unfold State.mpOp
  rw [h]
  rfl

theorem mpOp_lock (h : v / 2 ^ 28 = 4) : s.mpOp v = ((s.mpNamed v).lockTake 512 (v % 2 ^ 10)).2.2.mpResult
    ((s.mpNamed v).lockTake 512 (v % 2 ^ 10)).2.1 ((s.mpNamed v).lockTake 512 (v % 2 ^ 10)).1 := by
  unfold State.mpOp
  rw [h]
  rfl

theorem mpOp_unlock (h : v / 2 ^ 28 = 5) :
    s.mpOp v = ((s.mpNamed v).lockFree 512 (v % 2 ^ 10)).2.mpResult ((s.mpNamed v).lockFree 512 (v % 2 ^ 10)).1 0 := by
  unfold State.mpOp
  rw [h]
  rfl

/-- A request of the management port answered: its result stands in MP_RESULT. -/
theorem mp_answers {c : Instr} {data : Word} {ok : Bool} {x : State} {flag : Bool} {value : Nat}
    (hc : exec c s = s.rowWrite ok .mp fCPR_MP_OP_OP data) (ht : s.takesWrite .mp fCPR_MP_OP_OP.addr = true) (hok : ok = true)
    (h : s.mpOp data.toNat = x.mpResult flag value) : ∃ t, exec c s = .next t ∧ t = (x.mpResult flag value).wakeBanks ∧
      t.f fCPR_MP_RESULT_FLAG = b2n flag ∧ t.f fCPR_MP_RESULT_VALUE = value % 2 ^ 12 :=
  ⟨_, by rw [hc, mp_writes ht hok, h], rfl, mpResult_shows flag value⟩

end Sys2Proof.Machine

/-- Settles O20, by what each operation on a slot or a lock leaves of its fields. -/
theorem transactionsAndLocksOfAnOwner : Obligations.TransactionsAndLocksOfAnOwner := by
  intro s
  refine ⟨fun w hw => ?txn, fun w n hw hn => ?lock, fun data ht => ?port, exec_mpTargetReset _, fun n cause hn hcause => ?fail,
    fun r rest hr => ?report, fun req data ht hj => ?broken⟩
  case txn =>
    intro free
    refine ⟨txnBegin_refused, fun k hs hf => ⟨_, txnBegin_opens hs hf, ?_⟩, txnSlot_none, fun k hs => ?_⟩
    · obtain ⟨state, owner, doom, writes, ws⟩ := opened_shows (s := s) (k := k) hw
      exact ⟨state, owner, doom, writes, ws, opened_only⟩
    · obtain ⟨state, kept⟩ := txnAbort_shows hs
      exact ⟨state, kept, fun g => ⟨_, txnCommit_gives hs g, (f_standAt ..).trans (txnClose_state k), (f_standAt ..).trans (txnClose_free k)⟩⟩
  case lock =>
    intro st mine
    have held : s.holds w n = true ↔ mine := holds_iff
    refine ⟨fun hm => ?_, fun h3 hm => ?_, fun h3 => ⟨_, lockTake_takes h3, ?_⟩,
      fun hm => ⟨_, lockFree_frees (held.2 hm), ?_⟩, fun hm => ?_⟩
    · rw [lockTake_held hm.1, if_pos (held.2 hm)]
    · rw [lockTake_held h3, if_neg (mt held.1 hm)]
    · obtain ⟨status, owner, orphan⟩ := lockTaken_shows (s := s) (n := n) hw
      exact ⟨status, owner, orphan, lockTaken_only⟩
    · exact ⟨(f_setF ..).trans (if_pos rfl), .setLk (by decide) (.setF (by simp) .refl)⟩
    · exact lockFree_other (mt held.1 hm)
  case port =>
    intro v g n u done
    refine ⟨fun h => ?_, fun h => ⟨fun x hc => ?_, fun c x hc => ?_⟩, fun h => ?_, fun h => ?_, fun h => ?_⟩
    · exact mp_answers (exec_mpTbegin s) ht (beq_iff_eq.2 h) (mpOp_tbegin h)
    · exact mp_answers (exec_mpCommit s) ht (beq_iff_eq.2 h) (mpOp_commit h hc)
    · exact mp_answers (exec_mpCommit s) ht (beq_iff_eq.2 h) (mpOp_commit h hc)
    · exact mp_answers (exec_mpAbort s) ht (beq_iff_eq.2 h) (mpOp_abort h)
    · exact mp_answers (exec_mpLock s) ht (beq_iff_eq.2 h) (mpOp_lock h)
    · exact mp_answers (exec_mpUnlock s) ht (beq_iff_eq.2 h) (mpOp_unlock h)
  case fail =>
    intro l t
    exact ⟨fun hp => lockFail_free hn hp cause, fun cs hp hr => lockFail_waits hp hr cause, fun cs r hp hr => lockFail_known hn hp hr cause⟩
  case report =>
    rw [exec_commitResultReport]
    unfold execCommitResultReport
    rw [hr]
  case broken =>
    intro n
    have goes := execLockBreak_goes ht hj
    refine ⟨fun h3 => goes.trans (congrArg (fun x : State => Host.Outcome.next x.wakeBanks) (if_pos (.inl h3))), fun h3 ho => ?_⟩
    intro u
    refine goes.trans (congrArg (fun x : State => Host.Outcome.next x.wakeBanks) ?_)
    exact if_neg (by rintro (h | h); exacts [h h3, by rw [ho] at h; cases h])
end

section
/-!
Transaction and lock instructions, LDX and STX, core control and the windows to a core's memories (R265, R278, R282, R287, R299, R303, R305).
-/
open Sys2Proof Sys2Proof.Machine
namespace Sys2Proof.Machine

variable {s t u : State} {o op a v k n d ga : Nat} {i : Ins} {y : Fld} {req : Req} {data : Word} {isData : Bool}

/-! ## Transaction and lock instructions (R278, R282) -/

theorem issuing_short (ho : op ≠ 0x0E) : s.issuing o op = s.setCore o { s.core o with len := 4 } := by
  unfold State.issuing
  rw [if_neg ho]

/-- The instructions of R278 with their commands. -/
def txnCmds (o : Nat) : List (Nat × Instr) :=
  [(0x38, .tbegin o), (0x39, .commit o), (0x3A, .abort o), (0x3B, .lock o), (0x3C, .unlock o)]

theorem txn_issues {cmd : Instr} (h : s.issues o op i) (hc : (op, cmd) ∈ txnCmds o) : exec cmd s = .next (txnIssue o i (s.issuing o op)) := by
  simp only [txnCmds, List.mem_cons, Prod.mk.injEq, List.not_mem_nil, or_false] at hc
  rcases hc with ⟨e, rfl⟩ | ⟨e, rfl⟩ | ⟨e, rfl⟩ | ⟨e, rfl⟩ | ⟨e, rfl⟩
  · exact runs_issuing (exec_tbegin s) h (beq_iff_eq.2 e)
  · exact runs_issuing (exec_commit s) h (beq_iff_eq.2 e)
  · exact runs_issuing (exec_abort s) h (beq_iff_eq.2 e)
  · exact runs_issuing (exec_lock s) h (beq_iff_eq.2 e)
  · exact runs_issuing (exec_unlock s) h (beq_iff_eq.2 e)

theorem txnCmds_ge {cmd : Instr} (hc : (op, cmd) ∈ txnCmds o) : 0x38 ≤ op := by
  simp only [txnCmds, List.mem_cons, Prod.mk.injEq, List.not_mem_nil, or_false] at hc
  omega

theorem txnIssue_acts (ho : isTR o = false) : txnIssue o i u = txnRun o i.op i.d (u.gw o i.a).toNat i.xn u := by
  unfold txnIssue
  rw [ho]
  exact (if_neg (by rintro ⟨_, h, _⟩; cases h)).trans (if_neg Bool.false_ne_true)

theorem txnIssue_foreign (ho : isTR o = true) (hop : i.op = 0x39) (hg : (u.gw o i.a).toNat % 16 ≠ u.coreGroup o) :
    txnIssue o i u = u.coreFault o 6 := if_pos ⟨hop, ho, hg⟩

theorem txnIssue_trips (ho : isTR o = true) (h : i.op ≠ 0x39 ∨ (u.gw o i.a).toNat % 16 = u.coreGroup o) :
    txnIssue o i u = u.setCore o { u.core o with act := .trip i.op i.d (u.gw o i.a).toNat i.xn } :=
  (if_neg (by rintro ⟨e, _, g⟩; exact h.elim (· e) g)).trans (if_pos ho)

/-- What a command processor's transaction or lock instruction does. -/
theorem txn_acts {cmd : Instr} (h : s.issues o op i) (hc : (op, cmd) ∈ txnCmds o) (ho : isTR o = false) : exec cmd s =
    .next (txnRun o op i.d (s.gw o i.a).toNat (i.w % 8) (s.issuing o op)) := by
  have hop := txnCmds_ge hc
  rw [txn_issues h hc, txnIssue_acts ho, issues_op_short h (by omega), xn_eq, State.issuing, issued_gw]

theorem commitRun_waits (hw : s.owner o < 512) (ht : (s.txnSlot (s.owner o)).isSome = true) (hq : s.copiesOf (s.owner o) = true) :
    txnRun o 0x39 d ga n s = s := if_pos ⟨hw, ht, hq⟩

section
variable (hq : 512 ≤ s.owner o ∨ s.txnSlot (s.owner o) = none ∨ s.copiesOf (s.owner o) = false)
include hq

theorem copies_settled : ¬ (s.owner o < 512 ∧ (s.txnSlot (s.owner o)).isSome = true ∧ s.copiesOf (s.owner o) = true) := by
  rintro ⟨lt, open', busy⟩
  rcases hq with h | h | h
  · omega
  · rw [h] at open'
    cases open'
  · rw [h] at busy
    cases busy

theorem commitRun_none (hc : s.txnCommit (s.owner o) (ga % 16) = (none, t)) :
    txnRun o 0x39 d ga n s = ((t.setG o d 0).setFlag o n false).retire o 1 := by
  unfold txnRun
  dsimp only
  rw [if_neg (copies_settled hq), hc]
  rfl

theorem commitRun_some {c : Commit} (hc : s.txnCommit (s.owner o) (ga % 16) = (some c, t)) :
    txnRun o 0x39 d ga n s = (if (((t.commitFrom o c).setG o d (BitVec.ofNat 32 c.cseq)).setFlag o n true).f (fcState o) = 1 then
      (((t.commitFrom o c).setG o d (BitVec.ofNat 32 c.cseq)).setFlag o n true).retire o 1 else
      ((t.commitFrom o c).setG o d (BitVec.ofNat 32 c.cseq)).setFlag o n true) := by
  unfold txnRun
  dsimp only
  rw [if_neg (copies_settled hq), hc]
  rfl

end

/-- The requester of lock `k` takes it, or learns who stands in its way (R326). -/
def State.tookLock (s : State) (own o d n k : Nat) : State :=
  (((s.lockTake own k).2.2.setG o d (BitVec.ofNat 32 (s.lockTake own k).1)).setFlag o n (s.lockTake own k).2.1).retire o 1

section
variable {own : Nat} (hw : s.owner o = own)
include hw

theorem lockRun_held (h : s.f (fCPR_LOCK_STATUS k) = 3) : lockRun o d n k s = s.tookLock own o d n k := by
  unfold lockRun
  dsimp only
  rw [h, hw]
  rfl

theorem lockRun_free (h : s.f (fCPR_LOCK_STATUS k) ≠ 3) : lockRun o d n k s =
    if (s.lockRound own k).1 then (s.lockRound own k).2.tookLock own o d n k else (s.lockRound own k).2 := by
  unfold lockRun
  dsimp only
  rw [hw, if_pos (by rw [bne_iff_ne]; exact h)]
  obtain ⟨b, w⟩ := s.lockRound own k
  cases b <;> rfl

end

theorem lockRound_lost (h : (s.lockRound v k).1 = false) : (s.lockRound v k).2 = s := by
  unfold State.lockRound at h ⊢
  revert h
  split
  split
  · intro h
    cases h
  · exact fun _ => rfl

/-! ## LDX and STX (R265, R282) -/

/-- The opcode of an instruction in either of its forms (R257). -/
theorem issues_op_form {code : Nat} (h : s.issues o op i) (hc : code ≠ 0x0E) (e : op = code ∨ (op = 0x0E ∧ i.op = code)) : i.op = code := by
  rcases e with e | ⟨_, e⟩
  · rw [issues_op_short h (by omega), e]
  · exact e

theorem address_eq (h : s.issues o op i) (he : 0x10 ≤ i.op) : (s.issuing o op).address o i =
    (s.gw o i.a + if op = 0x0E then BitVec.ofNat 32 (i.long.getD 0) else BitVec.ofInt 32 (sInt 16 i.imm)).toNat := by
  have b : s.opB o i true = if op = 0x0E then BitVec.ofNat 32 (i.long.getD 0) else BitVec.ofInt 32 (sInt 16 i.imm) := by
    by_cases ho : op = 0x0E
    · rw [if_pos ho, opB_long (issues_isSome h ho)]
    · rw [if_neg ho, opB_signed, if_neg (by rw [issues_isSome_short h ho]; decide), if_neg (by omega)]
  unfold State.address State.issuing
  rw [issued_gw, issued_opB, b]

theorem xaddrBad_iff : xaddrBad o a = true ↔
    a % 4 ≠ 0 ∨ 0x04000000 ≤ a ∨ (isTR o = true ∧ (a < 0x01400000 ∨ (0x03400000 ≤ a ∧ a < 0x03800000))) := by
  unfold xaddrBad hostDie
  rw [Bool.or_eq_true, Bool.or_eq_true, Bool.and_eq_true, bne_iff_ne, decide_eq_true_iff, decide_eq_true_iff, or_assoc]

section
variable (ha : s.address o i = a)
include ha

theorem ldxRun_bad (hb : xaddrBad o a = true) : ldxRun o i s = s.coreFault o 4 := by
  unfold ldxRun
  dsimp only
  rw [ha, if_pos hb]

theorem stxRun_bad (hb : xaddrBad o a = true) : stxRun o i s = s.coreFault o 4 := by
  unfold stxRun
  dsimp only
  rw [ha, if_pos hb]

variable (hb : ¬ xaddrBad o a = true)
include hb

theorem ldxRun_trips (ho : isTC o = true) (h : 0x01E00000 ≤ a ∧ a < 0x03400000) :
    ldxRun o i s = s.setCore o { s.core o with act := .load i.d a } := by
  unfold ldxRun
  dsimp only
  rw [ha, if_neg hb]
  exact if_pos ⟨ho, decide_eq_true h⟩

theorem ldxRun_reads (h : ¬ (isTC o = true ∧ 0x01E00000 ≤ a ∧ a < 0x03400000)) : ldxRun o i s =
    ((s.busRead (.core o) a).2.setG o i.d (BitVec.ofNat 32 (s.busRead (.core o) a).1)).retire o (if isTR o then 20 else 1) := by
  unfold ldxRun
  dsimp only
  rw [ha, if_neg hb]
  exact if_neg (fun ⟨tc, raster⟩ => h ⟨tc, of_decide_eq_true raster⟩)

/-- A lower core writes the register in this cycle (R265). -/
def State.stxTaken (s : State) (o a : Nat) : Bool := s.lowerIssues o fun c j => j.op == 0x2B && s.address c j == a && !xaddrBad c a

theorem stxRun_waits (h : s.stxTaken o a = true) : stxRun o i s = s := by
  unfold stxRun
  dsimp only
  rw [ha, if_neg hb]
  exact if_pos h

theorem stxRun_writes (h : s.stxTaken o a = false) (hu : s.busWrite (.core o) a (s.gw o i.d).toNat = u) : stxRun o i s =
    if u.f (fcState o) = 1 ∧ (u.core o).pc = (s.core o).pc ∧ (u.core o).next = (s.core o).next then u.retire o 2 else u := by
  unfold stxRun
  dsimp only
  rw [ha, if_neg hb, hu]
  exact if_neg (by rw [show s.lowerIssues _ _ = _ from h]; decide)

end

theorem ldx_runs (h : s.issues o op i) (e : op = 0x2A ∨ (op = 0x0E ∧ i.op = 0x2A)) :
    exec (if op = 0x0E then .lForm o else .ldx o) s = .next (ldxRun o i (s.issuing o op)) := by
  rcases e with e | ⟨e, g⟩
  · rw [if_neg (by omega)]
    exact runs_issuing (exec_ldx s) h (beq_iff_eq.2 e)
  · rw [if_pos e]
    have goes := runs_issuing (exec_lForm s) h (beq_iff_eq.2 e)
    simp only [g] at goes
    exact goes

theorem stx_runs (h : s.issues o op i) (e : op = 0x2B ∨ (op = 0x0E ∧ i.op = 0x2B)) :
    exec (if op = 0x0E then .lForm o else .stx o) s = .next (stxRun o i (s.issuing o op)) := by
  rcases e with e | ⟨e, g⟩
  · rw [if_neg (by omega)]
    exact runs_issuing (exec_stx s) h (beq_iff_eq.2 e)
  · rw [if_pos e]
    have goes := runs_issuing (exec_lForm s) h (beq_iff_eq.2 e)
    simp only [g] at goes
    exact goes

/-! ## Start and stop (R287, R299) -/

/-- A core at its start (R287). -/
def State.started (s : State) (o : Nat) : State :=
  ((((s.setCore o { (s.core o).idle with stack := [], wdog := 0, pc := 4 * s.f (fcStartW o), next := cycleAfter o (s.clock o) 1 }).setF
    (fcPend o) 0).setF (fcPfv o) 0).setNoServe (o - 0x300) false).setCoreSt o 1

theorem coreStart_starts (hs : s.coreStopped o = true) (ht : s.on fDRV_PF_TRIPPED = false) (hf : s.on fFLT_STATUS_TERMINAL = false) :
    s.coreStart o = (s.started o).measuredIf o (isTR o) := by
  unfold State.coreStart
  rw [hs, ht, hf]
  rfl

theorem coreStart_refused (h : s.coreStopped o = false ∨ s.on fDRV_PF_TRIPPED = true ∨ s.on fFLT_STATUS_TERMINAL = true) :
    s.coreStart o = s := if_pos (by rw [Bool.not_eq_true]; exact h)

theorem f_setCoreSt {st : Nat} (h : fldKey y ≠ fldKey (fcState o)) : (s.setCoreSt o st).f y = s.f y := by
  unfold State.setCoreSt
  dsimp only
  split
  · rfl
  · exact (f_setF ..).trans (if_neg h)

theorem started_core : (s.started o).core o =
    { (s.core o).idle with stack := [], wdog := 0, pc := 4 * s.f (fcStartW o), next := cycleAfter o (s.clock o) 1 } :=
  (setCoreSt_core ..).trans ((core_setCore ..).trans (if_pos rfl))

theorem started_shows : (s.started o).f (fcState o) = 1 ∧ (s.started o).f (fcPend o) = 0 ∧ (s.started o).f (fcPfv o) = 0 := by
  have ps : fldKey (fcPend o) ≠ fldKey (fcState o) := by rw [fcPend_eq, fcState_eq]; exact coreFld_ne (by decide)
  have vs : fldKey (fcPfv o) ≠ fldKey (fcState o) := by rw [fcPfv_eq, fcState_eq]; exact coreFld_ne (by decide)
  have pv : fldKey (fcPend o) ≠ fldKey (fcPfv o) := by rw [fcPend_eq, fcPfv_eq]; exact coreFld_ne (by decide)
  unfold State.started
  rw [setCoreSt_state (by decide), f_setCoreSt ps, f_setCoreSt vs, f_setNoServe, f_setNoServe, f_setF, if_neg pv, f_setF, if_pos rfl, f_setF,
    if_pos rfl, Nat.zero_mod, Nat.zero_mod]
  exact ⟨rfl, rfl, rfl⟩

theorem coreStop_state : (s.coreStop o).f (fcState o) = 0 := by
  unfold State.coreStop
  exact setCoreSt_state (by decide)

/-! ## Writes of a core's registers (R299, R305) -/

theorem isTC_place (h : isTC o = true) : o - 0x300 < 8 ∧ 0x300 + (o - 0x300) = o := by
  have := of_decide_eq_true h
  omega

theorem isTR_place (h : isTR o = true) : o - 0x400 < 65 ∧ 0x400 + (o - 0x400) = o := by
  have := of_decide_eq_true h
  omega

/-- CTRL of a core. -/
def ctrlOf (o : Nat) : Fld := if isTR o then fSQR_CTRL_RUN (o - 0x400) else fCPR_CTRL_RUN (o - 0x300)

/-- The plain fields of a word of a core's register `r` or `q` written. -/
def State.corePut (s : State) (o : Nat) (x : Fld) (r q : RegRow) (v : Nat) : State :=
  s.putFields x.addr v (if isTR o then r else q).fields true (atBits [])

theorem ctrl_written (ho : isTR o = true ∨ isTC o = true) (ht : s.takesWrite req (ctrlOf o).addr = true) (hv : v < 2 ^ 32) :
    s.busWrite req (ctrlOf o).addr v =
      ((s.corePut o (ctrlOf o) regSQR_CTRL regCPR_CTRL v).coreCtrl o (bit v 0 == 1) (bit v 1 == 1)).wakeBanks := by
  unfold State.corePut
  unfold ctrlOf at ht ⊢
  by_cases tr : isTR o = true
  · obtain ⟨hi, ofs⟩ := isTR_place tr
    rw [if_pos tr] at ht ⊢
    rw [write_SQR_CTRL hi ht hv, writeRaster_SQR_CTRL, ofs, if_pos tr]
  · obtain ⟨hi, ofs⟩ := isTC_place (ho.resolve_left tr)
    rw [if_neg tr] at ht ⊢
    rw [write_CPR_CTRL hi ht hv, writeHost_CPR_CTRL, ofs, if_neg tr]

theorem mbox_written (ho : isTR o = true ∨ isTC o = true) (ht : s.takesWrite req (fcMbox o).addr = true) (hv : v < 2 ^ 32) :
    s.busWrite req (fcMbox o).addr v = ((s.corePut o (fcMbox o) regSQR_MBOX regCPR_MBOX v).occur o 7).wakeBanks := by
  unfold State.corePut
  unfold fcMbox at ht ⊢
  by_cases tr : isTR o = true
  · obtain ⟨hi, ofs⟩ := isTR_place tr
    rw [if_pos tr] at ht ⊢
    rw [write_SQR_MBOX hi ht hv, writeRaster_SQR_MBOX, ofs, if_pos tr]
  · obtain ⟨hi, ofs⟩ := isTC_place (ho.resolve_left tr)
    rw [if_neg tr] at ht ⊢
    rw [write_CPR_MBOX hi ht hv, writeHost_CPR_MBOX, ofs, if_neg tr]

theorem coreCtrl_run : s.coreCtrl o true false = s.coreStart o := rfl

theorem coreCtrl_stop (run : Bool) : s.coreCtrl o run true = if run then (s.coreStop o).coreStart o else s.coreStop o := by
  unfold State.coreCtrl
  rw [if_pos rfl]

theorem isCore_or (ho : isTR o = true ∨ isTC o = true) : (isTR o || isTC o) = true := by rw [Bool.or_eq_true]; exact ho

theorem execCoreRun_writes (ho : isTR o = true ∨ isTC o = true) (h0 : data.getLsbD 0 = true) :
    exec (.coreRun req o data) s = .next (s.busWrite req (ctrlOf o).addr data.toNat) := by
  rw [exec_coreRun]
  unfold execCoreRun
  rw [rowWrite_of s (by rw [isCore_or ho]; exact h0)]
  rfl

/-- STOP lies in the word of RUN. -/
theorem execCoreStop_writes (ho : isTR o = true ∨ isTC o = true) (h1 : data.getLsbD 1 = true) :
    exec (.coreStop req o data) s = .next (s.busWrite req (ctrlOf o).addr data.toNat) := by
  have same : (if isTR o then fSQR_CTRL_STOP (o - 0x400) else fCPR_CTRL_STOP (o - 0x300)).addr = (ctrlOf o).addr := by
    unfold ctrlOf
    split <;> rfl
  rw [exec_coreStop]
  unfold execCoreStop
  rw [rowWrite_of s (by rw [isCore_or ho]; exact h1), same]

theorem execMboxWrite_writes (ho : isTR o = true ∨ isTC o = true) :
    exec (.mboxWrite req o data) s = .next (s.busWrite req (fcMbox o).addr data.toNat) := by
  rw [exec_mboxWrite]
  unfold execMboxWrite
  rw [rowWrite_of s (isCore_or ho)]

theorem wbit_one {j : Nat} {b : Bool} (h : data.getLsbD j = b) : (bit data.toNat j == 1) = b := by
  rw [bit_toNat, h]
  cases b <;> rfl

/-! ## Windows (R303) -/

theorem window_place (h : s.window req a = some (isData, k, n)) :
    (0x00480000 ≤ a ∧ a < 0x00600000) ∨ (0x02900000 ≤ a ∧ a < 0x02914000) := by
  unfold State.window at h
  dsimp only at h
  by_contra hn
  rw [if_neg (by omega), if_neg (by omega), if_neg (by omega), if_neg (by omega)] at h
  cases h

theorem window_critOfs (h : (0x00480000 ≤ a ∧ a < 0x00600000) ∨ (0x02900000 ≤ a ∧ a < 0x02914000)) : critOfs a = false := by
  unfold critOfs
  rw [Bool.or_eq_false_iff, decide_eq_false_iff_not, List.any_eq_false]
  refine ⟨by omega, fun g hg => ?_⟩
  simp only [beq_iff_eq, fDRV_MODE_TECH]
  omega

theorem window_written (hw : s.window req a = some (isData, k, n)) (ht : s.takesWrite req a = true) (hv : v < 2 ^ 32) :
    s.busWrite req a v = (s.windowWrite a v (isData, k, n)).wakeBanks := by
  have place := window_place hw
  rw [busWrite_taken ht (by omega) hv (critBit_none (window_critOfs place))]
  unfold State.placeWrite
  rw [if_neg (by omega), if_neg (by omega), hw]

theorem execCoreMemWindowWrite_writes (hw : s.window req a = some (isData, k, n)) (h4 : a % 4 = 0) (ht : s.takesWrite req a = true) :
    exec (.coreMemWindowWrite req a data) s = .next (s.windowWrite a data.toNat (isData, k, n)).wakeBanks := by
  rw [exec_coreMemWindowWrite]
  unfold execCoreMemWindowWrite
  rw [rowWrite_of s (by rw [hw, h4]; rfl)]
  exact congrArg _ (window_written hw ht data.isLt)

theorem windowWrite_running (h : s.coreStopped k = false) : s.windowWrite a v (isData, k, n) = s.err 1 a :=
  if_pos (by rw [h]; decide)

theorem windowWrite_stopped (h : s.coreStopped k = true) (hb : s.bankSt (memBank isData (memKey k n)) ≠ 2) :
    s.windowWrite a v (isData, k, n) = if isData then (s.touchBank (memBank isData (memKey k n))).setDmem k n v else
      (s.touchBank (memBank isData (memKey k n))).setImem k n v :=
  (if_neg (not_not_intro h)).trans (if_neg hb)

end Sys2Proof.Machine

/-- Settles O21, instruction by instruction as its core is a command processor or a sequencer, then register by register. -/
theorem transactionInstructionsDeviceAccessAndCoreControl : Obligations.TransactionInstructionsDeviceAccessAndCoreControl := by
  intro s o c
  refine ⟨fun op i h => ?issue, fun op d ga n ha => ?reply, fun d a ha => ?loaded, fun req data ho => ?registers,
    fun ho hs ht hf => ?start, ⟨coreStop_state, coreStart_refused⟩, fun req addr data isData k i hw h4 ht => ?window⟩
  case issue =>
    intro u w ga x a bad ldx stx
    have gaU : (u.gw o i.a).toNat = ga := by rw [issued_gw]
    refine ⟨fun tc => ?acts, fun tr cmd hc => ?trips, fun e => ?ldx, fun e => ?stx⟩
    case acts =>
      have tr : isTR o = false := isTR_false_of_isTC tc
      have acts {code : Nat} {cmd : Instr} (e : op = code) (hc : (code, cmd) ∈ txnCmds o) : exec cmd s = .next (txnRun o code i.d ga x u) := by
        subst e
        exact txn_acts h hc tr
      refine ⟨fun e => acts e (by simp [txnCmds]), fun e hw ht hq => ?_, fun e hq => ⟨fun y hy => ?_, fun k y hy => ?_⟩,
        fun e => acts e (by simp [txnCmds]), fun e => ?_, fun e => acts e (by simp [txnCmds])⟩
      · exact (acts e (by simp [txnCmds])).trans (congrArg _ (commitRun_waits hw ht hq))
      · exact (acts e (by simp [txnCmds])).trans (congrArg _ (commitRun_none (s := u) hq hy))
      · exact (acts e (by simp [txnCmds])).trans (congrArg _ (commitRun_some (s := u) hq hy))
      · intro free took
        have own : u.owner o = w := rfl
        have lock : exec (.lock o) s = .next (lockRun o i.d x (ga % 1024) u) := acts e (by simp [txnCmds])
        refine ⟨fun hf => ?_, fun hf hr => ?_, fun hf hr => ?_⟩
        · rw [lockRun_held own (not_not.1 hf)] at lock
          exact lock
        · rw [lockRun_free own hf, if_pos hr] at lock
          exact lock
        · rw [lockRun_free own hf, if_neg (by rw [hr]; decide), lockRound_lost hr] at lock
          exact lock
    case trips =>
      have ops := issues_op_short h (by have := txnCmds_ge hc; omega)
      have goes : exec cmd s = .next (txnIssue o i u) := txn_issues h hc
      refine ⟨fun e hg => ?_, fun hg => ?_⟩
      · exact goes.trans (congrArg _ (txnIssue_foreign tr (ops.trans e) (by rw [gaU]; exact hg)))
      · rw [txnIssue_trips tr (by rw [ops, gaU]; exact hg), ops, gaU, xn_eq] at goes
        exact goes
    case ldx =>
      have at' : u.address o i = a := address_eq h (by rw [issues_op_form h (by decide) e]; decide)
      have goes : exec ldx s = .next (ldxRun o i u) := ldx_runs h e
      refine ⟨fun hb => ?_, fun hb tc h1 h2 => ?_, fun hb hk => ?_⟩
      · exact goes.trans (congrArg _ (ldxRun_bad at' (xaddrBad_iff.2 hb)))
      · exact goes.trans (congrArg _ (ldxRun_trips at' (mt xaddrBad_iff.1 hb) tc ⟨h1, h2⟩))
      · refine goes.trans (congrArg _ (ldxRun_reads at' (mt xaddrBad_iff.1 hb) ?_))
        rintro ⟨tc, h1, h2⟩
        rcases hk with tr | hk
        · rw [isTR_false_of_isTC tc] at tr
          cases tr
        · omega
    case stx =>
      have at' : u.address o i = a := address_eq h (by rw [issues_op_form h (by decide) e]; decide)
      have goes : exec stx s = .next (stxRun o i u) := stx_runs h e
      refine ⟨fun hb => ?_, fun hb hl => ?_, fun hb hl => ?_⟩
      · exact goes.trans (congrArg _ (stxRun_bad at' (xaddrBad_iff.2 hb)))
      · exact goes.trans (congrArg _ (stxRun_waits at' (mt xaddrBad_iff.1 hb) hl))
      · intro y
        have own : u.core o = { c with len := if op = 0x0E then 8 else 4 } := issued_core _
        rw [stxRun_writes at' (mt xaddrBad_iff.1 hb) hl (u := y) (by rw [issued_gw]), own] at goes
        exact goes
  case reply =>
    rw [exec_lockTxnReply]
    unfold execLockTxnReply
    rw [ha]
  case loaded =>
    rw [exec_ldxDone]
    unfold execLdxDone
    rw [ha]
  case registers =>
    intro ctrl p q
    have ctrl (hx : s.takesWrite req ctrl.addr = true) : s.busWrite req (ctrlOf o).addr data.toNat =
        (p.coreCtrl o (bit data.toNat 0 == 1) (bit data.toNat 1 == 1)).wakeBanks := ctrl_written ho hx data.isLt
    refine ⟨fun hx => ⟨fun h0 h1 => ?_, fun h1 h0 => ?_, fun h1 h0 => ?_⟩, fun hx => ?_⟩
    · rw [execCoreRun_writes ho h0, ctrl hx, wbit_one h0, wbit_one h1, coreCtrl_run]
    · rw [execCoreStop_writes ho h1, ctrl hx, wbit_one h0, wbit_one h1, coreCtrl_stop, if_neg Bool.false_ne_true]
    · rw [execCoreStop_writes ho h1, ctrl hx, wbit_one h0, wbit_one h1, coreCtrl_stop, if_pos rfl]
    · exact (execMboxWrite_writes ho).trans (congrArg _ (mbox_written ho hx data.isLt))
  case start =>
    intro t
    have run : t = (s.started o).measuredIf o (isTR o) := coreStart_starts hs ht hf
    have fields (y : Fld) : t.f y = (s.started o).f y := by
      rw [run]
      exact (measuredIf_keeps _).1
    have own : t.core o = { c.idle with stack := [], wdog := 0, pc := 4 * s.f (fcStartW o), next := cycleAfter o (s.clock o) 1 } := by
      rw [run, core_of_cores (congrArg ThSt.cores (measuredIf_keeps (y := fcState o) _).2.2.1), started_core]
    obtain ⟨state, pend, pfv⟩ := started_shows (s := s) (o := o)
    refine ⟨(fields _).trans state, (fields _).trans pend, (fields _).trans pfv, by rw [own], by rw [own], by rw [own], ?_, ?_⟩
    · rw [own]
      rfl
    · exact gw_of_g (by rw [own]; rfl)
  case window =>
    refine ⟨fun hr => ?_, fun hs hb => ?_⟩
    · rw [execCoreMemWindowWrite_writes hw h4 ht, windowWrite_running hr]
    · rw [execCoreMemWindowWrite_writes hw h4 ht, windowWrite_stopped hs hb]
end

section
/-!
Command queues: doorbells, CXL_Q_CTRL, and how an entry is taken, fetched, started and ended (R306 to R318, R333).
-/
open Sys2Proof Sys2Proof.Machine
namespace Sys2Proof.Machine

variable {s u v : State} {q cp o n st d pc : Nat} {e x : Entry} {y : Fld} {req : Req} {data : Word} {host bytes : Option (List Byte)}

/-! ## Doorbells (R307, R310) -/

/-- A source of WAITE changes no register but PEND of its core. -/
theorem f_occur (h : fldKey y ≠ fldKey (fcPend o)) (src : Nat) : (s.occur o src).f y = s.f y := by
  have kept : (s.putBit (fcPend o) src true).f y = s.f y := (f_putBit ..).trans (if_neg h)
  unfold State.occur
  dsimp only
  split
  · rfl
  · split
    · split
      · rfl
      · exact kept
    · split
      · split
        · rfl
        · exact kept
      · exact kept

theorem tail_ne_pend : fldKey (fCXL_Q_PTR_TAIL q) ≠ fldKey (fcPend o) := by
  rw [fcPend_eq]
  simp only [fldKey, coreFld, fCXL_Q_PTR_TAIL]
  split <;> omega

theorem doorbell_tail : (s.doorbell q n).f (fCXL_Q_PTR_TAIL q) = n % s.qSize q % 65536 := by
  unfold State.doorbell
  exact (f_occur tail_ne_pend _).trans ((f_setF ..).trans (if_pos rfl))

theorem execDoorbell_register (hq : q < 512) (ht : s.takesWrite req (fCXL_Q_PTR_TAIL q).addr = true) :
    exec (.doorbell req q false data) s = .next (s.doorbell q (data.toNat % 65536)).wakeBanks := by
  rw [exec_doorbell]
  unfold execDoorbell
  rw [rowWrite_of s (decide_eq_true hq)]
  exact congrArg _ ((write_CXL_Q_PTR hq ht data.isLt).trans (congrArg _ writeHost_CXL_Q_PTR))

/-- The page of queue `q` in BAR2 of PF1 (R341). -/
theorem busWrite_page (hq : q < 512) (hb : s.barOk .pf1 = true) (hr : s.reach 0x00300000 = true) :
    s.busWrite .pf1 (fCXL_Q_DB_TAIL q).addr data.toNat = s.doorbell q (data.toNat % 65536) := by
  have page : (fCXL_Q_DB_TAIL q).addr = 0x10000000 + 0x800 * q := rfl
  have place : (0x10000000 + 0x800 * q - 0x10000000) / 0x800 = q := by omega
  unfold State.busWrite
  dsimp only
  rw [page, if_neg (not_not_intro hb), if_pos (by omega), if_pos ⟨rfl, hr, by omega, by omega⟩, place, Nat.mod_eq_of_lt data.isLt]

theorem execDoorbell_page (hq : q < 512) (hb : s.barOk .pf1 = true) (hr : s.reach 0x00300000 = true) :
    exec (.doorbell .pf1 q true data) s = .next (s.doorbell q (data.toNat % 65536)) := by
  rw [exec_doorbell]
  unfold execDoorbell
  rw [rowWrite_of s (decide_eq_true hq)]
  exact congrArg _ (busWrite_page hq hb hr)

/-! ## Taking an entry (R308, R684) -/

section
variable (hcp : cp < 8) (hi : s.cpIdle cp = true)
include hcp hi

theorem mayTake : ¬ (8 ≤ cp ∨ ¬ s.cpIdle cp = true) := by
  rintro (h | h)
  · omega
  · exact h hi

theorem execEntryTake_autostart (h0 : cp = 0) (hd : s.autoDue0 = true) : exec (.entryTake cp) s = .next s.autoStart :=
  (if_neg (mayTake hcp hi)).trans (if_pos ⟨h0, hd⟩)

/-- The entry at HEAD of queue `q`, not yet fetched. -/
def State.headEntry (s : State) (q : Nat) : Entry := ⟨q, s.qHead q, 0, 0, false, [], 0, false, 0, []⟩

theorem execEntryTake_takes (h0 : cp ≠ 0 ∨ s.autoDue0 = false)
    (ha : s.arbRound (arbCp cp) (fun _ => 0) (s.cpReady cp) (s.cpReady cp) = (some q, u)) :
    exec (.entryTake cp) s = .next (if u.on (fCXL_Q_CFG_SPACE q) then
      (u.setEntry cp (some (u.headEntry q))).out (.rdCurr (u.qAddr q (u.qHead q) / 64)) else u.setEntry cp (some (u.headEntry q))) := by
  rw [exec_entryTake]
  unfold execEntryTake
  rw [if_neg (mayTake hcp hi), if_neg (fun ⟨isZero, due⟩ => h0.elim (· isZero) (Bool.eq_false_iff.1 · due))]
  dsimp only
  rw [ha]
  rfl

end

/-! ## The fetch ends (R313, R314, R317) -/

/-- An entry with its bytes and what its header names. -/
def Entry.fetched (e : Entry) (bs : List Byte) : Entry :=
  let w := leNat (bs.take 4)
  { e with data := bs, tag := w % 2 ^ 16, notify := bit w 26 == 1, crit := bit w 27 == 1, slot := w / 2 ^ 16 % 64 }

/-- A fetched entry waits for the check of its trailer. -/
def State.awaitCheck (s : State) (cp : Nat) (x : Entry) : State :=
  { s.setEntry cp (some { x with stage := 1 }) with th := { (s.setEntry cp (some { x with stage := 1 })).th with
    checks := s.th.checks ++ [x.q] } }

/-- What a fetch leads to: its failure, or its header judged. -/
def State.fetchEnds (s : State) (cp : Nat) (e : Entry) : Option (List Byte) → State
  | none => s.entryEnd cp 5 0 0
  | some bs =>
    let x := e.fetched bs
    let u := s.setEntry cp (some x)
    if x.bad ≠ 0 then u.entryEnd cp 4 x.bad 0 else if x.crit then u.awaitCheck cp x else u.entryGo cp x

section
variable {bs : List Byte}

theorem fetchEnds_malformed (hb : (e.fetched bs).bad ≠ 0) : s.fetchEnds cp e (some bs) =
    (s.setEntry cp (some (e.fetched bs))).entryEnd cp 4 (e.fetched bs).bad 0 := if_pos hb

variable (hb : (e.fetched bs).bad = 0)
include hb

theorem fetchEnds_checked (hc : (e.fetched bs).crit = true) : s.fetchEnds cp e (some bs) =
    (s.setEntry cp (some (e.fetched bs))).awaitCheck cp (e.fetched bs) := (if_neg (not_not_intro hb)).trans (if_pos hc)

theorem fetchEnds_goes (hc : (e.fetched bs).crit = false) : s.fetchEnds cp e (some bs) =
    (s.setEntry cp (some (e.fetched bs))).entryGo cp (e.fetched bs) :=
  (if_neg (not_not_intro hb)).trans (if_neg (Bool.eq_false_iff.1 hc))

end

theorem awaitCheck_entry : (s.awaitCheck cp x).entry cp = some { x with stage := 1 } :=
  (entry_setEntry s cp cp (some { x with stage := 1 })).trans (if_pos rfl)

/-- The reads of a fetch: one of the frame store's, where the ring lies in it. -/
def State.fetchReads (s : State) (e : Entry) : List (Nat × Nat) :=
  if ¬ s.on (fCXL_Q_CFG_SPACE e.q) ∧ s.qAddr e.q e.idx + 64 ≤ fsEnd then [(s.qAddr e.q e.idx, 64)] else []

/-- The bytes of a fetch from the frame store, none where it fails. -/
def State.fetchBytes (s : State) (a : Nat) : Option (List Byte) :=
  if fsEnd < a + 64 ∨ s.poisonedIn a 64 then none else some (s.fsBytes a 64)

theorem execEntryFetchDone_ends (he : s.entry cp = some e) (h0 : e.stage = 0)
    (hs : ¬ (s.on (fCXL_Q_CFG_SPACE e.q) = true ∧ ¬ s.on fCXL_LINK_STATUS_CACHE = true))
    (gate : s.readGate false (s.fetchReads e) = (true, v))
    (hd : (if s.on (fCXL_Q_CFG_SPACE e.q) then host else v.fetchBytes (s.qAddr e.q e.idx)) = bytes) :
    exec (.entryFetchDone cp host) s = .next (v.fetchEnds cp e bytes) := by
  subst hd
  unfold State.fetchReads at gate
  rw [exec_entryFetchDone]
  unfold execEntryFetchDone
  rw [he]
  dsimp only
  rw [if_neg (not_not_intro h0), if_neg hs, gate]
  dsimp only
  rw [if_neg (by decide)]
  unfold State.fetchBytes
  generalize (if s.on (fCXL_Q_CFG_SPACE e.q) = true then host else
    if fsEnd < s.qAddr e.q e.idx + 64 ∨ v.poisonedIn (s.qAddr e.q e.idx) 64 = true then none
    else some (v.fsBytes (s.qAddr e.q e.idx) 64)) = bytes
  cases bytes with
  | none => rfl
  | some bs =>
    simp only [State.fetchEnds, apply_ite Host.Outcome.next]
    rfl

theorem execEntryFetchDone_host (he : s.entry cp = some e) (h0 : e.stage = 0) (hs : s.on (fCXL_Q_CFG_SPACE e.q) = true)
    (hc : s.on fCXL_LINK_STATUS_CACHE = true) : exec (.entryFetchDone cp host) s = .next (s.fetchEnds cp e host) :=
  execEntryFetchDone_ends he h0 (fun h => h.2 hc)
    (by unfold State.fetchReads; rw [if_neg (fun h => h.1 hs)]; exact readGate_nil false) (if_pos hs)

section
variable (he : s.entry cp = some e) (h0 : e.stage = 0) (hs : s.on (fCXL_Q_CFG_SPACE e.q) = false)
include he h0 hs

theorem execEntryFetchDone_beyond (ha : fsEnd < s.qAddr e.q e.idx + 64) :
    exec (.entryFetchDone cp host) s = .next (s.fetchEnds cp e none) := by
  refine execEntryFetchDone_ends he h0 (by rw [hs]; exact fun h => Bool.noConfusion h.1) ?_ ?_
  · unfold State.fetchReads
    rw [if_neg (by omega)]
    exact readGate_nil false
  · rw [hs]
    exact (if_neg Bool.false_ne_true).trans (if_pos (.inl ha))

theorem execEntryFetchDone_frameStore (ha : s.qAddr e.q e.idx + 64 ≤ fsEnd) (aw : s.asleep (s.qAddr e.q e.idx) 64 = false)
    (rb : s.readBlocked (s.qAddr e.q e.idx) 64 = []) : exec (.entryFetchDone cp host) s =
      .next ((s.touchRange (s.qAddr e.q e.idx) 64).fetchEnds cp e
        (if s.poisonedIn (s.qAddr e.q e.idx) 64 = true then none else some (s.fsBytes (s.qAddr e.q e.idx) 64))) := by
  refine execEntryFetchDone_ends he h0 (by rw [hs]; exact fun h => Bool.noConfusion h.1) ?_ ?_
  · unfold State.fetchReads
    rw [if_pos ⟨by rw [hs]; decide, ha⟩]
    exact readGate_clear false aw rb
  · have bytes : (s.touchRange (s.qAddr e.q e.idx) 64).fsBytes (s.qAddr e.q e.idx) 64 = s.fsBytes (s.qAddr e.q e.idx) 64 := by
      simp only [State.fsBytes, State.fsByte, touchRange_bytes]
    rw [hs]
    unfold State.fetchBytes
    simp only [poisonedIn_touchRange, bytes, Nat.not_lt.2 ha, false_or]
    rfl

end

theorem touchRange_th (a n : Nat) : (s.touchRange a n).th = s.th := touch_same (touchRange_touch a n) .th (by decide)

/-! ## An entry is started (R314 to R316, R568) -/

theorem entryGo_empty (h : e.kind = 0) : s.entryGo cp e = s.entryEnd cp 0 0 0 := if_pos h

theorem entryGo_inline (h : e.kind = 1) : s.entryGo cp e = s.entryStart cp e :=
  (if_neg (by omega)).trans (if_neg (by omega))

section
variable (h : e.kind = 2)
include h

theorem entryGo_invalid (hv : (s.program cp e.prog).1 = false) : s.entryGo cp e = s.entryEnd cp 4 4 0 :=
  (if_neg (by omega)).trans ((if_pos h).trans (if_pos (Bool.eq_false_iff.1 hv)))

theorem entryGo_needsCrit (hv : (s.program cp e.prog).1 = true) (hc : (s.program cp e.prog).2.1 = true) (he : e.crit = false) :
    s.entryGo cp e = s.entryEnd cp 3 1 0 :=
  (if_neg (by omega)).trans ((if_pos h).trans ((if_neg (not_not_intro hv)).trans (if_pos ⟨hc, by rw [he]; decide⟩)))

theorem entryGo_call (hv : (s.program cp e.prog).1 = true) (hc : (s.program cp e.prog).2.1 = false) :
    s.entryGo cp e = s.entryStart cp e := by
  have plain {p : Prop} : ¬ ((s.program cp e.prog).2.1 = true ∧ p) := by rw [hc]; exact fun h => Bool.noConfusion h.1
  exact (if_neg (by omega)).trans ((if_pos h).trans ((if_neg (not_not_intro hv)).trans ((if_neg plain).trans (if_neg plain))))

end

/-- Words placed in an instruction memory stand one after the other, and no other word of it changes. -/
theorem imem_putWords (ws : List Nat) (j : Nat) : ∀ a s, (putWords o a ws s).imem o j =
    if a ≤ j ∧ j < a + ws.length then ws.getD (j - a) 0 % 2 ^ 32 else s.imem o j := by
  induction ws with
  | nil =>
    intro a s
    exact (if_neg (by simp only [List.length_nil]; omega)).symm
  | cons w ws ih =>
    intro a s
    have key : memKey o j = memKey o a ↔ j = a := by unfold memKey; omega
    rw [putWords, ih, imem_setImem, List.length_cons]
    by_cases first : j = a
    · subst first
      rw [if_neg (by omega), if_pos rfl, if_pos (by omega), Nat.sub_self]
      rfl
    · by_cases later : a + 1 ≤ j ∧ j < a + 1 + ws.length
      · rw [if_pos later, if_pos (by omega), show j - a = (j - (a + 1)) + 1 by omega, List.getD_cons_succ]
      · rw [if_neg later, if_neg (mt key.1 first), if_neg (by omega)]

/-- The arguments of an entry, and NOPs up to the fourteenth word. -/
def Entry.inlineWords (e : Entry) : List Nat :=
  ((List.range e.nwords).map fun i => e.word (2 + i)) ++ List.replicate (14 - e.nwords) 0

theorem inlineWords_getD (i : Nat) : e.inlineWords.getD i 0 = if i < e.nwords then e.word (2 + i) else 0 := by
  unfold Entry.inlineWords
  split
  · next h =>
    rw [List.getD_append _ _ _ _ (by simpa using h)]
    simp [List.getD, h]
  · next h =>
    rw [List.getD_append_right _ _ _ _ (by simpa using h)]
    exact List.getElem?_getD_replicate_default_eq ..

theorem inlineWords_length (hn : e.nwords ≤ 14) : e.inlineWords.length = 14 := by
  simp only [Entry.inlineWords, List.length_append, List.length_map, List.length_range, List.length_replicate]
  omega

/-- The general registers at the start of an entry: G30 and G31 name it, a CALL has its arguments from G1. -/
def Entry.startRegs (e : Entry) : SMap Nat :=
  let named : SMap Nat := smSet (fun _ => 0) (smSet (fun _ => 0) [] 30 e.tag) 31 e.q
  if e.kind = 2 then (List.range e.nwords).foldl (fun g i =>
    smSet (fun _ => 0) g (1 + i) (((List.range e.nwords).map fun i => e.word (2 + i)).getD i 0)) named
  else named

theorem smGet_startRegs (h : e.kind ≠ 2) (k : Nat) :
    smGet (fun _ => 0) e.startRegs k = if k = 31 then e.q else if k = 30 then e.tag else 0 := by
  unfold Entry.startRegs
  dsimp only
  rw [if_neg h, smGet_smSet, smGet_smSet]
  rfl

/-- The core of an entry's command processor at the start. -/
def State.startCore (s : State) (cp : Nat) (e : Entry) : Core :=
  { (s.core (0x300 + cp)).idle with
    g := e.startRegs
    flags := 0
    stack := [0x1FFF8]
    pc := if e.kind = 2 then 4 * (s.program cp e.prog).2.2 else 4 * 0x7FF0 }

/-- The words of an INLINE entry in their place. -/
def State.inlined (s : State) (cp : Nat) (e : Entry) : State :=
  if e.kind = 1 then putWords (0x300 + cp) 0x7FF0 e.inlineWords s else s

theorem putWords_cores (ws : List Nat) : ∀ a s, (putWords o a ws s).th.cores = s.th.cores := by
  induction ws with
  | nil => exact fun _ _ => rfl
  | cons w ws ih => exact fun a s => ih ..

theorem inlined_core (p : Nat) : (s.inlined cp e).core p = s.core p := by
  refine core_of_cores ?_ p
  unfold State.inlined
  split
  · exact putWords_cores ..
  · rfl

/-- The state in which an entry's core starts to run, but for STATE of the core. -/
def State.entryLoaded (s : State) (cp : Nat) (e : Entry) : State :=
  (((s.inlined cp e).setCore (0x300 + cp) (s.startCore cp e)).setF (fcPend (0x300 + cp)) 0).setEntry cp (some { e with stage := 3 })

theorem entryStart_eq : s.entryStart cp e = ((s.entryLoaded cp e).setCoreSt (0x300 + cp) 1).wakeBanks := by
  unfold State.entryLoaded State.startCore
  rw [← inlined_core (cp := cp) (e := e)]
  rfl

theorem entryStart_th : (s.entryStart cp e).th = (s.entryLoaded cp e).th := by
  rw [entryStart_eq, wake_th, setCoreSt_th]

theorem entryStart_entry : (s.entryStart cp e).entry cp = some { e with stage := 3 } := by
  have kept : (s.entryStart cp e).entry cp = (s.entryLoaded cp e).entry cp := by
    unfold State.entry
    rw [entryStart_th]
  exact kept.trans ((entry_setEntry ..).trans (if_pos rfl))

theorem entryStart_state (hcp : cp < 8) : (s.entryStart cp e).f (fcState (0x300 + cp)) = 1 := by
  have noB : noBank (fcState (0x300 + cp)) = true := by
    rw [fcState_eq]
    simp only [noBank, coreFld, isTR, decide_eq_true_eq]
    split <;> omega
  rw [entryStart_eq, f_wakeBanks _ noB, setCoreSt_state (by decide)]

theorem entryStart_core : (s.entryStart cp e).core (0x300 + cp) = s.startCore cp e :=
  (core_of_cores (congrArg ThSt.cores entryStart_th) _).trans ((core_setCore ..).trans (if_pos rfl))

theorem entryStart_gw (h : e.kind ≠ 2) (k : Nat) : (s.entryStart cp e).gw (0x300 + cp) k =
    if k = 0 then 0#32 else BitVec.ofNat 32 (if k = 31 then e.q else if k = 30 then e.tag else 0) := by
  unfold State.gw
  rw [entryStart_core, ← smGet_startRegs h]
  rfl

theorem entryStart_imem (h : e.kind = 1) (hn : e.nwords ≤ 14) {i : Nat} (hi : i < 14) :
    (s.entryStart cp e).imem (0x300 + cp) (0x7FF0 + i) = if i < e.nwords then e.word (2 + i) % 2 ^ 32 else 0 := by
  have placed : (s.entryStart cp e).imem (0x300 + cp) (0x7FF0 + i) =
      (putWords (0x300 + cp) 0x7FF0 e.inlineWords s).imem (0x300 + cp) (0x7FF0 + i) := by
    unfold State.imem
    rw [entryStart_th]
    unfold State.entryLoaded State.inlined
    rw [if_pos h]
    rfl
  rw [placed, imem_putWords, inlineWords_length hn, if_pos (by omega), Nat.add_sub_cancel_left, inlineWords_getD]
  split <;> rfl

/-! ## The trailer is checked (R570, R571) -/

/-- The first waiting check is over; those of `rest` still wait. -/
def State.checksLeft (s : State) (rest : List Nat) : State := { s with th := { s.th with checks := rest } }

theorem execTrailerCheckDone_ends {rest : List Nat} (hc : s.th.checks = q :: rest) (hq : s.qEntry q = some (cp, e)) :
    exec .trailerCheckDone s = if (s.checksLeft rest).trailerCode e ≠ 0 then
      .next (((s.checksLeft rest).raise 0x1A0 q 0 [(8, (s.checksLeft rest).trailerCode e), (8, e.slot), (16, 0), (16, e.idx), (16, 0),
        (64, e.ctr)]).entryEnd cp 2 ((s.checksLeft rest).trailerCode e) 0)
    else .next ((((s.checksLeft rest).setEntry cp (some { e with stage := 2 })).setLastCtr e.slot e.ctr).nvSubmit
      ⟨1, q, ctrAddr e.slot, leBytes 8 e.ctr⟩) := by
  have same : (s.checksLeft rest).qEntry q = some (cp, e) := hq
  unfold State.checksLeft at same ⊢
  rw [exec_trailerCheckDone]
  unfold execTrailerCheckDone
  rw [hc]
  dsimp only
  rw [same]

/-! ## An entry ends (R308, R317) -/

/-- The entry of a command processor is over, with its place in the ring and its STATUS. -/
def State.entryShown (s : State) (cp : Nat) (e : Entry) (st d : Nat) : State :=
  (((({ s.setEntry cp none with th := { (s.setEntry cp none).th with
      checks := (s.setEntry cp none).th.checks.filter fun x => x != e.q } } : State).setF
    (fCXL_Q_PTR_HEAD e.q) ((e.idx + 1) % s.qSize e.q)).setF (fCXL_Q_STATUS_LAST_ST e.q) st).setF (fCXL_Q_STATUS_DETAIL e.q) d).setF
    (fCXL_Q_STATUS_LAST_TAG e.q) e.tag

/-- The same with the event of an end that the entry asks to be notified of, or that went wrong. -/
def State.entryTold (s : State) (cp : Nat) (e : Entry) (st d : Nat) : State :=
  if e.notify = true ∨ st ≠ 0 then (s.entryShown cp e st d).raise 0x150 e.q 0
    [(16, e.tag), (8, st), (8, d), (16, e.idx), (16, 0), (32, 0)] else s.entryShown cp e st d

/-- An entry that ends with the statuses that neither fail its owner nor halt its queue, in a queue that nobody stops. -/
theorem entryEnd_goesOn (he : s.entry cp = some e) (h2 : e.stage ≠ 2) (hl : e.slot ≠ 64) (hst : st ≠ 1 ∧ st ≠ 5 ∧ st ≠ 6)
    (hr : s.stopReq e.q = false) : s.entryEnd cp st d pc = s.entryTold cp e st d := by
  obtain ⟨h1, h5, h6⟩ := hst
  have open' : ¬ (s.entryTold cp e st d).stopReq e.q = true := by
    unfold State.entryTold
    split <;> exact Bool.eq_false_iff.1 hr
  unfold State.entryEnd
  rw [he]
  dsimp only
  rw [if_neg h2, if_neg hl, if_neg h1, if_neg (not_or.2 ⟨h1, h5⟩), if_neg h6]
  exact if_neg open'

theorem entryTold_th : (s.entryTold cp e st d).th = (s.entryShown cp e st d).th := by
  unfold State.entryTold
  split <;> rfl

theorem f_entryTold : (s.entryTold cp e st d).f y = (s.entryShown cp e st d).f y := by
  unfold State.entryTold
  split <;> rfl

theorem entryTold_entry : (s.entryTold cp e st d).entry cp = none := by
  unfold State.entry
  rw [entryTold_th]
  exact (entry_setEntry s cp cp none).trans (if_pos rfl)

theorem entryTold_events : (s.entryTold cp e st d).ev.enRoute = s.ev.enRoute ++ if e.notify = true ∨ st ≠ 0 then
    [⟨s.clock e.q, 0x150, false, e.q, 0, packBits [(16, e.tag), (8, st), (8, d), (16, e.idx), (16, 0), (32, 0)]⟩] else [] := by
  unfold State.entryTold
  split
  · rfl
  · exact (List.append_nil _).symm

/-- HEAD, the fields of STATUS that the end of an entry writes, and STATE are pairwise different. -/
theorem shown_apart (q : Nat) :
    fldKey (fCXL_Q_PTR_HEAD q) ≠ fldKey (fCXL_Q_STATUS_LAST_ST q) ∧ fldKey (fCXL_Q_PTR_HEAD q) ≠ fldKey (fCXL_Q_STATUS_DETAIL q) ∧
    fldKey (fCXL_Q_PTR_HEAD q) ≠ fldKey (fCXL_Q_STATUS_LAST_TAG q) ∧
    fldKey (fCXL_Q_STATUS_LAST_ST q) ≠ fldKey (fCXL_Q_STATUS_DETAIL q) ∧
    fldKey (fCXL_Q_STATUS_LAST_ST q) ≠ fldKey (fCXL_Q_STATUS_LAST_TAG q) ∧
    fldKey (fCXL_Q_STATUS_DETAIL q) ≠ fldKey (fCXL_Q_STATUS_LAST_TAG q) ∧
    fldKey (fCXL_Q_STATUS_STATE q) ≠ fldKey (fCXL_Q_PTR_HEAD q) ∧ fldKey (fCXL_Q_STATUS_STATE q) ≠ fldKey (fCXL_Q_STATUS_LAST_ST q) ∧
    fldKey (fCXL_Q_STATUS_STATE q) ≠ fldKey (fCXL_Q_STATUS_DETAIL q) ∧
    fldKey (fCXL_Q_STATUS_STATE q) ≠ fldKey (fCXL_Q_STATUS_LAST_TAG q) := by
  simp only [fldKey, fCXL_Q_PTR_HEAD, fCXL_Q_STATUS_LAST_ST, fCXL_Q_STATUS_DETAIL, fCXL_Q_STATUS_LAST_TAG, fCXL_Q_STATUS_STATE]
  omega

theorem entryShown_shows (hst : st < 16) (hd : d < 256) :
    (s.entryShown cp e st d).f (fCXL_Q_PTR_HEAD e.q) = (e.idx + 1) % s.qSize e.q % 65536 ∧
    (s.entryShown cp e st d).f (fCXL_Q_STATUS_LAST_ST e.q) = st ∧ (s.entryShown cp e st d).f (fCXL_Q_STATUS_DETAIL e.q) = d ∧
    (s.entryShown cp e st d).f (fCXL_Q_STATUS_LAST_TAG e.q) = e.tag % 65536 ∧
    (s.entryShown cp e st d).f (fCXL_Q_STATUS_STATE e.q) = s.f (fCXL_Q_STATUS_STATE e.q) := by
  obtain ⟨head_st, head_d, head_tag, st_d, st_tag, d_tag, state_head, state_st, state_d, state_tag⟩ := shown_apart e.q
  simp only [State.entryShown, f_setF, head_st, head_d, head_tag, st_d, st_tag, d_tag, state_head, state_st, state_d, state_tag,
    if_true, if_false]
  exact ⟨rfl, Nat.mod_eq_of_lt hst, Nat.mod_eq_of_lt hd, rfl, rfl⟩

/-! ## RUN, STOP and RESET of a queue (R309, R310, R333) -/

theorem qState_ne_run : fldKey (fCXL_Q_STATUS_STATE q) ≠ fldKey (fCXL_Q_CTRL_RUN q) := by
  simp only [fldKey, fCXL_Q_STATUS_STATE, fCXL_Q_CTRL_RUN]
  omega

theorem setQState_state (c : Nat) (h : st < 8) : (s.setQState q st c).f (fCXL_Q_STATUS_STATE q) = st := by
  unfold State.setQState State.qState
  dsimp only
  split
  all_goals
    split
    · next same => exact same
    · exact (f_setF ..).trans ((if_pos rfl).trans (Nat.mod_eq_of_lt h))

theorem setQState_run_kept (c : Nat) (h : st ≠ 0 ∧ st ≠ 3) : (s.setQState q st c).f (fCXL_Q_CTRL_RUN q) = s.f (fCXL_Q_CTRL_RUN q) := by
  unfold State.setQState
  rw [if_neg (not_or.2 h)]
  dsimp only
  split
  · rfl
  · exact (f_setF ..).trans (if_neg qState_ne_run.symm)

theorem setQState_run_cleared (c : Nat) (h : st = 0 ∨ st = 3) : (s.setQState q st c).f (fCXL_Q_CTRL_RUN q) = 0 := by
  have cleared : (s.setF (fCXL_Q_CTRL_RUN q) 0).f (fCXL_Q_CTRL_RUN q) = 0 := (f_setF ..).trans (if_pos rfl)
  unfold State.setQState
  rw [if_pos h]
  dsimp only
  split
  · exact cleared
  · exact (f_setF ..).trans ((if_neg qState_ne_run.symm).trans cleared)

theorem qRunState_eq : s.qRunState q = if s.on (fCXL_Q_CFG_SPACE q) = true ∧ s.on fCXL_LINK_STATUS_CACHE = false then 2 else 1 := by
  unfold State.qRunState
  simp only [Bool.not_eq_true]

theorem qRunState_bounds : s.qRunState q = 1 ∨ s.qRunState q = 2 := by
  unfold State.qRunState
  split
  · exact .inr rfl
  · exact .inl rfl

/-- RUN is 1 and no STOP waits. -/
def State.runSet (s : State) (q : Nat) : State := (s.setF (fCXL_Q_CTRL_RUN q) 1).setStopReq q false

theorem f_runSet (h : fldKey y ≠ fldKey (fCXL_Q_CTRL_RUN q)) : (s.runSet q).f y = s.f y := (f_setF ..).trans (if_neg h)

theorem runSet_qRunState : (s.runSet q).qRunState q = s.qRunState q := by
  have space : fldKey (fCXL_Q_CFG_SPACE q) ≠ fldKey (fCXL_Q_CTRL_RUN q) := by
    simp only [fldKey, fCXL_Q_CFG_SPACE, fCXL_Q_CTRL_RUN]
    omega
  have cache : fldKey fCXL_LINK_STATUS_CACHE ≠ fldKey (fCXL_Q_CTRL_RUN q) := by
    simp only [fldKey, fCXL_LINK_STATUS_CACHE, fCXL_Q_CTRL_RUN]
    omega
  unfold State.qRunState State.on
  rw [f_runSet space, f_runSet cache]

theorem queueCtrl_run (h : s.qState q = 0 ∨ s.qState q = 3) :
    s.queueCtrl q true false = (s.runSet q).setQState q (s.qRunState q) 0 := by
  have stopped : (s.runSet q).qState q = s.qState q := f_runSet qState_ne_run
  rw [← runSet_qRunState]
  unfold State.runSet at stopped ⊢
  unfold State.queueCtrl
  rw [← stopped] at h
  exact if_pos h

theorem queueCtrl_stop_idle (h : s.qEntry q = none) :
    s.queueCtrl q false false = (s.setF (fCXL_Q_CTRL_RUN q) 0).setQState q 0 0 := by
  unfold State.queueCtrl
  exact if_neg (show ¬ (s.qEntry q).isSome = true by rw [h]; decide)

theorem queueCtrl_stop_busy {p : Nat × Entry} (h : s.qEntry q = some p) :
    s.queueCtrl q false false = (s.setF (fCXL_Q_CTRL_RUN q) 0).setStopReq q true := by
  unfold State.queueCtrl
  exact if_pos (show (s.qEntry q).isSome = true by rw [h]; rfl)

theorem cxlQReset_state (cause detail : Nat) : (s.cxlQReset q cause detail).f (fCXL_Q_STATUS_STATE q) = 0 := by
  unfold State.cxlQReset
  exact setQState_state cause (by decide)

section
variable (hq : q < 512) (ht : s.takesWrite req (fCXL_Q_CTRL_RUN q).addr = true)
include hq ht

theorem queueCtrl_written : s.busWrite req (fCXL_Q_CTRL_RUN q).addr data.toNat =
    (s.queueCtrl q (data.getLsbD 0) (data.getLsbD 1)).wakeBanks := by
  rw [write_CXL_Q_CTRL hq ht data.isLt, writeHost_CXL_Q_CTRL, wbit_one rfl, wbit_one rfl]

theorem execQueueRun_writes (h : data.getLsbD 0 = true) :
    exec (.queueRun req q data) s = .next (s.queueCtrl q (data.getLsbD 0) (data.getLsbD 1)).wakeBanks := by
  rw [exec_queueRun]
  unfold execQueueRun wbit
  rw [rowWrite_of s (by rw [h, decide_eq_true hq]; rfl), queueCtrl_written hq ht]

theorem execQueueStop_writes (h : data.getLsbD 0 = false) :
    exec (.queueStop req q data) s = .next (s.queueCtrl q (data.getLsbD 0) (data.getLsbD 1)).wakeBanks := by
  rw [exec_queueStop]
  unfold execQueueStop wbit
  rw [rowWrite_of s (by rw [h, decide_eq_true hq]; rfl), queueCtrl_written hq ht]

/-- RESET lies in the word of RUN. -/
theorem execCxlQReset_writes (h : data.getLsbD 1 = true) :
    exec (.cxlQReset req q data) s = .next (s.queueCtrl q (data.getLsbD 0) (data.getLsbD 1)).wakeBanks := by
  rw [exec_cxlQReset]
  unfold execCxlQReset wbit
  rw [rowWrite_of s (by rw [h, decide_eq_true hq]; rfl)]
  exact congrArg _ (queueCtrl_written hq ht)

end

end Sys2Proof.Machine

/-- Settles O22: each command of a queue or of an entry by what it runs, and each operation by the fields it writes; a fetch, wherever
its bytes come from, by what its end leads to. -/
theorem queuesTakeCheckStartAndEndEntries : Obligations.QueuesTakeCheckStartAndEndEntries := by
  intro s
  refine ⟨fun req q data hq => ?doorbell, fun cp hcp hi => ?take, fun cp host e he h0 => ?fetch, fun cp e hcp => ?start,
    fun q rest cp e hc hq => ?check, fun q cp e he h4 => ?release, fun cp e st d pc he hq h2 hl hst hd hr => ?finish,
    fun req q data hq ht => ?control, fun q hq => ?states⟩
  case doorbell =>
    exact ⟨execDoorbell_register hq, execDoorbell_page hq, doorbell_tail⟩
  case take =>
    refine ⟨execEntryTake_autostart hcp hi, fun h0 q u ha => ⟨_, execEntryTake_takes hcp hi h0 ha, ?_, fun hs => ?_⟩⟩
    · split <;> exact (entry_setEntry u cp cp _).trans (if_pos rfl)
    · rw [if_pos hs]
      rfl
  case fetch =>
    intro a goes
    have ends {v : State} {d : Option (List Byte)} (checks : v.th.checks = s.th.checks)
        (h : exec (.entryFetchDone cp host) s = .next (v.fetchEnds cp e d)) : goes v d := by
      refine ⟨fun hd => ?_, fun bs hd => ?_⟩ <;> subst hd
      · exact h
      · intro w x u
        exact ⟨fun hb => h.trans (congrArg _ (fetchEnds_malformed hb)),
          fun hb hc => ⟨_, h.trans (congrArg _ (fetchEnds_checked hb hc)), awaitCheck_entry, congrArg (· ++ [e.q]) checks⟩,
          fun hb hc => h.trans (congrArg _ (fetchEnds_goes hb hc))⟩
    exact ⟨fun hs hc => ends rfl (execEntryFetchDone_host he h0 hs hc), fun hs ha => ends rfl (execEntryFetchDone_beyond he h0 hs ha),
      fun hs ha aw rb => ends (congrArg ThSt.checks (touchRange_th ..)) (execEntryFetchDone_frameStore he h0 hs ha aw rb)⟩
  case start =>
    intro pr
    refine ⟨entryGo_empty, entryGo_inline, entryGo_invalid, entryGo_needsCrit, entryGo_call, ?_⟩
    intro t o
    have core : t.core o = s.startCore cp e := entryStart_core
    refine ⟨entryStart_entry, entryStart_state hcp, congrArg Core.flags core, congrArg Core.stack core, congrArg Core.pc core,
      fun h => ⟨entryStart_gw h 30, entryStart_gw h 31, fun k hk => ?_⟩, fun h hn i hi => entryStart_imem h hn hi⟩
    have other := entryStart_gw (s := s) (cp := cp) h k
    rw [if_neg (show k ≠ 31 by omega), if_neg (show k ≠ 30 by omega), ite_self] at other
    exact other
  case check =>
    intro u code
    have ends := execTrailerCheckDone_ends hc hq
    exact ⟨fun h => ends.trans (if_pos h), fun h => ends.trans (if_neg (not_not_intro h))⟩
  case release =>
    rw [exec_entryRelease]
    unfold execEntryRelease
    rw [he]
    exact if_pos h4
  case finish =>
    intro t
    obtain ⟨h1, h5, h6, small⟩ : st ≠ 1 ∧ st ≠ 5 ∧ st ≠ 6 ∧ st < 16 := by
      simp only [List.mem_cons, List.not_mem_nil, or_false] at hst
      omega
    have told : t = s.entryTold cp e st d := entryEnd_goesOn he h2 hl ⟨h1, h5, h6⟩ hr
    obtain ⟨head, lastSt, detail, tag, state⟩ := entryShown_shows (s := s) (cp := cp) (e := e) small hd
    rw [told]
    simp only [f_entryTold]
    exact ⟨entryTold_entry, head, lastSt, detail, tag, state, entryTold_events⟩
  case control =>
    exact ⟨execQueueRun_writes hq ht, execQueueStop_writes hq ht, execCxlQReset_writes hq ht⟩
  case states =>
    have bounds := qRunState_bounds (s := s) (q := q)
    refine ⟨fun h => ?_, fun h => ?_, fun p h => ?_, cxlQReset_state 0 0⟩
    · rw [queueCtrl_run h, setQState_state 0 (by omega), setQState_run_kept 0 (by omega), qRunState_eq]
      exact ⟨rfl, (f_setF ..).trans (if_pos rfl)⟩
    · rw [queueCtrl_stop_idle h]
      exact ⟨setQState_state 0 (by decide), setQState_run_cleared 0 (.inl rfl)⟩
    · rw [queueCtrl_stop_busy h]
      exact ⟨(stopReq_setStopReq ..).trans (if_pos rfl), (f_setF ..).trans (if_neg qState_ne_run)⟩
end

section
/-!
Lane pairs, spares and partner queues: which fields and which parts of the chains the operations they share change (R385, R387 to
R389, R396).
-/
open Sys2Proof Sys2Proof.Machine
namespace Sys2Proof.Machine

variable {s t u : State} {y : Fld} {b c g i k l p q : Nat}

/-! ## Fields of the chains' block (R410 to R423) -/

/-- Fields of two words are two fields. -/
theorem fldKey_ne_addr {a b lo lo' w w' : Nat} (h : lo < 32) (h' : lo' < 32) (hne : a ≠ b) :
    fldKey ⟨a, lo, w⟩ ≠ fldKey ⟨b, lo', w'⟩ := by
  simp only [fldKey]
  omega

/-- `y` lies in the block of the driver chains. -/
def lnkFld (y : Fld) : Prop := inside y 0x02A00000 0x02B00000

theorem lnkFld_word {a lo w : Nat} (h : 0x02A00000 ≤ a) (h' : a < 0x02B00000) (hlo : lo < 32) : lnkFld ⟨a, lo, w⟩ := ⟨hlo, h, h'⟩

theorem lnkFld.apart (h : lnkFld y) : apart y = true := by
  obtain ⟨hlo, h1, h2⟩ := h
  rw [Machine.apart, Bool.and_eq_true, decide_eq_true_eq, decide_eq_true_eq]
  omega

theorem lnkFld.noBank (h : lnkFld y) : noBank y = true := by
  obtain ⟨hlo, h1, h2⟩ := h
  exact decide_eq_true ⟨.inr (by omega), hlo⟩

theorem lnkFld.noFlt (h : lnkFld y) : noFlt y = true := by
  obtain ⟨hlo, h1, h2⟩ := h
  exact decide_eq_true ⟨.inl (by omega), hlo⟩

/-- No field of the chains' block is the count of free cells. -/
theorem lnkFld.ne_free (h : lnkFld y) : fldKey y ≠ fldKey fMEM_NOUGAT_FREE := by
  obtain ⟨hlo, h1, -⟩ := h
  simp only [fldKey, fMEM_NOUGAT_FREE]
  omega

/-- No field of the chains' block shows whether a table starves a queue. -/
theorem lnkFld.ne_starved (h : lnkFld y) : fldKey y ≠ fldKey (fSLT_ACT_STARVED c) := by
  obtain ⟨hlo, -, h2⟩ := h
  simp only [fldKey, fSLT_ACT_STARVED]
  omega

/-- `y` is a field that a change of a lane pair's STATE leaves alone. -/
def besideState (y : Fld) : Prop := apart y = true ∧ ∀ l < 272, fldKey y ≠ fldKey (fLNK_STATUS_STATE l)

theorem lnkFld.besideState {a lo w : Nat} (h : lnkFld ⟨a, lo, w⟩) (hlo : lo ≠ 29) : besideState ⟨a, lo, w⟩ :=
  ⟨h.apart, fun _ _ => fldKey_ne_lo h.1 (by decide) hlo⟩

/-- The words of the spares lie behind those of the lane pairs. -/
theorem spare_besideState {a lo w : Nat} (h : 0x02A10000 ≤ a) (h' : a < 0x02B00000) (hlo : lo < 32) : besideState ⟨a, lo, w⟩ :=
  ⟨(lnkFld_word (by omega) h' hlo).apart, fun _ _ => fldKey_ne_addr hlo (by decide) (by omega)⟩

/-! ## Parts -/

theorem ln_of_ch (h : t.ch = s.ch) (l : Nat) : t.ln l = s.ln l := by
  unfold State.ln
  rw [h]

theorem pq_of_ch (h : t.ch = s.ch) (c p : Nat) : t.pq c p = s.pq c p := by
  unfold State.pq
  rw [h]

theorem f_of_regs (h : t.regs = s.regs) (y : Fld) : t.f y = s.f y := by
  unfold State.f
  rw [h]

theorem ln_setLn_self (x : LaneSt) : (s.setLn l x).ln l = x := (ln_setLn ..).trans (if_pos rfl)

theorem ln_setLn_other (x : LaneSt) (h : k ≠ l) : (s.setLn l x).ln k = s.ln k := (ln_setLn ..).trans (if_neg h)

theorem f_setF_self (x : Fld) (v : Nat) : (s.setF x v).f x = v % 2 ^ x.w := (f_setF ..).trans (if_pos rfl)

theorem f_setF_ne {x : Fld} (h : fldKey y ≠ fldKey x) (v : Nat) : (s.setF x v).f y = s.f y := (f_setF ..).trans (if_neg h)

namespace Only
variable {fs : List Fld} {ps : List Part}

theorem setLn {x : LaneSt} (hp : Part.ch ∈ ps) (h : Only fs ps s t) : Only fs ps s (t.setLn l x) :=
  h.touch [.ch] (by decide) (List.forall_mem_singleton.2 hp) (.setLn (m := 1048576) .refl .refl)

theorem setPq {x : List Pkt} (hp : Part.ch ∈ ps) (h : Only fs ps s t) : Only fs ps s (t.setPq c p x) :=
  h.touch [.ch] (by decide) (List.forall_mem_singleton.2 hp) (.setPq (m := 1048576) .refl .refl)

end Only

/-! ## The owner of a chain (R352) -/

theorem chainOwner_congr (h : ∀ g < 16, t.f (fLNK_GRP_FIRST g) = s.f (fLNK_GRP_FIRST g) ∧
    t.f (fLNK_GRP_COUNT g) = s.f (fLNK_GRP_COUNT g) ∧ t.gState g = s.gState g) : t.chainOwner c = s.chainOwner c := by
  have range : ∀ g < 16, t.inRange g c = s.inRange g c := fun g hg => by
    obtain ⟨first, count, -⟩ := h g hg
    unfold State.inRange
    rw [first, count]
  have any : (allGroups.find? fun g => t.inRange g c) = allGroups.find? fun g => s.inRange g c :=
    List.find?_congr fun g hg => range g (List.mem_range.1 hg)
  have active : (allGroups.find? fun g => t.inRange g c && t.gState g != 0) = allGroups.find? fun g => s.inRange g c && s.gState g != 0 :=
    List.find?_congr fun g hg => by
      obtain ⟨-, -, state⟩ := h g (List.mem_range.1 hg)
      rw [range g (List.mem_range.1 hg), state]
  unfold State.chainOwner
  rw [any, active]

/-- The owner of a chain is told by no field of a lane pair. -/
theorem chainOwner_setF {x : Fld} (h : inside x 0x02A00000 0x02A10000) (v : Nat) : (s.setF x v).chainOwner c = s.chainOwner c :=
  chainOwner_congr fun g hg => by
    obtain ⟨hlo, h1, h2⟩ := h
    refine ⟨f_setF_ne ?_ v, f_setF_ne ?_ v, f_setF_ne ?_ v⟩
    · simp only [fldKey, fLNK_GRP_FIRST]
      omega
    · simp only [fldKey, fLNK_GRP_COUNT]
      omega
    · simp only [fldKey, fTMG_STATUS_STATE]
      omega

theorem laneLocus_setF {x : Fld} (h : inside x 0x02A00000 0x02A10000) (v : Nat) : (s.setF x v).laneLocus c = s.laneLocus c := by
  unfold State.laneLocus
  rw [chainOwner_setF h]

/-! ## A change of STATE (R387 to R389) -/

theorem f_setLnSt_beside (h : besideState y) (hl : l < 272) (st cause : Nat) : (s.setLnSt l st cause).f y = s.f y :=
  f_setLnSt h.1 (h.2 l hl) st cause

theorem setLnSt_touch (st cause : Nat) : Touch 66 s (s.setLnSt l st cause) := .setLnSt (m := 66) .refl .refl

theorem setLnSt_ch (st cause : Nat) : (s.setLnSt l st cause).ch = s.ch := touch_same (setLnSt_touch st cause) .ch (by decide)

/-- A lane pair whose STATE changes tells it (R406). -/
theorem setLnSt_raised {st : Nat} (hl : l < 272) (hne : s.lnSt l ≠ st) (cause : Nat) :
    Raised s (s.setLnSt l st cause) 0x160 (laneOrigin l) (s.laneLocus l) [(8, st), (8, s.lnSt l), (8, cause)] := by
  have word : inside (fLNK_STATUS_STATE l) 0x02A00000 0x02A10000 :=
    ⟨by simp only [fLNK_STATUS_STATE]; omega, by simp only [fLNK_STATUS_STATE]; omega, by simp only [fLNK_STATUS_STATE]; omega⟩
  unfold State.setLnSt
  dsimp only
  rw [if_neg hne, State.raiseLane, laneLocus_setF word]
  exact raised_raise (s := s) rfl rfl ..

theorem relock_touch : Touch 66 s (s.relock c) := .relock (m := 66) .refl .refl

theorem f_relock (h : besideState y) (hc : c < 272) : (s.relock c).f y = s.f y := by
  unfold State.relock
  dsimp only
  split
  · exact f_setLnSt_beside h hc 1 1
  · rfl

theorem relockBundle_ch : (s.relockBundle k).ch = s.ch :=
  touch_same (m := 66) (.relockBundle (m := 66) .refl .refl) .ch (by decide)

theorem f_relockBundle (h : besideState y) (hk : k < 16) : (s.relockBundle k).f y = s.f y := by
  have fold : ∀ (l : List Nat), (∀ i ∈ l, i < 16) → ∀ t : State, (l.foldl (fun s i => s.relock (16 * k + i)) t).f y = t.f y := by
    intro l
    induction l with
    | nil => exact fun _ t => rfl
    | cons i l ih =>
      intro hl t
      have hi : i < 16 := hl i List.mem_cons_self
      rw [List.foldl_cons, ih (fun j hj => hl j (List.mem_cons_of_mem _ hj)), f_relock h (by omega)]
  exact fold _ (fun i hi => List.mem_range.1 hi) s

/-! ## Queues (R383, R385, R388, R404) -/

theorem f_keepPq (h : fldKey y ≠ fldKey fMEM_NOUGAT_FREE) (x : List Pkt) : (s.keepPq c p x).f y = s.f y := f_setF_ne h _

theorem pq_keepPq (x : List Pkt) : (s.keepPq c p x).pq c q = if qKey c q = qKey c p then x else s.pq c q := pq_setPq ..

/-- Bringing STARVED up to date changes nothing of a lane pair but its starved queues. -/
theorem unstarve_ln : (s.unstarve c).ln k = { s.ln k with starved := ((s.unstarve c).ln k).starved } := by
  unfold State.unstarve
  simp only [ln_setOn, ln_setLn]
  split
  next h => rw [h]
  next => rfl

theorem unstarve_flush : ((s.unstarve c).ln k).flush = (s.ln k).flush := by
  rw [unstarve_ln]

theorem unstarve_enumReq : ((s.unstarve c).ln k).enumReq = (s.ln k).enumReq := by
  rw [unstarve_ln]

theorem f_unstarve (h : fldKey y ≠ fldKey (fSLT_ACT_STARVED c)) : (s.unstarve c).f y = s.f y := f_setF_ne h _

theorem pq_unstarve : (s.unstarve c).pq k p = s.pq k p := rfl

theorem f_cmdFailed (h : fldKey y ≠ fldKey (fLNK_DLV_FAILS c)) (x : Pkt) (nak : Nat) : (s.cmdFailed c p x nak).f y = s.f y := f_setF_ne h _

theorem cmdFailed_foldl {x : List Pkt} (h : fldKey y ≠ fldKey (fLNK_DLV_FAILS c)) : ∀ t : State,
    (x.foldl (fun s k => s.cmdFailed c p k 0) t).ch = t.ch ∧ (x.foldl (fun s k => s.cmdFailed c p k 0) t).f y = t.f y := by
  induction x with
  | nil => exact fun t => ⟨rfl, rfl⟩
  | cons k x ih => exact fun t => ⟨(ih _).1, (ih _).2.trans (f_cmdFailed h k 0)⟩

/-! ## A chain enters ENUM (R388) -/

/-- The queue of position `p` as its chain enters ENUM: what was outstanding or begun is dropped. -/
def State.enumDrop (c : Nat) (s : State) (p : Nat) : State :=
  let l := s.pq c p
  let s := s.keepPq c p ((l.filter fun k => !k.started).map fun k => { k with seq := none, sent := 0 })
  if p = 15 then s else (l.filter fun k => k.started).foldl (fun s k => s.cmdFailed c p k 0) s

/-- The queues of a chain after that. -/
def State.enumDropped (s : State) (c : Nat) : State := (List.range 16).foldl (State.enumDrop c) s

/-- No count of an ENUM is kept, and no ENUM waits any more. -/
def State.enumCleared (s : State) (c : Nat) : State := (s.setLn c { s.ln c with enumCount := none, enumReq := false }).unstarve c

theorem enterEnum_eq (cause : Nat) : s.enterEnum c cause = ((s.enumDropped c).enumCleared c).setLnSt c 2 cause := rfl

theorem enumCleared_pq : (s.enumCleared c).pq k p = s.pq k p := rfl

theorem f_enumCleared (h : fldKey y ≠ fldKey (fSLT_ACT_STARVED c)) : (s.enumCleared c).f y = s.f y := (f_unstarve h).trans (f_setLn ..)

theorem enumDrop_nil (h : s.pq c q = []) : (s.enumDrop c p).pq c q = [] := by
  have kept : (s.keepPq c p (((s.pq c p).filter fun k => !k.started).map fun k => { k with seq := none, sent := 0 })).pq c q = [] := by
    rw [pq_keepPq]
    split
    next e =>
      have hpq : q = p := by
        unfold qKey at e
        omega
      rw [← hpq, h]
      rfl
    next => exact h
  unfold State.enumDrop
  dsimp only
  split
  · exact kept
  · rw [pq_of_ch (cmdFailed_foldl (y := ⟨0, 0, 0⟩) (by simp only [fldKey, fLNK_DLV_FAILS]; omega) _).1, kept]

theorem enterEnum_nil (h : s.pq c q = []) (cause : Nat) : (s.enterEnum c cause).pq c q = [] := by
  have drop : ∀ (l : List Nat) (t : State), t.pq c q = [] → (l.foldl (State.enumDrop c) t).pq c q = [] := by
    intro l
    induction l with
    | nil => exact fun _ h => h
    | cons p l ih => exact fun t h => ih _ (enumDrop_nil h)
  rw [enterEnum_eq, pq_of_ch (setLnSt_ch ..), enumCleared_pq]
  exact drop _ s h

theorem enterEnum_lnSt (hc : c < 272) (cause : Nat) : (s.enterEnum c cause).lnSt c = 2 := by
  rw [enterEnum_eq]
  exact lnSt_setLnSt hc (by decide) cause

/-- `y` is a field of the chains' block that entering ENUM leaves alone on chain `c`. -/
theorem f_enterEnum (hc : c < 272) (h : lnkFld y) (hst : besideState y) (hf : fldKey y ≠ fldKey (fLNK_DLV_FAILS c)) (cause : Nat) :
    (s.enterEnum c cause).f y = s.f y := by
  have drop : ∀ (l : List Nat) (t : State), (l.foldl (State.enumDrop c) t).f y = t.f y := by
    intro l
    induction l with
    | nil => exact fun t => rfl
    | cons p l ih =>
      intro t
      rw [List.foldl_cons, ih]
      unfold State.enumDrop
      dsimp only
      split
      · exact f_keepPq h.ne_free _
      · exact (cmdFailed_foldl hf _).2.trans (f_keepPq h.ne_free _)
  rw [enterEnum_eq, f_setLnSt_beside hst hc, f_enumCleared h.ne_starved]
  exact drop _ s

/-! ## A packet boundary (R385, R389) -/

/-- Queue `p` after a flush that waited for its packet boundary. -/
def State.flushDone (s : State) (c p : Nat) : State :=
  if bit (s.ln c).flush p = 1 then ((s.setLn c { s.ln c with flush := (s.ln c).flush - 2 ^ p }).flushPq c p).2.unstarve c else s

/-- Chain `c` after an ENUM that waited until no queue is in the middle of a packet. -/
def State.enumDone (s : State) (c : Nat) : State :=
  if (s.ln c).enumReq ∧ ¬ (List.range 16).any (fun q => s.midPacket c q) then
    (if s.lnSt c = 3 then s.enterEnum c 0 else s.setLn c { s.ln c with enumReq := false })
  else s

theorem boundary_mid (h : s.midPacket c p = true) : s.boundary c p = s := if_pos h

theorem boundary_between (h : s.midPacket c p = false) : s.boundary c p = (s.flushDone c p).enumDone c :=
  if_neg (by rw [h]; decide)

/-- Nothing waits for the boundary. -/
theorem boundary_idle (hf : bit (s.ln c).flush p = 0) (he : (s.ln c).enumReq = false) : s.boundary c p = s := by
  by_cases h : s.midPacket c p = true
  · exact boundary_mid h
  · have flush : s.flushDone c p = s := if_neg (by rw [hf]; decide)
    rw [boundary_between (Bool.eq_false_iff.2 h), flush]
    exact if_neg (by rw [he]; simp)

/-- A queue between two packets keeps none that is leaving. -/
theorem flushed_nil (h : s.midPacket c p = false) :
    (((s.pq c p).filter fun k => k.begun && !k.out).map fun k => { k with flushed := true }) = [] := by
  unfold State.midPacket at h
  rw [List.any_eq_false] at h
  rw [List.filter_eq_nil_iff.2 h]
  rfl

theorem flushDone_pq (hb : bit (s.ln c).flush p = 1) (h : s.midPacket c p = false) : (s.flushDone c p).pq c p = [] := by
  unfold State.flushDone
  rw [if_pos hb, pq_unstarve]
  exact (pq_keepPq _).trans ((if_pos rfl).trans (flushed_nil h))

theorem flushDone_lnSt (hc : c < 272) : (s.flushDone c p).lnSt c = s.lnSt c := by
  have word : lnkFld (fLNK_STATUS_STATE c) := lnkFld_word (by omega) (by omega) (by decide)
  unfold State.flushDone
  split
  · exact (f_unstarve word.ne_starved).trans (f_keepPq word.ne_free _)
  · rfl

theorem flushDone_enumReq : ((s.flushDone c p).ln c).enumReq = (s.ln c).enumReq := by
  unfold State.flushDone
  split
  · rw [unstarve_enumReq]
    exact (congrArg LaneSt.enumReq (ln_setLn_self (s := s) _)).trans rfl
  · rfl

/-- A flush leaves every queue that was between two packets there. -/
theorem flushDone_midPacket (h : s.midPacket c p = false) (hq : s.midPacket c q = false) : (s.flushDone c p).midPacket c q = false := by
  unfold State.flushDone
  split
  next hb =>
    unfold State.midPacket
    rw [pq_unstarve]
    refine (congrArg (fun l => List.any l _) (pq_keepPq _)).trans ?_
    dsimp only
    split
    next =>
      exact (congrArg (fun l => List.any l _) (flushed_nil h)).trans rfl
    next => exact hq
  next => exact hq

theorem f_boundary (hc : c < 272) (h : lnkFld y) (hst : besideState y) (hf : fldKey y ≠ fldKey (fLNK_DLV_FAILS c)) :
    (s.boundary c p).f y = s.f y := by
  have flush : (s.flushDone c p).f y = s.f y := by
    unfold State.flushDone
    split
    · exact (f_unstarve h.ne_starved).trans (f_keepPq h.ne_free _)
    · rfl
  by_cases hm : s.midPacket c p = true
  · rw [boundary_mid hm]
  · rw [boundary_between (Bool.eq_false_iff.2 hm), State.enumDone]
    split
    · split
      · rw [f_enterEnum hc h hst hf, flush]
      · exact flush
    · exact flush

end Sys2Proof.Machine
end

section
/-!
The transmitter of a lane pair: what sending changes, and what a single block puts out (R355, R358, R370, R371).
-/
open Sys2Proof Sys2Proof.Machine
namespace Sys2Proof.Machine

variable {s t u : State} {x y z : LaneSt} {b c k l n kind fuel : Nat} {bs : List Byte}

/-! ## What sending changes -/

/-- From `x` to `y` only the books of the blocks sent changed. -/
def LaneSt.Sends (x y : LaneSt) : Prop :=
  y = { x with txAt := y.txAt, txFill := y.txFill, idleFrom := y.idleFrom, idleRun := y.idleRun }

theorem LaneSt.Sends.refl : x.Sends x := rfl

theorem LaneSt.Sends.trans (h : x.Sends y) (g : y.Sends z) : x.Sends z := by
  unfold LaneSt.Sends at *
  rw [g, h]

theorem LaneSt.Sends.books (h : x.Sends y) (a f i : Nat) (r : Nat × Nat) :
    x.Sends { y with txAt := a, txFill := f, idleFrom := i, idleRun := r } := by
  unfold LaneSt.Sends at *
  rw [h]

theorem idleOn_sends : x.Sends (x.idleOn k) := by
  unfold LaneSt.idleOn LaneSt.endIdle
  dsimp only
  split
  · rfl
  · split <;> rfl

/-- From `s` to `t` blocks were sent on lane pairs, and nothing else was done. -/
structure Transmits (s t : State) : Prop where
  rest : t = { s with outs := t.outs, ch := { s.ch with lanes := t.ch.lanes } }
  lane : ∀ k, (s.ln k).Sends (t.ln k)
  outs : ∃ L, t.outs = L ++ s.outs

namespace Transmits

theorem refl : Transmits s s := ⟨rfl, fun _ => .refl, [], rfl⟩

theorem trans (h : Transmits s t) (g : Transmits t u) : Transmits s u := by
  obtain ⟨L, hL⟩ := h.outs
  obtain ⟨M, hM⟩ := g.outs
  refine ⟨?_, fun k => (h.lane k).trans (g.lane k), M ++ L, by rw [hM, hL, List.append_assoc]⟩
  rw [g.rest, h.rest]

theorem lane_out (h : (s.ln l).Sends x) (o : Out) : Transmits s ((s.setLn l x).out o) := by
  refine ⟨rfl, fun k => ?_, [o], rfl⟩
  rw [ln_out, ln_setLn]
  split
  next e => rw [e]; exact h
  next => exact .refl

theorem ite {p : Prop} {_ : Decidable p} (h : Transmits s t) (g : Transmits s u) : Transmits s (if p then t else u) := by
  split <;> assumption

theorem foldl {α : Type} {F : State → α → State} (h : ∀ s a, Transmits s (F s a)) (L : List α) : ∀ s, Transmits s (L.foldl F s) := by
  induction L with
  | nil => exact fun _ => refl
  | cons a L ih => exact fun s => (h s a).trans (ih _)

theorem idleTo : Transmits s (s.idleTo l n) := by
  unfold State.idleTo
  dsimp only
  exact ite refl (ite (lane_out (idleOn_sends.books _ _ _ _) _) (lane_out idleOn_sends _))

theorem txRun : ∀ (fuel kind : Nat) (bs : List Byte) (s : State), Transmits s (txRun l fuel kind bs s) := by
  intro fuel
  induction fuel with
  | zero => exact fun _ _ _ => refl
  | succ fuel ih =>
    intro kind bs s
    unfold Machine.txRun
    dsimp only
    have sent (x : LaneSt) (h : (s.ln l).Sends x) (o : Out) (k : Nat) (b : List Byte) :
        Transmits s (Machine.txRun l fuel k b ((s.setLn l x).out o)) := (lane_out h o).trans (ih k b _)
    exact ite refl (ite (sent _ (LaneSt.Sends.refl.books _ _ _ _) _ _ _) (sent _ (LaneSt.Sends.refl.books _ _ _ _) _ _ _))

theorem drive : Transmits s (s.drive l kind bs) := by
  unfold State.drive
  exact ite (txRun _ _ _ _) refl

theorem alignOn : Transmits s (s.alignOn l bs) := by
  unfold State.alignOn
  exact ite refl (idleTo.trans drive)

theorem regs (h : Transmits s t) : t.regs = s.regs := by
  rw [h.rest]

theorem time (h : Transmits s t) : t.time = s.time := by
  rw [h.rest]

theorem f (h : Transmits s t) (y : Fld) : t.f y = s.f y := f_of_regs h.regs y

theorem lnSt (h : Transmits s t) : t.lnSt l = s.lnSt l := h.f _

theorem txOn (h : Transmits s t) : t.txOn l = s.txOn l := by
  unfold State.txOn State.lnSt State.on
  rw [h.f, h.f]

theorem txEnd (h : Transmits s t) : (t.ln l).txEnd = (s.ln l).txEnd := by
  rw [h.lane l]

theorem wakeAt (h : Transmits s t) : (t.ln l).wakeAt = (s.ln l).wakeAt := by
  rw [h.lane l]

theorem mem (h : Transmits s t) {o : Out} (ho : o ∈ s.outs) : o ∈ t.outs := by
  obtain ⟨L, hL⟩ := h.outs
  rw [hL]
  exact List.mem_append_right L ho

end Transmits

/-! ## One block -/

theorem txRun_nil : txRun l (fuel + 1) kind [] s = s := by
  unfold Machine.txRun
  exact if_pos (.inl rfl)

section
variable (hb : bs.length = 8) (hend : (s.ln l).txEnd = none)
include hb hend

/-- A block goes out where no FILL is due before it (R358). -/
theorem txRun_block (hf : (s.ln l).txFill < 2047) : (txRun l (fuel + 2) 0 bs s).outs = .lane l 0 bs :: s.outs := by
  have hn : min (min (bs.length / 8) (2047 - (s.ln l).txFill)) (bs.length / 8) = 1 := by
    rw [hb]
    omega
  unfold Machine.txRun
  dsimp only
  rw [hend]
  dsimp only
  rw [hn, if_neg, if_neg (by decide), if_pos rfl, Nat.mul_one, List.take_of_length_le (by omega), List.drop_eq_nil_of_le (by omega),
    txRun_nil]
  · rfl
  · rintro (h | h)
    · rw [h] at hb
      cases hb
    · omega

/-- The FILL that is due goes out first. -/
theorem txRun_fill (hf : 2047 ≤ (s.ln l).txFill) : (txRun l (fuel + 3) 0 bs s).outs = .lane l 0 bs :: .idle l 1 1023 :: s.outs := by
  have hn : min (min (bs.length / 8) (2047 - (s.ln l).txFill)) (bs.length / 8) = 0 := by omega
  unfold Machine.txRun
  dsimp only
  rw [hend]
  dsimp only
  rw [hn, if_neg, if_pos rfl, txRun_block hb]
  · rfl
  · exact (congrArg LaneSt.txEnd (ln_setLn_self (s := s) _)).trans hend
  · exact (congrArg LaneSt.txFill (ln_setLn_self (s := s) _)).trans_lt (show 0 < 2047 by decide)
  · rintro (h | h)
    · rw [h] at hb
      cases hb
    · omega

/-- One control block, on a lane pair whose transmitter is on and that no slot cuts off. -/
theorem drive_block (hon : s.txOn l = true) :
    ∃ L, (s.drive l 0 bs).outs = .lane l 0 bs :: (L ++ s.outs) ∧ (L = [] ∨ L = [.idle l 1 1023]) := by
  unfold State.drive
  rw [if_pos hon, hb]
  by_cases hf : (s.ln l).txFill < 2047
  · exact ⟨[], txRun_block hb hend hf, .inl rfl⟩
  · exact ⟨_, txRun_fill hb hend (Nat.le_of_not_lt hf), .inr rfl⟩

theorem drive_mem (hon : s.txOn l = true) : .lane l 0 bs ∈ (s.drive l 0 bs).outs := by
  obtain ⟨L, hL, -⟩ := drive_block hb hend hon
  rw [hL]
  exact List.mem_cons_self

end

/-- A control block is eight bytes (R356). -/
theorem ctlBlock_length (t : Nat) {d : List Nat} (h : d.length = 6) : (ctlBlock t d).length = 8 := by
  unfold ctlBlock bytesOf
  simp [h]

end Sys2Proof.Machine
end

section
/-!
A lane pair comes up, enumerates, aligns and sends (R356, R360, R361, R370, R372, R385, R387 to R389).
-/
open Sys2Proof Sys2Proof.Machine
namespace Sys2Proof.Machine

variable {s t u : State} {c g i k l n p slot : Nat} {req : Req} {data : Word} {bs : List Byte}

theorem on_of_zero {x : Fld} (h : s.f x = 0) : s.on x = false := bne_eq_false_iff_eq.2 h

theorem on_of_one {x : Fld} (h : s.f x = 1) : s.on x = true := bne_iff_ne.2 (by rw [h]; decide)

/-! ## Enabling a lane pair (R387) -/

theorem execLaneEnable_writes (hl : l < 272) (ht : s.takesWrite req (fLNK_CFG_EN l).addr = true) (h : data.getLsbD 31 = true) :
    exec (.laneEnable req l data) s = .next ((s.putFields (fLNK_CFG_EN l).addr data.toNat regLNK_CFG.fields (s.lnSt l == 0)
      (atBits [])).laneEn l (s.on (fLNK_CFG_EN l)) true).wakeBanks := by
  rw [exec_laneEnable]
  unfold execLaneEnable wbit
  rw [rowWrite_of s (by rw [h, decide_eq_true hl]; rfl), write_LNK_CFG hl ht data.isLt, writeRaster_LNK_CFG, wbit_one h]

/-- A lane pair that is enabled comes up in TEST where a test mode is chosen, and blind in LOCKING elsewhere. -/
theorem laneEn_starts (hl : l < 272) : (s.laneEn l false true).lnSt l = if s.testMode l then 4 else 1 := by
  have beside : besideState (fLNK_TEST_MODE l) :=
    (lnkFld_word (by omega) (by omega) (by decide)).besideState (by decide)
  have relocked : (if l < 256 then s.relock l else s).f (fLNK_TEST_MODE l) = s.f (fLNK_TEST_MODE l) := by
    split
    · exact f_relock beside hl
    · rfl
  have lock : fldKey (fLNK_STATUS_STATE l) ≠ fldKey (fLNK_TEST_CHK_LOCK l) := fldKey_ne_lo (by decide) (by decide) (by decide)
  unfold State.laneEn
  dsimp only
  generalize (if l < 256 then s.relock l else s) = v at relocked ⊢
  have mode : v.testMode l = s.testMode l := by
    unfold State.testMode
    rw [relocked]
  rw [if_neg (by decide), if_pos rfl, mode]
  refine (f_setF_ne lock _).trans (lnSt_setLnSt hl ?_ 0)
  split <;> decide

/-- A write of LNK_CFG leaves the test mode of the lane pair. -/
theorem laneCfg_mode (hl : l < 272) {v : Nat} {st : Bool} {sk : FldRow → Bool} :
    (s.putFields (fLNK_CFG_EN l).addr v regLNK_CFG.fields st sk).f (fLNK_TEST_MODE l) = s.f (fLNK_TEST_MODE l) := by
  have small : ∀ f ∈ regLNK_CFG.fields, f.lo < 32 := by decide
  refine f_putFields_ne _ (lnkFld_word (by omega) (by omega) (by decide)).noFlt
    (fun f hf => fldKey_ne_addr (by decide) (small f hf) ?_) s
  simp only [fLNK_CFG_EN]
  omega

/-! ## Block lock (R388, R389) -/

theorem execBlockLockGained_locking (hl : l < 256) (hb : s.f (fLNK_STATUS_BLOCK_LOCK l) = 0)
    (ha : s.f (fLNK_STATUS_RX_ASLEEP l) = 0) (h1 : s.lnSt l = 1) : exec (.blockLockGained l) s =
      .next (((s.setF (fLNK_STATUS_BLOCK_LOCK l) 1).setLn l { s.ln l with lockLost := false }).enterEnum l 2) := by
  have state : (s.setF (fLNK_STATUS_BLOCK_LOCK l) 1).lnSt l = s.lnSt l := f_setF_ne (fldKey_ne_lo (by decide) (by decide) (by decide)) 1
  rw [exec_blockLockGained]
  unfold execBlockLockGained
  rw [if_neg, if_neg (by omega)]
  · exact congrArg _ (if_pos (state.trans h1))
  · rw [on_of_zero hb, on_of_zero ha, h1]
    simp only [Bool.false_eq_true, or_false, Nat.one_ne_zero]
    omega

/-- Lane pair `l` has lost block lock. -/
def State.lockGone (s : State) (l : Nat) : State := (s.setF (fLNK_STATUS_BLOCK_LOCK l) 0).setLn l { s.ln l with lockLost := true }

theorem execBlockLockLost_chain (hl : l < 256) (hb : s.f (fLNK_STATUS_BLOCK_LOCK l) = 1) : exec (.blockLockLost l) s =
    .next (if s.lnSt l = 2 then (s.lockGone l).setLnSt l 1 1 else (s.lockGone l).relock l) := by
  have state : (s.lockGone l).lnSt l = s.lnSt l := f_setF_ne (fldKey_ne_lo (by decide) (by decide) (by decide)) 0
  rw [exec_blockLockLost]
  unfold execBlockLockLost
  rw [if_neg (by rw [on_of_one hb]; simp only [not_true_eq_false, or_false]; omega), if_neg (by omega)]
  by_cases h2 : s.lnSt l = 2
  · rw [if_pos h2]
    exact if_pos (state.trans h2)
  · rw [if_neg h2]
    exact if_neg (state.trans_ne h2)

theorem lockGone_lock : (s.lockGone l).f (fLNK_STATUS_BLOCK_LOCK l) = 0 := f_setF_self _ _

theorem canSwitch_congr (h : t.f (fLNK_CFG_AUTO_SPARE c) = s.f (fLNK_CFG_AUTO_SPARE c))
    (hp : t.f (fLNK_SPARE_PROT (spareOf c)) = s.f (fLNK_SPARE_PROT (spareOf c)))
    (ha : t.f (fLNK_SPARE_ACTIVE (spareOf c)) = s.f (fLNK_SPARE_ACTIVE (spareOf c)))
    (hl : t.ln (256 + spareOf c) = s.ln (256 + spareOf c)) : t.canSwitch c = s.canSwitch c := by
  unfold State.canSwitch State.spareFree State.on
  rw [h, hp, ha, hl]

/-- No field of a lane pair's LNK_STATUS tells whether a switch can start. -/
theorem canSwitch_setStatus (hc : c < 256) (hl : l < 272) {lo w : Nat} (hlo : lo < 32) (v : Nat) :
    (s.setF ⟨0x02A00008 + 0x40 * l, lo, w⟩ v).canSwitch c = s.canSwitch c :=
  canSwitch_congr (f_setF_ne (fldKey_ne_addr (by decide) hlo (by omega)) v)
    (f_setF_ne (fldKey_ne_addr (by decide) hlo (by unfold spareOf; omega)) v)
    (f_setF_ne (fldKey_ne_addr (by decide) hlo (by unfold spareOf; omega)) v) rfl

theorem lockGone_canSwitch (hl : l < 256) : (s.lockGone l).canSwitch l = s.canSwitch l :=
  (canSwitch_congr (s := s.setF (fLNK_STATUS_BLOCK_LOCK l) 0) (t := s.lockGone l) rfl rfl rfl (ln_setLn_other _ (by omega))).trans
    (canSwitch_setStatus hl (by omega) (by decide) 0)

/-- A switch of its spare for chain `c` is decided or done. -/
def State.switchOf (s : State) (c : Nat) : Prop := (s.ln (256 + spareOf c)).sw ≠ 0 ∧ s.spareChain (spareOf c) = c

theorem lockGone_switchOf (hl : l < 256) : (s.lockGone l).switchOf l ↔ s.switchOf l := by
  have spare : (s.lockGone l).ln (256 + spareOf l) = s.ln (256 + spareOf l) := ln_setLn_other _ (by omega)
  unfold State.switchOf State.spareChain
  rw [spare]

/-- A chain without block lock that nothing can carry is locked again (R389). -/
theorem relock_locks (hc : c < 272) (h3 : s.lnSt c = 3) (hl : (s.ln c).lockLost = true) (hs : s.canSwitch c = false)
    (hn : ¬ s.switchOf c) : (s.relock c).lnSt c = 1 := by
  have goes : s.relock c = s.setLnSt c 1 1 := if_pos ⟨h3, hl, by rw [hs]; decide, hn⟩
  rw [goes]
  exact lnSt_setLnSt hc (by decide) 1

/-- A chain whose spare can take it, or does, keeps its STATE (R709). -/
theorem relock_waits (h : s.canSwitch c = true ∨ s.switchOf c) : s.relock c = s :=
  if_neg fun ⟨_, _, hs, hn⟩ => h.elim hs hn

theorem blockLockLost_chain (hl : l < 256) (hb : s.f (fLNK_STATUS_BLOCK_LOCK l) = 1) : ∃ t, exec (.blockLockLost l) s = .next t ∧
    t.f (fLNK_STATUS_BLOCK_LOCK l) = 0 ∧ (s.lnSt l = 2 → t.lnSt l = 1) ∧
    (s.lnSt l = 3 → s.canSwitch l = false → (s.ln (256 + spareOf l)).sw = 0 → t.lnSt l = 1) ∧
    (s.lnSt l = 3 → s.canSwitch l = true ∨ ((s.ln (256 + spareOf l)).sw ≠ 0 ∧ s.spareChain (spareOf l) = l) → t.lnSt l = 3) := by
  have beside : besideState (fLNK_STATUS_BLOCK_LOCK l) := (lnkFld_word (by omega) (by omega) (by decide)).besideState (by decide)
  have state : (s.lockGone l).lnSt l = s.lnSt l := f_setF_ne (fldKey_ne_lo (by decide) (by decide) (by decide)) 0
  have lost : ((s.lockGone l).ln l).lockLost = true := by
    unfold State.lockGone
    rw [ln_setLn_self]
  refine ⟨_, execBlockLockLost_chain hl hb, ?_, fun h2 => ?_, fun h3 hs h0 => ?_, fun h3 hs => ?_⟩
  · split
    · exact (f_setLnSt_beside beside (by omega) 1 1).trans lockGone_lock
    · exact (f_relock beside (by omega)).trans lockGone_lock
  · rw [if_pos h2]
    exact lnSt_setLnSt (by omega) (by decide) 1
  · rw [if_neg (by omega)]
    exact relock_locks (by omega) (state.trans h3) lost ((lockGone_canSwitch hl).trans hs)
      (fun h => ((lockGone_switchOf hl).1 h).1 h0)
  · rw [if_neg (by omega), relock_waits (hs.imp (lockGone_canSwitch hl).trans (lockGone_switchOf hl).2)]
    exact state.trans h3

/-! ## Enumeration (R388) -/

/-- A chain that no spare carries and that is not waking is sent on its own lane pair alone. -/
theorem lanesOf_alone (h : s.lnSt c ≠ 5) (hw : (s.ln c).wakeAt = none) : s.lanesOf c = [c] := by
  have own : (if c < 256 ∧ s.lnSt c = 5 then [c, 256 + c / 16] else [c]) = [c] := if_neg fun hc => h hc.2
  unfold State.lanesOf
  rw [own]
  cases hl : (s.ln c).lineOn <;> simp [List.filter, hl, hw]

theorem sendCtl_alone (h : s.lnSt c ≠ 5) (hw : (s.ln c).wakeAt = none) : s.sendCtl c bs = s.drive c 0 bs := by
  unfold State.sendCtl
  rw [lanesOf_alone h hw]
  rfl

/-- An ENUM leaves on a chain in ENUM that is neither asleep, nor waking, nor cut off. -/
theorem enumBlock_leaves (h2 : s.lnSt c = 2) (ha : s.f (fLNK_STATUS_TX_ASLEEP c) = 0) (hw : (s.ln c).wakeAt = none)
    (hend : (s.ln c).txEnd = none) (d : List Nat) (hd : d.length = 6) :
    .lane c 0 (ctlBlock 0x66 d) ∈ ((s.idleTo c n).sendCtl c (ctlBlock 0x66 d)).outs := by
  have idle : Transmits s (s.idleTo c n) := .idleTo
  have on : (s.idleTo c n).txOn c = true := by
    rw [idle.txOn, State.txOn, on_of_zero ha, h2]
    rfl
  rw [sendCtl_alone (by rw [idle.lnSt, h2]; decide) (idle.wakeAt.trans hw)]
  exact drive_mem (ctlBlock_length _ hd) (idle.txEnd.trans hend) on

/-- The end of enumeration: the count is shown, the SEQ spaces begin at 0, the chain is UP. -/
def State.enumerated (s : State) (c n : Nat) : State :=
  ((((s.setLn c { s.ln c with enumCount := none }).setF (fLNK_STATUS_PARTNERS c) n).zeroSeqs c).setLnSt c 3 3)

theorem f_zeroSeqs (y : Fld) : (s.zeroSeqs c).f y = s.f y :=
  f_of_regs (touch_same (m := 1048576) (.zeroSeqs .refl .refl) .regs (by decide)).1 y

theorem enumerated_shows (hc : c < 256) (hn : n < 32) :
    (s.enumerated c n).lnSt c = 3 ∧ (s.enumerated c n).f (fLNK_STATUS_PARTNERS c) = n := by
  have beside : besideState (fLNK_STATUS_PARTNERS c) := (lnkFld_word (by omega) (by omega) (by decide)).besideState (by decide)
  unfold State.enumerated
  rw [lnSt_setLnSt (by omega) (by decide), f_setLnSt_beside beside (by omega), f_zeroSeqs, f_setF_self]
  exact ⟨rfl, Nat.mod_eq_of_lt hn⟩

theorem execEnumReturn_enum (hc : c < 256) (h2 : s.lnSt c = 2) (ovf : Bool) : exec (.enumReturn c n ovf) s = .next (
    if ovf then ((s.setLn c { s.ln c with enumCount := none }).setF (fLNK_STATUS_PARTNERS c) 17).raiseLane 0x161 c
      [(8, 17), (8, s.f (fLNK_CFG_EXPECT c)), (8, b2n (decide (s.f (fLNK_CFG_EXPECT c) ≠ 17)))]
    else if (s.ln c).enumCount = some n then (s.enumerated c n).raiseLane 0x161 c
      [(8, n), (8, s.f (fLNK_CFG_EXPECT c)), (8, b2n (decide (n ≠ s.f (fLNK_CFG_EXPECT c))))]
    else s.setLn c { s.ln c with enumCount := some n }) := by
  rw [exec_enumReturn]
  unfold execEnumReturn
  rw [if_neg (by rw [h2]; omega)]
  split
  · rfl
  · split <;> rfl

theorem enumReturn_enum (hc : c < 256) (h2 : s.lnSt c = 2) (hn : n < 32) (ovf : Bool) : ∃ t, exec (.enumReturn c n ovf) s = .next t ∧
    (ovf = true → t.lnSt c = 2 ∧ t.f (fLNK_STATUS_PARTNERS c) = 17) ∧
    (ovf = false → (s.ln c).enumCount ≠ some n → t.lnSt c = 2 ∧ (t.ln c).enumCount = some n) ∧
    (ovf = false → (s.ln c).enumCount = some n → t.lnSt c = 3 ∧ t.f (fLNK_STATUS_PARTNERS c) = n) := by
  have state : fldKey (fLNK_STATUS_STATE c) ≠ fldKey (fLNK_STATUS_PARTNERS c) := fldKey_ne_lo (by decide) (by decide) (by decide)
  refine ⟨_, execEnumReturn_enum hc h2 ovf, fun ho => ?_, fun ho hne => ?_, fun ho he => ?_⟩
  · rw [if_pos ho]
    exact ⟨(f_setF_ne state 17).trans h2, f_setF_self _ 17⟩
  · rw [if_neg (by rw [ho]; decide), if_neg hne]
    exact ⟨(f_setLn ..).trans h2, by rw [ln_setLn_self]⟩
  · rw [if_neg (by rw [ho]; decide), if_pos he]
    exact enumerated_shows hc hn

/-! ## ALIGN (R360, R361) -/

/-- A spare that is asked for nothing does nothing at an ALIGN. -/
theorem spareAlign_rests (hs : (s.ln (256 + k)).sw = 0) (hr : (s.ln (256 + k)).release = false) : s.spareAlign k = s := by
  unfold State.spareAlign
  dsimp only
  rw [if_neg (by rw [hr]; simp), if_neg (by rw [hs]; decide), if_neg (by rw [hs]; decide)]

theorem alignOn_mem (hb : bs.length = 8) (hon : s.txOn l = true) (hend : (s.ln l).txEnd = none)
    (ht : ¬ (s.lnSt l = 4 ∧ s.f (fLNK_TEST_MODE l) = 1)) : .lane l 0 bs ∈ (s.alignOn l bs).outs := by
  have idle : Transmits s (s.idleTo l (s.txNow l)) := .idleTo
  unfold State.alignOn
  rw [if_neg ht]
  exact drive_mem hb (idle.txEnd.trans hend) (idle.txOn.trans hon)

/-- The ALIGN with SEQ `seq` on the chains of bundle `b` at the places of a list. -/
def State.alignChains (s : State) (b seq : Nat) (L : List Nat) : State :=
  L.foldl (fun s i => s.alignOn (16 * b + i) (alignBlock b seq (16 * b + i) false)) s

theorem alignChains_transmits (b seq : Nat) (L : List Nat) : Transmits s (s.alignChains b seq L) :=
  .foldl (fun _ _ => .alignOn) L s

theorem alignChains_mem {b seq : Nat} {L : List Nat} (hi : i ∈ L) : ∀ {s : State}, s.txOn (16 * b + i) = true →
    (s.ln (16 * b + i)).txEnd = none → ¬ (s.lnSt (16 * b + i) = 4 ∧ s.f (fLNK_TEST_MODE (16 * b + i)) = 1) →
    .lane (16 * b + i) 0 (alignBlock b seq (16 * b + i) false) ∈ (s.alignChains b seq L).outs := by
  induction L with
  | nil => cases hi
  | cons j L ih =>
    intro s hon hend ht
    rcases List.mem_cons.1 hi with rfl | hL
    · exact (alignChains_transmits b seq L).mem (alignOn_mem (ctlBlock_length _ rfl) hon hend ht)
    · have first : Transmits s (s.alignOn (16 * b + j) (alignBlock b seq (16 * b + j) false)) := .alignOn
      exact ih hL (first.txOn.trans hon) (first.txEnd.trans hend) (by rwa [first.lnSt, first.f])

/-- The ALIGN of bundle `b` on its chains and on its spare. -/
def State.alignSent (s : State) (b : Nat) : State :=
  let seq := smGet (fun _ => 0) s.ch.align b
  let t := s.alignChains b seq (List.range 16)
  t.alignOn (256 + b) (alignBlock b seq (t.spareChain b) (!t.on (fLNK_SPARE_ACTIVE b)))

theorem alignSent_chains (b : Nat) :
    Transmits (s.alignChains b (smGet (fun _ => 0) s.ch.align b) (List.range 16)) (s.alignSent b) := by
  unfold State.alignSent
  exact .alignOn

/-- The SEQ of the next ALIGN of bundle `b` and the tick of this one are noted. -/
def State.alignNoted (s : State) (b seq : Nat) : State := { s with ch := { s.ch with
  align := smSet (fun _ => 0) s.ch.align b ((seq + 1) % 2 ^ 24)
  aligned := smSet (fun _ => none) s.ch.aligned b (some s.time.raster) } }

theorem alignNoted_outs (b seq : Nat) : (s.alignNoted b seq).outs = s.outs := rfl

theorem execAlignSend_rests {b : Nat} (hb : b < 16) (hs : (s.ln (256 + b)).sw = 0) (hr : (s.ln (256 + b)).release = false) :
    exec (.alignSend b) s = .next ((s.alignSent b).alignNoted b (smGet (fun _ => 0) s.ch.align b)) := by
  rw [exec_alignSend]
  unfold execAlignSend
  rw [if_neg (by omega), spareAlign_rests hs hr]
  unfold State.alignNoted State.alignSent State.alignChains
  generalize List.range 16 = L
  rfl

theorem alignSend_rests {b : Nat} (hb : b < 16) (hs : (s.ln (256 + b)).sw = 0) (hr : (s.ln (256 + b)).release = false) :
    ∃ t, exec (.alignSend b) s = .next t ∧ smGet (fun _ => 0) t.ch.align b = (smGet (fun _ => 0) s.ch.align b + 1) % 2 ^ 24 ∧
      smGet (fun _ => none) t.ch.aligned b = some s.time.raster ∧
      ∀ i, i < 16 → s.txOn (16 * b + i) = true → (s.ln (16 * b + i)).txEnd = none →
        ¬ (s.lnSt (16 * b + i) = 4 ∧ s.f (fLNK_TEST_MODE (16 * b + i)) = 1) →
        .lane (16 * b + i) 0 (alignBlock b (smGet (fun _ => 0) s.ch.align b) (16 * b + i) false) ∈ t.outs := by
  have time : (s.alignSent b).time = s.time := ((alignChains_transmits ..).trans (alignSent_chains b)).time
  refine ⟨_, execAlignSend_rests hb hs hr, ?_, ?_, fun i hi hon hend ht => ?_⟩
  · unfold State.alignNoted
    rw [smGet_smSet, if_pos rfl]
  · unfold State.alignNoted
    rw [smGet_smSet, if_pos rfl, time]
  · rw [alignNoted_outs]
    exact (alignSent_chains b).mem (alignChains_mem (List.mem_range.2 hi) hon hend ht)

theorem execAlignReturn_ring (hc : c < 256) (h0 : s.lnSt c ≠ 0) (lat : Nat) :
    exec (.alignReturn c false lat) s = .next (s.setF (fLNK_STATUS_RING_LAT c) (min 1023 lat)) :=
  congrArg Host.Outcome.next (if_pos ⟨hc, h0, by decide⟩)

/-! ## Slots (R370, R372) -/

theorem execSlotStart_due (hc : c < 256) (ho : s.chainOwner c = some g) (hg : 2 ≤ s.gState g) (hl : (s.grp g).live = true)
    (hu : s.chainUp c = true) (hon : ((s.lanesOf c).any fun l => (s.ln l).lineOn) = true) (hk : (s.ln c).slot = k)
    (hn : k < s.f (fSLT_ACT_NSLOT c)) (ht : s.slotTick c k (s.grp g).lineTick ≤ s.time.raster) : exec (.slotStart c k) s =
      .next ((s.setLn c { s.ln c with slot := k + 1 }).sendSlot g c k (s.slotTick c k (s.grp g).lineTick)) := by
  rw [exec_slotStart]
  unfold execSlotStart
  rw [ho]
  dsimp only
  rw [if_neg]
  rw [hl, hu, hon]
  simp only [not_true_eq_false, false_or]
  omega

theorem execFreeSlot_sends {k : Pkt} (hc : c < 256) (ho : s.chainOwner c = some g) (hg : s.gState g = 0) (hu : s.chainUp c = true)
    (hon : ((s.lanesOf c).any fun l => s.txOn l) = true) (hf : s.freePkt c = (some (p, i), u)) (hk : (u.pq c p)[i]? = some k) :
    let v := u.countTimers c p k.kind
    let w := (v.lanesOf c).foldl (fun s l => s.idleTo l (s.freeBlock l)) v
    let x := w.sendCtl c (sosBlock false 63 p k.kind 0xFFFF (w.grp g).frame 8)
    exec (.freeSlot c) s = .next (((x.sendSeg c p i 64).2.2.idle16 c).sendCtl c (eosBlock 63 false)) := by
  intro v w x
  rw [exec_freeSlot]
  unfold execFreeSlot
  rw [ho]
  dsimp only
  rw [if_neg, hf]
  · dsimp only
    rw [hk]
  · rw [hg, hu, hon]
    simp only [not_true_eq_false, ne_eq, or_false]
    omega

/-! ## ENUM and FLUSH (R385, R389) -/

section
variable (hl : l < 272) (ht : s.takesWrite req (fLNK_CMD_ENUM l).addr = true)
include hl ht

theorem execReenumerate_writes (h : data.getLsbD 31 = true) :
    exec (.reenumerate req l data) s = .next (s.lnkCmd l data.toNat).wakeBanks := by
  rw [exec_reenumerate]
  unfold execReenumerate wbit
  rw [rowWrite_of s (by rw [h, decide_eq_true hl]; rfl), write_LNK_CMD hl ht data.isLt, writeRaster_LNK_CMD]

/-- FLUSH lies in the word of ENUM. -/
theorem execQueueFlush_writes (h : data.toNat % 65536 ≠ 0) :
    exec (.queueFlush req l data) s = .next (s.lnkCmd l data.toNat).wakeBanks := by
  rw [exec_queueFlush]
  unfold execQueueFlush
  rw [rowWrite_of s (by rw [bne_iff_ne.2 h, decide_eq_true hl]; rfl)]
  exact congrArg _ (write_LNK_CMD hl ht data.isLt)

end

/-- At a packet boundary a queue to be flushed is emptied. -/
theorem boundary_flushes (hm : s.midPacket c p = false) (hb : bit (s.ln c).flush p = 1) : (s.boundary c p).pq c p = [] := by
  have flushed : (s.flushDone c p).pq c p = [] := flushDone_pq hb hm
  rw [boundary_between hm]
  unfold State.enumDone
  split
  · split
    · exact enterEnum_nil flushed 0
    · exact flushed
  · exact flushed

/-- An ENUM that waits is done where no queue is in the middle of a packet. -/
theorem boundary_enumerates (hc : c < 256) (hp : p < 16) (hm : ∀ q, q < 16 → s.midPacket c q = false) (he : (s.ln c).enumReq = true)
    (h3 : s.lnSt c = 3) : (s.boundary c p).lnSt c = 2 := by
  have quiet : ¬ ((List.range 16).any fun q => (s.flushDone c p).midPacket c q) = true := by
    rw [List.any_eq_true]
    rintro ⟨q, hq, h⟩
    rw [flushDone_midPacket (hm p hp) (hm q (List.mem_range.1 hq))] at h
    cases h
  rw [boundary_between (hm p hp)]
  unfold State.enumDone
  rw [if_pos ⟨flushDone_enumReq.trans he, quiet⟩, if_pos ((flushDone_lnSt (by omega)).trans h3)]
  exact enterEnum_lnSt (by omega) 0

end Sys2Proof.Machine

/-- Settles O23: each command by what it runs; the ALIGNs and the ENUM by what a single block puts out; the boundary by the flush and
the ENUM that waited for it. -/
theorem lanePairsComeUpEnumerateAndSend : Obligations.LanePairsComeUpEnumerateAndSend := by
  intro s
  refine ⟨fun u l st cause hl hst hne => ⟨lnSt_setLnSt hl hst cause, setLnSt_raised hl hne cause⟩, fun req l data hl ht h => ?enable,
    fun l hl hb ha h1 => ⟨_, execBlockLockGained_locking hl hb ha h1, enterEnum_lnSt (by omega) 2⟩,
    fun l => blockLockLost_chain, fun l hl => ?invalid, fun c hc h2 => ⟨?sent, fun ha hw he => enumBlock_leaves h2 ha hw he _ rfl⟩,
    fun c n ovf hc h2 hn => enumReturn_enum hc h2 hn ovf, fun b hb hs hr => alignSend_rests hb hs hr, fun c lat hc h0 => ?ring,
    fun c k g => execSlotStart_due, fun c g p i u k => execFreeSlot_sends, fun req l data hl ht => ?command,
    fun u c v hc => if_neg (by omega), fun u c p hc hp => ⟨boundary_mid, boundary_flushes, boundary_enumerates hc hp⟩⟩
  case enable =>
    intro u
    refine ⟨execLaneEnable_writes hl ht h, fun h0 => ?_⟩
    have state : lnkFld (fLNK_STATUS_STATE l) := lnkFld_word (by omega) (by omega) (by decide)
    have starts := laneEn_starts (s := u) hl
    unfold State.testMode at starts
    rw [laneCfg_mode hl] at starts
    rw [on_of_zero h0]
    refine (f_wakeBanks _ state.noBank).trans (starts.trans ?_)
    simp only [Bool.or_eq_true, beq_iff_eq]
  case invalid =>
    exact ⟨_, congrArg Host.Outcome.next (if_pos hl), f_setF_self _ _, .setF (by simp) .refl⟩
  case sent =>
    exact congrArg Host.Outcome.next (if_pos ⟨hc, h2⟩)
  case ring =>
    refine ⟨_, execAlignReturn_ring hc h0 lat, (f_setF_self ..).trans (Nat.mod_eq_of_lt ?_), .setF (by simp) .refl⟩
    simp only [fLNK_STATUS_RING_LAT]
    omega
  case command =>
    intro t
    exact ⟨execReenumerate_writes hl ht, execQueueFlush_writes hl ht⟩
end

section
/-!
Upstream packets end waits, are resent, and fill the queue that software reads (R373, R379, R381, R383, R384, R386, R419, R420).
-/
open Sys2Proof Sys2Proof.Machine
namespace Sys2Proof.Machine

variable {s t u v : State} {y : Fld} {c g i k p pid seq sp reason kind nak room : Nat} {x q : Pkt} {req : Req} {data : Word}

/-! ## What a packet's end leaves (R381, R384, R385) -/

theorem listSet_eq_set {α : Type} (v : α) : ∀ (l : List α) (i : Nat), listSet l i v = l.set i v
  | [], _ => rfl
  | _ :: _, 0 => rfl
  | x :: l, i + 1 => congrArg (x :: ·) (listSet_eq_set v l i)

theorem setPkt_at (h : (s.pq c p)[i]? = some x) : ((s.setPkt c p i q).pq c p)[i]? = some q := by
  obtain ⟨hi, -⟩ := List.getElem?_eq_some_iff.1 h
  unfold State.setPkt
  rw [pq_setPq, if_pos rfl, listSet_eq_set, List.getElem?_set_self hi]

theorem dropPkt_pq : (s.dropPkt c p i).pq c p = (s.pq c p).eraseIdx i := by
  unfold State.dropPkt
  rw [pq_unstarve, pq_keepPq, if_pos rfl]

theorem f_dropPkt (h : lnkFld y) : (s.dropPkt c p i).f y = s.f y := (f_unstarve h.ne_starved).trans (f_keepPq h.ne_free _)

theorem dropPkt_only : Only [fMEM_NOUGAT_FREE, fSLT_ACT_STARVED c] [.ch] s (s.dropPkt c p i) :=
  .setF (by simp) (.setLn (by simp) (.setF (by simp) (.setPq (by simp) .refl)))

/-- Neither a flush nor an ENUM waits for the boundary after a packet is dropped, if none waited before. -/
theorem dropPkt_idle (hf : bit (s.ln c).flush p = 0) (he : (s.ln c).enumReq = false) :
    bit ((s.dropPkt c p i).ln c).flush p = 0 ∧ ((s.dropPkt c p i).ln c).enumReq = false := by
  unfold State.dropPkt
  rw [unstarve_flush, unstarve_enumReq]
  exact ⟨hf, he⟩

theorem execAckReceive_ends (h : s.hears c pid = true) (ha : s.answers c (pid % 16) [2, 8] seq = some i) :
    exec (.ackReceive c pid seq) s = .next (s.dropPkt c (pid % 16) i) := by
  rw [exec_ackReceive]
  unfold execAckReceive
  rw [if_pos h, ha]
  rfl

theorem execAckReceive_idle (h : s.hears c pid = true) (ha : s.answers c (pid % 16) [2, 8] seq = none) :
    exec (.ackReceive c pid seq) s = .next s := by
  rw [exec_ackReceive]
  unfold execAckReceive
  rw [if_pos h, ha]
  rfl

/-! ## NAK (R379, R381, R383) -/

theorem hears_chain (h : s.hears c pid = true) : c < 256 := by
  unfold State.hears at h
  simp only [Bool.and_eq_true, decide_eq_true_eq] at h
  omega

/-- A NAK of a pixel slot, at a chain that a group owns. -/
theorem execNakReceive_pixel (h : s.hears c pid = true) (ho : s.chainOwner c = some g) :
    exec (.nakReceive c pid seq reason 0) s = .next (if (s.ln c).nakFrame = some (s.grp g).frame then s.count (fLNK_DLV_PIXNAK c) 1 else
      ((s.count (fLNK_DLV_PIXNAK c) 1).setLn c { s.ln c with nakFrame := some (s.grp g).frame }).raiseLane 0x163 c
        [(16, pid), (8, reason), (8, 0), (48, (s.grp g).frame), (16, (s.grp g).line)]) := by
  have hc : c < 256 := hears_chain h
  have word : inside (fLNK_DLV_PIXNAK c) 0x02A00000 0x02A10000 :=
    ⟨by simp only [fLNK_DLV_PIXNAK]; omega, by simp only [fLNK_DLV_PIXNAK]; omega, by simp only [fLNK_DLV_PIXNAK]; omega⟩
  have owner : (s.count (fLNK_DLV_PIXNAK c) 1).chainOwner c = some g := (chainOwner_setF word _).trans ho
  rw [exec_nakReceive]
  unfold execNakReceive
  rw [if_neg (not_not_intro h), if_pos rfl]
  dsimp only
  rw [owner]
  dsimp only
  rw [ln_count, grp_count]
  exact (apply_ite Host.Outcome.next ..).symm

theorem nakReceive_tells (h : s.hears c pid = true) (ho : s.chainOwner c = some g) (hn : (s.ln c).nakFrame ≠ some (s.grp g).frame) :
    ∃ t, exec (.nakReceive c pid seq reason 0) s = .next t ∧ t.f (fLNK_DLV_PIXNAK c) = satAdd (s.f (fLNK_DLV_PIXNAK c)) 1 65535 ∧
      (t.ln c).nakFrame = some (s.grp g).frame ∧ t.ev.enRoute = s.ev.enRoute ++ [⟨s.clock (laneOrigin c), 0x163, false, laneOrigin c,
        (s.count (fLNK_DLV_PIXNAK c) 1).laneLocus c,
        packBits [(16, pid), (8, reason), (8, 0), (48, (s.grp g).frame), (16, (s.grp g).line)]⟩] := by
  refine ⟨_, execNakReceive_pixel h ho, ?_, ?_, ?_⟩ <;> rw [if_neg hn]
  · exact count_self (fLNK_DLV_PIXNAK c) 1
  · exact congrArg LaneSt.nakFrame (ln_setLn_self (s := s.count (fLNK_DLV_PIXNAK c) 1) _)
  · exact (raised_raise (s := s) rfl rfl ..).1

/-- A NAK of the broadcast position ends no wait. -/
theorem execNakReceive_broadcast (h : s.hears c pid = true) (hk : kind ≠ 0) (hp : pid % 16 = 15) :
    exec (.nakReceive c pid seq reason kind) s = .next s := by
  rw [exec_nakReceive]
  unfold execNakReceive
  rw [if_neg (not_not_intro h), if_neg hk]
  dsimp only
  rw [if_pos hp]

/-- A NAK of another slot fails the attempt its partner waits in, which a NAK for a lost order gives a new SEQ. -/
theorem execNakReceive_waiting (h : s.hears c pid = true) (hk : kind ≠ 0) (hp : pid % 16 ≠ 15)
    (hw : s.waitingIn c (pid % 16) (if kind = 1 then 0 else 1) = some i) (hq : (s.pq c (pid % 16))[i]? = some x) :
    exec (.nakReceive c pid seq reason kind) s = .next (
      if reason = 3 then (s.setNextSeq c (pid % 16) (if kind = 1 then 0 else 1) seq).attemptFail c (pid % 16) i 3 true
      else if x.seq = some seq then s.attemptFail c (pid % 16) i reason false else s) := by
  rw [exec_nakReceive]
  unfold execNakReceive
  rw [if_neg (not_not_intro h), if_neg hk]
  dsimp only
  rw [if_neg hp, hw]
  dsimp only
  rw [hq]
  dsimp only
  rw [apply_ite Host.Outcome.next, apply_ite Host.Outcome.next]

/-! ## A failed attempt (R383) -/

/-- The packet as it waits to be resent. -/
def Pkt.toResend (x : Pkt) (nak : Nat) (reseq : Bool) : Pkt :=
  { x with seq := if reseq then none else x.seq, out := false, sent := 0, timer := 0, tries := x.tries + 1, nak := nak }

section
variable (hq : (s.pq c p)[i]? = some x) (hx : x.flushed = false) (hf : bit (s.ln c).flush p = 0) (he : (s.ln c).enumReq = false)
include hq hx hf he

theorem attemptFail_resends (h : x.tries < 3) (reseq : Bool) :
    s.attemptFail c p i nak reseq = s.setPkt c p i (x.toResend nak reseq) := by
  unfold State.attemptFail
  rw [hq]
  dsimp only
  rw [if_neg (by rw [hx]; decide), if_neg (by omega)]
  exact boundary_idle hf he

theorem attemptFail_gives_up (h : 3 ≤ x.tries) (reseq : Bool) :
    s.attemptFail c p i nak reseq = (s.dropPkt c p i).cmdFailed c p x nak := by
  obtain ⟨flush, enum⟩ := dropPkt_idle (i := i) hf he
  unfold State.attemptFail
  rw [hq]
  dsimp only
  rw [if_neg (by rw [hx]; decide), if_pos h]
  exact boundary_idle flush enum

theorem attemptFail_drops (hc : c < 256) (h : 3 ≤ x.tries) (reseq : Bool) :
    let t := s.attemptFail c p i nak reseq
    t.pq c p = (s.pq c p).eraseIdx i ∧ t.f (fLNK_DLV_FAILS c) = satAdd (s.f (fLNK_DLV_FAILS c)) 1 255 ∧
      ∃ loc, Raised s t 0x162 (laneOrigin c) loc [(16, 16 * c + p), (8, x.typ), (8, x.seq.getD 0), (8, nak)] := by
  have word : lnkFld (fLNK_DLV_FAILS c) := lnkFld_word (by omega) (by omega) (by decide)
  intro t
  have ht : t = (s.dropPkt c p i).cmdFailed c p x nak := attemptFail_gives_up hq hx hf he h reseq
  rw [ht]
  refine ⟨dropPkt_pq, ?_, _, raised_raise (s := s) rfl rfl ..⟩
  refine (count_self (s := s.dropPkt c p i) (fLNK_DLV_FAILS c) 1).trans ?_
  rw [f_dropPkt word]
  rfl

end

theorem execRetryTimeout_fails (hp : p < 15)
    (h : ((s.pq c p).findIdx? fun k => space k == sp && k.out && decide (2 ≤ k.timer)) = some i) :
    exec (.retryTimeout c p sp) s = .next (s.attemptFail c p i ((((s.pq c p)[i]?).map fun k => k.nak).getD 0) false) := by
  rw [exec_retryTimeout]
  unfold execRetryTimeout
  rw [if_neg (by omega), h]

/-! ## A resend is counted (R383) -/

theorem giveSeq_keeps : (s.giveSeq c p i x).1.tries = x.tries ∧ (s.giveSeq c p i x).1.sent = x.sent ∧
    (s.giveSeq c p i x).2.regs = s.regs := by
  unfold State.giveSeq
  split <;> exact ⟨rfl, rfl, rfl⟩

theorem f_sendPkt {b : List Byte} : (s.sendPkt c b).f y = s.f y :=
  f_of_regs (touch_same (m := 1048600) (.sendPkt (m := 1048600) .refl .refl) .regs (by decide)).1 y

theorem sendSeg_counts (hc : c < 256) (hq : (s.pq c p)[i]? = some x) (ht : 0 < x.tries) (h0 : x.sent = 0) :
    (s.sendSeg c p i room).2.2.f (fLNK_DLV_RETRIES c) = satAdd (s.f (fLNK_DLV_RETRIES c)) 1 255 := by
  have word : lnkFld (fLNK_DLV_RETRIES c) := lnkFld_word (by omega) (by omega) (by decide)
  have beside : besideState (fLNK_DLV_RETRIES c) := word.besideState (by decide)
  have fails : fldKey (fLNK_DLV_RETRIES c) ≠ fldKey (fLNK_DLV_FAILS c) := fldKey_ne_lo (by decide) (by decide) (by decide)
  obtain ⟨tries, sent, regs⟩ := giveSeq_keeps (s := s) (c := c) (p := p) (i := i) (x := x)
  unfold State.sendSeg
  rw [hq]
  dsimp only
  rw [if_pos (⟨by omega, by omega⟩ : 0 < (s.giveSeq c p i x).1.tries ∧ (s.giveSeq c p i x).1.sent = 0)]
  generalize s.giveSeq c p i x = r at regs ⊢
  have counted (b : List Byte) : ((r.2.count (fLNK_DLV_RETRIES c) 1).sendPkt c b).f (fLNK_DLV_RETRIES c) =
      satAdd (s.f (fLNK_DLV_RETRIES c)) 1 255 := by
    rw [f_sendPkt, count_self, f_of_regs regs]
    rfl
  generalize decide (min (r.1.words.length - r.1.sent) (2 * (room - 2)) = r.1.words.length - r.1.sent) = last
  cases last with
  | false => exact counted _
  | true =>
    simp only [not_true_eq_false, if_true, if_false]
    rw [f_boundary (by omega) word beside fails]
    split
    · exact (f_dropPkt word).trans (counted _)
    · exact counted _

/-! ## The upstream queue of a group (R386, R418 to R420, R644) -/

theorem chainOwner_senseOccurs : (s.senseOccurs c).chainOwner c = s.chainOwner c := by
  unfold State.senseOccurs
  split
  next h =>
    refine chainOwner_congr fun g hg => ⟨(Calm.occurGroup ?_).1, (Calm.occurGroup ?_).1, (Calm.occurGroup ?_).1⟩
    all_goals
      simp only [outside, fLNK_GRP_FIRST, fLNK_GRP_COUNT, fTMG_STATUS_STATE]
      omega
  next => rfl

theorem execRdrReceive_owned {ws : List Nat} {mism ok : Bool} (h : s.hears c pid = true) (ho : s.chainOwner c = some g)
    (hp : (s.senseOccurs c).upstreamPush g ⟨4, pid, seq, ws.take 64⟩ mism = (ok, v)) : exec (.rdrReceive c pid seq ws mism) s =
      .next (if ok then v.answered c (pid % 16) (v.answers c (pid % 16) [3] seq) else v) := by
  rw [exec_rdrReceive]
  unfold execRdrReceive
  rw [if_neg (not_not_intro h)]
  dsimp only
  rw [chainOwner_senseOccurs, ho]
  dsimp only
  rw [hp]

theorem execSnsReceive_owned {ws : List Nat} {mism : Bool} (h : s.hears c pid = true) :
    let hit := (s.senseOccurs c).answers c (pid % 16) [5] seq
    let w := (s.senseOccurs c).answered c (pid % 16) hit
    w.chainOwner c = some g →
    let x := if w.on (fLNK_CFG_UPQ_SNS c) then (w.upstreamPush g ⟨5, pid, seq, ws.take 64⟩ mism).2 else w
    exec (.snsReceive c pid seq ws mism) s = .next (if hit.isSome = true then x.foldTake g pid (ws.take 64) else x) := by
  intro hit w ho x
  rw [exec_snsReceive]
  unfold execSnsReceive
  rw [if_neg (not_not_intro h)]
  dsimp only
  rw [ho]

section
variable {r : UpPkt}

/-- What is discarded raises OVF and tells it. -/
theorem upstreamPush_full (h : 1024 ≤ (s.uq g).pkts.length ∨ s.poolHas (cellsOf r.words.length) = false) :
    s.upstreamPush g r false = (false, (s.setW1c (fLNK_UPQ_CTRL_OVF g) 0).raise 0x166 (0x900 + r.pid / 16) (locusGroup g)
      [(16, r.pid), (8, r.typ)]) := by
  have full : 1024 ≤ (s.uq g).pkts.length ∨ ¬ s.poolHas (cellsOf r.words.length) = true := h.imp_right (by simp)
  exact if_pos full

theorem upstreamPush_room (h : ¬ (1024 ≤ (s.uq g).pkts.length ∨ s.poolHas (cellsOf r.words.length) = false)) :
    s.upstreamPush g r false = (true, (s.putUq g { s.uq g with pkts := (s.uq g).pkts ++ [r] }).takeCells (cellsOf r.words.length)) := by
  have room : ¬ (1024 ≤ (s.uq g).pkts.length ∨ ¬ s.poolHas (cellsOf r.words.length) = true) := fun full => h (full.imp_right (by simp))
  exact if_neg room

end

theorem putUq_uq {z : Upq} : (s.putUq g z).uq g = z := (uq_setUq ..).trans (if_pos rfl)

theorem putUq_count {z : Upq} : (s.putUq g z).f (fLNK_UPQ_CTRL_COUNT g) = z.pkts.length % 65536 := f_setF_self ..

/-- The word that a read of LNK_UPQ_DATA returns. -/
theorem execUpqDataRead_returns (hg : g < 16) (hb : s.barOk req = true) (hr : s.reach (fLNK_UPQ_DATA_DATA g).addr = true) :
    exec (.upqDataRead req g) s =
      .next ((s.upqData g).2.out (.regData req (fLNK_UPQ_DATA_DATA g).addr (BitVec.ofNat 32 (s.upqData g).1))) := by
  obtain ⟨row, plain, index⟩ := Touch.row_LNK_UPQ_DATA g hg
  have reads : ReadAs (fLNK_UPQ_DATA_DATA g).addr regLNK_UPQ_DATA :=
    { row, plain
      ident := by simp only [fLNK_UPQ_DATA_DATA]; omega
      log := by simp only [fLNK_UPQ_DATA_DATA]; omega
      view := by simp only [fLNK_UPQ_DATA_DATA]; omega
      dcb := by simp only [fLNK_UPQ_DATA_DATA]; omega
      slots := by decide }
  have word : s.busRead req (fLNK_UPQ_DATA_DATA g).addr = s.upqData g := by
    rw [busRead_reg hb hr reads]
    exact congrArg s.upqData index
  rw [exec_upqDataRead]
  unfold execUpqDataRead State.rowRead
  rw [if_pos ⟨decide_eq_true hg, hb⟩, word]

theorem upqData_word {r : UpPkt} {ps : List UpPkt} {w : Nat} (h : (s.uq g).pkts = r :: ps) (hw : r.words[(s.uq g).rd]? = some w) :
    s.upqData g = (w, s.setUq g { s.uq g with rd := (s.uq g).rd + 1, last := w }) := by
  have next : (((s.uq g).pkts.head?.map fun p => p.words).bind fun ws => ws[(s.uq g).rd]?) = some w := by
    rw [h]
    exact hw
  unfold State.upqData
  dsimp only
  rw [next]

/-- Past the last word of the packet, or with no packet, the last word stands again. -/
theorem upqData_under (h : ∀ r ps, (s.uq g).pkts = r :: ps → r.words.length ≤ (s.uq g).rd) :
    s.upqData g = ((s.uq g).last, s.setW1c (fLNK_UPQ_CTRL_UNDER g) 0) := by
  have next : (((s.uq g).pkts.head?.map fun p => p.words).bind fun ws => ws[(s.uq g).rd]?) = none := by
    cases hq : (s.uq g).pkts with
    | nil => rfl
    | cons r ps => exact List.getElem?_eq_none (h r ps hq)
  unfold State.upqData
  dsimp only
  rw [next]

theorem execUpqPop_writes (hg : g < 16) (ht : s.takesWrite req (fLNK_UPQ_CTRL_POP g).addr = true) (h : data.getLsbD 31 = true) :
    exec (.upqPop req g data false) s = .next ((s.putFields (fLNK_UPQ_CTRL_POP g).addr data.toNat regLNK_UPQ_CTRL.fields true
      (atBits [])).upqPop g false).wakeBanks := by
  rw [exec_upqPop]
  unfold execUpqPop wbit
  dsimp only
  rw [if_neg (by rw [h]; simp; omega), if_neg (by simp), write_LNK_UPQ_CTRL hg ht data.isLt, writeRaster_LNK_UPQ_CTRL]
  dsimp only
  rw [if_pos (bit_of_getLsbD h)]

theorem uq_of_ch (h : t.ch = s.ch) (g : Nat) : t.uq g = s.uq g := by
  unfold State.uq
  rw [h]

theorem upqPop_nil (h : (s.uq g).pkts = []) : s.upqPop g false = s := by
  unfold State.upqPop
  rw [if_neg (by decide), h]

theorem upqPop_cons {r : UpPkt} {ps : List UpPkt} (h : (s.uq g).pkts = r :: ps) :
    s.upqPop g false = (s.putUq g { s.uq g with pkts := ps, rd := 0 }).freeCells (cellsOf r.words.length) := by
  unfold State.upqPop
  rw [if_neg (by decide), h]

end Sys2Proof.Machine

/-- Settles O24: each upstream packet by what its branch runs; a failed attempt and a push by the one branch they take; the count of a
resend by what sending leaves alone. -/
theorem upstreamAnswersEndWaitsAndFillTheQueue : Obligations.UpstreamAnswersEndWaitsAndFillTheQueue := by
  intro s
  refine ⟨fun c pid seq h => ⟨fun i ha => ⟨_, execAckReceive_ends h ha, dropPkt_pq, dropPkt_only⟩, execAckReceive_idle h⟩,
    fun c pid seq reason h => ⟨fun g => nakReceive_tells h, fun g ho hn => ?again, fun kind hk => execNakReceive_broadcast h hk,
      fun kind i k hk hp hw hq => ?waiting⟩, fun u c p i nak reseq k hc hq hx hf he =>
      ⟨fun ht => ?resend, fun ht => attemptFail_drops hq hx hf he hc ht reseq⟩,
    fun u c p i room k hc _ => sendSeg_counts hc, fun c pos sp i => execRetryTimeout_fails,
    fun c pid seq ws mism g h ho => ⟨fun v hv => execRdrReceive_owned h ho hv, fun v hv => execRdrReceive_owned h ho hv,
      execSnsReceive_owned h⟩,
    fun u g p hg => ⟨fun full => ?full, fun room => ?room⟩, fun c hc => ?bad,
    fun req g hg hb hr => ⟨fun p ps w hq hw => ?word, fun hu => ?under⟩,
    fun req g data hg ht h => ⟨execUpqPop_writes hg ht h, ?pop, ?empty⟩⟩
  case again =>
    rw [execNakReceive_pixel h ho, if_pos hn]
  case waiting =>
    refine ⟨fun h3 => ?_, fun h3 hs => ?_, fun h3 hs => ?_⟩ <;> rw [execNakReceive_waiting h hk hp hw hq]
    · rw [if_pos h3]
    · rw [if_neg h3, if_pos hs]
    · rw [if_neg h3, if_neg hs]
  case resend =>
    rw [attemptFail_resends hq hx hf he ht reseq]
    exact ⟨setPkt_at hq, .setPq (by simp) .refl⟩
  case full =>
    rw [upstreamPush_full full]
    exact ⟨rfl, f_setW1c_one rfl, rfl, raised_raise (s := u) rfl rfl ..⟩
  case room =>
    have count : fldKey (fLNK_UPQ_CTRL_COUNT g) ≠ fldKey fMEM_NOUGAT_FREE :=
      (lnkFld_word (lo := 0) (w := 16) (by omega) (by omega) (by decide)).ne_free
    rw [upstreamPush_room room]
    refine ⟨rfl, ?_, ?_, ?_⟩
    · exact congrArg Upq.pkts (putUq_uq (s := u))
    · refine (f_setF_ne count _).trans (putUq_count.trans ?_)
      rw [List.length_append, List.length_singleton, Nat.mod_eq_of_lt (by omega)]
    · refine (f_setF_self ..).trans ?_
      rw [State.putUq, f_setF_ne count.symm]
      rfl
  case bad =>
    exact ⟨_, _, congrArg Host.Outcome.next (if_pos ⟨hc, by decide⟩), congrArg Host.Outcome.next (if_pos hc),
      count_self .., .setF (by simp) .refl, count_self .., .setF (by simp) .refl⟩
  case word =>
    refine ⟨_, execUpqDataRead_returns hg hb hr, ?_⟩
    have queue : (s.setUq g { s.uq g with rd := (s.uq g).rd + 1, last := w }).uq g = _ := (uq_setUq ..).trans (if_pos rfl)
    rw [upqData_word hq hw, uq_out, queue]
    exact ⟨rfl, rfl, rfl⟩
  case under =>
    refine ⟨_, execUpqDataRead_returns hg hb hr, ?_⟩
    rw [upqData_under hu]
    exact ⟨rfl, f_setW1c_one rfl⟩
  case pop =>
    intro p ps hq
    have count : fldKey (fLNK_UPQ_CTRL_COUNT g) ≠ fldKey fMEM_NOUGAT_FREE :=
      (lnkFld_word (lo := 0) (w := 16) (by omega) (by omega) (by decide)).ne_free
    rw [upqPop_cons (by rw [uq_of_ch (putFields_ch ..)]; exact hq)]
    refine ⟨?_, ?_, (f_setF_ne count _).trans putUq_count⟩
    · exact congrArg Upq.pkts putUq_uq
    · exact congrArg Upq.rd putUq_uq
  case empty =>
    intro hq
    exact upqPop_nil (by rw [uq_of_ch (putFields_ch ..)]; exact hq)
end

section
/-!
Lane pairs sleep and wake, chains move to their spares and back, and injections are armed (R391, R392, R394, R396 to R399).
-/
open Sys2Proof Sys2Proof.Machine
namespace Sys2Proof.Machine

variable {s t u : State} {y : Fld} {c d i k l n cause : Nat} {req : Req} {data : Word} {bs : List Byte}

/-! ## Sleep and wake (R391, R392) -/

/-- Idle blocks are no block of a packet or of control. -/
theorem idleTo_count : ∃ L, (s.idleTo l n).outs = L ++ s.outs ∧ L.count (.lane l 0 bs) = 0 := by
  unfold State.idleTo
  dsimp only
  split
  · exact ⟨[], rfl, rfl⟩
  · split
    · exact ⟨[_], rfl, rfl⟩
    · exact ⟨[_], rfl, rfl⟩

/-- A control block that is sent again and again goes out as often. -/
theorem drives_count {α : Type} (hb : bs.length = 8) (L : List α) : ∀ {s : State}, s.txOn l = true → (s.ln l).txEnd = none →
    ∃ M, (L.foldl (fun s _ => s.drive l 0 bs) s).outs = M ++ s.outs ∧ M.count (.lane l 0 bs) = L.length := by
  induction L with
  | nil => exact fun _ _ => ⟨[], rfl, rfl⟩
  | cons a L ih =>
    intro s hon hend
    have sent : Transmits s (s.drive l 0 bs) := .drive
    obtain ⟨M, hM, count⟩ := ih (sent.txOn.trans hon) (sent.txEnd.trans hend)
    obtain ⟨N, hN, fill⟩ := drive_block hb hend hon
    have quiet : N.count (.lane l 0 bs) = 0 := by rcases fill with rfl | rfl <;> rfl
    refine ⟨M ++ .lane l 0 bs :: N, ?_, ?_⟩
    · rw [List.foldl_cons, hM, hN, List.append_assoc]
      rfl
    · rw [List.count_append, List.count_cons_self, count, quiet, List.length_cons]

/-- The HOLDs that tell that the transmitter falls asleep. -/
def State.holdsSent (s : State) (l : Nat) : State :=
  (List.range 4).foldl (fun s _ => s.drive l 0 (holdBlock 2)) (s.idleTo l (s.txNow l))

theorem txSleep_eq : s.txSleep l =
    ((s.holdsSent l).setF (fLNK_STATUS_TX_ASLEEP l) 1).setLn l { (s.holdsSent l).ln l with lineOn := false } :=
  rfl

theorem holdsSent_count (hon : s.txOn l = true) (hend : (s.ln l).txEnd = none) :
    ∃ L, (s.holdsSent l).outs = L ++ s.outs ∧ L.count (.lane l 0 (holdBlock 2)) = 4 := by
  have idle : Transmits s (s.idleTo l (s.txNow l)) := .idleTo
  obtain ⟨L, hL, none⟩ := idleTo_count (s := s) (l := l) (n := s.txNow l) (bs := holdBlock 2)
  have eight : (holdBlock 2).length = 8 := ctlBlock_length 0x78 rfl
  obtain ⟨M, hM, four⟩ := drives_count eight (List.range 4) (idle.txOn.trans hon) (idle.txEnd.trans hend)
  refine ⟨M ++ L, ?_, ?_⟩
  · rw [List.append_assoc, ← hL]
    exact hM
  · rw [List.count_append, none]
    exact four

theorem holdsSent_touch : Touch 1048592 s (s.holdsSent l) := by
  unfold State.holdsSent
  exact .foldl (fun _ _ h => .drive (m := 1048592) .refl h) (.idleTo (m := 1048592) .refl .refl)

theorem txSleep_only : Only [fLNK_STATUS_TX_ASLEEP l] [.outs, .ch] s (s.txSleep l) := by
  rw [txSleep_eq]
  exact .setLn (by simp) (.setF (by simp) (.touch [.outs, .ch] (by decide) (by simp) holdsSent_touch .refl))

theorem txSleep_asleep : (s.txSleep l).f (fLNK_STATUS_TX_ASLEEP l) = 1 ∧ ((s.txSleep l).ln l).lineOn = false := by
  rw [txSleep_eq, ln_setLn_self, f_setLn, f_setF_self]
  exact ⟨rfl, rfl⟩

theorem txSleep_holds (hon : s.txOn l = true) (hend : (s.ln l).txEnd = none) :
    ∃ L, (s.txSleep l).outs = L ++ s.outs ∧ L.count (.lane l 0 (holdBlock 2)) = 4 := by
  have holds := holdsSent_count hon hend
  rw [txSleep_eq]
  generalize s.holdsSent l = v at holds ⊢
  exact holds

theorem execTxSleep_sleeps (hc : s.laneChain l = some c) (hu : s.chainUp c = true) (hs : s.f (fLNK_CFG_TXSLEEP l) = 1)
    (ha : s.f (fLNK_STATUS_TX_ASLEEP l) = 0) (hw : (s.ln l).wakeAt = none) (hq : s.anyQueued c = false) :
    exec (.txSleep l) s = .next (s.txSleep l) := by
  rw [exec_txSleep]
  unfold execTxSleep
  rw [hc]
  dsimp only
  rw [if_pos ⟨hu, on_of_one hs, by rw [on_of_zero ha]; decide, hw, by rw [hq]; decide⟩]

theorem execRxSleep_sleeps (hc : s.laneChain l = some c) (hu : s.chainUp c = true) (hs : s.f (fLNK_CFG_RXSLEEP l) = 1)
    (ha : s.f (fLNK_STATUS_RX_ASLEEP l) = 0) (hq : s.anyExpecting c = false) : exec (.rxSleep l) s = .next (s.rxSleep l) := by
  rw [exec_rxSleep]
  unfold execRxSleep
  rw [hc]
  dsimp only
  rw [if_pos ⟨hu, .inl (on_of_one hs), by rw [on_of_zero ha]; decide, by rw [hq]; decide⟩]

theorem rxSleep_asleep : (s.rxSleep l).f (fLNK_STATUS_RX_ASLEEP l) = 1 ∧ (s.rxSleep l).f (fLNK_STATUS_BLOCK_LOCK l) = 0 := by
  have apart : fldKey (fLNK_STATUS_RX_ASLEEP l) ≠ fldKey (fLNK_STATUS_BLOCK_LOCK l) := fldKey_ne_lo (by decide) (by decide) (by decide)
  unfold State.rxSleep
  rw [f_setF_ne apart, f_setF_self, f_setF_self]
  exact ⟨rfl, rfl⟩

theorem txWake_wakes (hl : l < 272) (hc : s.laneChain l = some c) (ha : s.f (fLNK_STATUS_TX_ASLEEP l) = 1)
    (h : if (s.ln l).autoSlept = true then s.autoDue c = true else s.anyQueued c = true) :
    ∃ t, exec (.txWake l) s = .next t ∧ t.f (fLNK_STATUS_TX_ASLEEP l) = 0 ∧ (t.ln l).wakeAt = some (s.time.raster + 32000) ∧
      Only [fLNK_STATUS_TX_ASLEEP l] [.ch] s t := by
  have goes : (if (s.ln l).autoSlept then s.autoDue c else s.anyQueued c || !s.on (fLNK_CFG_TXSLEEP l)) = true := by
    split at h
    next ha => rw [if_pos ha, h]
    next ha => rw [if_neg ha, h]; rfl
  rw [exec_txWake]
  unfold execTxWake
  rw [hc]
  dsimp only
  rw [if_pos ⟨hl, on_of_one ha, goes⟩]
  refine ⟨_, rfl, f_setF_self .., ?_, .setLn (by simp) (.setF (by simp) .refl)⟩
  rw [ln_setLn_self]

theorem txWakeDone_ends (h : (s.ln l).wakeAt = some d) (hd : d ≤ s.time.raster) :
    ∃ t, exec (.txWakeDone l) s = .next t ∧ (t.ln l).wakeAt = none ∧ Only [] [.ch] s t := by
  rw [exec_txWakeDone]
  unfold execTxWakeDone
  rw [h]
  dsimp only
  rw [if_pos hd]
  refine ⟨_, rfl, ?_, .setLn (by simp) .refl⟩
  rw [ln_setLn_self]

theorem rxWake_wakes (hl : l < 272) (hc : s.laneChain l = some c) (ha : s.f (fLNK_STATUS_RX_ASLEEP l) = 1)
    (h : if (s.ln l).rxAuto = true then s.autoDue c = true else s.anyExpecting c = true) :
    ∃ t, exec (.rxWake l) s = .next t ∧ t.f (fLNK_STATUS_RX_ASLEEP l) = 0 ∧ Only [fLNK_STATUS_RX_ASLEEP l] [.ch] s t := by
  have goes : (if (s.ln l).rxAuto then s.autoDue c else s.anyExpecting c || !s.on (fLNK_CFG_RXSLEEP l)) = true := by
    split at h
    next ha => rw [if_pos ha, h]
    next ha => rw [if_neg ha, h]; rfl
  rw [exec_rxWake]
  unfold execRxWake
  rw [hc]
  dsimp only
  rw [if_pos ⟨hl, on_of_one ha, goes⟩]
  exact ⟨_, rfl, f_setF_self .., .setLn (by simp) (.setF (by simp) .refl)⟩

/-! ## Spares (R394, R396, R397) -/

theorem startSwitch_spare (c cause : Nat) : (s.startSwitch c cause).ln (256 + c / 16) =
    { s.ln (256 + c / 16) with sw := 1, swCause := cause, swAligns := 0, swChain := c % 16, selCode := c % 16 } := by
  unfold State.startSwitch
  rw [ln_of_ch relockBundle_ch]
  exact ln_setLn_self _

theorem f_startSwitch (h : besideState y) (hc : c < 256) : (s.startSwitch c cause).f y = s.f y := by
  unfold State.startSwitch
  exact (f_relockBundle h (by unfold spareOf; omega)).trans (f_setLn ..)

theorem execSpareAutoSwitch_switches (hc : c < 256) (hs : s.canSwitch c = true) (h : s.lnSt c = 1 ∨ s.lnSt c = 2 ∨ s.lnSt c = 3)
    (hb : s.f (fLNK_STATUS_BLOCK_LOCK c) = 0) (ha : s.f (fLNK_STATUS_RX_ASLEEP c) = 0) :
    exec (.spareAutoSwitch c) s = .next (s.startSwitch c 0) :=
  congrArg Host.Outcome.next (if_pos ⟨hc, h, by rw [on_of_zero hb]; decide, by rw [on_of_zero ha]; decide, hs⟩)

theorem execTxDriverFault_lane (hl : l < 272) (h0 : s.lnSt l ≠ 0) (low : Bool) : exec (.txDriverFault l low) s = .next (
    if low ∧ l < 256 ∧ (s.lnSt l = 1 ∨ s.lnSt l = 2 ∨ s.lnSt l = 3) ∧ s.canSwitch l = true then
      (s.setF (fLNK_STATUS_TXFAULT l) (b2n low)).startSwitch l 1 else s.setF (fLNK_STATUS_TXFAULT l) (b2n low)) := by
  have state : (s.setOn (fLNK_STATUS_TXFAULT l) low).lnSt l = s.lnSt l := f_setF_ne (fldKey_ne_lo (by decide) (by decide) (by decide)) _
  have spare (h : l < 256) : (s.setOn (fLNK_STATUS_TXFAULT l) low).canSwitch l = s.canSwitch l := canSwitch_setStatus h hl (by decide) _
  rw [exec_txDriverFault]
  unfold execTxDriverFault
  rw [if_neg (by omega)]
  dsimp only
  rw [state]
  by_cases h : l < 256
  · rw [spare h]
    rfl
  · rw [if_neg fun g => h g.2.1, if_neg fun g => h g.2.1]
    rfl

theorem txDriverFault_shows (hl : l < 272) (h0 : s.lnSt l ≠ 0) (low : Bool) : ∃ t, exec (.txDriverFault l low) s = .next t ∧
    t.f (fLNK_STATUS_TXFAULT l) = b2n low ∧
    (low = true → l < 256 → s.canSwitch l = true → s.lnSt l = 1 ∨ s.lnSt l = 2 ∨ s.lnSt l = 3 →
      t = (s.setF (fLNK_STATUS_TXFAULT l) 1).startSwitch l 1) := by
  have beside : besideState (fLNK_STATUS_TXFAULT l) := (lnkFld_word (by omega) (by omega) (by decide)).besideState (by decide)
  have shown : (s.setF (fLNK_STATUS_TXFAULT l) (b2n low)).f (fLNK_STATUS_TXFAULT l) = b2n low := by
    rw [f_setF_self]
    cases low <;> rfl
  refine ⟨_, execTxDriverFault_lane hl h0 low, ?_, fun hlow h hs hst => ?_⟩
  · split
    next h => exact (f_startSwitch beside h.2.1).trans shown
    next => exact shown
  · rw [if_pos ⟨hlow, h, hst, hs⟩, hlow]
    rfl

/-- A change of STATE leaves alone whether a spare carries a chain. -/
theorem spare_active_beside (hk : k < 16) : besideState (fLNK_SPARE_ACTIVE k) :=
  spare_besideState (by omega) (by omega) (by decide)

/-- The spare takes the chain at the ALIGN (R396 step 2). -/
theorem spareAlign_takes (hk : k < 16) (hs : (s.ln (256 + k)).sw = 1) (hr : (s.ln (256 + k)).release = false)
    (hn : (s.ln (256 + k)).swChain < 16) : (s.spareAlign k).lnSt (s.spareChain k) = 5 ∧ (s.spareAlign k).f (fLNK_SPARE_ACTIVE k) = 1 ∧
      ((s.spareAlign k).ln (256 + k)).sw = if s.f (fLNK_STATUS_BLOCK_LOCK (256 + k)) = 0 then 2 else 3 := by
  have chain : s.spareChain k < 272 := by unfold State.spareChain; omega
  have state : apart (fLNK_STATUS_STATE (s.spareChain k)) = true := (lnkFld_word (by omega) (by omega) (by decide)).apart
  have word (l : Nat) : fldKey (fLNK_SPARE_ACTIVE k) ≠ fldKey (fLNK_STATUS_SPARE_ACT l) :=
    fldKey_ne_lo (by decide) (by decide) (by decide)
  unfold State.spareAlign
  dsimp only
  rw [if_neg (by rw [hr]; simp), if_pos hs]
  refine ⟨?_, ?_, ?_⟩
  · exact (f_fault _ state ..).trans (lnSt_setLnSt chain (by decide) 4)
  · refine (f_fault _ (spare_active_beside hk).1 ..).trans ((f_setLnSt_beside (spare_active_beside hk) chain 5 4).trans ?_)
    rw [f_setF_ne (word _), f_setF_ne (word _), f_setF_self]
    rfl
  · rw [ln_of_ch (fault_ch ..), ln_raise, ln_of_ch (setLnSt_ch ..), ln_setF, ln_setF, ln_setF, ln_setLn_self]
    by_cases h : s.f (fLNK_STATUS_BLOCK_LOCK (256 + k)) = 0
    · rw [on_of_zero h, if_pos h]
      rfl
    · rw [if_neg h, show s.on (fLNK_STATUS_BLOCK_LOCK (256 + k)) = true from bne_iff_ne.2 h]
      rfl

theorem spareStandby_active (hk : k < 16) : (s.spareStandby k).f (fLNK_SPARE_ACTIVE k) = 0 := by
  have word (l : Nat) : fldKey (fLNK_SPARE_ACTIVE k) ≠ fldKey (fLNK_STATUS_SPARE_ACT l) :=
    fldKey_ne_lo (by decide) (by decide) (by decide)
  unfold State.spareStandby
  dsimp only
  rw [f_degraded _ (spare_active_beside hk).1, f_setLn, f_setF_ne (word _), f_setF_ne (word _), f_setF_self]
  rfl

theorem switchFail_fails (hk : k < 16) (hn : (s.ln (256 + k)).swChain < 16) :
    (s.switchFail k).lnSt (s.spareChain k) = 6 ∧ (s.switchFail k).f (fLNK_SPARE_ACTIVE k) = 0 := by
  have chain : s.spareChain k < 272 := by unfold State.spareChain; omega
  have state : apart (fLNK_STATUS_STATE (s.spareChain k)) = true := (lnkFld_word (by omega) (by omega) (by decide)).apart
  have standby : (s.spareStandby k).f (fLNK_SPARE_ACTIVE k) = 0 := spareStandby_active hk
  unfold State.switchFail
  dsimp only
  generalize s.spareStandby k = v at standby ⊢
  refine ⟨?_, ?_⟩
  · exact (f_fault _ state ..).trans (lnSt_setLnSt chain (by decide) 4)
  · exact (f_fault _ (spare_active_beside hk).1 ..).trans
      ((f_setLnSt_beside (spare_active_beside hk) chain 6 4).trans standby)

theorem execSpareSwitchTimeout_fails (hk : k < 16) (hs : (s.ln (256 + k)).sw = 2) (ha : 2 ≤ (s.ln (256 + k)).swAligns) :
    exec (.spareSwitchTimeout k) s = .next (s.switchFail k) := by
  rw [exec_spareSwitchTimeout]
  unfold execSpareSwitchTimeout
  rw [if_pos ⟨hk, hs, ha⟩]

theorem execFailedRetry_retries (hc : c < 256) (h6 : s.lnSt c = 6) (hb : s.f (fLNK_STATUS_BLOCK_LOCK c) = 1) :
    exec (.failedRetry c) s = .next (s.enterEnum c 2) := by
  rw [exec_failedRetry]
  unfold execFailedRetry
  rw [if_pos ⟨hc, h6, on_of_one hb⟩]

theorem busWrite_spare (hk : k < 16) (ht : s.takesWrite req (fLNK_SPARE_FORCE k).addr = true) :
    s.busWrite req (fLNK_SPARE_FORCE k).addr data.toNat = ((s.putFields (fLNK_SPARE_FORCE k).addr data.toNat regLNK_SPARE.fields
      (!s.on (fLNK_SPARE_ACTIVE k)) (atBits (if s.on (fLNK_SPARE_ACTIVE k) then [16] else []))).spareCmd k (b2n (data.getLsbD 31))
      (b2n (data.getLsbD 30)) ((s.putFields (fLNK_SPARE_FORCE k).addr data.toNat regLNK_SPARE.fields (!s.on (fLNK_SPARE_ACTIVE k))
      (atBits (if s.on (fLNK_SPARE_ACTIVE k) then [16] else []))).f (fLNK_SPARE_CHAIN k))).wakeBanks := by
  rw [write_LNK_SPARE hk ht data.isLt, writeRaster_LNK_SPARE, bit_toNat, bit_toNat]

theorem spareCmd_forces (hk : k < 16) (hf : s.spareFree k = true) (hp : bit (s.f (fLNK_SPARE_PROT k)) n = 1)
    (h0 : (s.relockBundle k).lnSt (16 * k + n) ≠ 0) : s.spareCmd k 1 0 n = (s.relockBundle k).startSwitch (16 * k + n) 2 := by
  have prot : besideState (fLNK_SPARE_PROT k) := spare_besideState (by omega) (by omega) (by decide)
  have free : (s.relockBundle k).spareFree k = s.spareFree k := by
    unfold State.spareFree State.on
    rw [f_relockBundle (spare_active_beside hk) hk, ln_of_ch relockBundle_ch]
  unfold State.spareCmd
  dsimp only
  rw [if_neg (fun h => absurd h.1 (by decide)), if_pos ⟨rfl, free.trans hf, by rw [f_relockBundle prot hk]; exact hp, h0⟩]

theorem spareCmd_releases (hk : k < 16) (h : s.on (fLNK_SPARE_ACTIVE k) = true) :
    ((s.spareCmd k 0 1 n).ln (256 + k)).release = true := by
  have active : (s.relockBundle k).on (fLNK_SPARE_ACTIVE k) = true := by
    unfold State.on at h ⊢
    rw [f_relockBundle (spare_active_beside hk) hk]
    exact h
  unfold State.spareCmd
  dsimp only
  rw [if_neg (c := (0 = 1 ∧ _)) (fun h => absurd h.1 (by decide)), if_pos ⟨rfl, active⟩, ln_setLn_self]

/-! ## Injection (R398, R399) -/

theorem execInject_writes (hl : l < 272) (ht : s.takesWrite req (fLNK_INJ_GO l).addr = true) (h : data.getLsbD 31 = true) :
    exec (.inject req l data) s =
      .next ((s.putFields (fLNK_INJ_GO l).addr data.toNat regLNK_INJ.fields true (atBits [])).armInj l true).wakeBanks := by
  rw [exec_inject]
  unfold execInject wbit
  rw [rowWrite_of s (by rw [h, decide_eq_true hl]; rfl), write_LNK_INJ hl ht data.isLt, writeRaster_LNK_INJ, bit_of_getLsbD h]
  rfl

theorem armInj_ends (h : s.f (fLNK_INJ_KIND l) = 0) :
    ((s.armInj l true).ln l).injArmed = false ∧ ((s.armInj l true).ln l).injOn = false := by
  unfold State.armInj
  dsimp only
  rw [if_pos h, ln_setLn_self]
  exact ⟨rfl, rfl⟩

/-- GO arms the injection, which outside TEST waits for a block. -/
theorem injectTest_waits (h : s.lnSt l ≠ 4) : s.injectTest l = s := if_pos (.inl h)

theorem armInj_goes (h : s.f (fLNK_INJ_KIND l) ≠ 0) :
    s.armInj l true = (s.setLn l { s.ln l with injArmed := true, injOn := s.f (fLNK_INJ_PERIOD l) != 0 }).injectTest l :=
  (if_neg h).trans (if_pos rfl)

/-- In TEST the checker counts an armed injection at once. -/
theorem injectTest_counts (h4 : s.lnSt l = 4) (ha : (s.ln l).injArmed = true) : ((s.injectTest l).ln l).injArmed = false ∧
    (s.injectTest l).f (fLNK_TEST_ERR_ERRORS l) = if s.f (fLNK_TEST_CHK_LOCK l) = 0 then s.f (fLNK_TEST_ERR_ERRORS l)
      else satAdd (s.f (fLNK_TEST_ERR_ERRORS l)) (if s.f (fLNK_INJ_KIND l) = 1 then 1
        else if s.f (fLNK_INJ_KIND l) = 2 then s.f (fLNK_INJ_BURST l) + 1 else 0) (2 ^ (fLNK_TEST_ERR_ERRORS l).w - 1) := by
  have idle : Transmits s (s.idleTo l (s.txNow l)) := .idleTo
  unfold State.injectTest
  rw [if_neg (by rw [h4, ha]; simp)]
  dsimp only
  generalize s.idleTo l (s.txNow l) = v at idle ⊢
  have lock (x : LaneSt) : (v.setLn l x).on (fLNK_TEST_CHK_LOCK l) = s.on (fLNK_TEST_CHK_LOCK l) := by
    unfold State.on
    rw [f_setLn, idle.f]
  rw [lock]
  by_cases h : s.f (fLNK_TEST_CHK_LOCK l) = 0
  · rw [on_of_zero h, if_pos h, if_neg (by decide), ln_setLn_self, f_setLn]
    exact ⟨rfl, idle.f _⟩
  · rw [if_neg h, if_pos (show s.on (fLNK_TEST_CHK_LOCK l) = true from bne_iff_ne.2 h), count_self, ln_count, ln_setLn_self]
    simp only [f_setLn, idle.f, true_and]

theorem armInj_waits (h : s.f (fLNK_INJ_KIND l) ≠ 0) (h4 : s.lnSt l ≠ 4) :
    ((s.armInj l true).ln l).injArmed = true ∧ ((s.armInj l true).ln l).injOn = (s.f (fLNK_INJ_PERIOD l) != 0) := by
  rw [armInj_goes h, injectTest_waits (fun e => h4 ((f_setLn ..).symm.trans e)), ln_setLn_self]
  exact ⟨rfl, rfl⟩

theorem armInj_counts (h : s.f (fLNK_INJ_KIND l) ≠ 0) (h4 : s.lnSt l = 4) : ((s.armInj l true).ln l).injArmed = false ∧
    (s.armInj l true).f (fLNK_TEST_ERR_ERRORS l) = if s.f (fLNK_TEST_CHK_LOCK l) = 0 then s.f (fLNK_TEST_ERR_ERRORS l)
      else satAdd (s.f (fLNK_TEST_ERR_ERRORS l)) (if s.f (fLNK_INJ_KIND l) = 1 then 1
        else if s.f (fLNK_INJ_KIND l) = 2 then s.f (fLNK_INJ_BURST l) + 1 else 0) (2 ^ (fLNK_TEST_ERR_ERRORS l).w - 1) := by
  rw [armInj_goes h]
  exact injectTest_counts ((f_setLn ..).trans h4) (congrArg LaneSt.injArmed (ln_setLn_self _))

theorem inject_disarms (ha : (s.ln l).injArmed = true) (hon : s.txOn l = true) : ((s.inject l bs).2.2.ln l).injArmed = false := by
  unfold State.inject
  dsimp only
  rw [if_neg (by rw [ha, hon]; simp)]
  split <;> exact congrArg LaneSt.injArmed (ln_setLn_self _)

section
variable (ha : (s.ln l).injArmed = true) (hon : s.txOn l = true)
include ha hon

/-- KIND 3: the sync header of the block is inverted, its payload is left. -/
theorem inject_header (h : s.f (fLNK_INJ_KIND l) = 3) : (s.inject l bs).1 = bs ∧ (s.inject l bs).2.1 = 4 := by
  unfold State.inject
  dsimp only
  rw [if_neg (by rw [ha, hon]; simp), if_pos h]
  exact ⟨rfl, rfl⟩

/-- KIND 1 and 2 invert bits of the payload at a place that the spec leaves open. -/
theorem inject_flips (h : s.f (fLNK_INJ_KIND l) ≠ 3) (hn : n = if s.f (fLNK_INJ_KIND l) = 2 then s.f (fLNK_INJ_BURST l) + 1 else 1)
    (hle : n ≤ 64) :
    ∃ i, i + n ≤ 64 ∧ (s.inject l bs).1 = flipBits i n bs := by
  have place (v : Nat) : v % (65 - n) + n ≤ 64 := by
    have := Nat.mod_lt v (show 0 < 65 - n by omega)
    omega
  unfold State.inject
  dsimp only
  rw [if_neg (by rw [ha, hon]; simp), if_neg h, ← hn]
  exact ⟨_, place _, rfl⟩

end

theorem injectRepeat_arms (hl : l < 272) (ho : (s.ln l).injOn = true) (ha : (s.ln l).injArmed = false) (hn : (s.ln l).injNext ≤ s.txNow l)
    (h4 : s.lnSt l ≠ 4) : ∃ t, exec (.injectRepeat l) s = .next t ∧ (t.ln l).injArmed = true ∧ Only [] [.ch] s t := by
  rw [exec_injectRepeat]
  unfold execInjectRepeat
  rw [if_pos ⟨hl, ho, by rw [ha]; decide, hn⟩, injectTest_waits (fun h => h4 ((f_setLn ..).symm.trans h))]
  refine ⟨_, rfl, ?_, .setLn (by simp) .refl⟩
  rw [ln_setLn_self]

end Sys2Proof.Machine

/-- Settles O25: each command by the branch it takes; the HOLDs by what a single block puts out; a switch of a spare by the fields
that judging the chains of its bundle anew leaves alone; an injection in TEST by the count its checker takes at once (log entries 106,
117), elsewhere by the place of the bits it inverts (log entry 127). -/
theorem lanePairsSleepSwitchAndInject : Obligations.LanePairsSleepSwitchAndInject := by
  intro s
  refine ⟨fun l c hc hu => ⟨fun hs ha hw hq => ?txSleep, fun hs ha hq => ?rxSleep⟩,
    fun l c hl hc => ⟨txWake_wakes hl hc, fun d => txWakeDone_ends, rxWake_wakes hl hc⟩,
    fun c hc hs h => ⟨execSpareAutoSwitch_switches hc hs h, ?start⟩, fun l low hl h0 => txDriverFault_shows hl h0 low,
    fun u k => spareAlign_takes, fun k hk hs ha hn => ⟨_, execSpareSwitchTimeout_fails hk hs ha, switchFail_fails hk hn⟩,
    fun c hc h6 hb => ⟨_, execFailedRetry_retries hc h6 hb, enterEnum_lnSt (by omega) 2⟩, fun req k data hk ht => ?spare,
    fun u k n hk hn => ⟨spareCmd_forces hk, spareCmd_releases hk⟩,
    fun req l data hl ht h => ⟨execInject_writes hl ht h, armInj_ends, armInj_waits, armInj_counts⟩,
    fun u l bs hl ha hon => ⟨inject_disarms ha hon, inject_header ha hon, fun h => ?single, fun h hn => ?burst⟩, fun l => injectRepeat_arms⟩
  case txSleep =>
    refine ⟨_, execTxSleep_sleeps hc hu hs ha hw hq, txSleep_asleep.1, txSleep_asleep.2, fun h0 hend => ?_, txSleep_only⟩
    have on : s.txOn l = true := by
      unfold State.txOn
      rw [on_of_zero ha, bne_iff_ne.2 h0]
      rfl
    exact txSleep_holds on hend
  case rxSleep =>
    exact ⟨_, execRxSleep_sleeps hc hu hs ha hq, rxSleep_asleep.1, rxSleep_asleep.2, .setF (by simp) (.setF (by simp) .refl)⟩
  case start =>
    rw [startSwitch_spare]
    exact ⟨rfl, rfl, rfl⟩
  case spare =>
    refine ⟨fun h => ?_, fun h => ?_⟩
    · rw [exec_spareForce]
      unfold execSpareForce wbit
      rw [rowWrite_of s (by rw [h, decide_eq_true hk]; rfl), busWrite_spare hk ht]
    · rw [exec_spareRelease]
      unfold execSpareRelease wbit
      rw [rowWrite_of s (by rw [h, decide_eq_true hk]; rfl)]
      exact congrArg _ (busWrite_spare hk ht)
  case single =>
    obtain ⟨i, hi, flipped⟩ := inject_flips (bs := bs) (n := 1) ha hon (by omega) (if_neg (by omega)).symm (by decide)
    exact ⟨i, by omega, flipped⟩
  case burst =>
    exact inject_flips ha hon (by omega) (if_pos h).symm (by omega)
end

section
/-!
Rails ramp in their order, fault and obey a force; the panel temperature (R439 to R443).
-/
open Sys2Proof Sys2Proof.Machine
namespace Sys2Proof.Machine

variable {s t u : State} {y : Fld} {g i j k r : Nat} {b : Bool} {req : Req} {data : Word} {p : Nat → Bool}

/-! ## Fields of the panel drive -/

/-- A field of the panel drive is none that a fault touches. -/
theorem drv_apart {a lo w : Nat} (h : 0x02E00000 ≤ a) (h' : a < 0x03000000) (hlo : lo < 32) : apart ⟨a, lo, w⟩ = true := by
  rw [apart, Bool.and_eq_true, decide_eq_true_eq, decide_eq_true_eq]
  dsimp only
  omega

theorem f_setOn_ne {x : Fld} (h : fldKey y ≠ fldKey x) (b : Bool) : (s.setOn x b).f y = s.f y := f_setF_ne h _

theorem f_setOn_self {x : Fld} (h : x.w = 1) (b : Bool) : (s.setOn x b).f x = b2n b := by
  refine (f_setF_self _ _).trans ?_
  rw [h]
  cases b <;> rfl

/-- The first of the lowest `n` numbers that is wanted, from above. -/
theorem find?_reverse_range {n : Nat} (hj : j < n) (h : p j = true) (above : ∀ i, j < i → i < n → p i = false) :
    (List.range n).reverse.find? p = some j := by
  have len : (List.range n).reverse.length = n := by rw [List.length_reverse, List.length_range]
  rw [List.find?_eq_some_iff_getElem]
  refine ⟨h, n - 1 - j, by omega, ?_, fun i hi => ?_⟩
  · rw [List.getElem_reverse, List.getElem_range, List.length_range]
    omega
  · rw [List.getElem_reverse, List.getElem_range, List.length_range, above _ (by omega) (by omega)]
    rfl

/-! ## RSTATE and the rails of a group (R440, R441) -/

theorem setRState_rState {st : Nat} (h : st < 8) (rail : Nat) : (s.setRState g st rail).rState g = st := by
  unfold State.setRState
  dsimp only
  split
  next e => exact e
  next => exact (f_setF_self _ _).trans (Nat.mod_eq_of_lt h)

/-- What a rail shows is in no word of a group's RSTATE. -/
theorem railSeq_rState (hg : g < 16) : (s.railSeq r b).rState g = s.rState g := by
  unfold State.railSeq State.railShow
  exact (f_setOn_ne (fldKey_ne_addr (by decide) (by decide) (by omega)) _).trans
    (f_setOn_ne (fldKey_ne_addr (by decide) (by decide) (by omega)) _)

theorem railSeq_seqOn : ((s.railSeq r b).rail k).seqOn = if k = r then b else (s.rail k).seqOn := by
  have shown : (s.railSeq r b).rail k = (s.setRail r { s.rail r with
      seqOn := b, onTick := s.time.raster, goodTick := if b ∧ s.on (fDRV_RAIL_GOOD r) then some s.time.raster else none }).rail k := rfl
  rw [shown, rail_setRail]
  split <;> rfl

/-- The sequence asserts or deasserts the rails of an order. -/
def State.railsSeq (s : State) (rs : List Nat) (b : Bool) : State := rs.foldl (fun s r => s.railSeq r b) s

theorem railsSeq_shows (hg : g < 16) (rs : List Nat) : ∀ s : State, (s.railsSeq rs b).rState g = s.rState g ∧ (s.railsSeq rs b).pwr g = s.pwr g ∧
    ∀ k, ((s.railsSeq rs b).rail k).seqOn = if k ∈ rs then b else (s.rail k).seqOn := by
  induction rs with
  | nil => exact fun s => ⟨rfl, rfl, fun k => rfl⟩
  | cons r rs ih =>
    intro s
    obtain ⟨state, pwr, rail⟩ := ih (s.railSeq r b)
    refine ⟨state.trans (railSeq_rState hg), pwr, fun k => (rail k).trans ?_⟩
    rw [railSeq_seqOn]
    by_cases here : k = r
    · rw [if_pos here, ite_self, if_pos (here ▸ List.mem_cons_self)]
    · rw [if_neg here]
      simp only [List.mem_cons, here, false_or]

theorem railUpFrom_ends (h : ∀ j, k ≤ j → j < 8 → s.railsAt g j = []) : s.railUpFrom g k = s.setRState g 2 0xFF := by
  unfold State.railUpFrom
  rw [List.find?_eq_none.2]
  intro j hj
  by_cases hk : k ≤ j
  · rw [h j hk (List.mem_range.1 hj)]
    simp
  · simp [hk]

theorem railUpFrom_asserts (hk : k ≤ j) (hj : j < 8) (hr : s.railsAt g j ≠ []) (below : ∀ i, k ≤ i → i < j → s.railsAt g i = []) :
    s.railUpFrom g k = (s.setPwr g { s.pwr g with order := j }).railsSeq (s.railsAt g j) true := by
  unfold State.railUpFrom
  rw [List.find?_range_eq_some.2 ⟨by simp [hk, hr], List.mem_range.2 hj, fun i hi => ?_⟩]
  · rfl
  · by_cases h : k ≤ i
    · rw [below i h hi]
      simp
    · simp [h]

/-- The rails of an order that the sequence has asserted. -/
def State.railsUp (s : State) (g j : Nat) : List Nat := (s.railsAt g j).filter fun r => (s.rail r).seqOn

theorem railDownFrom_ends (h : ∀ j, j < k → j < 8 → s.railsUp g j = []) : s.railDownFrom g k =
    if s.rState g = 3 then (s.setPwr g { s.pwr g with down := false }).setRState g 0 0xFF else s.setPwr g { s.pwr g with down := false } := by
  unfold State.railDownFrom
  dsimp only
  rw [List.find?_eq_none.2]
  · rfl
  · intro j hj
    rw [List.mem_reverse, List.mem_range] at hj
    by_cases hk : j < k
    · rw [show (s.railsAt g j).filter (fun r => (s.rail r).seqOn) = [] from h j hk hj]
      simp
    · simp [hk]

theorem railDownFrom_deasserts (hk : j < k) (hj : j < 8) (hr : s.railsUp g j ≠ []) (above : ∀ i, j < i → i < k → i < 8 → s.railsUp g i = []) :
    s.railDownFrom g k =
      (s.setPwr g { s.pwr g with order := j, offTick := s.time.raster, down := true }).railsSeq (s.railsUp g j) false := by
  have here : ((s.railsAt g j).filter fun r => (s.rail r).seqOn).isEmpty = false := List.isEmpty_eq_false_iff.2 hr
  unfold State.railDownFrom
  dsimp only
  rw [find?_reverse_range hj (by rw [here, decide_eq_true hk]; rfl) fun i hi h8 => ?_]
  · rfl
  · by_cases h : i < k
    · rw [show (s.railsAt g i).filter (fun r => (s.rail r).seqOn) = [] from above i hi h h8]
      simp
    · rw [decide_eq_false h, Bool.false_and]

/-- Below the lowest order the power-down ends; only RAMP_DOWN then changes. -/
theorem railDownFrom_rState (hg : g < 16) : (s.railDownFrom g k).rState g = s.rState g ∨ (s.rState g = 3 ∧ (s.railDownFrom g k).rState g = 0) := by
  unfold State.railDownFrom
  dsimp only
  split
  · split
    next h => exact .inr ⟨h, setRState_rState (by decide) _⟩
    next => exact .inl rfl
  · exact .inl (railsSeq_shows hg ..).1

/-! ## The commands of the sequence (R440 to R443) -/

theorem execRailPowerUp_writes (hg : g < 16) (ht : s.takesWrite req (fDRV_CTRL_PWR g).addr = true) (h : data.getLsbD 0 = true) :
    exec (.railPowerUp req g data) s = .next (s.writePwr g true).wakeBanks := by
  rw [exec_railPowerUp]
  unfold execRailPowerUp wbit
  rw [rowWrite_of s (by rw [h, decide_eq_true hg]; rfl), write_DRV_CTRL hg ht data.isLt, writeDrive_DRV_CTRL, bit_zero_toNat, h]

theorem execRailPowerDown_writes (hg : g < 16) (ht : s.takesWrite req (fDRV_CTRL_PWR g).addr = true) (h : data.getLsbD 0 = false) :
    exec (.railPowerDown req g data) s = .next (s.writePwr g false).wakeBanks := by
  rw [exec_railPowerDown]
  unfold execRailPowerDown wbit
  rw [rowWrite_of s (by rw [h, decide_eq_true hg]; rfl), write_DRV_CTRL hg ht data.isLt, writeDrive_DRV_CTRL, bit_zero_toNat, h]

/-- PWR is no bit of RSTATE. -/
theorem setPwrBit_rState : (s.setOn (fDRV_CTRL_PWR g) b).rState g = s.rState g :=
  f_setOn_ne (fldKey_ne_lo (by decide) (by decide) (by decide)) b

theorem setPwrBit_gState (hg : g < 16) : (s.setOn (fDRV_CTRL_PWR g) b).gState g = s.gState g :=
  f_setOn_ne (fldKey_ne_addr (by decide) (by decide) (by omega)) b

theorem writePwr_ramps (h : s.rState g = 0 ∨ s.rState g = 4) : s.writePwr g true =
    (((s.setF (fDRV_CTRL_PWR g) 1).setPwr g ⟨0, 0, false, false⟩).setRState g 1 0xFF).railUpFrom g 0 := by
  unfold State.writePwr
  dsimp only
  rw [if_pos rfl, setPwrBit_rState, if_pos h]
  rfl

theorem writePwr_stopped (hg : g < 16) (h : s.rState g = 1 ∨ s.rState g = 2) (h0 : s.gState g = 0) :
    s.writePwr g false = (s.setF (fDRV_CTRL_PWR g) 0).railDown g := by
  unfold State.writePwr
  dsimp only
  rw [if_neg (by decide), setPwrBit_rState, if_pos h, setPwrBit_gState hg, if_pos h0]
  rfl

theorem writePwr_waits (hg : g < 16) (h : s.rState g = 1 ∨ s.rState g = 2) (h0 : s.gState g ≠ 0) :
    ((s.writePwr g false).pwr g).downWaits = true ∧ (s.writePwr g false).rState g = s.rState g := by
  unfold State.writePwr
  dsimp only
  rw [if_neg (by decide), setPwrBit_rState, if_pos h, setPwrBit_gState hg, if_neg h0, pwr_setPwr, if_pos rfl]
  exact ⟨rfl, setPwrBit_rState⟩

theorem execRailOnDelay_goes (hg : g < 16) (h1 : s.rState g = 1) (good : ∀ r, r ∈ s.railsAt g (s.pwr g).order →
    ∃ t0, (s.rail r).goodTick = some t0 ∧ t0 + 160000 * s.f (fDRV_RAIL_ON_DLY r) ≤ s.time.raster) :
    exec (.railOnDelay g) s = .next (s.railUpFrom g ((s.pwr g).order + 1)) := by
  rw [exec_railOnDelay]
  unfold execRailOnDelay
  dsimp only
  rw [if_neg]
  rintro (h | h | h)
  · omega
  · exact h h1
  · refine h (List.all_eq_true.2 fun r hr => ?_)
    obtain ⟨t0, tick, past⟩ := good r hr
    rw [tick]
    exact decide_eq_true past

theorem execRailOffDelay_goes (hg : g < 16) (hd : (s.pwr g).down = true) (past : (s.pwr g).offTick +
    160000 * ((s.railsAt g (s.pwr g).order).map fun r => s.f (fDRV_RAIL_OFF_DLY r)).foldl max 0 ≤ s.time.raster) :
    exec (.railOffDelay g) s = .next (s.railDownFrom g (s.pwr g).order) := by
  rw [exec_railOffDelay]
  unfold execRailOffDelay
  dsimp only
  rw [if_neg]
  rintro (h | h | h)
  · omega
  · exact h hd
  · omega

/-- RAILGOOD of a rail has a new level, seen at the current tick. -/
def State.railgoodSeen (s : State) (r : Nat) (b : Bool) : State :=
  (s.setOn (fDRV_RAIL_GOOD r) b).setRail r
    { s.rail r with goodTick := if b = true ∧ (s.rail r).seqOn = true then some s.time.raster else none }

theorem execRailgoodEdge_eq (hr : r < 48) (h : s.f (fDRV_RAIL_GOOD r) = b2n (!b)) : exec (.railgoodEdge r b) s = .next (
    if ¬ b ∧ s.on (fDRV_RAIL_EN r) ∧ s.rState (s.f (fDRV_RAIL_GROUP r)) = 2 ∧ (s.rail r).seqOn ∧ (s.rail r).force = 0 then
      (s.railgoodSeen r b).railFault (s.f (fDRV_RAIL_GROUP r)) r else s.railgoodSeen r b) := by
  have moved : s.on (fDRV_RAIL_GOOD r) ≠ b := by
    unfold State.on
    rw [h]
    cases b <;> decide
  have en : (s.railgoodSeen r b).on (fDRV_RAIL_EN r) = s.on (fDRV_RAIL_EN r) := by
    unfold State.on
    exact congrArg (· != 0) (f_setOn_ne (fldKey_ne_lo (by decide) (by decide) (by decide)) b)
  have state (g : Nat) : (s.railgoodSeen r b).rState g = s.rState g := f_setOn_ne (fldKey_ne_lo (by decide) (by decide) (by decide)) b
  rw [exec_railgoodEdge]
  unfold execRailgoodEdge
  dsimp only
  rw [if_neg (by rintro (h | h)
                 · omega
                 · exact moved h), ← en, ← state]
  exact (apply_ite Host.Outcome.next _ _ _).symm

theorem execRailTimeout_faults (hr : r < 48) (en : s.f (fDRV_RAIL_EN r) = 1) (h1 : s.rState (s.f (fDRV_RAIL_GROUP r)) = 1)
    (on : (s.rail r).seqOn = true) (free : (s.rail r).force = 0) (bad : (s.rail r).goodTick = none)
    (order : s.f (fDRV_RAIL_ORDER r) = (s.pwr (s.f (fDRV_RAIL_GROUP r))).order)
    (past : (s.rail r).onTick + 1600000 * max 1 (s.f (fDRV_RAIL_TMO r)) ≤ s.time.raster) :
    exec (.railTimeout r) s = .next (s.railFault (s.f (fDRV_RAIL_GROUP r)) r) := by
  rw [exec_railTimeout]
  unfold execRailTimeout
  dsimp only
  rw [if_neg]
  rintro (h | h | h | h | h | h | h | h)
  · omega
  · exact h (on_of_one en)
  · exact h h1
  · exact h on
  · exact h free
  · rw [bad] at h
    exact absurd h (by decide)
  · exact h order
  · omega

/-- A rail fault leaves its group in FAULT (R442): neither the fault record nor the way down changes it. -/
theorem railFault_rState (hg : g < 16) : (s.railFault g r).rState g = 4 := by
  have beside : apart (fDRV_STATUS_RSTATE g) = true := drv_apart (by omega) (by omega) (by decide)
  have told : (((s.setRState g 4 r).fault 0x16 (0x800 + g) r (s.rState g)).stopGroup g).rState g = 4 := by
    unfold State.rState
    rw [f_stopGroup _ beside hg, f_fault _ beside]
    exact setRState_rState (by decide) r
  unfold State.railFault
  dsimp only
  generalize ((s.setRState g 4 r).fault 0x16 (0x800 + g) r (s.rState g)).stopGroup g = v at told ⊢
  split
  · unfold State.railDown
    dsimp only
    have kept : (v.setPwr g { v.pwr g with down := true, downWaits := false }).rState g = 4 := told
    rw [if_pos kept]
    rcases railDownFrom_rState (s := v.setPwr g { v.pwr g with down := true, downWaits := false }) (k := 8) hg with h | ⟨h, -⟩
    · exact h.trans kept
    · exact absurd (kept.symm.trans h) (by decide)
  · exact told

/-! ## A forced rail (R443) -/

theorem busWrite_railOvr (ht : s.takesWrite req fDRV_RAIL_OVR_ACT.addr = true) (hj : s.granted req fDRV_RAIL_OVR_ACT.addr data.toNat) :
    s.busWrite req fDRV_RAIL_OVR_ACT.addr data.toNat = (s.railForce (data.toNat % 64) (bitsOf data.toNat 9 8)).wakeBanks := by
  rw [write_DRV_RAIL_OVR ht data.isLt hj, writeDrive_DRV_RAIL_OVR]

theorem railForce_shows {act : Nat} (hr : r < 48) (ha : act < 3) : (s.railForce r act).f (fDRV_RAIL_OVR r) = b2n (act != 0) ∧
    (s.railForce r act).f (fDRV_RAIL_ON r) = b2n (act == 2 || (act == 0 && (s.rail r).seqOn)) ∧
    ((s.railForce r act).rail r).force = act := by
  have forced : (s.setRail r { s.rail r with force := act }).rail r = { s.rail r with force := act } := by
    rw [rail_setRail, if_pos rfl]
  unfold State.railForce State.railShow
  dsimp only
  rw [if_neg (by omega), forced]
  refine ⟨f_setOn_self rfl _, ?_, congrArg RailSt.force forced⟩
  exact (f_setOn_ne (fldKey_ne_lo (by decide) (by decide) (by decide)) _).trans (f_setOn_self rfl _)

/-! ## The panel temperature (R439) -/

theorem execPanelTempPoll_reads (hg : g < 16) (h : s.f (fDRV_TEMP_EN g) = 1) : exec (.panelTempPoll g) s =
    .next ((s.setTemp g (s.tempFails g) true).out (.tempRead (s.f (fDRV_TEMP_BUS g)) (s.f (fDRV_TEMP_ADDR g)))) := by
  rw [exec_panelTempPoll]
  unfold execPanelTempPoll
  rw [if_neg]
  rintro (h' | h')
  · omega
  · exact h' (on_of_one h)

theorem setTemp_busy (n : Nat) : smGet (fun _ => false) (s.setTemp g n b).drv.tempBusy g = b := (smGet_smSet ..).trans (if_pos rfl)

theorem setTemp_fails (n : Nat) : (s.setTemp g n b).tempFails g = n := (smGet_smSet ..).trans (if_pos rfl)

theorem tempValid_on : (s.tempValid g b).on (fDRV_TEMP_VALID g) = b := by
  unfold State.tempValid
  split
  next h => exact h
  next =>
    refine (congrArg (· != 0) (f_setOn_self rfl b)).trans ?_
    cases b <;> rfl

theorem f_tempValid (h : fldKey y ≠ fldKey (fDRV_TEMP_VALID g)) : (s.tempValid g b).f y = s.f y := by
  unfold State.tempValid
  split
  · rfl
  · exact f_setOn_ne h b

theorem tempValid_fails : (s.tempValid g b).tempFails k = s.tempFails k := by
  unfold State.tempValid
  split <;> rfl

section
variable (hg : g < 16) (busy : smGet (fun _ => false) s.drv.tempBusy g = true)
include hg busy

theorem tempReads : ¬ (16 ≤ g ∨ ¬ smGet (fun _ => false) s.drv.tempBusy g = true) := by
  rintro (h | h)
  · omega
  · exact h busy

theorem panelTempReadDone_reads (raw : Nat) : ∃ t, exec (.panelTempReadDone g true raw) s = .next t ∧
    t.on (fDRV_TEMP_VALID g) = true ∧ t.tempFails g = 0 ∧ t.f (fDRV_TEMP_TEMP g) = toField 16 (sInt 12 (raw / 16 % 4096)) % 65536 := by
  rw [exec_panelTempReadDone]
  unfold execPanelTempReadDone
  rw [if_neg (tempReads hg busy), if_pos rfl]
  refine ⟨_, rfl, tempValid_on, tempValid_fails.trans (setTemp_fails 0), ?_⟩
  exact (f_tempValid (fldKey_ne_lo (by decide) (by decide) (by decide))).trans (f_setF_self _ _)

theorem panelTempReadDone_fails (raw : Nat) : ∃ t, exec (.panelTempReadDone g false raw) s = .next t ∧
    t.tempFails g = min 3 (s.tempFails g + 1) ∧ (s.tempFails g < 2 → t.f (fDRV_TEMP_VALID g) = s.f (fDRV_TEMP_VALID g)) ∧
    (2 ≤ s.tempFails g → t.f (fDRV_TEMP_VALID g) = 0) := by
  rw [exec_panelTempReadDone]
  unfold execPanelTempReadDone
  dsimp only
  rw [if_neg (tempReads hg busy), if_neg (by decide)]
  by_cases third : 2 ≤ s.tempFails g
  · rw [if_pos (by omega)]
    exact ⟨_, rfl, tempValid_fails.trans (setTemp_fails _), fun h => absurd h (by omega), fun _ => bne_eq_false_iff_eq.1 tempValid_on⟩
  · rw [if_neg (by omega)]
    exact ⟨_, rfl, setTemp_fails _, fun _ => rfl, fun h => absurd h third⟩

end

end Sys2Proof.Machine

/-- Settles O26: the sequence by the lowest order that has rails, going up, and the highest that is still asserted, going down; each
command by the branch it takes; a fault by the way down that leaves FAULT alone. -/
theorem railsRampFaultAndFollowTheirOrder : Obligations.RailsRampFaultAndFollowTheirOrder := by
  intro s
  refine ⟨fun req g data hg ht => ⟨execRailPowerUp_writes hg ht, execRailPowerDown_writes hg ht⟩, fun u g _ => writePwr_ramps,
    fun u g hg h => ⟨writePwr_stopped hg h, writePwr_waits hg h⟩,
    fun u g k hg => ⟨fun none => ?up, fun j hk hj some below => ?asserts⟩,
    fun u g k hg => ⟨fun none h3 => ?down, fun j hk hj some above => ?deasserts⟩,
    fun g hg => execRailOnDelay_goes hg, fun g hg => execRailOffDelay_goes hg,
    fun r b hr h => ⟨fun hb => ?rise, fun hb en h2 on free _ => ?fall, fun hb forced => ?forcedFall⟩,
    fun r hr en h1 => execRailTimeout_faults hr en h1, fun u g r => railFault_rState,
    fun req data ht hj => ⟨fun h => ?on, fun h => ?off, fun h => ?release, railForce_shows⟩,
    fun g hg => ⟨fun h => ?poll, fun busy => ⟨panelTempReadDone_reads hg busy, panelTempReadDone_fails hg busy⟩⟩⟩
  case up =>
    rw [railUpFrom_ends none]
    exact setRState_rState (by decide) _
  case asserts =>
    rw [railUpFrom_asserts hk hj some below]
    obtain ⟨state, pwr, rails⟩ := railsSeq_shows (b := true) hg (u.railsAt g j) (u.setPwr g { u.pwr g with order := j })
    refine ⟨state, ?_, rails⟩
    rw [pwr, pwr_setPwr, if_pos rfl]
  case down =>
    rw [railDownFrom_ends none, if_pos h3]
    exact setRState_rState (by decide) _
  case deasserts =>
    rw [railDownFrom_deasserts hk hj some above]
    obtain ⟨state, pwr, rails⟩ := railsSeq_shows (b := false) hg (u.railsUp g j)
      (u.setPwr g { u.pwr g with order := j, offTick := u.time.raster, down := true })
    refine ⟨state, ?_, ?_, rails⟩ <;> rw [pwr, pwr_setPwr, if_pos rfl]
  case rise =>
    rw [execRailgoodEdge_eq hr h, if_neg fun f => f.1 hb]
    rfl
  case fall =>
    rw [execRailgoodEdge_eq hr h, if_pos ⟨by rw [hb]; decide, on_of_one en, h2, on, free⟩]
    rfl
  case forcedFall =>
    rw [execRailgoodEdge_eq hr h, if_neg fun f => forced f.2.2.2.2]
    rfl
  case on =>
    rw [exec_railForceOn]
    unfold execRailForceOn
    rw [rowWrite_of s (beq_iff_eq.2 h), busWrite_railOvr ht hj]
  case off =>
    rw [exec_railForceOff]
    unfold execRailForceOff
    rw [rowWrite_of s (beq_iff_eq.2 h), busWrite_railOvr ht hj]
  case release =>
    rw [exec_railForceRelease]
    unfold execRailForceRelease
    rw [rowWrite_of s (beq_iff_eq.2 h), busWrite_railOvr ht hj]
  case poll =>
    exact ⟨_, execPanelTempPoll_reads hg h, setTemp_busy _, rfl,
      .out (by simp) (.touch [.drv] (by decide) (by simp) (.setTemp (m := 2097152) .refl .refl) .refl)⟩
end

section
/-!
Power-fail trips and their release, and the bonbon window (R444 to R447, R457 to R461, R605, R685).
-/
open Sys2Proof Sys2Proof.Machine
namespace Sys2Proof.Machine

variable {s t u : State} {y : Fld} {g h k n cause : Nat} {b p v : Bool} {req : Req} {data : Word}

/-! ## Groups told to stop -/

theorem stopGroup_stops (hs : s.gState g = 1 ∨ s.gState g = 2) : (s.stopGroup g).gState g = 3 ∧ (s.stopGroup g).f (fTMG_CTRL_RUN g) = 0 := by
  rw [show s.stopGroup g = s.stopping g from if_pos hs]
  exact stopping_shows

/-- A group that neither starts nor runs is not told to stop. -/
theorem stopGroup_rests (hs : s.gState g = 3) : s.stopGroup g = s :=
  if_neg (by rw [hs]; decide)

theorem stopGroup_other (hne : g ≠ h) : (s.stopGroup h).gState g = s.gState g ∧
    (s.stopGroup h).f (fTMG_CTRL_RUN g) = s.f (fTMG_CTRL_RUN g) := by
  have state : fldKey (fTMG_STATUS_STATE g) ≠ fldKey (fTMG_STATUS_STATE h) := fldKey_ne_addr (by decide) (by decide) (by omega)
  have run : fldKey (fTMG_CTRL_RUN g) ≠ fldKey (fTMG_CTRL_RUN h) := fldKey_ne_addr (by decide) (by decide) (by omega)
  have across : fldKey (fTMG_STATUS_STATE g) ≠ fldKey (fTMG_CTRL_RUN h) := fldKey_ne_addr (by decide) (by decide) (by omega)
  have back : fldKey (fTMG_CTRL_RUN g) ≠ fldKey (fTMG_STATUS_STATE h) := fldKey_ne_addr (by decide) (by decide) (by omega)
  unfold State.stopGroup State.gState
  split
  · rw [f_groupState, if_neg state, f_setF_ne across, f_groupState, if_neg back, f_setF_ne run]
    exact ⟨rfl, rfl⟩
  · exact ⟨rfl, rfl⟩

/-- Every group is told to stop (R445). -/
def State.groupsStopped (s : State) : State := allGroups.foldl (fun s g => s.stopGroup g) s

theorem stopGroups_stop (l : List Nat) : ∀ s : State,
    (g ∈ l ∧ (s.gState g = 1 ∨ s.gState g = 2)) ∨ (s.gState g = 3 ∧ s.f (fTMG_CTRL_RUN g) = 0) →
    (l.foldl (fun s g => s.stopGroup g) s).gState g = 3 ∧ (l.foldl (fun s g => s.stopGroup g) s).f (fTMG_CTRL_RUN g) = 0 := by
  induction l with
  | nil => exact fun s hs => hs.resolve_left fun f => List.not_mem_nil f.1
  | cons k l ih =>
    intro s hs
    refine ih (s.stopGroup k) ?_
    by_cases here : g = k
    · subst here
      rcases hs with ⟨-, runs⟩ | stops
      · exact .inr (stopGroup_stops runs)
      · rw [stopGroup_rests stops.1]
        exact .inr stops
    · obtain ⟨state, run⟩ := stopGroup_other (s := s) here
      rw [state, run]
      exact hs.imp_left fun f => ⟨(List.mem_cons.1 f.1).resolve_left here, f.2⟩

theorem groupsStopped_stops (hg : g < 16) (hs : s.gState g = 1 ∨ s.gState g = 2) :
    s.groupsStopped.gState g = 3 ∧ s.groupsStopped.f (fTMG_CTRL_RUN g) = 0 :=
  stopGroups_stop allGroups s (.inl ⟨List.mem_range.2 hg, hs⟩)

theorem groupsStopped_calm (hy : apart y = true) : Calm y s s.groupsStopped :=
  Calm.foldl _ _ (fun s g hg => ⟨f_stopGroup s hy (List.mem_range.1 hg), by
    unfold State.stopGroup
    split
    · exact ⟨_, rfl⟩
    · exact ⟨[], (List.append_nil _).symm⟩⟩) s

/-! ## A trip (R444, R445) -/

/-- PFAIL_N and VIN_SENSE have new levels. -/
def State.pfSeen (s : State) (p v : Bool) : State := { s with drv := { s.drv with pfailLow := p, vinLow := v } }

/-- The record of a trip. -/
def State.tripEv (s : State) (cause : Nat) : Ev := ⟨s.time.master, 0x172, false, 0xE00, 0, cause⟩

/-- A trip is shown and its tick kept. -/
def State.tripShown (s : State) (cause : Nat) : State :=
  { (s.setW1c fDRV_PF_TRIPPED 0).setF fDRV_PF_CAUSE cause with drv := { s.drv with tripTick := some s.time.master } }

/-- A trip is told, and the record store closes (R605). -/
def State.tripTold (s : State) (cause : Nat) : State :=
  ((s.tripShown cause).raise 0x172 0xE00 0 [(8, cause)]).nvTrip (s.tripEv cause)

theorem pfTrip_trips (hc : (s.pfSeen p v).pfCause ≠ 0) (ht : s.f fDRV_PF_TRIPPED = 0) :
    s.pfTrip p v = ((s.pfSeen p v).tripTold (s.pfSeen p v).pfCause).groupsStopped := by
  have quiet : (s.pfSeen p v).on fDRV_PF_TRIPPED = false := on_of_zero ht
  refine if_neg ?_
  rintro (f | f)
  · exact hc f
  · exact absurd (quiet.symm.trans f) (by decide)

theorem pfTrip_rests (hc : (s.pfSeen p v).pfCause = 0 ∨ s.f fDRV_PF_TRIPPED = 1) : s.pfTrip p v = s.pfSeen p v :=
  if_pos (hc.imp_right fun f => on_of_one f)

theorem execPfTrip_alone (ha : s.boot.act = none) : exec (.pfTrip p v) s = .next (s.pfTrip p v) := by
  have boot : (s.pfTrip p v).boot = s.boot := touch_same (m := 2130498) (.pfTrip .refl .refl) .boot (by decide)
  rw [exec_pfTrip]
  unfold execPfTrip
  dsimp only
  rw [boot, ha]

/-- The counter, the log entry and the closing of a trip are the record store's own (R605). -/
theorem Calm.nvTrip {e : Ev} (hy : outside y 0x00800000 0x00801000) : Calm y s (s.nvTrip e) := by
  have add (s : State) (kind arg : Nat) (bs : List Byte) : Calm y s (s.nvAdd kind arg bs) := by
    unfold State.nvAdd State.nvCfree
    exact setF' (setF' (same rfl rfl) (key_ne hy ⟨by decide, by decide, by decide⟩)) (key_ne hy ⟨by decide, by decide, by decide⟩)
  have incr : Calm y s (s.nvIncr 254) := (same rfl rfl : Calm y s { s with nv := _ }).trans (add _ _ _ _)
  have log (s : State) : Calm y s (s.nvLogAdd e) := by
    unfold State.nvLogAdd
    exact setF' (same' (add s _ _ _) rfl rfl) (key_ne hy ⟨by decide, by decide, by decide⟩)
  unfold State.nvTrip
  exact ite refl ((incr.trans (log _)).trans (nvSetBusy 3 hy))

theorem tripTold_calm (hy : outside y 0x00800000 0x00801000) :
    Calm y ((s.tripShown cause).raise 0x172 0xE00 0 [(8, cause)]) (s.tripTold cause) :=
  .nvTrip hy

/-- What a trip shows before it stops the groups stays. -/
theorem tripped_calm (hy : outside y 0x00800000 0x00801000) (ha : apart y = true) :
    Calm y ((s.tripShown cause).raise 0x172 0xE00 0 [(8, cause)]) (s.tripTold cause).groupsStopped :=
  (tripTold_calm hy).trans (groupsStopped_calm ha)

theorem tripped_touch : Touch 33346 ((s.tripShown cause).raise 0x172 0xE00 0 [(8, cause)]) (s.tripTold cause).groupsStopped := by
  unfold State.groupsStopped State.tripTold
  exact .foldl (fun _ _ f => .stopGroup (Has.refl.s (by decide)) f) (.nvTrip (Has.refl.s (by decide)) .refl)

theorem tripped_field : outside fDRV_PF_TRIPPED 0x00800000 0x00801000 ∧ apart fDRV_PF_TRIPPED = true :=
  ⟨⟨by decide, by decide⟩, drv_apart (by decide) (by decide) (by decide)⟩

theorem cause_field : outside fDRV_PF_CAUSE 0x00800000 0x00801000 ∧ apart fDRV_PF_CAUSE = true :=
  ⟨⟨by decide, by decide⟩, drv_apart (by decide) (by decide) (by decide)⟩

theorem pfCause_lt : s.pfCause < 4 := by
  have bound (b : Bool) : b2n b ≤ 1 := by cases b <;> decide
  have pin := bound (s.on fDRV_PF_PIN_EN && s.drv.pfailLow)
  have vin := bound (s.on fDRV_PF_VIN_EN && s.drv.vinLow)
  unfold State.pfCause
  omega

theorem tripped_shows (hc : cause < 4) : (s.tripTold cause).groupsStopped.f fDRV_PF_TRIPPED = 1 ∧
    (s.tripTold cause).groupsStopped.f fDRV_PF_CAUSE = cause ∧
    (s.tripTold cause).groupsStopped.drv = { s.drv with tripTick := some s.time.master } := by
  refine ⟨(tripped_calm tripped_field.1 tripped_field.2).1.trans ?_, (tripped_calm cause_field.1 cause_field.2).1.trans ?_,
    touch_same tripped_touch .drv (by decide)⟩
  · exact (f_setF_ne (by decide) _).trans (f_setW1c_one rfl)
  · exact (f_setF_self _ _).trans (Nat.mod_eq_of_lt hc)

theorem tripped_tells : ∃ l, (s.tripTold cause).groupsStopped.ev.enRoute =
    s.ev.enRoute ++ ⟨s.time.master, 0x172, false, 0xE00, 0, packBits [(8, cause)]⟩ :: l := by
  obtain ⟨-, l, hl⟩ := tripped_calm (s := s) (cause := cause) tripped_field.1 tripped_field.2
  exact ⟨l, hl.trans (List.append_assoc _ _ _)⟩

theorem tripped_stops (hg : g < 16) (hs : s.gState g = 1 ∨ s.gState g = 2) :
    (s.tripTold cause).groupsStopped.gState g = 3 ∧ (s.tripTold cause).groupsStopped.f (fTMG_CTRL_RUN g) = 0 := by
  have place : outside (fTMG_STATUS_STATE g) 0x00800000 0x00801000 := ⟨Nat.zero_lt_succ 31, .inr (by simp only [fTMG_STATUS_STATE]; omega)⟩
  have state : (s.tripTold cause).gState g = s.gState g :=
    (tripTold_calm place).1.trans ((f_setF_ne (fldKey_ne_addr (by decide) (by decide) (by omega)) _).trans
      ((f_setW1c ..).trans (if_neg (fldKey_ne_addr (by decide) (by decide) (by omega)))))
  exact groupsStopped_stops hg (by rw [state]; exact hs)

/-! ## The discharge (R445, R457, R605) -/

theorem bis_of_drv (hd : t.drv = s.drv) : t.bis g = s.bis g := by
  unfold State.bis
  rw [hd]

theorem bis_setBis (x : BisSt) : (s.setBis h x).bis g = if g = h then x else s.bis g := smGet_smSet ..

/-- The updates of a group stop: their entries stay open. -/
def State.bisStop (s : State) (g : Nat) : State :=
  if (s.bis g).flight = [] then s
  else s.setBis g { s.bis g with
    flight := []
    opens := (s.bis g).opens ++ (s.bis g).flight.map fun u =>
      (u.slot, 2 ^ 31 + u.req.mode * 2 ^ 24 + u.band * 2 ^ 20 + u.slot, u.req.y0 * 65536 + u.req.x0,
        u.req.hm1 * 65536 + u.req.wm1, u.req.tag * 65536 + u.start % 65536) }

theorem bisTrip_eq : s.bisTrip = allGroups.foldl State.bisStop s := rfl

theorem bisStop_flight : ((s.bisStop h).bis g).flight = if g = h then [] else (s.bis g).flight := by
  unfold State.bisStop
  split
  next idle =>
    split
    next e => rw [e, idle]
    next => rfl
  next =>
    rw [bis_setBis]
    split <;> rfl

theorem bisStops_flight (l : List Nat) : ∀ s : State, g ∈ l ∨ (s.bis g).flight = [] → ((l.foldl State.bisStop s).bis g).flight = [] := by
  induction l with
  | nil => exact fun s hs => hs.resolve_left List.not_mem_nil
  | cons k l ih =>
    intro s hs
    refine ih (s.bisStop k) ?_
    rw [bisStop_flight]
    by_cases here : g = k
    · exact .inr (if_pos here)
    · rw [if_neg here]
      exact hs.imp_left fun f => (List.mem_cons.1 f).resolve_left here

theorem bisTrip_discharged : s.bisTrip.drv.discharged = s.drv.discharged := by
  have all (l : List Nat) : ∀ s : State, (l.foldl State.bisStop s).drv.discharged = s.drv.discharged := by
    induction l with
    | nil => exact fun s => rfl
    | cons k l ih =>
      refine fun s => (ih (s.bisStop k)).trans ?_
      unfold State.bisStop
      split <;> rfl
  rw [bisTrip_eq]
  exact all allGroups s

theorem bisTrip_calm (hy : outside y 0x03000000 0x03002000) : Calm y s s.bisTrip := by
  rw [bisTrip_eq]
  refine Calm.foldl _ _ (fun s g hg => ?_) s
  unfold State.bisStop
  exact .ite .refl (.setBis' .refl (List.mem_range.1 hg) hy)

theorem nvDumpStart_drv : s.nvDumpStart.drv = s.drv := touch_same (m := 32770) (.nvDumpStart .refl .refl) .drv (by decide)

theorem nvDumpStart_starts (hr : s.f fNVS_STATUS_READY = 1) : s.nvDumpStart.nv.dumpPhase = 1 ∧ s.nvDumpStart.nv.xfer = none ∧
    s.nvDumpStart.f fNVS_XFER_CTRL_BUSY = 0 := by
  unfold State.nvDumpStart
  rw [if_neg (by rw [on_of_one hr]; decide)]
  exact ⟨rfl, rfl, (f_of_regs (s := s.setF fNVS_XFER_CTRL_BUSY 0) rfl _).trans (f_setF_self _ _)⟩

theorem execPfDischarge_due (hk : s.drv.tripTick = some k) (due : k + 320 ≤ s.time.master) (hd : s.drv.discharged = false) :
    exec .pfDischarge s = .next ({ s with drv := { s.drv with discharged := true } }.bisTrip).nvDumpStart := by
  rw [exec_pfDischarge]
  unfold execPfDischarge
  rw [hk]
  dsimp only
  rw [if_neg]
  rintro (f | f)
  · omega
  · exact absurd (hd.symm.trans f) (by decide)

theorem pfDischarge_ends (hk : s.drv.tripTick = some k) (due : k + 320 ≤ s.time.master) (hd : s.drv.discharged = false) :
    ∃ t, exec .pfDischarge s = .next t ∧ t.drv.discharged = true ∧ (∀ g, g < 16 → (t.bis g).flight = []) ∧
      (s.f fNVS_STATUS_READY = 1 → t.nv.dumpPhase = 1 ∧ t.nv.xfer = none ∧ t.f fNVS_XFER_CTRL_BUSY = 0) := by
  refine ⟨_, execPfDischarge_due hk due hd, ?_, fun g hg => ?_, fun hr => nvDumpStart_starts ?_⟩
  · rw [nvDumpStart_drv, bisTrip_discharged]
  · rw [bis_of_drv nvDumpStart_drv, bisTrip_eq]
    exact bisStops_flight allGroups _ (.inl (List.mem_range.2 hg))
  · exact (bisTrip_calm ⟨by decide, by decide⟩).1.trans hr

/-! ## TRIPPED clears (R447) -/

theorem execTrippedClear_writes (ht : s.takesWrite req fDRV_PF_TRIPPED.addr = true) (hb : data.getLsbD 31 = true) :
    exec (.trippedClear req data p v) s = .next
      ((s.pfSeen p v).putFields fDRV_PF_TRIPPED.addr data.toNat regDRV_PF.fields true (atBits [31])).clearTripped.wakeBanks := by
  have taken : (s.pfSeen p v).takesWrite req fDRV_PF_TRIPPED.addr = true := ht
  rw [exec_trippedClear]
  unfold execTrippedClear wbit
  rw [rowWrite_of _ hb]
  exact congrArg _ ((write_DRV_PF taken data.isLt).trans (by rw [writeDrive_DRV_PF, bit_of_getLsbD hb]; rfl))

theorem clearTripped_clears (ht : s.f fDRV_PF_TRIPPED = 1) (hc : s.pfCause = 0) (hw : s.w1cNow fDRV_PF_TRIPPED = 0) :
    s.clearTripped.f fDRV_PF_TRIPPED = 0 ∧ s.clearTripped.drv.discharged = false ∧ s.clearTripped.drv.tripTick = none := by
  unfold State.clearTripped
  rw [if_pos ⟨on_of_one ht, hc, hw⟩]
  exact ⟨(f_of_regs (s := s.setF fDRV_PF_TRIPPED 0) rfl _).trans (f_setF_self _ _), rfl, rfl⟩

theorem clearTripped_holds (hc : s.pfCause ≠ 0) : s.clearTripped = s := if_neg fun f => hc f.2.1

/-! ## The bonbon window (R458 to R461, R685) -/

/-- What a write of BON_CTRL does: the fields of its word, then ENTER, EXIT and SEND in this order. -/
def State.bonWritten (s : State) (req : Req) (data : Word) : State :=
  let u := s.putFields fDRV_BON_CTRL_ENTER.addr data.toNat regDRV_BON_CTRL.fields true (atBits [])
  let a := if data.getLsbD 31 = true then u.bonEnter else u
  let b := if data.getLsbD 30 = true ∧ req = .mp then a.bonExit else a
  (if data.getLsbD 29 = true then b.bonSend else b).wakeBanks

theorem bit_eq_one (w : Word) (i : Nat) : bit w.toNat i = 1 ↔ w.getLsbD i = true := by
  rw [bit_toNat]
  cases w.getLsbD i <;> decide

theorem busWrite_bonCtrl (ht : s.takesWrite req fDRV_BON_CTRL_ENTER.addr = true) :
    s.busWrite req fDRV_BON_CTRL_ENTER.addr data.toNat = s.bonWritten req data := by
  rw [write_DRV_BON_CTRL ht data.isLt, writeDrive_DRV_BON_CTRL]
  simp only [bit_eq_one]
  rfl

section
variable (ht : s.takesWrite req fDRV_BON_CTRL_ENTER.addr = true)
include ht

theorem execBonbonEnter_writes (hb : data.getLsbD 31 = true) : exec (.bonbonEnter req data) s = .next (s.bonWritten req data) :=
  (rowWrite_of s hb).trans (congrArg _ (busWrite_bonCtrl ht))

theorem execBonbonExit_writes (hb : data.getLsbD 30 = true) : exec (.bonbonExit req data) s = .next (s.bonWritten req data) :=
  (rowWrite_of s hb).trans (congrArg _ (busWrite_bonCtrl ht))

theorem execBonbonSend_writes (hb : data.getLsbD 29 = true) : exec (.bonbonSend req data) s = .next (s.bonWritten req data) :=
  (rowWrite_of s hb).trans (congrArg _ (busWrite_bonCtrl ht))

end

/-- ENTER while the window is ACTIVE is ignored (log entry 52). -/
theorem bonEnter_active (ha : s.f fDRV_BON_CTRL_ACTIVE = 1) : s.bonEnter = s := if_pos (on_of_one ha)

section
variable (ha : s.f fDRV_BON_CTRL_ACTIVE = 0)
include ha

theorem inactive : ¬ s.on fDRV_BON_CTRL_ACTIVE = true := by
  rw [on_of_zero ha]
  decide

theorem bonEnter_running (hg : ∃ g, g < 16 ∧ s.gState g ≠ 0) : s.bonEnter = s.setF fDRV_BON_CTRL_ERR 1 := by
  obtain ⟨g, hg, h0⟩ := hg
  have running : (allGroups.any fun g => s.gState g != 0) = true := List.any_eq_true.2 ⟨g, List.mem_range.2 hg, bne_iff_ne.2 h0⟩
  exact (if_neg (inactive ha)).trans (if_pos running)

section
variable (hg : ∀ g, g < 16 → s.gState g = 0)
include hg

theorem bonEnter_judges : s.bonEnter = if ¬ s.bonOk then s.setF fDRV_BON_CTRL_ERR 2
    else (((s.setF fDRV_BON_CTRL_ERR 0).setF fDRV_BON_CTRL_ACTIVE 1).bonState 1 0).bonDown := by
  refine (if_neg (inactive ha)).trans (if_neg ?_)
  rw [List.any_eq_true]
  rintro ⟨g, mem, runs⟩
  exact bne_iff_ne.1 runs (hg g (List.mem_range.1 mem))

theorem bonEnter_refuses (hb : s.bonOk = false) : s.bonEnter = s.setF fDRV_BON_CTRL_ERR 2 :=
  (bonEnter_judges ha hg).trans (if_pos (by rw [hb]; decide))

theorem bonEnter_enters (hb : s.bonOk = true) :
    s.bonEnter = (((s.setF fDRV_BON_CTRL_ERR 0).setF fDRV_BON_CTRL_ACTIVE 1).bonState 1 0).bonDown :=
  (bonEnter_judges ha hg).trans (if_neg (by rw [hb]; decide))

end

theorem bonSend_inactive (hx : s.boot.bonbonExit = false) : s.bonSend = s.setF fDRV_BON_CTRL_ERR 4 :=
  if_pos ⟨inactive ha, by rw [hx]; decide⟩

theorem bonExit_inactive : s.bonExit = s := if_pos (inactive ha)

end

/-- A key of which a filter takes no entry away. -/
theorem smGet_filter_all {α : Type} {d : Nat → α} {j : Nat} {q : Nat × α → Bool} (hq : ∀ v, q (j, v) = true) (m : SMap α) :
    smGet d (m.filter q) j = smGet d m j := by
  induction m with
  | nil => rfl
  | cons e m ih =>
    obtain ⟨a, v⟩ := e
    by_cases here : a = j
    · subst here
      rw [List.filter_cons_of_pos (hq v), smGet, smGet, if_pos rfl, if_pos rfl]
    · by_cases stays : q (a, v) = true
      · rw [List.filter_cons_of_pos stays, smGet, smGet, if_neg here, if_neg here, ih]
      · rw [List.filter_cons_of_neg stays, smGet, if_neg here, ih]

/-- The window's own registers stay powered (R459). -/
theorem bonDown_active : s.bonDown.f fDRV_BON_CTRL_ACTIVE = s.f fDRV_BON_CTRL_ACTIVE := by
  have word : fldKey fDRV_BON_CTRL_ACTIVE / 32 = 0x02E01400 := by decide
  have stays : s.bonKeep (fldKey fDRV_BON_CTRL_ACTIVE / 32) = true := by
    rw [word]
    rfl
  unfold State.bonDown
  dsimp only
  rw [f_setF_ne (by decide), f_setF_ne (by decide), f_setF_ne (by decide), f_setF_ne (by decide)]
  exact smGet_filter_all (fun _ => stays) s.regs

theorem bonDown_keeps : s.bonDown.drv.bonMem = s.drv.bonMem ∧ s.bonDown.ev.enRoute = s.ev.enRoute := ⟨rfl, rfl⟩

theorem bonSend_early (ha : s.f fDRV_BON_CTRL_ACTIVE = 1) (early : s.time.raster < s.drv.bonUntil) :
    s.bonSend = s.setF fDRV_BON_CTRL_ERR 3 :=
  (if_neg fun f => f.1 (on_of_one ha)).trans (if_pos early)

/-- The window is left: the start-up from stage 2 on is due (R685). -/
def State.bonLeft (s : State) : State :=
  let t := (s.setF fDRV_BON_CTRL_ACTIVE 0).bonState 0 (s.f fDRV_BON_CTRL_ERR)
  { t with drv := { t.drv with rails := [] }, boot := { t.boot with running := [2], bonbonExit := true } }.setF fCLK_BOOT_BONBON 1

/-- Stage 1 counts as complete: its blocks are ready and the fuses are read. -/
def State.stageOneMet (s : State) : State :=
  ((stageBlocks 1).foldl (fun s b => s.putBit fGEN_BLKRDY_RDY b true) (s.setF fCLK_BOOT_STAGES 1)).fuseRegs.measLc

theorem bonExit_leaves (ha : s.f fDRV_BON_CTRL_ACTIVE = 1) : s.bonExit = s.bonLeft.stageOneMet :=
  if_neg fun f => f (on_of_one ha)

theorem stageOneMet_calm (hy : ∀ x ∈ [fCLK_BOOT_STAGES, fGEN_BLKRDY_RDY, fSEC_LC_STATE, fSEC_LC_OWNER_REQ, fSEC_LC_REDEPLOY,
    fSEC_DEVID_LO_DEVID, fSEC_DEVID_HI_DEVID], fldKey y ≠ fldKey x) : Calm y s s.stageOneMet := by
  have ready : Calm y s ((stageBlocks 1).foldl (fun s b => s.putBit fGEN_BLKRDY_RDY b true) (s.setF fCLK_BOOT_STAGES 1)) :=
    (Calm.setF (hy _ (by simp))).trans (.foldl _ _ (fun _ _ _ => .putBit (hy _ (by simp))) _)
  have fuses (s : State) : Calm y s s.fuseRegs := by
    unfold State.fuseRegs
    exact .setF' (.setF' (.setF' (.setF' (.setF (hy _ (by simp))) (hy _ (by simp))) (hy _ (by simp))) (hy _ (by simp))) (hy _ (by simp))
  unfold State.stageOneMet State.measLc
  exact (ready.trans (fuses _)).trans (.measure _ _)

theorem stageOneMet_boot : s.stageOneMet.boot = s.boot := by
  unfold State.stageOneMet
  exact touch_same (m := 16777282) (.measLc (Has.refl.s (by decide)) (.fuseRegs (Has.refl.s (by decide))
    (.foldl (fun _ _ f => .putBit (Has.refl.s (by decide)) f) (.setF (Has.refl.s (by decide)) .refl)))) .boot (by decide)

theorem bonExit_shows (ha : s.f fDRV_BON_CTRL_ACTIVE = 1) : s.bonExit.f fDRV_BON_CTRL_ACTIVE = 0 ∧ s.bonExit.f fCLK_BOOT_BONBON = 1 ∧
    s.bonExit.boot.running = [2] ∧ ∃ l, s.bonExit.ev.enRoute =
      s.ev.enRoute ++ ⟨s.time.raster, 0x175, false, 0x440, 0, packBits [(8, 0), (8, s.f fDRV_BON_CTRL_ERR)]⟩ :: l := by
  have active : Calm fDRV_BON_CTRL_ACTIVE s.bonLeft s.bonLeft.stageOneMet := stageOneMet_calm (by decide)
  have bonbon : Calm fCLK_BOOT_BONBON s.bonLeft s.bonLeft.stageOneMet := stageOneMet_calm (by decide)
  rw [bonExit_leaves ha, stageOneMet_boot]
  refine ⟨active.1.trans ((f_setF_ne (by decide) _).trans
    ((f_of_regs (s := s.setF fDRV_BON_CTRL_ACTIVE 0) rfl _).trans (f_setF_self _ _))), bonbon.1.trans (f_setF_self _ _), rfl, ?_⟩
  obtain ⟨-, l, hl⟩ := active
  exact ⟨l, hl.trans (List.append_assoc _ _ _)⟩

end Sys2Proof.Machine

/-- Settles O27: a trip by what it shows before the groups stop and the stop of each group; the discharge by the stop of each
engine; ENTER, EXIT and SEND by the branch each takes, ENTER while ACTIVE is 1 among them (log entry 52). -/
theorem powerFailTripsAndTheBonbonWindow : Obligations.PowerFailTripsAndTheBonbonWindow := by
  intro s
  refine ⟨fun p v => ⟨rfl, fun ha hc ht => ?trip, fun ha hc => ?rest⟩, fun k => pfDischarge_ends,
    fun req data p v => execTrippedClear_writes, fun u => ⟨clearTripped_clears, clearTripped_holds⟩,
    fun req data ht => ⟨execBonbonEnter_writes ht, execBonbonExit_writes ht, execBonbonSend_writes ht⟩,
    fun u ha => ⟨bonEnter_running ha, bonEnter_refuses ha, fun hg hb => ?enter, bonSend_inactive ha, bonExit_inactive ha⟩,
    fun u ha => ⟨bonEnter_active ha, bonSend_early ha, bonExit_shows ha⟩⟩
  case trip =>
    obtain ⟨tripped, cause, drv⟩ := tripped_shows (s := s.pfSeen p v) (pfCause_lt (s := s.pfSeen p v))
    refine ⟨_, execPfTrip_alone ha, ?_⟩
    rw [pfTrip_trips hc ht]
    exact ⟨tripped, cause, congrArg DrvSt.tripTick drv, tripped_tells, fun g hg hs => tripped_stops hg hs⟩
  case rest =>
    rw [execPfTrip_alone ha, pfTrip_rests hc]
    rfl
  case enter =>
    rw [bonEnter_enters ha hg hb, bonDown_active]
    exact ⟨(f_raise ..).trans (f_setF_self _ _), rfl, rfl⟩
end

section
/-!
Bistable requests, waveform blocks and the journal (R448, R449, R455 to R457).
-/
open Sys2Proof Sys2Proof.Machine
namespace Sys2Proof.Machine

variable {s t u : State} {y : Fld} {g h mode band tag : Nat} {req : Req} {data : Word} {r : BisReq} {x : BisSt} {err : Bool}

/-! ## A request (R448) -/

/-- A refusal is judged by the group's size, STATE, technology and engine. -/
theorem bisRes_congr (hg : g < 16) (hf : ∀ y, outside y 0x03000000 0x03002000 → t.f y = s.f y) (hb : t.bis g = s.bis g) :
    t.bisRes g r = s.bisRes g r := by
  have hact : t.hact g = s.hact g := hf _ ⟨Nat.zero_lt_succ 31, .inl (by simp only [fTMG_HACT_VALUE]; omega)⟩
  have vact : t.vact g = s.vact g := hf _ ⟨Nat.zero_lt_succ 31, .inl (by simp only [fTMG_VACT_VALUE]; omega)⟩
  have state : t.gState g = s.gState g := hf _ ⟨Nat.zero_lt_succ 31, .inl (by simp only [fTMG_STATUS_STATE]; omega)⟩
  have tech : t.tech g = s.tech g := hf _ ⟨by simp only [fDRV_MODE_TECH]; omega, .inl (by simp only [fDRV_MODE_TECH]; omega)⟩
  unfold State.bisRes
  rw [hb, hact, vact, state, tech]

theorem bisSubmit_refuses (hr : s.bisRes g r ≠ 0) : s.bisSubmit g r = (s.bisRes g r, s) := if_pos hr

theorem bisSubmit_takes (hr : s.bisRes g r = 0) : s.bisSubmit g r =
    (0, s.setBis g (({ s.bis g with waiting := (s.bis g).waiting ++ [r] }).fetch r.mode (s.f (fBIS_STATUS_BAND g)))) :=
  if_neg fun f => f hr

theorem fetch_waiting : (x.fetch mode band).waiting = x.waiting := by
  unfold BisSt.fetch
  split
  · rfl
  · split
    · rfl
    · split <;> rfl

theorem bisReg_setBisReg (f : Fld) (v : Nat) : (s.setBisReg f req v).bisReg f req = v := (smGet_smSet ..).trans (if_pos rfl)

/-- The word of a request is shown. -/
def State.bisAsked (s : State) (g v : Nat) : State :=
  (s.setF (fBIS_REQ2_MODE g) (bitsOf v 27 24)).setF (fBIS_REQ2_TAG g) (bitsOf v 15 0)

/-- The request that a write of `v` submits. -/
def State.bisReqAt (s : State) (req : Req) (g v : Nat) : BisReq :=
  bisReqOf (s.bisReg (fBIS_REQ0_X0 g) req) (s.bisReg (fBIS_REQ0_Y0 g) req) (s.bisReg (fBIS_REQ1_WM1 g) req)
    (s.bisReg (fBIS_REQ1_HM1 g) req) (bitsOf v 27 24) (bitsOf v 15 0)

theorem bisReq2_submits {v : Nat} (hv : bit v 31 = 1) : s.bisReq2 req g v =
    ((s.bisAsked g v).bisSubmit g (s.bisReqAt req g v)).2.setBisReg (fBIS_REQ2_RES g) req
      ((s.bisAsked g v).bisSubmit g (s.bisReqAt req g v)).1 :=
  if_neg (by rw [hv]; decide)

theorem bisAsked_bisRes (hg : g < 16) (v : Nat) : (s.bisAsked g v).bisRes g r = s.bisRes g r := by
  refine bisRes_congr hg (fun y hy => ?_) rfl
  have mode : fldKey y ≠ fldKey (fBIS_REQ2_MODE g) := Calm.key_ne hy (by simp only [inside, fBIS_REQ2_MODE]; omega)
  have tag : fldKey y ≠ fldKey (fBIS_REQ2_TAG g) := Calm.key_ne hy (by simp only [inside, fBIS_REQ2_TAG]; omega)
  exact (f_setF_ne tag _).trans (f_setF_ne mode _)

/-- A request that is refused leaves the engine; one that is not waits behind the others. -/
theorem bisReq2_shows {v : Nat} (hg : g < 16) (hv : bit v 31 = 1) :
    (s.bisReq2 req g v).bisReg (fBIS_REQ2_RES g) req = s.bisRes g (s.bisReqAt req g v) ∧
    (s.bisRes g (s.bisReqAt req g v) = 0 → ((s.bisReq2 req g v).bis g).waiting = (s.bis g).waiting ++ [s.bisReqAt req g v]) ∧
    (s.bisRes g (s.bisReqAt req g v) ≠ 0 → (s.bisReq2 req g v).bis g = s.bis g) := by
  have res := bisAsked_bisRes (s := s) (r := s.bisReqAt req g v) hg v
  rw [bisReq2_submits hv, bisReg_setBisReg]
  by_cases free : s.bisRes g (s.bisReqAt req g v) = 0
  · rw [bisSubmit_takes (res.trans free)]
    refine ⟨free.symm, fun _ => ?_, fun f => absurd free f⟩
    refine (congrArg BisSt.waiting ((bis_setBis _).trans (if_pos rfl))).trans ?_
    exact fetch_waiting
  · rw [bisSubmit_refuses (by rw [res]; exact free)]
    exact ⟨res, fun f => absurd f free, fun _ => rfl⟩

theorem execBisRequest_writes (hg : g < 16) (ht : s.takesWrite req (fBIS_REQ2_GO g).addr = true) (hb : data.getLsbD 31 = true) :
    exec (.bisRequest req g data) s = .next (s.bisReq2 req g data.toNat).wakeBanks := by
  rw [exec_bisRequest]
  unfold execBisRequest wbit
  rw [rowWrite_of s (by rw [hb, decide_eq_true hg]; rfl), write_BIS_REQ2 hg ht data.isLt, writeDrive_BIS_REQ2]

theorem bisReg_of_drv (hd : t.drv = s.drv) (f : Fld) : t.bisReg f req = s.bisReg f req := by
  unfold State.bisReg
  rw [hd]

/-! ## A waveform block (R449, R455) -/

theorem journal_bis {opened : Bool} {slot start : Nat} : ((s.journal h opened r band slot start).2).bis g = s.bis g :=
  (bis_of_drv (touch_same (m := 32834) (.nvSubmit .refl .refl) .drv (by decide))).trans rfl

theorem bisDone_bis {status flags slot frame : Nat} : (s.bisDone h r status flags band slot frame).bis g = s.bis g := rfl

theorem foldl_bis {α : Type} {F : State → α → State} (hF : ∀ s a, (F s a).bis g = s.bis g) (l : List α) :
    ∀ s : State, (l.foldl F s).bis g = s.bis g := by
  induction l with
  | nil => exact fun s => rfl
  | cons a l ih => exact fun s => (ih (F s a)).trans (hF s a)

/-- The block of a mode and band is being fetched. -/
theorem fetching_any (hw : ∃ w, w ∈ (s.bis g).cache ∧ w.mode = mode ∧ w.band = band ∧ w.st = 0) :
    ((s.bis g).cache.any fun w => w.mode == mode && w.band == band && w.st == 0) = true := by
  obtain ⟨w, mem, rfl, rfl, fetching⟩ := hw
  exact List.any_eq_true.2 ⟨w, mem, by rw [fetching, beq_self_eq_true, beq_self_eq_true]; rfl⟩

section
variable (hg : g < 16) (hw : ∃ w, w ∈ (s.bis g).cache ∧ w.mode = mode ∧ w.band = band ∧ w.st = 0)
include hg hw

theorem blockAwaited : ¬ (16 ≤ g ∨ ¬ ((s.bis g).cache.any fun w => w.mode == mode && w.band == band && w.st == 0) = true) := by
  rintro (f | f)
  · omega
  · exact f (fetching_any hw)

theorem bisBlockFetchDone_holds (he : err = false) (hp : s.poisonedIn (s.wfBase g + 256 + 65536 * (16 * mode + band)) 65536 = false) :
    ∃ t, exec (.bisBlockFetchDone g mode band err) s = .next t ∧
      (t.bis g).cache = ((s.bis g).cache.map fun w => if w.mode = mode ∧ w.band = band ∧ w.st = 0 then
        ⟨mode, band, 1, s.fsBytes (s.wfBase g + 256 + 65536 * (16 * mode + band)) 65536⟩ else w) ∧
      (t.bis g).waiting = (s.bis g).waiting ∧ (t.bis g).flight = (s.bis g).flight := by
  rw [exec_bisBlockFetchDone]
  unfold execBisBlockFetchDone
  dsimp only
  rw [if_neg (blockAwaited hg hw), if_pos ⟨by rw [he]; decide, by rw [hp]; decide⟩]
  refine ⟨_, rfl, ?_⟩
  rw [bis_setBis, if_pos rfl]
  exact ⟨rfl, rfl, rfl⟩

theorem bisBlockFetchDone_fails (hf : err = true ∨ s.poisonedIn (s.wfBase g + 256 + 65536 * (16 * mode + band)) 65536 = true) :
    ∃ t, exec (.bisBlockFetchDone g mode band err) s = .next t ∧
      (t.bis g).cache = ((s.bis g).cache.filter fun w => !(w.mode == mode && w.band == band)) ∧
      (t.bis g).waiting = ((s.bis g).waiting.filter fun r => !(r.mode == mode && (s.bis g).band == band)) := by
  rw [exec_bisBlockFetchDone]
  unfold execBisBlockFetchDone
  dsimp only
  rw [if_neg (blockAwaited hg hw), if_neg (fun f => hf.elim f.1 f.2)]
  refine ⟨_, rfl, ?_⟩
  rw [foldl_bis fun s u => bisDone_bis.trans journal_bis, foldl_bis fun s r => ?ended, bis_setBis, if_pos rfl]
  · exact ⟨rfl, rfl⟩
  case ended =>
    split
    · exact bisDone_bis.trans journal_bis
    · rfl

end

/-! ## The journal is read (R457) -/

/-- Slot `i` of a group's journal: its number and the four words of its entry. -/
def State.journalSlot (s : State) (g i : Nat) : Nat × Nat × Nat × Nat × Nat :=
  let word := fun k => leNat (s.nvBytes (s.journalAddr g i + 4 * k) 4)
  (i, word 0, word 1, word 2, word 3)

/-- The open entries of a group's journal. -/
def State.openEntries (s : State) (g : Nat) : List (Nat × Nat × Nat × Nat × Nat) :=
  ((List.range 64).map (s.journalSlot g)).filter fun o => bit o.2.1 31 == 1

/-- The open entries of a group are kept and counted. -/
def State.opensShown (s : State) (g : Nat) : State :=
  (s.setBis g { s.bis g with opens := s.openEntries g }).setF (fBIS_STATUS_OPEN g) (s.openEntries g).length

/-- The journal of a group is read, and each open entry told. -/
def State.journalRead (s : State) (g : Nat) : State :=
  (s.openEntries g).foldl (fun s o =>
    s.raiseG 0x174 g [(8, o.1), (8, 0), (32, o.2.2.1), (32, o.2.2.2.1), (16, o.2.2.2.2 / 65536)]) (s.opensShown g)

theorem journalScan_eq : s.journalScan = allGroups.foldl State.journalRead s := rfl

theorem journalRead_touch : Touch 64 (s.opensShown g) (s.journalRead g) :=
  .foldl (fun _ _ f => .raiseG .refl f) .refl

/-- A group shows the open entries `es`. -/
def State.ShowsOpen (s : State) (g : Nat) (es : List (Nat × Nat × Nat × Nat × Nat)) : Prop :=
  (s.bis g).opens = es ∧ s.f (fBIS_STATUS_OPEN g) = es.length % 128

theorem journalRead_shows : (s.journalRead g).ShowsOpen g (s.openEntries g) := by
  have drv : (s.journalRead g).drv = (s.opensShown g).drv := touch_same journalRead_touch .drv (by decide)
  have regs : (s.journalRead g).regs = (s.opensShown g).regs := (touch_same journalRead_touch .regs (by decide)).1
  refine ⟨?_, (f_of_regs regs _).trans (f_setF_self _ _)⟩
  rw [bis_of_drv drv]
  exact congrArg BisSt.opens ((bis_setBis _).trans (if_pos rfl))

/-- Another group's journal is no part of what a group shows. -/
theorem journalRead_other (hne : g ≠ h) : ((s.journalRead h).bis g) = s.bis g ∧
    (s.journalRead h).f (fBIS_STATUS_OPEN g) = s.f (fBIS_STATUS_OPEN g) := by
  have drv : (s.journalRead h).drv = (s.opensShown h).drv := touch_same journalRead_touch .drv (by decide)
  have regs : (s.journalRead h).regs = (s.opensShown h).regs := (touch_same journalRead_touch .regs (by decide)).1
  have word : 0x0300000C + 0x100 * g ≠ 0x0300000C + 0x100 * h := by omega
  refine ⟨?_, (f_of_regs regs _).trans ?_⟩
  · rw [bis_of_drv drv]
    exact (bis_setBis _).trans (if_neg hne)
  · refine (f_setF_ne (fldKey_ne_addr (by decide) (by decide) word) _).trans ?_
    refine (f_of_regs (s := (s.setF (fBIS_STATUS_INFLIGHT h) (s.bis h).flight.length).setF (fBIS_STATUS_WAITING h)
      (s.bis h).waiting.length) rfl _).trans ?_
    exact (f_setF_ne (fldKey_ne_addr (by decide) (by decide) word) _).trans
      (f_setF_ne (fldKey_ne_addr (by decide) (by decide) word) _)

/-- Reading a journal changes none: JPAGE and the mirror stay. -/
theorem journalRead_entries : (s.journalRead h).openEntries g = s.openEntries g := by
  have nv : (s.journalRead h).nv = s.nv := touch_same (s := s.opensShown h) journalRead_touch .nv (by decide)
  have regs : (s.journalRead h).regs = (s.opensShown h).regs := (touch_same journalRead_touch .regs (by decide)).1
  have page : (s.journalRead h).f fBIS_JBASE_JPAGE = s.f fBIS_JBASE_JPAGE := by
    refine (f_of_regs regs _).trans ((f_setF_ne (fldKey_ne_lo (by decide) (by decide) (by decide)) _).trans ?_)
    refine (f_of_regs (s := (s.setF (fBIS_STATUS_INFLIGHT h) (s.bis h).flight.length).setF (fBIS_STATUS_WAITING h)
      (s.bis h).waiting.length) rfl _).trans ?_
    exact (f_setF_ne (fldKey_ne_lo (by decide) (by decide) (by decide)) _).trans
      (f_setF_ne (fldKey_ne_lo (by decide) (by decide) (by decide)) _)
  unfold State.openEntries State.journalSlot State.journalAddr State.nvBytes State.nvByte
  rw [nv, page]

theorem journalReads_show (l : List Nat) : ∀ s : State, g ∈ l ∨ s.ShowsOpen g (s.openEntries g) →
    (l.foldl State.journalRead s).ShowsOpen g (s.openEntries g) := by
  induction l with
  | nil => exact fun s hs => hs.resolve_left List.not_mem_nil
  | cons k l ih =>
    intro s hs
    have next := ih (s.journalRead k)
    rw [journalRead_entries] at next
    refine next ?_
    by_cases here : g = k
    · subst here
      exact .inr journalRead_shows
    · obtain ⟨bis, shown⟩ := journalRead_other (s := s) here
      unfold State.ShowsOpen
      rw [bis, shown]
      exact hs.imp_left fun f => (List.mem_cons.1 f).resolve_left here

theorem execJournalScan_writes (ht : s.takesWrite req fBIS_JBASE_JPAGE.addr = true) (hs : s.bisStopped = true) :
    exec (.journalScan req data) s =
      .next (s.putFields fBIS_JBASE_JPAGE.addr data.toNat regBIS_JBASE.fields true (atBits [])).journalScan.wakeBanks := by
  rw [exec_journalScan]
  unfold execJournalScan
  rw [rowWrite_of s rfl, write_BIS_JBASE ht data.isLt, writeDrive_BIS_JBASE, if_pos hs]

end Sys2Proof.Machine

/-- Settles O28: a request by its RES; a block by whether it arrived whole, where what ends the requests of a failed one leaves the
engine alone; the journals by reading one group after the other, none of which changes another's. -/
theorem bistableRequestsBlocksAndJournal : Obligations.BistableRequestsBlocksAndJournal := by
  intro s
  refine ⟨fun req g data hg ht hb => ?request, fun u g r => rfl,
    fun g mode band err hg hw => ⟨bisBlockFetchDone_holds hg hw, bisBlockFetchDone_fails hg hw⟩,
    fun req data => execJournalScan_writes, fun u g hg => ?journals⟩
  case request =>
    obtain ⟨res, waits, refused⟩ := bisReq2_shows (s := s) (req := req) hg (bit_of_getLsbD hb)
    refine ⟨_, execBisRequest_writes hg ht hb, ?_⟩
    rw [bisReg_of_drv (wake_drv _), bis_of_drv (wake_drv _)]
    exact ⟨res, waits, refused⟩
  case journals =>
    obtain ⟨opens, count⟩ := journalReads_show allGroups u (.inl (List.mem_range.2 hg))
    exact ⟨opens, count.trans (by rw [journalScan_eq, opens])⟩
end

section
/-!
Runs of the calibration items, their saving and loading, and the readings (R488 to R493, R512, R513).
-/
open Sys2Proof Sys2Proof.Machine
namespace Sys2Proof.Machine

variable {s t : State} {y : Fld} {i j n a b v cls : Nat} {req : Req} {data : Word}

/-! ## Runs start (R488) -/

theorem calRun_of_cal (h : t.cal = s.cal) (i : Nat) : t.calRun i = s.calRun i := by
  unfold State.calRun
  rw [h]

theorem calClock_of_time (h : t.time = s.time) (i : Nat) : t.calClock i = s.calClock i := by
  unfold State.calClock
  rw [h]

theorem calRun_ended {r : Bool} : ((s.setCalRun i none).setCalTrim j r).calRun i = none :=
  (calRun_setCalRun s i i none).trans (if_pos rfl)

theorem calStart_begins (hi : i < 344) (h : s.calRun i = none) : s.calStart i = s.setCalRun i (some (s.calClock i)) :=
  if_neg (by rw [h, Option.isSome_none]; rintro (f | f); exacts [by omega, Bool.noConfusion f])

theorem calStart_runs (h : s.calRun i ≠ none) : s.calStart i = s := if_pos (.inr (Option.isSome_iff_ne_none.2 h))

theorem calStart_beyond (h : 344 ≤ i) : s.calStart i = s := if_pos (.inl h)

/-- An item that runs keeps its start tick; the others do not see the start. -/
theorem calStart_calRun (hi : i < 344) : (s.calStart i).calRun j =
    if j = i ∧ s.calRun j = none then some (s.calClock j) else s.calRun j := by
  by_cases idle : s.calRun i = none
  · rw [calStart_begins hi idle, calRun_setCalRun]
    by_cases here : j = i
    · rw [here, if_pos rfl, if_pos ⟨rfl, idle⟩]
    · rw [if_neg here, if_neg fun f => here f.1]
  · rw [calStart_runs idle, if_neg]
    rintro ⟨rfl, f⟩
    exact idle f

theorem calStart_touch : Touch 4194304 s (s.calStart i) := .calStart (m := 4194304) .refl .refl

theorem calStart_lastRun : (s.calStart i).cal.lastRun = s.cal.lastRun := by
  unfold State.calStart
  split <;> rfl

/-- The items of a list start runs. -/
def State.calStarts (s : State) (l : List Nat) : State := l.foldl (fun s i => s.calStart i) s

theorem calStarts_calRun (l : List Nat) (hl : ∀ i ∈ l, i < 344) : ∀ s : State, (s.calStarts l).calRun j =
    if j ∈ l ∧ s.calRun j = none then some (s.calClock j) else s.calRun j := by
  induction l with
  | nil => exact fun s => (if_neg fun f => List.not_mem_nil f.1).symm
  | cons i l ih =>
    intro s
    have clock : (s.calStart i).calClock j = s.calClock j := calClock_of_time (touch_same calStart_touch .time (by decide)) j
    refine (ih (fun k hk => hl k (List.mem_cons_of_mem _ hk)) (s.calStart i)).trans ?_
    rw [calStart_calRun (hl i List.mem_cons_self), clock]
    by_cases idle : s.calRun j = none
    · by_cases here : j = i
      · subst here
        simp [idle]
      · simp [idle, here]
    · simp [idle]

theorem calStarts_lastRun (l : List Nat) : ∀ s : State, (s.calStarts l).cal.lastRun = s.cal.lastRun := by
  induction l with
  | nil => exact fun s => rfl
  | cons i l ih => exact fun s => (ih (s.calStart i)).trans calStart_lastRun

theorem calItems_lt (hi : i ∈ calItems cls) : i < 344 := by
  unfold calItems at hi
  split at hi
  · exact (List.mem_range.1 hi).trans (by decide)
  all_goals
    obtain ⟨k, hk, rfl⟩ := List.mem_map.1 hi
    have small := List.mem_range.1 hk
    omega

/-- The runs of a class are noted and start. -/
def State.calClassStarts (s : State) (cls : Nat) : State :=
  ({ s with cal := { s.cal with lastRun := smSet (fun _ => 0) s.cal.lastRun cls s.time.master } }).calStarts (calItems cls)

theorem execCalPeriod_starts (hc : cls < 4) (hp : s.calPeriod cls ≠ 0) (hb : s.f fCLK_BOOT_DONE = 1)
    (hd : smGet (fun _ => 0) s.cal.lastRun cls = 0 ∨ smGet (fun _ => 0) s.cal.lastRun cls + s.calPeriod cls ≤ s.time.master) :
    execCalPeriod cls s = .next (s.calClassStarts cls) := by
  refine if_neg ?_
  rintro (f | f | f | ⟨f, f'⟩)
  · omega
  · exact hp f
  · exact f (on_of_one hb)
  · omega

theorem calClassStarts_shows : smGet (fun _ => 0) (s.calClassStarts cls).cal.lastRun cls = s.time.master ∧
    Only [] [.cal] s (s.calClassStarts cls) ∧ ∀ i, (s.calClassStarts cls).calRun i =
      if i ∈ calItems cls ∧ s.calRun i = none then some (s.calClock i) else s.calRun i := by
  refine ⟨?_, ?_, fun i => calStarts_calRun _ (fun _ => calItems_lt) _⟩
  · unfold State.calClassStarts
    rw [calStarts_lastRun]
    exact (smGet_smSet ..).trans (if_pos rfl)
  · refine Only.refl.touch [.cal] (by decide) (by decide) ?_
    exact .foldl (fun _ _ h => .calStart rfl h) (.upd_22 rfl .refl)

/-! ## A write of CAL_CMD (R488, R492, R493) -/

theorem busWrite_calCmd (ht : s.takesWrite req fCAL_CMD_GO.addr = true) :
    s.busWrite req fCAL_CMD_GO.addr data.toNat = (s.calCmd data.toNat).wakeBanks := by
  rw [write_CAL_CMD ht data.isLt, writeDrive_CAL_CMD]

/-- A word with GO, SAVE or LOAD is written as such. -/
theorem execCal_writes (ht : s.takesWrite req fCAL_CMD_GO.addr = true) :
    (data.getLsbD 31 = true → exec (.calGo req data) s = .next (s.calCmd data.toNat).wakeBanks) ∧
    (data.getLsbD 30 = true → exec (.calSave req data) s = .next (s.calCmd data.toNat).wakeBanks) ∧
    (data.getLsbD 29 = true → exec (.calLoad req data) s = .next (s.calCmd data.toNat).wakeBanks) := by
  have wrote := busWrite_calCmd (data := data) ht
  exact ⟨fun go => (rowWrite_of s go).trans (congrArg Host.Outcome.next wrote),
    fun save => (rowWrite_of s save).trans (congrArg Host.Outcome.next wrote),
    fun load => (rowWrite_of s load).trans (congrArg Host.Outcome.next wrote)⟩

/-! ## Saving and loading (R492, R493) -/

theorem calNvDone_result {kind result : Nat} (h : result < 8) : (s.calNvDone kind result).f fCAL_CMD_RESULT = result :=
  (f_setF_self ..).trans (Nat.mod_eq_of_lt h)

theorem calNvDone_raised {kind result : Nat} :
    Raised s (s.calNvDone kind result) 0x183 0xE00 0 [(8, kind), (8, result), (16, 0), (32, s.cal.saveSeq)] := raised_raise rfl rfl ..

theorem calSave_busy (h : s.f fCAL_CMD_BUSY = 1) : s.calSave = s.calNvDone 1 1 := if_pos (on_of_one h)

theorem calLoad_busy (h : s.f fCAL_CMD_BUSY = 1) : s.calLoad = s.calNvDone 2 1 := if_pos (on_of_one h)

section idle
variable (h : s.f fCAL_CMD_BUSY = 0)
include h

theorem cal_not_busy : ¬ s.on fCAL_CMD_BUSY = true := by
  rw [on_of_zero h]
  decide

theorem calSave_beyond (hp : 4090 < s.f fCAL_NV_CPAGE) : s.calSave = s.calNvDone 1 3 :=
  (if_neg (cal_not_busy h)).trans (if_pos hp)

theorem calLoad_beyond (hp : 4090 < s.f fCAL_NV_CPAGE) : s.calLoad = s.calNvDone 2 3 :=
  (if_neg (cal_not_busy h)).trans (if_pos hp)

/-- What the store does with the record of a save leaves BUSY. -/
theorem calSave_waits (hp : s.f fCAL_NV_CPAGE ≤ 4090) : s.calSave.f fCAL_CMD_BUSY = 1 := by
  unfold State.calSave
  rw [if_neg (cal_not_busy h), if_neg (by omega)]
  exact (Calm.nvSubmit _ ⟨by decide, .inr (by decide)⟩).1.trans (f_setF_self (s := s) fCAL_CMD_BUSY 1)

theorem calLoad_invalid (hp : s.f fCAL_NV_CPAGE ≤ 4090) (hs : s.calSetOk (256 * s.f fCAL_NV_CPAGE) = false) :
    s.calLoad = s.calNvDone 2 2 :=
  (if_neg (cal_not_busy h)).trans ((if_neg (by omega)).trans (if_neg (by rw [hs]; decide)))

theorem calLoad_valid (hp : s.f fCAL_NV_CPAGE ≤ 4090) (hs : s.calSetOk (256 * s.f fCAL_NV_CPAGE) = true) :
    s.calLoad = (s.calTake (256 * s.f fCAL_NV_CPAGE)).calNvDone 2 0 :=
  (if_neg (cal_not_busy h)).trans ((if_neg (by omega)).trans (if_pos hs))

end idle

/-! ## The words of an item (R504 to R507) -/

/-- The item classes of R487, each with the index within its class. -/
theorem item_cases (hi : i < 344) : (i < 32) ∨ (∃ k < 16, i = 32 + k) ∨ (∃ k < 272, i = 48 + k) ∨ ∃ k < 24, i = 320 + k := by
  by_cases h : i < 32
  · exact .inl h
  · by_cases h' : i < 48
    · exact .inr (.inl ⟨i - 32, by omega, by omega⟩)
    · by_cases h'' : i < 320
      · exact .inr (.inr (.inl ⟨i - 48, by omega, by omega⟩))
      · exact .inr (.inr (.inr ⟨i - 320, by omega, by omega⟩))

/-- The first field of CAL_VAL of an item begins its word. -/
theorem calA_at (hi : i < 344) : (calA i).addr = 0x03200000 + 16 * i ∧ (calA i).lo = 0 := by
  unfold calA
  split
  · exact ⟨rfl, rfl⟩
  · split
    · exact ⟨by simp only [fCAL_VAL_ADC_OFS]; omega, rfl⟩
    · split
      · exact ⟨by simp only [fCAL_VAL_LANE_OFST]; omega, rfl⟩
      · exact ⟨by simp only [fCAL_VAL_DCC_CODE]; omega, rfl⟩

/-- The second one, where there is one, stands behind it in the same word. -/
theorem calB_at (h : calB i = some y) : y.addr = 0x03200000 + 16 * i ∧ (y.lo = 16 ∨ y.lo = 8) := by
  unfold calB at h
  split at h
  · cases h
  · split at h
    · cases h
      exact ⟨by simp only [fCAL_VAL_ADC_GAIN]; omega, .inl rfl⟩
    · split at h
      · cases h
        exact ⟨by simp only [fCAL_VAL_LANE_AMPT]; omega, .inr rfl⟩
      · cases h

/-- Fields that begin at different bits of the map are two fields. -/
theorem fldKey_ne {x : Fld} (hy : y.lo < 32) (hx : x.lo < 32) (h : y.addr ≠ x.addr ∨ y.lo ≠ x.lo) : fldKey y ≠ fldKey x := by
  unfold fldKey
  omega

theorem calA_ne_calB {x : Fld} (hi : i < 344) (h : calB i = some x) : fldKey (calA i) ≠ fldKey x := by
  obtain ⟨-, lo⟩ := calA_at hi
  obtain ⟨-, lo'⟩ := calB_at h
  exact fldKey_ne (by omega) (by omega) (.inr (by omega))

/-- CAL_CNT, CAL_TS_LO and CAL_TS_HI are words of their own. -/
theorem calA_ne_word {c lo w : Nat} (hi : i < 344) (hlo : lo < 32) (h : 0x03200000 + 16 * i < c) :
    fldKey (calA i) ≠ fldKey ⟨c, lo, w⟩ := by
  obtain ⟨word, lo⟩ := calA_at hi
  exact fldKey_ne (by omega) hlo (.inl (by rw [word]; exact h.ne))

theorem calB_ne_word {c lo w : Nat} (hy : calB i = some y) (hlo : lo < 32) (h : 0x03200000 + 16 * i < c) :
    fldKey y ≠ fldKey ⟨c, lo, w⟩ := by
  obtain ⟨word, bits⟩ := calB_at hy
  exact fldKey_ne (by omega) hlo (.inl (by rw [word]; exact h.ne))

/-! ## A gap comes (R489 to R491) -/

/-- The lane transmitter of an item has sent its stream up to now. -/
def State.calIdled (s : State) (i : Nat) : State := if 48 ≤ i ∧ i < 320 then s.idleTo (i - 48) (s.txNow (i - 48)) else s

theorem calIdled_transmits : Transmits s (s.calIdled i) := .ite .idleTo .refl

theorem calIdled_cal : (s.calIdled i).cal = s.cal := by
  rw [(calIdled_transmits (s := s) (i := i)).rest]

theorem calIdled_ev : (s.calIdled i).ev = s.ev := by
  rw [(calIdled_transmits (s := s) (i := i)).rest]

theorem calIdled_calRun : (s.calIdled i).calRun j = s.calRun j := calRun_of_cal calIdled_cal j

/-- One field moves a code. -/
def State.coded (s : State) (x : Fld) (dir : Nat) : State := s.setF x (calStep x.w (s.f x) dir).1

/-- The fields of an item move a code each. -/
def State.calCoded (s : State) (i a b : Nat) : State :=
  match calB i with
  | none => s.coded (calA i) a
  | some x => (s.coded (calA i) a).coded x b

/-- A run is counted and stamped, and ends. -/
def State.calStamped (s : State) (i : Nat) : State :=
  ((((s.count (fCAL_CNT_COUNT i) 1).setF (fCAL_TS_LO_TS_LO i) (s.calClock i % 2 ^ 32)).setF (fCAL_TS_HI_TS_HI i)
    (s.calClock i / 2 ^ 32)).setCalRun i none).setCalTrim i false

/-- A run ends with new codes. -/
def State.calApplied (s : State) (i a b : Nat) : State := (s.calCoded i a b).calStamped i

/-- A run ends without a value. -/
def State.calDropped (s : State) (i outcome : Nat) : State := (s.setCalRun i none).calItem i outcome

section gap
variable (hi : i < 344) (hr : s.calRun i ≠ none)
include hi hr

theorem calRunning : ¬ 344 ≤ i ∧ ¬ ((s.calIdled i).calRun i).isNone = true := by
  rw [calIdled_calRun, Option.isNone_iff_eq_none]
  exact ⟨by omega, hr⟩

/-- The run ends with its new codes, and with an event where one was held at its limit. -/
theorem execCalApply_codes (hg : (s.calIdled i).calGap i = true) : ∃ held : Prop, ∃ _ : Decidable held, execCalApply i a b false s =
    .next (if held then ((s.calIdled i).calApplied i a b).calItem i 2 else (s.calIdled i).calApplied i a b) := by
  obtain ⟨item, run⟩ := calRunning hi hr
  have codes : execCalApply i a b false s = _ :=
    (if_neg item).trans ((if_neg run).trans ((if_neg (by decide)).trans (if_neg (not_not.2 hg))))
  rw [codes]
  unfold State.calApplied State.calCoded
  cases calB i with
  | none => exact ⟨_, _, rfl⟩
  | some x => exact ⟨_, _, rfl⟩

theorem execCalApply_errs : execCalApply i a b true s = .next ((s.calIdled i).calDropped i 3) := by
  obtain ⟨item, run⟩ := calRunning hi hr
  exact (if_neg item).trans ((if_neg run).trans (if_pos rfl))

end gap

theorem calDropped_calRun {outcome : Nat} : (s.calDropped i outcome).calRun i = none := (calRun_setCalRun s i i none).trans (if_pos rfl)

theorem calDropped_raised {outcome : Nat} (ev : t.ev = s.ev) (time : t.time = s.time) :
    Raised s (t.calDropped i outcome) 0x180 0xE00 0 [(16, i), (8, outcome)] := raised_raise ev time ..

theorem calErr_shows : ((s.calIdled i).calDropped i 3).calRun i = none ∧
    Raised s ((s.calIdled i).calDropped i 3) 0x180 0xE00 0 [(16, i), (8, 3)] ∧
    Only [] [.ev, .cal, .outs, .ch] s ((s.calIdled i).calDropped i 3) := by
  refine ⟨calDropped_calRun, calDropped_raised calIdled_ev calIdled_transmits.time, ?_⟩
  refine Only.refl.touch [.ev, .cal, .outs, .ch] (by decide) (fun _ h => h) ?_
  exact .calItem rfl (.setCalRun rfl (.ite (.idleTo rfl .refl) .refl))

theorem f_calStamped_ne (h0 : fldKey y ≠ fldKey (fCAL_CNT_COUNT i)) (h1 : fldKey y ≠ fldKey (fCAL_TS_LO_TS_LO i))
    (h2 : fldKey y ≠ fldKey (fCAL_TS_HI_TS_HI i)) : (s.calStamped i).f y = s.f y :=
  (f_setF_ne h2 _).trans ((f_setF_ne h1 _).trans (f_setF_ne h0 _))

theorem f_calCoded_ne (ha : fldKey y ≠ fldKey (calA i)) (hb : ∀ x, calB i = some x → fldKey y ≠ fldKey x) :
    (s.calCoded i a b).f y = s.f y := by
  unfold State.calCoded
  split
  · exact f_setF_ne ha _
  · next x some => exact (f_setF_ne (hb x some) _).trans (f_setF_ne ha _)

theorem calCoded_first (hi : i < 344) : (s.calCoded i a b).f (calA i) = (calStep (calA i).w (s.f (calA i)) a).1 % 2 ^ (calA i).w := by
  unfold State.calCoded
  split
  · exact f_setF_self _ _
  · next x some => exact (f_setF_ne (calA_ne_calB hi some) _).trans (f_setF_self _ _)

theorem calCoded_second (hi : i < 344) (h : calB i = some y) : (s.calCoded i a b).f y = (calStep y.w (s.f y) b).1 % 2 ^ y.w := by
  have same : (s.coded (calA i) a).f y = s.f y := f_setF_ne (calA_ne_calB hi h).symm _
  unfold State.calCoded
  rw [h, ← same]
  exact f_setF_self _ _

theorem calCoded_time : (s.calCoded i a b).time = s.time := by
  unfold State.calCoded
  split <;> rfl

/-- A run that ended shows its codes, its count and its stamp. -/
theorem calApplied_shows (hi : i < 344) : (s.calApplied i a b).calRun i = none ∧
    (s.calApplied i a b).f (calA i) = (calStep (calA i).w (s.f (calA i)) a).1 % 2 ^ (calA i).w ∧
    (∀ x, calB i = some x → (s.calApplied i a b).f x = (calStep x.w (s.f x) b).1 % 2 ^ x.w) ∧
    (s.calApplied i a b).f (fCAL_CNT_COUNT i) = satAdd (s.f (fCAL_CNT_COUNT i)) 1 (2 ^ 32 - 1) ∧
    (s.calApplied i a b).f (fCAL_TS_LO_TS_LO i) = s.calClock i % 2 ^ 32 ∧
    (s.calApplied i a b).f (fCAL_TS_HI_TS_HI i) = s.calClock i / 2 ^ 32 % 2 ^ 32 := by
  have clock : (s.calCoded i a b).calClock i = s.calClock i := calClock_of_time calCoded_time i
  have cnt_lo : fldKey (fCAL_CNT_COUNT i) ≠ fldKey (fCAL_TS_LO_TS_LO i) := fldKey_ne_addr (by decide) (by decide) (by omega)
  have cnt_hi : fldKey (fCAL_CNT_COUNT i) ≠ fldKey (fCAL_TS_HI_TS_HI i) := fldKey_ne_addr (by decide) (by decide) (by omega)
  have lo_hi : fldKey (fCAL_TS_LO_TS_LO i) ≠ fldKey (fCAL_TS_HI_TS_HI i) := fldKey_ne_addr (by decide) (by decide) (by omega)
  refine ⟨calRun_ended, ?_, fun x hx => ?_, ?_, ?_, ?_⟩
  · refine (f_calStamped_ne ?_ ?_ ?_).trans (calCoded_first hi) <;> exact calA_ne_word hi (by decide) (by omega)
  · refine (f_calStamped_ne ?_ ?_ ?_).trans (calCoded_second hi hx) <;> exact calB_ne_word hx (by decide) (by omega)
  · have before : (s.calCoded i a b).f (fCAL_CNT_COUNT i) = s.f (fCAL_CNT_COUNT i) :=
      f_calCoded_ne (calA_ne_word hi (by decide) (by omega)).symm fun x hx => (calB_ne_word hx (by decide) (by omega)).symm
    refine (f_setF_ne cnt_hi _).trans ((f_setF_ne cnt_lo _).trans ((count_self ..).trans ?_))
    rw [before]
    rfl
  · rw [← clock]
    exact (f_setF_ne lo_hi _).trans ((f_setF_self _ _).trans (Nat.mod_mod _ _))
  · rw [← clock]
    exact f_setF_self _ _

/-- An event told at the end of a run is no part of what the run shows. -/
theorem calHeld_shows {held : Prop} [Decidable held] : (if held then s.calItem i 2 else s).calRun j = s.calRun j ∧
    ∀ y, (if held then s.calItem i 2 else s).f y = s.f y := by
  split
  · exact ⟨rfl, fun _ => rfl⟩
  · exact ⟨rfl, fun _ => rfl⟩

/-! ## A run times out (R490) -/

theorem execCalRunTimeout_ends {k : Nat} (hr : s.calRun i = some k) (hk : k + 2 ^ 30 ≤ s.calClock i) :
    execCalRunTimeout i s = .next (s.calDropped i 1) := by
  unfold execCalRunTimeout
  rw [hr]
  exact congrArg Host.Outcome.next (if_pos hk)

theorem calTimeout_shows : (s.calDropped i 1).calRun i = none ∧ Raised s (s.calDropped i 1) 0x180 0xE00 0 [(16, i), (8, 1)] ∧
    Only [] [.ev, .cal] s (s.calDropped i 1) := by
  refine ⟨calDropped_calRun, calDropped_raised rfl rfl, ?_⟩
  exact Only.refl.touch [.ev, .cal] (by decide) (fun _ h => h) (.calItem rfl (.setCalRun rfl .refl))

/-! ## A value is written (R491) -/

theorem busWrite_calVal (hi : i < 344) (ht : s.takesWrite req (0x03200000 + 16 * i) = true) (hv : v < 2 ^ 32) :
    s.busWrite req (0x03200000 + 16 * i) v = (s.calWrite i v).wakeBanks := by
  have item : (0x03200000 + 16 * i - 0x03200000) / 16 = i := by omega
  suffices h : s.busWrite req (0x03200000 + 16 * i) v = (s.calWrite ((0x03200000 + 16 * i - 0x03200000) / 16) v).wakeBanks from
    h.trans (by rw [item])
  clear item
  rcases item_cases hi with hk | ⟨k, hk, rfl⟩ | ⟨k, hk, rfl⟩ | ⟨k, hk, rfl⟩
  case inl =>
    exact (write_CAL_VAL_TS hk ht hv).trans (congrArg State.wakeBanks writeDrive_CAL_VAL_TS)
  case inr.inl =>
    have word : 0x03200000 + 16 * (32 + k) = (fCAL_VAL_ADC_OFS k).addr := by simp only [fCAL_VAL_ADC_OFS]; omega
    rw [word] at ht ⊢
    exact (write_CAL_VAL_ADC hk ht hv).trans (congrArg State.wakeBanks writeDrive_CAL_VAL_ADC)
  case inr.inr.inl =>
    have word : 0x03200000 + 16 * (48 + k) = (fCAL_VAL_LANE_OFST k).addr := by simp only [fCAL_VAL_LANE_OFST]; omega
    rw [word] at ht ⊢
    exact (write_CAL_VAL_LANE hk ht hv).trans (congrArg State.wakeBanks writeDrive_CAL_VAL_LANE)
  case inr.inr.inr =>
    have word : 0x03200000 + 16 * (320 + k) = (fCAL_VAL_DCC_CODE k).addr := by simp only [fCAL_VAL_DCC_CODE]; omega
    rw [word] at ht ⊢
    exact (write_CAL_VAL_DCC hk ht hv).trans (congrArg State.wakeBanks writeDrive_CAL_VAL_DCC)

theorem execCalValWrite_writes (hi : i < 344) (ht : s.takesWrite req (0x03200000 + 16 * i) = true) :
    exec (.calValWrite req i data) s = .next (s.calWrite i data.toNat).wakeBanks :=
  (rowWrite_of s (decide_eq_true hi)).trans (congrArg Host.Outcome.next (busWrite_calVal hi ht data.isLt))

theorem calWrite_shows (hi : i < 344) : (s.calWrite i v).calRun i = none ∧
    (s.calWrite i v).f (calA i) = bitsOf v ((calA i).lo + (calA i).w - 1) (calA i).lo % 2 ^ (calA i).w := by
  unfold State.calWrite
  rw [if_neg (by omega)]
  refine ⟨calRun_ended, ?_⟩
  dsimp only
  split
  · next x some => exact (f_setF_ne (calA_ne_calB hi some) _).trans (f_setF_self _ _)
  · exact f_setF_self _ _

/-! ## Readings (R512, R513) -/

/-- A reading shows its value and that it is valid. -/
theorem reading_shows {valid value : Fld} (h1 : valid.w = 1) (h16 : value.w = 16) (hne : fldKey valid ≠ fldKey value) :
    ((s.setF valid 1).setF value v).f valid = 1 ∧ ((s.setF valid 1).setF value v).f value = v % 65536 := by
  refine ⟨(f_setF_ne hne _).trans ((f_setF_self _ _).trans (by rw [h1]; rfl)), (f_setF_self _ _).trans (by rw [h16]; rfl)⟩

theorem tempSensorUpdate_shows {raw : Nat} (hn : n < 32) (hr : s.calRun n = none) :
    let v := sInt 16 (raw % 65536) + sInt 16 (s.f (fCAL_VAL_TS_OFS n))
    ∃ t, exec (.tempSensorUpdate n raw) s = .next t ∧ t.f (fCAL_TEMP_VALID n) = 1 ∧
      (-32768 ≤ v → v ≤ 32767 → t.f (fCAL_TEMP_TEMP n) = toField 16 v % 65536) ∧
      (v < -32768 ∨ 32767 < v → t.f (fCAL_TEMP_TEMP n) = Config.freeValue s.free % 65536) := by
  have at_rest : ¬ (32 ≤ n ∨ (s.calRun n).isSome = true) := by
    rw [hr, Option.isSome_none]
    rintro (f | f)
    exacts [by omega, Bool.noConfusion f]
  have apart : fldKey (fCAL_TEMP_VALID n) ≠ fldKey (fCAL_TEMP_TEMP n) := fldKey_ne_lo (by decide) (by decide) (by decide)
  rw [exec_tempSensorUpdate]
  unfold execTempSensorUpdate
  rw [if_neg at_rest]
  dsimp only
  generalize sInt 16 (raw % 65536) + sInt 16 (s.f (fCAL_VAL_TS_OFS n)) = v
  by_cases out : v < -32768 ∨ 32767 < v
  · rw [if_pos out]
    obtain ⟨valid, temp⟩ := reading_shows (s := (s.draw 16).2) (v := (s.draw 16).1) rfl rfl apart
    exact ⟨_, rfl, valid, fun f f' => absurd out (by omega), fun _ => temp.trans (Nat.mod_mod _ _)⟩
  · rw [if_neg out]
    obtain ⟨valid, temp⟩ := reading_shows (s := s) (v := toField 16 v) rfl rfl apart
    exact ⟨_, rfl, valid, fun _ _ => temp, fun f => absurd f out⟩

theorem railMonitorUpdate_shows {raw : Nat} (hn : n < 16) (hr : s.calRun (32 + n) = none) :
    ∃ t, exec (.railMonitorUpdate n raw) s = .next t ∧ t.f (fCAL_RAIL_VALID n) = 1 ∧
      let ofs := sInt 16 (s.f (fCAL_VAL_ADC_OFS n))
      let exact := ofs % 10 = 0 ∧ s.f (fCAL_VAL_ADC_GAIN n) = 0 ∧ 0 ≤ (raw : Int) + ofs / 10 ∧ (raw : Int) + ofs / 10 < 65536
      (exact → (t.f (fCAL_RAIL_MV n) : Int) = raw + ofs / 10) ∧
      (¬ exact → t.f (fCAL_RAIL_MV n) = Config.freeValue s.free % 65536) := by
  have at_rest : ¬ (16 ≤ n ∨ (s.calRun (32 + n)).isSome = true) := by
    rw [hr, Option.isSome_none]
    rintro (f | f)
    exacts [by omega, Bool.noConfusion f]
  have apart : fldKey (fCAL_RAIL_VALID n) ≠ fldKey (fCAL_RAIL_MV n) := fldKey_ne_lo (by decide) (by decide) (by decide)
  rw [exec_railMonitorUpdate]
  unfold execRailMonitorUpdate
  rw [if_neg at_rest]
  dsimp only
  generalize sInt 16 (s.f (fCAL_VAL_ADC_OFS n)) = ofs
  split
  next whole =>
    obtain ⟨valid, mv⟩ := reading_shows (s := s) (v := ((raw : Int) + ofs / 10).toNat) rfl rfl apart
    have fits : ((((raw : Int) + ofs / 10).toNat % 65536 : Nat) : Int) = raw + ofs / 10 := by omega
    exact ⟨_, rfl, valid, fun _ => (congrArg Nat.cast mv).trans fits, fun f => absurd whole f⟩
  next rest =>
    obtain ⟨valid, mv⟩ := reading_shows (s := (s.draw 16).2) (v := (s.draw 16).1) rfl rfl apart
    exact ⟨_, rfl, valid, fun f => absurd f rest, fun _ => mv.trans (Nat.mod_mod _ _)⟩

end Sys2Proof.Machine

/-- Settles O29: a period by the items that its class starts, a command by the operations of its bits, a gap by the codes, the count and
the stamp of the run it ends, a reading by whether its corrected value is one that the field holds. -/
theorem calibrationItemsRunSaveAndRead : Obligations.CalibrationItemsRunSaveAndRead := by
  intro s
  refine ⟨fun cls hc hp hb hd => ⟨_, execCalPeriod_starts hc hp hb hd, calClassStarts_shows⟩, fun req data => execCal_writes,
    fun u v => rfl,
    fun u i hi => ⟨fun idle => ?starts, calStart_runs⟩, fun u i => calStart_beyond,
    fun u => ⟨fun busy => ?busy, fun free beyond => ?beyond, fun free page => ?stored⟩,
    fun i a b hi hr hg => ?gap,
    fun i hi hr => ⟨fun a b => ⟨_, execCalApply_errs hi hr, calErr_shows⟩,
      fun k hk ht => ⟨_, execCalRunTimeout_ends hk ht, calTimeout_shows⟩⟩,
    fun req i data hi ht => ⟨execCalValWrite_writes hi ht, calWrite_shows hi⟩,
    fun n raw => tempSensorUpdate_shows, fun n raw => railMonitorUpdate_shows⟩
  case starts =>
    rw [calStart_begins hi idle]
    exact (calRun_setCalRun ..).trans (if_pos rfl)
  case busy =>
    rw [calSave_busy busy, calLoad_busy busy]
    exact ⟨calNvDone_result (by decide), calNvDone_result (by decide), calNvDone_raised⟩
  case beyond =>
    rw [calSave_beyond free beyond, calLoad_beyond free beyond]
    exact ⟨calNvDone_result (by decide), calNvDone_result (by decide)⟩
  case stored =>
    refine ⟨calSave_waits free page, fun bad => ?_, calLoad_valid free page⟩
    rw [calLoad_invalid free page bad]
    exact calNvDone_result (by decide)
  case gap =>
    obtain ⟨held, _, applied⟩ := execCalApply_codes (a := a) (b := b) hi hr hg
    obtain ⟨run, fields⟩ := calHeld_shows (s := (s.calIdled i).calApplied i a b) (i := i) (j := i) (held := held)
    refine ⟨_, applied, ?_⟩
    have clock : (s.calIdled i).calClock i = s.calClock i := calClock_of_time calIdled_transmits.time i
    simp only [run, fields, ← clock, ← calIdled_transmits.f (s := s) (t := s.calIdled i)]
    exact calApplied_shows hi
end

section
/-!
The sense fold: its switch, its phases and the gain of a word (R497, R499 to R502).
-/
open Sys2Proof Sys2Proof.Machine
namespace Sys2Proof.Machine

variable {s : State} {g w e m : Nat} {b : Bool} {req : Req} {data : Word} {step : Int}

/-! ## The switch is written (R497, R502) -/

theorem busWrite_fold (hg : g < 16) (ht : s.takesWrite req (fCAL_SNS_CFG_FOLD g).addr = true) (hb : data.getLsbD 31 = b) :
    s.busWrite req (fCAL_SNS_CFG_FOLD g).addr data.toNat =
      (((s.stageWord req (fCAL_SNS_CFG_FOLD g).addr data.toNat regCAL_SNS_CFG).putFields (fCAL_SNS_CFG_FOLD g).addr data.toNat
        regCAL_SNS_CFG.fields (!(s.stageWord req (fCAL_SNS_CFG_FOLD g).addr data.toNat regCAL_SNS_CFG).on (fCAL_SNS_CFG_FOLD g))
        (atBits [31])).foldWrite g b).wakeBanks := by
  rw [write_CAL_SNS_CFG hg ht data.isLt, writeDrive_CAL_SNS_CFG, wbit_one hb]

theorem execFoldEnable_writes (hg : g < 16) (hb : data.getLsbD 31 = true) :
    exec (.foldEnable req g data) s = .next (s.busWrite req (fCAL_SNS_CFG_FOLD g).addr data.toNat) :=
  rowWrite_of s (by rw [decide_eq_true hg]; exact hb)

theorem execFoldDisable_writes (hg : g < 16) (hb : data.getLsbD 31 = false) :
    exec (.foldDisable req g data) s = .next (s.busWrite req (fCAL_SNS_CFG_FOLD g).addr data.toNat) :=
  rowWrite_of s (by rw [decide_eq_true hg, wbit, hb]; rfl)

/-! ## A cycle begins, is refused or is abandoned (R497, R502) -/

/-- CAL_SNS_CFG and CAL_SNS_STATUS are two words. -/
theorem snsFold_ne_status {h lo w : Nat} (hlo : lo < 32) : fldKey (fCAL_SNS_CFG_FOLD g) ≠ fldKey ⟨0x03203028 + 0x40 * h, lo, w⟩ :=
  fldKey_ne_addr (by decide) hlo (by omega)

theorem snsFold_ne_phase : fldKey (fCAL_SNS_CFG_FOLD g) ≠ fldKey (fCAL_SNS_STATUS_PHASE g) := snsFold_ne_status (by decide)

/-- FOLD = 1 is refused with a code. -/
def State.foldRefused (s : State) (g code : Nat) : State := (s.setF (fCAL_SNS_STATUS_ERR g) code).foldEvent g 0 2 code

/-- The group folds: no error, in COLLECT, with the plane in effect noted. -/
def State.foldBegun (s : State) (g : Nat) : State :=
  let u := ((s.setF (fCAL_SNS_STATUS_ERR g) 0).setF (fCAL_SNS_CFG_FOLD g) 1).setF (fCAL_SNS_STATUS_PHASE g) 0
  ((u.setOn (fCAL_SNS_STATUS_INEFF g) (u.f (u.foldGran g) == u.foldSide g true)).setFold g FoldSt.init).foldEvent g 1 0 0

section off
variable (h0 : s.f (fCAL_SNS_CFG_FOLD g) = 0)
include h0

theorem foldWrite_refused (hc : s.foldCheck g ≠ 0) : s.foldWrite g true = s.foldRefused g (s.foldCheck g) := by
  unfold State.foldWrite
  rw [on_of_zero h0]
  exact if_pos hc

theorem foldWrite_begins (hc : s.foldCheck g = 0) : s.foldWrite g true = s.foldBegun g := by
  unfold State.foldWrite
  rw [on_of_zero h0, hc]
  rfl

end off

theorem foldWrite_abandons (h1 : s.f (fCAL_SNS_CFG_FOLD g) = 1) : s.foldWrite g false = s.foldAbandon g 0 := by
  unfold State.foldWrite
  rw [on_of_one h1]
  rfl

theorem foldRefused_shows {code : Nat} (hc : code < 8) (h0 : s.f (fCAL_SNS_CFG_FOLD g) = 0) :
    (s.foldRefused g code).f (fCAL_SNS_STATUS_ERR g) = code ∧ (s.foldRefused g code).f (fCAL_SNS_CFG_FOLD g) = 0 ∧
    Raised s (s.foldRefused g code) 0x182 (0x800 + g) (locusGroup g) [(8, 0), (8, 2), (8, code)] :=
  ⟨(f_setF_self _ _).trans (Nat.mod_eq_of_lt hc), (f_setF_ne (snsFold_ne_status (by decide)) _).trans h0, raised_raise rfl rfl ..⟩

theorem foldBegun_shows : (s.foldBegun g).f (fCAL_SNS_CFG_FOLD g) = 1 ∧ (s.foldBegun g).f (fCAL_SNS_STATUS_PHASE g) = 0 ∧
    Raised s (s.foldBegun g) 0x182 (0x800 + g) (locusGroup g) [(8, 1), (8, 0), (8, 0)] := by
  have phase : fldKey (fCAL_SNS_STATUS_PHASE g) ≠ fldKey (fCAL_SNS_STATUS_INEFF g) := fldKey_ne_lo (by decide) (by decide) (by decide)
  refine ⟨?_, (f_setF_ne phase _).trans (f_setF_self _ _), raised_raise rfl rfl ..⟩
  exact (f_setF_ne (snsFold_ne_status (by decide)) _).trans ((f_setF_ne snsFold_ne_phase _).trans (f_setF_self _ _))

theorem foldAbandon_shows : (s.foldAbandon g 0).f (fCAL_SNS_CFG_FOLD g) = 0 ∧ (s.foldAbandon g 0).fold g = FoldSt.init ∧
    (s.foldAbandon g 0).f (fCAL_SNS_STATUS_PHASE g) = 0 ∧
    Raised s (s.foldAbandon g 0) 0x182 (0x800 + g) (locusGroup g) [(8, 0), (8, 0), (8, 0)] := by
  have freed : Touch 4194306 s (s.freeAccs ((s.accsOf g).map fun e => e.1)) := .freeAccs (m := 4194306) .refl .refl
  refine ⟨(f_setF_ne snsFold_ne_phase _).trans (f_setF_self _ _), (fold_setFold ..).trans (if_pos rfl), f_setF_self _ _, ?_⟩
  exact raised_raise (touch_same freed .ev (by decide)) (touch_same freed .time (by decide)) ..

theorem foldCheck_code : s.foldCheck g = if s.foldSide g false = s.foldSide g true then 1
    else if s.f (s.foldGran g) ≠ s.foldSide g false ∧ s.f (s.foldGran g) ≠ s.foldSide g true then 2
    else if s.planeEn g (s.foldPlane g) = false then 3
    else if s.planeCode g (s.foldPlane g) ≠ 0 then 4 else 0 := by
  unfold State.foldCheck
  simp only [Bool.not_eq_true]

/-! ## The phases WRITE and REPLAY end (R500, R501) -/

/-- Reads of which none has to wait are carried out. -/
theorem readGate_awake {rs : List (Nat × Nat)} (h : ∀ r ∈ rs, s.asleep r.1 r.2 = false ∧ s.readBlocked r.1 r.2 = []) :
    (s.readGate b rs).1 = true := by
  refine List.all_eq_true.2 fun r hr => ?_
  obtain ⟨awake, clear⟩ := h r hr
  rw [awake, clear]
  rfl

/-- FOLD and PHASE let a command of the phases `p` act. -/
theorem fold_in_phase {p : Nat} (hg : g < 16) (hf : s.f (fCAL_SNS_CFG_FOLD g) = 1) (hp : s.f (fCAL_SNS_STATUS_PHASE g) = p) :
    ¬ (16 ≤ g ∨ ¬ s.on (fCAL_SNS_CFG_FOLD g) = true ∨ s.f (fCAL_SNS_STATUS_PHASE g) ≠ p) := by
  rintro (f | f | f)
  · omega
  · exact f (on_of_one hf)
  · exact f hp

theorem execFoldWritesDone_ends (hg : g < 16) (hf : s.f (fCAL_SNS_CFG_FOLD g) = 1) (hp : s.f (fCAL_SNS_STATUS_PHASE g) = 1)
    (hr : ∀ e ∈ (s.fold g).todo, s.asleep (256 * s.foldSide g (s.on (fCAL_SNS_STATUS_INEFF g)) + e.1) 2 = false ∧
      s.readBlocked (256 * s.foldSide g (s.on (fCAL_SNS_STATUS_INEFF g)) + e.1) 2 = []) :
    ∃ v : State, execFoldWritesDone g s = .next ((v.setFold g { v.fold g with todo := [] }).setF (fCAL_SNS_STATUS_PHASE g) 2) := by
  have gate : (s.readGate false ((s.fold g).todo.map fun e => (256 * s.foldSide g (s.on (fCAL_SNS_STATUS_INEFF g)) + e.1, 2))).1 = true := by
    refine readGate_awake fun r hr' => ?_
    obtain ⟨e, he, rfl⟩ := List.mem_map.1 hr'
    exact hr e he
  exact ⟨_, (if_neg (fold_in_phase hg hf hp)).trans (if_neg (not_not.2 gate))⟩

theorem execFoldReplayDone_ends (hg : g < 16) (hf : s.f (fCAL_SNS_CFG_FOLD g) = 1) (hp : s.f (fCAL_SNS_STATUS_PHASE g) = 3) :
    ∃ v : State, execFoldReplayDone g s = .next ((v.setFold g { v.fold g with replay := [] }).setF (fCAL_SNS_STATUS_PHASE g) 0) :=
  ⟨_, if_neg (fold_in_phase hg hf hp)⟩

/-- The next phase, with what is left of the cycle. -/
theorem phaseEnded_shows {x : FoldSt} {p : Nat} (hp : p < 4) :
    ((s.setFold g x).setF (fCAL_SNS_STATUS_PHASE g) p).f (fCAL_SNS_STATUS_PHASE g) = p ∧
    ((s.setFold g x).setF (fCAL_SNS_STATUS_PHASE g) p).fold g = x :=
  ⟨(f_setF_self _ _).trans (Nat.mod_eq_of_lt hp), (fold_setFold ..).trans (if_pos rfl)⟩

theorem execFoldRetry_counts (hg : g < 16) (hf : s.f (fCAL_SNS_CFG_FOLD g) = 1)
    (hp : s.f (fCAL_SNS_STATUS_PHASE g) = 1 ∨ s.f (fCAL_SNS_STATUS_PHASE g) = 3) :
    execFoldRetry g s = .next (s.setFold g { s.fold g with retries := (s.fold g).retries + 1 }) :=
  congrArg Host.Outcome.next (if_pos ⟨hg, on_of_one hf, hp⟩)

theorem setFold_only {x : FoldSt} : Only [] [.cal] s (s.setFold g x) :=
  Only.refl.touch [.cal] (by decide) (fun _ h => h) (.setFold rfl .refl)

/-! ## The new word of a block (R500) -/

theorem sInt_byte {n : Nat} (h : n < 256) : -128 ≤ sInt 8 n ∧ sInt 8 n ≤ 127 := by
  unfold sInt
  split <;> omega

/-- A value of a byte's range reads back from its field. -/
theorem sInt_toField_byte {x : Int} (h : -128 ≤ x) (h' : x ≤ 127) : sInt 8 (toField 8 x) = x := by
  unfold sInt toField
  split <;> omega

/-- The offset stays below the gain. -/
theorem foldWord_parts (hw : w < 65536) (hs : 1 ≤ step) :
    let g0 := sInt 8 (w / 256)
    let tg := max (-128) (min 127 ((((1024 * e + m) / (2 * m) : Nat) : Int) - 512))
    foldWord w e m step % 256 = w % 256 ∧ sInt 8 (foldWord w e m step / 256) = g0 + max (-step) (min step (tg - g0)) := by
  intro g0 tg
  obtain ⟨low, high⟩ : -128 ≤ g0 ∧ g0 ≤ 127 := sInt_byte (by omega)
  have word : foldWord w e m step = 256 * toField 8 (g0 + max (-step) (min step (tg - g0))) + w % 256 := rfl
  have target : -128 ≤ tg ∧ tg ≤ 127 := by omega
  rw [word]
  refine ⟨by omega, ?_⟩
  rw [show ∀ k, (256 * k + w % 256) / 256 = k from fun k => by omega]
  exact sInt_toField_byte (by omega) (by omega)

end Sys2Proof.Machine

/-- Settles O30: the switch by what its word's write runs and by the code of R497; a phase by what is left of the cycle when it ends; a
word by its gain, which stays within a byte, and its offset. -/
theorem theSenseFoldCyclesThroughItsPhases : Obligations.TheSenseFoldCyclesThroughItsPhases := by
  intro s
  refine ⟨fun req g data hg ht => ⟨fun on => ?enable, fun off => ?disable⟩,
    fun u g hg => ⟨fun off bad code => ?refused, fun off good => ?begins, fun on => ?abandons⟩,
    fun u g => foldCheck_code, fun g hg hf hp hr => ?written, fun g hg hf hp => ?replayed,
    fun g hg hf hp => ⟨_, execFoldRetry_counts hg hf hp, ?retries, setFold_only⟩, fun w e m step => foldWord_parts⟩
  case enable =>
    rw [on]
    exact (execFoldEnable_writes hg on).trans (congrArg Host.Outcome.next (busWrite_fold hg ht on))
  case disable =>
    rw [off]
    exact (execFoldDisable_writes hg off).trans (congrArg Host.Outcome.next (busWrite_fold hg ht off))
  case refused =>
    rw [foldWrite_refused off bad]
    exact foldRefused_shows code off
  case begins =>
    rw [foldWrite_begins off good]
    exact foldBegun_shows
  case abandons =>
    rw [foldWrite_abandons on]
    exact foldAbandon_shows
  case written =>
    obtain ⟨v, ends⟩ := execFoldWritesDone_ends hg hf hp hr
    obtain ⟨phase, left⟩ := phaseEnded_shows (s := v) (g := g) (x := { v.fold g with todo := [] }) (p := 2) (by decide)
    exact ⟨_, ends, phase, congrArg FoldSt.todo left⟩
  case replayed =>
    obtain ⟨v, ends⟩ := execFoldReplayDone_ends hg hf hp
    obtain ⟨phase, left⟩ := phaseEnded_shows (s := v) (g := g) (x := { v.fold g with replay := [] }) (p := 0) (by decide)
    exact ⟨_, ends, phase, congrArg FoldSt.replay left⟩
  case retries => exact congrArg FoldSt.retries ((fold_setFold ..).trans (if_pos rfl))
end

section
/-!
Replies of the CDAT and of PF0's mailbox, and the CXL event logs behind them (R527, R528).
-/
open Sys2Proof Sys2Proof.Machine
namespace Sys2Proof.Machine

variable {s t : State} {fs : List Fld} {ps : List Part} {log n : Nat}

namespace Only

theorem setHost {x : HostSt} (hp : Part.host ∈ ps) (h : Only fs ps s t) : Only fs ps s { t with host := x } :=
  h.touch [.host] (by decide) (List.forall_mem_singleton.2 hp) (.upd_11 (m := 2048) .refl .refl)

theorem drawBytes (hp : Part.free ∈ ps) (h : Only fs ps s t) : Only fs ps s (t.drawBytes n).2 :=
  h.touch [.free] (by decide) (List.forall_mem_singleton.2 hp) (.drawBytes (m := 8) .refl .refl)

end Only

/-- Free values beside a reply. -/
theorem drawBytes_only (r : Out) : Only [] [.outs, .free] s ((s.drawBytes n).2.out r) :=
  .out (by decide) (.drawBytes (by decide) .refl)

theorem reply_only (r : Out) : Only [] [.outs] s (s.out r) := .out (by decide) .refl

theorem length_leBytes (n : Nat) : ∀ v, (leBytes n v).length = n := by
  induction n with
  | zero => exact fun _ => rfl
  | succ n ih => exact fun v => congrArg (· + 1) (ih (v / 256))

/-! ## Get Log -/

theorem execGetLog_effects : execGetLog 0 n s = .next ((s.drawBytes n).2.out (.reply 24 (s.drawBytes n).1)) := rfl

theorem execGetLog_other (h : log ≠ 0) : execGetLog log n s = .next (s.out (.reply 30 [])) := if_pos h

/-! ## The event logs -/

/-- The state in which a log of the mailbox stands as `l`. -/
def State.setEvLog (s : State) (log : Nat) (l : CxlLog) : State :=
  { s with host := { s.host with logs := smSet (fun _ => (⟨[], 0⟩ : CxlLog)) s.host.logs log l } }

theorem evLog_setEvLog (l : CxlLog) (k : Nat) : (s.setEvLog log l).evLog k = if k = log then l else s.evLog k := smGet_smSet ..

theorem execClearEventRecords_eq : execClearEventRecords log n s =
    .next ((s.setEvLog log ⟨(s.evLog log).recs.drop n, 0⟩).out (.reply 26 [])) := rfl

theorem msix_logs (func vec : Nat) : (s.msix func vec).host.logs = s.host.logs := by
  unfold State.msix
  dsimp only
  split
  · rfl
  · split <;> rfl

theorem logIrq_logs : (s.logIrq log).host.logs = s.host.logs := by
  unfold State.logIrq
  dsimp only
  split
  · exact msix_logs ..
  · rfl

/-- A new record: a full log loses its oldest record and counts it (R528, R529). -/
def CxlLog.entered (l : CxlLog) (kind detail : Nat) : CxlLog :=
  if l.recs.length < 64 then ⟨l.recs ++ [(kind, detail)], l.overflow⟩ else ⟨l.recs.drop 1 ++ [(kind, detail)], l.overflow + 1⟩

theorem cxlLog_eq (kind detail : Nat) : s.cxlLog log kind detail =
    (s.setEvLog log ((s.evLog log).entered kind detail)).logIrq log := rfl

theorem evLog_cxlLog (kind detail : Nat) : (s.cxlLog log kind detail).evLog log = (s.evLog log).entered kind detail := by
  rw [cxlLog_eq]
  exact (congrArg (smGet _ · log) logIrq_logs).trans ((evLog_setEvLog _ log).trans (if_pos rfl))

/-! ## Get Health Info -/

/-- The sensors whose reading is valid. -/
def State.validTemps (s : State) : List Nat := (List.range 32).filter fun n => s.on (fCAL_TEMP_VALID n)

theorem mem_validTemps {k : Nat} : k ∈ s.validTemps ↔ k < 32 ∧ s.on (fCAL_TEMP_VALID k) = true := by
  rw [State.validTemps, List.mem_filter, List.mem_range]

/-- The reading of a sensor. -/
def State.reading (s : State) (n : Nat) : Int := sInt 16 (s.f (fCAL_TEMP_TEMP n))

/-- The reply that carries a temperature. -/
def healthReply (t : Int) : Out := .reply 29 (leBytes 2 (toField 16 t))

theorem execGetHealthInfo_blind (h : s.validTemps = []) :
    execGetHealthInfo s = .next ((s.drawBytes 2).2.out (.reply 29 (s.drawBytes 2).1)) := by
  unfold execGetHealthInfo
  unfold State.validTemps at h
  dsimp only
  rw [h]
  rfl

theorem execGetHealthInfo_reads {k : Nat} {ks : List Nat} (h : s.validTemps = k :: ks) :
    execGetHealthInfo s = .next (s.out (healthReply ((ks.map s.reading).foldl max (s.reading k)))) := by
  unfold execGetHealthInfo
  unfold State.validTemps at h
  dsimp only
  rw [h]
  rfl

/-- The greatest of the values of `f` on a list is the value of `f` at one of them. -/
theorem greatest_attained (f : Nat → Int) (k : Nat) (ks : List Nat) :
    ∃ n ∈ k :: ks, (∀ j ∈ k :: ks, f j ≤ f n) ∧ f n = (ks.map f).foldl max (f k) := by
  have top : ((k :: ks).map f).max? = some ((ks.map f).foldl max (f k)) := List.max?_cons'
  obtain ⟨attained, above⟩ := List.max?_eq_some_iff.1 top
  obtain ⟨n, hn, value⟩ := List.mem_map.1 attained
  exact ⟨n, hn, fun j hj => value ▸ above _ (List.mem_map_of_mem hj), value⟩

end Sys2Proof.Machine

/-- Settles O33: each reply is its command's by computation; a log is cleared and entered as a sparse map, and the temperature is the
greatest of a list that a valid sensor makes non-empty. -/
theorem mailboxRepliesOfTheManagementFunction : Obligations.MailboxRepliesOfTheManagementFunction := by
  intro s
  refine ⟨⟨_, rfl, reply_only _, rfl⟩, ⟨_, rfl, rfl, reply_only _⟩, ⟨_, rfl, rfl, reply_only _⟩, fun log n => ?log,
    fun log => ⟨_, rfl, reply_only _, rfl⟩, fun log n => ⟨_, execClearEventRecords_eq, ?frame, rfl, ?left, ?reset, ?others⟩,
    ⟨_, rfl, rfl, reply_only _⟩, fun policy => ⟨_, rfl, rfl, rfl, .out (by decide) (.setHost (by decide) .refl)⟩, ?health,
    ⟨_, rfl, rfl, reply_only _⟩, fun op => ⟨_, rfl, rfl, reply_only _⟩, fun log kind detail => evLog_cxlLog kind detail⟩
  case log =>
    by_cases h : log = 0
    · subst h
      exact ⟨_, execGetLog_effects, drawBytes_only _, fun _ => ⟨_, length_leBytes .., rfl⟩, fun no => absurd rfl no⟩
    · exact ⟨_, execGetLog_other h, .out (by decide) .refl, fun yes => absurd yes h, fun _ => rfl⟩
  case frame => exact .out (by decide) (.setHost (by decide) .refl)
  case left => exact congrArg CxlLog.recs ((evLog_setEvLog _ log).trans (if_pos rfl))
  case reset => exact congrArg CxlLog.overflow ((evLog_setEvLog _ log).trans (if_pos rfl))
  case others => exact fun k hk => (evLog_setEvLog _ k).trans (if_neg hk)
  case health =>
    cases h : s.validTemps with
    | nil =>
      refine ⟨_, execGetHealthInfo_blind h, drawBytes_only _, fun ⟨n, valid⟩ => ?_⟩
      exact absurd (h ▸ mem_validTemps.2 valid) List.not_mem_nil
    | cons k ks =>
      obtain ⟨n, hn, greatest, value⟩ := greatest_attained s.reading k ks
      rw [← h] at hn greatest
      obtain ⟨sensor, valid⟩ := mem_validTemps.1 hn
      exact ⟨_, execGetHealthInfo_reads h, .out (by decide) .refl, fun _ => ⟨n, sensor, valid,
        fun j hj vj => greatest j (mem_validTemps.2 ⟨hj, vj⟩), by rw [← value]; rfl⟩⟩
end

section
/-!
What leaves the registers of the host link alone (R545 to R548): they lie below the queues' registers, and all that goes on in the
block when the frame store can be written again, when a queue or a ring stops, or when the device falls asleep, writes above them.
-/
open Sys2Proof Sys2Proof.Machine
namespace Sys2Proof.Machine

variable {s t u : State} {y : Fld}

/-- A field of the host link's registers: its word lies below the queues' registers. -/
def linkFld (y : Fld) : Prop := y.addr < 0x00300000 ∧ y.lo < 32

theorem linkFld.ne (h : linkFld y) {x : Fld} (hx : 0x00300000 ≤ x.addr) : fldKey y ≠ fldKey x := by
  obtain ⟨addr, lo⟩ := h
  simp only [fldKey]
  omega

theorem linkFld.outside (h : linkFld y) {lo hi : Nat} (hlo : 0x00300000 ≤ lo) : Machine.outside y lo hi :=
  ⟨h.2, .inl (Nat.lt_of_lt_of_le h.1 hlo)⟩

theorem linkFld.apart (h : linkFld y) : apart y = true := by
  obtain ⟨addr, lo⟩ := h
  simp only [Machine.apart, Bool.and_eq_true, decide_eq_true_eq]
  omega

namespace Calm

theorem seq (k : Calm y t u) (c : Calm y s t) : Calm y s u := c.trans k

/-- An update that touches neither the registers nor the events. -/
theorem aside {m : Nat} (k : Touch m t u) (c : Calm y s t) (hr : (Part.regs.bit &&& m == Part.regs.bit) = false := by decide)
    (he : (Part.ev.bit &&& m == Part.ev.bit) = false := by decide) : Calm y s u := c.trans (of_touch k hr he)

theorem setRing' {k : Nat} {x : Ring} (c : Calm y s t) : Calm y s (t.setRing k x) :=
  c.trans ⟨rfl, [], (List.append_nil _).symm⟩

theorem setSec' {x : SecSt} (c : Calm y s t) : Calm y s { t with sec := x } := c.same' rfl rfl

theorem sendBi' {inv realtime : Bool} {ls : List Nat} (c : Calm y s t) : Calm y s (t.sendBi inv realtime ls) :=
  c.aside (m := 2064) (.sendBi .refl .refl)

theorem drawBytes {n : Nat} (c : Calm y s t) : Calm y s (t.drawBytes n).2 := c.same' rfl rfl

theorem wrap {key : List Byte} (c : Calm y s t) : Calm y s (t.wrap key).2 := c.same' rfl rfl

section
variable (h : linkFld y)
include h

/-- A field above the host link's registers is written. -/
theorem setAbove {x : Fld} {v : Nat} (c : Calm y s t) (hx : 0x00300000 ≤ x.addr := by decide) : Calm y s (t.setF x v) :=
  c.setF' (h.ne hx)

/-! ## The frame store -/

theorem touchStack {k : Nat} (c : Calm y s t) : Calm y s (t.touchStack k) := by
  refine c.trans ?_
  by_cases awake : t.f (fStack k) = 0
  · rw [touchStack_awake awake]
    exact same rfl rfl
  · rw [touchStack_low awake]
    exact ((setAbove h refl (by unfold fStack; split <;> decide)).same' rfl rfl).same' rfl rfl

theorem touchRange {a n : Nat} (c : Calm y s t) : Calm y s (t.touchRange a n) :=
  c.trans (foldl _ _ (fun _ _ _ => touchStack h refl) t)

theorem readGate {realtime : Bool} {rs : List (Nat × Nat)} (c : Calm y s t) : Calm y s (t.readGate realtime rs).2 :=
  .sendBi' (c.trans (foldl rs _ (fun _ _ _ => touchRange h refl) t))

theorem devRead {a n : Nat} (c : Calm y s t) : Calm y s (t.devRead a n).2 := readGate h (rs := [(a, n)]) c

theorem runActs {k : Nat} {as : List RingAct} (c : Calm y s t) : Calm y s (Machine.runActs k as t) := by
  induction as generalizing t with
  | nil => exact c.setRing'
  | cons a as ih =>
    cases a with
    | msix func vec => exact ih (c.aside (m := 2064) (.msix .refl .refl))
    | host func addr bs => exact ih (c.same' rfl rfl)
    | fs addr bs => exact ite (ih ((touchRange h c).aside (m := 12800) (.fsWrite .refl .refl))) (.setRing' (.sendBi' (touchRange h c)))

theorem ringsResume (c : Calm y s t) : Calm y s t.ringsResume := c.trans (foldl _ _ (fun _ _ _ => runActs h refl) t)

/-! ## The codec's jobs -/

theorem setEnc {e : Nat} {x : Enc} (c : Calm y s t) : Calm y s (t.setEnc e x) := setAbove h (c.same' rfl rfl)

theorem handOut (c : Calm y s t) : Calm y s t.handOut := by
  refine c.trans (foldl _ _ (fun s e _ => ite ?_ refl) t)
  split
  · split
    · exact refl
    · exact setEnc h (same rfl rfl)
  · exact refl

theorem completeJobs {js : List Job} (c : Calm y s t) : Calm y s (Machine.completeJobs js t) := by
  induction js generalizing t with
  | nil => exact c.same' rfl rfl
  | cons j js ih => exact ite (ih (.raise' (ite (setAbove h (setAbove h c)) (setAbove h c)))) (c.same' rfl rfl)

theorem runJobs (c : Calm y s t) : Calm y s t.runJobs :=
  seq (t := t.handOut.settleFreed) (ite (completeJobs h refl) refl) ((handOut h c).aside (m := 262144) (.settleFreed .refl .refl))

/-! ## Key loads and the life cycle -/

theorem setSlot {n perm gen : Nat} {key : List Byte} (c : Calm y s t) : Calm y s (t.setSlot n key perm gen) :=
  setAbove h (setAbove h (setAbove h c.setSec' (by simp only [fSEC_SLOT_CFG_VALID]; omega))
    (by simp only [fSEC_SLOT_CFG_PERM]; omega)) (by simp only [fSEC_SLOT_CFG_GEN]; omega)

theorem wipe (c : Calm y s t) : Calm y s t.wipe :=
  (foldl _ _ (fun _ _ _ => setSlot h refl) _).seq c.setSec'

theorem reloadSlot {n : Nat} (c : Calm y s t) : Calm y s (t.reloadSlot n) := by
  unfold State.reloadSlot
  refine ite (setSlot h c) ?_
  split
  · exact setSlot h c
  · exact setSlot h c

theorem reloadSlots {ns : List Nat} (c : Calm y s t) : Calm y s (ns.foldl (fun s n => s.reloadSlot n) t) :=
  c.trans (foldl _ _ (fun _ _ _ => reloadSlot h refl) t)

theorem submits {w : NvWait} (c : Calm y s t) : Calm y s (t.nvSubmit w) := c.trans (nvSubmit _ (h.outside (by decide)))

theorem secRecord {a : Nat} {bs : List Byte} (c : Calm y s t) : Calm y s (t.secRecord a bs) := submits h c

theorem eraseSlotRecs {ns : List Nat} (c : Calm y s t) : Calm y s (ns.foldl (fun s n => s.eraseSlotRec n) t) :=
  c.trans (foldl _ _ (fun _ _ _ => secRecord h refl) t)

theorem fuseRegs (c : Calm y s t) : Calm y s t.fuseRegs :=
  setAbove h (setAbove h (setAbove h (setAbove h (setAbove h c))))

theorem keyDone {slot result via gen : Nat} (c : Calm y s t) : Calm y s (t.keyDone slot result via gen) :=
  .raise' (ite (setAbove h (setAbove h c)) c)

theorem keySubmit {l : KeyLoad} (c : Calm y s t) : Calm y s (t.keySubmit l) := by
  unfold State.keySubmit
  exact seq (ite (submits h refl) (submits h (wrap (key := l.key) refl))) (ite (setAbove h c.setSec') c.setSec')

theorem keyLoad {blob : List Byte} {via : Nat} (c : Calm y s t) : Calm y s (t.keyLoad blob via) := by
  unfold State.keyLoad
  refine ite (keyDone h (c.same' rfl rfl)) (ite (keyDone h c) ?_)
  dsimp only
  split
  · exact keyDone h c
  · exact ite (keyDone h c) (ite (keyDone h c) (keySubmit h c))

theorem keyRead {a : Nat} (c : Calm y s t) : Calm y s (t.keyRead a) := by
  have reads := devRead (a := a) (n := 288) h c
  unfold State.keyRead
  split
  next waits => rw [waits] at reads; exact reads.setSec'
  next comes => rw [comes] at reads; exact keyLoad h reads.setSec'

theorem lcDone {old result : Nat} (c : Calm y s t) : Calm y s (t.lcDone old result) := .raise' (setAbove h c)

theorem lcEffects {old new : Nat} {root : List Byte} (c : Calm y s t) : Calm y s (t.lcEffects old new root) := by
  unfold State.lcEffects
  dsimp only
  split
  · refine ite (setAbove h (setSec' (reloadSlots h (secRecord h (setSec' ?_))))) (setSec' (reloadSlots h c))
    exact wrap (key := ((t.drawBytes 96).2.drawBytes 48).1) (drawBytes (n := 48) (drawBytes (n := 96) c))
  · exact setAbove h (setSec' (reloadSlots h (secRecord h (secRecord h (setSec' c)))))
  · exact setSec' (reloadSlots h (eraseSlotRecs h (secRecord h (setSec' c))))
  · exact setAbove h (eraseSlotRecs h (secRecord h (setSec' c)))

theorem lcMake {new owner : Nat} {root : List Byte} (c : Calm y s t) : Calm y s (t.lcMake new owner root) := by
  unfold State.lcMake
  exact ite (lcDone h c) (lcDone h (seq (measure 48 _) (lcEffects h (wipe h (fuseRegs h c.setSec')))))

theorem lcRead {a new owner : Nat} (c : Calm y s t) : Calm y s (t.lcRead a new owner) := by
  have reads := devRead (a := a) (n := 97) h c
  unfold State.lcRead
  split
  next waits => rw [waits] at reads; exact reads.setSec'
  next comes => rw [comes] at reads; exact lcMake h reads.setSec'

theorem secResume (c : Calm y s t) : Calm y s t.secResume := by
  unfold State.secResume
  split
  · exact keyRead h c
  · exact lcRead h c
  · exact c

/-- What waited for the frame store goes on. -/
theorem storeGoes (c : Calm y s t) : Calm y s t.storeGoes :=
  secResume h (ringsResume h (runJobs h (c.aside (m := 31248) (.drainWrites (Has.refl.s rfl) .refl))))

/-! ## Queues, rings, self-refresh -/

theorem setQState {q st cause : Nat} (c : Calm y s t) : Calm y s (t.setQState q st cause) := by
  have run : Calm y s (if st = 0 ∨ st = 3 then t.setF (fCXL_Q_CTRL_RUN q) 0 else t) :=
    ite (setAbove h c (by simp only [fCXL_Q_CTRL_RUN]; omega)) c
  unfold State.setQState
  exact ite run (.raise' (setAbove h run (by simp only [fCXL_Q_STATUS_STATE]; omega)))

theorem cacheQueues {avail : Bool} (c : Calm y s t) : Calm y s (t.cacheQueues avail) :=
  c.trans (foldl _ _ (fun _ _ _ => ite (setQState h refl) (ite (setQState h refl) refl)) t)

theorem ringStatus {k : Nat} (c : Calm y s t) : Calm y s (t.ringStatus k) :=
  setAbove h (setAbove h c (by simp only [fEVR_STATUS_FULL]; omega)) (by simp only [fEVR_STATUS_HELD]; omega)

theorem ringOff {k : Nat} (c : Calm y s t) : Calm y s (t.ringOff k) :=
  ringStatus h (setRing' (setAbove h (setAbove h c (by simp only [fEVR_CFG_EN]; omega)) (by simp only [fEVR_STATUS_DROP]; omega)))

theorem hostRingsOff {funcs : List Nat} (c : Calm y s t) : Calm y s (t.hostRingsOff funcs) :=
  c.trans (foldl _ _ (fun _ _ _ => ite (ringOff h refl) refl) t)

theorem setSr {g frame : Nat} {on : Bool} (c : Calm y s t) : Calm y s (t.setSr g on frame) := by
  have shown : Calm y s ((t.putBit fPAN_SR_STATUS_GROUPS g on).setOn fPAN_SR_STATUS_ACTIVE
    ((t.putBit fPAN_SR_STATUS_GROUPS g on).f fPAN_SR_STATUS_GROUPS != 0)) := setAbove h (setAbove h c)
  unfold State.setSr
  exact .raise' (ite (shown.same' rfl rfl) shown)

theorem sleepNow {cause : Nat} (c : Calm y s t) : Calm y s (t.sleepNow cause) := by
  unfold State.sleepNow
  refine seq (foldl _ _ (fun s g _ => ?_) _) (setAbove h (setAbove h c))
  exact ite (setGrp' (setSr h (setGrp' refl))) (setGrp' refl)

end
end Calm

end Sys2Proof.Machine
end

section
/-!
Host resets, the host link's training and power states, function resets and the IDE streams (R522, R541 to R546).
-/
open Sys2Proof Sys2Proof.Machine
namespace Sys2Proof.Machine

variable {s t u : State} {y : Fld} {fs : List Fld} {ps : List Part}

theorem off_iff {x : Fld} : s.on x = false ↔ s.f x = 0 := by
  simp only [State.on, bne_eq_false_iff_eq]

/-! ## The fields of the link (R545) -/

/-- The fields that a link that is down shows as 0. -/
def downFlds : List Fld :=
  [fCXL_LINK_STATUS_UP, fCXL_LINK_STATUS_CXL, fCXL_LINK_STATUS_LOPT, fCXL_LINK_STATUS_L1, fCXL_LINK_STATUS_IDE_IO,
    fCXL_LINK_STATUS_IDE_CM, fCXL_LINK_STATUS_WIDTH, fCXL_LINK_STATUS_RATE]

theorem linkDown_eq : s.linkDown = downFlds.foldl (fun s x => s.setF x 0) s := rfl

theorem f_foldl_zero (l : List Fld) : ∀ s : State, (l.foldl (fun s x => s.setF x 0) s).f y = if fldKey y ∈ l.map fldKey then 0 else s.f y := by
  induction l with
  | nil => exact fun _ => rfl
  | cons x l ih =>
    intro s
    rw [List.foldl_cons, ih, f_setF, Nat.zero_mod, List.map_cons]
    simp only [List.mem_cons]
    split_ifs <;> tauto

theorem f_linkDown (y : Fld) : s.linkDown.f y = if fldKey y ∈ downFlds.map fldKey then 0 else s.f y := by
  rw [linkDown_eq, f_foldl_zero]

/-! ## Resets and link loss (R542) -/

/-- The host's state as a reset leaves it, but for its interrupts. -/
def HostSt.wasReset (x : HostSt) : HostSt :=
  { x with inReset := true, training := true, memEn := false, hdm := none, d3pf0 := false, d3pf1 := false, ideKeys := [] }

/-- A reset up to the loss of CXL.cache: the device falls asleep and the queues the host rings are reset. -/
def State.resetBegun (s : State) (sleep qcause : Nat) : State :=
  (List.range 512).foldl (fun s q => if s.on (fCXL_Q_CFG_HOSTBOUND q) then s.cxlQReset q qcause qcause else s) (s.sleepNow sleep)

/-- A reset before its event: the host's books are gone. -/
def State.resetBooks (s : State) (sleep qcause : Nat) : State :=
  ((((s.resetBegun sleep qcause).cacheLost 0).cacheQueues false).hostRingsOff [0, 1]).dropSf

/-- A reset before its event: the decoder is uncommitted, interrupts are masked, and the link is down. -/
def State.linkReset (s : State) : State :=
  (((({ s with host := s.host.wasReset } : State).msixReset 0).msixReset 1).linkDown).memStat

theorem hostReset_eq (kind sleep qcause : Nat) : s.hostReset kind sleep qcause =
    ((s.resetBooks sleep qcause).linkReset.hostState kind).fault 0x10 0xE00 0 kind := by
  unfold State.hostReset State.resetBooks State.resetBegun State.linkReset HostSt.wasReset
  dsimp only

theorem hostState_host (kind : Nat) : (s.hostState kind).host = s.host := rfl

theorem f_hostState (kind : Nat) (y : Fld) : (s.hostState kind).f y = s.f y := rfl

theorem hostReset_host (kind sleep qcause : Nat) : (s.hostReset kind sleep qcause).host = (s.resetBooks sleep qcause).linkReset.host := by
  rw [hostReset_eq, fault_host, hostState_host]

/-- What a reset leaves of the host's state beside its interrupts (R542). -/
theorem linkReset_host : s.linkReset.host.inReset = true ∧ s.linkReset.host.training = true ∧ s.linkReset.host.memEn = false ∧
    s.linkReset.host.hdm = none ∧ s.linkReset.host.ideKeys = [] ∧ s.linkReset.host.d3pf0 = false ∧ s.linkReset.host.d3pf1 = false :=
  ⟨rfl, rfl, rfl, rfl, rfl, rfl, rfl⟩

theorem f_memStat (y : Fld) : s.memStat.f y = if fldKey y = fldKey fCXL_LINK_STATUS_MEM then b2n (s.host.memEn && s.host.hdm.isSome) % 2
    else s.f y := f_setOn ..

theorem f_linkReset (y : Fld) : s.linkReset.f y = if fldKey y ∈ (fCXL_LINK_STATUS_MEM :: downFlds).map fldKey then 0 else s.f y := by
  unfold State.linkReset
  rw [f_memStat, f_linkDown, List.map_cons]
  simp only [List.mem_cons]
  split_ifs <;> tauto

/-- A reset's event and fault leave the link's registers alone. -/
theorem f_hostReset (h : linkFld y) (kind sleep qcause : Nat) : (s.hostReset kind sleep qcause).f y =
    if fldKey y ∈ (fCXL_LINK_STATUS_MEM :: downFlds).map fldKey then 0 else (s.resetBooks sleep qcause).f y := by
  rw [hostReset_eq, f_fault _ h.apart, f_hostState, f_linkReset]

/-- CXL.cache is lost: CACHE reads 0, and Cache_Enable is cleared (R534). -/
theorem cacheLost_off (cause : Nat) : (s.cacheLost cause).f fCXL_LINK_STATUS_CACHE = 0 := by
  have fld : linkFld fCXL_LINK_STATUS_CACHE := ⟨by decide, by decide⟩
  unfold State.cacheLost
  split
  next off => exact off_iff.1 (Bool.eq_false_iff.2 off)
  next =>
    have gone : (({ s with host := { s.host with cacheEn := false } }.setF fCXL_LINK_STATUS_CACHE 0).count
        fCXL_HOST_CNT_CACHELOSS 1).f fCXL_LINK_STATUS_CACHE = 0 := by
      rw [f_count, if_neg (by decide), f_setF, if_pos rfl]
      rfl
    dsimp only
    split
    · exact ((Calm.cacheQueues fld .refl).1).trans gone
    · exact ((Calm.sleepNow fld (Calm.cacheQueues fld .refl)).1).trans gone

/-- The filter is emptied, and its count with it (R541, R542). -/
theorem dropSf_used : s.dropSf.f fCXL_BI_SF_USED = 0 := by
  have fld : linkFld fCXL_BI_SF_USED := ⟨by decide, by decide⟩
  exact ((Calm.storeGoes fld .refl).1).trans ((f_setF ..).trans (if_pos rfl))

theorem f_dropSf (h : linkFld y) (hu : fldKey y ≠ fldKey fCXL_BI_SF_USED) : s.dropSf.f y = s.f y :=
  ((Calm.storeGoes h .refl).1).trans ((f_setF ..).trans (if_neg hu))

/-- After a reset CACHE and the count of the filter read 0. -/
theorem resetBooks_zero (sleep qcause : Nat) : (s.resetBooks sleep qcause).f fCXL_BI_SF_USED = 0 ∧
    (s.resetBooks sleep qcause).f fCXL_LINK_STATUS_CACHE = 0 := by
  have fld : linkFld fCXL_LINK_STATUS_CACHE := ⟨by decide, by decide⟩
  refine ⟨dropSf_used, (f_dropSf fld (by decide)).trans ?_⟩
  exact ((Calm.hostRingsOff fld (Calm.cacheQueues fld .refl)).1).trans (cacheLost_off 0)

/-! ## Training ends (R522, R545) -/

/-- What the link shows once it is in L0. -/
def State.linkShown (s : State) (rate width : Nat) (cxl lopt : Bool) : State :=
  (((({ s with host := { s.host with inReset := false, training := false } }.setF fCXL_LINK_STATUS_UP 1).setOn
    fCXL_LINK_STATUS_CXL cxl).setOn fCXL_LINK_STATUS_LOPT lopt).setF fCXL_LINK_STATUS_WIDTH width).setF fCXL_LINK_STATUS_RATE rate

theorem execLinkUp_trained {rate width : Nat} {cxl lopt : Bool} (up : s.on fCXL_LINK_STATUS_UP = false) (perst : s.host.perst = false)
    (porst : s.boot.porst = false) (ready : bit (s.f fGEN_BLKRDY_RDY) 2 = 1) (hr : 3 ≤ rate ∧ rate ≤ 6)
    (hw : width = 4 ∨ width = 8 ∨ width = 16) :
    execLinkUp rate width cxl lopt s = .next ((s.linkShown rate width cxl lopt).hostState 3) := by
  unfold execLinkUp
  refine if_neg ?_
  have rateOk : ¬ (rate < 3 ∨ 6 < rate) := by omega
  rcases hw with rfl | rfl | rfl
  all_goals simp [up, perst, porst, ready, rateOk]

theorem linkShown_f (rate width : Nat) (cxl lopt : Bool) (y : Fld) : (s.linkShown rate width cxl lopt).f y =
    if fldKey y = fldKey fCXL_LINK_STATUS_RATE then rate % 8
    else if fldKey y = fldKey fCXL_LINK_STATUS_WIDTH then width % 32
    else if fldKey y = fldKey fCXL_LINK_STATUS_LOPT then b2n lopt % 2
    else if fldKey y = fldKey fCXL_LINK_STATUS_CXL then b2n cxl % 2
    else if fldKey y = fldKey fCXL_LINK_STATUS_UP then 1
    else s.f y := by
  unfold State.linkShown
  rw [f_setF, f_setF, f_setOn, f_setOn, f_setF]
  rfl

theorem b2n_mod_two (b : Bool) : b2n b % 2 = b2n b := by cases b <;> rfl

theorem linkShown_only (rate width : Nat) (cxl lopt : Bool) :
    Only [fCXL_LINK_STATUS_UP, fCXL_LINK_STATUS_CXL, fCXL_LINK_STATUS_LOPT, fCXL_LINK_STATUS_WIDTH, fCXL_LINK_STATUS_RATE]
      [.regs, .host, .ev] s (s.linkShown rate width cxl lopt) :=
  .setF (by decide) (.setF (by decide) (.setF (by decide) (.setF (by decide) (.setF (by decide) (.setHost (by decide) .refl)))))

/-! ## Function resets and CXL reset (R541) -/

theorem hostRingsOff_host (funcs : List Nat) : (s.hostRingsOff funcs).host = s.host :=
  touch_same (m := 66) (.hostRingsOff (Has.refl.s rfl) .refl) .host (by decide)

/-- A function-level reset before the function's D3hot state and its event. -/
def State.flrBegun (s : State) (func : Nat) : State := ((s.count fCXL_HOST_CNT_FLR 1).msixReset func).hostRingsOff [func]

/-- No interrupt of the function is unmasked or pending, and the other function's D3hot state stands. -/
theorem flrBegun_host (func : Nat) : (∀ e ∈ (s.flrBegun func).host.unmasked, e.1 / 2048 ≠ func) ∧
    (∀ e ∈ (s.flrBegun func).host.msixPend, e.1 / 2048 ≠ func) ∧
    (s.flrBegun func).host.d3pf0 = s.host.d3pf0 ∧ (s.flrBegun func).host.d3pf1 = s.host.d3pf1 := by
  unfold State.flrBegun
  rw [hostRingsOff_host]
  exact ⟨fun e he => bne_iff_ne.1 (List.mem_filter.1 he).2, fun e he => bne_iff_ne.1 (List.mem_filter.1 he).2, rfl, rfl⟩

theorem flrBegun_touch (func : Nat) : Touch 2114 s (s.flrBegun func) :=
  .hostRingsOff (Has.refl.s rfl) (.msixReset (Has.refl.s rfl) (.count (Has.refl.s rfl) .refl))

theorem flrBegun_keeps (func : Nat) : (s.flrBegun func).outs = s.outs ∧ (s.flrBegun func).fs.mem = s.fs.mem ∧
    (s.flrBegun func).groups = s.groups :=
  ⟨touch_same (flrBegun_touch func) .outs (by decide), touch_same (flrBegun_touch func) .fsMem (by decide),
    touch_same (flrBegun_touch func) .groups (by decide)⟩

/-- The event that follows a change of the host's state. -/
def State.hostTold (s : State) (x : HostSt) (kind : Nat) : State := ({ s with host := x } : State).hostState kind

theorem hostTold_host (x : HostSt) (kind : Nat) : (s.hostTold x kind).host = x := rfl

theorem hostTold_keeps (x : HostSt) (kind : Nat) : (s.hostTold x kind).outs = s.outs ∧ (s.hostTold x kind).fs = s.fs ∧
    (s.hostTold x kind).groups = s.groups ∧
    s.hostTold x kind = ({ s with host := (s.hostTold x kind).host } : State).hostState kind := ⟨rfl, rfl, rfl, rfl⟩

theorem execFlr_pf0 : execFlr 0 s = .next ((s.flrBegun 0).hostTold { (s.flrBegun 0).host with d3pf0 := false } 6) := by
  unfold execFlr State.flrBegun State.hostTold
  exact if_neg (by decide)

theorem execFlr_pf1 : execFlr 1 s = .next ((s.flrBegun 1).hostTold { (s.flrBegun 1).host with d3pf1 := false } 7) := by
  unfold execFlr State.flrBegun State.hostTold
  exact if_neg (by decide)

/-- A CXL reset before the decoder is taken back. -/
def State.cxlResetBegun (s : State) : State := ((s.count fCXL_HOST_CNT_FLR 1).cacheLost 4).dropSf

/-- A CXL reset before its event. -/
def State.uncommitted (s : State) : State := { s with host := { s.host with hdm := none } }.memStat

theorem f_uncommitted (y : Fld) : s.uncommitted.f y = if fldKey y = fldKey fCXL_LINK_STATUS_MEM then 0 else s.f y := by
  unfold State.uncommitted
  rw [f_memStat, Option.isSome_none, Bool.and_false]
  rfl

/-- The decoder is not committed, and nothing else of the host's state changes. -/
theorem uncommitted_host (kind : Nat) : (s.uncommitted.hostState kind).host.hdm = none ∧
    s.uncommitted.hostState kind = ({ s with host := (s.uncommitted.hostState kind).host } : State).memStat.hostState kind := ⟨rfl, rfl⟩

theorem execCxlReset_eq : execCxlReset s = .next (s.cxlResetBegun.uncommitted.hostState 8) := by
  unfold execCxlReset State.cxlResetBegun State.uncommitted
  dsimp only

theorem cxlReset_zero : s.cxlResetBegun.f fCXL_BI_SF_USED = 0 ∧ s.cxlResetBegun.f fCXL_LINK_STATUS_CACHE = 0 :=
  ⟨dropSf_used, (f_dropSf ⟨by decide, by decide⟩ (by decide)).trans (cacheLost_off 4)⟩

/-! ## IDE streams (R522, R545) -/

/-- The field that shows whether a stream is active. -/
def ideFld (stream : Nat) : Fld := if stream = 0 then fCXL_LINK_STATUS_IDE_IO else fCXL_LINK_STATUS_IDE_CM

theorem ideFld_w (stream : Nat) : (ideFld stream).w = 1 := by
  unfold ideFld
  split <;> rfl

/-- The keys of a stream are set active or taken away. -/
def State.ideKeyed (s : State) (stream : Nat) (active : Bool) : State :=
  { s with host := { s.host with ideKeys := smSet (fun _ => false) s.host.ideKeys stream active } }

theorem execIdeKm_keys {session stream : Nat} {active : Bool} (hs : (s.sec.sessions.any fun x => x.1 == session) = true)
    (hk : stream < 2) (up : s.on fCXL_LINK_STATUS_UP = true) :
    execIdeKm session stream active s = .next ((s.ideKeyed stream active).setOn (ideFld stream) active) := by
  refine if_neg ?_
  simp [hs, up, hk]

end Sys2Proof.Machine

/-- Settles O31: a reset ends with the host's books as R542 leaves them and the link's fields at 0, which the event and the fault that
follow leave alone; training, function resets, power states and streams are their commands' updates. -/
theorem hostResetsAndTheHostLink : Obligations.HostResetsAndTheHostLink := by
  intro s
  refine ⟨fun porst => ⟨?hot, fun perst => ?perst⟩, ⟨_, rfl, rfl, rfl, .setHost (by decide) .refl⟩, fun up => ?loss,
    fun u kind sleep qcause => ?reset, fun rate width cxl lopt up perst porst ready hr hr' hw => ?trained, fun func hf => ?flr, ?cxl,
    fun up => ⟨_, if_pos up, f_setF_self .., .setF (by decide) .refl⟩, ⟨_, rfl, f_setF_self .., .setF (by decide) .refl⟩,
    fun on => ⟨rfl, rfl⟩, fun session stream active hs hk up => ?ide, fun line => ⟨_, rfl, rfl, .out (by decide) .refl⟩⟩
  case hot => exact if_neg (by rw [porst]; decide)
  case perst => exact if_neg (by simp [porst, perst])
  case loss => exact if_neg (not_not_intro up)
  case reset =>
    obtain ⟨used, cache⟩ := resetBooks_zero (s := u) sleep qcause
    have shown := fun y (h : linkFld y) => f_hostReset (s := u) h kind sleep qcause
    obtain ⟨inReset, training, memEn, hdm, keys, d3pf0, d3pf1⟩ := linkReset_host (s := u.resetBooks sleep qcause)
    dsimp only
    rw [hostReset_host]
    refine ⟨inReset, training, memEn, hdm, keys, d3pf0, d3pf1, ?_, ?_, ?_⟩
    · exact (shown _ ⟨by decide, by decide⟩).trans ((if_neg (by decide)).trans used)
    · exact (shown _ ⟨by decide, by decide⟩).trans ((if_neg (by decide)).trans cache)
    · refine ⟨?_, ?_, ?_, ?_, ?_, ?_, ?_, ?_, ?_⟩
      all_goals exact (shown _ ⟨by decide, by decide⟩).trans (if_pos (by decide))
  case trained =>
    have rateOk : rate % 8 = rate := by omega
    have widthOk : width % 32 = width := by omega
    have shown := linkShown_f (s := s) rate width cxl lopt
    rw [rateOk, widthOk, b2n_mod_two, b2n_mod_two] at shown
    refine ⟨_, execLinkUp_trained up perst porst ready ⟨hr, hr'⟩ hw, shown _, shown _, shown _, shown _, shown _, rfl, ?_,
      .raise (by decide) (linkShown_only ..)⟩
    have told := raised_raise (s := s) (u := s.linkShown rate width cxl lopt) rfl rfl 0x190 0xE00 0
    have hrate : (s.linkShown rate width cxl lopt).f fCXL_LINK_STATUS_RATE = rate := shown _
    have hwidth : (s.linkShown rate width cxl lopt).f fCXL_LINK_STATUS_WIDTH = width := shown _
    unfold State.hostState
    rw [hrate, hwidth]
    exact told _
  case flr =>
    obtain ⟨unmasked, pending, d3pf0, d3pf1⟩ := flrBegun_host (s := s) func
    obtain ⟨outs, mem, groups⟩ := flrBegun_keeps (s := s) func
    obtain rfl | rfl : func = 0 ∨ func = 1 := by omega
    · obtain ⟨outs', fs', groups', told⟩ := hostTold_keeps (s := s.flrBegun 0) { (s.flrBegun 0).host with d3pf0 := false } 6
      refine ⟨_, execFlr_pf0, ?_, ?_, fun _ => ?_, fun no => absurd no (by decide), outs'.trans outs,
        (congrArg FsSt.mem fs').trans mem, groups'.trans groups, told⟩
      all_goals rw [hostTold_host]; dsimp only
      exacts [unmasked, pending, ⟨rfl, d3pf1⟩]
    · obtain ⟨outs', fs', groups', told⟩ := hostTold_keeps (s := s.flrBegun 1) { (s.flrBegun 1).host with d3pf1 := false } 7
      refine ⟨_, execFlr_pf1, ?_, ?_, fun no => absurd no (by decide), fun _ => ?_, outs'.trans outs,
        (congrArg FsSt.mem fs').trans mem, groups'.trans groups, told⟩
      all_goals rw [hostTold_host]; dsimp only
      exacts [unmasked, pending, ⟨rfl, d3pf0⟩]
  case cxl =>
    obtain ⟨used, cache⟩ := cxlReset_zero (s := s)
    obtain ⟨hdm, only⟩ := uncommitted_host (s := s.cxlResetBegun) 8
    have shown := fun y => (f_hostState 8 y).trans (f_uncommitted (s := s.cxlResetBegun) y)
    exact ⟨_, execCxlReset_eq, hdm, (shown _).trans ((if_neg (by decide)).trans used),
      (shown _).trans ((if_neg (by decide)).trans cache), (shown _).trans (if_pos rfl), only⟩
  case ide =>
    refine ⟨_, execIdeKm_keys hs hk up, f_setOn_self (ideFld_w stream) active, fun k => smGet_smSet .., ?_⟩
    exact .setF (List.mem_singleton.2 rfl) (.setHost (by decide) .refl)
end

section
/-!
The event rings (R535 to R539): a record with its tail word and its message, EN and HEAD, the timer, and a vector unmasked.
-/
open Sys2Proof Sys2Proof.Machine
namespace Sys2Proof.Machine

variable {s t u : State} {y : Fld} {k : Nat} {e : Ev} {req : Req} {data : Word}

/-! ## The fields of a ring (R552 to R557) -/

/-- Fields of one ring at different offsets or bits are different fields. -/
theorem evrKey_ne {a b l m v w : Nat} (h : l < 32 ∧ m < 32 ∧ (a ≠ b ∨ l ≠ m)) :
    fldKey ⟨a + 0x20 * k, l, v⟩ ≠ fldKey ⟨b + 0x20 * k, m, w⟩ := by
  simp only [fldKey]
  omega

theorem f_ringStatus (y : Fld) : (s.ringStatus k).f y =
    if fldKey y = fldKey (fEVR_STATUS_HELD k) then heldCount (s.ring k).held % 2 ^ 11
    else if fldKey y = fldKey (fEVR_STATUS_FULL k) then b2n (s.ringFull k) % 2 else s.f y := by
  unfold State.ringStatus
  rw [f_setF, f_setOn]
  rfl

/-- FULL and HELD are fields, and nothing else. -/
theorem ringStatus_keeps : (∀ j, (s.ringStatus k).ring j = s.ring j) ∧ (s.ringStatus k).outs = s.outs ∧ (s.ringStatus k).fs = s.fs :=
  ⟨fun _ => rfl, rfl, rfl⟩

/-- A field that is neither FULL nor HELD of ring `k`. -/
def noStatus (k : Nat) (y : Fld) : Prop := fldKey y ≠ fldKey (fEVR_STATUS_HELD k) ∧ fldKey y ≠ fldKey (fEVR_STATUS_FULL k)

theorem f_ringStatus_other (h : noStatus k y) : (s.ringStatus k).f y = s.f y := by
  obtain ⟨held, full⟩ := h
  rw [f_ringStatus, if_neg held, if_neg full]

theorem head_noStatus : noStatus k (fEVR_PTR_HEAD k) := ⟨evrKey_ne (by decide), evrKey_ne (by decide)⟩
theorem tail_noStatus : noStatus k (fEVR_PTR_TAIL k) := ⟨evrKey_ne (by decide), evrKey_ne (by decide)⟩
theorem en_noStatus : noStatus k (fEVR_CFG_EN k) := ⟨evrKey_ne (by decide), evrKey_ne (by decide)⟩
theorem log2n_noStatus : noStatus k (fEVR_CFG_LOG2N k) := ⟨evrKey_ne (by decide), evrKey_ne (by decide)⟩

/-- The size of a ring and its place follow from its fields. -/
theorem ringSize_congr (h : t.f (fEVR_CFG_LOG2N k) = s.f (fEVR_CFG_LOG2N k)) : t.ringSize k = s.ringSize k := by
  unfold State.ringSize
  rw [h]

theorem ringHead_congr (h : t.f (fEVR_CFG_LOG2N k) = s.f (fEVR_CFG_LOG2N k)) (hh : t.f (fEVR_PTR_HEAD k) = s.f (fEVR_PTR_HEAD k)) :
    t.ringHead k = s.ringHead k := by
  unfold State.ringHead
  rw [ringSize_congr h, hh]

/-! ## A record is written (R535, R537, R539) -/

/-- The ring once a record is written that causes no message. -/
def Ring.counted (r : Ring) (now : Nat) : Ring := { r with p := r.p + 1, pFirst := if r.p = 0 then now else r.pFirst }

/-- A record that causes no message counts towards the next one. -/
theorem ringCount_quiet (own : s.ownVec e = false) (calm : s.on (fEVT_ROUTE_URGENT (e.origin / 256 % 16)) = false)
    (few : (s.ring k).p + 1 < max 1 (s.f (fEVR_MOD_CNT k))) :
    s.ringCount k e = (s.setRing k ((s.ring k).counted s.time.master), []) := by
  have less : ¬ max 1 (s.f (fEVR_MOD_CNT k)) ≤ (s.ring k).p + 1 := Nat.not_le_of_lt few
  unfold State.ringCount
  simp only [own, calm, less, Ring.counted, Bool.false_eq_true, if_false, Bool.not_false, Bool.true_and, Bool.false_or, decide_false,
    List.append_nil]

/-- The next place of a ring. -/
def State.nextTail (s : State) (k : Nat) : Nat := (s.ringTail k + 1) % s.ringSize k

/-- The state in which the one record held is written at TAIL, no message follows it, and the hold buffer is empty. -/
def State.recorded (s : State) (k : Nat) : State :=
  let u := (s.setF (fEVR_PTR_TAIL k) (s.nextTail k)).setRing k ((s.ring k).counted s.time.master)
  u.setRing k { u.ring k with held := [] }

theorem recorded_ring : (s.recorded k).ring k = { (s.ring k).counted s.time.master with held := [] } := by
  unfold State.recorded
  simp only [ring_setRing, if_true]

theorem f_recorded (y : Fld) : (s.recorded k).f y =
    if fldKey y = fldKey (fEVR_PTR_TAIL k) then s.nextTail k % 65536 else s.f y := f_setF ..

theorem f_recorded_other (h : fldKey y ≠ fldKey (fEVR_PTR_TAIL k)) : (s.recorded k).f y = s.f y := (f_recorded y).trans (if_neg h)

theorem on_setF_ne {x : Fld} (h : fldKey y ≠ fldKey x) (v : Nat) : (s.setF x v).on y = s.on y := by
  unfold State.on
  rw [f_setF_ne h]

/-- A place in a ring is no vector of a queue. -/
theorem ownVec_setTail (v : Nat) : (s.setF (fEVR_PTR_TAIL k) v).ownVec e = s.ownVec e := by
  unfold State.ownVec
  by_cases queue : e.origin < 512
  · rw [on_setF_ne (by simp only [fldKey, fCXL_Q_VEC_EN, fEVR_PTR_TAIL]; omega)]
  · simp only [queue, decide_false, Bool.and_false, Bool.false_and]

/-- One held record, a ring with room: the record is written. -/
theorem ringFill_one (room : s.ringFull k = false) (own : s.ownVec e = false)
    (calm : s.on (fEVT_ROUTE_URGENT (e.origin / 256 % 16)) = false) (few : (s.ring k).p + 1 < max 1 (s.f (fEVR_MOD_CNT k))) :
    ringFill k [.one e] s = (s.recorded k, [s.ringWrite k (s.ringBase k + 32 * s.ringTail k) (evBytes e)], []) := by
  have route : e.origin / 256 % 16 < 16 := Nat.mod_lt _ (by decide)
  have cnt : fldKey (fEVR_MOD_CNT k) ≠ fldKey (fEVR_PTR_TAIL k) := evrKey_ne (by decide)
  have count := ringCount_quiet (s := s.setF (fEVR_PTR_TAIL k) (s.nextTail k)) (k := k) (e := e) ((ownVec_setTail _).trans own)
    ((on_setF_ne (by simp only [fldKey, fEVT_ROUTE_URGENT, fEVR_PTR_TAIL]; omega) _).trans calm) (by rw [f_setF_ne cnt]; exact few)
  have put : s.ringPut k e = ((s.setF (fEVR_PTR_TAIL k) (s.nextTail k)).setRing k ((s.ring k).counted s.time.master),
      s.ringWrite k (s.ringBase k + 32 * s.ringTail k) (evBytes e), []) := by
    unfold State.ringPut
    unfold State.nextTail at count
    dsimp only
    rw [count]
    rfl
  unfold ringFill
  rw [if_neg (by rw [room]; decide)]
  dsimp only
  rw [put]
  rfl

theorem ringFill_none : ringFill k [] s = (s.setRing k { s.ring k with held := [] }, [], []) := rfl

/-- What was written goes out: the records, the tail word, the messages (R537). -/
theorem ringDrain_writes {ws ms : List RingAct} (h : ringFill k (s.ring k).held s = (u, ws, ms)) (hw : ws ≠ []) :
    s.ringDrain k = (u.ringDo k (ws ++ [u.ringWrite k (u.ringBase k + 32 * u.ringSize k) (leBytes 8 (u.ringTail k))] ++ ms)).ringStatus k := by
  unfold State.ringDrain
  rw [h]
  dsimp only
  rw [if_neg hw]

/-- A ring in host memory with nothing waiting posts two writes. -/
theorem ringDo_posts {f a b : Nat} {x z : List Byte} (h : (s.ring k).acts = []) :
    s.ringDo k [.host f a x, .host f b z] =
      ((s.out (.hostWrite f a x)).out (.hostWrite f b z)).setRing k { s.ring k with acts := [] } := by
  unfold State.ringDo
  dsimp only
  rw [if_pos h]
  rfl

theorem ringWrite_host (space : s.on (fEVR_CFG_SPACE k) = true) (a : Nat) (bs : List Byte) :
    s.ringWrite k a bs = .host (s.f (fEVR_CFG_FUNC k)) a bs := if_pos space

theorem ringBase_congr (lo : t.f (fEVR_BASE_LO_BASE_LO k) = s.f (fEVR_BASE_LO_BASE_LO k))
    (hi : t.f (fEVR_BASE_HI_BASE_HI k) = s.f (fEVR_BASE_HI_BASE_HI k)) : t.ringBase k = s.ringBase k := by
  unfold State.ringBase
  rw [lo, hi]

/-- The tail word that follows the record. -/
theorem recorded_tailWord (space : s.on (fEVR_CFG_SPACE k) = true) :
    (s.recorded k).ringWrite k ((s.recorded k).ringBase k + 32 * (s.recorded k).ringSize k) (leBytes 8 ((s.recorded k).ringTail k)) =
      .host (s.f (fEVR_CFG_FUNC k)) (s.ringBase k + 32 * s.ringSize k) (leBytes 8 (s.nextTail k % 65536 % s.ringSize k)) := by
  have size : (s.recorded k).ringSize k = s.ringSize k := ringSize_congr (f_recorded_other (evrKey_ne (by decide)))
  have base : (s.recorded k).ringBase k = s.ringBase k :=
    ringBase_congr (f_recorded_other (evrKey_ne (by decide))) (f_recorded_other (evrKey_ne (by decide)))
  have func : (s.recorded k).f (fEVR_CFG_FUNC k) = s.f (fEVR_CFG_FUNC k) := f_recorded_other (evrKey_ne (by decide))
  have tail : (s.recorded k).ringTail k = s.nextTail k % 65536 % s.ringSize k := by
    unfold State.ringTail
    rw [size, f_recorded, if_pos rfl]
  have kept : (s.recorded k).f (fEVR_CFG_SPACE k) = s.f (fEVR_CFG_SPACE k) := f_recorded_other (evrKey_ne (by decide))
  have host : (s.recorded k).on (fEVR_CFG_SPACE k) = true := by
    unfold State.on
    rw [kept]
    exact space
  rw [ringWrite_host host, size, base, func, tail]

/-- The state in which the record waits in the hold buffer. -/
def State.ringHolds (s : State) (k : Nat) (e : Ev) : State := s.setRing k { s.ring k with held := [.one e] }

theorem ringHolds_ring : (s.ringHolds k e).ring k = { s.ring k with held := [.one e] } := (ring_setRing ..).trans (if_pos rfl)

/-- The state in which the one record held and its tail word are posted. -/
def State.posted (s : State) (k : Nat) (e : Ev) : State :=
  let r := s.recorded k
  (((r.out (.hostWrite (s.f (fEVR_CFG_FUNC k)) (s.ringBase k + 32 * s.ringTail k) (evBytes e))).out
    (.hostWrite (s.f (fEVR_CFG_FUNC k)) (s.ringBase k + 32 * s.ringSize k) (leBytes 8 (s.nextTail k % 65536 % s.ringSize k)))).setRing k
    { r.ring k with acts := [] }).ringStatus k

/-- A ring in host memory that has room writes the record it holds, where the record causes no message. -/
theorem ringDrain_posts (held : (s.ring k).held = [.one e]) (acts : (s.ring k).acts = []) (space : s.on (fEVR_CFG_SPACE k) = true)
    (room : s.ringFull k = false) (own : s.ownVec e = false) (calm : s.on (fEVT_ROUTE_URGENT (e.origin / 256 % 16)) = false)
    (few : (s.ring k).p + 1 < max 1 (s.f (fEVR_MOD_CNT k))) : s.ringDrain k = s.posted k e := by
  have none : ((s.recorded k).ring k).acts = [] := by
    rw [recorded_ring]
    exact acts
  have fill := held ▸ ringFill_one room own calm few
  rw [ringDrain_writes fill (List.cons_ne_nil _ _), recorded_tailWord space, ringWrite_host space]
  exact congrArg (State.ringStatus · k) (ringDo_posts none)

/-- The outputs of the state in which a record and its tail word are posted. -/
theorem posted_outs : (s.posted k e).outs =
    .hostWrite (s.f (fEVR_CFG_FUNC k)) (s.ringBase k + 32 * s.ringSize k) (leBytes 8 (s.nextTail k % 65536 % s.ringSize k)) ::
      .hostWrite (s.f (fEVR_CFG_FUNC k)) (s.ringBase k + 32 * s.ringTail k) (evBytes e) :: s.outs := by
  unfold State.posted
  exact ringStatus_keeps.2.1

theorem posted_fs : (s.posted k e).fs = s.fs := by
  unfold State.posted
  exact ringStatus_keeps.2.2

theorem posted_ring : (s.posted k e).ring k = { (s.ring k).counted s.time.master with held := [], acts := [] } := by
  unfold State.posted
  dsimp only
  rw [ringStatus_keeps.1, ring_setRing, if_pos rfl, recorded_ring]

theorem posted_tail : (s.posted k e).f (fEVR_PTR_TAIL k) = s.nextTail k % 65536 := by
  unfold State.posted
  dsimp only
  rw [f_ringStatus_other tail_noStatus, f_setRing, f_out, f_out, f_recorded, if_pos rfl]

/-- A record for an empty hold buffer joins it, and the ring is drained. -/
theorem ringTake_empty (held : (s.ring k).held = []) : s.ringTake k e = (s.ringHolds k e).ringDrain k := by
  unfold State.ringTake State.ringHolds
  dsimp only
  rw [held, if_pos (by decide), List.nil_append]

theorem ringHolds_posts (acts : (s.ring k).acts = []) (space : s.on (fEVR_CFG_SPACE k) = true) (room : s.ringFull k = false)
    (own : s.ownVec e = false) (calm : s.on (fEVT_ROUTE_URGENT (e.origin / 256 % 16)) = false)
    (few : (s.ring k).p + 1 < max 1 (s.f (fEVR_MOD_CNT k))) : (s.ringHolds k e).ringDrain k = (s.ringHolds k e).posted k e :=
  have own' : ((s.ringHolds k e).ring k) = { s.ring k with held := [.one e] } := ringHolds_ring
  ringDrain_posts (by rw [own']) (by rw [own']; exact acts) space room own calm (by rw [own']; exact few)

theorem release_takes (hl : s.logged e = false) (route : s.on (fEVT_ROUTE_EN (e.origin / 256 % 16)) = true)
    (hk : s.f (fEVT_ROUTE_RING (e.origin / 256 % 16)) = k) (en : s.on (fEVR_CFG_EN k) = true) : s.release e = s.ringTake k e := by
  have log : s.nvLog e = s := if_pos (.inl (by rw [hl]; decide))
  unfold State.release
  rw [log]
  dsimp only
  rw [hk, if_pos ⟨route, en⟩]

/-! ## EN and HEAD (R535, R538) -/

/-- Nothing is held: only FULL and HELD are brought up to date. -/
theorem ringDrain_empty (h : (s.ring k).held = []) : s.ringDrain k = (s.setRing k { s.ring k with held := [] }).ringStatus k := by
  unfold State.ringDrain
  rw [h, ringFill_none]
  rfl

theorem f_ringDrain_other (h : (s.ring k).held = []) (hy : noStatus k y) : (s.ringDrain k).f y = s.f y := by
  rw [ringDrain_empty h]
  exact f_ringStatus_other hy

theorem ringDrain_held (h : (s.ring k).held = []) : (s.ringDrain k).f (fEVR_STATUS_HELD k) = 0 := by
  rw [ringDrain_empty h, f_ringStatus, if_pos rfl, ring_setRing, if_pos rfl]
  rfl

theorem ringDrain_keeps (h : (s.ring k).held = []) : (s.ringDrain k).outs = s.outs ∧ ((s.ringDrain k).ring k).p = (s.ring k).p := by
  rw [ringDrain_empty h, ringStatus_keeps.1, ring_setRing, if_pos rfl]
  exact ⟨ringStatus_keeps.2.1, rfl⟩

/-- The fields of a ring lie in no bank's word. -/
theorem evr_noBank : noBank (fEVR_CFG_EN k) = true ∧ noBank (fEVR_STATUS_HELD k) = true ∧ noBank (fEVR_PTR_TAIL k) = true ∧
    noBank (fEVR_PTR_HEAD k) = true ∧ noBank (fEVR_CFG_LOG2N k) = true := by
  have far : ∀ a l w : Nat, 0x03400100 ≤ a ∧ l < 32 → noBank ⟨a + 0x20 * k, l, w⟩ = true := fun a l w h =>
    decide_eq_true ⟨.inr (by dsimp only; omega), h.2⟩
  exact ⟨far _ _ _ (by decide), far _ _ _ (by decide), far _ _ _ (by decide), far _ _ _ (by decide), far _ _ _ (by decide)⟩

theorem wake_ring : s.wakeBanks.ring k = s.ring k := by
  unfold State.ring
  rw [wake_ev]

/-- What EN = 1 leaves of a ring whose hold buffer is empty. -/
theorem ringOn_shows (h : (s.ring k).held = []) : (s.ringOn k).f (fEVR_CFG_EN k) = 1 ∧ (s.ringOn k).f (fEVR_STATUS_HELD k) = 0 ∧
    (s.ringOn k).f (fEVR_PTR_TAIL k) = s.ringHead k % 65536 ∧ (s.ringOn k).f (fEVR_PTR_HEAD k) = s.f (fEVR_PTR_HEAD k) ∧
    (s.ringOn k).f (fEVR_CFG_LOG2N k) = s.f (fEVR_CFG_LOG2N k) ∧ (s.ringOn k).outs = s.outs := by
  have shown := fun {y : Fld} (hy : noStatus k y) => (f_ringDrain_other (s := (s.setF (fEVR_CFG_EN k) 1).setF (fEVR_PTR_TAIL k) (s.ringHead k))
    h hy).trans (f_setF ..)
  have untouched : ∀ {y : Fld}, noStatus k y → fldKey y ≠ fldKey (fEVR_PTR_TAIL k) → fldKey y ≠ fldKey (fEVR_CFG_EN k) →
      (s.ringOn k).f y = s.f y := fun hy tail en => (shown hy).trans ((if_neg tail).trans (f_setF_ne en _))
  have en := (shown en_noStatus).trans ((if_neg (evrKey_ne (by decide))).trans (f_setF_self ..))
  have head := untouched head_noStatus (evrKey_ne (by decide)) (evrKey_ne (by decide))
  have log2n := untouched log2n_noStatus (evrKey_ne (by decide)) (evrKey_ne (by decide))
  refine ⟨en, ringDrain_held h, (shown tail_noStatus).trans (if_pos rfl), head, log2n, ?_⟩
  exact (ringDrain_keeps (s := (s.setF (fEVR_CFG_EN k) 1).setF (fEVR_PTR_TAIL k) (s.ringHead k)) h).1

/-- The word EVR_CFG of a ring that is not enabled is written. -/
def State.evrWritten (s : State) (k : Nat) (data : Word) : State :=
  s.putFields (fEVR_CFG_EN k).addr data.toNat regEVR_CFG.fields true (atBits [])

theorem evrWritten_head (hk : k < 8) : (s.evrWritten k data).f (fEVR_PTR_HEAD k) = s.f (fEVR_PTR_HEAD k) := by
  refine f_putFields_ne _ (decide_eq_true (by simp only [fEVR_PTR_HEAD]; omega)) (fun f hf => ?_) s
  have lo : f.lo < 32 := by
    revert f
    decide
  simp only [fldKey, fldAt, fEVR_PTR_HEAD, fEVR_CFG_EN]
  omega

theorem execEvrEnable_turnsOn (hk : k < 8) (bit31 : data.getLsbD 31 = true) (off : s.on (fEVR_CFG_EN k) = false)
    (ht : s.takesWrite req (fEVR_CFG_EN k).addr = true) :
    execEvrEnable req k data s = .next ((s.evrWritten k data).ringOn k).wakeBanks := by
  have ok : (decide (k < 8) && wbit data 31 && !s.on (fEVR_CFG_EN k)) = true := by simp [hk, off, wbit, bit31]
  unfold execEvrEnable
  rw [rowWrite_of s ok, write_EVR_CFG hk ht data.isLt, writeDrive_EVR_CFG]
  dsimp only
  rw [off, if_pos ⟨bit_of_getLsbD bit31, by decide⟩]
  rfl

theorem execEvrHeadWrite_writes (hk : k < 8) (ht : s.takesWrite req (fEVR_PTR_HEAD k).addr = true) :
    execEvrHeadWrite req k data s = .next (s.writeHead k (data.toNat / 65536)).wakeBanks := by
  unfold execEvrHeadWrite
  rw [rowWrite_of s (decide_eq_true hk), write_EVR_PTR hk ht data.isLt, writeDrive_EVR_PTR]

/-! ## Messages (R539) -/

/-- The ring's count of records without a message starts anew. -/
def State.messaged (s : State) (k : Nat) : State := s.setRing k { s.ring k with p := 0 }

theorem execMsixTimer_due (hk : k < 8) (ht : s.f (fEVR_MOD_TIME k) ≠ 0) (hp : (s.ring k).p ≠ 0)
    (hd : (s.ring k).pFirst + 64 * s.f (fEVR_MOD_TIME k) ≤ s.time.master) (acts : (s.ring k).acts = []) :
    execMsixTimer k s = .next (let u := (s.messaged k).msix (s.f (fEVR_CFG_FUNC k)) (s.f (fEVR_CFG_VEC k))
      u.setRing k { u.ring k with acts := [] }) := by
  have none : ((s.messaged k).ring k).acts = [] := by
    unfold State.messaged
    rw [ring_setRing, if_pos rfl]
    exact acts
  unfold execMsixTimer
  dsimp only
  rw [if_neg (by omega)]
  unfold State.ringDo
  exact congrArg Host.Outcome.next (if_pos none)

/-- The pending bit of a vector is set. -/
def State.pend (s : State) (key : Nat) : State :=
  { s with host := { s.host with msixPend := smSet (fun _ => false) s.host.msixPend key true } }

theorem msix_beyond {func vec : Nat} (h : msixCount func ≤ vec) : s.msix func vec = s := if_pos h

theorem msix_sends {func vec : Nat} (h : ¬ msixCount func ≤ vec) (ho : smGet (fun _ => false) s.host.unmasked (2048 * func + vec) = true) :
    s.msix func vec = s.out (.msix func vec) := (if_neg h).trans (if_pos ho)

theorem msix_pends {func vec : Nat} (h : ¬ msixCount func ≤ vec) (ho : ¬ smGet (fun _ => false) s.host.unmasked (2048 * func + vec) = true) :
    s.msix func vec = s.pend (2048 * func + vec) := (if_neg h).trans (if_neg ho)

/-- A message leaves a ring's books alone, and does what it does without them. -/
theorem msix_setRing (r : Ring) (func vec : Nat) : (s.setRing k r).msix func vec = (s.msix func vec).setRing k r := by
  by_cases h : msixCount func ≤ vec
  · rw [msix_beyond h, msix_beyond h]
  · by_cases ho : smGet (fun _ => false) s.host.unmasked (2048 * func + vec) = true
    · rw [msix_sends h ho, msix_sends h ((congrArg (smGet _ ·.unmasked _) (setRing_host ..)).trans ho)]
      rfl
    · rw [msix_pends h ho, msix_pends h (by rw [setRing_host]; exact ho)]
      rfl

/-- A message changes no field. -/
theorem msix_regs (func vec : Nat) : (s.msix func vec).regs = s.regs := by
  by_cases h : msixCount func ≤ vec
  · rw [msix_beyond h]
  · by_cases ho : smGet (fun _ => false) s.host.unmasked (2048 * func + vec) = true
    · rw [msix_sends h ho]
      rfl
    · rw [msix_pends h ho]
      rfl

/-- A vector is unmasked and its pending bit cleared. -/
def State.unmask (s : State) (key : Nat) : State :=
  { s with host := { s.host with
      unmasked := smSet (fun _ => false) s.host.unmasked key true
      msixPend := smSet (fun _ => false) s.host.msixPend key false } }

theorem unmask_shows (key : Nat) : smGet (fun _ => false) (s.unmask key).host.unmasked key = true ∧
    smGet (fun _ => false) (s.unmask key).host.msixPend key = false ∧ Only [] [.outs, .host] s (s.unmask key) :=
  have put := fun (m : List (Nat × Bool)) (b : Bool) => (smGet_smSet (fun _ => false) m key key b).trans (if_pos rfl)
  ⟨put _ true, put _ false, .setHost (by decide) .refl⟩

theorem execMsixUnmask_eq {func vec : Nat} (hf : func < 2) (hv : vec < msixCount func) : execMsixUnmask func vec s =
    .next (if smGet (fun _ => false) s.host.msixPend (2048 * func + vec) = true then
      (s.unmask (2048 * func + vec)).out (.msix func vec) else s.unmask (2048 * func + vec)) := by
  have sends : (s.unmask (2048 * func + vec)).msix func vec = (s.unmask (2048 * func + vec)).out (.msix func vec) :=
    msix_sends (Nat.not_le.2 hv) (unmask_shows _).1
  unfold execMsixUnmask
  rw [if_neg (by omega)]
  rw [← sends]
  rfl

end Sys2Proof.Machine

/-- Settles O8: a record joins the hold buffer and is written out of it at once, its tail word behind it; EN and HEAD act on an empty
hold buffer, which shows in the fields alone; messages go by the vector's mask. -/
theorem eventRingsWriteRecordTailMessage : Obligations.EventRingsWriteRecordTailMessage := by
  intro s k hk acts
  obtain ⟨bEn, bHeld, bTail, bHead, bLog⟩ := evr_noBank (k := k)
  refine ⟨fun e hl route ring en space held room own calm few => ?record, fun req data held bit31 off ht => ?enable,
    fun req data held ht => ?head, fun time p due => ?timer, fun func vec hf hv => ?unmask⟩
  case record =>
    rw [release_takes hl route ring en, ringTake_empty held, ringHolds_posts acts space room own calm few]
    exact ⟨posted_outs, (congrArg Ring.p posted_ring).trans (congrArg (·.p + 1) ringHolds_ring), congrArg Ring.held posted_ring, posted_tail,
      posted_fs⟩
  case enable =>
    have empty : ((s.evrWritten k data).ring k).held = [] := by
      unfold State.ring
      rw [State.evrWritten, putFields_ev]
      exact held
    obtain ⟨on, none, tail, head, log2n, outs⟩ := ringOn_shows empty
    have awake := fun {y : Fld} (h : noBank y = true) => f_wakeBanks ((s.evrWritten k data).ringOn k) h
    have head' := (awake bHead).trans head
    refine ⟨_, execEvrEnable_turnsOn hk bit31 off ht, (awake bEn).trans on, (awake bHeld).trans none, ?_, head'.trans (evrWritten_head hk),
      (wake_outs _).trans (outs.trans (putFields_outs ..))⟩
    rw [ringHead_congr ((awake bLog).trans log2n) head']
    exact (awake bTail).trans tail
  case head =>
    have empty : ((s.setF (fEVR_PTR_HEAD k) (data.toNat / 65536 % s.ringSize k)).ring k).held = [] := held
    obtain ⟨outs, p⟩ := ringDrain_keeps empty
    have kept := fun {y : Fld} (h : noBank y = true) (hy : noStatus k y) =>
      (f_wakeBanks _ h).trans ((f_ringDrain_other empty hy).trans (f_setF ..))
    refine ⟨_, execEvrHeadWrite_writes hk ht, (kept bHead head_noStatus).trans (if_pos rfl),
      (kept bTail tail_noStatus).trans (if_neg (evrKey_ne (by decide))), (wake_outs _).trans outs, ?_⟩
    exact (congrArg Ring.p wake_ring).trans p
  case timer =>
    refine ⟨_, execMsixTimer_due hk time p due acts, ?_, ?_, ?_, ?_⟩
    all_goals dsimp only [State.messaged]; rw [msix_setRing]
    · rw [ring_setRing, if_pos rfl, ring_setRing, if_pos rfl]
    · rfl
    · rfl
    · exact msix_regs ..
  case unmask =>
    obtain ⟨unmasked, pending, only⟩ := unmask_shows (s := s) (2048 * func + vec)
    refine ⟨_, execMsixUnmask_eq hf hv, ?_⟩
    split
    · exact ⟨unmasked, pending, rfl, only.out (by decide)⟩
    · exact ⟨unmasked, pending, rfl, only⟩
end

section
/-!
CXL.cache and CXL.mem (R530 to R534): availability, the decoder, host reads and writes with the snoop filter, back-invalidates, RdCurr data.
-/
open Sys2Proof Sys2Proof.Machine
namespace Sys2Proof.Machine

variable {s t u : State} {fs : List Fld} {ps : List Part} {line hpa base mask : Nat} {bytes : List Byte} {cache wb : Bool}

/-! ## Availability of CXL.cache (R534) -/

theorem execCxlCacheAvailable_begins (up : s.on fCXL_LINK_STATUS_UP = true) (cxl : s.on fCXL_LINK_STATUS_CXL = true)
    (reset : s.host.inReset = false) (off : s.on fCXL_LINK_STATUS_CACHE = false) : execCxlCacheAvailable s = .next
      ((({ s with host := { s.host with cacheEn := true } }.setF fCXL_LINK_STATUS_CACHE 1).cacheQueues true).hostState 4) :=
  if_neg (by simp [up, cxl, reset, off])

theorem cacheQueues_host (b : Bool) : (s.cacheQueues b).host = s.host :=
  touch_same (.cacheQueues (m := 66) .refl .refl) .host (by decide)

theorem sleepNow_host (cause : Nat) : (s.sleepNow cause).host = s.host :=
  touch_same (.sleepNow (m := 131650) .refl .refl) .host (by decide)

/-- CXL.cache is lost: Cache_Enable is cleared, and nothing else of the host's state changes. -/
theorem cacheLost_host (cause : Nat) : (s.cacheLost cause).host = { s.host with cacheEn := false } := by
  have lost : ((({ s with host := { s.host with cacheEn := false } }.setF fCXL_LINK_STATUS_CACHE 0).count
      fCXL_HOST_CNT_CACHELOSS 1).cacheQueues false).host = { s.host with cacheEn := false } := by
    rw [cacheQueues_host]
    rfl
  unfold State.cacheLost
  split
  · rfl
  · dsimp only
    split
    · exact lost
    · exact (sleepNow_host cause).trans lost

/-! ## The decoder (R530) -/

/-- The decoder after a commit that is in order (`ok`) or fails. -/
def State.committed (s : State) (base : Nat) (ok memEnable : Bool) : State :=
  { s with host := { s.host with memEn := memEnable, hdm := if ok then some base else s.host.hdm } }

theorem execHdmCommit_eq (size : Nat) (memEnable : Bool) : execHdmCommit base size memEnable s =
    .next ((s.committed base (decide (size = 48 * 2 ^ 30 ∧ base % 2 ^ 28 = 0)) memEnable).memStat.out
      (.reply 20 [BitVec.ofNat 8 (b2n (decide (size = 48 * 2 ^ 30 ∧ base % 2 ^ 28 = 0)))])) := rfl

theorem memStat_shows : s.memStat.f fCXL_LINK_STATUS_MEM = b2n (s.host.memEn && s.host.hdm.isSome) := by
  rw [f_memStat, if_pos rfl, b2n_mod_two]

theorem committed_only (ok memEnable : Bool) (r : Out) :
    Only [fCXL_LINK_STATUS_MEM] [.regs, .host, .outs] s ((s.committed base ok memEnable).memStat.out r) :=
  .out (by decide) (.setF (by simp) (.setHost (by decide) .refl))

theorem hostLine_none (h : s.host.hdm = none ∨ s.host.memEn = false) : s.hostLine hpa = none := by
  unfold State.hostLine
  rcases h with h | h
  · rw [h]
  · cases s.host.hdm with
    | none => rfl
    | some base => exact if_neg (by simp [h])

theorem hostLine_mapped (hdm : s.host.hdm = some base) (memEn : s.host.memEn = true) (up : s.on fCXL_LINK_STATUS_UP = true)
    (cxl : s.on fCXL_LINK_STATUS_CXL = true) (lo : base ≤ hpa) (hi : hpa < base + 48 * 2 ^ 30) : s.hostLine hpa = some ((hpa - base) / 64) := by
  unfold State.hostLine
  rw [hdm]
  exact if_pos ⟨memEn, up, cxl, lo, hi⟩

theorem execCxlmemRead_none (h : s.hostLine hpa = none) : execCxlmemRead hpa cache s = .next s := by
  unfold execCxlmemRead
  rw [h]

theorem execCxlmemWrite_none (h : s.hostLine hpa = none) : execCxlmemWrite hpa bytes mask wb s = .next s := by
  unfold execCxlmemWrite
  rw [h]

/-- A request for a line whose stack accepts requests is served at once. -/
theorem memRequest_ready {r : MemReq} (h : s.stackReady (stackOf (64 * r.line)) = true) :
    s.memRequest r = (s.requested (stackOf (64 * r.line))).memServe r := by
  unfold State.memRequest
  dsimp only
  rw [if_pos h, touchStack_awake (stackReady_iff.1 h).1]

theorem execCxlmemRead_ready (h : s.hostLine hpa = some line) (ready : s.stackReady (stackOf (64 * line)) = true) :
    execCxlmemRead hpa cache s = .next ((s.requested (stackOf (64 * line))).memServe ⟨line, cache, none⟩) := by
  unfold execCxlmemRead
  rw [h]
  exact congrArg Host.Outcome.next (memRequest_ready ready)

theorem execCxlmemWrite_ready (h : s.hostLine hpa = some line) (ready : s.stackReady (stackOf (64 * line)) = true) (len : bytes.length = 64) :
    execCxlmemWrite hpa bytes mask wb s =
      .next ((s.requested (stackOf (64 * line))).memServe ⟨line, false, some (bytes, mask, wb)⟩) := by
  unfold execCxlmemWrite
  rw [h, List.take_of_length_le (Nat.le_of_eq len)]
  exact congrArg Host.Outcome.next (memRequest_ready ready)

/-! ## Host reads (R531, R532) -/

theorem memServe_reads (h : cache = false ∨ s.host.sf.contains line = true) : s.memServe ⟨line, cache, none⟩ = s.hostRead line :=
  if_pos (h.imp (fun off => Bool.eq_false_iff.1 off) id)

theorem memServe_enters (new : s.host.sf.contains line = false) (room : s.host.sf.length < 32768) :
    s.memServe ⟨line, true, none⟩ = (s.hostRead line).setSf (s.host.sf ++ [line]) :=
  (if_neg (by simp only [new]; decide)).trans (if_pos room)

/-- A read of a line waits for a place in the filter. -/
def State.sfWaits (s : State) (line : Nat) : State := { s with host := { s.host with sfWait := s.host.sfWait ++ [line] } }

theorem memServe_full {old : Nat} {rest : List Nat} (new : s.host.sf.contains line = false) (sf : s.host.sf = old :: rest)
    (full : 32768 ≤ s.host.sf.length) :
    s.memServe ⟨line, true, none⟩ = (s.sfWaits line).sendBi true false [old] := by
  refine (if_neg (by simp only [new]; decide)).trans ((if_neg (Nat.not_lt.2 full)).trans ?_)
  rw [sf]
  rfl

theorem hostRead_outs (k : Nat) : ((s.requested k).hostRead line).outs =
    .memData line (s.fsBytes (64 * line) 64) (s.poisoned (64 * line)) (s.poisoned (64 * line + 32)) :: s.outs := rfl

theorem hostRead_only (k : Nat) (hf : Part.fsRest ∈ ps) (ho : Part.outs ∈ ps) : Only fs ps s ((s.requested k).hostRead line) :=
  .out ho (.requested hf .refl)

theorem setSf_shows (l : List Nat) : (s.setSf l).host = { s.host with sf := l } ∧ (s.setSf l).outs = s.outs ∧
    (s.setSf l).f fCXL_BI_SF_USED = l.length % 2 ^ 16 :=
  ⟨rfl, rfl, f_setF_self (s := { s with host := { s.host with sf := l } }) fCXL_BI_SF_USED l.length⟩

theorem setSf_only (l : List Nat) (hx : fCXL_BI_SF_USED ∈ fs) (hh : Part.host ∈ ps) (h : Only fs ps s t) : Only fs ps s (t.setSf l) :=
  .setF hx (.setHost hh h)

theorem sfWaits_only (hh : Part.host ∈ ps) (h : Only fs ps s t) : Only fs ps s (t.sfWaits line) := .setHost hh h

theorem sendBi_one (old : Nat) : s.sendBi true false [old] =
    if s.host.bi.any (fun b => b.line == old) then
      { s with host := { s.host with bi := s.host.bi.map fun b =>
          if b.line = old ∧ false = true ∧ ¬ b.realtime then { b with realtime := true, since := s.time.master } else b } }
    else { s with host := { s.host with bi := s.host.bi ++ [(⟨old, s.time.master, false, false⟩ : BiWait)] } }.out (.biSnp old true) := rfl

/-- A line is asked back: nothing but the lines asked for changes in the host's books. -/
theorem sendBi_keeps (old : Nat) (hh : Part.host ∈ ps) (ho : Part.outs ∈ ps) (h : Only fs ps s t) :
    (t.sendBi true false [old]).host.sf = t.host.sf ∧ (t.sendBi true false [old]).host.sfWait = t.host.sfWait ∧
      Only fs ps s (t.sendBi true false [old]) := by
  rw [sendBi_one]
  split
  · exact ⟨rfl, rfl, .setHost hh h⟩
  · exact ⟨rfl, rfl, .out ho (.setHost hh h)⟩

theorem sendBi_asks {old : Nat} (h : (s.host.bi.any fun b => b.line == old) = false) :
    (s.sendBi true false [old]).outs = .biSnp old true :: s.outs ∧
      (s.sendBi true false [old]).host.bi = s.host.bi ++ [⟨old, s.time.master, false, false⟩] := by
  rw [sendBi_one, if_neg (by rw [h]; decide)]
  exact ⟨rfl, rfl⟩

/-! ## Host writes (R531) -/

/-- A list is stored in a map from a key upwards. -/
def smPut {α : Type} [DecidableEq α] (d : Nat → α) : SMap α → Nat → List α → SMap α
  | m, _, [] => m
  | m, a, v :: vs => smPut d (smSet d m a v) (a + 1) vs

theorem smGet_smPut {α : Type} [DecidableEq α] {d : Nat → α} (vs : List α) : ∀ (m : SMap α) (a x : Nat),
    smGet d (smPut d m a vs) x = if a ≤ x ∧ x < a + vs.length then vs.getD (x - a) (d x) else smGet d m x := by
  induction vs with
  | nil => exact fun m a x => (if_neg (by simp only [List.length_nil]; omega)).symm
  | cons v vs ih =>
    intro m a x
    rw [smPut, ih, smGet_smSet, List.length_cons]
    by_cases first : x = a
    · subst first
      rw [if_neg (by omega), if_pos rfl, if_pos (by omega), Nat.sub_self]
      rfl
    · rw [if_neg first]
      by_cases inside : a + 1 ≤ x ∧ x < a + 1 + vs.length
      · rw [if_pos inside, if_pos (by omega), show x - a = x - (a + 1) + 1 by omega]
        rfl
      · rw [if_neg inside, if_neg (by omega)]

theorem putBytes_eq {d : Nat → Byte} (vs : List Byte) : ∀ m a, putBytes d m a vs = smPut d m a vs := by
  induction vs with
  | nil => exact fun _ _ => rfl
  | cons v vs ih => exact fun m a => ih (smSet d m a v) (a + 1)

theorem putHost_eq (vs : List Nat) : ∀ m a, putHost m a vs = smPut (fun _ => 256) m a vs := by
  induction vs with
  | nil => exact fun _ _ => rfl
  | cons v vs ih => exact fun m a => ih (smSet (fun _ => 256) m a v) (a + 1)

theorem fsByte_fsPut (a x : Nat) : (s.fsPut a bytes).fsByte x =
    if a ≤ x ∧ x < a + bytes.length then bytes.getD (x - a) 0 else s.fsByte x :=
  (congrArg (smGet _ · x) (putBytes_eq bytes s.fs.mem a)).trans (smGet_smPut ..)

/-- Entries of a map are cleared. -/
theorem smGet_clear (l : List Nat) (k : Nat) : ∀ m : SMap Bool,
    smGet (fun _ => false) (l.foldl (fun m u => smSet (fun _ => false) m u false) m) k =
      if k ∈ l then false else smGet (fun _ => false) m k := by
  induction l with
  | nil => exact fun m => (if_neg List.not_mem_nil).symm
  | cons u l ih =>
    intro m
    rw [List.foldl_cons, ih, smGet_smSet]
    by_cases first : k = u
    · rw [if_pos first, if_pos (List.mem_cons.2 (.inl first)), ite_self]
    · simp only [List.mem_cons, first, false_or, if_false]

/-- The units of a line. -/
theorem mem_wholeUnits_line {k : Nat} : k ∈ wholeUnits (64 * line) 64 ↔ k / 2 = line := by
  unfold wholeUnits
  rw [List.mem_map]
  constructor
  · rintro ⟨i, hi, rfl⟩
    rw [List.mem_range] at hi
    omega
  · intro h
    exact ⟨k - 2 * line, List.mem_range.2 (by omega), by omega⟩

/-- A line written whole loses its poison. -/
theorem poisoned_fsPut (len : bytes.length = 64) (a : Nat) : (s.fsPut (64 * line) bytes).poisoned a =
    if a / 64 = line then false else s.poisoned a := by
  refine (smGet_clear _ (a / 32) s.fs.poison).trans ?_
  rw [len]
  simp only [mem_wholeUnits_line, Nat.div_div_eq_div_mul]
  rfl

theorem partWrite_touch (a : Nat) : Touch 4096 s (partWrite a 0 bytes mask s) := .partWrite .refl .refl

/-- A partial write stores the bytes whose enable is 1. -/
theorem fsByte_partWrite (a x : Nat) (bs : List Byte) : ∀ (i : Nat) (s : State), (partWrite a i bs mask s).fsByte x =
    if a + i ≤ x ∧ x < a + i + bs.length ∧ bit mask (x - a) = 1 then bs.getD (x - a - i) 0 else s.fsByte x := by
  induction bs with
  | nil => exact fun i s => (if_neg (by simp only [List.length_nil]; omega)).symm
  | cons b bs ih =>
    intro i s
    rw [partWrite, ih, List.length_cons]
    by_cases first : x = a + i
    · subst first
      rw [if_neg (by omega), Nat.add_sub_cancel_left, Nat.sub_self]
      by_cases on : bit mask i = 1
      · rw [if_pos on, if_pos ⟨by omega, by omega, on⟩]
        exact (smGet_smSet ..).trans (if_pos rfl)
      · rw [if_neg on, if_neg (fun h => on h.2.2)]
    · have other : (if bit mask i = 1 then ({ s with fs := { s.fs with mem := smSet (fun _ => 0#8) s.fs.mem (a + i) b } } : State)
          else s).fsByte x = s.fsByte x := by
        split
        · exact (smGet_smSet ..).trans (if_neg first)
        · rfl
      rw [other]
      by_cases inside : a + (i + 1) ≤ x ∧ x < a + (i + 1) + bs.length ∧ bit mask (x - a) = 1
      · rw [if_pos inside, if_pos (by omega), show x - a - i = x - a - (i + 1) + 1 by omega]
        rfl
      · rw [if_neg inside, if_neg (by omega)]

theorem bit_of_full (full : mask % 2 ^ 64 = 2 ^ 64 - 1) {i : Nat} (h : i < 64) : bit mask i = 1 := by
  have all : (mask % 2 ^ 64).testBit i = true := by
    rw [full, Nat.testBit_two_pow_sub_one]
    exact decide_eq_true h
  rw [Nat.testBit_mod_two_pow, Bool.and_eq_true] at all
  rw [bit_eq, all.2]
  rfl

/-- The frame store once a host's write of a line is in it. -/
def State.lineWritten (s : State) (line : Nat) (bytes : List Byte) (mask : Nat) : State :=
  if bytes.length = 64 ∧ mask % 2 ^ 64 = 2 ^ 64 - 1 then s.fsWrite (64 * line) bytes
  else (partWrite (64 * line) 0 bytes mask s).noteWrite (64 * line) 64

theorem memServe_writes : s.memServe ⟨line, cache, some (bytes, mask, wb)⟩ =
    (if wb then (s.lineWritten line bytes mask).setSf ((s.lineWritten line bytes mask).host.sf.filter fun l => l != line)
      else s.lineWritten line bytes mask).out (.memDone line) := rfl

theorem lineWritten_touch : Touch 12800 s (s.lineWritten line bytes mask) := by
  unfold State.lineWritten
  split
  · exact .fsWrite .refl .refl
  · exact .noteWrite (Has.refl.s rfl) (.partWrite (Has.refl.s rfl) .refl)

/-- A completed write is noted: the frame store is as it was. -/
theorem noteWrite_store (a n : Nat) : (s.noteWrite a n).fs.mem = s.fs.mem ∧ (s.noteWrite a n).fs.poison = s.fs.poison := by
  have touch : Touch 512 s (s.noteWrite a n) := .noteWrite .refl .refl
  exact ⟨touch_same touch .fsMem (by decide), touch_same touch .fsPoison (by decide)⟩

theorem fsByte_of_mem (h : t.fs.mem = s.fs.mem) (a : Nat) : t.fsByte a = s.fsByte a := congrArg (smGet _ · a) h

theorem poisoned_of_poison (h : t.fs.poison = s.fs.poison) (a : Nat) : t.poisoned a = s.poisoned a := congrArg (smGet _ · (a / 32)) h

/-- What a host's write of a line leaves in the frame store. -/
theorem fsByte_lineWritten (len : bytes.length = 64) (x : Nat) : (s.lineWritten line bytes mask).fsByte x =
    if 64 * line ≤ x ∧ x < 64 * line + 64 ∧ bit mask (x - 64 * line) = 1 then bytes.getD (x - 64 * line) 0 else s.fsByte x := by
  unfold State.lineWritten
  by_cases full : mask % 2 ^ 64 = 2 ^ 64 - 1
  · rw [if_pos ⟨len, full⟩]
    refine (fsByte_of_mem (noteWrite_store ..).1 x).trans ((fsByte_fsPut ..).trans ?_)
    rw [len]
    by_cases inside : 64 * line ≤ x ∧ x < 64 * line + 64
    · rw [if_pos inside, if_pos ⟨inside.1, inside.2, bit_of_full full (by omega)⟩]
    · rw [if_neg inside, if_neg (fun h => inside ⟨h.1, h.2.1⟩)]
  · rw [if_neg (fun h => full h.2)]
    refine (fsByte_of_mem (noteWrite_store ..).1 x).trans ((fsByte_partWrite ..).trans ?_)
    rw [len, Nat.add_zero, Nat.sub_zero]

theorem poisoned_lineWritten (len : bytes.length = 64) (a : Nat) : (s.lineWritten line bytes mask).poisoned a =
    if a / 64 = line ∧ mask % 2 ^ 64 = 2 ^ 64 - 1 then false else s.poisoned a := by
  unfold State.lineWritten
  by_cases full : mask % 2 ^ 64 = 2 ^ 64 - 1
  · rw [if_pos ⟨len, full⟩]
    refine (poisoned_of_poison (noteWrite_store ..).2 a).trans ((poisoned_fsPut len a).trans ?_)
    simp only [full, and_true]
  · rw [if_neg (fun h => full h.2), if_neg (fun h => full h.2)]
    exact (poisoned_of_poison (noteWrite_store ..).2 a).trans
      (poisoned_of_poison (touch_same (partWrite_touch _) .fsPoison (by decide)) a)

theorem lineWritten_host : (s.lineWritten line bytes mask).host = s.host := touch_same lineWritten_touch .host (by decide)

theorem lineWritten_outs : (s.lineWritten line bytes mask).outs = s.outs := touch_same lineWritten_touch .outs (by decide)

theorem lineWritten_only (hg : Part.groups ∈ ps) (hm : Part.fsMem ∈ ps) (hp : Part.fsPoison ∈ ps) (h : Only fs ps s t) :
    Only fs ps s (t.lineWritten line bytes mask) :=
  h.touch [.groups, .fsMem, .fsPoison] (by decide) (by simp [hg, hm, hp]) lineWritten_touch

/-- A host's write is served: the frame store takes the line, and the write-back of a line leaves the filter. -/
theorem memServe_written (h : t = s.memServe ⟨line, false, some (bytes, mask, wb)⟩) :
    t.outs = .memDone line :: s.outs ∧ t.fs = (s.lineWritten line bytes mask).fs ∧
      t.host.sf = (if wb then s.host.sf.filter fun l => l != line else s.host.sf) := by
  subst h
  rw [memServe_writes, lineWritten_host]
  cases wb
  · exact ⟨congrArg _ lineWritten_outs, rfl, congrArg HostSt.sf lineWritten_host⟩
  · exact ⟨congrArg _ lineWritten_outs, rfl, rfl⟩

/-- What the frame store holds once a host's write of a line is served. -/
theorem memServe_store (len : bytes.length = 64) (h : t = s.memServe ⟨line, false, some (bytes, mask, wb)⟩) :
    (∀ i, i < 64 → t.fsByte (64 * line + i) = if bit mask i = 1 then bytes.getD i 0 else s.fsByte (64 * line + i)) ∧
      (∀ a, a < 64 * line ∨ 64 * line + 64 ≤ a → t.fsByte a = s.fsByte a) ∧
      (∀ a, t.poisoned a = if a / 64 = line ∧ mask % 2 ^ 64 = 2 ^ 64 - 1 then false else s.poisoned a) := by
  obtain ⟨-, store, -⟩ := memServe_written h
  have mem : ∀ a, t.fsByte a = (s.lineWritten line bytes mask).fsByte a := fsByte_of_mem (by rw [store])
  have poison : ∀ a, t.poisoned a = (s.lineWritten line bytes mask).poisoned a := poisoned_of_poison (by rw [store])
  refine ⟨fun i hi => ?_, fun a ha => ?_, fun a => ?_⟩
  · have inside : 64 * line ≤ 64 * line + i ∧ 64 * line + i < 64 * line + 64 := by omega
    rw [mem, fsByte_lineWritten len, Nat.add_sub_cancel_left]
    simp only [inside, true_and]
  · rw [mem, fsByte_lineWritten len, if_neg (by omega)]
  · rw [poison, poisoned_lineWritten len]

theorem memServe_write_only (h : Only [fCXL_BI_SF_USED] [.regs, .outs, .groups, .host, .fsMem, .fsPoison, .fsRest] s t) :
    Only [fCXL_BI_SF_USED] [.regs, .outs, .groups, .host, .fsMem, .fsPoison, .fsRest] s
      (t.memServe ⟨line, false, some (bytes, mask, wb)⟩) := by
  have written := lineWritten_only (line := line) (bytes := bytes) (mask := mask) (by decide) (by decide) (by decide) h
  rw [memServe_writes]
  exact .out (by decide) (.ite (setSf_only _ (by simp) (by decide) written) written)

/-! ## Back-invalidates (R532) -/

/-- SF_USED counts the filter once a line has left it. -/
theorem lineFreed_used : (s.lineFreed line).f fCXL_BI_SF_USED = (s.host.sf.filter fun l => l != line).length % 2 ^ 16 := by
  have fld : linkFld fCXL_BI_SF_USED := ⟨by decide, by decide⟩
  unfold State.lineFreed
  exact ((Calm.storeGoes fld .refl).1).trans (setSf_shows _).2.2

theorem execBiResponse_none (h : (s.host.bi.any fun b => b.line == line) = true) (hu : u = s.lineFreed line) (none : u.host.sfWait = []) :
    execBiResponse line s = .next u := by
  unfold execBiResponse
  rw [if_neg (not_not_intro h)]
  dsimp only
  rw [← hu, none]

/-- The next read that waited for a place in the filter completes. -/
theorem execBiResponse_next {l : Nat} {rest : List Nat} (h : (s.host.bi.any fun b => b.line == line) = true)
    (hu : u = s.lineFreed line) (wait : u.host.sfWait = l :: rest) (room : u.host.sf.length < 32768) :
    execBiResponse line s = .next (({ u with host := { u.host with sfWait := rest } }.hostRead l).setSf (u.host.sf ++ [l])) := by
  unfold execBiResponse
  rw [if_neg (not_not_intro h)]
  dsimp only
  rw [← hu, wait]
  dsimp only
  rw [if_pos room]

/-- Is the wait for a line, of a REALTIME read, due? -/
def State.biDue (s : State) (line : Nat) (b : BiWait) : Bool :=
  b.line == line && b.realtime && !b.late && decide (b.since + s.f fCXL_BI_RT_TMO ≤ s.time.master)

/-- The waits that are due are given up. -/
def State.biLate (s : State) (line : Nat) : State :=
  { s with host := { s.host with bi := s.host.bi.map fun b => if s.biDue line b then { b with late := true } else b } }

theorem execBiTimeout_due (h : s.host.bi.any (s.biDue line) = true) :
    execBiTimeout line s = .next ((s.biLate line).count fCXL_BI_LATE_COUNT 1) := if_pos h

theorem biLate_gives {b : BiWait} (hb : b ∈ s.host.bi) (hl : b.line = line) (rt : b.realtime = true)
    (due : b.since + s.f fCXL_BI_RT_TMO ≤ s.time.master) : { b with late := true } ∈ (s.biLate line).host.bi := by
  refine List.mem_map.2 ⟨b, hb, ?_⟩
  by_cases was : b.late = true
  · rw [← was]
    exact ite_self _
  · refine if_pos ?_
    simp [State.biDue, hl, rt, was, due]

theorem f_biLate (x : Fld) : (s.biLate line).f x = s.f x := rfl

/-- A wait given up counts in LATE_COUNT. -/
theorem biLate_counted : ((s.biLate line).count fCXL_BI_LATE_COUNT 1).f fCXL_BI_LATE_COUNT =
    satAdd (s.f fCXL_BI_LATE_COUNT) 1 (2 ^ fCXL_BI_LATE_COUNT.w - 1) ∧
      Only [fCXL_BI_LATE_COUNT] [.regs, .host] s ((s.biLate line).count fCXL_BI_LATE_COUNT 1) :=
  ⟨(count_self ..).trans (by rw [f_biLate]), .setF (by simp) (.setHost (by decide) .refl)⟩

/-! ## CXL.cache (R533) -/

/-- Has the read of a line failed: on poison or an error, or by more than 16,384 ticks? -/
def State.readLost (s : State) (line : Nat) (failed : Bool) : Bool :=
  failed || (match s.askedAt line with
    | some k => decide (k + 16384 < s.time.master)
    | none => false)

/-- What a read of a line puts into the buffer. -/
def lineData (lost : Bool) (bytes : List Byte) : List Nat := if lost then List.replicate 64 257 else bytes.map fun b => b.toNat

theorem length_lineData (lost : Bool) (len : bytes.length = 64) : (lineData lost bytes).length = 64 := by
  cases lost
  · exact (List.length_map ..).trans len
  · rfl

theorem lineData_lost {i d : Nat} (hi : i < 64) : (lineData true bytes).getD i d = 257 := by
  rw [List.getD_eq_getElem _ _ hi]
  exact List.getElem_replicate ..

theorem lineData_getD (lost : Bool) (len : bytes.length = 64) {i d : Nat} (hi : i < 64) :
    (lineData lost bytes).getD i d = if lost then 257 else (bytes.getD i 0).toNat := by
  cases lost
  · have there : i < bytes.length := len ▸ hi
    simp [lineData, there]
  · exact lineData_lost hi

theorem execCacheReadDone_taken (h : s.on fCXL_LINK_STATUS_CACHE = true ∨ s.askedAt line ≠ none) (len : bytes.length = 64) (failed : Bool) :
    execCacheReadDone line bytes failed none s = .next (s.hostCame line (lineData (s.readLost line failed) bytes)) := by
  unfold execCacheReadDone
  rw [if_neg (by tauto), List.take_of_length_le (Nat.le_of_eq len)]
  rfl

theorem execCacheReadDone_captured {p : Nat} (h : s.on fCXL_LINK_STATUS_CACHE = true ∨ s.askedAt line ≠ none) (len : bytes.length = 64)
    (failed : Bool) (got : s.readLost line failed = false) : execCacheReadDone line bytes failed (some p) s =
      .next ((s.hostCame line (lineData (s.readLost line failed) bytes)).captureBytes p (64 * line) bytes) := by
  unfold execCacheReadDone
  rw [if_neg (by tauto), List.take_of_length_le (Nat.le_of_eq len)]
  exact if_neg (Bool.eq_false_iff.1 got)

theorem execCacheReadTimeout_due {k : Nat} (asked : s.askedAt line = some k) (due : k + 16384 ≤ s.time.master) :
    execCacheReadTimeout line s = .next (s.hostCame line (lineData true [])) := by
  unfold execCacheReadTimeout
  rw [asked]
  dsimp only
  rw [if_pos due]
  rfl

theorem hostByte_hostCame (vs : List Nat) (x : Nat) : (s.hostCame line vs).hostByte x =
    if 64 * line ≤ x ∧ x < 64 * line + vs.length then vs.getD (x - 64 * line) 256 else s.hostByte x :=
  (congrArg (smGet _ · x) (putHost_eq vs s.host.hostBuf (64 * line))).trans (smGet_smPut ..)

theorem askedAt_hostCame (vs : List Nat) (l : Nat) : (s.hostCame line vs).askedAt l = if l = line then none else s.askedAt l :=
  smGet_smSet (fun _ => none) s.host.asked line l none

theorem hostCame_only (vs : List Nat) : Only [] [.host] s (s.hostCame line vs) := .setHost (by decide) .refl

/-- The bytes of a line that has come, or has failed to. -/
theorem hostCame_line {vs : List Nat} (len : vs.length = 64) {i : Nat} (hi : i < 64) :
    (s.hostCame line vs).hostByte (64 * line + i) = vs.getD i 256 := by
  rw [hostByte_hostCame, len, if_pos (by omega), Nat.add_sub_cancel_left]

theorem hostCame_beside {vs : List Nat} (len : vs.length = 64) {a : Nat} (ha : a < 64 * line ∨ 64 * line + 64 ≤ a) :
    (s.hostCame line vs).hostByte a = s.hostByte a := by
  rw [hostByte_hostCame, len, if_neg (by omega)]

theorem askedAt_askHost (l k : Nat) : (s.askHost k).askedAt l = if l = k then some s.time.master else s.askedAt l :=
  smGet_smSet (fun _ => none) s.host.asked k l (some s.time.master)

/-- What is asked for is awaited, and a RdCurr goes out for it. -/
theorem foldl_askHost (L : List Nat) (l : Nat) : ∀ s : State,
    (l ∈ L ∨ (s.askedAt l).isSome = true → ((L.foldl (fun s l => s.askHost l) s).askedAt l).isSome = true) ∧
      (l ∈ L ∨ Out.rdCurr l ∈ s.outs → Out.rdCurr l ∈ (L.foldl (fun s l => s.askHost l) s).outs) := by
  induction L with
  | nil => exact fun s => ⟨fun h => h.resolve_left List.not_mem_nil, fun h => h.resolve_left List.not_mem_nil⟩
  | cons k L ih =>
    intro s
    obtain ⟨asked, sent⟩ := ih (s.askHost k)
    have outs : (s.askHost k).outs = .rdCurr k :: s.outs := rfl
    by_cases first : l = k
    · refine ⟨fun _ => asked (.inr ?_), fun _ => sent (.inr ?_)⟩
      · rw [askedAt_askHost, if_pos first]
        rfl
      · rw [outs, first]
        exact List.mem_cons_self
    · rw [askedAt_askHost, if_neg first] at asked
      rw [outs] at sent
      exact ⟨fun h => asked (h.imp_left fun m => (List.mem_cons.1 m).resolve_left first),
        fun h => sent (h.imp (fun m => (List.mem_cons.1 m).resolve_left first) (List.mem_cons_of_mem _))⟩

/-- The lines of reads of host memory of which a byte is still to come. -/
def State.missingOf (s : State) (rs : List (Nat × Nat)) : List Nat := (rs.flatMap fun r => s.hostMissing r.1 r.2).eraseDups

theorem hostGate_on (on : s.on fCXL_LINK_STATUS_CACHE = true) (rs : List (Nat × Nat)) : s.hostGate rs =
    ((s.missingOf rs).isEmpty, ((s.missingOf rs).filter fun l => (s.askedAt l).isNone).foldl (fun s l => s.askHost l) s) := if_pos on

/-- Every missing line is awaited; those that were not are asked for. -/
theorem hostGate_asks (on : s.on fCXL_LINK_STATUS_CACHE = true) {rs : List (Nat × Nat)} {l : Nat} (hl : l ∈ s.missingOf rs) :
    ((s.hostGate rs).2.askedAt l).isSome = true ∧ (s.askedAt l = none → .rdCurr l ∈ (s.hostGate rs).2.outs) := by
  obtain ⟨asked, sent⟩ := foldl_askHost ((s.missingOf rs).filter fun l => (s.askedAt l).isNone) l s
  rw [hostGate_on on]
  refine ⟨asked ?_, fun none => sent (.inl (List.mem_filter.2 ⟨hl, by rw [none]; rfl⟩))⟩
  cases was : s.askedAt l with
  | none => exact .inl (List.mem_filter.2 ⟨hl, by rw [was]; rfl⟩)
  | some k => exact .inr rfl

end Sys2Proof.Machine

/-- Settles O32, clause by clause: the decoder maps a request to its line or to none; what a served request does to the frame store and the
filter is said by the lemmas on `memServe`, and what RdCurr brings by those on `hostCame`. -/
theorem cxlCacheAndMemoryRequests : Obligations.CxlCacheAndMemoryRequests := by
  intro s
  refine ⟨execCxlCacheAvailable_begins, fun on => ?lost, fun base size memEnable => ?commit, fun h hpa cache bytes mask wb => ?unmapped,
    fun base hpa hdm memEn up cxl lo hi => ?mapped, fun line bi => ?response, fun line due => ?timeout, fun line bytes len => ?read,
    fun on rs => ⟨congrArg Prod.fst (hostGate_on on rs), fun l hl => hostGate_asks on hl⟩⟩
  case lost =>
    exact ⟨_, if_neg (not_not_intro on), rfl, (f_hostState ..).trans (cacheLost_off 4),
      congrArg HostSt.cacheEn ((hostState_host 5).trans (cacheLost_host 4))⟩
  case commit => exact ⟨_, execHdmCommit_eq size memEnable, rfl, rfl, memStat_shows, rfl, committed_only ..⟩
  case unmapped => exact ⟨execCxlmemRead_none (hostLine_none h), execCxlmemWrite_none (hostLine_none h)⟩
  case mapped =>
    have mapped := hostLine_mapped hdm memEn up cxl lo hi
    dsimp only
    generalize (hpa - base) / 64 = line at mapped ⊢
    intro ready
    refine ⟨fun cache h => ?plain, fun new room => ?enters, fun old rest new sf full => ?full, fun bytes mask wb len => ?write⟩
    case plain =>
      refine ⟨_, execCxlmemRead_ready mapped ready, ?_⟩
      rw [memServe_reads (s := s.requested (stackOf (64 * line))) h]
      exact ⟨hostRead_outs _, hostRead_only _ (by decide) (by decide)⟩
    case enters =>
      refine ⟨_, execCxlmemRead_ready mapped ready, ?_⟩
      rw [memServe_enters (s := s.requested (stackOf (64 * line))) new room]
      obtain ⟨host, outs, used⟩ := setSf_shows (s := (s.requested (stackOf (64 * line))).hostRead line) (s.host.sf ++ [line])
      refine ⟨outs.trans (hostRead_outs _), congrArg HostSt.sf host, used.trans ?_,
        setSf_only _ (by simp) (by decide) (hostRead_only _ (by decide) (by decide))⟩
      rw [List.length_append, List.length_singleton, Nat.mod_eq_of_lt (by omega)]
    case full =>
      refine ⟨_, execCxlmemRead_ready mapped ready, ?_⟩
      rw [memServe_full (s := s.requested (stackOf (64 * line))) new sf full]
      obtain ⟨kept, wait, only⟩ := sendBi_keeps (fs := []) (ps := [.outs, .fsRest, .host]) old (by decide) (by decide)
        (sfWaits_only (line := line) (by decide) (.requested (k := stackOf (64 * line)) (by decide) (.refl (s := s))))
      exact ⟨wait, kept, fun free => sendBi_asks (s := (s.requested (stackOf (64 * line))).sfWaits line) free, only⟩
    case write =>
      refine ⟨_, execCxlmemWrite_ready mapped ready len, ?_⟩
      generalize ht : (s.requested (stackOf (64 * line))).memServe ⟨line, false, some (bytes, mask, wb)⟩ = t
      obtain ⟨outs, -, sf⟩ := memServe_written ht.symm
      obtain ⟨inside, beside, poison⟩ := memServe_store len ht.symm
      exact ⟨outs, inside, beside, poison, sf, ht ▸ memServe_write_only (.requested (by decide) .refl)⟩
  case response =>
    intro u
    have hu : u = s.lineFreed line := rfl
    clear_value u
    have none := execBiResponse_none (s := s) (line := line) bi hu
    refine ⟨hu ▸ lineFreed_used, none, fun l rest wait room => ?_⟩
    exact execBiResponse_next (s := s) (line := line) bi hu wait room
  case timeout =>
    obtain ⟨counted, only⟩ := biLate_counted (s := s) (line := line)
    refine ⟨_, execBiTimeout_due due, fun b hb hl rt late => ?_, counted, only⟩
    rw [count_host]
    exact biLate_gives hb hl rt late
  case read =>
    refine ⟨fun h failed => ?done, fun k asked due => ?timedOut⟩
    case done =>
      have length := length_lineData (s.readLost line failed) len
      exact ⟨_, execCacheReadDone_taken h len failed,
        ⟨fun i hi => (hostCame_line length hi).trans (lineData_getD _ len hi), fun p got => execCacheReadDone_captured h len failed got⟩,
        fun a ha => hostCame_beside length ha, askedAt_hostCame _, hostCame_only _⟩
    case timedOut =>
      have length : (lineData true []).length = 64 := rfl
      exact ⟨_, execCacheReadTimeout_due asked due, fun i hi => (hostCame_line length hi).trans (lineData_lost hi),
        (askedAt_hostCame _ line).trans (if_pos rfl), hostCame_only _⟩
end
